-- ==== Sys2Proof/Word.lean ====
section
/-! DEFINITION. Words, bit fields, and tables held as sorted association lists in one canonical form. -/

namespace Sys2Proof

/-- A byte. -/
abbrev Byte := BitVec 8

/-- A table from numbers to values. Keys rise strictly; an entry equal to the table's default is not listed. -/
abbrev Tab (α : Type) := List (Nat × α)

end Sys2Proof
end

