-- ==== Sys2Proof/Machine/Fields.lean ====
section
/-! DEFINITION. The register map of the spec: every register of the register tables (its place in the address map R43), and
every field of it (bit range, reset value, access code R12, effect class R13). -/

namespace Sys2Proof.Machine

/-- The units of R16 that hold registers, and the module identity block. -/
inductive UnitId where
  | fab
  | ppl
  | sch
  | oiu
  | vce
  | meu
  | efu
  | psw
  | gse
  | clu
  | blu
  | lgs
  | alk
  | hpu
  | ntu
  | sec
  | dse
  | bcu
  | cgu
  | upd
  | id
  deriving DecidableEq, Repr

/-- The access codes of R12 (no field of the tables is W1S). -/
inductive Access where
  | ro | rw | w1c | wo
  deriving DecidableEq, Repr

/-- The effect classes of R13; a Boundary class carries its kind of boundary, `none` stands for the dash of read-only fields. -/
inductive Effect where
  | none | now | idleOnly | sample | frame | pilotPeriod | message | session
  deriving DecidableEq, Repr

/-- Every register of the register tables, under the spec's name (index letters dropped). -/
inductive Reg where
  | FAB_STATUS | FAB_FROZEN | FAB_RELEASE | FAB_VCOUNT | FAB_VREC0 | FAB_VREC1
  | FAB_VREC2 | FAB_VREC3 | FAB_VPOP | FAB_TAGS | FAB_DECERR | PPL_STATUS
  | PPL_CMD | PPL_PLANID | PPL_PLANVER | PPL_SAFECV | PPL_LEGALCV | PPL_STGVER
  | PPL_STGSAFECV | PPL_WAIT | PPL_SECTCRC | SCH_STATUS | SCH_SNAP | SCH_SEL
  | SCH_MARGIN | SCH_MISSES | SCH_REFUSALS | SCH_OPEN | OIU_STATUS | OIU_SNAP
  | OIU_CPCTL | OIU_CPDUTY | OIU_CPSTATE | OIU_CPMEAS | OIU_PPCS | OIU_LOCK
  | OIU_TIMER | OIU_TEMP | OIU_CONTACT | OIU_COUNT | VCE_STATUS | VCE_SNAP
  | VCE_CTL | VCE_LANE | VCE_OLINK | VCE_OSVC | VCE_ORX | VCE_OERR
  | VCE_OCMD | VCE_OCFG | MEU_STATUS | MEU_SNAP | MEU_CTL | MEU_CALCV
  | MEU_CALSEQ | MEU_CHSTAT | MEU_CHSAMP | MEU_CHRMS | MEU_CHPEAK | MEU_CHENV
  | MEU_CHFREQ | MEU_CHCTL | MEU_CHBANK | MEU_CHDELAY | MEU_CHGAIN | MEU_CHOFFS
  | MEU_CHINT | MEU_ESTAT | MEU_EPWR | MEU_EQPWR | MEU_EREG_L | MEU_EREG_H
  | MEU_SESS_L | MEU_SESS_H | EFU_STATUS | EFU_SNAP | EFU_RCMSTAT | EFU_RCMVAL
  | EFU_RCMCTL | EFU_RCMSCALE | EFU_RCMCNT | EFU_IMDSTAT | EFU_IMDRISO | EFU_IMDPOLE
  | EFU_IMDCTL | EFU_IMDCNT | PSW_STATUS | PSW_SNAP | PSW_BANKV | PSW_BANKS
  | PSW_BANKCTL | PSW_TRIPRB | PSW_PERMIT | PSW_OUT | PSW_CHSTAT | PSW_CHCTL
  | PSW_CHDUTY | PSW_CHFLT | PSW_CHCNT | GSE_STATUS | GSE_SEQ | GSE_CV
  | GSE_CVCONF | GSE_SI | GSE_SO | GSE_PERMIT | GSE_FUNC | GSE_POS
  | GSE_DIAG | GSE_COUNT | CLU_STATUS | CLU_SNAP | CLU_ANTCTL | CLU_ANTSTAT
  | CLU_CARD_L | CLU_CARD_M | CLU_CARD_H | CLU_TGATE | CLU_TSTATE | CLU_TCFG
  | CLU_TPWD | CLU_TKEY | CLU_TCMD | CLU_TCOUNT | BLU_STATUS | BLU_SNAP
  | BLU_TIME | BLU_WOFF_L | BLU_WOFF_H | BLU_HWM_L | BLU_HWM_H | BLU_WSET_L
  | BLU_WSET_H | BLU_WCMD | BLU_TSWTIME_L | BLU_TSWTIME_H | BLU_TSWCTL | BLU_TSWSTAT
  | BLU_TAMPCFG | BLU_TAMPER | BLU_PFCNT | BLU_ESTAT | BLU_ESESS | BLU_ESCOST
  | BLU_IVNO | BLU_IVSTART | BLU_IVEND | BLU_IVE_L | BLU_IVE_H | BLU_TREG_L
  | BLU_TREG_H | BLU_SREG_L | BLU_SREG_H | BLU_MD | BLU_MDT | LGS_STATUS
  | LGS_SNAP | LGS_NEXTSEQ_L | LGS_NEXTSEQ_H | LGS_ACKSEQ_L | LGS_ACKSEQ_H | LGS_RETCFG
  | LGS_PAGE | LGS_PAGESTAT | LGS_COUNT | LGS_PFSTAT | LGS_RFILL | LGS_RHEAD
  | LGS_ROLD_L | LGS_ROLD_H | ALK_STATUS | ALK_SNAP | ALK_CFG | ALK_CTL
  | ALK_ROUND | ALK_ROUNDT | ALK_NSTAT | ALK_NCNT | ALK_NLINK | ALK_NVER
  | HPU_IDENT | HPU_STATUS | HPU_SNAP | HPU_SPICFG | HPU_WMARK | HPU_FIFOSTAT
  | HPU_COUNT | NTU_STATUS | NTU_SNAP | NTU_PTP | NTU_TIME_L | NTU_TIME_H
  | NTU_TIME_NS | NTU_FRC | NTU_OFFSET | NTU_CMP | NTU_CMPCTL | NTU_PORT
  | NTU_CAN | NTU_MB | SEC_STATUS | SEC_SNAP | SEC_LC | SEC_SCNEXT
  | SEC_QUEUE | SEC_REMASK | SEC_COUNT | SEC_SLOTSEL | SEC_SLOTATTR | SEC_SLOTPEND
  | SEC_SLOTID_L | SEC_SLOTID_H | DSE_STATUS | DSE_SNAP | DSE_CTL | DSE_LNMASK
  | DSE_VMEAS | DSE_LNSTAT | DSE_LNSEQ | DSE_SSEL | DSE_STRESSV | DSE_COUNT
  | BCU_STATUS | BCU_SNAP | BCU_SUPPLY | BCU_VBAT | BCU_HOLDCAP | BCU_PFCFG
  | BCU_RSTCAUSE | BCU_RSTCMD | BCU_WDT | BCU_GHCTL | BCU_GHSTAT | BCU_GHOUT
  | BCU_LTIME_L | BCU_LTIME_H | BCU_COUNT | CGU_STATUS | CGU_CFG | CGU_CLKEN
  | CGU_FCCTL | CGU_FCRES | UPD_STATUS | UPD_SNAP | UPD_CMD | UPD_RESULT
  | UPD_UPDID | UPD_ACTTIME_L | UPD_ACTTIME_H | UPD_PROGRESS | UPD_TRIAL | UPD_PSEL
  | UPD_PVER | UPD_PCTR | UPD_COUNT | ID_SERIAL | ID_LIFE | ID_RUNTIME
  | ID_TCASE | ID_FLASH
  deriving DecidableEq, Repr

/-- Every field of every register, as REGISTER_FIELD; the _L, _M and _H words of a wide quantity (R6) are named once. -/
inductive Fld where
  | FAB_STATUS_ESCAL | FAB_STATUS_VOVF | FAB_STATUS_CFGVIOL | FAB_FROZEN_FROZEN | FAB_RELEASE_RELEASE
  | FAB_VCOUNT_VTOTAL | FAB_VCOUNT_VPEND | FAB_VREC0_ACCESS | FAB_VREC0_TARGET | FAB_VREC0_MASTER
  | FAB_VREC1_ADDR | FAB_VREC2_TIME_L | FAB_VREC3_TIME_H | FAB_VPOP_POP | FAB_TAGS_PEAK
  | FAB_TAGS_INFLIGHT | FAB_DECERR_DECERR | PPL_STATUS_REJECT | PPL_STATUS_STATE | PPL_STATUS_CFGVIOL
  | PPL_CMD_CMD | PPL_PLANID_PLANID | PPL_PLANVER_PLANVER | PPL_SAFECV_SAFECV | PPL_LEGALCV_LEGALCV
  | PPL_STGVER_STGVER | PPL_STGSAFECV_STGSAFECV | PPL_WAIT_WAIT | PPL_SECTCRC_CRC | SCH_STATUS_REFUSED
  | SCH_STATUS_MISS | SCH_STATUS_CFGVIOL | SCH_SNAP_SNAP | SCH_SEL_STREAM | SCH_MARGIN_MARGIN
  | SCH_MISSES_SMISS | SCH_MISSES_TMISS | SCH_REFUSALS_LAST | SCH_REFUSALS_COUNT | SCH_OPEN_OPEN
  | SCH_OPEN_TOTAL | OIU_STATUS_UNAVAIL | OIU_STATUS_WELD | OIU_STATUS_LOCKF | OIU_STATUS_TEMPF
  | OIU_STATUS_DIODE | OIU_STATUS_PPF | OIU_STATUS_CUT | OIU_STATUS_DERATE | OIU_STATUS_CFGVIOL
  | OIU_SNAP_SNAP | OIU_CPCTL_CSEN | OIU_CPCTL_DALLOW | OIU_CPCTL_DMODE | OIU_CPCTL_GEN
  | OIU_CPDUTY_DUTY | OIU_CPDUTY_ILIM | OIU_CPSTATE_ICODE | OIU_CPSTATE_DUTYOUT | OIU_CPSTATE_PEND
  | OIU_CPSTATE_STATE | OIU_CPMEAS_VHI | OIU_CPMEAS_VLO | OIU_PPCS_RES | OIU_PPCS_RATING
  | OIU_PPCS_CODE | OIU_LOCK_TRIES | OIU_LOCK_LSTATE | OIU_LOCK_LKFB | OIU_LOCK_UNLOCK
  | OIU_LOCK_LOCK | OIU_TIMER_C1MAX | OIU_TIMER_LKPULSE | OIU_TIMER_LKCONF | OIU_TIMER_WELDT
  | OIU_TEMP_TSB | OIU_TEMP_TSA | OIU_CONTACT_MISSING | OIU_CONTACT_ZREQ | OIU_CONTACT_CFB
  | OIU_CONTACT_CMD | OIU_CONTACT_CLOSE_EN | OIU_COUNT_STCHG | OIU_COUNT_REJECT | VCE_STATUS_RXFULL
  | VCE_STATUS_SLACAMB | VCE_STATUS_OFFLOAD | VCE_STATUS_CFGVIOL | VCE_SNAP_SNAP | VCE_CTL_SLACMARG
  | VCE_LANE_PPDU | VCE_LANE_ON | VCE_LANE_BOUND | VCE_OLINK_ATTEN | VCE_OLINK_GEN
  | VCE_OLINK_MEDIUM | VCE_OLINK_LSTATE | VCE_OSVC_DYN | VCE_OSVC_TLS | VCE_OSVC_AUTH
  | VCE_OSVC_SVC | VCE_ORX_RXMSG | VCE_ORX_RXPEND | VCE_OERR_FECERR | VCE_OERR_SLACTRY
  | VCE_OERR_LOOPRSP | VCE_OCMD_RESULT | VCE_OCMD_CMD | VCE_OCFG_TXATT | VCE_OCFG_FWD
  | MEU_STATUS_CKPTR | MEU_STATUS_BANK | MEU_STATUS_INTSAT | MEU_STATUS_ZXTO | MEU_STATUS_NEARFS
  | MEU_STATUS_MODF | MEU_STATUS_CFGVIOL | MEU_SNAP_BUSY | MEU_SNAP_SNAP | MEU_CTL_BANKSEL
  | MEU_CALCV_CALCV | MEU_CALSEQ_CALSEQ | MEU_CHSTAT_ELEM | MEU_CHSTAT_QTY | MEU_CHSTAT_RATE
  | MEU_CHSTAT_PLSREJ | MEU_CHSTAT_INTSAT | MEU_CHSTAT_NEARFS | MEU_CHSTAT_ZXTO | MEU_CHSTAT_MODF
  | MEU_CHSAMP_SAMPLE | MEU_CHRMS_RMS | MEU_CHPEAK_PEAK | MEU_CHENV_ENV | MEU_CHFREQ_FREQ
  | MEU_CHCTL_PKCLR | MEU_CHCTL_ENVTC | MEU_CHCTL_RMSCYC | MEU_CHCTL_ZXTO | MEU_CHBANK_MALEN1
  | MEU_CHBANK_MALEN0 | MEU_CHDELAY_DELAY1 | MEU_CHDELAY_DELAY0 | MEU_CHGAIN_GAIN | MEU_CHOFFS_OFFS
  | MEU_CHINT_ID | MEU_CHINT_RSHIFT | MEU_CHINT_INTK | MEU_ESTAT_FAULTT | MEU_ESTAT_QUAD
  | MEU_ESTAT_SESS | MEU_ESTAT_ZXTO | MEU_ESTAT_FAULT | MEU_ESTAT_DC | MEU_EPWR_P
  | MEU_EQPWR_Q | MEU_EREG_L | MEU_EREG_H | MEU_SESS_L | MEU_SESS_H
  | EFU_STATUS_IMDF | EFU_STATUS_IWARN | EFU_STATUS_IALARM | EFU_STATUS_LOCK | EFU_STATUS_TRIP
  | EFU_STATUS_CFGVIOL | EFU_SNAP_SNAP | EFU_RCMSTAT_OUTLET | EFU_RCMSTAT_BAND | EFU_RCMSTAT_TSTATE
  | EFU_RCMSTAT_TSTEP | EFU_RCMSTAT_LOCKOUT | EFU_RCMSTAT_TRIP | EFU_RCMVAL_AC | EFU_RCMVAL_DC
  | EFU_RCMCTL_TESTN | EFU_RCMCTL_CAL | EFU_RCMCTL_LOCKCLR | EFU_RCMCTL_TRIPCLR | EFU_RCMCTL_TEST
  | EFU_RCMSCALE_SCALE | EFU_RCMCNT_TRIPS | EFU_RCMCNT_TESTS | EFU_IMDSTAT_OUTA | EFU_IMDSTAT_OUTB
  | EFU_IMDSTAT_LEVEL | EFU_IMDSTAT_CCRES | EFU_IMDSTAT_INJ | EFU_IMDSTAT_LOCKOUT | EFU_IMDSTAT_TRIP
  | EFU_IMDRISO_CCRISO | EFU_IMDRISO_RISO | EFU_IMDPOLE_VNEG | EFU_IMDPOLE_VPOS | EFU_IMDCTL_IMDHALF
  | EFU_IMDCTL_LOCKCLR | EFU_IMDCTL_TEST | EFU_IMDCNT_ALARMS | EFU_IMDCNT_CHECKS | PSW_STATUS_BANKOC
  | PSW_STATUS_BANKUV | PSW_STATUS_LATCH | PSW_STATUS_OL | PSW_STATUS_OT | PSW_STATUS_OC
  | PSW_STATUS_SC | PSW_STATUS_CFGVIOL | PSW_SNAP_SNAP | PSW_BANKV_VMEAN | PSW_BANKV_VNOW
  | PSW_BANKS_QUEUE | PSW_BANKS_BUSY | PSW_BANKS_HOLDER | PSW_BANKS_UV | PSW_BANKS_DROOP
  | PSW_BANKCTL_DROOP | PSW_TRIPRB_TRIP | PSW_PERMIT_PERMIT | PSW_OUT_OUT | PSW_CHSTAT_FUNC
  | PSW_CHSTAT_TRIES | PSW_CHSTAT_PHASE | PSW_CHSTAT_FROZEN | PSW_CHSTAT_COMPSAT | PSW_CHSTAT_OLNOW
  | PSW_CHSTAT_CMD | PSW_CHSTAT_PERMIT | PSW_CHSTAT_LATCH | PSW_CHCTL_LATCHCLR | PSW_CHCTL_PWMF
  | PSW_CHCTL_ON | PSW_CHDUTY_DOUT | PSW_CHDUTY_DUTY | PSW_CHFLT_OL | PSW_CHFLT_OT
  | PSW_CHFLT_OC | PSW_CHFLT_SC | PSW_CHCNT_FAULTS | PSW_CHCNT_STARTS | GSE_STATUS_STATE
  | GSE_STATUS_HOLD | GSE_STATUS_CVOK | GSE_STATUS_VSIOUV | GSE_STATUS_CFGVIOL | GSE_SEQ_SEQ
  | GSE_CV_CV | GSE_CVCONF_CVCONF | GSE_SI_INFLT | GSE_SI_IN | GSE_SO_EDM
  | GSE_SO_RB | GSE_SO_CMD | GSE_PERMIT_PERMIT | GSE_FUNC_FUNC | GSE_FUNC_CAUSE
  | GSE_FUNC_FDET | GSE_FUNC_UNLKOK | GSE_FUNC_MUTED | GSE_FUNC_STOPPING | GSE_FUNC_RSTREQ
  | GSE_FUNC_FFAULT | GSE_FUNC_DEMAND | GSE_FUNC_EN | GSE_POS_SPEED | GSE_POS_POS
  | GSE_DIAG_TESTAGE | GSE_DIAG_FCODE | GSE_COUNT_DEMANDS | GSE_COUNT_FAULTS | CLU_STATUS_LOCKOUT
  | CLU_STATUS_GATEOVR | CLU_STATUS_TAGREF | CLU_STATUS_AUTHF | CLU_STATUS_AFAULT | CLU_STATUS_MULTI
  | CLU_STATUS_CFGVIOL | CLU_SNAP_SNAP | CLU_ANTCTL_GUARD | CLU_ANTCTL_AFI | CLU_ANTCTL_POLL
  | CLU_ANTCTL_BRMAX | CLU_ANTCTL_ADM | CLU_ANTCTL_ANTEN | CLU_ANTSTAT_SLICES | CLU_ANTSTAT_NEXP
  | CLU_ANTSTAT_ROUNDS | CLU_ANTSTAT_TECH | CLU_ANTSTAT_AFAULT | CLU_ANTSTAT_CARDS | CLU_CARD_L
  | CLU_CARD_M | CLU_CARD_H_TECH | CLU_CARD_H_ULEN | CLU_CARD_H | CLU_TGATE_HOLDACK
  | CLU_TGATE_HOLD | CLU_TSTATE_TFAIL | CLU_TSTATE_LOCKED | CLU_TSTATE_JBUSY | CLU_TSTATE_RESOK
  | CLU_TSTATE_TSTATE | CLU_TSTATE_FIELD | CLU_TCFG_TAGEN | CLU_TCFG_AUTHEN | CLU_TCFG_PWDEN
  | CLU_TPWD_PWD | CLU_TKEY_KEY | CLU_TCMD_TFAILCLR | CLU_TCMD_LOADKEY | CLU_TCMD_LOADPWD
  | CLU_TCOUNT_WRITES | CLU_TCOUNT_READS | BLU_STATUS_SEALBRK | BLU_STATUS_TAMPER | BLU_STATUS_PF
  | BLU_STATUS_STEP | BLU_STATUS_SETBACK | BLU_STATUS_TINV | BLU_STATUS_TSWREF | BLU_STATUS_CFGVIOL
  | BLU_SNAP_BUSY | BLU_SNAP_SNAP | BLU_TIME_SYNCAGE | BLU_TIME_SRC | BLU_TIME_VALID
  | BLU_WOFF_L | BLU_WOFF_H | BLU_HWM_L | BLU_HWM_H | BLU_WSET_L
  | BLU_WSET_H | BLU_WCMD_APPLY | BLU_TSWTIME_L | BLU_TSWTIME_H | BLU_TSWCTL_GO
  | BLU_TSWCTL_CLRQ | BLU_TSWCTL_NOW | BLU_TSWCTL_TARIFF | BLU_TSWCTL_SCOPE | BLU_TSWSTAT_LASTREF
  | BLU_TSWSTAT_PEND | BLU_TAMPCFG_TPOL | BLU_TAMPCFG_TEN | BLU_TAMPER_COUNT | BLU_TAMPER_LOST
  | BLU_TAMPER_NOW | BLU_PFCNT_PFAILS | BLU_PFCNT_INTR | BLU_ESTAT_SCHED | BLU_ESTAT_TARIFF
  | BLU_ESTAT_SEAL | BLU_ESTAT_TAMP | BLU_ESTAT_PF | BLU_ESTAT_TINV | BLU_ESTAT_STEP
  | BLU_ESTAT_DEMAND | BLU_ESTAT_SESS | BLU_ESESS_SESSNO | BLU_ESCOST_COST | BLU_IVNO_IVNO
  | BLU_IVSTART_IVSTART | BLU_IVEND_IVEND | BLU_IVE_L | BLU_IVE_H | BLU_TREG_L
  | BLU_TREG_H | BLU_SREG_L | BLU_SREG_H | BLU_MD_MD | BLU_MDT_MDT
  | LGS_STATUS_LHWAIT | LGS_STATUS_RETLOW | LGS_STATUS_EARLY | LGS_STATUS_CRCERR | LGS_STATUS_DROP
  | LGS_STATUS_LHRES | LGS_STATUS_CFGVIOL | LGS_SNAP_SNAP | LGS_NEXTSEQ_L | LGS_NEXTSEQ_H
  | LGS_ACKSEQ_L | LGS_ACKSEQ_H | LGS_RETCFG_TICKMIN | LGS_RETCFG_RETDAYS | LGS_PAGE_REGION
  | LGS_PAGE_SLOT | LGS_PAGESTAT_BUSY | LGS_PAGESTAT_BADCRC | LGS_COUNT_EARLY | LGS_COUNT_DROPPED
  | LGS_PFSTAT_PFREC | LGS_PFSTAT_PFDONE | LGS_RFILL_FILL | LGS_RHEAD_HEAD | LGS_ROLD_L
  | LGS_ROLD_H_AGE | LGS_ROLD_H | ALK_STATUS_RLATE | ALK_STATUS_ROUTECHG | ALK_STATUS_NODELOST
  | ALK_STATUS_JOINREF | ALK_STATUS_QFULL | ALK_STATUS_RUNNING | ALK_STATUS_CFGVIOL | ALK_SNAP_SNAP
  | ALK_CFG_PASSES | ALK_CFG_MAXHOP | ALK_CFG_NODES | ALK_CFG_PORTS | ALK_CFG_SPAN
  | ALK_CFG_BAND | ALK_CTL_TXATT | ALK_CTL_RESTART | ALK_CTL_RUN | ALK_ROUND_SEQ
  | ALK_ROUND_PASSES | ALK_ROUND_REPOLLS | ALK_ROUND_FAILS | ALK_ROUNDT_MAXT | ALK_ROUNDT_LASTT
  | ALK_NSTAT_PARENT | ALK_NSTAT_HOP | ALK_NSTAT_COST | ALK_NSTAT_FIRST | ALK_NSTAT_W
  | ALK_NSTAT_STATE | ALK_NSTAT_RELAY | ALK_NSTAT_PORT | ALK_NCNT_FAILS | ALK_NCNT_REPOLLS
  | ALK_NLINK_SNRUP | ALK_NLINK_ERASE | ALK_NLINK_UPQ | ALK_NLINK_DNQ | ALK_NVER_VERSION
  | ALK_NVER_BANK | ALK_NVER_PEND | ALK_NVER_CONF | HPU_IDENT_DEVTYPE | HPU_STATUS_SPIERR
  | HPU_STATUS_BADHDR | HPU_STATUS_QDROP | HPU_STATUS_DNOVF | HPU_STATUS_FRST | HPU_STATUS_CFGVIOL
  | HPU_SNAP_SNAP | HPU_SPICFG_DNRST | HPU_SPICFG_UPRST | HPU_SPICFG_UPTO | HPU_SPICFG_DUMMY
  | HPU_WMARK_UPHI | HPU_WMARK_UPLO | HPU_WMARK_DNHI | HPU_WMARK_DNLO | HPU_FIFOSTAT_UPOCC
  | HPU_FIFOSTAT_DNOCC | HPU_COUNT_FRSTS | HPU_COUNT_DROPS | NTU_STATUS_CANOFF | NTU_STATUS_LINKCHG
  | NTU_STATUS_STEPPED | NTU_STATUS_HOLDOVER | NTU_STATUS_LOCKED | NTU_STATUS_CFGVIOL | NTU_SNAP_SNAP
  | NTU_PTP_RATE | NTU_PTP_DOMAIN | NTU_PTP_MPORT | NTU_PTP_STATE | NTU_TIME_L
  | NTU_TIME_H | NTU_TIME_NS_NS | NTU_FRC_FRC | NTU_OFFSET_OFFSET | NTU_CMP_TARGET
  | NTU_CMPCTL_FIRED | NTU_CMPCTL_MODE | NTU_CMPCTL_ARM | NTU_PORT_MAXRES | NTU_PORT_SPEED
  | NTU_PORT_LINK | NTU_CAN_TEC | NTU_CAN_REC | NTU_CAN_STATE | NTU_MB_MISSES
  | NTU_MB_EXC | NTU_MB_STATE | SEC_STATUS_FAIL | SEC_STATUS_DRBGF | SEC_STATUS_AUTHF
  | SEC_STATUS_PEND | SEC_STATUS_CFGVIOL | SEC_SNAP_SNAP | SEC_LC_RECOMM | SEC_LC_DBGOPEN
  | SEC_LC_STATE | SEC_SCNEXT_SCNEXT | SEC_QUEUE_PEAK | SEC_QUEUE_INQ | SEC_REMASK_REMASK
  | SEC_COUNT_AUTHFAIL | SEC_COUNT_OPERR | SEC_SLOTSEL_SLOT | SEC_SLOTATTR_ATTR | SEC_SLOTPEND_PATTR
  | SEC_SLOTID_L | SEC_SLOTID_H | DSE_STATUS_LEDGERF | DSE_STATUS_COMPSAT | DSE_STATUS_VFAULT
  | DSE_STATUS_PFSTOP | DSE_STATUS_BUSY | DSE_STATUS_STALE | DSE_STATUS_CFGVIOL | DSE_SNAP_SNAP
  | DSE_CTL_MODE | DSE_CTL_TEST | DSE_CTL_UPDATE | DSE_LNMASK_LNMASK | DSE_VMEAS_VDH
  | DSE_VMEAS_VDL | DSE_LNSTAT_OUTLET | DSE_LNSTAT_PEND | DSE_LNSTAT_MARK | DSE_LNSEQ_SESSNO
  | DSE_SSEL_GROUP | DSE_STRESSV_STRESS | DSE_COUNT_PFSTOPS | DSE_COUNT_UPDATES | BCU_STATUS_GHEXP
  | BCU_STATUS_GHOLD | BCU_STATUS_XT32F | BCU_STATUS_OVV | BCU_STATUS_DIP | BCU_STATUS_HUFAULT
  | BCU_STATUS_VBATLOW | BCU_STATUS_CFGVIOL | BCU_SNAP_SNAP | BCU_SUPPLY_VIN | BCU_SUPPLY_VHOLD
  | BCU_VBAT_SRC | BCU_VBAT_VBAT | BCU_HOLDCAP_CAP | BCU_PFCFG_PFRIDE | BCU_RSTCAUSE_CAUSE
  | BCU_RSTCMD_KEY | BCU_RSTCMD_INDEX | BCU_RSTCMD_UNIT | BCU_RSTCMD_CMD | BCU_WDT_KICK
  | BCU_WDT_WDTO | BCU_GHCTL_GUYHOLD | BCU_GHCTL_HEALTHY | BCU_GHCTL_TAKE | BCU_GHSTAT_UNHEALTHY
  | BCU_GHSTAT_ELAPSED | BCU_GHOUT_SHUT | BCU_LTIME_L | BCU_LTIME_H | BCU_COUNT_WARM
  | BCU_COUNT_COLD | CGU_STATUS_PLLF | CGU_STATUS_XTFAIL | CGU_STATUS_ONINT | CGU_STATUS_PLLOK
  | CGU_STATUS_XTOK | CGU_STATUS_FCBUSY | CGU_STATUS_CFGVIOL | CGU_CFG_MODCLK | CGU_CFG_PROVE
  | CGU_CLKEN_T1S | CGU_CLKEN_ETH | CGU_CLKEN_RS485 | CGU_CLKEN_CAN | CGU_CLKEN_SDC
  | CGU_CLKEN_USBH | CGU_CLKEN_HSP | CGU_CLKEN_DSE | CGU_CLKEN_ALK | CGU_CLKEN_CLU
  | CGU_FCCTL_START | CGU_FCCTL_WIN | CGU_FCCTL_REF | CGU_FCCTL_MEAS | CGU_FCRES_COUNT
  | UPD_STATUS_STATE | UPD_STATUS_MEDIA | UPD_STATUS_SETDUAL | UPD_STATUS_REFUSED | UPD_STATUS_CFGVIOL
  | UPD_SNAP_SNAP | UPD_CMD_CMD | UPD_RESULT_DETAIL | UPD_RESULT_REASON | UPD_UPDID_UPDID
  | UPD_ACTTIME_L | UPD_ACTTIME_H | UPD_PROGRESS_PART | UPD_PROGRESS_DONE | UPD_TRIAL_LEFT
  | UPD_PSEL_IMGID | UPD_PSEL_KIND | UPD_PSEL_UNIT | UPD_PVER_VERSION | UPD_PCTR_COUNTER
  | UPD_COUNT_FALLBACKS | UPD_COUNT_COMMITS | ID_SERIAL_SERIAL | ID_LIFE_EQH | ID_RUNTIME_HOURS
  | ID_TCASE_TMAX | ID_TCASE_TNOW | ID_FLASH_WEAR | ID_FLASH_SPARE | ID_FLASH_WRITTEN
  deriving DecidableEq, Repr

/-- Where a register stands: its unit; the base, stride, first number and count of its block (one per outlet, channel, element or
node); its offset in the block; the stride and count of an array inside the block. -/
structure RegLoc where
  unit : UnitId
  base : Nat
  stride : Nat
  first : Nat
  count : Nat
  off : Nat
  istride : Nat
  icount : Nat
  deriving DecidableEq, Repr

/-- What the register tables say of one field. -/
structure FldInfo where
  reg : Reg
  hi : Nat
  lo : Nat
  reset : Nat
  access : Access
  effect : Effect
  deriving DecidableEq, Repr

/-- The place of every register (R43 and the headings of the register tables). -/
def Reg.loc : Reg → RegLoc
  | .FAB_STATUS => ⟨.fab, 0x30000, 0x0, 0, 1, 0x0, 0x0, 1⟩
  | .FAB_FROZEN => ⟨.fab, 0x30000, 0x0, 0, 1, 0x4, 0x0, 1⟩
  | .FAB_RELEASE => ⟨.fab, 0x30000, 0x0, 0, 1, 0x8, 0x0, 1⟩
  | .FAB_VCOUNT => ⟨.fab, 0x30000, 0x0, 0, 1, 0xC, 0x0, 1⟩
  | .FAB_VREC0 => ⟨.fab, 0x30000, 0x0, 0, 1, 0x10, 0x0, 1⟩
  | .FAB_VREC1 => ⟨.fab, 0x30000, 0x0, 0, 1, 0x14, 0x0, 1⟩
  | .FAB_VREC2 => ⟨.fab, 0x30000, 0x0, 0, 1, 0x18, 0x0, 1⟩
  | .FAB_VREC3 => ⟨.fab, 0x30000, 0x0, 0, 1, 0x1C, 0x0, 1⟩
  | .FAB_VPOP => ⟨.fab, 0x30000, 0x0, 0, 1, 0x20, 0x0, 1⟩
  | .FAB_TAGS => ⟨.fab, 0x30000, 0x0, 0, 1, 0x24, 0x0, 1⟩
  | .FAB_DECERR => ⟨.fab, 0x30000, 0x0, 0, 1, 0x28, 0x0, 1⟩
  | .PPL_STATUS => ⟨.ppl, 0x40000, 0x0, 0, 1, 0x0, 0x0, 1⟩
  | .PPL_CMD => ⟨.ppl, 0x40000, 0x0, 0, 1, 0x4, 0x0, 1⟩
  | .PPL_PLANID => ⟨.ppl, 0x40000, 0x0, 0, 1, 0x8, 0x0, 1⟩
  | .PPL_PLANVER => ⟨.ppl, 0x40000, 0x0, 0, 1, 0xC, 0x0, 1⟩
  | .PPL_SAFECV => ⟨.ppl, 0x40000, 0x0, 0, 1, 0x10, 0x0, 1⟩
  | .PPL_LEGALCV => ⟨.ppl, 0x40000, 0x0, 0, 1, 0x14, 0x0, 1⟩
  | .PPL_STGVER => ⟨.ppl, 0x40000, 0x0, 0, 1, 0x18, 0x0, 1⟩
  | .PPL_STGSAFECV => ⟨.ppl, 0x40000, 0x0, 0, 1, 0x1C, 0x0, 1⟩
  | .PPL_WAIT => ⟨.ppl, 0x40000, 0x0, 0, 1, 0x20, 0x0, 1⟩
  | .PPL_SECTCRC => ⟨.ppl, 0x40000, 0x0, 0, 1, 0x40, 0x4, 12⟩
  | .SCH_STATUS => ⟨.sch, 0x50000, 0x0, 0, 1, 0x0, 0x0, 1⟩
  | .SCH_SNAP => ⟨.sch, 0x50000, 0x0, 0, 1, 0x4, 0x0, 1⟩
  | .SCH_SEL => ⟨.sch, 0x50000, 0x0, 0, 1, 0x8, 0x0, 1⟩
  | .SCH_MARGIN => ⟨.sch, 0x50000, 0x0, 0, 1, 0xC, 0x0, 1⟩
  | .SCH_MISSES => ⟨.sch, 0x50000, 0x0, 0, 1, 0x10, 0x0, 1⟩
  | .SCH_REFUSALS => ⟨.sch, 0x50000, 0x0, 0, 1, 0x14, 0x0, 1⟩
  | .SCH_OPEN => ⟨.sch, 0x50000, 0x0, 0, 1, 0x20, 0x4, 6⟩
  | .OIU_STATUS => ⟨.oiu, 0x100000, 0x1000, 0, 24, 0x0, 0x0, 1⟩
  | .OIU_SNAP => ⟨.oiu, 0x100000, 0x1000, 0, 24, 0x4, 0x0, 1⟩
  | .OIU_CPCTL => ⟨.oiu, 0x100000, 0x1000, 0, 24, 0x10, 0x0, 1⟩
  | .OIU_CPDUTY => ⟨.oiu, 0x100000, 0x1000, 0, 24, 0x14, 0x0, 1⟩
  | .OIU_CPSTATE => ⟨.oiu, 0x100000, 0x1000, 0, 24, 0x18, 0x0, 1⟩
  | .OIU_CPMEAS => ⟨.oiu, 0x100000, 0x1000, 0, 24, 0x1C, 0x0, 1⟩
  | .OIU_PPCS => ⟨.oiu, 0x100000, 0x1000, 0, 24, 0x20, 0x0, 1⟩
  | .OIU_LOCK => ⟨.oiu, 0x100000, 0x1000, 0, 24, 0x24, 0x0, 1⟩
  | .OIU_TIMER => ⟨.oiu, 0x100000, 0x1000, 0, 24, 0x28, 0x0, 1⟩
  | .OIU_TEMP => ⟨.oiu, 0x100000, 0x1000, 0, 24, 0x2C, 0x0, 1⟩
  | .OIU_CONTACT => ⟨.oiu, 0x100000, 0x1000, 0, 24, 0x30, 0x0, 1⟩
  | .OIU_COUNT => ⟨.oiu, 0x100000, 0x1000, 0, 24, 0x34, 0x0, 1⟩
  | .VCE_STATUS => ⟨.vce, 0x200000, 0x0, 0, 1, 0x0, 0x0, 1⟩
  | .VCE_SNAP => ⟨.vce, 0x200000, 0x0, 0, 1, 0x4, 0x0, 1⟩
  | .VCE_CTL => ⟨.vce, 0x200000, 0x0, 0, 1, 0x8, 0x0, 1⟩
  | .VCE_LANE => ⟨.vce, 0x200000, 0x0, 0, 1, 0x20, 0x4, 6⟩
  | .VCE_OLINK => ⟨.vce, 0x200000, 0x0, 0, 1, 0x100, 0x20, 24⟩
  | .VCE_OSVC => ⟨.vce, 0x200000, 0x0, 0, 1, 0x104, 0x20, 24⟩
  | .VCE_ORX => ⟨.vce, 0x200000, 0x0, 0, 1, 0x108, 0x20, 24⟩
  | .VCE_OERR => ⟨.vce, 0x200000, 0x0, 0, 1, 0x10C, 0x20, 24⟩
  | .VCE_OCMD => ⟨.vce, 0x200000, 0x0, 0, 1, 0x110, 0x20, 24⟩
  | .VCE_OCFG => ⟨.vce, 0x200000, 0x0, 0, 1, 0x114, 0x20, 24⟩
  | .MEU_STATUS => ⟨.meu, 0x300000, 0x0, 0, 1, 0x0, 0x0, 1⟩
  | .MEU_SNAP => ⟨.meu, 0x300000, 0x0, 0, 1, 0x4, 0x0, 1⟩
  | .MEU_CTL => ⟨.meu, 0x300000, 0x0, 0, 1, 0x8, 0x0, 1⟩
  | .MEU_CALCV => ⟨.meu, 0x300000, 0x0, 0, 1, 0xC, 0x0, 1⟩
  | .MEU_CALSEQ => ⟨.meu, 0x300000, 0x0, 0, 1, 0x10, 0x0, 1⟩
  | .MEU_CHSTAT => ⟨.meu, 0x301000, 0x40, 0, 64, 0x0, 0x0, 1⟩
  | .MEU_CHSAMP => ⟨.meu, 0x301000, 0x40, 0, 64, 0x4, 0x0, 1⟩
  | .MEU_CHRMS => ⟨.meu, 0x301000, 0x40, 0, 64, 0x8, 0x0, 1⟩
  | .MEU_CHPEAK => ⟨.meu, 0x301000, 0x40, 0, 64, 0xC, 0x0, 1⟩
  | .MEU_CHENV => ⟨.meu, 0x301000, 0x40, 0, 64, 0x10, 0x0, 1⟩
  | .MEU_CHFREQ => ⟨.meu, 0x301000, 0x40, 0, 64, 0x14, 0x0, 1⟩
  | .MEU_CHCTL => ⟨.meu, 0x301000, 0x40, 0, 64, 0x18, 0x0, 1⟩
  | .MEU_CHBANK => ⟨.meu, 0x301000, 0x40, 0, 64, 0x1C, 0x0, 1⟩
  | .MEU_CHDELAY => ⟨.meu, 0x301000, 0x40, 0, 64, 0x20, 0x0, 1⟩
  | .MEU_CHGAIN => ⟨.meu, 0x301000, 0x40, 0, 64, 0x24, 0x0, 1⟩
  | .MEU_CHOFFS => ⟨.meu, 0x301000, 0x40, 0, 64, 0x28, 0x0, 1⟩
  | .MEU_CHINT => ⟨.meu, 0x301000, 0x40, 0, 64, 0x2C, 0x0, 1⟩
  | .MEU_ESTAT => ⟨.meu, 0x304000, 0x100, 0, 25, 0x0, 0x0, 1⟩
  | .MEU_EPWR => ⟨.meu, 0x304000, 0x100, 0, 25, 0x4, 0x0, 1⟩
  | .MEU_EQPWR => ⟨.meu, 0x304000, 0x100, 0, 25, 0x8, 0x0, 1⟩
  | .MEU_EREG_L => ⟨.meu, 0x304000, 0x100, 0, 25, 0xC, 0x8, 9⟩
  | .MEU_EREG_H => ⟨.meu, 0x304000, 0x100, 0, 25, 0x10, 0x8, 9⟩
  | .MEU_SESS_L => ⟨.meu, 0x304000, 0x100, 0, 24, 0x60, 0x8, 6⟩
  | .MEU_SESS_H => ⟨.meu, 0x304000, 0x100, 0, 24, 0x64, 0x8, 6⟩
  | .EFU_STATUS => ⟨.efu, 0x380000, 0x0, 0, 1, 0x0, 0x0, 1⟩
  | .EFU_SNAP => ⟨.efu, 0x380000, 0x0, 0, 1, 0x4, 0x0, 1⟩
  | .EFU_RCMSTAT => ⟨.efu, 0x381000, 0x20, 0, 24, 0x0, 0x0, 1⟩
  | .EFU_RCMVAL => ⟨.efu, 0x381000, 0x20, 0, 24, 0x4, 0x0, 1⟩
  | .EFU_RCMCTL => ⟨.efu, 0x381000, 0x20, 0, 24, 0x8, 0x0, 1⟩
  | .EFU_RCMSCALE => ⟨.efu, 0x381000, 0x20, 0, 24, 0xC, 0x0, 1⟩
  | .EFU_RCMCNT => ⟨.efu, 0x381000, 0x20, 0, 24, 0x10, 0x0, 1⟩
  | .EFU_IMDSTAT => ⟨.efu, 0x382000, 0x20, 0, 12, 0x0, 0x0, 1⟩
  | .EFU_IMDRISO => ⟨.efu, 0x382000, 0x20, 0, 12, 0x4, 0x0, 1⟩
  | .EFU_IMDPOLE => ⟨.efu, 0x382000, 0x20, 0, 12, 0x8, 0x0, 1⟩
  | .EFU_IMDCTL => ⟨.efu, 0x382000, 0x20, 0, 12, 0xC, 0x0, 1⟩
  | .EFU_IMDCNT => ⟨.efu, 0x382000, 0x20, 0, 12, 0x10, 0x0, 1⟩
  | .PSW_STATUS => ⟨.psw, 0x500000, 0x0, 0, 1, 0x0, 0x0, 1⟩
  | .PSW_SNAP => ⟨.psw, 0x500000, 0x0, 0, 1, 0x4, 0x0, 1⟩
  | .PSW_BANKV => ⟨.psw, 0x500000, 0x0, 0, 1, 0x10, 0x4, 4⟩
  | .PSW_BANKS => ⟨.psw, 0x500000, 0x0, 0, 1, 0x20, 0x4, 4⟩
  | .PSW_BANKCTL => ⟨.psw, 0x500000, 0x0, 0, 1, 0x30, 0x4, 4⟩
  | .PSW_TRIPRB => ⟨.psw, 0x500000, 0x0, 0, 1, 0x40, 0x0, 1⟩
  | .PSW_PERMIT => ⟨.psw, 0x500000, 0x0, 0, 1, 0x44, 0x0, 1⟩
  | .PSW_OUT => ⟨.psw, 0x500000, 0x0, 0, 1, 0x48, 0x0, 1⟩
  | .PSW_CHSTAT => ⟨.psw, 0x501000, 0x20, 0, 32, 0x0, 0x0, 1⟩
  | .PSW_CHCTL => ⟨.psw, 0x501000, 0x20, 0, 32, 0x4, 0x0, 1⟩
  | .PSW_CHDUTY => ⟨.psw, 0x501000, 0x20, 0, 32, 0x8, 0x0, 1⟩
  | .PSW_CHFLT => ⟨.psw, 0x501000, 0x20, 0, 32, 0xC, 0x0, 1⟩
  | .PSW_CHCNT => ⟨.psw, 0x501000, 0x20, 0, 32, 0x10, 0x0, 1⟩
  | .GSE_STATUS => ⟨.gse, 0x580000, 0x0, 0, 1, 0x0, 0x0, 1⟩
  | .GSE_SEQ => ⟨.gse, 0x580000, 0x0, 0, 1, 0x4, 0x0, 1⟩
  | .GSE_CV => ⟨.gse, 0x580000, 0x0, 0, 1, 0x8, 0x0, 1⟩
  | .GSE_CVCONF => ⟨.gse, 0x580000, 0x0, 0, 1, 0xC, 0x0, 1⟩
  | .GSE_SI => ⟨.gse, 0x580000, 0x0, 0, 1, 0x10, 0x0, 1⟩
  | .GSE_SO => ⟨.gse, 0x580000, 0x0, 0, 1, 0x14, 0x0, 1⟩
  | .GSE_PERMIT => ⟨.gse, 0x580000, 0x0, 0, 1, 0x18, 0x0, 1⟩
  | .GSE_FUNC => ⟨.gse, 0x580000, 0x0, 0, 1, 0x20, 0x4, 16⟩
  | .GSE_POS => ⟨.gse, 0x580000, 0x0, 0, 1, 0x60, 0x0, 1⟩
  | .GSE_DIAG => ⟨.gse, 0x580000, 0x0, 0, 1, 0x64, 0x0, 1⟩
  | .GSE_COUNT => ⟨.gse, 0x580000, 0x0, 0, 1, 0x68, 0x0, 1⟩
  | .CLU_STATUS => ⟨.clu, 0x600000, 0x0, 0, 1, 0x0, 0x0, 1⟩
  | .CLU_SNAP => ⟨.clu, 0x600000, 0x0, 0, 1, 0x4, 0x0, 1⟩
  | .CLU_ANTCTL => ⟨.clu, 0x600000, 0x0, 0, 1, 0x10, 0x4, 4⟩
  | .CLU_ANTSTAT => ⟨.clu, 0x600000, 0x0, 0, 1, 0x20, 0x4, 4⟩
  | .CLU_CARD_L => ⟨.clu, 0x600000, 0x0, 0, 1, 0x40, 0x10, 4⟩
  | .CLU_CARD_M => ⟨.clu, 0x600000, 0x0, 0, 1, 0x44, 0x10, 4⟩
  | .CLU_CARD_H => ⟨.clu, 0x600000, 0x0, 0, 1, 0x48, 0x10, 4⟩
  | .CLU_TGATE => ⟨.clu, 0x600000, 0x0, 0, 1, 0x80, 0x0, 1⟩
  | .CLU_TSTATE => ⟨.clu, 0x600000, 0x0, 0, 1, 0x84, 0x0, 1⟩
  | .CLU_TCFG => ⟨.clu, 0x600000, 0x0, 0, 1, 0x88, 0x0, 1⟩
  | .CLU_TPWD => ⟨.clu, 0x600000, 0x0, 0, 1, 0x8C, 0x0, 1⟩
  | .CLU_TKEY => ⟨.clu, 0x600000, 0x0, 0, 1, 0x90, 0x4, 4⟩
  | .CLU_TCMD => ⟨.clu, 0x600000, 0x0, 0, 1, 0xA0, 0x0, 1⟩
  | .CLU_TCOUNT => ⟨.clu, 0x600000, 0x0, 0, 1, 0xA4, 0x0, 1⟩
  | .BLU_STATUS => ⟨.blu, 0x400000, 0x0, 0, 1, 0x0, 0x0, 1⟩
  | .BLU_SNAP => ⟨.blu, 0x400000, 0x0, 0, 1, 0x4, 0x0, 1⟩
  | .BLU_TIME => ⟨.blu, 0x400000, 0x0, 0, 1, 0x8, 0x0, 1⟩
  | .BLU_WOFF_L => ⟨.blu, 0x400000, 0x0, 0, 1, 0x10, 0x0, 1⟩
  | .BLU_WOFF_H => ⟨.blu, 0x400000, 0x0, 0, 1, 0x14, 0x0, 1⟩
  | .BLU_HWM_L => ⟨.blu, 0x400000, 0x0, 0, 1, 0x18, 0x0, 1⟩
  | .BLU_HWM_H => ⟨.blu, 0x400000, 0x0, 0, 1, 0x1C, 0x0, 1⟩
  | .BLU_WSET_L => ⟨.blu, 0x400000, 0x0, 0, 1, 0x20, 0x0, 1⟩
  | .BLU_WSET_H => ⟨.blu, 0x400000, 0x0, 0, 1, 0x24, 0x0, 1⟩
  | .BLU_WCMD => ⟨.blu, 0x400000, 0x0, 0, 1, 0x28, 0x0, 1⟩
  | .BLU_TSWTIME_L => ⟨.blu, 0x400000, 0x0, 0, 1, 0x30, 0x0, 1⟩
  | .BLU_TSWTIME_H => ⟨.blu, 0x400000, 0x0, 0, 1, 0x34, 0x0, 1⟩
  | .BLU_TSWCTL => ⟨.blu, 0x400000, 0x0, 0, 1, 0x38, 0x0, 1⟩
  | .BLU_TSWSTAT => ⟨.blu, 0x400000, 0x0, 0, 1, 0x3C, 0x0, 1⟩
  | .BLU_TAMPCFG => ⟨.blu, 0x400000, 0x0, 0, 1, 0x40, 0x0, 1⟩
  | .BLU_TAMPER => ⟨.blu, 0x400000, 0x0, 0, 1, 0x44, 0x0, 1⟩
  | .BLU_PFCNT => ⟨.blu, 0x400000, 0x0, 0, 1, 0x48, 0x0, 1⟩
  | .BLU_ESTAT => ⟨.blu, 0x401000, 0x400, 0, 25, 0x0, 0x0, 1⟩
  | .BLU_ESESS => ⟨.blu, 0x401000, 0x400, 0, 25, 0x4, 0x0, 1⟩
  | .BLU_ESCOST => ⟨.blu, 0x401000, 0x400, 0, 25, 0x8, 0x0, 1⟩
  | .BLU_IVNO => ⟨.blu, 0x401000, 0x400, 0, 25, 0xC, 0x0, 1⟩
  | .BLU_IVSTART => ⟨.blu, 0x401000, 0x400, 0, 25, 0x10, 0x0, 1⟩
  | .BLU_IVEND => ⟨.blu, 0x401000, 0x400, 0, 25, 0x14, 0x0, 1⟩
  | .BLU_IVE_L => ⟨.blu, 0x401000, 0x400, 0, 25, 0x18, 0x8, 2⟩
  | .BLU_IVE_H => ⟨.blu, 0x401000, 0x400, 0, 25, 0x1C, 0x8, 2⟩
  | .BLU_TREG_L => ⟨.blu, 0x401000, 0x400, 0, 25, 0x40, 0x8, 34⟩
  | .BLU_TREG_H => ⟨.blu, 0x401000, 0x400, 0, 25, 0x44, 0x8, 34⟩
  | .BLU_SREG_L => ⟨.blu, 0x401000, 0x400, 0, 24, 0x160, 0x8, 34⟩
  | .BLU_SREG_H => ⟨.blu, 0x401000, 0x400, 0, 24, 0x164, 0x8, 34⟩
  | .BLU_MD => ⟨.blu, 0x401000, 0x400, 0, 25, 0x280, 0x8, 34⟩
  | .BLU_MDT => ⟨.blu, 0x401000, 0x400, 0, 25, 0x284, 0x8, 34⟩
  | .LGS_STATUS => ⟨.lgs, 0x480000, 0x0, 0, 1, 0x0, 0x0, 1⟩
  | .LGS_SNAP => ⟨.lgs, 0x480000, 0x0, 0, 1, 0x4, 0x0, 1⟩
  | .LGS_NEXTSEQ_L => ⟨.lgs, 0x480000, 0x0, 0, 1, 0x8, 0x0, 1⟩
  | .LGS_NEXTSEQ_H => ⟨.lgs, 0x480000, 0x0, 0, 1, 0xC, 0x0, 1⟩
  | .LGS_ACKSEQ_L => ⟨.lgs, 0x480000, 0x0, 0, 1, 0x10, 0x0, 1⟩
  | .LGS_ACKSEQ_H => ⟨.lgs, 0x480000, 0x0, 0, 1, 0x14, 0x0, 1⟩
  | .LGS_RETCFG => ⟨.lgs, 0x480000, 0x0, 0, 1, 0x18, 0x0, 1⟩
  | .LGS_PAGE => ⟨.lgs, 0x480000, 0x0, 0, 1, 0x1C, 0x0, 1⟩
  | .LGS_PAGESTAT => ⟨.lgs, 0x480000, 0x0, 0, 1, 0x20, 0x0, 1⟩
  | .LGS_COUNT => ⟨.lgs, 0x480000, 0x0, 0, 1, 0x24, 0x0, 1⟩
  | .LGS_PFSTAT => ⟨.lgs, 0x480000, 0x0, 0, 1, 0x28, 0x0, 1⟩
  | .LGS_RFILL => ⟨.lgs, 0x480000, 0x0, 0, 1, 0x40, 0x10, 3⟩
  | .LGS_RHEAD => ⟨.lgs, 0x480000, 0x0, 0, 1, 0x44, 0x10, 3⟩
  | .LGS_ROLD_L => ⟨.lgs, 0x480000, 0x0, 0, 1, 0x48, 0x10, 3⟩
  | .LGS_ROLD_H => ⟨.lgs, 0x480000, 0x0, 0, 1, 0x4C, 0x10, 3⟩
  | .ALK_STATUS => ⟨.alk, 0x700000, 0x0, 0, 1, 0x0, 0x0, 1⟩
  | .ALK_SNAP => ⟨.alk, 0x700000, 0x0, 0, 1, 0x4, 0x0, 1⟩
  | .ALK_CFG => ⟨.alk, 0x700000, 0x0, 0, 1, 0x8, 0x0, 1⟩
  | .ALK_CTL => ⟨.alk, 0x700000, 0x0, 0, 1, 0xC, 0x0, 1⟩
  | .ALK_ROUND => ⟨.alk, 0x700000, 0x0, 0, 1, 0x10, 0x0, 1⟩
  | .ALK_ROUNDT => ⟨.alk, 0x700000, 0x0, 0, 1, 0x14, 0x0, 1⟩
  | .ALK_NSTAT => ⟨.alk, 0x701000, 0x10, 1, 62, 0x0, 0x0, 1⟩
  | .ALK_NCNT => ⟨.alk, 0x701000, 0x10, 1, 62, 0x4, 0x0, 1⟩
  | .ALK_NLINK => ⟨.alk, 0x701000, 0x10, 1, 62, 0x8, 0x0, 1⟩
  | .ALK_NVER => ⟨.alk, 0x701000, 0x10, 1, 62, 0xC, 0x0, 1⟩
  | .HPU_IDENT => ⟨.hpu, 0x0, 0x0, 0, 1, 0x0, 0x0, 1⟩
  | .HPU_STATUS => ⟨.hpu, 0x0, 0x0, 0, 1, 0x100, 0x0, 1⟩
  | .HPU_SNAP => ⟨.hpu, 0x0, 0x0, 0, 1, 0x104, 0x0, 1⟩
  | .HPU_SPICFG => ⟨.hpu, 0x0, 0x0, 0, 1, 0x108, 0x0, 1⟩
  | .HPU_WMARK => ⟨.hpu, 0x0, 0x0, 0, 1, 0x10C, 0x0, 1⟩
  | .HPU_FIFOSTAT => ⟨.hpu, 0x0, 0x0, 0, 1, 0x110, 0x0, 1⟩
  | .HPU_COUNT => ⟨.hpu, 0x0, 0x0, 0, 1, 0x114, 0x0, 1⟩
  | .NTU_STATUS => ⟨.ntu, 0x780000, 0x0, 0, 1, 0x0, 0x0, 1⟩
  | .NTU_SNAP => ⟨.ntu, 0x780000, 0x0, 0, 1, 0x4, 0x0, 1⟩
  | .NTU_PTP => ⟨.ntu, 0x780000, 0x0, 0, 1, 0x8, 0x0, 1⟩
  | .NTU_TIME_L => ⟨.ntu, 0x780000, 0x0, 0, 1, 0x10, 0x0, 1⟩
  | .NTU_TIME_H => ⟨.ntu, 0x780000, 0x0, 0, 1, 0x14, 0x0, 1⟩
  | .NTU_TIME_NS => ⟨.ntu, 0x780000, 0x0, 0, 1, 0x18, 0x0, 1⟩
  | .NTU_FRC => ⟨.ntu, 0x780000, 0x0, 0, 1, 0x1C, 0x0, 1⟩
  | .NTU_OFFSET => ⟨.ntu, 0x780000, 0x0, 0, 1, 0x20, 0x0, 1⟩
  | .NTU_CMP => ⟨.ntu, 0x780000, 0x0, 0, 1, 0x40, 0x8, 2⟩
  | .NTU_CMPCTL => ⟨.ntu, 0x780000, 0x0, 0, 1, 0x44, 0x8, 2⟩
  | .NTU_PORT => ⟨.ntu, 0x780000, 0x0, 0, 1, 0x60, 0x4, 4⟩
  | .NTU_CAN => ⟨.ntu, 0x780000, 0x0, 0, 1, 0x70, 0x4, 4⟩
  | .NTU_MB => ⟨.ntu, 0x780000, 0x0, 0, 1, 0x80, 0x4, 16⟩
  | .SEC_STATUS => ⟨.sec, 0x680000, 0x0, 0, 1, 0x0, 0x0, 1⟩
  | .SEC_SNAP => ⟨.sec, 0x680000, 0x0, 0, 1, 0x4, 0x0, 1⟩
  | .SEC_LC => ⟨.sec, 0x680000, 0x0, 0, 1, 0x8, 0x0, 1⟩
  | .SEC_SCNEXT => ⟨.sec, 0x680000, 0x0, 0, 1, 0xC, 0x0, 1⟩
  | .SEC_QUEUE => ⟨.sec, 0x680000, 0x0, 0, 1, 0x10, 0x0, 1⟩
  | .SEC_REMASK => ⟨.sec, 0x680000, 0x0, 0, 1, 0x14, 0x0, 1⟩
  | .SEC_COUNT => ⟨.sec, 0x680000, 0x0, 0, 1, 0x18, 0x0, 1⟩
  | .SEC_SLOTSEL => ⟨.sec, 0x680000, 0x0, 0, 1, 0x1C, 0x0, 1⟩
  | .SEC_SLOTATTR => ⟨.sec, 0x680000, 0x0, 0, 1, 0x20, 0x0, 1⟩
  | .SEC_SLOTPEND => ⟨.sec, 0x680000, 0x0, 0, 1, 0x24, 0x0, 1⟩
  | .SEC_SLOTID_L => ⟨.sec, 0x680000, 0x0, 0, 1, 0x28, 0x0, 1⟩
  | .SEC_SLOTID_H => ⟨.sec, 0x680000, 0x0, 0, 1, 0x2C, 0x0, 1⟩
  | .DSE_STATUS => ⟨.dse, 0x800000, 0x0, 0, 1, 0x0, 0x0, 1⟩
  | .DSE_SNAP => ⟨.dse, 0x800000, 0x0, 0, 1, 0x4, 0x0, 1⟩
  | .DSE_CTL => ⟨.dse, 0x800000, 0x0, 0, 1, 0x8, 0x0, 1⟩
  | .DSE_LNMASK => ⟨.dse, 0x800000, 0x0, 0, 1, 0xC, 0x0, 1⟩
  | .DSE_VMEAS => ⟨.dse, 0x800000, 0x0, 0, 1, 0x10, 0x0, 1⟩
  | .DSE_LNSTAT => ⟨.dse, 0x800000, 0x0, 0, 1, 0x14, 0x0, 1⟩
  | .DSE_LNSEQ => ⟨.dse, 0x800000, 0x0, 0, 1, 0x18, 0x0, 1⟩
  | .DSE_SSEL => ⟨.dse, 0x800000, 0x0, 0, 1, 0x1C, 0x0, 1⟩
  | .DSE_STRESSV => ⟨.dse, 0x800000, 0x0, 0, 1, 0x20, 0x0, 1⟩
  | .DSE_COUNT => ⟨.dse, 0x800000, 0x0, 0, 1, 0x24, 0x0, 1⟩
  | .BCU_STATUS => ⟨.bcu, 0x10000, 0x0, 0, 1, 0x0, 0x0, 1⟩
  | .BCU_SNAP => ⟨.bcu, 0x10000, 0x0, 0, 1, 0x4, 0x0, 1⟩
  | .BCU_SUPPLY => ⟨.bcu, 0x10000, 0x0, 0, 1, 0x8, 0x0, 1⟩
  | .BCU_VBAT => ⟨.bcu, 0x10000, 0x0, 0, 1, 0xC, 0x0, 1⟩
  | .BCU_HOLDCAP => ⟨.bcu, 0x10000, 0x0, 0, 1, 0x10, 0x0, 1⟩
  | .BCU_PFCFG => ⟨.bcu, 0x10000, 0x0, 0, 1, 0x14, 0x0, 1⟩
  | .BCU_RSTCAUSE => ⟨.bcu, 0x10000, 0x0, 0, 1, 0x18, 0x0, 1⟩
  | .BCU_RSTCMD => ⟨.bcu, 0x10000, 0x0, 0, 1, 0x1C, 0x0, 1⟩
  | .BCU_WDT => ⟨.bcu, 0x10000, 0x0, 0, 1, 0x20, 0x0, 1⟩
  | .BCU_GHCTL => ⟨.bcu, 0x10000, 0x0, 0, 1, 0x24, 0x0, 1⟩
  | .BCU_GHSTAT => ⟨.bcu, 0x10000, 0x0, 0, 1, 0x28, 0x0, 1⟩
  | .BCU_GHOUT => ⟨.bcu, 0x10000, 0x0, 0, 1, 0x2C, 0x0, 1⟩
  | .BCU_LTIME_L => ⟨.bcu, 0x10000, 0x0, 0, 1, 0x30, 0x0, 1⟩
  | .BCU_LTIME_H => ⟨.bcu, 0x10000, 0x0, 0, 1, 0x34, 0x0, 1⟩
  | .BCU_COUNT => ⟨.bcu, 0x10000, 0x0, 0, 1, 0x38, 0x0, 1⟩
  | .CGU_STATUS => ⟨.cgu, 0x20000, 0x0, 0, 1, 0x0, 0x0, 1⟩
  | .CGU_CFG => ⟨.cgu, 0x20000, 0x0, 0, 1, 0x4, 0x0, 1⟩
  | .CGU_CLKEN => ⟨.cgu, 0x20000, 0x0, 0, 1, 0x8, 0x0, 1⟩
  | .CGU_FCCTL => ⟨.cgu, 0x20000, 0x0, 0, 1, 0xC, 0x0, 1⟩
  | .CGU_FCRES => ⟨.cgu, 0x20000, 0x0, 0, 1, 0x10, 0x0, 1⟩
  | .UPD_STATUS => ⟨.upd, 0x880000, 0x0, 0, 1, 0x0, 0x0, 1⟩
  | .UPD_SNAP => ⟨.upd, 0x880000, 0x0, 0, 1, 0x4, 0x0, 1⟩
  | .UPD_CMD => ⟨.upd, 0x880000, 0x0, 0, 1, 0x8, 0x0, 1⟩
  | .UPD_RESULT => ⟨.upd, 0x880000, 0x0, 0, 1, 0xC, 0x0, 1⟩
  | .UPD_UPDID => ⟨.upd, 0x880000, 0x0, 0, 1, 0x10, 0x0, 1⟩
  | .UPD_ACTTIME_L => ⟨.upd, 0x880000, 0x0, 0, 1, 0x14, 0x0, 1⟩
  | .UPD_ACTTIME_H => ⟨.upd, 0x880000, 0x0, 0, 1, 0x18, 0x0, 1⟩
  | .UPD_PROGRESS => ⟨.upd, 0x880000, 0x0, 0, 1, 0x1C, 0x0, 1⟩
  | .UPD_TRIAL => ⟨.upd, 0x880000, 0x0, 0, 1, 0x20, 0x0, 1⟩
  | .UPD_PSEL => ⟨.upd, 0x880000, 0x0, 0, 1, 0x24, 0x0, 1⟩
  | .UPD_PVER => ⟨.upd, 0x880000, 0x0, 0, 1, 0x28, 0x0, 1⟩
  | .UPD_PCTR => ⟨.upd, 0x880000, 0x0, 0, 1, 0x2C, 0x0, 1⟩
  | .UPD_COUNT => ⟨.upd, 0x880000, 0x0, 0, 1, 0x30, 0x0, 1⟩
  | .ID_SERIAL => ⟨.id, 0x0, 0x0, 0, 1, 0x200, 0x4, 4⟩
  | .ID_LIFE => ⟨.id, 0x0, 0x0, 0, 1, 0x210, 0x0, 1⟩
  | .ID_RUNTIME => ⟨.id, 0x0, 0x0, 0, 1, 0x214, 0x0, 1⟩
  | .ID_TCASE => ⟨.id, 0x0, 0x0, 0, 1, 0x218, 0x0, 1⟩
  | .ID_FLASH => ⟨.id, 0x0, 0x0, 0, 1, 0x220, 0x4, 2⟩

/-- The rows of the register tables: the register, the bits [hi:lo], the reset value, the access code and the effect class. -/
def Fld.info : Fld → FldInfo
  | .FAB_STATUS_ESCAL => ⟨.FAB_STATUS, 2, 2, 0, .ro, .none⟩
  | .FAB_STATUS_VOVF => ⟨.FAB_STATUS, 1, 1, 0, .w1c, .now⟩
  | .FAB_STATUS_CFGVIOL => ⟨.FAB_STATUS, 0, 0, 0, .w1c, .now⟩
  | .FAB_FROZEN_FROZEN => ⟨.FAB_FROZEN, 21, 0, 0, .ro, .none⟩
  | .FAB_RELEASE_RELEASE => ⟨.FAB_RELEASE, 21, 0, 0, .wo, .now⟩
  | .FAB_VCOUNT_VTOTAL => ⟨.FAB_VCOUNT, 31, 16, 0, .ro, .none⟩
  | .FAB_VCOUNT_VPEND => ⟨.FAB_VCOUNT, 4, 0, 0, .ro, .none⟩
  | .FAB_VREC0_ACCESS => ⟨.FAB_VREC0, 26, 24, 0, .ro, .none⟩
  | .FAB_VREC0_TARGET => ⟨.FAB_VREC0, 23, 16, 0, .ro, .none⟩
  | .FAB_VREC0_MASTER => ⟨.FAB_VREC0, 4, 0, 0, .ro, .none⟩
  | .FAB_VREC1_ADDR => ⟨.FAB_VREC1, 31, 0, 0, .ro, .none⟩
  | .FAB_VREC2_TIME_L => ⟨.FAB_VREC2, 31, 0, 0, .ro, .none⟩
  | .FAB_VREC3_TIME_H => ⟨.FAB_VREC3, 31, 0, 0, .ro, .none⟩
  | .FAB_VPOP_POP => ⟨.FAB_VPOP, 0, 0, 0, .wo, .now⟩
  | .FAB_TAGS_PEAK => ⟨.FAB_TAGS, 22, 16, 0, .ro, .none⟩
  | .FAB_TAGS_INFLIGHT => ⟨.FAB_TAGS, 6, 0, 0, .ro, .none⟩
  | .FAB_DECERR_DECERR => ⟨.FAB_DECERR, 15, 0, 0, .ro, .none⟩
  | .PPL_STATUS_REJECT => ⟨.PPL_STATUS, 15, 8, 0, .ro, .none⟩
  | .PPL_STATUS_STATE => ⟨.PPL_STATUS, 7, 4, 0, .ro, .none⟩
  | .PPL_STATUS_CFGVIOL => ⟨.PPL_STATUS, 0, 0, 0, .w1c, .now⟩
  | .PPL_CMD_CMD => ⟨.PPL_CMD, 2, 0, 0, .wo, .now⟩
  | .PPL_PLANID_PLANID => ⟨.PPL_PLANID, 31, 0, 0, .ro, .none⟩
  | .PPL_PLANVER_PLANVER => ⟨.PPL_PLANVER, 31, 0, 0, .ro, .none⟩
  | .PPL_SAFECV_SAFECV => ⟨.PPL_SAFECV, 31, 0, 0, .ro, .none⟩
  | .PPL_LEGALCV_LEGALCV => ⟨.PPL_LEGALCV, 31, 0, 0, .ro, .none⟩
  | .PPL_STGVER_STGVER => ⟨.PPL_STGVER, 31, 0, 0, .ro, .none⟩
  | .PPL_STGSAFECV_STGSAFECV => ⟨.PPL_STGSAFECV, 31, 0, 0, .ro, .none⟩
  | .PPL_WAIT_WAIT => ⟨.PPL_WAIT, 23, 0, 0, .ro, .none⟩
  | .PPL_SECTCRC_CRC => ⟨.PPL_SECTCRC, 31, 0, 0, .ro, .none⟩
  | .SCH_STATUS_REFUSED => ⟨.SCH_STATUS, 2, 2, 0, .w1c, .now⟩
  | .SCH_STATUS_MISS => ⟨.SCH_STATUS, 1, 1, 0, .w1c, .now⟩
  | .SCH_STATUS_CFGVIOL => ⟨.SCH_STATUS, 0, 0, 0, .w1c, .now⟩
  | .SCH_SNAP_SNAP => ⟨.SCH_SNAP, 0, 0, 0, .wo, .now⟩
  | .SCH_SEL_STREAM => ⟨.SCH_SEL, 15, 0, 0, .rw, .now⟩
  | .SCH_MARGIN_MARGIN => ⟨.SCH_MARGIN, 31, 0, 0xffffffff, .ro, .none⟩
  | .SCH_MISSES_SMISS => ⟨.SCH_MISSES, 31, 16, 0, .ro, .none⟩
  | .SCH_MISSES_TMISS => ⟨.SCH_MISSES, 15, 0, 0, .ro, .none⟩
  | .SCH_REFUSALS_LAST => ⟨.SCH_REFUSALS, 31, 16, 0, .ro, .none⟩
  | .SCH_REFUSALS_COUNT => ⟨.SCH_REFUSALS, 15, 0, 0, .ro, .none⟩
  | .SCH_OPEN_OPEN => ⟨.SCH_OPEN, 31, 16, 0, .ro, .none⟩
  | .SCH_OPEN_TOTAL => ⟨.SCH_OPEN, 15, 0, 0, .ro, .none⟩
  | .OIU_STATUS_UNAVAIL => ⟨.OIU_STATUS, 8, 8, 0, .ro, .none⟩
  | .OIU_STATUS_WELD => ⟨.OIU_STATUS, 7, 7, 0, .w1c, .now⟩
  | .OIU_STATUS_LOCKF => ⟨.OIU_STATUS, 6, 6, 0, .w1c, .now⟩
  | .OIU_STATUS_TEMPF => ⟨.OIU_STATUS, 5, 5, 0, .w1c, .now⟩
  | .OIU_STATUS_DIODE => ⟨.OIU_STATUS, 4, 4, 0, .w1c, .now⟩
  | .OIU_STATUS_PPF => ⟨.OIU_STATUS, 3, 3, 0, .w1c, .now⟩
  | .OIU_STATUS_CUT => ⟨.OIU_STATUS, 2, 2, 0, .ro, .none⟩
  | .OIU_STATUS_DERATE => ⟨.OIU_STATUS, 1, 1, 0, .ro, .none⟩
  | .OIU_STATUS_CFGVIOL => ⟨.OIU_STATUS, 0, 0, 0, .w1c, .now⟩
  | .OIU_SNAP_SNAP => ⟨.OIU_SNAP, 0, 0, 0, .wo, .now⟩
  | .OIU_CPCTL_CSEN => ⟨.OIU_CPCTL, 5, 5, 0, .rw, .idleOnly⟩
  | .OIU_CPCTL_DALLOW => ⟨.OIU_CPCTL, 4, 4, 0, .rw, .idleOnly⟩
  | .OIU_CPCTL_DMODE => ⟨.OIU_CPCTL, 3, 2, 0, .rw, .pilotPeriod⟩
  | .OIU_CPCTL_GEN => ⟨.OIU_CPCTL, 1, 0, 0, .rw, .pilotPeriod⟩
  | .OIU_CPDUTY_DUTY => ⟨.OIU_CPDUTY, 25, 16, 0, .rw, .pilotPeriod⟩
  | .OIU_CPDUTY_ILIM => ⟨.OIU_CPDUTY, 10, 0, 0, .rw, .pilotPeriod⟩
  | .OIU_CPSTATE_ICODE => ⟨.OIU_CPSTATE, 31, 21, 0, .ro, .none⟩
  | .OIU_CPSTATE_DUTYOUT => ⟨.OIU_CPSTATE, 20, 11, 0, .ro, .none⟩
  | .OIU_CPSTATE_PEND => ⟨.OIU_CPSTATE, 7, 4, 0, .ro, .none⟩
  | .OIU_CPSTATE_STATE => ⟨.OIU_CPSTATE, 3, 0, 0, .ro, .none⟩
  | .OIU_CPMEAS_VHI => ⟨.OIU_CPMEAS, 31, 16, 0, .ro, .none⟩
  | .OIU_CPMEAS_VLO => ⟨.OIU_CPMEAS, 15, 0, 0x8000, .ro, .none⟩
  | .OIU_PPCS_RES => ⟨.OIU_PPCS, 31, 16, 0xffff, .ro, .none⟩
  | .OIU_PPCS_RATING => ⟨.OIU_PPCS, 11, 4, 0, .ro, .none⟩
  | .OIU_PPCS_CODE => ⟨.OIU_PPCS, 3, 0, 0, .ro, .none⟩
  | .OIU_LOCK_TRIES => ⟨.OIU_LOCK, 7, 6, 0, .ro, .none⟩
  | .OIU_LOCK_LSTATE => ⟨.OIU_LOCK, 5, 4, 0, .ro, .none⟩
  | .OIU_LOCK_LKFB => ⟨.OIU_LOCK, 3, 3, 0, .ro, .none⟩
  | .OIU_LOCK_UNLOCK => ⟨.OIU_LOCK, 1, 1, 0, .wo, .now⟩
  | .OIU_LOCK_LOCK => ⟨.OIU_LOCK, 0, 0, 0, .wo, .now⟩
  | .OIU_TIMER_C1MAX => ⟨.OIU_TIMER, 31, 24, 0x3c, .rw, .idleOnly⟩
  | .OIU_TIMER_LKPULSE => ⟨.OIU_TIMER, 23, 16, 0x1e, .rw, .idleOnly⟩
  | .OIU_TIMER_LKCONF => ⟨.OIU_TIMER, 15, 8, 0x32, .rw, .idleOnly⟩
  | .OIU_TIMER_WELDT => ⟨.OIU_TIMER, 7, 0, 0x64, .rw, .idleOnly⟩
  | .OIU_TEMP_TSB => ⟨.OIU_TEMP, 31, 16, 0x8000, .ro, .none⟩
  | .OIU_TEMP_TSA => ⟨.OIU_TEMP, 15, 0, 0x8000, .ro, .none⟩
  | .OIU_CONTACT_MISSING => ⟨.OIU_CONTACT, 15, 8, 0xff, .ro, .none⟩
  | .OIU_CONTACT_ZREQ => ⟨.OIU_CONTACT, 7, 7, 0, .rw, .now⟩
  | .OIU_CONTACT_CFB => ⟨.OIU_CONTACT, 4, 4, 0, .ro, .none⟩
  | .OIU_CONTACT_CMD => ⟨.OIU_CONTACT, 3, 3, 0, .ro, .none⟩
  | .OIU_CONTACT_CLOSE_EN => ⟨.OIU_CONTACT, 0, 0, 0, .rw, .now⟩
  | .OIU_COUNT_STCHG => ⟨.OIU_COUNT, 31, 16, 0, .ro, .none⟩
  | .OIU_COUNT_REJECT => ⟨.OIU_COUNT, 15, 0, 0, .ro, .none⟩
  | .VCE_STATUS_RXFULL => ⟨.VCE_STATUS, 3, 3, 0, .w1c, .now⟩
  | .VCE_STATUS_SLACAMB => ⟨.VCE_STATUS, 2, 2, 0, .w1c, .now⟩
  | .VCE_STATUS_OFFLOAD => ⟨.VCE_STATUS, 1, 1, 0, .ro, .none⟩
  | .VCE_STATUS_CFGVIOL => ⟨.VCE_STATUS, 0, 0, 0, .w1c, .now⟩
  | .VCE_SNAP_SNAP => ⟨.VCE_SNAP, 0, 0, 0, .wo, .now⟩
  | .VCE_CTL_SLACMARG => ⟨.VCE_CTL, 15, 8, 0xa, .rw, .now⟩
  | .VCE_LANE_PPDU => ⟨.VCE_LANE, 31, 16, 0, .ro, .none⟩
  | .VCE_LANE_ON => ⟨.VCE_LANE, 8, 8, 0, .ro, .none⟩
  | .VCE_LANE_BOUND => ⟨.VCE_LANE, 3, 0, 0, .ro, .none⟩
  | .VCE_OLINK_ATTEN => ⟨.VCE_OLINK, 23, 16, 0xff, .ro, .none⟩
  | .VCE_OLINK_GEN => ⟨.VCE_OLINK, 9, 8, 0, .ro, .none⟩
  | .VCE_OLINK_MEDIUM => ⟨.VCE_OLINK, 7, 6, 0, .ro, .none⟩
  | .VCE_OLINK_LSTATE => ⟨.VCE_OLINK, 3, 0, 0, .ro, .none⟩
  | .VCE_OSVC_DYN => ⟨.VCE_OSVC, 11, 11, 0, .ro, .none⟩
  | .VCE_OSVC_TLS => ⟨.VCE_OSVC, 10, 10, 0, .ro, .none⟩
  | .VCE_OSVC_AUTH => ⟨.VCE_OSVC, 9, 8, 0, .ro, .none⟩
  | .VCE_OSVC_SVC => ⟨.VCE_OSVC, 5, 0, 0, .ro, .none⟩
  | .VCE_ORX_RXMSG => ⟨.VCE_ORX, 31, 16, 0, .ro, .none⟩
  | .VCE_ORX_RXPEND => ⟨.VCE_ORX, 3, 0, 0, .ro, .none⟩
  | .VCE_OERR_FECERR => ⟨.VCE_OERR, 31, 16, 0, .ro, .none⟩
  | .VCE_OERR_SLACTRY => ⟨.VCE_OERR, 9, 8, 0, .ro, .none⟩
  | .VCE_OERR_LOOPRSP => ⟨.VCE_OERR, 7, 0, 0, .ro, .none⟩
  | .VCE_OCMD_RESULT => ⟨.VCE_OCMD, 5, 4, 0, .ro, .none⟩
  | .VCE_OCMD_CMD => ⟨.VCE_OCMD, 2, 0, 0, .wo, .message⟩
  | .VCE_OCFG_TXATT => ⟨.VCE_OCFG, 7, 3, 0, .rw, .idleOnly⟩
  | .VCE_OCFG_FWD => ⟨.VCE_OCFG, 1, 0, 2, .rw, .message⟩
  | .MEU_STATUS_CKPTR => ⟨.MEU_STATUS, 6, 6, 0, .w1c, .now⟩
  | .MEU_STATUS_BANK => ⟨.MEU_STATUS, 5, 5, 0, .ro, .none⟩
  | .MEU_STATUS_INTSAT => ⟨.MEU_STATUS, 4, 4, 0, .w1c, .now⟩
  | .MEU_STATUS_ZXTO => ⟨.MEU_STATUS, 3, 3, 0, .w1c, .now⟩
  | .MEU_STATUS_NEARFS => ⟨.MEU_STATUS, 2, 2, 0, .w1c, .now⟩
  | .MEU_STATUS_MODF => ⟨.MEU_STATUS, 1, 1, 0, .w1c, .now⟩
  | .MEU_STATUS_CFGVIOL => ⟨.MEU_STATUS, 0, 0, 0, .w1c, .now⟩
  | .MEU_SNAP_BUSY => ⟨.MEU_SNAP, 1, 1, 0, .ro, .none⟩
  | .MEU_SNAP_SNAP => ⟨.MEU_SNAP, 0, 0, 0, .wo, .now⟩
  | .MEU_CTL_BANKSEL => ⟨.MEU_CTL, 0, 0, 0, .rw, .sample⟩
  | .MEU_CALCV_CALCV => ⟨.MEU_CALCV, 31, 0, 0, .ro, .none⟩
  | .MEU_CALSEQ_CALSEQ => ⟨.MEU_CALSEQ, 31, 0, 0, .ro, .none⟩
  | .MEU_CHSTAT_ELEM => ⟨.MEU_CHSTAT, 31, 24, 0xff, .ro, .none⟩
  | .MEU_CHSTAT_QTY => ⟨.MEU_CHSTAT, 23, 20, 0xf, .ro, .none⟩
  | .MEU_CHSTAT_RATE => ⟨.MEU_CHSTAT, 19, 18, 0, .ro, .none⟩
  | .MEU_CHSTAT_PLSREJ => ⟨.MEU_CHSTAT, 6, 6, 0, .w1c, .now⟩
  | .MEU_CHSTAT_INTSAT => ⟨.MEU_CHSTAT, 5, 5, 0, .w1c, .now⟩
  | .MEU_CHSTAT_NEARFS => ⟨.MEU_CHSTAT, 4, 4, 0, .w1c, .now⟩
  | .MEU_CHSTAT_ZXTO => ⟨.MEU_CHSTAT, 3, 3, 0, .ro, .none⟩
  | .MEU_CHSTAT_MODF => ⟨.MEU_CHSTAT, 2, 2, 0, .ro, .none⟩
  | .MEU_CHSAMP_SAMPLE => ⟨.MEU_CHSAMP, 31, 0, 0, .ro, .none⟩
  | .MEU_CHRMS_RMS => ⟨.MEU_CHRMS, 31, 0, 0, .ro, .none⟩
  | .MEU_CHPEAK_PEAK => ⟨.MEU_CHPEAK, 31, 0, 0, .ro, .none⟩
  | .MEU_CHENV_ENV => ⟨.MEU_CHENV, 31, 0, 0, .ro, .none⟩
  | .MEU_CHFREQ_FREQ => ⟨.MEU_CHFREQ, 31, 0, 0, .ro, .none⟩
  | .MEU_CHCTL_PKCLR => ⟨.MEU_CHCTL, 31, 31, 0, .wo, .now⟩
  | .MEU_CHCTL_ENVTC => ⟨.MEU_CHCTL, 25, 16, 0x64, .rw, .now⟩
  | .MEU_CHCTL_RMSCYC => ⟨.MEU_CHCTL, 13, 8, 0xa, .rw, .sample⟩
  | .MEU_CHCTL_ZXTO => ⟨.MEU_CHCTL, 7, 0, 0xa, .rw, .now⟩
  | .MEU_CHBANK_MALEN1 => ⟨.MEU_CHBANK, 24, 16, 1, .ro, .none⟩
  | .MEU_CHBANK_MALEN0 => ⟨.MEU_CHBANK, 8, 0, 1, .ro, .none⟩
  | .MEU_CHDELAY_DELAY1 => ⟨.MEU_CHDELAY, 25, 16, 0, .ro, .none⟩
  | .MEU_CHDELAY_DELAY0 => ⟨.MEU_CHDELAY, 9, 0, 0, .ro, .none⟩
  | .MEU_CHGAIN_GAIN => ⟨.MEU_CHGAIN, 31, 0, 0x40000000, .ro, .none⟩
  | .MEU_CHOFFS_OFFS => ⟨.MEU_CHOFFS, 31, 0, 0, .ro, .none⟩
  | .MEU_CHINT_ID => ⟨.MEU_CHINT, 31, 16, 0, .ro, .none⟩
  | .MEU_CHINT_RSHIFT => ⟨.MEU_CHINT, 11, 8, 8, .ro, .none⟩
  | .MEU_CHINT_INTK => ⟨.MEU_CHINT, 4, 0, 0, .ro, .none⟩
  | .MEU_ESTAT_FAULTT => ⟨.MEU_ESTAT, 31, 16, 0, .ro, .none⟩
  | .MEU_ESTAT_QUAD => ⟨.MEU_ESTAT, 7, 6, 0, .ro, .none⟩
  | .MEU_ESTAT_SESS => ⟨.MEU_ESTAT, 5, 5, 0, .ro, .none⟩
  | .MEU_ESTAT_ZXTO => ⟨.MEU_ESTAT, 4, 4, 0, .ro, .none⟩
  | .MEU_ESTAT_FAULT => ⟨.MEU_ESTAT, 3, 3, 0, .ro, .none⟩
  | .MEU_ESTAT_DC => ⟨.MEU_ESTAT, 2, 2, 0, .ro, .none⟩
  | .MEU_EPWR_P => ⟨.MEU_EPWR, 31, 0, 0, .ro, .none⟩
  | .MEU_EQPWR_Q => ⟨.MEU_EQPWR, 31, 0, 0, .ro, .none⟩
  | .MEU_EREG_L => ⟨.MEU_EREG_L, 31, 0, 0, .ro, .none⟩
  | .MEU_EREG_H => ⟨.MEU_EREG_H, 31, 0, 0, .ro, .none⟩
  | .MEU_SESS_L => ⟨.MEU_SESS_L, 31, 0, 0, .ro, .none⟩
  | .MEU_SESS_H => ⟨.MEU_SESS_H, 31, 0, 0, .ro, .none⟩
  | .EFU_STATUS_IMDF => ⟨.EFU_STATUS, 5, 5, 0, .w1c, .now⟩
  | .EFU_STATUS_IWARN => ⟨.EFU_STATUS, 4, 4, 0, .w1c, .now⟩
  | .EFU_STATUS_IALARM => ⟨.EFU_STATUS, 3, 3, 0, .w1c, .now⟩
  | .EFU_STATUS_LOCK => ⟨.EFU_STATUS, 2, 2, 0, .w1c, .now⟩
  | .EFU_STATUS_TRIP => ⟨.EFU_STATUS, 1, 1, 0, .w1c, .now⟩
  | .EFU_STATUS_CFGVIOL => ⟨.EFU_STATUS, 0, 0, 0, .w1c, .now⟩
  | .EFU_SNAP_SNAP => ⟨.EFU_SNAP, 0, 0, 0, .wo, .now⟩
  | .EFU_RCMSTAT_OUTLET => ⟨.EFU_RCMSTAT, 31, 24, 0xff, .ro, .none⟩
  | .EFU_RCMSTAT_BAND => ⟨.EFU_RCMSTAT, 20, 18, 0, .ro, .none⟩
  | .EFU_RCMSTAT_TSTATE => ⟨.EFU_RCMSTAT, 17, 16, 0, .ro, .none⟩
  | .EFU_RCMSTAT_TSTEP => ⟨.EFU_RCMSTAT, 11, 8, 0, .ro, .none⟩
  | .EFU_RCMSTAT_LOCKOUT => ⟨.EFU_RCMSTAT, 2, 2, 1, .ro, .none⟩
  | .EFU_RCMSTAT_TRIP => ⟨.EFU_RCMSTAT, 1, 1, 0, .ro, .none⟩
  | .EFU_RCMVAL_AC => ⟨.EFU_RCMVAL, 31, 16, 0, .ro, .none⟩
  | .EFU_RCMVAL_DC => ⟨.EFU_RCMVAL, 15, 0, 0, .ro, .none⟩
  | .EFU_RCMCTL_TESTN => ⟨.EFU_RCMCTL, 12, 8, 1, .rw, .idleOnly⟩
  | .EFU_RCMCTL_CAL => ⟨.EFU_RCMCTL, 3, 3, 0, .wo, .idleOnly⟩
  | .EFU_RCMCTL_LOCKCLR => ⟨.EFU_RCMCTL, 2, 2, 0, .wo, .now⟩
  | .EFU_RCMCTL_TRIPCLR => ⟨.EFU_RCMCTL, 1, 1, 0, .wo, .now⟩
  | .EFU_RCMCTL_TEST => ⟨.EFU_RCMCTL, 0, 0, 0, .wo, .idleOnly⟩
  | .EFU_RCMSCALE_SCALE => ⟨.EFU_RCMSCALE, 31, 0, 0, .ro, .none⟩
  | .EFU_RCMCNT_TRIPS => ⟨.EFU_RCMCNT, 31, 16, 0, .ro, .none⟩
  | .EFU_RCMCNT_TESTS => ⟨.EFU_RCMCNT, 15, 0, 0, .ro, .none⟩
  | .EFU_IMDSTAT_OUTA => ⟨.EFU_IMDSTAT, 31, 24, 0xff, .ro, .none⟩
  | .EFU_IMDSTAT_OUTB => ⟨.EFU_IMDSTAT, 23, 16, 0xff, .ro, .none⟩
  | .EFU_IMDSTAT_LEVEL => ⟨.EFU_IMDSTAT, 11, 10, 3, .ro, .none⟩
  | .EFU_IMDSTAT_CCRES => ⟨.EFU_IMDSTAT, 9, 8, 0, .ro, .none⟩
  | .EFU_IMDSTAT_INJ => ⟨.EFU_IMDSTAT, 3, 3, 0, .ro, .none⟩
  | .EFU_IMDSTAT_LOCKOUT => ⟨.EFU_IMDSTAT, 2, 2, 1, .ro, .none⟩
  | .EFU_IMDSTAT_TRIP => ⟨.EFU_IMDSTAT, 1, 1, 0, .ro, .none⟩
  | .EFU_IMDRISO_CCRISO => ⟨.EFU_IMDRISO, 31, 16, 0xffff, .ro, .none⟩
  | .EFU_IMDRISO_RISO => ⟨.EFU_IMDRISO, 15, 0, 0xffff, .ro, .none⟩
  | .EFU_IMDPOLE_VNEG => ⟨.EFU_IMDPOLE, 31, 16, 0, .ro, .none⟩
  | .EFU_IMDPOLE_VPOS => ⟨.EFU_IMDPOLE, 15, 0, 0, .ro, .none⟩
  | .EFU_IMDCTL_IMDHALF => ⟨.EFU_IMDCTL, 15, 8, 0x28, .rw, .idleOnly⟩
  | .EFU_IMDCTL_LOCKCLR => ⟨.EFU_IMDCTL, 2, 2, 0, .wo, .now⟩
  | .EFU_IMDCTL_TEST => ⟨.EFU_IMDCTL, 0, 0, 0, .wo, .idleOnly⟩
  | .EFU_IMDCNT_ALARMS => ⟨.EFU_IMDCNT, 31, 16, 0, .ro, .none⟩
  | .EFU_IMDCNT_CHECKS => ⟨.EFU_IMDCNT, 15, 0, 0, .ro, .none⟩
  | .PSW_STATUS_BANKOC => ⟨.PSW_STATUS, 7, 7, 0, .w1c, .now⟩
  | .PSW_STATUS_BANKUV => ⟨.PSW_STATUS, 6, 6, 0, .w1c, .now⟩
  | .PSW_STATUS_LATCH => ⟨.PSW_STATUS, 5, 5, 0, .w1c, .now⟩
  | .PSW_STATUS_OL => ⟨.PSW_STATUS, 4, 4, 0, .w1c, .now⟩
  | .PSW_STATUS_OT => ⟨.PSW_STATUS, 3, 3, 0, .w1c, .now⟩
  | .PSW_STATUS_OC => ⟨.PSW_STATUS, 2, 2, 0, .w1c, .now⟩
  | .PSW_STATUS_SC => ⟨.PSW_STATUS, 1, 1, 0, .w1c, .now⟩
  | .PSW_STATUS_CFGVIOL => ⟨.PSW_STATUS, 0, 0, 0, .w1c, .now⟩
  | .PSW_SNAP_SNAP => ⟨.PSW_SNAP, 0, 0, 0, .wo, .now⟩
  | .PSW_BANKV_VMEAN => ⟨.PSW_BANKV, 31, 16, 0, .ro, .none⟩
  | .PSW_BANKV_VNOW => ⟨.PSW_BANKV, 15, 0, 0, .ro, .none⟩
  | .PSW_BANKS_QUEUE => ⟨.PSW_BANKS, 23, 16, 0, .ro, .none⟩
  | .PSW_BANKS_BUSY => ⟨.PSW_BANKS, 11, 11, 0, .ro, .none⟩
  | .PSW_BANKS_HOLDER => ⟨.PSW_BANKS, 10, 8, 0, .ro, .none⟩
  | .PSW_BANKS_UV => ⟨.PSW_BANKS, 2, 2, 0, .ro, .none⟩
  | .PSW_BANKS_DROOP => ⟨.PSW_BANKS, 1, 1, 0, .ro, .none⟩
  | .PSW_BANKCTL_DROOP => ⟨.PSW_BANKCTL, 7, 0, 0x55, .rw, .idleOnly⟩
  | .PSW_TRIPRB_TRIP => ⟨.PSW_TRIPRB, 31, 0, 0, .ro, .none⟩
  | .PSW_PERMIT_PERMIT => ⟨.PSW_PERMIT, 31, 0, 0, .ro, .none⟩
  | .PSW_OUT_OUT => ⟨.PSW_OUT, 31, 0, 0, .ro, .none⟩
  | .PSW_CHSTAT_FUNC => ⟨.PSW_CHSTAT, 31, 28, 0, .ro, .none⟩
  | .PSW_CHSTAT_TRIES => ⟨.PSW_CHSTAT, 23, 20, 0, .ro, .none⟩
  | .PSW_CHSTAT_PHASE => ⟨.PSW_CHSTAT, 14, 12, 0, .ro, .none⟩
  | .PSW_CHSTAT_FROZEN => ⟨.PSW_CHSTAT, 5, 5, 0, .ro, .none⟩
  | .PSW_CHSTAT_COMPSAT => ⟨.PSW_CHSTAT, 4, 4, 0, .ro, .none⟩
  | .PSW_CHSTAT_OLNOW => ⟨.PSW_CHSTAT, 3, 3, 0, .ro, .none⟩
  | .PSW_CHSTAT_CMD => ⟨.PSW_CHSTAT, 2, 2, 0, .ro, .none⟩
  | .PSW_CHSTAT_PERMIT => ⟨.PSW_CHSTAT, 1, 1, 0, .ro, .none⟩
  | .PSW_CHSTAT_LATCH => ⟨.PSW_CHSTAT, 0, 0, 0, .ro, .none⟩
  | .PSW_CHCTL_LATCHCLR => ⟨.PSW_CHCTL, 31, 31, 0, .wo, .now⟩
  | .PSW_CHCTL_PWMF => ⟨.PSW_CHCTL, 15, 14, 0, .rw, .idleOnly⟩
  | .PSW_CHCTL_ON => ⟨.PSW_CHCTL, 0, 0, 0, .rw, .now⟩
  | .PSW_CHDUTY_DOUT => ⟨.PSW_CHDUTY, 25, 16, 0, .ro, .none⟩
  | .PSW_CHDUTY_DUTY => ⟨.PSW_CHDUTY, 9, 0, 0x3e8, .rw, .frame⟩
  | .PSW_CHFLT_OL => ⟨.PSW_CHFLT, 3, 3, 0, .w1c, .now⟩
  | .PSW_CHFLT_OT => ⟨.PSW_CHFLT, 2, 2, 0, .w1c, .now⟩
  | .PSW_CHFLT_OC => ⟨.PSW_CHFLT, 1, 1, 0, .w1c, .now⟩
  | .PSW_CHFLT_SC => ⟨.PSW_CHFLT, 0, 0, 0, .w1c, .now⟩
  | .PSW_CHCNT_FAULTS => ⟨.PSW_CHCNT, 31, 16, 0, .ro, .none⟩
  | .PSW_CHCNT_STARTS => ⟨.PSW_CHCNT, 15, 0, 0, .ro, .none⟩
  | .GSE_STATUS_STATE => ⟨.GSE_STATUS, 7, 4, 0, .ro, .none⟩
  | .GSE_STATUS_HOLD => ⟨.GSE_STATUS, 3, 3, 0, .ro, .none⟩
  | .GSE_STATUS_CVOK => ⟨.GSE_STATUS, 2, 2, 0, .ro, .none⟩
  | .GSE_STATUS_VSIOUV => ⟨.GSE_STATUS, 1, 1, 0, .ro, .none⟩
  | .GSE_STATUS_CFGVIOL => ⟨.GSE_STATUS, 0, 0, 0, .ro, .none⟩
  | .GSE_SEQ_SEQ => ⟨.GSE_SEQ, 31, 0, 0, .ro, .none⟩
  | .GSE_CV_CV => ⟨.GSE_CV, 31, 0, 0, .ro, .none⟩
  | .GSE_CVCONF_CVCONF => ⟨.GSE_CVCONF, 31, 0, 0, .ro, .none⟩
  | .GSE_SI_INFLT => ⟨.GSE_SI, 31, 16, 0, .ro, .none⟩
  | .GSE_SI_IN => ⟨.GSE_SI, 15, 0, 0, .ro, .none⟩
  | .GSE_SO_EDM => ⟨.GSE_SO, 11, 8, 0, .ro, .none⟩
  | .GSE_SO_RB => ⟨.GSE_SO, 7, 4, 0, .ro, .none⟩
  | .GSE_SO_CMD => ⟨.GSE_SO, 3, 0, 0, .ro, .none⟩
  | .GSE_PERMIT_PERMIT => ⟨.GSE_PERMIT, 31, 0, 0, .ro, .none⟩
  | .GSE_FUNC_FUNC => ⟨.GSE_FUNC, 31, 28, 0, .ro, .none⟩
  | .GSE_FUNC_CAUSE => ⟨.GSE_FUNC, 27, 24, 0, .ro, .none⟩
  | .GSE_FUNC_FDET => ⟨.GSE_FUNC, 23, 16, 0, .ro, .none⟩
  | .GSE_FUNC_UNLKOK => ⟨.GSE_FUNC, 6, 6, 0, .ro, .none⟩
  | .GSE_FUNC_MUTED => ⟨.GSE_FUNC, 5, 5, 0, .ro, .none⟩
  | .GSE_FUNC_STOPPING => ⟨.GSE_FUNC, 4, 4, 0, .ro, .none⟩
  | .GSE_FUNC_RSTREQ => ⟨.GSE_FUNC, 3, 3, 0, .ro, .none⟩
  | .GSE_FUNC_FFAULT => ⟨.GSE_FUNC, 2, 2, 0, .ro, .none⟩
  | .GSE_FUNC_DEMAND => ⟨.GSE_FUNC, 1, 1, 0, .ro, .none⟩
  | .GSE_FUNC_EN => ⟨.GSE_FUNC, 0, 0, 0, .ro, .none⟩
  | .GSE_POS_SPEED => ⟨.GSE_POS, 31, 16, 0, .ro, .none⟩
  | .GSE_POS_POS => ⟨.GSE_POS, 15, 0, 0, .ro, .none⟩
  | .GSE_DIAG_TESTAGE => ⟨.GSE_DIAG, 31, 16, 0, .ro, .none⟩
  | .GSE_DIAG_FCODE => ⟨.GSE_DIAG, 7, 0, 0, .ro, .none⟩
  | .GSE_COUNT_DEMANDS => ⟨.GSE_COUNT, 31, 16, 0, .ro, .none⟩
  | .GSE_COUNT_FAULTS => ⟨.GSE_COUNT, 15, 0, 0, .ro, .none⟩
  | .CLU_STATUS_LOCKOUT => ⟨.CLU_STATUS, 6, 6, 0, .w1c, .now⟩
  | .CLU_STATUS_GATEOVR => ⟨.CLU_STATUS, 5, 5, 0, .w1c, .now⟩
  | .CLU_STATUS_TAGREF => ⟨.CLU_STATUS, 4, 4, 0, .w1c, .now⟩
  | .CLU_STATUS_AUTHF => ⟨.CLU_STATUS, 3, 3, 0, .w1c, .now⟩
  | .CLU_STATUS_AFAULT => ⟨.CLU_STATUS, 2, 2, 0, .w1c, .now⟩
  | .CLU_STATUS_MULTI => ⟨.CLU_STATUS, 1, 1, 0, .w1c, .now⟩
  | .CLU_STATUS_CFGVIOL => ⟨.CLU_STATUS, 0, 0, 0, .w1c, .now⟩
  | .CLU_SNAP_SNAP => ⟨.CLU_SNAP, 0, 0, 0, .wo, .now⟩
  | .CLU_ANTCTL_GUARD => ⟨.CLU_ANTCTL, 31, 24, 0x33, .rw, .idleOnly⟩
  | .CLU_ANTCTL_AFI => ⟨.CLU_ANTCTL, 23, 16, 0, .rw, .idleOnly⟩
  | .CLU_ANTCTL_POLL => ⟨.CLU_ANTCTL, 12, 10, 3, .rw, .idleOnly⟩
  | .CLU_ANTCTL_BRMAX => ⟨.CLU_ANTCTL, 9, 8, 0, .rw, .idleOnly⟩
  | .CLU_ANTCTL_ADM => ⟨.CLU_ANTCTL, 1, 1, 0, .ro, .none⟩
  | .CLU_ANTCTL_ANTEN => ⟨.CLU_ANTCTL, 0, 0, 0, .rw, .now⟩
  | .CLU_ANTSTAT_SLICES => ⟨.CLU_ANTSTAT, 31, 16, 0, .ro, .none⟩
  | .CLU_ANTSTAT_NEXP => ⟨.CLU_ANTSTAT, 15, 13, 0, .ro, .none⟩
  | .CLU_ANTSTAT_ROUNDS => ⟨.CLU_ANTSTAT, 12, 10, 0, .ro, .none⟩
  | .CLU_ANTSTAT_TECH => ⟨.CLU_ANTSTAT, 9, 8, 0, .ro, .none⟩
  | .CLU_ANTSTAT_AFAULT => ⟨.CLU_ANTSTAT, 4, 4, 0, .ro, .none⟩
  | .CLU_ANTSTAT_CARDS => ⟨.CLU_ANTSTAT, 3, 0, 0, .ro, .none⟩
  | .CLU_CARD_L => ⟨.CLU_CARD_L, 31, 0, 0, .ro, .none⟩
  | .CLU_CARD_M => ⟨.CLU_CARD_M, 31, 0, 0, .ro, .none⟩
  | .CLU_CARD_H_TECH => ⟨.CLU_CARD_H, 21, 20, 0, .ro, .none⟩
  | .CLU_CARD_H_ULEN => ⟨.CLU_CARD_H, 19, 16, 0, .ro, .none⟩
  | .CLU_CARD_H => ⟨.CLU_CARD_H, 15, 0, 0, .ro, .none⟩
  | .CLU_TGATE_HOLDACK => ⟨.CLU_TGATE, 1, 1, 0, .ro, .none⟩
  | .CLU_TGATE_HOLD => ⟨.CLU_TGATE, 0, 0, 0, .rw, .now⟩
  | .CLU_TSTATE_TFAIL => ⟨.CLU_TSTATE, 11, 8, 0, .ro, .none⟩
  | .CLU_TSTATE_LOCKED => ⟨.CLU_TSTATE, 7, 7, 0, .ro, .none⟩
  | .CLU_TSTATE_JBUSY => ⟨.CLU_TSTATE, 6, 6, 0, .ro, .none⟩
  | .CLU_TSTATE_RESOK => ⟨.CLU_TSTATE, 5, 5, 0, .ro, .none⟩
  | .CLU_TSTATE_TSTATE => ⟨.CLU_TSTATE, 2, 1, 0, .ro, .none⟩
  | .CLU_TSTATE_FIELD => ⟨.CLU_TSTATE, 0, 0, 0, .ro, .none⟩
  | .CLU_TCFG_TAGEN => ⟨.CLU_TCFG, 2, 2, 1, .rw, .now⟩
  | .CLU_TCFG_AUTHEN => ⟨.CLU_TCFG, 1, 1, 0, .rw, .now⟩
  | .CLU_TCFG_PWDEN => ⟨.CLU_TCFG, 0, 0, 0, .rw, .now⟩
  | .CLU_TPWD_PWD => ⟨.CLU_TPWD, 31, 0, 0, .wo, .now⟩
  | .CLU_TKEY_KEY => ⟨.CLU_TKEY, 31, 0, 0, .wo, .now⟩
  | .CLU_TCMD_TFAILCLR => ⟨.CLU_TCMD, 2, 2, 0, .wo, .now⟩
  | .CLU_TCMD_LOADKEY => ⟨.CLU_TCMD, 1, 1, 0, .wo, .now⟩
  | .CLU_TCMD_LOADPWD => ⟨.CLU_TCMD, 0, 0, 0, .wo, .now⟩
  | .CLU_TCOUNT_WRITES => ⟨.CLU_TCOUNT, 31, 16, 0, .ro, .none⟩
  | .CLU_TCOUNT_READS => ⟨.CLU_TCOUNT, 15, 0, 0, .ro, .none⟩
  | .BLU_STATUS_SEALBRK => ⟨.BLU_STATUS, 7, 7, 0, .ro, .none⟩
  | .BLU_STATUS_TAMPER => ⟨.BLU_STATUS, 6, 6, 0, .w1c, .now⟩
  | .BLU_STATUS_PF => ⟨.BLU_STATUS, 5, 5, 0, .w1c, .now⟩
  | .BLU_STATUS_STEP => ⟨.BLU_STATUS, 4, 4, 0, .w1c, .now⟩
  | .BLU_STATUS_SETBACK => ⟨.BLU_STATUS, 3, 3, 0, .ro, .none⟩
  | .BLU_STATUS_TINV => ⟨.BLU_STATUS, 2, 2, 1, .ro, .none⟩
  | .BLU_STATUS_TSWREF => ⟨.BLU_STATUS, 1, 1, 0, .w1c, .now⟩
  | .BLU_STATUS_CFGVIOL => ⟨.BLU_STATUS, 0, 0, 0, .w1c, .now⟩
  | .BLU_SNAP_BUSY => ⟨.BLU_SNAP, 1, 1, 0, .ro, .none⟩
  | .BLU_SNAP_SNAP => ⟨.BLU_SNAP, 0, 0, 0, .wo, .now⟩
  | .BLU_TIME_SYNCAGE => ⟨.BLU_TIME, 31, 16, 0xffff, .ro, .none⟩
  | .BLU_TIME_SRC => ⟨.BLU_TIME, 9, 8, 0, .ro, .none⟩
  | .BLU_TIME_VALID => ⟨.BLU_TIME, 0, 0, 0, .ro, .none⟩
  | .BLU_WOFF_L => ⟨.BLU_WOFF_L, 31, 0, 0, .ro, .none⟩
  | .BLU_WOFF_H => ⟨.BLU_WOFF_H, 31, 0, 0, .ro, .none⟩
  | .BLU_HWM_L => ⟨.BLU_HWM_L, 31, 0, 0, .ro, .none⟩
  | .BLU_HWM_H => ⟨.BLU_HWM_H, 31, 0, 0, .ro, .none⟩
  | .BLU_WSET_L => ⟨.BLU_WSET_L, 31, 0, 0, .rw, .now⟩
  | .BLU_WSET_H => ⟨.BLU_WSET_H, 31, 0, 0, .rw, .now⟩
  | .BLU_WCMD_APPLY => ⟨.BLU_WCMD, 0, 0, 0, .wo, .now⟩
  | .BLU_TSWTIME_L => ⟨.BLU_TSWTIME_L, 31, 0, 0, .rw, .now⟩
  | .BLU_TSWTIME_H => ⟨.BLU_TSWTIME_H, 31, 0, 0, .rw, .now⟩
  | .BLU_TSWCTL_GO => ⟨.BLU_TSWCTL, 31, 31, 0, .wo, .now⟩
  | .BLU_TSWCTL_CLRQ => ⟨.BLU_TSWCTL, 30, 30, 0, .wo, .now⟩
  | .BLU_TSWCTL_NOW => ⟨.BLU_TSWCTL, 29, 29, 0, .rw, .now⟩
  | .BLU_TSWCTL_TARIFF => ⟨.BLU_TSWCTL, 12, 8, 0, .rw, .now⟩
  | .BLU_TSWCTL_SCOPE => ⟨.BLU_TSWCTL, 7, 0, 0xff, .rw, .now⟩
  | .BLU_TSWSTAT_LASTREF => ⟨.BLU_TSWSTAT, 23, 16, 0, .ro, .none⟩
  | .BLU_TSWSTAT_PEND => ⟨.BLU_TSWSTAT, 4, 0, 0, .ro, .none⟩
  | .BLU_TAMPCFG_TPOL => ⟨.BLU_TAMPCFG, 7, 4, 0, .ro, .none⟩
  | .BLU_TAMPCFG_TEN => ⟨.BLU_TAMPCFG, 3, 0, 0, .ro, .none⟩
  | .BLU_TAMPER_COUNT => ⟨.BLU_TAMPER, 31, 16, 0, .ro, .none⟩
  | .BLU_TAMPER_LOST => ⟨.BLU_TAMPER, 15, 8, 0, .ro, .none⟩
  | .BLU_TAMPER_NOW => ⟨.BLU_TAMPER, 4, 0, 0, .ro, .none⟩
  | .BLU_PFCNT_PFAILS => ⟨.BLU_PFCNT, 31, 16, 0, .ro, .none⟩
  | .BLU_PFCNT_INTR => ⟨.BLU_PFCNT, 15, 0, 0, .ro, .none⟩
  | .BLU_ESTAT_SCHED => ⟨.BLU_ESTAT, 28, 24, 0, .ro, .none⟩
  | .BLU_ESTAT_TARIFF => ⟨.BLU_ESTAT, 20, 16, 0, .ro, .none⟩
  | .BLU_ESTAT_SEAL => ⟨.BLU_ESTAT, 7, 7, 0, .ro, .none⟩
  | .BLU_ESTAT_TAMP => ⟨.BLU_ESTAT, 6, 6, 0, .ro, .none⟩
  | .BLU_ESTAT_PF => ⟨.BLU_ESTAT, 5, 5, 0, .ro, .none⟩
  | .BLU_ESTAT_TINV => ⟨.BLU_ESTAT, 4, 4, 1, .ro, .none⟩
  | .BLU_ESTAT_STEP => ⟨.BLU_ESTAT, 3, 3, 0, .ro, .none⟩
  | .BLU_ESTAT_DEMAND => ⟨.BLU_ESTAT, 1, 1, 0, .ro, .none⟩
  | .BLU_ESTAT_SESS => ⟨.BLU_ESTAT, 0, 0, 0, .ro, .none⟩
  | .BLU_ESESS_SESSNO => ⟨.BLU_ESESS, 31, 0, 0, .ro, .none⟩
  | .BLU_ESCOST_COST => ⟨.BLU_ESCOST, 31, 0, 0, .ro, .none⟩
  | .BLU_IVNO_IVNO => ⟨.BLU_IVNO, 31, 0, 0, .ro, .none⟩
  | .BLU_IVSTART_IVSTART => ⟨.BLU_IVSTART, 31, 0, 0, .ro, .none⟩
  | .BLU_IVEND_IVEND => ⟨.BLU_IVEND, 31, 0, 0, .ro, .none⟩
  | .BLU_IVE_L => ⟨.BLU_IVE_L, 31, 0, 0, .ro, .none⟩
  | .BLU_IVE_H => ⟨.BLU_IVE_H, 31, 0, 0, .ro, .none⟩
  | .BLU_TREG_L => ⟨.BLU_TREG_L, 31, 0, 0, .ro, .none⟩
  | .BLU_TREG_H => ⟨.BLU_TREG_H, 31, 0, 0, .ro, .none⟩
  | .BLU_SREG_L => ⟨.BLU_SREG_L, 31, 0, 0, .ro, .none⟩
  | .BLU_SREG_H => ⟨.BLU_SREG_H, 31, 0, 0, .ro, .none⟩
  | .BLU_MD_MD => ⟨.BLU_MD, 31, 0, 0, .ro, .none⟩
  | .BLU_MDT_MDT => ⟨.BLU_MDT, 31, 0, 0, .ro, .none⟩
  | .LGS_STATUS_LHWAIT => ⟨.LGS_STATUS, 6, 6, 0, .ro, .none⟩
  | .LGS_STATUS_RETLOW => ⟨.LGS_STATUS, 5, 5, 0, .ro, .none⟩
  | .LGS_STATUS_EARLY => ⟨.LGS_STATUS, 4, 4, 0, .w1c, .now⟩
  | .LGS_STATUS_CRCERR => ⟨.LGS_STATUS, 3, 3, 0, .w1c, .now⟩
  | .LGS_STATUS_DROP => ⟨.LGS_STATUS, 2, 2, 0, .w1c, .now⟩
  | .LGS_STATUS_LHRES => ⟨.LGS_STATUS, 1, 1, 0, .ro, .none⟩
  | .LGS_STATUS_CFGVIOL => ⟨.LGS_STATUS, 0, 0, 0, .w1c, .now⟩
  | .LGS_SNAP_SNAP => ⟨.LGS_SNAP, 0, 0, 0, .wo, .now⟩
  | .LGS_NEXTSEQ_L => ⟨.LGS_NEXTSEQ_L, 31, 0, 1, .ro, .none⟩
  | .LGS_NEXTSEQ_H => ⟨.LGS_NEXTSEQ_H, 15, 0, 0, .ro, .none⟩
  | .LGS_ACKSEQ_L => ⟨.LGS_ACKSEQ_L, 31, 0, 0, .ro, .none⟩
  | .LGS_ACKSEQ_H => ⟨.LGS_ACKSEQ_H, 15, 0, 0, .ro, .none⟩
  | .LGS_RETCFG_TICKMIN => ⟨.LGS_RETCFG, 23, 16, 1, .ro, .none⟩
  | .LGS_RETCFG_RETDAYS => ⟨.LGS_RETCFG, 15, 0, 0x190, .ro, .none⟩
  | .LGS_PAGE_REGION => ⟨.LGS_PAGE, 31, 30, 0, .rw, .now⟩
  | .LGS_PAGE_SLOT => ⟨.LGS_PAGE, 25, 0, 0, .rw, .now⟩
  | .LGS_PAGESTAT_BUSY => ⟨.LGS_PAGESTAT, 31, 31, 0, .ro, .none⟩
  | .LGS_PAGESTAT_BADCRC => ⟨.LGS_PAGESTAT, 12, 0, 0, .ro, .none⟩
  | .LGS_COUNT_EARLY => ⟨.LGS_COUNT, 31, 16, 0, .ro, .none⟩
  | .LGS_COUNT_DROPPED => ⟨.LGS_COUNT, 15, 0, 0, .ro, .none⟩
  | .LGS_PFSTAT_PFREC => ⟨.LGS_PFSTAT, 31, 16, 0, .ro, .none⟩
  | .LGS_PFSTAT_PFDONE => ⟨.LGS_PFSTAT, 15, 0, 0, .ro, .none⟩
  | .LGS_RFILL_FILL => ⟨.LGS_RFILL, 25, 0, 0, .ro, .none⟩
  | .LGS_RHEAD_HEAD => ⟨.LGS_RHEAD, 25, 0, 0, .ro, .none⟩
  | .LGS_ROLD_L => ⟨.LGS_ROLD_L, 31, 0, 0, .ro, .none⟩
  | .LGS_ROLD_H_AGE => ⟨.LGS_ROLD_H, 25, 16, 0, .ro, .none⟩
  | .LGS_ROLD_H => ⟨.LGS_ROLD_H, 15, 0, 0, .ro, .none⟩
  | .ALK_STATUS_RLATE => ⟨.ALK_STATUS, 6, 6, 0, .w1c, .now⟩
  | .ALK_STATUS_ROUTECHG => ⟨.ALK_STATUS, 5, 5, 0, .w1c, .now⟩
  | .ALK_STATUS_NODELOST => ⟨.ALK_STATUS, 4, 4, 0, .w1c, .now⟩
  | .ALK_STATUS_JOINREF => ⟨.ALK_STATUS, 3, 3, 0, .w1c, .now⟩
  | .ALK_STATUS_QFULL => ⟨.ALK_STATUS, 2, 2, 0, .w1c, .now⟩
  | .ALK_STATUS_RUNNING => ⟨.ALK_STATUS, 1, 1, 0, .ro, .none⟩
  | .ALK_STATUS_CFGVIOL => ⟨.ALK_STATUS, 0, 0, 0, .w1c, .now⟩
  | .ALK_SNAP_SNAP => ⟨.ALK_SNAP, 0, 0, 0, .wo, .now⟩
  | .ALK_CFG_PASSES => ⟨.ALK_CFG, 23, 20, 0, .ro, .none⟩
  | .ALK_CFG_MAXHOP => ⟨.ALK_CFG, 19, 16, 0, .ro, .none⟩
  | .ALK_CFG_NODES => ⟨.ALK_CFG, 15, 8, 0, .ro, .none⟩
  | .ALK_CFG_PORTS => ⟨.ALK_CFG, 5, 4, 0, .ro, .none⟩
  | .ALK_CFG_SPAN => ⟨.ALK_CFG, 3, 2, 0, .ro, .none⟩
  | .ALK_CFG_BAND => ⟨.ALK_CFG, 0, 0, 0, .ro, .none⟩
  | .ALK_CTL_TXATT => ⟨.ALK_CTL, 12, 8, 0, .rw, .idleOnly⟩
  | .ALK_CTL_RESTART => ⟨.ALK_CTL, 1, 1, 0, .wo, .now⟩
  | .ALK_CTL_RUN => ⟨.ALK_CTL, 0, 0, 1, .rw, .now⟩
  | .ALK_ROUND_SEQ => ⟨.ALK_ROUND, 31, 24, 0, .ro, .none⟩
  | .ALK_ROUND_PASSES => ⟨.ALK_ROUND, 23, 16, 0, .ro, .none⟩
  | .ALK_ROUND_REPOLLS => ⟨.ALK_ROUND, 15, 8, 0, .ro, .none⟩
  | .ALK_ROUND_FAILS => ⟨.ALK_ROUND, 7, 0, 0, .ro, .none⟩
  | .ALK_ROUNDT_MAXT => ⟨.ALK_ROUNDT, 31, 16, 0, .ro, .none⟩
  | .ALK_ROUNDT_LASTT => ⟨.ALK_ROUNDT, 15, 0, 0, .ro, .none⟩
  | .ALK_NSTAT_PARENT => ⟨.ALK_NSTAT, 31, 24, 0xff, .ro, .none⟩
  | .ALK_NSTAT_HOP => ⟨.ALK_NSTAT, 23, 20, 0, .ro, .none⟩
  | .ALK_NSTAT_COST => ⟨.ALK_NSTAT, 19, 16, 0, .ro, .none⟩
  | .ALK_NSTAT_FIRST => ⟨.ALK_NSTAT, 15, 8, 0, .ro, .none⟩
  | .ALK_NSTAT_W => ⟨.ALK_NSTAT, 7, 4, 0, .ro, .none⟩
  | .ALK_NSTAT_STATE => ⟨.ALK_NSTAT, 3, 2, 0, .ro, .none⟩
  | .ALK_NSTAT_RELAY => ⟨.ALK_NSTAT, 1, 1, 0, .ro, .none⟩
  | .ALK_NSTAT_PORT => ⟨.ALK_NSTAT, 0, 0, 0, .ro, .none⟩
  | .ALK_NCNT_FAILS => ⟨.ALK_NCNT, 31, 16, 0, .ro, .none⟩
  | .ALK_NCNT_REPOLLS => ⟨.ALK_NCNT, 15, 0, 0, .ro, .none⟩
  | .ALK_NLINK_SNRUP => ⟨.ALK_NLINK, 31, 24, 0, .ro, .none⟩
  | .ALK_NLINK_ERASE => ⟨.ALK_NLINK, 23, 16, 0, .ro, .none⟩
  | .ALK_NLINK_UPQ => ⟨.ALK_NLINK, 7, 4, 0, .ro, .none⟩
  | .ALK_NLINK_DNQ => ⟨.ALK_NLINK, 3, 0, 0, .ro, .none⟩
  | .ALK_NVER_VERSION => ⟨.ALK_NVER, 31, 8, 0, .ro, .none⟩
  | .ALK_NVER_BANK => ⟨.ALK_NVER, 2, 2, 0, .ro, .none⟩
  | .ALK_NVER_PEND => ⟨.ALK_NVER, 1, 1, 0, .ro, .none⟩
  | .ALK_NVER_CONF => ⟨.ALK_NVER, 0, 0, 0, .ro, .none⟩
  | .HPU_IDENT_DEVTYPE => ⟨.HPU_IDENT, 31, 0, 0x2464, .ro, .none⟩
  | .HPU_STATUS_SPIERR => ⟨.HPU_STATUS, 5, 5, 0, .w1c, .now⟩
  | .HPU_STATUS_BADHDR => ⟨.HPU_STATUS, 4, 4, 0, .w1c, .now⟩
  | .HPU_STATUS_QDROP => ⟨.HPU_STATUS, 3, 3, 0, .w1c, .now⟩
  | .HPU_STATUS_DNOVF => ⟨.HPU_STATUS, 2, 2, 0, .w1c, .now⟩
  | .HPU_STATUS_FRST => ⟨.HPU_STATUS, 1, 1, 0, .w1c, .now⟩
  | .HPU_STATUS_CFGVIOL => ⟨.HPU_STATUS, 0, 0, 0, .w1c, .now⟩
  | .HPU_SNAP_SNAP => ⟨.HPU_SNAP, 0, 0, 0, .wo, .now⟩
  | .HPU_SPICFG_DNRST => ⟨.HPU_SPICFG, 31, 31, 0, .wo, .now⟩
  | .HPU_SPICFG_UPRST => ⟨.HPU_SPICFG, 30, 30, 0, .wo, .now⟩
  | .HPU_SPICFG_UPTO => ⟨.HPU_SPICFG, 23, 8, 0xc8, .rw, .now⟩
  | .HPU_SPICFG_DUMMY => ⟨.HPU_SPICFG, 7, 0, 0x20, .rw, .frame⟩
  | .HPU_WMARK_UPHI => ⟨.HPU_WMARK, 31, 24, 0x10, .rw, .now⟩
  | .HPU_WMARK_UPLO => ⟨.HPU_WMARK, 23, 16, 0, .rw, .now⟩
  | .HPU_WMARK_DNHI => ⟨.HPU_WMARK, 15, 8, 0xc0, .rw, .now⟩
  | .HPU_WMARK_DNLO => ⟨.HPU_WMARK, 7, 0, 0x80, .rw, .now⟩
  | .HPU_FIFOSTAT_UPOCC => ⟨.HPU_FIFOSTAT, 31, 15, 0, .ro, .none⟩
  | .HPU_FIFOSTAT_DNOCC => ⟨.HPU_FIFOSTAT, 14, 0, 0, .ro, .none⟩
  | .HPU_COUNT_FRSTS => ⟨.HPU_COUNT, 31, 16, 0, .ro, .none⟩
  | .HPU_COUNT_DROPS => ⟨.HPU_COUNT, 15, 0, 0, .ro, .none⟩
  | .NTU_STATUS_CANOFF => ⟨.NTU_STATUS, 5, 5, 0, .w1c, .now⟩
  | .NTU_STATUS_LINKCHG => ⟨.NTU_STATUS, 4, 4, 0, .w1c, .now⟩
  | .NTU_STATUS_STEPPED => ⟨.NTU_STATUS, 3, 3, 0, .w1c, .now⟩
  | .NTU_STATUS_HOLDOVER => ⟨.NTU_STATUS, 2, 2, 0, .w1c, .now⟩
  | .NTU_STATUS_LOCKED => ⟨.NTU_STATUS, 1, 1, 0, .ro, .none⟩
  | .NTU_STATUS_CFGVIOL => ⟨.NTU_STATUS, 0, 0, 0, .w1c, .now⟩
  | .NTU_SNAP_SNAP => ⟨.NTU_SNAP, 0, 0, 0, .wo, .now⟩
  | .NTU_PTP_RATE => ⟨.NTU_PTP, 31, 16, 0, .ro, .none⟩
  | .NTU_PTP_DOMAIN => ⟨.NTU_PTP, 15, 8, 0, .ro, .none⟩
  | .NTU_PTP_MPORT => ⟨.NTU_PTP, 5, 4, 0, .ro, .none⟩
  | .NTU_PTP_STATE => ⟨.NTU_PTP, 2, 0, 0, .ro, .none⟩
  | .NTU_TIME_L => ⟨.NTU_TIME_L, 31, 0, 0, .ro, .none⟩
  | .NTU_TIME_H => ⟨.NTU_TIME_H, 15, 0, 0, .ro, .none⟩
  | .NTU_TIME_NS_NS => ⟨.NTU_TIME_NS, 31, 0, 0, .ro, .none⟩
  | .NTU_FRC_FRC => ⟨.NTU_FRC, 31, 0, 0, .ro, .none⟩
  | .NTU_OFFSET_OFFSET => ⟨.NTU_OFFSET, 31, 0, 0, .ro, .none⟩
  | .NTU_CMP_TARGET => ⟨.NTU_CMP, 31, 0, 0, .rw, .now⟩
  | .NTU_CMPCTL_FIRED => ⟨.NTU_CMPCTL, 2, 2, 0, .w1c, .now⟩
  | .NTU_CMPCTL_MODE => ⟨.NTU_CMPCTL, 1, 1, 0, .rw, .now⟩
  | .NTU_CMPCTL_ARM => ⟨.NTU_CMPCTL, 0, 0, 0, .rw, .now⟩
  | .NTU_PORT_MAXRES => ⟨.NTU_PORT, 31, 16, 0, .ro, .none⟩
  | .NTU_PORT_SPEED => ⟨.NTU_PORT, 3, 2, 0, .ro, .none⟩
  | .NTU_PORT_LINK => ⟨.NTU_PORT, 0, 0, 0, .ro, .none⟩
  | .NTU_CAN_TEC => ⟨.NTU_CAN, 31, 24, 0, .ro, .none⟩
  | .NTU_CAN_REC => ⟨.NTU_CAN, 23, 16, 0, .ro, .none⟩
  | .NTU_CAN_STATE => ⟨.NTU_CAN, 1, 0, 3, .ro, .none⟩
  | .NTU_MB_MISSES => ⟨.NTU_MB, 31, 16, 0, .ro, .none⟩
  | .NTU_MB_EXC => ⟨.NTU_MB, 15, 8, 0, .ro, .none⟩
  | .NTU_MB_STATE => ⟨.NTU_MB, 1, 0, 0, .ro, .none⟩
  | .SEC_STATUS_FAIL => ⟨.SEC_STATUS, 4, 4, 0, .ro, .none⟩
  | .SEC_STATUS_DRBGF => ⟨.SEC_STATUS, 3, 3, 0, .ro, .none⟩
  | .SEC_STATUS_AUTHF => ⟨.SEC_STATUS, 2, 2, 0, .w1c, .now⟩
  | .SEC_STATUS_PEND => ⟨.SEC_STATUS, 1, 1, 0, .ro, .none⟩
  | .SEC_STATUS_CFGVIOL => ⟨.SEC_STATUS, 0, 0, 0, .w1c, .now⟩
  | .SEC_SNAP_SNAP => ⟨.SEC_SNAP, 0, 0, 0, .wo, .now⟩
  | .SEC_LC_RECOMM => ⟨.SEC_LC, 9, 8, 0, .ro, .none⟩
  | .SEC_LC_DBGOPEN => ⟨.SEC_LC, 4, 4, 0, .ro, .none⟩
  | .SEC_LC_STATE => ⟨.SEC_LC, 2, 0, 2, .ro, .none⟩
  | .SEC_SCNEXT_SCNEXT => ⟨.SEC_SCNEXT, 31, 0, 1, .ro, .none⟩
  | .SEC_QUEUE_PEAK => ⟨.SEC_QUEUE, 22, 16, 0, .ro, .none⟩
  | .SEC_QUEUE_INQ => ⟨.SEC_QUEUE, 6, 0, 0, .ro, .none⟩
  | .SEC_REMASK_REMASK => ⟨.SEC_REMASK, 31, 0, 0, .ro, .none⟩
  | .SEC_COUNT_AUTHFAIL => ⟨.SEC_COUNT, 31, 16, 0, .ro, .none⟩
  | .SEC_COUNT_OPERR => ⟨.SEC_COUNT, 15, 0, 0, .ro, .none⟩
  | .SEC_SLOTSEL_SLOT => ⟨.SEC_SLOTSEL, 6, 0, 0, .rw, .now⟩
  | .SEC_SLOTATTR_ATTR => ⟨.SEC_SLOTATTR, 31, 0, 0, .ro, .none⟩
  | .SEC_SLOTPEND_PATTR => ⟨.SEC_SLOTPEND, 31, 0, 0, .ro, .none⟩
  | .SEC_SLOTID_L => ⟨.SEC_SLOTID_L, 31, 0, 0, .ro, .none⟩
  | .SEC_SLOTID_H => ⟨.SEC_SLOTID_H, 31, 0, 0, .ro, .none⟩
  | .DSE_STATUS_LEDGERF => ⟨.DSE_STATUS, 6, 6, 0, .w1c, .now⟩
  | .DSE_STATUS_COMPSAT => ⟨.DSE_STATUS, 5, 5, 0, .w1c, .now⟩
  | .DSE_STATUS_VFAULT => ⟨.DSE_STATUS, 4, 4, 0, .ro, .none⟩
  | .DSE_STATUS_PFSTOP => ⟨.DSE_STATUS, 3, 3, 0, .w1c, .now⟩
  | .DSE_STATUS_BUSY => ⟨.DSE_STATUS, 2, 2, 0, .ro, .none⟩
  | .DSE_STATUS_STALE => ⟨.DSE_STATUS, 1, 1, 0, .ro, .none⟩
  | .DSE_STATUS_CFGVIOL => ⟨.DSE_STATUS, 0, 0, 0, .w1c, .now⟩
  | .DSE_SNAP_SNAP => ⟨.DSE_SNAP, 0, 0, 0, .wo, .now⟩
  | .DSE_CTL_MODE => ⟨.DSE_CTL, 8, 8, 0, .rw, .idleOnly⟩
  | .DSE_CTL_TEST => ⟨.DSE_CTL, 1, 1, 0, .wo, .idleOnly⟩
  | .DSE_CTL_UPDATE => ⟨.DSE_CTL, 0, 0, 0, .wo, .now⟩
  | .DSE_LNMASK_LNMASK => ⟨.DSE_LNMASK, 23, 0, 0xffffff, .rw, .session⟩
  | .DSE_VMEAS_VDH => ⟨.DSE_VMEAS, 31, 16, 0, .ro, .none⟩
  | .DSE_VMEAS_VDL => ⟨.DSE_VMEAS, 15, 0, 0, .ro, .none⟩
  | .DSE_LNSTAT_OUTLET => ⟨.DSE_LNSTAT, 31, 24, 0xff, .ro, .none⟩
  | .DSE_LNSTAT_PEND => ⟨.DSE_LNSTAT, 1, 1, 0, .ro, .none⟩
  | .DSE_LNSTAT_MARK => ⟨.DSE_LNSTAT, 0, 0, 0, .ro, .none⟩
  | .DSE_LNSEQ_SESSNO => ⟨.DSE_LNSEQ, 31, 0, 0, .ro, .none⟩
  | .DSE_SSEL_GROUP => ⟨.DSE_SSEL, 9, 0, 0, .rw, .now⟩
  | .DSE_STRESSV_STRESS => ⟨.DSE_STRESSV, 31, 0, 0, .ro, .none⟩
  | .DSE_COUNT_PFSTOPS => ⟨.DSE_COUNT, 31, 16, 0, .ro, .none⟩
  | .DSE_COUNT_UPDATES => ⟨.DSE_COUNT, 15, 0, 0, .ro, .none⟩
  | .BCU_STATUS_GHEXP => ⟨.BCU_STATUS, 8, 8, 0, .w1c, .now⟩
  | .BCU_STATUS_GHOLD => ⟨.BCU_STATUS, 7, 7, 0, .ro, .none⟩
  | .BCU_STATUS_XT32F => ⟨.BCU_STATUS, 6, 6, 0, .w1c, .now⟩
  | .BCU_STATUS_OVV => ⟨.BCU_STATUS, 5, 5, 0, .w1c, .now⟩
  | .BCU_STATUS_DIP => ⟨.BCU_STATUS, 4, 4, 0, .w1c, .now⟩
  | .BCU_STATUS_HUFAULT => ⟨.BCU_STATUS, 3, 3, 0, .ro, .none⟩
  | .BCU_STATUS_VBATLOW => ⟨.BCU_STATUS, 2, 2, 0, .ro, .none⟩
  | .BCU_STATUS_CFGVIOL => ⟨.BCU_STATUS, 0, 0, 0, .w1c, .now⟩
  | .BCU_SNAP_SNAP => ⟨.BCU_SNAP, 0, 0, 0, .wo, .now⟩
  | .BCU_SUPPLY_VIN => ⟨.BCU_SUPPLY, 31, 16, 0, .ro, .none⟩
  | .BCU_SUPPLY_VHOLD => ⟨.BCU_SUPPLY, 15, 0, 0, .ro, .none⟩
  | .BCU_VBAT_SRC => ⟨.BCU_VBAT, 17, 16, 0, .ro, .none⟩
  | .BCU_VBAT_VBAT => ⟨.BCU_VBAT, 15, 0, 0, .ro, .none⟩
  | .BCU_HOLDCAP_CAP => ⟨.BCU_HOLDCAP, 15, 0, 0, .ro, .none⟩
  | .BCU_PFCFG_PFRIDE => ⟨.BCU_PFCFG, 7, 0, 0xa, .rw, .now⟩
  | .BCU_RSTCAUSE_CAUSE => ⟨.BCU_RSTCAUSE, 3, 0, 1, .ro, .none⟩
  | .BCU_RSTCMD_KEY => ⟨.BCU_RSTCMD, 31, 24, 0, .wo, .now⟩
  | .BCU_RSTCMD_INDEX => ⟨.BCU_RSTCMD, 23, 16, 0, .wo, .now⟩
  | .BCU_RSTCMD_UNIT => ⟨.BCU_RSTCMD, 15, 8, 0, .wo, .now⟩
  | .BCU_RSTCMD_CMD => ⟨.BCU_RSTCMD, 2, 0, 0, .wo, .now⟩
  | .BCU_WDT_KICK => ⟨.BCU_WDT, 31, 31, 0, .wo, .now⟩
  | .BCU_WDT_WDTO => ⟨.BCU_WDT, 15, 0, 0x64, .rw, .now⟩
  | .BCU_GHCTL_GUYHOLD => ⟨.BCU_GHCTL, 25, 16, 0x12c, .ro, .none⟩
  | .BCU_GHCTL_HEALTHY => ⟨.BCU_GHCTL, 1, 1, 0, .wo, .now⟩
  | .BCU_GHCTL_TAKE => ⟨.BCU_GHCTL, 0, 0, 0, .wo, .now⟩
  | .BCU_GHSTAT_UNHEALTHY => ⟨.BCU_GHSTAT, 19, 16, 0, .ro, .none⟩
  | .BCU_GHSTAT_ELAPSED => ⟨.BCU_GHSTAT, 15, 0, 0, .ro, .none⟩
  | .BCU_GHOUT_SHUT => ⟨.BCU_GHOUT, 23, 0, 0, .ro, .none⟩
  | .BCU_LTIME_L => ⟨.BCU_LTIME_L, 31, 0, 0, .ro, .none⟩
  | .BCU_LTIME_H => ⟨.BCU_LTIME_H, 31, 0, 0, .ro, .none⟩
  | .BCU_COUNT_WARM => ⟨.BCU_COUNT, 31, 16, 0, .ro, .none⟩
  | .BCU_COUNT_COLD => ⟨.BCU_COUNT, 15, 0, 0, .ro, .none⟩
  | .CGU_STATUS_PLLF => ⟨.CGU_STATUS, 6, 6, 0, .w1c, .now⟩
  | .CGU_STATUS_XTFAIL => ⟨.CGU_STATUS, 5, 5, 0, .w1c, .now⟩
  | .CGU_STATUS_ONINT => ⟨.CGU_STATUS, 4, 4, 1, .ro, .none⟩
  | .CGU_STATUS_PLLOK => ⟨.CGU_STATUS, 3, 3, 0, .ro, .none⟩
  | .CGU_STATUS_XTOK => ⟨.CGU_STATUS, 2, 2, 0, .ro, .none⟩
  | .CGU_STATUS_FCBUSY => ⟨.CGU_STATUS, 1, 1, 0, .ro, .none⟩
  | .CGU_STATUS_CFGVIOL => ⟨.CGU_STATUS, 0, 0, 0, .w1c, .now⟩
  | .CGU_CFG_MODCLK => ⟨.CGU_CFG, 17, 16, 0, .ro, .none⟩
  | .CGU_CFG_PROVE => ⟨.CGU_CFG, 15, 0, 0, .ro, .none⟩
  | .CGU_CLKEN_T1S => ⟨.CGU_CLKEN, 23, 16, 0xff, .rw, .now⟩
  | .CGU_CLKEN_ETH => ⟨.CGU_CLKEN, 15, 12, 0xf, .rw, .now⟩
  | .CGU_CLKEN_RS485 => ⟨.CGU_CLKEN, 11, 10, 3, .rw, .now⟩
  | .CGU_CLKEN_CAN => ⟨.CGU_CLKEN, 9, 6, 0xf, .rw, .now⟩
  | .CGU_CLKEN_SDC => ⟨.CGU_CLKEN, 5, 5, 1, .rw, .now⟩
  | .CGU_CLKEN_USBH => ⟨.CGU_CLKEN, 4, 4, 1, .rw, .now⟩
  | .CGU_CLKEN_HSP => ⟨.CGU_CLKEN, 3, 3, 1, .rw, .now⟩
  | .CGU_CLKEN_DSE => ⟨.CGU_CLKEN, 2, 2, 1, .rw, .now⟩
  | .CGU_CLKEN_ALK => ⟨.CGU_CLKEN, 1, 1, 1, .rw, .now⟩
  | .CGU_CLKEN_CLU => ⟨.CGU_CLKEN, 0, 0, 1, .rw, .now⟩
  | .CGU_FCCTL_START => ⟨.CGU_FCCTL, 31, 31, 0, .wo, .now⟩
  | .CGU_FCCTL_WIN => ⟨.CGU_FCCTL, 20, 16, 0x14, .rw, .now⟩
  | .CGU_FCCTL_REF => ⟨.CGU_FCCTL, 7, 4, 0, .rw, .now⟩
  | .CGU_FCCTL_MEAS => ⟨.CGU_FCCTL, 3, 0, 1, .rw, .now⟩
  | .CGU_FCRES_COUNT => ⟨.CGU_FCRES, 31, 0, 0, .ro, .none⟩
  | .UPD_STATUS_STATE => ⟨.UPD_STATUS, 31, 8, 0, .ro, .none⟩
  | .UPD_STATUS_MEDIA => ⟨.UPD_STATUS, 3, 3, 0, .ro, .none⟩
  | .UPD_STATUS_SETDUAL => ⟨.UPD_STATUS, 2, 2, 0, .ro, .none⟩
  | .UPD_STATUS_REFUSED => ⟨.UPD_STATUS, 1, 1, 0, .w1c, .now⟩
  | .UPD_STATUS_CFGVIOL => ⟨.UPD_STATUS, 0, 0, 0, .w1c, .now⟩
  | .UPD_SNAP_SNAP => ⟨.UPD_SNAP, 0, 0, 0, .wo, .now⟩
  | .UPD_CMD_CMD => ⟨.UPD_CMD, 2, 0, 0, .wo, .now⟩
  | .UPD_RESULT_DETAIL => ⟨.UPD_RESULT, 15, 8, 0, .ro, .none⟩
  | .UPD_RESULT_REASON => ⟨.UPD_RESULT, 7, 0, 0, .ro, .none⟩
  | .UPD_UPDID_UPDID => ⟨.UPD_UPDID, 31, 0, 0, .ro, .none⟩
  | .UPD_ACTTIME_L => ⟨.UPD_ACTTIME_L, 31, 0, 0, .rw, .now⟩
  | .UPD_ACTTIME_H => ⟨.UPD_ACTTIME_H, 15, 0, 0, .rw, .now⟩
  | .UPD_PROGRESS_PART => ⟨.UPD_PROGRESS, 31, 24, 0, .ro, .none⟩
  | .UPD_PROGRESS_DONE => ⟨.UPD_PROGRESS, 23, 0, 0, .ro, .none⟩
  | .UPD_TRIAL_LEFT => ⟨.UPD_TRIAL, 15, 0, 0, .ro, .none⟩
  | .UPD_PSEL_IMGID => ⟨.UPD_PSEL, 31, 16, 0, .rw, .now⟩
  | .UPD_PSEL_KIND => ⟨.UPD_PSEL, 15, 8, 1, .rw, .now⟩
  | .UPD_PSEL_UNIT => ⟨.UPD_PSEL, 7, 0, 0, .rw, .now⟩
  | .UPD_PVER_VERSION => ⟨.UPD_PVER, 31, 0, 0, .ro, .none⟩
  | .UPD_PCTR_COUNTER => ⟨.UPD_PCTR, 31, 0, 0, .ro, .none⟩
  | .UPD_COUNT_FALLBACKS => ⟨.UPD_COUNT, 31, 16, 0, .ro, .none⟩
  | .UPD_COUNT_COMMITS => ⟨.UPD_COUNT, 15, 0, 0, .ro, .none⟩
  | .ID_SERIAL_SERIAL => ⟨.ID_SERIAL, 31, 0, 0, .ro, .none⟩
  | .ID_LIFE_EQH => ⟨.ID_LIFE, 31, 0, 0, .ro, .none⟩
  | .ID_RUNTIME_HOURS => ⟨.ID_RUNTIME, 31, 0, 0, .ro, .none⟩
  | .ID_TCASE_TMAX => ⟨.ID_TCASE, 31, 16, 0x8000, .ro, .none⟩
  | .ID_TCASE_TNOW => ⟨.ID_TCASE, 15, 0, 0x8000, .ro, .none⟩
  | .ID_FLASH_WEAR => ⟨.ID_FLASH, 31, 24, 0, .ro, .none⟩
  | .ID_FLASH_SPARE => ⟨.ID_FLASH, 23, 16, 0x64, .ro, .none⟩
  | .ID_FLASH_WRITTEN => ⟨.ID_FLASH, 15, 0, 0, .ro, .none⟩

/-- The width of a field in bits. -/
def Fld.width (f : Fld) : Nat := f.info.hi + 1 - f.info.lo

/-- The reset value of a field. -/
def Fld.resetValue (f : Fld) : Nat := f.info.reset

/-- The unit that holds a field. -/
def Fld.unit (f : Fld) : UnitId := f.info.reg.loc.unit

/-- The fields of a register, from the highest bits to the lowest. -/
def Reg.fields : Reg → List Fld
  | .FAB_STATUS => [.FAB_STATUS_ESCAL, .FAB_STATUS_VOVF, .FAB_STATUS_CFGVIOL]
  | .FAB_FROZEN => [.FAB_FROZEN_FROZEN]
  | .FAB_RELEASE => [.FAB_RELEASE_RELEASE]
  | .FAB_VCOUNT => [.FAB_VCOUNT_VTOTAL, .FAB_VCOUNT_VPEND]
  | .FAB_VREC0 => [.FAB_VREC0_ACCESS, .FAB_VREC0_TARGET, .FAB_VREC0_MASTER]
  | .FAB_VREC1 => [.FAB_VREC1_ADDR]
  | .FAB_VREC2 => [.FAB_VREC2_TIME_L]
  | .FAB_VREC3 => [.FAB_VREC3_TIME_H]
  | .FAB_VPOP => [.FAB_VPOP_POP]
  | .FAB_TAGS => [.FAB_TAGS_PEAK, .FAB_TAGS_INFLIGHT]
  | .FAB_DECERR => [.FAB_DECERR_DECERR]
  | .PPL_STATUS => [.PPL_STATUS_REJECT, .PPL_STATUS_STATE, .PPL_STATUS_CFGVIOL]
  | .PPL_CMD => [.PPL_CMD_CMD]
  | .PPL_PLANID => [.PPL_PLANID_PLANID]
  | .PPL_PLANVER => [.PPL_PLANVER_PLANVER]
  | .PPL_SAFECV => [.PPL_SAFECV_SAFECV]
  | .PPL_LEGALCV => [.PPL_LEGALCV_LEGALCV]
  | .PPL_STGVER => [.PPL_STGVER_STGVER]
  | .PPL_STGSAFECV => [.PPL_STGSAFECV_STGSAFECV]
  | .PPL_WAIT => [.PPL_WAIT_WAIT]
  | .PPL_SECTCRC => [.PPL_SECTCRC_CRC]
  | .SCH_STATUS => [.SCH_STATUS_REFUSED, .SCH_STATUS_MISS, .SCH_STATUS_CFGVIOL]
  | .SCH_SNAP => [.SCH_SNAP_SNAP]
  | .SCH_SEL => [.SCH_SEL_STREAM]
  | .SCH_MARGIN => [.SCH_MARGIN_MARGIN]
  | .SCH_MISSES => [.SCH_MISSES_SMISS, .SCH_MISSES_TMISS]
  | .SCH_REFUSALS => [.SCH_REFUSALS_LAST, .SCH_REFUSALS_COUNT]
  | .SCH_OPEN => [.SCH_OPEN_OPEN, .SCH_OPEN_TOTAL]
  | .OIU_STATUS => [.OIU_STATUS_UNAVAIL, .OIU_STATUS_WELD, .OIU_STATUS_LOCKF, .OIU_STATUS_TEMPF, .OIU_STATUS_DIODE, .OIU_STATUS_PPF, .OIU_STATUS_CUT, .OIU_STATUS_DERATE, .OIU_STATUS_CFGVIOL]
  | .OIU_SNAP => [.OIU_SNAP_SNAP]
  | .OIU_CPCTL => [.OIU_CPCTL_CSEN, .OIU_CPCTL_DALLOW, .OIU_CPCTL_DMODE, .OIU_CPCTL_GEN]
  | .OIU_CPDUTY => [.OIU_CPDUTY_DUTY, .OIU_CPDUTY_ILIM]
  | .OIU_CPSTATE => [.OIU_CPSTATE_ICODE, .OIU_CPSTATE_DUTYOUT, .OIU_CPSTATE_PEND, .OIU_CPSTATE_STATE]
  | .OIU_CPMEAS => [.OIU_CPMEAS_VHI, .OIU_CPMEAS_VLO]
  | .OIU_PPCS => [.OIU_PPCS_RES, .OIU_PPCS_RATING, .OIU_PPCS_CODE]
  | .OIU_LOCK => [.OIU_LOCK_TRIES, .OIU_LOCK_LSTATE, .OIU_LOCK_LKFB, .OIU_LOCK_UNLOCK, .OIU_LOCK_LOCK]
  | .OIU_TIMER => [.OIU_TIMER_C1MAX, .OIU_TIMER_LKPULSE, .OIU_TIMER_LKCONF, .OIU_TIMER_WELDT]
  | .OIU_TEMP => [.OIU_TEMP_TSB, .OIU_TEMP_TSA]
  | .OIU_CONTACT => [.OIU_CONTACT_MISSING, .OIU_CONTACT_ZREQ, .OIU_CONTACT_CFB, .OIU_CONTACT_CMD, .OIU_CONTACT_CLOSE_EN]
  | .OIU_COUNT => [.OIU_COUNT_STCHG, .OIU_COUNT_REJECT]
  | .VCE_STATUS => [.VCE_STATUS_RXFULL, .VCE_STATUS_SLACAMB, .VCE_STATUS_OFFLOAD, .VCE_STATUS_CFGVIOL]
  | .VCE_SNAP => [.VCE_SNAP_SNAP]
  | .VCE_CTL => [.VCE_CTL_SLACMARG]
  | .VCE_LANE => [.VCE_LANE_PPDU, .VCE_LANE_ON, .VCE_LANE_BOUND]
  | .VCE_OLINK => [.VCE_OLINK_ATTEN, .VCE_OLINK_GEN, .VCE_OLINK_MEDIUM, .VCE_OLINK_LSTATE]
  | .VCE_OSVC => [.VCE_OSVC_DYN, .VCE_OSVC_TLS, .VCE_OSVC_AUTH, .VCE_OSVC_SVC]
  | .VCE_ORX => [.VCE_ORX_RXMSG, .VCE_ORX_RXPEND]
  | .VCE_OERR => [.VCE_OERR_FECERR, .VCE_OERR_SLACTRY, .VCE_OERR_LOOPRSP]
  | .VCE_OCMD => [.VCE_OCMD_RESULT, .VCE_OCMD_CMD]
  | .VCE_OCFG => [.VCE_OCFG_TXATT, .VCE_OCFG_FWD]
  | .MEU_STATUS => [.MEU_STATUS_CKPTR, .MEU_STATUS_BANK, .MEU_STATUS_INTSAT, .MEU_STATUS_ZXTO, .MEU_STATUS_NEARFS, .MEU_STATUS_MODF, .MEU_STATUS_CFGVIOL]
  | .MEU_SNAP => [.MEU_SNAP_BUSY, .MEU_SNAP_SNAP]
  | .MEU_CTL => [.MEU_CTL_BANKSEL]
  | .MEU_CALCV => [.MEU_CALCV_CALCV]
  | .MEU_CALSEQ => [.MEU_CALSEQ_CALSEQ]
  | .MEU_CHSTAT => [.MEU_CHSTAT_ELEM, .MEU_CHSTAT_QTY, .MEU_CHSTAT_RATE, .MEU_CHSTAT_PLSREJ, .MEU_CHSTAT_INTSAT, .MEU_CHSTAT_NEARFS, .MEU_CHSTAT_ZXTO, .MEU_CHSTAT_MODF]
  | .MEU_CHSAMP => [.MEU_CHSAMP_SAMPLE]
  | .MEU_CHRMS => [.MEU_CHRMS_RMS]
  | .MEU_CHPEAK => [.MEU_CHPEAK_PEAK]
  | .MEU_CHENV => [.MEU_CHENV_ENV]
  | .MEU_CHFREQ => [.MEU_CHFREQ_FREQ]
  | .MEU_CHCTL => [.MEU_CHCTL_PKCLR, .MEU_CHCTL_ENVTC, .MEU_CHCTL_RMSCYC, .MEU_CHCTL_ZXTO]
  | .MEU_CHBANK => [.MEU_CHBANK_MALEN1, .MEU_CHBANK_MALEN0]
  | .MEU_CHDELAY => [.MEU_CHDELAY_DELAY1, .MEU_CHDELAY_DELAY0]
  | .MEU_CHGAIN => [.MEU_CHGAIN_GAIN]
  | .MEU_CHOFFS => [.MEU_CHOFFS_OFFS]
  | .MEU_CHINT => [.MEU_CHINT_ID, .MEU_CHINT_RSHIFT, .MEU_CHINT_INTK]
  | .MEU_ESTAT => [.MEU_ESTAT_FAULTT, .MEU_ESTAT_QUAD, .MEU_ESTAT_SESS, .MEU_ESTAT_ZXTO, .MEU_ESTAT_FAULT, .MEU_ESTAT_DC]
  | .MEU_EPWR => [.MEU_EPWR_P]
  | .MEU_EQPWR => [.MEU_EQPWR_Q]
  | .MEU_EREG_L => [.MEU_EREG_L]
  | .MEU_EREG_H => [.MEU_EREG_H]
  | .MEU_SESS_L => [.MEU_SESS_L]
  | .MEU_SESS_H => [.MEU_SESS_H]
  | .EFU_STATUS => [.EFU_STATUS_IMDF, .EFU_STATUS_IWARN, .EFU_STATUS_IALARM, .EFU_STATUS_LOCK, .EFU_STATUS_TRIP, .EFU_STATUS_CFGVIOL]
  | .EFU_SNAP => [.EFU_SNAP_SNAP]
  | .EFU_RCMSTAT => [.EFU_RCMSTAT_OUTLET, .EFU_RCMSTAT_BAND, .EFU_RCMSTAT_TSTATE, .EFU_RCMSTAT_TSTEP, .EFU_RCMSTAT_LOCKOUT, .EFU_RCMSTAT_TRIP]
  | .EFU_RCMVAL => [.EFU_RCMVAL_AC, .EFU_RCMVAL_DC]
  | .EFU_RCMCTL => [.EFU_RCMCTL_TESTN, .EFU_RCMCTL_CAL, .EFU_RCMCTL_LOCKCLR, .EFU_RCMCTL_TRIPCLR, .EFU_RCMCTL_TEST]
  | .EFU_RCMSCALE => [.EFU_RCMSCALE_SCALE]
  | .EFU_RCMCNT => [.EFU_RCMCNT_TRIPS, .EFU_RCMCNT_TESTS]
  | .EFU_IMDSTAT => [.EFU_IMDSTAT_OUTA, .EFU_IMDSTAT_OUTB, .EFU_IMDSTAT_LEVEL, .EFU_IMDSTAT_CCRES, .EFU_IMDSTAT_INJ, .EFU_IMDSTAT_LOCKOUT, .EFU_IMDSTAT_TRIP]
  | .EFU_IMDRISO => [.EFU_IMDRISO_CCRISO, .EFU_IMDRISO_RISO]
  | .EFU_IMDPOLE => [.EFU_IMDPOLE_VNEG, .EFU_IMDPOLE_VPOS]
  | .EFU_IMDCTL => [.EFU_IMDCTL_IMDHALF, .EFU_IMDCTL_LOCKCLR, .EFU_IMDCTL_TEST]
  | .EFU_IMDCNT => [.EFU_IMDCNT_ALARMS, .EFU_IMDCNT_CHECKS]
  | .PSW_STATUS => [.PSW_STATUS_BANKOC, .PSW_STATUS_BANKUV, .PSW_STATUS_LATCH, .PSW_STATUS_OL, .PSW_STATUS_OT, .PSW_STATUS_OC, .PSW_STATUS_SC, .PSW_STATUS_CFGVIOL]
  | .PSW_SNAP => [.PSW_SNAP_SNAP]
  | .PSW_BANKV => [.PSW_BANKV_VMEAN, .PSW_BANKV_VNOW]
  | .PSW_BANKS => [.PSW_BANKS_QUEUE, .PSW_BANKS_BUSY, .PSW_BANKS_HOLDER, .PSW_BANKS_UV, .PSW_BANKS_DROOP]
  | .PSW_BANKCTL => [.PSW_BANKCTL_DROOP]
  | .PSW_TRIPRB => [.PSW_TRIPRB_TRIP]
  | .PSW_PERMIT => [.PSW_PERMIT_PERMIT]
  | .PSW_OUT => [.PSW_OUT_OUT]
  | .PSW_CHSTAT => [.PSW_CHSTAT_FUNC, .PSW_CHSTAT_TRIES, .PSW_CHSTAT_PHASE, .PSW_CHSTAT_FROZEN, .PSW_CHSTAT_COMPSAT, .PSW_CHSTAT_OLNOW, .PSW_CHSTAT_CMD, .PSW_CHSTAT_PERMIT, .PSW_CHSTAT_LATCH]
  | .PSW_CHCTL => [.PSW_CHCTL_LATCHCLR, .PSW_CHCTL_PWMF, .PSW_CHCTL_ON]
  | .PSW_CHDUTY => [.PSW_CHDUTY_DOUT, .PSW_CHDUTY_DUTY]
  | .PSW_CHFLT => [.PSW_CHFLT_OL, .PSW_CHFLT_OT, .PSW_CHFLT_OC, .PSW_CHFLT_SC]
  | .PSW_CHCNT => [.PSW_CHCNT_FAULTS, .PSW_CHCNT_STARTS]
  | .GSE_STATUS => [.GSE_STATUS_STATE, .GSE_STATUS_HOLD, .GSE_STATUS_CVOK, .GSE_STATUS_VSIOUV, .GSE_STATUS_CFGVIOL]
  | .GSE_SEQ => [.GSE_SEQ_SEQ]
  | .GSE_CV => [.GSE_CV_CV]
  | .GSE_CVCONF => [.GSE_CVCONF_CVCONF]
  | .GSE_SI => [.GSE_SI_INFLT, .GSE_SI_IN]
  | .GSE_SO => [.GSE_SO_EDM, .GSE_SO_RB, .GSE_SO_CMD]
  | .GSE_PERMIT => [.GSE_PERMIT_PERMIT]
  | .GSE_FUNC => [.GSE_FUNC_FUNC, .GSE_FUNC_CAUSE, .GSE_FUNC_FDET, .GSE_FUNC_UNLKOK, .GSE_FUNC_MUTED, .GSE_FUNC_STOPPING, .GSE_FUNC_RSTREQ, .GSE_FUNC_FFAULT, .GSE_FUNC_DEMAND, .GSE_FUNC_EN]
  | .GSE_POS => [.GSE_POS_SPEED, .GSE_POS_POS]
  | .GSE_DIAG => [.GSE_DIAG_TESTAGE, .GSE_DIAG_FCODE]
  | .GSE_COUNT => [.GSE_COUNT_DEMANDS, .GSE_COUNT_FAULTS]
  | .CLU_STATUS => [.CLU_STATUS_LOCKOUT, .CLU_STATUS_GATEOVR, .CLU_STATUS_TAGREF, .CLU_STATUS_AUTHF, .CLU_STATUS_AFAULT, .CLU_STATUS_MULTI, .CLU_STATUS_CFGVIOL]
  | .CLU_SNAP => [.CLU_SNAP_SNAP]
  | .CLU_ANTCTL => [.CLU_ANTCTL_GUARD, .CLU_ANTCTL_AFI, .CLU_ANTCTL_POLL, .CLU_ANTCTL_BRMAX, .CLU_ANTCTL_ADM, .CLU_ANTCTL_ANTEN]
  | .CLU_ANTSTAT => [.CLU_ANTSTAT_SLICES, .CLU_ANTSTAT_NEXP, .CLU_ANTSTAT_ROUNDS, .CLU_ANTSTAT_TECH, .CLU_ANTSTAT_AFAULT, .CLU_ANTSTAT_CARDS]
  | .CLU_CARD_L => [.CLU_CARD_L]
  | .CLU_CARD_M => [.CLU_CARD_M]
  | .CLU_CARD_H => [.CLU_CARD_H_TECH, .CLU_CARD_H_ULEN, .CLU_CARD_H]
  | .CLU_TGATE => [.CLU_TGATE_HOLDACK, .CLU_TGATE_HOLD]
  | .CLU_TSTATE => [.CLU_TSTATE_TFAIL, .CLU_TSTATE_LOCKED, .CLU_TSTATE_JBUSY, .CLU_TSTATE_RESOK, .CLU_TSTATE_TSTATE, .CLU_TSTATE_FIELD]
  | .CLU_TCFG => [.CLU_TCFG_TAGEN, .CLU_TCFG_AUTHEN, .CLU_TCFG_PWDEN]
  | .CLU_TPWD => [.CLU_TPWD_PWD]
  | .CLU_TKEY => [.CLU_TKEY_KEY]
  | .CLU_TCMD => [.CLU_TCMD_TFAILCLR, .CLU_TCMD_LOADKEY, .CLU_TCMD_LOADPWD]
  | .CLU_TCOUNT => [.CLU_TCOUNT_WRITES, .CLU_TCOUNT_READS]
  | .BLU_STATUS => [.BLU_STATUS_SEALBRK, .BLU_STATUS_TAMPER, .BLU_STATUS_PF, .BLU_STATUS_STEP, .BLU_STATUS_SETBACK, .BLU_STATUS_TINV, .BLU_STATUS_TSWREF, .BLU_STATUS_CFGVIOL]
  | .BLU_SNAP => [.BLU_SNAP_BUSY, .BLU_SNAP_SNAP]
  | .BLU_TIME => [.BLU_TIME_SYNCAGE, .BLU_TIME_SRC, .BLU_TIME_VALID]
  | .BLU_WOFF_L => [.BLU_WOFF_L]
  | .BLU_WOFF_H => [.BLU_WOFF_H]
  | .BLU_HWM_L => [.BLU_HWM_L]
  | .BLU_HWM_H => [.BLU_HWM_H]
  | .BLU_WSET_L => [.BLU_WSET_L]
  | .BLU_WSET_H => [.BLU_WSET_H]
  | .BLU_WCMD => [.BLU_WCMD_APPLY]
  | .BLU_TSWTIME_L => [.BLU_TSWTIME_L]
  | .BLU_TSWTIME_H => [.BLU_TSWTIME_H]
  | .BLU_TSWCTL => [.BLU_TSWCTL_GO, .BLU_TSWCTL_CLRQ, .BLU_TSWCTL_NOW, .BLU_TSWCTL_TARIFF, .BLU_TSWCTL_SCOPE]
  | .BLU_TSWSTAT => [.BLU_TSWSTAT_LASTREF, .BLU_TSWSTAT_PEND]
  | .BLU_TAMPCFG => [.BLU_TAMPCFG_TPOL, .BLU_TAMPCFG_TEN]
  | .BLU_TAMPER => [.BLU_TAMPER_COUNT, .BLU_TAMPER_LOST, .BLU_TAMPER_NOW]
  | .BLU_PFCNT => [.BLU_PFCNT_PFAILS, .BLU_PFCNT_INTR]
  | .BLU_ESTAT => [.BLU_ESTAT_SCHED, .BLU_ESTAT_TARIFF, .BLU_ESTAT_SEAL, .BLU_ESTAT_TAMP, .BLU_ESTAT_PF, .BLU_ESTAT_TINV, .BLU_ESTAT_STEP, .BLU_ESTAT_DEMAND, .BLU_ESTAT_SESS]
  | .BLU_ESESS => [.BLU_ESESS_SESSNO]
  | .BLU_ESCOST => [.BLU_ESCOST_COST]
  | .BLU_IVNO => [.BLU_IVNO_IVNO]
  | .BLU_IVSTART => [.BLU_IVSTART_IVSTART]
  | .BLU_IVEND => [.BLU_IVEND_IVEND]
  | .BLU_IVE_L => [.BLU_IVE_L]
  | .BLU_IVE_H => [.BLU_IVE_H]
  | .BLU_TREG_L => [.BLU_TREG_L]
  | .BLU_TREG_H => [.BLU_TREG_H]
  | .BLU_SREG_L => [.BLU_SREG_L]
  | .BLU_SREG_H => [.BLU_SREG_H]
  | .BLU_MD => [.BLU_MD_MD]
  | .BLU_MDT => [.BLU_MDT_MDT]
  | .LGS_STATUS => [.LGS_STATUS_LHWAIT, .LGS_STATUS_RETLOW, .LGS_STATUS_EARLY, .LGS_STATUS_CRCERR, .LGS_STATUS_DROP, .LGS_STATUS_LHRES, .LGS_STATUS_CFGVIOL]
  | .LGS_SNAP => [.LGS_SNAP_SNAP]
  | .LGS_NEXTSEQ_L => [.LGS_NEXTSEQ_L]
  | .LGS_NEXTSEQ_H => [.LGS_NEXTSEQ_H]
  | .LGS_ACKSEQ_L => [.LGS_ACKSEQ_L]
  | .LGS_ACKSEQ_H => [.LGS_ACKSEQ_H]
  | .LGS_RETCFG => [.LGS_RETCFG_TICKMIN, .LGS_RETCFG_RETDAYS]
  | .LGS_PAGE => [.LGS_PAGE_REGION, .LGS_PAGE_SLOT]
  | .LGS_PAGESTAT => [.LGS_PAGESTAT_BUSY, .LGS_PAGESTAT_BADCRC]
  | .LGS_COUNT => [.LGS_COUNT_EARLY, .LGS_COUNT_DROPPED]
  | .LGS_PFSTAT => [.LGS_PFSTAT_PFREC, .LGS_PFSTAT_PFDONE]
  | .LGS_RFILL => [.LGS_RFILL_FILL]
  | .LGS_RHEAD => [.LGS_RHEAD_HEAD]
  | .LGS_ROLD_L => [.LGS_ROLD_L]
  | .LGS_ROLD_H => [.LGS_ROLD_H_AGE, .LGS_ROLD_H]
  | .ALK_STATUS => [.ALK_STATUS_RLATE, .ALK_STATUS_ROUTECHG, .ALK_STATUS_NODELOST, .ALK_STATUS_JOINREF, .ALK_STATUS_QFULL, .ALK_STATUS_RUNNING, .ALK_STATUS_CFGVIOL]
  | .ALK_SNAP => [.ALK_SNAP_SNAP]
  | .ALK_CFG => [.ALK_CFG_PASSES, .ALK_CFG_MAXHOP, .ALK_CFG_NODES, .ALK_CFG_PORTS, .ALK_CFG_SPAN, .ALK_CFG_BAND]
  | .ALK_CTL => [.ALK_CTL_TXATT, .ALK_CTL_RESTART, .ALK_CTL_RUN]
  | .ALK_ROUND => [.ALK_ROUND_SEQ, .ALK_ROUND_PASSES, .ALK_ROUND_REPOLLS, .ALK_ROUND_FAILS]
  | .ALK_ROUNDT => [.ALK_ROUNDT_MAXT, .ALK_ROUNDT_LASTT]
  | .ALK_NSTAT => [.ALK_NSTAT_PARENT, .ALK_NSTAT_HOP, .ALK_NSTAT_COST, .ALK_NSTAT_FIRST, .ALK_NSTAT_W, .ALK_NSTAT_STATE, .ALK_NSTAT_RELAY, .ALK_NSTAT_PORT]
  | .ALK_NCNT => [.ALK_NCNT_FAILS, .ALK_NCNT_REPOLLS]
  | .ALK_NLINK => [.ALK_NLINK_SNRUP, .ALK_NLINK_ERASE, .ALK_NLINK_UPQ, .ALK_NLINK_DNQ]
  | .ALK_NVER => [.ALK_NVER_VERSION, .ALK_NVER_BANK, .ALK_NVER_PEND, .ALK_NVER_CONF]
  | .HPU_IDENT => [.HPU_IDENT_DEVTYPE]
  | .HPU_STATUS => [.HPU_STATUS_SPIERR, .HPU_STATUS_BADHDR, .HPU_STATUS_QDROP, .HPU_STATUS_DNOVF, .HPU_STATUS_FRST, .HPU_STATUS_CFGVIOL]
  | .HPU_SNAP => [.HPU_SNAP_SNAP]
  | .HPU_SPICFG => [.HPU_SPICFG_DNRST, .HPU_SPICFG_UPRST, .HPU_SPICFG_UPTO, .HPU_SPICFG_DUMMY]
  | .HPU_WMARK => [.HPU_WMARK_UPHI, .HPU_WMARK_UPLO, .HPU_WMARK_DNHI, .HPU_WMARK_DNLO]
  | .HPU_FIFOSTAT => [.HPU_FIFOSTAT_UPOCC, .HPU_FIFOSTAT_DNOCC]
  | .HPU_COUNT => [.HPU_COUNT_FRSTS, .HPU_COUNT_DROPS]
  | .NTU_STATUS => [.NTU_STATUS_CANOFF, .NTU_STATUS_LINKCHG, .NTU_STATUS_STEPPED, .NTU_STATUS_HOLDOVER, .NTU_STATUS_LOCKED, .NTU_STATUS_CFGVIOL]
  | .NTU_SNAP => [.NTU_SNAP_SNAP]
  | .NTU_PTP => [.NTU_PTP_RATE, .NTU_PTP_DOMAIN, .NTU_PTP_MPORT, .NTU_PTP_STATE]
  | .NTU_TIME_L => [.NTU_TIME_L]
  | .NTU_TIME_H => [.NTU_TIME_H]
  | .NTU_TIME_NS => [.NTU_TIME_NS_NS]
  | .NTU_FRC => [.NTU_FRC_FRC]
  | .NTU_OFFSET => [.NTU_OFFSET_OFFSET]
  | .NTU_CMP => [.NTU_CMP_TARGET]
  | .NTU_CMPCTL => [.NTU_CMPCTL_FIRED, .NTU_CMPCTL_MODE, .NTU_CMPCTL_ARM]
  | .NTU_PORT => [.NTU_PORT_MAXRES, .NTU_PORT_SPEED, .NTU_PORT_LINK]
  | .NTU_CAN => [.NTU_CAN_TEC, .NTU_CAN_REC, .NTU_CAN_STATE]
  | .NTU_MB => [.NTU_MB_MISSES, .NTU_MB_EXC, .NTU_MB_STATE]
  | .SEC_STATUS => [.SEC_STATUS_FAIL, .SEC_STATUS_DRBGF, .SEC_STATUS_AUTHF, .SEC_STATUS_PEND, .SEC_STATUS_CFGVIOL]
  | .SEC_SNAP => [.SEC_SNAP_SNAP]
  | .SEC_LC => [.SEC_LC_RECOMM, .SEC_LC_DBGOPEN, .SEC_LC_STATE]
  | .SEC_SCNEXT => [.SEC_SCNEXT_SCNEXT]
  | .SEC_QUEUE => [.SEC_QUEUE_PEAK, .SEC_QUEUE_INQ]
  | .SEC_REMASK => [.SEC_REMASK_REMASK]
  | .SEC_COUNT => [.SEC_COUNT_AUTHFAIL, .SEC_COUNT_OPERR]
  | .SEC_SLOTSEL => [.SEC_SLOTSEL_SLOT]
  | .SEC_SLOTATTR => [.SEC_SLOTATTR_ATTR]
  | .SEC_SLOTPEND => [.SEC_SLOTPEND_PATTR]
  | .SEC_SLOTID_L => [.SEC_SLOTID_L]
  | .SEC_SLOTID_H => [.SEC_SLOTID_H]
  | .DSE_STATUS => [.DSE_STATUS_LEDGERF, .DSE_STATUS_COMPSAT, .DSE_STATUS_VFAULT, .DSE_STATUS_PFSTOP, .DSE_STATUS_BUSY, .DSE_STATUS_STALE, .DSE_STATUS_CFGVIOL]
  | .DSE_SNAP => [.DSE_SNAP_SNAP]
  | .DSE_CTL => [.DSE_CTL_MODE, .DSE_CTL_TEST, .DSE_CTL_UPDATE]
  | .DSE_LNMASK => [.DSE_LNMASK_LNMASK]
  | .DSE_VMEAS => [.DSE_VMEAS_VDH, .DSE_VMEAS_VDL]
  | .DSE_LNSTAT => [.DSE_LNSTAT_OUTLET, .DSE_LNSTAT_PEND, .DSE_LNSTAT_MARK]
  | .DSE_LNSEQ => [.DSE_LNSEQ_SESSNO]
  | .DSE_SSEL => [.DSE_SSEL_GROUP]
  | .DSE_STRESSV => [.DSE_STRESSV_STRESS]
  | .DSE_COUNT => [.DSE_COUNT_PFSTOPS, .DSE_COUNT_UPDATES]
  | .BCU_STATUS => [.BCU_STATUS_GHEXP, .BCU_STATUS_GHOLD, .BCU_STATUS_XT32F, .BCU_STATUS_OVV, .BCU_STATUS_DIP, .BCU_STATUS_HUFAULT, .BCU_STATUS_VBATLOW, .BCU_STATUS_CFGVIOL]
  | .BCU_SNAP => [.BCU_SNAP_SNAP]
  | .BCU_SUPPLY => [.BCU_SUPPLY_VIN, .BCU_SUPPLY_VHOLD]
  | .BCU_VBAT => [.BCU_VBAT_SRC, .BCU_VBAT_VBAT]
  | .BCU_HOLDCAP => [.BCU_HOLDCAP_CAP]
  | .BCU_PFCFG => [.BCU_PFCFG_PFRIDE]
  | .BCU_RSTCAUSE => [.BCU_RSTCAUSE_CAUSE]
  | .BCU_RSTCMD => [.BCU_RSTCMD_KEY, .BCU_RSTCMD_INDEX, .BCU_RSTCMD_UNIT, .BCU_RSTCMD_CMD]
  | .BCU_WDT => [.BCU_WDT_KICK, .BCU_WDT_WDTO]
  | .BCU_GHCTL => [.BCU_GHCTL_GUYHOLD, .BCU_GHCTL_HEALTHY, .BCU_GHCTL_TAKE]
  | .BCU_GHSTAT => [.BCU_GHSTAT_UNHEALTHY, .BCU_GHSTAT_ELAPSED]
  | .BCU_GHOUT => [.BCU_GHOUT_SHUT]
  | .BCU_LTIME_L => [.BCU_LTIME_L]
  | .BCU_LTIME_H => [.BCU_LTIME_H]
  | .BCU_COUNT => [.BCU_COUNT_WARM, .BCU_COUNT_COLD]
  | .CGU_STATUS => [.CGU_STATUS_PLLF, .CGU_STATUS_XTFAIL, .CGU_STATUS_ONINT, .CGU_STATUS_PLLOK, .CGU_STATUS_XTOK, .CGU_STATUS_FCBUSY, .CGU_STATUS_CFGVIOL]
  | .CGU_CFG => [.CGU_CFG_MODCLK, .CGU_CFG_PROVE]
  | .CGU_CLKEN => [.CGU_CLKEN_T1S, .CGU_CLKEN_ETH, .CGU_CLKEN_RS485, .CGU_CLKEN_CAN, .CGU_CLKEN_SDC, .CGU_CLKEN_USBH, .CGU_CLKEN_HSP, .CGU_CLKEN_DSE, .CGU_CLKEN_ALK, .CGU_CLKEN_CLU]
  | .CGU_FCCTL => [.CGU_FCCTL_START, .CGU_FCCTL_WIN, .CGU_FCCTL_REF, .CGU_FCCTL_MEAS]
  | .CGU_FCRES => [.CGU_FCRES_COUNT]
  | .UPD_STATUS => [.UPD_STATUS_STATE, .UPD_STATUS_MEDIA, .UPD_STATUS_SETDUAL, .UPD_STATUS_REFUSED, .UPD_STATUS_CFGVIOL]
  | .UPD_SNAP => [.UPD_SNAP_SNAP]
  | .UPD_CMD => [.UPD_CMD_CMD]
  | .UPD_RESULT => [.UPD_RESULT_DETAIL, .UPD_RESULT_REASON]
  | .UPD_UPDID => [.UPD_UPDID_UPDID]
  | .UPD_ACTTIME_L => [.UPD_ACTTIME_L]
  | .UPD_ACTTIME_H => [.UPD_ACTTIME_H]
  | .UPD_PROGRESS => [.UPD_PROGRESS_PART, .UPD_PROGRESS_DONE]
  | .UPD_TRIAL => [.UPD_TRIAL_LEFT]
  | .UPD_PSEL => [.UPD_PSEL_IMGID, .UPD_PSEL_KIND, .UPD_PSEL_UNIT]
  | .UPD_PVER => [.UPD_PVER_VERSION]
  | .UPD_PCTR => [.UPD_PCTR_COUNTER]
  | .UPD_COUNT => [.UPD_COUNT_FALLBACKS, .UPD_COUNT_COMMITS]
  | .ID_SERIAL => [.ID_SERIAL_SERIAL]
  | .ID_LIFE => [.ID_LIFE_EQH]
  | .ID_RUNTIME => [.ID_RUNTIME_HOURS]
  | .ID_TCASE => [.ID_TCASE_TMAX, .ID_TCASE_TNOW]
  | .ID_FLASH => [.ID_FLASH_WEAR, .ID_FLASH_SPARE, .ID_FLASH_WRITTEN]

/-- All registers, in pieces. -/
def Reg.part0 : List Reg := [.FAB_STATUS, .FAB_FROZEN, .FAB_RELEASE, .FAB_VCOUNT, .FAB_VREC0, .FAB_VREC1, .FAB_VREC2, .FAB_VREC3, .FAB_VPOP, .FAB_TAGS, .FAB_DECERR, .PPL_STATUS, .PPL_CMD, .PPL_PLANID, .PPL_PLANVER, .PPL_SAFECV, .PPL_LEGALCV, .PPL_STGVER, .PPL_STGSAFECV, .PPL_WAIT]
def Reg.part1 : List Reg := [.PPL_SECTCRC, .SCH_STATUS, .SCH_SNAP, .SCH_SEL, .SCH_MARGIN, .SCH_MISSES, .SCH_REFUSALS, .SCH_OPEN, .OIU_STATUS, .OIU_SNAP, .OIU_CPCTL, .OIU_CPDUTY, .OIU_CPSTATE, .OIU_CPMEAS, .OIU_PPCS, .OIU_LOCK, .OIU_TIMER, .OIU_TEMP, .OIU_CONTACT, .OIU_COUNT]
def Reg.part2 : List Reg := [.VCE_STATUS, .VCE_SNAP, .VCE_CTL, .VCE_LANE, .VCE_OLINK, .VCE_OSVC, .VCE_ORX, .VCE_OERR, .VCE_OCMD, .VCE_OCFG, .MEU_STATUS, .MEU_SNAP, .MEU_CTL, .MEU_CALCV, .MEU_CALSEQ, .MEU_CHSTAT, .MEU_CHSAMP, .MEU_CHRMS, .MEU_CHPEAK, .MEU_CHENV]
def Reg.part3 : List Reg := [.MEU_CHFREQ, .MEU_CHCTL, .MEU_CHBANK, .MEU_CHDELAY, .MEU_CHGAIN, .MEU_CHOFFS, .MEU_CHINT, .MEU_ESTAT, .MEU_EPWR, .MEU_EQPWR, .MEU_EREG_L, .MEU_EREG_H, .MEU_SESS_L, .MEU_SESS_H, .EFU_STATUS, .EFU_SNAP, .EFU_RCMSTAT, .EFU_RCMVAL, .EFU_RCMCTL, .EFU_RCMSCALE]
def Reg.part4 : List Reg := [.EFU_RCMCNT, .EFU_IMDSTAT, .EFU_IMDRISO, .EFU_IMDPOLE, .EFU_IMDCTL, .EFU_IMDCNT, .PSW_STATUS, .PSW_SNAP, .PSW_BANKV, .PSW_BANKS, .PSW_BANKCTL, .PSW_TRIPRB, .PSW_PERMIT, .PSW_OUT, .PSW_CHSTAT, .PSW_CHCTL, .PSW_CHDUTY, .PSW_CHFLT, .PSW_CHCNT, .GSE_STATUS]
def Reg.part5 : List Reg := [.GSE_SEQ, .GSE_CV, .GSE_CVCONF, .GSE_SI, .GSE_SO, .GSE_PERMIT, .GSE_FUNC, .GSE_POS, .GSE_DIAG, .GSE_COUNT, .CLU_STATUS, .CLU_SNAP, .CLU_ANTCTL, .CLU_ANTSTAT, .CLU_CARD_L, .CLU_CARD_M, .CLU_CARD_H, .CLU_TGATE, .CLU_TSTATE, .CLU_TCFG]
def Reg.part6 : List Reg := [.CLU_TPWD, .CLU_TKEY, .CLU_TCMD, .CLU_TCOUNT, .BLU_STATUS, .BLU_SNAP, .BLU_TIME, .BLU_WOFF_L, .BLU_WOFF_H, .BLU_HWM_L, .BLU_HWM_H, .BLU_WSET_L, .BLU_WSET_H, .BLU_WCMD, .BLU_TSWTIME_L, .BLU_TSWTIME_H, .BLU_TSWCTL, .BLU_TSWSTAT, .BLU_TAMPCFG, .BLU_TAMPER]
def Reg.part7 : List Reg := [.BLU_PFCNT, .BLU_ESTAT, .BLU_ESESS, .BLU_ESCOST, .BLU_IVNO, .BLU_IVSTART, .BLU_IVEND, .BLU_IVE_L, .BLU_IVE_H, .BLU_TREG_L, .BLU_TREG_H, .BLU_SREG_L, .BLU_SREG_H, .BLU_MD, .BLU_MDT, .LGS_STATUS, .LGS_SNAP, .LGS_NEXTSEQ_L, .LGS_NEXTSEQ_H, .LGS_ACKSEQ_L]
def Reg.part8 : List Reg := [.LGS_ACKSEQ_H, .LGS_RETCFG, .LGS_PAGE, .LGS_PAGESTAT, .LGS_COUNT, .LGS_PFSTAT, .LGS_RFILL, .LGS_RHEAD, .LGS_ROLD_L, .LGS_ROLD_H, .ALK_STATUS, .ALK_SNAP, .ALK_CFG, .ALK_CTL, .ALK_ROUND, .ALK_ROUNDT, .ALK_NSTAT, .ALK_NCNT, .ALK_NLINK, .ALK_NVER]
def Reg.part9 : List Reg := [.HPU_IDENT, .HPU_STATUS, .HPU_SNAP, .HPU_SPICFG, .HPU_WMARK, .HPU_FIFOSTAT, .HPU_COUNT, .NTU_STATUS, .NTU_SNAP, .NTU_PTP, .NTU_TIME_L, .NTU_TIME_H, .NTU_TIME_NS, .NTU_FRC, .NTU_OFFSET, .NTU_CMP, .NTU_CMPCTL, .NTU_PORT, .NTU_CAN, .NTU_MB]
def Reg.part10 : List Reg := [.SEC_STATUS, .SEC_SNAP, .SEC_LC, .SEC_SCNEXT, .SEC_QUEUE, .SEC_REMASK, .SEC_COUNT, .SEC_SLOTSEL, .SEC_SLOTATTR, .SEC_SLOTPEND, .SEC_SLOTID_L, .SEC_SLOTID_H, .DSE_STATUS, .DSE_SNAP, .DSE_CTL, .DSE_LNMASK, .DSE_VMEAS, .DSE_LNSTAT, .DSE_LNSEQ, .DSE_SSEL]
def Reg.part11 : List Reg := [.DSE_STRESSV, .DSE_COUNT, .BCU_STATUS, .BCU_SNAP, .BCU_SUPPLY, .BCU_VBAT, .BCU_HOLDCAP, .BCU_PFCFG, .BCU_RSTCAUSE, .BCU_RSTCMD, .BCU_WDT, .BCU_GHCTL, .BCU_GHSTAT, .BCU_GHOUT, .BCU_LTIME_L, .BCU_LTIME_H, .BCU_COUNT, .CGU_STATUS, .CGU_CFG, .CGU_CLKEN]
def Reg.part12 : List Reg := [.CGU_FCCTL, .CGU_FCRES, .UPD_STATUS, .UPD_SNAP, .UPD_CMD, .UPD_RESULT, .UPD_UPDID, .UPD_ACTTIME_L, .UPD_ACTTIME_H, .UPD_PROGRESS, .UPD_TRIAL, .UPD_PSEL, .UPD_PVER, .UPD_PCTR, .UPD_COUNT, .ID_SERIAL, .ID_LIFE, .ID_RUNTIME, .ID_TCASE, .ID_FLASH]
def Reg.all : List Reg :=
  Reg.part0 ++ Reg.part1 ++ Reg.part2 ++ Reg.part3 ++ Reg.part4 ++ Reg.part5 ++ Reg.part6 ++ Reg.part7 ++ Reg.part8 ++ Reg.part9 ++ Reg.part10 ++ Reg.part11 ++ Reg.part12

/-- The index of an address in a register: block number times 64 plus array index where the register has both, else the one it
has; none where the address is not the register's. -/
def RegLoc.index (l : RegLoc) (addr : Nat) : Option Nat :=
  let block := if l.stride = 0 then 0 else (addr - l.base) / l.stride
  let rest := addr - l.base - block * l.stride - l.off
  let item := if l.istride = 0 then 0 else rest / l.istride
  if l.base ≤ addr ∧ block < l.count ∧ l.off ≤ addr - l.base - block * l.stride ∧ item < l.icount ∧ rest = item * l.istride then
    some (if l.stride ≠ 0 ∧ 1 < l.icount then (block + l.first) * 64 + item
      else if l.stride ≠ 0 then block + l.first else item)
  else none

/-- The register and index at an address, if any. -/
def findReg (addr : Nat) : Option (Reg × Nat) :=
  Reg.all.findSome? fun r => (r.loc.index addr).map fun i => (r, i)

end Sys2Proof.Machine
end

