-- ==== Sys2Proof/Syntax.lean ====
section
/-! DEFINITION. The commands of the block: one constructor per row of spec/opcode_table.json, in the table's order. Operands are what
the happening brings with it: numbers of outlets, channels and elements, values written, and values measured or received. -/

namespace Sys2Proof

open Sys2Proof.Machine (UnitId)

/-- The kinds of a fabric access (FAB_VREC0 ACCESS). -/
inductive AccessKind where
  | read | write | readModifyWrite
  deriving DecidableEq, Repr

/-- One field of a ledger record: its offset in the record, its size in bytes and its value (little-endian). -/
structure RecField where
  off : Nat
  size : Nat
  value : Nat
  deriving DecidableEq, Repr

/-- A record that a unit hands to the ledger store: its type and the fields of its payload. -/
structure RecData where
  type : Nat
  fields : List RecField
  deriving DecidableEq, Repr

/-- Why VIN is absent (R444): low, reversed, or above the overvoltage threshold. -/
inductive VinState where
  | low | reversed | over
  deriving DecidableEq, Repr

/-- What a V2G request carries that the controller's own rules act on: the protocols that the vehicle offers, best first (1 DIN SPEC
70121, 2 ISO 15118-2, 3 ISO 15118-20, 0 any other); the service chosen (bit number of VCE_OSVC SVC), its control mode and contract
payment; the result of the contract check (0 good, else the detail of R127) and whether the Local Auth List holds the contract; the
outlet that a check-in names; whether the vehicle ends the session of its own accord. -/
inductive V2gBody where
  | plain
  | protocols (l : List Nat)
  | service (svc : Nat) (dyn contract : Bool)
  | contract (check : Nat) (inList : Bool)
  | checkIn (outlet : Nat)
  | stop (early : Bool)
  deriving DecidableEq, Repr

/-- Where a request stands in its session by the generation's standard (R123): at its place, out of order, or of an unknown session. -/
inductive V2gOrder where
  | inOrder | outOfOrder | unknownSession
  deriving DecidableEq, Repr

/-- What the codec decodes from a message (R132): a boolean, an integer, a text, binary data, or elements: each with its local name, once
(`elem`) or, where its schema allows more, as often as `items` lists it (`elems`), and the elements after it. -/
inductive V2gVal where
  | bool (b : Bool)
  | int (v : Int)
  | text (l : List Nat)
  | bin (l : List Nat)
  | done
  | elem (name : List Nat) (v rest : V2gVal)
  | elems (name : List Nat) (items rest : V2gVal)
  | item (v rest : V2gVal)
  deriving DecidableEq, Repr, Inhabited

/-- A stretch of a switch channel's current (R228): its length, the current, whether the channel is in its current limit, and whether it is an on phase
of its PWM. -/
structure LoadSpan where
  micros : Nat
  milliamps : Nat
  limited : Bool
  on : Bool
  deriving DecidableEq, Repr

/-- A V2G message at the record layer: its code (R123), its length with the V2GTP header, its place in the order, what it carries for the
controller's rules, what the codec decodes from it (none where decoding fails), and its EXI form. -/
structure V2gMsg where
  code : Nat
  len : Nat
  order : V2gOrder
  body : V2gBody
  val : Option V2gVal
  exi : List Nat
  deriving DecidableEq, Repr

/-- What a read of a SunSpec device gives (R215): of the storage WChaMax in W, ChaState in 0.1 %, ChaSt and StorCtl_Mod; of the inverter the measured
power in W. -/
structure SunData where
  power : Nat
  soc : Nat
  chaSt : Nat
  ctlMod : Nat
  deriving DecidableEq, Repr

/-- An OCPP charging profile (R207, R208): purpose (1 station maximum, 2 external constraints, 3 transaction default, 4 transaction,
5 priority charging, else not supported), outlet or 0xFF, stack level, setpoint fields, limits in A, number of phases, the periods as
wall second and limit, and the discharge limit in W. -/
structure OcppProfile where
  purpose : Nat
  outlet : Nat
  stack : Nat
  setpoints : Bool
  amps : Bool
  phases : Nat
  periods : List (Nat × Nat)
  discharge : Option Nat
  deriving DecidableEq, Repr

/-- What a slot of a Type B round carries (R279). -/
inductive BSlot where
  | empty
  | card (pupi : List Nat)
  | collision
  deriving DecidableEq, Repr

/-- An ISO/IEC 15693 card in the field: its UID, the first byte received first, and its AFI (R278). -/
structure VCard where
  uid : List Nat
  afi : Nat
  deriving DecidableEq, Repr

/-- To which tags a request of a reader is addressed (R274). -/
inductive TagAddress where
  | every
  | selected
  | uid (value : Nat)
  deriving DecidableEq, Repr

/-- A request frame of a reader at TGA: its address, whether its CRC-16 is right (R291), the field at the coil in mA/m (R273), and in a custom command
the IC manufacturer code (R288). -/
structure TagRequest where
  addr : TagAddress := .every
  crc : Bool := true
  field : Nat := 1000
  ic : Nat := 0
  deriving DecidableEq, Repr

/-- What cuts a field write short (R291, R293): the field goes, or the supply collapses in one of its steps. -/
inductive WriteCut where
  | fieldLoss
  | collapse (step : Fin 5)
  deriving DecidableEq, Repr

/-- What an antenna meets in its slice (R277 to R280): the drive current in mA with the field on; how many technologies are reached by 25.0 ms;
the identifiers of the Type A cards; the slots of the Type B rounds as the cards fill them; the ISO/IEC 15693 cards; the highest bit rate of the card
that answers alone, as BRMAX codes it. -/
structure AntennaResult where
  current : Nat
  reached : Nat
  cardsA : List (List Nat)
  slotsB : List (List BSlot)
  cardsV : List VCard
  rate : Nat
  deriving DecidableEq, Repr

/-- A PTP event message that the switch forwards (R386): correctionField in 2^-16 ns, and for two-step messages the sequenceId and the
sourcePortIdentity. -/
inductive TcMsg where
  | sync (correction : Int)
  | delayReq (correction : Int)
  | twoStepSync (seqId source : Nat) (correction : Int)
  | followUp (seqId source : Nat) (correction : Int)
  deriving DecidableEq, Repr

/-- A certificate of a chain (R415): its validity period in seconds of wall time, and whether its signature verifies. -/
structure Cert where
  start : Nat
  stop : Nat
  signed : Bool
  deriving DecidableEq, Repr

/-- A certificate chain (R415): the SHA-256 of the anchor certificate that it ends at, and the certificates below it. -/
structure CertChain where
  anchor : BitVec 256
  certs : List Cert
  deriving DecidableEq, Repr

/-- A message to the PTP client (R387): an Announce with its source, its rank by the best master clock algorithm (lower is better), its
port, its interval in ns and its currentUtcOffset in seconds; a Sync with its origin time, corrected, and its time of receipt; a Delay_Resp with the time at which the
Delay_Req left and the time at which the master received it. Times in ns. -/
inductive PtpMsg where
  | announce (source rank : Nat) (port : Fin 4) (interval : Nat) (utc : Int)
  | sync (source : Nat) (t1 t2 : Int)
  | delayResp (source : Nat) (t3 t4 : Int)
  deriving DecidableEq, Repr

/-- What the master receives from a node whose exchange ends in a pass (R356, R357, R363): the symbols of its carriers in ascending order, each
carrier's in block order, two to a block; the blocks that the impulse detector flags; and the measured SNR in 0.5 dB. -/
structure AlkUp where
  node : Nat
  words : List (List Nat)
  flagged : List Nat
  snr : Nat
  deriving DecidableEq, Repr


/-- What the inputs read around a test pulse (R248): low during the pulse, and not back high within 250 µs after it. -/
structure PulseReads where
  low : BitVec 16
  late : BitVec 16 := 0
  deriving DecidableEq, Repr, Inhabited

/-- The commands. -/
inductive Instr where
  /-- A fabric master issues a read or write to a target address, which is checked against the permit table and the address map (R26). -/
  | masterAccess (m : Fin 22) (supervisor : Bool) (kind : AccessKind) (addr value : BitVec 32)
  /-- A0 in supervisor state writes FAB_RELEASE to release frozen masters, raising event 0x0302 (R30). -/
  | fabRelease (mask : BitVec 22)
  /-- A write of 1 to POP removes the oldest violation record and exposes the next one (R33). -/
  | fabVpop
  /-- The 100 ms timer started by an A0 freeze expires, and the BCU performs a warm reset with event 0x0303 (R29). -/
  | a0FreezeEscalation
  /-- A write of 1 to a unit's SNAP field latches that unit's register set for coherent reads, or requests a latch at the next boundary (R6). -/
  | snap (u : UnitId) (inst : Nat)
  /-- A write to a register without a row of its own is stored under the effect class of each field, and an Idle-only violation sets CFGVIOL (R13). -/
  | registerWrite (addr value : BitVec 32)
  /-- A unit asks the SCH to admit a stream, which is bound to SPS open slices of its class or refused with event 0x0501 (R67). -/
  | admissionRequest (stream : BitVec 16) (cls : Fin 16)
  /-- A stream ends and its slices are marked to return to open (R68). -/
  | streamEnd (stream : BitVec 16)
  /-- At an engine's frame boundary, slices freed in the previous frame become open and pending admissions may be admitted (R68). -/
  | engineFrameBoundary (e : Fin 6)
  /-- A slice runs at its place in the frame, serving its stream's work or background duties (R36). -/
  | sliceRun (e : Fin 6) (index : BitVec 16) (done : Option Nat)
  /-- A PLAN frame delivers a chunk of a Pitch plan to the PPL staging area; the chunk that reaches TOTLEN starts verification (R383). -/
  | plan (p : Fin 5) (seq : BitVec 32) (offset totlen : BitVec 32) (bytes : List (BitVec 8))
  /-- The PPL completes its ordered checks of a staged plan and stages it with event 0x0401 or rejects it with event 0x0402 (R55). -/
  | planVerifyDone
  /-- PPL_CMD 0b001 makes the PPL verify the staged plan again (R55). -/
  | pplVerifyAgain
  /-- PPL_CMD 0b010 requests activation of the staged plan at the most restrictive change class, or refuses it with reason 0x12 if LEGALCV differs (R61). -/
  | pplActivate
  /-- PPL_CMD 0b011 discards the staged plan and raises event 0x0406 (R60). -/
  | pplDiscard
  /-- The PPL writes every configuration field of the plan between two fabric cycles, flips the active-plan selector and raises event 0x0403 (R57). -/
  | planActivation
  /-- The last outlet awaited by an Outlet-idle activation becomes free of sessions, and the plan activates (R62). -/
  | outletsIdle
  /-- At a 1 ms pilot grid instant, latched GEN, DMODE, duty and ILIM take effect and F or E generation may start (R75). -/
  | pilotPeriodBoundary (n : Fin 24)
  /-- The fifth agreeing pilot sample confirms a new state letter, which is reported with event 0x1001 and acted on per the state-change table (R83). -/
  | pilotStateConfirm (n : Fin 24) (vhi : Int)
  /-- Five consecutive valid VLO values confirm a new low-level class, such as a diode fault (R79). -/
  | lowLevelClassConfirm (n : Fin 24) (vlo : Int)
  /-- Five agreeing PP or CS samples confirm a new coding band, which may drop the contactor and set UNAVAIL (R92). -/
  | ppBandConfirm (n : Fin 24) (ohm : Nat)
  /-- A write of LOCK, or PP becoming valid, starts the lock sequence on the lock coil channel (R93). -/
  | lock (n : Fin 24)
  /-- A write of UNLOCK, or the pilot reaching A, starts the unlock sequence when the contactor is off (R94). -/
  | unlock (n : Fin 24)
  /-- The LKPULSE timer expires and the lock or unlock coil is switched off (R84). -/
  | lkpulseEnd (n : Fin 24)
  /-- LKFBnn reads the required state for 20 ms without a break, confirming the lock or unlock (R93). -/
  | lockFeedbackConfirmed (n : Fin 24) (closed : Bool)
  /-- LKCONF expires without confirmation, leading to a retry or, after the third attempt, a lock or unlock fault (R93). -/
  | lkconfExpiry (n : Fin 24)
  /-- LKCONF plus 1,000 ms after a failed attempt, the lock or unlock sequence repeats (R93). -/
  | lockRetry (n : Fin 24)
  /-- LKFBnn opens for 20 ms during a session, making the lock condition false and opening the contactor (R94). -/
  | lockFeedbackOpen (n : Fin 24)
  /-- The firmware writes CLOSE_EN, granting or withdrawing permission to close the contactor (R95). -/
  | closeEn (n : Fin 24) (en : Bool)
  /-- CFBnn still reads closed WELDT after the command dropped, latching a weld fault with event 0x100A and state F (R96). -/
  | weldtExpiry (n : Fin 24) (closed : Bool)
  /-- CFBnn does not read closed 250 ms after the command rose, so the OIU drops it, raises event 0x100E and sets UNAVAIL (R96). -/
  | closeFeedbackTimeout (n : Fin 24) (closed : Bool)
  /-- C1MAX expires in C1 or D1 with the contactor closed, so the OIU clears CLOSE_EN and raises event 0x100B (R84). -/
  | c1maxExpiry (n : Fin 24)
  /-- The 3.0 s F hold after a fault ends, after which the outlet leaves F only on a firmware command (R84). -/
  | fHoldExpiry (n : Fin 24)
  /-- The firmware writes 1 to WELD or LOCKF to clear a latched weld or lock fault (R96). -/
  | oiuFaultClear (n : Fin 24) (weld lockf : Bool)
  /-- Every second the OIU takes the higher averaged temperature and sets the temperature limit, derating state and cut (R97). -/
  | temperatureEvaluation (n : Fin 24) (ta tb : Int)
  /-- The temperature cut has been active for 2 s with the contactor closed, so the cut condition opens the contactor (R98). -/
  | temperatureCutOpen (n : Fin 24)
  /-- After Guy hold expiry, the outlet current falls below 2 A or 50 ms pass, and the close command drops (R103). -/
  | zreqShutdownRelease (n : Fin 24)
  /-- The VCE reports a failed SLAC or V2G session on an AC outlet, and the controller sets a steady +12 V for 3.0 s (R88). -/
  | hlcFallback (n : Fin 24)
  /-- The 3.0 s steady period ends and the outlet resumes current-coded PWM (R88). -/
  | fallbackPwmResume (n : Fin 24)
  /-- Every outlet has been in state A for the EMBER_IDLE time, and the controller enters the Ember standby profile (R40). -/
  | emberEntry
  /-- The first state B on any outlet in Ember returns the controller to its working profile within 1.5 s (R41). -/
  | emberExit (n : Fin 24)
  /-- A PPDU or T1S frame is received and decoded up to a TCP segment for the TLS record layer, and the message is stored or passed to the offload (R111). -/
  | vehicleFrameReceived (n : Fin 24) (fecError : Bool) (message : Option V2gMsg)
  /-- A request to the shared transmit encoder encodes a PPDU into the outlet's transmit store, in order of request (R114). -/
  | transmitEncode (n : Fin 24) (micros : Nat)
  /-- A CM_SLAC_PARM.REQ is received and answered on every candidate outlet that heard it (R116). -/
  | cmSlacParmReq (run : Nat) (heard : BitVec 24)
  /-- The first CM_START_ATTEN_CHAR.IND of a RunID opens the 600 ms sound window (R115). -/
  | cmStartAttenCharInd (run : Nat)
  /-- The sound window closes, attenuations are compared, and CM_ATTEN_CHAR.IND goes out on the single candidate that meets SLACMARG, or SLACAMB is set (R116). -/
  | soundWindowClose (run : Nat) (sounds : List (Nat × Nat × List Nat))
  /-- A CM_SLAC_MATCH.REQ is accepted on the matched outlet and answered with the NID and NMK (R116). -/
  | cmSlacMatchReq (run : Nat) (n : Fin 24)
  /-- The vehicle joins the logical network, the link becomes associated and event 0x1101 is raised (R115). -/
  | linkJoined (n : Fin 24)
  /-- A SLAC timer of R115 expires, failing the attempt and leading to F for 4.0 s, or event 0x1102 after the third attempt (R118). -/
  | slacTimerExpiry (n : Fin 24)
  /-- The 4.0 s state F after a failed SLAC attempt on a DC outlet ends and 5 % duty is set again (R118). -/
  | slacRetry (n : Fin 24)
  /-- A T1S link is down for more than 100 ms in a session, so event 0x110A is raised and the session ends with reason 4 (R120). -/
  | t1sLinkDown (k : Fin 8)
  /-- The SECC answers an SDP request within 50 ms (R121). -/
  | sdpRequest (n : Fin 24) (tls : Bool)
  /-- SupportedAppProtocolReq is answered by selecting the vehicle's highest-priority supported protocol, or Failed_NoNegotiation (R121). -/
  | supportedAppProtocol (n : Fin 24) (offers : List Nat) (val : V2gVal) (exi : List Nat)
  /-- A decoded V2G request is answered within its response time, and out-of-sequence requests end the session with reason 5 (R123). -/
  | v2gRequest (n : Fin 24) (m : V2gMsg)
  /-- A session time limit (link to SupportedAppProtocol, TLS handshake, sequence or Authorization Ongoing) expires and the session ends (R125). -/
  | v2gTimeout (n : Fin 24) (kind : Fin 4)
  /-- No back-office answer to a forwarded certificate request arrives within 3,800 ms, so the controller answers FAILED (R129). -/
  | certificateForwardTimeout (n : Fin 24)
  /-- VCE_OCMD STOP requests termination of the session at the next message boundary (R133). -/
  | stop (n : Fin 24)
  /-- VCE_OCMD PAUSE requests a pause at the next message boundary (R133). -/
  | pause (n : Fin 24)
  /-- VCE_OCMD RENEGOTIATE requests renegotiation at the next message boundary (R133). -/
  | renegotiate (n : Fin 24)
  /-- While the offload is not running, the loop responder answers a charge-loop request with the normal or shutdown response (R136). -/
  | loopResponderAnswer (n : Fin 24)
  /-- The offload restarts after a warm reset and decodes buffered messages in arrival order before new ones (R137). -/
  | offloadRestart
  /-- At a 125 µs metering boundary the MEU applies calibration, bank swap, period ends, latches, snapshot and the one-second write in order (R170). -/
  | meteringBoundary
  /-- In a current channel's back-end slice the MEU computes sample energy and adds it to NET, Ea, Er and LOSS (R157). -/
  | channelSlice (n : Fin 64) (bits : List Bool)
  /-- A stuck bitstream of 256 bits or 1 µs without an MCKR edge puts a channel in modulator fault with event 0x1201 (R143). -/
  | modulatorFault (n : Fin 64) (noClock : Bool)
  /-- Neither fault condition has held for 10 ms, ending the modulator fault with event 0x1202 (R143). -/
  | modulatorFaultEnd (n : Fin 64)
  /-- A positive-going crossing on a voltage channel is placed and validated, updating the frequency and ending the element's direction period (R153). -/
  | zeroCrossing (n : Fin 64)
  /-- No valid crossing occurs within ZXTO, so the channel enters timeout with event 0x1204 (R153). -/
  | zeroCrossingTimeout (n : Fin 64)
  /-- A pulse input has been high for 10 ms, adding 1,000,000 ÷ PULSEC mWh to its element (R155). -/
  | pulseCounted (n : Fin 64)
  /-- A write of 1 to PKCLR clears the channel's peak value (R154). -/
  | pkclr (n : Fin 64)
  /-- 4.0 ms after power failure the MEU forces a period end and stops accumulating (R165). -/
  | meuFreeze
  /-- A residual-current demodulator slice computes the DC and AC values and advances the band dwell timers (R192). -/
  | rcmSlice (c : Fin 24) (counts : Int)
  /-- A band's dwell timer reaches its dwell, so the EFU asserts the trip line, sets MISSING[13], pulls ZREQ and raises event 0x1301 (R178). -/
  | rcmTrip (c : Fin 24) (band : Fin 6)
  /-- A write of 1 to TRIPCLR clears a latched residual-current trip when R179 allows it (R179). -/
  | tripclr (c : Fin 24)
  /-- A write of 1 to LOCKCLR starts the clearing self-test of a channel in lockout (R180). -/
  | lockclr (imd : Bool) (c : Fin 24)
  /-- A write of 1 to TEST starts a channel self-test while the channel is idle (R181). -/
  | test (imd : Bool) (c : Fin 24)
  /-- A write of 1 to CAL calibrates the residual-current scale and then runs the self-test (R183). -/
  | cal (c : Fin 24) (counts : Nat)
  /-- A residual-current self-test completes, passing or putting the channel in lockout with event 0x1303 (R181). -/
  | rcmSelfTestDone (c : Fin 24) (realCurrent : Bool)
  /-- 5 s after a baseline failure caused by real residual current, the self-test is repeated (R181). -/
  | rcmSelfTestRetry (c : Fin 24)
  /-- 24 h of ledger time pass and an RCM or IMD channel runs its periodic self-test, or when it next becomes idle (R181). -/
  | dailySelfTest (imd : Bool) (c : Fin 24)
  /-- Missing saturation or sense pulses for 10 ms puts the channel in lockout with event 0x1304 (R180). -/
  | rcmSensorFault (c : Fin 24) (sense : Bool)
  /-- An insulation half period ends, the settled current is extrapolated, Riso computed and warning or alarm decided (R188). -/
  | imdHalfPeriod (k : Fin 12) (i1 i2 i3 : Int)
  /-- A pole reads below 10 % of the bus voltage for 100 ms, tripping the bound outlets with event 0x1307 detail 0x02 (R188). -/
  | poleCheckTrip (k : Fin 12) (vpos vneg : Int)
  /-- One pole at full bus voltage and the other at 0 V for 1 s with Riso above 10 MΩ puts the IMD channel in lockout (R191). -/
  | couplingOpen (k : Fin 12) (vpos vneg : Int)
  /-- An IMD self-test over 4 × IMDHALF completes, passing or putting the channel in lockout with event 0x130A (R191). -/
  | imdSelfTestDone (k : Fin 12) (sourceFail : Bool)
  /-- 10 ms after CFBnn reads closed on a DC outlet whose session requested it, injection and the cable check start (R189). -/
  | cableCheckStart (n : Fin 24)
  /-- The cable check ends, CCRISO and CCRES are set and event 0x1309 is raised (R189). -/
  | cableCheckResult (k : Fin 12)
  /-- An allocator cycle starts on its grid and takes inputs, computes budget and grants, writes outputs and checkpoints (R199). -/
  | allocatorCycle
  /-- A cycle has not completed step 4 by 40 ms (25 ms in Sprint) and is abandoned, possibly leading to the fallback allocation (R200). -/
  | cycleAbandon
  /-- The 200 ms mean has stayed below GL − M or the export limit for 5 s, clearing the breach with event 0x2003 (R221). -/
  | breachClear
  /-- A power module misses status, echo or reports a fault, so the allocator asserts ZREQ and raises event 0x2006 (R220). -/
  | moduleLost (n : Fin 24) (cause : Fin 3)
  /-- 50 ms after a module is lost the allocator writes CLOSE_EN = 0 (R220). -/
  | moduleLostCloseDrop (n : Fin 24)
  /-- Every second the allocator reads storage and solar models, detecting device loss after five missed reads (R215). -/
  | sunspecPoll (solar : Bool) (data : Option SunData)
  /-- An OCPP charging profile arrives and is applied as a cap from the next cycle, or rejected with event 0x2009 (R207). -/
  | ocppChargingProfile (p : OcppProfile)
  /-- A switch channel's command turns on and the channel requests its bank's inrush slot (R235). -/
  | channelTurnOn (c : Fin 32)
  /-- A switch channel's command turns off, with slew or fast per its source, releasing any slot (R231). -/
  | channelTurnOff (c : Fin 32)
  /-- The bank's inrush slot is released and granted to the next eligible waiting channel, which ramps on (R235). -/
  | inrushSlotGrant (k : Fin 4)
  /-- A channel's inrush window ends, the limit drops to 4.0 A and the slot is released (R230). -/
  | inrushWindowEnd (c : Fin 32) (limiting : Bool)
  /-- A channel in current limit with output below 2.0 V is turned off within 2 µs, sets SC and ends its try (R228). -/
  | shortCircuit (c : Fin 32) (limited : Bool) (millivolts : Nat)
  /-- A channel meets an overcurrent condition, is turned off without slew, sets OC and ends its try (R228). -/
  | overcurrent (c : Fin 32) (load : List LoadSpan)
  /-- A channel's junction reaches 160 °C, turning it off and setting OT (R228). -/
  | overtemperature (c : Fin 32) (junction : Nat)
  /-- A channel's retry pause has run in full and it asks its bank for the slot (R233). -/
  | retryPauseEnd (c : Fin 32) (junction : Nat)
  /-- A channel has run 10 s after its inrush window without a fault, and TRIES returns to 0 (R234). -/
  | triesReset (c : Fin 32)
  /-- A write of 1 to LATCHCLR clears a latched channel and its TRIES (R234). -/
  | latchclr (c : Fin 32)
  /-- The bank voltage falls below DROOP of its mean, freezing the slot holder's inrush timer with event 0x1607 (R236). -/
  | bankDroop (k : Fin 4) (vnow vmean : BitVec 16)
  /-- A bank falls below 8.0 V, turning off every channel without slew and raising event 0x1608 (R237). -/
  | bankUndervoltage (k : Fin 4) (vnow : BitVec 16)
  /-- The bank has stayed at or above 8.5 V for 10 ms, and commanded channels queue for the slot again (R237). -/
  | bankUndervoltageEnd (k : Fin 4) (vnow : BitVec 16)
  /-- The bank's summed current exceeds 13.0 A for 10 ms and channels are shed until it is below 12.0 A (R238). -/
  | bankOvercurrent (k : Fin 4) (milliamps : List Nat) (micros : Nat)
  /-- An off channel's output has been at or above, or below, 3.0 V for 50 ms, setting or clearing OL (R229). -/
  | openLoadChange (c : Fin 32) (millivolts : Nat)
  /-- At each PWM period or 1 ms grid instant, the compensated duty DOUT is recomputed and latched writes apply (R239). -/
  | pwmFrame (c : Fin 32) (vmean : BitVec 16)
  /-- The GSE evaluates every function in its 1 ms cycle, acting on confirmed changes and issuing output commands and permits (R252). -/
  | gseCycle (encoder : Option (Nat × Nat × Bool))
  /-- FILT consecutive agreeing samples confirm a safety input change (R250). -/
  | safetyInputConfirm (inp : Fin 16) (samples : List Bool)
  /-- A test pulse output pulses low every TPPER, and inputs wired from it are checked to follow (R248). -/
  | testPulse (k : Fin 4) (reads : PulseReads)
  /-- The second channel of a pair does not follow within DISC, putting the function in function fault (R251). -/
  | discrepancyTimeout (k : Fin 16)
  /-- STOPDLY after a category 1 demand, the GSE turns the outputs off and withdraws the permits (R258). -/
  | stopdlyExpiry (k : Fin 16)
  /-- The falling edge of a reset pulse on RSTSI of valid length enables a function awaiting reset, or raises event 0x1708 (R256). -/
  | resetPulse (inp : Fin 16) (ms : Nat)
  /-- EDMSI does not reach the expected state within 300 ms, putting the function in function fault (R257). -/
  | edmFault (k : Fin 16)
  /-- Every output and permit of a guard door function has been off for UNLKDLY, and UNLKOK becomes 1 (R260). -/
  | unlkdlyExpiry (k : Fin 16)
  /-- Both muting inputs become active within MUTWIN while the OSSD pair is safe, starting muting with event 0x1707 (R261). -/
  | mutingStart (k : Fin 16)
  /-- A muting input becomes inactive and muting ends, with a demand if the OSSD pair is not safe (R261). -/
  | mutingEnd (k : Fin 16)
  /-- Muting has run for MUTMAX and ends with a demand of cause 0x02 (R261). -/
  | mutmaxExpiry (k : Fin 16)
  /-- A check of the evaluator itself fails, so the GSE stops the dynamic drive, withdraws permits and enters the safe state with event 0x1703 (R264). -/
  | gseFault (code : Fin 8)
  /-- The dynamic drive of a safety output is not renewed within 100 µs, and the output turns off (R247). -/
  | soDriveExpiry (k : Fin 4)
  /-- VSIO is below 18.0 V for 1 ms, a demand on every function with event 0x170E (R248). -/
  | vsioUndervoltage
  /-- The GSE start-up tests end, raising event 0x1704 and entering running, awaiting confirmation or the safe state (R267). -/
  | gseStartupTestsDone (failed : Fin 10) (inputs : BitVec 16)
  /-- No on-site act follows a SAFE_CONFIRM within 300 s, so the confirmation is refused with event 0x1706 (R266). -/
  | safeConfirmTimeout
  /-- A write of 1 to ANTEN asks the SCH to admit the antenna's stream (R276). -/
  | antennaEnable (k : Fin 4)
  /-- A write of 0 to ANTEN ends the antenna's stream (R276). -/
  | antennaDisable (k : Fin 4)
  /-- An admitted antenna's slice turns on the field, polls the technologies, reports results and may activate a single card (R277). -/
  | antennaSlice (k : Fin 4) (r : AntennaResult)
  /-- The firmware exchanges an ISO/IEC 14443-4 frame or ISO/IEC 15693 block read with the activated card (R281). -/
  | cardExchange (k : Fin 4) (request : List Nat) (outcome : Fin 3) (answer : List Nat)
  /-- At 48.75 ms into the slice a running exchange is broken off and the card deselected, with event 0x1804 (R281). -/
  | exchangeBreak (k : Fin 4)
  /-- A field comes up at TGA and the tag becomes open (R288). -/
  | tagFieldOn
  /-- The field at TGA falls below the read level, ending the secured state (R288). -/
  | tagFieldLoss
  /-- At power-up of the tag front end, the write journal is checked and a pending field write is completed (R292). -/
  | tagPowerUp (reservoir : Bool)
  /-- The tag answers an ISO/IEC 15693 Inventory command with its UID (R274). -/
  | inventory (req : TagRequest) (mask len : Nat) (afi : Option Nat)
  /-- The tag answers Stay quiet (R274). -/
  | stayQuiet (req : TagRequest)
  /-- The tag answers Select (R274). -/
  | select (req : TagRequest)
  /-- The tag answers Reset to ready (R274). -/
  | resetToReady (req : TagRequest)
  /-- The tag answers Read single block or its extended form per the area access rules (R284). -/
  | readSingleBlock (req : TagRequest) (block : BitVec 16)
  /-- The tag answers Read multiple blocks or its extended form per the area access rules (R284). -/
  | readMultipleBlocks (req : TagRequest) (block count : BitVec 16)
  /-- A field Write single block into the secured area runs the journalled write steps, or is refused (R291). -/
  | writeSingleBlock (req : TagRequest) (block : BitVec 16) (value : BitVec 32) (reservoir : Bool) (cut : Option WriteCut)
  /-- The tag answers Get system information with DSFID, AFI, block count and size (R283). -/
  | getSystemInformation (req : TagRequest)
  /-- Any other standard tag command is answered with error 0x01 (R274). -/
  | unsupportedTagCommand (req : TagRequest)
  /-- A TPWD custom command with a password secures the tag or fails, incrementing TFAIL (R288). -/
  | tpwd (req : TagRequest) (password : BitVec 32)
  /-- TAUTH1 starts AES mutual authentication, answering RB and the encrypted challenge (R288). -/
  | tauth1 (req : TagRequest) (keyNo : BitVec 8) (ra : BitVec 64)
  /-- TAUTH2 completes AES mutual authentication, securing the tag or failing and incrementing TFAIL (R288). -/
  | tauth2 (req : TagRequest) (cipher : BitVec 128)
  /-- TLOGOUT returns the tag to open (R288). -/
  | tlogout (req : TagRequest)
  /-- TSTAT returns the tag state, TFAIL and the front-end version (R288). -/
  | tstat (req : TagRequest)
  /-- A write of HOLD closes or opens the NDEF area to the field, with HOLDACK when the running field command ends (R293). -/
  | hold (on : Bool)
  /-- HOLD has been held for 100 ms, so the CLU clears it, sets GATEOVR and raises event 0x180A (R293). -/
  | holdTimeout
  /-- Within 1 s of a triggering happening, the controller rewrites the NDEF message in its gated order (R287). -/
  | ndefRewrite (cut : Option (Fin 3))
  /-- A write of 1 to LOADPWD loads the staged tag password through the write journal (R290). -/
  | loadpwd (loss : Bool)
  /-- A write of 1 to LOADKEY loads the staged AES-128 tag key through the write journal (R290). -/
  | loadkey (loss : Bool)
  /-- A write of 1 to TFAILCLR sets TFAIL to 0 and ends the tag authentication lockout (R289). -/
  | tfailclr
  /-- A host write to the tag memory window is applied, waits for a field write, or is discarded with event 0x180B (R284). -/
  | tagMemoryHostWrite (off : BitVec 13) (value : BitVec 32)
  /-- A write of 1 to APPLY requests a host wall-time sync at the next metering boundary, or is refused while PTP is locked (R297). -/
  | apply
  /-- A PTP or host sync changes WOFF at a metering boundary, detecting steps and flagging sessions (R297). -/
  | wallTimeSync (ptp : Bool)
  /-- 24 h of ledger time pass without a sync and wall time becomes invalid with event 0x1404 (R299). -/
  | wallTimeExpiry
  /-- A write of GO queues a tariff switch for its scope, or refuses it with event 0x1402 (R307). -/
  | go (isNow : Bool) (tariff : BitVec 5) (scope : BitVec 8)
  /-- A write of CLRQ cancels every pending switch whose scope equals SCOPE (R307). -/
  | clrq (scope : BitVec 8)
  /-- A queued switch fires at a metering boundary and sets SCHED, changing the tariff in force (R307). -/
  | tariffSwitchFire
  /-- A demand interval or sub-interval end fires, computing demand, updating maximum demand and writing an interval record (R312). -/
  | intervalClose (e : Fin 25)
  /-- A confirmed change of a tamper input or the seal loop is stamped and recorded (R321). -/
  | tamperChange (input : Fin 5) (ohms : List Nat)
  /-- A unit hands a group of records to the LGS queue, or a rolling record is dropped when the queue is full (R329). -/
  | ledgerGroupRequest (cls : Fin 3) (recs : List RecData)
  /-- The LGS writes a group to consecutive slots and then commits HEAD and the next SEQ in one write (R329). -/
  | ledgerCommit
  /-- Every TICKMIN × 60 s the LGS writes one meter tick per outlet (R335). -/
  | meterTick
  /-- Once a day while the retained region is full with a young oldest record, event 0x1508 is raised (R334). -/
  | retainedNearLimit
  /-- A write to LGS_PAGE starts copying 4,096 slots into the page buffer (R342). -/
  | pageCopy (region : Fin 4) (slot : BitVec 26)
  /-- The page copy completes, with CRC failures counted in BADCRC (R342). -/
  | pageCopyDone (changed : List (Nat × List Nat))
  /-- An Afril round starts, advancing SEQ and applying route changes (R350). -/
  | roundStart
  /-- An Afril pass runs its sync, headers and body, and node decisions and the next header are made in the decode gap (R349). -/
  | pass (ups : List AlkUp)
  /-- A round ends, exchanges still lost are counted and nodes failing three rounds are marked lost (R359). -/
  | roundEnd
  /-- After carrier sensing for 85 ms, the master starts a band C burst (R353). -/
  | bandCBurst (deferMs : Nat)
  /-- A JOINREQ or JOINFWD is received, the node's stream is admitted and ASSIGN is sent, or the join is refused (R365). -/
  | joinreq (eui : BitVec 64) (relay : Option (Fin 63)) (cost : Nat) (collided : Bool)
  /-- A node does not confirm an activation by VERSION within 10 s, raising event 0x1A09 with detail 0 (R368). -/
  | nodeConfirmTimeout (n : Fin 63)
  /-- A write of 1 to RESTART restarts the Afril network (R369). -/
  | restart
  /-- A host SPI READ returns STAT and words from ADDR upward, with prefetch probes (R374). -/
  | read (addr : BitVec 32) (count : Nat)
  /-- A host SPI WRITE posts each complete word to the fabric in order (R374). -/
  | write (addr : BitVec 32) (words : List (BitVec 32)) (partialWord : Bool)
  /-- A host SPI STATUS returns STAT repeatedly and clears bits [4:1] (R375). -/
  | status
  /-- A host SPI FIFO READ returns STAT, AVAIL and UP FIFO bytes (R380). -/
  | fifoRead (count : Nat)
  /-- A host SPI FIFO WRITE places bytes in the DOWN FIFO, discarding those that find it full (R380). -/
  | fifoWrite (bytes : List (BitVec 8))
  /-- An unknown SPI command byte ends the transaction and sets SPIERR (R374). -/
  | unknownSpiCommand (cmd : BitVec 8)
  /-- The two Gray pointer copies disagree, resetting the FIFO with event 0x1C01 (R377). -/
  | fifoPointerMismatch (up : Bool) (copies : List (Nat × Nat))
  /-- A write of 1 to DNRST resets the DOWN FIFO (R378). -/
  | dnrst
  /-- A write of 1 to UPRST resets the UP FIFO (R378). -/
  | uprst
  /-- A TCP connection to the HMI port is accepted, its stream admitted and TLS run, or it is refused with event 0x1C06 (R381). -/
  | hmiSessionOpen (p : Fin 4) (alert : Option (BitVec 8))
  /-- An HMI READ frame reads COUNT words and is answered with 0x81 (R383). -/
  | hmiRead (p : Fin 5) (seq : BitVec 32) (addr : BitVec 32) (count : BitVec 16)
  /-- An HMI WRITE frame writes words until the first failing one and is answered with 0x82 (R383). -/
  | hmiWrite (p : Fin 5) (seq : BitVec 32) (addr : BitVec 32) (words : List (BitVec 32))
  /-- A SUBSCRIBE frame selects the streams that the host receives (R383). -/
  | subscribe (p : Fin 5) (seq : BitVec 32) (streams n : BitVec 16)
  /-- A LEDGER frame streams records of a region from FIRST in 0x84 frames (R383). -/
  | ledger (p : Fin 5) (seq : BitVec 32) (region : BitVec 8) (first : BitVec 64) (count : BitVec 32)
  /-- An AFRIL frame queues a DATA message to a node, or is refused if the queue is full (R383). -/
  | afril (p : Fin 5) (seq : BitVec 32) (node : BitVec 8) (message : List (BitVec 8))
  /-- A SEALED frame delivers a sealed command to the SEC for authentication and execution (R416). -/
  | sealed (p : Fin 5) (seq : BitVec 32) (payload : List (BitVec 8))
  /-- A frame header with a wrong MAGIC, HCRC or LEN is skipped, BADHDR is set and event 0x1C04 is raised (R382). -/
  | badFrameHeader (p : Fin 5)
  /-- A frame with an unknown TYPE or a LEN wrong for its type is answered with an ERROR frame (R383). -/
  | unknownFrameType (p : Fin 5) (seq : BitVec 32) (type : BitVec 8) (payload : List (BitVec 8))
  /-- A controller frame finds no room on a path within 1,000 µs and is dropped with event 0x1C03 (R384). -/
  | hostFrameDrop (p : Fin 5) (type : BitVec 8)
  /-- A forwarded Sync, Delay_Req or Follow_Up gets its residence time added to correctionField (R386). -/
  | transparentClockForward (ingress egress : Fin 4) (residence : Nat) (m : TcMsg)
  /-- A PTP message to the client updates master selection, offset and servo, locking or stepping PTP time (R387). -/
  | ptpMessage (m : PtpMsg)
  /-- No Announce for ANNTO intervals or no Sync for 3 s puts the PTP client in holdover (R387). -/
  | ptpHoldover
  /-- A compare unit's condition holds, clearing ARM, setting FIRED and interrupting the cores (R388). -/
  | compareFire (k : Fin 2)
  /-- A CAN FD template's TX frame is sent every PERIOD or within 1 ms of a signal change (R391). -/
  | templateSend (n : Fin 24)
  /-- A power module's RX frame is received and kept with its age for the allocator (R391). -/
  | moduleStatusRx (n : Fin 24) (echo fault : BitVec 8) (vact iact : BitVec 16)
  /-- A CAN bus changes error state, including bus-off and automatic recovery, with event 0x1B05 (R389). -/
  | canErrorStateChange (k : Fin 4) (state : Fin 3) (tec rec_ : BitVec 8)
  /-- A Modbus transaction completes, times out and is retried, or counts as a miss or exception (R392). -/
  | modbusTransaction (dev : Fin 16) (outcome : Fin 4)
  /-- At plan activation or after a loss, the NTU looks for the SunSpec marker and walks the models (R393). -/
  | sunspecDiscovery (dev : Fin 16) (models : Option (List (BitVec 16)))
  /-- An Ethernet port's link goes up or down, raising event 0x1B04 (R385). -/
  | ethernetLinkChange (k : Fin 4) (speed : Fin 4)
  /-- The sealed command PLAN_ACTIVATE arms a staged plan with a changed legal section (R63). -/
  | planActivate (keyId : BitVec 64) (planId planVer legalCv : BitVec 32)
  /-- The sealed command MEU_CALIBRATE applies channel calibration records and FNOM at one metering boundary (R167). -/
  | meuCalibrate (keyId : BitVec 64) (fnom : BitVec 16) (recs : List (BitVec 8 × BitVec 128))
  /-- The sealed command BLU_HWM_RESET sets H to the current wall time (R301). -/
  | bluHwmReset (keyId : BitVec 64)
  /-- The sealed command TAMPER_CONFIG sets TEN and TPOL (R319). -/
  | tamperConfig (keyId : BitVec 64) (ten tpol : BitVec 8)
  /-- The sealed command SEAL_ACK clears SEALBRK when the seal loop reads intact (R322). -/
  | sealAck (keyId : BitVec 64)
  /-- The sealed command SAFE_CONFIRM starts confirmation of the safety check value, awaiting an on-site act (R266). -/
  | safeConfirm (keyId : BitVec 64) (value : BitVec 32)
  /-- The sealed command LGS_RETENTION sets RETDAYS and TICKMIN (R341). -/
  | lgsRetention (keyId : BitVec 64) (days : BitVec 16) (tick : BitVec 8)
  /-- The sealed command LGS_ACK checks a hash over a range of legal-hold records and frees their slots (R343). -/
  | lgsAck (keyId first last : BitVec 64) (hash : BitVec 256)
  /-- KEY_GEN generates a new key into a slot's shadow and runs its test operation (R408). -/
  | keyGen (keyId : BitVec 64) (slot ktype : BitVec 8)
  /-- KEY_LOAD loads a public key into a slot's shadow and verifies its test signature (R408). -/
  | keyLoad (keyId : BitVec 64) (slot ktype : BitVec 8) (rest : List (BitVec 8))
  /-- KEY_COMMIT flips the slot's active selector to the tested shadow (R408). -/
  | keyCommit (keyId : BitVec 64) (slot : BitVec 8) (shadow : BitVec 64)
  /-- KEY_ABORT discards the slot's shadow (R408). -/
  | keyAbort (keyId : BitVec 64) (slot : BitVec 8)
  /-- KEY_ERASE erases a REPLACE 2 slot with event 0x190B (R419). -/
  | keyErase (keyId : BitVec 64) (slot : BitVec 8)
  /-- LIFECYCLE changes the life-cycle state along an allowed transition (R402). -/
  | lifecycle (keyId : BitVec 64) (newState : BitVec 8) (pub : List (BitVec 8))
  /-- DEBUG_UNLOCK opens DBG in RETURN until the next cold reset (R419). -/
  | debugUnlock (keyId : BitVec 64) (xroot : List (BitVec 8))
  /-- The firmware commits a REPLACE 1 shadow after verifying a certificate for its public key (R409). -/
  | firmwareKeyCommit (slot : Fin 128) (subject : List (BitVec 8)) (chain : CertChain)
  /-- An operation of the crypto engine completes and returns its result to the submitter (R411). -/
  | cryptoOperationDone (slot : Fin 128) (use : Fin 4) (error : BitVec 8) (queued : Fin 65)
  /-- Every 60 s the SEC re-masks every key's shares, and a pass over 10 s raises event 0x190A (R407). -/
  | remaskPass (seconds : Nat)
  /-- The random bit generator is reseeded every 60 s or after 65,536 requests (R412). -/
  | drbgReseed
  /-- An entropy health test fails, setting DRBGF and raising event 0x1908 (R412). -/
  | entropyTestFailure (adaptive : Bool)
  /-- A write of 1 to UPDATE starts or queues an update of the changed display rows (R433). -/
  | update
  /-- A write of 1 to TEST drives levels 3 and 0 on every non-Lantern row and redraws (R433). -/
  | displayTest
  /-- A display update completes, raising event 0x1D01 with the rows written (R433). -/
  | displayUpdateDone (vdh vdl : BitVec 16) (copies : List (Nat × Int))
  /-- VDH or VDL leaves range, stopping the DSE at the next pair boundary with event 0x1D04 (R434). -/
  | driveVoltageFault (vdh vdl : BitVec 16) (rows : Nat)
  /-- VDH and VDL have been in range for 100 ms, and the update resumes (R434). -/
  | driveVoltageResume (vdh vdl : BitVec 16)
  /-- A stop reading of a shown outlet makes the Lantern path set the stale mark (R440). -/
  | lanternStopLatch (n : Fin 24)
  /-- The LGS commit of a session record makes the Lantern path write the new total and clear the mark (R440). -/
  | lanternCommit (n : Fin 24)
  /-- VIN becomes absent and the ride-through time starts (R448). -/
  | vinLoss (kind : VinState)
  /-- VIN returns before t_pf, a dip that sets DIP and raises event 0x0103 (R448). -/
  | supplyDip (ms : Nat)
  /-- The BCU declares power failure at t_pf and every unit runs its power-fail commit (R449). -/
  | powerFailure (cause : Fin 3)
  /-- At t_pf + 10 ms or VHOLD at 30 V, every domain except Basecamp is switched off (R450). -/
  | holdupEnd
  /-- VIN has stayed in range for 100 ms, VHOLD recharges and a cold reset is released at 60 V (R451). -/
  | restoration
  /-- All three sources are lost and Basecamp is reset (R452). -/
  | basecampLoss
  /-- Once an hour the BCU measures VBAT, setting or clearing VBATLOW (R455). -/
  | vbatMeasure (mv : BitVec 16)
  /-- Each second the BCU compares XTAL32 with the crystal, switching ledger time to the divider on a fault (R454). -/
  | xtal32Check (good : Bool) (settled : Bool)
  /-- Four consecutive agreeing windows prove the crystal, the PLL locks and event 0x0201 is raised (R457). -/
  | crystalProven (tenMicros : Nat)
  /-- The crystal is not proven within 100 ms, raising event 0x0202 (R457). -/
  | crystalNotProven
  /-- The running crystal fails, the PLL switches to the internal oscillator and a commanded cold reset follows (R459). -/
  | crystalFailure (kind : Fin 3)
  /-- The PLL loses lock, setting PLLF and leading to a commanded cold reset (R459). -/
  | pllLockLoss
  /-- A write of 1 to START begins a frequency measurement (R461). -/
  | start (win : Nat) (ref meas : Fin 16)
  /-- The frequency counter window ends and COUNT holds the result (R461). -/
  | frequencyMeasurementDone (count : Nat)
  /-- A write to CGU_CLKEN gates or ungates the clocks of listed ports and blocks (R460). -/
  | clockEnableWrite (value : BitVec 32)
  /-- BCU_RSTCMD 0b001 with KEY 0x5A causes a software or host warm reset (R462). -/
  | warmResetCommand (m : Fin 22) (key : BitVec 8)
  /-- BCU_RSTCMD 0b010 with KEY 0x5A causes a commanded cold reset after the power-fail commit (R462). -/
  | coldResetCommand (key : BitVec 8)
  /-- BCU_RSTCMD 0b011 turns safety outputs off and reruns the GSE start-up tests (R472). -/
  | safetyRestartCommand (key : BitVec 8)
  /-- BCU_RSTCMD 0b100 resets one unit, or is refused for BCU, CGU, FAB, PPL and SCH (R471). -/
  | unitResetCommand (key unit index : BitVec 8)
  /-- A unit reset finishes its action, raising event 0x0107 with detail 0 (R471). -/
  | unitResetEnd (unit index : BitVec 8)
  /-- The application domain is reset, the Guy hold latches capture outputs and the hold timer starts (R20). -/
  | warmReset (cause : Fin 4)
  /-- A released cold reset runs the start sequence: crystal, plan verification, domain starts, firmware load and restoration (R463). -/
  | coldStart (secRow : Fin 20) (microFail : Bool)
  /-- The firmware starts running, and the BLU replays the restoration and power-fail sessions are sealed (R463). -/
  | firmwareRunning
  /-- The boot ROM check of the working-memory image completes, passing or raising event 0x010D and starting a reload (R466). -/
  | imageCheckDone (pass : Bool)
  /-- A0 writes 1 to KICK and restarts the supervision watchdog (R464). -/
  | kick (m : Fin 22)
  /-- The watchdog expires and causes a warm reset (R464). -/
  | watchdogExpiry
  /-- A write of 1 to HEALTHY sets UNHEALTHY to 0 (R465). -/
  | healthy
  /-- A write of 1 to TAKE ends the Guy hold, and outputs take their register values at their next boundaries (R468). -/
  | take
  /-- The hold timer runs out before TAKE, and outlets shut down and switch channels act as tabled (R469). -/
  | guyHoldExpiry
  /-- Each whole hour with main power, ID_LIFE advances by the temperature-weighted equivalent hours (R509). -/
  | lifeAccounting (tmean tnow peak : Int) (flash0 flash1 : BitVec 32)
  /-- UPD_CMD LOAD starts reading and checking an update from the medium (R485). -/
  | load
  /-- Reading, checking and writing complete, the update is staged and event 0x1E03 is raised, or it is refused (R485). -/
  | updateStaged (writeFail : Option (Fin 64))
  /-- UPD_CMD ACTIVATE schedules activation at a time T with event 0x1E04 (R488). -/
  | activate
  /-- UPD_CMD CANCEL abandons an update before activation and restores written parts (R495). -/
  | cancel
  /-- UPD_CMD CONFIRM commits an update in trial (R492). -/
  | confirm
  /-- UPD_CMD FALLBACK, or another trigger, starts a fallback to the previous parts (R494). -/
  | fallback
  /-- At T − DRAIN every outlet refuses new sessions, with event 0x1E05 (R489). -/
  | drainStart
  /-- At T − 60 s every named node has to hold its image, or the update is abandoned with reason 0x12 (R489). -/
  | nodeImageDeadline
  /-- At T − 5 s ACTIVATE goes out to the nodes with time T (R489). -/
  | nodeActivateSend
  /-- At T open sessions end, the plan part is staged and activated in the PPL and nodes switch (R489). -/
  | updateActivation
  /-- At T + 5 s a commanded cold reset starts the trial, with ledger record 0x38 and event 0x1E06 (R489). -/
  | activationReset
  /-- The trial count reaches 72 h of healthy running and the update commits (R492). -/
  | trialComplete
  /-- A named node does not confirm its new version within 60 s (600 s in band C), causing a fallback (R493). -/
  | nodeVersionTimeout
  /-- The medium is removed, abandoning an update in reading or checking with reason 0x11 (R498). -/
  | mediumRemoved
  /-- An OCPP firmware update request is refused without change, with event 0x1E0C (R478). -/
  | ocppFirmwareRequest (v2 : Bool)
  /-- A pilot sample that starts or breaks a run of agreeing samples updates PEND and, when a run breaks, increments REJECT (R79). -/
  | pilotSample (n : Fin 24) (vhi : Int) (vlo : Option Int)
  /-- A pulse input that goes low before it has been high for 10 ms counts nothing and sets PLSREJ (R155). -/
  | shortPulseRejected (n : Fin 64)
  /-- A 10BASE-T1S link comes up or goes down, enabling association or starting the 100 ms down timer (R119). -/
  | t1sLinkChange (k : Fin 8) (up : Bool)
  /-- The back office answers an OCPP authorisation request for an eMAID or card, ending the Ongoing answers to the vehicle (R127). -/
  | ocppAuthorisationResult (n : Fin 24) (accepted : Bool)
  /-- The back office answers a forwarded CertificateInstallation or CertificateUpdate, and the answer goes to the vehicle (R129). -/
  | ocppCertificateAnswer (n : Fin 24)
  /-- The bank voltage returns above DROOP of its mean, unfreezing the slot holder's inrush timer and clearing FROZEN (R236). -/
  | bankDroopEnd (k : Fin 4) (vnow vmean : BitVec 16)
  /-- VSIO recovers, ending the undervoltage demand with event 0x170E detail 0, so functions may return under their reset rules (R248). -/
  | vsioUndervoltageEnd
  /-- A byte has waited UPTO µs in the UP FIFO, asserting HRDY_N (R379). -/
  | uptoExpiry
  /-- An HMI TCP or TLS session is closed by the host or lost, its stream ends and event 0x1C05 with detail 0 is raised (R381). -/
  | hmiSessionClose (p : Fin 4)
  /-- 5 s after a Modbus TCP connection is lost, the NTU reconnects it (R392). -/
  | modbusTcpReconnect (dev : Fin 16)
  /-- The firmware generates a key into the shadow of a REPLACE 1 slot and runs its test operation, without a sealed command (R409). -/
  | firmwareKeyGen (slot : Fin 128) (ktype : Fin 16) (testOk : Bool)
  /-- VHOLD reaches 70 V at a cold start, the charge time gives BCU_HOLDCAP, and HUFAULT is set or cleared with event 0x0109 (R447). -/
  | holdupMeasurementDone (microfarad : BitVec 16)
  /-- Basecamp switches its source between VIN, VHOLD and VBAT, changing SRC and the tamper sampling rate (R452). -/
  | basecampSourceChange (src : Fin 3)
  /-- The Bedroll finishes restoring the replaced parts, stages the fallback plan and the ALK sends FALLBACK with its time (R494). -/
  | fallbackRestoreDone
  /-- At the fallback second the commanded cold reset of the fallback is performed (R494). -/
  | fallbackReset
  /-- The Bedroll finishes restoring the written parts of an abandoned update, and the state returns from abandoning to idle (R495). -/
  | abandonRestoreDone
  /-- An SD card or USB device is inserted and mounted, setting MEDIA (R479). -/
  | mediumInserted (manifest : Option (List (BitVec 8))) (files : List (List (BitVec 8) × List (BitVec 8)))
  deriving DecidableEq, Repr

end Sys2Proof
end

