-- ==== Sys2Proof/Decode.lean ====
section
/-! DEFINITION. The command that a word of spec/opcode_table.json spells. No row of the table gives its command any bits, so no word
spells one: the commands are happenings at the block's ports and accesses to its registers. -/

namespace Sys2Proof

/-- The command that the bits `w` of an instruction of `nbits` bits spell by the table: none, since every row's list of fields is empty. -/
def decodeTableWord (_nbits _w : Nat) : Option Instr := none

end Sys2Proof
end

