-- ==== Sys2Proof/Config.lean ====
section
/-! DEFINITION. What is fixed outside the model: free values, values set at manufacture, and codecs whose schemas the spec does not hold. All are
opaque: nothing can evaluate them, so a claim holds whatever they are. -/

namespace Sys2Proof.Config

/-- A value that the spec leaves open, by the number of the draw. -/
opaque freeValue : Nat → Nat

/-- The module serial number that ID_SERIAL holds, set at manufacture (R505). -/
opaque serial : Nat → Nat

/-- The IC manufacturer code of the tag's UID, programmed at manufacture (R283). -/
opaque icCode : Nat

/-- The version of the tag front end (R288). -/
opaque tagVersion : Nat

/-- The CRC-16 over data and block number in the tag's write journal (R291); the spec names no polynomial. -/
opaque journalCrc : Nat → Nat → Nat

/-- The keys of the map in the commissioning record of the NDEF message, as text, by the place of the value (R286); the spec gives the values and
no keys. -/
opaque ndefKey : Nat → List Nat

/-- Bytes that the spec leaves open, by the number of the draw: the encoded loop responses of an outlet (R136). -/
opaque freeBytes : Nat → List Nat

/-- The public key that a slot holds from manufacture (R400, R403). -/
opaque shippedKey : Nat → List Nat

/-- Whether ZRET is set in a slot's attribute word (R404); the spec names the bit and not the slots that set it. -/
opaque zret : Nat → Bool

/-- The roots by life-cycle state: SHA-384 digests burned at manufacture (R401). -/
opaque root : Nat → Nat

/-- The private scalars that KS000 and KS001 hold from manufacture (R400, R406). -/
opaque shippedScalar : Nat → Nat

/-- The nonce prefix that an Ed448 key has beside its scalar (RFC 8032); the spec does not say where the SEC holds it (R338, R406). -/
opaque edPrefix : Nat → List Nat

/-- A pixel of a character's glyph on the Lantern band: character, row and column; the spec gives the text and no glyphs (R439). -/
opaque glyph : Nat → Nat → Nat → Bool

/-- Whether ink is level 3 or level 0 on the Lantern band; the spec says only that the band uses these two levels (R439). -/
opaque inkBright : Bool

/-- The authorisation identity that the firmware binds at the open of a session, by draw (R337); no register carries it. -/
opaque boundIdent : Nat → List Nat

/-- The version of a part as installed at manufacture, by part identity (R496); the spec gives none. -/
opaque partVersion : Nat → Nat

/-- The records of the built-in permit table for the masters other than the host: master, target, offset, write (R423, R515). They lie in the
firmware image. -/
opaque builtinPermit : Nat → Nat → Nat → Bool → Bool

/-- A word of a legal window: target, offset and the values that the window holds (R424). The spec names the contents and no layout. -/
opaque legalWord : Nat → Nat → List Nat → Nat

/-- What the standards' schemas add to a response beside the elements that the spec names (R132), by a free value. -/
opaque resRest : Nat → V2gVal

/-- The EXI codec of a message code: the standards' schemas fix it (R130). -/
opaque exiOf : Nat → V2gVal → List Nat

/-- What the codec reads from the EXI form of a message code (R130). -/
opaque exiTree : Nat → List Nat → V2gVal

/-- A loop response with the wall time written at the marked bit position, in the generation's form (R136). -/
opaque stamped : List Nat → Nat → Int → List Nat

end Sys2Proof.Config
end

