-- ==== Sys2Proof/Machine/Tab.lean ====
section
/-! DEFINITION. Operations on tables, bit fields and numbers that the units share. -/

namespace Sys2Proof.Machine

/-- The entry of a table at a key; an unlisted key holds the default `d`. -/
def lookup {α : Type} (d : α) : Tab α → Nat → α
  | [], _ => d
  | (j, w) :: r, k => if j = k then w else lookup d r k

/-- An entry put in before the first entry of a higher key. -/
def insertAt {α : Type} : Tab α → Nat → α → Tab α
  | [], k, v => [(k, v)]
  | (j, w) :: r, k, v => if k < j then (k, v) :: (j, w) :: r else (j, w) :: insertAt r k v

/-- The table with the entry at `k` set to `v`; an entry equal to the default is not listed. -/
def update {α : Type} [DecidableEq α] (d : α) (t : Tab α) (k : Nat) (v : α) : Tab α :=
  let rest := t.filter fun e => e.1 != k
  if v = d then rest else insertAt rest k v

/-- The table with a function applied to every listed entry, in canonical form. -/
def mapTab {α : Type} [DecidableEq α] (d : α) (f : α → α) (t : Tab α) : Tab α :=
  t.filterMap fun e => if f e.2 = d then none else some (e.1, f e.2)

/-- Keys of a table rise strictly from `lo`, and no entry equals the default of its key. -/
def tabWfFrom {α : Type} [DecidableEq α] (d : Nat → α) : Nat → Tab α → Bool
  | _, [] => true
  | lo, (k, v) :: r => decide (lo ≤ k) && decide (v ≠ d k) && tabWfFrom d (k + 1) r

/-- The canonical form of a table. -/
def tabWf {α : Type} [DecidableEq α] (d : Nat → α) (t : Tab α) : Bool := tabWfFrom d 0 t

/-- Bit `k` of a number. -/
def bit (v k : Nat) : Bool := v.testBit k

/-- 1 for true, 0 for false. -/
def b2n (b : Bool) : Nat := if b then 1 else 0

/-- The number with bit `k` set to `b`. -/
def setBit (v k : Nat) (b : Bool) : Nat :=
  if v.testBit k = b then v else if b then v + 2 ^ k else v - 2 ^ k

/-- The bits [hi:lo] of a number. -/
def bitsOf (v hi lo : Nat) : Nat := v / 2 ^ lo % 2 ^ (hi + 1 - lo)

/-- The two's complement code of an integer in `w` bits. -/
def toTwos (w : Nat) (v : Int) : Nat := (v % (2 ^ w : Int)).toNat

/-- The integer that a `w`-bit two's complement code stands for. -/
def ofTwos (w : Nat) (v : Nat) : Int := if v % 2 ^ w < 2 ^ (w - 1) then (v % 2 ^ w : Int) else (v % 2 ^ w : Int) - 2 ^ w

/-- A value moved to the nearer end of a range when it lies outside. -/
def clamp (lo hi v : Nat) : Nat := if v < lo then lo else if hi < v then hi else v

/-- A counter one higher, held at its top value. -/
def satInc (top v : Nat) : Nat := if v < top then v + 1 else top

/-- The mask of the numbers in a list. -/
def maskOf (l : List Nat) : Nat := l.foldl (fun m k => setBit m k true) 0

/-- The numbers below `n` whose bit is set in a mask. -/
def bitList (n v : Nat) : List Nat := (List.range n).filter fun k => v.testBit k

/-- An element put into a list that rises by `le`, before the first that it does not exceed. -/
def insertBy {α : Type} (le : α → α → Bool) (x : α) : List α → List α
  | [] => [x]
  | y :: l => if le x y then x :: y :: l else y :: insertBy le x l

/-- A list in rising order by `le`; elements that compare equal keep their order. -/
def sortBy {α : Type} (le : α → α → Bool) (l : List α) : List α := l.foldr (insertBy le) []

/-- Division rounded to the nearest whole number, a half rounded up. -/
def roundDiv (a b : Nat) : Nat := if b = 0 then 0 else (2 * a + b) / (2 * b)

end Sys2Proof.Machine
end

