-- ==== Sys2Proof/Machine/Plan.lean ====
section
/-! DEFINITION. The Pitch plan as data: the header and the records of the twelve sections (R45 to R50, R64). Every numeric field
holds the value of the plan's bytes. Parameter blocks that one unit interprets stay lists of bytes. -/

namespace Sys2Proof.Machine

/-- The HEAD record (R50). -/
structure HeadRec where
  profile : Nat := 0
  flags : Nat := 0
  emberIdle : Nat := 60
  guyHoldMs : Nat := 300
  modClk : Nat := 0
  nOutl : Nat := 0
  deriving DecidableEq, Repr

/-- An OUTL record (R50). -/
structure OutlRec where
  outlet : Nat := 0
  kind : Nat := 0
  proto : Nat := 0
  phases : Nat := 0
  imax : Nat := 0
  vmax : Nat := 0
  pmax : Nat := 0
  cont0 : Nat := 0xFF
  cont1 : Nat := 0xFF
  lockCh : Nat := 0xFF
  rcm : Nat := 0xFF
  imd : Nat := 0xFF
  flags : Nat := 0
  tDerate : Nat := 0
  tCut : Nat := 0
  module : Nat := 0xFF
  deriving DecidableEq, Repr

/-- A SENS record (R50). -/
structure SensRec where
  ch : Nat := 0
  outlet : Nat := 0xFF
  qty : Nat := 0
  sensor : Nat := 0
  rate : Nat := 0
  pair : Nat := 0xFF
  maLen : Nat := 1
  ratio : Nat := 0
  pulsec : Nat := 0
  lossr : Nat := 0
  pls : Nat := 0xFF
  deriving DecidableEq, Repr

/-- A frame record of SLCE (R64). -/
structure FrameRec where
  engine : Nat := 0
  nSlice : Nat := 0
  frame : Nat := 0
  overhead : Nat := 0
  deriving DecidableEq, Repr

/-- A class record of SLCE (R64). -/
structure ClassRec where
  engine : Nat := 0
  cls : Nat := 0
  sps : Nat := 1
  budget : Nat := 0
  deriving DecidableEq, Repr

/-- A slice record of SLCE (R64). -/
structure SliceRec where
  engine : Nat := 0
  index : Nat := 0
  stream : Nat := 0xFFFF
  cls : Nat := 0
  flags : Nat := 0
  len : Nat := 0
  proof : Nat := 0
  deriving DecidableEq, Repr

/-- A SWCH record (R50). -/
structure SwchRec where
  ch : Nat := 0
  func : Nat := 0
  outlet : Nat := 0xFF
  slew : Nat := 0
  vnom : Nat := 0
  retryN : Nat := 7
  flags : Nat := 0
  inrushMs : Nat := 1
  deriving DecidableEq, Repr

/-- A SAFE record (R50); `params` are the bytes 3 to 31. -/
structure SafeRec where
  func : Nat := 0
  stopCat : Nat := 0
  outMask : Nat := 0
  params : List Nat := []
  deriving DecidableEq, Repr

/-- A PERM record (R50). -/
structure PermRec where
  target : Nat := 0
  master : Nat := 0
  access : Nat := 0
  start : Nat := 0
  stop : Nat := 0
  deriving DecidableEq, Repr

/-- A TARF record (R50). -/
structure TarfRec where
  tariff : Nat := 0
  dir : Nat := 0
  demand : Nat := 0
  interval : Nat := 15
  subint : Nat := 1
  price : Nat := 0
  currency : Nat := 0
  label : List Nat := []
  deriving DecidableEq, Repr

/-- An ALOC record (R50). -/
structure AlocRec where
  rule : Nat := 0
  scope : Nat := 0xFE
  prio : Nat := 0
  flags : Nat := 0
  v1 : Int := 0
  v2 : Int := 0
  v3 : Int := 0
  time : Nat := 0
  deriving DecidableEq, Repr

/-- A NETW record (R50); `params` are the bytes 1 to 63. -/
structure NetwRec where
  type : Nat := 0
  params : List Nat := []
  deriving DecidableEq, Repr

/-- The DISP record (R50); `params` are the bytes 4 to 15. -/
structure DispRec where
  rows : Nat := 32
  cols : Nat := 1
  params : List Nat := []
  deriving DecidableEq, Repr

/-- A Pitch plan: the header fields (R46), the section CRCs in the order of R48, the records, and the delivered bytes. -/
structure Plan where
  planId : Nat := 0
  planVer : Nat := 0
  siteId : List Nat := []
  safeCv : Nat := 0
  legalCv : Nat := 0
  crcs : List Nat := []
  head : HeadRec := {}
  outl : List OutlRec := []
  sens : List SensRec := []
  frames : List FrameRec := []
  classes : List ClassRec := []
  slices : List SliceRec := []
  swch : List SwchRec := []
  safe : List SafeRec := []
  perm : List PermRec := []
  tarf : List TarfRec := []
  aloc : List AlocRec := []
  netw : List NetwRec := []
  disp : DispRec := {}
  raw : List Nat := []
  deriving DecidableEq, Repr

/-- Byte `k` of a parameter block. -/
def NetwRec.byte (r : NetwRec) (off : Nat) : Nat := r.params.getD (off - 1) 0

/-- The 16-bit little-endian field at offset `off` of a NETW record. -/
def NetwRec.u16 (r : NetwRec) (off : Nat) : Nat := r.byte off + 256 * r.byte (off + 1)

/-- The 32-bit little-endian field at offset `off` of a NETW record. -/
def NetwRec.u32 (r : NetwRec) (off : Nat) : Nat := r.u16 off + 65536 * r.u16 (off + 2)

/-- Byte `off` of a SAFE record. -/
def SafeRec.byte (r : SafeRec) (off : Nat) : Nat := r.params.getD (off - 3) 0

/-- The 16-bit little-endian field at offset `off` of a SAFE record. -/
def SafeRec.u16 (r : SafeRec) (off : Nat) : Nat := r.byte off + 256 * r.byte (off + 1)

/-- The 32-bit little-endian field at offset `off` of a SAFE record. -/
def SafeRec.u32 (r : SafeRec) (off : Nat) : Nat := r.u16 off + 65536 * r.u16 (off + 2)

/-- Byte `off` of the DISP record. -/
def DispRec.byte (r : DispRec) (off : Nat) : Nat := r.params.getD (off - 4) 0

end Sys2Proof.Machine
end

