-- ==== Sys2Proof/Machine/State.lean ====
section
/-! DEFINITION. The state of the controller as plain data: the register store, the state of each unit outside its registers, and the
queue of waiting commands. -/

namespace Sys2Proof.Machine

open Sys2Proof

/-- An event (R44): its code, the ledger time at which it was raised, and its argument. -/
structure Event where
  code : Nat
  ltime : Nat
  arg : Nat
  deriving DecidableEq, Repr

/-- A transaction that a violation or decode error answered, or an access completed (R26, R27): the answers the fabric gave. -/
inductive BusAnswer where
  | ok (value : Nat) | decodeError | errorResponse
  deriving DecidableEq, Repr

/-- A violation record (FAB_VREC0 to FAB_VREC3). -/
structure VRec where
  master : Nat
  access : Nat
  target : Nat
  addr : Nat
  time : Nat
  deriving DecidableEq, Repr

/-- The FAB's state outside its registers. -/
structure Fab where
  /-- The violation queue, oldest first, at most 16 records (R27, R33). -/
  queue : List VRec := []
  /-- Deadline of the 100 ms A0 freeze timer (R29). -/
  a0Timer : Option Nat := none
  /-- The answer to the last access of MASTER_ACCESS (R26, R27). -/
  answer : BusAnswer := .ok 0
  /-- Boundary fields by key: one more than the instant of the last write, and the value that stood before the writes of that instant (R14). -/
  writtenAt : Tab Nat := []
  before : Tab Nat := []
  deriving DecidableEq, Repr

/-- A slice of an engine's table as it runs (R64, R67, R68). -/
structure Slice where
  engine : Nat := 0
  index : Nat := 0
  /-- The bound stream, 0xFFFF while open. -/
  stream : Nat := 0xFFFF
  cls : Nat := 0
  background : Bool := false
  len : Nat := 0
  proof : Nat := 0
  /-- The stream has ended and the slice returns to open at the next frame boundary (R68). -/
  freed : Bool := false
  deriving DecidableEq, Repr

/-- What the SCH keeps per stream (R38). -/
structure StreamStat where
  margin : Nat := 0xFFFFFFFF
  misses : Nat := 0
  deriving DecidableEq, Repr

/-- The SCH's state outside its registers. -/
structure Sch where
  /-- The slice tables of the six engines (R35, R64). -/
  slices : List Slice := []
  /-- The class records in force (R64). -/
  classes : List ClassRec := []
  /-- Margins and misses by stream identity (R38). -/
  stats : Tab StreamStat := []
  /-- Requests that stay pending until a slice is open: stream and class, in ascending stream identity (R68, R113). -/
  waiting : List (Nat × Nat) := []
  deriving DecidableEq, Repr

/-- What arms a staged plan with a changed legal section (R63); kept in Basecamp MRAM. -/
structure Arming where
  scSeq : Nat
  keyId : Nat
  deriving DecidableEq, Repr

/-- The PPL's state outside its registers. -/
structure Ppl where
  /-- The bytes delivered to the staging area so far, and the announced length (R383); the delivery is complete and waits for its checks (R55). -/
  staging : List Nat := []
  totLen : Nat := 0
  delivered : Bool := false
  /-- The staged plan's bytes, kept in the image store (R60). -/
  stagedRaw : Option (List Nat) := none
  /-- The staged plan as verified (R55). -/
  staged : Option Plan := none
  /-- A pending activation: the change class (1 Live, 2 Outlet idle, 3 Cold reset, 4 Re-commission) once commanded (R62). -/
  commanded : Option Nat := none
  /-- The outlets affected by a commanded Outlet-idle activation, and those with a session at last sight (R62). -/
  affected : Nat := 0
  awaited : Nat := 0
  /-- The arming by PLAN_ACTIVATE (R63). -/
  armed : Option Arming := none
  /-- The active plan (R57). -/
  active : Option Plan := none
  /-- The Pitch plan version counter (R57). -/
  counter : Nat := 0
  /-- Check values of the active plan are being changed by an update's plan part (R489). -/
  byUpdate : Bool := false
  /-- The staged plan is being verified again (R70). -/
  again : Bool := false
  deriving DecidableEq, Repr

/-- The low-level classes of R78. -/
inductive LowClass where
  | none | present | zero | fault
  deriving DecidableEq, Repr

/-- Which coil of the cable lock is driven (R93). -/
inductive Coil where
  | off | lock | unlock
  deriving DecidableEq, Repr

/-- An OIU's state outside its registers. -/
structure Oiu where
  /-- Length of the run of agreeing samples towards the letter in PEND (R79). -/
  runLen : Nat := 0
  /-- The confirmed low-level class, and the run towards a new one (R79). -/
  low : LowClass := .none
  lowPend : LowClass := .none
  lowRun : Nat := 0
  /-- The mean of the last settled window of a short high phase, and the end of the pilot period that the high phase belongs to (R77). -/
  shortWin : Option (Int × Nat) := none
  /-- The last pilot period boundary (R75), and the last sample of the pilot (R77). -/
  lastPeriod : Option Nat := none
  lastSample : Option Nat := none
  /-- The last boundary at which the generator changed between steady output and PWM, and the duty before it (R77). -/
  modeAt : Option Nat := none
  oldDuty : Nat := 0
  /-- Measurement has started afresh after F or E and no state is confirmed yet (R83). -/
  fresh : Bool := false
  /-- A fault asks for F at the next pilot period boundary (R83, R96); the one of a trip acts through the Guy hold latches too (R194). -/
  fault : Bool := false
  tripF : Bool := false
  /-- The generator has left PWM since it last ran PWM or the last A (R84). -/
  leftPwm : Bool := false
  /-- An unlock fault keeps the outlet unavailable until LOCKF is cleared (R94). -/
  unlockFault : Bool := false
  /-- Deadlines of the timers of R84, R88, R93, R96, R98 and R103. -/
  c1max : Option Nat := none
  lkPulse : Option Nat := none
  lkConf : Option Nat := none
  lkRetry : Option Nat := none
  weldt : Option Nat := none
  closeT : Option Nat := none
  fHold : Option Nat := none
  fallbackT : Option Nat := none
  cutT : Option Nat := none
  shutT : Option Nat := none
  /-- The coil driven now (R93). -/
  coil : Coil := .off
  /-- An unlock waits for the running pulse (R85) or for the contactor (R94); a lock waits for the running unlock pulse (R93). -/
  unlockDue : Bool := false
  lockDue : Bool := false
  /-- The outlet was shut down at a Guy hold expiry and keeps a grant of 0 until a new session (R103, R223, R469). -/
  shutDown : Bool := false
  /-- The steady +12 V of that shutdown, until TAKE (R103, R469). -/
  shutPilot : Bool := false
  /-- The step from 5 % to current-coded duty has been made in this plug-in (R88). -/
  fellBack : Bool := false
  /-- The current-coded pause of R87. -/
  paused : Bool := false
  /-- The temperature limit in 0.1 A, none before the first evaluation (R97). -/
  tempLimit : Option Nat := none
  /-- Sensor faults in force (R98). -/
  tsaFault : Bool := false
  tsbFault : Bool := false
  disagree : Bool := false
  deriving DecidableEq, Repr

/-- Why a response fails: the request is out of the generation's order or of an unknown session (R123), the contract check fails with a detail
of R127, or another reason of the generation. -/
inductive V2gFail where
  | sequenceError | unknownSession | certificate (detail : Nat) | other
  deriving DecidableEq, Repr

/-- A response to a V2G request, as far as the spec gives its contents: the message code; 0 finished, 1 ongoing, 2 failed, and why; the services
offered (a mask over the bit numbers of VCE_OSVC SVC) and whether with contract (R122); PMAX in W, VMAX in V and IMAX in 0.1 A of the outlet
where it states limits (R122); what it asks of the vehicle for the host (R133): 1 to stop, 2 to pause, 3 to renegotiate; the grant in the generation's fields (R218): power in W, a
negative one for discharge, and current in 0.1 A. -/
structure V2gOut where
  code : Nat
  result : Nat
  fail : Option V2gFail := none
  services : Nat := 0
  contract : Bool := false
  limits : Option (Nat × Nat × Nat) := none
  notify : Nat := 0
  power : Option Int := none
  amps : Option Nat := none
  deriving DecidableEq, Repr

/-- A pre-encoded loop response of the firmware: its bytes, and the bit position of the header time stamp (R136). -/
structure LoopRes where
  bytes : List Nat := []
  stampBit : Nat := 0
  deriving DecidableEq, Repr

/-- What the controller sends on a vehicle link. -/
inductive VceTx where
  | slacParmCnf (run : Nat)
  | attenCharInd (run : Nat)
  | slacMatchCnf (run nid nmk : Nat)
  | sdpRes (tls : Bool)
  | appProtoRes (gen : Nat)
  | v2gRes (r : V2gOut)
  /-- A loop response: shutdown or normal, as the firmware encoded it, with the wall time at the marked position (R136). -/
  | loopRes (shutdown : Bool) (r : LoopRes) (wall : Int)
  /-- The TCP connection is closed (R130). -/
  | tcpClose
  deriving DecidableEq, Repr

/-- A host message (R131). -/
structure HostMsg where
  outlet : Nat
  gen : Nat
  dir : Nat
  flags : Nat
  msg : Nat
  seq : Nat
  ltime : Nat
  body : List Nat
  exi : List Nat
  deriving DecidableEq, Repr

/-- What the controller sends to the back office (R127, R129, R207): a vehicle's certificate request, as the ISO 15118 EV certificate request
or in the data-transfer message; an authorisation request for an outlet's contract; the answer to a charging profile. -/
inductive BackOffice where
  | evCertificate (outlet code : Nat) (exi : List Nat)
  | dataTransfer (outlet code : Nat) (exi : List Nat)
  | authorise (outlet : Nat)
  | profileAnswer (accepted : Bool)
  /-- A firmware request is refused: Rejected with MediumRequired, or DownloadFailed under OCPP 1.6 (R478). -/
  | firmwareRefused (v2 : Bool)
  deriving DecidableEq, Repr

/-- A PPDU in the transmit path: its outlet, when it was requested, its length on air in µs, when it is completely encoded (R114), and whether it
carries a message of the controller. -/
structure Ppdu where
  outlet : Nat
  asked : Nat
  micros : Nat
  ready : Nat
  carries : Bool := false
  deriving DecidableEq, Repr

/-- The shared transmit encoder: the PPDUs in order of service, and when it is free before the first of them (R114). -/
structure Encoder where
  queue : List Ppdu := []
  freeAt : Nat := 0
  deriving DecidableEq, Repr

/-- A message in a receive buffer: when it arrived, and whether the loop responder has answered it. -/
structure RxMsg where
  msg : V2gMsg
  ltime : Nat
  answered : Bool
  deriving DecidableEq, Repr

/-- The authorisation of a session on its link. -/
inductive AuthState where
  | none | pending | accepted | refused
  deriving DecidableEq, Repr

/-- What a vehicle's messages have asked for, as far as the allocator uses it (R212, R214, R219): powers in W, currents in 0.1 A, voltages in 0.1 V,
energies in Wh, the departure in ledger time, the state of charge in %. -/
structure VehReq where
  power : Option Nat := none
  current : Option Nat := none
  target : Option Nat := none
  vmax : Option Nat := none
  want : Option Nat := none
  energy : Option Nat := none
  least : Option Int := none
  departAt : Option Nat := none
  soc : Option Nat := none
  discharge : Option Nat := none
  deriving DecidableEq, Repr

/-- A session checkpoint in Basecamp MRAM (R453): what the session logic needs again after a warm reset. -/
structure SessCkpt where
  auth : AuthState := .none
  /-- The contract of a PaymentDetails request: whether the Local Auth List holds it (R127). -/
  contract : Option Bool := none
  cableCheck : Bool := false
  stopReq : Bool := false
  checkedIn : Bool := false
  headDown : Bool := false
  lastMsg : Nat := 0
  certMsg : Nat := 0
  req : VehReq := {}
  agreed : Option Int := none
  /-- The grant of the allocator in W. -/
  grant : Int := 0
  deriving DecidableEq, Repr

/-- What the VCE keeps per outlet. -/
structure Vce where
  /-- The network identity and membership key drawn at the plug-in (R115). -/
  nid : Nat := 0
  nmk : Nat := 0
  keyed : Bool := false
  /-- A lane was refused in this plug-in and the outlet runs basic PWM (R113). -/
  noLane : Bool := false
  /-- Deadlines: SLAC init and join (R115), the retry (R118), the T1S link loss (R120), link to SupportedAppProtocol, TLS handshake,
  sequence and authorisation (R125), the forwarded certificate (R129). -/
  initT : Option Nat := none
  joinT : Option Nat := none
  retryT : Option Nat := none
  t1sT : Option Nat := none
  linkT : Option Nat := none
  tlsT : Option Nat := none
  seqT : Option Nat := none
  authT : Option Nat := none
  certT : Option Nat := none
  /-- The message code of the forwarded certificate request. -/
  certMsg : Nat := 0
  /-- The matched attenuation in dB. -/
  atten : Nat := 0xFF
  /-- A V2G session has started (event 0x1105), and it is in a charge loop (R136). -/
  sess : Bool := false
  inLoop : Bool := false
  /-- The controller has asked for termination (R133). -/
  stopReq : Bool := false
  auth : AuthState := .none
  /-- The contract of a PaymentDetails request has been checked: whether the Local Auth List holds it (R127). -/
  contract : Option Bool := none
  /-- What the next response asks of the vehicle: 2 to pause, 3 to renegotiate (R133). -/
  notify : Nat := 0
  /-- A vehicle has checked in under the pantograph, and the head has been seen down on it (R126). -/
  checkedIn : Bool := false
  headDown : Bool := false
  /-- The firmware's pre-encoded loop responses (R136). -/
  loopNormal : LoopRes := {}
  loopShutdown : LoopRes := {}
  /-- What the vehicle has asked for (R201), and the schedule in W that the session has agreed on (R218). -/
  req : VehReq := {}
  agreed : Option Int := none
  /-- The limits that the allocator has handed to the VCE: the grant in W and ICODE in 0.1 A (R217, R218). -/
  limit : Int := 0
  icode : Nat := 0
  /-- The session's checkpoint (R453). -/
  ckpt : SessCkpt := {}
  /-- The first cable check of the session has been answered (R124). -/
  cableCheck : Bool := false
  /-- The code of the last request answered. -/
  lastMsg : Nat := 0
  /-- The command of VCE_OCMD that waits for the message boundary (R133): the one last written, one more than the instant at which it was, and
  the one that waited before that instant (R14). -/
  cmd : Nat := 0
  cmdAt : Nat := 0
  cmdBefore : Nat := 0
  /-- The receive buffer, oldest first (R108), and the responder's own responses (R137). -/
  rx : List RxMsg := []
  loopTimes : List Nat := []
  /-- The message codes and the EXI forms of those responses (R131). -/
  loopSent : List (Nat × List Nat) := []
  /-- Instants at which encoded PPDUs are complete in the transmit store (R114). -/
  txq : List Nat := []
  /-- The host message sequence number (R131). -/
  seq : Nat := 0
  /-- What has been given to the link to send, oldest first; how many of them the encoder has been asked for, and how many have gone out (R114). -/
  sent : List VceTx := []
  asked : Nat := 0
  aired : Nat := 0
  deriving DecidableEq, Repr

/-- A SLAC run by its RunID: the deadline of its sound window, and the outlet matched with the sum of its attenuation groups and its
margin in dB (R115 to R117). -/
structure SlacRun where
  id : Nat
  window : Option Nat
  match_ : Option (Nat × Nat × Nat)
  deriving DecidableEq, Repr

/-- A sinc3 decimator: three integrators at the modulator clock and three combs at 1/250 of it, as 32-bit two's complement numbers; any width
that holds the output gives the same output (R144). -/
structure Sinc3 where
  i1 : Int := 0
  i2 : Int := 0
  i3 : Int := 0
  z1 : Int := 0
  z2 : Int := 0
  z3 : Int := 0
  /-- Modulator clocks since the last output. -/
  phase : Nat := 0
  deriving DecidableEq, Repr

/-- A metering channel's state outside its registers. -/
structure Chan where
  dec : Sinc3 := {}
  /-- The last bit, how many equal bits in a row there were (at most 256), and that MCKRk has shown no edge for 1 µs (R143). -/
  lastBit : Bool := false
  eqRun : Nat := 0
  noClk : Bool := false
  /-- The last instant at which a condition of the modulator fault held (R143). -/
  badAt : Nat := 0
  /-- Decimator outputs still to be discarded after the modulator clock started (R144). -/
  skip : Nat := 3
  /-- Front samples kept, newest first, at most 272, and how many there have been since the metering epoch (R148). -/
  hist : List Int := []
  front : Nat := 0
  /-- The integrator state in half counts and the sample before (R145). -/
  w : Int := 0
  uPrev : Int := 0
  /-- The next stamp, in 1/64,000 s since the metering epoch (R148). -/
  stamp : Nat := 0
  /-- The frame of engine 0 whose slice the channel has used in Ember (R161). -/
  usedFrame : Option Nat := none
  /-- Channel samples with their stamps, newest first, at most 512 (R158). -/
  samples : List (Nat × Int) := []
  /-- The sums of the RMS window and its cycles, and the sums of the samples after a crossing that is being placed (R154). -/
  sumSq : Nat := 0
  cnt : Nat := 0
  cycles : Nat := 0
  tailSq : Nat := 0
  tailCnt : Nat := 0
  /-- The envelope in 2^-32 mV or mA (R154). -/
  env : Nat := 0
  /-- A run that may become a crossing: a sample at or below −4,096 counts has been seen, the last sample at or below 0 and the first above 0
  after it, each with its stamp (R153). -/
  armed : Bool := false
  low : Option (Nat × Int) := none
  high : Option (Nat × Int) := none
  /-- A crossing that the samples show and that is not yet placed: its instant in 1/16,384,000 s and the first stamp after it (R153). -/
  found : Option (Nat × Nat) := none
  /-- The last crossing in 1/16,384,000 s, the last valid interval, and valid crossings in a row (R153). -/
  lastCross : Option Nat := none
  period : Nat := 0
  validRun : Nat := 0
  /-- When the last valid crossing was placed, or the channel started (R153). -/
  validAt : Nat := 0
  /-- A run of samples at 95 % of full scale is under way (R169). -/
  nearRun : Bool := false
  /-- The gain factor Gc of the integrator compensation as a fraction, and the shift that the compensation asks (R146). -/
  gcNum : Nat := 1
  gcDen : Nat := 1
  idRaw : Nat := 0
  /-- Pulses counted and not yet in the energy, and when the last one counted (R155). -/
  pulses : Nat := 0
  pulseAt : Option Nat := none
  /-- The sealed calibration has named this channel (R167). -/
  calibrated : Bool := false
  deriving DecidableEq, Repr

/-- The two sums of a pair over a direction period: Σv² and Σi² (R159). -/
structure PairSum where
  sv : Nat := 0
  si : Nat := 0
  deriving DecidableEq, Repr

/-- The sums of a direction period: Ea, Er, and the sums of its pairs (R157 to R159). -/
structure PeriodSums where
  ea : Int := 0
  er : Int := 0
  pairs : Tab PairSum := []
  deriving DecidableEq, Repr

/-- An element's accumulators and period state (R157 to R160). -/
structure Elem where
  /-- The nine accumulators of R160 in units of 2^-40 mWh, 96-bit two's complement. -/
  acc : List Int := [0, 0, 0, 0, 0, 0, 0, 0, 0]
  /-- The sums of the running period. -/
  sums : PeriodSums := {}
  /-- The stamps of the last period end and of the last sample, in 1/64,000 s. -/
  start : Nat := 0
  stamp : Nat := 0
  /-- The first stamp after a positive crossing of the reference voltage that is being placed, and the sums of the samples after it, which
  belong to the next period if it is valid (R159). -/
  split : Option Nat := none
  tail : PeriodSums := {}
  /-- The crossing is valid: the period ends once every pair has processed the stamps up to it (R159). -/
  ending : Bool := false
  deriving DecidableEq, Repr

/-- One record of a sealed calibration (R167, R168). -/
structure CalRec where
  ch : Nat
  gain : Nat
  offs : Nat
  delay0 : Nat
  delay1 : Nat
  maLen1 : Nat
  intk : Nat
  rshift : Nat
  deriving DecidableEq, Repr

/-- The MEU's state outside its registers and channels. -/
structure Meu where
  /-- The site's nominal frequency in Hz (R168). -/
  fnom : Nat := 50
  /-- Accumulation has stopped at the power-fail freeze (R165). -/
  frozen : Bool := false
  /-- Ember's 125 µs grid is in use, and the stamp at which the grid last changed (R161). -/
  ember : Bool := false
  emberAt : Nat := 0
  /-- When MCLK0 to MCLK3 started; held low while there is none (R142). -/
  mclk : Option Nat := none
  /-- The stamp from which the bank that MEU_STATUS.BANK shows is in use; earlier stamps use the other bank (R150). -/
  bankAt : Nat := 0
  /-- The last metering boundary that acted (R170). -/
  lastBoundary : Option Nat := none
  /-- Metering has stopped at a unit reset of the MEU since the one-second write that it completed (R166). -/
  stoppedAt : Option Nat := none
  /-- Until when an outlet stays unavailable after a modulator fault of its channels has ended: 10 s (R170). -/
  faultUntil : Tab Nat := []
  /-- MEU_EPWRe of every element at the power-fail freeze (R165). -/
  pfPwr : Tab Nat := []
  /-- The power-fail reading waits for the next boundary; it has been latched (R165). -/
  pfDue : Bool := false
  pfReading : Tab Elem := []
  /-- The commit of this power failure is complete (R165, R166). -/
  committed : Bool := false
  /-- A power failure has been declared whose commit is not complete (R166). -/
  pfOpen : Bool := false
  /-- The last one-second write and its ledger time (R165). -/
  saved : Tab Elem := []
  savedAt : Nat := 0
  deriving DecidableEq, Repr

/-- A residual-current channel's state outside its registers. -/
structure Rcm where
  /-- The last samples in µA, newest first, at most 100 (R175); samples not yet taken count as 0. -/
  window : List Int := []
  /-- The dwell timers of bands 1 to 6, in samples of 200 µs (R177). -/
  timers : List Nat := [0, 0, 0, 0, 0, 0]
  /-- When the channel tripped, and the trips of this plug-in (R179). -/
  tripAt : Option Nat := none
  plugTrips : Nat := 0
  /-- The self-test under way clears the lockout when it passes (R180). -/
  clearing : Bool := false
  /-- Baseline failures by real residual current in this test, and when it repeats (R181). -/
  baseFails : Nat := 0
  retryAt : Option Nat := none
  /-- The self-test under way: samples since its start, the run of the test dwell, the band decision of the step seen in the trip readback, the DC
  value in µA at 8.0 mA, and the first step that failed, 0 for none (R181); whether a trip decision fell into it (R195). -/
  testN : Nat := 0
  testRun : Nat := 0
  testSeen : Bool := false
  testDc : Nat := 0
  testFail : Nat := 0
  testTrip : Bool := false
  /-- The last trip opened a closed contactor, and when TRIPCLR last cleared one (R195). -/
  tripOn : Bool := false
  clearedAt : Option Nat := none
  /-- Ledger time at which the next 24 h test falls due, and whether it waits for the channel to be idle (R181). -/
  dailyAt : Nat := 0
  dailyDue : Bool := false
  /-- No self-test has run since the cold reset or the unit reset (R180, R194). -/
  first : Bool := true
  /-- The lockout began with the contactor command on and asserts the trip line (R180). -/
  lineHeld : Bool := false
  deriving DecidableEq, Repr

/-- An insulation channel's state outside its registers. -/
structure Imd where
  /-- The half period under way injects +30 V (R185). -/
  positive : Bool := true
  /-- The settled current of the last half period in pA (R185). -/
  last : Option Int := none
  /-- The latest Riso in Ω, none above every reading or before the first (R185). -/
  riso : Option Nat := none
  /-- Runs of consecutive results: at warning level, above 1.1 times it, below alarm level (R188). -/
  warnRun : Nat := 0
  validRun : Nat := 0
  alarmRun : Nat := 0
  /-- The outlet of a running cable check, the half periods seen, and the results kept (R189). -/
  check : Option Nat := none
  checkHalf : Nat := 0
  checkRes : List Nat := []
  /-- A self-test runs; it clears the lockout when it passes (R191). -/
  test : Bool := false
  clearing : Bool := false
  /-- The settled currents in pA of the half periods of the self-test, the last two with the internal resistor (R191). -/
  testCur : List Int := []
  dailyAt : Nat := 0
  dailyDue : Bool := false
  first : Bool := true
  /-- The lockout asserts the trip line of the bound outlets (R180, R191). -/
  lineHeld : Bool := false
  deriving DecidableEq, Repr

/-- The signals that the allocator writes into an outlet's CAN FD template (R219). -/
structure ModSig where
  mode : Nat := 0
  vset : Nat := 0
  ilim : Nat := 0
  idis : Nat := 0
  plim : Int := 0
  seq : Nat := 0
  deriving DecidableEq, Repr

/-- What the allocator keeps in its checkpoint (R223). -/
structure AllocCore where
  grants : Tab Int := []
  reqs : Tab Int := []
  /-- Paused AC outlets, and since when their computed grant has stood at 7.0 A (R216). -/
  paused : Nat := 0
  goodSince : Tab (Option Nat) := []
  /-- Basic PWM outlets on 1.2 times their measured power, and since when they draw below 80 % (R212). -/
  low : Nat := 0
  lowSince : Tab (Option Nat) := []
  /-- Since when the grant differs from the agreed schedule by more than 10 % (R218). -/
  offSince : Tab (Option Nat) := []
  /-- The allocator's own demand interval: its end in wall seconds and A+ at its start; event 0x2004 raised in this interval; one more than the
  closed intervals of the BLU seen so far, 0 before the first look (R210). -/
  ivEnd : Nat := 0
  ivStart : Nat := 0
  risk : Bool := false
  closed : Nat := 0
  /-- 0 none, 1 import, 2 export breach, and since when the mean has stayed below the limit (R221). -/
  breach : Nat := 0
  belowSince : Option Nat := none
  fallback : Bool := false
  cycle : Nat := 0
  sigs : Tab ModSig := []
  /-- The storage setpoint in W, positive while discharging, and the solar limit in W while curtailed. -/
  storage : Int := 0
  curtail : Option Nat := none
  deriving DecidableEq, Repr

/-- A storage device or solar inverter (R215). -/
structure Device where
  lost : Bool := false
  misses : Nat := 0
  /-- Storage: the largest power WChaMax in W. Solar: the measured power in W. -/
  power : Nat := 0
  /-- Storage: the state of charge ChaState in 0.1 %, the charge status ChaSt and the control mode StorCtl_Mod as last read. -/
  soc : Nat := 0
  chaSt : Nat := 0
  ctlMod : Nat := 0
  deriving DecidableEq, Repr

/-- A write to a SunSpec device (R215), each with the time in s after which the device reverts: the storage's StorCtl_Mod with InWRte and OutWRte in
0.01 % of WChaMax; the inverter's WMaxLimPct in 0.01 % and WMaxLim_Ena. -/
inductive SunWrite where
  | storage (ctl inRate outRate revert : Nat)
  | solar (pct : Nat) (ena : Bool) (revert : Nat)
  deriving DecidableEq, Repr

/-- The values of a direction period of an element as the MEU copies them to the allocator (R202): powers in 0.1 W and 0.1 var, quadrant, length in
1/64,000 s, the nine public energy registers, and when the period ended. -/
structure PeriodCopy where
  p : Int
  q : Int
  quad : Nat
  len : Nat
  regs : List Int
  at_ : Nat := 0
  deriving DecidableEq, Repr

/-- An entry of the allocation report (R225). -/
structure ReportEntry where
  outlet : Nat
  level : Nat
  limit : Nat
  grant : Int
  req : Int
  deriving DecidableEq, Repr

/-- The allocation report (R225). -/
structure AllocReport where
  cycle : Nat
  ltime : Nat
  pgrid : Int
  pdem : Int
  pbase : Int
  pvav : Int
  pst : Int
  flags : Nat
  entries : List ReportEntry
  deriving DecidableEq, Repr

/-- The allocator (chapter 7). -/
structure Alloc where
  core : AllocCore := {}
  /-- The checkpoint in Basecamp MRAM (R223), and whether the next cycle reads it. -/
  ckpt : Option AllocCore := none
  resume : Bool := false
  /-- The grid instant of the next cycle, none before the first cycle of an epoch (R198); when the last cycle started, and the cycles abandoned in a row
  (R200). -/
  dueAt : Option Nat := none
  lastAt : Option Nat := none
  abandoned : Nat := 0
  /-- The periods copied by the MEU, newest first (R202). -/
  hist : Tab (List PeriodCopy) := []
  /-- What has been queued to Modbus, oldest first; the last write to the storage with its time, and to the inverter (R199, R215). -/
  modbus : List SunWrite := []
  storW : Option (Nat × SunWrite) := none
  solarW : Option SunWrite := none
  stor : Device := {}
  solar : Device := {}
  profiles : List OcppProfile := []
  /-- Lost modules; the deadlines of their close drops; since when they send valid status; the outlets whose firmware has opened a new session since
  the loss (R220). -/
  lost : Nat := 0
  lostNew : Nat := 0
  lostT : Tab (Option Nat) := []
  goodT : Tab (Option Nat) := []
  /-- VACT of every module in 0.1 V (R219). -/
  vact : Tab Nat := []
  report : Option AllocReport := none
  /-- The reports not yet delivered to the subscribers, oldest first (R225). -/
  reports : List AllocReport := []
  /-- When the last period ended that the breach check has seen (R221). -/
  breachAt : Nat := 0
  /-- Outlets whose contactor a trip, a safety demand or a pilot change has opened since the last cycle (R224). -/
  opened : Nat := 0
  deriving DecidableEq, Repr

/-- A switch channel's state outside its registers. -/
structure SwCh where
  /-- ON and PWMF in effect: the register values, or what the Guy hold latches hold (R240). -/
  onEff : Bool := false
  pwmfEff : Nat := 0
  /-- End of the retry pause (R233). -/
  pauseEnd : Option Nat := none
  /-- The pause also lasts until the junction is below 140 °C (R233). -/
  hot : Bool := false
  /-- End of the inrush window while it runs (R230), and the part left while droop freezes it (R236). -/
  winEnd : Option Nat := none
  frozenAt : Option Nat := none
  /-- Freezes used in this window, in ns (R236). -/
  frozenUsed : Nat := 0
  /-- When ten seconds without a fault end (R234). -/
  goodAt : Option Nat := none
  /-- Bank channels that were waiting when this one last received the slot and still wait (R235). -/
  behind : Nat := 0
  /-- The last turn-off was without slew (R231). -/
  fastOff : Bool := false
  /-- A write of 1 to LATCHCLR waits for the end of the Guy hold (R240). -/
  clrDue : Bool := false
  /-- When a fault last ended a try that was counted (R243). -/
  triedAt : Option Nat := none
  /-- When the channel last turned off, and when the ramp of its last change ends (R229 to R231, R243). -/
  offAt : Option Nat := none
  rampEnd : Nat := 0
  /-- On-time above 3.3 A, and the time in the 4.0 A limit, in µs (R228). -/
  overUs : Nat := 0
  limitUs : Nat := 0
  /-- The last frame (R239). -/
  lastFrame : Option Nat := none
  deriving DecidableEq, Repr

/-- A safety function's state outside its register (R256 to R263). -/
structure GFn where
  /-- Deadlines: STOPDLY (R258), DISC (R251), MUTMAX (R261), UNLKDLY (R260), EDM (R257). -/
  stopAt : Option Nat := none
  discAt : Option Nat := none
  muteEnd : Option Nat := none
  unlkAt : Option Nat := none
  edmAt : Option Nat := none
  /-- No muting starts until both muting inputs have been inactive (R261). -/
  muteBlocked : Bool := false
  /-- Since when the inputs are in their safe condition (R256). -/
  safeSince : Option Nat := none
  /-- The inputs that have read their unsafe condition since the function fault, a mask over `State.faultInputs` (R263). -/
  faultSeen : Nat := 0
  /-- The inputs that hold the fault. -/
  faultMask : Nat := 0
  /-- The inputs have read their unsafe condition since a confirmation began (R266). -/
  sawUnsafe : Bool := false
  /-- The last position and whether the last reads met every check, and the position at which DIRSI last became inactive (R262). -/
  lastPos : Option Nat := none
  sound : Bool := true
  dirPos : Option Nat := none
  /-- A demand that the next cycle takes: muting ended while the pair was unsafe, or at MUTMAX (R261). -/
  due : Nat := 0
  /-- A demand with a cause stands (R271); the function has not been enabled since the start (R267); its last turn-off at STOPDLY (R259). -/
  caused : Bool := false
  fresh : Bool := false
  offAt : Nat := 0
  /-- The function pulls its ZREQ lines (R258). -/
  pulls : Bool := false
  deriving DecidableEq, Repr

/-- A confirmation of the safety check value that waits for its on-site act (R266). -/
structure Confirming where
  value : Nat
  deadline : Nat
  scSeq : Nat
  deriving DecidableEq, Repr

/-- The GSE's state outside its registers. -/
structure Gse where
  /-- The copy of the SAFE records (R267). -/
  copy : List SafeRec := []
  fns : Tab GFn := []
  /-- The last confirmed change of every input (R250). -/
  siAt : Tab Nat := []
  /-- Reset pulses that ended since the last cycle: input, instant of the rise and of the fall (R256). -/
  pulses : List (Nat × Nat × Nat) := []
  /-- When every safety output last turned off (R260), and the cycles of the ROM and RAM pass under way (R264). -/
  soOffAt : Tab Nat := []
  pass : Nat := 0
  /-- Of an input whose TP no field names: the TP that it follows, and those that it has not followed while none is known (R248). -/
  ownTp : Tab (Option Nat) := []
  missedTp : Tab Nat := []
  /-- Turn-ons deferred by the Guy hold and already reported (R268). -/
  deferSo : Nat := 0
  deferPermit : Nat := 0
  /-- The start of the evaluator, which its cycles, samples and test pulses count from; the last cycle and the last pulse of every TP (R248, R250). -/
  startAt : Nat := 0
  lastCycle : Option Nat := none
  pulseLast : Tab (Option Nat) := []
  /-- The fabric has frozen master 17 (R268). -/
  frozen : Bool := false
  /-- End of the start-up tests (R267). -/
  testsT : Option Nat := some 340000000
  confirming : Option Confirming := none
  /-- Outlets whose ZREQ line the GSE pulls (R258). -/
  zreq : Nat := 0
  /-- A power failure demands on every function (R268). -/
  powerFail : Bool := false
  deriving DecidableEq, Repr

/-- What the tag answers on TGA (R274, R283, R284, R288). -/
inductive TagAnswer where
  | ok
  | uid (dsfid value : Nat)
  | data (blocks : List Nat)
  | error (code : Nat)
  | system (uid dsfid afi blocks size : Nat)
  | auth (rb cipher : Nat)
  | status (state fails version : Nat)
  deriving DecidableEq, Repr

/-- How the last exchange with a card ended (R281). -/
inductive CardAnswer where
  | none
  | data (bytes : List Nat)
  | error
  deriving DecidableEq, Repr

/-- The CLU's state outside its registers. -/
structure Clu where
  /-- The tag memory, by block (R284). -/
  mem : Tab Nat := []
  /-- The stored password and key (R290). -/
  pwd : Nat := 0
  key : Nat := 0
  /-- RA and RB of a TAUTH1 that its TAUTH2 has to follow directly (R288). -/
  auth : Option (Nat × Nat) := none
  /-- The tag has been sent to the quiet state, or selected (R274). -/
  quiet : Bool := false
  selected : Bool := false
  /-- The journal has been checked since the front end came up (R292). -/
  ready : Bool := true
  /-- Deadline of HOLD (R293). -/
  holdT : Option Nat := none
  /-- What the tag has answered, oldest first. -/
  answers : List TagAnswer := []
  /-- Events of the tag while the controller had no power (R289). -/
  offEvents : List (Nat × Nat) := []
  /-- Antennas with an activated card, and with a running exchange (R281). -/
  active : Nat := 0
  running : Nat := 0
  /-- The last frame sent to a card and its answer, by antenna (R281). -/
  cardSent : Tab (List Nat) := []
  cardData : Tab CardAnswer := []
  /-- When the results of an antenna's last slice stood in its registers, 25.0 ms into the slice (R277). -/
  polledAt : Tab Nat := []
  /-- A rewrite of the NDEF message was cut short, and the next start rewrites it (R287). -/
  ndefDue : Bool := false
  /-- The technology that the next slice of an antenna polls first: 0 A, 1 B, 2 ISO/IEC 15693 (R277). -/
  first : Tab Nat := []
  /-- The bit rate of the activated card, by antenna, as BRMAX codes it (R280). -/
  rate : Tab Nat := []
  deriving DecidableEq, Repr

/-- A finished sub-interval of a sliding window: energies in mWh, ledger ticks, and the wall second of its start (R311, R312). -/
structure SubIv where
  imp : Nat
  exp_ : Nat
  ticks : Nat
  start : Nat
  /-- Its STEP, PF and TINV: a window carries those of its sub-intervals (R313). -/
  step : Bool := false
  pf : Bool := false
  tinv : Bool := false
  deriving DecidableEq, Repr

/-- An element's billing state outside the registers (R302 to R313). -/
structure Bill where
  /-- The public A+ and A− registers at the last booking (R303). -/
  lastIn : Nat := 0
  lastOut : Nat := 0
  /-- The running interval or sub-interval: energies, ledger time and wall second of its start. -/
  runIn : Nat := 0
  runOut : Nat := 0
  runLed : Nat := 0
  runStart : Nat := 0
  /-- The sub-intervals before it in the window, newest first. -/
  subs : List SubIv := []
  /-- The import demand in W of the last closed interval, and how many have closed (R210). -/
  lastDem : Nat := 0
  closed : Nat := 0
  /-- Tariff changes of the element (R316). -/
  changes : Nat := 0
  /-- Intervals of a restoration beyond those recorded, and the wall seconds of the first and last end (R318, type 0x1A). -/
  restN : Nat := 0
  restFirst : Nat := 0
  restLast : Nat := 0
  /-- Flags of the running interval (R313). -/
  ivStep : Bool := false
  ivPf : Bool := false
  ivTinv : Bool := false
  /-- It began in the span of a step of more than 24 h (R314). -/
  skipped : Bool := false
  /-- Flags of the open session (R309). -/
  sTinv : Bool := false
  sTamp : Bool := false
  sStep : Bool := false
  sPf : Bool := false
  sSeal : Bool := false
  /-- PRICE and DIR of every tariff as copied at the open (R309). -/
  prices : List (Nat × Nat) := []
  /-- WOFF at the open (R298). -/
  woffOpen : Int := 0
  /-- The authorisation identity bound at the open (R337). -/
  ident : List Nat := []
  deriving DecidableEq, Repr

/-- A queued tariff switch (R307). -/
structure Switch where
  scope : Nat
  tariff : Nat
  isNow : Bool
  time : Nat
  deriving DecidableEq, Repr

/-- A confirmed tamper change (R320). -/
structure TamperChange where
  input : Nat
  kind : Nat
  ltime : Nat
  onBattery : Bool
  deriving DecidableEq, Repr

/-- The close data of a session that the BLU hands to the SEC (R309, R337). -/
structure CloseData where
  outlet : Nat
  sessNo : Nat
  startLt : Nat
  startWall : Int
  startIn : Nat
  startOut : Nat
  stopLt : Nat
  stopWall : Int
  stopIn : Nat
  stopOut : Nat
  regs : List (Nat × Nat)
  cost : Int
  currency : Nat
  flags : Nat
  legalCv : Nat
  calCv : Nat
  ident : List Nat
  deriving DecidableEq, Repr

/-- The BLU's state outside its registers and elements. -/
structure Blu where
  /-- The switch queue, oldest first (R307). -/
  queue : List Switch := []
  /-- The TARF table that stays in force until billing resumes, after a plan with another one activated at a cold reset (R308). -/
  table : Option (List TarfRec) := none
  /-- H before the present boundary advanced it: a boundary set below it was set too late to act at its own time (R300, R307). -/
  hFrom : Nat := 0
  /-- The restoration being replayed: the wall time of t_pf, and how many more intervals may be recorded (R318). -/
  replay : Option (Nat × Nat) := none
  /-- The confirmed reading of the seal loop as the kind of its last change: 3 broken, 4 intact, 5 out of band (R319, R320). -/
  sealKind : Nat := 4
  /-- Ledger time of the last sync (R299). -/
  lastSync : Option Nat := none
  /-- A write of APPLY waits for the boundary (R297). -/
  applyDue : Bool := false
  /-- The wall times before and after a forward step that acts at the next boundary (R314). -/
  span : Option (Nat × Nat) := none
  /-- Tamper changes kept while there is no main power, oldest first (R321). -/
  kept : List TamperChange := []
  /-- The tag's tamper log: changes recorded with main power, newest first (R321, R286). -/
  tamperLog : List TamperChange := []
  /-- Sessions whose close data wait for the SEC (R309, R317). -/
  toSeal : List CloseData := []
  /-- Billing time stands still since t_pf; ledger time of the freeze (R296, R316). -/
  stopped : Bool := false
  freezeLt : Nat := 0
  /-- The length of the last power-fail commit in 10 µs (R316, R331). -/
  commitDur : Nat := 0
  /-- A power-fail commit waits for its restoration (R318). -/
  replayDue : Bool := false
  deriving DecidableEq, Repr

/-- A record requested of the ledger: type, ledger time and payload fields (R326, R328). -/
structure ReqRec where
  type : Nat
  ltime : Nat
  fields : List RecField
  deriving DecidableEq, Repr

/-- A group of records of one class, and when it was requested (R329). -/
structure Group where
  cls : Nat
  at_ : Nat
  recs : List ReqRec
  deriving DecidableEq, Repr

/-- A committed record (R326); the CRC is computed when the record is read. -/
structure LedgerRec where
  seq : Nat
  type : Nat
  flags : Nat
  ltime : Nat
  fields : List RecField
  deriving DecidableEq, Repr

/-- The LGS's state outside its registers. -/
structure Lgs where
  /-- The queue of groups; rolling groups join only while fewer than 1,024 records wait (R330). -/
  queue : List Group := []
  /-- The slots of the three rings, by region × 2^26 + slot (R325). -/
  slots : Tab (Option LedgerRec) := []
  /-- How many records each region has ever taken (R325). -/
  written : Tab Nat := []
  /-- Legal-hold records freed by LGS_ACK, counted from the first (R343). -/
  acked : Nat := 0
  /-- Rolling records dropped and not yet recorded by a record of type 0x03 (R330). -/
  dropPending : Nat := 0
  /-- The crossing of 80 % has been reported (R333). -/
  near80 : Bool := false
  /-- Ledger time of the last event 0x1508 (R334). -/
  nearAt : Option Nat := none
  /-- The last meter tick instant in ledger time (R335). -/
  tickAt : Nat := 0
  /-- The LGS accepts requests (R332). -/
  accepting : Bool := true
  /-- The page buffer (R342): the records by position, and slots whose stored bytes the copy found changed. -/
  page : Tab (Option LedgerRec) := []
  pageRaw : List (Nat × List Nat) := []
  /-- Requests of the BCU and the CGU held in Basecamp MRAM, and those beyond 64 (R332). -/
  held : List Group := []
  heldLost : Nat := 0
  deriving DecidableEq, Repr

/-- An exchange of a round: its node, its first pass, its passes, and whether it serves a grant (R359, R360). -/
structure Exch where
  node : Nat
  start : Nat
  len : Nat
  grant : Bool
  deriving DecidableEq, Repr

/-- What the master has transmitted in a pass: the header, whose bit 0 is sent first, and the downlink symbols of each carrier that it drives, in block
order (R349, R354, R356, R362). -/
structure AlkTx where
  header : Nat
  words : List (Nat × List Nat)
  deriving DecidableEq, Repr

/-- A broadcast under way (R358, R365, R368): its payload type, its bits, the segments sent, and the node that an ASSIGN names. -/
structure AlkBc where
  type : Nat
  bits : List Bool
  sent : Nat := 0
  node : Nat := 0
  deriving DecidableEq, Repr

/-- What the master keeps of a node outside its registers. -/
structure AlkNode where
  eui : Nat := 0
  /-- The relays toward the master, the first relay first; the cost of the route (R364). -/
  route : List Nat := []
  cost : Nat := 0
  /-- A route chosen for the next round start, and the rounds for which a route at least 2 cheaper has been known (R364). -/
  next : Option (List Nat × Nat) := none
  cheaper : Nat := 0
  /-- Rounds in a row in which its exchange was lost, and those of them on its present route (R361, R364). -/
  failRounds : Nat := 0
  routeFails : Nat := 0
  /-- Its next code asks for the last payload again; its last uplink had MORE = 1; repolls of this round (R354, R357, R359, R360). -/
  resend : Bool := false
  more : Bool := false
  repolls : Nat := 0
  /-- Its measured uplink: round, SNR, blocks flagged and blocks received of each exchange of the last 50 rounds (R363). -/
  hist : List (Nat × Nat × Nat × Nat) := []
  /-- Messages for the host; the message under way: its type, its bits and its segments so far (R357, R358). -/
  upq : List (List Nat) := []
  upType : Nat := 0
  upBits : List Bool := []
  upSegs : Nat := 0
  /-- DATA messages for the node, and ROUTE messages for it: the nodes that it relays, each with FIRST and W (R358, R362). -/
  dnq : List (List Nat) := []
  ctl : List (List (Nat × Nat × Nat)) := []
  /-- The downlink message under way: whether there is one, whether it is the first ROUTE message, the segments that wait, the one sent in the latest
  exchange, and the one before it, whose report the uplink of that exchange brings (R357). -/
  dnOn : Bool := false
  dnCtl : Bool := false
  dnLeft : List Nat := []
  dnSent : Option Nat := none
  dnWait : Option Nat := none
  /-- Deadline of its confirmation (R368). -/
  confT : Option Nat := none
  deriving DecidableEq, Repr

/-- A joint switch of node images (R368): the PTP second, the IMGIDs, and whether it is a FALLBACK. -/
structure NodeSwitch where
  t : Nat
  images : List Nat
  fallback : Bool
  deriving DecidableEq, Repr

/-- The ALK's state outside its registers. -/
structure Alk where
  nodes : Tab AlkNode := []
  /-- SEQ of the running or the next round (R350). -/
  seq : Nat := 0
  /-- The next pass of the running round; no round runs otherwise. -/
  pass : Option Nat := none
  startAt : Option Nat := none
  /-- Passes of this round before the broadcast pass of band C (R352). -/
  due : Nat := 0
  exchanges : List Exch := []
  /-- Nodes whose exchange is lost and has no repoll under way (R359). -/
  failed : List Nat := []
  /-- Nodes that band C has not reached and that are due first in the next round (R352). -/
  left : List Nat := []
  repolls : Nat := 0
  /-- Reported link costs by 64 × hearer + heard: 0 unknown, 99 no link (R363). -/
  links : Tab Nat := []
  /-- Burst of band C: its end; the end of the last one; deferrals counted (R353). -/
  burstEnd : Option Nat := none
  lastBurst : Option Nat := none
  defer : Nat := 0
  /-- The image switch announced by ACTIVATE or FALLBACK (R368). -/
  switch : Option NodeSwitch := none
  /-- The ALK has stopped transmitting at a power failure (R369). -/
  silent : Bool := false
  /-- Rounds completed since the network started. -/
  rounds : Nat := 0
  /-- Broadcasts that wait, the first one under way; the second of the last TIME; the node images being sent, with the place of the next segment (R368). -/
  bq : List AlkBc := []
  timeSec : Option Nat := none
  images : List (Nat × List Nat) := []
  imgAt : Nat := 0
  /-- The transmission of the latest pass. -/
  tx : Option AlkTx := none
  deriving DecidableEq, Repr

/-- A frame of the Host Message Interface to the host (R382). -/
structure HostFrame where
  type : Nat
  seq : Nat
  payload : List Nat
  deriving DecidableEq, Repr

/-- A frame that waits for room in the UP FIFO, and until when (R384). -/
structure WaitingFrame where
  frame : HostFrame
  until_ : Nat
  deriving DecidableEq, Repr

/-- A subscription (R383): the streams, N, and what has been delivered of each. -/
structure Sub where
  streams : Nat := 0
  n : Nat := 1
  evAt : Nat := 0
  msgAt : Nat := 0
  cycle : Option Nat := none
  deriving DecidableEq, Repr

/-- The HPU's state outside its registers. -/
structure Hpu where
  /-- The DOWN and the UP FIFO, oldest byte first (R376). -/
  down : List Nat := []
  up : List Nat := []
  /-- How many bytes of the UP FIFO entered together, and when, oldest first (R379). -/
  upMarks : List (Nat × Nat) := []
  /-- HRDY_N and HBUSY_N asserted low (R379). -/
  hrdy : Bool := false
  hbusy : Bool := false
  /-- The bits ERR, FRST and DNOVF of STAT (R375). -/
  err : Bool := false
  frst : Bool := false
  dnovf : Bool := false
  /-- What the last SPI transaction returned (R374). -/
  spiOut : List Nat := []
  /-- Open HMI sessions, by path 0 to 3, and what each has been sent (R381). -/
  sessions : Nat := 0
  sent : Tab (List HostFrame) := []
  /-- Frames that wait for the UP FIFO (R384). -/
  waiting : List WaitingFrame := []
  /-- The sequence number of the next frame to the host, by path; path 4 is SPI (R382). -/
  seqs : Tab Nat := []
  subs : Tab Sub := []
  deriving DecidableEq, Repr

/-- A master that announces itself to the PTP client: its identity, its rank by the best master clock algorithm (the lower the better),
its port, when its Announce messages count as absent, and its currentUtcOffset in seconds (R297, R387). -/
structure PtpMaster where
  source : Nat
  rank : Nat
  port : Nat
  until_ : Nat
  utc : Int
  deriving DecidableEq, Repr

/-- A two-step Sync that was forwarded: its egress port, sequenceId, sourcePortIdentity, its residence, and the end of the time for a match
(R386). -/
structure TwoStep where
  egress : Nat
  seqId : Nat
  source : Nat
  residence : Nat
  until_ : Nat
  deriving DecidableEq, Repr

/-- The last status frame of a power module (R390, R391): SEQECHO, FAULT, VACT, IACT, and when it arrived. -/
structure ModuleRx where
  echo : Nat
  fault : Nat
  vact : Nat
  iact : Int
  at_ : Nat
  deriving DecidableEq, Repr

/-- The NTU's state outside its registers. -/
structure Ntu where
  /-- PTP time in ns, the free-running counter, and the instant for which they hold (R387, R388). -/
  ptp : Nat := 0
  frc : Nat := 0
  mark : Nat := 0
  /-- The rate of the servo in 0.01 ppm (R387). -/
  rate : Int := 0
  /-- Known masters, and the chosen one. -/
  masters : List PtpMaster := []
  master : Option Nat := none
  /-- The end of the 3 s without Sync. -/
  syncT : Option Nat := none
  /-- The mean path delay in ns. -/
  delay : Int := 0
  /-- The currentUtcOffset of the master last chosen, in seconds (R297). -/
  utc : Int := 0
  /-- The interval of the last Sync: t2 − t1. -/
  forward : Int := 0
  /-- Offsets in a row within LOCKTHR, and beyond 4 × LOCKTHR (R387). -/
  goodRun : Nat := 0
  badRun : Nat := 0
  /-- The client has been locked since the last cold start (R488). -/
  everLocked : Bool := false
  /-- Residences that wait for their Follow_Up (R386). -/
  twoStep : List TwoStep := []
  /-- The correctionField of the last PTP message that left each port, in 2^-16 ns. -/
  correction : Tab Int := []
  /-- The last TX frame of each outlet's template, and when it left (R391). -/
  txFrame : Tab (List Nat) := []
  txAt : Tab Nat := []
  /-- The SEQ values sent that the module has not echoed, oldest first, each with when the frame that carried it went out (R220). -/
  unechoed : Tab (List (Nat × Nat)) := []
  /-- The last status frame of each outlet's power module. -/
  rxFrame : Tab (Option ModuleRx) := []
  /-- A Modbus transaction is being retried, and the reconnect deadlines (R392), by device. -/
  retrying : Nat := 0
  reconnect : Tab (Option Nat) := []
  /-- What has gone to the back office, oldest first (R127, R129, R207). -/
  backOffice : List BackOffice := []
  deriving DecidableEq, Repr

/-- The masked shares of a private or symmetric key in its two stores, and the store selector (R406, R407). -/
structure KeyShares where
  first : Nat × Nat := (0, 0)
  second : Nat × Nat := (0, 0)
  sel : Bool := false
  deriving DecidableEq, Repr

/-- A key slot (R404 to R408). A public key is a list of bytes; none in an active key stands for the key set at manufacture. -/
structure KeySlot where
  attr : Nat := 0
  pub : Option (List Nat) := none
  /-- The SHA-256 of the anchor certificate (R404). -/
  cert : Nat := 0
  shares : KeyShares := {}
  /-- The shadow: its attribute word, public key, anchor hash and shares (R408). -/
  pAttr : Nat := 0
  pPub : List Nat := []
  pCert : Nat := 0
  pShares : KeyShares := {}
  deriving DecidableEq, Repr

/-- What a sealed command was answered (R418): RESULT, DETAIL, SCSEQ, ledger time of the commit, DATA. -/
structure SealedAnswer where
  result : Nat
  detail : Nat
  scSeq : Nat
  ltime : Nat
  data : List Nat
  deriving DecidableEq, Repr

/-- A SAFE_CONFIRM that awaits its on-site act: the path and SEQ to answer, none where no frame waits, and its number (R420). -/
structure AwaitAct where
  path : Option (Nat × Nat)
  scSeq : Nat
  deriving DecidableEq, Repr

/-- The SEC's state outside its registers. -/
structure Sec where
  slots : Tab KeySlot := []
  /-- The SITEID bound in FIELD (R402). -/
  siteId : Option (List Nat) := none
  /-- COMMISSION has been entered (R402). -/
  commissioned : Bool := true
  /-- The last answer to a sealed command. -/
  answer : Option SealedAnswer := none
  waiting : Option AwaitAct := none
  /-- The last sealed session record of each outlet: SESSNO, import energy in mWh, flags, unsigned (R439). -/
  sealed : Tab (Option (Nat × Nat × Nat × Bool)) := []
  /-- Ledger time of the last re-mask pass, and of the last reseed; requests since it (R407, R412). -/
  remaskAt : Nat := 0
  reseedAt : Nat := 0
  requests : Nat := 0
  /-- The status of the last crypto operation: 0 good, 3 empty slot or use not allowed, other values errors (R405). -/
  lastStatus : Nat := 0
  deriving DecidableEq, Repr

/-- What the DSE engine does while it is not idle (R433, R437). -/
inductive DseOp where
  | update | test | redraw | start
  deriving DecidableEq, Repr

/-- What the Lantern band shows: outlet, SESSNO, import energy in mWh, flags of the session, unsigned (R439). -/
structure Lantern where
  outlet : Nat := 0xFF
  sessNo : Nat := 0
  energy : Nat := 0
  flags : Nat := 0
  unsigned : Bool := false
  deriving DecidableEq, Repr

/-- The DSE's state outside its registers. -/
structure Dse where
  /-- The frame window and the shown image, by 32-bit word: 20 words a row (R431, R432). -/
  target : Tab Nat := []
  shown : Tab Nat := []
  /-- Phase bits, and the charge balance of every row in V·ms (R431). -/
  phase : Nat := 0
  balance : Tab Int := []
  /-- Stress counters by group, and bands whose compensation has been reported as saturated (R435). -/
  stress : Tab Nat := []
  satBands : Nat := 0
  op : Option DseOp := none
  /-- An UPDATE is held until the running one ends (R433). -/
  again : Bool := false
  /-- VDH (1) or VDL (2) is out of range, and since when (R434). -/
  fault : Nat := 0
  faultAt : Nat := 0
  /-- The outlet and SESSNO of the last stop latch, while its total is not shown (R440, R441). -/
  awaits : Option (Nat × Nat) := none
  /-- The record of that session is committed; its total waits for the drive voltages (R440, R441). -/
  committed : Bool := false
  lantern : Lantern := {}
  deriving DecidableEq, Repr

/-- The module's power and start phases (R450, R451, R462, R463). -/
inductive Phase where
  /-- Everything except Basecamp is off. -/
  | off
  /-- A cold reset has been released and the start sequence runs. -/
  | starting
  /-- Units run; the firmware does not run yet. -/
  | units
  /-- The firmware runs. -/
  | running
  /-- A warm reset runs. -/
  | warm
  /-- Power failure declared; the commit runs. -/
  | commit
  deriving DecidableEq, Repr

/-- The state of the BCU and the CGU outside their registers. -/
structure Bcu where
  phase : Phase := .starting
  /-- Ledger time in 1/65,536 s at the instant `ltMark` (ns), and whether it counts (R454). -/
  ltBase : Nat := 0
  ltMark : Nat := 0
  counting : Bool := true
  /-- Ledger time counted through the last outage (R299, R318, R454). -/
  counted : Bool := true
  /-- VIN is absent, and since when (R448). -/
  vin : Option VinState := none
  absentAt : Option Nat := none
  /-- The instant of power failure in ns and in ledger time (R448). -/
  tpf : Option Nat := none
  tpfLt : Nat := 0
  /-- The power failure is the commit of a commanded reset, whose release follows at once (R462). -/
  commanded : Option Nat := none
  /-- The instant of the last release of a cold reset (R239). -/
  coldAt : Nat := 0
  /-- Watchdog deadline, none while stopped (R464). -/
  wdt : Option Nat := none
  /-- Guy hold deadline, start and expiry (R467, R469). -/
  holdEnd : Option Nat := none
  holdStart : Nat := 0
  holdExpired : Bool := false
  /-- The values that the Guy hold latches hold, by register field and index (R467). -/
  latches : Tab Nat := []
  /-- The on states of SO0 to SO3 that the latches hold (R467). -/
  soLatch : Nat := 0
  /-- HEALTHY has been written since the last start (R465). -/
  healthy : Bool := false
  /-- XTAL32 is unfit and ledger time runs from the divider (R454). -/
  xtFault : Bool := false
  /-- Unit resets under way: unit class × 256 + index (R471). -/
  unitResets : List Nat := []
  /-- The Ember standby profile is in force (R40). -/
  ember : Bool := false
  /-- Since when every outlet has been in state A (R40), and the outlet that was the first in state B in Ember (R41). -/
  idleSince : Option Nat := none
  wake : Option Nat := none
  /-- Ledger time from which the running hour of ID_LIFE counts (R509). -/
  lifeAt : Nat := 0
  deriving DecidableEq, Repr

/-- A part entry of a manifest (R482). -/
structure UpdPart where
  kind : Nat
  unit : Nat
  imgId : Nat
  version : Nat
  length : Nat
  file : List Nat
  digest : List Nat
  deriving DecidableEq, Repr

/-- A mounted medium (R479, R480): the manifest file, none where it does not exist, and the files beside it by name. -/
structure Medium where
  manifest : Option (List Nat)
  files : List (List Nat × List Nat)
  deriving DecidableEq, Repr

/-- The update held (R485, R488, R490): its manifest, parts and plan parts, which parts have been written over, the settings formats, and
the scheduled time T: PTP seconds or ledger seconds, with the corresponding ledger time T_L. -/
structure UpdHold where
  updId : Nat
  drain : Nat
  manifest : List Nat
  parts : List UpdPart
  plan : Option (List Nat)
  fallback : Option (List Nat)
  /-- Parts that the update replaces, with the versions before: part key, old version, new version. -/
  written : List (Nat × Nat × Nat)
  oldSfmt : Nat
  newSfmt : Nat
  /-- The node images, by IMGID (R482, R485). -/
  images : List (Nat × List Nat) := []
  t : Option Nat := none
  byPtp : Bool := true
  tL : Nat := 0
  /-- Cause of the fallback (R493); the nodes have been told of it (R494 step 3). -/
  cause : Nat := 0
  told : Bool := false
  deriving DecidableEq, Repr

/-- The UPD's state outside its registers. -/
structure Upd where
  medium : Option Medium := none
  hold : Option UpdHold := none
  /-- Installed versions and version counters by part key, where they differ from those at manufacture (R496). -/
  versions : Tab (Option Nat) := []
  counters : Tab Nat := []
  /-- The running settings format (R497). -/
  sfmt : Nat := 0
  /-- Healthy running of the trial in ledger ticks, and since when the count runs (R491). -/
  trial : Nat := 0
  trialAt : Option Nat := none
  /-- Deadline for the nodes' versions, which runs once in a trial (R493). -/
  nodeT : Option Nat := none
  nodeRun : Bool := false
  /-- The second at which the fallback's cold reset follows, as ledger time (R494). -/
  fallbackAt : Option Nat := none
  deriving DecidableEq, Repr

/-- The state of the block. -/
structure State where
  /-- Register fields: the value last written or shown, by field and index (R12, R14). -/
  regs : Tab Nat := []
  /-- Boundary fields: the value in effect (R14). -/
  applied : Tab Nat := []
  /-- The snapshot latches (R6), by field and index. -/
  latched : Tab Nat := []
  /-- Units and instances whose latch has been taken at least once. -/
  latchOn : List Nat := []
  /-- The model's time in ns. -/
  now : Nat := 0
  /-- The counter at which free values are drawn. -/
  free : Nat := 0
  /-- The host event stream, oldest first (R44). -/
  events : List Event := []
  /-- The plan whose values the units run on (R57). -/
  plan : Option Plan := none
  /-- FAB. -/
  fab : Fab := {}
  /-- SCH. -/
  sch : Sch := {}
  /-- PPL. -/
  ppl : Ppl := {}
  /-- OIU by outlet. -/
  oius : Tab Oiu := []
  /-- PSW by channel. -/
  sws : Tab SwCh := []
  /-- LGS. -/
  lgs : Lgs := {}
  /-- BCU and CGU. -/
  bcu : Bcu := {}
  /-- EFU residual-current channels. -/
  rcms : Tab Rcm := []
  /-- EFU insulation channels. -/
  imds : Tab Imd := []
  /-- Outlets on which an insulation trip is latched (R188). -/
  imdTrip : Nat := 0
  /-- Outlets whose session requested a cable check (R124, R189). -/
  ccRequested : Nat := 0
  /-- MEU channels. -/
  chans : Tab Chan := []
  /-- MEU elements. -/
  elems : Tab Elem := []
  /-- MEU. -/
  meu : Meu := {}
  /-- BLU elements. -/
  bills : Tab Bill := []
  /-- BLU. -/
  blu : Blu := {}
  /-- VCE by outlet. -/
  vces : Tab Vce := []
  /-- SLAC runs under way (R116). -/
  slac : List SlacRun := []
  /-- The shared transmit encoder (R114). -/
  encoder : Encoder := {}
  /-- The 10BASE-T1S links that are up (R119). -/
  t1sUp : Nat := 0
  /-- Host messages sent, oldest first (R131). -/
  hostMsgs : List HostMsg := []
  /-- GSE. -/
  gse : Gse := {}
  /-- The allocator. -/
  alloc : Alloc := {}
  /-- CLU. -/
  clu : Clu := {}
  /-- NTU. -/
  ntu : Ntu := {}
  /-- ALK. -/
  alk : Alk := {}
  /-- HPU. -/
  hpu : Hpu := {}
  /-- SEC. -/
  sec : Sec := {}
  /-- DSE. -/
  dse : Dse := {}
  /-- UPD. -/
  upd : Upd := {}
  /-- The commands that wait, first in, first out. -/
  pending : List Instr := []
  deriving DecidableEq, Repr

/-- Reasons why the machine stops with a fault. -/
inductive Fault where
  /-- No meaning raises it: the spec names no happening at which the block stops. Safe. -/
  | none
  deriving DecidableEq, Repr

/-- Reasons why a command is refused. -/
inductive Refusal where
  /-- The command has no meaning in this model yet; raised by its arm of exec alone. Safe. -/
  | notModelled (mnemonic : String)
  deriving DecidableEq, Repr

/-- The machine right after the release of the cold reset of the first power-on: every register field at its reset value, memory
and ledger empty, no plan, no command waiting. -/
def State.reset : State := {}

end Sys2Proof.Machine
end

