-- ==== Sys2Proof/Machine/Ops.lean ====
section
/-! DEFINITION. Named operations that every unit uses: registers, time, free values, events and ledger requests. -/

namespace Sys2Proof.Machine

open Sys2Proof

/-- What a command answers. -/
abbrev Out := Host.Outcome State Fault Refusal

/-- The key of field `f` with index `i` in the register store. -/
def regKey (f : Fld) (i : Nat) : Nat := i * 1024 + f.ctorIdx

/-- The reset value of the field that a key of the register store names. -/
def regDefault (k : Nat) : Nat := (Fld.ofNat (k % 1024)).resetValue

/-- The value of a register field. -/
def State.rd (s : State) (f : Fld) (i : Nat) : Nat := lookup f.resetValue s.regs (regKey f i)

/-- A register field set to a value, cut to the field's width. -/
def State.put (s : State) (f : Fld) (i : Nat) (v : Nat) : State :=
  { s with regs := update f.resetValue s.regs (regKey f i) (v % 2 ^ f.width) }

/-- A one-bit field as a truth value. -/
def State.flag (s : State) (f : Fld) (i : Nat) : Bool := s.rd f i != 0

/-- A one-bit field set. -/
def State.putFlag (s : State) (f : Fld) (i : Nat) (b : Bool) : State := s.put f i (b2n b)

/-- Bit `k` of a mask field set. -/
def State.putBit (s : State) (f : Fld) (i k : Nat) (b : Bool) : State := s.put f i (setBit (s.rd f i) k b)

/-- A saturating counter field raised by one (R513). -/
def State.count (s : State) (f : Fld) (i : Nat) : State := s.put f i (satInc (2 ^ f.width - 1) (s.rd f i))

/-- The value in effect of a Boundary field (R14). -/
def State.eff (s : State) (f : Fld) (i : Nat) : Nat := lookup f.resetValue s.applied (regKey f i)

/-- The value in effect of a Boundary field set. -/
def State.putEff (s : State) (f : Fld) (i : Nat) (v : Nat) : State :=
  { s with applied := update f.resetValue s.applied (regKey f i) (v % 2 ^ f.width) }

/-- A register write of a Boundary field at the present instant: the value before the writes of this instant is kept (R14). -/
def State.noteWrite (s : State) (f : Fld) (i : Nat) : State :=
  if lookup 0 s.fab.writtenAt (regKey f i) = s.now + 1 then s
  else { s with fab := { s.fab with writtenAt := update 0 s.fab.writtenAt (regKey f i) (s.now + 1)
                                    before := update 0 s.fab.before (regKey f i) (s.rd f i) } }

/-- The value that a boundary at the present instant applies: the last one written before that instant (R14). -/
def State.due (s : State) (f : Fld) (i : Nat) : Nat :=
  if lookup 0 s.fab.writtenAt (regKey f i) = s.now + 1 then lookup 0 s.fab.before (regKey f i) else s.rd f i

/-- A Boundary field takes effect at its boundary (R14). -/
def State.apply (s : State) (f : Fld) (i : Nat) : State := s.putEff f i (s.due f i)

/-- A 64-bit quantity held in two 32-bit fields (R6). -/
def State.rd64 (s : State) (lo hi : Fld) (i : Nat) : Nat := s.rd lo i + 2 ^ 32 * s.rd hi i

/-- A 64-bit quantity set. -/
def State.put64 (s : State) (lo hi : Fld) (i : Nat) (v : Nat) : State :=
  (s.put lo i (v % 2 ^ 32)).put hi i (v / 2 ^ 32)

/-- Milliseconds in the model's time. -/
def msec (n : Nat) : Nat := n * 1000000

/-- Microseconds in the model's time. -/
def usec (n : Nat) : Nat := n * 1000

/-- The time moves to an instant, never back. -/
def State.moveTo (s : State) (t : Nat) : State := { s with now := max s.now t }

/-- The next instant of a grid of period `p` ns: the present instant where it lies on the grid. -/
def gridAt (p now : Nat) : Nat := (now + (p - 1)) / p * p

/-- The next instant of a grid at which the happening `last` has not yet taken place: each instant of a grid has one boundary of a kind. -/
def gridAfter (p now : Nat) (last : Option Nat) : Nat := if last = some (gridAt p now) then gridAt p now + p else gridAt p now

/-- The front rate F in S/s by MODCLK (R144). -/
def State.frontRate (s : State) : Nat :=
  match s.rd .CGU_CFG_MODCLK 0 with
  | 0 => 80000
  | 1 => 40000
  | _ => 20000

/-- The front period T in ns (R144). -/
def State.frontPeriod (s : State) : Nat := 1000000000 / s.frontRate

/-- The metering epoch (R148): the first front sample, which follows the three that are discarded after MCLKk starts (R144); 0 before that. -/
def State.epoch (s : State) : Nat := (s.meu.mclk.map fun t => t + 4 * s.frontPeriod).getD 0

/-- The metering boundary at or after an instant: the 125 µs instants count from the metering epoch (R148). -/
def State.boundaryFrom (s : State) (t : Nat) : Nat :=
  let k := 125000 - s.epoch % 125000
  gridAt 125000 (t + k) - k

/-- The metering boundary at or after the present instant. -/
def State.boundaryAt (s : State) : Nat := s.boundaryFrom s.now

/-- The next metering boundary that has not yet acted (R170). -/
def State.boundaryNext (s : State) : Nat := if s.meu.lastBoundary = some s.boundaryAt then s.boundaryAt + 125000 else s.boundaryAt

/-- An instant as a stamp: 1/64,000 s since the metering epoch (R148). -/
def State.stampOf (s : State) (t : Nat) : Nat := (t - s.epoch) / 15625

/-- Ledger time (R454): 65,536 units a second while it counts. -/
def State.ltime (s : State) : Nat :=
  if s.bcu.counting then s.bcu.ltBase + (s.now - s.bcu.ltMark) * 65536 / 1000000000 else s.bcu.ltBase

/-- The instant at which ledger time reaches a value. -/
def State.whenLtime (s : State) (t : Nat) : Nat := s.now + ((t - s.ltime) * 1000000000 + 65535) / 65536

/-- The application domain runs (R375). -/
def State.appRuns (s : State) : Bool := s.bcu.phase == .running || s.bcu.phase == .units

/-- A value that the spec leaves open, and the state after the draw. -/
def State.draw (s : State) : Nat × State := (Config.freeValue s.free, { s with free := s.free + 1 })

/-- Bytes that the spec leaves open, and the state after the draw. -/
def State.drawBytes (s : State) : List Nat × State := ((Config.freeBytes s.free).map (· % 256), { s with free := s.free + 1 })

/-- The outlet record of the active plan (R50). -/
def State.outl (s : State) (n : Nat) : Option OutlRec := s.plan.bind fun p => p.outl.find? (·.outlet == n)

/-- The switch channel record of the active plan (R50). -/
def State.swch (s : State) (c : Nat) : Option SwchRec := s.plan.bind fun p => p.swch.find? (·.ch == c)

/-- The outlets that the active plan names. -/
def State.outlets (s : State) : List Nat := (s.plan.map fun p => p.outl.map (·.outlet)).getD []

/-- The OIU of an outlet. -/
def State.oiu (s : State) (n : Nat) : Oiu := lookup {} s.oius n

/-- The OIU of an outlet set. -/
def State.setOiu (s : State) (n : Nat) (o : Oiu) : State := { s with oius := update {} s.oius n o }

/-- A switch channel. -/
def State.sw (s : State) (c : Nat) : SwCh := lookup {} s.sws c

/-- A switch channel set. -/
def State.setSw (s : State) (c : Nat) (v : SwCh) : State := { s with sws := update {} s.sws c v }

/-- Whether a session is open on an outlet (R309). -/
def State.session (s : State) (n : Nat) : Bool := s.flag .BLU_ESTAT_SESS n

/-- The number of records that wait in the ledger queue (R330). -/
def queuedRecords (q : List Group) : Nat := (q.map fun g => g.recs.length).sum

/-- A group joins the ledger queue. A rolling group that finds 1,024 records waiting is dropped and counted (R330); the other classes
wait at their writers, which the queue's part beyond 1,024 records stands for. -/
def State.request (s : State) (cls : Nat) (recs : List ReqRec) : State :=
  let g : Group := ⟨cls, s.now, recs⟩
  if cls = 0 ∧ 1024 ≤ queuedRecords s.lgs.queue then
    let s := (s.put .LGS_COUNT_DROPPED 0 (min 0xFFFF (s.rd .LGS_COUNT_DROPPED 0 + recs.length))).put .LGS_STATUS_DROP 0 1
    { s with lgs := { s.lgs with dropPending := s.lgs.dropPending + recs.length }
             events := s.events ++ [⟨0x1507, s.ltime, min (s.lgs.dropPending + recs.length) 0xFFFF⟩] }
  else { s with lgs := { s.lgs with queue := s.lgs.queue ++ [g] } }

/-- A request of the BCU or the CGU: while the LGS does not accept requests it is held in Basecamp MRAM, up to 64 (R332). -/
def State.requestHeld (s : State) (cls : Nat) (recs : List ReqRec) : State :=
  if s.lgs.accepting then s.request cls recs
  else if s.lgs.held.length < 64 then { s with lgs := { s.lgs with held := s.lgs.held ++ [⟨cls, s.now, recs⟩] } }
  else { s with lgs := { s.lgs with heldLost := s.lgs.heldLost + 1 } }

/-- The codes of the events that the unit chapters keep in the retained class (R44). -/
def retainedEvents : List Nat :=
  [0x0101, 0x0102, 0x0104, 0x0106, 0x0109, 0x010C, 0x010D, 0x0202, 0x0203, 0x0204, 0x0402, 0x0403, 0x0502, 0x100A,
   0x100E, 0x1107, 0x110C, 0x1201, 0x1207, 0x1209, 0x120A, 0x1301, 0x1303, 0x1304, 0x1307, 0x130A, 0x1401, 0x1403,
   0x1404, 0x1407, 0x1408, 0x1501, 0x1502, 0x1504, 0x1505, 0x1508, 0x1601, 0x1604, 0x1609, 0x160D, 0x1703, 0x1705, 0x1706,
   0x1708, 0x170B, 0x170C, 0x1806, 0x1807, 0x1809, 0x180C, 0x1901, 0x1907, 0x1908, 0x1909, 0x190B, 0x1A02, 0x1A05,
   0x1A08, 0x1A09, 0x1B03, 0x1B07, 0x1C06, 0x1D02, 0x1D04, 0x1D05, 0x1E02, 0x1E06, 0x1E07, 0x1E08, 0x2002, 0x2005,
   0x2006, 0x200C]

/-- The codes of the events that the unit chapters keep in the legal-hold class (R44). -/
def legalEvents : List Nat := [0x0405, 0x1208, 0x1409, 0x140A, 0x140B, 0x1503]

/-- The retention class of an event: 0 rolling unless a unit's chapter assigns another (R44). -/
def eventClass (code : Nat) : Nat := if code ∈ legalEvents then 2 else if code ∈ retainedEvents then 1 else 0

/-- An event is raised: it goes to the host event stream and to the ledger (R44). -/
def State.raise (s : State) (code arg : Nat) : State :=
  let e : Event := ⟨code, s.ltime, arg % 65536⟩
  let r : ReqRec := ⟨0x01, s.ltime, [⟨16, 2, code⟩, ⟨18, 2, arg % 65536⟩]⟩
  let s := { s with events := s.events ++ [e] }
  if code / 256 = 0x01 ∨ code / 256 = 0x02 then s.requestHeld (eventClass code) [r] else s.request (eventClass code) [r]

/-- An event whose argument holds a number in bits [15:8] and a detail in bits [7:0]. -/
def State.raise2 (s : State) (code hi lo : Nat) : State := s.raise code (hi % 256 * 256 + lo % 256)

/-- The fabric masters that units issue transactions as (R23): master and event class. -/
def unitMasters : List (Nat × Nat) :=
  [(12, 0x12), (13, 0x11), (14, 0x19), (15, 0x1A), (16, 0x1D), (17, 0x17), (18, 0x1C), (19, 0x1E), (20, 0x1B), (21, 0x18)]

/-- A master is frozen: its clock is gated (R27). -/
def State.frozen (s : State) (m : Nat) : Bool := bit (s.rd .FAB_FROZEN_FROZEN 0) m

/-- A unit, by event class, counts as failed (R31, R460, R471, R474): its master is frozen, its clock is gated, a unit reset of it runs,
or it has failed by itself. -/
def State.failed (s : State) (cls : Nat) : Bool :=
  (unitMasters.any fun m => m.2 == cls && bit (s.rd .FAB_FROZEN_FROZEN 0) m.1) || (cls != 0x10 && s.bcu.unitResets.any fun k => k / 256 == cls) ||
    (cls == 0x18 && !s.flag .CGU_CLKEN_CLU 0) || (cls == 0x1A && !s.flag .CGU_CLKEN_ALK 0) || (cls == 0x1D && !s.flag .CGU_CLKEN_DSE 0) ||
    (cls == 0x19 && s.flag .SEC_STATUS_FAIL 0)

/-- The random bit generator serves requests: it and the SEC have not failed (R412, R413). -/
def State.randomOk (s : State) : Bool := !s.flag .SEC_STATUS_DRBGF 0 && !s.failed 0x19

/-- Bits of the random bit generator, whose requests are counted for the next reseed (R412). -/
def State.randomBits (s : State) : Nat × State :=
  (s.draw.1, { s.draw.2 with sec := { s.draw.2.sec with requests := s.draw.2.sec.requests + 1 } })

/-- An outlet that the failure of a unit leaves without service (R474), or a modulator fault of a channel that it uses, until 10 s after its end
(R170). -/
def State.degraded (s : State) (n : Nat) : Bool :=
  match s.outl n with
  | none => false
  | some r =>
    ([0x12, 0x15, 0x16, 0x17].any s.failed) || (s.failed 0x11 && !bit r.proto 0) || ((s.failed 0x19 || s.failed 0x14) && !bit r.flags 0) ||
      (s.failed 0x1B && decide (2 ≤ r.kind)) || s.bcu.unitResets.contains (0x10 * 256 + n) ||
      s.flag .MEU_ESTAT_FAULT n || decide (s.now < lookup 0 s.meu.faultUntil n)

/-- An outlet takes no new session and shows itself unavailable: its lane was refused and it waits without its vehicle link (R37), the controller is in
Ember (R39), it waits for an Outlet-idle activation (R62), an unlock has failed (R94), an update drains (R489), the legal-hold reserve is reached (R333), the hold-up capacitance is low (R447), the life-cycle state serves no outlet
(R400), the crystal is not proven (R457), or a unit has failed (R474). -/
def State.refuses (s : State) (n : Nat) : Bool :=
  s.rd .VCE_OLINK_LSTATE n == 1 || s.bcu.ember || bit s.ppl.affected n || (s.oiu n).unlockFault || s.rd .UPD_STATUS_STATE 0 == 5 || s.rd .UPD_STATUS_STATE 0 == 6 || s.flag .LGS_STATUS_LHRES 0 ||
    s.flag .BCU_STATUS_HUFAULT 0 || !s.flag .CGU_STATUS_XTOK 0 || (s.rd .SEC_LC_STATE 0 != 2 && s.rd .SEC_LC_STATE 0 != 3) || s.degraded n

/-- PPL_WAIT follows the sessions that delay an Outlet-idle activation; each fall of their number is reported (R62). -/
def State.trackWait (s : State) : State :=
  let left := (bitList 24 s.ppl.awaited).filter s.session
  if (maskOf left) = s.ppl.awaited then s
  else
    let s : State := { s with ppl := { s.ppl with awaited := maskOf left } }
    (s.put .PPL_WAIT_WAIT 0 (maskOf left)).raise 0x0404 left.length

/-- A function applied for each number of a list in order. -/
def State.each (s : State) (l : List Nat) (f : State → Nat → State) : State := l.foldl f s

/-- A change that happens only under a condition. -/
def State.onlyIf (s : State) (c : Bool) (f : State → State) : State := if c then f s else s

/-- The field and the index that a key of the register store names. -/
def keyFld (k : Nat) : Fld := Fld.ofNat (k % 1024)

/-- The fields of one unit, at the indices that `p` picks, back at their reset values, `keep` apart (R18, R471). -/
def State.clearUnit (s : State) (u : UnitId) (p : Nat → Bool) (keep : List Fld) : State :=
  let gone := fun (e : Nat × Nat) => (keyFld e.1).unit == u && p (e.1 / 1024) && !keep.contains (keyFld e.1)
  { s with regs := s.regs.filter fun e => !gone e
           applied := s.applied.filter fun e => !gone e
           latched := s.latched.filter fun e => !gone e }

/-- The progress of the clock since its mark, at the rate of the servo (R387, R388). -/
def State.clockGone (s : State) : Nat :=
  (((s.now - s.ntu.mark : Nat) : Int) + ((s.now - s.ntu.mark : Nat) : Int) * s.ntu.rate / 100000000).toNat

/-- PTP time in ns. -/
def State.ptpNs (s : State) : Nat := s.ntu.ptp + s.clockGone

/-- PTP seconds. -/
def State.ptpSec (s : State) : Nat := s.ptpNs / 1000000000

/-- PTP time converted to UTC with the currentUtcOffset of the master, in the unit of wall time (R297). -/
def State.ptpWall (s : State) : Nat := (((s.ptpNs : Int) - s.ntu.utc * 1000000000) * 65536 / 1000000000).toNat

/-- T_L, the ledger time that corresponds to T (R488). -/
def State.ledgerOf (s : State) (byPtp : Bool) (t : Nat) : Nat :=
  if byPtp then (((s.ltime : Int) + ((t : Int) * 1000000000 - s.ptpNs) * 65536 / 1000000000)).toNat else t * 65536

/-- T_L follows T while the PTP client is locked (R488): the value that holds now is kept. -/
def State.refreshTl (s : State) : State :=
  match s.upd.hold with
  | none => s
  | some h =>
    match h.t with
    | none => s
    | some t =>
      if h.byPtp && s.rd .NTU_PTP_STATE 0 == 3 then { s with upd := { s.upd with hold := some { h with tL := s.ledgerOf true t } } } else s

/-- The NTU works: it counts as failed neither by a freeze nor by a unit reset (R31, R471). -/
def State.ntuRuns (s : State) : Bool := !s.failed 0x1B

/-- The NETW records of a type, with their record indices (R50, R394). -/
def State.netw (s : State) (t : Nat) : List (Nat × NetwRec) :=
  (((s.plan.map (·.netw)).getD []).zipIdx.map fun e => (e.2, e.1)).filter fun e => e.2.type == t

end Sys2Proof.Machine
end

