-- ==== Sys2Proof/Machine/Switch.lean ====
section
/-! DEFINITION. PSW, the protected switch channels (chapter 08): sources and turn-on, the bank arbiter, faults, retry and latch. -/

namespace Sys2Proof.Machine

open Sys2Proof

/-- PHASE codes of PSW_CHSTATn. -/
def phOff : Nat := 0
def phQueued : Nat := 1
def phInrush : Nat := 2
def phOn : Nat := 3
def phPause : Nat := 4
def phLatched : Nat := 5

/-- The PHASE of a channel. -/
def State.phase (s : State) (c : Nat) : Nat := s.rd .PSW_CHSTAT_PHASE c

/-- A channel is on: in its inrush window or after it. -/
def State.chOn (s : State) (c : Nat) : Bool := s.phase c == phInrush || s.phase c == phOn

/-- FUNC of a channel, 0 without a record (R50). -/
def State.func (s : State) (c : Nat) : Nat := ((s.swch c).map (·.func)).getD 0

/-- The PHASE of a channel set, with its bit of PSW_OUT and its LATCH bit. -/
def State.setPhase (s : State) (c ph : Nat) : State :=
  ((s.put .PSW_CHSTAT_PHASE c ph).putBit .PSW_OUT_OUT 0 c (ph == phInrush || ph == phOn)).putFlag .PSW_CHSTAT_LATCH c (ph == phLatched)

/-- The command of the channel's source (R232): the OIU route, the lock sequencer, or ON. -/
def State.sourceOn (s : State) (c : Nat) : Bool :=
  match s.swch c with
  | none => false
  | some r =>
    if r.func = 1 then s.flag .OIU_CONTACT_CMD r.outlet
    else if r.func = 2 then
      match s.outl r.outlet with
      | none => false
      | some o => ((s.oiu r.outlet).coil == .lock && o.lockCh == c) || ((s.oiu r.outlet).coil == .unlock && o.lockCh + 1 == c)
    else if 3 ≤ r.func then (s.sw c).onEff else false

/-- The channel may be on: its source commands it, its GSE permit is present where it needs one, and the EFU trip line is off (R232). -/
def State.wantsOn (s : State) (c : Nat) : Bool :=
  s.sourceOn c && bit (s.rd .PSW_PERMIT_PERMIT 0) c && !bit (s.rd .PSW_TRIPRB_TRIP 0) c

/-- The mask of a bank's queue without one channel; nobody waits behind it any more (R235). -/
def State.leaveQueue (s : State) (c : Nat) : State :=
  let k := c / 8
  let s := s.putBit .PSW_BANKS_QUEUE k (c % 8) false
  s.each ((List.range 8).map (8 * k + ·)) fun s d => s.setSw d { s.sw d with behind := setBit (s.sw d).behind (c % 8) false }

/-- The lock pulse and the LKCONF timer run from the grant of the slot (R93, R235). -/
def State.startLockTimers (s : State) (c : Nat) : State :=
  match s.swch c with
  | some r =>
    if r.func = 2 then
      s.setOiu r.outlet { s.oiu r.outlet with
        lkPulse := some (s.now + msec (10 * s.rd .OIU_TIMER_LKPULSE r.outlet))
        lkConf := some (s.now + msec (10 * s.rd .OIU_TIMER_LKCONF r.outlet)) }
    else s
  | none => s

/-- The ramp time t_r of a channel in ns (R230). -/
def State.rampTime (s : State) (c : Nat) : Nat :=
  let slew := ((s.swch c).map (·.slew)).getD 0
  if slew = 0 then usec 20 else usec (100 * slew)

/-- The bank's slot goes to a channel, whose inrush window starts (R230, R235). -/
def State.grantSlot (s : State) (c : Nat) : State :=
  let k := c / 8
  let s := s.leaveQueue c
  let inrush := ((s.swch c).map (·.inrushMs)).getD 1
  let s := s.setSw c { s.sw c with
    rampEnd := s.now + s.rampTime c, overUs := 0, limitUs := 0
    winEnd := some (s.now + msec inrush), frozenAt := if s.flag .PSW_BANKS_DROOP k then some s.now else none
    frozenUsed := 0, pauseEnd := none, hot := false, goodAt := none, behind := s.rd .PSW_BANKS_QUEUE k }
  let s := (s.putFlag .PSW_BANKS_BUSY k true).put .PSW_BANKS_HOLDER k (c % 8)
  let s := s.putFlag .PSW_CHSTAT_FROZEN c (s.flag .PSW_BANKS_DROOP k)
  ((s.setPhase c phInrush).count .PSW_CHCNT_STARTS c).startLockTimers c

/-- The waiting channel that the rule of R235 serves next. -/
def State.nextWaiting (s : State) (k : Nat) : Option Nat :=
  let w := bitList 8 (s.rd .PSW_BANKS_QUEUE k)
  match w.find? fun i => w.all fun j => !bit (s.sw (8 * k + i)).behind j with
  | some i => some i
  | none => w.head?

/-- A free slot of a bank without undervoltage is granted to the next eligible waiting channel (R235). -/
def State.serveBank (s : State) (k : Nat) : State :=
  if s.flag .PSW_BANKS_BUSY k || s.flag .PSW_BANKS_UV k then s
  else match s.nextWaiting k with
    | some i => s.grantSlot (8 * k + i)
    | none => s

/-- The slot is released if the channel holds it, and granted again. -/
def State.releaseSlot (s : State) (c : Nat) : State :=
  let k := c / 8
  if s.flag .PSW_BANKS_BUSY k && s.rd .PSW_BANKS_HOLDER k == c % 8 then
    ((s.putFlag .PSW_BANKS_BUSY k false).put .PSW_BANKS_HOLDER k 0).serveBank k
  else s

/-- A freeze of a channel's inrush timer ends: the window moves by the freeze, at most 5 ms in all, with event 0x1607 (R236). -/
def State.endFreeze (s : State) (c : Nat) : State :=
  match (s.sw c).frozenAt with
  | none => s
  | some t0 =>
    let dur := min (s.now - t0) (msec 5 - (s.sw c).frozenUsed)
    let s := s.setSw c { s.sw c with
      frozenAt := none, frozenUsed := (s.sw c).frozenUsed + dur, winEnd := (s.sw c).winEnd.map (· + dur) }
    (s.putFlag .PSW_CHSTAT_FROZEN c false).raise2 0x1607 (c / 8) (min (dur / usec 100) 0xFF)

/-- A channel joins its bank's queue (R235). -/
def State.joinQueue (s : State) (c : Nat) : State := (s.putBit .PSW_BANKS_QUEUE (c / 8) (c % 8) true).setPhase c phQueued

/-- A channel asks its bank for the slot (R235); a bank in undervoltage takes no request, and its commanded channels queue when that ends (R237). -/
def State.askSlot (s : State) (c : Nat) : State := if s.flag .PSW_BANKS_UV (c / 8) then s else (s.joinQueue c).serveBank (c / 8)

/-- A channel turns off into a phase: out of the queue, its window over, its slot released (R231, R235). -/
def State.chOff (s : State) (c ph : Nat) (fast : Bool) : State :=
  let s := s.endFreeze c
  let s := s.leaveQueue c
  let ends := s.now + (if fast then usec 20 else s.rampTime c)
  let s := s.setSw c { s.sw c with
    winEnd := none, goodAt := none, fastOff := fast
    offAt := if s.chOn c then some s.now else (s.sw c).offAt, rampEnd := if s.chOn c then ends else (s.sw c).rampEnd }
  (s.setPhase c ph).releaseSlot c

/-- A command that goes off in the instant of a fault takes the fault's try back: it does not count and cannot latch the channel (R243). -/
def State.uncount (s : State) (c : Nat) : State :=
  if (s.sw c).triedAt = some s.now then
    let s := s.put .PSW_CHSTAT_TRIES c (s.rd .PSW_CHSTAT_TRIES c - 1)
    (s.setSw c { s.sw c with triedAt := none, pauseEnd := none, hot := false }).setPhase c phOff
  else s

/-- A channel follows its command, its permit and its trip line (R231, R232, R235, R243); while the PSW is failed nothing turns on (R242). A pause runs
on whatever the command does, and its end asks for a retry only while the command is on (R234, R243). -/
def State.swRefresh (s : State) (c : Nat) : State :=
  let src := s.sourceOn c
  let s := s.onlyIf (!src) fun s => s.uncount c
  let want := s.wantsOn c && !s.failed 0x16
  let s := s.putFlag .PSW_CHSTAT_CMD c src
  let fast := s.func c == 1 || src
  if s.phase c = phOff then (if want then s.askSlot c else s)
  else if s.phase c = phQueued then (if want then s else s.chOff c phOff fast)
  else if s.phase c = phInrush ∨ s.phase c = phOn then (if want then s else s.chOff c phOff fast)
  else s

/-- The GSE permit of a channel (R232): shown in PSW_PERMIT and PSW_CHSTATn and acted on at once. -/
def State.swPermit (s : State) (c : Nat) (b : Bool) : State :=
  ((s.putBit .PSW_PERMIT_PERMIT 0 c b).putFlag .PSW_CHSTAT_PERMIT c b).swRefresh c

/-- The EFU trip line of a channel (R178, R232). -/
def State.swTripLine (s : State) (c : Nat) (b : Bool) : State := (s.putBit .PSW_TRIPRB_TRIP 0 c b).swRefresh c

/-- The kinds of a channel fault (R228). -/
inductive ChFault where
  | short | over | temp | shed
  deriving DecidableEq, Repr

/-- The sticky flag of a fault kind in PSW_CHFLTn and PSW_STATUS, and its event (R228, R245). -/
def ChFault.chFlag : ChFault → Fld
  | .short => .PSW_CHFLT_SC
  | .over => .PSW_CHFLT_OC
  | .temp => .PSW_CHFLT_OT
  | .shed => .PSW_CHFLT_OC

/-- The unit flag of a fault kind. -/
def ChFault.unitFlag : ChFault → Fld
  | .short => .PSW_STATUS_SC
  | .over => .PSW_STATUS_OC
  | .temp => .PSW_STATUS_OT
  | .shed => .PSW_STATUS_OC

/-- The event code of a fault kind. -/
def ChFault.code : ChFault → Nat
  | .short => 0x1601
  | .over => 0x1602
  | .temp => 0x1603
  | .shed => 0x1602

/-- The pause after the k-th failed try: 10 ms × 2^(k − 1), at most 2,560 ms (R233). -/
def retryPause (k : Nat) : Nat := msec (min (10 * 2 ^ (k - 1)) 2560)

/-- RETRYN of a channel. -/
def State.retryN (s : State) (c : Nat) : Nat := ((s.swch c).map (·.retryN)).getD 7

/-- A try ends while the command stays on: it is counted, and the channel latches or pauses (R233, R234). -/
def State.endTry (s : State) (c : Nat) (hot : Bool) : State :=
  let t := s.rd .PSW_CHSTAT_TRIES c
  if s.retryN c ≤ t then
    ((s.chOff c phLatched true).put .PSW_STATUS_LATCH 0 1).raise2 0x1604 c t
  else
    let s := s.setSw c { s.sw c with pauseEnd := some (s.now + retryPause t), hot := hot }
    s.chOff c phPause true

/-- A command went off at this instant on a channel that was on: a fault of the same instant still shows (R243). -/
def State.justOff (s : State) (c : Nat) : Bool :=
  s.phase c == phOff && (s.sw c).offAt == some s.now && !s.sourceOn c

/-- A fault of a channel that is on: off without slew, flags, counters, events, and the end of the try (R228, R233, R243, R246). The firmware,
which sends the commands, ends the session of a contactor's outlet on event 0x160D (R234). -/
def State.swFault (s : State) (c : Nat) (kind : ChFault) : State :=
  if !s.chOn c && !s.justOff c then s
  else
    let src := s.sourceOn c
    let s := ((s.put kind.chFlag c 1).put kind.unitFlag 0 1).count .PSW_CHCNT_FAULTS c
    let s := s.onlyIf src fun s =>
      (s.put .PSW_CHSTAT_TRIES c (satInc 15 (s.rd .PSW_CHSTAT_TRIES c))).setSw c { s.sw c with triedAt := some s.now }
    let s := s.raise2 kind.code c (s.rd .PSW_CHSTAT_TRIES c)
    let s := s.onlyIf (s.func c == 1) fun s => s.raise2 0x160D (((s.swch c).map (·.outlet)).getD 0xFF) c
    if src then s.endTry c (kind == .temp) else s.chOff c phOff true

/-- A write of the firmware's ON and PWMF for FUNC 3 to 7 (R232, R239); during a Guy hold it is stored only (R240). -/
def State.writeOn (s : State) (c : Nat) (b : Bool) : State :=
  let s := s.putFlag .PSW_CHCTL_ON c b
  if s.flag .BCU_STATUS_GHOLD 0 then s else (s.setSw c { s.sw c with onEff := b, pwmfEff := s.rd .PSW_CHCTL_PWMF c }).swRefresh c

/-- CHANNEL_TURN_ON (R235): the command of the channel's source turns on and the channel asks for its bank's slot. The firmware's ON
is the source of FUNC 3 to 7; the routes of FUNC 1 and 2 are read as they stand (R232). -/
def execChannelTurnOn (c : Fin 32) (s : State) : Out :=
  .next (if 3 ≤ s.func c then s.writeOn c true else s.swRefresh c)

/-- CHANNEL_TURN_OFF (R231): the command turns off, with slew or fast per its source. -/
def execChannelTurnOff (c : Fin 32) (s : State) : Out :=
  .next (if 3 ≤ s.func c then s.writeOn c false else s.swRefresh c)

/-- INRUSH_SLOT_GRANT (R235): a free slot goes to the next eligible waiting channel. -/
def execInrushSlotGrant (k : Fin 4) (s : State) : Out := .next (s.serveBank k)

/-- The end of an inrush window that is not frozen: overcurrent if the channel is still in limit, else on at 4.0 A (R228, R230, R234). -/
def State.windowEnd (s : State) (c : Nat) (limiting : Bool) : State :=
  if limiting then s.swFault c .over
  else
    let s := (s.endFreeze c).setPhase c phOn
    let s := s.setSw c { s.sw c with winEnd := none, goodAt := some (s.now + msec 10000) }
    s.releaseSlot c

/-- INRUSH_WINDOW_END (R230): the window of the slot holder has run in full, freezes counted in (R236). -/
def execInrushWindowEnd (c : Fin 32) (limiting : Bool) (s : State) : Out :=
  match (s.sw c).winEnd with
  | none => .next s
  | some t =>
    match (s.sw c).frozenAt with
    | none => .next ((s.moveTo t).windowEnd c limiting)
    | some t0 => .next (((s.moveTo (t0 + (msec 5 - (s.sw c).frozenUsed))).moveTo (t + (msec 5 - (s.sw c).frozenUsed))).windowEnd c limiting)

/-- SHORT_CIRCUIT (R228): in current limit with the output below 2.0 V. -/
def execShortCircuit (c : Fin 32) (limited : Bool) (millivolts : Nat) (s : State) : Out :=
  .next (if limited && decide (millivolts < 2000) then s.swFault c .short else s)

/-- A stretch of a channel's current adds to its on-time above 3.3 A and to its time in the 4.0 A limit, or ends them (R228): off phases of PWM
neither add to the first nor end it. -/
def SwCh.load (w : SwCh) (x : LoadSpan) : SwCh :=
  { w with overUs := if !x.on then w.overUs else if 3300 < x.milliamps then w.overUs + x.micros else 0
           limitUs := if x.on && x.limited then w.limitUs + x.micros else 0 }

/-- A channel's load is beyond what R228 allows after the inrush window: more than 3.3 A for 20 ms of on-time, or 100 µs in the 4.0 A limit. -/
def SwCh.overloaded (w : SwCh) : Bool := decide (20000 ≤ w.overUs) || decide (100 ≤ w.limitUs)

/-- The current of a channel after its inrush window, stretch by stretch, up to the fault (R228). -/
def State.takeLoad (s : State) (c : Nat) : List LoadSpan → State
  | [] => s
  | x :: r =>
    let w := (s.sw c).load x
    let s := s.setSw c w
    if w.overloaded then s.swFault c .over else s.takeLoad c r

/-- OVERCURRENT (R228): the channel's current after its inrush window. -/
def execOvercurrent (c : Fin 32) (load : List LoadSpan) (s : State) : Out := .next (if s.phase c = phOn then s.takeLoad c load else s)

/-- OVERTEMPERATURE (R228): the junction reaches 160 °C. -/
def execOvertemperature (c : Fin 32) (junction : Nat) (s : State) : Out := .next (if 160 ≤ junction then s.swFault c .temp else s)

/-- RETRY_PAUSE_END (R233): the pause has run in full, and after an overtemperature the junction, in °C, is below 140 °C; the channel asks for
the slot if it may be on, and is off otherwise (R243). -/
def execRetryPauseEnd (c : Fin 32) (junction : Nat) (s : State) : Out :=
  match (s.sw c).pauseEnd with
  | none => .next s
  | some t =>
    let s := s.moveTo t
    if (s.sw c).hot && decide (140 ≤ junction) then .next s
    else
      let s := (s.setSw c { s.sw c with pauseEnd := none, hot := false }).setPhase c phOff
      .next (s.swRefresh c)

/-- TRIES_RESET (R234): ten seconds after the inrush window without a fault. -/
def execTriesReset (c : Fin 32) (s : State) : Out :=
  match (s.sw c).goodAt with
  | none => .next s
  | some t => .next (((s.moveTo t).setSw c { s.sw c with goodAt := none }).put .PSW_CHSTAT_TRIES c 0)

/-- The latch of a channel clears, and TRIES with it (R234). -/
def State.clearLatch (s : State) (c : Nat) : State :=
  if s.phase c = phLatched then
    (((s.put .PSW_CHSTAT_TRIES c 0).setPhase c phOff).raise2 0x1605 c 0).swRefresh c
  else s

/-- A write of 1 to LATCHCLR (R234): no effect on a channel that is not latched; during a Guy hold it is stored (R240). -/
def State.latchClear (s : State) (c : Nat) : State :=
  if s.flag .BCU_STATUS_GHOLD 0 then s.setSw c { s.sw c with clrDue := true } else s.clearLatch c

/-- LATCHCLR (R234). -/
def execLatchclr (c : Fin 32) (s : State) : Out := .next (s.latchClear c)

/-- A bank voltage measurement shown in PSW_BANKVk (R236). -/
def State.bankVolts (s : State) (k vnow vmean : Nat) : State := (s.put .PSW_BANKV_VNOW k vnow).put .PSW_BANKV_VMEAN k vmean

/-- A bank is in droop: its voltage lies below DROOP per cent of its mean (R236). -/
def State.inDroop (s : State) (k : Nat) : Bool :=
  s.rd .PSW_BANKV_VNOW k * 100 < s.rd .PSW_BANKCTL_DROOP k * s.rd .PSW_BANKV_VMEAN k

/-- The freezes of a slot holder's window have used their 5 ms: the timer runs on in droop (R236). -/
def State.freezeLimit (s : State) (k : Nat) : State :=
  let c := 8 * k + s.rd .PSW_BANKS_HOLDER k
  match (s.sw c).frozenAt with
  | some t0 => if s.flag .PSW_BANKS_BUSY k && decide (t0 + (msec 5 - (s.sw c).frozenUsed) ≤ s.now) then s.endFreeze c else s
  | none => s

/-- A bank is judged against DROOP (R236): a droop that begins freezes the slot holder's timer while the freezes of its window total less than 5 ms, and
one that ends lets it run. -/
def State.judgeDroop (s : State) (k : Nat) : State :=
  let s := s.freezeLimit k
  let c := 8 * k + s.rd .PSW_BANKS_HOLDER k
  if s.inDroop k && !s.flag .PSW_BANKS_DROOP k then
    let s := s.putFlag .PSW_BANKS_DROOP k true
    s.onlyIf (s.flag .PSW_BANKS_BUSY k && (s.sw c).frozenUsed < msec 5) fun s =>
      (s.setSw c { s.sw c with frozenAt := some s.now }).putFlag .PSW_CHSTAT_FROZEN c true
  else if !s.inDroop k && s.flag .PSW_BANKS_DROOP k then
    (s.putFlag .PSW_BANKS_DROOP k false).onlyIf (s.flag .PSW_BANKS_BUSY k) fun s => s.endFreeze c
  else s

/-- BANK_DROOP (R236): a measurement below the threshold. -/
def execBankDroop (k : Fin 4) (vnow vmean : BitVec 16) (s : State) : Out := .next ((s.bankVolts k vnow.toNat vmean.toNat).judgeDroop k)

/-- BANK_DROOP_END (R236): a measurement at or above the threshold. -/
def execBankDroopEnd (k : Fin 4) (vnow vmean : BitVec 16) (s : State) : Out := .next ((s.bankVolts k vnow.toNat vmean.toNat).judgeDroop k)

/-- The channels of a bank. -/
def bankChannels (k : Nat) : List Nat := (List.range 8).map (8 * k + ·)

/-- BANK_UNDERVOLTAGE (R237): every channel of the bank off without slew, the slot released, no try counted. -/
def execBankUndervoltage (k : Fin 4) (vnow : BitVec 16) (s : State) : Out :=
  let s := (s.put .PSW_BANKV_VNOW k vnow.toNat).judgeDroop k
  if vnow.toNat < 800 ∧ s.rd .PSW_BANKS_UV k = 0 then
    let s := (s.putFlag .PSW_BANKS_UV k true).put .PSW_STATUS_BANKUV 0 1
    let s := s.each (bankChannels k) fun s c => if s.chOn c || s.phase c == phQueued then s.chOff c phOff true else s
    .next (s.raise2 0x1608 k 1)
  else .next s

/-- BANK_UNDERVOLTAGE_END (R237): 10 ms at or above 8.5 V; commanded channels queue for the slot, which goes to the lowest. -/
def execBankUndervoltageEnd (k : Fin 4) (vnow : BitVec 16) (s : State) : Out :=
  let s := (s.put .PSW_BANKV_VNOW k vnow.toNat).judgeDroop k
  if 850 ≤ vnow.toNat ∧ s.rd .PSW_BANKS_UV k = 1 then
    let s := s.each (bankChannels k) fun s c => if s.phase c == phOff && s.wantsOn c && !s.failed 0x16 then s.joinQueue c else s
    .next (((s.putFlag .PSW_BANKS_UV k false).serveBank k).raise2 0x1608 k 0)
  else .next s

/-- The order of shedding: the slot holder, then descending numbers with FUNC 1 last (R238). -/
def State.shedOrder (s : State) (k : Nat) : List Nat :=
  let on := (bankChannels k).reverse.filter fun c => s.chOn c
  let holder := on.filter fun c => s.flag .PSW_BANKS_BUSY k && s.rd .PSW_BANKS_HOLDER k == c % 8
  let rest := on.filter fun c => !(s.flag .PSW_BANKS_BUSY k && s.rd .PSW_BANKS_HOLDER k == c % 8)
  holder ++ rest.filter (fun c => s.func c != 1) ++ rest.filter (fun c => s.func c == 1)

/-- Channels shed one by one until the bank's summed current lies below 12.0 A (R238). -/
def State.shed (s : State) (k : Nat) (ma : List Nat) : List Nat → Nat → State
  | [], _ => s
  | c :: r, sum =>
    if sum < 12000 then s
    else ((s.swFault c .shed).raise2 0x1609 k c).shed k ma r (sum - ma.getD (c % 8) 0)

/-- The summed current of the bank's channels that are on, in mA; a channel that runs PWM counts with the average over its period (R238). -/
def State.bankSum (s : State) (k : Nat) (ma : List Nat) : Nat :=
  (((List.range 8).filter fun i => s.chOn (8 * k + i)).map fun i => ma.getD i 0).sum

/-- BANK_OVERCURRENT (R238): the channels have drawn these currents for `micros`; the sum has exceeded 13.0 A for 10 ms. -/
def execBankOvercurrent (k : Fin 4) (milliamps : List Nat) (micros : Nat) (s : State) : Out :=
  let sum := s.bankSum k milliamps
  if 13000 < sum ∧ 10000 ≤ micros then .next ((s.put .PSW_STATUS_BANKOC 0 1).shed k milliamps (s.shedOrder k) sum) else .next s

/-- OPEN_LOAD_CHANGE (R229): on channels with open-load detection that are off, the output has been at or above 3.0 V, or below, for 50 ms, which
count from 10 ms after the turn-off; otherwise OL keeps its value. -/
def execOpenLoadChange (c : Fin 32) (millivolts : Nat) (s : State) : Out :=
  let detects := ((s.swch c).map fun r => bit r.flags 0).getD false
  let isOpen := decide (3000 ≤ millivolts)
  if detects && !s.chOn c && !s.flag .PSW_BANKS_UV (c / 8) && s.flag .PSW_CHSTAT_OLNOW c != isOpen then
    let s := s.moveTo (((s.sw c).offAt.map (· + msec 60)).getD 0)
    let s := s.putFlag .PSW_CHSTAT_OLNOW c isOpen
    let s := s.onlyIf isOpen fun s => (s.put .PSW_CHFLT_OL c 1).put .PSW_STATUS_OL 0 1
    .next (s.raise2 0x1606 c (b2n isOpen))
  else .next s

/-- The applied duty: DUTY × (VNOM ÷ VBANK)², rounded to the nearest 0.1 % (R239). VNOM is in mV, VBANK in 10 mV. -/
def compensated (duty vnom vbank : Nat) : Nat :=
  if vnom = 0 then duty else if vbank = 0 then 1000 else roundDiv (duty * vnom * vnom) (vbank * 10 * (vbank * 10))

/-- The frame of a channel in ns: the PWM period, or 1 ms of a steady channel (R239). -/
def framePeriod (pwmf : Nat) : Nat := if pwmf = 1 then msec 10 else if pwmf = 2 then msec 4 else msec 1

/-- The next frame of a channel (R239): the grid of a steady channel runs from the cold reset. DESIGN CHOICE (log entry 76): so do the PWM periods. -/
def State.nextFrame (s : State) (c : Nat) : Nat :=
  s.bcu.coldAt + gridAfter (framePeriod (s.sw c).pwmfEff) (s.now - s.bcu.coldAt) ((s.sw c).lastFrame.map (· - s.bcu.coldAt))

/-- PWM_FRAME (R239, R240): outside a Guy hold latched writes apply; DOUT is recomputed, and at or above 100.0 % capped, with COMPSAT. -/
def execPwmFrame (c : Fin 32) (vmean : BitVec 16) (s : State) : Out :=
  let s := s.moveTo (s.nextFrame c)
  let s := s.setSw c { s.sw c with lastFrame := some s.now }
  let s := (s.put .PSW_BANKV_VMEAN (c / 8) vmean.toNat).judgeDroop (c / 8)
  let s := s.onlyIf (!s.flag .BCU_STATUS_GHOLD 0) fun s =>
    let s := s.apply .PSW_CHDUTY_DUTY c
    let clr := (s.sw c).clrDue
    let s := (s.setSw c { s.sw c with onEff := s.flag .PSW_CHCTL_ON c, pwmfEff := s.rd .PSW_CHCTL_PWMF c, clrDue := false }).swRefresh c
    s.onlyIf clr fun s => s.clearLatch c
  if (s.sw c).pwmfEff = 0 then .next (s.putFlag .PSW_CHSTAT_COMPSAT c false)
  else
    let d := compensated (s.eff .PSW_CHDUTY_DUTY c) (((s.swch c).map (·.vnom)).getD 0) vmean.toNat
    let sat := decide (1000 ≤ d)
    let s := s.onlyIf (sat && !s.flag .PSW_CHSTAT_COMPSAT c) fun s => s.raise2 0x160B c 0
    .next ((s.put .PSW_CHDUTY_DOUT c (min d 1000)).putFlag .PSW_CHSTAT_COMPSAT c sat)

/-- A channel at the expiry of a Guy hold, by its FUNC (R241): fans and coolant valves are kept, event 0x160A with detail 0; FUNC 4, 6 and 7 turn off,
and one that was on raises the event with detail 1. A contactor coil follows the shutdown of its outlet (R103). -/
def State.swGuyExpiry (s : State) (c : Nat) : State :=
  let f := s.func c
  if f = 4 ∨ f = 6 ∨ f = 7 then
    let on := s.chOn c
    ((s.setSw c { s.sw c with onEff := false }).swRefresh c).onlyIf on fun s => s.raise2 0x160A c 1
  else if f = 3 ∨ f = 5 then s.raise2 0x160A c 0
  else s

/-- A channel is idle: off, not queued, not pausing and not latched (R243). -/
def State.swIdle (s : State) (c : Nat) : Bool := s.phase c == phOff

/-- What the PSW keeps through a unit reset: TRIES, LATCH and the counters (R242), what the plan, the GSE and the EFU show in it, and the measured
voltages. -/
def pswHeld : List Fld :=
  [.PSW_CHSTAT_TRIES, .PSW_CHSTAT_LATCH, .PSW_CHSTAT_PHASE, .PSW_CHCNT_FAULTS, .PSW_CHCNT_STARTS, .PSW_CHSTAT_FUNC, .PSW_CHSTAT_PERMIT,
   .PSW_PERMIT_PERMIT, .PSW_TRIPRB_TRIP, .PSW_BANKV_VNOW, .PSW_BANKV_VMEAN, .PSW_BANKS_UV]

/-- A unit reset of the PSW (R18, R242): every channel off without slew, and the registers back at their reset values, but for what is kept. -/
def State.swReset (s : State) : State :=
  let s := (s.each (List.range 4) fun s k => s.put .PSW_BANKS_QUEUE k 0).each (List.range 32) fun s c =>
    let s := s.chOff c (if s.phase c = phLatched then phLatched else phOff) true
    s.setSw c { offAt := (s.sw c).offAt, rampEnd := (s.sw c).rampEnd, fastOff := true }
  (s.clearUnit .psw (fun _ => true) pswHeld).each (List.range 4) State.judgeDroop

end Sys2Proof.Machine
end

