-- ==== Sys2Proof/Machine/Outlet.lean ====
section
/-! DEFINITION. OIU, the outlet interface units (chapter 03): the pilot and its states, current coding, the coding resistor, the cable
lock, the contactor commands, and temperature derating. -/

namespace Sys2Proof.Machine

open Sys2Proof

/-- The letters that VHI is classified into (R78); the diode fault comes from the low level. -/
inductive Letter where
  | a | b | c | d | e | diode | invalid
  deriving DecidableEq, Repr

/-- The band of a VHI value in mV (R78): a value on a boundary belongs to the band with the higher voltage. -/
def bandOf (vhi : Int) : Letter :=
  if 10500 ≤ vhi then .a
  else if 7500 ≤ vhi then .b
  else if 4500 ≤ vhi then .c
  else if 1500 ≤ vhi then .d
  else if -1500 ≤ vhi then .e
  else .invalid

/-- The low-level class of a valid VLO value in mV (R78). -/
def lowClassOf (vlo : Int) : LowClass :=
  if -13500 ≤ vlo ∧ vlo ≤ -10500 then .present
  else if -1500 ≤ vlo ∧ vlo ≤ 1500 then .zero
  else .fault

/-- The state code of a letter (R82); the digit is 1 for a steady output and 2 for PWM. -/
def stateCode (l : Letter) (pwm : Bool) : Nat :=
  match l with
  | .a => b2n pwm
  | .b => 2 + b2n pwm
  | .c => 4 + b2n pwm
  | .d => 6 + b2n pwm
  | .e => 8
  | .diode => 0xA
  | .invalid => 0xB

/-- The letter of a state code, the digit apart (R82). -/
def letterCode (c : Nat) : Nat := if c < 8 then c / 2 else c

/-- The confirmed state code of an outlet (R82). -/
def State.cpState (s : State) (n : Nat) : Nat := s.rd .OIU_CPSTATE_STATE n

/-- The generator runs PWM: a duty is being generated. -/
def State.pwm (s : State) (n : Nat) : Bool := s.rd .OIU_CPSTATE_DUTYOUT n != 0

/-- The generator output in effect: 0 steady +12 V, 1 PWM, 2 state F, 3 state E (R75). -/
def State.gen (s : State) (n : Nat) : Nat := s.eff .OIU_CPCTL_GEN n

/-- KIND of an outlet. -/
def State.kind (s : State) (n : Nat) : Nat := ((s.outl n).map (·.kind)).getD 0

/-- DALLOW or CSEN as in effect: a write during a Guy hold waits for the end of the hold (R102). -/
def State.ctl (s : State) (f : Fld) (n : Nat) : Bool := s.eff f n != 0

/-- The confirmed state is C, or D with DALLOW = 1 (R95). -/
def State.readyState (s : State) (n : Nat) : Bool :=
  s.cpState n / 2 == 2 || (s.cpState n / 2 == 3 && s.ctl .OIU_CPCTL_DALLOW n)

/-- A band code at which PP or CS is valid (R92). -/
def ppValidCode (c : Nat) : Bool := (2 ≤ c && c ≤ 5) || c == 8

/-- PP or CS is used: on an AC socket, and where CSEN is 1 (R89). -/
def State.ppUsed (s : State) (n : Nat) : Bool := s.kind n == 0 || s.ctl .OIU_CPCTL_CSEN n

/-- The contactor channels of an outlet. -/
def State.contactorChannels (s : State) (n : Nat) : List Nat :=
  match s.outl n with
  | none => []
  | some o => [o.cont0, o.cont1].filter (· < 32)

/-- A residual-current channel holds its outlet off: a latched trip, a lockout, a self-test under way or waiting to repeat (R178 to R183). -/
def State.rcmBlocks (s : State) (c : Nat) : Bool :=
  s.flag .EFU_RCMSTAT_TRIP c || s.flag .EFU_RCMSTAT_LOCKOUT c || s.rd .EFU_RCMSTAT_TSTATE c == 1 || (lookup {} s.rcms c).retryAt.isSome

/-- The EFU has neither tripped nor locked out the outlet (R95): neither its residual-current channel nor its insulation channel. -/
def State.efuClear (s : State) (n : Nat) : Bool :=
  match s.outl n with
  | none => false
  | some o => (o.rcm == 0xFF || !s.rcmBlocks o.rcm) && (o.imd == 0xFF || !s.flag .EFU_IMDSTAT_LOCKOUT o.imd) && !bit s.imdTrip n

/-- The conditions of R95 that do not hold, bit 0 for condition [8] to bit 7 for condition [15]. -/
def State.missing (s : State) (n : Nat) : Nat :=
  let lockReq := ((s.outl n).map fun o => bit o.flags 1).getD false
  b2n (!s.readyState n) + 2 * b2n (!s.flag .OIU_CONTACT_CLOSE_EN n)
    + 4 * b2n (lockReq && s.rd .OIU_LOCK_LSTATE n != 2)
    + 8 * b2n (s.ppUsed n && !ppValidCode (s.rd .OIU_PPCS_CODE n))
    + 16 * b2n ((s.outl n).isNone || (s.contactorChannels n).any fun c => !bit (s.rd .PSW_PERMIT_PERMIT 0) c)
    + 32 * b2n (!s.efuClear n) + 64 * b2n (s.flag .OIU_STATUS_CUT n) + 128 * b2n (s.flag .OIU_STATUS_WELD n)

/-- The PSW channels of the contactor follow the command on the fixed route (R22, R232). -/
def State.route (s : State) (n : Nat) : State := s.each (s.contactorChannels n) fun s c => s.swRefresh c

/-- The close command rises: CFBnn has to read closed within 250 ms (R96). -/
def State.cmdRise (s : State) (n : Nat) : State :=
  let s := s.setOiu n { s.oiu n with closeT := some (s.now + msec 250), weldt := none }
  (s.putFlag .OIU_CONTACT_CMD n true).route n

/-- The close command drops: CFBnn has to read open after WELDT (R96). -/
def State.cmdDrop (s : State) (n : Nat) : State :=
  let s := s.setOiu n { s.oiu n with
    closeT := none, weldt := some (s.now + msec (s.rd .OIU_TIMER_WELDT n)), c1max := none, cutT := none, shutT := none }
  (s.putFlag .OIU_CONTACT_CMD n false).route n

/-- C1MAX runs in C1 or D1 with the contactor closed after the generator left PWM (R84, R87): from the later of the two on. -/
def State.trackC1 (s : State) (n : Nat) : State :=
  let runs := !s.pwm n && (s.cpState n == 4 || s.cpState n == 6) && s.flag .OIU_CONTACT_CMD n && (s.oiu n).leftPwm
  if runs == (s.oiu n).c1max.isSome then s
  else s.setOiu n { s.oiu n with c1max := if runs then some (s.now + msec (100 * s.rd .OIU_TIMER_C1MAX n)) else none }

/-- A residual-current channel. -/
def State.rcm (s : State) (c : Nat) : Rcm := lookup {} s.rcms c

/-- A residual-current channel set. -/
def State.setRcm (s : State) (c : Nat) (v : Rcm) : State := { s with rcms := update {} s.rcms c v }

/-- An insulation channel. -/
def State.imd (s : State) (k : Nat) : Imd := lookup {} s.imds k

/-- An insulation channel set. -/
def State.setImd (s : State) (k : Nat) (v : Imd) : State := { s with imds := update {} s.imds k v }

/-- The outlet that names a residual-current channel, none for an unnamed one (R178, R192). -/
def State.rcmOutlet (s : State) (c : Nat) : Option Nat :=
  if s.rd .EFU_RCMSTAT_OUTLET c < 24 then some (s.rd .EFU_RCMSTAT_OUTLET c) else none

/-- The outlets that name an insulation channel (R190). -/
def State.imdOutlets (s : State) (k : Nat) : List Nat :=
  [s.rd .EFU_IMDSTAT_OUTA k, s.rd .EFU_IMDSTAT_OUTB k].filter (· < 24)

/-- Ledger-time units in 24 hours. -/
def dayTicks : Nat := 86400 * 65536

/-- An insulation channel is idle: no bound outlet has its command on and neither cable check nor self-test runs. -/
def State.imdIdle (s : State) (k : Nat) : Bool :=
  (s.imdOutlets k).all (fun n => !s.flag .OIU_CONTACT_CMD n) && (s.imd k).check.isNone && !(s.imd k).test

/-- Injection runs while a bound outlet has its command on, during a cable check and during a self-test (R189, R194). -/
def State.injRefresh (s : State) (k : Nat) : State :=
  s.putFlag .EFU_IMDSTAT_INJ k ((s.imdOutlets k).any (fun n => s.flag .OIU_CONTACT_CMD n) || (s.imd k).check.isSome || (s.imd k).test)

/-- An insulation self-test starts (R191). -/
def State.startImdTest (s : State) (k : Nat) (clearing : Bool) : State :=
  if (s.imdOutlets k).isEmpty || (s.imd k).test then s
  else
    let i := s.imd k
    (s.setImd k { i with test := true, testCur := [], clearing := clearing || i.first, first := false, last := none }).injRefresh k

/-- The daily self-test of an insulation channel runs, and the next 24 h are counted from it (R191). -/
def State.imdDaily (s : State) (k : Nat) : State :=
  (s.setImd k { s.imd k with dailyDue := false, dailyAt := s.ltime + dayTicks }).startImdTest k false

/-- What the insulation channel of an outlet does when the contactor command changes: injection follows it (R189), and a daily self-test that waits
for the channel to be idle starts (R191). -/
def State.imdFollow (s : State) (n : Nat) : State :=
  match s.outl n with
  | none => s
  | some o =>
    if 12 ≤ o.imd then s
    else (s.injRefresh o.imd).onlyIf ((s.imd o.imd).dailyDue && s.imdIdle o.imd) fun s => s.imdDaily o.imd

/-- Every condition of R95 holds; a temperature cut opens a closed contactor only when it has been active for 2 s (R98). -/
def State.mayClose (s : State) (n : Nat) : Bool :=
  s.rd .OIU_CONTACT_MISSING n == 0 || (s.rd .OIU_CONTACT_MISSING n == 64 && s.flag .OIU_CONTACT_CMD n && (s.oiu n).cutT.isSome)

/-- A lost module serves again once it has sent valid status for 10 s and the firmware has opened a new session; the allocator releases ZREQ (R220). -/
def State.moduleBack (s : State) (n : Nat) : State :=
  match lookup none s.alloc.goodT n with
  | none => s
  | some t =>
    if bit s.alloc.lost n && bit s.alloc.lostNew n && decide (t + msec 10000 ≤ s.now) then
      ({ s with alloc := { s.alloc with lost := setBit s.alloc.lost n false, goodT := update none s.alloc.goodT n none } } : State).putFlag
        .OIU_CONTACT_ZREQ n false
    else s

/-- The firmware opens a new session on an outlet, or the vehicle has left and the next one brings it (R220). -/
def State.newSession (s : State) (n : Nat) : State :=
  ({ s with alloc := { s.alloc with lostNew := setBit s.alloc.lostNew n true } } : State).moduleBack n

/-- The allocator learns that a pilot change, a safety demand or a trip opens an outlet's contactor (R224). -/
def State.noteOpened (s : State) (n : Nat) : State :=
  if !s.readyState n || s.missing n / 16 % 4 ≠ 0 then { s with alloc := { s.alloc with opened := setBit s.alloc.opened n true } } else s

/-- The OIU evaluates the conditions of R95: the close command is asserted only while every one holds. -/
def State.contact (s : State) (n : Nat) : State :=
  let s := s.put .OIU_CONTACT_MISSING n (s.missing n)
  let want := s.mayClose n
  let s := if want && !s.flag .OIU_CONTACT_CMD n then s.cmdRise n
    else if !want && s.flag .OIU_CONTACT_CMD n then (s.noteOpened n).cmdDrop n
    else s
  (s.trackC1 n).imdFollow n

/-- The firmware withdraws its grant from an outlet. -/
def State.withdraw (s : State) (n : Nat) : State :=
  if s.flag .OIU_CONTACT_CLOSE_EN n then (s.putFlag .OIU_CONTACT_CLOSE_EN n false).contact n else s

/-- Degraded service: the outlets that the failed units leave without service open (R31, R474). -/
def State.degrade (s : State) : State := s.each s.outlets fun s n => s.onlyIf (s.degraded n) fun s => s.withdraw n

/-- The OIU sets an outlet unavailable and holds CLOSE_EN at 0 (R516). -/
def State.setUnavail (s : State) (n : Nat) : State :=
  (s.putFlag .OIU_STATUS_UNAVAIL n true).putFlag .OIU_CONTACT_CLOSE_EN n false

/-- The effective limit in 0.1 A: the smallest of ILIM, IMAX, the cable rating and the temperature limit (R87). -/
def State.icode (s : State) (n : Nat) : Nat :=
  let imax := ((s.outl n).map (·.imax)).getD 0
  let r := s.rd .OIU_PPCS_RATING n
  let i := min (s.eff .OIU_CPDUTY_ILIM n) imax
  let i := if s.kind n = 0 ∧ r ≠ 0 then min i (10 * r) else i
  match (s.oiu n).tempLimit with
  | some t => min i t
  | none => i

/-- The duty in 0.1 % that codes a current in 0.1 A, from 6.0 A on (R86). -/
def dutyOf (i : Nat) : Nat :=
  if i ≤ 510 then i * 10 / 6
  else if i < 528 then 850
  else min i 800 * 10 / 25 + 640

/-- What bounds the current of an outlet apart from the allocator's own limit, in 0.1 A (R87, R212). DEDUCED (log entry 75): the cap by ICODE leaves out
ILIM, which the allocator writes itself; with it no grant could ever rise (R216). -/
def State.hardIcode (s : State) (n : Nat) : Nat :=
  let i := ((s.outl n).map (·.imax)).getD 0
  let r := s.rd .OIU_PPCS_RATING n
  let i := if s.kind n = 0 ∧ r ≠ 0 then min i (10 * r) else i
  match (s.oiu n).tempLimit with
  | some t => min i t
  | none => i

/-- ICODE as the VCE has it for the V2G messages (R88, R99). DEDUCED (log entry 75): on a DC outlet, for which the allocator writes no ILIM (R217), it
is the smallest of the other terms. -/
def State.vceIcode (s : State) (n : Nat) : Nat := if s.kind n < 2 then s.icode n else s.hardIcode n

/-- OIU_CPSTATE shows ICODE, and with DMODE 0b01 the VCE has it (R87, R88). -/
def State.showIcode (s : State) (n : Nat) : State :=
  let s := s.put .OIU_CPSTATE_ICODE n (s.icode n)
  s.onlyIf (s.eff .OIU_CPCTL_DMODE n == 1) fun s =>
    { s with vces := update {} s.vces n { lookup {} s.vces n with icode := s.vceIcode n } }

/-- The duty that the generator runs in PWM, none where the current-coded pause holds a steady +12 V (R87, R88); the pilot of a pantograph
outlet runs at 5 % (R101). -/
def State.pwmDuty (s : State) (n : Nat) : Option Nat :=
  if s.kind n = 4 then some 50
  else match s.eff .OIU_CPCTL_DMODE n with
  | 1 => some 50
  | 2 => some (clamp 30 970 (s.eff .OIU_CPDUTY_DUTY n))
  | _ => if s.icode n < 60 then none else some (dutyOf (s.icode n))

/-- A coil of the cable lock is driven, or none; its PSW channel follows (R93). -/
def State.driveCoil (s : State) (n : Nat) (c : Coil) : State :=
  let s := s.setOiu n { s.oiu n with coil := c, lkPulse := none }
  match s.outl n with
  | some o => if o.lockCh < 31 then (s.swRefresh o.lockCh).swRefresh (o.lockCh + 1) else s
  | none => s

/-- Whether the outlet has a lock: an AC socket whose record names a LOCKCH. -/
def State.hasLock (s : State) (n : Nat) : Bool :=
  match s.outl n with
  | some o => o.kind == 0 && o.lockCh < 31
  | none => false

/-- An attempt of the lock (LSTATE 1) or unlock (LSTATE 3) sequence starts (R93). -/
def State.lockAttempt (s : State) (n tries : Nat) (lock : Bool) : State :=
  let s := (s.put .OIU_LOCK_TRIES n tries).put .OIU_LOCK_LSTATE n (if lock then 1 else 3)
  let s := s.setOiu n { s.oiu n with lkConf := none, lkRetry := none, unlockDue := false, lockDue := false }
  (s.driveCoil n (if lock then .lock else .unlock)).contact n

/-- PP becomes valid, or the firmware writes LOCK while PP is valid (R93): the sequence starts with its first attempt. DESIGN CHOICE (log entry 33):
while a lock pulse runs the sequence is under way already, and while an unlock pulse runs the lock waits for its end. -/
def State.startLock (s : State) (n : Nat) : State :=
  if !(s.hasLock n && ppValidCode (s.rd .OIU_PPCS_CODE n)) then s
  else match (s.oiu n).coil with
    | .off => s.lockAttempt n 1 true
    | .lock => s
    | .unlock => s.setOiu n { s.oiu n with lockDue := true, unlockDue := false }

/-- The contactor command is off and CFBnn reads open (R94); after a command CFBnn is known when WELDT has run out. -/
def State.contactorOpen (s : State) (n : Nat) : Bool :=
  !s.flag .OIU_CONTACT_CMD n && !s.flag .OIU_CONTACT_CFB n && (s.oiu n).weldt.isNone

/-- The unlock sequence starts when the contactor is open and no pulse runs; otherwise it waits (R85, R94). -/
def State.startUnlock (s : State) (n : Nat) : State :=
  if !s.hasLock n then s
  else if !s.contactorOpen n || (s.oiu n).coil != .off then s.setOiu n { s.oiu n with unlockDue := true, lockDue := false }
  else s.lockAttempt n 1 false

/-- A fault sets GEN to state F: the F hold of 3.0 s starts with the generation of F, at once where F is being generated already (R83, R84,
R96). -/
def State.faultF (s : State) (n : Nat) : State :=
  let s := s.put .OIU_CPCTL_GEN n 2
  s.setOiu n (if s.gen n = 2 then { s.oiu n with fHold := some (s.now + msec 3000) } else { s.oiu n with fault := true })

/-- The F of a trip acts through the Guy hold latches too (R194, R470). -/
def State.tripPilot (s : State) (n : Nat) : State :=
  let s := s.faultF n
  s.setOiu n { s.oiu n with tripF := (s.oiu n).fault }

/-- A GEN write of this pilot period has not taken effect yet: it stands beside the state action (R85). -/
def State.genPending (s : State) (n : Nat) : Bool :=
  s.rd .OIU_CPCTL_GEN n != s.eff .OIU_CPCTL_GEN n && decide ((s.oiu n).lastPeriod.getD 0 < lookup 0 s.fab.writtenAt (regKey .OIU_CPCTL_GEN n))

/-- A confirmed change of the state letter: STATE, STCHG and event 0x1001 (R79, R82). -/
def State.reportState (s : State) (n code : Nat) : State :=
  let s := (s.put .OIU_CPSTATE_STATE n code).put .OIU_CPSTATE_PEND n code
  let s := s.setOiu n { s.oiu n with runLen := 0, fresh := false }
  (s.count .OIU_COUNT_STCHG n).raise2 0x1001 n code

/-- The contactor follows a confirmed change; a command that the change drops is reported by event 0x1002 (R83, R105). -/
def State.contactByPilot (s : State) (n code : Nat) : State :=
  let was := s.flag .OIU_CONTACT_CMD n
  let s := s.contact n
  s.onlyIf (was && !s.flag .OIU_CONTACT_CMD n) fun s => s.raise2 0x1002 n code

/-- The OIU's own action on a confirmed state (the table of R83). -/
def State.confirm (s : State) (n : Nat) (l : Letter) : State :=
  let code := stateCode l (s.pwm n)
  let old := letterCode (s.cpState n)
  let s := s.reportState n code
  match l with
  | .a =>
    let s := (s.putFlag .OIU_STATUS_UNAVAIL n false).onlyIf (!s.genPending n && !(s.oiu n).fault) fun s => s.put .OIU_CPCTL_GEN n 0
    let s := (s.setOiu n { s.oiu n with fellBack := false, fallbackT := none, leftPwm := false, shutDown := false }).newSession n
    (s.contactByPilot n code).startUnlock n
  | .d =>
    let s := s.contactByPilot n code
    s.onlyIf (!s.ctl .OIU_CPCTL_DALLOW n && (old == 1 || old == 2)) fun s => s.raise2 0x100C n 0
  | .e | .diode | .invalid =>
    let s := (s.setUnavail n).faultF n
    let s := s.onlyIf (l == .diode) fun s => s.put .OIU_STATUS_DIODE n 1
    (s.contactByPilot n code).raise2 0x1003 n code
  | .b | .c => s.contactByPilot n code

/-- The letter of a VHI value on an outlet: on a megawatt outlet D counts as Invalid (R100). -/
def State.letterOf (s : State) (n : Nat) (vhi : Int) : Letter :=
  if s.kind n = 3 ∧ bandOf vhi = .d then .invalid else bandOf vhi

/-- No state is measured while F or E is generated (R83); a valid letter is not confirmed while the low level holds the diode
fault or the E class. -/
def State.measures (s : State) (n : Nat) : Bool :=
  s.gen n < 2 && !(s.pwm n && (s.oiu n).low == .fault) && !(s.pwm n && (s.oiu n).low == .zero)

/-- A letter agrees with the confirmed state (the digit apart). -/
def State.isConfirmed (s : State) (n : Nat) (l : Letter) : Bool :=
  !(s.oiu n).fresh && letterCode (stateCode l (s.pwm n)) == letterCode (s.cpState n)

/-- The length of the window before a sample in ns: 20 µs, 10 µs in Sprint (R77). -/
def State.sampleWindow (s : State) : Nat := if (s.plan.map (·.head.profile)) = some 1 then 10000 else 20000

/-- The time between two samples of a pilot in ns: 40 kS/s, 80 kS/s in Sprint (R39). -/
def State.samplePeriod (s : State) : Nat := if (s.plan.map (·.head.profile)) = some 1 then 12500 else 25000

/-- The duty under whose rule a sample is taken: the one before the boundary that the sample's window reaches back across, where the mode
changed at it (R77). -/
def State.sampleDuty (s : State) (n : Nat) : Nat :=
  match (s.oiu n).modeAt with
  | some t => if s.now < t + s.sampleWindow then (s.oiu n).oldDuty else s.rd .OIU_CPSTATE_DUTYOUT n
  | none => s.rd .OIU_CPSTATE_DUTYOUT n

/-- The end of the pilot period of the most recent complete high phase, where the duty is `duty` in 0.1 % of 1 ms (R77). -/
def State.highPhase (s : State) (n duty : Nat) : Nat :=
  let t := (s.oiu n).lastPeriod.getD 0
  if s.now < t + usec duty then t else t + msec 1

/-- VHI of a sample: with a high phase shorter than 50 µs a new value is taken only when the settled windows of two consecutive high phases
fall in the same band (R77, R81). -/
def State.takeVhi (s : State) (n : Nat) (vhi : Int) : State :=
  let duty := s.sampleDuty n
  if 0 < duty ∧ duty < 50 then
    let p := s.highPhase n duty
    match (s.oiu n).shortWin with
    | some (w, q) =>
      if p = q then s
      else (s.setOiu n { s.oiu n with shortWin := some (vhi, p) }).onlyIf (p == q + msec 1 && bandOf w == bandOf vhi) fun s =>
        s.put .OIU_CPMEAS_VHI n (toTwos 16 vhi)
    | none => s.setOiu n { s.oiu n with shortWin := some (vhi, p) }
  else s.put .OIU_CPMEAS_VHI n (toTwos 16 vhi)

/-- A run of agreeing samples goes on, starts or breaks; a broken run counts in REJECT (R79). Letters are compared, the digit apart. -/
def State.runStep (s : State) (n : Nat) (l : Letter) : State :=
  let code := stateCode l (s.pwm n)
  let run := (s.oiu n).runLen
  if s.isConfirmed n l then
    if run = 0 then s
    else ((s.setOiu n { s.oiu n with runLen := 0 }).put .OIU_CPSTATE_PEND n (s.cpState n)).count .OIU_COUNT_REJECT n
  else if 0 < run ∧ letterCode (s.rd .OIU_CPSTATE_PEND n) = letterCode code then s.setOiu n { s.oiu n with runLen := run + 1 }
  else
    let s := s.onlyIf (decide (0 < run)) fun s => s.count .OIU_COUNT_REJECT n
    (s.setOiu n { s.oiu n with runLen := 1 }).put .OIU_CPSTATE_PEND n code

/-- A low-level class is confirmed (R79): a diode fault or E acts by R83. -/
def State.confirmLow (s : State) (n : Nat) (c : LowClass) : State :=
  let s := s.setOiu n { s.oiu n with low := c, lowPend := c, lowRun := 0 }
  match c with
  | .fault => if s.isConfirmed n .diode then s else s.confirm n .diode
  | .zero => if s.isConfirmed n .e then s else s.confirm n .e
  | .present | .none => s

/-- A valid VLO value of a sample; five agreeing values confirm a new class, and a run that breaks before counts in REJECT (R79). No VLO is
evaluated on a megawatt outlet (R100). -/
def State.takeVlo (s : State) (n : Nat) (vlo : Int) : State :=
  if s.kind n == 3 then s
  else
    let c := lowClassOf vlo
    let o := s.oiu n
    let s := (s.put .OIU_CPMEAS_VLO n (toTwos 16 vlo)).onlyIf (decide (0 < o.lowRun) && c != o.lowPend) fun s => s.count .OIU_COUNT_REJECT n
    if c = o.low then s.setOiu n { o with lowPend := c, lowRun := 0 }
    else
      let run := if c = o.lowPend then o.lowRun + 1 else 1
      let s := s.setOiu n { o with lowPend := c, lowRun := run }
      if run = 5 then s.confirmLow n c else s

/-- VLO of a sample (R77): no VLO is valid in a steady mode; an invalid one is skipped (R79). -/
def State.takeLow (s : State) (n : Nat) (vlo : Option Int) : State :=
  if s.sampleDuty n = 0 then s.put .OIU_CPMEAS_VLO n 0x8000
  else match vlo with
    | some v => s.takeVlo n v
    | none => s

/-- The limit by temperature in 0.1 A at T in 0.1 °C (R97). -/
def tempLimitOf (o : OutlRec) (t : Int) : Nat :=
  if t < 10 * o.tDerate then o.imax
  else if t < 10 * o.tCut then (o.imax * (10 * o.tCut - t).toNat) / (10 * (o.tCut - o.tDerate)) else 0

/-- The written values of an outlet take effect (R14, R75, R102). -/
def State.applyPilot (s : State) (n : Nat) : State :=
  [Fld.OIU_CPCTL_GEN, .OIU_CPCTL_DMODE, .OIU_CPDUTY_DUTY, .OIU_CPDUTY_ILIM, .OIU_CPCTL_DALLOW, .OIU_CPCTL_CSEN].foldl (fun s f => s.apply f n) s

/-- The grid instant of an outlet's pilot period: written values take effect outside a Guy hold (R14, R75, R102), a fault's F as well, a trip's
F in a hold too (R84, R194, R470). Before the crystal is proven and without a plan the output stays at a steady +12 V (R76, R59). A shut-down
outlet is at a steady +12 V until TAKE (R103, R469), unless a trip has put it in F. In Ember no PWM runs, and the outlet that ended Ember keeps its steady +9 V until the allocator's first cycle is complete (R40, R41, R198). -/
def State.latchPilot (s : State) (n : Nat) : State :=
  let hold := s.flag .BCU_STATUS_GHOLD 0
  let s := s.onlyIf (!hold) fun s => s.applyPilot n
  let s := s.onlyIf ((s.oiu n).fHold.isSome || (s.oiu n).tripF || ((s.oiu n).fault && !hold)) fun s => s.putEff .OIU_CPCTL_GEN n 2
  s.onlyIf (((s.oiu n).shutPilot && decide (s.gen n < 2)) || ((s.bcu.ember || s.bcu.wake == some n) && s.gen n == 1) || !s.flag .CGU_STATUS_XTOK 0 || s.plan.isNone) fun s => s.putEff .OIU_CPCTL_GEN n 0

/-- The digit of a state code follows the generator (R82). -/
def withDigit (code : Nat) (pwm : Bool) : Nat := if code < 8 then code / 2 * 2 + b2n pwm else code

/-- The digit of the confirmed and of the candidate state follow the generator without event (R82). VLO is valid only while PWM runs (R77); its class
and the run towards a new one stay, since invalid values are skipped (R79). -/
def State.setDigit (s : State) (n : Nat) : State :=
  let s := s.put .OIU_CPSTATE_STATE n (withDigit (s.cpState n) (s.pwm n))
  let s := s.put .OIU_CPSTATE_PEND n (withDigit (s.rd .OIU_CPSTATE_PEND n) (s.pwm n))
  s.onlyIf (!s.pwm n) fun s =>
    (s.put .OIU_CPMEAS_VLO n 0x8000).setOiu n { s.oiu n with shortWin := none }

/-- The generator changes between steady output and PWM, or does not: what the rules of R77 and R84 ask of the change. `was` is the duty
before the boundary. -/
def State.modeChange (s : State) (n was : Nat) : State :=
  if (was != 0) == s.pwm n then s
  else s.setOiu n { s.oiu n with modeAt := some s.now, oldDuty := was, leftPwm := !s.pwm n }

/-- The start of F or E generation is a confirmed change (R82, R83); a fault's F is held for 3.0 s (R84). -/
def State.startGenerated (s : State) (n : Nat) : State :=
  let code := if s.gen n = 2 then 9 else 8
  let s := s.onlyIf (s.gen n == 2 && ((s.oiu n).fault || (s.oiu n).tripF)) fun s =>
    s.setOiu n { s.oiu n with fHold := some (s.now + msec 3000), fault := false, tripF := false }
  (s.reportState n code).contactByPilot n code

/-- A pilot period boundary (R75): latched GEN, DMODE, duty and limit take effect, and F or E generation may start. -/
def State.pilotPeriod (s : State) (n : Nat) : State :=
  let s := s.moveTo (gridAfter (msec 1) s.now (s.oiu n).lastPeriod)
  let s := s.setOiu n { s.oiu n with lastPeriod := some s.now }
  let old := s.gen n
  let was := s.rd .OIU_CPSTATE_DUTYOUT n
  let ready := (s.readyState n, s.ppUsed n)
  let s := s.latchPilot n
  let s := s.showIcode n
  let duty := if s.gen n = 1 ∧ s.kind n ≠ 3 then s.pwmDuty n else none
  let s := s.setOiu n { s.oiu n with paused := s.gen n == 1 && duty.isNone }
  let s := s.put .OIU_CPSTATE_DUTYOUT n (duty.getD 0)
  let s := s.onlyIf (decide (2 ≤ old ∧ s.gen n < 2)) fun s =>
    s.setOiu n { s.oiu n with fresh := true, runLen := 0, low := .none, lowPend := .none, lowRun := 0 }
  let s := ((s.setDigit n).modeChange n was).trackC1 n
  let s := s.onlyIf (decide ((s.readyState n, s.ppUsed n) ≠ ready)) fun s => s.contact n
  if 2 ≤ s.gen n ∧ s.gen n ≠ old then s.startGenerated n else s

/-- LOCK (R93): a write of 1 to LOCK, or PP becoming valid. -/
def execLock (n : Fin 24) (s : State) : Out := .next (s.startLock n)

/-- A write of 1 to UNLOCK: it starts the sequence when R94 allows, and has no effect otherwise. DESIGN CHOICE (log entry 33): 'at the end of a
session' asks that no session is open on the outlet. -/
def State.writeUnlock (s : State) (n : Nat) : State :=
  if !s.contactorOpen n || s.session n then s else s.startUnlock n

/-- UNLOCK (R94). -/
def execUnlock (n : Fin 24) (s : State) : Out := .next (s.writeUnlock n)

/-- LKPULSE_END (R84, R93): the coil is switched off; a sequence that waited for the pulse starts (R85). -/
def execLkpulseEnd (n : Fin 24) (s : State) : Out :=
  match (s.oiu n).lkPulse with
  | none => .next s
  | some t =>
    let s := (s.moveTo t).driveCoil n .off
    .next (if (s.oiu n).unlockDue then s.startUnlock n else if (s.oiu n).lockDue then s.startLock n else s)

/-- LOCK_FEEDBACK_CONFIRMED (R93): LKFBnn has read the same for 20 ms, which confirms the lock or the unlock under way while LKCONF runs. -/
def execLockFeedbackConfirmed (n : Fin 24) (closed : Bool) (s : State) : Out :=
  let s := s.putFlag .OIU_LOCK_LKFB n closed
  let st := s.rd .OIU_LOCK_LSTATE n
  if (s.oiu n).lkConf.isSome && ((st == 1 && closed) || (st == 3 && !closed)) then
    let s := (s.put .OIU_LOCK_LSTATE n (if closed then 2 else 0)).setOiu n { s.oiu n with lkConf := none, lkRetry := none }
    .next (s.contact n)
  else .next s

/-- LKCONF_EXPIRY (R93, R94): a retry after 1,000 ms, or after the third attempt a lock or unlock fault. -/
def execLkconfExpiry (n : Fin 24) (s : State) : Out :=
  match (s.oiu n).lkConf with
  | none => .next s
  | some t =>
    let s := s.moveTo t
    let tries := s.rd .OIU_LOCK_TRIES n
    let locking := s.rd .OIU_LOCK_LSTATE n == 1
    if tries < 3 then .next (s.setOiu n { s.oiu n with lkConf := none, lkRetry := some (t + msec 1000) })
    else
      let s := s.setOiu n { s.oiu n with lkConf := none, unlockFault := (s.oiu n).unlockFault || !locking }
      let s := (s.put .OIU_STATUS_LOCKF n 1).put .OIU_LOCK_LSTATE n (if locking then 0 else 2)
      let s := (s.raise2 (if locking then 0x1005 else 0x1006) n tries).contact n
      .next (if locking then s else s.withdraw n)

/-- LOCK_RETRY (R93): the sequence repeats. -/
def execLockRetry (n : Fin 24) (s : State) : Out :=
  match (s.oiu n).lkRetry with
  | none => .next s
  | some t =>
    let s := s.moveTo t
    .next (s.lockAttempt n (s.rd .OIU_LOCK_TRIES n + 1) (s.rd .OIU_LOCK_LSTATE n == 1))

/-- LOCK_FEEDBACK_OPEN (R94): LKFBnn opens for 20 ms in a session; the lock condition goes false. -/
def execLockFeedbackOpen (n : Fin 24) (s : State) : Out :=
  let s := s.putFlag .OIU_LOCK_LKFB n false
  if s.session n && s.rd .OIU_LOCK_LSTATE n == 2 then .next ((s.put .OIU_LOCK_LSTATE n 0).contact n) else .next s

/-- An outlet on which a write of 1 to CLOSE_EN has no effect: UNAVAIL is 1 (R516), an unlock has failed (R94), a unit has failed that its service
needs (R474), Ember detects only (R39), or it takes no new session and has none (R37, R62). -/
def State.staysOpen (s : State) (n : Nat) : Bool :=
  s.flag .OIU_STATUS_UNAVAIL n || (s.oiu n).unlockFault || s.degraded n || s.bcu.ember || (s.refuses n && !s.session n)

/-- A write of CLOSE_EN (R95). -/
def State.writeCloseEn (s : State) (n : Nat) (en : Bool) : State :=
  if en && s.staysOpen n then s else (s.putFlag .OIU_CONTACT_CLOSE_EN n en).contact n

/-- CLOSE_EN (R95). -/
def execCloseEn (n : Fin 24) (en : Bool) (s : State) : Out := .next (s.writeCloseEn n en)

/-- WELDT_EXPIRY (R96): CFBnn is read WELDT after the command dropped; closed is a weld fault, open lets a waiting unlock start. -/
def execWeldtExpiry (n : Fin 24) (closed : Bool) (s : State) : Out :=
  match (s.oiu n).weldt with
  | none => .next s
  | some t =>
    let s := ((s.moveTo t).setOiu n { s.oiu n with weldt := none }).putFlag .OIU_CONTACT_CFB n closed
    if closed then
      .next ((((s.put .OIU_STATUS_WELD n 1).raise2 0x100A n 0).faultF n).contact n)
    else .next (if (s.oiu n).unlockDue then s.startUnlock n else s)

/-- CLOSE_FEEDBACK_TIMEOUT (R96): CFBnn is read 250 ms after the command rose; not closed drops the command. -/
def execCloseFeedbackTimeout (n : Fin 24) (closed : Bool) (s : State) : Out :=
  match (s.oiu n).closeT with
  | none => .next s
  | some t =>
    let s := ((s.moveTo t).setOiu n { s.oiu n with closeT := none }).putFlag .OIU_CONTACT_CFB n closed
    if closed then .next s else .next (((s.setUnavail n).contact n).raise2 0x100E n 0)

/-- C1MAX_EXPIRY (R84): the OIU clears CLOSE_EN and opens, with event 0x100B. -/
def execC1maxExpiry (n : Fin 24) (s : State) : Out :=
  match (s.oiu n).c1max with
  | none => .next s
  | some t =>
    let s := (s.moveTo t).setOiu n { s.oiu n with c1max := none }
    .next (((s.putFlag .OIU_CONTACT_CLOSE_EN n false).contact n).raise2 0x100B n 0)

/-- F_HOLD_EXPIRY (R84): from here on the firmware's GEN takes effect at the next boundary. -/
def execFHoldExpiry (n : Fin 24) (s : State) : Out :=
  match (s.oiu n).fHold with
  | none => .next s
  | some t => .next ((s.moveTo t).setOiu n { s.oiu n with fHold := none })

/-- A write of 1 to WELD or LOCKF clears the latched fault (R94, R96). -/
def State.clearOiuFaults (s : State) (n : Nat) (weld lockf : Bool) : State :=
  let s := s.onlyIf weld fun s => s.put .OIU_STATUS_WELD n 0
  (s.onlyIf lockf fun s => (s.put .OIU_STATUS_LOCKF n 0).setOiu n { s.oiu n with unlockFault := false }).contact n

/-- OIU_FAULT_CLEAR (R96). -/
def execOiuFaultClear (n : Fin 24) (weld lockf : Bool) (s : State) : Out := .next (s.clearOiuFaults n weld lockf)

/-- A sensor average outside −40 °C to 200 °C is a sensor fault (R98). -/
def sensorFault (t : Int) : Bool := t < -400 || 2000 < t

/-- The sensor faults and disagreements of an evaluation, reported when they begin (R98). -/
def State.sensorEvents (s : State) (n : Nat) (ta tb : Int) : State :=
  let fa := sensorFault ta
  let fb := sensorFault tb
  let dis := !fa && !fb && decide (150 < ta - tb ∨ 150 < tb - ta)
  let o := s.oiu n
  let s := (s.put .OIU_TEMP_TSA n (if fa then 0x8000 else toTwos 16 ta)).put .OIU_TEMP_TSB n (if fb then 0x8000 else toTwos 16 tb)
  let s := s.onlyIf (fa || fb) fun s => s.put .OIU_STATUS_TEMPF n 1
  let s := s.onlyIf (fa && !o.tsaFault) fun s => s.raise2 0x1009 n 0
  let s := s.onlyIf (fb && !o.tsbFault) fun s => s.raise2 0x1009 n 1
  let s := s.onlyIf (dis && !o.disagree) fun s => s.raise2 0x1009 n 2
  s.setOiu n { s.oiu n with tsaFault := fa, tsbFault := fb, disagree := dis }

/-- TEMPERATURE_EVALUATION (R97, R98): T is the higher average in 0.1 °C, a faulty sensor counts as above TCUT. -/
def execTemperatureEvaluation (n : Fin 24) (ta tb : Int) (s : State) : Out :=
  match s.outl n with
  | none => .next s
  | some o =>
    let s := s.sensorEvents n ta tb
    let above : Int := 10 * o.tCut + 1
    let va := if sensorFault ta then above else ta
    let vb := if sensorFault tb then above else tb
    let t := max va vb
    let lim := tempLimitOf o t
    let wasCut := s.flag .OIU_STATUS_CUT n
    let cut := decide ((10 * o.tCut : Int) ≤ t) || (wasCut && decide ((10 * o.tCut : Int) - 50 ≤ t))
    let derate := decide (lim < o.imax)
    let s := s.onlyIf (derate != s.flag .OIU_STATUS_DERATE n) fun s => s.raise2 0x1007 n (b2n derate)
    let s := (s.putFlag .OIU_STATUS_DERATE n derate).putFlag .OIU_STATUS_CUT n cut
    let s := s.setOiu n { s.oiu n with
      tempLimit := some lim
      cutT := if cut then (if wasCut then (s.oiu n).cutT else if s.flag .OIU_CONTACT_CMD n then some (s.now + msec 2000) else none) else none }
    let s := s.onlyIf (cut && !wasCut) fun s => s.raise2 0x1008 n (t / 10).toNat
    .next ((s.showIcode n).contact n)

/-- TEMPERATURE_CUT_OPEN (R98): the cut has been active for 2 s with the contactor closed. -/
def execTemperatureCutOpen (n : Fin 24) (s : State) : Out :=
  match (s.oiu n).cutT with
  | none => .next s
  | some t => .next (((s.moveTo t).setOiu n { s.oiu n with cutT := none }).contact n)

/-- ZREQ_SHUTDOWN_RELEASE (R103): the outlet current is below 2 A, or 50 ms have passed, and the close command drops; the contactor
stays open until the firmware grants it again (R470). The coil channels that this turns off raise event 0x160A (R241). -/
def execZreqShutdownRelease (n : Fin 24) (s : State) : Out :=
  match (s.oiu n).shutT with
  | none => .next s
  | some _ =>
    let on := (s.contactorChannels n).filter s.chOn
    let s := ((s.setOiu n { s.oiu n with shutT := none }).putFlag .OIU_CONTACT_CLOSE_EN n false).contact n
    .next (s.each (on.filter fun c => !s.chOn c) fun s c => s.raise2 0x160A c 1)

/-- Step 1 to 4 of R103 at the expiry of a Guy hold for an outlet with a contactor command active. -/
def State.guyShutdown (s : State) (n : Nat) : State :=
  let s := (s.putFlag .OIU_CONTACT_ZREQ n true).setOiu n { s.oiu n with shutDown := true, shutPilot := true, shutT := some (s.now + msec 50) }
  s.raise2 0x100D n 0

/-- The step from 5 % duty to current-coded PWM, once per plug-in, on an AC outlet that allows basic PWM and high-level communication:
a steady +12 V for 3.0 s (R88). -/
def State.hlcFallback (s : State) (n : Nat) : State :=
  match s.outl n with
  | none => s
  | some o =>
    if o.kind < 2 ∧ bit o.proto 0 = true ∧ 2 ≤ o.proto % 16 ∧ (s.oiu n).fellBack = false ∧ s.gen n < 2 ∧ s.rd .OIU_CPCTL_GEN n < 2 then
      (s.put .OIU_CPCTL_GEN n 0).setOiu n { s.oiu n with fellBack := true, fallbackT := some (s.now + msec 3000) }
    else s

/-- HLC_FALLBACK (R88). -/
def execHlcFallback (n : Fin 24) (s : State) : Out := .next (s.hlcFallback n)

/-- FALLBACK_PWM_RESUME (R88): PWM resumes in current-coded mode; F and E are left through a command of the firmware alone (R84). -/
def execFallbackPwmResume (n : Fin 24) (s : State) : Out :=
  match (s.oiu n).fallbackT with
  | none => .next s
  | some t =>
    let s := ((s.moveTo t).setOiu n { s.oiu n with fallbackT := none }).put .OIU_CPCTL_DMODE n 0
    .next (if s.rd .OIU_CPCTL_GEN n < 2 then s.put .OIU_CPCTL_GEN n 1 else s)

/-- An OIU is idle while its outlet is in A1 or F, the contactor command is off and the lock is unlocked. -/
def State.oiuIdle (s : State) (n : Nat) : Bool :=
  (s.cpState n == 0 || s.cpState n == 9) && !s.flag .OIU_CONTACT_CMD n && s.rd .OIU_LOCK_LSTATE n == 0

/-- A unit reset of an OIU: the close command drops, the pilot goes to a steady +12 V, and the OIU is back in A1 (R471). -/
def State.oiuReset (s : State) (n : Nat) : State :=
  let s := s.onlyIf (s.flag .OIU_CONTACT_CMD n) fun s => s.cmdDrop n
  let s := (s.clearUnit .oiu (· == n) []).setOiu n {}
  s.route n

/-- The code of a PP resistance in Ω (R90). -/
def ppCode (ohm : Nat) : Nat :=
  if ohm < 60 then 1 else if ohm < 150 then 2 else if ohm < 400 then 3 else if ohm < 1000 then 4
  else if ohm < 2700 then 5 else if ohm ≤ 10000 then 6 else 0

/-- The cable rating in A of a PP band (R90). -/
def ppRating (code phases : Nat) : Nat :=
  if code = 2 then (if phases = 1 then 70 else 63) else if code = 3 then 32 else if code = 4 then 20 else if code = 5 then 13 else 0

/-- The code of a CS resistance in Ω (R91). -/
def csCode (ohm : Nat) : Nat :=
  if ohm < 60 then 1 else if ohm < 400 then 7 else if ohm < 2000 then 8 else if ohm ≤ 10000 then 6 else 0

/-- A confirmed coding band (R89 to R92): the rating, PPF, the loss of a valid band, and the start of the lock. -/
def State.confirmBand (s : State) (n ohm : Nat) : State :=
  let s := s.put .OIU_PPCS_RES n (min ohm 0xFFFF)
  if !s.ppUsed n then s
  else
    let pp := s.kind n == 0
    let old := s.rd .OIU_PPCS_CODE n
    let code := if pp then ppCode ohm else csCode ohm
    let s := (s.put .OIU_PPCS_CODE n code).put .OIU_PPCS_RATING n
      (if pp then ppRating code (((s.outl n).map (·.phases)).getD 3) else 0)
    let s := s.onlyIf (code == 1 || code == 6 || (!pp && code == 0)) fun s => s.put .OIU_STATUS_PPF n 1
    let left := ppValidCode old && code != old && (s.flag .OIU_CONTACT_CMD n || (pp && ppValidCode code && s.session n))
    let s := s.onlyIf left fun s => ((s.setUnavail n).contact n).raise2 0x1004 n code
    let s := s.onlyIf (pp && !ppValidCode old && ppValidCode code) fun s => s.startLock n
    (s.showIcode n).contact n

end Sys2Proof.Machine
end

