-- ==== Sys2Proof/Machine/Earth.lean ====
section
/-! DEFINITION. EFU, residual current and insulation monitoring (chapter 06). Residual currents are in µA, injected currents in pA,
resistances in Ω. -/

namespace Sys2Proof.Machine

open Sys2Proof

/-- The trip line of an outlet's contactor channels is asserted while a trip is latched, a self-test runs or a lockout asserts it. -/
def State.tripLine (s : State) (n : Nat) : Bool :=
  match s.outl n with
  | none => false
  | some o =>
    (o.rcm < 24 && (s.flag .EFU_RCMSTAT_TRIP o.rcm || s.rd .EFU_RCMSTAT_TSTATE o.rcm == 1 || (s.rcm o.rcm).lineHeld)) ||
    (o.imd < 12 && (s.imd o.imd).lineHeld) || bit s.imdTrip n

/-- The trip line and MISSING[13] of an outlet follow the EFU's state (R178, R180). -/
def State.efuAct (s : State) (n : Nat) : State :=
  let line := s.tripLine n
  (s.each (s.contactorChannels n) fun s c => s.swTripLine c line).contact n

/-- What every trip does to its outlet: the trip line, MISSING[13], ZREQnn_N low, and state F at the next pilot period (R178). -/
def State.tripOutlet (s : State) (n : Nat) : State :=
  ((s.putFlag .OIU_CONTACT_ZREQ n true).tripPilot n).efuAct n

/-- The thresholds of bands 1 to 6 in µA, whether the band compares the DC value, and the dwells in samples (R176). -/
def bands : List (Nat × Bool × Nat) :=
  [(5520, true, 40000), (55200, true, 1000), (184000, true, 250), (27600, false, 1000), (55200, false, 500), (138000, false, 50)]

/-- A dwell timer after a sample: it runs at or above the threshold, holds from 90 % of it, and resets below (R177). -/
def dwellStep (thr value timer : Nat) : Nat :=
  if thr ≤ value then timer + 1 else if thr * 9 ≤ value * 10 then timer else 0

/-- A sample in µA from sense counts through the scale (16.16 counts per mA), saturated at ±424 mA (R175). -/
def sampleMicroamp (scale : Nat) (counts : Int) : Int :=
  if scale = 0 then 0 else max (-424000) (min 424000 (counts * 1000 * 65536 / scale))

/-- The DC value: the mean over 100 samples (R175). -/
def dcOf (w : List Int) : Int := w.sum / 100

/-- The AC value: the RMS of the samples minus the DC value over 100 samples (R175). -/
def acOf (w : List Int) : Nat :=
  let dc := dcOf w
  let zeros := 100 - w.length
  Nat.sqrt (((w.map fun x => ((x - dc) * (x - dc)).toNat).sum + zeros * (dc * dc).toNat) / 100)

/-- The channel's values lie below 3.0 mA DC and 15 mA AC (R179). -/
def State.rcmQuiet (s : State) (c : Nat) : Bool := (dcOf (s.rcm c).window).natAbs < 3000 && acOf (s.rcm c).window < 15000

/-- A residual-current channel is idle: its outlet's contactor command is off and no self-test runs. -/
def State.rcmIdle (s : State) (c : Nat) : Bool :=
  s.rd .EFU_RCMSTAT_TSTATE c != 1 && ((s.rcmOutlet c).map fun n => !s.flag .OIU_CONTACT_CMD n).getD true

/-- A residual-current self-test starts: the trip line toward the open contactor, MISSING[13] (R181). It needs the command off. -/
def State.startRcmTest (s : State) (c : Nat) (clearing : Bool) : State :=
  match s.rcmOutlet c with
  | none => s
  | some n =>
    if s.flag .OIU_CONTACT_CMD n || s.rd .EFU_RCMSTAT_TSTATE c == 1 then s
    else
      let r := s.rcm c
      let s := s.setRcm c { r with
        clearing := clearing || r.first, first := false, baseFails := 0, retryAt := none
        testN := 0, testRun := 0, testSeen := false, testDc := 0, testFail := 0, testTrip := false }
      (s.put .EFU_RCMSTAT_TSTATE c 1).efuAct n

/-- A residual-current channel enters lockout (R180). -/
def State.rcmLockout (s : State) (c : Nat) : State :=
  let on := ((s.rcmOutlet c).map fun n => s.flag .OIU_CONTACT_CMD n).getD false
  let s := (s.put .EFU_STATUS_LOCK 0 1).putFlag .EFU_RCMSTAT_LOCKOUT c true
  let s := s.setRcm c { s.rcm c with lineHeld := (s.rcm c).lineHeld || on }
  match s.rcmOutlet c with
  | some n => s.efuAct n
  | none => s

/-- A residual-current trip (R178): latched, with its band and event 0x1301. A decision during a self-test has no further effect than to fail the test's
baseline, but one in the slice in which TRIPCLR cleared the channel stands and counts as the next trip of the plug-in (R195). -/
def State.rcmTrip (s : State) (c band : Nat) : State :=
  match s.rcmOutlet c with
  | none => s
  | some n =>
    if s.flag .EFU_RCMSTAT_TRIP c then s
    else if s.rd .EFU_RCMSTAT_TSTATE c == 1 && (s.rcm c).clearedAt != some s.now then s.setRcm c { s.rcm c with testFail := 2, testTrip := true }
    else
      let s := s.onlyIf (s.rd .EFU_RCMSTAT_TSTATE c == 1) fun s => s.put .EFU_RCMSTAT_TSTATE c 0
      let s := ((s.putFlag .EFU_RCMSTAT_TRIP c true).put .EFU_RCMSTAT_BAND c band).put .EFU_STATUS_TRIP 0 1
      let s := (s.count .EFU_RCMCNT_TRIPS c).setRcm c { s.rcm c with
        tripAt := some s.now, plugTrips := (s.rcm c).plugTrips + 1, tripOn := s.flag .OIU_CONTACT_CMD n }
      (s.tripOutlet n).raise2 0x1301 c band

/-- A latched residual-current trip clears, with event 0x1302; the channel runs its self-test (R179). -/
def State.clearTrip (s : State) (c detail : Nat) : State :=
  let s := ((s.putFlag .EFU_RCMSTAT_TRIP c false).put .EFU_RCMSTAT_BAND c 0).setRcm c { s.rcm c with tripAt := none }
  let s := (s.raise2 0x1302 c detail).startRcmTest c false
  match s.rcmOutlet c with
  | some n => s.efuAct n
  | none => s

/-- State A is confirmed, or holds, on the outlet of a tripped channel whose values are low (R179). -/
def State.clearAtUnplug (s : State) (c : Nat) : State :=
  match s.rcmOutlet c with
  | none => s
  | some n =>
    if s.flag .EFU_RCMSTAT_TRIP c && decide (s.cpState n < 2) && s.rcmQuiet c then s.clearTrip c 0 else s

/-- The values and the dwell timers after one demodulated sample (R175, R177). -/
def State.takeSample (s : State) (c : Nat) (counts : Int) : State :=
  let r := s.rcm c
  let w := (sampleMicroamp (s.rd .EFU_RCMSCALE_SCALE c) counts :: r.window).take 100
  let dc := dcOf w
  let ac := acOf w
  let ts := (bands.zip r.timers).map fun b => dwellStep b.1.1 (if b.1.2.1 then dc.natAbs else ac) b.2
  let s := s.setRcm c { r with window := w, timers := ts }
  (s.put .EFU_RCMVAL_DC c (toTwos 16 (dc / 100))).put .EFU_RCMVAL_AC c (ac / 100)

/-- The timer of a band has reached its dwell (R177). -/
def State.dwellReached (s : State) (c b : Nat) : Bool :=
  match bands[b]?, (s.rcm c).timers[b]? with
  | some (_, _, dwell), some t => decide (dwell ≤ t)
  | _, _ => false

/-- The first band whose timer has reached its dwell (R177). -/
def State.dueBand (s : State) (c : Nat) : Option Nat := (List.range 6).find? (s.dwellReached c)

/-- The EFU trip readback of the PSW shows the trip line at every contactor channel of the outlet (R181). -/
def State.tripSeen (s : State) (c : Nat) : Bool :=
  match s.rcmOutlet c with
  | some n => (s.contactorChannels n).all fun k => bit (s.rd .PSW_TRIPRB_TRIP 0) k
  | none => false

/-- A self-test at its sample `n`, 200 µs each (R181): the limits of steps 2, 4, 6 and 8 at their ends, and the decisions of bands 1 and 4 after the test
dwell of 20 ms, seen in the readback by 80 ms and 140 ms. `dc` and `ac` in µA. -/
def Rcm.testStep (r : Rcm) (n dc ac : Nat) (seen : Bool) : Rcm :=
  let quiet := decide (dc < 3000) && decide (ac < 15000)
  let fail := fun (k : Nat) (ok : Bool) => if ok then 0 else k
  let run := if n ≤ 500 then dwellStep 5520 dc r.testRun else dwellStep 27600 ac r.testRun
  let dec := r.testSeen || (seen && decide (100 ≤ run ∧ n ≤ (if n ≤ 500 then 400 else 700)))
  if n < 200 then { r with testN := n }
  else if n = 200 then { r with testN := n, testRun := 0, testSeen := false, testFail := fail 2 quiet }
  else if n = 500 then { r with testN := n, testRun := 0, testSeen := false, testDc := dc, testFail := fail 4 (dec && decide (7000 ≤ dc ∧ dc ≤ 9000)) }
  else if n = 900 then { r with testN := n, testRun := 0, testSeen := false, testFail := fail 6 (dec && decide (35000 ≤ ac ∧ ac ≤ 45000)) }
  else if n = 1300 then { r with testN := n, testFail := fail 8 (quiet && decide (7200 ≤ r.testDc ∧ r.testDc ≤ 8800)) }
  else { r with testN := n, testRun := run, testSeen := dec }

/-- A sample enters the self-test under way (R181). -/
def State.testSample (s : State) (c : Nat) : State :=
  let r := s.rcm c
  if s.rd .EFU_RCMSTAT_TSTATE c ≠ 1 ∨ r.testFail ≠ 0 ∨ 1300 ≤ r.testN then s
  else s.setRcm c (r.testStep (r.testN + 1) (dcOf r.window).natAbs (acOf r.window) (s.tripSeen c))

/-- The daily self-test of a residual-current channel runs, and the next 24 h are counted from it (R181). -/
def State.rcmDaily (s : State) (c : Nat) : State :=
  (s.setRcm c { s.rcm c with dailyDue := false, dailyAt := s.ltime + dayTicks }).startRcmTest c false

/-- RCM_SLICE (R192): a channel that holds a slice demodulates, advances its timers and decides; a self-test uses the decision itself. -/
def execRcmSlice (c : Fin 24) (counts : Int) (s : State) : Out :=
  if (s.rcmOutlet c).isNone || s.failed 0x13 then .next s
  else
    let s := s.onlyIf ((s.rcm c).dailyDue && s.rcmIdle c) fun s => s.rcmDaily c
    let s := (s.takeSample c counts).testSample c
    let s := match s.dueBand c with
      | some b => s.rcmTrip c (b + 1)
      | none => s
    .next (s.clearAtUnplug c)

/-- RCM_TRIP (R178): the dwell timer of a band has reached its dwell. -/
def execRcmTrip (c : Fin 24) (band : Fin 6) (s : State) : Out :=
  .next (if s.dwellReached c band && !s.failed 0x13 then s.rcmTrip c (band + 1) else s)

/-- A write of 1 to TRIPCLR: only 10 s after the trip, with low values, for the first trip of the plug-in (R179). -/
def State.tripClear (s : State) (c : Nat) : State :=
  match s.rcmOutlet c, (s.rcm c).tripAt with
  | some _, some t => if t + msec 10000 ≤ s.now ∧ s.rcmQuiet c = true ∧ (s.rcm c).plugTrips = 1 then
      (s.setRcm c { s.rcm c with clearedAt := some s.now }).clearTrip c 1
    else s
  | _, _ => s

/-- TRIPCLR (R179). -/
def execTripclr (c : Fin 24) (s : State) : Out := .next (s.tripClear c)

/-- A discarded write to an Idle-only field of the EFU: CFGVIOL and event 0x130B with the register offset (R13, R195). -/
def State.efuViolation (s : State) (off : Nat) : State := (s.put .EFU_STATUS_CFGVIOL 0 1).raise 0x130B off

/-- A write of 1 to TEST (R181, R182, R191): no effect on an unnamed channel, discarded while the channel is not idle. -/
def State.writeTest (s : State) (imd : Bool) (c : Nat) : State :=
  if imd then
    if (s.imdOutlets c).isEmpty then s
    else if s.imdIdle c then s.startImdTest c false else s.efuViolation (0x2000 + 0x20 * c + 0xC)
  else if (s.rcmOutlet c).isNone then s
  else if s.rcmIdle c then s.startRcmTest c false else s.efuViolation (0x1000 + 0x20 * c + 0x8)

/-- TEST (R181). -/
def execTest (imd : Bool) (c : Fin 24) (s : State) : Out := .next (s.writeTest imd c)

/-- A write of 1 to LOCKCLR starts the clearing self-test of a channel in lockout (R180, R191). -/
def State.lockClear (s : State) (imd : Bool) (c : Nat) : State :=
  if imd then (if s.flag .EFU_IMDSTAT_LOCKOUT c then s.startImdTest c true else s)
  else if s.flag .EFU_RCMSTAT_LOCKOUT c then s.startRcmTest c true else s

/-- LOCKCLR (R180). -/
def execLockclr (imd : Bool) (c : Fin 24) (s : State) : Out := .next (s.lockClear imd c)

/-- A write of 1 to CAL (R183): 8.0 mA for 100 ms, SCALE in 16.16 counts per mA, then the clearing self-test. A scale of 0 is a missing one, with
lockout and event 0x1304 (R180). -/
def State.calibrate (s : State) (c counts : Nat) : State :=
  if (s.rcmOutlet c).isNone then s
  else if s.rcmIdle c then
    let s := (s.moveTo (s.now + msec 100)).put .EFU_RCMSCALE_SCALE c (min (counts * 65536 / 8) 0xFFFFFFFF)
    (s.onlyIf (s.rd .EFU_RCMSCALE_SCALE c == 0) fun s => (s.rcmLockout c).raise2 0x1304 c 3).startRcmTest c true
  else s.efuViolation (0x1000 + 0x20 * c + 0x8)

/-- CAL (R183): `counts` is the sense reading at 8.0 mA. -/
def execCal (c : Fin 24) (counts : Nat) (s : State) : Out := .next (s.calibrate c counts)

/-- A residual-current self-test ends with its trip line released (R181). -/
def State.endRcmTest (s : State) (c : Nat) : State :=
  match s.rcmOutlet c with
  | some n => s.efuAct n
  | none => s

/-- RCM_SELF_TEST_DONE (R180, R181), after 260 ms of samples or a failed step: a pass counts and, where the test may, clears the lockout. A step that fails
by a real residual current, and a trip decision, count as a baseline failure (R182, R195): the test repeats, up to three times; anything else is a
lockout with event 0x1303. -/
def execRcmSelfTestDone (c : Fin 24) (realCurrent : Bool) (s : State) : Out :=
  let r := s.rcm c
  let real := realCurrent || r.testTrip
  let failedStep := if r.testFail ≠ 0 ∧ real = true then 2 else r.testFail
  if s.rd .EFU_RCMSTAT_TSTATE c ≠ 1 ∨ (failedStep = 0 ∧ r.testN < 1300) then .next s
  else
    if failedStep = 0 then
      let s := ((s.put .EFU_RCMSTAT_TSTATE c 2).put .EFU_RCMSTAT_TSTEP c 0).count .EFU_RCMCNT_TESTS c
      let clears := r.clearing && s.flag .EFU_RCMSTAT_LOCKOUT c && s.rd .EFU_RCMSCALE_SCALE c != 0
      let s := s.setRcm c { r with clearing := false, baseFails := 0, lineHeld := r.lineHeld && !clears }
      let s := s.onlyIf clears fun s => (s.putFlag .EFU_RCMSTAT_LOCKOUT c false).raise2 0x1305 c 0
      .next (s.endRcmTest c)
    else
      let s := (s.put .EFU_RCMSTAT_TSTATE c 3).put .EFU_RCMSTAT_TSTEP c failedStep
      if real = true ∧ r.baseFails < 2 then
        .next ((s.setRcm c { r with baseFails := r.baseFails + 1, retryAt := some (s.now + msec 5000) }).endRcmTest c)
      else
        let s := s.setRcm c { r with clearing := false, baseFails := 0 }
        .next (((s.rcmLockout c).raise2 0x1303 c failedStep).endRcmTest c)

/-- RCM_SELF_TEST_RETRY (R181): 5 s after a baseline failure the test is repeated, with the contactor command off. -/
def execRcmSelfTestRetry (c : Fin 24) (s : State) : Out :=
  match (s.rcm c).retryAt with
  | none => .next s
  | some t =>
    let on := ((s.rcmOutlet c).map fun n => s.flag .OIU_CONTACT_CMD n).getD true
    if on then .next s
    else
      let r := s.rcm c
      let s := (s.moveTo t).setRcm c { r with retryAt := none, testN := 0, testRun := 0, testSeen := false, testDc := 0, testFail := 0, testTrip := false }
      .next ((s.put .EFU_RCMSTAT_TSTATE c 1).endRcmTest c)

/-- DAILY_SELF_TEST (R181, R191): 24 h of ledger time have passed, or a test that waits finds the channel idle. A channel that is not idle keeps the
test due, and it starts as soon as the channel is idle. -/
def execDailySelfTest (imd : Bool) (c : Fin 24) (s : State) : Out :=
  if imd then
    if (s.imdOutlets c).isEmpty || s.failed 0x13 then .next s
    else
      let s := if (s.imd c).dailyDue then s else s.moveTo (s.whenLtime (s.imd c).dailyAt)
      .next (if s.imdIdle c then s.imdDaily c else s.setImd c { s.imd c with dailyDue := true })
  else if (s.rcmOutlet c).isNone || s.failed 0x13 then .next s
  else
    let s := if (s.rcm c).dailyDue then s else s.moveTo (s.whenLtime (s.rcm c).dailyAt)
    .next (if s.rcmIdle c then s.rcmDaily c else s.setRcm c { s.rcm c with dailyDue := true })

/-- RCM_SENSOR_FAULT (R180): no saturation, or no sense pulses, for 10 ms. -/
def execRcmSensorFault (c : Fin 24) (sense : Bool) (s : State) : Out :=
  if (s.rcmOutlet c).isNone || s.failed 0x13 then .next s
  else .next ((s.rcmLockout c).raise2 0x1304 c (if sense then 2 else 1))

/-- The settled current of a half period from its three means (R186). -/
def settled (i1 i2 i3 : Int) : Int :=
  let den := i1 + i3 - 2 * i2
  if den.natAbs * 100 < i3.natAbs ∨ den = 0 then i3 else (i1 * i3 - i2 * i2) / den

/-- Riso in Ω from the settled currents of two half periods in pA (R185); none where no current difference flows. -/
def risoOf (a b : Int) : Option Nat :=
  if a = b then none else some (60000000000000 / (a - b).natAbs - 600000)

/-- VMAX of the outlets of an insulation channel (R187, R190). -/
def State.imdVmax (s : State) (k : Nat) : Nat := (((s.imdOutlets k).head?.bind s.outl).map (·.vmax)).getD 0

/-- Riso in kΩ as shown. -/
def risoCode (r : Option Nat) : Nat :=
  match r with
  | none => 0xFFFF
  | some o => min (o / 1000) 0xFFFF

/-- The level of a result (R187): 0 valid, 1 warning, 2 alarm. -/
def risoLevel (vmax : Nat) (r : Option Nat) : Nat :=
  match r with
  | none => 0
  | some o => if 500 * vmax < o then 0 else if 100 * vmax ≤ o then 1 else 2

/-- A residual-current trip has opened the contactor of an outlet in this frame of 200 µs (R195). -/
def State.trippedNow (s : State) (n : Nat) : Bool :=
  match s.outl n with
  | none => false
  | some o => decide (o.rcm < 24) && (s.rcm o.rcm).tripOn && ((s.rcm o.rcm).tripAt.map fun t => t / 200000 == s.now / 200000).getD false

/-- An insulation trip of every bound outlet with its contactor command on, or whose command a residual-current trip dropped in the same frame (R188,
R195). -/
def State.imdTripAll (s : State) (k detail : Nat) : State :=
  let hit := (s.imdOutlets k).filter fun n => (s.flag .OIU_CONTACT_CMD n || s.trippedNow n) && !bit s.imdTrip n
  if hit.isEmpty then s
  else
    let s := { s with imdTrip := hit.foldl (fun m n => setBit m n true) s.imdTrip }
    let s := ((s.putFlag .EFU_IMDSTAT_TRIP k true).count .EFU_IMDCNT_ALARMS k).put .EFU_STATUS_IALARM 0 1
    (s.each hit fun s n => s.tripOutlet n).raise2 0x1307 k detail

/-- A cable check starts on a channel (R189). -/
def State.startCheck (s : State) (k n : Nat) : State :=
  let s := { s with ccRequested := setBit s.ccRequested n false }
  (s.setImd k { s.imd k with check := some n, checkHalf := 0, checkRes := [], last := none, alarmRun := 0 }).injRefresh k

/-- A cable check ends with a result code; CHECKS counts it and event 0x1309 reports it (R189). The check of the channel's other outlet that waits for
it starts (R190). -/
def State.endCheck (s : State) (k code riso : Nat) : State :=
  let s := s.setImd k { s.imd k with check := none, checkHalf := 0, checkRes := [] }
  let s := (s.put .EFU_IMDSTAT_CCRES k code).put .EFU_IMDRISO_CCRISO k riso
  let s := ((s.count .EFU_IMDCNT_CHECKS k).raise2 0x1309 k code).injRefresh k
  match (s.imdOutlets k).find? fun m =>
    bit s.ccRequested m && s.flag .OIU_CONTACT_CFB m && s.flag .OIU_CONTACT_CMD m && (s.oiu m).closeT.isNone with
  | some m => s.startCheck k m
  | none => s

/-- The runs of R188 after a new Riso, with LEVEL and its events; the first result of a channel sets LEVEL valid at once. -/
def State.risoRuns (s : State) (k : Nat) (r : Option Nat) : State :=
  let v := s.imdVmax k
  let lvl := risoLevel v r
  let i := s.imd k
  let above := match r with
    | none => true
    | some o => decide (550 * v < o)
  let i := { i with
    riso := r, warnRun := if lvl = 1 then i.warnRun + 1 else 0, validRun := if above then i.validRun + 1 else 0
    alarmRun := if lvl = 2 then i.alarmRun + 1 else 0 }
  let s := (s.setImd k i).put .EFU_IMDRISO_RISO k (risoCode r)
  let was := s.rd .EFU_IMDSTAT_LEVEL k
  if i.warnRun = 4 ∧ was ≠ 1 then
    ((s.put .EFU_IMDSTAT_LEVEL k 1).put .EFU_STATUS_IWARN 0 1).raise2 0x1306 k (min ((r.getD 0) / (10 * max v 1)) 0xFF)
  else if 4 ≤ i.validRun ∧ (was = 1 ∨ was = 2) then (s.put .EFU_IMDSTAT_LEVEL k 0).raise2 0x1308 k 0
  else if lvl = 0 ∧ was = 3 then s.put .EFU_IMDSTAT_LEVEL k 0
  else if 2 ≤ i.alarmRun then
    let s := (s.put .EFU_IMDSTAT_LEVEL k 2).imdTripAll k 1
    if (s.imd k).check.isSome then s.endCheck k 3 (risoCode r) else s
  else s

/-- IMD_HALF_PERIOD (R185, R186, R188, R189): the settled current is extrapolated, Riso computed and decided on. -/
def execImdHalfPeriod (k : Fin 12) (i1 i2 i3 : Int) (s : State) : Out :=
  let s := s.injRefresh k
  let cur := settled i1 i2 i3
  let i := s.imd k
  if !s.flag .EFU_IMDSTAT_INJ k || s.failed 0x13 then .next s
  else if i.test then .next (s.setImd k { i with positive := !i.positive, testCur := i.testCur ++ [cur] })
  else
    let half := i.checkHalf + 1
    let s := s.setImd k { i with positive := !i.positive, last := some cur, checkHalf := if i.check.isSome then half else 0 }
    match i.last with
    | none => .next s
    | some prev =>
      let r := risoOf cur prev
      let s := s.onlyIf (i.check.isSome && decide (4 ≤ half ∧ half ≤ 8)) fun s =>
        s.setImd k { s.imd k with checkRes := (s.imd k).checkRes ++ [r.getD 0xFFFFFFFF] }
      .next (s.risoRuns k r)

/-- The bus voltage from the pole readings. -/
def busVolts (vpos vneg : Int) : Int := vpos - vneg

/-- POLE_CHECK_TRIP (R188): over 100 V of bus voltage, a pole has read below 10 % of it for 100 ms. -/
def execPoleCheckTrip (k : Fin 12) (vpos vneg : Int) (s : State) : Out :=
  let named := !(s.imdOutlets k).isEmpty && !s.failed 0x13
  let s := s.onlyIf named fun s => (s.put .EFU_IMDPOLE_VPOS k (toTwos 16 vpos)).put .EFU_IMDPOLE_VNEG k (toTwos 16 vneg)
  let bus := busVolts vpos vneg
  if named = true ∧ 100 < bus ∧ (vpos.natAbs * 10 < bus.natAbs ∨ vneg.natAbs * 10 < bus.natAbs) then
    let s := s.imdTripAll k 2
    .next (if (s.imd k).check.isSome then s.endCheck k 3 (s.rd .EFU_IMDRISO_RISO k) else s)
  else .next s

/-- An insulation channel enters lockout with event 0x130A (R191). -/
def State.imdLockout (s : State) (k detail : Nat) : State :=
  let on := (s.imdOutlets k).any fun n => s.flag .OIU_CONTACT_CMD n
  let s := ((s.put .EFU_STATUS_IMDF 0 1).put .EFU_STATUS_LOCK 0 1).putFlag .EFU_IMDSTAT_LOCKOUT k true
  let s := s.setImd k { s.imd k with lineHeld := (s.imd k).lineHeld || on }
  (s.each (s.imdOutlets k) fun s n => s.efuAct n).raise2 0x130A k detail

/-- COUPLING_OPEN (R191): one pole at the full bus voltage and the other at 0 V for 1 s while Riso reads above 10 MΩ. -/
def execCouplingOpen (k : Fin 12) (vpos vneg : Int) (s : State) : Out :=
  let named := !(s.imdOutlets k).isEmpty && !s.failed 0x13
  let s := s.onlyIf named fun s => (s.put .EFU_IMDPOLE_VPOS k (toTwos 16 vpos)).put .EFU_IMDPOLE_VNEG k (toTwos 16 vneg)
  if named = true ∧ 100 < busVolts vpos vneg ∧ (vpos = 0 ∨ vneg = 0) ∧ 10000 < s.rd .EFU_IMDRISO_RISO k then .next (s.imdLockout k 2)
  else .next s

/-- The loop resistance in Ω from the settled currents of two half periods in pA (R185, R191). -/
def loopOf (a b : Int) : Option Nat := if a = b then none else some (60000000000000 / (a - b).natAbs)

/-- The loop resistance with the internal 200 kΩ from IMDCk to IMDEk, computed from the loop without it (R191): Rm + 200 kΩ ∥ (loop − Rm). -/
def loopWith (l : Option Nat) : Nat :=
  match l with
  | none => 300000
  | some r => 100000 + 200000 * (r - 100000) / (200000 + (r - 100000))

/-- The self-test's four half periods agree (R191): the loop measured with the resistor within 5 % of the computed one. -/
def imdTestOk (l : List Int) : Bool :=
  match l with
  | [a, b, c, d] =>
    match loopOf c d with
    | none => false
    | some m => let w := loopWith (loopOf a b); decide (((m : Int) - w).natAbs * 20 ≤ w)
  | _ => false

/-- IMD_SELF_TEST_DONE (R191), after the four half periods of a self-test, or at any time when the injection source fails. -/
def execImdSelfTestDone (k : Fin 12) (sourceFail : Bool) (s : State) : Out :=
  let i := s.imd k
  let ends := i.test && decide (4 ≤ i.testCur.length)
  if (s.imdOutlets k).isEmpty || s.failed 0x13 || !(sourceFail || ends) then .next s
  else
    let s := (s.setImd k { i with test := false, clearing := false, last := none, testCur := [] }).injRefresh k
    if sourceFail = false ∧ imdTestOk (i.testCur.take 4) = true then
      if i.clearing && s.flag .EFU_IMDSTAT_LOCKOUT k then
        let s := (s.setImd k { s.imd k with lineHeld := false }).putFlag .EFU_IMDSTAT_LOCKOUT k false
        .next ((s.raise2 0x1305 k 1).each (s.imdOutlets k) fun s n => s.efuAct n)
      else .next s
    else .next (s.imdLockout k (if sourceFail then 3 else 1))

/-- CABLE_CHECK_START (R189): 10 ms after CFBnn reads closed on a DC outlet whose session requested it. DESIGN CHOICE (log entry 39): while the check
of the channel's other outlet runs (R190), it waits. -/
def execCableCheckStart (n : Fin 24) (s : State) : Out :=
  let s := (s.putFlag .OIU_CONTACT_CFB n true).setOiu n { s.oiu n with closeT := none }
  match s.outl n with
  | none => .next s
  | some o =>
    let busy := match (s.imd o.imd).check with
      | some m => m != n.val && s.flag .OIU_CONTACT_CMD m
      | none => false
    if 2 ≤ o.kind ∧ o.imd < 12 ∧ bit s.ccRequested n = true ∧ s.flag .OIU_CONTACT_CMD n = true ∧ busy = false then
      .next (s.startCheck o.imd n)
    else .next s

/-- CABLE_CHECK_RESULT (R189): the lowest of the five results is CCRISO, and CCRES follows R187. -/
def execCableCheckResult (k : Fin 12) (s : State) : Out :=
  if (s.imd k).check.isNone || (s.imd k).checkRes.length != 5 then .next s
  else
    let low := (s.imd k).checkRes.foldl min 0xFFFFFFFF
    let r := if low = 0xFFFFFFFF then none else some low
    .next (s.endCheck k (1 + risoLevel (s.imdVmax k) r) (risoCode r))

/-- The EFU's part of a confirmed pilot change: at state A latched trips clear (R179, R188), and A to B runs the self-test (R181). -/
def State.efuPilot (s : State) (n oldCode : Nat) : State :=
  match s.outl n with
  | none => s
  | some o =>
    let s := s.onlyIf (decide (s.cpState n < 2)) fun s =>
      let s := s.onlyIf (decide (o.rcm < 24)) fun s =>
        let s := s.setRcm o.rcm { s.rcm o.rcm with plugTrips := 0 }
        s.clearAtUnplug o.rcm
      let s := { s with imdTrip := setBit s.imdTrip n false }
      let s := s.onlyIf (decide (o.imd < 12) && (s.imdOutlets o.imd).all fun m => !bit s.imdTrip m) fun s =>
        s.putFlag .EFU_IMDSTAT_TRIP o.imd false
      s.efuAct n
    s.onlyIf (decide (oldCode < 2) && s.cpState n / 2 == 1 && decide (o.rcm < 24)) fun s => s.startRcmTest o.rcm false

/-- At plan activation the EFU shows the outlets that name its channels; a channel without an outlet reads LOCKOUT 1, and the first
self-tests of named channels run (R192, R194). -/
def State.efuBind (s : State) : State :=
  let named := fun (f : OutlRec → Nat) (c : Nat) => s.outlets.filter fun n => ((s.outl n).map f) == some c
  let s := s.each (List.range 24) fun s c =>
    let s := s.put .EFU_RCMSTAT_OUTLET c ((named (·.rcm) c).head?.getD 0xFF)
    if (s.rcmOutlet c).isNone then s.putFlag .EFU_RCMSTAT_LOCKOUT c true
    else if (s.rcm c).first then
      let s := s.setRcm c { s.rcm c with dailyAt := s.ltime + dayTicks }
      (s.onlyIf (s.rd .EFU_RCMSCALE_SCALE c == 0) fun s => s.raise2 0x1304 c 3).startRcmTest c true
    else s
  s.each (List.range 12) fun s k =>
    let l := named (·.imd) k
    let s := (s.put .EFU_IMDSTAT_OUTA k (l.head?.getD 0xFF)).put .EFU_IMDSTAT_OUTB k ((l.drop 1).head?.getD 0xFF)
    if l.isEmpty then s.putFlag .EFU_IMDSTAT_LOCKOUT k true else if (s.imd k).first then s.imdDaily k else s

/-- Fields that a reset of the EFU keeps: latched trips and their bands at a unit reset, SCALE and the counters always (R194). -/
def efuKept : List Fld := [.EFU_RCMSCALE_SCALE, .EFU_RCMCNT_TRIPS, .EFU_RCMCNT_TESTS, .EFU_IMDCNT_ALARMS, .EFU_IMDCNT_CHECKS]

/-- A unit reset of the EFU (R194): the trip line of every outlet with its command on, then lockout of every named channel until its
self-test passes. -/
def State.efuReset (s : State) : State :=
  let named := s.outlets.filter fun n => ((s.outl n).map fun o => decide (o.rcm < 24) || decide (o.imd < 12)).getD false
  let on := named.filter fun n => s.flag .OIU_CONTACT_CMD n
  let s := s.clearUnit .efu (fun _ => true) (efuKept ++ [.EFU_RCMSTAT_TRIP, .EFU_RCMSTAT_BAND, .EFU_IMDSTAT_TRIP])
  let s := s.each (List.range 24) fun s c =>
    s.setRcm c { tripAt := (s.rcm c).tripAt, plugTrips := (s.rcm c).plugTrips, dailyAt := (s.rcm c).dailyAt, lineHeld := on.any fun n => ((s.outl n).map (·.rcm)) == some c }
  let s := s.each (List.range 12) fun s k =>
    s.setImd k { dailyAt := (s.imd k).dailyAt, lineHeld := on.any fun n => ((s.outl n).map (·.imd)) == some k }
  (s.each named fun s n => s.efuAct n).efuBind

end Sys2Proof.Machine
end

