-- ==== Sys2Proof/Machine/Ledger.lean ====
section
/-! DEFINITION. LGS (chapter 12): rings, commit of groups, space, meter ticks and the page buffer. -/

namespace Sys2Proof.Machine

open Sys2Proof

/-- One bit of CRC-32C, reflected (R47). -/
def crcBit (c : Nat) : Nat := if c % 2 = 1 then (c / 2) ^^^ 0x82F63B78 else c / 2

/-- One byte of CRC-32C (R47). -/
def crcByte (c b : Nat) : Nat := crcBit (crcBit (crcBit (crcBit (crcBit (crcBit (crcBit (crcBit (c ^^^ (b % 256)))))))))

/-- CRC-32C (R47): polynomial 0x1EDC6F41 reflected, initial value and final exclusive or 0xFFFF_FFFF. -/
def crc32c (l : List Nat) : Nat := (l.foldl crcByte 0xFFFFFFFF) ^^^ 0xFFFFFFFF

/-- One bit of CRC-16 with polynomial 0x1021 (R354, R382). -/
def crc16Bit (c : Nat) : Nat := if bit c 15 then (c * 2 ^^^ 0x1021) % 65536 else c * 2 % 65536

/-- One byte of CRC-16. -/
def crc16Byte (c b : Nat) : Nat := (List.range 8).foldl (fun c _ => crc16Bit c) (c ^^^ (b % 256 * 256))

/-- CRC-16 of a list of bytes, initial value 0xFFFF (R354, R382). -/
def crc16 (l : List Nat) : Nat := l.foldl crc16Byte 0xFFFF

/-- The little-endian bytes of a number. -/
def leBytes (size v : Nat) : List Nat := (List.range size).map fun k => v / 256 ^ k % 256

/-- The head of a CBOR item: major type and argument, in the shortest form (R336). -/
def cborHead (major v : Nat) : List Nat :=
  let be := fun (n : Nat) => (leBytes n v).reverse
  if v < 24 then [major * 32 + v]
  else if v < 256 then (major * 32 + 24) :: be 1
  else if v < 65536 then (major * 32 + 25) :: be 2
  else if v < 2 ^ 32 then (major * 32 + 26) :: be 4
  else (major * 32 + 27) :: be 8

/-- A CBOR unsigned integer. -/
def cborUint (v : Nat) : List Nat := cborHead 0 v

/-- A CBOR integer. -/
def cborInt (v : Int) : List Nat := if 0 ≤ v then cborHead 0 v.toNat else cborHead 1 (-1 - v).toNat

/-- A CBOR byte string. -/
def cborBytes (l : List Nat) : List Nat := cborHead 2 l.length ++ l

/-- A CBOR text string. -/
def cborText (l : List Nat) : List Nat := cborHead 3 l.length ++ l

/-- The number that little-endian bytes stand for. -/
def fromLe (l : List Nat) : Nat := l.foldr (fun b v => b % 256 + 256 * v) 0

/-- A list of bytes with a field laid over it. -/
def layField (l : List Nat) (f : RecField) : List Nat :=
  (List.range f.size).foldl (fun l k => l.set (f.off + k) (f.value / 256 ^ k % 256)) l

/-- The 64 bytes of a record (R326). -/
def LedgerRec.bytes (r : LedgerRec) : List Nat :=
  let head := leBytes 6 r.seq ++ [r.type % 256, r.flags % 256] ++ leBytes 8 r.ltime
  let body := r.fields.foldl layField (head ++ List.replicate 44 0)
  body.take 60 ++ leBytes 4 (crc32c (body.take 60))

/-- The region of a class: legal hold 0, retained 1, rolling 2 (R325). -/
def regionOf (cls : Nat) : Nat := if cls = 2 then 0 else if cls = 1 then 1 else 2

/-- The slots of a region (R325). -/
def regionSize (k : Nat) : Nat := if k = 0 then 8388608 else if k = 1 then 33554432 else 25165824

/-- The key of a slot. -/
def slotKey (k slot : Nat) : Nat := k * 2 ^ 26 + slot

/-- The records that a region has ever taken. -/
def Lgs.taken (l : Lgs) (k : Nat) : Nat := lookup 0 l.written k

/-- The record in a slot. -/
def Lgs.slot (l : Lgs) (k slot : Nat) : Option LedgerRec := lookup none l.slots (slotKey k slot)

/-- The records of a region. -/
def Lgs.records (l : Lgs) (k : Nat) : List LedgerRec :=
  l.slots.filterMap fun e => if e.1 / 2 ^ 26 = k then e.2 else none

/-- The record with the lowest sequence number. -/
def oldestOf (l : List LedgerRec) : Option LedgerRec :=
  l.foldl (fun o r => match o with | none => some r | some q => if r.seq < q.seq then some r else some q) none

/-- Ledger ticks in a day. -/
def ledgerDay : Nat := 86400 * 65536

/-- The age of a record in ledger time. -/
def State.age (s : State) (r : LedgerRec) : Nat := s.ltime - r.ltime

/-- A retained record younger than RETDAYS (R325). -/
def State.young (s : State) (r : LedgerRec) : Bool := decide (s.age r < s.rd .LGS_RETCFG_RETDAYS 0 * ledgerDay)

/-- SEQ of the next record (R327). -/
def State.nextSeq (s : State) : Nat := s.rd64 .LGS_NEXTSEQ_L .LGS_NEXTSEQ_H 0

/-- LAST of the last acknowledge (R343). -/
def State.ackSeq (s : State) : Nat := s.rd64 .LGS_ACKSEQ_L .LGS_ACKSEQ_H 0

/-- The free slots of the legal-hold region (R333). -/
def State.legalFree (s : State) : Nat := regionSize 0 - (s.lgs.taken 0 - s.lgs.acked)

/-- The records of a region that may not be overwritten yet; for region 2, its records (R325). -/
def State.keptRecords (s : State) (k : Nat) : List LedgerRec :=
  if k = 0 then (s.lgs.records 0).filter fun r => decide (s.ackSeq < r.seq)
  else if k = 1 then (s.lgs.records 1).filter s.young else s.lgs.records 2

/-- The registers of one region. -/
def State.showRegion (s : State) (k : Nat) : State :=
  let kept := s.keptRecords k
  let fill := if k = 0 then s.lgs.taken 0 - s.lgs.acked else kept.length
  let old := oldestOf kept
  let oseq := (old.map (·.seq)).getD 0
  let days := min 0x3FF ((old.map fun r => s.age r / ledgerDay).getD 0)
  let s := (s.put .LGS_RFILL_FILL k fill).put .LGS_RHEAD_HEAD k (s.lgs.taken k % regionSize k)
  ((s.put .LGS_ROLD_L k oseq).put .LGS_ROLD_H k (oseq / 2 ^ 32)).put .LGS_ROLD_H_AGE k days

/-- The retained region is full and its oldest record is under RETDAYS + 30 days old (R334). -/
def State.retainedLow (s : State) : Bool :=
  decide (regionSize 1 ≤ s.lgs.taken 1) &&
    ((oldestOf (s.lgs.records 1)).map fun r => decide (s.age r < (s.rd .LGS_RETCFG_RETDAYS 0 + 30) * ledgerDay)).getD false

/-- The registers of the LGS that the ledger's contents and the time give (R345). -/
def State.showLgs (s : State) : State := (((s.showRegion 0).showRegion 1).showRegion 2).putFlag .LGS_STATUS_RETLOW 0 s.retainedLow

/-- The slots that an acknowledge in a group frees (R343). -/
def Group.frees (g : Group) : Nat :=
  ((g.recs.filter fun r => r.type == 0x26).map fun r => ((r.fields.find? fun f => f.off == 32).map (·.value)).getD 0).sum

/-- A legal-hold group that the region has no room for (R333); an acknowledge brings the room that it frees (R343, R344). -/
def State.stuck (s : State) (g : Group) : Bool := g.cls == 2 && decide (s.legalFree + g.frees < g.recs.length)

/-- The space of the legal-hold region is reported (R333). -/
def State.legalSpace (s : State) : State :=
  let free := s.legalFree
  let s := if free < 1677722 then
      if s.lgs.near80 then s
      else ({ s with lgs := { s.lgs with near80 := true } } : State).raise 0x1501 (min 0xFFFF (free / 1024))
    else { s with lgs := { s.lgs with near80 := false } }
  let s := if free < 65536 ∧ s.rd .LGS_STATUS_LHRES 0 = 0 then (s.put .LGS_STATUS_LHRES 0 1).raise 0x1502 1
    else if 131072 ≤ free ∧ s.rd .LGS_STATUS_LHRES 0 = 1 then (s.put .LGS_STATUS_LHRES 0 0).raise 0x1502 0 else s
  let waiting := (s.lgs.queue.filter s.stuck).length
  if 0 < waiting then
    if s.rd .LGS_STATUS_LHWAIT 0 = 0 then (s.put .LGS_STATUS_LHWAIT 0 1).raise 0x1509 waiting else s
  else s.put .LGS_STATUS_LHWAIT 0 0

/-- Rolling records dropped are recorded once the queue has room (R330). -/
def State.recordDrops (s : State) : State :=
  if 0 < s.lgs.dropPending ∧ queuedRecords s.lgs.queue < 1024 then
    let n := s.lgs.dropPending
    ({ s with lgs := { s.lgs with dropPending := 0 } } : State).request 1 [⟨0x03, s.ltime, [⟨16, 4, n⟩]⟩]
  else s

/-- What the commit of a record does beyond being kept: an acknowledge frees its slots (R343). -/
def State.committed (s : State) (r : LedgerRec) : State :=
  if r.type = 0x26 then
    let b := r.bytes
    let last := fromLe ((b.drop 24).take 8)
    let n := fromLe ((b.drop 32).take 4)
    let s : State := { s with lgs := { s.lgs with acked := s.lgs.acked + n } }
    ((s.put .LGS_ACKSEQ_L 0 last).put .LGS_ACKSEQ_H 0 (last / 2 ^ 32)).raise 0x1504 (min 0xFFFF (n / 16))
  else s

/-- The slot `i` places after HEAD of the retained region holds a record younger than RETDAYS (R334). -/
def State.earlyAt (s : State) (cls i : Nat) : Bool :=
  let k := regionOf cls
  k == 1 && ((s.lgs.slot k ((s.lgs.taken k + i) % regionSize k)).map s.young).getD false

/-- One record is written at HEAD of its region (R325 to R327, R334). -/
def State.place (s : State) (cls : Nat) (first : Bool) (q : ReqRec) : State :=
  let k := regionOf cls
  let slot := s.lgs.taken k % regionSize k
  let s := s.onlyIf (s.earlyAt cls 0) fun s => (s.count .LGS_COUNT_EARLY 0).put .LGS_STATUS_EARLY 0 1
  let r : LedgerRec := ⟨s.nextSeq, q.type, cls + 4 * b2n (s.rd .BLU_TIME_VALID 0 == 0) + 8 * b2n (!first), q.ltime, q.fields⟩
  let s : State := { s with lgs := { s.lgs with
    slots := update none s.lgs.slots (slotKey k slot) (some r), written := update 0 s.lgs.written k (s.lgs.taken k + 1) } }
  ((s.put .LGS_NEXTSEQ_L 0 (r.seq + 1)).put .LGS_NEXTSEQ_H 0 ((r.seq + 1) / 2 ^ 32)).committed r

/-- A group is committed as a whole (R329); commits after t_pf are counted (LGS_PFSTAT). -/
def State.commitGroup (s : State) (g : Group) : State :=
  let n := ((List.range g.recs.length).filter (s.earlyAt g.cls)).length
  let s := (g.recs.zip (List.range g.recs.length)).foldl (fun s e => s.place g.cls (e.2 == 0) e.1) s
  let s := s.onlyIf (s.bcu.phase == .commit) fun s =>
    (s.put .LGS_PFSTAT_PFREC 0 (min 0xFFFF (s.rd .LGS_PFSTAT_PFREC 0 + g.recs.length))).put .LGS_PFSTAT_PFDONE 0
      (min 0xFFFF ((s.now - s.bcu.tpf.getD s.now) / 10000))
  s.onlyIf (decide (0 < n)) fun s => s.raise 0x1503 n

/-- The group that the LGS commits next: the oldest that fits, a legal-hold group of the same instant before a rolling one (R333, R344). -/
def State.nextGroup (s : State) : Option Group :=
  let fit := s.lgs.queue.filter fun g => !s.stuck g
  fit.head?.map fun h => (fit.find? fun g => h.cls == 0 && g.at_ == h.at_ && g.cls == 2).getD h

/-- The next group of the queue is committed, where there is one (R329, R330, R333); none while a unit reset of the LGS runs (R332). -/
def State.commitNext (s : State) : State :=
  if !s.lgs.accepting || s.failed 0x15 then s
  else match s.nextGroup with
    | none => s.legalSpace
    | some g =>
      let s : State := { s with lgs := { s.lgs with queue := s.lgs.queue.erase g } }
      ((s.commitGroup g).legalSpace.recordDrops).showLgs

/-- A unit may hand over a record of a type in a class (R328): the types that the table and the chapters of the SEC and the UPD define, in the class
that they name. An acknowledge comes only from LGS_ACK (R343). -/
def recordFits (cls type : Nat) : Bool :=
  if type = 0x01 then true
  else if type ∈ [0x02, 0x03, 0x12, 0x13, 0x14, 0x15, 0x16, 0x17, 0x1A, 0x27] then cls == 1
  else if type ∈ [0x10, 0x11, 0x18, 0x19, 0x20, 0x21, 0x22, 0x23, 0x24, 0x25] then cls == 2
  else decide (0x30 ≤ type ∧ type ≤ 0x3F)

/-- The fields of a record lie in its payload (R326). -/
def inPayload (r : RecData) : Bool := r.fields.all fun f => decide (16 ≤ f.off) && decide (f.off + f.size ≤ 60)

/-- LEDGER_GROUP_REQUEST (R328 to R330): a unit hands over a group of 1 to 26 records of one class. -/
def execLedgerGroupRequest (cls : Fin 3) (recs : List RecData) (s : State) : Out :=
  if recs.isEmpty ∨ 26 < recs.length ∨ !recs.all (fun r => recordFits cls r.type && inPayload r) then .next s
  else .next (s.request cls.val (recs.map fun r => ⟨r.type, s.ltime, r.fields⟩))

/-- LEDGER_COMMIT (R329, R330, R333, R334, R344). -/
def execLedgerCommit (s : State) : Out := .next s.commitNext

/-- The tick period in ledger time (R335). -/
def State.tickPeriod (s : State) : Nat := s.rd .LGS_RETCFG_TICKMIN 0 * 60 * 65536

/-- The record of one outlet's meter tick (R335, R344). DEDUCED (log entry 77): its SEAL says that the seal stands broken (R322). -/
def State.tickRecord (s : State) (n : Nat) : ReqRec :=
  ⟨0x12, s.ltime, [⟨16, 1, n⟩, ⟨17, 1, s.rd .BLU_ESTAT_TARIFF n⟩,
    ⟨18, 1, s.rd .BLU_ESTAT_SESS n + 2 * s.rd .BLU_STATUS_SEALBRK 0⟩,
    ⟨24, 8, s.rd64 .MEU_EREG_L .MEU_EREG_H (n * 64 + 1)⟩, ⟨32, 8, s.rd64 .MEU_EREG_L .MEU_EREG_H (n * 64 + 2)⟩]⟩

/-- The instant of the next meter tick in ledger time: a multiple of the tick period, counted from commissioning, at which none was written (R335). -/
def State.tickNext (s : State) : Nat := max ((s.ltime + (s.tickPeriod - 1)) / s.tickPeriod) (s.lgs.tickAt / s.tickPeriod + 1) * s.tickPeriod

/-- One meter tick for each outlet that the OUTL section names (R335). -/
def State.writeTicks (s : State) (tick : Nat) : State :=
  let s : State := { s with lgs := { s.lgs with tickAt := tick } }
  s.each s.outlets fun s n => s.request 1 [s.tickRecord n]

/-- RETAINED_NEAR_LIMIT (R334): event 0x1508 once a day while the region is full with a young oldest record. -/
def execRetainedNearLimit (s : State) : Out :=
  let due := (s.lgs.nearAt.map fun t => decide (t + ledgerDay ≤ s.ltime)).getD true
  let s := s.showLgs
  if s.retainedLow && due then
    let days := ((oldestOf (s.lgs.records 1)).map fun r => s.age r / ledgerDay).getD 0
    .next (({ s with lgs := { s.lgs with nearAt := some s.ltime } } : State).raise 0x1508 days)
  else .next s

/-- The page that LGS_PAGE selects: the slots from SLOT onward in REGION, by position (R342). -/
def State.pageNow (s : State) : Tab (Option LedgerRec) :=
  let k := s.rd .LGS_PAGE_REGION 0
  let size := regionSize k
  let start := s.rd .LGS_PAGE_SLOT 0 % size
  s.lgs.slots.foldl (fun t e =>
    let pos := (e.1 % 2 ^ 26 + size - start) % size
    if e.1 / 2 ^ 26 = k ∧ pos < 4096 then update none t pos e.2 else t) []

/-- A write of LGS_PAGE starts a copy (R342); REGION 0b11 is stored as 0b10. -/
def State.startPage (s : State) (region slot : Nat) : State :=
  let s := (s.put .LGS_PAGE_REGION 0 (min 2 region)).put .LGS_PAGE_SLOT 0 slot
  let s := (s.put .LGS_PAGESTAT_BUSY 0 1).put .LGS_PAGESTAT_BADCRC 0 0
  { s with lgs := { s.lgs with page := s.pageNow, pageRaw := [] } }

/-- PAGE_COPY (R342). -/
def execPageCopy (region : Fin 4) (slot : BitVec 26) (s : State) : Out := .next (s.startPage region slot.toNat)

/-- A stored slot fails its CRC (R342). -/
def badCrc (l : List Nat) : Bool := fromLe ((l.drop 60).take 4) != crc32c (l.take 60)

/-- PAGE_COPY_DONE (R342, R344): the copy ends. A slot overwritten while the copy ran is shown as before or as after, which the spec
leaves open. `changed` gives the stored bytes of slots whose storage no longer holds what was written. -/
def execPageCopyDone (changed : List (Nat × List Nat)) (s : State) : Out :=
  if s.rd .LGS_PAGESTAT_BUSY 0 = 0 then .next s
  else
    let (v, s) := s.draw
    let now := s.pageNow
    let page := s.lgs.page.map fun e => if bit v e.1 then (e.1, lookup e.2 now e.1) else e
    let raw := changed.filter fun e => decide (e.1 < 4096) && e.2.length == 64 && page.any fun p => p.1 == e.1
    let bad := (raw.filter fun e => badCrc e.2).length
    let s : State := { s with lgs := { s.lgs with page := page, pageRaw := raw } }
    let s := (s.put .LGS_PAGESTAT_BUSY 0 0).put .LGS_PAGESTAT_BADCRC 0 (min 4096 bad)
    .next (s.onlyIf (decide (0 < bad)) fun s =>
      (s.put .LGS_STATUS_CRCERR 0 1).raise2 0x1506 (s.rd .LGS_PAGE_REGION 0) (min 0xFF bad))

/-- The 64 bytes at a position of the page buffer (R342). -/
def Lgs.pageBytes (l : Lgs) (pos : Nat) : List Nat :=
  match l.pageRaw.find? fun e => e.1 == pos with
  | some e => e.2
  | none => ((lookup none l.page pos).map LedgerRec.bytes).getD (List.replicate 64 0)

/-- A list in chunks of at most `k`. -/
def chunks {α : Type} (k : Nat) : Nat → List α → List (List α)
  | 0, _ => []
  | f + 1, l => if l.isEmpty then [] else l.take k :: chunks k f (l.drop k)

/-- The LGS starts accepting requests: held requests of the BCU and the CGU come first, in their order (R332). -/
def State.lgsStart (s : State) : State :=
  let lost := s.lgs.heldLost
  let s : State := { s with lgs := { s.lgs with accepting := true, queue := s.lgs.held ++ s.lgs.queue, held := [], heldLost := 0 } }
  s.onlyIf (decide (0 < lost)) fun s => s.request 1 [⟨0x03, s.ltime, [⟨16, 4, lost⟩]⟩]

end Sys2Proof.Machine
end

