-- ==== Sys2Proof/Machine/Meter.lean ====
section
/-! DEFINITION. MEU, the metering chain (chapter 05): front samples, the moving average, detectors, energy, direction periods, and what
the metering boundary does inside the unit. -/

namespace Sys2Proof.Machine

open Sys2Proof

/-- A metering channel. -/
def State.chan (s : State) (n : Nat) : Chan := lookup {} s.chans n

/-- A metering channel set. -/
def State.setChan (s : State) (n : Nat) (c : Chan) : State := { s with chans := update {} s.chans n c }

/-- An element. -/
def State.elem (s : State) (e : Nat) : Elem := lookup {} s.elems e

/-- An element set. -/
def State.setElem (s : State) (e : Nat) (v : Elem) : State := { s with elems := update {} s.elems e v }

/-- The SENS record of a channel (R50). -/
def State.sens (s : State) (n : Nat) : Option SensRec := s.plan.bind fun p => p.sens.find? (·.ch == n)

/-- The element that a SENS record names: an outlet, 24 for the site, 0xFF for none (R156). -/
def SensRec.elem (r : SensRec) : Nat := if r.outlet = 0xFE then 24 else r.outlet

/-- A current channel that makes a pair with the voltage channel it names (R147, R156). -/
def SensRec.paired (r : SensRec) : Bool := r.pair != 0xFF && (r.qty == 4 || r.qty == 5 || r.qty == 6 || r.qty == 8)

/-- The current channels of an element's pairs (R156). -/
def State.pairsOf (s : State) (e : Nat) : List SensRec :=
  match s.plan with
  | none => []
  | some p => p.sens.filter fun r => r.elem == e && r.paired

/-- The element has a DC pair. -/
def State.isDc (s : State) (e : Nat) : Bool := (s.pairsOf e).any (·.qty == 8)

/-- The reference voltage of an element: its paired voltage channel of QTY 0, else the lowest-numbered paired one (R156). -/
def State.refOf (s : State) (e : Nat) : Option Nat :=
  let vs := ((s.pairsOf e).map (·.pair)).filter fun v => ((s.sens v).map fun r => decide (r.qty ≤ 2)).getD false
  match vs.find? fun v => ((s.sens v).map (·.qty)) == some 0 with
  | some v => some v
  | none => vs.foldl (fun m v => some (match m with
    | none => v
    | some a => min a v)) none

/-- The channels that an element uses (R170): those whose OUTLET names it, and the paired voltage channels. -/
def State.usedBy (s : State) (e : Nat) : List Nat :=
  match s.plan with
  | none => []
  | some p => (p.sens.filter (·.elem == e)).map (·.ch) ++ (s.pairsOf e).map (·.pair)

/-- The units of T ÷ 256 in 1/64,000 s. -/
def State.stampUnit (s : State) : Nat := s.frontRate / 250

/-- The channel period up to a stamp in 1/64,000 s: by RATE, and 125 µs in Ember (R148, R161). The stamp at which the grid changes still ends a
period of the grid before. -/
def State.periodTo (s : State) (r : SensRec) (stamp : Nat) : Nat :=
  if s.meu.ember == decide (s.meu.emberAt < stamp) then 8 else 8 / 2 ^ r.rate

/-- The channel period after a stamp (R148, R161). -/
def State.periodFrom (s : State) (r : SensRec) (stamp : Nat) : Nat :=
  if s.meu.ember == decide (s.meu.emberAt ≤ stamp) then 8 else 8 / 2 ^ r.rate

/-- The front sample from a decimator output: (S + 16) >> 5 (R144). -/
def frontSample (dec : Int) : Int := (dec + 16) / 32

/-- An integer wrapped to a two's complement width. -/
def wrap (w : Nat) (v : Int) : Int := ofTwos w (toTwos w v)

/-- Division of integers rounded to nearest, halves toward +∞. -/
def roundHalfUp (a : Int) (b : Nat) : Int := if b = 0 then 0 else (2 * a + b) / (2 * b)

/-- A front sample enters a channel: offset, integrator and history (R144, R145, R148). INTSAT and event 0x1206 come with every saturated sample. -/
def State.takeFront (s : State) (n : Nat) (rogowski : Bool) (dec : Int) : State :=
  let c := s.chan n
  if 0 < c.skip then s.setChan n { c with skip := c.skip - 1 }
  else
    let u := frontSample dec - ofTwos 32 (s.rd .MEU_CHOFFS_OFFS n)
    if rogowski then
      let w := wrap 40 (c.w - c.w / 2 ^ s.rd .MEU_CHINT_INTK n + (u + c.uPrev))
      let out := roundHalfUp w (2 * 2 ^ s.rd .MEU_CHINT_RSHIFT n)
      let y := max (-488281) (min 488281 out)
      let s := s.setChan n { c with w := w, uPrev := u, hist := (y :: c.hist).take 272, front := c.front + 1 }
      s.onlyIf (decide (488281 < out.natAbs)) fun s => ((s.put .MEU_CHSTAT_INTSAT n 1).put .MEU_STATUS_INTSAT 0 1).raise2 0x1206 n 1
    else
      let y := max (-524287) (min 524287 u)
      s.setChan n { c with uPrev := u, hist := (y :: c.hist).take 272, front := c.front + 1 }

/-- The decimator takes a bit: +1 for 1 and −1 for 0 through three integrators (R143, R144). -/
def Sinc3.clock (d : Sinc3) (b : Bool) : Sinc3 :=
  let i1 := wrap 32 (d.i1 + (if b then 1 else -1))
  let i2 := wrap 32 (d.i2 + i1)
  { d with i1 := i1, i2 := i2, i3 := wrap 32 (d.i3 + i2), phase := d.phase + 1 }

/-- The decimator's output after 250 clocks: three combs (R144). -/
def Sinc3.comb (d : Sinc3) : Int × Sinc3 :=
  let c1 := wrap 32 (d.i3 - d.z1)
  let c2 := wrap 32 (c1 - d.z2)
  (wrap 32 (c2 - d.z3), { d with z1 := d.i3, z2 := c1, z3 := c2, phase := 0 })

/-- A channel captures a modulator bit (R143, R144): the run of equal bits, and every 250 bits a decimator output. -/
def State.takeBit (s : State) (n : Nat) (rogowski b : Bool) : State :=
  let c := s.chan n
  let run := if b == c.lastBit then min 256 (c.eqRun + 1) else 1
  let c := { c with
    dec := c.dec.clock b, lastBit := b, eqRun := run, noClk := false
    badAt := if run = 256 ∨ c.noClk = true then s.now else c.badAt }
  if c.dec.phase < 250 then s.setChan n c
  else (s.setChan n { c with dec := c.dec.comb.2 }).takeFront n rogowski c.dec.comb.1

/-- The weight in T ÷ 256 with which front sample `j` enters a window from `a` to `b`: it holds from (j − 1)T to jT, counted from the epoch (R148). -/
def weight (a b : Int) (j : Int) : Int := max 0 (min b (256 * j) - max a (256 * j - 256))

/-- The moving average over a window that ends at `b` (T ÷ 256) and is `len` front periods long; the newest front sample is number
`front` − 1, for the epoch is that of number 0 (R148). -/
def movingAverage (c : Chan) (b : Int) (len : Nat) : Int :=
  let a := b - 256 * len
  let terms := (List.range c.hist.length).map fun (i : Nat) => weight a b ((c.front : Int) - 1 - (i : Int)) * c.hist.getD i 0
  roundHalfUp terms.sum (256 * len)

/-- The window length and DELAY of a channel in a bank (R150). -/
def State.bankNo (s : State) (bank n : Nat) : Nat × Nat :=
  if bank = 0 then (s.rd .MEU_CHBANK_MALEN0 n, s.rd .MEU_CHDELAY_DELAY0 n)
  else (s.rd .MEU_CHBANK_MALEN1 n, s.rd .MEU_CHDELAY_DELAY1 n)

/-- The window length and DELAY of a channel for a stamp: the bank in use from its swap's stamp on, the other one before it (R150). -/
def State.bankOf (s : State) (n stamp : Nat) : Nat × Nat :=
  let bank := s.rd .MEU_STATUS_BANK 0
  s.bankNo (if stamp < s.meu.bankAt then 1 - bank else bank) n

/-- The compensation shift that a DELAY leaves: DELAY + ID is held at 2,047 (R146). -/
def Chan.idFor (c : Chan) (delay : Nat) : Nat := min c.idRaw (2047 - delay)

/-- The instant t − s of a stamp in T ÷ 256 (R148). -/
def State.windowEndOf (s : State) (n stamp : Nat) : Int :=
  let d := (s.bankOf n stamp).2
  (stamp * s.stampUnit : Int) - d - (s.chan n).idFor d

/-- The front sample that holds t − s has arrived (R148). -/
def State.sampleReady (s : State) (n : Nat) : Bool := s.windowEndOf n (s.chan n).stamp ≤ 256 * (((s.chan n).front : Int) - 1)

/-- The kept history fills the window of a stamp (R148, R166). -/
def State.windowFilled (s : State) (n : Nat) : Bool :=
  let c := s.chan n
  256 * ((c.front : Int) - c.hist.length - 1) ≤ s.windowEndOf n c.stamp - 256 * (s.bankOf n c.stamp).1

/-- The factor of a channel in µV or µA per count, as a fraction: RATIO × GAIN × Gc (R157). -/
def State.scaleOf (s : State) (r : SensRec) : Int × Nat :=
  (ofTwos 32 (s.rd .MEU_CHGAIN_GAIN r.ch) * r.ratio * (s.chan r.ch).gcNum, 2 ^ 46 * (s.chan r.ch).gcDen)

/-- A fraction divided by 2^e, rounded to nearest. -/
def mantissaAt (num : Int) (den : Nat) (e : Int) : Int :=
  if 0 ≤ e then roundHalfUp num (den * 2 ^ e.toNat) else roundHalfUp (num * 2 ^ (-e).toNat) den

/-- A fraction as a 48-bit mantissa and an exponent, rounded to nearest (R157): the mantissa lies in 2^47 to 2^48 − 1. -/
def mantissa (num : Int) (den : Nat) : Int × Int :=
  if num = 0 ∨ den = 0 then (0, 0)
  else
    let e : Int := (num.natAbs.log2 : Int) - (den.log2 : Int) - 47
    let m := mantissaAt num den e
    if m.natAbs < 2 ^ 47 then (mantissaAt num den (e - 1), e - 1)
    else if m.natAbs < 2 ^ 48 then (m, e) else (m / 2, e + 1)

/-- An integer times a mantissa and exponent, in accumulator LSBs of 2^-40 mWh, rounded to nearest; `den` divides besides. -/
def scaled (x : Int) (m : Int × Int) (den : Nat) : Int :=
  let e := m.2 + 40
  if 0 ≤ e then roundHalfUp (x * m.1 * 2 ^ e.toNat) den else roundHalfUp (x * m.1) (den * 2 ^ (-e).toNat)

/-- EK of a pair in mWh per product of counts for a stamp (R157): kv × ki × dt × 10^-12 ÷ 3.6. -/
def State.ek (s : State) (v i : SensRec) (stamp : Nat) : Int × Int :=
  let kv := s.scaleOf v
  let ki := s.scaleOf i
  mantissa (kv.1 * ki.1 * s.periodTo i stamp * 10) (kv.2 * ki.2 * 64000 * 10 ^ 12 * 36)

/-- EL of a current channel for a stamp (R157): ki² × lossr × dt × 10^-18 ÷ 3.6. -/
def State.el (s : State) (i : SensRec) (stamp : Nat) : Int × Int :=
  let ki := s.scaleOf i
  mantissa (ki.1 * ki.1 * i.lossr * s.periodTo i stamp * 10) (ki.2 * ki.2 * 64000 * 10 ^ 18 * 36)

/-- The calibrated value of a sample in mV or mA, rounded to nearest (R154). -/
def State.calibrated (s : State) (r : SensRec) (y : Int) : Int :=
  let k := s.scaleOf r
  roundHalfUp (y * k.1) (k.2 * 1000)

/-- A product of two fixed-point numbers with `k` fraction bits. -/
def fixMul (k : Nat) (a b : Int) : Int := a * b / 2 ^ k

/-- e^(−x) for 0 ≤ x < 1 with 64 fraction bits, by its series (R154). -/
def expNeg (x : Nat) : Nat :=
  ((List.range 24).foldl (fun (a : Int × Int) (k : Nat) =>
    let t := -(fixMul 64 a.2 x) / ((k + 1 : Nat) : Int)
    (a.1 + t, t)) ((2 : Int) ^ 64, (2 : Int) ^ 64)).1.toNat

/-- The envelope in 2^-32 mV after a sample (R154): up with the absolute value at once, down toward it with the time constant ENVTC in ms over
`dt` in 1/64,000 s. -/
def envelope (env v dt tc : Nat) : Nat :=
  let a := v * 2 ^ 32
  if env ≤ a then a else a + (env - a) * expNeg (dt * 15625 * 2 ^ 64 / (max 1 tc * 1000000)) / 2 ^ 64

/-- A stamp lies after the crossing that is being placed for an element. -/
def State.pastSplit (s : State) (e stamp : Nat) : Bool :=
  match (s.elem e).split with
  | some x => decide (x < stamp)
  | none => false

/-- The detectors of a channel take a sample (R154, R169). -/
def State.detect (s : State) (r : SensRec) (stamp : Nat) (y : Int) : State :=
  let n := r.ch
  let v := (s.calibrated r y).natAbs
  let c := s.chan n
  let begun := decide (463867 ≤ y.natAbs) && !c.nearRun
  let late := s.pastSplit r.elem stamp && r.qty != 3 && r.qty != 8
  let near := decide (463867 ≤ y.natAbs)
  let env := envelope c.env v (s.periodTo r stamp) (s.rd .MEU_CHCTL_ENVTC n)
  let s := (s.put .MEU_CHPEAK_PEAK n (max (s.rd .MEU_CHPEAK_PEAK n) v)).put .MEU_CHENV_ENV n (roundDiv env (2 ^ 32))
  let c := { c with env := env, nearRun := near }
  let s := s.setChan n (if late then { c with tailSq := c.tailSq + v * v, tailCnt := c.tailCnt + 1 }
    else { c with sumSq := c.sumSq + v * v, cnt := c.cnt + 1 })
  s.onlyIf near fun s =>
    let s := (s.put .MEU_CHSTAT_NEARFS n 1).put .MEU_STATUS_NEARFS 0 1
    s.onlyIf begun fun s => s.raise2 0x1203 n 0

/-- The elements whose reference voltage is a channel (R156). -/
def State.elemsOfRef (s : State) (n : Nat) : List Nat := (List.range 25).filter fun e => s.refOf e == some n

/-- The channels of an element whose RMS windows run on its reference voltage (R154). -/
def State.rmsOf (s : State) (e : Nat) : List Nat :=
  match s.plan with
  | none => []
  | some p => (p.sens.filter fun r => r.elem == e && r.sensor != 4 && r.qty != 3 && r.qty != 8).map (·.ch)

/-- The sums of two parts of a period. -/
def PeriodSums.join (a b : PeriodSums) : PeriodSums :=
  { ea := a.ea + b.ea, er := a.er + b.er
    pairs := b.pairs.foldl (fun t e => let p := lookup {} t e.1; update {} t e.1 { sv := p.sv + e.2.sv, si := p.si + e.2.si }) a.pairs }

/-- The samples after a crossing that ends no period join the running period and window of an element. -/
def State.dropSplit (s : State) (e : Nat) : State :=
  let x := s.elem e
  if x.split.isNone then s
  else
    let s := s.setElem e { x with sums := x.sums.join x.tail, tail := {}, split := none, ending := false }
    s.each (s.rmsOf e) fun s n =>
      let c := s.chan n
      s.setChan n { c with sumSq := c.sumSq + c.tailSq, cnt := c.cnt + c.tailCnt, tailSq := 0, tailCnt := 0 }

/-- The samples of a voltage channel show a positive-going crossing (R153): a run from at most −4,096 to at least +4,096 counts, placed by linear
interpolation between the last sample at or below 0 and the first above 0, to 1/256 of the channel period. The stamp of the first sample above
0 may end the direction periods of the elements that refer to the channel (R159). -/
def State.watchCrossing (s : State) (r : SensRec) (stamp : Nat) (y : Int) : State :=
  let n := r.ch
  let c := s.chan n
  if 2 < r.qty then s
  else if y ≤ 0 then
    let s := s.onlyIf (c.armed && c.high.isSome) fun s => s.each (s.elemsOfRef n) State.dropSplit
    s.setChan n { s.chan n with armed := c.armed || decide (y ≤ -4096), low := some (stamp, y), high := none }
  else
    let s := s.onlyIf (c.armed && c.high.isNone) fun s =>
      (s.setChan n { c with high := some (stamp, y) }).each (s.elemsOfRef n) fun s e =>
        if (s.elem e).split.isSome then s else s.setElem e { s.elem e with split := some stamp }
    let c := s.chan n
    match c.low, c.high with
    | some (t0, y0), some (t1, y1) =>
      if c.armed ∧ 4096 ≤ y then
        let q := (roundHalfUp (256 * (-y0)) (y1 - y0).toNat).toNat
        s.setChan n { c with armed := false, found := some (t0 * 256 + q * (t1 - t0), t1) }
      else s
    | _, _ => s

/-- A channel sample is taken at its stamp (R148). -/
def State.takeSampleAt (s : State) (r : SensRec) : State :=
  let n := r.ch
  let c := s.chan n
  let y := movingAverage c (s.windowEndOf n c.stamp) (s.bankOf n c.stamp).1
  let s := s.setChan n { c with samples := ((c.stamp, y) :: c.samples).take 512, stamp := c.stamp + s.periodFrom r c.stamp }
  let s := (s.put .MEU_CHSAMP_SAMPLE n (toTwos 32 y)).watchCrossing r c.stamp y
  s.detect r c.stamp y

/-- The sample of a channel at a stamp, if it has been taken. -/
def State.sampleAt (s : State) (r : SensRec) (stamp : Nat) : Option Int := ((s.chan r.ch).samples.find? (·.1 == stamp)).map (·.2)

/-- The value of a signal at an instant in 1/65,536,000 s, by linear interpolation between the samples that bracket it, newest first: numerator
and denominator (R158). -/
def interpolate (t : Int) : List (Nat × Int) → Option (Int × Nat)
  | (tb, b) :: (ta, a) :: l =>
    if (ta * 1024 : Int) ≤ t ∧ t < tb * 1024 then some (a * (tb * 1024 - t) + b * (t - ta * 1024), (tb - ta) * 1024)
    else interpolate t ((ta, a) :: l)
  | _ => none

/-- v(t − P ÷ 4), with P the last valid period of the element's reference voltage (R158). -/
def State.quarterBack (s : State) (e : Nat) (v : SensRec) (stamp : Nat) : Option (Int × Nat) :=
  match s.refOf e with
  | none => none
  | some k =>
    let p := (s.chan k).period
    if p = 0 then none else interpolate (stamp * 1024 - p) (s.chan v.ch).samples

/-- The element is in modulator fault (R170). -/
def State.elemFault (s : State) (e : Nat) : Bool := (s.usedBy e).any fun n => s.flag .MEU_CHSTAT_MODF n

/-- An amount added to accumulator `k` of an element, 96-bit two's complement (R157). -/
def Elem.add (v : Elem) (k : Nat) (x : Int) : Elem := { v with acc := v.acc.set k (wrap 96 (v.acc.getD k 0 + x)) }

/-- The public registers of an element follow its accumulators: bits [95:40], sign-extended (R160). -/
def State.showEnergy (s : State) (e : Nat) (ks : List Nat) : State :=
  s.each ks fun s k => s.put64 .MEU_EREG_L .MEU_EREG_H (e * 64 + k) (toTwos 64 ((s.elem e).acc.getD k 0 / 2 ^ 40))

/-- An amount enters the running period of an element, or the next one for a stamp past the crossing that is being placed. -/
def Elem.gather (x : Elem) (late : Bool) (f : PeriodSums → PeriodSums) : Elem :=
  if late then { x with tail := f x.tail } else { x with sums := f x.sums }

/-- The energy of one pair of stamped samples (R157, R158): NET, LOSS, the period sums and Σv², Σi². -/
def State.addEnergy (s : State) (i v : SensRec) (yi yv : Int) (stamp : Nat) : State :=
  let e := i.elem
  if s.elemFault e || s.meu.frozen || 24 < e then s
  else
    let ek := s.ek v i stamp
    let loss := scaled (yi * yi) (s.el i stamp) 1
    let en := scaled (yv * yi) ek 1 - loss
    let er := if i.qty ≠ 8 ∧ ((s.refOf e).any fun k => !s.flag .MEU_CHSTAT_ZXTO k) = true then
        match s.quarterBack e v stamp with
        | some (num, den) => scaled (num * yi) ek den
        | none => 0
      else 0
    let x := { ((s.elem e).add 0 en).add 8 loss with stamp := stamp }
    let s := s.setElem e (x.gather (s.pastSplit e stamp) fun t =>
      let p : PairSum := lookup {} t.pairs i.ch
      { ea := t.ea + en, er := t.er + er, pairs := update {} t.pairs i.ch { sv := p.sv + yv.natAbs ^ 2, si := p.si + yi.natAbs ^ 2 } })
    s.showEnergy e [0, 8]

/-- A channel has processed a stamp, or cannot for a modulator fault. -/
def State.passed (s : State) (n stamp : Nat) : Bool := decide (stamp < (s.chan n).stamp) || s.flag .MEU_CHSTAT_MODF n

/-- A sample of a Rogowski channel past a crossing that is being placed waits until the compensation of the next period is in force (R146), as long as
the kept history lets it. -/
def State.coilWaits (s : State) (r : SensRec) (stamp : Nat) : Bool :=
  let c := s.chan r.ch
  r.sensor == 2 && s.pastSplit r.elem stamp &&
    decide (256 * ((c.front : Int) + 32 - 272) ≤ s.windowEndOf r.ch stamp - 256 * (s.bankOf r.ch stamp).1)

/-- One stamp of a channel is processed where its front samples, and for a pair the samples of the voltage channel and of the reference voltage,
are there. A stamp whose window the history does not fill yields no sample (R157, R163, R166). The stamps after a metering boundary wait until
that boundary has acted. -/
def State.processStamp (s : State) (r : SensRec) : State :=
  let stamp := (s.chan r.ch).stamp
  if !s.sampleReady r.ch || decide (s.stampOf s.boundaryNext < stamp) || s.coilWaits r stamp then s
  else if !s.windowFilled r.ch then s.setChan r.ch { s.chan r.ch with stamp := stamp + s.periodFrom r stamp }
  else match if r.paired then s.sens r.pair else none with
    | none => s.takeSampleAt r
    | some v =>
      if !s.passed v.ch stamp || !s.passed ((s.refOf r.elem).getD v.ch) stamp then s
      else
        let s := s.takeSampleAt r
        match s.sampleAt r stamp, s.sampleAt v stamp with
        | some yi, some yv => s.addEnergy r v yi yv stamp
        | _, _ => s

/-- The energy of one pulse in accumulator LSBs: 1,000,000 ÷ PULSEC mWh (R155). -/
def pulseEnergy (pulsec : Nat) : Int := roundHalfUp (1000000 * 2 ^ 40) pulsec

/-- The slice of a pulse channel: the energy of the pulses counted since the last one enters NET and Ea (R155). -/
def State.pulseSlice (s : State) (r : SensRec) : State :=
  let n := (s.chan r.ch).pulses
  let s := s.setChan r.ch { s.chan r.ch with pulses := 0 }
  let e := r.elem
  if n = 0 ∨ 24 < e ∨ s.elemFault e = true ∨ s.meu.frozen = true then s
  else
    let x := (s.elem e).add 0 (n * pulseEnergy r.pulsec)
    (s.setElem e (x.gather x.split.isSome fun t => { t with ea := t.ea + n * pulseEnergy r.pulsec })).showEnergy e [0]

/-- The back-end slice of a channel (R157, R161): the stamps that are ready are processed, a carried one with them (R163). In Ember a non-pulse channel
uses only the first slice of a frame. -/
def State.backEnd (s : State) (r : SensRec) : State :=
  let frame := (s.now - s.epoch) / 125000
  if r.sensor = 4 then s.pulseSlice r
  else if s.meu.ember ∧ (s.chan r.ch).usedFrame = some frame then s
  else (s.setChan r.ch { s.chan r.ch with usedFrame := some frame }).each (List.range 4) fun s _ => s.processStamp r

/-- The channels that an element uses take their samples up to a stamp, the voltage channels first, as far as their front samples are there. -/
def State.catchUp (s : State) (e upTo : Nat) : State :=
  let used := s.usedBy e
  let l := (((s.plan.map fun p => p.sens).getD []).filter fun r => r.sensor != 4 && used.contains r.ch)
  (l.filter (!·.paired) ++ l.filter (·.paired)).foldl (fun s r =>
    s.each (List.range 16) fun s _ => if (s.chan r.ch).stamp ≤ upTo then s.processStamp r else s) s

/-- The channel has a modulator: its clock runs and SENS makes it no pulse input (R142, R143, R155). -/
def State.modChannel (s : State) (n : Nat) : Bool := s.meu.mclk.isSome && ((s.sens n).map fun r => decide (r.sensor ≠ 4)).getD false

/-- The elements that use a channel (R170). -/
def State.elemsUsing (s : State) (n : Nat) : List Nat := (List.range 25).filter fun e => (s.usedBy e).contains n

/-- FAULT of an element follows MODF of its channels; an outlet whose fault ends stays unavailable for 10 s more (R170). -/
def State.faultShow (s : State) (e : Nat) : State :=
  let ends := s.flag .MEU_ESTAT_FAULT e && !s.elemFault e
  let s := s.putFlag .MEU_ESTAT_FAULT e (s.elemFault e)
  if ends then { s with meu := { s.meu with faultUntil := update 0 s.meu.faultUntil e (s.now + msec 10000) } } else s

/-- FAULT of the elements that use a channel (R170). -/
def State.faultRefresh (s : State) (n : Nat) : State := s.each (s.elemsUsing n) State.faultShow

/-- A channel enters modulator fault: detail 1 for a stuck bitstream, 2 without MCKRk (R143, R172); the outlets that use it end their sessions (R170). -/
def State.modFault (s : State) (n detail : Nat) : State :=
  let s := (s.putFlag .MEU_CHSTAT_MODF n true).put .MEU_STATUS_MODF 0 1
  ((s.faultRefresh n).raise2 0x1201 n detail).degrade

/-- MODULATOR_FAULT (R143): 1 µs without an edge of MCKRk, or 256 equal bits in a row. -/
def execModulatorFault (n : Fin 64) (noClock : Bool) (s : State) : Out :=
  if s.failed 0x12 || !s.modChannel n || !(noClock || (s.chan n).eqRun == 256) then .next s
  else
    let s := s.onlyIf noClock fun s => s.setChan n { s.chan n with noClk := true }
    .next (if s.flag .MEU_CHSTAT_MODF n then s else s.modFault n (if noClock then 2 else 1))

/-- MODULATOR_FAULT_END (R143): neither condition has held for 10 ms. -/
def execModulatorFaultEnd (n : Fin 64) (s : State) : Out :=
  let c := s.chan n
  if s.failed 0x12 || !s.flag .MEU_CHSTAT_MODF n || c.noClk || c.eqRun == 256 then .next s
  else .next ((((s.moveTo (c.badAt + msec 10)).putFlag .MEU_CHSTAT_MODF n false).faultRefresh n).raise2 0x1202 n 0)

/-- An RMS window ends (R154). DESIGN CHOICE (log entry 37): rounded to nearest. -/
def State.endRms (s : State) (n : Nat) : State :=
  let c := s.chan n
  let s := s.onlyIf (decide (0 < c.cnt)) fun s => s.put .MEU_CHRMS_RMS n ((Nat.sqrt (4 * c.sumSq / c.cnt) + 1) / 2)
  s.setChan n { c with sumSq := c.tailSq, cnt := c.tailCnt, tailSq := 0, tailCnt := 0, cycles := 0 }

/-- A valid crossing of an element's reference voltage has been placed: a cycle of the RMS windows of its channels (R154). -/
def State.rmsCycle (s : State) (e : Nat) : State :=
  s.each (s.rmsOf e) fun s n =>
    let c := s.chan n
    if s.eff .MEU_CHCTL_RMSCYC n ≤ c.cycles + 1 then s.endRms n
    else s.setChan n { c with cycles := c.cycles + 1, sumSq := c.sumSq + c.tailSq, cnt := c.cnt + c.tailCnt, tailSq := 0, tailCnt := 0 }

/-- The apparent energy of a pair with 64 extra fraction bits: √(Σv² × Σi²) × EK (R159). -/
def apparent (p : PairSum) (ek : Int × Int) : Nat :=
  let e := 2 * (ek.2 + 40 + 64)
  let x := p.sv * p.si * ek.1.natAbs ^ 2
  if 0 ≤ e then Nat.sqrt (x * 2 ^ e.toNat) else Nat.sqrt (x / 2 ^ (-e).toNat)

/-- A mean power in 0.1 W from an energy in accumulator LSBs over a length in 1/64,000 s (R159). -/
def meanPower (x : Int) (len : Nat) : Int := if len = 0 then 0 else roundHalfUp (x * 36 * 64000) (2 ^ 40 * len)

/-- Fraction bits of the compensation's arithmetic. DESIGN CHOICE (log entry 37): R146 gives the formulas in real numbers and no precision. -/
def cb : Nat := 100

/-- sin x and cos x for small x, by their series. -/
def sinCos (x : Int) : Int × Int :=
  let x2 := fixMul cb x x
  let go := fun (first : Int) (odd : Nat) =>
    ((List.range 16).foldl (fun (a : Int × Int) k =>
      let t := -(fixMul cb a.2 x2) / (((2 * k + 1 + odd) * (2 * k + 2 + odd) : Nat) : Int)
      (a.1 + t, t)) (first, first)).1
  (go x 1, go (2 ^ cb) 0)

/-- atan x for |x| < 1, by its series. -/
def arcTan (x : Int) : Int :=
  let x2 := fixMul cb x x
  ((List.range 64).foldl (fun (a : Int × Int) k => let t := -(fixMul cb a.2 x2); (a.1 + t / ((2 * k + 3 : Nat) : Int), t)) (x, x)).1

/-- ω = 2πf ÷ F, with f in mHz (R146). -/
def lineAngle (f rate : Nat) : Int := ((7964883625991394727376702227904 * f / (1000 * rate) : Nat) : Int)

/-- 1 − a × e^(−jω) for a = 1 − 2^−INTK: its real part, and a × sin ω (R146). -/
def leakVector (intk : Nat) (w : Int) : Int × Int :=
  let k := (2 ^ cb / 2 ^ intk : Int)
  let a := 2 ^ cb - k
  (k + fixMul cb a (2 ^ cb - (sinCos w).2), fixMul cb a (sinCos w).1)

/-- The gain factor Gc of the Rogowski compensation in 2^-60 (R146): |F ÷ (j2πf)| ÷ |H(f)|, whose square is
2 × |1 − a × e^(−jω)|² ÷ (ω² × (1 + cos ω)). -/
def rogowskiGain (intk f rate : Nat) : Nat :=
  let w := lineAngle f rate
  let v := leakVector intk w
  let num := 2 * (fixMul cb v.1 v.1 + fixMul cb v.2 v.2)
  let den := fixMul cb (fixMul cb w w) (2 ^ cb + (sinCos w).2)
  Nat.sqrt (num.toNat * 2 ^ 120 / max 1 den.toNat)

/-- The window shift ID of the Rogowski compensation (R146): θ × 256 ÷ ω rounded, halves up, where the phase lead θ of H(f) over the ideal
integrator is the angle whose tangent is (1 − a cos ω) ÷ (a sin ω), less ω ÷ 2. -/
def rogowskiShift (intk f rate : Nat) : Nat :=
  let w := lineAngle f rate
  let v := leakVector intk w
  let th := arcTan (v.1 * 2 ^ cb / max 1 v.2) - w / 2
  (roundHalfUp (256 * th) (max 1 w).toNat).toNat

/-- The shift in force of a Rogowski channel is shown; where DELAY + ID would exceed 2,047 it is held, INTSAT is set and event 0x1206 raised with
detail 2 (R146). -/
def State.showShift (s : State) (n : Nat) : State :=
  let c := s.chan n
  let d := (s.bankNo (s.rd .MEU_STATUS_BANK 0) n).2
  (s.put .MEU_CHINT_ID n (c.idFor d)).onlyIf (decide (2047 < d + c.idRaw)) fun s =>
    ((s.put .MEU_CHSTAT_INTSAT n 1).put .MEU_STATUS_INTSAT 0 1).raise2 0x1206 n 2

/-- The Rogowski channels of an element. -/
def State.coilsOf (s : State) (e : Nat) : List Nat :=
  match s.plan with
  | none => []
  | some p => (p.sens.filter fun r => r.elem == e && r.sensor == 2).map (·.ch)

/-- The integrators of an element are compensated at the line frequency, or at FNOM without one (R146). -/
def State.compensate (s : State) (e : Nat) : State :=
  let f := match s.refOf e with
    | some v => if s.rd .MEU_CHFREQ_FREQ v = 0 then s.meu.fnom * 1000 else s.rd .MEU_CHFREQ_FREQ v
    | none => s.meu.fnom * 1000
  s.each (s.coilsOf e) fun s n =>
    let k := s.rd .MEU_CHINT_INTK n
    (s.setChan n { s.chan n with
      gcNum := rogowskiGain k f s.frontRate, gcDen := 2 ^ 60, idRaw := rogowskiShift k f s.frontRate }).showShift n

/-- The values of a period are copied for the allocator, newest first (R202). -/
def State.copyPeriod (s : State) (e : Nat) (len : Nat) : State :=
  let c : PeriodCopy := ⟨ofTwos 32 (s.rd .MEU_EPWR_P e), ofTwos 32 (s.rd .MEU_EQPWR_Q e), s.rd .MEU_ESTAT_QUAD e, len,
    (s.elem e).acc.map fun x => x / 2 ^ 40, s.now⟩
  { s with alloc := { s.alloc with hist := update [] s.alloc.hist e ((c :: lookup [] s.alloc.hist e).take 80) } }

/-- A direction period of an element ends at a stamp (R159), in the order of the rule; what lies past the stamp begins the next period. One end at
each stamp (R170). -/
def State.endPeriod (s : State) (e stamp : Nat) : State :=
  let x := s.elem e
  if stamp ≤ x.start then s
  else
    let t := x.sums
    let len := stamp - x.start
    let quad := if t.ea < 0 then (if t.er < 0 then 2 else 1) else (if t.er < 0 then 3 else 0)
    let y := if t.ea < 0 then x.add 2 (-t.ea) else x.add 1 t.ea
    let y := y.add (3 + quad) t.er.natAbs
    let ap := (s.pairsOf e).map fun i =>
      match s.sens i.pair with
      | some v => apparent (lookup {} t.pairs i.ch) (s.ek v i stamp)
      | none => 0
    let y := if s.isDc e then y else y.add 7 (roundHalfUp (ap.sum : Nat) (2 ^ 64))
    let s := s.setElem e { y with sums := x.tail, tail := {}, split := none, ending := false, start := stamp }
    let s := (s.put .MEU_EPWR_P e (toTwos 32 (meanPower t.ea len))).put .MEU_EQPWR_Q e (toTwos 32 (meanPower t.er len))
    (((s.put .MEU_ESTAT_QUAD e quad).showEnergy e [0, 1, 2, 3, 4, 5, 6, 7, 8]).copyPeriod e len).compensate e

/-- The period that a valid crossing ends; on an element with a DC pair, whose periods run on the 20 ms grid (R159), it ends a cycle of the RMS windows
alone (R154). -/
def State.endAtSplit (s : State) (e : Nat) : State :=
  let x := s.elem e
  match x.split with
  | some t =>
    if s.isDc e then (s.setElem e { x with sums := x.sums.join x.tail, tail := {}, split := none, ending := false }).rmsCycle e
    else (s.endPeriod e t).rmsCycle e
  | none => s.rmsCycle e

/-- The direction period of an element ends at the present instant, by the 20 ms grid or forced (R159, R164, R165); a valid crossing before it ends
one first. DEDUCED (log entry 37): the samples stamped up to the instant whose front samples have arrived are taken first, since they belong to the
period that ends; one whose front sample comes later belongs to the next. -/
def State.endNow (s : State) (e : Nat) : State :=
  let s := s.catchUp e (s.stampOf s.now)
  let s := if (s.elem e).ending then s.endAtSplit e else s.dropSplit e
  s.endPeriod e (s.stampOf s.now)

/-- A crossing interval in 1/16,384,000 s is valid from 1/70 s to 1/40 s (R153). -/
def validInterval (d : Nat) : Bool := 16384000 ≤ d * 70 && d * 40 ≤ 16384000

/-- A positive-going crossing at an instant in 1/16,384,000 s: frequency, validity and the end of a timeout (R153). -/
def State.crossing (s : State) (n at_ : Nat) : State :=
  let c := s.chan n
  let d := at_ - c.lastCross.getD at_
  let valid := c.lastCross.isSome && validInterval d
  let run := if valid then c.validRun + 1 else 0
  let s := s.setChan n { c with
    lastCross := some at_, period := if valid then d else c.period, validRun := run, validAt := if valid then s.epoch + at_ * 15625 / 256 else c.validAt }
  if !valid then s
  else
    let s := s.onlyIf (s.flag .MEU_CHSTAT_ZXTO n && decide (2 ≤ run)) fun s =>
      let s := (s.putFlag .MEU_CHSTAT_ZXTO n false).raise2 0x1205 n 0
      s.each (s.elemsOfRef n) fun s e => s.putFlag .MEU_ESTAT_ZXTO e false
    if s.flag .MEU_CHSTAT_ZXTO n then s else s.put .MEU_CHFREQ_FREQ n (16384000000 / d)

/-- The channel is a voltage channel of QTY 0 to 2, on which crossings are placed (R153). -/
def State.crossChannel (s : State) (n : Nat) : Bool := ((s.sens n).map fun r => decide (r.qty ≤ 2)).getD false

/-- ZERO_CROSSING_TIMEOUT (R153): no valid crossing within ZXTO. -/
def execZeroCrossingTimeout (n : Fin 64) (s : State) : Out :=
  if s.failed 0x12 || s.meu.mclk.isNone || s.flag .MEU_CHSTAT_ZXTO n || !s.crossChannel n then .next s
  else
    let s := s.moveTo ((s.chan n).validAt + msec (10 * s.rd .MEU_CHCTL_ZXTO n))
    let s := ((s.putFlag .MEU_CHSTAT_ZXTO n true).put .MEU_STATUS_ZXTO 0 1).put .MEU_CHFREQ_FREQ n 0
    let s := (s.setChan n { s.chan n with validRun := 0 }).each (s.elemsOfRef n) fun s e => s.putFlag .MEU_ESTAT_ZXTO e true
    .next (s.raise2 0x1204 n 0)

/-- PULSE_COUNTED (R155): the land has been high for 10 ms, after 10 ms low since the pulse before. The energy follows in the channel's next slice. -/
def execPulseCounted (n : Fin 64) (s : State) : Out :=
  if s.failed 0x12 || ((s.sens n).map (·.sensor)) != some 4 then .next s
  else
    let c := s.chan n
    let s := s.moveTo ((c.pulseAt.map (· + msec 20)).getD 0)
    .next ((s.setChan n { c with pulses := c.pulses + 1, pulseAt := some s.now }).put .MEU_CHSAMP_SAMPLE n
      ((s.rd .MEU_CHSAMP_SAMPLE n + 1) % 2 ^ 32))

/-- SHORT_PULSE_REJECTED (R155). -/
def execShortPulseRejected (n : Fin 64) (s : State) : Out :=
  .next (if !s.failed 0x12 && ((s.sens n).map (·.sensor)) == some 4 then s.put .MEU_CHSTAT_PLSREJ n 1 else s)

/-- PKCLR (R154). -/
def execPkclr (n : Fin 64) (s : State) : Out := .next (s.put .MEU_CHPEAK_PEAK n 0)

/-- The elements that the plan gives channels. -/
def State.liveElems (s : State) : List Nat := (List.range 25).filter fun e => !(s.usedBy e).isEmpty

/-- The metering boundary's number: boundaries of 125 µs since the epoch. -/
def State.boundaryNo (s : State) : Nat := (s.now - s.epoch) / 125000

/-- The reference voltage of an element is in timeout. -/
def State.refTimeout (s : State) (e : Nat) : Bool :=
  match s.refOf e with
  | some v => s.flag .MEU_CHSTAT_ZXTO v
  | none => true

/-- The element's period ends at the boundary of its own accord: every 20 ms on DC elements, without a paired voltage channel, and in
timeout (R159). -/
def State.ends20ms (s : State) (e : Nat) : Bool := s.boundaryNo % 160 == 0 && (s.isDc e || s.refTimeout e)

/-- RMS windows of 200 ms on DC channels, channels without an element and during timeout (R154). -/
def State.fixedRms (s : State) : State :=
  if s.boundaryNo % 1600 ≠ 0 then s
  else match s.plan with
    | none => s
    | some p => s.each ((p.sens.filter fun r => r.sensor != 4 && (r.qty == 3 || r.qty == 8 || 24 < r.elem || s.refTimeout r.elem)).map (·.ch)) fun s n => s.endRms n

/-- RMSCYC and BANKSEL take effect at the boundary (R14, R150); a changed RMSCYC discards the partial window. Stamps from the boundary on use the
new bank. -/
def State.bankSwap (s : State) : State :=
  let s := s.each (List.range 64) fun s n =>
    if s.rd .MEU_CHCTL_RMSCYC n = s.eff .MEU_CHCTL_RMSCYC n then s
    else (s.apply .MEU_CHCTL_RMSCYC n).setChan n { s.chan n with sumSq := 0, cnt := 0, cycles := 0, tailSq := 0, tailCnt := 0 }
  let s := s.apply .MEU_CTL_BANKSEL 0
  let bank := s.eff .MEU_CTL_BANKSEL 0
  if bank = s.rd .MEU_STATUS_BANK 0 then s
  else
    let s : State := { s with meu := { s.meu with bankAt := s.stampOf s.now } }
    let s := (s.put .MEU_STATUS_BANK 0 bank).raise2 0x1207 0 bank
    s.each ((List.range 25).flatMap s.coilsOf) State.showShift

/-- A one-second write to Basecamp MRAM (R165). -/
def State.oneSecondWrite (s : State) : State := { s with meu := { s.meu with saved := s.elems, savedAt := s.ltime } }

/-- FAULTT counts the seconds of elements in fault (R170). -/
def State.faultSeconds (s : State) : State :=
  s.each s.liveElems fun s e => if s.elemFault e then s.count .MEU_ESTAT_FAULTT e else s

/-- MEU_FREEZE (R165): 4.0 ms after t_pf every element's period ends and accumulation stops; the MEU's part of the commit is complete, with
MEU_EPWRe at the freeze. -/
def State.meuFreeze (s : State) : State :=
  let s := s.each s.liveElems State.endNow
  { s with meu := { s.meu with
    frozen := true, committed := true, pfOpen := false, saved := s.elems, savedAt := s.ltime
    pfPwr := s.liveElems.foldl (fun t e => update 0 t e (s.rd .MEU_EPWR_P e)) [] } }

/-- What a cold start of the MEU restores (R166): the power-fail commit, or else the last one-second write with CKPTR and event 0x1209. -/
def State.meuRestore (s : State) : State :=
  let lost := (s.bcu.tpfLt - s.meu.savedAt) * 10 / 65536
  let complete := !s.meu.pfOpen
  let s := { s with elems := mapTab {} (fun e => { ({} : Elem) with acc := e.acc, sums := e.sums.join e.tail }) (if complete then s.elems else s.meu.saved)
                    meu := { s.meu with frozen := false, ember := false, emberAt := 0, pfDue := false, committed := false, pfOpen := false } }
  let s := if complete then s else s.each (List.range 25) fun s e => s.showEnergy e (List.range 9)
  s.onlyIf (!complete) fun s => (s.put .MEU_STATUS_CKPTR 0 1).raise2 0x1209 0 (min lost 0xFF)

/-- A channel takes its place on the front grid, which runs with MCLKk (R148, R166): its decimator starts in step with the clock, its first three
outputs are discarded (R144; DESIGN CHOICE at a later start than the clock's, log entry 73), and its next stamp lies on its own grid. `ago` is how long
ago in ns it did so. -/
def State.rejoin (s : State) (ago : Nat) (r : SensRec) : State :=
  let c := s.chan r.ch
  let at_ := s.now - ago
  let run := at_ - s.meu.mclk.getD s.now
  let p := max 1 (s.periodFrom r (s.stampOf at_))
  s.setChan r.ch { ({} : Chan) with
    dec := { phase := run % s.frontPeriod * 250 / s.frontPeriod }, front := run / s.frontPeriod, stamp := (s.stampOf at_ / p + 1) * p
    env := c.env, period := c.period, validAt := s.now, badAt := s.now, gcNum := c.gcNum, gcDen := c.gcDen, idRaw := c.idRaw
    pulses := c.pulses, pulseAt := c.pulseAt, calibrated := c.calibrated }

/-- Every channel with a modulator takes its place on the grid, and every element's period starts anew at the present stamp. -/
def State.rejoinAll (s : State) : State :=
  let s := { s with elems := mapTab {} (fun e => { ({} : Elem) with acc := e.acc, sums := e.sums.join e.tail, start := s.stampOf s.now }) s.elems }
  ((s.plan.map fun p => p.sens).getD []).foldl (fun s r => if r.sensor = 4 then s else s.rejoin 0 r) s

/-- MCLK0 to MCLK3 start once the crystal is proven and a plan is active (R142); the metering epoch and every grid count from here (R148), and the
integrators are compensated (R146). -/
def State.mclkStart (s : State) : State :=
  if s.meu.mclk.isSome || s.plan.isNone || !s.flag .CGU_STATUS_XTOK 0 then s
  else
    let s : State := { s with meu := { s.meu with mclk := some s.now, bankAt := 0, emberAt := 0, lastBoundary := none } }
    s.rejoinAll.each (List.range 25) State.compensate

/-- A unit reset of the MEU (R166): period ends on every element, a one-second write, and metering stops. -/
def State.meuReset (s : State) : State :=
  let s := (s.each s.liveElems State.endNow).oneSecondWrite
  { s with meu := { s.meu with stoppedAt := some s.now } }

/-- Metering goes on after a unit reset of the MEU (R166): event 0x120A with the gap in ms up to the first front sample that the unit takes, which
follows three that it discards. -/
def State.meuResume (s : State) : State :=
  match s.meu.stoppedAt with
  | none => s
  | some t =>
    let s : State := { s with meu := { s.meu with stoppedAt := none } }
    s.rejoinAll.raise2 0x120A 0 (min 0xFF (roundDiv (s.now + 4 * s.frontPeriod - t) 1000000))

/-- The 16-byte calibration record of a channel (R168). -/
def State.calBytes (s : State) (n : Nat) : List Nat :=
  leBytes 4 (s.rd .MEU_CHGAIN_GAIN n) ++ leBytes 4 (s.rd .MEU_CHOFFS_OFFS n) ++ leBytes 2 (s.rd .MEU_CHDELAY_DELAY0 n) ++
    leBytes 2 (s.rd .MEU_CHDELAY_DELAY1 n) ++
    [s.rd .MEU_CHBANK_MALEN1 n - 1, s.rd .MEU_CHINT_INTK n, s.rd .MEU_CHINT_RSHIFT n, 0]

/-- The calibration in force as bytes: 64 channel records, FNOM, two zero bytes (R168). -/
def State.calStore (s : State) : List Nat := (List.range 64).flatMap s.calBytes ++ leBytes 2 s.meu.fnom ++ [0, 0]

/-- CALCV shows the check value of the calibration in force (R168). -/
def State.showCal (s : State) : State := s.put .MEU_CALCV_CALCV 0 (crc32c s.calStore)

/-- A channel that no SENS record binds (R172). -/
def State.unbindChannel (s : State) (n : Nat) : State :=
  let s := ((s.put .MEU_CHSTAT_ELEM n 0xFF).put .MEU_CHSTAT_QTY n 0xF).put .MEU_CHSTAT_RATE n 0
  let s := ((s.putFlag .MEU_CHSTAT_MODF n false).putFlag .MEU_CHSTAT_ZXTO n false).put .MEU_CHFREQ_FREQ n 0
  let s := (((s.put .MEU_CHRMS_RMS n 0).put .MEU_CHPEAK_PEAK n 0).put .MEU_CHENV_ENV n 0).put .MEU_CHSAMP_SAMPLE n 0
  s.setChan n { ({} : Chan) with calibrated := (s.chan n).calibrated }

/-- A channel is bound by its SENS record: ELEM, QTY, RATE, MALEN0, and the shipped MALEN1 and INTK of a channel that no sealed calibration has named
(R168). A changed record starts the channel anew. DESIGN CHOICE (log entry 73): those two shipped values follow the record while one binds the channel,
and stay when none does; a channel that becomes a Rogowski channel with an INTK outside 10 to 18 has the shipped 14 (R145), and one that has no
integrator any more 0. -/
def State.bindChannel (s : State) (r : SensRec) (changed : Bool) : State :=
  let n := r.ch
  let s := s.onlyIf changed fun s => s.unbindChannel n
  let s := ((s.put .MEU_CHSTAT_ELEM n r.elem).put .MEU_CHSTAT_QTY n r.qty).put .MEU_CHSTAT_RATE n r.rate
  let s := s.put .MEU_CHBANK_MALEN0 n r.maLen
  let s := s.onlyIf (!(s.chan n).calibrated) fun s =>
    s.put .MEU_CHBANK_MALEN1 n r.maLen
  let k := s.rd .MEU_CHINT_INTK n
  let s := s.put .MEU_CHINT_INTK n (if r.sensor ≠ 2 then 0 else if (s.chan n).calibrated ∧ 10 ≤ k ∧ k ≤ 18 then k else 14)
  let s := s.onlyIf (changed && r.sensor != 4 && s.meu.mclk.isSome) fun s => s.rejoin 0 r
  s.onlyIf (decide (r.elem ≤ 24)) fun s => s.putFlag .MEU_ESTAT_DC r.elem (s.isDc r.elem)

/-- At plan activation the MEU binds its channels, those anew whose record differs from the plan before; FAULT of every element follows (R170), and an
element whose Rogowski channels are new is compensated at once (DESIGN CHOICE, log entry 73). -/
def State.meuBind (s : State) (old : Option Plan) : State :=
  let new := fun (n : Nat) => decide ((old.bind fun p => p.sens.find? (·.ch == n)) ≠ s.sens n)
  let fresh := (List.range 25).filter fun e => (s.coilsOf e).any new
  let s := s.each (List.range 64) fun s n =>
    match s.sens n with
    | none => s.unbindChannel n
    | some r => s.bindChannel r (new n)
  (((s.each (List.range 25) State.dropSplit).each fresh State.compensate).each (List.range 25) State.faultShow).mclkStart.showCal

end Sys2Proof.Machine
end

