-- ==== Sys2Proof/Machine/Hash.lean ====
section
/-! DEFINITION. The hash functions that the spec names: SHA-256, SHA-384 and SHA-512 (FIPS 180-4), SHAKE256 (FIPS 202), and HMAC. -/

namespace Sys2Proof.Machine

open Sys2Proof

/-- The bytes of a number, most significant first. -/
def beBytes (n v : Nat) : List Nat := (List.range n).map fun i => v / 256 ^ (n - 1 - i) % 256

/-- The number that bytes spell, most significant first. -/
def fromBe (l : List Nat) : Nat := l.foldl (fun a b => a * 256 + b) 0

/-- The round constants of SHA-512; their upper halves are those of SHA-256. -/
def shaConsts : List Nat :=
  [0x428A2F98D728AE22, 0x7137449123EF65CD, 0xB5C0FBCFEC4D3B2F, 0xE9B5DBA58189DBBC,
   0x3956C25BF348B538, 0x59F111F1B605D019, 0x923F82A4AF194F9B, 0xAB1C5ED5DA6D8118,
   0xD807AA98A3030242, 0x12835B0145706FBE, 0x243185BE4EE4B28C, 0x550C7DC3D5FFB4E2,
   0x72BE5D74F27B896F, 0x80DEB1FE3B1696B1, 0x9BDC06A725C71235, 0xC19BF174CF692694]
  ++ [0xE49B69C19EF14AD2, 0xEFBE4786384F25E3, 0x0FC19DC68B8CD5B5, 0x240CA1CC77AC9C65,
      0x2DE92C6F592B0275, 0x4A7484AA6EA6E483, 0x5CB0A9DCBD41FBD4, 0x76F988DA831153B5,
      0x983E5152EE66DFAB, 0xA831C66D2DB43210, 0xB00327C898FB213F, 0xBF597FC7BEEF0EE4,
      0xC6E00BF33DA88FC2, 0xD5A79147930AA725, 0x06CA6351E003826F, 0x142929670A0E6E70]
  ++ [0x27B70A8546D22FFC, 0x2E1B21385C26C926, 0x4D2C6DFC5AC42AED, 0x53380D139D95B3DF,
      0x650A73548BAF63DE, 0x766A0ABB3C77B2A8, 0x81C2C92E47EDAEE6, 0x92722C851482353B,
      0xA2BFE8A14CF10364, 0xA81A664BBC423001, 0xC24B8B70D0F89791, 0xC76C51A30654BE30,
      0xD192E819D6EF5218, 0xD69906245565A910, 0xF40E35855771202A, 0x106AA07032BBD1B8]
  ++ [0x19A4C116B8D2D0C8, 0x1E376C085141AB53, 0x2748774CDF8EEB99, 0x34B0BCB5E19B48A8,
      0x391C0CB3C5C95A63, 0x4ED8AA4AE3418ACB, 0x5B9CCA4F7763E373, 0x682E6FF3D6B2B8A3,
      0x748F82EE5DEFB2FC, 0x78A5636F43172F60, 0x84C87814A1F0AB72, 0x8CC702081A6439EC,
      0x90BEFFFA23631E28, 0xA4506CEBDE82BDE9, 0xBEF9A3F7B2C67915, 0xC67178F2E372532B]
  ++ [0xCA273ECEEA26619C, 0xD186B8C721C0C207, 0xEADA7DD6CDE0EB1E, 0xF57D4F7FEE6ED178,
      0x06F067AA72176FBA, 0x0A637DC5A2C898A6, 0x113F9804BEF90DAE, 0x1B710B35131C471B,
      0x28DB77F523047D84, 0x32CAAB7B40C72493, 0x3C9EBE0A15C9BEBC, 0x431D67C49C100D4C,
      0x4CC5D4BECB3E42B6, 0x597F299CFC657E2A, 0x5FCB6FAB3AD6FAEC, 0x6C44198C4A475817]

/-- The initial value of SHA-512; its upper halves are that of SHA-256. -/
def shaInit : List Nat :=
  [0x6A09E667F3BCC908, 0xBB67AE8584CAA73B, 0x3C6EF372FE94F82B, 0xA54FF53A5F1D36F1,
   0x510E527FADE682D1, 0x9B05688C2B3E6C1F, 0x1F83D9ABFB41BD6B, 0x5BE0CD19137E2179]

/-- The initial value of SHA-384. -/
def shaInit384 : List Nat :=
  [0xCBBB9D5DC1059ED8, 0x629A292A367CD507, 0x9159015A3070DD17, 0x152FECD8F70E5939,
   0x67332667FFC00B31, 0x8EB44A8768581511, 0xDB0C2E0D64F98FA7, 0x47B5481DBEFA4FA4]

/-- One of the two word widths of FIPS 180-4: the width, the bytes of a block, and the rotations of the two large and the two small functions, of
which the last of each small one is a shift. -/
structure ShaKind where
  w : Nat
  block : Nat
  big0 : Nat × Nat × Nat
  big1 : Nat × Nat × Nat
  small0 : Nat × Nat × Nat
  small1 : Nat × Nat × Nat
  deriving DecidableEq, Repr

/-- SHA-256. -/
def shaNarrow : ShaKind := ⟨32, 64, (2, 13, 22), (6, 11, 25), (7, 18, 3), (17, 19, 10)⟩

/-- SHA-384 and SHA-512. -/
def shaWide : ShaKind := ⟨64, 128, (28, 34, 39), (14, 18, 41), (1, 8, 7), (19, 61, 6)⟩

/-- A word rotated to the right. -/
def rotR (w n x : Nat) : Nat := x >>> n ||| (x <<< (w - n)) % 2 ^ w

/-- A large function of the rounds: three rotations. -/
def bigSigma (w : Nat) (r : Nat × Nat × Nat) (x : Nat) : Nat := rotR w r.1 x ^^^ rotR w r.2.1 x ^^^ rotR w r.2.2 x

/-- A small function of the message schedule: two rotations and a shift. -/
def smallSigma (w : Nat) (r : Nat × Nat × Nat) (x : Nat) : Nat := rotR w r.1 x ^^^ rotR w r.2.1 x ^^^ x >>> r.2.2

/-- One round on the eight working words, with the round constant and the word of the schedule. -/
def shaRound (k : ShaKind) (c x : Nat) (l : List Nat) : List Nat :=
  let v := fun i => l.getD i 0
  let ch := (v 4 &&& v 5) ^^^ ((2 ^ k.w - 1 - v 4) &&& v 6)
  let maj := (v 0 &&& v 1) ^^^ (v 0 &&& v 2) ^^^ (v 1 &&& v 2)
  let t := v 7 + bigSigma k.w k.big1 (v 4) + ch + c + x
  [(t + bigSigma k.w k.big0 (v 0) + maj) % 2 ^ k.w, v 0, v 1, v 2, (v 3 + t) % 2 ^ k.w, v 4, v 5, v 6]

/-- The rounds, with the next sixteen words of the schedule. -/
def shaRounds (k : ShaKind) : List Nat → List Nat → List Nat → List Nat
  | [], _, l => l
  | c :: r, win, l =>
    let v := fun i => win.getD i 0
    let next := (smallSigma k.w k.small1 (v 14) + v 9 + smallSigma k.w k.small0 (v 1) + v 0) % 2 ^ k.w
    shaRounds k r (win.drop 1 ++ [next]) (shaRound k c (v 0) l)

/-- The words of a block. -/
def shaWords (k : ShaKind) (b : List Nat) : List Nat := (List.range 16).map fun i => fromBe ((b.drop (i * (k.w / 8))).take (k.w / 8))

/-- The hash of the blocks of a padded message, at most `n` of them. -/
def shaBlocks (k : ShaKind) (consts : List Nat) : Nat → List Nat → List Nat → List Nat
  | 0, _, h => h
  | n + 1, m, h =>
    if m.isEmpty then h
    else
      let r := shaRounds k consts (shaWords k m) h
      shaBlocks k consts n (m.drop k.block) ((h.zip r).map fun e => (e.1 + e.2) % 2 ^ k.w)

/-- A message with its padding: one bit, zeros, and the length in bits. -/
def shaPad (k : ShaKind) (m : List Nat) : List Nat :=
  let used := m.length + 1 + k.block / 8
  m ++ [0x80] ++ List.replicate ((k.block - used % k.block) % k.block) 0 ++ beBytes (k.block / 8) (8 * m.length)

/-- The hash of a message from an initial value, as the number that its words spell. -/
def shaHash (k : ShaKind) (consts init m : List Nat) : Nat :=
  let p := shaPad k m
  (shaBlocks k consts (p.length / k.block) p init).foldl (fun a b => a * 2 ^ k.w + b) 0

/-- SHA-256 of bytes, as a number of 256 bits. -/
@[irreducible] def sha256 (m : List Nat) : Nat := shaHash shaNarrow ((shaConsts.take 64).map (· / 2 ^ 32)) (shaInit.map (· / 2 ^ 32)) m

/-- SHA-384 of bytes, as a number of 384 bits. -/
@[irreducible] def sha384 (m : List Nat) : Nat := shaHash shaWide shaConsts shaInit384 m / 2 ^ 128

/-- SHA-512 of bytes, as a number of 512 bits. -/
@[irreducible] def sha512 (m : List Nat) : Nat := shaHash shaWide shaConsts shaInit m

/-- The hash function of a curve and its sizes: 1 SHA-256, 2 SHA-384, else SHA-512. -/
def digestOf (t : Nat) (m : List Nat) : List Nat :=
  if t = 1 then beBytes 32 (sha256 m) else if t = 2 then beBytes 48 (sha384 m) else beBytes 64 (sha512 m)

/-- HMAC under a key of at most a block. -/
def hmacOf (t : Nat) (key m : List Nat) : List Nat :=
  let k := key ++ List.replicate ((if t = 1 then 64 else 128) - key.length) 0
  digestOf t (k.map (· ^^^ 0x5C) ++ digestOf t (k.map (· ^^^ 0x36) ++ m))

/-- The round constants of Keccak. -/
def keccakConsts : List Nat :=
  [0x0000000000000001, 0x0000000000008082, 0x800000000000808A, 0x8000000080008000,
   0x000000000000808B, 0x0000000080000001, 0x8000000080008081, 0x8000000000008009,
   0x000000000000008A, 0x0000000000000088, 0x0000000080008009, 0x000000008000000A,
   0x000000008000808B, 0x800000000000008B, 0x8000000000008089, 0x8000000000008003,
   0x8000000000008002, 0x8000000000000080, 0x000000000000800A, 0x800000008000000A,
   0x8000000080008081, 0x8000000000008080, 0x0000000080000001, 0x8000000080008008]

/-- The rotations of Keccak's lanes, lane x + 5 y. -/
def keccakRots : List Nat := [0, 1, 62, 28, 27, 36, 44, 6, 55, 20, 3, 10, 43, 25, 39, 41, 45, 15, 21, 8, 18, 2, 61, 56, 14]

/-- One round of Keccak-f[1600] on 25 lanes. -/
def keccakRound (l : List Nat) (c : Nat) : List Nat :=
  let rot := fun n x => if n = 0 then x else rotR 64 (64 - n) x
  let col := (List.range 5).map fun x => (List.range 5).foldl (fun a y => a ^^^ l.getD (x + 5 * y) 0) 0
  let l := (List.range 25).map fun i => l.getD i 0 ^^^ col.getD ((i + 4) % 5) 0 ^^^ rot 1 (col.getD ((i + 1) % 5) 0)
  let l := (List.range 25).map fun i =>
    let j := (i % 5 + 3 * (i / 5)) % 5 + 5 * (i % 5)
    rot (keccakRots.getD j 0) (l.getD j 0)
  (List.range 25).map fun i =>
    let v := fun d => l.getD ((i + d) % 5 + i / 5 * 5) 0
    v 0 ^^^ ((2 ^ 64 - 1 - v 1) &&& v 2) ^^^ if i = 0 then c else 0

/-- Bytes absorbed at a rate of 136, at most `n` blocks. -/
def keccakAbsorb : Nat → List Nat → List Nat → List Nat
  | 0, _, l => l
  | n + 1, m, l =>
    if m.isEmpty then l
    else
      let lane := fun i => fromBe ((((m.take 136).drop (8 * i)).take 8).reverse)
      keccakAbsorb n (m.drop 136) (keccakConsts.foldl keccakRound ((List.range 25).map fun i => l.getD i 0 ^^^ lane i))

/-- The first 114 bytes of SHAKE256 of bytes. -/
@[irreducible] def shake256 (m : List Nat) : List Nat :=
  let k := 136 - m.length % 136
  let p := if k = 1 then m ++ [0x9F] else m ++ [0x1F] ++ List.replicate (k - 2) 0 ++ [0x80]
  ((keccakAbsorb (p.length / 136) p (List.replicate 25 0)).flatMap fun v => (beBytes 8 v).reverse).take 114

end Sys2Proof.Machine
end

