-- ==== Sys2Proof/Machine/Curve.lean ====
section
/-! DEFINITION. The signatures that the spec names (R52, R338, R411): ECDSA over P-256, P-384 and P-521 with the nonces of RFC 6979 (FIPS 186-5), and
Ed448 of RFC 8032. -/

namespace Sys2Proof.Machine

open Sys2Proof

/-- A power modulo `m`, over the low `k` bits of the exponent. -/
def powMod (m : Int) : Nat → Int → Nat → Int
  | 0, _, _ => 1
  | k + 1, b, e => (if e % 2 = 1 then b else 1) * powMod m k (b * b % m) (e / 2) % m

/-- The inverse modulo a prime. -/
def invMod (p : Nat) (a : Int) : Int := powMod p p.log2.succ (a % p) (p - 2)

/-- A prime curve y² = x³ − 3x + b: the field, the order, the generator, and the bytes of a coordinate. -/
structure Curve where
  p : Nat
  n : Nat
  b : Nat
  gx : Nat
  gy : Nat
  len : Nat
  deriving DecidableEq, Repr

/-- P-256. -/
def curve256 : Curve :=
  { p := 0xFFFFFFFF00000001000000000000000000000000FFFFFFFFFFFFFFFFFFFFFFFF
    n := 0xFFFFFFFF00000000FFFFFFFFFFFFFFFFBCE6FAADA7179E84F3B9CAC2FC632551
    b := 0x5AC635D8AA3A93E7B3EBBD55769886BC651D06B0CC53B0F63BCE3C3E27D2604B
    gx := 0x6B17D1F2E12C4247F8BCE6E563A440F277037D812DEB33A0F4A13945D898C296
    gy := 0x4FE342E2FE1A7F9B8EE7EB4A7C0F9E162BCE33576B315ECECBB6406837BF51F5
    len := 32 }

/-- P-384. -/
def curve384 : Curve :=
  { p := 0xFFFFFFFFFFFFFFFFFFFFFFFFFFFFFFFFFFFFFFFFFFFFFFFFFFFFFFFFFFFFFFFEFFFFFFFF0000000000000000FFFFFFFF
    n := 0xFFFFFFFFFFFFFFFFFFFFFFFFFFFFFFFFFFFFFFFFFFFFFFFFC7634D81F4372DDF581A0DB248B0A77AECEC196ACCC52973
    b := 0xB3312FA7E23EE7E4988E056BE3F82D19181D9C6EFE8141120314088F5013875AC656398D8A2ED19D2A85C8EDD3EC2AEF
    gx := 0xAA87CA22BE8B05378EB1C71EF320AD746E1D3B628BA79B9859F741E082542A385502F25DBF55296C3A545E3872760AB7
    gy := 0x3617DE4A96262C6F5D9E98BF9292DC29F8F41DBD289A147CE9DA3113B5F0B8C00A60B1CE1D7E819D7A431D7C90EA0E5F
    len := 48 }

/-- P-521. -/
def curve521 : Curve :=
  { p := 0x1FFFFFFFFFFFFFFFFFFFFFFFFFFFFFFFFFFFFFFFFFFFFFFFFFFFFFFFFFFFFFFFFFFFFFFFFFFFFFFFFFFFFFFFFFFFFFFFFFFFFFFFFFFFFFFFFFFFFFFFFFFFFFFFFFF
    n := 0x1FFFFFFFFFFFFFFFFFFFFFFFFFFFFFFFFFFFFFFFFFFFFFFFFFFFFFFFFFFFFFFFFFA51868783BF2F966B7FCC0148F709A5D03BB5C9B8899C47AEBB6FB71E91386409
    b := 0x51953EB9618E1C9A1F929A21A0B68540EEA2DA725B99B315F3B8B489918EF109E156193951EC7E937B1652C0BD3BB1BF073573DF883D2C34F1EF451FD46B503F00
    gx := 0xC6858E06B70404E9CD9E3ECB662395B4429C648139053FB521F828AF606B4D3DBAA14B5E77EFE75928FE1DC127A2FFA8DE3348B3C1856A429BF97E7E31C2E5BD66
    gy := 0x11839296A789A3BC0045C8A5FB42C7D1BD998F54449579B446817AFBD17273E662C97EE72995EF42640C550B9013FAD0761353C7086A272C24088BE94769FD16650
    len := 66 }

/-- The curve of a KTYPE (R404). -/
def curveOf (t : Nat) : Curve := if t = 1 then curve256 else if t = 2 then curve384 else curve521

/-- A point in three coordinates: (X : Y : Z) stands for (X ÷ Z², Y ÷ Z³) on a prime curve and for (X ÷ Z, Y ÷ Z) on the Edwards curve. -/
structure CPoint where
  x : Int
  y : Int
  z : Int
  deriving DecidableEq, Repr

/-- A point doubled. -/
def Curve.double (c : Curve) (a : CPoint) : CPoint :=
  let d := a.z * a.z
  let g := a.y * a.y % c.p
  let b := a.x * g
  let al := 3 * (a.x - d) * (a.x + d) % c.p
  let x := (al * al - 8 * b) % c.p
  ⟨x, (al * (4 * b - x) - 8 * g * g) % c.p, ((a.y + a.z) * (a.y + a.z) - g - d) % c.p⟩

/-- The sum of two points; Z = 0 is the point at infinity. -/
def Curve.add (c : Curve) (a b : CPoint) : CPoint :=
  if a.z = 0 then b else if b.z = 0 then a
  else
    let za := a.z * a.z % c.p
    let zb := b.z * b.z % c.p
    let u := a.x * zb % c.p
    let s := a.y * zb * b.z % c.p
    let h := (b.x * za - u) % c.p
    let r := (b.y * za * a.z - s) % c.p
    if h = 0 then if r = 0 then c.double a else ⟨1, 1, 0⟩
    else
      let hh := h * h % c.p
      let x := (r * r - h * hh - 2 * u * hh) % c.p
      ⟨x, (r * (u * hh - x) - s * h * hh) % c.p, h * a.z * b.z % c.p⟩

/-- A multiple of a point, over the low `k` bits of the factor. -/
def Curve.times (c : Curve) : Nat → Nat → CPoint → CPoint
  | 0, _, _ => ⟨1, 1, 0⟩
  | k + 1, e, a =>
    let r := c.times k (e / 2) (c.double a)
    if e % 2 = 1 then c.add a r else r

/-- The generator. -/
def Curve.gen (c : Curve) : CPoint := ⟨c.gx, c.gy, 1⟩

/-- A multiple of a point. -/
def Curve.mul (c : Curve) (e : Nat) (a : CPoint) : CPoint := c.times c.n.log2.succ e a

/-- The affine coordinates of a finite point. -/
def Curve.affine (c : Curve) (a : CPoint) : Nat × Nat :=
  let i := invMod c.p a.z
  ((a.x * i * i % c.p).toNat, (a.y * i * i * i % c.p).toNat)

/-- The point of an uncompressed public key (R405), where it is one of the curve. -/
def Curve.read (c : Curve) (pub : List Nat) : Option CPoint :=
  let x := fromBe ((pub.drop 1).take c.len)
  let y := fromBe (pub.drop (1 + c.len))
  if pub.length = 1 + 2 * c.len ∧ pub.head? = some 4 ∧ x < c.p ∧ y < c.p ∧ ((y * y : Int) - x * x * x + 3 * x - c.b) % c.p = 0 then some ⟨x, y, 1⟩ else none

/-- The bits of the order. -/
def Curve.bits (c : Curve) : Nat := c.n.log2 + 1

/-- The leftmost bits of a digest, as many as the order has. -/
def Curve.leftBits (c : Curve) (l : List Nat) : Nat := fromBe l / 2 ^ (8 * l.length - c.bits)

/-- ECDSA verification: `t` is the KTYPE of the private key, which fixes curve and hash. -/
def ecdsaVerifies (t : Nat) (pub msg sig : List Nat) : Bool :=
  let c := curveOf t
  let r := fromBe (sig.take c.len)
  let s := fromBe (sig.drop c.len)
  match c.read pub with
  | none => false
  | some q =>
    if sig.length ≠ 2 * c.len ∨ r = 0 ∨ c.n ≤ r ∨ s = 0 ∨ c.n ≤ s then false
    else
      let w := invMod c.n s
      let u := (w * c.leftBits (digestOf t msg) % c.n).toNat
      let v := (w * r % c.n).toNat
      let x := c.add (c.mul u c.gen) (c.mul v q)
      x.z != 0 && (c.affine x).1 % c.n == r

/-- The signature with a nonce; nothing where the nonce does not serve. -/
def ecdsaWith (c : Curve) (d e k : Nat) : Option (List Nat) :=
  if k = 0 ∨ c.n ≤ k then none
  else
    let r := (c.affine (c.mul k c.gen)).1 % c.n
    let s := (invMod c.n k * (e + r * d) % c.n).toNat
    if r = 0 ∨ s = 0 then none else some (beBytes c.len r ++ beBytes c.len s)

/-- The nonces of RFC 6979 one after the other, at most `n` of them, until one serves. -/
def ecdsaTry (t d e : Nat) : Nat → List Nat → List Nat → List Nat
  | 0, _, _ => []
  | n + 1, key, v =>
    let c := curveOf t
    let v1 := hmacOf t key v
    let v2 := if t = 3 then hmacOf t key v1 else v1
    match ecdsaWith c d e (c.leftBits (if t = 3 then v1 ++ v2 else v1)) with
    | some sig => sig
    | none =>
      let key := hmacOf t key (v2 ++ [0])
      ecdsaTry t d e n key (hmacOf t key v2)

/-- The ECDSA signature of a message. -/
def ecdsaSign (t d : Nat) (msg : List Nat) : List Nat :=
  let c := curveOf t
  let e := c.leftBits (digestOf t msg)
  let x := beBytes c.len d ++ beBytes c.len (e % c.n)
  let len := (digestOf t msg).length
  let v := List.replicate len 1
  let key := hmacOf t (List.replicate len 0) (v ++ [0] ++ x)
  let v := hmacOf t key v
  let key := hmacOf t key (v ++ [1] ++ x)
  ecdsaTry t d e 64 key (hmacOf t key v)

/-- The field of Ed448. -/
def edField : Nat := 2 ^ 448 - 2 ^ 224 - 1

/-- The order of Ed448's base point. -/
def edOrder : Nat := 2 ^ 446 - 13818066809895115352007386748515426880336692474882178609894547503885

/-- The base point of Ed448. -/
def edBase : CPoint :=
  ⟨0x4F1970C66BED0DED221D15A622BF36DA9E146570470F1767EA6DE324A3D3A46412AE1AF72AB66511433B80E18B00938E2626A82BC70CC05E,
    0x693F46716EB6BC248876203756C9C7624BEA73736CA3984087789C1E05A0C2D73AD3FF1CE67C39C4FDBD132C4ED7C8AD9808795BF230FA14, 1⟩

/-- The sum of two points of the Edwards curve x² + y² = 1 − 39081 x² y². -/
def edAdd (a b : CPoint) : CPoint :=
  let p : Int := edField
  let z := a.z * b.z % p
  let s := z * z % p
  let c := a.x * b.x % p
  let d := a.y * b.y % p
  let e := -39081 * c * d % p
  ⟨z * (s - e) * ((a.x + a.y) * (b.x + b.y) - c - d) % p, z * (s + e) * (d - c) % p, (s - e) * (s + e) % p⟩

/-- A multiple of a point, over the low `k` bits of the factor. -/
def edTimes : Nat → Nat → CPoint → CPoint
  | 0, _, _ => ⟨0, 1, 1⟩
  | k + 1, e, a =>
    let r := edTimes k (e / 2) (edAdd a a)
    if e % 2 = 1 then edAdd a r else r

/-- The 57 bytes of a point. -/
def edEncode (a : CPoint) : List Nat :=
  let i := invMod edField a.z
  let x := (a.x * i % edField).toNat
  let y := (a.y * i % edField).toNat
  (beBytes 57 (y + x % 2 * 2 ^ 455)).reverse

/-- The point of 57 bytes, where they are one's. -/
def edDecode (l : List Nat) : Option CPoint :=
  let v := fromBe l.reverse
  let y := v % 2 ^ 455
  let p : Int := edField
  let u : Int := ((y * y : Nat) - 1 : Int) % p
  let w : Int := (-39081 * (y * y : Nat) - 1) % p
  let x := u * u * u * w * powMod p 448 (u * u * u * u * u * w * w * w % p) ((edField - 3) / 4) % p
  if l.length ≠ 57 ∨ edField ≤ y ∨ w * x * x % p ≠ u ∨ (x = 0 ∧ v / 2 ^ 455 = 1) then none
  else some ⟨if x % 2 = (v / 2 ^ 455 : Nat) then x else p - x, y, 1⟩

/-- The number of SHAKE256 over bytes under the empty context of Ed448, modulo the order. -/
def edHash (l : List Nat) : Nat := fromBe (shake256 ([0x53, 0x69, 0x67, 0x45, 0x64, 0x34, 0x34, 0x38, 0, 0] ++ l)).reverse % edOrder

/-- Ed448 verification by the group equation with the cofactor, which RFC 8032 puts first. -/
def edVerifies (pub msg sig : List Nat) : Bool :=
  let s := fromBe (sig.drop 57).reverse
  match edDecode pub, edDecode (sig.take 57) with
  | some a, some r =>
    let k := edHash (sig.take 57 ++ pub ++ msg)
    let left := edTimes 448 (4 * s) edBase
    let right := edTimes 3 4 (edAdd r (edTimes 446 k a))
    sig.length = 114 && decide (s < edOrder) && (left.x * right.z - right.x * left.z) % edField == 0 && (left.y * right.z - right.y * left.z) % edField == 0
  | _, _ => false

/-- The Ed448 signature by a scalar and its nonce prefix. -/
def edSign (d : Nat) (pre msg : List Nat) : List Nat :=
  let r := edHash (pre ++ msg)
  let rb := edEncode (edTimes 446 r edBase)
  let k := edHash (rb ++ edEncode (edTimes 446 d edBase) ++ msg)
  rb ++ (beBytes 57 ((r + k * d) % edOrder)).reverse

/-- Whether a signature verifies under a public key: 1 to 3 ECDSA by KTYPE, which ALG 2 and 3 of R52 are too, 4 Ed448. -/
@[irreducible] def verifies (t : Nat) (pub msg sig : List Nat) : Bool := if t = 4 then edVerifies pub msg sig else ecdsaVerifies t pub msg sig

/-- The public key of a private scalar (R405): the uncompressed point, or the 57 bytes of Ed448. -/
@[irreducible] def publicKey (t d : Nat) : List Nat :=
  if t = 4 then edEncode (edTimes 446 d edBase)
  else
    let c := curveOf t
    let q := c.affine (c.mul d c.gen)
    4 :: beBytes c.len q.1 ++ beBytes c.len q.2

/-- The signature of a message by a private scalar (R338, R411); no signature needs random bits. PRESUMED (log entry 8): the nonce prefix that Ed448
takes beside the scalar belongs to the key (RFC 8032); the spec does not say where the SEC holds it. -/
@[irreducible] def signature (t d : Nat) (msg : List Nat) : List Nat := if t = 4 then edSign d (Config.edPrefix d) msg else ecdsaSign t d msg

end Sys2Proof.Machine
end

