-- ==== Sys2Proof/Machine/Slots.lean ====
section
/-! DEFINITION. SEC (chapter 15), what its key slots hold: roles and attributes, masked shares, key identities; and the sealing of session
records (chapter 12). -/

namespace Sys2Proof.Machine

open Sys2Proof

/-- SEC state set. -/
def State.setSec (s : State) (v : Sec) : State := { s with sec := v }

/-- REPLACE of a slot (R403). -/
def replaceOf (k : Nat) : Nat :=
  match k with
  | 0 => 0 | 1 => 3 | 2 => 1 | 3 => 1 | 4 => 4 | 5 => 0 | 6 => 4 | 7 => 4 | 8 => 1 | 9 => 1 | _ => 2

/-- The key types that a slot takes (R403). -/
def typesOf (k : Nat) : List Nat :=
  match k with
  | 0 => [2] | 1 => [4] | 2 => [1] | 3 => [3] | 8 => [1, 2] | 9 => [2]
  | _ => if k < 8 ∨ (10 ≤ k ∧ k < 40) then [5, 6, 7, 8] else [1, 2, 3, 4, 5, 6, 7, 8, 9, 10]

/-- USE of a key type: sign for private keys, verify for public keys, symmetric for the others; key agreement for P curves (R404, R411). -/
def useOf (t : Nat) : Nat := if t < 4 then 5 else if t = 4 then 1 else if t < 9 then 2 else 8

/-- The attribute word of a key in a slot (R404), PEND and TESTOK apart. -/
def attrOf (k t : Nat) (gen : Bool) : Nat :=
  t + 16 * useOf t + 256 * replaceOf k + 2048 * b2n gen + 4096 * b2n (Config.zret k) + 8192 * b2n (decide (10 ≤ k ∧ k < 40)) +
    16384 * b2n (decide (k = 4 ∨ k = 6 ∨ k = 7))

/-- The order of the group of a private key's curve, by KTYPE (R406; the curves of R411, PRESUMED from their standards, log entry 80). -/
def groupOrder (t : Nat) : Nat := if 1 ≤ t ∧ t ≤ 3 then (curveOf t).n else edOrder

/-- The bits of a symmetric key by KTYPE (R404). -/
def keyBits (t : Nat) : Nat := if t = 9 then 128 else 256

/-- Two shares moved apart by a mask: the sum modulo the order, or the XOR, stays (R406, R407). -/
def maskPair (t m : Nat) (p : Nat × Nat) : Nat × Nat :=
  if t ≤ 4 then ((p.1 + m) % groupOrder t, (p.2 + (groupOrder t - m % groupOrder t)) % groupOrder t)
  else (p.1 ^^^ (m % 2 ^ keyBits t), p.2 ^^^ (m % 2 ^ keyBits t))

/-- What two shares hold: their sum modulo the order, or their XOR (R406). -/
def pairKey (t : Nat) (p : Nat × Nat) : Nat := if t ≤ 4 then (p.1 + p.2) % groupOrder t else p.1 ^^^ p.2

/-- The pair in force, by the store selector (R407). -/
def KeyShares.pair (v : KeyShares) : Nat × Nat := if v.sel then v.second else v.first

/-- The new pair goes into the alternate store, and the selector flips (R407). -/
def KeyShares.remask (t m : Nat) (v : KeyShares) : KeyShares :=
  if v.sel then { v with first := maskPair t m v.pair, sel := false } else { v with second := maskPair t m v.pair, sel := true }

/-- The shares of a new key under a mask. -/
def KeyShares.ofKey (t d m : Nat) : KeyShares := { first := maskPair t m (0, d) }

/-- A private or symmetric key, which the SEC holds as shares (R406). -/
def isMasked (t : Nat) : Bool := decide ((1 ≤ t ∧ t ≤ 4) ∨ 9 ≤ t)

/-- A slot as it leaves manufacture: KS000, KS001 and KS005 hold keys (R400, R402). -/
def shippedSlot (k : Nat) : KeySlot :=
  if k = 0 then { attr := attrOf 0 2 true, shares := KeyShares.ofKey 2 (Config.shippedScalar 0) 0 }
  else if k = 1 then { attr := attrOf 1 4 true, shares := KeyShares.ofKey 4 (Config.shippedScalar 1) 0 }
  else if k = 5 then { attr := attrOf 5 6 false } else {}

/-- A key slot. -/
def State.slot (s : State) (k : Nat) : KeySlot := lookup (shippedSlot k) s.sec.slots k

/-- SEC_STATUS.PEND (R426). -/
def State.showPend (s : State) : State :=
  s.putFlag .SEC_STATUS_PEND 0 ((List.range 128).any fun k => bit (s.slot k).pAttr 15)

/-- A key slot set. -/
def State.setSlot (s : State) (k : Nat) (v : KeySlot) : State :=
  (s.setSec { s.sec with slots := update (shippedSlot k) s.sec.slots k v }).showPend

/-- KTYPE of an attribute word. -/
def ktypeOf (attr : Nat) : Nat := attr % 16

/-- A committed key. -/
def KeySlot.full (v : KeySlot) : Bool := ktypeOf v.attr != 0

/-- A symmetric key. -/
def KeySlot.symmetric (v : KeySlot) : Bool := decide (9 ≤ ktypeOf v.attr)

/-- The key that the shares of a committed slot hold; the engine computes on the shares (R406). -/
def State.keyOf (s : State) (k : Nat) : Nat := pairKey (ktypeOf (s.slot k).attr) (s.slot k).shares.pair

/-- The public key that a slot holds from manufacture (R400, R402): KS000 and KS001 that of their scalars (R405). -/
def shippedPub (k : Nat) : List Nat :=
  if k = 0 then publicKey 2 (Config.shippedScalar 0) else if k = 1 then publicKey 4 (Config.shippedScalar 1) else Config.shippedKey k

/-- The public key of a committed slot. -/
def State.pubOf (s : State) (k : Nat) : List Nat := ((s.slot k).pub).getD (shippedPub k)

/-- A signature by the key of a slot (R338, R411, R419). -/
def State.signWith (s : State) (k : Nat) (m : List Nat) : List Nat := signature (ktypeOf (s.slot k).attr) (s.keyOf k) m

/-- The first `n` bytes of a hash of `w` bytes. -/
def hashBytes (w n h : Nat) : List Nat := (List.range n).map fun i => h / 256 ^ (w - 1 - i) % 256

/-- A KEYID: the first 8 bytes of the SHA-256 over the public key, byte 0 lowest (R405). -/
def keyIdOf (pub : List Nat) : Nat := fromLe (hashBytes 32 8 (sha256 pub))

/-- The KEYID of a slot: 0 for empty or symmetric slots (R426). -/
def State.slotId (s : State) (k : Nat) : Nat := if (s.slot k).full && !(s.slot k).symmetric then keyIdOf (s.pubOf k) else 0

/-- The module serial number text (R337, R505). -/
def serialText : List Nat := (List.range 4).flatMap fun n => leBytes 4 (Config.serial n)

/-- The payload map of a Nganakar record (R337). -/
def CloseData.payload (d : CloseData) (unsigned : Bool) : List Nat :=
  let four := fun (a b c e : List Nat) => cborHead 4 4 ++ a ++ b ++ c ++ e
  cborHead 5 (if d.ident.isEmpty then 11 else 12) ++
    cborUint 1 ++ cborText serialText ++
    cborUint 2 ++ cborUint d.outlet ++
    cborUint 3 ++ cborUint d.sessNo ++
    cborUint 4 ++ four (cborUint d.startLt) (cborInt d.startWall) (cborUint d.startIn) (cborUint d.startOut) ++
    cborUint 5 ++ four (cborUint d.stopLt) (cborInt d.stopWall) (cborUint d.stopIn) (cborUint d.stopOut) ++
    cborUint 6 ++ cborHead 5 d.regs.length ++ d.regs.flatMap (fun e => cborUint e.1 ++ cborUint e.2) ++
    cborUint 7 ++ cborInt d.cost ++
    cborUint 8 ++ cborText (leBytes 3 d.currency) ++
    cborUint 9 ++ cborUint (d.flags + 32 * b2n unsigned) ++
    cborUint 10 ++ cborUint d.legalCv ++
    cborUint 11 ++ cborUint d.calCv ++
    (if d.ident.isEmpty then [] else cborUint 12 ++ cborBytes d.ident)

/-- The Nganakar record (R336, R338). -/
def State.sealedRecord (s : State) (d : CloseData) (unsigned : Bool) : List Nat :=
  let p := d.payload unsigned
  cborHead 4 5 ++ cborUint 1 ++ cborBytes p ++
    (if unsigned then cborUint 0 ++ cborBytes [] ++ cborBytes []
     else cborUint 4 ++ cborBytes (leBytes 8 (s.slotId 1)) ++ cborBytes (s.signWith 1 ([0x4E, 0x47, 0x4B, 0x31] ++ p)))

/-- The ledger group of a Nganakar record: head and continuations (R328, R339). -/
def CloseData.group (d : CloseData) (r : List Nat) : List ReqRec :=
  let parts := chunks 43 r.length r
  let head : ReqRec := ⟨0x10, d.stopLt, [⟨16, 1, d.outlet⟩, ⟨17, 1, parts.length⟩, ⟨18, 2, r.length⟩, ⟨20, 4, d.sessNo⟩,
    ⟨24, 16, fromLe (hashBytes 32 16 (sha256 r))⟩, ⟨40, 8, d.stopIn⟩, ⟨48, 8, d.stopOut⟩, ⟨56, 1, d.flags⟩]⟩
  head :: parts.zipIdx.map fun e => ⟨0x11, d.stopLt, [⟨16, 1, e.2 + 1⟩, ⟨17, 43, fromLe e.1⟩]⟩

/-- The oldest waiting session record is sealed and handed to the ledger (R338, R339); unsigned while the SEC is unavailable. -/
def State.sealNext (s : State) : State :=
  match s.blu.toSeal with
  | [] => s
  | d :: l =>
    let unsigned := s.failed 0x19
    let r := s.sealedRecord d unsigned
    let s : State := { s with blu := { s.blu with toSeal := l } }
    let s := s.setSec { s.sec with sealed := update none s.sec.sealed d.outlet (some (d.sessNo, d.stopIn - d.startIn, d.flags, unsigned)) }
    s.request 2 (d.group r)

/-- All waiting session records are sealed (R317, R339). -/
def State.sealAll (s : State) : State := (List.range s.blu.toSeal.length).foldl (fun s _ => s.sealNext) s

end Sys2Proof.Machine
end

