-- ==== Sys2Proof/Machine/Billing.lean ====
section
/-! DEFINITION. BLU, billing (chapter 11): wall time, tariffs, sessions and their cost, demand intervals, power-fail billing, tamper
capture, and the metering boundary with both its orders (R170, R315). Times are in 1/65,536 s unless a name says seconds. -/

namespace Sys2Proof.Machine

open Sys2Proof

/-- An element's billing state. -/
def State.bill (s : State) (e : Nat) : Bill := lookup {} s.bills e

/-- An element's billing state set. -/
def State.setBill (s : State) (e : Nat) (b : Bill) : State := { s with bills := update {} s.bills e b }

/-- WOFF, signed (R297). -/
def State.woff (s : State) : Int := ofTwos 64 (s.rd64 .BLU_WOFF_L .BLU_WOFF_H 0)

/-- Wall time: ledger time plus WOFF (R297). -/
def State.wall (s : State) : Int := s.ltime + s.woff

/-- The high-water mark H (R300). -/
def State.hwm (s : State) : Nat := s.rd64 .BLU_HWM_L .BLU_HWM_H 0

/-- Wall time is valid (R299). -/
def State.wallValid (s : State) : Bool := s.flag .BLU_TIME_VALID 0

/-- Billing time: ledger time, but t_pf from t_pf to the restoration (R296, R316, R318). -/
def State.btime (s : State) : Nat := if s.blu.stopped && s.blu.replay.isNone then s.bcu.tpfLt else s.ltime

/-- The BLU books and its boundaries act: not between t_pf and the restoration (R296, R316, R318), and not during its unit reset (R471). -/
def State.billsNow (s : State) : Bool := !s.blu.stopped && !s.blu.replayDue && !s.failed 0x14

/-- The TARF table in force (R308). -/
def State.tarfs (s : State) : List TarfRec := s.blu.table.getD ((s.plan.map (·.tarf)).getD [])

/-- The TARF record of a tariff (R305). -/
def State.tarf (s : State) (t : Nat) : Option TarfRec := s.tarfs.find? (·.tariff == t)

/-- The tariff in force on an element (R306). -/
def State.tariff (s : State) (e : Nat) : Nat := s.rd .BLU_ESTAT_TARIFF e

/-- The tariff in force keeps demand (R311). -/
def State.demandTarf (s : State) (e : Nat) : Option TarfRec := (s.tarf (s.tariff e)).filter fun r => r.demand != 0

/-- The length of an interval or sub-interval in seconds (R311). -/
def TarfRec.gridSeconds (r : TarfRec) : Nat := if r.demand = 2 then r.interval * 60 / max 1 r.subint else r.interval * 60

/-- The next end on a grid after a wall second (R311). -/
def nextEnd (len sec : Nat) : Nat := if len = 0 then sec else (sec / len + 1) * len

/-- A public energy register of an element (R160). -/
def State.ereg (s : State) (e k : Nat) : Nat := s.rd64 .MEU_EREG_L .MEU_EREG_H (e * 64 + k)

/-- A quotient rounded to nearest, halves away from zero (R310). -/
def roundAway (a : Int) (b : Nat) : Int := if a < 0 then -(((2 * a.natAbs + b) / (2 * b) : Nat) : Int) else (((2 * a.natAbs + b) / (2 * b) : Nat) : Int)

/-- The session cost in 0.000_1 currency units, saturating at a signed 32-bit value (R310). -/
def State.costOf (s : State) (e : Nat) : Int :=
  let terms := (List.range 17).map fun t =>
    let pd := (s.bill e).prices.getD t (0, 0)
    let imp := s.rd64 .BLU_SREG_L .BLU_SREG_H (e * 64 + 2 * t)
    let ex := s.rd64 .BLU_SREG_L .BLU_SREG_H (e * 64 + 2 * t + 1)
    ((if pd.2 = 0 ∨ pd.2 = 2 then pd.1 * imp else 0 : Nat) : Int) - ((if pd.2 = 1 ∨ pd.2 = 2 then pd.1 * ex else 0 : Nat) : Int)
  max (-2147483648) (min 2147483647 (roundAway terms.sum 1000000))

/-- STEP, PF and TINV of the running interval, or of the window of finished sub-intervals and the running one (R313). -/
def Bill.windowStep (b : Bill) : Bool := b.ivStep || b.subs.any (·.step)
def Bill.windowPf (b : Bill) : Bool := b.ivPf || b.subs.any (·.pf)
def Bill.windowTinv (b : Bill) : Bool := b.ivTinv || b.subs.any (·.tinv)

/-- BLU_ESTATe shows the flags of the open session and the running interval. -/
def State.showFlags (s : State) (e : Nat) : State :=
  let b := s.bill e
  let sess := s.flag .BLU_ESTAT_SESS e
  let dem := (s.demandTarf e).isSome
  let s := (s.putFlag .BLU_ESTAT_DEMAND e dem).putFlag .BLU_ESTAT_STEP e (dem && b.windowStep)
  let s := (s.putFlag .BLU_ESTAT_PF e (dem && b.windowPf)).putFlag .BLU_ESTAT_TAMP e (sess && b.sTamp)
  let s := s.putFlag .BLU_ESTAT_TINV e ((sess && b.sTinv) || (dem && b.windowTinv) || !s.wallValid)
  s.putFlag .BLU_ESTAT_SEAL e ((sess && b.sSeal) || (dem && s.flag .BLU_STATUS_SEALBRK 0))

/-- An amount added to a 64-bit register of the BLU. -/
def State.add64 (s : State) (lo hi : Fld) (i x : Nat) : State := s.put64 lo hi i (s.rd64 lo hi i + x)

/-- The increases of A+ and A− are booked under the tariff, interval and session in force (R303, R310). -/
def State.book (s : State) (e : Nat) : State :=
  let b := s.bill e
  let di := s.ereg e 1 - b.lastIn
  let dx := s.ereg e 2 - b.lastOut
  let t := s.tariff e
  let dem := (s.demandTarf e).isSome
  let s := s.setBill e { b with
    lastIn := s.ereg e 1, lastOut := s.ereg e 2
    runIn := if dem then b.runIn + di else b.runIn, runOut := if dem then b.runOut + dx else b.runOut }
  let s := (s.add64 .BLU_TREG_L .BLU_TREG_H (e * 64 + 2 * t) di).add64 .BLU_TREG_L .BLU_TREG_H (e * 64 + 2 * t + 1) dx
  let s := s.onlyIf dem fun s => (s.add64 .BLU_IVE_L .BLU_IVE_H (e * 64) di).add64 .BLU_IVE_L .BLU_IVE_H (e * 64 + 1) dx
  s.onlyIf (s.flag .BLU_ESTAT_SESS e) fun s =>
    let s := (s.add64 .BLU_SREG_L .BLU_SREG_H (e * 64 + 2 * t) di).add64 .BLU_SREG_L .BLU_SREG_H (e * 64 + 2 * t + 1) dx
    s.put .BLU_ESCOST_COST e (toTwos 32 (s.costOf e))

/-- A period end is booked where the BLU books; an increase that it does not book now is part of its next booking (R303, R471). -/
def State.bookNow (s : State) (e : Nat) : State := s.onlyIf (!s.blu.replayDue && !s.failed 0x14) fun s => s.book e

/-- A direction period end at the present instant with its booking (R159, R303). -/
def State.periodAndBook (s : State) (e : Nat) : State := (if s.failed 0x12 || s.meu.frozen then s else s.endNow e).bookNow e

/-- Every pair of an element has processed the stamps up to the crossing that ends its period (R159). -/
def State.splitReached (s : State) (e : Nat) : Bool :=
  match (s.elem e).split with
  | some x => (s.pairsOf e).all fun i => s.passed i.ch x
  | none => true

/-- A valid crossing ends the direction period of an element, with its booking, once its pairs have processed the stamps up to it (R159). -/
def State.settleSplit (s : State) (e : Nat) : State := if (s.elem e).ending && s.splitReached e then (s.endAtSplit e).bookNow e else s

/-- A crossing that the samples of a channel show is placed and validated (R153); a valid one ends the direction periods of the elements whose
reference voltage the channel is (R159). -/
def State.placeCrossing (s : State) (n : Nat) : State :=
  match (s.chan n).found with
  | none => s
  | some (at_, _) =>
    let s := (s.setChan n { s.chan n with found := none }).crossing n at_
    let ends := decide ((s.chan n).validRun ≠ 0) && !s.flag .MEU_CHSTAT_ZXTO n && !s.meu.frozen
    s.each (s.elemsOfRef n) fun s e =>
      if ends then (s.setElem e { s.elem e with ending := true }).settleSplit e else s.dropSplit e

/-- ZERO_CROSSING (R153, R159). A channel's next slice places a crossing for which no such command has come. -/
def execZeroCrossing (n : Fin 64) (s : State) : Out :=
  .next (if !s.failed 0x12 && s.crossChannel n then s.placeCrossing n else s)

/-- CHANNEL_SLICE (R143, R157): the bits captured since the last slice enter the decimator, and the channel's back-end slice processes the stamps that
are ready. After MCKRk has stood still the channel takes its place on the grid again (R148). Nothing is captured while MCLKk is held low (R142) or the MEU has failed. -/
def execChannelSlice (n : Fin 64) (bits : List Bool) (s : State) : Out :=
  match s.sens n with
  | none => .next s
  | some r =>
    if s.failed 0x12 then .next s
    else if r.sensor = 4 then .next (s.backEnd r)
    else if s.meu.mclk.isNone then .next s
    else
      let s := s.onlyIf ((s.chan n).noClk && !bits.isEmpty) fun s => s.rejoin (bits.length * s.frontPeriod / 250) r
      let s := (bits.foldl (fun s b => s.takeBit n (r.sensor == 2) b) s).placeCrossing n
      .next ((s.backEnd r).settleSplit r.elem)

/-- The demand of an energy in mWh: floor(e × 3.6 ÷ max(t_nom, t_led)) (R312). -/
def demandOf (mwh tnom ticks : Nat) : Nat := mwh * 36 * 65536 / (10 * max 1 (max (tnom * 65536) ticks))

/-- MDk takes a larger demand, with bits [47:16] of the closing ledger time (R313). -/
def State.maxDemand (s : State) (e k d led : Nat) : State :=
  if s.rd .BLU_MD_MD (e * 64 + k) < d then (s.put .BLU_MD_MD (e * 64 + k) d).put .BLU_MDT_MDT (e * 64 + k) (led / 65536) else s

/-- The window's ledger ticks at an instant: finished sub-intervals and the running one (R312). -/
def Bill.ticksAt (b : Bill) (led : Nat) : Nat := (b.subs.map (·.ticks)).sum + (led - b.runLed)

/-- An interval of the outage is one that began after t_pf (R318). -/
def State.inOutage (s : State) (e : Nat) : Option Nat :=
  match s.blu.replay with
  | some (w, left) => if w < (s.bill e).runStart * 65536 then some left else none
  | none => none

/-- An interval of the outage that is no longer recorded is counted for the record of type 0x1A (R318). -/
def State.countRest (s : State) (e endSec : Nat) : State :=
  let b := s.bill e
  s.setBill e { b with restN := b.restN + 1, restFirst := if b.restN = 0 then endSec else b.restFirst, restLast := endSec, subs := [], runIn := 0, runOut := 0 }

/-- One recorded interval fewer is left of those that a restoration may record (R318). -/
def State.spendReplay (s : State) : State :=
  { s with blu := { s.blu with replay := s.blu.replay.map fun x => (x.1, x.2 - 1) } }

/-- The running interval, or the running sub-interval of a sliding window, closes at a wall second; its metered span ends at the ledger time `led`
(R312, R313). DEDUCED (log entry 77): the closing ledger time of MDT is the billing time at which the close acts. -/
def State.closeInterval (s : State) (e endSec led : Nat) (short : Bool) : State :=
  match s.demandTarf e with
  | none => s
  | some r =>
    if s.inOutage e = some 0 then s.countRest e endSec
    else
    let s := s.onlyIf (s.inOutage e).isSome State.spendReplay
    let b := s.bill e
    let ein := s.rd64 .BLU_IVE_L .BLU_IVE_H (e * 64)
    let eout := s.rd64 .BLU_IVE_L .BLU_IVE_H (e * 64 + 1)
    let ticks := b.ticksAt led
    let tnom := r.interval * 60
    let din := demandOf ein tnom ticks
    let dout := demandOf eout tnom ticks
    let s := (s.maxDemand e (2 * r.tariff) din s.btime).maxDemand e (2 * r.tariff + 1) dout s.btime
    let flags := b2n short + 2 * b2n b.windowStep + 4 * b2n (decide (tnom * 65536 < ticks)) + 8 * b2n b.windowPf + 16 * b2n (b.windowTinv || !s.wallValid)
      + 32 * b2n (s.flag .BLU_STATUS_SEALBRK 0)
    let s := s.request 1 [⟨0x13, s.btime,
      [⟨16, 1, e⟩, ⟨17, 1, r.tariff⟩, ⟨18, 1, flags⟩, ⟨20, 4, s.rd .BLU_IVNO_IVNO e⟩, ⟨24, 4, s.rd .BLU_IVSTART_IVSTART e⟩, ⟨28, 4, endSec⟩,
       ⟨32, 4, ticks * 1000 / 65536⟩, ⟨36, 8, ein⟩, ⟨44, 8, eout⟩, ⟨52, 4, din⟩, ⟨56, 4, dout⟩]⟩]
    let s := s.onlyIf b.windowPf fun s => s.count .BLU_PFCNT_INTR 0
    let s := s.put .BLU_IVNO_IVNO e ((s.rd .BLU_IVNO_IVNO e + 1) % 2 ^ 32)
    let keep := if r.demand = 2 ∧ short = false then (⟨b.runIn, b.runOut, led - b.runLed, b.runStart, b.ivStep, b.ivPf, b.ivTinv || !s.wallValid⟩ :: b.subs).take (r.subint - 1) else []
    let keep := if s.blu.replay.isSome then [] else keep
    s.setBill e { b with subs := keep, runIn := 0, runOut := 0, lastDem := din, closed := b.closed + 1 }

/-- Where an interval that begins at a wall second begins on the grid, and whether it carries STEP from its beginning: an interval in the span of a
forward step carries it, and a step of more than 24 h skips to the interval that holds the new wall time (R313, R314); then whether it skips. -/
def State.spanStart (s : State) (len sec : Nat) : Nat × Bool × Bool :=
  match s.blu.span with
  | none => (sec, false, false)
  | some (a, b) =>
    let long := decide (86400 * 65536 < b - a)
    if sec * 65536 + 65535 < a ∨ b < sec * 65536 then (sec, false, false)
    else (if long then max sec (b / 65536 / max 1 len * len) else sec, true, long)

/-- A new interval or sub-interval begins at a wall second and a ledger time, up to the next end on the tariff's grid (R311, R314). -/
def State.beginInterval (s : State) (e sec led : Nat) (pf : Bool) : State :=
  match s.demandTarf e with
  | none =>
    let s := ((s.put .BLU_IVSTART_IVSTART e 0).put .BLU_IVEND_IVEND e 0).setBill e { s.bill e with subs := [], runIn := 0, runOut := 0 }
    (s.put64 .BLU_IVE_L .BLU_IVE_H (e * 64) 0).put64 .BLU_IVE_L .BLU_IVE_H (e * 64 + 1) 0
  | some r =>
    let b := s.bill e
    let (sec, step, skips) := s.spanStart r.gridSeconds sec
    let s := s.setBill e { b with
      runIn := 0, runOut := 0, runLed := led, runStart := sec, ivStep := step, ivPf := pf, ivTinv := !s.wallValid, skipped := skips }
    let first := match b.subs.getLast? with
      | some x => x.start
      | none => sec
    let s := (s.put .BLU_IVSTART_IVSTART e first).put .BLU_IVEND_IVEND e (nextEnd r.gridSeconds sec)
    (s.put64 .BLU_IVE_L .BLU_IVE_H (e * 64) (b.subs.map (·.imp)).sum).put64 .BLU_IVE_L .BLU_IVE_H (e * 64 + 1) (b.subs.map (·.exp_)).sum

/-- A tariff change ends the running interval with SHORT, unless the interval is one that would only now begin, in the span of a long step too (R314,
R315). -/
def State.cutInterval (s : State) (e sec led : Nat) : State :=
  let b := s.bill e
  let s := if b.runLed = led ∧ (sec ≤ b.runStart ∨ b.skipped = true) then s else s.closeInterval e sec led true
  s.setBill e { s.bill e with subs := [] }

/-- A new TARIFF comes into force on an element, with event 0x1401, a tariff-change record and a new interval (R306, R314). -/
def State.newTariff (s : State) (e t cause sec led : Nat) (pf : Bool) : State :=
  let old := s.tariff e
  let s := s.setBill e { s.bill e with changes := (s.bill e).changes + 1 }
  let s := (s.put .BLU_ESTAT_TARIFF e t).raise2 0x1401 e t
  let s := s.request 1 [⟨0x14, s.btime, [⟨16, 1, e⟩, ⟨17, 1, old⟩, ⟨18, 1, t⟩, ⟨19, 1, cause⟩]⟩]
  (s.beginInterval e sec led pf).showFlags e

/-- TARIFF of an element becomes another (R306, R314): the running interval closes with SHORT, event 0x1401 and a tariff-change record. -/
def State.setTariff (s : State) (e t cause sec led : Nat) (pf : Bool) : State :=
  if s.tariff e = t then s
  else (s.cutInterval e sec led).newTariff e t cause sec led pf

/-- The elements of a switch's scope (R307). -/
def scopeElems (scope : Nat) : List Nat := if scope = 0xFF then List.range 25 else if scope = 0xFE then [24] else if scope < 24 then [scope] else []

/-- A switch fires: SCHED on every element of its scope, and TARIFF while wall time is valid (R306, R307). -/
def State.fireSwitch (s : State) (w : Switch) (cause sec led : Nat) (pf : Bool) : State :=
  s.each (scopeElems w.scope) fun s e =>
    let s := s.put .BLU_ESTAT_SCHED e w.tariff
    s.onlyIf s.wallValid fun s => s.setTariff e w.tariff cause sec led pf

/-- The effective wall time of a switch; a NOW switch takes the wall time of the boundary (R307). -/
def Switch.eff (w : Switch) (wall : Int) : Nat := if w.isNow then wall.toNat else w.time

/-- PEND shows the pending switches. -/
def State.showQueue (s : State) : State := s.put .BLU_TSWSTAT_PEND 0 s.blu.queue.length

/-- The switches due at a wall time, in order of queueing, fire; the rest stay. A switch that was queued with a time below H acts no earlier than the
H that it found (R300, R307; DEDUCED, log entry 77). -/
def State.fireSwitchesAt (s : State) (t : Nat) (cause led : Nat) (pf : Bool) : State :=
  let due := s.blu.queue.filter fun w => w.eff s.wall == t
  let s := { s with blu := { s.blu with queue := s.blu.queue.filter fun w => w.eff s.wall != t } }
  (due.foldl (fun s w => s.fireSwitch w cause (max t s.blu.hFrom / 65536) led pf) s).showQueue

/-- The elements whose interval end is a given wall second (R312). -/
def State.endsAt (s : State) (sec : Nat) : List Nat :=
  (List.range 25).filter fun e => (s.demandTarf e).isSome && s.rd .BLU_IVEND_IVEND e == sec

/-- An element's interval closes at its end and the next begins (R312, R314). -/
def State.turnInterval (s : State) (e sec led : Nat) (pf : Bool) : State :=
  ((s.closeInterval e sec led false).beginInterval e sec led pf).showFlags e

/-- The intervals of an element that end at or below a limit close one after another (R300). -/
def State.turnUpTo (s : State) (e limit led : Nat) : Nat → State
  | 0 => s
  | fuel + 1 =>
    if (s.demandTarf e).isSome && decide (s.rd .BLU_IVEND_IVEND e * 65536 ≤ limit) then
      (s.turnInterval e (s.rd .BLU_IVEND_IVEND e) led false).turnUpTo e limit led fuel
    else s

/-- The earliest wall time at which an interval end or a switch is due at or below a limit (R300, R315). -/
def State.nextDue (s : State) (limit : Nat) : Option Nat :=
  let ends := ((List.range 25).filter fun e => (s.demandTarf e).isSome).map fun e => s.rd .BLU_IVEND_IVEND e * 65536
  let sw := s.blu.queue.map (·.eff s.wall)
  ((ends ++ sw).filter (· ≤ limit)).foldl (fun m t => some (match m with
    | none => t
    | some a => min a t)) none

/-- Every boundary due at or below a limit acts in ascending wall time: interval ends first, then tariff changes (R315). -/
def State.fireDue (s : State) (limit cause led : Nat) (pf : Bool) : Nat → State
  | 0 => s
  | fuel + 1 =>
    match s.nextDue limit with
    | none => s
    | some t =>
      let s := s.each (if t % 65536 = 0 then s.endsAt (t / 65536) else []) fun s e => s.turnInterval e (t / 65536) led pf
      (s.fireSwitchesAt t cause led pf).fireDue limit cause led pf fuel

/-- A bound on the boundaries that can fall due at or below a limit: 25 elements on a grid of at least 20 s, and the switches. -/
def State.dueFuel (s : State) (limit : Nat) : Nat :=
  let first := ((List.range 25).map fun e => if (s.demandTarf e).isSome then s.rd .BLU_IVEND_IVEND e else limit / 65536).foldl min (limit / 65536)
  25 * ((limit / 65536 - first) / 20 + 2) + 17

/-- A session set opens (R309). A new session ends the grant of 0 of an outlet that was shut down (R469). The authorisation identity that the
firmware binds (R337) is a free value: no register carries it (log entry 77). DESIGN CHOICE (log entry 72): the session boundary of the controller-wide
DSE_LNMASK (R13) is the opening of any outlet's session set, where the whole mask takes effect; a close is none. -/
def State.openSession (s : State) (n : Nat) : State :=
  let b := { s.bill n with ident := ((Config.boundIdent s.free).take 64).map (· % 256) }
  let s := s.draw.2
  let s := s.onlyIf (s.oiu n).shutDown fun s => s.setOiu n { s.oiu n with shutDown := false }
  let s := s.put .BLU_ESESS_SESSNO n ((s.rd .BLU_ESESS_SESSNO n + 1) % 2 ^ 32)
  let s := s.each (List.range 34) fun s k => s.put64 .BLU_SREG_L .BLU_SREG_H (n * 64 + k) 0
  let prices := (List.range 17).map fun t => match s.tarf t with
    | some r => (r.price, r.dir)
    | none => (0, 0)
  let s := s.setBill n { b with
    prices := prices, woffOpen := s.woff, sTinv := !s.wallValid, sTamp := false, sStep := false, sPf := false, sSeal := s.flag .BLU_STATUS_SEALBRK 0 }
  (((s.putFlag .BLU_ESTAT_SESS n true).put .BLU_ESCOST_COST n 0).showFlags n).apply .DSE_LNMASK_LNMASK 0

/-- The flags of a session record (R337). -/
def Bill.sessionFlags (b : Bill) : Nat := b2n b.sTinv + 2 * b2n b.sTamp + 4 * b2n b.sStep + 8 * b2n b.sPf + 16 * b2n b.sSeal

/-- A session reading of the MEU (R164). -/
def State.sessReading (s : State) (n k : Nat) : Nat := s.rd64 .MEU_SESS_L .MEU_SESS_H (n * 64 + k)

/-- A session set closes, and the close data go to the SEC (R309). -/
def State.closeSession (s : State) (n : Nat) : State :=
  if !s.flag .BLU_ESTAT_SESS n then s
  else
    let b := s.bill n
    let regs := (List.range 34).filterMap fun k =>
      let v := s.rd64 .BLU_SREG_L .BLU_SREG_H (n * 64 + k)
      if v = 0 then none else some (k, v)
    let d : CloseData := {
      outlet := n, sessNo := s.rd .BLU_ESESS_SESSNO n, startLt := s.sessReading n 4, startWall := s.sessReading n 4 + b.woffOpen
      startIn := s.sessReading n 0, startOut := s.sessReading n 1, stopLt := s.sessReading n 5, stopWall := s.sessReading n 5 + s.woff
      stopIn := s.sessReading n 2, stopOut := s.sessReading n 3, regs := regs, cost := s.costOf n
      currency := ((s.tarf 0).map (·.currency)).getD 0, flags := b.sessionFlags
      legalCv := s.rd .PPL_LEGALCV_LEGALCV 0, calCv := s.rd .MEU_CALCV_CALCV 0, ident := b.ident }
    let s : State := { s with blu := { s.blu with toSeal := s.blu.toSeal ++ [d] } }
    let s := s.onlyIf (s.failed 0x19) State.sealAll
    let s := ((s.putFlag .BLU_ESTAT_SESS n false).showFlags n).trackWait
    if s.refuses n then s.withdraw n else s

/-- The MEU latches a start reading: A+, A− and ledger time (R164). -/
def State.latchStart (s : State) (n : Nat) : State :=
  let s := s.put64 .MEU_SESS_L .MEU_SESS_H (n * 64) (s.ereg n 1)
  let s := s.put64 .MEU_SESS_L .MEU_SESS_H (n * 64 + 1) (s.ereg n 2)
  (s.put64 .MEU_SESS_L .MEU_SESS_H (n * 64 + 4) s.ltime).putFlag .MEU_ESTAT_SESS n true

/-- The MEU latches a stop reading (R164). -/
def State.latchStop (s : State) (n : Nat) : State :=
  let s := s.put64 .MEU_SESS_L .MEU_SESS_H (n * 64 + 2) (s.ereg n 1)
  let s := s.put64 .MEU_SESS_L .MEU_SESS_H (n * 64 + 3) (s.ereg n 2)
  (s.put64 .MEU_SESS_L .MEU_SESS_H (n * 64 + 5) s.ltime).putFlag .MEU_ESTAT_SESS n false

/-- Outlets whose start reading is due: CFBnn reads closed while the close command is on (R164). -/
def State.startsDue (s : State) : List Nat :=
  s.outlets.filter fun n => s.flag .OIU_CONTACT_CFB n && s.flag .OIU_CONTACT_CMD n && !s.flag .MEU_ESTAT_SESS n

/-- Outlets whose stop reading is due: CFBnn reads open (R164). -/
def State.stopsDue (s : State) : List Nat := s.outlets.filter fun n => !s.flag .OIU_CONTACT_CFB n && s.flag .MEU_ESTAT_SESS n

/-- H follows wall time upward, and SETBACK shows wall time below it, with event 0x1405 (R300). -/
def State.advanceH (s : State) : State :=
  let w := s.wall
  let h := s.hwm
  let s := { s with blu := { s.blu with hFrom := h } }
  if w < h then s.onlyIf (!s.flag .BLU_STATUS_SETBACK 0) fun s => (s.putFlag .BLU_STATUS_SETBACK 0 true).raise2 0x1405 0 1
  else
    let s := s.put64 .BLU_HWM_L .BLU_HWM_H 0 w.toNat
    s.onlyIf (s.flag .BLU_STATUS_SETBACK 0) fun s => (s.putFlag .BLU_STATUS_SETBACK 0 false).raise2 0x1405 0 0

/-- The elements with an interval end or a switch due at or below a wall time (R304). -/
def State.billedUpTo (s : State) (h : Nat) : List Nat :=
  let sw := ((s.blu.queue.filter fun w => w.eff s.wall ≤ h).map fun w => scopeElems w.scope).flatten
  (List.range 25).filter fun e => sw.contains e || ((s.demandTarf e).isSome && decide (s.rd .BLU_IVEND_IVEND e * 65536 ≤ h))

/-- The elements on which a billing boundary acts at this metering boundary (R304). -/
def State.billedNow (s : State) : List Nat :=
  let due := s.billedUpTo s.hwm
  (List.range 25).filter fun e => due.contains e || s.startsDue.contains e || s.stopsDue.contains e

/-- SYNCAGE in minutes since the last sync. -/
def State.showSyncAge (s : State) : State :=
  match s.blu.lastSync with
  | none => s
  | some t => s.put .BLU_TIME_SYNCAGE 0 (min ((s.ltime - t) / (60 * 65536)) 0xFFFF)

/-- The requested snapshots of the MEU and the BLU are taken (R171, R323): every field of the unit's latched registers. -/
def State.latchFields (s : State) (u : UnitId) (regs : List Reg) : State :=
  let live := s.regs.filter fun e => (keyFld e.1).unit == u && regs.contains (keyFld e.1).info.reg
  { s with latched := (live.foldl (fun t e => update (regDefault e.1) t e.1 e.2)
      (s.latched.filter fun e => !((keyFld e.1).unit == u && regs.contains (keyFld e.1).info.reg)))
           latchOn := if s.latchOn.contains (u.ctorIdx * 64) then s.latchOn else s.latchOn ++ [u.ctorIdx * 64] }

/-- The registers that the MEU's snapshot latches (R171). -/
def meuSnapRegs : List Reg :=
  [.MEU_CHSTAT, .MEU_CHSAMP, .MEU_CHRMS, .MEU_CHPEAK, .MEU_CHENV, .MEU_CHFREQ, .MEU_CHCTL, .MEU_CHBANK, .MEU_CHDELAY, .MEU_CHGAIN, .MEU_CHOFFS,
   .MEU_CHINT, .MEU_ESTAT, .MEU_EPWR, .MEU_EQPWR, .MEU_EREG_L, .MEU_EREG_H, .MEU_SESS_L, .MEU_SESS_H]

/-- The registers that the BLU's snapshot latches (R323). -/
def bluSnapRegs : List Reg :=
  [.BLU_WOFF_L, .BLU_WOFF_H, .BLU_HWM_L, .BLU_HWM_H, .BLU_TAMPER, .BLU_PFCNT, .BLU_ESTAT, .BLU_ESESS, .BLU_ESCOST, .BLU_IVNO, .BLU_IVSTART,
   .BLU_IVEND, .BLU_IVE_L, .BLU_IVE_H, .BLU_TREG_L, .BLU_TREG_H, .BLU_SREG_L, .BLU_SREG_H, .BLU_MD, .BLU_MDT]

/-- Ember's grid takes effect, or is undone, at the boundary after the change (R161): the stamp of the boundary still belongs to the grid before, and
the next one is one period of the new grid later. -/
def State.emberGrid (s : State) : State :=
  if s.meu.ember = s.bcu.ember then s
  else
    let b := s.stampOf s.now
    let s : State := { s with meu := { s.meu with ember := s.bcu.ember, emberAt := b } }
    ((s.plan.map fun p => p.sens).getD []).foldl (fun s r =>
      let c := s.chan r.ch
      if b < c.stamp then s.setChan r.ch { c with stamp := b + s.periodFrom r b } else s) s

/-- The power-fail reading is latched at the first boundary after t_pf, when a period has ended on every element (R165). -/
def State.pfLatch (s : State) : State :=
  if s.meu.pfDue then { s with meu := { s.meu with pfDue := false, pfReading := s.elems } } else s

/-- What the MEU does at a metering boundary ahead of its period ends (R170): Ember's grid and the bank swap. -/
def State.meuBoundary (s : State) : State := if s.failed 0x12 then s else s.emberGrid.bankSwap

/-- What the MEU does at a metering boundary after the period ends (R170): windows, power-fail and session latches, and the snapshot. -/
def State.meuLatches (s : State) (stops starts : List Nat) : State :=
  if s.failed 0x12 then s
  else ((s.fixedRms.pfLatch).each stops State.latchStop).each starts State.latchStart

/-- The one-second work of the MEU at a metering boundary (R165, R170). -/
def State.meuSecond (s : State) : State :=
  if s.boundaryNo % 8000 = 0 ∧ s.failed 0x12 = false then s.faultSeconds.oneSecondWrite else s

/-- APPLY (R297): refused while the PTP client is locked. -/
def State.writeApply (s : State) : State :=
  if s.flag .NTU_STATUS_LOCKED 0 then s.raise2 0x1406 0 1 else { s with blu := { s.blu with applyDue := true } }

/-- APPLY (R297). -/
def execApply (s : State) : Out := .next s.writeApply

/-- The difference of two wall times is a step: more than 2 s (R298). -/
def isStep (d : Int) : Bool := 131072 < d.natAbs

/-- A billing boundary forces a direction period end on an element that meters, and the increase is booked (R304). -/
def State.boundaryEnd (s : State) (e : Nat) : State := if s.liveElems.contains e then s.periodAndBook e else s.bookNow e

/-- Wall time becomes valid or invalid with a reason: event 0x1404, and every element's tariff follows, no earlier in wall time than H (R299, R300, R306). -/
def State.setValid (s : State) (valid : Bool) (reason : Nat) : State :=
  if s.wallValid == valid then s
  else
    let s := ((s.putFlag .BLU_TIME_VALID 0 valid).putFlag .BLU_STATUS_TINV 0 (!valid)).raise2 0x1404 0 reason
    let sec := max s.wall.toNat s.hwm / 65536
    s.each (List.range 25) fun s e =>
      let s := s.onlyIf (!valid) fun s => s.setBill e { s.bill e with
        ivTinv := (s.bill e).ivTinv || (s.demandTarf e).isSome, sTinv := (s.bill e).sTinv || s.flag .BLU_ESTAT_SESS e }
      let t := if valid then s.rd .BLU_ESTAT_SCHED e else 0
      let s := s.onlyIf (decide (t ≠ s.tariff e)) fun s => (s.boundaryEnd e).setTariff e t (if valid then 3 else 2) sec s.ltime false
      s.showFlags e

/-- Wall time is invalid once 24 h of ledger time have passed without a sync (R299). -/
def State.expireWall (s : State) : State :=
  match s.blu.lastSync with
  | none => s
  | some t => s.onlyIf (decide (t + 86400 * 65536 ≤ s.ltime)) fun s => s.setValid false 1

/-- Every boundary that is due at the present instant acts, after the period ends of the elements it concerns (R300, R304, R315). -/
def State.actDue (s : State) : State :=
  let s := s.advanceH
  let s := s.each s.billedNow State.boundaryEnd
  s.fireDue s.hwm 1 s.ltime false (s.dueFuel s.hwm)

/-- A sync sets wall time at the boundary (R297, R298): WOFF; a step with its event, record and flags; the boundaries that the sync passed (R314);
and validity, with the tariff that then stands (R299, R306). -/
def State.sync (s : State) (ptp : Bool) (time : Nat) : State :=
  let old := s.wall
  let woff : Int := time - s.ltime
  let d : Int := time - old
  let s := s.put64 .BLU_WOFF_L .BLU_WOFF_H 0 (toTwos 64 woff)
  let s := (s.put .BLU_TIME_SRC 0 (if ptp then 1 else 2)).put .BLU_TIME_SYNCAGE 0 0
  let s := { s with blu := { s.blu with lastSync := some s.ltime, applyDue := false } }
  let s := s.onlyIf (isStep d) fun s =>
    let s := (s.put .BLU_STATUS_STEP 0 1).raise 0x1403 (toTwos 16 (max (-32767) (min 32767 (d.tdiv 65536))))
    let s := s.request 1 [⟨0x15, s.ltime, [⟨16, 8, toTwos 64 old⟩, ⟨24, 8, time⟩, ⟨32, 1, if ptp then 1 else 2⟩]⟩]
    let s := s.onlyIf (decide (0 < d)) fun s => { s with blu := { s.blu with span := some (old.toNat, time) } }
    s.each (List.range 25) fun s e => s.setBill e { s.bill e with ivStep := (s.bill e).ivStep || (s.demandTarf e).isSome }
  let s := s.each (List.range 25) fun s e =>
    s.onlyIf (s.flag .BLU_ESTAT_SESS e && (isStep d || isStep (woff - (s.bill e).woffOpen))) fun s => s.setBill e { s.bill e with sStep := true }
  let s := s.actDue
  (({ s with blu := { s.blu with span := none } } : State).setValid true 0).each (List.range 25) fun s e => s.showFlags e

/-- The sync that APPLY requested takes BLU_WSET (R297). -/
def State.hostSync (s : State) : State := s.sync false (s.rd64 .BLU_WSET_L .BLU_WSET_H 0)

/-- A sync by PTP was less than 1 s ago (R297). -/
def State.justSynced (s : State) : Bool :=
  match s.blu.lastSync with
  | none => false
  | some t => s.rd .BLU_TIME_SRC 0 == 1 && decide (s.ltime < t + 65536)

/-- WALL_TIME_SYNC (R297): a PTP sync while the client is locked, or the host sync that APPLY requested; at a metering boundary, while billing runs.
The synced time of a PTP sync is the PTP time converted for the instant of the boundary. -/
def execWallTimeSync (ptp : Bool) (s : State) : Out :=
  let s := s.moveTo s.boundaryNext
  if !s.billsNow then .next s
  else if ptp then .next (if s.flag .NTU_STATUS_LOCKED 0 && s.ntuRuns && !s.justSynced then s.sync true s.ptpWall else s)
  else .next (if s.blu.applyDue then s.hostSync else s)

/-- WALL_TIME_EXPIRY (R299): 24 h of ledger time without a sync, at the metering boundary at or after that instant; what is due there acts first (R315). -/
def execWallTimeExpiry (s : State) : Out :=
  match s.blu.lastSync with
  | none => .next s
  | some t =>
    if !s.wallValid || !s.billsNow then .next s
    else .next ((s.moveTo (s.boundaryFrom (s.whenLtime (t + 86400 * 65536)))).actDue.setValid false 1)

/-- A refused or dropped switch (R307). -/
def State.refuseSwitch (s : State) (scope reason : Nat) : State :=
  ((s.put .BLU_STATUS_TSWREF 0 1).put .BLU_TSWSTAT_LASTREF 0 reason).raise2 0x1402 scope reason

/-- Billing stops at t_pf (R316). -/
def State.bluPowerFail (s : State) : State := { s with blu := { s.blu with stopped := true } }

/-- The wall time of t_pf. -/
def State.wallAtPf (s : State) : Nat := ((s.bcu.tpfLt : Int) + s.woff).toNat

/-- A count of the elements' billing, summed over the elements. -/
def State.tally (s : State) (f : Bill → Nat) : Nat := ((List.range 25).map fun e => f (s.bill e)).sum

/-- The BLU's part of the commit after the freeze (R316, R317): the final booking, boundaries up to the wall time of t_pf, the closing of
open sessions at t_pf with PF, the power-fail record and event 0x1407. -/
def State.bluCommit (s : State) (wallPf : Nat) (tenMicros : Nat) : State :=
  let s := s.each s.liveElems fun s e => s.book e
  let s := s.each (List.range 25) fun s e => s.setBill e { s.bill e with ivPf := (s.bill e).ivPf || (s.demandTarf e).isSome }
  let n0 := s.rd .BLU_PFCNT_PFAILS 0
  let ends0 := s.tally (·.closed)
  let sws0 := s.tally (·.changes)
  let s := s.fireDue wallPf 1 s.ltime true (s.dueFuel wallPf)
  let ends := min 255 (s.tally (·.closed) - ends0)
  let sws := min 255 (s.tally (·.changes) - sws0)
  let open_ := s.outlets.filter fun n => s.flag .BLU_ESTAT_SESS n
  let s := s.each open_ fun s n =>
    let s := (s.latchStop n).setBill n { s.bill n with sPf := true }
    (s.put64 .MEU_SESS_L .MEU_SESS_H (n * 64 + 5) s.bcu.tpfLt).closeSession n
  let s := s.each (List.range 25) fun s e => s.showFlags e
  let s := s.put .BLU_PFCNT_PFAILS 0 (satInc 0xFFFF n0)
  let s := s.request 1 [⟨0x16, s.bcu.tpfLt, [⟨16, 8, s.hwm⟩, ⟨24, 2, tenMicros⟩, ⟨26, 1, open_.length⟩, ⟨27, 1, ends⟩, ⟨28, 1, sws⟩]⟩]
  { (s.raise 0x1407 tenMicros) with blu := { s.blu with freezeLt := s.ltime, replayDue := true, commitDur := tenMicros } }

/-- The intervals of an element that a restoration did not record are counted in one record of type 0x1A (R318). -/
def State.replayRest (s : State) (e : Nat) : State :=
  let b := s.bill e
  if b.restN = 0 then s
  else
    let s := s.request 1 [⟨0x1A, s.ltime, [⟨16, 1, e⟩, ⟨20, 4, b.restN⟩, ⟨24, 4, b.restFirst⟩, ⟨28, 4, b.restLast⟩]⟩]
    s.setBill e { b with restN := 0 }

/-- Billing time resumes on an element without the outage: the demand history restarts, and the running interval leaves the outage out (R312, R318). -/
def State.resumeElem (s : State) (outage e : Nat) : State :=
  let b := s.bill e
  let s := s.setBill e { b with runLed := b.runLed + outage, subs := [] }
  let s := s.onlyIf (s.demandTarf e).isSome fun s =>
    ((s.put .BLU_IVSTART_IVSTART e b.runStart).put64 .BLU_IVE_L .BLU_IVE_H (e * 64) b.runIn).put64 .BLU_IVE_L .BLU_IVE_H (e * 64 + 1) b.runOut
  s.showFlags e

/-- The BLU replays the restoration (R318): H, the boundaries of the outage with PF, the restoration record and event 0x1408. What the BCU reported of
ledger time concerns this start alone (R299). -/
def State.bluReplay (s : State) : State :=
  let ends0 := s.tally (·.closed)
  let led := s.blu.freezeLt
  let s := s.onlyIf (decide ((s.hwm : Int) < s.wall)) fun s => s.put64 .BLU_HWM_L .BLU_HWM_H 0 s.wall.toNat
  let s : State := { s with blu := { s.blu with hFrom := s.wallAtPf, replay := some (s.wallAtPf, 105408) } }
  let s := if s.bcu.counted then (s.fireDue s.hwm 5 led true (s.dueFuel s.hwm)).each (List.range 25) State.replayRest
    else s.each (List.range 25) fun s e => (s.closeInterval e (s.wall.toNat / 65536) led false).beginInterval e (s.wall.toNat / 65536) led true
  let n := s.tally (·.closed) - ends0
  let outage := s.ltime - led
  let s := s.each (List.range 25) fun s e => s.resumeElem outage e
  let s := s.request 1 [⟨0x17, s.ltime, [⟨16, 8, if s.bcu.counted then outage else 0⟩, ⟨24, 4, n⟩, ⟨28, 1, b2n s.bcu.counted⟩]⟩]
  let s := (s.put .BLU_STATUS_PF 0 1).raise 0x1408 (min n 0xFFFF)
  let s := { s with blu := { s.blu with stopped := false, replayDue := false, replay := none } }
  let s := s.onlyIf (!s.bcu.counted) fun s => s.setValid false 2
  { s with bcu := { s.bcu with counted := true } }

/-- A new TARF table comes into force at a metering boundary (R308): switches and SCHED without a record fall, and an element whose tariff in force
changes, or changes its demand interval, ends its period and its interval under the old table. What is due at the boundary acts first (R315). -/
def State.bluPlan (s : State) : State :=
  let s := s.onlyIf s.billsNow State.actDue
  let new := (s.plan.map (·.tarf)).getD []
  let rec? := fun (t : Nat) => new.find? (·.tariff == t)
  let shape := fun (r : TarfRec) => (r.demand, r.interval, r.subint)
  let dropped := s.blu.queue.filter fun w => (rec? w.tariff).isNone
  let s := ({ s with blu := { s.blu with queue := s.blu.queue.filter fun w => (rec? w.tariff).isSome } } : State).showQueue
  let s := dropped.foldl (fun s w => s.refuseSwitch w.scope 1) s
  let s := s.each (List.range 25) fun s e => s.onlyIf (rec? (s.rd .BLU_ESTAT_SCHED e)).isNone fun s => s.put .BLU_ESTAT_SCHED e 0
  let next := fun (s : State) (e : Nat) => if s.wallValid then s.rd .BLU_ESTAT_SCHED e else 0
  let sec := max s.wall.toNat s.hwm / 65536
  let hit := (List.range 25).filter fun e =>
    next s e != s.tariff e || ((s.tarf (s.tariff e)).map shape) != ((rec? (s.tariff e)).map shape)
  let s := s.each hit fun s e => (s.boundaryEnd e).cutInterval e sec s.ltime
  let s : State := { s with blu := { s.blu with table := none } }
  s.each hit fun s e =>
    if next s e ≠ s.tariff e then s.newTariff e (next s e) 4 sec s.ltime false
    else (s.beginInterval e sec s.ltime false).showFlags e

/-- Billing resumes (R318), and a TARF table that a plan brought at the cold reset comes into force (R308). -/
def State.bluRestore (s : State) : State :=
  let s := if s.blu.replayDue then s.bluReplay else { s with blu := { s.blu with stopped := false } }
  s.onlyIf s.blu.table.isSome State.bluPlan

/-- Billing time resumes at the first metering boundary after the MEU resumes (R318): the continuous domain has left reset (R463). -/
def State.resumes (s : State) : Bool :=
  (s.blu.stopped || s.blu.table.isSome) && (s.bcu.phase == .units || s.bcu.phase == .running) && !s.meu.frozen && !s.failed 0x14

/-- A session set waits for its close: the MEU has latched the stop reading (R309). -/
def State.closeDue (s : State) (n : Nat) : Bool := s.flag .BLU_ESTAT_SESS n && !s.flag .MEU_ESTAT_SESS n

/-- A session set waits for its open: the MEU has latched the start reading (R309). -/
def State.openDue (s : State) (n : Nat) : Bool := !s.flag .BLU_ESTAT_SESS n && s.flag .MEU_ESTAT_SESS n

/-- What happens at a metering boundary (R170, R315): bank swap; period ends, natural and forced, with their booking; latches; the billing boundaries in
ascending wall time; session closes and opens; snapshots; the one-second write. After t_pf no boundary acts in the BLU (R316). -/
def State.actBoundary (s : State) (b : Nat) : State :=
  let s := s.moveTo b
  let s : State := { s with meu := { s.meu with lastBoundary := some b } }
  let s := s.meuBoundary.onlyIf s.resumes State.bluRestore
  let s := (s.onlyIf (s.billsNow && s.blu.applyDue) State.hostSync).onlyIf s.billsNow State.advanceH
  let meets := !s.failed 0x12
  let starts := if meets then s.startsDue else []
  let stops := if meets then s.stopsDue else []
  let pf := s.meu.pfDue
  let billed := if s.billsNow then s.billedNow else []
  let ending := s.liveElems.filter fun e => pf || s.ends20ms e || billed.contains e || starts.contains e || stops.contains e
  let s := s.onlyIf (!s.meu.frozen && meets) fun s => s.each ending State.periodAndBook
  let s := s.meuLatches stops starts
  let s := s.onlyIf s.billsNow fun s =>
    let s := s.each (List.range 25) fun s e =>
      if (s.demandTarf e).isSome && s.rd .BLU_IVEND_IVEND e * 65536 == (s.nextDue s.hwm).getD 0 && decide (s.rd .BLU_IVEND_IVEND e * 65536 ≤ s.hwm) then
        s.turnInterval e (s.rd .BLU_IVEND_IVEND e) s.ltime false
      else s
    let s := s.each (s.outlets.filter s.closeDue) fun s n => s.closeSession n
    let s := (s.fireDue s.hwm 1 s.ltime false (s.dueFuel s.hwm)).expireWall
    s.each (s.outlets.filter s.openDue) fun s n => s.openSession n
  let s := s.showSyncAge
  let s := s.onlyIf (s.flag .MEU_SNAP_BUSY 0 && meets) fun s => (s.latchFields .meu meuSnapRegs).put .MEU_SNAP_BUSY 0 0
  let s := s.onlyIf (s.flag .BLU_SNAP_BUSY 0) fun s => (s.latchFields .blu bluSnapRegs).put .BLU_SNAP_BUSY 0 0
  s.meuSecond

/-- METERING_BOUNDARY (R170, R315): the next metering boundary acts. -/
def execMeteringBoundary (s : State) : Out := .next (s.actBoundary s.boundaryNext)

/-- METER_TICK (R335): at the next multiple of TICKMIN × 60 s of ledger time, and there at the metering boundary, one meter tick for each
outlet that the OUTL section names; the boundary's own work comes before it, so that a tick holds A+ and A− after a stop latch (R344). -/
def execMeterTick (s : State) : Out :=
  if !s.bcu.counting ∨ s.tickPeriod = 0 then .next s
  else
    let tick := s.tickNext
    let b := s.boundaryFrom (s.whenLtime tick)
    let s := if s.meu.lastBoundary = some b ∨ b < s.now then s.moveTo b else s.actBoundary b
    .next (s.writeTicks tick)

/-- A write of 1 to GO (R307). -/
def State.writeGo (s : State) (isNow : Bool) (tariff scope : Nat) : State :=
  let s := ((s.putFlag .BLU_TSWCTL_NOW 0 isNow).put .BLU_TSWCTL_TARIFF 0 tariff).put .BLU_TSWCTL_SCOPE 0 scope
  if (s.tarf tariff).isNone then s.refuseSwitch scope 1
  else if 16 ≤ s.blu.queue.length then s.refuseSwitch scope 2
  else if (scopeElems scope).isEmpty then s.refuseSwitch scope 3
  else
    let w : Switch := ⟨scope, tariff, isNow, s.rd64 .BLU_TSWTIME_L .BLU_TSWTIME_H 0⟩
    ({ s with blu := { s.blu with queue := s.blu.queue ++ [w] } } : State).showQueue

/-- GO (R307). -/
def execGo (isNow : Bool) (tariff : BitVec 5) (scope : BitVec 8) (s : State) : Out := .next (s.writeGo isNow tariff.toNat scope.toNat)

/-- A write of 1 to CLRQ cancels every pending switch of the scope (R307). -/
def State.writeClrq (s : State) (scope : Nat) : State :=
  ({ (s.put .BLU_TSWCTL_SCOPE 0 scope) with blu := { s.blu with queue := s.blu.queue.filter fun w => w.scope != scope } } : State).showQueue

/-- CLRQ (R307). -/
def execClrq (scope : BitVec 8) (s : State) : Out := .next (s.writeClrq scope.toNat)

/-- TARIFF_SWITCH_FIRE (R307): the switches due at or below H fire in order of effective time, each element's period ending first, and each interval
of the elements that ends at or before a switch closes before it (R304, R315). -/
def execTariffSwitchFire (s : State) : Out :=
  let s := s.moveTo s.boundaryNext
  if !s.billsNow then .next s
  else
    let s := s.advanceH
    let due := s.blu.queue.filter fun w => decide (w.eff s.wall ≤ s.hwm)
    let es := (due.map fun w => scopeElems w.scope).flatten.eraseDups
    let s := s.each es State.boundaryEnd
    .next (s.each (sortBy (fun a b => decide (a ≤ b)) (due.map fun w => w.eff s.wall)).eraseDups fun s t =>
      (s.each es fun s e => s.turnUpTo e t s.ltime (s.dueFuel t)).fireSwitchesAt t 1 s.ltime false)

/-- An interval of the element has ended at or below H (R300). -/
def State.endDue (s : State) (e : Nat) : Bool := (s.demandTarf e).isSome && decide (s.rd .BLU_IVEND_IVEND e * 65536 ≤ s.hwm)

/-- INTERVAL_CLOSE (R312): the interval or sub-interval of an element whose end lies at or below H closes; a switch of the element that is due at an
earlier wall time comes first (R315). -/
def execIntervalClose (e : Fin 25) (s : State) : Out :=
  let s := s.moveTo s.boundaryNext
  if !s.billsNow then .next s
  else
    let s := s.advanceH
    if !s.endDue e then .next s
    else
      let s := s.boundaryEnd e
      let until_ := s.rd .BLU_IVEND_IVEND e * 65536 - 1
      let early := s.blu.queue.any fun w => decide (w.eff s.wall ≤ until_) && (scopeElems w.scope).contains e
      let s := s.onlyIf early fun s => (s.each (s.billedUpTo until_) State.boundaryEnd).fireDue until_ 1 s.ltime false (s.dueFuel until_)
      .next (s.onlyIf (s.endDue e) fun s => s.turnInterval e (s.rd .BLU_IVEND_IVEND e) s.ltime false)

/-- A tamper change is recorded with main power: event 0x1409, a legal-hold record and the tag's log (R321). -/
def State.recordTamper (s : State) (c : TamperChange) : State :=
  let s := (s.put .BLU_STATUS_TAMPER 0 1).raise2 0x1409 c.input c.kind
  let s := s.request 2 [⟨0x18, c.ltime, [⟨16, 1, c.input⟩, ⟨17, 1, c.kind⟩, ⟨18, 1, b2n c.onBattery⟩]⟩]
  { s with blu := { s.blu with tamperLog := (c :: s.blu.tamperLog).take 32 } }

/-- What a tamper change does at once: NOW, the count, TAMP in open sessions, SEALBRK (R320, R322). -/
def State.tamperState (s : State) (c : TamperChange) : State :=
  let s := s.putBit .BLU_TAMPER_NOW 0 c.input (c.kind == 1 || c.kind == 3 || c.kind == 5)
  let s := s.onlyIf (c.input == 4) fun s => { s with blu := { s.blu with sealKind := c.kind } }
  let s := s.count .BLU_TAMPER_COUNT 0
  let s := s.onlyIf (c.kind == 1) fun s => s.each s.outlets fun s n =>
    s.onlyIf (s.flag .BLU_ESTAT_SESS n) fun s => (s.setBill n { s.bill n with sTamp := true }).showFlags n
  s.onlyIf (c.kind == 3) fun s =>
    let s := s.putFlag .BLU_STATUS_SEALBRK 0 true
    s.each (List.range 25) fun s e => (s.onlyIf (s.flag .BLU_ESTAT_SESS e) fun s => s.setBill e { s.bill e with sSeal := true }).showFlags e

/-- The last samples of a land that must agree: 20 while VIN or VHOLD is present, 2 on VBAT alone (R320). -/
def State.tamperNeeds (s : State) : Nat := if s.rd .BCU_VBAT_SRC 0 = 2 then 2 else 20

/-- The value on which the last samples of a land agree, if enough of them do (R320). -/
def agreed (need : Nat) (samples : List (Option Nat)) : Option Nat :=
  let last := samples.reverse.take need
  if last.length < need ∨ need = 0 then none
  else match last.head? with
    | some (some x) => if last.all (· == some x) then some x else none
    | _ => none

/-- What a resistance in ohms says of a contact land: 1 closed, 0 open, nothing between 1 kΩ and 100 kΩ (R319). -/
def contactOf (ohms : Nat) : Option Nat := if ohms < 1000 then some 1 else if 100000 < ohms then some 0 else none

/-- What a resistance in ohms says of the seal loop, as a kind of R320: 4 intact, 3 broken, 5 out of band (R319). -/
def sealOf (ohms : Nat) : Option Nat := some (if ohms < 200 then 4 else if 20000 < ohms then 3 else 5)

/-- The kind of change that the samples of a land confirm: a contact that is enabled and has entered or left tamper by its TPOL bit, or a seal loop
that reads otherwise than before (R319, R320). -/
def State.tamperKind (s : State) (input : Nat) (ohms : List Nat) : Option Nat :=
  if input = 4 then (agreed s.tamperNeeds (ohms.map sealOf)).filter fun k => k != s.blu.sealKind
  else if bit (s.rd .BLU_TAMPCFG_TEN 0) input then
    match agreed s.tamperNeeds (ohms.map contactOf) with
    | none => none
    | some c =>
      let tamper := (c == 1) == bit (s.rd .BLU_TAMPCFG_TPOL 0) input
      if tamper == bit (s.rd .BLU_TAMPER_NOW 0) input then none else some (if tamper then 1 else 2)
  else none

/-- TAMPER_CHANGE (R319 to R321): the samples of a tamper land, the last one now, as resistances; a change that they confirm is stamped and recorded;
without main power the first 32 are kept and the rest counted. -/
def execTamperChange (input : Fin 5) (ohms : List Nat) (s : State) : Out :=
  match s.tamperKind input ohms with
  | none => .next s
  | some kind =>
    let c : TamperChange := ⟨input, kind, s.ltime, s.rd .BCU_VBAT_SRC 0 == 2⟩
    let s := s.tamperState c
    if s.bcu.phase != .off then .next (s.recordTamper c)
    else if s.blu.kept.length < 32 then .next { s with blu := { s.blu with kept := s.blu.kept ++ [c] } }
    else .next (s.count .BLU_TAMPER_LOST 0)

/-- The kept tamper changes are written in time order, and the lost ones counted in one record (R321). -/
def State.replayTamper (s : State) : State :=
  let kept := s.blu.kept
  let s := { s with blu := { s.blu with kept := [] } }
  let s := kept.foldl (fun s c => s.recordTamper c) s
  s.onlyIf (decide (0 < s.rd .BLU_TAMPER_LOST 0)) fun s =>
    (s.request 2 [⟨0x19, s.ltime, [⟨16, 4, s.rd .BLU_TAMPER_LOST 0⟩]⟩]).put .BLU_TAMPER_LOST 0 0

end Sys2Proof.Machine
end

