-- ==== Sys2Proof/Machine/Sched.lean ====
section
/-! DEFINITION. SCH (chapters 1 and 2): admission of streams to slices, freeing at frame boundaries, margins and misses. -/

namespace Sys2Proof.Machine

open Sys2Proof

/-- The engine on which a stream runs (R35, R65). -/
def engineOf (stream : Nat) : Nat :=
  match stream / 256 with
  | 0x11 => if bit stream 6 then 4 else 1
  | 0x12 => 0
  | 0x13 => 2
  | 0x18 => 3
  | 0x1A => 5
  | _ => 4

/-- The slices of an engine. -/
def State.slicesOf (s : State) (e : Nat) : List Slice := s.sch.slices.filter fun x => x.engine == e

/-- A slice that an admission may take. -/
def Slice.isOpen (x : Slice) : Bool := x.stream == 0xFFFF && !x.background && x.cls != 0

/-- SCH_OPENn of every engine. -/
def State.showOpen (s : State) : State :=
  s.each (List.range 6) fun s e =>
    (s.put .SCH_OPEN_OPEN e ((s.slicesOf e).filter Slice.isOpen).length).put .SCH_OPEN_TOTAL e (s.slicesOf e).length

/-- A stream holds slices that it has not given back. -/
def State.isBound (s : State) (stream : Nat) : Bool := s.sch.slices.any fun x => x.stream == stream && !x.freed

/-- The statistics of a stream. -/
def State.stat (s : State) (stream : Nat) : StreamStat := lookup {} s.sch.stats stream

/-- The statistics of a stream set. -/
def State.setStat (s : State) (stream : Nat) (v : StreamStat) : State :=
  { s with sch := { s.sch with stats := update {} s.sch.stats stream v } }

/-- The class record of a class of an engine. -/
def State.classOf (s : State) (e cls : Nat) : Option ClassRec := s.sch.classes.find? fun c => c.engine == e && c.cls == cls

/-- A slice that may be bound to a stream in a class: an open one of its engine (R67); an antenna has its own slice (R275), and so have
an Afril node and the Afril network (R367). -/
def Slice.fits (x : Slice) (stream cls : Nat) : Bool :=
  x.engine == engineOf stream && x.cls == cls && x.isOpen && (x.engine != 3 || x.index == stream % 256) &&
    (x.engine != 5 || x.index == (if stream % 256 = 0 then 62 else stream % 256 - 1))

/-- The stream bound to the first `k` slices that fit it, in ascending index. -/
def bindFirst (cls stream : Nat) : Nat → List Slice → List Slice
  | 0, l => l
  | _ + 1, [] => []
  | k + 1, x :: r =>
    if x.fits stream cls then { x with stream := stream } :: bindFirst cls stream k r
    else x :: bindFirst cls stream (k + 1) r

/-- The admission check (R67): enough open slices of the class. -/
def State.hasRoom (s : State) (stream cls : Nat) : Bool :=
  match s.classOf (engineOf stream) cls with
  | none => false
  | some c => decide (c.sps ≤ (s.sch.slices.filter fun x => x.fits stream cls).length)

/-- A stream is bound to SPS open slices of its class (R67). DESIGN CHOICE (log entry 66): its misses start again from 0 as its margin does. -/
def State.bindStream (s : State) (stream cls : Nat) : State :=
  let sps := ((s.classOf (engineOf stream) cls).map (·.sps)).getD 1
  let s : State := { s with sch := { s.sch with slices := bindFirst cls stream sps s.sch.slices
                                                waiting := s.sch.waiting.filter (·.1 != stream) } }
  (s.setStat stream {}).showOpen

/-- A refusal (R67). -/
def State.refuseStream (s : State) (stream : Nat) : State :=
  (((s.put .SCH_STATUS_REFUSED 0 1).count .SCH_REFUSALS_COUNT 0).put .SCH_REFUSALS_LAST 0 stream).raise 0x0501 stream

/-- What the SCH's answer does at an antenna, for its stream 0x1800 + k (R276). -/
def State.antennaAnswer (s : State) (stream : Nat) : State :=
  let k := stream - 0x1800
  if stream < 0x1800 ∨ 0x1803 < stream then s
  else if s.isBound stream then s.putFlag .CLU_ANTCTL_ADM k true
  else ((s.putFlag .CLU_ANTCTL_ADM k false).putFlag .CLU_ANTCTL_ANTEN k false).raise2 0x1803 k 0

/-- A unit asks for admission (R67, R276); a stream that is bound stays as it is (R69). -/
def State.admitStream (s : State) (stream cls : Nat) : State :=
  (if s.isBound stream then s else if s.hasRoom stream cls then s.bindStream stream cls else s.refuseStream stream).antennaAnswer stream

/-- A request that stays pending after its refusal (R113). -/
def State.waitStream (s : State) (stream cls : Nat) : State :=
  let l := s.sch.waiting.filter (·.1 != stream)
  { s with sch := { s.sch with waiting := l.filter (fun e => decide (e.1 < stream)) ++ [(stream, cls)] ++ l.filter (fun e => decide (stream < e.1)) } }

/-- A stream ends: its slices open at the next frame boundary of its engine (R68). -/
def State.endStream (s : State) (stream : Nat) : State :=
  { s with sch := { s.sch with slices := s.sch.slices.map fun x => if x.stream = stream then { x with freed := true } else x
                               waiting := s.sch.waiting.filter (·.1 != stream) } }

/-- Slices freed in the frame before become open (R68). -/
def State.openFreed (s : State) (e : Nat) : State :=
  ({ s with sch := { s.sch with slices := s.sch.slices.map fun x =>
      if x.engine = e ∧ x.freed then { x with stream := 0xFFFF, freed := false } else x } } : State).showOpen

/-- ADMISSION_REQUEST (R67). -/
def execAdmissionRequest (stream : BitVec 16) (cls : Fin 16) (s : State) : Out := .next (s.admitStream stream.toNat cls.val)

/-- STREAM_END (R68); an antenna whose stream ends is no longer admitted (R276). -/
def execStreamEnd (stream : BitVec 16) (s : State) : Out :=
  let k := stream.toNat - 0x1800
  .next ((s.endStream stream.toNat).onlyIf (decide (0x1800 ≤ stream.toNat ∧ stream.toNat ≤ 0x1803)) fun s => s.putFlag .CLU_ANTCTL_ADM k false)

/-- A stream's work completes `t` ns after its arrival, against the budget of its class (R38, R66). -/
def State.complete (s : State) (x : Slice) (t : Nat) : State :=
  let budget := ((s.classOf x.engine x.cls).map (·.budget)).getD 0
  let st := s.stat x.stream
  if t ≤ budget then s.setStat x.stream { st with margin := min st.margin (min 0xFFFFFFFF (budget - t)) }
  else
    let s := s.setStat x.stream { margin := 0, misses := satInc 0xFFFF st.misses }
    ((s.put .SCH_STATUS_MISS 0 1).count .SCH_MISSES_TMISS 0).raise 0x0502 x.stream

/-- SLICE_RUN (R36, R38): the slice serves its stream's work, completed after `done` ns, or the engine's background duties. -/
def execSliceRun (e : Fin 6) (index : BitVec 16) (done : Option Nat) (s : State) : Out :=
  match (s.slicesOf e).find? fun x => x.index == index.toNat, done with
  | some x, some t => .next (if x.background || x.stream == 0xFFFF then s else s.complete x t)
  | _, _ => .next s

/-- What a snapshot of the SCH shows of the selected stream (R71). -/
def State.showStream (s : State) : State :=
  let st := s.stat (s.rd .SCH_SEL_STREAM 0)
  (s.put .SCH_MARGIN_MARGIN 0 st.margin).put .SCH_MISSES_SMISS 0 st.misses

/-- The slice tables of a plan come into force (R64); the SEC binds its two streams (R514). DESIGN CHOICE (log entry 30): where engine 4 has no open
slice for them they stay unbound, without a refusal event. -/
def State.bindSlices (s : State) (p : Plan) : State :=
  let sl := p.slices.map fun r => (⟨r.engine, r.index, r.stream, r.cls, bit r.flags 0, r.len, r.proof, false⟩ : Slice)
  let s : State := { s with sch := { s.sch with slices := sl, classes := p.classes, stats := [], waiting := [] } }
  let s := s.showOpen
  let s := s.onlyIf (!s.isBound 0x1901 && s.hasRoom 0x1901 1) fun s => s.bindStream 0x1901 1
  s.onlyIf (!s.isBound 0x1902 && s.hasRoom 0x1902 2) fun s => s.bindStream 0x1902 2

end Sys2Proof.Machine
end

