-- ==== Sys2Proof/Machine/Vehicle.lean ====
section
/-! DEFINITION. VCE (chapter 4): lanes, SLAC, 10BASE-T1S, V2G sessions, the receive buffer and the loop responder. -/

namespace Sys2Proof.Machine

open Sys2Proof

/-- The VCE of an outlet. -/
def State.vce (s : State) (n : Nat) : Vce := lookup {} s.vces n

/-- The VCE of an outlet set. -/
def State.setVce (s : State) (n : Nat) (v : Vce) : State := { s with vces := update {} s.vces n v }

/-- PROTO of an outlet (R50). -/
def State.proto (s : State) (n : Nat) : Nat := ((s.outl n).map (·.proto)).getD 0

/-- The lane stream of an outlet and its class (R109). -/
def laneStream (n : Nat) : Nat := 0x1100 + n

/-- The TLS record stream of an outlet (R65). -/
def tlsStream (n : Nat) : Nat := 0x1140 + n

/-- LSTATE of an outlet. -/
def State.lstate (s : State) (n : Nat) : Nat := s.rd .VCE_OLINK_LSTATE n

/-- VCE_LANEn BOUND (R140). -/
def State.showLanes (s : State) : State :=
  s.each (List.range 6) fun s k => s.put .VCE_LANE_BOUND k (maskOf ((List.range 4).filter fun i => s.isBound (laneStream (4 * k + i))))

/-- A message of the controller is given to a vehicle link. On Green PHY it goes out in a PPDU that the encoder is asked for (R114); on a link that
bypasses the lanes it goes out at once (R119, R126). -/
def State.send (s : State) (n : Nat) (t : VceTx) : State :=
  let v := s.vce n
  let out := b2n (2 ≤ s.rd .VCE_OLINK_MEDIUM n)
  s.setVce n { v with sent := v.sent ++ [t], asked := v.asked + out, aired := v.aired + out }

/-- A host message, as FWD selects (R131). -/
def State.hostMsg (s : State) (n dir flags code lt : Nat) (body exi : List Nat) : State :=
  let fwd := s.eff .VCE_OCFG_FWD n
  if fwd = 0 then s
  else
    let x := if fwd = 3 then exi else []
    let m : HostMsg := ⟨n, code / 256, dir, flags + 8 * b2n (!x.isEmpty), code, (s.vce n).seq, lt, if fwd = 1 then [] else body, x⟩
    let s : State := { s with hostMsgs := s.hostMsgs ++ [m] }
    s.setVce n { s.vce n with seq := ((s.vce n).seq + 1) % 2 ^ 32 }

/-- How many elements or occurrences follow each other. -/
def countVal : V2gVal → Nat
  | .elem _ _ rest | .elems _ _ rest | .item _ rest => countVal rest + 1
  | _ => 0

/-- The CBOR form of what the codec decodes (R132); `inside` leaves out the head of a map or an array that is under way. -/
def cborVal (inside : Bool) : V2gVal → List Nat
  | .bool b => [if b then 0xF5 else 0xF4]
  | .int v => cborInt v
  | .text l => cborText l
  | .bin l => cborBytes l
  | .done => if inside then [] else cborHead 5 0
  | .elem name v rest => (if inside then [] else cborHead 5 (countVal rest + 1)) ++ cborText name ++ cborVal false v ++ cborVal true rest
  | .elems name items rest => (if inside then [] else cborHead 5 (countVal rest + 1)) ++ cborText name ++ cborVal false items ++ cborVal true rest
  | .item v rest => (if inside then [] else cborHead 4 (countVal rest + 1)) ++ cborVal false v ++ cborVal true rest

/-- A name in ASCII. -/
def ascii (t : String) : List Nat := t.toList.map (·.toNat)

/-- A physical value of a response: a map of its parts (R132), whose names are those of the standards: PRESUMED (log entry 75). -/
def physVal (gen : Nat) (v e : Int) : V2gVal :=
  .elem (ascii (if gen = 3 then "Exponent" else "Multiplier")) (.int e) (.elem (ascii "Value") (.int v) .done)

/-- The elements of a response that the spec names, before what else the schema gives it: the result (R121, R123, R125), the services (R122) and the grant
in the fields of R218. Names and values that the spec does not give are those of the standards: PRESUMED (log entry 75). -/
def V2gOut.tree (o : V2gOut) (rest : V2gVal) : V2gVal :=
  let gen := o.code / 256
  let add := fun (b : Bool) (t : String) (v : V2gVal) (r : V2gVal) => if b then .elem (ascii t) v r else r
  let p := o.power.getD 0
  let power := if o.code = 0x030E then "EVSETargetActivePower"
    else if gen = 3 ∧ o.code ≠ 0x030A then (if p < 0 then "EVSEMaximumDischargePower" else "EVSEMaximumChargePower")
    else if o.code ∈ [0x0209, 0x030A] then "PMax" else "EVSEMaximumPowerLimit"
  let amps := if o.code = 0x020B then "EVSEMaxCurrent" else if gen = 3 then "EVSEMaximumChargeCurrent" else "EVSEMaximumCurrentLimit"
  let rest := add o.amps.isSome amps (physVal gen (o.amps.getD 0 : Nat) (-1)) rest
  let rest := add o.power.isSome power (physVal gen (if gen = 3 then p.natAbs else p) 0) rest
  let rest := add (o.result == 1) "EVSEProcessing" (.text (ascii "Ongoing")) rest
  match o.fail with
  | none => add (o.result != 2) "ResponseCode" (.text (ascii "OK")) rest
  | some .sequenceError => add true "ResponseCode" (.text (ascii "FAILED_SequenceError")) rest
  | some .unknownSession => add true "ResponseCode" (.text (ascii "FAILED_UnknownSession")) rest
  | some .other => add true "ResponseCode" (.text (ascii "FAILED")) rest
  | some (.certificate _) => rest

/-- The host message of a response: what is sent, in CBOR, and its EXI form (R131, R132). -/
def State.hostRes (s : State) (n flags : Nat) (o : V2gOut) (lt : Nat) : State :=
  let (a, s) := s.draw
  let tree := o.tree (Config.resRest a)
  s.hostMsg n 1 flags o.code lt (cborVal false tree) ((Config.exiOf o.code tree).map (· % 256))

/-- A lane stream is bound: the firmware sets 5 % duty, and SLAC begins with the NID and NMK of the plug-in (R112, R115). On a pantograph outlet
there is no SLAC (R126). Without random bits there are no keys and no SLAC (R412): DESIGN CHOICE (log entry 67), the outlet falls back to basic
PWM where it allows it, and its link counts as failed until the vehicle leaves. -/
def State.laneAdmitted (s : State) (n : Nat) : State :=
  let s := ((s.put .OIU_CPCTL_DMODE n 1).put .OIU_CPCTL_GEN n 1).showLanes
  if s.kind n = 4 then s.onlyIf (s.lstate n == 1) fun s => s.put .VCE_OLINK_LSTATE n 0
  else if !(s.vce n).keyed && !s.randomOk then
    let s := ((s.endStream (laneStream n)).put .VCE_OLINK_LSTATE n 7).put .OIU_CPCTL_DMODE n 0
    s.put .OIU_CPCTL_GEN n (b2n (bit (s.proto n) 0))
  else
    let s := (s.put .VCE_OLINK_LSTATE n 2).put .VCE_OERR_SLACTRY n (min 3 (s.rd .VCE_OERR_SLACTRY n + 1))
    let s := s.onlyIf (!(s.vce n).keyed) fun s =>
      let (a, s) := s.randomBits
      let (b, s) := s.randomBits
      s.setVce n { s.vce n with nid := a, nmk := b, keyed := true }
    s.setVce n { s.vce n with initT := some (gridAt (msec 1) (s.now + 1) + msec 40000) }

/-- An outlet with high-level communication asks for its lane (R112, R113). A megawatt outlet, whose frames bypass the decode lanes and whose
generator never runs PWM, asks for none (R100, R119). A pantograph's Ethernet link stands beside the lane (R126). -/
def State.requestLane (s : State) (n : Nat) : State :=
  let cls := n / 4 + 1
  if s.proto n / 2 % 8 = 0 ∨ s.kind n = 3 ∨ (s.vce n).noLane = true ∨ (s.lstate n ≠ 0 ∧ (s.kind n ≠ 4 ∨ s.lstate n < 3)) ∨ s.refuses n = true ∨ s.failed 0x11 = true then s
  else if s.isBound (laneStream n) then s.laneAdmitted n
  else if s.hasRoom (laneStream n) cls then (s.bindStream (laneStream n) cls).laneAdmitted n
  else
    let s := s.refuseStream (laneStream n)
    if bit (s.proto n) 0 then
      let s := (s.put .OIU_CPCTL_DMODE n 0).put .OIU_CPCTL_GEN n 1
      (s.setVce n { s.vce n with noLane := true }).raise2 0x1104 n 0
    else (s.waitStream (laneStream n) cls).onlyIf (s.lstate n == 0) fun s => s.put .VCE_OLINK_LSTATE n 1

/-- The loop responder stops on an outlet: event 0x1109 (R136). -/
def State.responderStops (s : State) (n : Nat) : State := s.onlyIf (s.lstate n == 6) fun s => s.raise2 0x1109 n 0

/-- What a V2G session leaves behind when it ends (R123, R125, R138); a command that waits ends without effect (R133); on an AC outlet a session that has failed falls back to basic PWM while
the vehicle stays (R88). -/
def State.endSession (s : State) (n reason : Nat) : State :=
  let s := (s.responderStops n).raise2 0x1106 n reason
  let s := ((s.put .VCE_OLINK_GEN n 0).put .VCE_OSVC_SVC n 0).put .VCE_OSVC_AUTH n 0
  let s := (s.put .VCE_OSVC_TLS n 0).put .VCE_OSVC_DYN n 0
  let s := s.put .VCE_OLINK_LSTATE n (if s.rd .VCE_OLINK_MEDIUM n = 0 then 0 else 3)
  let s := s.onlyIf (s.rd .VCE_OCMD_RESULT n == 1) fun s => s.put .VCE_OCMD_RESULT n 3
  let v := s.vce n
  let s := s.setVce n { v with linkT := none, tlsT := none, seqT := none, authT := none, certT := none, sess := false, inLoop := false,
                               stopReq := false, notify := 0, auth := .none, contract := none, cableCheck := false, lastMsg := 0, cmd := 0,
                               cmdAt := 0, cmdBefore := 0,
                               checkedIn := false, headDown := false, req := {}, agreed := none, ckpt := {} }
  let s := ({ s with ccRequested := setBit s.ccRequested n false } : State).endStream (tlsStream n)
  s.onlyIf (decide (reason = 3 ∨ reason = 5) && decide (1 ≤ s.cpState n / 2 ∧ s.cpState n / 2 ≤ 3)) fun s => s.hlcFallback n

/-- The link of an outlet carries a session, or one is being set up. -/
def State.inSession (s : State) (n : Nat) : Bool := 4 ≤ s.lstate n && s.lstate n ≤ 6 || s.rd .VCE_OLINK_GEN n != 0

/-- The PPDUs of the transmit path in their order of service: each takes 260 µs of the encoder after its request (R114). DESIGN CHOICE (log entry
68): the encoder takes its longest time for every PPDU. -/
def encodeAll (free : Nat) : List Ppdu → List Ppdu
  | [] => []
  | p :: l => let t := max p.asked free + usec 260; { p with ready := t } :: encodeAll t l

/-- A request of the present instant stands behind those before it and, of the same instant, behind outlets with a lower number (R114). -/
def insertPpdu (p : Ppdu) : List Ppdu → List Ppdu
  | [] => [p]
  | q :: l => if q.asked = p.asked ∧ p.outlet < q.outlet then p :: q :: l else q :: insertPpdu p l

/-- The transmit path with another queue; every outlet's transmit store follows. -/
def State.setQueue (s : State) (e : Encoder) : State :=
  let e := { e with queue := encodeAll e.freeAt e.queue }
  ({ s with encoder := e } : State).each (List.range 24) fun s n =>
    s.setVce n { s.vce n with txq := (e.queue.filter (·.outlet == n)).map (·.ready) }

/-- PPDUs whose transmission has ended leave the transmit stores: a PPDU goes on air once it is completely encoded, and its message with it (R114). -/
def State.sendEncoded (s : State) : State :=
  let (out, rest) := s.encoder.queue.span fun p => decide (p.ready + usec p.micros ≤ s.now)
  let s := s.each ((out.filter (·.carries)).map (·.outlet)) fun s n => s.setVce n { s.vce n with aired := (s.vce n).aired + 1 }
  s.setQueue { queue := rest, freeAt := out.foldl (fun t p => max t p.ready) s.encoder.freeAt }

/-- The VCE drops an outlet's session, association, buffers and lane stream (R138). A link that has failed stays so until the vehicle leaves. -/
def State.vceDrop (s : State) (n : Nat) : State :=
  let s := s.onlyIf (s.inSession n) fun s => s.endSession n 4
  let s := (s.put .VCE_OLINK_MEDIUM n 0).put .VCE_OLINK_LSTATE n (if s.lstate n = 7 then 7 else 0)
  let s := (s.put .VCE_OLINK_ATTEN n 0xFF).put .VCE_ORX_RXPEND n 0
  let v := s.vce n
  let s := s.setVce n { v with initT := none, joinT := none, linkT := none, tlsT := none, atten := 0xFF, rx := [], loopTimes := [], loopSent := []
                               asked := v.sent.length, aired := v.sent.length }
  let s : State := { s with slac := s.slac.filter fun r => (r.match_.map (·.1)) != some n }
  let s := s.setQueue { s.encoder with queue := s.encoder.queue.filter (·.outlet != n) }
  ((s.endStream (laneStream n)).endStream (tlsStream n)).showLanes

/-- The SEC fails as a unit: a session under TLS ends, since its record layer stands still (R31, R474). DESIGN CHOICE (log entry 67): with reason
4. -/
def State.tlsLost (s : State) : State :=
  s.each (List.range 24) fun s n => s.onlyIf (s.inSession n && s.flag .VCE_OSVC_TLS n) fun s => s.endSession n 4

/-- The VCE fails as a unit (R31, R474): every link is dropped, and an outlet that runs 5 % duty goes on with basic PWM where it allows it. -/
def State.vceFail (s : State) : State :=
  (s.each (List.range 24) State.vceDrop).each s.outlets fun s n => s.onlyIf (s.rd .OIU_CPSTATE_DUTYOUT n == 50) fun s => s.hlcFallback n

/-- The association of a 10BASE-T1S link: the link up, CS in band 0x8 and the charge-enable circuit in B or C (R119); none in Ember (R39). -/
def State.t1sJoin (s : State) (n : Nat) : State :=
  if n < 8 ∧ s.kind n = 3 ∧ bit s.t1sUp n = true ∧ s.rd .OIU_PPCS_CODE n = 8 ∧ (s.cpState n / 2 = 1 ∨ s.cpState n / 2 = 2) ∧
      s.rd .VCE_OLINK_MEDIUM n = 0 ∧ s.failed 0x11 = false ∧ s.bcu.ember = false then
    let s := (s.put .VCE_OLINK_MEDIUM n 2).put .VCE_OLINK_LSTATE n 3
    (s.setVce n { s.vce n with linkT := some (s.now + msec 20000) }).raise2 0x1101 n 0xFF
  else s

/-- The VCE's part of a confirmed CS band: a T1S link is used only while CS is in band 0x8 (R119). -/
def State.vceBand (s : State) (n : Nat) : State :=
  (s.onlyIf (s.rd .VCE_OLINK_MEDIUM n == 2 && s.rd .OIU_PPCS_CODE n != 8) fun s => s.vceDrop n).t1sJoin n

/-- The VCE's part of a confirmed pilot change (R112, R118, R119, R138). DEDUCED (log entry 69): the A that the raised head of a pantograph brings
after a check-out request does not end the session, whose check-out answer waits for that head (R126); the lane stream ends, and the association
with its buffers is dropped when the session ends. -/
def State.vcePilot (s : State) (n : Nat) : State :=
  let c := s.cpState n
  let leaving := s.rd .VCE_OLINK_MEDIUM n == 3 && (s.vce n).lastMsg == 0x0314
  let s := s.onlyIf (decide (8 ≤ c) || (decide (c < 2) && !leaving)) fun s => s.vceDrop n
  let s := s.onlyIf (decide (c < 2) && leaving) fun s => (s.endStream (laneStream n)).showLanes
  let s := s.onlyIf (decide (c < 2)) fun s =>
    ((s.put .VCE_OERR_SLACTRY n 0).put .VCE_OLINK_LSTATE n (if s.lstate n = 7 then 0 else s.lstate n)).setVce n
      { s.vce n with noLane := false, retryT := none, keyed := false }
  let s := s.onlyIf (decide (c / 2 = 1) && !s.bcu.ember) fun s => s.requestLane n
  s.t1sJoin n

/-- A stream that waited is admitted (R68, R113). -/
def State.streamAdmitted (s : State) (stream : Nat) : State :=
  if stream / 256 = 0x11 ∧ bit stream 6 = false then s.laneAdmitted (stream % 64)
  else if stream / 256 = 0x11 then
    let n := stream % 64
    let s := ((s.send n (.sdpRes true)).put .VCE_OLINK_LSTATE n 4).put .VCE_OSVC_TLS n 1
    s.setVce n { s.vce n with tlsT := some (s.now + msec 10000) }
  else s

/-- ENGINE_FRAME_BOUNDARY (R68): slices freed before become open, and pending requests are decided in ascending stream identity. -/
def execEngineFrameBoundary (e : Fin 6) (s : State) : Out :=
  let s := s.openFreed e
  let due := s.sch.waiting.filter fun w => engineOf w.1 == e.val
  .next ((due.foldl (fun s w => if s.hasRoom w.1 w.2 then (s.bindStream w.1 w.2).streamAdmitted w.1 else s) s).showLanes)

/-- A message is longer than 8,192 bytes: it is not decoded (R130). -/
def State.oversize (s : State) (n : Nat) : State := ((s.raise2 0x110B n 0).send n .tcpClose).endSession n 5

/-- A receive buffer takes a message; the eighth closes the window (R108, R135). -/
def State.store (s : State) (n : Nat) (m : V2gMsg) : State :=
  let v := s.vce n
  if 8 ≤ v.rx.length then s
  else
    let s := s.setVce n { v with rx := v.rx ++ [⟨m, s.ltime, false⟩] }
    let s := (s.count .VCE_ORX_RXMSG n).put .VCE_ORX_RXPEND n (v.rx.length + 1)
    s.onlyIf (decide (v.rx.length = 7)) fun s => (s.put .VCE_STATUS_RXFULL 0 1).raise2 0x1108 n 8

/-- A message reaches the record layer: a handshake under way is finished (R125). -/
def State.handshakeDone (s : State) (n : Nat) : State := s.setVce n { s.vce n with tlsT := none }

/-- VEHICLE_FRAME_RECEIVED (R111, R134, R135, R139): a frame is decoded; the message that it completes goes to the offload or, while the
offload does not run, into the receive buffer. A frame of an outlet without a link is discarded. -/
def execVehicleFrameReceived (n : Fin 24) (fecError : Bool) (message : Option V2gMsg) (s : State) : Out :=
  let lane := s.isBound (laneStream n)
  if !lane && s.rd .VCE_OLINK_MEDIUM n == 0 then .next s
  else
    let s := s.onlyIf lane fun s => s.count .VCE_LANE_PPDU (n / 4)
    let s := s.onlyIf fecError fun s => s.count .VCE_OERR_FECERR n
    match message with
    | none => .next s
    | some m =>
      if s.rd .VCE_OLINK_MEDIUM n = 0 then .next s
      else if s.flag .VCE_STATUS_OFFLOAD 0 then .next ((s.handshakeDone n).count .VCE_ORX_RXMSG n)
      else if 8192 < m.len then .next ((s.handshakeDone n).oversize n)
      else .next ((s.handshakeDone n).store n m)

/-- The transmit store of an outlet in bytes: 9.8 Mbit/s over the time on air (R107, R108). -/
def State.txStored (s : State) (n : Nat) : Nat := ((s.encoder.queue.filter (·.outlet == n)).map fun p => p.micros * 49 / 40).sum

/-- TRANSMIT_ENCODE (R114): a PPDU of at most 2,050 µs joins the queue of the shared encoder; it carries the outlet's oldest message that waits for one. DESIGN CHOICE (log entry 68): one that the 16 KiB of
the transmit store do not hold is not taken. -/
def execTransmitEncode (n : Fin 24) (micros : Nat) (s : State) : Out :=
  let s := s.sendEncoded
  if 2050 < micros ∨ 16384 < s.txStored n + micros * 49 / 40 ∨ s.failed 0x11 = true then .next s
  else
    let v := s.vce n
    let carries := decide (v.asked < v.sent.length)
    let s := s.setVce n { v with asked := v.asked + b2n carries }
    .next (s.setQueue { s.encoder with queue := insertPpdu ⟨n, s.now, micros, 0, carries⟩ s.encoder.queue })

/-- A SLAC candidate: in state B or C, at 5 % duty, with a bound lane stream and no association (R116). -/
def State.candidate (s : State) (n : Nat) : Bool :=
  (s.cpState n == 3 || s.cpState n == 5) && s.rd .OIU_CPSTATE_DUTYOUT n == 50 && s.isBound (laneStream n) && s.lstate n == 2

/-- The SLAC run of a RunID. -/
def State.run (s : State) (id : Nat) : Option SlacRun := s.slac.find? (·.id == id)

/-- A SLAC run set. -/
def State.setRun (s : State) (r : SlacRun) : State := { s with slac := s.slac.filter (·.id != r.id) ++ [r] }

/-- CM_SLAC_PARM_REQ (R115, R116): answered on every candidate that heard it. -/
def execCmSlacParmReq (run : Nat) (heard : BitVec 24) (s : State) : Out :=
  let s := s.onlyIf (s.run run).isNone fun s => s.setRun ⟨run, none, none⟩
  .next (s.each ((bitList 24 heard.toNat).filter s.candidate) fun s n =>
    (s.send n (.slacParmCnf run)).setVce n { (s.send n (.slacParmCnf run)).vce n with initT := none })

/-- CM_START_ATTEN_CHAR_IND (R115): the first of a RunID opens the 600 ms sound window. -/
def execCmStartAttenCharInd (run : Nat) (s : State) : Out :=
  match s.run run with
  | some r => if r.window.isSome then .next s else .next (s.setRun { r with window := some (s.now + msec 600) })
  | none => .next s

/-- A SLAC run fails its margin (R116, R117). -/
def State.marginFailed (s : State) (n margin : Nat) : State := (s.put .VCE_STATUS_SLACAMB 0 1).raise2 0x1103 n (min 254 margin)

/-- The run is matched to an outlet; of two runs that name it, the one with the lower attenuation is answered (R117). DESIGN CHOICE (log entry
70): of two with equal attenuation the earlier one is. -/
def State.matchRun (s : State) (r : SlacRun) (n sum margin : Nat) : State :=
  let other := s.slac.find? fun q => q.id != r.id && (q.match_.map (·.1)) == some n
  match other with
  | none => (s.setRun { r with window := none, match_ := some (n, sum, margin) }).send n (.attenCharInd r.id)
  | some q =>
    let old := (q.match_.map (·.2.1)).getD 0
    let oldMargin := (q.match_.map (·.2.2)).getD 0
    if sum < old then
      let s := (s.setRun { q with match_ := none }).marginFailed n oldMargin
      (s.setRun { r with window := none, match_ := some (n, sum, margin) }).send n (.attenCharInd r.id)
    else (s.setRun { r with window := none }).marginFailed n margin

/-- SOUND_WINDOW_CLOSE (R116, R117): with the sounds counted and the 58 attenuation groups of every front end that heard the run. The mean
attenuations are compared as sums of 58 groups. DESIGN CHOICE (log entry 70): margins in dB are rounded down, and a run that no other front end
heard has a margin of 254 dB. -/
def execSoundWindowClose (run : Nat) (sounds : List (Nat × Nat × List Nat)) (s : State) : Out :=
  match s.run run with
  | none => .next s
  | some r =>
    match r.window with
    | none => .next s
    | some t =>
      let s := s.moveTo t
      let heard := (sounds.filter fun e => decide (8 ≤ e.2.1) && decide (e.1 < 24)).map fun e => (e.1, e.2.2.sum)
      let best := (heard.filter fun e => s.candidate e.1).foldl
        (fun (o : Option (Nat × Nat)) e => match o with | none => some e | some b => if e.2 < b.2 then some e else some b) none
      match best with
      | none => .next (s.setRun { r with window := none })
      | some (n, a) =>
        let others := (heard.filter fun e => e.1 != n).map (·.2)
        let next := others.foldl min (a + 58 * 254)
        let need := 58 * s.rd .VCE_CTL_SLACMARG 0
        if a + need ≤ next then .next (s.matchRun r n a ((next - a) / 58))
        else .next ((s.setRun { r with window := none }).marginFailed n ((next - a) / 58))

/-- A SLAC attempt fails (R118). -/
def State.slacFail (s : State) (n : Nat) : State :=
  let v := s.vce n
  let s := s.setVce n { v with initT := none, joinT := none }
  let s : State := { s with slac := s.slac.filter fun r => (r.match_.map (·.1)) != some n }
  if s.kind n < 2 then (s.put .VCE_OLINK_LSTATE n 7).hlcFallback n
  else
    let s := s.put .OIU_CPCTL_GEN n 2
    let tries := s.rd .VCE_OERR_SLACTRY n
    if 3 ≤ tries then (s.put .VCE_OLINK_LSTATE n 7).raise2 0x1102 n tries
    else s.setVce n { s.vce n with retryT := some (s.now + msec 4000) }

/-- CM_SLAC_MATCH_REQ (R115, R116): accepted on the matched outlet and answered with the NID and NMK; a run that no outlet matched is refused. ATTEN is the mean in dB, rounded down (log entry 70). -/
def execCmSlacMatchReq (run : Nat) (n : Fin 24) (s : State) : Out :=
  match s.run run with
  | none => .next s
  | some r =>
    match r.match_ with
    | some (m, sum, _) =>
      if m = n.val ∧ s.lstate n = 2 then
        let v := s.vce n
        let s := s.send n (.slacMatchCnf run v.nid v.nmk)
        .next (s.setVce n { s.vce n with joinT := some (s.now + msec 12000), initT := none, atten := min 254 (sum / 58) })
      else .next s
    | none => .next (if s.candidate n then s.slacFail n else s)

/-- LINK_JOINED (R115): the link is associated. -/
def execLinkJoined (n : Fin 24) (s : State) : Out :=
  let v := s.vce n
  if v.joinT.isNone then .next s
  else
    let s := ((s.put .VCE_OLINK_LSTATE n 3).put .VCE_OLINK_MEDIUM n 1).put .VCE_OLINK_ATTEN n v.atten
    let s : State := { s with slac := s.slac.filter fun r => (r.match_.map (·.1)) != some n.val }
    .next ((s.setVce n { v with joinT := none, initT := none, linkT := some (s.now + msec 20000) }).raise2 0x1101 n v.atten)

/-- SLAC_TIMER_EXPIRY (R115, R118): the init or the join timer expires. -/
def execSlacTimerExpiry (n : Fin 24) (s : State) : Out :=
  match (s.vce n).joinT.or (s.vce n).initT with
  | none => .next s
  | some t => .next ((s.moveTo t).slacFail n)

/-- SLAC_RETRY (R118): after 4.0 s of state F on a DC outlet, 5 % duty again. -/
def execSlacRetry (n : Fin 24) (s : State) : Out :=
  match (s.vce n).retryT with
  | none => .next s
  | some t =>
    let s := (s.moveTo t).setVce n { s.vce n with retryT := none }
    .next (((s.put .VCE_OLINK_LSTATE n 0).put .OIU_CPCTL_GEN n 0).requestLane n)

/-- T1S_LINK_CHANGE (R119, R120). -/
def execT1sLinkChange (k : Fin 8) (up : Bool) (s : State) : Out :=
  let s : State := { s with t1sUp := setBit s.t1sUp k up }
  if up then .next ((s.setVce k { s.vce k with t1sT := none }).t1sJoin k)
  else if s.rd .VCE_OLINK_MEDIUM k = 2 then .next (s.setVce k { s.vce k with t1sT := some (s.now + msec 100) })
  else .next s

/-- T1S_LINK_DOWN (R120): down for more than 100 ms in a session. -/
def execT1sLinkDown (k : Fin 8) (s : State) : Out :=
  match (s.vce k).t1sT with
  | none => .next s
  | some t =>
    let s := (s.moveTo t).setVce k { s.vce k with t1sT := none }
    let open_ := s.inSession k
    let s := s.onlyIf open_ fun s => (s.raise2 0x110A k 0).endSession k 4
    let s := (s.put .VCE_OLINK_MEDIUM k 0).put .VCE_OLINK_LSTATE k 0
    .next (s.onlyIf open_ fun s => s.writeCloseEn k false)

/-- The site has an Ethernet port in use, over which a pantograph's vehicle reaches the controller (R126). DEDUCED (log entry 69): an outlet record
names no port, so any port record that is not off serves. -/
def State.hasEthernet (s : State) : Bool := s.plan.any fun p => p.netw.any fun r => r.type == 1 && decide (r.byte 1 < 4) && r.byte 2 != 0

/-- Without TLS the outlet can serve DIN SPEC 70121, and ISO 15118-2 with external payment (R139). -/
def State.servesPlain (s : State) (n : Nat) : Bool := s.proto n / 2 % 4 != 0

/-- The answer to an SDP request that asks for TLS (R121, R139): TLS where the record stream is admitted. Without random bits or with a failed
SEC no handshake runs (R412, R474): DESIGN CHOICE (log entry 67), that counts as a refusal of the stream. -/
def State.offerTls (s : State) (n : Nat) : State :=
  let st := tlsStream n
  if !s.randomOk || s.failed 0x19 then (if s.servesPlain n then s.send n (.sdpRes false) else s)
  else if s.isBound st then s.streamAdmitted st
  else if s.hasRoom st 3 then (s.bindStream st 3).streamAdmitted st
  else
    let s := s.refuseStream st
    if s.servesPlain n then s.send n (.sdpRes false) else s.waitStream st 3

/-- SDP_REQUEST (R121, R126, R134, R139): answered within 50 ms; a repeated request gets the answer of the link as it is being set up. On a
pantograph outlet the request is the first sign of the Ethernet link, which Ember does not have (R39). -/
def execSdpRequest (n : Fin 24) (tls : Bool) (s : State) : Out :=
  let eth := s.kind n == 4 && s.rd .VCE_OLINK_MEDIUM n == 0 && s.hasEthernet && !s.failed 0x11 && !s.bcu.ember
  let s := s.onlyIf eth fun s =>
    let s := (s.put .VCE_OLINK_MEDIUM n 3).put .VCE_OLINK_LSTATE n 3
    (s.setVce n { s.vce n with linkT := some (s.now + msec 20000) }).raise2 0x1101 n 0xFF
  if 4 ≤ s.lstate n ∧ s.lstate n ≤ 6 then .next (s.send n (.sdpRes (s.flag .VCE_OSVC_TLS n)))
  else if s.lstate n ≠ 3 then .next s
  else if !tls then .next (s.send n (.sdpRes false))
  else .next (s.offerTls n)

/-- The messages of a generation (R123). -/
def msgCount (gen : Nat) : Nat := if gen = 1 then 0x0B else if gen = 2 then 0x11 else if gen = 3 then 0x14 else 0

/-- A message of the table of R123 for the selected generation. -/
def knownMsg (gen code : Nat) : Bool := code / 256 == gen && decide (1 ≤ code % 256) && decide (code % 256 ≤ msgCount gen)

/-- The charge-loop messages (R123). -/
def isLoopMsg (code : Nat) : Bool := code ∈ [0x0109, 0x020B, 0x020E, 0x030E, 0x030F]

/-- A service that the outlet offers (R122). Contract payment needs PROTO[5] and TLS (R127, R139). -/
def svcOffered (kind proto gen svc : Nat) (contract tls : Bool) : Bool :=
  (!contract || (bit proto 5 && tls && gen != 1)) &&
  match gen, svc with
  | 1, 1 => kind == 2
  | 2, 0 => decide (kind < 2)
  | 2, 1 => kind == 2
  | 3, 0 => decide (kind < 2)
  | 3, 1 => kind == 2 || kind == 3
  | 3, 2 => decide (kind < 2) && bit proto 4
  | 3, 3 => (kind == 2 || kind == 3) && bit proto 4
  | 3, 4 => kind == 4
  | 3, 5 => kind == 4
  | _, _ => false

/-- The services that the outlet offers in the selected generation, as a mask (R122). -/
def State.services (s : State) (n : Nat) : Nat :=
  maskOf ((List.range 6).filter fun k => svcOffered (s.kind n) (s.proto n) (s.rd .VCE_OLINK_GEN n) k false false)

/-- The session may be paid by contract (R122, R127). -/
def State.contractOffered (s : State) (n : Nat) : Bool :=
  bit (s.proto n) 5 && s.flag .VCE_OSVC_TLS n && decide (2 ≤ s.rd .VCE_OLINK_GEN n)

/-- The response states the grant as a power (R218): the current demand, the schedule of ChargeParameterDiscovery and ScheduleExchange, the loops of ISO
15118-20. -/
def State.carriesPower (s : State) (n code : Nat) : Bool :=
  decide (code ∈ [0x0109, 0x0209, 0x020E, 0x030E, 0x030F]) || (code == 0x030A && !s.flag .VCE_OSVC_DYN n)

/-- The first element of a name in what the codec decodes. -/
def findVal (name : List Nat) : V2gVal → Option V2gVal
  | .elem nm v rest => if nm = name then some v else (findVal name v).or (findVal name rest)
  | .elems _ items rest => (findVal name items).or (findVal name rest)
  | .item v rest => (findVal name v).or (findVal name rest)
  | _ => none

/-- A physical value in units of 10^-k: a number, or Value times ten to Multiplier or Exponent. -/
def scaledVal (k : Nat) (v : V2gVal) : Option Int :=
  let int := fun (o : Option V2gVal) => match o with
    | some (.int i) => some i
    | _ => none
  match v with
  | .int i => some (i * 10 ^ k)
  | _ => (int (findVal (ascii "Value") v)).map fun i =>
    let e : Int := ((int (findVal (ascii "Multiplier") v)).or (int (findVal (ascii "Exponent") v))).getD 0 + k
    if 0 ≤ e then i * 10 ^ e.toNat else i / 10 ^ (-e).toNat

/-- The first of several elements that a message carries, in units of 10^-k. -/
def takeVal (v : V2gVal) (k : Nat) (names : List String) : Option Int := names.findSome? fun t => (findVal (ascii t) v).bind (scaledVal k)

/-- What a message asks for takes the place of what the vehicle asked before (R212). The element names that R212 does not give are those of the standards:
PRESUMED (log entry 75). -/
def VehReq.hear (r : VehReq) (v : V2gVal) (lt : Nat) : VehReq :=
  let nat := fun (k : Nat) (names : List String) (old : Option Nat) => ((takeVal v k names).map Int.toNat).or old
  { power := nat 0 ["EVMaximumPowerLimit", "EVMaximumChargePower"] r.power
    current := nat 1 ["EVMaximumCurrentLimit", "EVMaxCurrent"] r.current
    target := nat 1 ["EVTargetVoltage"] r.target
    vmax := nat 1 ["EVMaximumVoltageLimit", "EVMaximumVoltage"] r.vmax
    want := nat 1 ["EVTargetCurrent"] r.want
    energy := nat 0 ["EAmount", "EVEnergyRequest", "EVTargetEnergyRequest"] r.energy
    least := (takeVal v 0 ["EVMinimumEnergyRequest"]).or r.least
    departAt := ((takeVal v 0 ["DepartureTime"]).map fun t => lt + t.toNat * 65536).or r.departAt
    soc := nat 0 ["EVRESSSOC", "PresentSOC"] r.soc
    discharge := nat 0 ["EVMaximumDischargePower"] r.discharge }

/-- A response with its contents: what the spec gives beside the result depends on the request (R122, R133). The current is ICODE, and on the
outlets of R218 the grant as a current where it is lower (R88, R99). -/
def State.content (s : State) (n code result : Nat) (fail : Option V2gFail) : V2gOut :=
  let v := s.vce n
  { code := code, result := result, fail := fail
    services := if code ∈ [0x0102, 0x0202, 0x0304] then s.services n else 0
    contract := decide (code ∈ [0x0202, 0x0302]) && s.contractOffered n
    limits := if code ∈ [0x0105, 0x0209, 0x0308, 0x0309] then (s.outl n).map fun o => (o.pmax, o.vmax, o.imax) else none
    notify := if v.notify ≠ 0 then v.notify else b2n v.stopReq
    power := if s.carriesPower n code then some v.limit else none
    amps := if code ∈ [0x020B, 0x030F] then some v.icode
      else if code ∈ [0x0109, 0x020E] then some (((v.req.target.filter (0 < ·)).map fun u => min v.icode (v.limit.toNat * 100 / u)).getD v.icode)
      else none }

/-- A response to the vehicle (R123), also to the host; the sequence time starts again (R125). A schedule is agreed on by the answers that carry one, the
last only in scheduled control mode (R218). -/
def State.respondWith (s : State) (n code result : Nat) (fail : Option V2gFail) : State :=
  let s := s.onlyIf (fail.isNone && (code == 0x0209 || (code == 0x030A && !s.flag .VCE_OSVC_DYN n))) fun s =>
    s.setVce n { s.vce n with agreed := some (s.vce n).limit }
  let o := s.content n code result fail
  let s := (s.send n (.v2gRes o)).hostRes n 0 o s.ltime
  s.setVce n { s.vce n with seqT := some (s.now + msec 60000), notify := 0 }

/-- A response that is finished or ongoing. -/
def State.respond (s : State) (n code result : Nat) : State := s.respondWith n code result none

/-- A failed request: the answer, and the session's end with reason 5 (R123). -/
def State.failRequest (s : State) (n code : Nat) (f : V2gFail) : State := (s.respondWith n code 2 (some f)).endSession n 5

/-- A generation that the outlet enables and the link can carry: DIN SPEC 70121 without TLS, ISO 15118-20 with it (R121, R122, R139). -/
def State.selectable (s : State) (n g : Nat) : Bool :=
  decide (1 ≤ g ∧ g ≤ 3) && bit (s.proto n) g && (g != 1 || !s.flag .VCE_OSVC_TLS n) && (g != 3 || s.flag .VCE_OSVC_TLS n)

/-- The protocol selection (R121): the vehicle's best entry that the outlet enables. -/
def State.selectProtocol (s : State) (n : Nat) (offers : List Nat) : State :=
  let s := s.setVce n { s.vce n with linkT := none }
  match offers.find? (s.selectable n) with
  | none => ((s.send n (.appProtoRes 0)).hostRes n 0 { code := 1, result := 2 } s.ltime).endSession n 5
  | some g =>
    let s := ((s.send n (.appProtoRes g)).hostRes n 0 { code := 1, result := 0 } s.ltime).put .VCE_OLINK_GEN n g
    s.setVce n { s.vce n with seqT := some (s.now + msec 60000) }

/-- A contract check has failed: authorisation ends with the generation's certificate failure code and event 0x1107 (R127). -/
def State.refuseContract (s : State) (n code detail : Nat) : State :=
  ((s.setVce n { s.vce n with auth := .refused, authT := none }).raise2 0x1107 n detail).respondWith n code 2 (some (.certificate detail))

/-- The back office is asked for the authorisation, and the vehicle waits (R125, R127). -/
def State.awaitAuth (s : State) (n code : Nat) (ask : Bool) : State :=
  let s := s.onlyIf ask fun s => { s with ntu := { s.ntu with backOffice := s.ntu.backOffice ++ [.authorise n] } }
  (s.setVce n { s.vce n with auth := .pending, authT := some (s.now + msec 55000) }).respond n code 1

/-- The detail of a contract check: validity is not checked while wall time is invalid (R128). -/
def State.contractDetail (s : State) (check : Nat) : Nat := if check = 3 ∧ !s.wallValid then 0 else check

/-- A PaymentDetails request (R127): the contract chain is checked, and kept for the authorisation that follows. -/
def State.paymentDetails (s : State) (n code check : Nat) (inList : Bool) : State :=
  let s := s.put .VCE_OSVC_AUTH n 2
  if !s.contractOffered n then s.failRequest n code .other
  else if s.contractDetail check ≠ 0 then s.refuseContract n code (s.contractDetail check)
  else (s.setVce n { s.vce n with contract := some inList }).respond n code 0

/-- An authorisation by contract whose checks have passed: by the Local Auth List, or by the back office (R127, R128). -/
def State.decideContract (s : State) (n code : Nat) (inList : Bool) : State :=
  if inList && s.wallValid then (s.setVce n { s.vce n with auth := .accepted }).respond n code 0 else s.awaitAuth n code true

/-- An authorisation request (R125, R127, R128): answered by its state; the first starts the 55 s. A contract's checks are made on every request
that carries it. -/
def State.authorise (s : State) (n code : Nat) (contract : Option (Nat × Bool)) : State :=
  let free := ((s.outl n).map fun o => bit o.flags 0).getD false
  let contract := if s.rd .VCE_OLINK_GEN n = 1 then none else contract
  let detail := s.contractDetail ((contract.map (·.1)).getD (if (s.vce n).contract.isSome ∧ (s.vce n).auth = .none then 2 else 0))
  let s := s.onlyIf contract.isSome fun s => s.put .VCE_OSVC_AUTH n 2
  if contract.isSome && !s.contractOffered n then s.failRequest n code .other
  else if detail ≠ 0 then s.refuseContract n code detail
  else match (s.vce n).auth, (s.vce n).contract.or (contract.map (·.2)) with
  | .accepted, _ => (s.setVce n { s.vce n with authT := none }).respond n code 0
  | .refused, _ => s.respondWith n code 2 (some .other)
  | .pending, _ => s.respond n code 1
  | .none, some inList => s.decideContract n code inList
  | .none, none =>
    let s := s.onlyIf (s.rd .VCE_OSVC_AUTH n == 0) fun s => s.put .VCE_OSVC_AUTH n 1
    if free then (s.setVce n { s.vce n with auth := .accepted }).respond n code 0 else s.awaitAuth n code false

/-- A cable check request (R124, R189): Ongoing until the contactor is closed and the insulation test has finished. -/
def State.answerCableCheck (s : State) (n code : Nat) : State :=
  let v := s.vce n
  let s := s.onlyIf (!v.cableCheck) fun s =>
    ({ s with ccRequested := setBit s.ccRequested n true } : State).setVce n { v with cableCheck := true }
  let imd := ((s.outl n).map (·.imd)).getD 0xFF
  let running := bit s.ccRequested n || (lookup {} s.imds imd).check == some n || !s.flag .OIU_CONTACT_CFB n
  s.respond n code (if running then 1 else if s.rd .EFU_IMDSTAT_CCRES imd = 3 then 2 else 0)

/-- A command of VCE_OCMD acts at the message boundary (R133): the response asks the vehicle for what the host wants. A command written in the
instant of the boundary waits for the next one, and the one that waited before it acts (R14); RESULT is that of the last. -/
def State.actOnCmd (s : State) (n : Nat) (isStop : Bool) : State :=
  let v := s.vce n
  let gen := s.rd .VCE_OLINK_GEN n
  let late := v.cmdAt == s.now + 1
  let cmd := if late then v.cmdBefore else v.cmd
  let none_ := isStop || (cmd != 1 && decide (gen < 2))
  if cmd = 0 then s
  else
    let s := s.setVce n { v with cmd := if late then v.cmd else 0, cmdBefore := 0, stopReq := v.stopReq || (cmd == 1 && !none_)
                                 notify := if none_ then v.notify else cmd }
    s.onlyIf (!late) fun s => s.put .VCE_OCMD_RESULT n (if none_ then 3 else 2)

/-- The OCPP version of the active plan's endpoint (R394). -/
def State.ocppVersion (s : State) : Option Nat := (s.plan.bind fun p => p.netw.find? (·.type == 5)).map (·.byte 1)

/-- A certificate request is forwarded to the back office (R129): under OCPP 2.0.1 and 2.1 as the EV certificate request, under OCPP 1.6 in the
data-transfer message. -/
def State.forwardCertificate (s : State) (n code : Nat) (exi : List Nat) : State :=
  let s : State := match s.ocppVersion with
    | some 0 => { s with ntu := { s.ntu with backOffice := s.ntu.backOffice ++ [.dataTransfer n code exi] } }
    | some _ => { s with ntu := { s.ntu with backOffice := s.ntu.backOffice ++ [.evCertificate n code exi] } }
    | none => s
  s.setVce n { s.vce n with certT := some (s.now + msec 3800), certMsg := code, seqT := none }

/-- The firmware encodes the two loop responses of an outlet in a charge loop (R136); their bytes are open. -/
def State.encodeLoop (s : State) (n : Nat) : State :=
  let (a, s) := s.drawBytes
  let (b, s) := s.drawBytes
  let (p, s) := s.draw
  let (q, s) := s.draw
  s.setVce n { s.vce n with loopNormal := ⟨a, p⟩, loopShutdown := ⟨b, q⟩ }

/-- A pantograph's session waits after its check-in until CS reads band 0x8 and the pilot contact gives B (R126). -/
def State.headWaits (s : State) (n : Nat) : Bool := (s.vce n).checkedIn && !(s.vce n).headDown

/-- The head of a pantograph is seen down on the vehicle (R126). -/
def State.seeHead (s : State) (n : Nat) : State :=
  s.onlyIf (s.headWaits n && s.rd .OIU_PPCS_CODE n == 8 && s.cpState n / 2 == 1) fun s => s.setVce n { s.vce n with headDown := true }

/-- A session stop (R123, R124); the association of a pantograph whose head has left goes with it (log entry 69). -/
def State.answerStop (s : State) (n : Nat) (m : V2gMsg) : State :=
  let early := match m.body with | .stop e => e | _ => false
  let reason := if (s.vce n).stopReq then 2 else if early then 1 else 0
  let s := (s.respond n m.code 0).endSession n reason
  let s := s.onlyIf (decide (2 ≤ s.kind n)) fun s => s.writeCloseEn n false
  s.onlyIf (s.rd .VCE_OLINK_MEDIUM n == 3 && decide (s.cpState n < 2)) fun s => s.vceDrop n

/-- A service selection (R122). -/
def State.answerService (s : State) (n code svc : Nat) (dyn contract : Bool) : State :=
  let gen := s.rd .VCE_OLINK_GEN n
  if svcOffered (s.kind n) (s.proto n) gen svc contract (s.flag .VCE_OSVC_TLS n) then
    let s := (s.put .VCE_OSVC_SVC n (2 ^ svc)).putFlag .VCE_OSVC_DYN n dyn
    let s := s.onlyIf (gen != 3) fun s => s.put .VCE_OSVC_AUTH n (if contract then 2 else 1)
    s.respond n code 0
  else s.failRequest n code .other

/-- A vehicle checks in under a pantograph (R126). DESIGN CHOICE (log entry 69): a check-in that is not accepted is answered as failed, and the session
goes on, so that the vehicle can check in again. -/
def State.answerCheckIn (s : State) (n code outlet : Nat) : State :=
  if outlet = n ∧ s.kind n = 4 ∧ s.rd .OIU_PPCS_CODE n = 7 then
    (s.setVce n { s.vce n with checkedIn := true, headDown := false }).respond n code 0
  else s.respondWith n code 2 (some .other)

/-- A vehicle checks out (R126): finished once CS has read band 0x7 again. -/
def State.answerCheckOut (s : State) (n code : Nat) : State :=
  if s.rd .OIU_PPCS_CODE n = 7 then (s.setVce n { s.vce n with checkedIn := false, headDown := false }).respond n code 0 else s.respond n code 1

/-- What a known request in its order does (R122 to R129). -/
def State.answerMsg (s : State) (n : Nat) (m : V2gMsg) : State :=
  let gen := s.rd .VCE_OLINK_GEN n
  let stop := m.code ∈ [0x010B, 0x0211, 0x0312]
  let s := (s.actOnCmd n stop).seeHead n
  let receipt := m.code ∈ [0x0210, 0x0311] ∧ (s.vce n).inLoop = true
  let s := s.setVce n { s.vce n with inLoop := isLoopMsg m.code || decide receipt, lastMsg := m.code }
  let s := s.onlyIf (isLoopMsg m.code) fun s => s.encodeLoop n
  if m.code % 256 = 1 then
    let s := (s.put .VCE_OLINK_LSTATE n 5).setVce n { s.vce n with sess := true, auth := .none, contract := none, cableCheck := false }
    ((s.newSession n).raise2 0x1105 n gen).respond n m.code 0
  else if stop then s.answerStop n m
  else if m.code = 0x0314 then s.answerCheckOut n m.code
  else if s.headWaits n then s.respond n m.code 1
  else if m.code ∈ [0x0106, 0x020C, 0x030B] then s.answerCableCheck n m.code
  else if m.code ∈ [0x0205, 0x0206, 0x0307] then s.forwardCertificate n m.code m.exi
  else if m.code ∈ [0x0104, 0x0208, 0x0303] then
    s.authorise n m.code (match m.body with | .contract c l => some (c, l) | _ => none)
  else match m.body with
  | .service svc dyn contract => if m.code ∈ [0x0103, 0x0204, 0x0306] then s.answerService n m.code svc dyn contract else s.respond n m.code 0
  | .contract c l => if m.code = 0x0207 then s.paymentDetails n m.code c l else s.respond n m.code 0
  | .checkIn o => if m.code = 0x0313 then s.answerCheckIn n m.code o else s.respond n m.code 0
  | _ => s.respond n m.code 0

/-- The firmware writes the session's checkpoint on every V2G message (R453). -/
def State.saveSession (s : State) (n : Nat) : State :=
  let v := s.vce n
  s.setVce n { v with ckpt := { v.ckpt with auth := v.auth, contract := v.contract, cableCheck := v.cableCheck, stopReq := v.stopReq,
                                            checkedIn := v.checkedIn, headDown := v.headDown, lastMsg := v.lastMsg, certMsg := v.certMsg,
                                            req := v.req, agreed := v.agreed } }

/-- A message at its place in the selected generation, or why it is not (R123); SupportedAppProtocol stands before every other message. -/
def State.orderOf (s : State) (n : Nat) (m : V2gMsg) : V2gOrder :=
  let gen := s.rd .VCE_OLINK_GEN n
  if m.order ≠ .inOrder then m.order
  else if (if m.code = 1 then gen == 0 else knownMsg gen m.code) then .inOrder else .outOfOrder

/-- A request is answered (R121 to R133); `flags` are those of the host message. DESIGN CHOICE (log entry 71): for FWD the message boundary lies before
the host message of the request, which the new value then already forwards. DESIGN CHOICE (log entry 71): a message that does not decode is
reported to the host and gets no answer. -/
def State.answer (s : State) (n : Nat) (m : V2gMsg) (flags lt : Nat) : State :=
  let s := s.apply .VCE_OCFG_FWD n
  match m.val with
  | none => s.hostMsg n 0 (flags + 4) m.code lt [] m.exi
  | some val =>
    let s := s.hostMsg n 0 flags m.code lt (cborVal false val) m.exi
    let s := s.setVce n { s.vce n with req := (s.vce n).req.hear val lt }
    match s.orderOf n m with
    | .outOfOrder => s.failRequest n m.code .sequenceError
    | .unknownSession => s.failRequest n m.code .unknownSession
    | .inOrder => (if m.code = 1 then s.selectProtocol n (match m.body with | .protocols l => l | _ => []) else s.answerMsg n m).saveSession n

/-- A message reaches the record layer of a linked outlet: answered by the offload, or stored while it does not run (R130, R134, R136). -/
def State.take (s : State) (n : Nat) (m : V2gMsg) : State :=
  if s.rd .VCE_OLINK_MEDIUM n = 0 then s
  else
    let s := s.handshakeDone n
    if 8192 < m.len then s.oversize n
    else if s.flag .VCE_STATUS_OFFLOAD 0 then s.answer n m 0 s.ltime else s.store n m

/-- SUPPORTED_APP_PROTOCOL (R121); its V2GTP header has the 8 bytes of the standard: PRESUMED (log entry 71). -/
def execSupportedAppProtocol (n : Fin 24) (offers : List Nat) (val : V2gVal) (exi : List Nat) (s : State) : Out :=
  .next (s.take n ⟨1, exi.length + 8, .inOrder, .protocols offers, some val, exi⟩)

/-- V2G_REQUEST (R123). -/
def execV2gRequest (n : Fin 24) (m : V2gMsg) (s : State) : Out := .next (s.take n m)

/-- V2G_TIMEOUT (R125): 0 link to SupportedAppProtocol, 1 TLS handshake, 2 sequence, 3 authorisation. The session logic, which keeps all but the
handshake time, stands still while the offload does not run (R106). -/
def execV2gTimeout (n : Fin 24) (kind : Fin 4) (s : State) : Out :=
  let v := s.vce n
  match (if kind.val = 0 then v.linkT else if kind.val = 1 then v.tlsT else if kind.val = 2 then v.seqT else v.authT) with
  | none => .next s
  | some t =>
    if kind.val ≠ 1 ∧ s.flag .VCE_STATUS_OFFLOAD 0 = false then .next s
    else
      let s := s.moveTo t
      if kind.val = 1 then
        let (a, s) := s.draw
        .next ((s.raise2 0x110C n (a % 256)).endSession n 3)
      else if kind.val = 3 then
        let code := if s.rd .VCE_OLINK_GEN n = 1 then 0x0104 else if s.rd .VCE_OLINK_GEN n = 2 then 0x0208 else 0x0303
        .next ((s.respondWith n code 2 (some .other)).endSession n 3)
      else .next (s.endSession n 3)

/-- The forwarded certificate request is answered (R129). -/
def State.answerCert (s : State) (n result : Nat) : State :=
  let v := s.vce n
  (s.setVce n { v with certT := none }).respondWith n v.certMsg result (if result = 2 then some .other else none)

/-- CERTIFICATE_FORWARD_TIMEOUT (R106, R129). -/
def execCertificateForwardTimeout (n : Fin 24) (s : State) : Out :=
  match (s.vce n).certT with
  | none => .next s
  | some t => if s.flag .VCE_STATUS_OFFLOAD 0 then .next ((s.moveTo t).answerCert n 2) else .next s

/-- OCPP_CERTIFICATE_ANSWER (R106, R129). -/
def execOcppCertificateAnswer (n : Fin 24) (s : State) : Out :=
  if (s.vce n).certT.isSome && s.flag .VCE_STATUS_OFFLOAD 0 then .next (s.answerCert n 0) else .next s

/-- OCPP_AUTHORISATION_RESULT (R106, R127): the next request of the vehicle gets the result. -/
def execOcppAuthorisationResult (n : Fin 24) (accepted : Bool) (s : State) : Out :=
  let v := s.vce n
  if v.auth = .pending ∧ s.flag .VCE_STATUS_OFFLOAD 0 = true then
    .next ((s.setVce n { v with auth := if accepted then .accepted else .refused, authT := none }).saveSession n)
  else .next s

/-- A write of CMD in VCE_OCMDn (R14, R133). -/
def State.writeOcmd (s : State) (n cmd : Nat) : State :=
  let v := s.vce n
  if 1 ≤ cmd ∧ cmd ≤ 3 then
    (s.setVce n { v with cmd := cmd, cmdAt := s.now + 1, cmdBefore := if v.cmdAt = s.now + 1 then v.cmdBefore else v.cmd }).put .VCE_OCMD_RESULT n 1
  else s

/-- STOP (R133). -/
def execStop (n : Fin 24) (s : State) : Out := .next (s.writeOcmd n 1)

/-- PAUSE (R133). -/
def execPause (n : Fin 24) (s : State) : Out := .next (s.writeOcmd n 2)

/-- RENEGOTIATE (R133). -/
def execRenegotiate (n : Fin 24) (s : State) : Out := .next (s.writeOcmd n 3)

/-- The first message of a buffer that the loop responder has still to answer is marked. -/
def markAnswered : List RxMsg → List RxMsg
  | [] => []
  | r :: l => if isLoopMsg r.msg.code && !r.answered then { r with answered := true } :: l else r :: markAnswered l

/-- The loop responder answers the oldest charge-loop request that waits on an outlet in a charge loop (R125, R136). -/
def State.respondLoop (s : State) (n : Nat) : State :=
  let v := s.vce n
  if !v.inLoop || !(v.rx.any fun r => isLoopMsg r.msg.code && !r.answered) then s
  else
    let s := s.onlyIf (s.lstate n != 6) fun s => (s.put .VCE_OLINK_LSTATE n 6).raise2 0x1109 n 1
    let down := s.bcu.holdExpired
    let r := if down then v.loopShutdown else v.loopNormal
    let code := ((v.rx.find? fun r => isLoopMsg r.msg.code && !r.answered).map (·.msg.code)).getD 0
    let exi := (Config.stamped r.bytes r.stampBit s.wall).map (· % 256)
    let s := (s.count .VCE_OERR_LOOPRSP n).send n (.loopRes down r s.wall)
    s.setVce n { s.vce n with rx := markAnswered v.rx, loopTimes := v.loopTimes ++ [s.ltime], loopSent := v.loopSent ++ [(code, exi)]
                              seqT := some (s.now + msec 60000) }

/-- LOOP_RESPONDER_ANSWER (R136): a charge-loop request in the buffer of an outlet in a charge loop, while the offload does not run. -/
def execLoopResponderAnswer (n : Fin 24) (s : State) : Out := .next (if s.flag .VCE_STATUS_OFFLOAD 0 then s else s.respondLoop n)

/-- One outlet's buffer is worked off when the offload restarts (R137); charge-loop requests that came before are answered by the responder
(R139). -/
def State.drainRx (s : State) (n : Nat) : State :=
  let s := s.each (List.range (s.vce n).rx.length) fun s _ => s.respondLoop n
  let v := s.vce n
  let s := s.responderStops n
  let s := (s.setVce n { v with rx := [], loopTimes := [], loopSent := [] }).put .VCE_ORX_RXPEND n 0
  let s := s.onlyIf (s.lstate n == 6) fun s => (s.put .VCE_OLINK_LSTATE n 5).put .VCE_OERR_LOOPRSP n 0
  let s := v.rx.foldl (fun s r =>
    if r.answered then s.hostMsg n 0 (if r.msg.val.isNone then 6 else 2) r.msg.code r.ltime ((r.msg.val.map (cborVal false)).getD []) r.msg.exi else s.answer n r.msg 2 r.ltime) s
  (v.loopTimes.zip v.loopSent).foldl (fun s e => s.hostMsg n 1 1 e.2.1 e.1 (cborVal false (Config.exiTree e.2.1 e.2.2)) e.2.2) s

/-- What the session logic of an outlet holds is lost in the reset of the application domain (R106). -/
def Vce.forget (v : Vce) : Vce :=
  { v with auth := .none, contract := none, cableCheck := false, stopReq := false, checkedIn := false, headDown := false, lastMsg := 0, certMsg := 0
           req := {}, agreed := none, limit := 0 }

/-- The firmware restores a session from its checkpoint (R453, R468). -/
def Vce.resume (v : Vce) : Vce :=
  { v with auth := v.ckpt.auth, contract := v.ckpt.contract, cableCheck := v.ckpt.cableCheck, stopReq := v.ckpt.stopReq, checkedIn := v.ckpt.checkedIn,
           headDown := v.ckpt.headDown, lastMsg := v.ckpt.lastMsg, certMsg := v.ckpt.certMsg, req := v.ckpt.req, agreed := v.ckpt.agreed
           limit := v.ckpt.grant }

/-- The sessions are restored (R468). A session whose link is gone, with the power or with the unit, is over, and so is its checkpoint. -/
def State.resumeSessions (s : State) : State :=
  s.each (List.range 24) fun s n =>
    s.setVce n (if s.rd .VCE_OLINK_MEDIUM n = 0 then { s.vce n with ckpt := {} } else (s.vce n).resume)

/-- OFFLOAD_RESTART (R137): the sessions go on from their checkpoints. -/
def execOffloadRestart (s : State) : Out := 
  .next (if s.flag .VCE_STATUS_OFFLOAD 0 then s else (s.resumeSessions.put .VCE_STATUS_OFFLOAD 0 1).each (List.range 24) State.drainRx)

/-- The lanes that the active profile runs (R39, R111). -/
def State.showLanesOn (s : State) : State :=
  let prof := (s.plan.map (·.head.profile)).getD 3
  s.each (List.range 6) fun s k => s.putFlag .VCE_LANE_ON k (!s.bcu.ember && (prof < 2 || (prof == 2 && 2 ≤ k)))

/-- A warm reset stops the offload (R106, R134). -/
def State.vceWarm (s : State) : State :=
  (s.put .VCE_STATUS_OFFLOAD 0 0).each (List.range 24) fun s n => s.setVce n (s.vce n).forget

/-- The checkpoints of a list of outlets: they lie in Basecamp MRAM (R453). -/
def keepCkpt (l : Tab Vce) : Tab Vce := (l.map fun e => (e.1, ({ ckpt := e.2.ckpt } : Vce))).filter fun e => e.2 != {}

/-- A unit reset of the VCE ends every session and every lane stream (R471); basic PWM goes on (R474). -/
def State.vceReset (s : State) : State :=
  let on := s.rd .VCE_STATUS_OFFLOAD 0
  let s := s.vceFail
  let s : State := { s with vces := keepCkpt s.vces, slac := [], encoder := {} }
  (((s.clearUnit .vce (fun _ => true) []).put .VCE_STATUS_OFFLOAD 0 on).showLanesOn).showLanes

/-- The VCE is idle for an outlet without a bound lane stream, an association or a T1S link in use. -/
def State.vceIdle (s : State) (n : Nat) : Bool := !s.isBound (laneStream n) && s.rd .VCE_OLINK_MEDIUM n == 0

end Sys2Proof.Machine
end

