-- ==== Sys2Proof/Machine/Allocator.lean ====
section
/-! DEFINITION. The allocator (chapter 7): rules, budget, demand allowance, distribution, outputs, breaches, checkpoints. -/

namespace Sys2Proof.Machine

open Sys2Proof

/-- The allocator's checkpointed state set. -/
def State.setCore (s : State) (c : AllocCore) : State := { s with alloc := { s.alloc with core := c } }

/-- Periods that together span at least `span`, from the newest. -/
def spanOf (span : Nat) : List PeriodCopy → List PeriodCopy
  | [] => []
  | x :: r => if span ≤ x.len then [x] else x :: spanOf (span - x.len) r

/-- The mean power in W over the newest periods that span at least `span` (R202); 64,000 units are a second, and the copies hold 0.1 W. -/
def meanOf (span : Nat) (l : List PeriodCopy) : Int :=
  let l := spanOf span l
  let len := (l.map (·.len)).sum
  if len = 0 then 0 else (l.map fun x => x.p * (x.len : Int)).sum / (10 * len)

/-- The mean power of an element in W (R202). -/
def State.meanP (s : State) (e span : Nat) : Int := meanOf span (lookup [] s.alloc.hist e)

/-- The wall second. -/
def State.wallSec (s : State) : Nat := s.wall.toNat / 65536

/-- The window of a rule holds at a wall second (R203). -/
def inWindow (time sec : Nat) : Bool :=
  let minute := sec / 60 % 1440
  let day := (sec / 86400 + 3) % 7
  let start := bitsOf time 10 0
  let stop := bitsOf time 21 11
  let on := fun d => bit time (22 + d)
  if start < stop then on day && decide (start ≤ minute) && decide (minute < stop)
  else (on day && decide (start ≤ minute)) || (on ((day + 6) % 7) && decide (minute < stop))

/-- A rule is active (R203). -/
def State.ruleActive (s : State) (r : AlocRec) : Bool :=
  if r.time = 0 then true
  else if s.wallValid then inWindow r.time s.wallSec
  else r.rule == 2 || r.rule == 3

/-- The active rules of a type and scope. -/
def State.rules (s : State) (rule scope : Nat) : List AlocRec :=
  ((s.plan.map (·.aloc)).getD []).filter fun r => r.rule == rule && r.scope == scope && s.ruleActive r

/-- The lowest of a list, if any. -/
def lowest (l : List Int) : Option Int := l.foldl (fun o v => match o with | none => some v | some w => some (min v w)) none

/-- The smaller of a value and an optional cap. -/
def capBy (v : Int) (c : Option Int) : Int := match c with | none => v | some w => min v w

/-- GL, the export limit and M (R204). -/
def State.gridLim (s : State) : Int × Int × Int :=
  match s.rules 1 0xFE with
  | r :: _ => (r.v1, r.v2, r.v3)
  | [] => (0, 0, 0)

/-- The floor of an outlet (R204, R206). -/
def State.floorOf (s : State) (n : Nat) : Int := (s.rules 4 n).foldl (fun m r => max m r.v1) 0

/-- The charge cap of an outlet (R204, R206). -/
def State.capOf (s : State) (n : Nat) : Option Int := lowest ((s.rules 3 n).map (·.v1))

/-- The limit of a profile now, in its own unit (R208): the lowest of its periods while wall time is invalid. -/
def State.profileLimit (s : State) (p : OcppProfile) : Option Nat :=
  if s.wallValid then (p.periods.filter fun e => decide (e.1 ≤ s.wallSec)).getLast?.map (·.2)
  else p.periods.foldl (fun o e => match o with | none => some e.2 | some v => some (min v e.2)) none

/-- The profile of a purpose with the highest stack level among those for an outlet or for all (R208). -/
def State.profile (s : State) (purpose scope : Nat) : Option OcppProfile :=
  (s.alloc.profiles.filter fun p => p.purpose == purpose && (p.outlet == scope || p.outlet == 0xFF)).foldl
    (fun o p => match o with | none => some p | some q => if q.stack < p.stack then some p else some q) none

/-- A profile's limit in W at a voltage in mV (R208). -/
def State.profileWatts (s : State) (p : OcppProfile) (volts : Nat) (dc : Bool) : Option Int :=
  (s.profileLimit p).map fun v =>
    if p.amps then (v : Int) * (if volts = 0 then 230000 else volts) * (if dc then 1 else p.phases) / 1000 else v

/-- The limits of several purposes for an outlet, or for the station, the lowest of them (R208). -/
def State.ocppLimit (s : State) (l : List Nat) (scope volts : Nat) (dc : Bool) : Option Int :=
  lowest (l.filterMap fun e => (s.profile e scope).bind fun p => s.profileWatts p volts dc)

/-- The level of an outlet (R204, R206, R208). -/
def State.levelOf (s : State) (n : Nat) : Nat :=
  if (s.profile 5 n).isSome then 15 else (s.rules 5 n).foldl (fun m r => max m r.prio) 0

/-- What an outlet's vehicle and its measured values give the allocator at the start of a cycle (R201, R212, R214): the vehicle's request in W, none with
basic PWM; its energy request in Wh and departure in ledger time; its state of charge in %; whether its least energy is met; its discharge limit in W;
the agreed schedule in W; its target, its largest voltage in 0.1 V and its current request in 0.1 A; the mean measured RMS voltage in mV, 0 while none is
measured, and the phases that carry more than 1 A. -/
structure VehIn where
  outlet : Nat
  request : Option Nat
  energy : Option Nat
  departure : Option Nat
  soc : Nat
  minMet : Bool
  discharge : Nat
  schedule : Option Int
  target : Nat
  vmax : Nat
  current : Nat
  volts : Nat
  phases : Nat
  deriving DecidableEq, Repr

/-- The voltage in mV that turns current into power on an AC outlet (R208, R217). -/
def VehIn.milliVolts (v : VehIn) : Nat := if v.volts = 0 then 230000 else v.volts

/-- The phases of an outlet (R217). -/
def State.phasesOf (s : State) (v : VehIn) : Nat :=
  if v.phases = 0 then max 1 (((s.outl v.outlet).map (·.phases)).getD 1) else v.phases

/-- The mean measured RMS voltage of an outlet in mV, over its paired voltage channels; 0 while none is measured (R201, R217). -/
def State.measuredVolts (s : State) (n : Nat) : Nat :=
  let l := (((s.pairsOf n).map (·.pair)).eraseDups.map fun c => s.rd .MEU_CHRMS_RMS c).filter (0 < ·)
  if l.isEmpty then 0 else l.sum / l.length

/-- The phases of an outlet that carry more than 1 A (R217). -/
def State.livePhases (s : State) (n : Nat) : Nat :=
  ((s.pairsOf n).filter fun r => r.qty != 8 && decide (1000 < s.rd .MEU_CHRMS_RMS r.ch)).length

/-- The vehicle's request in W by its messages (R212): EVMaximumPowerLimit, EVMaximumCurrentLimit × EVTargetVoltage, or EVMaximumChargePower; EVMaxCurrent
times the phase voltage and the phases. A session whose vehicle has not asked yet requests nothing. -/
def State.vehicleWatts (s : State) (n volts phases : Nat) : Nat :=
  let r := (s.vce n).req
  if s.kind n < 2 ∧ s.rd .VCE_OLINK_GEN n = 2 then r.current.getD 0 * volts * phases / 10000
  else (r.power.or (r.current.bind fun i => r.target.map fun u => i * u / 100)).getD 0

/-- The vehicle of an outlet has a session by high-level communication. -/
def State.hlc (s : State) (n : Nat) : Bool := (s.vce n).sess || s.rd .VCE_OLINK_GEN n != 0

/-- The inputs of an outlet (R201). -/
def State.vehIn (s : State) (n : Nat) : VehIn :=
  let r := (s.vce n).req
  let mv := s.measuredVolts n
  let k := s.livePhases n
  let ph := if k = 0 then max 1 (((s.outl n).map (·.phases)).getD 1) else k
  { outlet := n, request := if s.hlc n then some (s.vehicleWatts n (if mv = 0 then 230000 else mv) ph) else none
    energy := r.energy, departure := r.departAt, soc := r.soc.getD 0, minMet := (r.least.map fun x => decide (x ≤ 0)).getD false
    discharge := r.discharge.getD 0, schedule := (s.vce n).agreed, target := r.target.getD 0, vmax := r.vmax.getD 0, current := r.want.getD 0
    volts := mv, phases := k }

/-- The outlet may have a session: pilot in B to D, no trip, permits present, not shut down, module not lost (R220, R223, R224). -/
def State.mayServe (s : State) (n : Nat) : Bool :=
  (2 ≤ s.cpState n && s.cpState n < 8) && s.efuClear n && !(s.oiu n).shutDown && !bit s.alloc.lost n &&
    (s.contactorChannels n).all fun c => bit (s.rd .PSW_PERMIT_PERMIT 0) c

/-- The request of an outlet, and which limit bounds it (R212, R225); 0 in the cycle after its contactor has been opened (R224). -/
def State.requestOf (s : State) (v : VehIn) : Int × Nat :=
  let n := v.outlet
  let ac := decide (s.kind n < 2)
  let volts : Nat := if ac then v.milliVolts else v.volts
  let pmax : Int := ((s.outl n).map (·.pmax)).getD 0
  let watts := fun (amps : Nat) => ((amps * volts * s.phasesOf v / 10000 : Nat) : Int)
  let caps : List (Int × Nat) :=
    [(pmax, 1)] ++ (if ac then [(watts (((s.outl n).map (·.imax)).getD 0), 1)] else []) ++ ((s.capOf n).map fun c => (c, 2)).toList
      ++ ((s.ocppLimit [3, 4, 5] n volts (!ac)).map fun c => (c, 3)).toList
      ++ (if ac then [(watts (s.hardIcode n), 4)] else [])
  let capped := caps.foldl (fun (b : Int × Nat) e => if e.1 < b.1 then e else b) (pmax, 1)
  if !s.mayServe n || bit s.alloc.opened n then (0, if bit s.alloc.lost n then 8 else 0)
  else match v.request with
    | some r => if (r : Int) ≤ capped.1 then (r, 0) else capped
    | none =>
      if bit s.alloc.core.low n then
        let p := max (s.meanP n 12800 * 12 / 10) ((6 * volts * s.phasesOf v / 1000 : Nat) : Int)
        if p ≤ capped.1 then (p, 0) else capped
      else capped

/-- The estimate of a basic PWM outlet's request changes (R212). -/
def State.trackLow (s : State) (v : VehIn) : State :=
  let c := s.alloc.core
  let n := v.outlet
  let g := lookup 0 c.grants n
  let p := s.meanP n 12800
  if v.request.isSome ∨ g ≤ 0 then s.setCore { c with low := setBit c.low n false, lowSince := update none c.lowSince n none }
  else if g * 9 < p * 10 then s.setCore { c with low := setBit c.low n false, lowSince := update none c.lowSince n none }
  else if p * 10 < g * 8 then
    match lookup none c.lowSince n with
    | none => s.setCore { c with lowSince := update none c.lowSince n (some s.now) }
    | some t => if t + msec 10000 ≤ s.now then s.setCore { c with low := setBit c.low n true } else s
  else s.setCore { c with lowSince := update none c.lowSince n none }

/-- The seconds left to a departure: the vehicle's, or the DEPART minute of the day (R212). -/
def State.timeLeft (s : State) (v : VehIn) : Option Int :=
  match v.departure with
  | some t => some (((t : Int) - s.ltime) / 65536)
  | none => (s.rules 9 v.outlet).head?.map fun r =>
      let minute := r.v1.toNat
      let nowMin := s.wallSec / 60 % 1440
      let secs := s.wallSec % 60
      (((minute + 1440 - nowMin) % 1440 * 60 : Nat) : Int) - secs

/-- The departure need, capped at the request (R212). -/
def State.needOf (s : State) (v : VehIn) (r : Int) : Int :=
  let target : Option Int := match v.energy with
    | some e => some e
    | none => (s.rules 9 v.outlet).head?.map (·.v2)
  let delivered : Int := if s.session v.outlet then ((s.ereg v.outlet 1 - s.sessReading v.outlet 0) / 1000 : Nat) else 0
  match target, s.timeLeft v with
  | some e, some t => if t ≤ 0 then r else min r (max 0 ((e - delivered) * 3600 / t))
  | _, _ => 0

/-- An outlet in the distribution (R213). -/
structure Share where
  n : Nat
  level : Nat
  r : Int
  need : Int
  floor : Int
  g : Int
  limit : Nat
  deriving DecidableEq, Repr

/-- The sum of the grants at a water level (R213). -/
def waterSum (l : List Share) (level : Int) : Int := (l.map fun x => min x.r (max x.g level)).sum

/-- The largest water level from `lo` in steps of powers of two whose sum does not exceed the remainder. -/
def waterLevel (l : List Share) (rem : Int) : Nat → Int → Int
  | 0, lo => lo
  | k + 1, lo => waterLevel l rem k (if waterSum l (lo + 2 ^ k) ≤ rem then lo + 2 ^ k else lo)

/-- The shares of one level (R213 step 2); `rem` is what the level may use in all, its floors included. -/
def serveLevel (l : List Share) (rem : Int) : List Share :=
  let base := (l.map (·.g)).sum
  let want := l.map fun x => max 0 (min x.r x.need - x.g)
  let total := want.sum
  let raised := if base + total ≤ rem then l.map fun x => { x with g := max x.g (min x.r x.need) }
    else l.map fun x => { x with g := x.g + (if total = 0 then 0 else max 0 (min x.r x.need - x.g) * max 0 (rem - base) / total) }
  if (raised.map (·.g)).sum < rem then
    let w := waterLevel raised rem 31 0
    raised.map fun x => { x with g := min x.r (max x.g w) }
  else raised

/-- The levels are served from `k` down (R213). -/
def serveLevels (all : List Share) (avail : Int) : Nat → List Share
  | 0 =>
    let here := all.filter fun x => x.level == 0
    serveLevel here (max (here.map (·.g)).sum avail)
  | k + 1 =>
    let here := all.filter fun x => x.level == k + 1
    let below := ((all.filter fun x => decide (x.level ≤ k)).map (·.g)).sum
    let got := serveLevel here (max (here.map (·.g)).sum (avail - below))
    got ++ serveLevels all (avail - (got.map (·.g)).sum) k

/-- The distribution of `avail` W (R213): floors, scaled where they exceed it, then the levels. Also the shortfall of the floors. -/
def distribute (l : List Share) (avail : Int) : List Share × Int :=
  let floors := l.map fun x => min x.r x.floor
  let sum := floors.sum
  let avail := max 0 avail
  if avail < sum then (l.map (fun x => { x with g := min x.r x.floor * avail / sum }), sum - avail)
  else (serveLevels (l.map fun x => { x with g := min x.r x.floor }) avail 15, 0)

/-- The demand interval of the site (R210): its target in W, nominal length in s, seconds left and energy so far in mWh. -/
structure Demand where
  target : Int
  len : Int
  left : Int
  energy : Int
  deriving DecidableEq, Repr

/-- The demand interval in force, from the BLU or the allocator's own (R210). -/
def State.demandNow (s : State) : Option Demand :=
  match lowest ((s.rules 2 0xFE).map (·.v1)) with
  | none => none
  | some d =>
    match s.demandTarf 24 with
    | some r =>
      let b := s.bill 24
      let e : Nat := if r.demand = 2 then (b.subs.map (·.imp)).sum + b.runIn else s.rd64 .BLU_IVE_L .BLU_IVE_H (24 * 64)
      some ⟨d, (r.interval * 60 : Nat), (s.rd .BLU_IVEND_IVEND 24 : Int) - s.wallSec, e⟩
    | none =>
      let len := (((s.rules 2 0xFE).head?.map fun r => r.v2.toNat).getD 15) * 60
      some ⟨d, len, (s.alloc.core.ivEnd : Int) - s.wallSec, (s.ereg 24 1 - s.alloc.core.ivStart : Nat)⟩

/-- The allowance p_dem before it is raised to the floors (R210). -/
def Demand.allow (d : Demand) : Int := if 10 ≤ d.left then (d.target * d.len * 10 - d.energy * 36) / (10 * d.left) else d.target

/-- The excess of a value in units of 10 kW, for an event (R226). -/
def tenKw (v : Int) (top : Nat) : Nat := min top (v.toNat / 10000)

/-- The allocator's own interval moves on at its bounds, of the length that a DEMAND rule names, whether or not a rule is active now (R210). -/
def State.ownInterval (s : State) : State :=
  let c := s.alloc.core
  match ((s.rules 2 0xFE) ++ ((s.plan.map (·.aloc)).getD []).filter (·.rule == 2)).head? with
  | none => s.setCore { c with ivEnd := 0 }
  | some r =>
    if s.wallSec < c.ivEnd then s else s.setCore { c with ivEnd := nextEnd (r.v2.toNat * 60) s.wallSec, ivStart := s.ereg 24 1, risk := false }

/-- Interval ends since the last cycle: an interval closed above the target raises event 0x2005 (R210). Intervals that closed while no DEMAND rule was
active, or before the allocator first looked, raise none. -/
def State.trackInterval (s : State) : State :=
  let c := s.alloc.core
  let seen := (s.bill 24).closed + 1
  match s.demandNow with
  | none => (s.setCore { c with closed := seen }).ownInterval
  | some d =>
    match s.demandTarf 24 with
    | some _ =>
      if c.closed = seen then s.ownInterval
      else
        let excess : Int := (s.bill 24).lastDem - d.target
        ((s.setCore { c with closed := seen, risk := false }).onlyIf (decide (0 < excess) && c.closed != 0) fun s =>
          s.raise 0x2005 (tenKw excess 0xFFFF)).ownInterval
    | none =>
      let excess := d.energy * 36 / (10 * max 1 d.len) - d.target
      let ended := c.ivEnd != 0 && decide (c.ivEnd ≤ s.wallSec) && decide (s.wallSec < c.ivEnd + d.len.toNat)
      ((s.setCore { c with closed := seen }).onlyIf (decide (0 < excess) && ended) fun s => s.raise 0x2005 (tenKw excess 0xFFFF)).ownInterval

/-- The end of a direction period of the site element at `t` with its 200 ms mean (R221): a breach begins where the mean exceeds GL, or the export its
limit. DESIGN CHOICE (log entry 74): an export limit of 0 permits no export. -/
def State.breachStep (s : State) (t : Nat) (p : Int) : State :=
  let (gl, ex, m) := s.gridLim
  let c := s.alloc.core
  if c.breach = 0 then
    if gl < p ∧ gl ≠ 0 then (s.setCore { c with breach := 1, belowSince := none }).raise2 0x2002 1 (tenKw (p - gl) 0xFF)
    else if gl ≠ 0 ∧ ex < -p then (s.setCore { c with breach := 2, belowSince := none }).raise2 0x2002 2 (tenKw (-p - ex) 0xFF)
    else s
  else
    let below := if c.breach = 1 then decide (p < gl - m) else decide (-p < ex)
    s.setCore { c with belowSince := if below then some (c.belowSince.getD t) else none }

/-- The breach check (R199, R221): the periods that have ended since the last one, in their order. -/
def State.checkBreach (s : State) : State :=
  let l := lookup [] s.alloc.hist 24
  let fresh := l.takeWhile fun x => decide (s.alloc.breachAt < x.at_)
  let s := (List.range fresh.length).reverse.foldl (fun s k => s.breachStep ((l[k]?.map (·.at_)).getD s.now) (meanOf 12800 (l.drop k))) s
  { s with alloc := { s.alloc with breachAt := ((l.head?).map (·.at_)).getD s.alloc.breachAt } }

/-- The allocator period in ns (R198). -/
def State.allocPeriod (s : State) : Nat := if (s.plan.map (·.head.profile)) = some 1 then msec 50 else msec 100

/-- What the storage can give and take in W (R209, R215): nothing when lost, at or below the SoC minimum, at or above the SoC maximum. -/
def State.storageRange (s : State) : Nat × Nat :=
  match s.rules 6 0xFE with
  | [] => (0, 0)
  | r :: _ =>
    let d := s.alloc.stor
    (if d.lost || decide ((d.soc : Int) ≤ r.v2) then 0 else d.power, if d.lost || decide (r.v3 ≤ (d.soc : Int)) then 0 else d.power)

/-- FLAGS of the storage rule (R204). -/
def State.storageFlags (s : State) : Nat := ((s.rules 6 0xFE).head?.map (·.flags)).getD 0

/-- st_dis: the storage discharge limit for the outlets, 0 without FLAGS[1] (R209). -/
def State.storageOut (s : State) : Nat := if bit s.storageFlags 1 then s.storageRange.1 else 0

/-- Solar availability (R209, R215). -/
def State.solarAvail (s : State) : Nat := if (s.rules 7 0xFE).isEmpty || s.alloc.solar.lost then 0 else s.alloc.solar.power

/-- Base load (R209). -/
def State.baseLoad (s : State) : Int :=
  if (s.pairsOf 24).isEmpty then ((s.rules 10 0xFE).head?.map (·.v1)).getD 0
  else
    let span := if s.alloc.core.breach = 0 then 64000 else 12800
    let st := if s.alloc.stor.lost then 0 else s.alloc.core.storage
    max 0 (s.meanP 24 span + (s.solarAvail : Int) + st - (s.outlets.map fun n => s.meanP n span).sum)

/-- The cap on the discharge of a vehicle, where it may discharge for a purpose: bit 0 peak shaving, bit 1 export (R214). -/
def State.dischargeCap (s : State) (v : VehIn) (purpose : Nat) : Int :=
  let l := s.rules 8 v.outlet
  let svc := s.rd .VCE_OSVC_SVC v.outlet
  let ok := l.any (fun r => bit r.flags purpose) && l.all (fun r => decide (r.v2 ≤ (v.soc : Int))) && (bit svc 2 || bit svc 3) &&
    (v.minMet || s.needOf v 1 == 0) && s.mayServe v.outlet
  let cap := capBy (v.discharge : Int) (lowest (l.map (·.v1)))
  let cap := capBy cap (lowest ((s.rules 3 v.outlet).map (·.v2)))
  let cap := capBy cap (lowest ([3, 4, 5].filterMap fun k => (s.profile k v.outlet).bind fun p => p.discharge.map fun (d : Nat) => (d : Int)))
  if ok then max 0 cap else 0

/-- Equal shares of an amount among outlets with caps, lowest level first (R214). -/
def dischargeShares (caps : List (Nat × Nat × Int)) (amount : Int) : Nat → List (Nat × Int)
  | 0 => []
  | k + 1 =>
    let level := 15 - k
    let here := caps.filter fun c => c.2.1 == level
    let l := here.map fun c => (⟨c.1, level, c.2.2, 0, 0, 0, 0⟩ : Share)
    let got := if l.isEmpty then [] else (serveLevel l (min amount (here.map (·.2.2)).sum)).map fun x => (x.n, x.g)
    got ++ dischargeShares caps (amount - (got.map (·.2)).sum) k

/-- An increase that is too small, refused or limited by a ramp (R216, R221); `site` is what the site ramp still allows. In an export breach a vehicle
discharges less at once. -/
def State.applyIncrease (s : State) (n : Nat) (old new : Int) (site : Option Int) : Int × Nat :=
  if new ≤ old then (new, 0)
  else if s.alloc.core.breach = 2 ∧ old < 0 then (min new 0, if 0 < new then 5 else 0)
  else if s.alloc.core.breach ≠ 0 then (old, 5)
  else if new - old < 500 ∨ (new - old) * 50 < old then (old, 5)
  else
    let ta := (s.allocPeriod / 1000000 : Nat)
    let step := capBy (new - old) (lowest ((s.rules 11 n).map fun r => r.v1 * ta / 1000))
    let step := capBy step site
    (old + max 0 step, if step < new - old then 6 else 0)

/-- Pausing of AC outlets (R216) by the computed grant: the grant that counts, and the state after it. `g` is the grant after the limits on its increase. -/
def State.pause (s : State) (v : VehIn) (computed g : Int) : Int × State :=
  let c := s.alloc.core
  let n := v.outlet
  if 2 ≤ s.kind n ∨ computed < 0 then (g, s)
  else
    let amp : Int := (v.milliVolts * s.phasesOf v / 1000 : Nat)
    if bit c.paused n then
      if computed < 7 * amp then (0, s.setCore { c with goodSince := update none c.goodSince n none })
      else match lookup none c.goodSince n with
        | none => (0, s.setCore { c with goodSince := update none c.goodSince n (some s.now) })
        | some t =>
          if t + msec 10000 ≤ s.now then
            (g, (s.setCore { c with paused := setBit c.paused n false, goodSince := update none c.goodSince n none }).raise2 0x200D n 0)
          else (0, s)
    else if computed < 6 * amp ∧ 0 < lookup 0 c.grants n then (0, (s.setCore { c with paused := setBit c.paused n true }).raise2 0x200D n 1)
    else if computed < 6 * amp then (0, s)
    else (g, s)

/-- The module mode of a DC outlet (R219): cable check, pre-charge, charge, discharge, or off. -/
def State.moduleMode (s : State) (n : Nat) (g : Int) : Nat :=
  let m := (s.vce n).lastMsg
  if m ∈ [0x0106, 0x020C, 0x030B] then 1
  else if m ∈ [0x0107, 0x020D, 0x030C] then 2
  else if (s.vce n).inLoop then (if g < 0 then 4 else 3) else 0

/-- The signals of a DC outlet's template (R219); SEQ advances with every change. -/
def State.writeSignals (s : State) (v : VehIn) (g : Int) : State :=
  let n := v.outlet
  let c := s.alloc.core
  let old := lookup {} c.sigs n
  let mode := s.moduleMode n g
  let vmax := min v.vmax (10 * ((s.outl n).map (·.vmax)).getD 0)
  let vact := lookup 0 s.alloc.vact n
  let amps := fun (w : Int) => if vact = 0 then v.current else w.toNat * 100 / vact
  let new : ModSig :=
    if mode = 1 then ⟨1, vmax, 10, 0, 1500, old.seq⟩
    else if mode = 2 then ⟨2, v.target, 20, 0, g, old.seq⟩
    else if mode = 3 then ⟨3, v.vmax, min (amps g) v.current, 0, g, old.seq⟩
    else if mode = 4 then ⟨4, v.vmax, 0, amps (-g), g, old.seq⟩
    else ⟨0, 0, 0, 0, 0, old.seq⟩
  if new = old then s else s.setCore { c with sigs := update {} c.sigs n { new with seq := (old.seq + 1) % 256 } }

/-- The VCE receives the grant and ICODE where the outlet has high-level communication (R99, R217, R218); on an AC outlet ICODE has the limit just
written. -/
def State.handLimits (s : State) (n : Nat) (g : Int) : State :=
  if s.hlc n then
    let code := if s.kind n < 2 then min (s.rd .OIU_CPDUTY_ILIM n) (s.hardIcode n) else s.hardIcode n
    s.setVce n { s.vce n with limit := g, icode := code, ckpt := { (s.vce n).ckpt with grant := g } }
  else s

/-- The outputs of one outlet (R217 to R219). -/
def State.writeGrant (s : State) (v : VehIn) (g : Int) : State :=
  let n := v.outlet
  let s := if s.kind n < 2 then s.put .OIU_CPDUTY_ILIM n (min 2047 (g.toNat * 10000 / (v.milliVolts * s.phasesOf v))) else s.writeSignals v g
  s.handLimits n g

/-- Renegotiation after 10 s of a grant more than 10 % off the agreed schedule (R218). -/
def State.trackSchedule (s : State) (v : VehIn) (g : Int) : State :=
  let c := s.alloc.core
  let n := v.outlet
  match v.schedule with
  | none => s
  | some a =>
    let off := decide ((a.natAbs : Int) < 10 * ((g - a).natAbs : Int))
    if !off then s.setCore { c with offSince := update none c.offSince n none }
    else match lookup none c.offSince n with
      | none => s.setCore { c with offSince := update none c.offSince n (some s.now) }
      | some t => if t + msec 10000 ≤ s.now then (s.setCore { c with offSince := update none c.offSince n none }).writeOcmd n 3 else s

/-- The storage setpoint in W, positive while discharging, and the curtailed power, none for none (R211), that cover `draw` W or place what is left:
sources are solar, the grid up to `agrid`, storage; a surplus charges the storage, is exported, and curtails the inverter. In an export breach the storage
exports nothing, and what solar still exports above the limit is curtailed (R221). -/
def State.sources (s : State) (draw agrid : Int) : Int × Option Nat :=
  let ex : Int := s.gridLim.2.1
  let pv : Int := s.solarAvail
  let room := s.storageRange
  let flags := s.storageFlags
  let rest := draw - pv
  if 0 ≤ rest then
    let grid := min rest agrid
    let st := min (rest - grid) (s.storageOut : Int)
    (if st = 0 ∧ bit flags 0 = true then -(min (max 0 (agrid - grid)) (room.2 : Int)) else st, none)
  else
    let solar := min (-rest) (room.2 : Int)
    let left := -rest - solar
    let fromGrid : Int := if left = 0 ∧ bit flags 0 = true then min (max 0 agrid) (room.2 - solar) else 0
    let exported := min left ex
    let give : Int := if solar = 0 ∧ fromGrid = 0 ∧ bit flags 2 = true ∧ s.alloc.core.breach ≠ 2 then min (ex - exported) (room.1 : Int) else 0
    let excess := left - exported
    let may := (s.rules 7 0xFE).any fun r => bit r.flags 0
    (give - solar - fromGrid, if may ∧ 0 < excess then some (pv - excess).toNat else none)

/-- A part of a whole in 0.01 %. -/
def rate (part whole : Nat) : Nat := if whole = 0 then 0 else min 10000 (part * 10000 / whole)

/-- The storage's write for a setpoint (R215). PRESUMED (log entry 74): the bits of StorCtl_Mod are 0 charge and 1 discharge. -/
def State.storageWrite (s : State) (st : Int) : SunWrite :=
  .storage (if st < 0 then 1 else if 0 < st then 2 else 0) (rate (-st).toNat s.alloc.stor.power) (rate st.toNat s.alloc.stor.power) 10

/-- The storage setpoint is queued to Modbus on change, at most once a second (R215). -/
def State.queueStorage (s : State) : State :=
  let w := s.storageWrite s.alloc.core.storage
  let open_ := match s.alloc.storW with
    | some (t, old) => decide (old ≠ w) && decide (t + msec 1000 ≤ s.now)
    | none => decide (w ≠ s.storageWrite 0)
  if (s.rules 6 0xFE).isEmpty || !open_ then s
  else { s with alloc := { s.alloc with storW := some (s.now, w), modbus := s.alloc.modbus ++ [w] } }

/-- The inverter's limit is queued to Modbus where curtailment is allowed (R215). -/
def State.queueSolar (s : State) : State :=
  let plate := ((s.rules 7 0xFE).head?.map fun r => r.v2.toNat).getD 0
  let w : SunWrite := match s.alloc.core.curtail with
    | some p => .solar (rate p plate) true 10
    | none => .solar 10000 false 10
  let may := (s.rules 7 0xFE).any fun r => bit r.flags 0
  if !may || s.alloc.solarW.getD (.solar 10000 false 10) == w then s
  else { s with alloc := { s.alloc with solarW := some w, modbus := s.alloc.modbus ++ [w] } }

/-- The setpoints of storage and solar follow the draw (R199, R211, R215). A curtailment stays, as the curtailed reading shows no excess, until a cycle
whose requests exceed the power lifts it. -/
def State.placeSources (s : State) (draw agrid : Int) (lift : Bool) : State :=
  let r := s.sources draw agrid
  ((s.setCore { s.alloc.core with storage := r.1, curtail := if lift then none else r.2.or s.alloc.core.curtail }).queueStorage).queueSolar

/-- The grants of one cycle are decided, limited, written and reported, outlet by outlet. -/
def State.settle (s : State) (l : List (VehIn × Share)) (site : Option Int) : State × List ReportEntry :=
  match l with
  | [] => (s, [])
  | (v, x) :: r =>
    let old := lookup 0 s.alloc.core.grants x.n
    let (g, why) := s.applyIncrease x.n old x.g site
    let (g, s) := s.pause v x.g g
    let paused := bit s.alloc.core.paused x.n
    let limit := if paused then 7 else if why = 6 then 6 else if x.g < x.r then 5 else x.limit
    let c := s.alloc.core
    let s := s.setCore { c with grants := update 0 c.grants x.n g, reqs := update 0 c.reqs x.n x.r }
    let s := (s.writeGrant v g).trackSchedule v g
    let (s, rest) := State.settle s r (site.map fun t => t - max 0 (g - old))
    (s, ⟨x.n, x.level, limit, g, x.r⟩ :: rest)

/-- A grant of an outlet that is no longer in the distribution falls to 0, and what was kept of its session goes (R213, R224). -/
def State.dropGrants (s : State) (keep : List Nat) : State :=
  let c := s.alloc.core
  let old := (List.range 24).filter fun n => decide (lookup 0 c.grants n ≠ 0) || bit c.paused n || bit c.low n
  s.each old fun s n =>
    if keep.contains n then s
    else
      let c := s.alloc.core
      let s := s.setCore { c with
        grants := update 0 c.grants n 0, reqs := update 0 c.reqs n 0, paused := setBit c.paused n false, goodSince := update none c.goodSince n none
        low := setBit c.low n false, lowSince := update none c.lowSince n none, offSince := update none c.offSince n none }
      s.writeGrant (s.vehIn n) 0

/-- The checkpoint is read after a restart (R223). -/
def State.resumeCycle (s : State) : State :=
  if !s.alloc.resume then s
  else
    let gap := (s.now - s.alloc.lastAt.getD s.now) / msec 10
    let core := s.alloc.ckpt.getD { sigs := s.alloc.core.sigs }
    ({ s with alloc := { s.alloc with core := core, resume := false, abandoned := 0 } } : State).raise 0x200B (min 0xFFFF gap)

/-- The power that the demand limit leaves (R210), with the state after: where even the base load and the floors exceed it, event 0x2004, once an
interval. -/
def State.demandPower (s : State) (unlimited need : Int) : Int × State :=
  match s.demandNow with
  | none => (unlimited, s)
  | some d =>
    let a := d.allow
    if a < need then
      let c := s.alloc.core
      (need, if c.risk then s else (s.setCore { c with risk := true }).raise 0x2004 (tenKw (need - a) 0xFFFF))
    else (a, s)

/-- The distribution of one cycle (R211 to R215): the grant of every vehicle and the power that the floors lack. Vehicles discharge what the others lack,
those of the lowest levels that suffice, and export what solar leaves of the limit; one whose share is zero takes part in the distribution. -/
def State.dealPower (s : State) (shares : List (VehIn × Share)) (gl ex m agrid pbase : Int) : List (VehIn × Share) × Int :=
  let breach := s.alloc.core.breach ≠ 0
  let station := s.ocppLimit [1, 2] 0xFF 0 false
  let budget := capBy (agrid + (s.solarAvail : Int) + s.storageOut - pbase) station
  let list := shares.map fun x => if breach then { x.2 with floor := 0 } else x.2
  let total := (list.map (·.r)).sum
  let capsOf := fun purpose => (shares.map fun x => (x.1.outlet, x.2.level, s.dischargeCap x.1 purpose)).filter fun c => decide (0 < c.2.2)
  let caps := capsOf 0
  let upTo := fun (k : Nat) => caps.filter fun c => decide (c.2.1 ≤ k)
  let need := fun (k : Nat) => ((list.filter fun x => !(upTo k).any fun c => c.1 == x.n).map (·.r)).sum - budget
  let k := ((List.range 16).find? fun k => decide (need k ≤ ((upTo k).map (·.2.2)).sum)).getD 15
  let shave := if budget < total then (dischargeShares (upTo k) (max 0 (need k)) 16).filter fun o => decide (0 < o.2) else []
  let solar := max 0 ((s.solarAvail : Int) - pbase - total - s.storageRange.2)
  let export_ := if budget < total ∨ s.alloc.core.breach = 2 then [] else
    (dischargeShares (capsOf 1) (max 0 (ex - solar)) 16).filter fun o => decide (0 < o.2)
  let out := shave ++ export_
  let given := (out.map (·.2)).sum
  let takers := list.filter fun x => !out.any fun o => o.1 == x.n
  let budget := budget + (if shave.isEmpty then 0 else given)
  let (dealt, short) := distribute takers budget
  let threshold := ((s.rules 2 0xFE).map fun r => r.v3.toNat).foldl min 16
  let missing := ((dealt.filter fun x => decide (threshold ≤ x.level) && threshold != 16).map fun x => x.r - x.g).sum
  let extra := if breach then 0 else min (max 0 missing) (max 0 (gl - m - agrid))
  let extra := capBy extra (station.map fun t => max 0 (t - budget + (if shave.isEmpty then 0 else given)))
  let (dealt, short) := if 0 < extra then distribute takers (budget + extra) else (dealt, short)
  let final := shares.map fun x =>
    match out.find? fun o => o.1 == x.2.n with
    | some o => (x.1, { x.2 with g := -o.2 })
    | none => (x.1, { x.2 with g := ((dealt.find? fun d => d.n == x.2.n).map (·.g)).getD 0 })
  (sortBy (fun a b => decide (a.2.n ≤ b.2.n)) final, short)

/-- FLAGS of the allocation report (R225). -/
def State.reportFlags (s : State) (short : Bool) : Nat :=
  b2n (decide (s.alloc.core.breach ≠ 0)) + 2 * b2n s.alloc.core.risk + 4 * b2n (!s.wallValid) + 8 * b2n s.alloc.stor.lost +
    16 * b2n s.alloc.solar.lost + 32 * b2n short + 64 * b2n s.alloc.core.fallback

/-- The allocation report of a cycle (R225), which also names the outlets whose module is lost. -/
def State.report (s : State) (pdem pbase : Int) (short : Bool) (l : List ReportEntry) : State :=
  let c := s.alloc.core
  let gone := (s.outlets.filter fun n => bit s.alloc.lost n && !l.any (·.outlet == n)).map fun n => (⟨n, s.levelOf n, 8, 0, 0⟩ : ReportEntry)
  let rep : AllocReport :=
    ⟨c.cycle, s.ltime, s.meanP 24 12800, pdem, pbase, s.solarAvail, c.storage, s.reportFlags short, sortBy (fun a b => decide (a.outlet ≤ b.outlet)) (l ++ gone)⟩
  { s with alloc := { s.alloc with report := some rep, reports := s.alloc.reports ++ [rep] } }

/-- The outlets whose vehicles take part in a cycle (R212): those with a session. -/
def State.takers (s : State) : List Nat := s.outlets.filter s.mayServe

/-- Transaction profiles end with their transaction: the vehicle has left (R208). -/
def State.endProfiles (s : State) : State :=
  { s with alloc := { s.alloc with profiles := s.alloc.profiles.filter fun p => decide (p.purpose < 4) || (2 ≤ s.cpState p.outlet && s.cpState p.outlet < 8) } }

/-- Steps 1 to 4 of a cycle (R199, R209 to R219). -/
def State.allocate (s : State) : State :=
  let lim := s.gridLim
  let vehicles := s.takers.map s.vehIn
  let s := vehicles.foldl State.trackLow s
  let shares := vehicles.map fun v =>
    let r := s.requestOf v
    (v, (⟨v.outlet, s.levelOf v.outlet, r.1, s.needOf v r.1, s.floorOf v.outlet, 0, r.2⟩ : Share))
  let pbase := s.baseLoad
  let floors := if s.alloc.core.breach = 0 then (shares.map fun x => x.2.floor).sum else 0
  let dem := s.demandPower (lim.1 - lim.2.2) (pbase + floors)
  let s := dem.2
  let agrid := min (lim.1 - lim.2.2) dem.1
  let wanted := (shares.map (·.2.r)).sum
  let lift := s.alloc.core.curtail.isSome && 
    decide (capBy (agrid + (s.solarAvail : Int) + s.storageOut - pbase) (s.ocppLimit [1, 2] 0xFF 0 false) < wanted)
  let dealt := s.dealPower shares lim.1 lim.2.1 lim.2.2 agrid pbase
  let s := s.onlyIf (decide (0 < dealt.2)) fun s => s.raise 0x200A (tenKw dealt.2 0xFFFF)
  let ramp := lowest ((s.rules 11 0xFE).map fun r => r.v1 * ((s.allocPeriod / 1000000 : Nat) : Int) / 1000)
  let done := (s.dropGrants s.takers).settle dealt.1 ramp
  let s := done.1.placeSources (pbase + (done.2.map (·.grant)).sum) agrid lift
  let s := s.setCore { s.alloc.core with fallback := false }
  { s with alloc := { s.alloc with opened := 0 } }.report dem.1 pbase (decide (0 < dealt.2)) done.2

/-- The allocator runs (R198, R223): the firmware runs on A8 to A11, a plan is active, and the controller is not in Ember. -/
def State.allocRuns (s : State) : Bool :=
  s.bcu.phase == .running && !s.bcu.ember && s.plan.isSome && !([8, 9, 10, 11].any s.frozen)

/-- A cycle starts (R198, R200): at its grid instant, or at the present one where that has passed; the first of an epoch sets the grid. Outside its
window it raises event 0x2001 with detail 1. DESIGN CHOICE (log entry 74): grid instants that pass without a cycle are left out. -/
def State.startCycle (s : State) : State :=
  let ta := s.allocPeriod
  let due := s.alloc.dueAt.getD s.now
  let s := s.moveTo due
  let grid := due + (s.now - due) / ta * ta
  let s : State := { s with alloc := { s.alloc with dueAt := some (grid + ta), lastAt := some s.now } }
  s.onlyIf (decide (ta / 10 < s.now - grid)) fun s => s.raise 0x2001 1

/-- A new epoch begins with the next cycle (R198): a plan has been activated, the firmware has started, or the controller has left Ember. -/
def State.allocEpoch (s : State) : State := { s with alloc := { s.alloc with dueAt := none } }

/-- ALLOCATOR_CYCLE (R198 to R219, R223). The checkpoint is written where a grant has changed (R199). The outlet that has ended Ember may leave its steady
+9 V from then on (R198). -/
def execAllocatorCycle (s : State) : Out :=
  if !s.allocRuns then .next s
  else
    let s := s.resumeCycle.startCycle
    let old := s.alloc.core
    let s := (s.checkBreach.trackInterval).endProfiles.allocate
    let c := s.alloc.core
    let c := { c with cycle := (c.cycle + 1) % 2 ^ 32 }
    let s : State := { s with bcu := { s.bcu with wake := none } }
    .next { s with alloc := { s.alloc with core := c, abandoned := 0, ckpt := if c.grants = old.grants then s.alloc.ckpt else some c } }

/-- The fallback allocation (R200): floors with a session, 0 W without, storage and solar 0 W. -/
def State.fallback (s : State) : State :=
  let s := s.each s.outlets fun s n =>
    let g := if s.mayServe n then s.floorOf n else 0
    let c := s.alloc.core
    (s.setCore { c with grants := update 0 c.grants n g }).writeGrant (s.vehIn n) g
  let c := s.alloc.core
  ((((s.setCore { c with fallback := true, storage := 0, curtail := some 0 }).queueStorage).queueSolar).raise 0x200C 0)

/-- The report of an abandoned cycle while the fallback holds (R225): the grants in force. -/
def State.fallbackReport (s : State) : State :=
  let c := s.alloc.core
  s.report (s.gridLim.1 - s.gridLim.2.2) s.baseLoad false
    (s.takers.map fun n => ⟨n, s.levelOf n, 5, lookup 0 c.grants n, lookup 0 c.reqs n⟩)

/-- CYCLE_ABANDON (R200): step 4 of a cycle has not completed 40 ms after its start, 25 ms in Sprint. A storage setpoint that the limit of one write a
second has held back follows in a later one (R215). DESIGN CHOICE (log entry 74): an abandoned cycle counts in the cycle number, and while the fallback
holds it is reported. -/
def execCycleAbandon (s : State) : Out :=
  if !s.allocRuns then .next s
  else
    let k := s.alloc.abandoned + 1
    let s := s.resumeCycle.startCycle
    let s := s.moveTo (s.now + (if s.allocPeriod = msec 50 then msec 25 else msec 40))
    let s := ({ s with alloc := { s.alloc with abandoned := k } } : State).raise 0x2001 2
    let s := if 2 ≤ k ∧ s.alloc.core.fallback = false then s.fallback else s.onlyIf s.alloc.core.fallback State.queueStorage
    let s := s.onlyIf s.alloc.core.fallback State.fallbackReport
    .next (s.setCore { s.alloc.core with cycle := (s.alloc.core.cycle + 1) % 2 ^ 32 })

/-- BREACH_CLEAR (R221): 5 s below the limit. -/
def execBreachClear (s : State) : Out :=
  let s := s.onlyIf (s.alloc.core.breach != 0) State.checkBreach
  match s.alloc.core.belowSince with
  | none => .next s
  | some t =>
    let s := s.moveTo (t + msec 5000)
    let c := s.alloc.core
    .next (if c.breach = 0 then s else (s.setCore { c with breach := 0, belowSince := none }).raise 0x2003 c.breach)

/-- A power module is lost (R220): ZREQ at once, CLOSE_EN after 50 ms. -/
def State.moduleLost (s : State) (n detail : Nat) : State :=
  if bit s.alloc.lost n then { s with alloc := { s.alloc with goodT := update none s.alloc.goodT n none } }
  else
    let s := (s.putFlag .OIU_CONTACT_ZREQ n true).raise2 0x2006 n detail
    { s with alloc := { s.alloc with lost := setBit s.alloc.lost n true, lostT := update none s.alloc.lostT n (some (s.now + msec 50))
                                     lostNew := setBit s.alloc.lostNew n false
                                     goodT := update none s.alloc.goodT n none } }

/-- When a module counts as lost (R220): 500 ms after its last status frame (0), 500 ms after the frame that carried a SEQ which it has not echoed (1), at
once by a fault (2). DESIGN CHOICE (log entry 74): one that has never sent status is lost when the command says so. -/
def State.lossAt (s : State) (n cause : Nat) : Option Nat :=
  let rx := lookup none s.ntu.rxFrame n
  if cause = 0 then some ((rx.map fun r => r.at_ + msec 500).getD s.now)
  else if cause = 1 then (lookup [] s.ntu.unechoed n).head?.map fun e => e.2 + msec 500
  else (rx.filter (·.fault ≠ 0)).map fun _ => s.now

/-- MODULE_LOST (R220): 1 status timeout, 2 no echo, 3 fault, of an outlet with a power module. -/
def execModuleLost (n : Fin 24) (cause : Fin 3) (s : State) : Out :=
  match s.lossAt n cause with
  | some t => if s.kind n < 2 ∨ s.allocRuns = false then .next s else .next ((s.moveTo t).moduleLost n (cause + 1))
  | none => .next s

/-- MODULE_LOST_CLOSE_DROP (R220). -/
def execModuleLostCloseDrop (n : Fin 24) (s : State) : Out :=
  match lookup none s.alloc.lostT n with
  | none => .next s
  | some t =>
    let s := (s.moveTo t).writeCloseEn n false
    .next { s with alloc := { s.alloc with lostT := update none s.alloc.lostT n none } }

/-- A read of a storage or solar device, or a miss; five misses in a row lose it (R215). -/
def Device.poll (d : Device) (data : Option SunData) : Device :=
  match data with
  | some x => { lost := false, misses := 0, power := x.power, soc := x.soc, chaSt := x.chaSt, ctlMod := x.ctlMod }
  | none => if 4 ≤ d.misses then { d with lost := true, misses := d.misses + 1 } else { d with misses := d.misses + 1 }

/-- After the loss of a device the NTU looks for it again (R393). -/
def State.discoverAgain (s : State) (rule : Nat) : State :=
  let named := (((s.plan.map (·.aloc)).getD []).filter (·.rule == rule)).map (·.v1)
  s.each (List.range 16) fun s d => match (s.netw 4)[d]? with
    | none => s
    | some e => s.onlyIf (named.contains (e.1 : Int)) fun s => s.put .NTU_MB_STATE d 1

/-- SUNSPEC_POLL (R215). -/
def execSunspecPoll (solar : Bool) (data : Option SunData) (s : State) : Out :=
  let old := if solar then s.alloc.solar else s.alloc.stor
  let new := old.poll data
  let s : State := { s with alloc := if solar then { s.alloc with solar := new } else { s.alloc with stor := new } }
  let s := s.onlyIf (new.lost && !old.lost) fun s => s.discoverAgain (if solar then 7 else 6)
  .next (if new.lost = old.lost then s else s.raise (if solar then 0x2008 else 0x2007) (b2n new.lost))

/-- The purposes that the allocator supports by OCPP version (R207): 0 1.6, 1 2.0.1, 2 2.1. -/
def ocppPurposes (version : Nat) : List Nat := if version = 0 then [1, 3, 4] else if version = 1 then [1, 2, 3, 4] else [1, 2, 3, 4, 5]

/-- The answer to a charging profile goes to the back office (R207). -/
def State.answerProfile (s : State) (ok : Bool) : State :=
  { s with ntu := { s.ntu with backOffice := s.ntu.backOffice ++ [.profileAnswer ok] } }

/-- OCPP_CHARGING_PROFILE (R207): applied from the next cycle, or rejected. Nothing comes without an OCPP endpoint. dischargeLimit counts under OCPP 2.1. -/
def execOcppChargingProfile (p : OcppProfile) (s : State) : Out :=
  match s.ocppVersion with
  | none => .next s
  | some v =>
    if !(ocppPurposes v).contains p.purpose then .next ((s.answerProfile false).raise2 0x2009 p.outlet 1)
    else if p.setpoints then .next ((s.answerProfile false).raise2 0x2009 p.outlet 2)
    else
      let l := s.alloc.profiles.filter fun q => !(q.purpose == p.purpose && q.outlet == p.outlet && q.stack == p.stack)
      let p := { p with discharge := if v = 2 then p.discharge else none }
      .next (({ s with alloc := { s.alloc with profiles := l ++ [p] } } : State).answerProfile true)

/-- A warm reset stops the allocator; its next cycle reads the checkpoint (R223). The templates keep the last signals (R219). -/
def State.allocWarm (s : State) : State :=
  { s with alloc := { s.alloc with core := { sigs := s.alloc.core.sigs }, resume := true, dueAt := none, abandoned := 0 } }

end Sys2Proof.Machine
end

