-- ==== Sys2Proof/Machine/Groundsheet.lean ====
section
/-! DEFINITION. GSE (chapter 9): safety inputs, functions, stop categories, faults, permits and check value. -/

namespace Sys2Proof.Machine

open Sys2Proof

/-- A function of the GSE. -/
def State.gfn (s : State) (k : Nat) : GFn := lookup {} s.gse.fns k

/-- A function of the GSE set. -/
def State.setGfn (s : State) (k : Nat) (f : GFn) : State := { s with gse := { s.gse with fns := update {} s.gse.fns k f } }

/-- The SAFE record of function `k` in the GSE's copy (R253). -/
def State.safeRec (s : State) (k : Nat) : Option SafeRec := s.gse.copy[k]?

/-- The numbers of the functions. -/
def State.functions (s : State) : List Nat := List.range s.gse.copy.length

/-- The fields of a SAFE record (R253). -/
def SafeRec.manual (r : SafeRec) : Bool := bit (r.byte 3) 0
def SafeRec.rstSi (r : SafeRec) : Nat := r.byte 4
def SafeRec.siA (r : SafeRec) : Nat := r.byte 5
def SafeRec.siB (r : SafeRec) : Nat := r.byte 6
def SafeRec.pat (r : SafeRec) : Nat := r.byte 7
def SafeRec.edm (r : SafeRec) : Nat := r.byte 11
def SafeRec.permMask (r : SafeRec) : Nat := r.u32 12
def SafeRec.stopDly (r : SafeRec) : Nat := r.u16 16
def SafeRec.disc (r : SafeRec) : Nat := r.u16 18

/-- A safety input confirmed active. -/
def State.si (s : State) (i : Nat) : Bool := bit (s.rd .GSE_SI_IN 0) i

/-- Each channel of a pair in its safe condition (R249): the NO contact of PAT 0x03 is safe while inactive. -/
def State.channels (s : State) (r : SafeRec) : Bool × Bool :=
  if r.pat = 1 then (s.si r.siA, s.si r.siA)
  else if r.pat = 3 then (s.si r.siA, !s.si r.siB)
  else if r.pat = 5 then (true, true)
  else (s.si r.siA, s.si r.siB)

/-- The GSE runs: it is powered and its clock is not gated (R27, R264). -/
def State.gseRuns (s : State) : Bool := !s.gse.frozen && s.bcu.phase != .off

/-- The inputs of a function are in their safe condition (R249). -/
def State.inputsSafe (s : State) (r : SafeRec) : Bool := (s.channels r).1 && (s.channels r).2

/-- The lock of a guard door reads locked; without a LOCKSI nothing reads it (R253, R260). -/
def State.lockBack (s : State) (r : SafeRec) : Bool := r.func != 2 || r.byte 20 == 0xFF || s.si (r.byte 20)

/-- A pantograph's position demand (R262). -/
def State.positionCause (s : State) (k : Nat) (r : SafeRec) : Nat :=
  match (s.gfn k).lastPos with
  | none => 0
  | some p =>
    if p < r.u16 24 ∨ r.u16 26 < p then 5
    else if r.byte 21 != 0xFF && !s.si (r.byte 21) && ((s.gfn k).dirPos.map fun d => decide (d + r.byte 30 < p)).getD false then 6 else 0

/-- The inputs of a function are back: its pair, the lock of a guard door, the encoder of a pantograph (R256, R260, R262). -/
def State.inputsBack (s : State) (k : Nat) (r : SafeRec) : Bool :=
  s.inputsSafe r && s.lockBack r && (r.func != 4 || s.positionCause k r == 0)

/-- The inputs of a function that a function fault asks for (R263), each as: reads its unsafe condition, reads its safe one. The two channels of a
pair count together. DESIGN CHOICE (log entry 76): an encoder is unsafe while a read fails or the position is out of its limits. -/
def State.faultInputs (s : State) (k : Nat) (r : SafeRec) : List (Bool × Bool) :=
  let one := fun i => if i = 0xFF then [] else [(!s.si i, s.si i)]
  if r.func = 4 then
    let bad := !(s.gfn k).sound || s.positionCause k r == 5
    one (r.byte 20) ++ one (r.byte 21) ++ [(bad, !bad)]
  else (!(s.channels r).1 && !(s.channels r).2, s.inputsSafe r) :: (if r.func = 2 then one (r.byte 20) else [])

/-- The cause of a function's demand now, 0 for none (R248, R260 to R262, R268, R271). -/
def State.causeOf (s : State) (k : Nat) (r : SafeRec) : Nat :=
  if s.gse.powerFail then 7
  else if s.flag .GSE_STATUS_VSIOUV 0 then 8
  else if (s.gfn k).due ≠ 0 then (s.gfn k).due
  else if !s.inputsSafe r && !s.flag .GSE_FUNC_MUTED k then 1
  else if !s.lockBack r then 3
  else if r.func = 4 then s.positionCause k r else 0

/-- The level of ZREQnn_N, true while it is pulled low: by the OIU's field or by the GSE (R103, R258). -/
def State.zreqLine (s : State) (n : Nat) : Bool := s.flag .OIU_CONTACT_ZREQ n || bit s.gse.zreq n

/-- The outlets whose contactor channels a mask names (R258). -/
def State.outletsOfMask (s : State) (mask : Nat) : List Nat := s.outlets.filter fun n => (s.contactorChannels n).any (bit mask)

/-- The ZREQ lines follow the functions that pull them (R258): a line is low while any function pulls it. -/
def State.pullLines (s : State) : State :=
  let l := s.functions.filter fun j => (s.gfn j).pulls
  let mask := l.foldl (fun m j => m ||| ((s.safeRec j).map SafeRec.permMask).getD 0) 0
  { s with gse := { s.gse with zreq := maskOf (s.outletsOfMask mask) } }

/-- The GSE pulls or releases the ZREQ lines of a function (R258). -/
def State.pullZreq (s : State) (k : Nat) (on : Bool) : State := (s.setGfn k { s.gfn k with pulls := on }).pullLines

/-- The switch channels that some PERMMASK names (R255). -/
def State.permNamed (s : State) : Nat := s.gse.copy.foldl (fun m r => m ||| r.permMask) 0

/-- Every function that names an output or channel is enabled (R255), or with `stopping` runs its STOPDLY and holds it on until the end (R258). -/
def State.allHold (s : State) (stopping : Bool) (names : SafeRec → Bool) : Bool :=
  let l := s.functions.filter fun k => ((s.safeRec k).map names).getD false
  !l.isEmpty && l.all fun k => s.flag .GSE_FUNC_EN k || (stopping && s.flag .GSE_FUNC_STOPPING k)

/-- The EDM inputs of an output, one for each that its functions bind (R257). -/
def State.edmsOf (s : State) (o : Nat) : List Nat :=
  ((s.gse.copy.filter fun r => bit r.outMask o && r.edm != 0xFF).map SafeRec.edm).eraseDups

/-- The EDM time of a function starts while its input differs from the state of its outputs, and ends when it agrees (R257). -/
def State.watchEdm (s : State) (k : Nat) : State :=
  match s.safeRec k with
  | none => s
  | some r =>
    if r.edm = 0xFF then s
    else
      let on := (List.range 4).any fun o => bit r.outMask o && bit (s.rd .GSE_SO_RB 0) o
      if s.si r.edm != on then s.setGfn k { s.gfn k with edmAt := none }
      else if (s.gfn k).edmAt.isSome then s else s.setGfn k { s.gfn k with edmAt := some (s.now + msec 300) }

/-- Since when every output of OUTMASK and every channel of PERMMASK is off, if they are (R260). -/
def State.offSince (s : State) (r : SafeRec) : Option Nat :=
  let cs := bitList 32 r.permMask
  if (r.outMask &&& s.rd .GSE_SO_RB 0) ≠ 0 ∨ (cs.any fun c => s.chOn c) = true then none
  else some (((bitList 4 r.outMask).map (lookup 0 s.gse.soOffAt) ++ cs.map fun c => (s.sw c).offAt.getD 0).foldl max 0)

/-- UNLKOK of a guard door is 1 once its outputs and channels have been off for UNLKDLY (R260). -/
def State.watchUnlk (s : State) (k : Nat) (r : SafeRec) : State :=
  match s.offSince r with
  | none => (s.putFlag .GSE_FUNC_UNLKOK k false).setGfn k { s.gfn k with unlkAt := none }
  | some t => if s.flag .GSE_FUNC_UNLKOK k then s else s.setGfn k { s.gfn k with unlkAt := some (t + msec (r.u16 22)) }

/-- UNLKOK and the EDM watch follow the outputs (R257, R260). -/
def State.afterOutputs (s : State) : State :=
  let s := s.put .GSE_SO_EDM 0 (maskOf ((List.range 4).filter fun o => !(s.edmsOf o).isEmpty && (s.edmsOf o).all s.si))
  s.each s.functions fun s k =>
    match s.safeRec k with
    | none => s
    | some r => (s.watchEdm k).onlyIf (r.func == 2) fun s => s.watchUnlk k r

/-- The outputs as read back; one that turns off notes the instant (R260). -/
def State.setReadback (s : State) (so : Nat) : State :=
  let off := (bitList 4 (s.rd .GSE_SO_RB 0)).filter fun o => !bit so o
  let s := s.put .GSE_SO_RB 0 so
  { s with gse := { s.gse with soOffAt := off.foldl (fun t o => update 0 t o s.now) s.gse.soOffAt } }

/-- Outputs and permits are set: SO command and readback, the PSW permits of named channels, and the contactor conditions (R252, R255). -/
def State.setOutputs (s : State) (so permit : Nat) : State :=
  let named := s.permNamed
  let old := s.rd .GSE_PERMIT_PERMIT 0
  let s := ((s.put .GSE_SO_CMD 0 so).setReadback so).put .GSE_PERMIT_PERMIT 0 permit
  let s := s.each (bitList 32 named) fun s c => if bit (s.rd .PSW_PERMIT_PERMIT 0) c = bit permit c then s else s.swPermit c (bit permit c)
  let s := s.onlyIf (old != permit) fun s => s.each s.outlets State.contact
  s.afterOutputs

/-- Turn-ons wait for the takeover (R268). -/
def State.turnOnsHeld (s : State) : Bool := s.flag .BCU_STATUS_GHOLD 0 || s.bcu.holdExpired

/-- The outputs and permits that the functions call for (R255, R257, R265, R268). -/
def State.drive (s : State) : State :=
  let s := s.putFlag .GSE_STATUS_HOLD 0 s.turnOnsHeld
  if s.rd .GSE_STATUS_STATE 0 ≠ 2 ∨ s.gse.powerFail = true ∨ s.gse.frozen = true then s.setOutputs 0 0
  else
    let nowSo := s.rd .GSE_SO_CMD 0
    let nowP := s.rd .GSE_PERMIT_PERMIT 0
    let outs := fun stopping => (List.range 4).filter fun o => s.allHold stopping fun r => bit r.outMask o
    let perms := fun stopping => (bitList 32 s.permNamed).filter fun c => s.allHold stopping fun r => bit r.permMask c
    let so := maskOf (outs true)
    let p := maskOf (perms true)
    let edmOk := fun o => (s.edmsOf o).all fun i => s.si i && decide (lookup 0 s.gse.siAt i + msec 10 ≤ s.now)
    let on := (outs false).filter fun o => !bit nowSo o && edmOk o
    let pon := (perms false).filter fun c => !bit nowP c
    if s.turnOnsHeld then
      let new := on.filter fun o => !bit s.gse.deferSo o
      let s := s.onlyIf (!new.isEmpty || pon.any fun c => !bit s.gse.deferPermit c) fun s => s.raise 0x170D (maskOf new)
      let s : State := { s with gse := { s.gse with deferSo := maskOf on, deferPermit := maskOf pon } }
      s.setOutputs (nowSo &&& so) (nowP &&& p)
    else
      let s : State := { s with gse := { s.gse with deferSo := 0, deferPermit := 0 } }
      s.setOutputs ((nowSo &&& so) ||| maskOf on) ((nowP &&& p) ||| maskOf pon)

/-- A function takes a demand: outputs off or a category 1 stop, and the reset that it then needs (R256, R258). A function not yet enabled since the
start needs none for its demands (R267), but one for a function fault (R263). -/
def State.takeDemand (s : State) (k : Nat) (r : SafeRec) : State :=
  let was := s.flag .GSE_FUNC_EN k
  let s := s.putFlag .GSE_FUNC_EN k false
  let s := s.onlyIf (r.manual && (!(s.gfn k).fresh || s.flag .GSE_FUNC_FFAULT k)) fun s => s.putFlag .GSE_FUNC_RSTREQ k true
  s.onlyIf (was && r.stopCat == 1 && !s.gse.powerFail) fun s =>
    let s := (s.putFlag .GSE_FUNC_STOPPING k true).setGfn k { s.gfn k with stopAt := some (s.now + msec r.stopDly) }
    (s.pullZreq k true).raise2 0x170A k (min 0xFF (r.stopDly / 100))

/-- A demand with its cause (R258, R271). -/
def State.demand (s : State) (k : Nat) (r : SafeRec) (cause : Nat) : State :=
  let s := ((s.putFlag .GSE_FUNC_DEMAND k true).put .GSE_FUNC_CAUSE k cause).count .GSE_COUNT_DEMANDS 0
  let s := s.setGfn k { s.gfn k with caused := true }
  (s.raise2 0x1701 k cause).takeDemand k r

/-- INFLT of every input (R263). -/
def State.showFaultInputs (s : State) : State :=
  s.put .GSE_SI_INFLT 0 (s.functions.foldl (fun m k => if s.flag .GSE_FUNC_FFAULT k then m ||| (s.gfn k).faultMask else m) 0)

/-- A function fault latches (R263); an encoder fault has an event of its own (R262). It is a demand without a cause of its own: CAUSE is kept (R269).
DESIGN CHOICE (log entry 76): DEMANDS counts it where no demand stands yet. -/
def State.funcFault (s : State) (k detail mask : Nat) (encoder : Bool) : State :=
  match s.safeRec k with
  | none => s
  | some _ =>
    if s.flag .GSE_FUNC_FFAULT k then s
    else
      let s := ((s.putFlag .GSE_FUNC_FFAULT k true).put .GSE_FUNC_FDET k detail).count .GSE_COUNT_FAULTS 0
      let s := (s.onlyIf (!s.flag .GSE_FUNC_DEMAND k) fun s => s.count .GSE_COUNT_DEMANDS 0).putFlag .GSE_FUNC_DEMAND k true
      let s := (s.setGfn k { s.gfn k with faultSeen := 0, faultMask := mask }).raise2 (if encoder then 0x170B else 0x1708) k detail
      s.showFaultInputs

/-- The inputs of a function as a mask. -/
def SafeRec.inputMask (r : SafeRec) : Nat := maskOf ([r.siA, r.siB].filter (· < 16)).eraseDups

/-- A reset pulse for a function ended since the last cycle, with the inputs safe throughout (R256), and after the turn-off of a stop (R259). -/
def State.pulsed (s : State) (k : Nat) (r : SafeRec) : Bool :=
  let f := s.gfn k
  s.gse.pulses.any fun p => p.1 == r.rstSi && (f.safeSince.map fun t => decide (t ≤ p.2.1)).getD false && decide (f.offAt ≤ p.2.2)

/-- The steps towards clearing a function fault (R263): every input has read its unsafe condition since, and all read their safe one. -/
def State.clearFault (s : State) (k : Nat) (r : SafeRec) (cause : Nat) : State :=
  if !s.flag .GSE_FUNC_FFAULT k then s
  else
    let ins := s.faultInputs k r
    let f := s.gfn k
    let seen := (ins.map (·.1)).zipIdx.foldl (fun m e => if e.1 then setBit m e.2 true else m) f.faultSeen
    let s := s.setGfn k { f with faultSeen := seen }
    if seen + 1 = 2 ^ ins.length ∧ (ins.all (·.2)) = true ∧ cause = 0 ∧ (r.manual = false ∨ (s.pulsed k r = true ∧ s.flag .GSE_FUNC_STOPPING k = false)) then
      ((s.putFlag .GSE_FUNC_FFAULT k false).put .GSE_FUNC_FDET k 0).showFaultInputs
    else s

/-- A function is enabled again (R256, R258, R259). -/
def State.enable (s : State) (k : Nat) (how : Nat) : State :=
  let s := ((s.putFlag .GSE_FUNC_EN k true).putFlag .GSE_FUNC_RSTREQ k false).raise2 0x1702 k how
  (s.setGfn k { s.gfn k with fresh := false }).pullZreq k false

/-- The difference of two numbers, whichever is larger. -/
def absDiff (a b : Nat) : Nat := if a < b then b - a else a - b

/-- Both muting inputs have become active within MUTWIN of each other while the OSSD pair is safe: muting starts, with a cycle (R252, R261, R269).
Otherwise none starts until both have been inactive. -/
def State.tryMute (s : State) (k : Nat) : State :=
  match s.safeRec k with
  | none => s
  | some r =>
    let a := r.byte 20
    let b := r.byte 21
    if r.func = 3 ∧ a < 16 ∧ b < 16 ∧ s.si a = true ∧ s.si b = true ∧ (s.gfn k).muteBlocked = false ∧
        s.flag .GSE_FUNC_MUTED k = false ∧ s.rd .GSE_STATUS_STATE 0 = 2 then
      if s.inputsSafe r = true ∧ absDiff (lookup 0 s.gse.siAt a) (lookup 0 s.gse.siAt b) ≤ msec (r.u16 22) then
        ((s.putFlag .GSE_FUNC_MUTED k true).setGfn k { s.gfn k with muteEnd := some (s.now + msec (100 * r.u16 24)) }).raise2 0x1707 k 1
      else s.setGfn k { s.gfn k with muteBlocked := true }
    else s

/-- One function in the 1 ms cycle (R252, R256, R259, R261, R269). -/
def State.evaluate (s : State) (k : Nat) : State :=
  match s.safeRec k with
  | none => s
  | some r =>
    let s := s.tryMute k
    let cause := s.causeOf k r
    let s := s.setGfn k { s.gfn k with due := 0 }
    let s := s.clearFault k r cause
    let s := if cause ≠ 0 then (if (s.gfn k).caused then s else s.demand k r cause) else s.setGfn k { s.gfn k with caused := false }
    let s := s.putFlag .GSE_FUNC_DEMAND k (cause != 0 || s.flag .GSE_FUNC_FFAULT k)
    if s.flag .GSE_FUNC_FFAULT k then s.takeDemand k r
    else if cause ≠ 0 ∨ s.flag .GSE_FUNC_STOPPING k = true ∨ s.flag .GSE_FUNC_EN k = true then s
    else if s.flag .GSE_FUNC_RSTREQ k then (if s.pulsed k r then s.enable k 1 else s)
    else s.enable k 0

/-- The 16-bit position of an encoder word (R262). -/
def positionOf (bits word : Nat) : Nat :=
  if 16 ≤ bits then word % 2 ^ bits / 2 ^ (bits - 16) else word % 2 ^ bits * 2 ^ (16 - bits)

/-- The encoder of a pantograph function is read twice and checked (R262). DESIGN CHOICE (log entry 76): the position before a cycle without a sound
read is the last one read. -/
def State.readEncoder (s : State) (k : Nat) (r : SafeRec) (w1 w2 : Nat) (frame : Bool) : State :=
  let p := positionOf (r.byte 22) w1
  let f := s.gfn k
  let tol := r.byte 30
  let endIn := s.si (r.byte 20)
  let failed := fun (s : State) detail => (s.setGfn k { s.gfn k with sound := false }).funcFault k detail 0 true
  if w1 ≠ w2 then failed s 1
  else if !frame then failed s 2
  else
    let speed : Int := (p : Int) - (f.lastPos.getD p)
    let dir := if s.si (r.byte 21) then f.dirPos else some (f.dirPos.getD p)
    let s := ((s.put .GSE_POS_POS 0 p).put .GSE_POS_SPEED 0 (toTwos 16 speed)).setGfn k { f with lastPos := some p, dirPos := dir, sound := true }
    if (f.lastPos.map fun q => decide (r.byte 31 < absDiff p q)).getD false then failed s 3
    else s.onlyIf (endIn && decide (tol < absDiff p (r.u16 28) ∨ r.u16 28 + 4 * tol < p)) fun s => failed s 4

/-- The next cycle start (R250, R252). -/
def State.nextCycle (s : State) : Nat :=
  s.gse.startAt + gridAfter (msec 1) (s.now - s.gse.startAt) (s.gse.lastCycle.map (· - s.gse.startAt))

/-- Muting ends (R261): the next cycle takes a demand where the OSSD pair is not safe at that instant. -/
def State.endMute (s : State) (k : Nat) : State :=
  if !s.flag .GSE_FUNC_MUTED k then s
  else
    let safe := ((s.safeRec k).map s.inputsSafe).getD true
    ((s.putFlag .GSE_FUNC_MUTED k false).setGfn k { s.gfn k with muteEnd := none, due := if safe then (s.gfn k).due else 1 }).raise2 0x1707 k 0

/-- What a muting input's change does to a light curtain (R261): one that becomes inactive ends the muting; both active start it with the next cycle
(R252, R269). -/
def State.muteInput (s : State) (k : Nat) : State :=
  match s.safeRec k with
  | none => s
  | some r =>
    let a := s.si (r.byte 20)
    let b := s.si (r.byte 21)
    let s := s.onlyIf (!a && !b) fun s => s.setGfn k { s.gfn k with muteBlocked := false }
    s.onlyIf (!(a && b)) fun s => s.endMute k

/-- The discrepancy time of a pair starts while its channels differ (R251). -/
def State.watchPair (s : State) (k : Nat) (r : SafeRec) : State :=
  if r.pat < 2 ∨ 4 < r.pat then s
  else if (s.channels r).1 = (s.channels r).2 then s.setGfn k { s.gfn k with discAt := none }
  else if (s.gfn k).discAt.isSome then s else s.setGfn k { s.gfn k with discAt := some (s.now + msec r.disc) }

/-- A confirmation of the check value is complete (R266): the on-site act follows within 300 s. -/
def State.confirmCv (s : State) : State :=
  match s.gse.confirming with
  | none => s
  | some c =>
    if c.deadline < s.now then s else
    let old := s.rd .GSE_CVCONF_CVCONF 0
    let s : State := { s with gse := { s.gse with confirming := none } }
    let s := (s.put .GSE_CVCONF_CVCONF 0 c.value).raise 0x1705 c.value
    let s := s.request 1 [⟨0x27, s.ltime, [⟨16, 4, old⟩, ⟨20, 4, c.value⟩]⟩]
    if s.rd .GSE_STATUS_STATE 0 = 1 ∧ s.rd .GSE_CV_CV 0 = c.value then
      let s := (s.put .GSE_STATUS_STATE 0 2).putFlag .GSE_STATUS_CVOK 0 true
      s.each s.functions fun s k =>
        (s.putFlag .GSE_FUNC_RSTREQ k (((s.safeRec k).map fun r => bit (r.byte 3) 1).getD false)).setGfn k { s.gfn k with fresh := true }
    else s

/-- Some function binds a reset input (R266). -/
def State.anyReset (s : State) : Bool := s.gse.copy.any fun r => r.rstSi != 0xFF

/-- What the inputs of a function do to it at once: safe since, the pair, the on-site act without reset inputs (R251, R256, R266). -/
def State.inputsChanged (s : State) (k : Nat) (r : SafeRec) : State :=
  let f := s.gfn k
  if s.inputsBack k r then
    let s := s.setGfn k { f with safeSince := some (f.safeSince.getD s.now), sawUnsafe := false }
    let s := s.onlyIf (f.sawUnsafe && s.gse.confirming.isSome && !s.anyReset) State.confirmCv
    s.watchPair k r
  else (s.setGfn k { f with safeSince := none, sawUnsafe := true }).watchPair k r

/-- A reset pulse ends (R256, R266): 100 ms to 5,000 ms long, or event 0x1708 with detail 0x04. The on-site act of a confirmation resets no function. -/
def State.resetPulse (s : State) (i len : Nat) : State :=
  let users := s.functions.filter fun k => ((s.safeRec k).map fun r => r.rstSi == i).getD false
  if users.isEmpty then s
  else if len < msec 100 ∨ msec 5000 < len then s.each users fun s k => s.raise2 0x1708 k 4
  else
    let runs := s.rd .GSE_STATUS_STATE 0 == 2
    let s := s.confirmCv
    if runs then { s with gse := { s.gse with pulses := s.gse.pulses ++ [(i, s.now - len, s.now)] } } else s

/-- The inputs from a TP that no field of the record names: LOCKSI, ENDSI and DIRSI (R249, R253). -/
def SafeRec.unnamed (r : SafeRec) : List Nat :=
  (if r.func = 2 then [r.byte 20] else if r.func = 4 then [r.byte 20, r.byte 21] else []).filter (· < 16)

/-- The TP that an input is wired from: the one that a record names (R253). DESIGN CHOICE (log entry 76): of an input whose TP no field names, the
one that it first followed. -/
def State.tpOf (s : State) (i : Nat) : Option Nat :=
  (lookup none s.gse.ownTp i).or <| s.gse.copy.findSome? fun r => if r.siA = i ∧ r.byte 8 < 4 then some (r.byte 8) else if r.siB = i ∧ r.byte 9 < 4 then some (r.byte 9) else none

/-- The inputs that a record binds beside SIA and SIB: EDMSI, and those of its function part (R253). -/
def SafeRec.others (r : SafeRec) : List Nat :=
  r.edm :: (if r.func = 2 then [r.byte 20] else if r.func = 3 ∨ r.func = 4 then [r.byte 20, r.byte 21] else [])

/-- The samples that confirm a change of an input (R250): FILT of the record that binds it, at least 5 with PAT 0x04, 8 of a reset input. DESIGN CHOICE
(log entry 76): 8 where no record binds it. -/
def State.filt (s : State) (i : Nat) : Nat :=
  match s.gse.copy.find? fun r => r.siA == i || r.siB == i || r.others.contains i with
  | some r => if r.pat = 4 then max 5 (r.byte 10) else r.byte 10
  | none => 8

/-- A sample falls inside the pulse of the input's own TP or the 250 µs after it (R248). -/
def State.skipped (s : State) (i t : Nat) : Bool :=
  match s.tpOf i with
  | none => false
  | some k => decide ((t + msec 20 - (s.gse.startAt + msec (5 * k)) % msec 20) % msec 20 < usec 750)

/-- The last instant at which the inputs were sampled: 125 µs plus a whole multiple of 250 µs after a cycle start (R250). -/
def State.lastSample (s : State) : Nat :=
  s.gse.startAt + usec 125 + (s.now - s.gse.startAt - usec 125) / usec 250 * usec 250

/-- The level that the samples of an input confirm, oldest first and the last at the latest sampling instant: the last FILT of them, those that the
test pulses exclude apart, agree (R250). -/
def State.confirmedLevel (s : State) (i : Nat) (samples : List Bool) : Option Bool :=
  let l := (samples.reverse.zipIdx.filter fun e => !s.skipped i (s.lastSample - e.2 * usec 250)).map (·.1)
  match l with
  | [] => none
  | v :: _ => if s.filt i ≤ l.length ∧ (l.take (s.filt i)).all (· == v) = true then some v else none

/-- A confirmed change of a safety input (R250, R251, R256, R261). -/
def State.inputConfirm (s : State) (i : Nat) (isActive : Bool) : State :=
  if s.si i = isActive then s
  else
    let rise := lookup 0 s.gse.siAt i
    let s := s.putBit .GSE_SI_IN 0 i isActive
    let s : State := { s with gse := { s.gse with siAt := update 0 s.gse.siAt i s.now } }
    let s := s.each s.functions fun s k =>
      match s.safeRec k with
      | none => s
      | some r =>
        let s := s.onlyIf (r.func == 4 && r.byte 21 == i && !isActive) fun s => s.setGfn k { s.gfn k with dirPos := (s.gfn k).lastPos }
        let s := s.onlyIf (r.siA == i || r.siB == i || r.unnamed.contains i) fun s => s.inputsChanged k r
        s.onlyIf (r.func == 3 && (r.byte 20 == i || r.byte 21 == i)) fun s => s.muteInput k
    let s := s.onlyIf (!isActive) fun s => s.resetPulse i (s.now - rise)
    s.afterOutputs

/-- The next pulse of TPk: every 20 ms, k × 5 ms after that of TP0 (R248). -/
def State.nextPulse (s : State) (k : Nat) : Nat :=
  let base := s.gse.startAt + msec (5 * k)
  base + gridAfter (msec 20) (s.now - base) ((lookup none s.gse.pulseLast k).map (· - base))

/-- What a pulse of TPk shows on an active input: the first pulse that an input of unnamed TP follows gives its TP, one that follows none of the four is
at fault (R248, R249). -/
def State.learnTp (s : State) (k i : Nat) (low : Bool) : State :=
  if !s.si i || (lookup none s.gse.ownTp i).isSome then s
  else if low then { s with gse := { s.gse with ownTp := update none s.gse.ownTp i (some k) } }
  else { s with gse := { s.gse with missedTp := update 0 s.gse.missedTp i (setBit (lookup 0 s.gse.missedTp i) k true) } }

/-- An active input fails a pulse of TPk (R248): wired from TPk it did not follow to low, or not back to high in time; wired from another TP it did
not stay high; or it follows none of the four. -/
def State.failsPulse (s : State) (k : Nat) (reads : PulseReads) (i : Nat) : Bool :=
  let low := bit reads.low.toNat i
  s.si i && match s.tpOf i with
    | some t => if t = k then !low || bit reads.late.toNat i else low
    | none => lookup 0 s.gse.missedTp i == 15

/-- TEST_PULSE (R248, R249, R263): what the inputs read around the pulse of TPk, on every input wired from a TP. -/
def execTestPulse (k : Fin 4) (reads : PulseReads) (s : State) : Out :=
  if !s.gseRuns ∨ (s.rd .GSE_STATUS_STATE 0 ≠ 1 ∧ s.rd .GSE_STATUS_STATE 0 ≠ 2) then .next s
  else
    let s := s.moveTo (s.nextPulse k)
    let s : State := { s with gse := { s.gse with pulseLast := update none s.gse.pulseLast k (some s.now) } }
    .next (s.each s.functions fun s j =>
      match s.safeRec j with
      | none => s
      | some r =>
        let named := ([(r.siA, r.byte 8), (r.siB, r.byte 9)].filter fun e => decide (e.1 < 16) && decide (e.2 < 4)).map (·.1)
        let s := s.each r.unnamed fun s i => s.learnTp k i (bit reads.low.toNat i)
        match (named ++ r.unnamed).filter fun i => s.failsPulse k reads i with
        | [] => s
        | i :: _ => s.funcFault j 1 (2 ^ i) false)

/-- DISCREPANCY_TIMEOUT (R251). -/
def execDiscrepancyTimeout (k : Fin 16) (s : State) : Out :=
  match (s.gfn k).discAt, s.safeRec k with
  | some t, some r =>
    if !s.gseRuns then .next s else
    let s := (s.moveTo t).setGfn k { s.gfn k with discAt := none }
    .next (s.funcFault k (if r.pat = 4 then 3 else 2) r.inputMask false)
  | _, _ => .next s

/-- STOPDLY_EXPIRY (R258, R259): the outputs turn off and the permits are withdrawn. -/
def execStopdlyExpiry (k : Fin 16) (s : State) : Out :=
  match (s.gfn k).stopAt with
  | none => .next s
  | some t =>
    if !s.gseRuns then .next s else
    let s := (s.moveTo t).setGfn k { s.gfn k with stopAt := none, offAt := max s.now t }
    .next (s.putFlag .GSE_FUNC_STOPPING k false).drive

/-- EDM_FAULT (R257). -/
def execEdmFault (k : Fin 16) (s : State) : Out :=
  match (s.gfn k).edmAt, s.safeRec k with
  | some t, some r =>
    if !s.gseRuns then .next s else
    let s := (s.moveTo t).setGfn k { s.gfn k with edmAt := none }
    .next (s.funcFault k 5 (2 ^ r.edm) false)
  | _, _ => .next s

/-- UNLKDLY_EXPIRY (R260): the time counts from the last turn-off of an output of OUTMASK or a channel of PERMMASK. -/
def execUnlkdlyExpiry (k : Fin 16) (s : State) : Out :=
  match (s.gfn k).unlkAt, s.safeRec k with
  | some _, some r =>
    if !s.gseRuns then .next s
    else match (s.watchUnlk k r).offSince r with
      | none => .next (s.watchUnlk k r)
      | some t =>
        let s := s.moveTo (t + msec (r.u16 22))
        .next ((s.setGfn k { s.gfn k with unlkAt := none }).putFlag .GSE_FUNC_UNLKOK k true)
  | _, _ => .next s

/-- MUTING_START (R252, R261, R269): with the next cycle. -/
def execMutingStart (k : Fin 16) (s : State) : Out := .next (if s.gseRuns then (s.moveTo s.nextCycle).tryMute k else s)

/-- MUTING_END (R261): a muting input has become inactive. -/
def execMutingEnd (k : Fin 16) (s : State) : Out :=
  match s.safeRec k with
  | none => .next s
  | some r => .next (if !s.gseRuns || (s.si (r.byte 20) && s.si (r.byte 21)) then s else s.endMute k)

/-- MUTMAX_EXPIRY (R261): the next cycle takes a demand with cause 0x02. -/
def execMutmaxExpiry (k : Fin 16) (s : State) : Out :=
  match (s.gfn k).muteEnd with
  | some t =>
    if !s.gseRuns then .next s
    else
      let s := (s.moveTo t).endMute k
      .next (s.setGfn k { s.gfn k with muteEnd := none, muteBlocked := true, due := 2 })
  | none => .next s

/-- Every output off, every permit withdrawn, every running delay ended (R264). -/
def State.allOff (s : State) : State :=
  let s := s.each s.functions fun s k =>
    ((s.putFlag .GSE_FUNC_EN k false).putFlag .GSE_FUNC_STOPPING k false).setGfn k { s.gfn k with stopAt := none }
  s.setOutputs 0 0

/-- A GSE fault: the safe state (R264). -/
def State.gseFault (s : State) (code : Nat) : State :=
  if s.rd .GSE_STATUS_STATE 0 = 3 then s
  else
    let s : State := { s with gse := { s.gse with testsT := none } }
    let s := ((s.put .GSE_STATUS_STATE 0 3).put .GSE_DIAG_FCODE 0 code).count .GSE_COUNT_FAULTS 0
    (s.raise 0x1703 code).allOff

/-- GSE_FAULT (R264): codes 0x01 to 0x08; 0x09 comes with FAB_RELEASE (R268). -/
def execGseFault (code : Fin 8) (s : State) : Out := .next (if s.gseRuns then s.gseFault (code + 1) else s)

/-- The fabric freezes master 17: the drive stops, and the GSE counts as failed (R31, R474). -/
def State.gseFreeze (s : State) : State := ({ s with gse := { s.gse with frozen := true } } : State).allOff

/-- The fabric releases master 17: the safe state with code 0x09 (R268). -/
def State.gseRelease (s : State) : State :=
  if s.gse.frozen then ({ s with gse := { s.gse with frozen := false } } : State).gseFault 9 else s

/-- SO_DRIVE_EXPIRY (R247): an output whose drive is not renewed turns off. -/
def execSoDriveExpiry (k : Fin 4) (s : State) : Out := .next ((s.setReadback (setBit (s.rd .GSE_SO_RB 0) k false)).afterOutputs)

/-- VSIO_UNDERVOLTAGE (R248). -/
def execVsioUndervoltage (s : State) : Out :=
  if s.flag .GSE_STATUS_VSIOUV 0 || !s.gseRuns then .next s else .next ((s.putFlag .GSE_STATUS_VSIOUV 0 true).raise 0x170E 1)

/-- VSIO_UNDERVOLTAGE_END (R248). -/
def execVsioUndervoltageEnd (s : State) : Out :=
  if s.flag .GSE_STATUS_VSIOUV 0 && s.gseRuns then .next ((s.putFlag .GSE_STATUS_VSIOUV 0 false).raise 0x170E 0) else .next s

/-- The start of the GSE at a cold reset or a safety restart: outputs off, then the tests (R267, R268). The ZREQ lines that it pulls stay low until the
function is enabled again (R258). A GSE whose clock a freeze gates stays frozen (R27). -/
def State.gseStart (s : State) : State :=
  let s := s.allOff
  let keep := [Fld.GSE_CVCONF_CVCONF, Fld.GSE_COUNT_DEMANDS, Fld.GSE_COUNT_FAULTS]
  { s.clearUnit .gse (fun _ => true) keep with gse := {
    testsT := some (s.now + msec 340), confirming := s.gse.confirming, startAt := s.now, frozen := s.frozen 17, zreq := s.gse.zreq
    soOffAt := s.gse.soOffAt, fns := mapTab {} (fun f => { pulls := f.pulls }) s.gse.fns } }

/-- When the test that finds a fault ends, in ms after the start (R267). -/
def testEnd (code : Nat) : Nat := if code = 1 then 2 else if code = 2 then 120 else if code = 3 then 250 else if code = 5 ∨ code = 6 then 290 else 340

/-- The start-up tests end (R265, R267): 0 passed, else the fault code; `inputs` are the inputs as checked in step 5. -/
def State.gseTestsDone (s : State) (failed inputs : Nat) : State :=
  match s.gse.testsT with
  | none => s
  | some t =>
    let s := s.moveTo (t - msec 340 + msec (if failed ≠ 0 then testEnd failed else if s.plan.isNone then 330 else 340))
    let s : State := { s with gse := { s.gse with testsT := none } }
    let s := s.put .GSE_SI_IN 0 inputs
    if failed ≠ 0 then (s.gseFault failed)
    else match s.plan with
      | none => (s.put .GSE_STATUS_STATE 0 4)
      | some p =>
        let s : State := { s with gse := { s.gse with copy := p.safe } }
        let ok := p.safeCv == s.rd .GSE_CVCONF_CVCONF 0
        let s := ((s.put .GSE_CV_CV 0 p.safeCv).putFlag .GSE_STATUS_CVOK 0 ok).put .GSE_STATUS_STATE 0 (if ok then 2 else 1)
        let s := s.each s.functions fun s k =>
          match s.safeRec k with
          | none => s
          | some r =>
            let s := (s.put .GSE_FUNC_FUNC k r.func).putFlag .GSE_FUNC_RSTREQ k (ok && bit (r.byte 3) 1)
            (s.setGfn k { s.gfn k with fresh := true }).inputsChanged k r
        ((s.raise 0x1704 (if ok then 2 else 1)).pullLines).afterOutputs

/-- The on-site act has not followed in time: event 0x1706 with detail 2 (R266). -/
def State.confirmLate (s : State) : State :=
  match s.gse.confirming with
  | none => s
  | some c =>
    let s := s.moveTo c.deadline
    ({ s with gse := { s.gse with confirming := none } } : State).raise 0x1706 2

/-- A power failure is a category 0 demand on every function (R268). -/
def State.gsePowerFail (s : State) : State :=
  let s : State := { s with gse := { s.gse with powerFail := true } }
  let s := s.each s.functions fun s k =>
    match s.safeRec k with
    | none => s
    | some r => s.demand k r 7
  (s.allOff).raise 0x170C 0

end Sys2Proof.Machine
end

