-- ==== Sys2Proof/Machine/Network.lean ====
section
/-! DEFINITION. NTU (chapter 14): PTP time and its client, the transparent clock, compare units, power-module templates, CAN, Modbus
and Ethernet links. -/

namespace Sys2Proof.Machine

open Sys2Proof

/-- NTU state set. -/
def State.setNtu (s : State) (v : Ntu) : State := { s with ntu := v }

/-- The PTP record (TYPE 2). -/
def State.ptpRec (s : State) : NetwRec := ((s.netw 2).head?.map (·.2)).getD {}

/-- The PTP client's state (R387). -/
def State.ptpState (s : State) : Nat := s.rd .NTU_PTP_STATE 0

/-- The free-running counter (R388). -/
def State.frc (s : State) : Nat := (s.ntu.frc + s.clockGone) % 2 ^ 32

/-- The clock's mark at the present instant. -/
def State.markClock (s : State) : State := s.setNtu { s.ntu with ptp := s.ptpNs, frc := s.frc, mark := s.now }

/-- Whether the PTP client has given a time: it has been locked since the last cold start (R488). -/
def State.ptpUsable (s : State) : Bool := s.ntu.everLocked

/-- The time registers as the clock shows them (R397). -/
def State.showNtu (s : State) : State :=
  let t := s.ptpNs
  let sec := t / 1000000000
  ((((s.put .NTU_TIME_L 0 (sec % 2 ^ 32)).put .NTU_TIME_H 0 (sec / 2 ^ 32)).put .NTU_TIME_NS_NS 0 (t % 1000000000)).put .NTU_FRC_FRC 0 s.frc)

/-- The PTP client's state changes (R387, R399). -/
def State.setPtp (s : State) (st : Nat) : State :=
  if s.ptpState = st then s
  else
    let s := s.refreshTl
    let s := ((s.put .NTU_PTP_STATE 0 st).putFlag .NTU_STATUS_LOCKED 0 (decide (st = 3))).raise 0x1B01 st
    let s := s.onlyIf (decide (st = 4)) fun s => s.put .NTU_STATUS_HOLDOVER 0 1
    s.setNtu { s.ntu with goodRun := 0, badRun := 0, everLocked := s.ntu.everLocked || decide (st = 3) }

/-- The best of the masters (R387). -/
def bestMaster : List PtpMaster → Option PtpMaster
  | [] => none
  | m :: l => match bestMaster l with
    | none => some m
    | some b => if m.rank ≤ b.rank then some m else some b

/-- The TYPE 1 record of a port. -/
def State.portRec (s : State) (k : Nat) : NetwRec := (((s.netw 1).map (·.2)).find? fun r => r.byte 1 == k).getD {}

/-- The client listens on a port: FLAGS[0] of its record is 1 (R387). -/
def State.ptpPort (s : State) (k : Nat) : Bool := bit ((s.portRec k).byte 3) 0

/-- An Announce of a master (R387): a change of the best master puts a running client in holdover and restarts acquisition. -/
def State.announce (s : State) (source rank port interval : Nat) (utc : Int) : State :=
  let l := s.ntu.masters.filter fun m => m.source != source && decide (s.now < m.until_)
  let l := ⟨source, rank, port, s.now + s.ptpRec.byte 5 * interval, utc⟩ :: l
  let s := s.setNtu { s.ntu with masters := l }
  match bestMaster l with
  | none => s
  | some b =>
    let s := s.setNtu { s.ntu with utc := b.utc }
    if s.ntu.master = some b.source ∧ s.ptpState ≠ 1 ∧ s.ptpState ≠ 4 then s
    else
      let new := s.ntu.master != some b.source
      let s := s.onlyIf (new && (s.ptpState == 2 || s.ptpState == 3)) fun s => s.setPtp 4
      let s := s.setNtu { s.ntu with master := some b.source, syncT := some (s.now + msec 3000) }
      let s := s.put .NTU_PTP_MPORT 0 b.port
      (s.onlyIf new fun s => s.raise2 0x1B02 b.port 0).setPtp 2

/-- A draw of the servo's rate within ±500 ppm: R387 bounds it and gives no law. RATE shows it where the field can hold it. -/
def State.drawRate (s : State) : State :=
  let (v, s) := s.draw
  let r : Int := (v % 100001 : Nat) - 50000
  let s := (s.markClock).setNtu { s.markClock.ntu with rate := r }
  if -32768 ≤ r ∧ r ≤ 32767 then s.put .NTU_PTP_RATE 0 (toTwos 16 r)
  else
    let (w, s) := s.draw
    s.put .NTU_PTP_RATE 0 w

/-- An integer held within ±`m`. -/
def satInt (m : Nat) (v : Int) : Int := if v < -(m : Int) then -(m : Int) else if (m : Int) < v then m else v

/-- A step of PTP time by an offset (R387). -/
def State.stepPtp (s : State) (offset : Int) : State :=
  let s := s.markClock
  let s := s.setNtu { s.ntu with ptp := ((s.ntu.ptp : Int) - offset).toNat }
  (s.put .NTU_STATUS_STEPPED 0 1).raise 0x1B03 (toTwos 16 (satInt 32767 ((-offset).tdiv 1000000)))

/-- An offset of the client from its master (R387): step or slew, and locking. -/
def State.takeOffset (s : State) (offset : Int) : State :=
  let thr : Nat := s.ptpRec.u32 8
  let s := s.put .NTU_OFFSET_OFFSET 0 (toTwos 32 (satInt (2 ^ 31 - 1) offset))
  let s := if 1000000 < offset.natAbs then s.stepPtp offset else s.drawRate
  let good := if offset.natAbs ≤ thr then s.ntu.goodRun + 1 else 0
  let bad := if 4 * thr < offset.natAbs then s.ntu.badRun + 1 else 0
  let s := s.setNtu { s.ntu with goodRun := good, badRun := bad }
  if s.ptpState = 2 ∧ 16 ≤ good then s.setPtp 3
  else if s.ptpState = 3 ∧ 4 ≤ bad then s.setPtp 2
  else s

/-- PTP_MESSAGE (R387): a message of the client's domain; a disabled client takes none, and an Announce counts on the ports on which it listens. -/
def execPtpMessage (m : PtpMsg) (s : State) : Out :=
  if s.ptpState = 0 ∨ s.ntuRuns = false then .next s
  else
    match m with
    | .announce source rank port interval utc => .next (if s.ptpPort port then s.announce source rank port.val interval utc else s)
    | .sync source t1 t2 =>
      if s.ntu.master ≠ some source ∨ (s.ptpState ≠ 2 ∧ s.ptpState ≠ 3) then .next s
      else
        let s := s.setNtu { s.ntu with forward := t2 - t1, syncT := some (s.now + msec 3000) }
        .next (s.takeOffset (t2 - t1 - s.ntu.delay))
    | .delayResp source t3 t4 =>
      if s.ntu.master ≠ some source then .next s
      else .next (s.setNtu { s.ntu with delay := (s.ntu.forward + (t4 - t3)) / 2 })

/-- The earlier of two deadlines. -/
def earlier (a b : Option Nat) : Option Nat :=
  match a, b with
  | none, b => b
  | a, none => a
  | some x, some y => some (min x y)

/-- PTP_HOLDOVER (R387): no Announce for ANNTO intervals or no Sync for 3 s. -/
def execPtpHoldover (s : State) : Out :=
  if (s.ptpState ≠ 2 ∧ s.ptpState ≠ 3) ∨ s.ntuRuns = false then .next s
  else
    let ann := (s.ntu.masters.find? fun m => some m.source == s.ntu.master).map (·.until_)
    match earlier ann s.ntu.syncT with
    | none => .next s
    | some t =>
      let s := s.moveTo t
      let l := s.ntu.masters.filter fun m => decide (s.now < m.until_)
      .next ((s.setNtu { s.ntu with masters := l, master := none, syncT := none }).setPtp 4)

/-- A residence corrected at an egress port (R386): the field grows by residence and latencies times 2^16. -/
def State.correct (s : State) (egress total : Nat) (c : Int) : State :=
  let s := s.put .NTU_PORT_MAXRES egress (max (s.rd .NTU_PORT_MAXRES egress) (min 0xFFFF total))
  s.setNtu { s.ntu with correction := update 0 s.ntu.correction egress (c + (total : Int) * 65536) }

/-- The Sync that a Follow_Up leaving a port belongs to, within 1 s (R386). -/
def State.followed (s : State) (egress seqId source : Nat) : Option TwoStep :=
  s.ntu.twoStep.find? fun t => t.egress == egress && t.seqId == seqId && t.source == source && decide (s.now ≤ t.until_)

/-- TRANSPARENT_CLOCK_FORWARD (R386): a frame between two ports whose links are up; with a link down it is lost (R395). -/
def execTransparentClockForward (ingress egress : Fin 4) (residence : Nat) (m : TcMsg) (s : State) : Out :=
  if !s.ntuRuns || !s.flag .NTU_PORT_LINK ingress || !s.flag .NTU_PORT_LINK egress then .next s
  else
  let plain := fun (c : Int) => s.setNtu { s.ntu with correction := update 0 s.ntu.correction egress c }
  let total := residence + (s.portRec ingress).u16 6 + (s.portRec egress).u16 8
  let on := bit (s.ptpRec.byte 3) 0
  match m with
  | .sync c => .next (if on then s.correct egress total c else plain c)
  | .delayReq c => .next (if on then s.correct egress total c else plain c)
  | .twoStepSync q src c =>
    let s1 := plain c
    .next (if on then s1.setNtu { s1.ntu with twoStep := s1.ntu.twoStep ++ [⟨egress, q, src, total, s1.now + msec 1000⟩] } else s1)
  | .followUp q src c =>
    match if on then s.followed egress q src else none with
    | some t =>
      let s1 := s.correct egress t.residence c
      .next (s1.setNtu { s1.ntu with twoStep := s1.ntu.twoStep.filter fun u => u != t })
    | none => .next (if on then (plain c).raise2 0x1B06 ingress 0 else plain c)

/-- Time that the clock takes for `d` ns of its own at the rate of the servo, ending on a tick of 5 ns (R388). -/
def State.realTime (s : State) (d : Nat) : Nat :=
  gridAt 5 (s.now + ((d * 100000000 : Int) / (100000000 + s.ntu.rate)).toNat + (if d = 0 then 0 else 1))

/-- COMPARE_FIRE (R388): the first tick at which the signed difference is not negative. -/
def execCompareFire (k : Fin 2) (s : State) : Out :=
  if !s.flag .NTU_CMPCTL_ARM k || !s.ntuRuns then .next s
  else
    let target := s.rd .NTU_CMP_TARGET k
    let sec := s.flag .NTU_CMPCTL_MODE k
    let v := if sec then s.ptpSec % 2 ^ 32 else s.frc
    let ahead := (target + 2 ^ 32 - v) % 2 ^ 32
    let s :=
      if ahead = 0 ∨ 2 ^ 31 ≤ ahead then s
      else if sec then s.moveTo (s.realTime (ahead * 1000000000 - s.ptpNs % 1000000000))
      else s.moveTo (s.realTime ahead)
    .next ((s.putFlag .NTU_CMPCTL_ARM k false).put .NTU_CMPCTL_FIRED k 1)

/-- The template record of an outlet: the NETW record that MODULE names (R50, R394). -/
def State.template (s : State) (n : Nat) : Option NetwRec :=
  match s.outl n with
  | none => none
  | some r => (s.plan.bind fun p => p.netw[r.module]?).filter fun t => t.type == 3 && t.byte 2 == 1

/-- The TX frame of an outlet's template (R390): 16 bytes. -/
def State.txBytes (s : State) (n : Nat) : List Nat :=
  let g := lookup {} s.alloc.core.sigs n
  let le := fun (k v : Nat) => (List.range k).map fun i => v / 256 ^ i % 256
  [g.mode % 256, g.seq % 256, b2n (s.zreqLine n), 0] ++ le 2 g.vset ++ le 2 g.ilim ++ le 2 g.idis ++ le 2 0 ++ le 4 (toTwos 32 g.plim)

/-- The clock of a template's CAN bus is on (R460). -/
def State.canClocked (s : State) (t : NetwRec) : Bool := bit (s.rd .CGU_CLKEN_CAN 0) (t.byte 1 % 4)

/-- TEMPLATE_SEND (R391): at once after a change of a signal, else at the end of PERIOD; nothing while the bus is off. -/
def execTemplateSend (n : Fin 24) (s : State) : Out :=
  match s.template n with
  | none => .next s
  | some t =>
    if !s.canClocked t || !s.ntuRuns then .next s
    else
    let b := s.txBytes n
    let same := b == lookup [] s.ntu.txFrame n
    let s := s.onlyIf same fun s => s.moveTo (lookup 0 s.ntu.txAt n + msec (t.u16 12))
    if s.rd .NTU_CAN_STATE (t.byte 1 % 4) ≥ 2 then .next s
    else
      let seq := b.getD 1 0
      let l := lookup [] s.ntu.unechoed n
      let l := if (lookup [] s.ntu.txFrame n).getD 1 0 = seq then l else l ++ [(seq, s.now)]
      .next (s.setNtu { s.ntu with txFrame := update [] s.ntu.txFrame n b, txAt := update 0 s.ntu.txAt n s.now
                                   unechoed := update [] s.ntu.unechoed n l })

/-- Valid status of a lost module (R220). -/
def State.moduleGood (s : State) (n : Nat) : State :=
  if !bit s.alloc.lost n then s
  else
    match lookup none s.alloc.goodT n with
    | none => { s with alloc := { s.alloc with goodT := update none s.alloc.goodT n (some s.now) } }
    | some _ => s.moduleBack n

/-- MODULE_STATUS_RX (R219, R220, R391): kept with its age; a fault other than 0 loses the module. -/
def execModuleStatusRx (n : Fin 24) (echo fault : BitVec 8) (vact iact : BitVec 16) (s : State) : Out :=
  match s.template n with
  | none => .next s
  | some t =>
    if !s.canClocked t || !s.ntuRuns then .next s
    else
    let r : ModuleRx := ⟨echo.toNat, fault.toNat, vact.toNat, iact.toInt, s.now⟩
    let l := lookup [] s.ntu.unechoed n
    let l := if l.any (·.1 == echo.toNat) then (l.dropWhile (·.1 != echo.toNat)).drop 1 else l
    let s := s.setNtu { s.ntu with rxFrame := update none s.ntu.rxFrame n (some r), unechoed := update [] s.ntu.unechoed n l }
    let s : State := { s with alloc := { s.alloc with vact := update 0 s.alloc.vact n vact.toNat } }
    if fault.toNat ≠ 0 then
      let s := s.moduleLost n 3
      .next { s with alloc := { s.alloc with goodT := update none s.alloc.goodT n none } }
    else .next (s.moduleGood n)

/-- CAN_ERROR_STATE_CHANGE (R389). -/
def execCanErrorStateChange (k : Fin 4) (state : Fin 3) (tec rec_ : BitVec 8) (s : State) : Out :=
  if s.rd .NTU_CAN_STATE k = 3 ∨ bit (s.rd .CGU_CLKEN_CAN 0) k = false ∨ s.ntuRuns = false then .next s
  else
    let changed := s.rd .NTU_CAN_STATE k != state.val
    let s := ((s.put .NTU_CAN_STATE k state).put .NTU_CAN_TEC k tec.toNat).put .NTU_CAN_REC k rec_.toNat
    let s := s.onlyIf (decide (state.val = 2)) fun s => s.put .NTU_STATUS_CANOFF 0 1
    .next (s.onlyIf changed fun s => s.raise2 0x1B05 k state)

/-- The n-th Modbus device record with its NETW index (R394). -/
def State.modbusDev (s : State) (d : Nat) : Option (Nat × NetwRec) := (s.netw 4)[d]?

/-- The ALOC rules of storage (6) and solar (7) that name a NETW record (R203, R215). -/
def State.sunspecRules (s : State) (idx : Nat) : List AlocRec :=
  ((s.plan.map (·.aloc)).getD []).filter fun r => (r.rule == 6 || r.rule == 7) && r.v1 == (idx : Int)

/-- The rules of a device, by type. -/
def State.sunspecUse (s : State) (idx : Nat) : List Nat := (s.sunspecRules idx).map (·.rule)

/-- The SunSpec models that an ALOC rule needs (R215): 1 and 124 of storage; 103 and 120 of solar, and 123 where curtailment is allowed. -/
def sunspecModels (r : AlocRec) : List Nat := if r.rule = 6 then [1, 124] else if bit r.flags 0 then [103, 120, 123] else [103, 120]

/-- The clock of a Modbus device's line is on (R460). -/
def State.modbusClocked (s : State) (r : NetwRec) : Bool := decide (2 ≤ r.byte 1) || bit (s.rd .CGU_CLKEN_RS485 0) (r.byte 1)

/-- A storage or solar device counts as lost (R215, R393). -/
def State.sunspecLost (s : State) (idx : Nat) : State :=
  let l := s.sunspecUse idx
  let s := s.onlyIf (l.contains 6 && !s.alloc.stor.lost) fun s =>
    ({ s with alloc := { s.alloc with stor := { s.alloc.stor with lost := true } } } : State).raise 0x2007 1
  s.onlyIf (l.contains 7 && !s.alloc.solar.lost) fun s =>
    ({ s with alloc := { s.alloc with solar := { s.alloc.solar with lost := true } } } : State).raise 0x2008 1

/-- MODBUS_TRANSACTION (R392): 0 answered, 1 timeout or bad CRC, 2 exception, 3 the TCP connection is lost. A device without its connection, or on
a line without its clock, has none. -/
def execModbusTransaction (dev : Fin 16) (outcome : Fin 4) (s : State) : Out :=
  match s.modbusDev dev with
  | none => .next s
  | some (_, r) =>
    if !s.ntuRuns || !s.modbusClocked r || (lookup none s.ntu.reconnect dev).isSome then .next s
    else
    let settle := fun (s : State) (st : Nat) =>
      let s := s.setNtu { s.ntu with retrying := setBit s.ntu.retrying dev false }
      if s.rd .NTU_MB_STATE dev = 1 then s else s.put .NTU_MB_STATE dev st
    match outcome.val with
    | 0 => .next (settle s 2)
    | 2 => .next ((settle s 2).count .NTU_MB_EXC dev)
    | 1 =>
      if bit s.ntu.retrying dev then .next ((settle s 3).count .NTU_MB_MISSES dev)
      else .next (s.setNtu { s.ntu with retrying := setBit s.ntu.retrying dev true })
    | _ =>
      if r.byte 1 = 2 then
        let s := ((settle s 3).count .NTU_MB_MISSES dev)
        .next (s.setNtu { s.ntu with reconnect := update none s.ntu.reconnect dev (some (s.now + msec 5000)) })
      else .next s

/-- MODBUS_TCP_RECONNECT (R392): the NTU then looks for the SunSpec marker again (R393). -/
def execModbusTcpReconnect (dev : Fin 16) (s : State) : Out :=
  match lookup none s.ntu.reconnect dev with
  | none => .next s
  | some t =>
    let s := s.moveTo t
    .next ((s.setNtu { s.ntu with reconnect := update none s.ntu.reconnect dev none }).put .NTU_MB_STATE dev 1)

/-- What the walk of the model headers comes to (R393): 0 every model that the rules need, 1 no marker, 2 a model is missing. -/
def State.discovered (s : State) (idx : Nat) (models : Option (List (BitVec 16))) : Nat :=
  match models with
  | none => 1
  | some l => if ((s.sunspecRules idx).flatMap sunspecModels).all fun m => l.any fun x => x.toNat == m then 0 else 2

/-- SUNSPEC_DISCOVERY (R393): none of the three places holds the marker, or the models found up to 0xFFFF. -/
def execSunspecDiscovery (dev : Fin 16) (models : Option (List (BitVec 16))) (s : State) : Out :=
  match s.modbusDev dev with
  | none => .next s
  | some (idx, r) =>
    if !s.ntuRuns || !s.modbusClocked r || s.rd .NTU_MB_STATE dev ≠ 1 then .next s
    else
      let d := s.discovered idx models
      if d = 0 then .next (s.put .NTU_MB_STATE dev 2)
      else .next ((s.raise2 0x1B07 idx d).sunspecLost idx)

/-- The link of a port at a speed, 0 down (R385, R399). -/
def State.setLink (s : State) (k speed : Nat) : State :=
  let was := s.flag .NTU_PORT_LINK k
  let up := decide (speed ≠ 0)
  let s := (s.put .NTU_PORT_SPEED k speed).putFlag .NTU_PORT_LINK k up
  if was = up then s else (s.put .NTU_STATUS_LINKCHG 0 1).raise2 0x1B04 k (b2n up)

/-- A port that runs: its clock is on (R460), and the plan does not turn it off (R394). -/
def State.portOn (s : State) (k : Nat) : Bool := bit (s.rd .CGU_CLKEN_ETH 0) k && !(s.plan.isSome && (s.portRec k).byte 2 == 0)

/-- ETHERNET_LINK_CHANGE (R385): the negotiated speed, 0 down. -/
def execEthernetLinkChange (k : Fin 4) (speed : Fin 4) (s : State) : Out :=
  .next (if s.portOn k && s.ntuRuns then s.setLink k speed else s)

/-- The client starts as its record says (R387): listening, or disabled. -/
def State.startPtp (s : State) : State :=
  let s := s.markClock
  let s := s.setNtu { s.ntu with masters := [], master := none, syncT := none, delay := 0, forward := 0, goodRun := 0, badRun := 0 }
  (s.put .NTU_PTP_DOMAIN 0 (s.ptpRec.byte 1)).setPtp (if bit (s.ptpRec.byte 3) 1 then 1 else 0)

/-- The NTU takes the network records of the active plan (R57, R389, R393, R394). -/
def State.ntuPlan (s : State) (ptpChanged : Bool) : State :=
  let buses := ((s.netw 3).map (·.2)).filter (fun r => r.byte 2 == 0) |>.map fun r => r.byte 1
  let s := s.each (List.range 4) fun s k =>
    if !buses.contains k then s.put .NTU_CAN_STATE k 3 else if s.rd .NTU_CAN_STATE k = 3 then s.put .NTU_CAN_STATE k 0 else s
  let s := s.each (List.range 16) fun s d => s.put .NTU_MB_STATE d (if (s.modbusDev d).isSome then 1 else 0)
  let s := s.each (List.range 4) fun s k => s.onlyIf ((s.portRec k).byte 2 == 0 && s.flag .NTU_PORT_LINK k) fun s => s.setLink k 0
  s.onlyIf ptpChanged State.startPtp

/-- A unit reset of the NTU (R471): the client restarts in listening; templates resume with their last values. -/
def State.ntuReset (s : State) : State :=
  let s := s.clearUnit .ntu (fun _ => true) [.NTU_PORT_LINK, .NTU_PORT_SPEED, .NTU_PORT_MAXRES, .NTU_PTP_STATE]
  let s := s.setNtu { s.ntu with twoStep := [], retrying := 0, reconnect := [] }
  s.ntuPlan true

end Sys2Proof.Machine
end

