-- ==== Sys2Proof/Machine/Rs.lean ====
section
/-! DEFINITION. The codes of the Afril link (chapter 13): Reed-Solomon over GF(32) with erasures, CRC-8, and the payload of a pass. PRESUMED (log
entry 78), since R356 and R357 name the codes and leave this open: the roots of the generator are the first n − k powers of the field's element x,
the information symbols come first, the first symbol is the highest coefficient, and bits go most significant first. -/

namespace Sys2Proof.Machine

/-- A symbol times x in GF(32), with the field polynomial x⁵ + x² + 1 (R356). -/
def gfStep (a : Nat) : Nat := if bit a 4 then (a * 2 ^^^ 0x25) % 32 else a * 2 % 32

/-- The product of two symbols. -/
def gfMul (a b : Nat) : Nat :=
  (List.range 5).foldl (fun c i => if bit b (4 - i) then gfStep c ^^^ (a % 32) else gfStep c) 0

/-- The inverse of a symbol: its 30th power; 0 for 0. -/
def gfInv (a : Nat) : Nat :=
  let a2 := gfMul a a
  let a4 := gfMul a2 a2
  let a8 := gfMul a4 a4
  gfMul (gfMul a2 a4) (gfMul a8 (gfMul a8 a8))

/-- The product of a list of symbols. -/
def gfProd (l : List Nat) : Nat := l.foldl gfMul 1

/-- The power of x that stands for a position of a codeword of length n. -/
def rsLoc (n j : Nat) : Nat := (List.range (n - 1 - j)).foldl (fun c _ => gfStep c) 1

/-- The inverse of the multiplier of a position: a codeword is the values of a polynomial of degree below k, each times its multiplier. -/
def rsScale (n j : Nat) : Nat := gfMul (rsLoc n j) (gfProd (((List.range n).filter (· != j)).map fun m => rsLoc n j ^^^ rsLoc n m))

/-- What a known symbol brings to the interpolation: the symbol times the inverse multiplier, over its distances to the other known places. -/
def rsCoeff (n : Nat) (pts : List (Nat × Nat)) (p : Nat × Nat) : Nat × Nat :=
  let low := gfProd (((pts.map (·.1)).filter (· != p.1)).map fun m => rsLoc n p.1 ^^^ rsLoc n m)
  (rsLoc n p.1, gfMul (gfMul p.2 (rsScale n p.1)) (gfInv low))

/-- The symbol at a further position, from the coefficients at the known places. -/
def rsAt (n : Nat) (cs : List (Nat × Nat)) (j : Nat) : Nat :=
  let x := rsLoc n j
  let sum := (cs.map fun c => gfMul c.2 (gfInv (x ^^^ c.1))).foldl (· ^^^ ·) 0
  gfMul (gfMul (gfProd (cs.map fun c => x ^^^ c.1)) sum) (gfInv (rsScale n j))

/-- The codeword of length n through k known symbols. -/
def rsFill (n : Nat) (pts : List (Nat × Nat)) : List Nat :=
  let cs := pts.map (rsCoeff n pts)
  (List.range n).map fun j => match pts.find? fun p => p.1 == j with
    | some p => p.2
    | none => rsAt n cs j

/-- RS(n, k) encodes k information symbols (R356). -/
def rsEncode (n k : Nat) (info : List Nat) : List Nat := rsFill n ((List.range k).map fun i => (i, info.getD i 0 % 32))

/-- The sublists of a length, in order. -/
def sublistsOf {α : Type} : Nat → List α → List (List α)
  | 0, _ => [[]]
  | _ + 1, [] => []
  | e + 1, x :: l => (sublistsOf e l).map (x :: ·) ++ sublistsOf (e + 1) l

/-- RS(n, k) decodes a word with erased positions: f erasures and e errors are corrected where 2e + f ≤ n − k (R356). -/
def rsDecode (n k : Nat) (word erased : List Nat) : Option (List Nat) :=
  let good := (List.range n).filter fun j => !erased.contains j
  let f := n - good.length
  if n - k < f then none
  else
    (List.range ((n - k - f) / 2 + 1)).findSome? fun e => (sublistsOf e good).findSome? fun bad =>
      let known := (good.filter fun j => !bad.contains j).map fun j => (j, word.getD j 0 % 32)
      let w := rsFill n (known.take k)
      if known.all fun p => w.getD p.1 0 == p.2 then some (w.take k) else none

/-- The bits of a number, most significant first. -/
def msbBits (size v : Nat) : List Bool := (List.range size).map fun i => bit v (size - 1 - i)

/-- The number that bits stand for, most significant first. -/
def ofBits (l : List Bool) : Nat := l.foldl (fun v b => 2 * v + b.toNat) 0

/-- A list of bits in groups of `k`, as numbers; a group that is not full is left out. -/
def groupBits (k : Nat) (l : List Bool) : List Nat := (List.range (l.length / max 1 k)).map fun i => ofBits ((l.drop (i * k)).take k)

/-- The blocks of each codeword of a carrier: one codeword at 20 ms and 40 ms; at 80 ms one on the even and one on the odd blocks (R356). -/
def rsBlocks (span : Nat) : List (List Nat) :=
  if span = 80 then [(List.range 8).map (2 * ·), (List.range 8).map (2 * · + 1)] else [List.range (span / 5)]

/-- The code of a span: RS(8, 4) at 20 ms, RS(16, 8) otherwise (R356). -/
def rsSize (span : Nat) : Nat := if span = 20 then 8 else 16

/-- The symbols of a carrier in block order, two to a block, from its information symbols (R349, R356). -/
def carrierEncode (span : Nat) (info : List Nat) : List Nat :=
  let n := rsSize span
  let words := (List.range (rsBlocks span).length).map fun i => rsEncode n (n / 2) (info.drop (i * (n / 2)))
  (List.range (span / 5 * 2)).map fun p =>
    let b := p / 2
    if span = 80 then (words.getD (b % 2) []).getD (b / 2 * 2 + p % 2) 0 else (words.getD 0 []).getD p 0

/-- The information symbols of a carrier from the symbols received in block order; the blocks that the impulse detector flagged are erased (R356). -/
def carrierDecode (span : Nat) (word flagged : List Nat) : Option (List Nat) :=
  let n := rsSize span
  ((rsBlocks span).mapM fun bl =>
    let places := bl.flatMap fun b => [2 * b, 2 * b + 1]
    let erased := (List.range n).filter fun j => flagged.contains (places.getD j 0 / 2)
    rsDecode n (n / 2) (places.map fun p => word.getD p 0) erased).map List.flatten

/-- CRC-8 over bits: polynomial 0x07, initial value 0 (R357). -/
def crc8 (l : List Bool) : Nat :=
  l.foldl (fun c b => if bit c 7 != b then (c * 2 ^^^ 7) % 256 else c * 2 % 256) 0

/-- A payload of a pass (R357, R358). -/
structure AlkPay where
  type : Nat
  more : Bool
  dack : Bool
  seg : Nat
  mid : List Bool
  deriving DecidableEq, Repr

/-- The bits of a payload of a size: the middle is filled up with zeros (R357). -/
def AlkPay.toBits (p : AlkPay) (size : Nat) : List Bool :=
  let head := msbBits 4 p.type ++ [p.more, p.dack] ++ msbBits 2 p.seg
  let body := head ++ (p.mid ++ List.replicate (size - 16) false).take (size - 16)
  body ++ msbBits 8 (crc8 body)

/-- A payload read from its bits, where its CRC-8 holds (R357). -/
def readPay (l : List Bool) : Option AlkPay :=
  let body := l.take (l.length - 8)
  if l.length < 16 ∨ crc8 body ≠ ofBits (l.drop (l.length - 8)) then none
  else some ⟨ofBits (l.take 4), l.getD 4 false, l.getD 5 false, ofBits ((l.drop 6).take 2), body.drop 8⟩

/-- The information bits of one carrier in a pass (R350). -/
def carrierBits (span : Nat) : Nat := if span = 20 then 20 else if span = 40 then 40 else 80

/-- A payload on a number of carriers: the symbols of each, in ascending carrier order (R356, R357). -/
def AlkPay.words (p : AlkPay) (span w : Nat) : List (List Nat) :=
  let bits := p.toBits (carrierBits span * w)
  (List.range w).map fun c => carrierEncode span (groupBits 5 ((bits.drop (c * carrierBits span)).take (carrierBits span)))

/-- The payload that carriers bring, none where a codeword or the CRC-8 fails (R357). -/
def readWords (span : Nat) (words : List (List Nat)) (flagged : List Nat) : Option AlkPay :=
  (words.mapM fun w => carrierDecode span w flagged).bind fun l => readPay ((l.flatten).flatMap (msbBits 5))

end Sys2Proof.Machine
end

