-- ==== Sys2Proof/Machine/Afril.lean ====
section
/-! DEFINITION. ALK (chapter 13): rounds, passes, exchanges and repolls, routes, joining, and the switch of node images. -/

namespace Sys2Proof.Machine

open Sys2Proof

/-- ALK state set. -/
def State.setAlk (s : State) (v : Alk) : State := { s with alk := v }

/-- The master's view of a node. -/
def State.anode (s : State) (n : Nat) : AlkNode := lookup {} s.alk.nodes n

/-- A node's view set, with its queue fields (R371). -/
def State.setAnode (s : State) (n : Nat) (v : AlkNode) : State :=
  ((s.setAlk { s.alk with nodes := update {} s.alk.nodes n v }).put .ALK_NLINK_UPQ n v.upq.length).put .ALK_NLINK_DNQ n v.dnq.length

/-- The Afril network record, SUB 0 (R366). -/
def State.alkRec (s : State) : Option NetwRec := ((s.netw 7).map (·.2)).find? fun r => r.byte 1 == 0

/-- The node records, SUB 1 (R366). -/
def State.nodeRecs (s : State) : List NetwRec := ((s.netw 7).map (·.2)).filter fun r => r.byte 1 == 1

/-- The record of a node address. -/
def State.nodeRec (s : State) (n : Nat) : Option NetwRec := s.nodeRecs.find? fun r => r.byte 2 == n

/-- The EUI-64 of a node record. -/
def NetwRec.eui (r : NetwRec) : Nat := r.u32 8 + 2 ^ 32 * r.u32 12

/-- The wide band is in use (R348). -/
def State.wide (s : State) : Bool := s.flag .ALK_CFG_BAND 0

/-- The span in ms (R349). -/
def State.spanMs (s : State) : Nat := match s.rd .ALK_CFG_SPAN 0 with | 0 => 20 | 1 => 40 | _ => 80

/-- The pass length in ns (R349). -/
def State.passLen (s : State) : Nat := if s.wide then msec (s.spanMs + 10) else msec s.spanMs + usec 29200

/-- P of the wide band (R350). -/
def wideP (spanMs : Nat) : Nat := 200 / (spanMs + 10)

/-- The largest hop count of a span (R350). -/
def hopLimit (spanMs : Nat) : Nat := if spanMs = 80 then 2 else 4

/-- The largest hop count in force (R364). -/
def State.maxHop (s : State) : Nat := min (hopLimit s.spanMs) (s.rd .ALK_CFG_MAXHOP 0)

/-- The network transmits. -/
def State.alkRuns (s : State) : Bool := s.flag .ALK_STATUS_RUNNING 0 && !s.alk.silent && !s.failed 0x1A

/-- The state of a node: 0 absent, 1 joining, 2 joined, 3 lost (R371). -/
def State.nodeState (s : State) (n : Nat) : Nat := s.rd .ALK_NSTAT_STATE n

/-- The nodes that are polled: joined and lost ones (R361). -/
def State.polled (s : State) : List Nat := (List.range 63).filter fun n => decide (2 ≤ s.nodeState n)

/-- The hop count of a node. -/
def AlkNode.hop (a : AlkNode) : Nat := a.route.length + 1

/-- RELAY of every node (R371). -/
def State.showRelays (s : State) : State :=
  let on := s.polled.flatMap fun n => (s.anode n).route
  s.each ((List.range 63).drop 1) fun s r => s.putFlag .ALK_NSTAT_RELAY r (on.contains r)

/-- A route in the node's registers (R371). -/
def State.showRoute (s : State) (n : Nat) : State :=
  let a := s.anode n
  let s := (s.put .ALK_NSTAT_PARENT n (a.route.head?.getD 0)).put .ALK_NSTAT_HOP n a.hop
  s.put .ALK_NSTAT_COST n (min 15 a.cost)

/-- The cost of a measured link (R363): SNR in 0.5 dB, erased blocks in 0.5 %; 99 is no link. -/
def linkOf (snr erased : Nat) : Nat :=
  if 30 ≤ snr ∧ erased < 2 then 1
  else if 20 ≤ snr ∧ erased < 10 then 2
  else if 12 ≤ snr ∧ erased < 20 then 4
  else if 6 ≤ snr ∧ erased < 40 then 8
  else 99

/-- A direction of a link as reported. -/
def State.heard (s : State) (a b : Nat) : Nat := lookup 0 s.alk.links (a * 64 + b)

/-- The cost of a link: the larger of its two directions, as far as they are known (R363). -/
def State.linkCost (s : State) (a b : Nat) : Option Nat :=
  let m := max (s.heard a b) (s.heard b a)
  if m = 0 ∨ 8 < m then none else some m

/-- The better of two routes (R364): cost, then hops, then the lower first relay. -/
def betterRoute (x y : Option (List Nat × Nat)) : Option (List Nat × Nat) :=
  match x, y with
  | none, y => y
  | x, none => x
  | some a, some b =>
    if b.2 < a.2 ∨ (b.2 = a.2 ∧ (b.1.length < a.1.length ∨ (b.1.length = a.1.length ∧ b.1.head?.getD 0 < a.1.head?.getD 0)))
    then some b else some a

/-- The relays that may carry other nodes (R364). -/
def State.relays (s : State) : List Nat :=
  (List.range 63).filter fun n => s.nodeState n == 2 && ((s.nodeRec n).map fun r => bit (r.byte 6) 0).getD false

/-- The best route of a node over a first hop other than `not`, by the routes of its neighbours (R364). -/
def State.routeVia (s : State) (t : Tab (Option (List Nat × Nat))) (n : Nat) (not : Option Nat) : Option (List Nat × Nat) :=
  let direct := if not = some 0 then none else (s.linkCost n 0).map fun c => (([] : List Nat), c)
  let via := (s.relays.filter fun r => some r != not).filterMap fun r =>
    match s.linkCost n r, lookup none t r with
    | some c, some (l, k) => if r = n ∨ l.contains n then none else some (r :: l, c + k)
    | _, _ => none
  via.foldl (fun b v => betterRoute b (some v)) direct

/-- The best routes of the polled nodes with at most `h` hops. -/
def State.routes (s : State) : Nat → Tab (Option (List Nat × Nat))
  | 0 => []
  | h + 1 => let t := s.routes h; s.polled.foldl (fun acc n => update none acc n (s.routeVia t n none)) []

/-- The cost of a given route by the links known now. -/
def State.routeCost (s : State) (n : Nat) : List Nat → Option Nat
  | [] => s.linkCost n 0
  | r :: l => match s.linkCost n r, s.routeCost r l with
    | some a, some b => some (a + b)
    | _, _ => none

/-- The route that a node has, or that has been chosen for it. -/
def AlkNode.planned (a : AlkNode) : List Nat := (a.next.map (·.1)).getD a.route

/-- What a relay has to relay: each node whose route leads through it, with FIRST and W (R358, R362). -/
def State.duty (s : State) (r : Nat) : List (Nat × Nat × Nat) :=
  ((List.range 63).filter fun n => decide (1 ≤ s.nodeState n) && (s.anode n).planned.contains r).map fun n =>
    (n, s.rd .ALK_NSTAT_FIRST n, s.rd .ALK_NSTAT_W n)

/-- ROUTE goes to every relay whose duty a route change touches (R364). -/
def State.sendRoutes (s : State) (relays : List Nat) : State :=
  s.each relays.eraseDups fun s r => s.setAnode r { s.anode r with ctl := (s.anode r).ctl ++ [s.duty r] }

/-- A route is chosen for a node; it waits for a round start and for its ROUTE messages (R364). -/
def State.planRoute (s : State) (n : Nat) (v : List Nat × Nat) : State :=
  let old := (s.anode n).route
  (s.setAnode n { s.anode n with next := some v }).sendRoutes (old ++ v.1)

/-- A chosen route takes effect at a round start, once the relays whose duty changes have taken their ROUTE messages; a relay that is lost is not
waited for (R364). -/
def State.takeRoute (s : State) (n : Nat) : State :=
  let a := s.anode n
  match a.next with
  | none => s
  | some (l, c) =>
    if (a.route ++ l).any fun r => s.nodeState r == 2 && !(s.anode r).ctl.isEmpty then s
    else
      let s := (s.setAnode n { a with route := l, cost := c, next := none, cheaper := 0, routeFails := 0 }).showRoute n
      (s.put .ALK_STATUS_ROUTECHG 0 1).raise2 0x1A03 n (l.head?.getD 0)

/-- The choice of a node's route at a round start, by the routes of its neighbours (R364): a route that has failed for 3 rounds gives way at once to the
best one over another first hop, and a cheaper one is taken after 10 rounds. -/
def State.chooseRoute (t : Tab (Option (List Nat × Nat))) (s : State) (n : Nat) : State :=
  let a := s.anode n
  let other := if 3 ≤ a.routeFails then s.routeVia t n (some (a.route.head?.getD 0)) else none
  if a.next.isSome then s
  else match other, s.routeVia t n none with
    | some v, _ => s.planRoute n v
    | none, none => s.setAnode n { a with cheaper := 0 }
    | none, some (l, c) =>
      let cur := (s.routeCost n a.route).getD a.cost
      if l = a.route then s.setAnode n { a with cheaper := 0, cost := c }
      else if c + 2 ≤ cur then
        if 9 ≤ a.cheaper then s.planRoute n (l, c) else s.setAnode n { a with cheaper := a.cheaper + 1 }
      else s.setAnode n { a with cheaper := 0 }

/-- Passes of band C before the broadcast pass (R352): groups of four, each as long as its largest hop count, at most 16 passes. -/
def State.bandGroups (s : State) : Nat → Nat → List Nat → List Exch × List Nat × Nat
  | 0, k, l => ([], l, k)
  | f + 1, k, l =>
    let g := l.take 4
    let h := (g.map fun n => (s.anode n).hop).foldl max 0
    if g.isEmpty ∨ 16 < k + h then ([], l, k)
    else
      let r := s.bandGroups f (k + h) (l.drop 4)
      ((g.map fun n => (⟨n, k, (s.anode n).hop, false⟩ : Exch)) ++ r.1, r.2.1, r.2.2)

/-- A pending switch of node images at a round start (R368). -/
def State.switchImages (s : State) : State :=
  match s.alk.switch with
  | none => s
  | some w =>
    if s.ptpSec < w.t then s
    else
      let named := s.nodeRecs.filter fun r => w.images.contains (r.u16 16) && decide (2 ≤ s.nodeState (r.byte 2))
      let s := s.setAlk { s.alk with switch := none }
      s.each (named.map (·.byte 2)) fun s n =>
        let s := (s.putFlag .ALK_NVER_PEND n true).putFlag .ALK_NVER_CONF n false
        s.setAnode n { s.anode n with confT := some (s.now + msec 10000) }

/-- A broadcast joins those that wait (R358). -/
def State.broadcast (s : State) (type : Nat) (bits : List Bool) (node : Nat) : State :=
  s.setAlk { s.alk with bq := s.alk.bq ++ [{ type := type, bits := bits, node := node }] }

/-- ACTIVATE and FALLBACK for the nodes of images: image number, for ACTIVATE the version, and the PTP time (R358, R368). -/
def State.announceImages (s : State) (w : NodeSwitch) (versions : List Nat) : State :=
  let s := s.setAlk { s.alk with switch := some w }
  (w.images.zip versions).foldl (fun s e =>
    if w.fallback then s.broadcast 11 (msbBits 16 e.1 ++ msbBits 48 w.t) 0
    else s.broadcast 7 (msbBits 16 e.1 ++ msbBits 32 e.2 ++ msbBits 48 w.t) 0) s

/-- TIME goes out once per second, with the PTP time at which the next round starts (R358, R368). -/
def State.sendTime (s : State) (len : Nat) : State :=
  if !s.ptpUsable || s.alk.timeSec == some s.ptpSec then s
  else
    let t := s.ptpNs + len
    (s.setAlk { s.alk with timeSec := some s.ptpSec }).broadcast 5 (msbBits 48 (t / 1000000000) ++ msbBits 32 (t % 1000000000)) 0

/-- ROUND_START (R350, R352, R359, R364): a wide-band round starts 200 ms after the last. -/
def execRoundStart (s : State) : Out :=
  if !s.alkRuns || s.alk.pass.isSome then .next s
  else
    let s := match s.alk.startAt with
      | some t => if s.wide then s.moveTo (t + msec 200) else s
      | none => s
    let s := s.switchImages
    let s := s.each s.polled State.takeRoute
    let s := s.each s.polled (State.chooseRoute (s.routes (s.maxHop - 1)))
    let s := (s.each s.polled fun s n => s.setAnode n { s.anode n with repolls := 0 }).showRelays
    let base := { s.alk with pass := some 0, startAt := some s.now, failed := [], repolls := 0 }
    if s.wide then
      .next ((s.setAlk { base with exchanges := s.polled.map fun n => ⟨n, 0, (s.anode n).hop, false⟩, due := 0 }).sendTime (msec 200))
    else
      let l := if s.alk.left.isEmpty then s.polled else s.alk.left.filter fun n => s.polled.contains n
      let (ex, rest, k) := s.bandGroups 16 0 l
      .next ((s.setAlk { base with exchanges := ex, left := rest, due := k }).sendTime ((k + 1) * s.passLen))

/-- The passes of the running round (R350, R352). -/
def State.roundPasses (s : State) : Nat :=
  if s.wide then wideP s.spanMs else max (s.alk.due + 1) ((s.alk.exchanges.map fun e => e.start + e.len).foldl max 0)

/-- Exchanges that cover a pass. -/
def State.covering (s : State) (k : Nat) : Nat := (s.alk.exchanges.filter fun e => decide (e.start ≤ k ∧ k < e.start + e.len)).length

/-- The first pass of a repoll after pass `k` (R352, R359). -/
def State.repollStart (s : State) (k h : Nat) : Option Nat :=
  if s.wide then (if k + 1 + h ≤ wideP s.spanMs then some (k + 1) else none)
  else
    let first := s.alk.due + 1
    ((List.range 16).map (· + first)).find? fun p =>
      decide (k < p ∧ p + h ≤ first + 16) && (List.range h).all fun j => decide (s.covering (p + j) < 4)

/-- The carriers of a node's exchanges in a pass: its own in the wide band; in band C its place among the nodes of the pass (R351, R352). -/
def State.carriersOf (s : State) (k n : Nat) : List Nat :=
  if s.wide then (List.range (s.rd .ALK_NSTAT_W n)).map (· + s.rd .ALK_NSTAT_FIRST n)
  else [((s.alk.exchanges.filter fun e => decide (e.start ≤ k ∧ k < e.start + e.len)).map (·.node)).idxOf n]

/-- The information bits of a payload of a node (R350, R357). -/
def State.payBits (s : State) (n : Nat) : Nat := carrierBits s.spanMs * max 1 (if s.wide then s.rd .ALK_NSTAT_W n else 1)

/-- The data bits that one payload of a node carries between its first and its last byte (R357). -/
def State.midBits (s : State) (n : Nat) : Nat := max 1 (s.payBits n - 16)

/-- The downlink message under way: ROUTE or DATA, and its bits (R358). -/
def AlkNode.message (a : AlkNode) : Option (Nat × List Bool) :=
  if a.dnCtl then a.ctl.head?.map fun l => (3, l.flatMap fun x => msbBits 6 x.1 ++ msbBits 7 x.2.1 ++ msbBits 3 (x.2.2 - 1))
  else a.dnq.head?.map fun m => (1, m.flatMap (msbBits 8))

/-- The segments of a message of a number of bits. -/
def State.segments (s : State) (n bits : Nat) : Nat := max 1 ((bits + s.midBits n - 1) / s.midBits n)

/-- The next downlink message of a node gets under way: ROUTE before DATA (R358, R364). -/
def State.loadDown (s : State) (n : Nat) : State :=
  let a := s.anode n
  let a := { a with dnCtl := !a.ctl.isEmpty }
  match a.message with
  | none => s
  | some (_, bits) => s.setAnode n { a with dnOn := true, dnLeft := List.range (s.segments n bits.length) }

/-- The downlink codeword of an exchange is chosen: the next segment that waits (R357, R359). -/
def State.sendDown (s : State) (n : Nat) : State :=
  let s := if (s.anode n).dnOn then s else s.loadDown n
  let a := s.anode n
  s.setAnode n { a with dnWait := a.dnSent, dnSent := a.dnLeft.head?, dnLeft := a.dnLeft.drop 1 }

/-- The downlink payload of an exchange (R357, R358): IDLE where no segment is sent. -/
def State.downPay (s : State) (n : Nat) : AlkPay :=
  let a := s.anode n
  match a.dnSent, a.message with
  | some p, some (type, bits) => ⟨type, decide (p + 1 < s.segments n bits.length), false, p % 4, (bits.drop (p * s.midBits n)).take (s.midBits n)⟩
  | _, _ => ⟨0, false, false, 0, []⟩

/-- The uplink of a good exchange reports on the codeword of the exchange before it: one that the node has not decoded is sent again; a message whose
segments have all been decoded leaves the queue (R357). -/
def State.ackDown (s : State) (n : Nat) (dack : Bool) : State :=
  let a := s.anode n
  let a := { a with dnLeft := if dack then a.dnLeft else a.dnWait.toList ++ a.dnLeft, dnWait := none }
  if a.dnOn && a.dnLeft.isEmpty && a.dnSent.isNone then
    s.setAnode n { a with dnOn := false, ctl := if a.dnCtl then a.ctl.drop 1 else a.ctl, dnq := if a.dnCtl then a.dnq else a.dnq.drop 1 }
  else s.setAnode n a

/-- A lost exchange brings no report: its codeword and the one before it wait again. -/
def AlkNode.noReport (a : AlkNode) : AlkNode :=
  { a with dnLeft := a.dnWait.toList ++ a.dnSent.toList ++ a.dnLeft, dnWait := none, dnSent := none }

/-- A complete uplink message (R358, R363, R368): DATA for the host, neighbours with link costs, or the version with bank, a held image and
confirmation. A JOINFWD is the command JOINREQ. -/
def State.takeMessage (s : State) (n type : Nat) (bits : List Bool) : State :=
  if type = 1 then
    let a := s.anode n
    if a.upq.length < 8 then s.setAnode n { a with upq := a.upq ++ [groupBits 8 bits] }
    else (s.put .ALK_STATUS_QFULL 0 1).raise2 0x1A07 n 0
  else if type = 2 then
    let l := ((groupBits 10 bits).take 4).filter fun v => decide (0 < v % 16)
    let t := s.alk.links.filter fun e => e.1 / 64 != n
    s.setAlk { s.alk with links := l.foldl (fun t v => update 0 t (n * 64 + v / 16) (v % 16)) t }
  else if type = 8 then
    let conf := bits.getD 26 false
    let s := (s.put .ALK_NVER_VERSION n (ofBits (bits.take 24))).putFlag .ALK_NVER_BANK n (bits.getD 24 false)
    let s := (s.putFlag .ALK_NVER_PEND n (bits.getD 25 false)).putFlag .ALK_NVER_CONF n conf
    let a := s.anode n
    if conf && a.confT.isSome then (s.setAnode n { a with confT := none }).raise2 0x1A09 n 1 else s
  else s

/-- An uplink payload joins the message under way by its SEG; a payload that repeats a segment adds nothing (R357, R358). -/
def State.takeUp (s : State) (n : Nat) (u : AlkPay) : State :=
  if u.type = 0 then s
  else
    let a := s.anode n
    let a := if u.seg = 0 ∧ a.upSegs % 4 ≠ 1 then { a with upSegs := 0, upBits := [], upType := u.type } else a
    if u.seg ≠ a.upSegs % 4 then s
    else if u.more then s.setAnode n { a with upBits := a.upBits ++ u.mid, upSegs := a.upSegs + 1 }
    else (s.setAnode n { a with upBits := [], upSegs := 0 }).takeMessage n a.upType (a.upBits ++ u.mid)

/-- The measurements of an uplink over the last 50 rounds: SNRUP, ERASE, and the link cost to the master (R363). -/
def State.measure (s : State) (u : AlkUp) : State :=
  let n := u.node
  let h := ((s.alk.rounds, u.snr, ((List.range (s.spanMs / 5)).filter u.flagged.contains).length, s.spanMs / 5) ::
    (s.anode n).hist).filter fun e => decide (s.alk.rounds < e.1 + 50)
  let erased := 200 * (h.map (·.2.2.1)).sum / max 1 (h.map (·.2.2.2)).sum
  let s := ((s.setAnode n { s.anode n with hist := h }).put .ALK_NLINK_SNRUP n u.snr).put .ALK_NLINK_ERASE n erased
  s.setAlk { s.alk with links := update 0 s.alk.links n (linkOf ((h.map (·.2.1)).sum / h.length) erased) }

/-- A successful exchange (R359 to R361). -/
def State.exchangeGood (s : State) (n : Nat) (u : AlkPay) : State :=
  let back := s.nodeState n == 3
  let s := s.setAnode n { s.anode n with resend := false, more := u.more, failRounds := 0, routeFails := 0 }
  let s := (s.ackDown n u.dack).takeUp n u
  s.onlyIf back fun s => (s.put .ALK_NSTAT_STATE n 2).raise2 0x1A01 n (s.anode n).hop

/-- A failed exchange (R359): a repoll where one fits; a grant is not repolled. -/
def State.exchangeLost (s : State) (k : Nat) (e : Exch) : State :=
  let a := { (s.anode e.node).noReport with resend := true }
  if e.grant then s.setAnode e.node a
  else
    match (if a.repolls < 3 then s.repollStart k a.hop else none) with
    | some p =>
      let s := (s.setAnode e.node { a with repolls := a.repolls + 1 }).count .ALK_NCNT_REPOLLS e.node
      s.setAlk { s.alk with exchanges := s.alk.exchanges ++ [⟨e.node, p, a.hop, false⟩], repolls := s.alk.repolls + 1 }
    | none =>
      let s := s.setAnode e.node a
      s.setAlk { s.alk with failed := s.alk.failed ++ [e.node] }

/-- The grants of a pass that no exchange uses (R358, R360). -/
def State.grants (s : State) (k : Nat) : State :=
  if !s.wide || decide (0 < s.covering k) then s
  else
    let l := s.polled.filter fun n =>
      let a := s.anode n
      a.more && !a.resend && decide (a.upq.length < 8) && decide (k + a.hop ≤ wideP s.spanMs)
    s.setAlk { s.alk with exchanges := s.alk.exchanges ++ l.map fun n => ⟨n, k, (s.anode n).hop, true⟩ }

/-- A pass of band C needs a burst in which it fits (R353). -/
def State.burstFits (s : State) : Bool :=
  s.wide || match s.alk.burstEnd with | none => false | some t => decide (s.now + s.passLen ≤ t)

/-- The nodes whose exchange starts in a pass, in ascending address. In the further passes of an exchange over relays the node's code is 0b00 and the
master is silent on its carriers (R359, R362). -/
def State.starting (s : State) (k : Nat) : List Nat :=
  (List.range 63).filter fun n => s.alk.exchanges.any fun e => e.start == k && e.node == n

/-- The code of a node in the header of a pass (R354, R359). -/
def State.codeOf (s : State) (k n : Nat) : Nat := if (s.starting k).contains n then (if (s.anode n).resend then 2 else 1) else 0

/-- A pass in which the broadcast carriers carry a downlink codeword: every pass of the wide band, and the broadcast pass of band C (R351, R352). -/
def State.bcastPass (s : State) (k : Nat) : Bool := s.wide || k == s.alk.due

/-- The header of a pass with its CRC-16 (R354). -/
def State.header (s : State) (k : Nat) : Nat :=
  if s.wide then
    let v := s.alk.seq + 2 ^ 8 * (k % 8) + ((List.range 62).map fun i => s.codeOf k (i + 1) * 2 ^ (11 + 2 * i)).sum
    v + 2 ^ 184 * crc16 (leBytes 23 v)
  else
    let here := (s.alk.exchanges.filter fun e => decide (e.start ≤ k ∧ k < e.start + e.len)).map (·.node)
    let slot := fun c => if s.bcastPass k then 63 else match here[c]? with
      | some n => n + 64 * s.codeOf k n
      | none => 0
    let v := s.alk.seq + 2 ^ 8 * (k % 32) + ((List.range 4).map fun c => slot c * 2 ^ (13 + 8 * c)).sum
    v + 2 ^ 48 * crc16 (leBytes 6 v)

/-- The data bits of one broadcast segment, on four carriers (R351, R352). -/
def State.bcBits (s : State) : Nat := carrierBits s.spanMs * 4 - 16

/-- In a pass that no exchange needs, the next segment of a node image is broadcast: image number, offset and bytes (R358, R368). -/
def State.fillBcast (s : State) (k : Nat) : State :=
  if !s.alk.bq.isEmpty || (s.wide && decide (0 < s.covering k)) then s
  else match s.alk.images with
    | [] => s
    | (img, bytes) :: rest =>
      let size := (s.bcBits - 40) / 8
      let s := s.broadcast 6 (msbBits 16 img ++ msbBits 24 s.alk.imgAt ++ ((bytes.drop s.alk.imgAt).take size).flatMap (msbBits 8)) 0
      if bytes.length ≤ s.alk.imgAt + size then s.setAlk { s.alk with images := rest ++ [(img, bytes)], imgAt := 0 }
      else s.setAlk { s.alk with imgAt := s.alk.imgAt + size }

/-- The segments of a broadcast. -/
def State.bcSegments (s : State) (b : AlkBc) : Nat := max 1 ((b.bits.length + s.bcBits - 1) / s.bcBits)

/-- The broadcast payload of a pass (R357, R358). -/
def State.bcPay (s : State) : AlkPay :=
  match s.alk.bq with
  | [] => ⟨0, false, false, 0, []⟩
  | b :: _ => ⟨b.type, decide (b.sent + 1 < s.bcSegments b), false, b.sent % 4, (b.bits.drop (b.sent * s.bcBits)).take s.bcBits⟩

/-- A node that ASSIGN has named is joined (R365). -/
def State.joinDone (s : State) (n : Nat) : State :=
  if s.nodeState n ≠ 1 then s
  else ((s.put .ALK_NSTAT_STATE n 2).showRoute n).showRelays.raise2 0x1A01 n (s.anode n).hop

/-- A broadcast segment has been sent; the last one of an ASSIGN joins its node. -/
def State.endBcast (s : State) : State :=
  match s.alk.bq with
  | [] => s
  | b :: rest =>
    if b.sent + 1 < s.bcSegments b then s.setAlk { s.alk with bq := { b with sent := b.sent + 1 } :: rest }
    else
      let s := s.setAlk { s.alk with bq := rest }
      s.onlyIf (b.type == 4) fun s => s.joinDone b.node

/-- What the master transmits in a pass (R349, R354, R356, R359, R362): the header, the downlink codewords of the exchanges that start, and a
broadcast. -/
def State.transmit (s : State) (k : Nat) : State :=
  let s := s.each (s.starting k) State.sendDown
  let s := s.onlyIf (s.bcastPass k) fun s => s.fillBcast k
  let down := (s.starting k).flatMap fun n =>
    (s.carriersOf k n).zip ((s.downPay n).words s.spanMs (s.payBits n / carrierBits s.spanMs))
  let bc := if s.bcastPass k then ((List.range 4).map fun c => if s.wide then 96 + c else c).zip (s.bcPay.words s.spanMs 4) else []
  let s := s.setAlk { s.alk with tx := some ⟨s.header k, down ++ bc⟩ }
  s.onlyIf (s.bcastPass k) State.endBcast

/-- The end of an exchange (R356, R357, R359): its uplink decodes or is lost. -/
def State.decideExchange (ups : List AlkUp) (k : Nat) (s : State) (e : Exch) : State :=
  match ups.find? fun u => u.node == e.node with
  | none => s.exchangeLost k e
  | some u =>
    let s := s.measure u
    match (if u.words.length * carrierBits s.spanMs = s.payBits e.node then readWords s.spanMs u.words u.flagged else none) with
    | some p => s.exchangeGood e.node p
    | none => s.exchangeLost k e

/-- PASS (R349, R359, R360): the master transmits, and the exchanges that end in the pass are decided in its decode gap. -/
def execPass (ups : List AlkUp) (s : State) : Out :=
  match s.alk.pass with
  | none => .next s
  | some k =>
    if !s.alkRuns || decide (s.roundPasses ≤ k) then .next s
    else if !s.burstFits then .next (s.setAlk { s.alk with burstEnd := none, lastBurst := some s.now })
    else
      let s := if s.wide then s.moveTo ((s.alk.startAt.getD s.now) + (k + 1) * s.passLen) else s.moveTo (s.now + s.passLen)
      let s := (s.grants k).transmit k
      let ends := s.alk.exchanges.filter fun e => e.start + e.len == k + 1
      let s := s.setAlk { s.alk with pass := some (k + 1) }
      .next (ends.foldl (State.decideExchange ups k) s)

/-- A node whose exchange is still lost at round end (R359, R361). -/
def State.roundLost (s : State) (n : Nat) : State :=
  let a := s.anode n
  let s := (s.setAnode n { a with failRounds := a.failRounds + 1, routeFails := a.routeFails + 1 }).count .ALK_NCNT_FAILS n
  let s := s.raise2 0x1A04 n a.repolls
  s.onlyIf (decide (a.failRounds = 2) && s.nodeState n == 2) fun s =>
    ((s.put .ALK_NSTAT_STATE n 3).put .ALK_STATUS_NODELOST 0 1).raise2 0x1A02 n 3

/-- ROUND_END (R350, R359, R361, R371): a wide-band round ends after 200 ms. -/
def execRoundEnd (s : State) : Out :=
  match s.alk.pass with
  | none => .next s
  | some k =>
    let start := s.alk.startAt.getD s.now
    let s := if s.wide then s.moveTo (start + msec 200) else s
    let open_ := s.alk.exchanges.filter fun e => !e.grant && decide (k < e.start + e.len)
    let lost := (s.alk.failed ++ open_.map (·.node)).eraseDups
    let s := s.each lost State.roundLost
    let ms := (s.now - start) / 1000000
    let late := if s.wide then decide (200 < ms) else decide (5000 < ms)
    let s := (((s.put .ALK_ROUND_SEQ 0 s.alk.seq).put .ALK_ROUND_PASSES 0 k).put .ALK_ROUND_REPOLLS 0 (min 0xFF s.alk.repolls)).put .ALK_ROUND_FAILS 0 (min 0xFF lost.length)
    let s := (s.put .ALK_ROUNDT_LASTT 0 ms).put .ALK_ROUNDT_MAXT 0 (max ms (s.rd .ALK_ROUNDT_MAXT 0))
    let s := s.onlyIf late fun s => (s.put .ALK_STATUS_RLATE 0 1).raise 0x1A06 (min 0xFF (ms / 100))
    .next (s.setAlk { s.alk with pass := none, exchanges := [], failed := [], seq := (s.alk.seq + 1) % 256, rounds := s.alk.rounds + 1
                                 lastBurst := if s.alk.burstEnd.isSome then some s.now else s.alk.lastBurst, burstEnd := none })

/-- BAND_C_BURST (R353): after 85 ms of silence, and at least 125 ms after the last burst; `deferMs` is what another user adds. -/
def execBandCBurst (deferMs : Nat) (s : State) : Out :=
  if !s.alkRuns || s.wide || s.alk.burstEnd.isSome then .next s
  else
    let t := match s.alk.lastBurst with
      | none => s.now + msec 85
      | some e => max s.now (e + msec 125)
    let s := s.moveTo (t + msec deferMs)
    let s := s.setAlk { s.alk with burstEnd := some (s.now + msec 1000), defer := s.alk.defer + (if deferMs = 0 then 0 else 1) }
    .next (s.onlyIf (decide (0 < deferMs)) fun s => s.raise 0x1A0A (min 0xFF (deferMs / 10)))

/-- A refused join (R365). -/
def State.joinRefused (s : State) (addr why : Nat) : State := (s.put .ALK_STATUS_JOINREF 0 1).raise2 0x1A05 addr why

/-- JOINREQ, heard directly or forwarded by a relay with its link cost (R365, R370): the node's stream is admitted, its relays get ROUTE, and ASSIGN
goes out on the broadcast carriers; the node is joined when it has. -/
def execJoinreq (eui : BitVec 64) (relay : Option (Fin 63)) (cost : Nat) (collided : Bool) (s : State) : Out :=
  if !s.alkRuns || collided then .next s
  else
    match s.nodeRecs.find? fun r => r.eui == eui.toNat with
    | none => .next (s.joinRefused 0xFF 1)
    | some r =>
      let n := r.byte 2
      let elsewhere := s.polled.any fun m => m != n && (s.anode m).eui == eui.toNat
      if elsewhere then .next (s.joinRefused n 3)
      else
        let route := match relay with
          | none => some ([], cost)
          | some m => if m.val = 0 then some ([], cost) else if s.relays.contains m.val then some (m.val :: (s.anode m).route, (s.anode m).cost + cost) else none
        match route with
        | none => .next s
        | some (l, c) =>
          if s.maxHop < l.length + 1 then .next s
          else
            let stream := 0x1A00 + n
            if !s.isBound stream && !s.hasRoom stream 1 then .next ((s.refuseStream stream).joinRefused n 2)
            else
              let s := if s.isBound stream then s else s.bindStream stream 1
              let a : AlkNode := { eui := eui.toNat, route := l, cost := c, upq := (s.anode n).upq, dnq := (s.anode n).dnq, confT := (s.anode n).confT }
              let s := ((s.put .ALK_NSTAT_FIRST n (r.byte 4)).put .ALK_NSTAT_W n (r.byte 5)).put .ALK_NSTAT_PORT n (r.byte 3)
              let s := ((s.setAnode n a).put .ALK_NSTAT_STATE n 1).sendRoutes l
              let s := s.setAlk { s.alk with bq := s.alk.bq.filter fun b => !(b.type == 4 && b.node == n) }
              .next (s.broadcast 4 (msbBits 64 eui.toNat ++ msbBits 6 n ++ msbBits 7 (r.byte 4) ++ msbBits 3 (r.byte 5 - 1)) n)

/-- NODE_CONFIRM_TIMEOUT (R368). -/
def execNodeConfirmTimeout (n : Fin 63) (s : State) : Out :=
  let a := s.anode n
  match a.confT with
  | none => .next s
  | some t =>
    let s := (s.moveTo t).setAnode n { a with confT := none }
    .next (((s.putFlag .ALK_NVER_CONF n false).putFlag .ALK_NVER_PEND n false).raise2 0x1A09 n 0)

/-- A node that the network no longer holds. -/
def State.dropNode (s : State) (n : Nat) : State :=
  let s := s.endStream (0x1A00 + n)
  let s := s.clearUnit .alk (fun i => i == n) [.ALK_NCNT_FAILS, .ALK_NCNT_REPOLLS, .ALK_NVER_VERSION, .ALK_NVER_BANK, .ALK_NVER_PEND, .ALK_NVER_CONF]
  s.setAlk { s.alk with nodes := update {} s.alk.nodes n {} }

/-- A node that has to join again keeps its queues (R358, R369; DEDUCED, log entry 78). -/
def State.forgetNode (s : State) (n : Nat) : State :=
  let a := s.anode n
  (s.dropNode n).setAnode n { upq := a.upq, dnq := a.dnq, confT := a.confT }

/-- The network runs while a plan with a SUB 0 record is active and RUN is 1 (R371); its own stream is admitted (R367). -/
def State.alkSwitch (s : State) : State :=
  let on := s.flag .ALK_CTL_RUN 0 && s.alkRec.isSome
  let s := s.putFlag .ALK_STATUS_RUNNING 0 on
  if on then s.admitStream 0x1A00 2 else (s.endStream 0x1A00).setAlk { s.alk with pass := none, exchanges := [], failed := [], burstEnd := none }

/-- A restart of the network (R369): 1 RESTART, 2 unit reset, 3 cold reset. -/
def State.alkRestart (s : State) (why : Nat) : State :=
  let s := s.each ((List.range 63).drop 1) State.forgetNode
  let s := s.setAlk { nodes := s.alk.nodes, seq := s.alk.seq, defer := s.alk.defer, switch := s.alk.switch, images := s.alk.images }
  (s.alkSwitch).raise 0x1A08 why

/-- RESTART (R369). -/
def execRestart (s : State) : Out := .next (s.alkRestart 1)

/-- A write to RUN (R371). -/
def State.writeRun (s : State) (on : Bool) : State := (s.putFlag .ALK_CTL_RUN 0 on).alkSwitch

/-- The ALK takes the Afril records of the active plan (R57, R366): the network record only at a cold reset, with TXATT (R58). -/
def State.alkPlan (s : State) (cold : Bool) : State :=
  let s := s.put .ALK_CFG_NODES 0 s.nodeRecs.length
  let s := s.each ((List.range 63).drop 1) fun s n => if s.nodeState n ≠ 0 ∧ (s.nodeRec n).isNone then s.dropNode n else s
  if !cold then s
  else
    match s.alkRec with
    | none => s
    | some r =>
      let s := ((s.put .ALK_CFG_BAND 0 (r.byte 2)).put .ALK_CFG_SPAN 0 (r.byte 3)).put .ALK_CFG_PORTS 0 (r.byte 4)
      let s := (s.put .ALK_CFG_MAXHOP 0 (r.byte 5)).put .ALK_CTL_TXATT 0 (min 30 (r.byte 6))
      s.put .ALK_CFG_PASSES 0 (if s.wide then wideP s.spanMs else 0)

/-- The ALK at a power failure (R369). -/
def State.alkPowerFail (s : State) : State := s.setAlk { s.alk with silent := true, pass := none, exchanges := [], burstEnd := none, tx := none }

/-- A message for a node's downlink queue (R358, R370): whether it found room. -/
def State.queueDown (s : State) (n : Nat) (m : List Nat) : Bool × State :=
  let a := s.anode n
  if a.dnq.length < 8 then (true, s.setAnode n { a with dnq := a.dnq ++ [m] })
  else (false, (s.put .ALK_STATUS_QFULL 0 1).raise2 0x1A07 n 1)

end Sys2Proof.Machine
end

