-- ==== Sys2Proof/Machine/Display.lean ====
section
/-! DEFINITION. DSE (chapter 16): the frame window, updates by changed rows, charge balances, stress counters, drive voltages, and the
Lantern band. -/

namespace Sys2Proof.Machine

open Sys2Proof

/-- DSE state set, with BUSY (R442). -/
def State.setDse (s : State) (v : Dse) : State := ({ s with dse := v } : State).putFlag .DSE_STATUS_BUSY 0 v.op.isSome

/-- The DISP record of the active plan (R429). -/
def State.disp (s : State) : DispRec := (s.plan.map (·.disp)).getD {}

/-- A 16-bit field of the DISP block. -/
def DispRec.u16 (r : DispRec) (off : Nat) : Nat := r.byte off + 256 * r.byte (off + 1)

/-- The Lantern band is on (R429, R439). -/
def State.lanternOn (s : State) : Bool := bit (s.disp.byte 12) 0

/-- The first row that the engine writes: the Lantern path owns rows 0 to 31 (R439). -/
def State.firstRow (s : State) : Nat := if s.lanternOn then 32 else 0

/-- The rows that the engine may write. -/
def State.dseRows (s : State) : List Nat := (List.range s.disp.rows).drop s.firstRow

/-- The bits of word `w` of a row that lie within COLS. -/
def wordMask (cols w : Nat) : Nat := 2 ^ (2 * min 16 (cols - 16 * w)) - 1

/-- A word of an image within COLS. -/
def State.imageWord (s : State) (t : Tab Nat) (row w : Nat) : Nat := lookup 0 t (row * 20 + w) &&& wordMask s.disp.cols w

/-- A row in which any pixel differs between two images (R433). -/
def State.rowDiffers (s : State) (a b : Tab Nat) (row : Nat) : Bool :=
  (List.range 20).any fun w => s.imageWord a row w != s.imageWord b row w

/-- The stress group of pixel `c` of a row (R435). -/
def stressGroup (row c : Nat) : Nat := 40 * (row / 8) + c / 8

/-- The pixels that differ in the half `h` (8 pixels) of word `w` of a row. -/
def pixelsChanged (a b : Nat) : Nat := ((List.range 8).filter fun i => a / 4 ^ i % 4 != b / 4 ^ i % 4).length

/-- The stress of a write of one row from `a` to `b` (R435). -/
def State.addStress (s : State) (a b : Tab Nat) (row : Nat) : State :=
  s.each (List.range 40) fun s g =>
    let x := s.imageWord a row (g / 2) / 65536 ^ (g % 2) % 65536
    let y := s.imageWord b row (g / 2) / 65536 ^ (g % 2) % 65536
    let n := pixelsChanged x y
    if n = 0 then s
    else
      let k := stressGroup row (g * 8)
      s.setDse { s.dse with stress := update 0 s.dse.stress k (min 0xFFFFFFFF (lookup 0 s.dse.stress k + n)) }

/-- The largest stress counter of a row's band of 8 rows. -/
def State.bandStress (s : State) (row : Nat) : Nat :=
  (List.range 40).foldl (fun m g => max m (lookup 0 s.dse.stress (40 * (row / 8) + g))) 0

/-- PWc before its cap, in µs (R435). -/
def State.pwLong (s : State) (row : Nat) : Nat :=
  s.disp.u16 4 + s.disp.u16 4 * s.disp.u16 10 * (s.bandStress row / 65536) / 2 ^ 24

/-- PWc of a row, with the report of a capped band (R435). -/
def State.pwOf (s : State) (row : Nat) : Nat × State :=
  if s.pwLong row ≤ 500 then (s.pwLong row, s)
  else
    let s := s.put .DSE_STATUS_COMPSAT 0 1
    (500, if bit s.dse.satBands (row / 8) then s
      else (s.setDse { s.dse with satBands := setBit s.dse.satBands (row / 8) true }).raise 0x1D06 (row / 8))

/-- The balance after a pair of net `v` V·ms (R431). -/
def satBalance (v : Int) : Int := if v < -127 then -127 else if 127 < v then 127 else v

/-- A pulse pair with halves of `half` µs writes a row (R430, R431, R435): a normal pair moves the balance and flips the phase, a balanced pair does
neither. -/
def State.putRow (s : State) (half : Nat) (balanced : Bool) (image : Nat → Nat) (row : Nat) : State :=
  let img := (List.range 20).foldl (fun t w => update 0 t (row * 20 + w) (image w &&& wordMask s.disp.cols w)) s.dse.shown
  let s := s.addStress s.dse.shown img row
  let s := s.setDse { s.dse with shown := img }
  if balanced then s
  else
    let v : Int := roundDiv (s.rd .DSE_VMEAS_VDH 0 * half) 100000
    let old := lookup 0 s.dse.balance row
    let new := satBalance (if bit s.dse.phase row then old - v else old + v)
    s.setDse { s.dse with balance := update 0 s.dse.balance row new, phase := setBit s.dse.phase row (!bit s.dse.phase row) }

/-- The engine drives a row with an image for two halves of PWc (R430, R435). -/
def State.driveRow (s : State) (balanced : Bool) (image : Nat → Nat) (row : Nat) : State :=
  let (pw, s) := s.pwOf row
  (s.putRow pw balanced image row).moveTo (s.now + usec (2 * pw))

/-- A row is written with the words of the target. -/
def State.writeRow (s : State) (balanced : Bool) (row : Nat) : State := s.driveRow balanced (fun w => lookup 0 s.dse.target (row * 20 + w)) row

/-- The rows that differ from the target (R433). -/
def State.changedRows (s : State) : List Nat := s.dseRows.filter fun r => s.rowDiffers s.dse.shown s.dse.target r

/-- A write of 1 to UPDATE (R433): none is accepted before the steps of a start are done (R437). -/
def State.writeUpdate (s : State) : State :=
  if s.dse.op = some .start then s else if s.dse.op.isSome then s.setDse { s.dse with again := true } else s.setDse { s.dse with op := some .update }

/-- UPDATE (R433). -/
def execUpdate (s : State) : Out := .next s.writeUpdate

/-- A write of 1 to TEST (R433): Idle only. -/
def State.writeTestDse (s : State) : State :=
  if s.dse.op.isSome then (s.put .DSE_STATUS_CFGVIOL 0 1).raise 0x1D09 0x008 else s.setDse { s.dse with op := some .test }

/-- DISPLAY_TEST (R433). -/
def execDisplayTest (s : State) : Out := .next s.writeTestDse

/-- The test drives level 3 and then level 0 on the engine's rows in balanced pairs (R433). -/
def State.testPanel (s : State) : State :=
  (s.each s.dseRows fun s r => s.driveRow true (fun _ => 0xFFFFFFFF) r).each s.dseRows fun s r => s.driveRow true (fun _ => 0) r

/-- Of two copies of a balance, the one with the larger magnitude (R431). -/
def largerBalance (a b : Int) : Int := if a.natAbs < b.natAbs then b else a

/-- Rows whose second copy of the balance differs from the first (R431): each is recovered at the larger copy. -/
def State.ledgerDisagrees (s : State) (rows : List (Nat × Int)) : State :=
  (rows.filter fun r => lookup 0 s.dse.balance r.1 != satBalance r.2).foldl (fun s r =>
    let b := largerBalance (lookup 0 s.dse.balance r.1) (satBalance r.2)
    ((s.setDse { s.dse with balance := update 0 s.dse.balance r.1 b }).put .DSE_STATUS_LEDGERF 0 1).raise 0x1D05 r.1) s

/-- Recovery (R437): rows with |B| of at least VDL × 0.25 ms end below it. Each pair moves B by VDL × 0.5 ms. -/
def recovered (vdl : Nat) (b : Int) : Int :=
  let step := vdl * 500
  let n := if step = 0 then 0 else (b.natAbs * 100000 + step / 2) / step
  if b.natAbs * 100000 < vdl * 250 then b
  else if 0 ≤ b then b - (roundDiv (n * step) 100000 : Nat) else b + (roundDiv (n * step) 100000 : Nat)

/-- The recovery of a start (R437). -/
def State.recover (s : State) : State :=
  let vdl := s.rd .DSE_VMEAS_VDL 0
  let rows := (List.range s.disp.rows).filter fun r => decide (vdl * 250 ≤ (lookup 0 s.dse.balance r).natAbs * 100000) && decide (0 < vdl)
  let s := s.setDse { s.dse with balance := rows.foldl (fun t r => update 0 t r (recovered vdl (lookup 0 t r))) s.dse.balance }
  s.raise 0x1D03 rows.length

/-- The drive voltages, in 10 mV, lie within VDHMIN and VDLMAX (R434). -/
def State.drivesInRange (s : State) (vdh vdl : Nat) : Bool := decide (s.disp.byte 8 * 100 ≤ vdh) && decide (vdl ≤ s.disp.byte 9 * 100)

/-- DRIVE_VOLTAGE_FAULT (R434): the engine stops after `rows` of the rows it was to write. -/
def execDriveVoltageFault (vdh vdl : BitVec 16) (rows : Nat) (s : State) : Out :=
  let low := decide (vdh.toNat < s.disp.byte 8 * 100)
  let high := decide (s.disp.byte 9 * 100 < vdl.toNat)
  let s := (s.put .DSE_VMEAS_VDH 0 vdh.toNat).put .DSE_VMEAS_VDL 0 vdl.toNat
  if s.flag .DSE_STATUS_VFAULT 0 || !(low || high) then .next s
  else
    let s := if s.dse.op = some .update then s.each (s.changedRows.take rows) (State.writeRow · (s.flag .DSE_CTL_MODE 0)) else s
    let which := if low then 1 else 2
    .next (((s.setDse { s.dse with fault := which, faultAt := s.now }).putFlag .DSE_STATUS_VFAULT 0 true).raise2 0x1D04 which 1)

/-- The stale mark set or cleared (R440): each change raises event 0x1D08. -/
def State.setMark (s : State) (on : Bool) : State :=
  if s.flag .DSE_LNSTAT_MARK 0 = on then s
  else ((s.putFlag .DSE_LNSTAT_MARK 0 on).putFlag .DSE_STATUS_STALE 0 on).raise 0x1D08 (b2n on)

/-- The Lantern path may write: the band is on and the drive voltages are in range (R440). -/
def State.lanternDrives (s : State) : Bool := s.lanternOn && !s.flag .DSE_STATUS_VFAULT 0

/-- The last `k` decimal digits of a number, as characters. -/
def decimals : Nat → Nat → List Nat
  | 0, _ => []
  | k + 1, n => decimals k (n / 10) ++ [48 + n % 10]

/-- A number below 10^10 in decimal, as characters. -/
def decimal (n : Nat) : List Nat := (decimals 9 (n / 10)).dropWhile (· == 48) ++ [48 + n % 10]

/-- Rows 8 to 23 (R439): "OUTnn", the import energy in kWh with three decimals, rounded down, and " kWh" as in the trace after R440. -/
def Lantern.total (l : Lantern) : List Nat :=
  let wh := l.energy / 1000
  let kwh := if 999999999 < wh then [62] ++ decimals 6 999999 ++ [46] ++ decimals 3 999 else decimal (wh / 1000) ++ [46] ++ decimals 3 wh
  if l.outlet = 0xFF then [] else [79, 85, 84] ++ decimals 2 l.outlet ++ [32] ++ kwh ++ [32, 107, 87, 104]

/-- Rows 24 to 31 (R439): "#", SESSNO, and the letters P, T, S and U of the flags that are set. -/
def Lantern.number (l : Lantern) : List Nat :=
  let letter := fun (on : Bool) (c : Nat) => if on then [c] else []
  if l.outlet = 0xFF then []
  else [35] ++ decimal l.sessNo ++ letter (bit l.flags 3) 80 ++ letter (bit l.flags 0) 84 ++ letter (bit l.flags 4) 83 ++ letter l.unsigned 85

/-- A pixel of the Lantern band is inked (R439): the stale mark, a solid block, or a character's glyph, which the spec does not draw. -/
def State.lanternInk (s : State) (row col : Nat) : Bool :=
  let glyph := fun (text : List Nat) (k : Nat) => match text[col / 8]? with | none => false | some c => Config.glyph c k (col % 8)
  if row < 8 then s.flag .DSE_LNSTAT_MARK 0 && decide (s.disp.cols ≤ col + 8)
  else if row < 24 then glyph s.dse.lantern.total (row - 8) else glyph s.dse.lantern.number (row - 24)

/-- A word of a row of the Lantern band, of levels 0 and 3 (R439); which of them is ink is open. -/
def State.lanternWord (s : State) (row w : Nat) : Nat :=
  ((List.range 16).map fun i => if s.lanternInk row (16 * w + i) == Config.inkBright then 3 * 4 ^ i else 0).sum

/-- The Lantern path writes its rows that differ from what it has to show, or all of them, in pairs of LPW (R439, R440). It writes beside the
engine, in its own time. -/
def State.lanternDraw (s : State) (balanced all : Bool) : State :=
  let img := fun (r w : Nat) => s.lanternWord r w &&& wordMask s.disp.cols w
  let rows := (List.range 32).filter fun r => all || (List.range 20).any fun w => s.imageWord s.dse.shown r w != img r w
  s.each rows fun s r => s.putRow (s.disp.u16 6) balanced (img r) r

/-- The shown outlet and SESSNO (R440). -/
def State.showLantern (s : State) (l : Lantern) : State :=
  let s := (s.setDse { s.dse with lantern := l, awaits := none, committed := false }).putFlag .DSE_LNSTAT_PEND 0 false
  (((s.put .DSE_LNSTAT_OUTLET 0 l.outlet).put .DSE_LNSEQ_SESSNO 0 l.sessNo).setMark false).raise2 0x1D07 l.outlet l.sessNo

/-- What the Lantern path awaits is worked off (R440, R441): the total once its record is committed, the mark before that. -/
def State.lanternAct (s : State) : State :=
  match s.dse.awaits with
  | none => s
  | some (m, k) =>
    match lookup none s.sec.sealed m with
    | none => s.setMark true
    | some (sess, energy, flags, unsigned) =>
      if s.dse.committed && k == sess then s.showLantern ⟨m, sess, energy, flags, unsigned⟩ else s.setMark true

/-- The Lantern path acts and writes its changed rows (R440, R441). While the drive voltages are out of range, both wait. -/
def State.lanternRun (s : State) : State := if !s.lanternDrives then s else s.lanternAct.lanternDraw false false

/-- DISPLAY_UPDATE_DONE (R433, R437): the running work completes; VDH and VDL are as measured, in 10 mV, and in range; `copies` are the second copies of
the balance that a start reads where they differ from the first. -/
def execDisplayUpdateDone (vdh vdl : BitVec 16) (copies : List (Nat × Int)) (s : State) : Out :=
  if s.flag .DSE_STATUS_VFAULT 0 || s.failed 0x1D || !s.appRuns || !s.drivesInRange vdh.toNat vdl.toNat then .next s
  else
    let s := (s.put .DSE_VMEAS_VDH 0 vdh.toNat).put .DSE_VMEAS_VDL 0 vdl.toNat
    let finish := fun (s : State) => s.setDse { s.dse with op := if s.dse.again then some .update else none, again := false }
    let count := fun (s : State) (n : Nat) => (s.count .DSE_COUNT_UPDATES 0).raise 0x1D01 (min 0xFFFF n)
    match s.dse.op with
    | none => .next s
    | some .update =>
      let rows := s.changedRows
      .next (finish (count (s.each rows (State.writeRow · (s.flag .DSE_CTL_MODE 0))) rows.length))
    | some .test =>
      let s := s.testPanel
      .next (finish (count (s.each s.dseRows (State.writeRow · true)) s.dseRows.length))
    | some .redraw => .next (finish (count ((s.each s.dseRows (State.writeRow · true)).onlyIf s.lanternOn fun s => s.lanternDraw true true) s.dseRows.length))
    | some .start =>
      .next (finish (((s.ledgerDisagrees copies).recover.each s.dseRows (State.writeRow · true)).onlyIf s.lanternOn fun s => s.lanternDraw true true))

/-- LANTERN_STOP_LATCH (R440): a stop reading of an outlet in LNMASK. -/
def execLanternStopLatch (n : Fin 24) (s : State) : Out :=
  if !s.lanternOn || !bit (s.eff .DSE_LNMASK_LNMASK 0) n then .next s
  else
    let s := s.setDse { s.dse with awaits := some (n.val, s.rd .BLU_ESESS_SESSNO n), committed := false }
    .next (s.putFlag .DSE_LNSTAT_PEND 0 true).lanternRun

/-- A waiting group is the Nganakar record of a session (R339). -/
def Group.closes (g : Group) (n sess : Nat) : Bool :=
  g.recs.any fun r => r.type == 0x10 && r.fields.contains ⟨16, 1, n⟩ && r.fields.contains ⟨20, 4, sess⟩

/-- LANTERN_COMMIT (R440, R441): the LGS has committed the session record of an outlet in LNMASK; only the last stop latch's total is
shown. -/
def execLanternCommit (n : Fin 24) (s : State) : Out :=
  match lookup none s.sec.sealed n, s.dse.awaits with
  | some (sess, _), some (m, k) =>
    if s.lanternOn && m == n.val && k == sess && !s.lgs.queue.any (·.closes n sess) then .next (s.setDse { s.dse with committed := true }).lanternRun else .next s
  | _, _ => .next s

/-- DRIVE_VOLTAGE_RESUME (R434): both have been in range for 100 ms, so at least that long after the fault. -/
def execDriveVoltageResume (vdh vdl : BitVec 16) (s : State) : Out :=
  let s := (s.put .DSE_VMEAS_VDH 0 vdh.toNat).put .DSE_VMEAS_VDL 0 vdl.toNat
  if !s.flag .DSE_STATUS_VFAULT 0 || decide (vdh.toNat < s.disp.byte 8 * 100) || decide (s.disp.byte 9 * 100 < vdl.toNat) then .next s
  else
    let which := s.dse.fault
    let s := s.moveTo (s.dse.faultAt + msec 100)
    .next (((s.setDse { s.dse with fault := 0 }).putFlag .DSE_STATUS_VFAULT 0 false).raise2 0x1D04 which 0).lanternRun

/-- A word of the frame window as read (R432): rows 0 to 31 read as shown while the Lantern band is on. -/
def State.frameWord (s : State) (w : Nat) : Nat :=
  if s.lanternOn ∧ w < 640 then lookup 0 s.dse.shown w else lookup 0 s.dse.target w

/-- A write to the frame window (R432). -/
def State.writeFrame (s : State) (w v : Nat) : State :=
  if s.lanternOn ∧ w < 640 then s else s.setDse { s.dse with target := update 0 s.dse.target w (v % 2 ^ 32) }

/-- The stress register for the selected group (R442). -/
def State.showStress (s : State) : State := s.put .DSE_STRESSV_STRESS 0 (lookup 0 s.dse.stress (s.rd .DSE_SSEL_GROUP 0))

/-- A DISP activation: every row is redrawn (R433, R61); the steps of a start redraw them anyway. -/
def State.dsePlan (s : State) : State := if s.dse.op = some .start then s else s.setDse { s.dse with op := some .redraw }

/-- The start of the DSE at a cold start or after a unit reset (R437, R441): a session that the power-fail commit closed shows the mark. DESIGN CHOICE
(log entry 72): DSE_LNMASK starts from its reset value with the registers of the unit, although the Lantern band path lies in Basecamp (R18). -/
def State.dseStart (s : State) : State :=
  let s := s.clearUnit .dse (fun _ => true) [.DSE_COUNT_PFSTOPS, .DSE_LNSTAT_OUTLET, .DSE_LNSTAT_PEND, .DSE_LNSTAT_MARK, .DSE_LNSEQ_SESSNO, .DSE_STATUS_STALE]
  let s := s.setDse { s.dse with op := some .start, again := false, fault := 0, satBands := 0 }
  let closed := s.blu.toSeal.filter fun d => bit (s.eff .DSE_LNMASK_LNMASK 0) d.outlet
  let s := match s.lanternOn, closed.getLast? with
    | true, some d => (s.setDse { s.dse with awaits := some (d.outlet, d.sessNo), committed := false }).putFlag .DSE_LNSTAT_PEND 0 true
    | _, _ => s
  s.lanternRun

/-- Fields of the DSE that a warm reset keeps: those of the Lantern path, which lies in Basecamp (R18), the counters, and what the DSE measures. -/
def dseWarmKept : List Fld :=
  [.DSE_COUNT_PFSTOPS, .DSE_COUNT_UPDATES, .DSE_LNSTAT_OUTLET, .DSE_LNSTAT_PEND, .DSE_LNSTAT_MARK, .DSE_LNSEQ_SESSNO, .DSE_LNMASK_LNMASK,
   .DSE_STATUS_STALE, .DSE_STATUS_VFAULT, .DSE_STATUS_BUSY, .DSE_VMEAS_VDH, .DSE_VMEAS_VDL]

/-- A warm reset stops the engine; the rest of an update runs after the restart (R438). DESIGN CHOICE (log entry 72): which registers go back to
their reset values. -/
def State.dseWarm (s : State) : State :=
  let s := s.clearUnit .dse (fun _ => true) dseWarmKept
  if s.dse.op.isSome then s.setDse { s.dse with op := some .update, again := false } else s

/-- A power failure stops an update (R436). -/
def State.dsePowerFail (s : State) : State :=
  if s.dse.op.isNone then s
  else
    let pending := if s.dse.op = some .update then s.changedRows.length else s.dseRows.length
    (((s.setDse { s.dse with op := none, again := false }).put .DSE_STATUS_PFSTOP 0 1).count .DSE_COUNT_PFSTOPS 0).raise 0x1D02 (min 0xFFFF pending)

end Sys2Proof.Machine
end

