-- ==== Sys2Proof/Machine/Aes.lean ====
section
/-! DEFINITION. AES-128 as FIPS 197 defines it, one block under one key (R288). -/

namespace Sys2Proof.Machine

open Sys2Proof

/-- The product with x in GF(2^8). -/
def aesX (b : Nat) : Nat := if b < 128 then 2 * b else (2 * b) ^^^ 0x11B

/-- The product of two elements of GF(2^8), over the low `k` bits of the second. -/
def aesMul (a : Nat) : Nat → Nat → Nat
  | 0, _ => 0
  | k + 1, b => (if b % 2 = 1 then a else 0) ^^^ aesMul (aesX a) k (b / 2)

/-- The inverse in GF(2^8), 0 for 0: the power 254. -/
def aesInv (a : Nat) : Nat :=
  let m := fun x y => aesMul x 8 y
  let a2 := m a a
  let a4 := m a2 a2
  let a8 := m a4 a4
  let a16 := m a8 a8
  let a32 := m a16 a16
  let a64 := m a32 a32
  let a128 := m a64 a64
  m (m (m a2 a4) (m a8 a16)) (m (m a32 a64) a128)

/-- The S-box. -/
def aesSub (a : Nat) : Nat :=
  let b := aesInv a
  let rot := fun k => (b * 2 ^ k) % 256 + b / 2 ^ (8 - k)
  b ^^^ rot 1 ^^^ rot 2 ^^^ rot 3 ^^^ rot 4 ^^^ 0x63

/-- Two lists of bytes added. -/
def addBytes (a b : List Nat) : List Nat := (a.zip b).map fun e => e.1 ^^^ e.2

/-- The rows of a state of 16 bytes shifted, columns first. -/
def shiftRows (l : List Nat) : List Nat := (List.range 16).map fun i => l.getD (4 * ((i / 4 + i % 4) % 4) + i % 4) 0

/-- The columns of a state mixed. -/
def mixColumns (l : List Nat) : List Nat :=
  (List.range 16).map fun i =>
    let b := fun k => l.getD (i / 4 * 4 + (i + k) % 4) 0
    aesX (b 0) ^^^ (aesX (b 1) ^^^ b 1) ^^^ b 2 ^^^ b 3

/-- The next round key, from the round constant. -/
def nextKey (rcon : Nat) (k : List Nat) : List Nat :=
  let w := fun i => (k.drop (4 * i)).take 4
  let t := ([13, 14, 15, 12].map fun i => aesSub (k.getD i 0)).zipIdx.map fun e => if e.2 = 0 then e.1 ^^^ rcon else e.1
  let w0 := addBytes (w 0) t
  let w1 := addBytes (w 1) w0
  let w2 := addBytes (w 2) w1
  w0 ++ w1 ++ w2 ++ addBytes (w 3) w2

/-- `n + 1` rounds on a state; the last does not mix the columns. -/
def aesRounds : Nat → Nat → List Nat → List Nat → List Nat
  | 0, rcon, k, st => addBytes (shiftRows (st.map aesSub)) (nextKey rcon k)
  | n + 1, rcon, k, st =>
    let k := nextKey rcon k
    aesRounds n (aesX rcon) k (addBytes (mixColumns (shiftRows (st.map aesSub))) k)

/-- AES-128 of a block under a key (R288). DEDUCED (log entry 75): a number stands for its 16 bytes with the most significant first. -/
def aes128 (key block : Nat) : Nat :=
  let k := beBytes 16 key
  fromBe (aesRounds 9 1 k (addBytes (beBytes 16 block) k))

end Sys2Proof.Machine
end

