-- ==== Sys2Proof/Machine/Contactless.lean ====
section
/-! DEFINITION. CLU (chapter 10): antennas and cards, the tag, its memory, its authentication and its write journal. -/

namespace Sys2Proof.Machine

open Sys2Proof

/-- CLU state set. -/
def State.setClu (s : State) (c : Clu) : State := { s with clu := c }

/-- The antenna stream (R275). -/
def antennaStream (k : Nat) : Nat := 0x1800 + k

/-- A write of 1 to ANTEN (R276). -/
def State.antennaOn (s : State) (k : Nat) : State :=
  (s.putFlag .CLU_ANTCTL_ANTEN k true).admitStream (antennaStream k) 1

/-- A write of 0 to ANTEN (R276). -/
def State.antennaOff (s : State) (k : Nat) : State :=
  let s := ((s.putFlag .CLU_ANTCTL_ANTEN k false).putFlag .CLU_ANTCTL_ADM k false).endStream (antennaStream k)
  s.setClu { s.clu with active := setBit s.clu.active k false, running := setBit s.clu.running k false }

/-- ANTENNA_ENABLE (R276). -/
def execAntennaEnable (k : Fin 4) (s : State) : Out := .next (s.antennaOn k)

/-- ANTENNA_DISABLE (R276). -/
def execAntennaDisable (k : Fin 4) (s : State) : Out := .next (s.antennaOff k)

/-- The exponent of the smallest power of two that is at least `m`, from 0 to 4 (R279). -/
def slotExp (m : Nat) : Nat := if m ≤ 1 then 0 else if m ≤ 2 then 1 else if m ≤ 4 then 2 else if m ≤ 8 then 3 else 4

/-- The estimate of cards still answering: 2.39 × c rounded up (R279). -/
def cardsLeft (c : Nat) : Nat := (239 * c + 99) / 100

/-- What the Type B rounds of a slice see (R279): 2^e slots in each, up to the first without a collision, at most `k` of them. -/
def roundsB : Nat → Nat → List (List BSlot) → List (List BSlot)
  | 0, _, _ => []
  | k + 1, e, l =>
    let seen := (l.headD []).take (2 ^ e)
    let c := (seen.filter (· == .collision)).length
    if c = 0 then [seen] else seen :: roundsB k (slotExp (cardsLeft c)) l.tail

/-- The blocks that a Type A card sends over its cascade levels, the cascade tag 0x88 before what a further level carries (ISO/IEC 14443-3, R278). -/
def cascade (uid : List Nat) : List Nat :=
  if uid.length = 7 then 0x88 :: uid else if uid.length = 10 then 0x88 :: (uid.take 3 ++ 0x88 :: uid.drop 3) else uid

/-- Bit `i` of a card's cascade, each byte from its lowest bit on. -/
def cascadeBit (uid : List Nat) (i : Nat) : Bool := bit ((cascade uid).getD (i / 8) 0) (i % 8)

/-- The anticollision of the cards that still answer, bit by bit: where bits collide, the reader goes on with those that sent a one (R278). -/
def narrow (cards : List (List Nat)) : Nat → Nat → List (List Nat)
  | 0, _ => cards
  | k + 1, i =>
    let ones := cards.filter fun c => cascadeBit c i
    narrow (if ones.isEmpty then cards else ones) k (i + 1)

/-- The Type A cards that a slice finds (R274, R278): WUPA, the card that the anticollision leaves, HLTA to it, and again. Cards with the same UID answer as
one. -/
def resolveA : Nat → List (List Nat) → List (List Nat)
  | 0, _ => []
  | k + 1, cards =>
    match narrow cards 96 0 with
    | [] => []
    | c :: _ => c :: resolveA k (cards.filter (· != c))

/-- The UID lengths of the cascade levels 1 to 3 (R274). -/
def typeA (cards : List (List Nat)) : List (List Nat) :=
  let l := cards.filter fun c => [4, 7, 10].contains c.length
  resolveA l.length l

/-- The identifiers of the cards that answered alone in a slot. -/
def BSlot.found : List BSlot → List (List Nat)
  | [] => []
  | .card id :: l => id :: BSlot.found l
  | _ :: l => BSlot.found l

/-- The slots of an inventory that carry one card, and those that collide, as the masks of further inventories (R278). -/
def inventorySlots (mask len : Nat) (cards : List Nat) : List Nat × List (Nat × Nat) :=
  (List.range 16).foldl (fun (o : List Nat × List (Nat × Nat)) i =>
    match cards.filter fun c => c % 2 ^ len == mask && c / 2 ^ len % 16 == i with
    | [] => o
    | [c] => (o.1 ++ [c], o.2)
    | _ => (o.1, o.2 ++ [(mask + i * 2 ^ len, len + 4)])) ([], [])

/-- The ISO/IEC 15693 inventories of a slice, at most `k`, with the masks that wait (R278). -/
def inventories (cards : List Nat) : Nat → List (Nat × Nat) → List Nat
  | 0, _ => []
  | _, [] => []
  | k + 1, (mask, len) :: l =>
    let r := inventorySlots mask len cards
    r.1 ++ inventories cards k (l ++ r.2)

/-- The identifier of an activated card in CLU_CARDk (R294). -/
def State.showCard (s : State) (k tech : Nat) (uid : List Nat) : State :=
  let s := ((s.put .CLU_CARD_L k (fromLe (uid.take 4))).put .CLU_CARD_M k (fromLe ((uid.drop 4).take 4))).put .CLU_CARD_H k (fromLe ((uid.drop 8).take 2))
  ((s.put .CLU_CARD_H_ULEN k uid.length).put .CLU_CARD_H_TECH k tech).put .CLU_ANTSTAT_TECH k tech

/-- The tag's own UID (R283). -/
def tagUid : Nat := 0xE0 * 2 ^ 56 + Config.icCode % 256 * 2 ^ 48 + (Config.serial 0 + 2 ^ 32 * Config.serial 1) % 2 ^ 48

/-- The technologies set in POLL in the order of this slice (R277): the one that the slice before has not reached comes first. -/
def State.pollOrder (s : State) (k : Nat) : List Nat :=
  let f := lookup 0 s.clu.first k
  ([0, 1, 2].map fun t => (t + f) % 3).filter (bit (s.rd .CLU_ANTCTL_POLL k))

/-- The ISO/IEC 15693 cards that the inventories of a slice find, the controller's own tag apart (R278). -/
def State.findV (s : State) (k : Nat) (cards : List VCard) : List (List Nat) :=
  let afi := s.rd .CLU_ANTCTL_AFI k
  let l := cards.filter fun c => afi == 0 || c.afi == afi
  ((inventories (l.map fun c => fromLe c.uid) 8 [(0, 0)]).filter (· != tagUid)).map (leBytes 8)

/-- ANTENNA_SLICE (R273, R277 to R280): one slice of an admitted antenna. DESIGN CHOICE (log entry 77): the command stands at 25.0 ms into the slice, when
the results are due. -/
def execAntennaSlice (k : Fin 4) (r : AntennaResult) (s : State) : Out :=
  if !s.flag .CLU_ANTCTL_ADM k || s.bcu.ember || s.failed 0x18 || !s.appRuns then .next s
  else
    let s := (s.count .CLU_ANTSTAT_SLICES k).showCard k 0 []
    let s := s.setClu { s.clu with
      active := setBit s.clu.active k false, running := setBit s.clu.running k false, polledAt := update 0 s.clu.polledAt k s.now }
    if r.current < 20 ∨ 250 < r.current then
      let s := ((s.putFlag .CLU_ANTSTAT_AFAULT k true).put .CLU_STATUS_AFAULT 0 1).put .CLU_ANTSTAT_CARDS k 0
      .next ((s.put .CLU_ANTSTAT_ROUNDS k 0).raise2 0x180C k (if r.current < 20 then 1 else 2))
    else
      let order := s.pollOrder k
      let polled := order.take r.reached
      let a := if polled.contains 0 then typeA r.cardsA else []
      let rounds := if polled.contains 1 then roundsB 6 (s.rd .CLU_ANTSTAT_NEXP k) r.slotsB else []
      let b := BSlot.found rounds.flatten
      let v := if polled.contains 2 then s.findV k r.cardsV else []
      let clash := rounds.any fun l => l.contains .collision
      let n := a.length + b.length + v.length
      let s := s.setClu { s.clu with first := update 0 s.clu.first k ((order.drop r.reached).headD 0) }
      let s := ((s.putFlag .CLU_ANTSTAT_AFAULT k false).put .CLU_ANTSTAT_CARDS k (min 15 n)).put .CLU_ANTSTAT_ROUNDS k rounds.length
      let s := s.onlyIf (polled.contains 1) fun s => s.put .CLU_ANTSTAT_NEXP k (slotExp b.length)
      let hit := if n = 1 ∧ clash = false then (a.map fun u => (1, u)) ++ (b.map fun u => (2, u)) ++ (v.map fun u => (3, u)) else []
      match hit with
      | (tech, uid) :: _ =>
        let s := (s.showCard k tech uid).setClu { s.clu with
          active := setBit s.clu.active k true, rate := update 0 s.clu.rate k (if tech = 3 then 0 else min r.rate (s.rd .CLU_ANTCTL_BRMAX k)) }
        .next (s.raise2 0x1801 k tech)
      | [] =>
        if n = 0 ∧ clash = false then .next s
        else .next ((s.put .CLU_STATUS_MULTI 0 1).raise2 0x1802 k (min 15 n))

/-- The instant at which the exchanges of an antenna's slice end: 48.75 ms into it (R277). -/
def State.exchangeEnd (s : State) (k : Nat) : Nat := lookup 0 s.clu.polledAt k + usec 23750

/-- CARD_EXCHANGE (R274, R281): a frame of at most 256 bytes to the activated card, up to 48.75 ms into the slice. Outcome 0 answered, 1 the card has left
the field and the exchange ends with an error, 2 still running. -/
def execCardExchange (k : Fin 4) (request : List Nat) (outcome : Fin 3) (answer : List Nat) (s : State) : Out :=
  if !bit s.clu.active k || s.failed 0x18 || !s.appRuns || s.bcu.ember || decide (s.exchangeEnd k < s.now) || decide (256 < request.length) then .next s
  else
    let c := { s.clu with cardSent := update [] s.clu.cardSent k request, running := setBit s.clu.running k (outcome.val == 2) }
    if outcome.val = 0 then .next (s.setClu { c with cardData := update .none c.cardData k (.data answer) })
    else if outcome.val = 1 then .next (s.setClu { c with active := setBit c.active k false, cardData := update .none c.cardData k .error })
    else .next (s.setClu c)

/-- EXCHANGE_BREAK (R277, R281): at 48.75 ms into the slice a running exchange is broken off and the card deselected; the field goes off. -/
def execExchangeBreak (k : Fin 4) (s : State) : Out :=
  let was := bit s.clu.running k
  let s := if was then s.moveTo (s.exchangeEnd k) else s
  let s := s.setClu { s.clu with running := setBit s.clu.running k false, active := setBit s.clu.active k false }
  .next (s.onlyIf was fun s => s.raise2 0x1804 k 0)

/-- Every reader field goes off, and exchanges in progress are lost (R276, R282). -/
def State.fieldsOff (s : State) : State := s.setClu { s.clu with active := 0, running := 0 }

/-- An event of the tag: raised at the next start while the controller has no power (R289). -/
def State.tagEvent (s : State) (code arg : Nat) : State :=
  if s.bcu.phase = .off then s.setClu { s.clu with offEvents := s.clu.offEvents ++ [(code, arg)] } else s.raise code arg

/-- A block of the tag memory (R284). -/
def Clu.block (c : Clu) (b : Nat) : Nat := lookup 0 c.mem b

/-- A block of the tag memory set. -/
def Clu.setBlock (c : Clu) (b v : Nat) : Clu := { c with mem := update 0 c.mem b (v % 2 ^ 32) }

/-- The tag hears a request: TAGEN, a field within the read level, the journal checked, a good frame, and the tag is addressed (R273, R283, R291, R292).
PRESUMED (log entry 77), as ISO/IEC 15693-3 has it: a quiet tag takes only what is addressed to its UID. -/
def State.tagHears (s : State) (q : TagRequest) : Bool :=
  s.flag .CLU_TCFG_TAGEN 0 && s.rd .CLU_TSTATE_TSTATE 0 != 0 && s.clu.ready && q.crc && decide (300 ≤ q.field ∧ q.field ≤ 5000) &&
    match q.addr with
    | .every => !s.clu.quiet
    | .selected => s.clu.selected
    | .uid u => u == tagUid

/-- A request frame of a reader: a TAUTH2 no longer follows its TAUTH1 directly, whoever the frame is for (R288); the tag acts where it hears it. -/
def State.tagRequest (s : State) (q : TagRequest) (act : State → State) : State :=
  (s.setClu { s.clu with auth := none }).onlyIf (s.tagHears q) act

/-- A custom command carries the IC manufacturer code of the tag (R288). PRESUMED (log entry 77): with another the tag stays silent. -/
def State.tagCustom (s : State) (q : TagRequest) (act : State → State) : State :=
  s.tagRequest q fun s => s.onlyIf (q.ic == Config.icCode % 256) act

/-- The tag answers. -/
def State.tagAnswer (s : State) (a : TagAnswer) : State := s.setClu { s.clu with answers := s.clu.answers ++ [a], auth := none }

/-- TAG_FIELD_ON (R288): a field comes up and the tag is open. -/
def execTagFieldOn (s : State) : Out :=
  if s.flag .CLU_TSTATE_FIELD 0 then .next s
  else
    let s := (s.putFlag .CLU_TSTATE_FIELD 0 true).put .CLU_TSTATE_TSTATE 0 1
    .next (s.setClu { s.clu with quiet := false, selected := false, auth := none, ready := s.clu.ready && s.bcu.phase != .off })

/-- TAG_FIELD_LOSS (R288). -/
def State.fieldLoss (s : State) : State :=
  let s := (s.putFlag .CLU_TSTATE_FIELD 0 false).put .CLU_TSTATE_TSTATE 0 0
  s.setClu { s.clu with quiet := false, selected := false, auth := none }

/-- TAG_FIELD_LOSS (R288). -/
def execTagFieldLoss (s : State) : Out := .next s.fieldLoss

/-- The write journal is checked at a power-up of the front end (R292). -/
def State.journal (s : State) : State :=
  let c := s.clu
  if c.block 0x7F2 ≠ 0xA5 then s.setClu { c with ready := true }
  else
    let block := c.block 0x7F1 % 65536
    if c.block 0x7F1 / 65536 = Config.journalCrc (c.block 0x7F0) block % 65536 then
      let s := s.setClu { ((c.setBlock block (c.block 0x7F0)).setBlock 0x7F2 0) with ready := true }
      (s.count .CLU_TCOUNT_WRITES 0).tagEvent 0x1809 block
    else s.setClu { c.setBlock 0x7F2 0 with ready := true }

/-- TAG_POWER_UP (R292): the tag stays mute until the reservoir holds the energy of the recovery. -/
def execTagPowerUp (reservoir : Bool) (s : State) : Out :=
  let s := s.putFlag .CLU_TSTATE_RESOK 0 reservoir
  .next (if reservoir then s.journal else s.setClu { s.clu with ready := false })

/-- The tag is meant by an Inventory (R274, R283): the mask agrees with its UID and the AFI, if one is asked for, is its own 0x00. -/
def inventoryMeets (mask len : Nat) (afi : Option Nat) : Bool := tagUid % 2 ^ len == mask && (afi.getD 0 == 0)

/-- INVENTORY (R274, R283): the UID with DSFID 0x00; a quiet tag stays silent. -/
def execInventory (req : TagRequest) (mask len : Nat) (afi : Option Nat) (s : State) : Out :=
  .next (s.tagRequest req fun s => s.onlyIf (!s.clu.quiet && inventoryMeets mask len afi) fun s => s.tagAnswer (.uid 0 tagUid))

/-- STAY_QUIET (R274). -/
def execStayQuiet (req : TagRequest) (s : State) : Out :=
  .next (s.tagRequest req fun s => (s.setClu { s.clu with quiet := true, selected := false }).tagAnswer .ok)

/-- SELECT (R274). PRESUMED (log entry 77): a Select with another UID ends the selected state. -/
def execSelect (req : TagRequest) (s : State) : Out :=
  let other := match req.addr with | .uid u => u != tagUid | _ => false
  let s := s.onlyIf (other && req.crc) fun s => s.setClu { s.clu with selected := false }
  .next (s.tagRequest req fun s => (s.setClu { s.clu with quiet := false, selected := true }).tagAnswer .ok)

/-- RESET_TO_READY (R274). -/
def execResetToReady (req : TagRequest) (s : State) : Out :=
  .next (s.tagRequest req fun s => (s.setClu { s.clu with quiet := false, selected := false }).tagAnswer .ok)

/-- The tag is in a secured state (R288). -/
def State.secured (s : State) : Bool := 2 ≤ s.rd .CLU_TSTATE_TSTATE 0

/-- The error that a field read of a block gets, none where it is allowed (R284, R293). -/
def State.readError (s : State) (b : Nat) : Option Nat :=
  if b < 2 then none
  else if b < 0x400 then (if s.flag .CLU_TGATE_HOLDACK 0 then some 0xA1 else none)
  else if b < 0x600 ∧ s.secured = true then none
  else some 0x10

/-- A read of blocks from the field: all of them, or the first error (R284). -/
def State.fieldRead (s : State) (q : TagRequest) (blocks : List Nat) : State :=
  s.tagRequest q fun s =>
    match blocks.filterMap s.readError with
    | e :: _ => s.tagAnswer (.error e)
    | [] => (s.count .CLU_TCOUNT_READS 0).tagAnswer (.data (blocks.map s.clu.block))

/-- READ_SINGLE_BLOCK (R284). -/
def execReadSingleBlock (req : TagRequest) (block : BitVec 16) (s : State) : Out := .next (s.fieldRead req [block.toNat])

/-- READ_MULTIPLE_BLOCKS (R284): `count` blocks from `block` on. -/
def execReadMultipleBlocks (req : TagRequest) (block count : BitVec 16) (s : State) : Out :=
  .next (s.fieldRead req ((List.range (min count.toNat 2048)).map (block.toNat + ·)))

/-- What a field write leaves when the supply collapses in a step of R291; the outcomes that the rule leaves open are free values. A write that
clears its marker is complete and counts. -/
def State.collapsed (s : State) (b v step : Nat) : State :=
  let c := s.clu
  let written := ((c.setBlock 0x7F0 v).setBlock 0x7F1 (b + 65536 * (Config.journalCrc v b % 65536)))
  let (x, s) := s.draw
  let c := if step = 0 then c
    else if step = 1 then written
    else if step = 2 then (if bit x 0 then written.setBlock 0x7F2 0xA5 else written)
    else if step = 3 then
      let w := written.setBlock 0x7F2 0xA5
      if bit x 0 then w.setBlock b v else w
    else (written.setBlock b v).setBlock 0x7F2 (if bit x 0 then 0xA5 else 0)
  let s := s.onlyIf (step == 4 && !bit x 0) fun s => s.count .CLU_TCOUNT_WRITES 0
  (s.setClu { c with ready := false }).fieldLoss

/-- The complete write of R291. -/
def State.journalWrite (s : State) (b v : Nat) : State :=
  let c := ((s.clu.setBlock 0x7F0 v).setBlock 0x7F1 (b + 65536 * (Config.journalCrc v b % 65536))).setBlock b v
  (s.setClu (c.setBlock 0x7F2 0)).count .CLU_TCOUNT_WRITES 0

/-- WRITE_SINGLE_BLOCK (R284, R291, R293): `reservoir` says that it holds 2.8 V, `cut` what cuts the write short. A field that goes leaves the write to
complete its steps, and so does the module supply; a collapse of the front end's own supply leaves what its step leaves. DESIGN CHOICE (log entry 77): the
steps of a write are one command, so what the host reaches for falls before or after it, and JBUSY reads 0 between two commands. -/
def execWriteSingleBlock (req : TagRequest) (block : BitVec 16) (value : BitVec 32) (reservoir : Bool) (cut : Option WriteCut) (s : State) : Out :=
  let b := block.toNat
  .next (s.tagRequest req fun s =>
    let s := s.putFlag .CLU_TSTATE_RESOK 0 reservoir
    if 2 ≤ b ∧ b < 0x400 ∧ s.flag .CLU_TGATE_HOLDACK 0 = true then s.tagAnswer (.error 0xA1)
    else if b < 0x400 then s.tagAnswer (.error 0x12)
    else if 0x600 ≤ b ∨ !s.secured then s.tagAnswer (.error 0x10)
    else if !reservoir then ((s.put .CLU_STATUS_TAGREF 0 1).tagEvent 0x1808 b).tagAnswer (.error 0xA2)
    else match cut with
      | none => (s.journalWrite b value.toNat).tagAnswer .ok
      | some .fieldLoss => (s.journalWrite b value.toNat).fieldLoss
      | some (.collapse k) => if s.bcu.phase = .off then s.collapsed b value.toNat k else (s.journalWrite b value.toNat).fieldLoss)

/-- GET_SYSTEM_INFORMATION (R283). -/
def execGetSystemInformation (req : TagRequest) (s : State) : Out := .next (s.tagRequest req fun s => s.tagAnswer (.system tagUid 0 0 2048 4))

/-- UNSUPPORTED_TAG_COMMAND (R274). -/
def execUnsupportedTagCommand (req : TagRequest) (s : State) : Out := .next (s.tagRequest req fun s => s.tagAnswer (.error 1))

/-- A failed authentication (R288, R289). -/
def State.authFail (s : State) : State :=
  let n := min 8 (s.rd .CLU_TSTATE_TFAIL 0 + 1)
  let s := ((s.put .CLU_TSTATE_TFAIL 0 n).put .CLU_STATUS_AUTHF 0 1).put .CLU_TSTATE_TSTATE 0 1
  let s := (s.tagEvent 0x1806 n).onlyIf (n == 8) fun s =>
    ((s.putFlag .CLU_TSTATE_LOCKED 0 true).put .CLU_STATUS_LOCKOUT 0 1).tagEvent 0x1807 0
  s.tagAnswer (.error 0xA4)

/-- A successful authentication: 1 password, 2 AES (R288, R289). -/
def State.authOk (s : State) (how : Nat) : State :=
  (((s.put .CLU_TSTATE_TFAIL 0 0).put .CLU_TSTATE_TSTATE 0 (1 + how)).tagEvent 0x1805 how).tagAnswer .ok

/-- A custom command that the configuration does not accept; the spec gives no error code. -/
def State.notAccepted (s : State) : State :=
  let (x, s) := s.draw
  s.tagAnswer (.error (x % 256))

/-- TPWD (R288, R289). -/
def execTpwd (req : TagRequest) (password : BitVec 32) (s : State) : Out :=
  .next (s.tagCustom req fun s =>
    if s.flag .CLU_TSTATE_LOCKED 0 then s.tagAnswer (.error 0xA3)
    else if !s.flag .CLU_TCFG_PWDEN 0 || s.clu.pwd == 0 then s.notAccepted
    else if s.clu.pwd = password.toNat then s.authOk 1 else s.authFail)

/-- TAUTH1 (R288, R289): RB is random. -/
def execTauth1 (req : TagRequest) (keyNo : BitVec 8) (ra : BitVec 64) (s : State) : Out :=
  .next (s.tagCustom req fun s =>
    if s.flag .CLU_TSTATE_LOCKED 0 then s.tagAnswer (.error 0xA3)
    else if !s.flag .CLU_TCFG_AUTHEN 0 || s.clu.key == 0 || keyNo != 0 then s.notAccepted
    else
      let (x, s) := s.draw
      let rb := x % 2 ^ 64
      let s := s.tagAnswer (.auth rb (aes128 s.clu.key (ra.toNat * 2 ^ 64 + rb)))
      s.setClu { s.clu with auth := some (ra.toNat, rb) })

/-- TAUTH2 (R288, R289): fails unless it follows its TAUTH1 directly. -/
def execTauth2 (req : TagRequest) (cipher : BitVec 128) (s : State) : Out :=
  let asked := s.clu.auth
  .next (s.tagCustom req fun s =>
    if s.flag .CLU_TSTATE_LOCKED 0 then s.tagAnswer (.error 0xA3)
    else if !s.flag .CLU_TCFG_AUTHEN 0 || s.clu.key == 0 then s.notAccepted
    else match asked with
      | some (ra, rb) => if cipher.toNat = aes128 s.clu.key (rb * 2 ^ 64 + ra) then s.authOk 2 else s.authFail
      | none => s.authFail)

/-- TLOGOUT (R288). -/
def execTlogout (req : TagRequest) (s : State) : Out := .next (s.tagCustom req fun s => (s.put .CLU_TSTATE_TSTATE 0 1).tagAnswer .ok)

/-- TSTAT (R288). -/
def execTstat (req : TagRequest) (s : State) : Out :=
  .next (s.tagCustom req fun s => s.tagAnswer (.status (s.rd .CLU_TSTATE_TSTATE 0) (s.rd .CLU_TSTATE_TFAIL 0) Config.tagVersion))

/-- A write of HOLD (R293); no field command runs between two commands of this model. -/
def State.writeHold (s : State) (on : Bool) : State :=
  let s := (s.putFlag .CLU_TGATE_HOLD 0 on).putFlag .CLU_TGATE_HOLDACK 0 on
  s.setClu { s.clu with holdT := if on then some (s.clu.holdT.getD (s.now + msec 100)) else none }

/-- HOLD (R293). -/
def execHold (on : Bool) (s : State) : Out := .next (s.writeHold on)

/-- HOLD_TIMEOUT (R293). -/
def execHoldTimeout (s : State) : Out :=
  match s.clu.holdT with
  | none => .next s
  | some t => .next ((((s.moveTo t).writeHold false).put .CLU_STATUS_GATEOVR 0 1).raise 0x180A 0)

/-- The bytes of the Nganakar record most recently committed, from the ledger's legal-hold region (R286, R339). -/
def State.lastNganakar (s : State) : List Nat :=
  let recs := s.lgs.records 0
  match recs.foldl (fun (o : Option LedgerRec) r =>
      if r.type = 0x10 then (match o with | some q => if q.seq < r.seq then some r else some q | none => some r) else o) none with
  | none => []
  | some h =>
    let b := h.bytes
    let n := b.getD 17 0
    let parts := (recs.filter fun r => r.type == 0x11 && decide (h.seq < r.seq) && decide (r.seq ≤ h.seq + n))
    (((sortBy (fun a b => decide (a.seq ≤ b.seq)) parts).map fun r => (r.bytes.drop 17).take 43).flatten).take (fromLe ((b.drop 18).take 2))

/-- A load passes through the write journal (R290): its marker is clear afterwards. The spec names no block of a password or key, nor how a key passes
through the journal's one word: what a load leaves in SHADDR, and a key in SHDATA, are free values. -/
def State.throughJournal (s : State) (data : Option Nat) : State :=
  let (x, s) := s.draw
  let (y, s) := s.draw
  s.setClu (((s.clu.setBlock 0x7F0 (data.getD x)).setBlock 0x7F1 y).setBlock 0x7F2 0)

/-- A power loss in a load leaves the old value or the new one (R290); which is a free value. -/
def State.loadHolds (s : State) (loss : Bool) : Bool × State :=
  if loss then
    let (x, s) := s.draw
    (bit x 0, s)
  else (true, s)

/-- LOADPWD (R290). -/
def State.loadPwd (s : State) (loss : Bool) : State :=
  let v := s.rd .CLU_TPWD_PWD 0
  let (new, s) := s.loadHolds loss
  let s := s.throughJournal (some v)
  (s.onlyIf new fun s => s.setClu { s.clu with pwd := v }).put .CLU_TPWD_PWD 0 0

/-- LOADPWD (R290): `loss` says that power is lost in the load. -/
def execLoadpwd (loss : Bool) (s : State) : Out := .next (s.loadPwd loss)

/-- LOADKEY (R290): bits [31:0] of the key from CLU_TKEY0. -/
def State.loadKey (s : State) (loss : Bool) : State :=
  let k := (List.range 4).foldl (fun v n => v + s.rd .CLU_TKEY_KEY n * 2 ^ (32 * n)) 0
  let (new, s) := s.loadHolds loss
  let s := s.throughJournal none
  (s.onlyIf new fun s => s.setClu { s.clu with key := k }).each (List.range 4) fun s n => s.put .CLU_TKEY_KEY n 0

/-- LOADKEY (R290): `loss` as in LOADPWD. -/
def execLoadkey (loss : Bool) (s : State) : Out := .next (s.loadKey loss)

/-- TFAILCLR (R289). -/
def State.clearTfail (s : State) : State := (s.put .CLU_TSTATE_TFAIL 0 0).putFlag .CLU_TSTATE_LOCKED 0 false

/-- TFAILCLR (R289). -/
def execTfailclr (s : State) : Out := .next s.clearTfail

/-- A host write to the tag memory window (R284, R295): allowed in the NDEF, secured and host areas, discarded elsewhere with event 0x180B. -/
def State.tagHostWrite (s : State) (off value : Nat) : State :=
  let b := off / 4
  if 2 ≤ b ∧ b < 0x7E0 then s.setClu (s.clu.setBlock b value)
  else s.raise 0x180B off

/-- Before the host reaches the window the journal is checked (R292): the module supply charges the reservoir, and the access waits for the recovery. -/
def State.tagReady (s : State) : State := if s.clu.ready then s else (s.putFlag .CLU_TSTATE_RESOK 0 true).journal

/-- A host read of the tag memory window (R284): the key and counter area reads zero. -/
def State.tagHostRead (s : State) (off : Nat) : Nat :=
  let b := off / 4
  if 0x7E0 ≤ b ∧ b < 0x7F0 then 0 else s.clu.block b

/-- TAG_MEMORY_HOST_WRITE (R284, R292, R293). -/
def execTagMemoryHostWrite (off : BitVec 13) (value : BitVec 32) (s : State) : Out := .next (s.tagReady.tagHostWrite off.toNat value.toNat)

/-- A start of the controller: the capability container, the journal, and the tag's events without power (R285, R289, R292). -/
def State.cluStart (s : State) : State :=
  let s := s.tagReady
  let s := s.setClu ((s.clu.setBlock 0 0x010043E2).setBlock 1 0xFF010000)
  let l := s.clu.offEvents
  l.foldl (fun s e => s.raise e.1 e.2) (s.setClu { s.clu with offEvents := [] })

/-- Fields of the CLU that a warm reset keeps: CLU_ANTCTLk (R282), what counts from the cold reset on, the tag front end's state, and the key and
counter area. -/
def cluWarmKept : List Fld :=
  [.CLU_ANTCTL_GUARD, .CLU_ANTCTL_AFI, .CLU_ANTCTL_POLL, .CLU_ANTCTL_BRMAX, .CLU_ANTCTL_ADM, .CLU_ANTCTL_ANTEN, .CLU_ANTSTAT_SLICES,
   .CLU_TSTATE_TFAIL, .CLU_TSTATE_LOCKED, .CLU_TSTATE_JBUSY, .CLU_TSTATE_RESOK, .CLU_TSTATE_TSTATE, .CLU_TSTATE_FIELD, .CLU_TCFG_TAGEN,
   .CLU_TCFG_AUTHEN, .CLU_TCFG_PWDEN, .CLU_TCOUNT_WRITES, .CLU_TCOUNT_READS]

/-- A warm reset stops the reader core; the bindings and CLU_ANTCTLk stay (R282). DESIGN CHOICE (log entry 72): which other registers go back to
their reset values. -/
def State.cluWarm (s : State) : State :=
  let s := (s.clearUnit .clu (fun _ => true) cluWarmKept).fieldsOff
  s.setClu { s.clu with holdT := none }

/-- An antenna is idle while ANTEN and ADM are both 0. -/
def State.antennaIdle (s : State) (k : Nat) : Bool := !s.flag .CLU_ANTCTL_ANTEN k && !s.flag .CLU_ANTCTL_ADM k

end Sys2Proof.Machine
end

