-- ==== Sys2Proof/Machine/Fifo.lean ====
section
/-! DEFINITION. HPU (chapter 14), the part below its register accesses: the streaming FIFOs, frames to the host, subscriptions, the
LEDGER, AFRIL and SUBSCRIBE requests, and the HMI sessions. -/

namespace Sys2Proof.Machine

open Sys2Proof

/-- HPU state set. -/
def State.setHpu (s : State) (v : Hpu) : State := { s with hpu := v }

/-- The HMI record (TYPE 6). -/
def State.hmiRec (s : State) : NetwRec := ((s.netw 6).head?.map (·.2)).getD {}

/-- The bytes of a frame (R382). -/
def HostFrame.bytes (f : HostFrame) : List Nat :=
  let head := leBytes 2 0x5A4C ++ [f.type % 256, 0] ++ leBytes 4 f.payload.length ++ leBytes 4 f.seq
  head ++ leBytes 2 (crc16 head) ++ [0, 0] ++ f.payload

/-- The FIFO occupancies and the flow-control lands (R379, R396). -/
def State.showFifo (s : State) : State :=
  let h := s.hpu
  let up := h.up.length
  let dn := h.down.length
  let late := match h.upMarks with | [] => false | (_, t) :: _ => decide (t + usec (s.rd .HPU_SPICFG_UPTO 0) ≤ s.now)
  let hrdy :=
    if s.rd .HPU_WMARK_UPHI 0 * 256 ≤ up ∧ 0 < up then true
    else if late then true
    else if up ≤ s.rd .HPU_WMARK_UPLO 0 * 256 then false else h.hrdy
  let hbusy :=
    if s.rd .HPU_WMARK_DNHI 0 * 64 ≤ dn ∧ 0 < dn then true
    else if dn ≤ s.rd .HPU_WMARK_DNLO 0 * 64 then false else h.hbusy
  let s := s.setHpu { h with hrdy := hrdy, hbusy := hbusy }
  (s.put .HPU_FIFOSTAT_UPOCC 0 up).put .HPU_FIFOSTAT_DNOCC 0 dn

/-- Frames that wait enter the UP FIFO while there is room (R384). -/
def flushFrames (now : Nat) : List WaitingFrame → List Nat → List (Nat × Nat) → List WaitingFrame × List Nat × List (Nat × Nat)
  | [], up, m => ([], up, m)
  | w :: l, up, m =>
    let b := w.frame.bytes
    if up.length + b.length ≤ 65536 then flushFrames now l (up ++ b) (m ++ [(b.length, now)]) else (w :: l, up, m)

/-- Waiting frames enter the UP FIFO. -/
def State.flushUp (s : State) : State :=
  let (w, up, m) := flushFrames s.now s.hpu.waiting s.hpu.up s.hpu.upMarks
  (s.setHpu { s.hpu with waiting := w, up := up, upMarks := m }).showFifo

/-- A frame goes to one path (R382, R384): to the session's TLS record layer, or to the UP FIFO. -/
def State.sendFrame (s : State) (p type : Nat) (payload : List Nat) : State :=
  let f : HostFrame := ⟨type, lookup 0 s.hpu.seqs p, payload⟩
  let s := s.setHpu { s.hpu with seqs := update 0 s.hpu.seqs p ((f.seq + 1) % 2 ^ 32) }
  if p = 4 then (s.setHpu { s.hpu with waiting := s.hpu.waiting ++ [⟨f, s.now + usec 1000⟩] }).flushUp
  else if bit s.hpu.sessions p then s.setHpu { s.hpu with sent := update [] s.hpu.sent p (lookup [] s.hpu.sent p ++ [f]) }
  else s

/-- An answer: the request's SEQ first (R383). -/
def State.answerHost (s : State) (p seq type : Nat) (payload : List Nat) : State := s.sendFrame p type (leBytes 4 seq ++ payload)

/-- The HPU works: the application domain runs, and no unit reset of the HPU (R471). -/
def State.hpuRuns (s : State) : Bool := s.appRuns && !(s.bcu.unitResets.any fun k => k / 256 == 0x1C)

/-- A path that carries HMI frames: an open session, or the SPI path where the HMI record allows it (R381). While no plan is active the SPI path is
the one by which a plan can come (R515; DEDUCED, log entry 79). -/
def State.pathOpen (s : State) (p : Nat) : Bool :=
  s.hpuRuns && if p = 4 then s.plan.isNone || bit (s.hmiRec.byte 1) 1 else bit s.hpu.sessions p

/-- A frame of the host has been read: on the SPI path its header and payload leave the DOWN FIFO (R381). -/
def State.takeFrame (s : State) (p len : Nat) : State :=
  if p = 4 then (s.setHpu { s.hpu with down := s.hpu.down.drop (16 + len) }).showFifo else s

/-- A FIFO reset (R378): 1 pointer mismatch, 2 host command, 3 warm reset. -/
def State.fifoReset (s : State) (up : Bool) (why : Nat) : State :=
  let s := if up then s.setHpu { s.hpu with up := [], upMarks := [], frst := true } else s.setHpu { s.hpu with down := [], frst := true }
  (((s.put .HPU_STATUS_FRST 0 1).count .HPU_COUNT_FRSTS 0).raise2 0x1C01 (b2n up) why).flushUp

/-- DNRST (R378). -/
def execDnrst (s : State) : Out := .next (s.fifoReset false 2)

/-- UPRST (R378). -/
def execUprst (s : State) : Out := .next (s.fifoReset true 2)

/-- How many of the low `w` bits differ. -/
def bitsApart (w a b : Nat) : Nat := ((List.range w).filter fun i => bit a i != bit b i).length

/-- The two copies of a pointer call for a FIFO reset (R377): they differ in more than one bit, or in any bit for four clocks in a row; `run` is how
many clocks they have differed. -/
def pointerFault (w : Nat) : Nat → List (Nat × Nat) → Bool
  | _, [] => false
  | run, (a, b) :: l =>
    let d := bitsApart w a b
    decide (2 ≤ d) || decide (d = 1 ∧ run = 3) || pointerFault w (if d = 0 then 0 else run + 1) l

/-- FIFO_POINTER_MISMATCH (R376, R377): the copies A and B of one pointer as the destination side sees them on consecutive clocks; a pointer has
one bit more than the FIFO's address: 15 of DOWN, 17 of UP. -/
def execFifoPointerMismatch (up : Bool) (copies : List (Nat × Nat)) (s : State) : Out :=
  .next (if s.hpuRuns && pointerFault (if up then 17 else 15) 0 copies then s.fifoReset up 1 else s)

/-- STAT (R375). -/
def State.stat18 (s : State) : Nat :=
  b2n s.appRuns + 2 * b2n s.hpu.err + 4 * b2n (bit (s.rd .FAB_FROZEN_FROZEN 0) 18) + 8 * b2n s.hpu.frst + 16 * b2n s.hpu.dnovf

/-- The host SPI port has power and its clock (R373, R460). -/
def State.spiUp (s : State) : Bool := s.bcu.phase != .off && s.flag .CGU_CLKEN_HSP 0

/-- An SPI transaction begins, which is the HPU's frame boundary: DUMMY takes effect (R14). -/
def State.spiFrame (s : State) : State := (s.apply .HPU_SPICFG_DUMMY 0).setHpu { s.hpu with spiOut := [] }

/-- STATUS (R375): bits [4:1] are cleared after the answer; FROZEN shows what is so now. -/
def execStatus (s : State) : Out :=
  if !s.spiUp then .next s
  else .next (s.spiFrame.setHpu { s.hpu with spiOut := [s.stat18], err := false, frst := false, dnovf := false })

/-- UNKNOWN_SPI_COMMAND (R374). -/
def execUnknownSpiCommand (cmd : BitVec 8) (s : State) : Out :=
  if !s.spiUp || cmd.toNat ∈ [0x0B, 0x02, 0x05, 0x3B, 0x32] then .next s else .next (s.spiFrame.put .HPU_STATUS_SPIERR 0 1)

/-- The marks after `k` bytes have left. -/
def dropMarks : Nat → List (Nat × Nat) → List (Nat × Nat)
  | _, [] => []
  | k, (n, t) :: l => if n ≤ k then dropMarks (k - n) l else (n - k, t) :: l

/-- FIFO_READ of `count` bytes (R374, R380): STAT, AVAIL, then FIFO bytes and zeros beyond AVAIL. -/
def execFifoRead (count : Nat) (s : State) : Out :=
  if !s.spiUp then .next s
  else if !s.hpuRuns then .next (s.spiFrame.setHpu { s.hpu with spiOut := [s.stat18] ++ List.replicate (4 + count) 0 })
  else
    let avail := s.hpu.up.length
    let out := [s.stat18] ++ leBytes 4 avail ++ s.hpu.up.take count ++ List.replicate (count - avail) 0
    let s := s.spiFrame.setHpu { s.hpu with spiOut := out, up := s.hpu.up.drop count, upMarks := dropMarks (min count avail) s.hpu.upMarks }
    .next s.flushUp

/-- FIFO_WRITE (R380): bytes beyond 16,384 are discarded. -/
def execFifoWrite (bytes : List (BitVec 8)) (s : State) : Out :=
  if !s.spiUp then .next s
  else if !s.hpuRuns then .next s.spiFrame
  else
    let s := s.spiFrame
    let room := 16384 - s.hpu.down.length
    let lost := bytes.length - room
    let s := (s.setHpu { s.hpu with down := s.hpu.down ++ (bytes.take room).map (·.toNat) }).showFifo
    .next (if lost = 0 then s
      else ((s.put .HPU_STATUS_DNOVF 0 1).setHpu { s.hpu with dnovf := true }).raise2 0x1C02 4 (min 0xFF lost))

/-- UPTO_EXPIRY (R379): the oldest byte has waited UPTO. -/
def execUptoExpiry (s : State) : Out :=
  match s.hpu.upMarks with
  | [] => .next s
  | (_, t) :: _ => .next (s.moveTo (t + usec (s.rd .HPU_SPICFG_UPTO 0))).showFifo

/-- A valid header at the front of a list of bytes (R382). -/
def validHeader (l : List Nat) : Bool :=
  decide (16 ≤ l.length) && fromLe (l.take 2) == 0x5A4C && fromLe ((l.drop 12).take 2) == crc16 (l.take 12) &&
    decide (fromLe ((l.drop 4).take 4) ≤ 65536)

/-- The bytes from the next valid header on (R382); the last 15 bytes may still begin one. -/
def scanHeader : List Nat → List Nat
  | [] => []
  | b :: l => if validHeader (b :: l) || decide (l.length < 15) then b :: l else scanHeader l

/-- A frame of the host with its TYPE, SEQ and payload has come on a path: on the SPI path it stands whole at the front of the DOWN FIFO (R381, R382). -/
def State.frameIn (s : State) (p type seq : Nat) (payload : List Nat) : Bool :=
  let d := s.hpu.down
  s.pathOpen p && (p != 4 || (validHeader d && (d.drop 2).head? == some type && fromLe ((d.drop 8).take 4) == seq &&
    fromLe ((d.drop 4).take 4) == payload.length && (d.drop 16).take payload.length == payload))

/-- BAD_FRAME_HEADER (R382): on the SPI path no valid header stands at the front of the DOWN FIFO. -/
def execBadFrameHeader (p : Fin 5) (s : State) : Out :=
  if !s.pathOpen p || (p.val == 4 && (decide (s.hpu.down.length < 16) || validHeader s.hpu.down)) then .next s
  else
    let s := if p.val = 4 then (s.setHpu { s.hpu with down := scanHeader (s.hpu.down.drop 1) }).showFifo else s
    .next ((s.put .HPU_STATUS_BADHDR 0 1).raise2 0x1C04 p 0)

/-- What is wrong with a frame of the host (R383): 0 nothing, 1 its TYPE is none of the host's, 2 its LEN is wrong for its TYPE. -/
def frameFault (type len : Nat) : Nat :=
  let need := fun (ok : Bool) => if ok then 0 else 2
  match type with
  | 0x01 => need (len == 6)
  | 0x02 => need (decide (4 ≤ len) && len % 4 == 0)
  | 0x03 => need (len == 4)
  | 0x04 => need (len == 13)
  | 0x05 => need (decide (1 ≤ len))
  | 0x06 => need (decide (24 ≤ len))
  | 0x07 => need (decide (8 ≤ len))
  | _ => 1

/-- UNKNOWN_FRAME_TYPE (R383): an ERROR frame answers. -/
def execUnknownFrameType (p : Fin 5) (seq : BitVec 32) (type : BitVec 8) (payload : List (BitVec 8)) (s : State) : Out :=
  let pl := payload.map (·.toNat)
  let f := frameFault type.toNat pl.length
  if !s.frameIn p type.toNat seq.toNat pl || f == 0 then .next s
  else .next ((s.takeFrame p pl.length).sendFrame p 0xFE (leBytes 4 seq.toNat ++ [f]))

/-- A dropped frame (R384). -/
def State.frameDropped (s : State) (p type : Nat) : State :=
  ((s.put .HPU_STATUS_QDROP 0 1).count .HPU_COUNT_DROPS 0).raise2 0x1C03 p type

/-- HOST_FRAME_DROP (R384): the oldest frame that waits for the UP FIFO, or the newest frame to a session, for which its record layer had no
room: it has not been sent. -/
def execHostFrameDrop (p : Fin 5) (type : BitVec 8) (s : State) : Out :=
  if p.val = 4 then
    match s.hpu.waiting with
    | [] => .next s
    | w :: l => .next ((((s.moveTo w.until_).setHpu { s.hpu with waiting := l }).frameDropped 4 w.frame.type).flushUp)
  else
    let l := lookup [] s.hpu.sent p
    match l.reverse with
    | [] => .next s
    | f :: rest =>
      .next (if bit s.hpu.sessions p && f.type == type.toNat then
        (s.setHpu { s.hpu with sent := update [] s.hpu.sent p rest.reverse }).frameDropped p f.type else s)

/-- SUBSCRIBE (R383): streams delivered from now on. -/
def execSubscribe (p : Fin 5) (seq : BitVec 32) (streams n : BitVec 16) (s : State) : Out :=
  if !s.frameIn p 0x03 seq.toNat (leBytes 2 streams.toNat ++ leBytes 2 n.toNat) then .next s
  else
    let s := s.takeFrame p 4
    if n.toNat = 0 ∨ 600 < n.toNat then .next (s.answerHost p seq.toNat 0x83 [4])
    else
      let sub : Sub := ⟨streams.toNat % 16, n.toNat, s.events.length, s.hostMsgs.length, none⟩
      .next ((s.setHpu { s.hpu with subs := update {} s.hpu.subs p sub }).answerHost p seq.toNat 0x83 [0])

/-- An EVENTS payload (R383). -/
def eventBytes (l : List Event) : List Nat := leBytes 2 l.length ++ l.flatMap fun e => leBytes 2 e.code ++ leBytes 2 e.arg ++ leBytes 8 e.ltime

/-- A VEHICLE payload (R131). -/
def HostMsg.bytes (m : HostMsg) : List Nat :=
  [m.outlet, m.gen, m.dir, m.flags] ++ leBytes 2 m.msg ++ leBytes 2 m.body.length ++ leBytes 2 m.exi.length ++ [0, 0] ++ leBytes 4 m.seq ++
    leBytes 8 m.ltime ++ m.body ++ m.exi

/-- An ALLOCATION payload (R225). -/
def AllocReport.bytes (r : AllocReport) : List Nat :=
  let i := fun (v : Int) => leBytes 4 (toTwos 32 v)
  leBytes 4 r.cycle ++ leBytes 8 r.ltime ++ i r.pgrid ++ i r.pdem ++ i r.pbase ++ i r.pvav ++ i r.pst ++ leBytes 2 r.flags ++
    [r.entries.length % 256, 0] ++ r.entries.flatMap fun e => [e.outlet % 256, e.level % 256, e.limit % 256, 0] ++ i e.grant ++ i e.req

/-- The paths whose subscription holds a stream. -/
def State.subscribed (s : State) (stream : Nat) : List Nat :=
  (List.range 5).filter fun p => s.pathOpen p && bit (lookup ({} : Sub) s.hpu.subs p).streams stream

/-- A subscription set. -/
def State.setSub (s : State) (p : Nat) (v : Sub) : State := s.setHpu { s.hpu with subs := update {} s.hpu.subs p v }

/-- Subscribed events, vehicle messages, allocation reports and Afril data are delivered (R383, R384). -/
def State.deliver (s : State) : State :=
  let s := s.each (s.subscribed 0) fun s p =>
    let sub : Sub := lookup {} s.hpu.subs p
    let l := (s.events.drop sub.evAt).take 4000
    if l.isEmpty then s else (s.setSub p { sub with evAt := sub.evAt + l.length }).sendFrame p 0x90 (eventBytes l)
  let s := s.each (s.subscribed 1) fun s p =>
    let sub : Sub := lookup {} s.hpu.subs p
    (s.hostMsgs.drop sub.msgAt).foldl (fun s m => s.sendFrame p 0x91 m.bytes) (s.setSub p { sub with msgAt := s.hostMsgs.length })
  let s := s.alloc.reports.foldl (fun s r => s.each (s.subscribed 2) fun s p =>
    let sub : Sub := lookup {} s.hpu.subs p
    let due := match sub.cycle with | none => true | some c => decide (sub.n ≤ (r.cycle + 2 ^ 32 - c) % 2 ^ 32)
    if due then (s.setSub p { sub with cycle := some r.cycle }).sendFrame p 0x92 r.bytes else s) s
  let s : State := { s with alloc := { s.alloc with reports := [] } }
  let paths := s.subscribed 3
  if paths.isEmpty then s
  else s.each s.polled fun s n =>
    let a := s.anode n
    let s := s.setAnode n { a with upq := [] }
    a.upq.foldl (fun s m => s.each paths fun s p => s.sendFrame p 0x93 ([n] ++ m)) s

/-- Records of a region from a SEQ on, oldest first, at most `count` (R383). -/
def State.ledgerFrom (s : State) (region first count : Nat) : List LedgerRec :=
  (sortBy (fun a b => decide (a.seq ≤ b.seq)) ((s.lgs.records region).filter fun r => decide (first ≤ r.seq))).take count

/-- LEDGER (R383): frames of at most 1,000 records; a frame with NREC 0 ends the answer. -/
def execLedger (p : Fin 5) (seq : BitVec 32) (region : BitVec 8) (first : BitVec 64) (count : BitVec 32) (s : State) : Out :=
  if !s.frameIn p 0x04 seq.toNat (region.toNat :: leBytes 8 first.toNat ++ leBytes 4 count.toNat) then .next s
  else
    let s := s.takeFrame p 13
    let l := if 2 < region.toNat then [] else s.ledgerFrom region.toNat first.toNat (min 1048576 count.toNat)
    let parts := chunks 1000 l.length l ++ [[]]
    .next (parts.foldl (fun s c => s.answerHost p seq.toNat 0x84 (leBytes 2 c.length ++ c.flatMap LedgerRec.bytes)) s)

/-- AFRIL (R358, R370, R383): 0x04 for a node that the plan does not hold, 0x05 with a full queue. -/
def execAfril (p : Fin 5) (seq : BitVec 32) (node : BitVec 8) (message : List (BitVec 8)) (s : State) : Out :=
  if !s.frameIn p 0x05 seq.toNat (node.toNat :: message.map (·.toNat)) then .next s
  else
    let s := s.takeFrame p (1 + message.length)
    if (s.nodeRec node.toNat).isNone then .next (s.answerHost p seq.toNat 0x85 [4])
    else
      let (ok, s) := s.queueDown node.toNat (message.map (·.toNat))
      .next (s.answerHost p seq.toNat 0x85 [if ok then 0 else 5])

/-- The stream of an HMI session (R381). -/
def hmiStream (p : Nat) : Nat := 0x1C00 + p

/-- HMI_SESSION_OPEN (R381, R412): `alert` is the alert that ends a failed TLS handshake; without random bits, the server
key of KS009 or the anchor that the record names every handshake fails. -/
def execHmiSessionOpen (p : Fin 4) (alert : Option (BitVec 8)) (s : State) : Out :=
  if !s.hpuRuns || !s.ntuRuns || decide (s.hmiRec.u16 2 = 0) || decide (s.hmiRec.byte 4 ≤ p.val) || bit s.hpu.sessions p then .next s
  else if !s.hasRoom (hmiStream p) 3 then .next ((s.refuseStream (hmiStream p)).raise 0x1C06 0xFF00)
  else
    let s := s.bindStream (hmiStream p) 3
    let (v, s1) := s.draw
    let keys := (s.slot 9).full && (s.slot (s.hmiRec.byte 5)).full
    let why := match alert with
      | some a => some a.toNat
      | none => if !keys || s.flag .SEC_STATUS_DRBGF 0 || s.failed 0x19 then some (v % 256) else none
    match why with
    | some a => .next ((s1.endStream (hmiStream p)).raise 0x1C06 (0xFF00 + a))
    | none =>
      let s := s.setHpu { s.hpu with sessions := setBit s.hpu.sessions p true, sent := update [] s.hpu.sent p []
                                     seqs := update 0 s.hpu.seqs p 0, subs := update {} s.hpu.subs p {} }
      .next (s.raise2 0x1C05 p 1)

/-- A session ends (R381). -/
def State.closeHmi (s : State) (p : Nat) : State :=
  if !bit s.hpu.sessions p then s
  else ((s.setHpu { s.hpu with sessions := setBit s.hpu.sessions p false, subs := update {} s.hpu.subs p {} }).endStream (hmiStream p)).raise2 0x1C05 p 0

/-- HMI_SESSION_CLOSE (R381, R398). -/
def execHmiSessionClose (p : Fin 4) (s : State) : Out := .next (s.closeHmi p)

/-- A warm reset of the HPU (R378, R381): every session closes, the registers go back to their reset values but for the counters, which count
from the cold reset on (DESIGN CHOICE, log entry 72), and both FIFOs reset. DESIGN CHOICE (log entry 72): the STAT bits ERR and DNOVF and the SEQ
counters of the HMI sessions stay as they are. -/
def State.hpuWarm (s : State) : State :=
  let s := s.each (List.range 4) State.closeHmi
  let s := s.clearUnit .hpu (fun _ => true) [.HPU_COUNT_FRSTS, .HPU_COUNT_DROPS]
  let s := s.setHpu { s.hpu with waiting := [], subs := [] }
  (s.fifoReset false 3).fifoReset true 3

/-- A unit reset of the HPU (R471). -/
def State.hpuReset (s : State) : State := s.hpuWarm

end Sys2Proof.Machine
end

