-- ==== Sys2Proof/Machine/Keys.lean ====
section
/-! DEFINITION. SEC (chapter 15), the key store: slots and their shadows, the firmware's key renewal, the crypto engine's completions,
re-masking, the random bit generator, and the sealing of session records. -/

namespace Sys2Proof.Machine

open Sys2Proof

/-- The life-cycle state (R400). -/
def State.lifeCycle (s : State) : Nat := s.rd .SEC_LC_STATE 0

/-- The slot registers for the slot in SEC_SLOTSEL (R426). -/
def State.showSlot (s : State) : State :=
  let k := s.rd .SEC_SLOTSEL_SLOT 0
  let v := s.slot k
  let s := (s.put .SEC_SLOTATTR_ATTR 0 v.attr).put .SEC_SLOTPEND_PATTR 0 v.pAttr
  let id := s.slotId k
  (s.put .SEC_SLOTID_L 0 (id % 2 ^ 32)).put .SEC_SLOTID_H 0 (id / 2 ^ 32)

/-- A shadow is discarded (R408): 1 test failed, 2 replaced, 3 aborted. -/
def State.dropShadow (s : State) (k why : Nat) : State :=
  let v := s.slot k
  if !bit v.pAttr 15 then s else (s.setSlot k { v with pAttr := 0, pPub := [], pCert := 0, pShares := {} }).raise2 0x1906 k why

/-- A new key in a slot's shadow, and its test operation (R408): 1 generated, 2 loaded. -/
def State.writeShadow (s : State) (k t : Nat) (gen : Bool) (pub : List Nat) (shares : KeyShares) (cert : Nat) (testOk : Bool) : State :=
  let s := s.dropShadow k 2
  let v := s.slot k
  let s := (s.setSlot k { v with pAttr := attrOf k t gen + 2 ^ 15, pPub := pub, pCert := cert, pShares := shares }).raise2 0x1904 k (if gen then 1 else 2)
  if testOk then s.setSlot k { s.slot k with pAttr := (s.slot k).pAttr + 2 ^ 16 } else s.dropShadow k 1

/-- A key that the SEC generates (R405, R406): the private scalar or the symmetric key, its public key and its shares under a random mask. -/
def State.newKey (s : State) (t : Nat) : (Nat × List Nat × KeyShares) × State :=
  let (v, s) := s.randomBits
  let (m, s) := s.randomBits
  let d := if t ≤ 4 then 1 + v % (groupOrder t - 1) else v % 2 ^ keyBits t
  ((d, if t ≤ 4 then publicKey t d else [], KeyShares.ofKey t d m), s)

/-- A flip of a slot's active selector (R408): event 0x1905, and the old and new KEYID. -/
def State.flipSlot (s : State) (k : Nat) (sealed : Bool) : State :=
  let v := s.slot k
  let attr := v.pAttr % 2 ^ 15
  (s.setSlot k { attr := attr, pub := some v.pPub, cert := v.pCert, shares := v.pShares }).raise2 0x1905 k (b2n sealed)

/-- The record of a key change (R421): ACT 1 commit, 2 erase; SRC 0 firmware, 1 sealed. -/
def State.keyRecord (s : State) (k t src act old new scSeq : Nat) : ReqRec :=
  ⟨0x30, s.ltime, [⟨16, 1, k⟩, ⟨17, 1, t⟩, ⟨18, 1, src⟩, ⟨19, 1, act⟩, ⟨20, 8, old⟩, ⟨28, 8, new⟩, ⟨36, 4, scSeq⟩]⟩

/-- FIRMWARE_KEY_GEN (R408, R409): only for REPLACE 1 slots, of a type that the slot takes, with random bits. -/
def execFirmwareKeyGen (slot : Fin 128) (ktype : Fin 16) (testOk : Bool) (s : State) : Out :=
  if replaceOf slot ≠ 1 ∨ ktype.val ∉ typesOf slot ∨ s.randomOk = false ∨ s.appRuns = false then .next s
  else
    let (k, s) := s.newKey ktype
    .next (s.writeShadow slot ktype true k.2.1 k.2.2 0 testOk)

/-- A slot for trust anchors (R403). -/
def isAnchor (k : Nat) : Bool := decide (10 ≤ k ∧ k < 40)

/-- A chain is valid (R415): it ends at an anchor slot with the anchor's hash, has at most four certificates below it, every signature verifies, and
while wall time is valid every certificate lies within its period. -/
def State.chainValid (s : State) (c : CertChain) : Bool :=
  let sec : Int := s.wall / 65536
  (List.range 128).any (fun k => isAnchor k && (s.slot k).full && (s.slot k).cert == c.anchor.toNat) && decide (c.certs.length ≤ 4) &&
    c.certs.all fun x => x.signed && (!s.wallValid || decide ((x.start : Int) ≤ sec ∧ sec ≤ x.stop))

/-- FIRMWARE_KEY_COMMIT (R408, R409): the certificate's subject key equals the shadow's and chains to an anchor. -/
def execFirmwareKeyCommit (slot : Fin 128) (subject : List (BitVec 8)) (chain : CertChain) (s : State) : Out :=
  let v := s.slot slot
  if replaceOf slot ≠ 1 ∨ bit v.pAttr 16 = false ∨ subject.map (·.toNat) ≠ v.pPub ∨ s.chainValid chain = false ∨
    s.failed 0x19 = true ∨ s.appRuns = false then .next s
  else
    let old := s.slotId slot
    let s := s.flipSlot slot false
    .next (s.request 1 [s.keyRecord slot (ktypeOf (s.slot slot).attr) 0 1 old (s.slotId slot) 0])

/-- CRYPTO_OPERATION_DONE (R338, R405, R410): use 0 sign, 1 verify, 2 key agreement, 3 symmetric; an empty slot or a use outside USE
completes with status 3. A signature with KS001 seals the oldest waiting session record. While the SEC counts as failed nothing completes. -/
def execCryptoOperationDone (slot : Fin 128) (use : Fin 4) (error : BitVec 8) (queued : Fin 65) (s : State) : Out :=
  if s.failed 0x19 then .next s
  else
  let v := s.slot slot
  let status := if !v.full || !bit (v.attr / 16) use then 3 else error.toNat
  let s := (s.put .SEC_QUEUE_INQ 0 queued).put .SEC_QUEUE_PEAK 0 (max queued (s.rd .SEC_QUEUE_PEAK 0))
  let s := (s.onlyIf (decide (status ≠ 0)) fun s => s.count .SEC_COUNT_OPERR 0).setSec { s.sec with lastStatus := status }
  .next (if slot.val = 1 ∧ use.val = 0 ∧ status = 0 then s.sealNext else s)

/-- One slot's active and shadow key get new shares (R407). -/
def State.remaskSlot (s : State) (k : Nat) : State :=
  let fresh := fun (s : State) (t : Nat) (f : Nat → KeySlot → KeySlot) =>
    if isMasked t then s.randomBits.2.setSlot k (f s.randomBits.1 (s.slot k)) else s
  let s := fresh s (ktypeOf (s.slot k).attr) fun m v => { v with shares := v.shares.remask (ktypeOf v.attr) m }
  fresh s (ktypeOf (s.slot k).pAttr) fun m v => { v with pShares := v.pShares.remask (ktypeOf v.pAttr) m }

/-- REMASK_PASS (R407, R412): every 60 s of ledger time, while random bits are served. -/
def execRemaskPass (seconds : Nat) (s : State) : Out :=
  if !s.randomOk then .next s
  else
    let due := s.sec.remaskAt + 60 * 65536
    let wait := (due - s.ltime) * 1000000000
    let s := s.moveTo (s.now + (wait + 65535) / 65536)
    let s := (s.setSec { s.sec with remaskAt := s.ltime }).each (List.range 128) State.remaskSlot
    let s := s.put .SEC_REMASK_REMASK 0 (s.rd .SEC_REMASK_REMASK 0 + 1)
    .next (s.onlyIf (decide (10 < seconds)) fun s => s.raise 0x190A (min 0xFF seconds))

/-- DRBG_RESEED (R412): after 65,536 requests, else 60 s after the last. -/
def execDrbgReseed (s : State) : Out :=
  if !s.randomOk then .next s
  else
    let s := if 65536 ≤ s.sec.requests then s else s.moveTo (s.whenLtime (s.sec.reseedAt + 60 * 65536))
    .next (s.setSec { s.sec with reseedAt := s.ltime, requests := 0 })

/-- ENTROPY_TEST_FAILURE (R412): 1 repetition count, 2 adaptive proportion. -/
def execEntropyTestFailure (adaptive : Bool) (s : State) : Out :=
  .next ((s.putFlag .SEC_STATUS_DRBGF 0 true).raise 0x1908 (1 + b2n adaptive))

/-- A sealed-command record (R328, R340). -/
def State.sealedRec (s : State) (cmd result nrec scSeq keyId : Nat) : ReqRec :=
  ⟨0x20, s.ltime, [⟨16, 1, cmd⟩, ⟨17, 1, result⟩, ⟨18, 1, nrec⟩, ⟨20, 4, scSeq⟩, ⟨24, 8, keyId⟩]⟩

/-- A start of the SEC's tests at a cold reset or unit reset (R413): the failed operation row, 0 for none. -/
def State.secStart (s : State) (failedRow : Nat) : State :=
  let s := (s.onlyIf (failedRow == 0) fun s => s.putFlag .SEC_STATUS_DRBGF 0 false).putFlag .SEC_STATUS_FAIL 0 (decide (failedRow ≠ 0))
  s.onlyIf (decide (failedRow ≠ 0)) fun s => s.raise 0x1909 failedRow

end Sys2Proof.Machine
end

