-- ==== Sys2Proof/Machine/Pilot.lean ====
section
/-! DEFINITION. The commands of the pilot measurement (chapter 3), with what the other units do at a confirmed change. -/

namespace Sys2Proof.Machine

open Sys2Proof

/-- Every outlet of the plan is in state A: since when (R40); and the first outlet in state B in Ember (R41). -/
def State.trackIdle (s : State) : State :=
  let s := s.onlyIf (s.bcu.ember && s.bcu.wake.isNone) fun s =>
    { s with bcu := { s.bcu with wake := s.outlets.find? fun n => s.cpState n / 2 == 1 } }
  if s.plan.isSome && s.outlets.all fun n => s.cpState n < 2 then
    if s.bcu.idleSince.isSome then s else { s with bcu := { s.bcu with idleSince := some s.now } }
  else { s with bcu := { s.bcu with idleSince := none } }


/-- A change of the pilot of an outlet, followed by the EFU and the VCE where the confirmed letter changes (R112, R138, R179, R181). -/
def State.withPilot (s : State) (n : Nat) (f : State → State) : State :=
  let old := s.cpState n
  let s := f s
  if letterCode (s.cpState n) = letterCode old then s else ((s.efuPilot n old).vcePilot n).trackIdle

/-- PILOT_PERIOD_BOUNDARY (R75). -/
def execPilotPeriodBoundary (n : Fin 24) (s : State) : Out := .next (s.withPilot n fun s => s.pilotPeriod n)

/-- A sample of the high level (R77, R79): the letter is that of VHI, which a short high phase may leave as it was. -/
def State.pilotHigh (s : State) (n : Nat) (vhi : Int) : State :=
  let s := s.takeVhi n vhi
  if s.measures n then
    let l := s.letterOf n (ofTwos 16 (s.rd .OIU_CPMEAS_VHI n))
    let s := s.runStep n l
    if (s.oiu n).runLen = 5 then s.confirm n l else s
  else s

/-- PILOT_SAMPLE (R77, R79): at the next instant of the sampling grid, 40 kS/s or 80 kS/s in Sprint. -/
def execPilotSample (n : Fin 24) (vhi : Int) (vlo : Option Int) (s : State) : Out :=
  let s := s.moveTo (gridAfter s.samplePeriod s.now (s.oiu n).lastSample)
  let s := s.setOiu n { s.oiu n with lastSample := some s.now }
  .next (s.withPilot n fun s => (s.pilotHigh n vhi).takeLow n vlo)

/-- PILOT_STATE_CONFIRM (R79, R83): the fifth agreeing sample. -/
def execPilotStateConfirm (n : Fin 24) (vhi : Int) (s : State) : Out :=
  .next (s.withPilot n fun s =>
    let s := s.put .OIU_CPMEAS_VHI n (toTwos 16 vhi)
    if s.measures n && !s.isConfirmed n (s.letterOf n vhi) then s.confirm n (s.letterOf n vhi) else s)

/-- LOW_LEVEL_CLASS_CONFIRM (R79): the fifth valid VLO value. -/
def execLowLevelClassConfirm (n : Fin 24) (vlo : Int) (s : State) : Out :=
  .next (s.withPilot n fun s =>
    if !s.pwm n || s.kind n == 3 then s
    else
      let s := s.put .OIU_CPMEAS_VLO n (toTwos 16 vlo)
      if lowClassOf vlo = (s.oiu n).low then s else s.confirmLow n (lowClassOf vlo))

/-- PP_BAND_CONFIRM (R92): five agreeing samples of PP or CS; a megawatt outlet's T1S link may join (R119). -/
def execPpBandConfirm (n : Fin 24) (ohm : Nat) (s : State) : Out := .next ((s.confirmBand n ohm).vceBand n)

end Sys2Proof.Machine
end

