-- ==== Sys2Proof/Machine/PlanRead.lean ====
section
/-! DEFINITION. The Pitch plan's container as bytes: reading it into records (R45 to R53, R64), and the checks of steps 1 to 8 of R55 that
concern the container and the range of every field. -/

namespace Sys2Proof.Machine

open Sys2Proof

/-- Byte `k` of a list. -/
def u8 (l : List Nat) (k : Nat) : Nat := l.getD k 0

/-- The 16-bit little-endian field at `k`. -/
def u16 (l : List Nat) (k : Nat) : Nat := fromLe ((l.drop k).take 2)

/-- The 32-bit little-endian field at `k`. -/
def u32 (l : List Nat) (k : Nat) : Nat := fromLe ((l.drop k).take 4)

/-- The signed 32-bit field at `k`. -/
def s32 (l : List Nat) (k : Nat) : Int := ofTwos 32 (u32 l k)

/-- A section table entry (R48). -/
structure SectEntry where
  id : List Nat
  off : Nat
  len : Nat
  crc : Nat
  deriving DecidableEq, Repr

/-- The section identifiers in order (R48). -/
def sectIds : List (List Nat) := [
  [0x48, 0x45, 0x41, 0x44], [0x4F, 0x55, 0x54, 0x4C], [0x53, 0x45, 0x4E, 0x53], [0x53, 0x4C, 0x43, 0x45],
  [0x53, 0x57, 0x43, 0x48], [0x53, 0x41, 0x46, 0x45], [0x50, 0x45, 0x52, 0x4D], [0x54, 0x41, 0x52, 0x46],
  [0x41, 0x4C, 0x4F, 0x43], [0x4E, 0x45, 0x54, 0x57], [0x44, 0x49, 0x53, 0x50], [0x53, 0x49, 0x47, 0x4E]]

/-- The section table (R48). -/
def sectTable (raw : List Nat) : List SectEntry :=
  (List.range 12).map fun i =>
    let e := (raw.drop (0x40 + 16 * i)).take 16
    ⟨e.take 4, u32 e 4, u32 e 8, u32 e 12⟩

/-- The body of a section. -/
def body (raw : List Nat) (e : SectEntry) : List Nat := (raw.drop e.off).take e.len

/-- Bodies rise from `lo` without overlap, at multiples of 16, with zeros between, and end by `top` (R49). -/
def tableFits (raw : List Nat) (top : Nat) : Nat → List SectEntry → Bool
  | lo, [] => lo == top
  | lo, e :: r =>
    e.off % 16 == 0 && decide (lo ≤ e.off) && decide (e.off + e.len ≤ top) &&
      ((raw.drop lo).take (e.off - lo)).all (· == 0) && tableFits raw top (e.off + e.len) r

/-- Steps 1 to 4 of R55: the reason of the first failure, 0 for none. DESIGN CHOICE (log entry 28): an NSECT other than 12 is rejected at step 3
with 0x06; R55 names no reason for it. -/
def checkContainer (raw : List Nat) (delivered : Nat) : Nat :=
  let tot := u32 raw 0x08
  let t := sectTable raw
  if raw.take 4 ≠ [0x4C, 0x58, 0x50, 0x50] then 0x01
  else if u16 raw 0x04 ≠ 1 ∨ u16 raw 0x06 ≠ 64 then 0x02
  else if u32 raw 0x3C ≠ crc32c (raw.take 0x3C) then 0x03
  else if tot < 512 ∨ 4194304 < tot ∨ tot ≠ delivered then 0x04
  else if u32 raw 0x18 ≠ 0x2464 then 0x05
  else if u16 raw 0x0C ≠ 12 ∨ t.map (·.id) ≠ sectIds ∨ tableFits raw tot 0x100 t = false then 0x06
  else if (t.take 11).any fun e => crc32c (body raw e) != e.crc then 0x07
  else 0

/-- The record lists of the eleven sections before SIGN: RECSIZE bytes each after the section head (R50). -/
def records (raw : List Nat) (i : Nat) : List (List Nat) :=
  let b := match (sectTable raw)[i]? with
    | some e => body raw e
    | none => []
  (List.range (u16 b 2)).map fun k => (b.drop (8 + k * u16 b 0)).take (u16 b 0)

/-- RECSIZE and the least and largest NREC of the eleven sections (R50); NOUTL of OUTL is a matter of step 10. -/
def sectShape : List (Nat × Nat × Nat) :=
  [(16, 1, 1), (32, 0, 65535), (24, 1, 64), (16, 0, 65535), (12, 1, 32), (32, 1, 16), (16, 1, 4096), (32, 1, 17), (24, 1, 512), (64, 1, 256), (16, 1, 1)]

/-- The first half of step 8: RECSIZE, NREC, SECVER and LENGTH of every section (R50), reason 0x0A. -/
def shapesOk (raw : List Nat) : Bool :=
  ((sectTable raw).zip sectShape).all fun (e, size, lo, hi) =>
    let b := body raw e
    u16 b 0 == size && decide (lo ≤ u16 b 2) && decide (u16 b 2 ≤ hi) && u16 b 4 == 1 && u16 b 6 == 0 && e.len == 8 + u16 b 2 * size

/-- Bytes `lo` to `hi` are reserved and zero. -/
def zeros (r : List Nat) (lo hi : Nat) : Bool := ((r.drop lo).take (hi + 1 - lo)).all (· == 0)

/-- A number at most `top`, or 0xFF for none. -/
def orNone (top v : Nat) : Bool := decide (v ≤ top) || v == 0xFF

/-- A number within a range. -/
def within (lo hi v : Nat) : Bool := decide (lo ≤ v) && decide (v ≤ hi)

/-- Field ranges of HEAD (R50, R144). -/
def headOk (r : List Nat) : Bool :=
  decide (u8 r 0 ≤ 2) && decide (u8 r 1 ≤ 1) && within 60 3600 (u16 r 2) && within 20 1000 (u16 r 4) && decide (u8 r 6 ≤ 2) && zeros r 8 15

/-- The rest of a UTF-8 text, of whose character `n` more bytes follow, the next one from `lo` to `hi`. -/
def utf8From : Nat → Nat → Nat → List Nat → Bool
  | n, _, _, [] => n == 0
  | n + 1, lo, hi, b :: r => within lo hi b && utf8From n 0x80 0xBF r
  | 0, _, _, b :: r =>
    if b < 0x80 then utf8From 0 0 0 r
    else if within 0xC2 0xDF b then utf8From 1 0x80 0xBF r
    else if b = 0xE0 then utf8From 2 0xA0 0xBF r
    else if b = 0xED then utf8From 2 0x80 0x9F r
    else if within 0xE1 0xEF b then utf8From 2 0x80 0xBF r
    else if b = 0xF0 then utf8From 3 0x90 0xBF r
    else if within 0xF1 0xF3 b then utf8From 3 0x80 0xBF r
    else b == 0xF4 && utf8From 3 0x80 0x8F r

/-- UTF-8 text, zero-padded (R50). -/
def textOk (l : List Nat) : Bool :=
  let t := l.takeWhile (· ≠ 0)
  utf8From 0 0 0 t && (l.drop t.length).all (· == 0)

/-- Field ranges of an OUTL record (R50, R99). -/
def outlOk (r : List Nat) : Bool :=
  decide (u8 r 0 ≤ 23) && decide (u8 r 1 ≤ 4) && decide (u8 r 2 < 64) &&
    (if u8 r 1 ≤ 1 then u8 r 3 == 1 || u8 r 3 == 3 else u8 r 3 == 0) && decide (u16 r 6 ≤ 1500) &&
    orNone 31 (u8 r 12) && orNone 31 (u8 r 13) && orNone 31 (u8 r 14) && orNone 23 (u8 r 15) && orNone 11 (u8 r 16) && decide (u8 r 17 ≤ 3) &&
    within 40 120 (u8 r 18) && within (u8 r 18 + 5) 150 (u8 r 19) && zeros r 21 31

/-- Field ranges of a SENS record (R50). -/
def sensOk (r : List Nat) : Bool :=
  decide (u8 r 0 ≤ 63) && (decide (u8 r 1 ≤ 23) || u8 r 1 == 0xFE || u8 r 1 == 0xFF) && decide (u8 r 2 ≤ 9) && decide (u8 r 3 ≤ 4) &&
    decide (u8 r 4 ≤ 3) && orNone 63 (u8 r 5) && within 1 256 (u16 r 6) && orNone 15 (u8 r 20) && zeros r 21 23 &&
    (u8 r 2 != 9 || within 1 100000 (u32 r 12))

/-- Field ranges of an SLCE record (R64). -/
def slceOk (r : List Nat) : Bool :=
  decide (u8 r 1 ≤ 5) &&
    match u8 r 0 with
    | 1 => zeros r 12 15
    | 2 => within 1 15 (u8 r 2) && within 1 64 (u8 r 3) && zeros r 8 15
    | 3 => decide (u8 r 6 ≤ 15) && decide (u8 r 7 ≤ 1)
    | _ => false

/-- Field ranges of a SWCH record (R50). -/
def swchOk (r : List Nat) : Bool :=
  decide (u8 r 0 ≤ 31) && decide (u8 r 1 ≤ 7) && orNone 23 (u8 r 2) && within 1 15 (u8 r 6) && decide (u8 r 7 ≤ 3) && within 1 50 (u8 r 8) && zeros r 9 11

/-- Field ranges of a SAFE record (R50, R253, R254). -/
def safeOk (r : List Nat) : Bool :=
  let pat := u8 r 7
  let two := pat == 2 || pat == 3 || pat == 4
  within 1 4 (u8 r 0) && decide (u8 r 1 ≤ 1) && decide (u8 r 2 < 16) && decide (u8 r 3 < 4) && orNone 15 (u8 r 4) && decide (u8 r 5 ≤ 15) &&
    within 1 5 pat && (if two then decide (u8 r 6 ≤ 15) else u8 r 6 == 0xFF) && (if pat = 4 then u8 r 8 == 0xFF else decide (u8 r 8 ≤ 3)) &&
    orNone 3 (u8 r 9) && ((pat != 2 && pat != 3) || (u8 r 9 != 0xFF && u8 r 8 != u8 r 9)) && within 4 12 (u8 r 10) && orNone 15 (u8 r 11) &&
    (if u8 r 1 = 1 then within 10 5000 (u16 r 16) else u16 r 16 == 0) && (if two then within 10 1000 (u16 r 18) else u16 r 18 == 0) &&
    ((u8 r 0 == 4) == (pat == 5)) && (u8 r 3 % 2 == 0 || u8 r 4 != 0xFF) &&
    match u8 r 0 with
    | 1 => zeros r 20 31
    | 2 => orNone 15 (u8 r 20) && u8 r 21 == 0 && decide (u16 r 22 ≤ 60000) && zeros r 24 31
    | 3 => orNone 15 (u8 r 20) && orNone 15 (u8 r 21) && within 50 4000 (u16 r 22) && within 1 600 (u16 r 24) && zeros r 26 31
    | _ => orNone 15 (u8 r 20) && orNone 15 (u8 r 21) && within 13 25 (u8 r 22) && decide (u8 r 23 ≤ 3)

/-- Inputs that a SAFE record binds apart from its reset and monitoring inputs. -/
def safeInputs (r : List Nat) : List Nat :=
  let f := match u8 r 0 with | 2 => [u8 r 20] | 3 => [u8 r 20, u8 r 21] | 4 => [u8 r 20, u8 r 21] | _ => []
  (u8 r 5 :: u8 r 6 :: f).filter (· ≠ 0xFF)

/-- A list without repeats. -/
def distinct (l : List Nat) : Bool := l.eraseDups.length == l.length

/-- The rules of R254 over all SAFE records and the SWCH records. -/
def safeSetOk (safe swch : List (List Nat)) : Bool :=
  let plain := safe.flatMap safeInputs
  let rst := (safe.map (u8 · 4)).filter (· ≠ 0xFF)
  let edm := safe.filter fun r => u8 r 11 != 0xFF
  let perm := safe.foldl (fun m r => m ||| u32 r 12) 0
  distinct plain && plain.all (fun i => !rst.contains i && !(edm.map (u8 · 11)).contains i) && rst.all (fun i => !(edm.map (u8 · 11)).contains i) &&
    edm.all (fun r => edm.all fun q => u8 q 11 != u8 r 11 || u8 q 2 == u8 r 2) &&
    perm == maskOf (((swch.filter fun r => bit (u8 r 7) 1).map (u8 · 0)).eraseDups)

/-- Field ranges of a PERM record (R50). -/
def permOk (r : List Nat) : Bool :=
  let t := u8 r 0
  (within 0x01 0x05 t || within 0x10 0x1E t || within 0x30 0x33 t) && decide (u8 r 1 ≤ 21) && decide (u8 r 2 < 4) && u8 r 3 == 0 && zeros r 12 15

/-- Field ranges of a TARF record (R50, R305). -/
def tarfOk (r : List Nat) : Bool :=
  let iv := u8 r 3
  let sub := u8 r 4
  decide (u8 r 0 ≤ 16) && decide (u8 r 1 ≤ 2) && decide (u8 r 2 ≤ 2) && [5, 10, 15, 30, 60].contains iv && within 1 15 sub && iv * 60 % sub == 0 &&
    (sub == 1 || u8 r 2 == 2) && zeros r 5 7 && ((r.drop 12).take 3).all (· < 0x80) && u8 r 15 == 0 && textOk ((r.drop 16).take 16)

/-- Field ranges of an ALOC record (R203 to R205). -/
def alocOk (r : List Nat) : Bool :=
  let rule := u8 r 0
  let scope := u8 r 1
  let site := scope == 0xFE
  let out := decide (scope ≤ 23)
  let fl := u8 r 3
  let v1 := s32 r 4
  let v2 := s32 r 8
  let v3 := s32 r 12
  let time := u32 r 16
  let whole := time == 0
  let timeOk := whole || (decide (time % 2048 ≤ 1439) && within 1 1440 (time / 2048 % 2048) && decide (time / 2 ^ 29 = 0))
  let pos := fun (v : Int) => decide (0 ≤ v)
  timeOk && zeros r 20 23 && (if rule = 5 then decide (u8 r 2 ≤ 15) else u8 r 2 == 0) &&
    match rule with
    | 1 => site && whole && fl == 0 && decide (1 ≤ v1 ∧ v1 ≤ 2000000000) && pos v2 && pos v3 && decide (2 * v3 ≤ v1)
    | 2 => site && fl == 0 && pos v1 && decide (v2 = 5 ∨ v2 = 10 ∨ v2 = 15 ∨ v2 = 30 ∨ v2 = 60) && decide (0 ≤ v3 ∧ v3 ≤ 16)
    | 3 => out && fl == 0 && pos v1 && pos v2 && v3 == 0
    | 4 => out && fl == 0 && pos v1 && v2 == 0 && v3 == 0
    | 5 => out && fl == 0 && v1 == 0 && v2 == 0 && v3 == 0
    | 6 => site && whole && decide (fl < 8) && decide (0 ≤ v1 ∧ v1 ≤ 255) && decide (0 ≤ v2 ∧ v2 ≤ 1000) && decide (0 ≤ v3 ∧ v3 ≤ 1000)
    | 7 => site && whole && decide (fl < 2) && decide (0 ≤ v1 ∧ v1 ≤ 255) && pos v2 && v3 == 0
    | 8 => out && decide (fl < 4) && pos v1 && decide (0 ≤ v2 ∧ v2 ≤ 100) && v3 == 0
    | 9 => out && fl == 0 && decide (0 ≤ v1 ∧ v1 ≤ 1439) && pos v2 && v3 == 0
    | 10 => site && whole && fl == 0 && pos v1 && v2 == 0 && v3 == 0
    | 11 => (site || out) && fl == 0 && pos v1 && v2 == 0 && v3 == 0
    | _ => false

/-- Field ranges of a NETW record (R50, R366, R394). -/
def netwOk (r : List Nat) : Bool :=
  match u8 r 0 with
  | 1 =>
    if u8 r 1 = 0xFF then decide (u8 r 2 < 4) && decide (u8 r 3 ≤ 128) && zeros r 6 7 && zeros r 56 63
    else decide (u8 r 1 ≤ 3) && decide (u8 r 2 ≤ 2) && decide (u8 r 3 ≤ 1) && within 1 4094 (u16 r 4) && zeros r 10 63
  | 2 => decide (u8 r 2 ≤ 2) && decide (u8 r 3 < 4) && within 0 4 (toTwos 8 (-(ofTwos 8 (u8 r 4)))) && within 2 10 (u8 r 5) && within 100 100000 (u32 r 8) &&
    zeros r 6 7 && zeros r 12 63
  | 3 => decide (u8 r 1 ≤ 3) && (match u8 r 2 with
    | 0 => within 125000 1000000 (u32 r 4) && decide (u32 r 8 ≤ 5000000) && within 600 900 (u16 r 12) && within 600 900 (u16 r 14) && zeros r 3 3 &&
      zeros r 16 63
    | 1 => decide (u8 r 3 < 4) && within 10 1000 (u16 r 12) && zeros r 14 63
    | _ => false)
  | 4 => decide (u8 r 1 ≤ 2) && within 1 247 (u8 r 2) && decide (u8 r 3 ≤ 2) && (u8 r 1 == 2 || [9600, 19200, 38400, 57600, 115200].contains (u32 r 4)) && within 20 1000 (u16 r 8) &&
    zeros r 28 63
  | 5 => decide (u8 r 1 ≤ 2) && within 1 3 (u8 r 2) && decide (u8 r 3 ≤ 127) && textOk ((r.drop 4).take 60) &&
    ((r.drop 4).take 5 == [0x77, 0x73, 0x3A, 0x2F, 0x2F] || (r.drop 4).take 6 == [0x77, 0x73, 0x73, 0x3A, 0x2F, 0x2F])
  | 6 => decide (u8 r 1 < 4) && within 1 4 (u8 r 4) && decide (u8 r 5 ≤ 127) && within 10 600 (u16 r 6) && zeros r 8 63
  | 7 => (match u8 r 1 with
    | 0 => decide (u8 r 2 ≤ 1) && decide (u8 r 3 ≤ 2) && decide (u8 r 4 < 4) && within 1 4 (u8 r 5) && decide (u8 r 6 ≤ 30) && zeros r 7 63
    | 1 => within 1 62 (u8 r 2) && decide (u8 r 3 ≤ 1) && decide (u8 r 4 ≤ 95) && within 1 8 (u8 r 5) && decide (u8 r 6 ≤ 1) && decide (u8 r 7 ≤ 3) && zeros r 18 63
    | _ => false)
  | _ => false

/-- Field ranges of the DISP record (R50, R429). -/
def dispOk (r : List Nat) : Bool :=
  within 32 200 (u16 r 0) && within 1 320 (u16 r 2) && within 100 400 (u16 r 4) && within 100 500 (u16 r 6) && within 15 45 (u8 r 8) && within 3 15 (u8 r 9) &&
    decide (u8 r 12 ≤ 1) && zeros r 13 15

/-- The second half of step 8: every field within its range (R46, R50), reason 0x0B. -/
def fieldsOk (raw : List Nat) : Bool :=
  u16 raw 0x0E == 0 && u32 raw 0x14 != 0 && (records raw 0).all headOk && (records raw 1).all outlOk && (records raw 2).all sensOk &&
    (records raw 3).all slceOk && (records raw 4).all swchOk && (records raw 5).all safeOk && safeSetOk (records raw 5) (records raw 4) &&
    (records raw 6).all permOk && (records raw 7).all tarfOk && (records raw 8).all alocOk && (records raw 9).all netwOk && (records raw 10).all dispOk

/-- The plan as data. -/
def readPlan (raw : List Nat) : Plan :=
  let t := sectTable raw
  let one := fun (i : Nat) => ((records raw i).head?).getD []
  let h := one 0
  let d := one 10
  { planId := u32 raw 0x10, planVer := u32 raw 0x14, siteId := (raw.drop 0x24).take 16, safeCv := u32 raw 0x34, legalCv := u32 raw 0x38
    crcs := t.map (·.crc)
    head := ⟨u8 h 0, u8 h 1, u16 h 2, u16 h 4, u8 h 6, u8 h 7⟩
    outl := (records raw 1).map fun r => ⟨u8 r 0, u8 r 1, u8 r 2, u8 r 3, u16 r 4, u16 r 6, u32 r 8, u8 r 12, u8 r 13, u8 r 14, u8 r 15, u8 r 16, u8 r 17, u8 r 18, u8 r 19, u8 r 20⟩
    sens := (records raw 2).map fun r => ⟨u8 r 0, u8 r 1, u8 r 2, u8 r 3, u8 r 4, u8 r 5, u16 r 6, u32 r 8, u32 r 12, u32 r 16, u8 r 20⟩
    frames := ((records raw 3).filter fun r => u8 r 0 == 1).map fun r => ⟨u8 r 1, u16 r 2, u32 r 4, u32 r 8⟩
    classes := ((records raw 3).filter fun r => u8 r 0 == 2).map fun r => ⟨u8 r 1, u8 r 2, u8 r 3, u32 r 4⟩
    slices := ((records raw 3).filter fun r => u8 r 0 == 3).map fun r => ⟨u8 r 1, u16 r 2, u16 r 4, u8 r 6, u8 r 7, u32 r 8, u32 r 12⟩
    swch := (records raw 4).map fun r => ⟨u8 r 0, u8 r 1, u8 r 2, u8 r 3, u16 r 4, u8 r 6, u8 r 7, u8 r 8⟩
    safe := (records raw 5).map fun r => ⟨u8 r 0, u8 r 1, u8 r 2, r.drop 3⟩
    perm := (records raw 6).map fun r => ⟨u8 r 0, u8 r 1, u8 r 2, u32 r 4, u32 r 8⟩
    tarf := (records raw 7).map fun r => ⟨u8 r 0, u8 r 1, u8 r 2, u8 r 3, u8 r 4, u32 r 8, fromLe ((r.drop 12).take 3), r.drop 16⟩
    aloc := (records raw 8).map fun r => ⟨u8 r 0, u8 r 1, u8 r 2, u8 r 3, s32 r 4, s32 r 8, s32 r 12, u32 r 16⟩
    netw := (records raw 9).map fun r => ⟨u8 r 0, r.drop 1⟩
    disp := ⟨u16 d 0, u16 d 2, d.drop 4⟩
    raw := raw }

/-- The signed bytes, and the algorithm and signature of SIGN (R52, R53). -/
def signParts (raw : List Nat) : List Nat × Nat × List Nat :=
  match (sectTable raw)[11]? with
  | none => ([], 0, [])
  | some e => (raw.take e.off, u8 (body raw e) 0, ((body raw e).drop 8).take (u16 (body raw e) 2))

/-- The SIGN block is well formed (R52). -/
def signOk (raw : List Nat) : Bool :=
  match (sectTable raw)[11]? with
  | none => false
  | some e =>
    let b := body raw e
    e.len == 144 && u8 b 1 == 0 && u16 b 4 == 4 && u16 b 6 == 0 &&
      (match u8 b 0 with | 2 => u16 b 2 == 96 | 3 => u16 b 2 == 132 | 4 => u16 b 2 == 114 | _ => false) && zeros b (8 + u16 b 2) 143

end Sys2Proof.Machine
end

