-- ==== Sys2Proof/Machine/PlanCheck.lean ====
section
/-! DEFINITION. Steps 9 to 11 of R55 on a plan as data: the check values, the cross-references and profile limits, and the slice
arithmetic, with the checks that the units' chapters add to them. -/

namespace Sys2Proof.Machine

open Sys2Proof

/-- SAFECV and LEGALCV recomputed (R46, step 9): 0x0D, 0x0E. -/
def checkValues (raw : List Nat) : Nat :=
  let b := fun (i : Nat) => match (sectTable raw)[i]? with
    | some e => body raw e
    | none => []
  if crc32c (b 5) ≠ u32 raw 0x34 then 0x0D else if crc32c (b 7 ++ b 2) ≠ u32 raw 0x38 then 0x0E else 0

/-- The contactor channels of an outlet (R56). -/
def Plan.contactOk (p : Plan) (o : OutlRec) (c : Nat) : Bool :=
  c == 0xFF || p.swch.any fun s => s.ch == c && s.func == 1 && s.outlet == o.outlet && bit s.flags 1

/-- The outlets' cross-references (R56, R93, R190, R193, R205). -/
def Plan.outletsOk (p : Plan) : Bool :=
  let rcms := (p.outl.map (·.rcm)).filter (· ≠ 0xFF)
  let mods := (p.outl.map (·.module)).filter (· ≠ 0xFF)
  p.head.nOutl == p.outl.length && distinct (p.outl.map (·.outlet)) &&
    p.outl.all (fun o =>
      (if o.kind ≤ 1 then o.rcm != 0xFF && o.imd == 0xFF else o.imd != 0xFF) && p.contactOk o o.cont0 && p.contactOk o o.cont1 &&
        (o.lockCh == 0xFF || (o.lockCh % 8 != 7 && [o.lockCh, o.lockCh + 1].all fun c => p.swch.any fun s => s.ch == c && s.func == 2)) &&
        (o.module == 0xFF || (p.netw[o.module]?).any fun t => t.type == 3 && t.byte 2 == 1)) &&
    distinct rcms && distinct mods &&
    (List.range 12).all fun k =>
      let l := p.outl.filter fun o => o.imd == k
      decide (l.length ≤ 2) && decide ((l.map (·.vmax)).eraseDups.length ≤ 1)

/-- The sensors that a channel's quantity takes (R147). -/
def sensorTakes (sensor qty : Nat) : Bool :=
  match sensor with
  | 0 => within 4 8 qty
  | 1 => within 4 7 qty
  | 2 => within 4 7 qty
  | 3 => decide (qty ≤ 3)
  | _ => qty == 9

/-- The metering channels' cross-references (R147). -/
def Plan.sensorsOk (p : Plan) : Bool :=
  let pls := (p.sens.filter fun s => s.sensor == 4).map (·.pls)
  pls.all (· ≤ 15) && distinct pls &&
    p.sens.all fun s =>
      sensorTakes s.sensor s.qty && (!(s.qty == 7 || s.qty == 9) || s.pair == 0xFF) &&
        (!(within 4 6 s.qty || s.qty == 8) || p.sens.any fun v =>
          v.ch == s.pair && (if s.qty = 8 then v.qty == 3 else decide (v.qty ≤ 2)) && (v.outlet == s.outlet || v.outlet == 0xFE) && v.rate == s.rate) &&
        (s.qty == 9 || decide (23 < s.outlet) || p.sens.all fun v => v.qty == 9 || v.outlet != s.outlet || v.rate == s.rate) &&
        decide ((p.sens.filter fun c => c.pair == s.ch && c.qty != 9).length ≤ 24)

/-- The switch channels (R230): the ramp in µs within the inrush window, and VNOM. -/
def Plan.switchesOk (p : Plan) : Bool :=
  p.swch.all fun s =>
    decide ((if s.slew = 0 then 20 else s.slew * 100) ≤ s.inrushMs * 1000) && (s.vnom == 0 || within 9000 32000 s.vnom)

/-- The tariffs (R305). -/
def Plan.tariffsOk (p : Plan) : Bool :=
  (p.tarf.map (·.tariff)).contains 0 && distinct (p.tarf.map (·.tariff)) && decide ((p.tarf.map (·.currency)).eraseDups.length ≤ 1)

/-- An offset range that meets a window. -/
def PermRec.meets (r : PermRec) (lo hi : Nat) : Bool := decide (r.start ≤ hi) && decide (lo ≤ r.stop)

/-- The permit records (R56, R423, R424). -/
def Plan.permitsOk (p : Plan) : Bool :=
  p.perm.all (fun r =>
    let w := bit r.access 1
    !(w && r.target == 0x17 && r.master != 17) &&
      !(w && r.target == 0x03 && r.master != 0 && r.meets 0x008 0x00B) &&
      !(w && r.target == 0x04 && r.meets 0xF000 0xFFFF) &&
      !(w && r.target == 0x12 && r.meets 0x70000 0x70FFF) &&
      !(w && r.target == 0x14 && r.meets 0x70000 0x70FFF) &&
      !(w && r.target == 0x15 && r.meets 0x3F000 0x3F0FF) &&
      !(r.access != 0 && r.target == 0x19 && r.meets 0x40000 0x7FFFF)) &&
    (p.perm.map (·.target)).eraseDups.all fun t => decide ((p.perm.filter fun r => r.target == t).length ≤ 128)

/-- The records of one allocation rule. -/
def Plan.rule (p : Plan) (k : Nat) : List AlocRec := p.aloc.filter fun r => r.rule == k

/-- The sum of the largest floor of each outlet. -/
def Plan.floors (p : Plan) : Int :=
  ((List.range 24).map fun n => ((p.rule 4).filter fun r => r.scope == n).foldl (fun m r => max m r.v1) 0).sum

/-- The allocation rules (R205). -/
def Plan.allocOk (p : Plan) : Bool :=
  let paired := p.sens.any fun s => s.outlet == 0xFE && (within 4 6 s.qty || s.qty == 8) && s.pair != 0xFF
  let base := ((p.rule 10).head?.map (·.v1)).getD 0
  let named := fun (r : AlocRec) => (p.netw[r.v1.toNat]?).any fun t => t.type == 4
  (p.rule 1).length == 1 && decide ((p.rule 6).length ≤ 1) && decide ((p.rule 7).length ≤ 1) && decide ((p.rule 10).length ≤ 1) &&
    (p.rule 6).all named && (p.rule 7).all named && ((p.rule 10).isEmpty == paired) &&
    (p.rule 8).all (fun r => p.outl.any fun o => o.outlet == r.scope && bit o.proto 4) &&
    (p.rule 1).all fun g => decide (p.floors ≤ g.v1 - g.v3 - base)

/-- The NETW records of a type. -/
def Plan.net (p : Plan) (t : Nat) : List NetwRec := p.netw.filter fun r => r.type == t

/-- The network records (R394, R415). -/
def Plan.networkOk (p : Plan) : Bool :=
  let cans := (p.net 3).filter fun r => r.byte 2 == 0
  let tmpl := (p.net 3).filter fun r => r.byte 2 == 1
  let anchor := fun (a : Nat) => within 10 39 a
  distinct ((p.net 1).map (·.byte 1)) && decide ((p.net 2).length ≤ 1) && decide ((p.net 6).length ≤ 1) && decide ((p.net 4).length ≤ 16) &&
    decide ((p.net 5).length ≤ 2) && distinct (cans.map (·.byte 1)) && decide (tmpl.length ≤ 24) &&
    tmpl.all (fun t => (cans.map (·.byte 1)).contains (t.byte 1)) &&
    (List.range 4).all (fun k => distinct ((tmpl.filter fun t => t.byte 1 == k).flatMap fun t => [t.u32 4, t.u32 8])) &&
    (p.net 4).all (fun r => (p.net 4).all fun q => r.byte 1 == 2 || q.byte 1 != r.byte 1 || (q.byte 3 == r.byte 3 && q.u32 4 == r.u32 4)) &&
    (p.net 5).all (fun r => r.byte 2 == 1 || anchor (r.byte 3)) && (p.net 6).all fun r => anchor (r.byte 5)

/-- The Afril records (R366). -/
def Plan.afrilOk (p : Plan) : Bool :=
  let nets := (p.net 7).filter fun r => r.byte 1 == 0
  let nodes := (p.net 7).filter fun r => r.byte 1 == 1
  match nets with
  | [] => nodes.isEmpty
  | [g] =>
    let wide := g.byte 2 == 1
    let span := g.byte 3
    let carriers := nodes.flatMap fun r => (List.range (r.byte 5)).map (· + r.byte 4)
    distinct (nodes.map (·.byte 2)) && distinct (nodes.map fun r => r.u32 8 + 2 ^ 32 * r.u32 12) && decide (nodes.length ≤ 62) &&
      (if wide then distinct carriers && carriers.all (· ≤ 95) && (span != 0 || nodes.all fun r => decide (2 ≤ r.byte 5))
       else span != 0 && nodes.all fun r => r.byte 5 == 1) &&
      decide (g.byte 5 ≤ (if span = 2 then 2 else 4)) && nodes.all fun r => bit (g.byte 4) (r.byte 3)
  | _ => false

/-- Step 10, reason 0x0C. -/
def Plan.crossOk (p : Plan) : Bool :=
  p.outletsOk && p.sensorsOk && p.switchesOk && p.tariffsOk && p.permitsOk && p.allocOk && p.networkOk && p.afrilOk &&
    (!bit (p.disp.byte 12) 0 || decide (176 ≤ p.disp.cols))

/-- The RATE that R39 gives a channel: Heavy runs the current and voltage channels of its megawatt outlets at 64 kS/s. -/
def Plan.rateOf (p : Plan) (s : SensRec) : Nat :=
  match p.head.profile with
  | 0 => 1
  | 1 => 2
  | _ => if (p.outl.any fun o => o.outlet == s.outlet && o.kind == 3) && ((s.qty == 8 && s.sensor == 0) || (s.qty == 3 && s.sensor == 3)) then 3 else 0

/-- Step 10, reason 0x10: the profile limits (R56, R144). -/
def Plan.profileOk (p : Plan) : Bool :=
  let top := match p.head.modClk with | 0 => 3 | 1 => 2 | _ => 1
  decide (p.outl.length ≤ (if p.head.profile = 1 then 12 else 24)) &&
    p.outl.all (fun o => o.kind != 3 || (p.head.profile == 2 && decide (o.outlet ≤ 7))) &&
    p.sens.all fun s => s.rate == p.rateOf s && decide (s.rate ≤ top)

/-- One engine's slice arithmetic (R64, R66). DESIGN CHOICE (log entry 28): a wrong NSLICE, an INDEX that does not ascend and a missing or second
frame record are rejected at step 11; the order of the records across engines and types is not checked; a slice whose CLASS and FLAGS[0] disagree is
taken as background, with neither PROOF nor SPS checked. -/
def Plan.engineOk (p : Plan) (e : Nat) : Bool :=
  let fr := p.frames.filter fun f => f.engine == e
  let cl := p.classes.filter fun c => c.engine == e
  let sl := p.slices.filter fun x => x.engine == e
  let live := sl.filter fun x => !bit x.flags 0 && x.cls != 0
  match fr with
  | [f] =>
    f.overhead + (sl.map (·.len)).sum == f.frame && sl.length == f.nSlice && distinct (cl.map (·.cls)) &&
      (sl.zip (sl.drop 1)).all (fun (a, b) => decide (a.index < b.index)) &&
      live.all fun x =>
        match cl.find? fun c => c.cls == x.cls with
        | none => false
        | some c =>
          decide (x.proof ≤ c.budget) &&
            (x.stream == 0xFFFF || ((live.filter fun y => y.stream == x.stream && y.cls == x.cls).length == c.sps && live.all fun y => y.stream != x.stream || y.cls == x.cls))
  | _ => false

/-- Engine 2 has a slice of class `cls` for every stream named: the one bound to it, or an open one (R193). -/
def Plan.slicesFor (p : Plan) (cls : Nat) (streams : List Nat) : Bool :=
  let l := (p.slices.filter fun x => x.engine == 2 && x.cls == cls && !bit x.flags 0).map (·.stream)
  decide ((streams.filter fun k => !l.contains k).length ≤ (l.filter (· == 0xFFFF)).length)

/-- Engine 3 has the antennas' frame: four slices of class 1, one for each antenna (R275). DEDUCED (log entry 28): a plan with another frame fails
step 11 of R55. -/
def Plan.antennasOk (p : Plan) : Bool :=
  (p.frames.filter fun f => f.engine == 3).all (fun f => f.frame == 80000000 && f.overhead == 400000 && f.nSlice == 4) &&
    (p.classes.filter fun c => c.engine == 3 && c.cls == 1).all (fun c => c.sps == 1 && c.budget == 300000000) &&
    (p.slices.filter fun x => x.engine == 3).zipIdx.all fun (x, k) =>
      x.index == k && x.cls == 1 && !bit x.flags 0 && x.len == 19900000 && x.proof == 249760000 && (x.stream == 0xFFFF || x.stream == 0x1800 + k)

/-- The pass length of R349 in engine cycles (R367). -/
def passCycles (wide : Bool) (span : Nat) : Nat :=
  match wide, span with
  | true, 0 => 12000000
  | true, 1 => 20000000
  | true, _ => 36000000
  | false, 1 => 27680000
  | false, _ => 43680000

/-- Step 11, reason 0x0F (R66, R193, R367, R410). -/
def Plan.slicesOk (p : Plan) : Bool :=
  let bound := ((p.slices.filter fun x => x.engine == 0 && x.stream != 0xFFFF).map fun x => (x.stream, x.cls)).eraseDups
  let want := p.sens.map fun s => (0x1200 + s.ch, s.rate + 1)
  (List.range 6).all p.engineOk && p.antennasOk && bound.all want.contains && want.all bound.contains && distinct (p.sens.map (·.ch)) &&
    p.slicesFor 1 (((p.outl.map (·.rcm)).filter (· ≠ 0xFF)).map (0x1300 + ·)) &&
    p.slicesFor 2 (((p.outl.map (·.imd)).filter (· ≠ 0xFF)).eraseDups.map (0x1318 + ·)) &&
    decide ((p.slices.filter fun x => x.engine == 4 && !bit x.flags 0 && x.cls != 0).length ≤ 56) &&
    ((p.net 7).filter fun r => r.byte 1 == 0).all fun g =>
      p.frames.any fun f => f.engine == 5 && f.frame == passCycles (g.byte 2 == 1) (g.byte 3)

/-- Steps 8 to 11 of R55 on a container that has passed steps 1 to 7: the reason of the first failure, 0 for none. -/
def checkContents (raw : List Nat) : Nat :=
  let p := readPlan raw
  if !shapesOk raw then 0x0A
  else if !fieldsOk raw then 0x0B
  else if checkValues raw ≠ 0 then checkValues raw
  else if !p.crossOk then 0x0C
  else if !p.profileOk then 0x10
  else if !p.slicesOk then 0x0F
  else 0

end Sys2Proof.Machine
end

