-- ==== Sys2Proof/Machine/Pitch.lean ====
section
/-! DEFINITION. PPL (chapter 2): delivery, verification, staging, the change classes, and the activation of a plan in every unit. -/

namespace Sys2Proof.Machine

open Sys2Proof

/-- PPL state set. -/
def State.setPpl (s : State) (v : Ppl) : State := { s with ppl := v }

/-- The PPL registers that follow the active and the staged plan (R54, R70). -/
def State.showPpl (s : State) : State :=
  let a := s.plan
  let g := s.ppl.staged
  let s := (((s.put .PPL_PLANID_PLANID 0 ((a.map (·.planId)).getD 0)).put .PPL_PLANVER_PLANVER 0 ((a.map (·.planVer)).getD 0)).put
    .PPL_SAFECV_SAFECV 0 ((a.map (·.safeCv)).getD 0)).put .PPL_LEGALCV_LEGALCV 0 ((a.map (·.legalCv)).getD 0)
  let s := (s.put .PPL_STGVER_STGVER 0 ((g.map (·.planVer)).getD 0)).put .PPL_STGSAFECV_STGSAFECV 0 ((g.map (·.safeCv)).getD 0)
  s.each (List.range 12) fun s i => s.put .PPL_SECTCRC_CRC i ((a.map fun p => if i = 11 then 0 else p.crcs.getD i 0).getD 0)

/-- STATE (R70): verifying while a complete delivery or a staged plan is checked, receiving during a delivery, then that of the staged plan: staged, or what
a commanded activation awaits. -/
def State.showStaged (s : State) : State :=
  let st := if s.ppl.delivered || s.ppl.again then 2 else if !s.ppl.staging.isEmpty then 1 else if s.ppl.staged.isNone then 0 else
    match s.ppl.commanded with
    | some 2 => 4
    | some 3 => 5
    | some 4 => 6
    | _ => 3
  (s.put .PPL_STATUS_STATE 0 st).showPpl

/-- The checks of R55 on a plan: the reason of the first failure, 0 for none. DESIGN CHOICE (log entry 28): a malformed SIGN body and an empty
KS004 are rejected at step 5 with 0x08. -/
def State.checkPlan (s : State) (raw : List Nat) : Nat :=
  let c := checkContainer raw raw.length
  let (msg, alg, sig) := signParts raw
  if c ≠ 0 then c
  else if !signOk raw || !(s.slot 4).full || !verifies alg (s.pubOf 4) msg sig then 0x08
  else if u32 raw 0x14 < s.ppl.counter then 0x09
  else if s.lifeCycle ≠ 2 ∧ s.sec.siteId ≠ some ((raw.drop 0x24).take 16) then 0x11
  else checkContents raw

/-- An arming whose plan is discarded (R63): the sealed-command record alone, with RESULT 0x02. -/
def State.disarm (s : State) : State :=
  match s.ppl.armed with
  | none => s
  | some a =>
    let s := (s.setPpl { s.ppl with armed := none }).request 2 [s.sealedRec 1 2 0 a.scSeq a.keyId]
    s.raise2 0x1903 1 2

/-- The staged plan is discarded; `event` raises 0x0406 (R60, R70). -/
def State.discardStaged (s : State) (event : Bool) : State :=
  match s.ppl.staged with
  | none => s
  | some p =>
    let s := s.setPpl { s.ppl with staged := none, stagedRaw := none, again := false, commanded := none, affected := 0, awaited := 0 }
    let s := (s.put .PPL_WAIT_WAIT 0 0).disarm
    (s.onlyIf event fun s => s.raise 0x0406 (p.planVer % 65536)).showStaged

/-- A rejection (R55). -/
def State.rejectPlan (s : State) (reason : Nat) : State :=
  ((s.put .PPL_STATUS_REJECT 0 reason).put .PPL_STATUS_STATE 0 7).raise 0x0402 reason

/-- A plan is staged (R55, R60): a second one discards the first. -/
def State.stagePlan (s : State) (raw : List Nat) : State :=
  let s := s.discardStaged true
  let p := readPlan raw
  ((s.setPpl { s.ppl with staged := some p, stagedRaw := some raw }).raise 0x0401 (p.planVer % 65536)).showStaged

/-- STATE of a delivery under way: receiving, or verifying once it is complete. -/
def State.showDelivery (s : State) : State :=
  if s.ppl.delivered then s.put .PPL_STATUS_STATE 0 2 else if s.ppl.staging.isEmpty then s else s.put .PPL_STATUS_STATE 0 1

/-- The staged plan has been verified again (R55, R63). -/
def State.verifiedAgain (s : State) (raw : List Nat) : State :=
  let r := s.checkPlan raw
  let s := s.setPpl { s.ppl with again := false }
  (if r = 0 then (s.raise 0x0401 ((readPlan raw).planVer % 65536)).showStaged else (s.discardStaged false).rejectPlan r).showDelivery

/-- PLAN_VERIFY_DONE (R55): a staged plan has been verified again, or a delivered plan is staged or rejected. -/
def execPlanVerifyDone (s : State) : Out :=
  if s.ppl.again then
    match s.ppl.stagedRaw with
    | some raw => .next (s.verifiedAgain raw)
    | none => .next (s.setPpl { s.ppl with again := false })
  else if !s.ppl.delivered then .next s
  else
    let raw := s.ppl.staging
    let r := s.checkPlan raw
    let s := s.setPpl { s.ppl with staging := [], totLen := 0, delivered := false }
    .next (if r = 0 then s.stagePlan raw else s.rejectPlan r)

/-- A write of 0b001 to PPL_CMD: the staged plan is verified again; a delivery under way goes on beside it. -/
def State.pplVerify (s : State) : State :=
  if s.ppl.staged.isNone then s else (s.setPpl { s.ppl with again := true }).put .PPL_STATUS_STATE 0 2

/-- PPL_VERIFY_AGAIN (R55). -/
def execPplVerifyAgain (s : State) : Out := .next s.pplVerify

/-- PPL_DISCARD (R70). -/
def State.pplDiscard (s : State) : State := s.discardStaged true

/-- PPL_DISCARD (R70). -/
def execPplDiscard (s : State) : Out := .next s.pplDiscard

/-- The outlets whose record differs between two plans. -/
def outlDiff (a b : Plan) : List Nat :=
  (List.range 24).filter fun n => decide ((a.outl.find? (·.outlet == n)) ≠ (b.outl.find? (·.outlet == n)))

/-- The outlets that a change of SENS affects (R61): site and unbound channels affect every outlet. -/
def sensDiff (a b : Plan) : List Nat :=
  let ch := (List.range 64).filter fun c => decide ((a.sens.find? (·.ch == c)) ≠ (b.sens.find? (·.ch == c)))
  ch.flatMap fun c => ((a.sens ++ b.sens).filter (·.ch == c)).flatMap fun r => if r.outlet ≤ 23 then [r.outlet] else List.range 24

/-- The outlets that a change of SWCH affects (R61): channels without an outlet are Live. -/
def swchDiff (a b : Plan) : List Nat :=
  let ch := (List.range 32).filter fun c => decide ((a.swch.find? (·.ch == c)) ≠ (b.swch.find? (·.ch == c)))
  ch.flatMap fun c => ((a.swch ++ b.swch).filter (·.ch == c)).flatMap fun r => if r.outlet ≤ 23 then [r.outlet] else []

/-- The records of NETW that differ, by index. -/
def netwDiff (a b : Plan) : List Nat :=
  (List.range (max a.netw.length b.netw.length)).filter fun i => decide (a.netw[i]? ≠ b.netw[i]?)

/-- A changed NETW section (R61): the class and the affected outlets. -/
def netwClass (a b : Plan) : Nat × List Nat :=
  let l := netwDiff a b
  let recs := fun (i : Nat) => (a.netw[i]?).toList ++ (b.netw[i]?).toList
  let cold := l.any fun i => (recs i).any fun r => r.type == 7 && r.byte 1 == 0
  let tm := l.filter fun i => (recs i).any fun r => r.type == 3 && r.byte 2 == 1
  let outs := tm.flatMap fun i => ((a.outl ++ b.outl).filter fun o => o.module == i).map (·.outlet)
  (if cold then 3 else if outs.isEmpty then 1 else 2, outs)

/-- The class and the affected outlets of one changed section (R61): 1 Live, 2 Outlet idle, 3 Cold reset, 4 Re-commission. -/
def sectClass (a b : Plan) (i : Nat) : Nat × List Nat :=
  let idle := fun (l : List Nat) => (if l.isEmpty then 1 else 2, l)
  match i with
  | 0 => (3, [])
  | 1 => idle (outlDiff a b)
  | 2 => idle (sensDiff a b)
  | 3 => (3, [])
  | 4 => idle (swchDiff a b)
  | 5 => (4, [])
  | 6 => (3, [])
  | 9 => netwClass a b
  | _ => (1, [])

/-- The change class of a plan and the affected outlets (R61). Without an active plan every section has changed. -/
def changeClass (old : Option Plan) (new : Plan) : Nat × List Nat :=
  match old with
  | none => (4, [])
  | some a =>
    let l := ((List.range 11).filter fun i => a.crcs.getD i 0 != new.crcs.getD i 0).map (sectClass a new)
    (l.foldl (fun m e => max m e.1) 1, (l.flatMap (·.2)).eraseDups)

/-- Whether a section differs from the plan before. -/
def sectChanged (old : Option Plan) (new : Plan) (i : Nat) : Bool :=
  match old with
  | none => true
  | some a => a.crcs.getD i 0 != new.crcs.getD i 0

/-- The EFU ends the streams of channels that OUTL no longer names and asks admission for every channel that it names, in ascending stream
identity (R68, R192). -/
def State.efuAdmit (s : State) : State :=
  let rcm := (List.range 24).filter fun c => s.plan.any fun p => p.outl.any (·.rcm == c)
  let imd := (List.range 12).filter fun k => s.plan.any fun p => p.outl.any (·.imd == k)
  let gone := ((List.range 24).filter (!rcm.contains ·)).map (0x1300 + ·) ++ ((List.range 12).filter (!imd.contains ·)).map (0x1318 + ·)
  let s := s.each (gone.filter s.isBound) State.endStream
  (s.each rcm fun s c => s.admitStream (0x1300 + c) 1).each imd fun s k => s.admitStream (0x1318 + k) 2

/-- The PSW takes the plan's SWCH records (R57, R244, R255): FUNC is shown, the permits of channels that need none are present, and every channel
follows its source. -/
def State.swPlan (s : State) : State :=
  s.each (List.range 32) fun s c =>
    let needs := ((s.swch c).map fun r => bit r.flags 1).getD false
    (s.put .PSW_CHSTAT_FUNC c (s.func c)).swPermit c (if needs then bit (s.rd .GSE_PERMIT_PERMIT 0) c else true)

/-- The configuration fields of a plan are written in every unit (R57). The tariff table before stays in force up to the next metering boundary (R308). -/
def State.installPlan (s : State) (old : Option Plan) (p : Plan) (cold : Bool) : State :=
  let tarf := sectChanged old p 7
  let s := s.onlyIf tarf fun s => { s with blu := { s.blu with table := some (s.blu.table.getD ((old.map (·.tarf)).getD [])) } }
  let s : State := { s with plan := some p, ppl := { s.ppl with active := some p } }
  let s := s.onlyIf (cold || sectChanged old p 3) fun s => s.bindSlices p
  let s := (s.put .CGU_CFG_MODCLK 0 p.head.modClk).put .BCU_GHCTL_GUYHOLD 0 p.head.guyHoldMs
  let s := s.swPlan.efuAdmit
  let s := (s.meuBind old).efuBind
  let s := s.ntuPlan (cold || sectChanged old p 9)
  let s := s.alkPlan cold
  let s := s.onlyIf (!cold && sectChanged old p 10) State.dsePlan
  (((s.each s.outlets State.contact).trackIdle).allocEpoch).showPpl

/-- The legal-hold group and event of an activation that a sealed command armed (R63, R340). -/
def State.legalChange (s : State) (old : Option Plan) (p : Plan) : State :=
  match s.ppl.armed with
  | none => s
  | some a =>
    let s := s.setPpl { s.ppl with armed := none }
    let ov := (old.map (·.planVer)).getD 0
    let oc := (old.map (·.legalCv)).getD 0
    let s := s.request 2 [s.sealedRec 1 0 1 a.scSeq a.keyId,
      ⟨0x21, s.ltime, [⟨16, 4, p.planId⟩, ⟨20, 4, ov⟩, ⟨24, 4, p.planVer⟩, ⟨28, 4, oc⟩, ⟨32, 4, p.legalCv⟩]⟩]
    s.raise 0x0405 (p.legalCv % 65536)

/-- The staged plan activates (R57). -/
def State.activateStaged (s : State) (cold : Bool) : State :=
  match s.ppl.staged with
  | none => s
  | some p =>
    let old := s.ppl.active
    let s := s.setPpl { s.ppl with staged := none, again := false, stagedRaw := none, commanded := none, affected := 0, awaited := 0, counter := max s.ppl.counter p.planVer }
    let s := (s.put .PPL_WAIT_WAIT 0 0).installPlan old p cold
    ((s.raise 0x0403 (p.planVer % 65536)).legalChange old p).showStaged

/-- An activation is commanded (R61, R62): at once where nothing is awaited. An affected outlet without a session is unavailable from here on. -/
def State.arrange (s : State) : State :=
  match s.ppl.staged with
  | none => s
  | some p =>
    let (c, outs) := changeClass s.plan p
    let busy := maskOf (outs.filter s.session)
    if c = 1 ∨ (c = 2 ∧ busy = 0) then s.activateStaged false
    else
      let s := s.setPpl { s.ppl with commanded := some c, affected := if c = 2 then maskOf outs else 0, awaited := if c = 2 then busy else 0 }
      let s := s.each (if c = 2 then outs.filter fun n => !s.session n else []) State.withdraw
      (s.put .PPL_WAIT_WAIT 0 (if c = 2 then busy else 0)).showStaged

/-- A write of 0b010 to PPL_CMD (R63): a plan with another LEGALCV is refused and stays staged. -/
def State.pplActivate (s : State) : State :=
  match s.ppl.staged with
  | none => s
  | some p =>
    if p.legalCv ≠ s.rd .PPL_LEGALCV_LEGALCV 0 then (s.put .PPL_STATUS_REJECT 0 0x12).raise 0x0402 0x12
    else if s.ppl.commanded.isSome then s
    else s.arrange

/-- PPL_ACTIVATE (R61 to R63). -/
def execPplActivate (s : State) : Out := .next s.pplActivate

/-- The PPL activates plans: not from t_pf to the next start (R316). -/
def State.pplRuns (s : State) : Bool := s.bcu.phase != .off && s.bcu.phase != .commit && s.bcu.phase != .starting

/-- A commanded activation acts: one that a sealed command armed at a metering boundary (R308, R340). -/
def State.activateAt (s : State) : State := (if s.ppl.armed.isSome then s.moveTo s.boundaryNext else s).activateStaged false

/-- PLAN_ACTIVATION (R57, R62): a commanded activation whose instant has come. -/
def execPlanActivation (s : State) : Out :=
  if !s.pplRuns then .next s
  else match s.ppl.commanded with
  | some 2 => .next (if s.trackWait.ppl.awaited = 0 then s.trackWait.activateAt else s.trackWait)
  | some 1 => .next s.activateAt
  | _ => .next s

/-- OUTLETS_IDLE (R62). -/
def execOutletsIdle (s : State) : Out :=
  let s := s.trackWait
  .next (if s.pplRuns = true ∧ s.ppl.commanded = some 2 ∧ s.ppl.awaited = 0 then s.activateAt else s)

/-- A chunk of a plan (R383): RESULT 0 done, 4 out of order. The chunk with OFFSET 0 starts a new plan; the one that reaches TOTLEN
starts the checks. -/
def State.planChunk (s : State) (offset tot : Nat) (bytes : List Nat) : Nat × State :=
  let s := if offset = 0 then s.setPpl { s.ppl with staging := [], totLen := tot, delivered := false } else s
  let have_ := s.ppl.staging.length
  if offset ≠ have_ ∨ tot ≠ s.ppl.totLen ∨ tot < have_ + bytes.length ∨ 4194304 < tot then
    (4, (s.setPpl { s.ppl with staging := [], totLen := 0, delivered := false }).showStaged)
  else
    let done := decide (have_ + bytes.length = tot)
    (0, (s.setPpl { s.ppl with staging := s.ppl.staging ++ bytes, delivered := done }).put .PPL_STATUS_STATE 0 (if done then 2 else 1))

/-- The PPL registers at the end of a cold start: STATE shows a rejection where the staged plan has failed its checks (R55). -/
def State.showCold (s : State) (rejected : Bool) : State := if rejected then s.showPpl else s.showStaged

/-- The active plan at a cold start (R59): verified from the image store, or the controller starts without a plan. `rejected`: the staged plan
has failed its checks before. DESIGN CHOICE (log entry 29): an active plan that fails is forgotten. -/
def State.activeCold (s : State) (rejected : Bool) : State :=
  match s.ppl.active with
  | none => s.showCold rejected
  | some p =>
    let r := s.checkPlan p.raw
    if r ≠ 0 then
      let s := (s.rejectPlan r).setPpl { s.ppl with active := none }
      ({ s with plan := none } : State).showPpl
    else (s.installPlan (some p) p true).showCold rejected

/-- The PPL at a cold start (R59, R60, R62): the staged plan is verified again and activates where that was commanded; otherwise the active
plan is verified. `rejected`: a staged plan has failed its checks earlier in this start. DESIGN CHOICE (log entry 29): a staged plan that passes raises no
second event 0x0401 here. -/
def State.pplCold (s : State) (rejected : Bool) : State :=
  let s := s.setPpl { s.ppl with staging := [], totLen := 0, delivered := false, again := false }
  match s.ppl.stagedRaw with
  | none => s.activeCold rejected
  | some raw =>
    let r := s.checkPlan raw
    if r ≠ 0 then ((s.discardStaged false).rejectPlan r).activeCold true
    else if s.ppl.commanded = some 3 ∨ s.ppl.commanded = some 4 ∨ (s.ppl.commanded = some 2 ∧ s.trackWait.ppl.awaited = 0) then s.activateStaged true
    else s.activeCold false

end Sys2Proof.Machine
end

