-- ==== Sys2Proof/Machine/Sealed.lean ====
section
/-! DEFINITION. SEC (chapter 15), the sealed commands: authentication, the answer, and what every command changes. -/

namespace Sys2Proof.Machine

open Sys2Proof

/-- What a sealed command comes to: the refusal's RESULT, or its change records, its DATA and the state with the change made. -/
abbrev ScRes := Except Nat (List ReqRec × List Nat × State)

/-- Byte `k` of a body. -/
def byteAt (b : List Nat) (k : Nat) : Nat := b.getD k 0

/-- A little-endian number of `n` bytes in a body. -/
def numAt (b : List Nat) (k n : Nat) : Nat := fromLe ((b.drop k).take n)

/-- The length of a signature by ALG (R52, R416); 0 for a value that names no algorithm. -/
def sigLen (alg : Nat) : Nat := match alg with | 1 => 64 | 2 => 96 | 3 => 132 | 4 => 114 | _ => 0

/-- The length of a public key by KTYPE (R405). -/
def pubLen (t : Nat) : Nat := match t with | 5 => 65 | 6 => 97 | 7 => 133 | 8 => 57 | _ => 0

/-- The root that a life-cycle state selects (R400): none in SCRAP. BLANK and MANUFACTURE select the same. -/
def rootIn (state : Nat) : Option Nat := if state = 1 then some (Config.root 0) else if state ≤ 4 then some (Config.root state) else none

/-- The commands that write a legal-hold group of their own (R340, R420): in COMMISSION and FIELD, all but SAFE_CONFIRM and DEBUG_UNLOCK. -/
def State.recorded (s : State) (cmd : Nat) : Bool := (s.lifeCycle == 2 || s.lifeCycle == 3) && cmd != 6 && cmd != 0x16

/-- PLAN_ACTIVATE (R63, R419): the staged plan that matches is armed. -/
def State.scPlanActivate (s : State) (keyId scSeq : Nat) (b : List Nat) : ScRes :=
  if b.length ≠ 12 then .error 0x10
  else match s.ppl.staged with
    | none => .error 1
    | some p =>
      if p.planId ≠ numAt b 0 4 ∨ p.planVer ≠ numAt b 4 4 ∨ p.legalCv ≠ numAt b 8 4 then .error 1
      else
        let s := s.disarm
        let s := s.setPpl { s.ppl with armed := some ⟨scSeq, keyId⟩ }
        let s := if s.ppl.commanded.isSome then s else s.arrange
        .ok ([], [b2n s.ppl.staged.isSome], s)

/-- The channel records of MEU_CALIBRATE: channel and 16 bytes each. -/
def calRecords (b : List Nat) : List (Nat × List Nat) :=
  (List.range (byteAt b 2)).map fun i => (byteAt b (3 + 17 * i), (b.drop (4 + 17 * i)).take 16)

/-- A channel record inside the ranges of R145 and R168: OFFS within ±65,535, DELAY0 and DELAY1 up to 1,023, INTK 10 to 18 on a Rogowski channel and 0
without an integrator, either of them on a channel that no SENS record binds, RSHIFT up to 15. -/
def State.calRecordOk (s : State) (c : Nat × List Nat) : Bool :=
  let coil := ((s.sens c.1).map fun r => decide (r.sensor = 2)).getD false
  decide (c.1 < 64) && decide ((ofTwos 32 (numAt c.2 4 4)).natAbs ≤ 65535) && decide (numAt c.2 8 2 ≤ 1023) && decide (numAt c.2 10 2 ≤ 1023) &&
    ((!coil && byteAt c.2 13 == 0) || ((coil || (s.sens c.1).isNone) && decide (10 ≤ byteAt c.2 13) && decide (byteAt c.2 13 ≤ 18))) &&
    decide (byteAt c.2 14 ≤ 15) && byteAt c.2 15 == 0

/-- A calibration record comes into force in its channel (R167, R168). -/
def State.takeCalibration (s : State) (c : Nat × List Nat) : State :=
  let s := (s.put .MEU_CHGAIN_GAIN c.1 (numAt c.2 0 4)).put .MEU_CHOFFS_OFFS c.1 (numAt c.2 4 4)
  let s := (s.put .MEU_CHDELAY_DELAY0 c.1 (numAt c.2 8 2)).put .MEU_CHDELAY_DELAY1 c.1 (numAt c.2 10 2)
  let s := (s.put .MEU_CHBANK_MALEN1 c.1 (byteAt c.2 12 + 1)).put .MEU_CHINT_INTK c.1 (byteAt c.2 13)
  (s.put .MEU_CHINT_RSHIFT c.1 (byteAt c.2 14)).setChan c.1 { s.chan c.1 with calibrated := true }

/-- MEU_CALIBRATE (R167, R419). The samples stamped before the boundary are taken with the calibration before it (R170). -/
def State.scMeuCalibrate (s : State) (b : List Nat) : ScRes :=
  let fnom := numAt b 0 2
  let n := byteAt b 2
  let recs := calRecords b
  if b.length ≠ 3 + 17 * n ∨ n = 0 ∨ 24 < n ∨ (fnom ≠ 50 ∧ fnom ≠ 60) ∨ recs.all s.calRecordOk = false then .error 0x10
  else if recs.any fun c => ((s.sens c.1).map fun r => decide (r.outlet ≤ 23) && s.flag .MEU_ESTAT_SESS r.outlet).getD false then .error 1
  else
    let old := s
    let s := s.each s.liveElems fun s e => s.catchUp e (s.stampOf s.now - 1)
    let s := recs.foldl State.takeCalibration s
    let s : State := ({ s with meu := { s.meu with fnom := fnom } } : State).showCal
    let s := s.each ((recs.map (·.1)).filter fun n => ((s.sens n).map fun r => decide (r.sensor = 2)).getD false) State.showShift
    let changed := (List.range 64).filter fun k => old.calBytes k != s.calBytes k
    let cv := [⟨52, 4, old.rd .MEU_CALCV_CALCV 0⟩, ⟨56, 4, s.rd .MEU_CALCV_CALCV 0⟩]
    let out := changed.map fun k => ⟨0x22, s.ltime, [⟨16, 1, k⟩, ⟨20, 16, fromLe (old.calBytes k)⟩, ⟨36, 16, fromLe (s.calBytes k)⟩] ++ cv⟩
    let out := if old.meu.fnom = fnom then out
      else out ++ [⟨0x22, s.ltime, [⟨16, 1, 0xFF⟩, ⟨20, 2, old.meu.fnom⟩, ⟨36, 2, fnom⟩] ++ cv⟩]
    let s := (s.count .MEU_CALSEQ_CALSEQ 0).raise2 0x1208 (changed.head?.getD 0xFF) changed.length
    .ok (out, [], s)

/-- BLU_HWM_RESET (R301): H becomes the wall time, and every running interval ends at its grid's first end after it. -/
def State.scBluHwmReset (s : State) (b : List Nat) : ScRes :=
  if b.length ≠ 0 then .error 0x10
  else
    let old := s.hwm
    let h := s.wall.toNat
    let s := s.put64 .BLU_HWM_L .BLU_HWM_H 0 h
    let s := s.each (List.range 25) fun s e =>
      match s.demandTarf e with
      | none => s
      | some r => s.put .BLU_IVEND_IVEND e (nextEnd r.gridSeconds (h / 65536))
    let s := (s.raise 0x140B 0).advanceH
    .ok ([⟨0x23, s.ltime, [⟨16, 8, old⟩, ⟨24, 8, h⟩]⟩], [], s)

/-- TAMPER_CONFIG (R319). -/
def State.scTamperConfig (s : State) (b : List Nat) : ScRes :=
  if b.length ≠ 2 ∨ 15 < byteAt b 0 ∨ 15 < byteAt b 1 then .error 0x10
  else
    let r : ReqRec := ⟨0x24, s.ltime, [⟨16, 1, s.rd .BLU_TAMPCFG_TEN 0⟩, ⟨17, 1, s.rd .BLU_TAMPCFG_TPOL 0⟩, ⟨18, 1, byteAt b 0⟩, ⟨19, 1, byteAt b 1⟩]⟩
    .ok ([r], [], ((s.put .BLU_TAMPCFG_TEN 0 (byteAt b 0)).put .BLU_TAMPCFG_TPOL 0 (byteAt b 1)).put .BLU_TAMPER_NOW 0
      (s.rd .BLU_TAMPER_NOW 0 &&& (byteAt b 0 ||| 16)))

/-- SEAL_ACK (R322): refused while the seal loop does not read intact. -/
def State.scSealAck (s : State) (b : List Nat) : ScRes :=
  if b.length ≠ 0 then .error 0x10
  else if bit (s.rd .BLU_TAMPER_NOW 0) 4 then .error 1
  else
    let s := (s.put .BLU_STATUS_SEALBRK 0 0).raise 0x140A 0
    .ok ([], [], s.each (List.range 25) State.showFlags)

/-- LGS_RETENTION (R341). -/
def State.scLgsRetention (s : State) (b : List Nat) : ScRes :=
  let days := numAt b 0 2
  let tick := byteAt b 2
  if b.length ≠ 3 ∨ days < 400 ∨ 3650 < days ∨ tick < 1 ∨ 60 < tick then .error 0x10
  else
    let r : ReqRec := ⟨0x25, s.ltime, [⟨16, 2, s.rd .LGS_RETCFG_RETDAYS 0⟩, ⟨18, 1, s.rd .LGS_RETCFG_TICKMIN 0⟩, ⟨20, 2, days⟩, ⟨22, 1, tick⟩]⟩
    .ok ([r], [], ((s.put .LGS_RETCFG_RETDAYS 0 days).put .LGS_RETCFG_TICKMIN 0 tick).showLgs)

/-- The refusal reason of an LGS_ACK, 0 for none (R343). -/
def State.ackReason (s : State) (first last : Nat) (hash : List Nat) : Nat :=
  let legal := sortBy (fun a b => decide (a.seq ≤ b.seq)) (s.keptRecords 0)
  let cover := legal.filter fun r => decide (r.seq ≤ last)
  if (legal.head?.map (·.seq)) ≠ some first then 1
  else if ((legal.getLast?).map (·.seq)).getD 0 < last ∨ ((legal.find? fun r => decide (last < r.seq)).map fun r => bit r.flags 3) = some true then 2
  else if 1048576 < cover.length then 3
  else if hashBytes 32 32 (sha256 (cover.flatMap LedgerRec.bytes)) ≠ hash then 4 else 0

/-- LGS_ACK (R343): the slots are freed with the commit of its group. -/
def State.scLgsAck (s : State) (b : List Nat) : ScRes :=
  let first := numAt b 0 8
  let last := numAt b 8 8
  if b.length ≠ 48 then .error 0x10
  else
    let r := s.ackReason first last (b.drop 16)
    if r ≠ 0 then .error r
    else
      let n := ((s.keptRecords 0).filter fun r => decide (r.seq ≤ last)).length
      .ok ([⟨0x26, s.ltime, [⟨16, 8, first⟩, ⟨24, 8, last⟩, ⟨32, 4, n⟩]⟩], [], s)

/-- KEYID of a slot's shadow (R405). -/
def KeySlot.shadowId (v : KeySlot) : Nat := if 9 ≤ v.pAttr % 16 then 0 else keyIdOf v.pPub

/-- A slot that sealed key commands cannot change (R409): REPLACE 1, and REPLACE 0 except for the first keys, made in MANUFACTURE. -/
def State.fixedSlot (s : State) (k : Nat) : Bool :=
  replaceOf k == 1 || (replaceOf k == 0 && !(s.lifeCycle == 1 && !(s.slot k).full))

/-- KEY_GEN (R408, R419): the new key's test operation signs a random challenge; the public key and a KS000 signature over it are the DATA. -/
def State.scKeyGen (s : State) (b : List Nat) : ScRes :=
  let k := byteAt b 0
  let t := byteAt b 1
  if b.length ≠ 2 ∨ 128 ≤ k ∨ t ∉ [1, 2, 3, 4, 9, 10] then .error 0x10
  else if s.fixedSlot k ∨ t ∉ typesOf k then .error 0x14
  else if s.randomOk = false then .error 1
  else
    let (n, s) := s.newKey t
    let (c, s) := s.randomBits
    let pub := n.2.1
    let test := leBytes 32 c
    let ok := decide (9 ≤ t) || verifies t pub test (signature t n.1 test)
    .ok ([], pub ++ s.signWith 0 ([0x4C, 0x58, 0x4B, 0x41, k] ++ pub), s.writeShadow k t true pub n.2.2 0 ok)

/-- KEY_LOAD (R408, R419): a public key and the test signature that the new key has to verify. -/
def State.scKeyLoad (s : State) (scSeq : Nat) (b : List Nat) : ScRes :=
  let k := byteAt b 0
  let t := byteAt b 1
  let cert := if isAnchor k then 32 else 0
  if b.length ≠ 2 + pubLen t + cert + sigLen (t - 4) ∨ 128 ≤ k ∨ t < 5 ∨ 8 < t then .error 0x10
  else if s.fixedSlot k ∨ t ∉ typesOf k then .error 0x14
  else
    let pub := (b.drop 2).take (pubLen t)
    let hash := numAt b (2 + pubLen t) cert
    let ok := verifies (t - 4) pub ([0x4C, 0x58, 0x4B, 0x54] ++ leBytes 4 scSeq) (b.drop (2 + pubLen t + cert))
    .ok ([], [], s.writeShadow k t false pub {} hash ok)

/-- KEY_COMMIT (R408, R419). -/
def State.scKeyCommit (s : State) (scSeq : Nat) (b : List Nat) : ScRes :=
  let k := byteAt b 0
  let v := s.slot k
  if b.length ≠ 9 ∨ 128 ≤ k then .error 0x10
  else if s.fixedSlot k then .error 0x14
  else if bit v.pAttr 16 = false ∨ v.shadowId ≠ numAt b 1 8 then .error 1
  else
    let old := s.slotId k
    let s := s.flipSlot k true
    .ok ([s.keyRecord k (ktypeOf (s.slot k).attr) 1 1 old (s.slotId k) scSeq], [], s)

/-- KEY_ABORT (R408). -/
def State.scKeyAbort (s : State) (b : List Nat) : ScRes :=
  let k := byteAt b 0
  if b.length ≠ 1 ∨ 128 ≤ k then .error 0x10
  else if s.fixedSlot k then .error 0x14
  else .ok ([], [], s.dropShadow k 3)

/-- A slot is erased, its shadow too (R402, R419): 1 KEY_ERASE, 2 RETURN, 3 SCRAP. -/
def State.eraseSlot (s : State) (k why : Nat) : State := (s.setSlot k {}).raise2 0x190B k why

/-- KEY_ERASE (R419): slots with REPLACE 2 only. -/
def State.scKeyErase (s : State) (scSeq : Nat) (b : List Nat) : ScRes :=
  let k := byteAt b 0
  if b.length ≠ 1 ∨ 128 ≤ k then .error 0x10
  else if replaceOf k ≠ 2 then .error 0x14
  else .ok ([s.keyRecord k (ktypeOf (s.slot k).attr) 1 2 (s.slotId k) 0 scSeq], [], s.eraseSlot k 1)

/-- A session is open on some outlet. -/
def State.anySession (s : State) : Bool := (List.range 24).any s.session

/-- No legal-hold record is without an acknowledge, committed or waiting (R402). -/
def State.allAcked (s : State) : Bool := s.lgs.taken 0 == s.lgs.acked && s.lgs.queue.all fun g => g.cls != 2

/-- The conditions of a transition (R402); none where the table has no such transition. -/
def State.transition (s : State) (dest : Nat) : Option Bool :=
  let full := fun (l : List Nat) => l.all fun k => (s.slot k).full
  match s.lifeCycle, dest with
  | 0, 1 => some true
  | 1, 2 => some (full [0, 1, 5])
  | 2, 3 => some (s.plan.isSome && s.rd .GSE_CVCONF_CVCONF 0 == s.rd .PPL_SAFECV_SAFECV 0 && full [4, 6, 7] && s.wallValid)
  | 3, 2 => some (!s.anySession && s.allAcked && decide (s.rd .SEC_LC_RECOMM 0 < 3))
  | 2, 4 => some (!s.anySession)
  | 3, 4 => some (!s.anySession)
  | 0, 5 => some true
  | 1, 5 => some true
  | 2, 5 => some true
  | 3, 5 => some true
  | 4, 5 => some true
  | _, _ => none

/-- The commissioning (R402): ledger time starts at 0 and SEQ at 1. -/
def State.commission (s : State) : State :=
  if s.sec.commissioned then s
  else
    let s : State := { s with bcu := { s.bcu with ltBase := 0, ltMark := s.now }, sec := { s.sec with commissioned := true } }
    (s.put .LGS_NEXTSEQ_L 0 1).put .LGS_NEXTSEQ_H 0 0

/-- What a transition does (R402). -/
def State.enterState (s : State) (dest : Nat) : State :=
  let was := s.lifeCycle
  let s := (s.put .SEC_LC_STATE 0 dest).putFlag .SEC_LC_DBGOPEN 0 (decide (dest < 2))
  let s := if dest = 2 then s.commission else s
  let s := if dest = 3 then s.setSec { s.sec with siteId := s.plan.map fun p => (p.raw.drop 0x24).take 16 } else s
  let s := if was = 3 ∧ dest = 2 then (s.put .SEC_LC_RECOMM 0 (s.rd .SEC_LC_RECOMM 0 + 1)).setSec { s.sec with siteId := none } else s
  let gone := (List.range 128).filter fun k => (s.slot k).full && (dest == 5 || (dest == 4 && bit (s.slot k).attr 12))
  let s := s.each gone fun s k => s.eraseSlot k (if dest = 5 then 3 else 2)
  s.raise2 0x1907 was dest

/-- LIFECYCLE (R402, R419); the signer's public key follows NEWSTATE. -/
def State.scLifecycle (s : State) (b : List Nat) : ScRes :=
  let dest := byteAt b 0
  if b.length - 1 ∉ [57, 65, 97, 133] ∨ 5 < dest then .error 0x10
  else match s.transition dest with
    | none => .error 0x11
    | some false => .error 1
    | some true =>
      let t := s.enterState dest
      let site := ((if dest = 3 then t.sec.siteId else s.sec.siteId).getD [])
      .ok ([⟨0x31, t.ltime, [⟨16, 1, s.lifeCycle⟩, ⟨17, 1, dest⟩, ⟨18, 1, t.rd .SEC_LC_RECOMM 0⟩, ⟨20, 16, fromLe site⟩]⟩], [], t)

/-- DEBUG_UNLOCK (R400, R419): opens DBG in RETURN. -/
def State.scDebugUnlock (s : State) (b : List Nat) : ScRes :=
  if b.length ≠ 97 then .error 0x10
  else if s.lifeCycle ≠ 4 then .error 0x11
  else .ok ([], [], s.putFlag .SEC_LC_DBGOPEN 0 true)

/-- What a command other than SAFE_CONFIRM comes to (R419). -/
def State.scRun (s : State) (cmd keyId scSeq : Nat) (b : List Nat) : ScRes :=
  match cmd with
  | 0x01 => s.scPlanActivate keyId scSeq b
  | 0x02 => s.scMeuCalibrate b
  | 0x03 => s.scBluHwmReset b
  | 0x04 => s.scTamperConfig b
  | 0x05 => s.scSealAck b
  | 0x07 => s.scLgsRetention b
  | 0x08 => s.scLgsAck b
  | 0x10 => s.scKeyGen b
  | 0x11 => s.scKeyLoad scSeq b
  | 0x12 => s.scKeyCommit scSeq b
  | 0x13 => s.scKeyAbort b
  | 0x14 => s.scKeyErase scSeq b
  | 0x15 => s.scLifecycle b
  | 0x16 => s.scDebugUnlock b
  | _ => .error 0x10

/-- The answer to a sealed command (R418), kept and sent to the path that the command came from. -/
def State.answerSealed (s : State) (path : Option (Nat × Nat)) (a : SealedAnswer) : State :=
  let s := s.setSec { s.sec with answer := some a }
  match path with
  | none => s
  | some (p, seq) => s.answerHost p seq 0x86 ([a.result, a.detail, 0, 0] ++ leBytes 4 a.scSeq ++ leBytes 8 a.ltime ++ a.data)

/-- A command refused after its authentication (R340, R427): its sealed-command record alone and event 0x1903. -/
def State.refuseSealed (s : State) (path : Option (Nat × Nat)) (cmd keyId scSeq result : Nat) : State :=
  let s := s.onlyIf (s.recorded cmd) fun s => s.request 2 [s.sealedRec cmd result 0 scSeq keyId]
  let s := s.onlyIf (cmd == 8 && decide (result ≤ 4)) fun s => s.raise 0x1505 result
  (s.raise2 0x1903 cmd result).answerSealed path ⟨result, 0, scSeq, 0, []⟩

/-- SAFE_CONFIRM (R266, R420): answered when its outcome is known. -/
def State.scSafeConfirm (s : State) (path : Option (Nat × Nat)) (keyId scSeq : Nat) (b : List Nat) : State :=
  if s.sec.waiting.isSome then s.refuseSealed path 6 keyId scSeq 0x13
  else if b.length ≠ 4 then s.refuseSealed path 6 keyId scSeq 0x10
  else
    let v := numAt b 0 4
    if v ≠ s.rd .PPL_SAFECV_SAFECV 0 ∨ v ≠ s.rd .GSE_CV_CV 0 then (s.raise 0x1706 1).refuseSealed path 6 keyId scSeq 1
    else
      let s := s.each s.functions fun s k => s.setGfn k { s.gfn k with sawUnsafe := false }
      let s : State := { s with gse := { s.gse with confirming := some ⟨v, s.now + msec 300000, scSeq⟩ } }
      s.setSec { s.sec with waiting := some ⟨path, scSeq⟩ }

/-- The outcome of SAFE_CONFIRM is known once the GSE no longer waits (R266, R420). -/
def State.confirmOutcome (before s : State) (result : Nat) : State :=
  match before.gse.confirming, s.gse.confirming, s.sec.waiting with
  | some _, none, some w =>
    let s := s.setSec { s.sec with waiting := none }
    if result = 0 then (s.raise2 0x1902 6 0).answerSealed w.path ⟨0, 0, w.scSeq, s.ltime, []⟩
    else s.refuseSealed w.path 6 0 w.scSeq result
  | _, _, _ => s

/-- An authenticated command runs at a metering boundary (R340, R418 to R420): SEC_SCNEXT has advanced. -/
def State.sealedRun (s : State) (path : Option (Nat × Nat)) (cmd keyId scSeq : Nat) (b : List Nat) : State :=
  let s := s.put .SEC_SCNEXT_SCNEXT 0 (scSeq + 1)
  let serves := s.lifeCycle == 2 || s.lifeCycle == 3
  if s.bcu.phase = .commit then s.answerSealed path ⟨0x12, 0, scSeq, 0, []⟩
  else
    let s := s.moveTo (s.boundaryNext)
    if cmd ≤ 8 ∧ !serves then s.refuseSealed path cmd keyId scSeq 0x11
    else if serves ∧ cmd ≠ 8 ∧ s.flag .LGS_STATUS_LHRES 0 then s.refuseSealed path cmd keyId scSeq 0x20
    else if cmd = 6 then s.scSafeConfirm path keyId scSeq b
    else match s.scRun cmd keyId scSeq b with
      | .error r => s.refuseSealed path cmd keyId scSeq r
      | .ok (recs, data, t) =>
        let n := if cmd = 1 then 2 else 1 + recs.length
        let group := s.recorded cmd || (cmd == 0x15 && t.lifeCycle == 2)
        if group ∧ cmd ≠ 8 ∧ s.legalFree < 65536 + n then s.refuseSealed path cmd keyId scSeq 0x20
        else
          let t := t.onlyIf (group && cmd != 1) fun t => t.request 2 (t.sealedRec cmd 0 recs.length scSeq keyId :: recs)
          (t.raise2 0x1902 cmd 0).answerSealed path ⟨0, 0, scSeq, t.ltime, data⟩

/-- An authenticated command with the number that is due. -/
def State.sealedRow (s : State) (cmd keyId : Nat) (b : List Nat) : State := s.sealedRun none cmd keyId (s.rd .SEC_SCNEXT_SCNEXT 0) b

/-- Who signed a command (R417 check 3): a slot, 128 the root in force, 129 XROOT for a LIFECYCLE to RETURN; the public key beside it. -/
def State.signer (s : State) (cmd keyId : Nat) (b : List Nat) : Option (Nat × List Nat) :=
  match (List.range 128).find? fun k => bit (s.slot k).attr 14 && (s.slot k).full && s.slotId k == keyId with
  | some k => some (k, s.pubOf k)
  | none =>
    let p := b.drop (b.length - 97)
    let h := sha384 p
    if keyIdOf p ≠ keyId then none
    else if rootIn s.lifeCycle = some h then some (128, p)
    else if cmd = 0x15 ∧ byteAt b 0 = 4 ∧ (s.lifeCycle = 2 ∨ s.lifeCycle = 3) ∧ h = Config.root 4 then some (129, p) else none

/-- The authority that a command requires (R402, R409, R417 check 4, R419). -/
def State.authority (s : State) (cmd who : Nat) (b : List Nat) : Bool :=
  let k := byteAt b 0
  if cmd ∈ [1, 2, 3, 4, 5, 7] then who == 6
  else if cmd = 6 ∨ cmd = 8 ∨ cmd = 0x14 then who == 7
  else if 0x10 ≤ cmd ∧ cmd ≤ 0x13 then
    if s.lifeCycle = 1 ∧ who = 128 then true
    else match replaceOf k with
      | 2 => who == 7
      | 3 => who == 6
      | 4 => who == k || who == 128
      | _ => true
  else if cmd = 0x15 then
    match s.lifeCycle, k with
    | 2, 3 => who == 7
    | 2, 4 => who == 129
    | 3, 4 => who == 129
    | _, _ => who == 128
  else cmd == 0x16 && s.lifeCycle == 4 && who == 128

/-- ALG fits the key (R416): P-384, P-521 or Ed448; a root is a P-384 key. -/
def State.algFits (s : State) (alg who : Nat) : Bool := if 128 ≤ who then alg == 2 else ktypeOf (s.slot who).attr == alg + 4 && decide (2 ≤ alg)

/-- The first failed check of R417, 0 for none. -/
def State.authCheck (s : State) (pl : List Nat) : Nat :=
  let cmd := byteAt pl 0
  let len := numAt pl 2 2
  let b := (pl.drop 24).take len
  if (pl.drop 8).take 8 ≠ hashBytes 32 8 (sha256 serialText) then 1
  else if numAt pl 4 4 ≠ s.rd .SEC_SCNEXT_SCNEXT 0 then 2
  else match s.signer cmd (numAt pl 16 8) b with
    | none => 3
    | some (who, pub) =>
      if s.authority cmd who b = false then 4
      else if s.failed 0x19 = true ∨ s.algFits (byteAt pl 1) who = false ∨
        verifies (byteAt pl 1) pub ([0x4C, 0x58, 0x53, 0x43] ++ pl.take (24 + len)) (pl.drop (24 + len)) = false then 5
      else 0

/-- The command's own body: a command under a root carries the root's public key after it; LIFECYCLE and DEBUG_UNLOCK name it themselves. -/
def State.ownBody (s : State) (cmd keyId : Nat) (b : List Nat) : List Nat :=
  match s.signer cmd keyId b with
  | some (who, _) => if 128 ≤ who ∧ cmd ≠ 0x15 ∧ cmd ≠ 0x16 then b.take (b.length - 97) else b
  | none => b

/-- SEALED (R416, R417): a payload of the wrong length is answered with an ERROR frame; a failed check refuses the command. -/
def execSealed (p : Fin 5) (seq : BitVec 32) (payload : List (BitVec 8)) (s : State) : Out :=
  let pl := payload.map (·.toNat)
  if !s.frameIn p 0x06 seq.toNat pl then .next s
  else
    let s := s.takeFrame p pl.length
    let cmd := byteAt pl 0
    let len := numAt pl 2 2
    if pl.length < 24 ∨ 1024 < len ∨ pl.length ≠ 24 + len + sigLen (byteAt pl 1) then
      .next (s.sendFrame p 0xFE (leBytes 4 seq.toNat ++ [2]))
    else
      let c := s.authCheck pl
      let scSeq := numAt pl 4 4
      if c ≠ 0 then
        let s := ((s.put .SEC_STATUS_AUTHF 0 1).count .SEC_COUNT_AUTHFAIL 0).raise2 0x1901 cmd c
        .next (s.answerSealed (some (p.val, seq.toNat)) ⟨0x40, c, scSeq, 0, []⟩)
      else
        let keyId := numAt pl 16 8
        .next (s.sealedRun (some (p.val, seq.toNat)) cmd keyId scSeq (s.ownBody cmd keyId ((pl.drop 24).take len)))

/-- PLAN_ACTIVATE (R63). -/
def execPlanActivate (keyId : BitVec 64) (planId planVer legalCv : BitVec 32) (s : State) : Out :=
  .next (s.sealedRow 0x01 keyId.toNat (leBytes 4 planId.toNat ++ leBytes 4 planVer.toNat ++ leBytes 4 legalCv.toNat))

/-- MEU_CALIBRATE (R167): FNOM and the channel records, each a channel and 16 bytes. -/
def execMeuCalibrate (keyId : BitVec 64) (fnom : BitVec 16) (recs : List (BitVec 8 × BitVec 128)) (s : State) : Out :=
  .next (s.sealedRow 0x02 keyId.toNat (leBytes 2 fnom.toNat ++ [recs.length] ++ recs.flatMap fun r => r.1.toNat :: leBytes 16 r.2.toNat))

/-- BLU_HWM_RESET (R301). -/
def execBluHwmReset (keyId : BitVec 64) (s : State) : Out := .next (s.sealedRow 0x03 keyId.toNat [])

/-- TAMPER_CONFIG (R319). -/
def execTamperConfig (keyId : BitVec 64) (ten tpol : BitVec 8) (s : State) : Out := .next (s.sealedRow 0x04 keyId.toNat [ten.toNat, tpol.toNat])

/-- SEAL_ACK (R322). -/
def execSealAck (keyId : BitVec 64) (s : State) : Out := .next (s.sealedRow 0x05 keyId.toNat [])

/-- SAFE_CONFIRM (R266). -/
def execSafeConfirm (keyId : BitVec 64) (value : BitVec 32) (s : State) : Out := .next (s.sealedRow 0x06 keyId.toNat (leBytes 4 value.toNat))

/-- LGS_RETENTION (R341). -/
def execLgsRetention (keyId : BitVec 64) (days : BitVec 16) (tick : BitVec 8) (s : State) : Out :=
  .next (s.sealedRow 0x07 keyId.toNat (leBytes 2 days.toNat ++ [tick.toNat]))

/-- LGS_ACK (R343); `hash` holds the 32 bytes of the hash, the first in bits [255:248]. -/
def execLgsAck (keyId first last : BitVec 64) (hash : BitVec 256) (s : State) : Out :=
  .next (s.sealedRow 0x08 keyId.toNat (leBytes 8 first.toNat ++ leBytes 8 last.toNat ++ hashBytes 32 32 hash.toNat))

/-- KEY_GEN (R408). -/
def execKeyGen (keyId : BitVec 64) (slot ktype : BitVec 8) (s : State) : Out := .next (s.sealedRow 0x10 keyId.toNat [slot.toNat, ktype.toNat])

/-- KEY_LOAD (R408): `rest` holds the public key, an anchor's hash, and the test signature. -/
def execKeyLoad (keyId : BitVec 64) (slot ktype : BitVec 8) (rest : List (BitVec 8)) (s : State) : Out :=
  .next (s.sealedRow 0x11 keyId.toNat ([slot.toNat, ktype.toNat] ++ rest.map (·.toNat)))

/-- KEY_COMMIT (R408): `shadow` holds the shadow's KEYID, byte 0 lowest. -/
def execKeyCommit (keyId : BitVec 64) (slot : BitVec 8) (shadow : BitVec 64) (s : State) : Out :=
  .next (s.sealedRow 0x12 keyId.toNat (slot.toNat :: leBytes 8 shadow.toNat))

/-- KEY_ABORT (R408). -/
def execKeyAbort (keyId : BitVec 64) (slot : BitVec 8) (s : State) : Out := .next (s.sealedRow 0x13 keyId.toNat [slot.toNat])

/-- KEY_ERASE (R419). -/
def execKeyErase (keyId : BitVec 64) (slot : BitVec 8) (s : State) : Out := .next (s.sealedRow 0x14 keyId.toNat [slot.toNat])

/-- LIFECYCLE (R402): `pub` is the public key of the root or the key that signed. -/
def execLifecycle (keyId : BitVec 64) (newState : BitVec 8) (pub : List (BitVec 8)) (s : State) : Out :=
  .next (s.sealedRow 0x15 keyId.toNat (newState.toNat :: pub.map (·.toNat)))

/-- DEBUG_UNLOCK (R419). -/
def execDebugUnlock (keyId : BitVec 64) (xroot : List (BitVec 8)) (s : State) : Out := .next (s.sealedRow 0x16 keyId.toNat (xroot.map (·.toNat)))

/-- SAFETY_INPUT_CONFIRM (R250, R251, R256, R261, R266): the samples of an input up to the present instant confirm a change; it may be the on-site
act of a SAFE_CONFIRM. -/
def execSafetyInputConfirm (i : Fin 16) (samples : List Bool) (s : State) : Out :=
  match s.confirmedLevel i samples with
  | none => .next s
  | some v => .next (if s.gseRuns then s.confirmOutcome (s.inputConfirm i v) 0 else s)

/-- GSE_CYCLE (R252, R262, R264): at the next 1 ms instant the encoder is read, every function is evaluated, then outputs and permits follow; a complete
pass of the ROM and RAM tests takes 30,000 cycles. `encoder` holds the two words read and whether the frames were sound; without an answer the
frames are not. While the GSE awaits a confirmation, the encoder is read and may give the on-site act (R266). -/
def execGseCycle (encoder : Option (Nat × Nat × Bool)) (s : State) : Out :=
  if !s.gseRuns then .next s
  else
    let s := s.moveTo s.nextCycle
    let pass := (s.gse.pass + 1) % 30000
    let s : State := { s with gse := { s.gse with lastCycle := some s.now, pass := pass } }
    let s := (s.put .GSE_SEQ_SEQ 0 (s.rd .GSE_SEQ_SEQ 0 + 1)).put .GSE_DIAG_TESTAGE 0 (pass / 1000)
    let st := s.rd .GSE_STATUS_STATE 0
    if st ≠ 1 ∧ st ≠ 2 then .next s
    else
      let (a, b, ok) := encoder.getD (0, 0, false)
      let t := s.each s.functions fun s k =>
        match s.safeRec k with
        | some r => s.onlyIf (r.func == 4) fun s => (s.readEncoder k r a b ok).inputsChanged k r
        | none => s
      let t := s.confirmOutcome t 0
      if st = 1 then .next t
      else
        let t := t.each t.functions State.evaluate
        .next ({ t with gse := { t.gse with pulses := [] } } : State).drive

/-- RESET_PULSE (R256, R266): a pulse of a given length in ms ends on a reset input. -/
def execResetPulse (i : Fin 16) (ms : Nat) (s : State) : Out :=
  .next (if s.gseRuns then s.confirmOutcome ((s.putBit .GSE_SI_IN 0 i false).resetPulse i (msec ms)) 0 else s)

/-- SAFE_CONFIRM_TIMEOUT (R266, R419). -/
def execSafeConfirmTimeout (s : State) : Out := .next (if s.gseRuns then s.confirmOutcome s.confirmLate 2 else s)

end Sys2Proof.Machine
end

