-- ==== Sys2Proof/Machine/Reset.lean ====
section
/-! DEFINITION. BCU (chapter 17), shared operations: the power-fail commit, the reset of the domains, a cold reset, and the Guy hold. -/

namespace Sys2Proof.Machine

open Sys2Proof

/-- BCU state set. -/
def State.setBcu (s : State) (v : Bcu) : State := { s with bcu := v }

/-- The largest number below 2^k that passes a test which smaller numbers pass too. -/
def largest (ok : Nat → Bool) : Nat → Nat → Nat
  | 0, n => n
  | k + 1, n => largest ok k (if ok (n + 2 ^ k) then n + 2 ^ k else n)

/-- An hour at a mean case temperature in 0.1 °C, in 0.01 h of ID_LIFE (R509): 100 × 2^((Tc − 550) ÷ 100) lies at or above the first number and below
the next; the flag says that it is exact. Beyond −100 °C and 200 °C the temperature counts as the nearer of them. -/
def lifeHour (tmean : Int) : Nat × Bool :=
  let x := max (-1000) (min 2000 tmean) - 550
  let top := 100 ^ 100 * 2 ^ x.toNat
  let n := largest (fun n => decide (n ^ 100 * 2 ^ (-x).toNat ≤ top)) 24 0
  (n, n ^ 100 * 2 ^ (-x).toNat == top)

/-- Life used and hours with main power are added, in 0.01 h (R509). -/
def State.addLife (s : State) (eqh hours : Nat) : State :=
  (s.put .ID_LIFE_EQH 0 (min 0xFFFFFFFF (s.rd .ID_LIFE_EQH 0 + eqh))).put .ID_RUNTIME_HOURS 0 (min 0xFFFFFFFF (s.rd .ID_RUNTIME_HOURS 0 + hours))

/-- The part hour before a power failure (R509): the mean case temperature since its start is not given, so the life used is a free value. -/
def State.lifePart (s : State) : State :=
  let (v, s) := s.draw
  (s.addLife v ((s.bcu.tpfLt - s.bcu.lifeAt) * 100 / (3600 * 65536))).setBcu { s.bcu with lifeAt := s.bcu.tpfLt }

/-- The case temperature in ID_TCASE (R508): the latest reading and the highest one-minute mean, in 0.1 °C. -/
def State.showTcase (s : State) (tnow peak : Int) : State :=
  let was := ofTwos 16 (s.rd .ID_TCASE_TMAX 0)
  (s.put .ID_TCASE_TNOW 0 (toTwos 16 tnow)).put .ID_TCASE_TMAX 0 (toTwos 16 (max was peak))

/-- ID_FLASHn as a managed flash reports it (R510): wear and data written do not fall, spare blocks do not rise. -/
def State.showFlash (s : State) (n w : Nat) : State :=
  ((s.put .ID_FLASH_WEAR n (max (s.rd .ID_FLASH_WEAR n) (bitsOf w 31 24))).put .ID_FLASH_SPARE n (min (s.rd .ID_FLASH_SPARE n) (bitsOf w 23 16))).put
    .ID_FLASH_WRITTEN n (max (s.rd .ID_FLASH_WRITTEN n) (bitsOf w 15 0))

/-- LIFE_ACCOUNTING (R509, R510): an hour of ledger time with main power, since the last or since the supply came; `tmean` is the mean case temperature
over it in 0.1 °C, `tnow` the latest reading, `peak` the highest one-minute mean, and `flash` what the two flash devices report. -/
def execLifeAccounting (tmean tnow peak : Int) (flash0 flash1 : BitVec 32) (s : State) : Out :=
  if s.bcu.vin.isSome || !s.bcu.counting then .next s
  else
    let s := s.moveTo (s.whenLtime (s.bcu.lifeAt + 3600 * 65536))
    let (n, exact) := lifeHour tmean
    let (v, s) := s.draw
    let s := (s.addLife (if exact then n else n + v % 2) 100).setBcu { s.bcu with lifeAt := s.bcu.lifeAt + 3600 * 65536 }
    .next (((s.showTcase tnow peak).showFlash 0 flash0.toNat).showFlash 1 flash1.toNat)

/-- UPD state set. -/
def State.setUpd (s : State) (v : Upd) : State := { s with upd := v }

/-- STATE of the UPD (R499). -/
def State.updState (s : State) : Nat := s.rd .UPD_STATUS_STATE 0

/-- The trial count in ledger ticks (R491). -/
def State.trialTicks (s : State) : Nat := s.upd.trial + ((s.upd.trialAt.map fun t => s.ltime - t).getD 0)

/-- The trial count pauses (R491). -/
def State.trialPause (s : State) : State := s.setUpd { s.upd with trial := s.trialTicks, trialAt := none }

/-- The elapsed time of the running hold in ms (R467, R468). -/
def State.showHold (s : State) : State :=
  if s.flag .BCU_STATUS_GHOLD 0 then s.put .BCU_GHSTAT_ELAPSED 0 (min 0xFFFF ((s.now - s.bcu.holdStart) / 1000000)) else s

/-- A Guy hold ends (R468, R470). -/
def State.endHold (s : State) : State :=
  let s := (s.showHold).put .BCU_STATUS_GHOLD 0 0
  s.setBcu { s.bcu with holdEnd := none, holdExpired := false, latches := [], soLatch := 0 }

/-- Every contactor command drops: the close command of every outlet is withdrawn (R449, R474). -/
def State.dropAll (s : State) : State := s.each (List.range 24) fun s n => (s.putFlag .OIU_CONTACT_CLOSE_EN n false).contact n

/-- The OIUs at a power failure (R449): close commands drop, ZREQ low, and state F at the next pilot period boundary. -/
def State.oiuPowerFail (s : State) : State :=
  (s.dropAll).each s.outlets fun s n => (s.putFlag .OIU_CONTACT_ZREQ n true).put .OIU_CPCTL_GEN n 2

/-- The PSW at a power failure (R449): FUNC 1 channels off without slew. -/
def State.swPowerFail (s : State) : State := s.each (List.range 32) fun s c => s.onlyIf (s.func c == 1 && s.chOn c) fun s => s.chOff c phOff true

/-- Power failure is declared (R448, R449): `arg` of event 0x0101; `next` is the cause of the start that follows a commanded cold reset at
once (R462), none for a loss of supply. -/
def State.declarePf (s : State) (arg : Nat) (next : Option Nat) : State :=
  let s := s.endHold.trialPause
  let s := s.setBcu { s.bcu with phase := .commit, tpf := some s.now, tpfLt := s.ltime, commanded := next, wdt := none }
  let s := (s.raise 0x0101 arg).bluPowerFail
  let s := ((s.gsePowerFail).swPowerFail).oiuPowerFail
  let s : State := { s with meu := { s.meu with pfDue := true, committed := false, pfOpen := true } }
  let s := (s.put .LGS_PFSTAT_PFREC 0 0).put .LGS_PFSTAT_PFDONE 0 0
  (s.dsePowerFail).alkPowerFail

/-- The freeze and the BLU's commit after it (R165, R316). The commit lasts 4 ms to 8 ms; its length is open within that. -/
def State.freezeAndCommit (s : State) : State :=
  if s.meu.frozen then s
  else
    let s := ((s.onlyIf s.meu.pfDue fun s => s.each s.liveElems State.endNow).pfLatch).meuFreeze
    let (v, s) := s.draw
    s.bluCommit s.wallAtPf (400 + v % 401)

/-- MEU_FREEZE (R165, R316): 4.0 ms after t_pf. -/
def execMeuFreeze (s : State) : Out :=
  match s.bcu.tpf with
  | none => .next s
  | some t => if s.meu.frozen ∨ s.bcu.phase ≠ .commit then .next s else .next ((s.moveTo (t + msec 4)).freezeAndCommit)

/-- Every group that the queue holds is committed, as far as the regions take it (R331). -/
def State.commitAll (s : State) : State := (List.range (s.lgs.queue.length + 64)).foldl (fun s _ => s.commitNext) s

/-- The power-fail commit is complete (R449): the LGS commits the last records as they are requested (R331). -/
def State.finishCommit (s : State) : State :=
  let t := s.bcu.tpf.getD s.now
  let s := ((s.moveTo (t + msec 4)).freezeAndCommit).onlyIf s.bcu.commanded.isNone State.lifePart
  ((s.moveTo (t + usec (10 * s.blu.commitDur))).commitAll).moveTo (t + msec 8)

/-- Fields of the MEU that a cold reset keeps (R18, R453). -/
def meuKept : List Fld :=
  [.MEU_CALCV_CALCV, .MEU_CALSEQ_CALSEQ, .MEU_CHBANK_MALEN1, .MEU_CHDELAY_DELAY0, .MEU_CHDELAY_DELAY1, .MEU_CHGAIN_GAIN, .MEU_CHOFFS_OFFS,
   .MEU_CHINT_INTK, .MEU_CHINT_RSHIFT, .MEU_ESTAT_FAULTT, .MEU_EREG_L, .MEU_EREG_H, .MEU_SESS_L, .MEU_SESS_H]

/-- Fields of the PSW that a cold reset keeps (R18, R453). -/
def pswKept : List Fld :=
  [.PSW_CHSTAT_TRIES, .PSW_CHSTAT_LATCH, .PSW_CHSTAT_PHASE, .PSW_CHCNT_FAULTS, .PSW_CHCNT_STARTS]

/-- Fields of the CLU that a cold reset keeps (R18, R453). -/
def cluKept : List Fld :=
  [.CLU_TCFG_TAGEN, .CLU_TCFG_AUTHEN, .CLU_TCFG_PWDEN, .CLU_TSTATE_TFAIL, .CLU_TSTATE_LOCKED, .CLU_TSTATE_JBUSY, .CLU_TSTATE_RESOK, .CLU_TSTATE_TSTATE,
   .CLU_TSTATE_FIELD, .CLU_TCOUNT_WRITES, .CLU_TCOUNT_READS]

/-- Fields of the LGS that a cold reset keeps (R18, R453). -/
def lgsKept : List Fld :=
  [.LGS_NEXTSEQ_L, .LGS_NEXTSEQ_H, .LGS_ACKSEQ_L, .LGS_ACKSEQ_H, .LGS_RETCFG_TICKMIN, .LGS_RETCFG_RETDAYS, .LGS_COUNT_EARLY,
   .LGS_COUNT_DROPPED, .LGS_PFSTAT_PFREC, .LGS_PFSTAT_PFDONE]

/-- Fields of the SEC that a cold reset keeps (R18, R453). -/
def secKept : List Fld :=
  [.SEC_LC_RECOMM, .SEC_LC_DBGOPEN, .SEC_LC_STATE, .SEC_SCNEXT_SCNEXT, .SEC_REMASK_REMASK]

/-- Fields of the ALK that a cold reset keeps (R18, R453). -/
def alkKept : List Fld :=
  [.ALK_NVER_VERSION, .ALK_NVER_BANK, .ALK_NVER_PEND, .ALK_NVER_CONF]

/-- Fields of the UPD that a reset keeps: the update held and its trial lie with the image store, the counters run since commissioning
(R490, R491, R499). -/
def updKept : List Fld :=
  [.UPD_STATUS_STATE, .UPD_STATUS_SETDUAL, .UPD_UPDID_UPDID, .UPD_ACTTIME_L, .UPD_ACTTIME_H, .UPD_PROGRESS_PART, .UPD_PROGRESS_DONE,
   .UPD_TRIAL_LEFT, .UPD_COUNT_FALLBACKS, .UPD_COUNT_COMMITS]

/-- Fields that a cold reset keeps: what lies in Basecamp MRAM, in one-time memory or in the ledger (R18, R453). The BCU, the BLU and the
identification registers are not cleared at all. -/
def coldKept : List Fld := [meuKept, pswKept, efuKept, cluKept, lgsKept, secKept, alkKept, updKept].flatten

/-- The units that a cold reset clears field by field; the GSE and the DSE have starts of their own. -/
def coldUnits : List UnitId := [.fab, .ppl, .sch, .oiu, .vce, .meu, .efu, .psw, .clu, .lgs, .sec, .alk, .ntu, .hpu, .cgu, .upd]

/-- Pulse channels keep their count (R171). -/
def State.pulseCounts (s : State) : List (Nat × Nat) :=
  (List.range 64).filterMap fun n => (s.sens n).bind fun r => if r.qty = 9 then some (n, s.rd .MEU_CHSAMP_SAMPLE n) else none

/-- The units as they are when nothing has happened in them. -/
def fresh : State := {}

/-- Every domain except Basecamp loses its state (R18, R19, R450). DESIGN CHOICE (log entry 72): the frame window of the display keeps its contents, as
the pages that stand in the panels do. -/
def State.clearDomains (s : State) : State :=
  let pulses := s.pulseCounts
  let latched := (List.range 32).filter fun c => s.phase c == phLatched
  let s := s.refreshTl.gseStart
  let s := coldUnits.foldl (fun s u => s.clearUnit u (fun _ => true) coldKept) s
  let s := pulses.foldl (fun s e => s.put .MEU_CHSAMP_SAMPLE e.1 e.2) s
  let s := s.each (List.range 32) fun s c => s.put .PSW_CHSTAT_PHASE c (if latched.contains c then phLatched else phOff)
  let s := s.putFlag .SEC_LC_DBGOPEN 0 (decide (s.lifeCycle < 2))
  let s : State := { s with
    fab := fresh.fab, sch := fresh.sch, oius := [], sws := [], rcms := [], imds := [], imdTrip := 0, ccRequested := 0
    chans := mapTab {} (fun c => { ({} : Chan) with calibrated := c.calibrated, pulseAt := c.pulseAt }) s.chans
    meu := { s.meu with mclk := none, lastBoundary := none, stoppedAt := none }
    vces := keepCkpt s.vces, slac := [], encoder := {}, t1sUp := 0, plan := none
    gse := { testsT := none, zreq := s.gse.zreq, fns := s.gse.fns, soOffAt := s.gse.soOffAt }
    alloc := { ckpt := s.alloc.ckpt }
    upd := { s.upd with medium := none }
    clu := { s.clu with active := 0, running := 0, cardSent := [], cardData := [], first := [], rate := [], polledAt := [], holdT := none
                        ready := s.clu.ready && s.flag .CLU_TSTATE_FIELD 0 }
    ntu := fresh.ntu
    hpu := fresh.hpu
    lgs := { s.lgs with queue := [], accepting := false, page := [], pageRaw := [], dropPending := 0 }
    sec := { s.sec with answer := none, waiting := none, requests := 0, lastStatus := 0 }
    latchOn := s.latchOn.filter fun k => k / 64 == UnitId.bcu.ctorIdx }
  s.endHold.setBcu { s.bcu with ember := false, wake := none, idleSince := none, unitResets := [], wdt := none, healthy := false }

/-- A cold reset is released (R19, R462): cause of BCU_RSTCAUSE, count, event 0x0102. -/
def State.releaseCold (s : State) (cause : Nat) : State :=
  let s := s.setBcu { s.bcu with phase := .starting, commanded := none, counting := true, coldAt := s.now }
  (((s.put .BCU_RSTCAUSE_CAUSE 0 cause).count .BCU_COUNT_COLD 0).raise 0x0102 cause)

/-- The outputs that the Guy hold latches capture (R467): GEN, DMODE, DUTY and ILIM of every outlet, ON, PWMF and DUTY of every channel, the
safety outputs. While GHOLD is 1, the values in effect stay what is captured here. -/
def State.captureOutputs (s : State) : State :=
  let out := s.each (List.range 24) fun s n =>
    [Fld.OIU_CPCTL_GEN, .OIU_CPCTL_DMODE, .OIU_CPDUTY_DUTY, .OIU_CPDUTY_ILIM].foldl
      (fun s f => s.setBcu { s.bcu with latches := update f.resetValue s.bcu.latches (regKey f n) (s.eff f n) }) s
  let all := out.each (List.range 32) fun s c =>
    let l := update 0 s.bcu.latches (regKey .PSW_CHCTL_ON c) (b2n (s.sw c).onEff)
    let l := update 0 l (regKey .PSW_CHCTL_PWMF c) (s.sw c).pwmfEff
    s.setBcu { s.bcu with latches := update Fld.PSW_CHDUTY_DUTY.resetValue l (regKey .PSW_CHDUTY_DUTY c) (s.eff .PSW_CHDUTY_DUTY c) }
  all.setBcu { all.bcu with soLatch := s.rd .GSE_SO_CMD 0 }

/-- The UPD at a reset of the application domain: the update held goes on, a time that nothing is scheduled for goes (R18, R20). DESIGN CHOICE (log
entry 72): which registers go back to their reset values. -/
def State.updWarm (s : State) : State :=
  let s := s.clearUnit .upd (fun _ => true) (Fld.UPD_STATUS_MEDIA :: updKept)
  s.onlyIf (s.updState == 0) fun s => (s.put .UPD_ACTTIME_L 0 0).put .UPD_ACTTIME_H 0 0

/-- The application domain is reset (R18, R20). -/
def State.resetApplication (s : State) : State :=
  let s := ((s.vceWarm).cluWarm).hpuWarm
  let s := ((s.dseWarm).allocWarm).updWarm
  s.onlyIf (s.updState == 7) fun s => s.setUpd { s.upd with trial := 0, trialAt := none }

/-- A warm reset is counted and reported (R462, R465). -/
def State.countWarm (s : State) (c : Nat) : State :=
  let s := if s.bcu.healthy then s else s.put .BCU_GHSTAT_UNHEALTHY 0 (s.rd .BCU_GHSTAT_UNHEALTHY 0 + 1)
  ((s.count .BCU_COUNT_WARM 0).put .BCU_RSTCAUSE_CAUSE 0 (5 + c)).raise 0x0104 c

/-- Every master issues transactions again (R20, R29). DESIGN CHOICE (log entry 65): a frozen GSE whose freeze a warm reset clears goes the way
of one that FAB_RELEASE releases (R268). The channels of a released MEU take their places on their grids (R148). -/
def State.thawAll (s : State) : State :=
  let gse := s.frozen 17
  let meu := s.frozen 12
  let s := (({ s with fab := { s.fab with a0Timer := none } } : State).put .FAB_FROZEN_FROZEN 0 0).put .FAB_STATUS_ESCAL 0 0
  (s.onlyIf gse State.gseRelease).onlyIf meu State.rejoinAll

/-- The Guy hold starts (R467), unless one runs (R470). -/
def State.startHold (s : State) : State :=
  if s.flag .BCU_STATUS_GHOLD 0 then s
  else
    let s := (s.captureOutputs).put .BCU_STATUS_GHOLD 0 1
    s.setBcu { s.bcu with holdStart := s.now, holdEnd := some (s.now + msec (s.rd .BCU_GHCTL_GUYHOLD 0)), holdExpired := false }

/-- A warm reset (R20, R29, R462, R465, R467): 1 watchdog, 2 software, 3 host, 4 A0 freeze. One that finds UNHEALTHY at 3 becomes a crash-loop
cold reset; a further warm reset continues a running hold (R470). -/
def State.warmReset (s : State) (c : Nat) : State :=
  if s.bcu.phase = .off ∨ s.bcu.phase = .commit ∨ s.bcu.phase = .starting then s
  else if s.bcu.healthy = false ∧ 3 ≤ s.rd .BCU_GHSTAT_UNHEALTHY 0 then (s.raise 0x010C (s.rd .BCU_GHSTAT_UNHEALTHY 0)).declarePf 5 (some 4)
  else
    let s := ((s.countWarm c).thawAll).startHold
    (s.setBcu { s.bcu with phase := .warm, wdt := none, healthy := false }).resetApplication

/-- A commanded cold reset (R462): the power-fail commit, and the release when it is complete. -/
def State.coldCommand (s : State) (arg cause : Nat) : State :=
  if s.bcu.phase = .off ∨ s.bcu.phase = .commit then s else s.declarePf arg (some cause)

end Sys2Proof.Machine
end

