-- ==== Sys2Proof/Machine/Update.lean ====
section
/-! DEFINITION. UPD (chapter 18): the medium, the manifest and its checks, staging, scheduling, activation, trial, commit and fallback. -/

namespace Sys2Proof.Machine

open Sys2Proof

/-- STATE of the UPD set; UPDID shows the update held (R499). -/
def State.setUpdState (s : State) (st : Nat) : State :=
  (s.put .UPD_STATUS_STATE 0 st).put .UPD_UPDID_UPDID 0 (((s.upd.hold.map (·.updId)).filter fun _ => st != 0).getD 0)

/-- The identity of a part (R482). -/
def partKey (kind unit imgId : Nat) : Nat := kind + 8 * unit + 2048 * imgId

/-- The identity of a part entry. -/
def UpdPart.key (p : UpdPart) : Nat := partKey p.kind p.unit p.imgId

/-- A plan part (R482). -/
def UpdPart.isPlan (p : UpdPart) : Bool := p.kind == 4 || p.kind == 5

/-- The installed version of a part; of the Pitch plan, the active PLANVER. -/
def State.installed (s : State) (key : Nat) : Nat :=
  if key % 8 = 4 ∨ key % 8 = 5 then (s.plan.map (·.planVer)).getD 0 else (lookup none s.upd.versions key).getD (Config.partVersion key)

/-- The version counter of a part; of the Pitch plan, the PPL's own (R496). -/
def State.partCounter (s : State) (key : Nat) : Nat :=
  if key % 8 = 4 ∨ key % 8 = 5 then s.ppl.counter else lookup 0 s.upd.counters key

/-- An installed version set. -/
def State.setInstalled (s : State) (key v : Nat) : State := s.setUpd { s.upd with versions := update none s.upd.versions key (some v) }

/-- The registers that a snapshot of the UPD latches (R499). -/
def State.showUpd (s : State) : State :=
  let key := partKey (s.rd .UPD_PSEL_KIND 0) (s.rd .UPD_PSEL_UNIT 0) (s.rd .UPD_PSEL_IMGID 0)
  let left := if s.updState = 7 then 4320 - s.trialTicks / (60 * 65536) else 0
  ((s.put .UPD_PVER_VERSION 0 (s.installed key)).put .UPD_PCTR_COUNTER 0 (s.partCounter key)).put .UPD_TRIAL_LEFT 0 left

/-- The UPD works (R31, R471). -/
def State.updRuns (s : State) : Bool := !s.failed 0x1E

/-- A refusal or an abandoned update (R484). -/
def State.updRefuse (s : State) (reason detail : Nat) : State :=
  (((s.put .UPD_RESULT_REASON 0 reason).put .UPD_RESULT_DETAIL 0 detail).put .UPD_STATUS_REFUSED 0 1).raise2 0x1E02 detail reason

/-- A command that the state does not allow (R499). -/
def State.updBadState (s : State) (cmd : Nat) : State := s.raise2 0x1E0A cmd s.updState

/-- A part entry read from a manifest (R482). -/
def readPart (m : List Nat) (i : Nat) : UpdPart :=
  let e := (m.drop (64 + 96 * i)).take 96
  { kind := u8 e 0, unit := u8 e 1, imgId := u16 e 2, version := u32 e 4, length := u32 e 8, file := (e.drop 16).take 16, digest := (e.drop 32).take 48 }

/-- The part entries of a manifest. -/
def manifestParts (m : List Nat) : List UpdPart := (List.range (u16 m 0x0C)).map (readPart m)

/-- The reserved fields of a part entry and its ranges (R482). -/
def partOk (m : List Nat) (i : Nat) : Bool :=
  let e := (m.drop (64 + 96 * i)).take 96
  let p := readPart m i
  decide (1 ≤ p.kind ∧ p.kind ≤ 6) && (if p.kind = 2 then [0x11, 0x12, 0x19, 0x1A, 0x1D].contains p.unit else p.unit == 0) &&
    (p.kind == 6 || p.imgId == 0) && decide (1 ≤ p.length ∧ p.length ≤ 536870912) && u32 e 12 == 0 && (e.drop 80).all (· == 0)

/-- Check 0x03 of R484. -/
def manifestOk (m : List Nat) : Bool :=
  let n := u16 m 0x0C
  m.take 4 == [0x4C, 0x58, 0x55, 0x4D] && u16 m 4 == 1 && u16 m 6 == 64 && decide (1 ≤ n ∧ n ≤ 64) &&
    u32 m 8 == 64 + 96 * n + 144 && m.length == u32 m 8 && decide (u16 m 0x0E ≤ 120) && u16 m 0x26 == 0 && u32 m 0x38 == 0 &&
    u32 m 0x3C == crc32c (m.take 0x3C) && (List.range n).all (partOk m) &&
    ((manifestParts m).map UpdPart.key).eraseDups.length == n

/-- The SITEID that check 0x04 compares with: the bound one, else that of the active plan. -/
def State.siteNow (s : State) : List Nat := (s.sec.siteId.orElse fun _ => s.plan.map fun p => (p.raw.drop 0x24).take 16).getD []

/-- The signature of a manifest (R483): ALG 2 and KEYSLOT 5 only. -/
def State.manifestSigned (s : State) (m : List Nat) : Bool :=
  let b := m.drop (m.length - 144)
  u8 b 0 == 2 && u8 b 1 == 0 && u16 b 2 == 96 && u16 b 4 == 5 && u16 b 6 == 0 && (b.drop 104).all (· == 0) &&
    (s.slot 5).full && verifies 2 (s.pubOf 5) (m.take (m.length - 144)) ((b.drop 8).take 96)

/-- The bytes of a part's file. -/
def Medium.fileOf (d : Medium) (p : UpdPart) : Option (List Nat) := (d.files.find? fun f => f.1 == p.file).map (·.2)

/-- The index of the first part that fails a test. -/
def firstBad (l : List UpdPart) (ok : UpdPart → Bool) : Option Nat := l.findIdx? fun p => !ok p

/-- The plan part of a kind, as bytes. -/
def Medium.planOf (d : Medium) (l : List UpdPart) (kind : Nat) : Option (List Nat) := (l.find? fun p => p.kind == kind).bind d.fileOf

/-- The plan parts against the active plan (R490). -/
def State.planPartsOk (s : State) (new back : Option (List Nat)) : Bool :=
  match new, back, s.plan with
  | none, none, _ => true
  | some a, some b, some p =>
    let a := readPlan a
    let b := readPlan b
    a.planId == p.planId && a.safeCv == p.safeCv && a.legalCv == p.legalCv && b.planId == p.planId &&
      (List.range 11).all (fun i => b.crcs.getD i 0 == p.crcs.getD i 0) && decide (a.planVer < b.planVer)
  | _, _, _ => false

/-- The IMGIDs that the node records of a plan name (R366). -/
def Plan.imgIds (p : Plan) : List Nat := (p.netw.filter fun r => r.type == 7 && r.byte 1 == 1).map fun r => r.u16 16

/-- Seconds of the clock of R488: PTP, or ledger time. -/
def State.clockSec (s : State) (byPtp : Bool) : Nat := if byPtp then s.ptpSec else s.ltime / 65536

/-- The first whole second of that clock that is not past. -/
def State.clockNext (s : State) (byPtp : Bool) : Nat :=
  if byPtp then (s.ptpNs + 999999999) / 1000000000 else (s.ltime + 65535) / 65536

/-- The conditions of R488 on T. -/
def State.timeOk (s : State) (byPtp : Bool) (drain t : Nat) : Bool :=
  decide (s.clockNext byPtp + drain * 60 + 60 ≤ t) && decide (t ≤ s.clockSec byPtp + 30 * 86400) && (!byPtp || s.ptpUsable)

/-- Checks 0x01 to 0x0D of R484: reason and detail of the first failure, 0 for none. -/
def State.updChecks (s : State) : Nat × Nat :=
  match s.upd.medium with
  | none => (1, 0)
  | some d =>
    match d.manifest with
    | none => (2, 0)
    | some m =>
      if manifestOk m = false then (3, 0)
      else
        let site := (m.drop 0x28).take 16
        let l := manifestParts m
        if u32 m 0x10 ≠ 0x2464 ∨ (site.all (· == 0) = false ∧ site ≠ s.siteNow) then (4, 0)
        else if s.manifestSigned m = false then (5, 0)
        else match firstBad l (fun p => ((d.fileOf p).map fun f => f.length == p.length).getD false) with
          | some i => (6, i)
          | none => match firstBad l (fun p => ((d.fileOf p).map fun f => hashBytes 48 48 (sha384 f) == p.digest).getD false) with
            | some i => (7, i)
            | none => match firstBad l (fun p => decide (s.partCounter p.key ≤ p.version)) with
              | some i => (8, i)
              | none =>
                let new := d.planOf l 4
                let back := d.planOf l 5
                let r := (new.map s.checkPlan).getD 0
                let r := if r = 0 then (back.map s.checkPlan).getD 0 else r
                let ids := ((new.map readPlan).orElse fun _ => s.plan).map Plan.imgIds |>.getD []
                let t := fromLe ((m.drop 0x18).take 8)
                if u32 m 0x20 ≠ 0 ∧ u32 m 0x20 ≠ s.installed (partKey 1 0 0) then (9, 0)
                else if r ≠ 0 then (0x0A, r)
                else if s.planPartsOk new back = false then (0x0B, 0)
                else if (l.all fun p => p.kind != 6 || ids.contains p.imgId) = false then (0x0C, 0)
                else if t ≠ 0 ∧ s.timeOk true (u16 m 0x0E) t = false then (0x0D, 0) else (0, 0)

/-- LOAD (R484, R485): check 0x0F comes first. -/
def State.updLoad (s : State) : State :=
  if s.updState ≠ 0 ∨ s.ppl.staged.isSome ∨ s.lifeCycle ∉ [1, 2, 3] then s.updRefuse 0x0F 0 else s.setUpdState 1

/-- The update held is scheduled for T (R488): event 0x1E04 with the minutes until T. -/
def State.schedule (s : State) (byPtp : Bool) (t : Nat) : State :=
  match s.upd.hold with
  | none => s
  | some h =>
    let s := s.setUpd { s.upd with hold := some { h with t := some t, byPtp := byPtp, tL := s.ledgerOf byPtp t } }
    let s := (s.put .UPD_ACTTIME_L 0 t).put .UPD_ACTTIME_H 0 (t / 2 ^ 32)
    s.raise 0x1E04 (min 0xFFFF ((t - s.clockSec byPtp) / 60))

/-- T_L in force: it follows T while the PTP client is locked (R488). -/
def State.tL (s : State) (h : UpdHold) : Nat :=
  match h.t with
  | none => 0
  | some t => if h.byPtp && s.ptpState == 3 then s.ledgerOf true t else h.tL

/-- The manifest of the medium. -/
def State.manifestRead (s : State) : List Nat := (s.upd.medium.bind (·.manifest)).getD []

/-- The update that a manifest describes, as the UPD holds it from the first write on (R485). -/
def State.holdOf (s : State) (m : List Nat) : UpdHold :=
  let l := manifestParts m
  let file := fun (p : UpdPart) => s.upd.medium.bind fun d => d.fileOf p
  { updId := u32 m 0x14, drain := u16 m 0x0E, manifest := m, parts := l
    plan := s.upd.medium.bind fun d => d.planOf l 4, fallback := s.upd.medium.bind fun d => d.planOf l 5
    written := (l.filter fun p => !p.isPlan && p.version != s.installed p.key).map fun p => (p.key, s.installed p.key, p.version)
    oldSfmt := s.upd.sfmt, newSfmt := u16 m 0x24
    images := (l.filter fun p => p.kind == 6).map fun p => (p.imgId, (file p).getD []) }

/-- UPD_PROGRESS shows a part (R499): the last one done with its KiB, or the first one begun. -/
def State.showPart (s : State) (l : List UpdPart) (ends : Bool) : State :=
  let kib := if ends then ((l.getLast?.map (·.length)).getD 0 + 1023) / 1024 else 0
  (s.put .UPD_PROGRESS_PART 0 (if ends then l.length - 1 else 0)).put .UPD_PROGRESS_DONE 0 kib

/-- The medium has been read (R485 step 1): event 0x1E01 where it holds a manifest, and STATE shows checking. -/
def State.updRead (s : State) : State :=
  if s.updState ≠ 1 then s
  else
    let m := s.manifestRead
    let ok := s.upd.medium.isSome && manifestOk m
    let s := (s.setUpdState 2).onlyIf ok fun s => s.raise 0x1E01 (u32 m 0x14 % 65536)
    s.showPart (if ok then manifestParts m else []) ok

/-- The checks have been made (R484): the first failure refuses the update, else the writing begins. -/
def State.updCheck (s : State) : State :=
  if s.updState ≠ 2 then s
  else
    let (r, d) := s.updChecks
    if r ≠ 0 then (s.setUpdState 0).updRefuse r d
    else
      let h := s.holdOf s.manifestRead
      ((s.setUpd { s.upd with hold := some h }).setUpdState 3).showPart h.parts false

/-- The ALK sends the node images of an update, or stops sending them (R368, R485 step 4). -/
def State.sendImages (s : State) (l : List (Nat × List Nat)) : State := s.setAlk { s.alk with images := l, imgAt := 0 }

/-- Everything is written (R485 steps 3 and 4): the update is staged, and scheduled where the manifest gives a time. -/
def State.updStage (s : State) : State :=
  match s.upd.hold with
  | none => s
  | some h =>
    let s := (((s.setUpdState 4).showPart h.parts true).raise 0x1E03 h.parts.length).sendImages h.images
    let t := fromLe ((h.manifest.drop 0x18).take 8)
    if t = 0 then s else s.schedule true t

/-- UPDATE_STAGED (R484, R485): reading, checks and writing are complete; `writeFail` is a part that the image store or the reserve area did not
take (check 0x0E): what was written is restored. -/
def execUpdateStaged (writeFail : Option (Fin 64)) (s : State) : Out :=
  if s.updState = 0 ∨ 3 < s.updState ∨ s.updRuns = false then .next s
  else
    let s := s.updRead.updCheck
    if s.updState ≠ 3 then .next s
    else match writeFail with
      | some i => .next (((s.setUpd { s.upd with hold := none }).setUpdState 0).updRefuse 0x0E i)
      | none => .next s.updStage

/-- The UPD while no command waits: the next step of R485 up to the writing ends. -/
def State.updProgress (s : State) : State := if !s.updRuns || !s.appRuns then s else if s.updState = 1 then s.updRead else s.updCheck

/-- ACTIVATE (R488). -/
def State.updActivate (s : State) : State :=
  match s.upd.hold with
  | none => s.updBadState 2
  | some h =>
    if s.updState ≠ 4 ∨ (fromLe ((h.manifest.drop 0x18).take 8) ≠ 0) then s.updBadState 2
    else
      let byPtp := s.ptpUsable
      let ask := s.rd .UPD_ACTTIME_L 0 + 2 ^ 32 * s.rd .UPD_ACTTIME_H 0
      let t := if ask = 0 then s.clockNext byPtp + h.drain * 60 + 60 else ask
      if (byPtp = false ∧ h.parts.any (fun p => p.kind == 6)) ∨ s.timeOk byPtp h.drain t = false then s.updRefuse 0x0D 0 else s.schedule byPtp t

/-- The update held is dropped: the state returns to idle (R484, R492, R494). -/
def State.updDrop (s : State) : State :=
  (((s.setUpd { s.upd with hold := none, trial := 0, trialAt := none, nodeT := none, nodeRun := false, fallbackAt := none }).setUpdState 0).put
    .UPD_STATUS_SETDUAL 0 0).sendImages []

/-- An update is abandoned (R495): written parts are restored first. -/
def State.updAbandon (s : State) (reason : Nat) : State :=
  let wrote := ((s.upd.hold.map fun h => !h.written.isEmpty).getD false)
  (if wrote then (s.setUpdState 9).sendImages [] else s.updDrop).updRefuse reason 0

/-- CANCEL (R495). -/
def State.updCancel (s : State) : State := if 1 ≤ s.updState ∧ s.updState ≤ 5 then s.updAbandon 0x10 else s.updBadState 3

/-- ABANDON_RESTORE_DONE (R495). -/
def execAbandonRestoreDone (s : State) : Out := .next (if s.updState = 9 && s.updRuns then s.updDrop else s)

/-- MEDIUM_INSERTED (R479, R480): a medium is mounted; it has no manifest file where the directory is missing or it has further partitions. -/
def execMediumInserted (manifest : Option (List (BitVec 8))) (files : List (List (BitVec 8) × List (BitVec 8))) (s : State) : Out :=
  let b := fun (l : List (BitVec 8)) => l.map (·.toNat)
  .next ((s.setUpd { s.upd with medium := some ⟨manifest.map b, files.map fun f => (b f.1, b f.2)⟩ }).put .UPD_STATUS_MEDIA 0 1)

/-- MEDIUM_REMOVED (R498). -/
def execMediumRemoved (s : State) : Out :=
  let s := (s.setUpd { s.upd with medium := none }).put .UPD_STATUS_MEDIA 0 0
  .next (if s.updState = 1 ∨ s.updState = 2 then s.updAbandon 0x11 else s)

/-- OCPP_FIRMWARE_REQUEST (R478): refused; `v2` for OCPP 2.0.1 and 2.1. -/
def execOcppFirmwareRequest (v2 : Bool) (s : State) : Out :=
  .next (({ s with ntu := { s.ntu with backOffice := s.ntu.backOffice ++ [.firmwareRefused v2] } } : State).raise 0x1E0C (1 + b2n v2))

/-- DRAIN_START (R489 step 1): at T − DRAIN. -/
def execDrainStart (s : State) : Out :=
  match s.upd.hold with
  | none => .next s
  | some h =>
    if s.updState ≠ 4 ∨ h.t.isNone ∨ s.updRuns = false then .next s
    else
      let s := s.moveTo (s.whenLtime (s.tL h - h.drain * 60 * 65536))
      .next ((s.setUpdState 5).raise 0x1E05 0)

/-- The nodes that a KIND 6 part names (R489). -/
def State.namedNodes (s : State) (h : UpdHold) : List NetwRec :=
  s.nodeRecs.filter fun r => h.parts.any fun p => p.kind == 6 && p.imgId == r.u16 16

/-- A step of R489 before T is under way. -/
def State.scheduled (s : State) : Option UpdHold := if (s.updState = 4 ∨ s.updState = 5) ∧ s.updRuns then s.upd.hold.filter fun h => h.t.isSome else none

/-- NODE_IMAGE_DEADLINE (R489 step 2): at T − 60 s. -/
def execNodeImageDeadline (s : State) : Out :=
  match s.scheduled with
  | none => .next s
  | some h =>
    let s := s.moveTo (s.whenLtime (s.tL h - 60 * 65536))
    .next (if (s.namedNodes h).all fun r => s.flag .ALK_NVER_PEND (r.byte 2) then s else s.updAbandon 0x12)

/-- NODE_ACTIVATE_SEND (R489 step 3): at T − 5 s. -/
def execNodeActivateSend (s : State) : Out :=
  match s.scheduled with
  | none => .next s
  | some h =>
    let s := s.moveTo (s.whenLtime (s.tL h - 5 * 65536))
    let ids := (h.parts.filter fun p => p.kind == 6).map (·.imgId)
    .next (if ids.isEmpty then s else s.announceImages ⟨h.t.getD 0, ids, false⟩ ((h.parts.filter fun p => p.kind == 6).map (·.version)))

/-- The firmware ends every open session as an EVSE stop (R489, R494). -/
def State.endSessions (s : State) : State :=
  s.each (List.range 24) fun s n =>
    let s := s.onlyIf (s.inSession n) fun s => s.endSession n 2
    s.onlyIf (s.session n || s.flag .OIU_CONTACT_CMD n) fun s => (s.putFlag .OIU_CONTACT_CLOSE_EN n false).contact n

/-- A plan part is staged in the PPL and its activation commanded (R489, R494); a restore that resumes finds it in force already. -/
def State.stagePart (s : State) (raw : Option (List Nat)) (cold : Bool) : State :=
  match raw with
  | none => s
  | some raw =>
    if s.plan.map (·.planVer) = some (readPlan raw).planVer then s
    else
    let s := s.stagePlan raw
    if cold then (s.setPpl { s.ppl with commanded := some 3, byUpdate := true }).showStaged
    else (s.setPpl { s.ppl with byUpdate := true }).arrange

/-- UPDATE_ACTIVATION (R489 step 4): at T. -/
def execUpdateActivation (s : State) : Out :=
  match s.scheduled with
  | none => .next s
  | some h =>
    let s := s.moveTo (s.whenLtime (s.tL h))
    .next ((s.endSessions.setUpdState 6).stagePart h.plan false)

/-- What step 5 of R489 writes: the new versions, ledger record 0x38 and event 0x1E06; the trial begins (R491). -/
def State.updBegin (s : State) (h : UpdHold) : State :=
  let s := h.written.foldl (fun s w => s.setInstalled w.1 w.2.2) s
  let s := s.setUpd { s.upd with sfmt := h.newSfmt, trial := 0, trialAt := none, nodeRun := false }
  let digest := fromLe (hashBytes 32 16 (sha256 h.manifest))
  let s := s.request 1 [⟨0x38, s.ltime, [⟨16, 4, h.updId⟩, ⟨20, 1, h.parts.length⟩, ⟨22, 2, h.oldSfmt⟩, ⟨24, 2, h.newSfmt⟩, ⟨28, 8, h.t.getD 0⟩, ⟨36, 16, digest⟩]⟩]
  ((s.putFlag .UPD_STATUS_SETDUAL 0 (h.oldSfmt != h.newSfmt)).setUpdState 7).raise 0x1E06 (h.updId % 65536)

/-- ACTIVATION_RESET (R489 step 5): at T + 5 s. -/
def execActivationReset (s : State) : Out :=
  match s.upd.hold with
  | none => .next s
  | some h =>
    if s.updState ≠ 6 ∨ s.updRuns = false then .next s
    else
      let s := s.moveTo (s.whenLtime (s.tL h + 5 * 65536))
      .next ((s.updBegin h).coldCommand 4 3)

/-- The commit of an update in trial (R492): 1 host, 2 72 h. -/
def State.updCommit (s : State) (cause : Nat) : State :=
  match s.upd.hold with
  | none => s
  | some h =>
    let up := h.parts.filter fun p => !p.isPlan && decide (s.partCounter p.key < p.version)
    let s := up.foldl (fun s p => s.setUpd { s.upd with counters := update 0 s.upd.counters p.key p.version }) s
    let s := s.request 1 [⟨0x39, s.ltime, [⟨16, 4, h.updId⟩, ⟨20, 1, cause⟩, ⟨21, 1, up.length⟩]⟩]
    ((s.count .UPD_COUNT_COMMITS 0).raise 0x1E07 cause).updDrop

/-- CONFIRM (R492). -/
def State.updConfirm (s : State) : State := if s.updState = 7 then s.updCommit 1 else s.updBadState 4

/-- TRIAL_COMPLETE (R491, R492): the trial count reaches 72 h. -/
def execTrialComplete (s : State) : Out :=
  if s.updState ≠ 7 ∨ s.upd.trialAt.isNone ∨ s.updRuns = false then .next s
  else .next ((s.moveTo (s.whenLtime (s.ltime + (4320 * 60 * 65536 - s.trialTicks)))).updCommit 2)

/-- The parts that a fallback restores. -/
def UpdHold.restored (h : UpdHold) : Nat := h.written.length + b2n h.fallback.isSome

/-- A fallback starts (R494): event 0x1E08, ledger record 0x3A, and the end of open sessions. -/
def State.startFallback (s : State) (cause : Nat) : State :=
  match s.upd.hold with
  | none => s
  | some h =>
    let s := s.setUpd { s.upd with hold := some { h with cause := cause }, nodeT := none, trialAt := none }
    let s := (s.request 1 [⟨0x3A, s.ltime, [⟨16, 4, h.updId⟩, ⟨20, 1, cause⟩, ⟨21, 1, h.restored⟩]⟩]).count .UPD_COUNT_FALLBACKS 0
    ((s.setUpdState 8).raise 0x1E08 cause).endSessions

/-- GSE_STARTUP_TESTS_DONE (R265, R267): 0 passed, else the fault code; `inputs` are the inputs as checked in step 5. A failure in the trial of
an update causes a fallback (R493 cause 2). -/
def execGseStartupTestsDone (failed : Fin 10) (inputs : BitVec 16) (s : State) : Out :=
  let t := s.gseTestsDone failed inputs.toNat
  .next (if s.gse.testsT.isSome ∧ failed.val ≠ 0 ∧ t.updState = 7 then t.startFallback 2 else t)

/-- FALLBACK (R493): cause 4 in a trial. -/
def State.updFallback (s : State) : State := if s.updState = 7 then s.startFallback 4 else s.updBadState 5

/-- The replaced parts are back (R494 step 2, R497). -/
def State.restoreParts (s : State) (h : UpdHold) (cold : Bool) : State :=
  let s := h.written.foldl (fun s w => s.setInstalled w.1 w.2.1) s
  (s.setUpd { s.upd with sfmt := h.oldSfmt }).stagePart h.fallback cold

/-- The ALK sends FALLBACK to the nodes of an update's images (R494 step 3). -/
def State.tellFallback (s : State) (h : UpdHold) (t : Nat) : State :=
  let ids := (h.parts.filter fun p => p.kind == 6).map (·.imgId)
  if ids.isEmpty then s else s.announceImages ⟨t, ids, true⟩ (ids.map fun _ => 0)

/-- FALLBACK_RESTORE_DONE (R494 steps 2 and 3): the nodes switch, and the reset follows, at the first whole PTP second at least 10 s later. -/
def execFallbackRestoreDone (s : State) : Out :=
  match s.upd.hold with
  | none => .next s
  | some h =>
    if s.updState ≠ 8 ∨ s.upd.fallbackAt.isSome ∨ s.updRuns = false then .next s
    else
      let s := s.restoreParts h false
      let s := s.setUpd { s.upd with hold := some { h with told := true } }
      let byPtp := s.ptpUsable
      let t := s.clockNext byPtp + 10
      let s := s.tellFallback h t
      .next (s.setUpd { s.upd with fallbackAt := some (s.ledgerOf byPtp t) })

/-- FALLBACK_RESET (R494 step 5). -/
def execFallbackReset (s : State) : Out :=
  match s.upd.fallbackAt with
  | none => .next s
  | some t => if s.updState ≠ 8 ∨ s.updRuns = false then .next s else .next (((s.moveTo (s.whenLtime t)).setUpd { s.upd with fallbackAt := none }).coldCommand 4 3)

/-- NODE_VERSION_TIMEOUT (R493): a named node does not show the new version with CONF = 1 in time. -/
def execNodeVersionTimeout (s : State) : Out :=
  match s.upd.hold, s.upd.nodeT with
  | some h, some t =>
    if s.updState ≠ 7 ∨ s.updRuns = false then .next s
    else
      let s := (s.moveTo t).setUpd { s.upd with nodeT := none }
      let ok := (s.namedNodes h).all fun r =>
        let want := ((h.parts.find? fun p => p.kind == 6 && p.imgId == r.u16 16).map (·.version)).getD 0
        s.flag .ALK_NVER_CONF (r.byte 2) && s.rd .ALK_NVER_VERSION (r.byte 2) == want % 2 ^ Fld.ALK_NVER_VERSION.width
      .next (if ok then s else s.startFallback 3)
  | _, _ => .next s

/-- The UPD at a cold start, before the plan is verified (R489, R494, R498): an interrupted writing or abandoned update is restored; a due
activation takes place; a crash loop falls back; an interrupted fallback resumes. -/
def State.updCold (s : State) (microFail : Bool) : State :=
  match s.upd.hold with
  | none => if s.updState = 0 then s else (s.updDrop).updRefuse 0x10 0
  | some h =>
    let st := s.updState
    if st = 9 then s.updDrop
    else if st ≤ 3 then s.updDrop.updRefuse 0x10 0
    else if st = 6 ∨ ((st = 4 ∨ st = 5) ∧ h.t.isSome ∧ h.tL + 5 * 65536 ≤ s.ltime) then
      let s := s.stagePart h.plan true
      s.updBegin h
    else if st = 7 then
      if s.rd .BCU_RSTCAUSE_CAUSE 0 = 4 ∨ microFail then
        let s := s.startFallback (if s.rd .BCU_RSTCAUSE_CAUSE 0 = 4 then 1 else 2)
        s.restoreParts h true
      else s
    else if st = 8 then s.restoreParts h true
    else if st = 4 ∨ st = 5 then s.sendImages h.images
    else s

/-- A part has failed at a start in a trial (R493 cause 2): the fallback runs before the continuous domain starts. -/
def State.updPartFailed (s : State) : State :=
  match s.upd.hold with
  | none => s
  | some h => if s.updState = 7 then (s.startFallback 2).restoreParts h true else s

/-- The running core firmware comes from its reserve copy (R487). -/
def State.reserveLoad (s : State) : State :=
  match s.upd.hold with
  | none => s
  | some h => if ((3 ≤ s.updState ∧ s.updState ≤ 6) ∨ s.updState = 9) ∧ h.written.any (fun w => w.1 == partKey 1 0 0) then s.raise 0x1E0B 0 else s

/-- The UPD when the firmware starts (R489 step 6, R493, R494): the deadline of the nodes runs from the trial's first start; a fallback is
complete. -/
def State.updFirmware (s : State) (cold : Bool) : State :=
  match s.upd.hold with
  | none => s
  | some h =>
    if s.updState = 8 ∧ cold then
      let s := s.onlyIf (!h.told) fun s => s.tellFallback h (s.clockNext s.ptpUsable + 10)
      (s.raise 0x1E09 h.restored).updDrop
    else if s.updState = 7 ∧ cold ∧ s.upd.nodeRun = false ∧ h.parts.any (fun p => p.kind == 6) then
      s.setUpd { s.upd with nodeRun := true, nodeT := some (s.now + msec (if s.wide then 60000 else 600000)) }
    else s

/-- A unit reset of the UPD (R471, R495). -/
def State.updReset (s : State) : State := if 1 ≤ s.updState ∧ s.updState ≤ 5 then s.updAbandon 0x10 else s

/-- A write of CMD in UPD_CMD (R499); a UPD that has failed takes none (R474). -/
def State.updCommand (s : State) (cmd : Nat) : State :=
  if !s.updRuns then s
  else match cmd with
  | 1 => s.updLoad
  | 2 => s.updActivate
  | 3 => s.updCancel
  | 4 => s.updConfirm
  | 5 => s.updFallback
  | _ => s

/-- LOAD (R485). -/
def execLoad (s : State) : Out := .next (s.updCommand 1)

/-- ACTIVATE (R488). -/
def execActivate (s : State) : Out := .next (s.updCommand 2)

/-- CANCEL (R495). -/
def execCancel (s : State) : Out := .next (s.updCommand 3)

/-- CONFIRM (R492). -/
def execConfirm (s : State) : Out := .next (s.updCommand 4)

/-- FALLBACK (R493, R494). -/
def execFallback (s : State) : Out := .next (s.updCommand 5)

/-- The idle step: time goes on by 1 µs, the UPD's reading and checking go on (R485), and the HPU delivers what subscriptions wait for (R384). -/
def idle (s : State) : State := (((s.moveTo (s.now + usec 1)).each (List.range 4) State.freezeLimit).updProgress).deliver

end Sys2Proof.Machine
end

