-- ==== Sys2Proof/Machine/Ndef.lean ====
section
/-! DEFINITION. CLU (chapter 10), the NDEF message of the tag: its three records and its rewrite (R286, R287). -/

namespace Sys2Proof.Machine

open Sys2Proof

/-- A hexadecimal digit in ASCII, uppercase (R10). -/
def hexDigit (v : Nat) : Nat := if v < 10 then 48 + v else 55 + v

/-- A check value as text: two groups of four hexadecimal digits with a hyphen (R10). -/
def checkText (v : Nat) : List Nat :=
  let d := fun (k : Nat) => hexDigit (v / 16 ^ k % 16)
  [d 7, d 6, d 5, d 4, 45, d 3, d 2, d 1, d 0]

/-- A MIME record of the message: type application/vnd.ramund.lx2464 and a record identifier (R286). PRESUMED (log entry 77): the header is that of the
NFC Forum's NDEF specification. -/
def ndefRecord (first last : Bool) (id : Nat) (payload : List Nat) : List Nat :=
  let type := ascii "application/vnd.ramund.lx2464"
  let short := decide (payload.length < 256)
  [128 * b2n first + 64 * b2n last + 16 * b2n short + 8 + 2, type.length] ++
    (if short then [payload.length] else (leBytes 4 payload.length).reverse) ++ [1] ++ type ++ [id] ++ payload

/-- The NDEF message TLV and the terminator TLV (R286); PRESUMED as the header of a record. With `empty`, the length is 0 (R287). -/
def ndefTlv (empty : Bool) (message : List Nat) : List Nat :=
  let n := message.length
  let len := if n < 255 then [n] else [255, n / 256, n % 256]
  [3] ++ (if empty then len.map fun _ => 0 else len) ++ message ++ [0xFE]

/-- The commissioning record (R286): serial number, life-cycle state, PLANID, PLANVER, SAFECV as text, LEGALCV, CALCV, firmware version, ledger time. -/
def State.commissioning (s : State) : List Nat :=
  let values := [cborText serialText, cborUint (s.rd .SEC_LC_STATE 0), cborUint (s.rd .PPL_PLANID_PLANID 0), cborUint (s.rd .PPL_PLANVER_PLANVER 0),
    cborText (checkText (s.rd .PPL_SAFECV_SAFECV 0)), cborUint (s.rd .PPL_LEGALCV_LEGALCV 0), cborUint (s.rd .MEU_CALCV_CALCV 0),
    cborUint (s.installed (partKey 1 0 0)), cborUint s.ltime]
  cborHead 5 values.length ++ (values.zipIdx.flatMap fun e => cborText (Config.ndefKey e.2) ++ e.1)

/-- The tamper log (R286): the last 32 entries, newest first. -/
def State.tamperRecord (s : State) : List Nat :=
  let l := s.blu.tamperLog.take 32
  cborHead 4 l.length ++ l.flatMap fun c => cborHead 4 3 ++ cborUint c.ltime ++ cborUint c.input ++ cborUint c.kind

/-- The NDEF area's content (R286). -/
def State.ndefBytes (s : State) (empty : Bool) : List Nat :=
  ndefTlv empty (ndefRecord true false 0x63 s.commissioning ++ ndefRecord false false 0x74 s.tamperRecord ++ ndefRecord false true 0x73 s.lastNganakar)

/-- The words of a list of bytes. -/
def wordsOf : Nat → List Nat → List Nat
  | 0, _ => []
  | k + 1, l => if l.isEmpty then [] else fromLe (l.take 4) :: wordsOf k (l.drop 4)

/-- Words written to the NDEF area from its first block on. -/
def State.writeNdef (s : State) (words : List Nat) : State :=
  s.setClu (words.zipIdx.foldl (fun c e => c.setBlock (2 + e.2) e.1) s.clu)

/-- The rewrite of the message behind the gate, which closes and opens again (R287): the length 0, the records, the new length. -/
def State.rewriteNdef (s : State) : State :=
  let s := (s.writeHold true).writeNdef (wordsOf 1022 (s.ndefBytes false))
  (s.writeHold false).setClu { (s.writeHold false).clu with ndefDue := false }

/-- NDEF_REWRITE (R286, R287). `cut` says that power fails after the step: 0 the gate, 1 the length 0, 2 the records; the field then reads an empty message
until the next start, which rewrites it. -/
def execNdefRewrite (cut : Option (Fin 3)) (s : State) : Out :=
  if !s.appRuns || s.failed 0x18 then .next s
  else match cut with
    | none => .next s.rewriteNdef
    | some k =>
      let s := s.writeHold true
      let words := wordsOf 1022 (s.ndefBytes true)
      let s := s.onlyIf (k.val != 0) fun s => s.writeNdef (if k.val = 1 then words.take 1 else words)
      .next (s.setClu { s.clu with ndefDue := true })

/-- A start rewrites a message whose rewrite was cut short (R287). -/
def State.ndefStart (s : State) : State := s.onlyIf s.clu.ndefDue State.rewriteNdef

end Sys2Proof.Machine
end

