-- ==== Sys2Proof/Machine/Power.lean ====
section
/-! DEFINITION. BCU and CGU (chapter 17): supply, power failure and restoration, Basecamp, clocks, the resets, the watchdog, the Guy hold, and
the Ember profile (R40, R41). -/

namespace Sys2Proof.Machine

open Sys2Proof

/-- The main supply runs the module. -/
def State.mainPower (s : State) : Bool := s.bcu.phase != .off

/-- The ride-through in ms: 0 while HUFAULT is 1 (R447, R448). -/
def State.rideThrough (s : State) : Nat := if s.flag .BCU_STATUS_HUFAULT 0 then 0 else min 20 (s.rd .BCU_PFCFG_PFRIDE 0)

/-- VIN shows a value of a range in 10 mV that the spec leaves open. -/
def State.showVin (s : State) (lo size : Nat) : State :=
  let (v, s) := s.draw
  s.put .BCU_SUPPLY_VIN 0 (lo + v % size)

/-- VIN_LOSS (R444, R445, R448): VIN becomes absent: low, reversed or above the threshold. -/
def execVinLoss (kind : VinState) (s : State) : Out :=
  if s.bcu.vin.isSome ∨ s.bcu.phase = .off then .next s
  else
    let s := s.setBcu { s.bcu with vin := some kind, absentAt := some s.now }
    .next (match kind with
      | .low => s.showVin 0 3451
      | .reversed => s.put .BCU_SUPPLY_VIN 0 0
      | .over => (s.showVin 7700 2301).put .BCU_STATUS_OVV 0 1)

/-- SUPPLY_DIP (R448): VIN returns `ms` after its loss, before t_pf. -/
def execSupplyDip (ms : Nat) (s : State) : Out :=
  match s.bcu.vin, s.bcu.absentAt with
  | some _, some t =>
    if s.bcu.phase = .commit ∨ s.bcu.phase = .off ∨ s.rideThrough ≤ ms then .next s
    else
      let s := (s.moveTo (t + msec ms)).showVin 3600 3901
      let s := s.setBcu { s.bcu with vin := none, absentAt := none }
      .next ((s.put .BCU_STATUS_DIP 0 1).raise 0x0103 ms)
  | _, _ => .next s

/-- The argument of event 0x0101 for an absent VIN (R476). -/
def vinCause : VinState → Nat
  | .low => 1
  | .reversed => 2
  | .over => 2

/-- POWER_FAILURE (R448, R449): PFRIDE has run out, or (2) VHOLD has fallen below 50 V while VIN is absent. -/
def execPowerFailure (cause : Fin 3) (s : State) : Out :=
  match s.bcu.vin, s.bcu.absentAt with
  | some k, some t =>
    if s.bcu.phase = .off ∨ (s.bcu.phase = .commit ∧ s.bcu.commanded.isNone) then .next s
    else if s.bcu.phase = .commit then .next (s.setBcu { s.bcu with commanded := none })
    else if cause.val = 2 then .next ((s.put .BCU_SUPPLY_VHOLD 0 4999).declarePf 3 none)
    else .next ((s.moveTo (t + msec s.rideThrough)).declarePf (vinCause k) none)
  | _, _ => .next s

/-- HOLDUP_END (R450): at t_pf + 10 ms every domain except Basecamp is switched off; Basecamp stays on VHOLD (R452). -/
def execHoldupEnd (s : State) : Out :=
  if s.bcu.phase ≠ .commit ∨ s.bcu.commanded.isSome then .next s
  else
    let t := s.bcu.tpf.getD s.now
    let (v, s) := s.draw
    let s := if s.flag .BCU_STATUS_HUFAULT 0 && v % 2 == 1 then s else s.finishCommit
    let s := (s.moveTo (t + msec 10)).clearDomains
    .next ((s.put .BCU_VBAT_SRC 0 (if s.bcu.vin.isSome then 1 else 0)).setBcu { s.bcu with phase := .off, counted := true })

/-- RESTORATION (R451): VIN has stayed in range for 100 ms and VHOLD reaches 60 V, which takes up to 600 ms: a cold reset is released. A
first start of Basecamp is a power-on. -/
def execRestoration (s : State) : Out :=
  if s.bcu.phase ≠ .off then .next s
  else
    let (v, s) := s.draw
    let s := ((s.moveTo (s.now + msec (100 + v % 601))).showVin 3600 3901).put .BCU_SUPPLY_VHOLD 0 6000
    let s := (s.put .BCU_VBAT_SRC 0 0).setBcu { s.bcu with vin := none, absentAt := none, counted := s.bcu.counting, ltBase := s.ltime, ltMark := s.now, lifeAt := s.ltime }
    .next (s.releaseCold (if s.bcu.tpf.isNone then 1 else 2))

/-- BASECAMP_LOSS (R18, R452, R454): all three sources are lost; what lies in Basecamp MRAM stays, and ledger time stops. -/
def execBasecampLoss (s : State) : Out :=
  if s.bcu.phase ≠ .off then .next s
  else
    let lt := s.ltime
    let kept := [Fld.BCU_RSTCAUSE_CAUSE, .BCU_COUNT_WARM, .BCU_COUNT_COLD, .BCU_HOLDCAP_CAP, .BCU_STATUS_HUFAULT, .BCU_GHSTAT_UNHEALTHY]
    let s := s.clearUnit .bcu (fun _ => true) kept
    .next { s with bcu := { phase := .off, ltBase := lt, ltMark := s.now, counting := false, counted := false, vin := s.bcu.vin, absentAt := s.bcu.absentAt }
                   latchOn := [] }

/-- BASECAMP_SOURCE_CHANGE (R452, R454): on VBAT alone with XTAL32 stopped, ledger time does not count. -/
def execBasecampSourceChange (src : Fin 3) (s : State) : Out :=
  let lt := s.ltime
  let s := s.put .BCU_VBAT_SRC 0 src
  .next (if src.val = 2 ∧ s.bcu.xtFault then s.setBcu { s.bcu with ltBase := lt, ltMark := s.now, counting := false } else s)

/-- VBAT_MEASURE (R455). -/
def execVbatMeasure (mv : BitVec 16) (s : State) : Out :=
  if !s.mainPower then .next s
  else
    let s := s.put .BCU_VBAT_VBAT 0 mv.toNat
    if mv.toNat < 2600 then .next ((s.put .BCU_STATUS_VBATLOW 0 1).raise 0x010A (mv.toNat / 10))
    else .next (if 2700 ≤ mv.toNat then s.put .BCU_STATUS_VBATLOW 0 0 else s)

/-- XTAL32_CHECK (R454): `good` within ±200 ppm, `settled` within ±100 ppm for 60 s. -/
def execXtal32Check (good settled : Bool) (s : State) : Out :=
  if !s.mainPower then .next s
  else if !good && !s.bcu.xtFault then .next (((s.setBcu { s.bcu with xtFault := true }).put .BCU_STATUS_XT32F 0 1).raise 0x010B 1)
  else if good && settled && s.bcu.xtFault then .next ((s.setBcu { s.bcu with xtFault := false }).raise 0x010B 0)
  else .next s

/-- HOLDUP_MEASUREMENT_DONE (R447): the charge from 60.0 V to 70.0 V at a cold start. -/
def execHoldupMeasurementDone (microfarad : BitVec 16) (s : State) : Out :=
  if !s.mainPower then .next s
  else
    let s := (s.put .BCU_HOLDCAP_CAP 0 microfarad.toNat).put .BCU_SUPPLY_VHOLD 0 7000
    if microfarad.toNat < 950 then .next ((s.put .BCU_STATUS_HUFAULT 0 1).raise 0x0109 (microfarad.toNat / 10))
    else .next (s.put .BCU_STATUS_HUFAULT 0 0)

/-- CRYSTAL_PROVEN (R457): the PLL locks to the crystal; `tenMicros` is the time from release, in 10 µs. -/
def execCrystalProven (tenMicros : Nat) (s : State) : Out :=
  if s.flag .CGU_STATUS_XTOK 0 ∨ !s.mainPower then .next s
  else
    let s := s.moveTo (s.bcu.coldAt + usec (10 * tenMicros))
    let s := ((s.put .CGU_STATUS_XTOK 0 1).put .CGU_STATUS_PLLOK 0 1).put .CGU_STATUS_ONINT 0 0
    .next (((s.put .CGU_CFG_PROVE 0 (min 0xFFFF tenMicros)).raise 0x0201 (min 0xFFFF tenMicros)).mclkStart)

/-- CRYSTAL_NOT_PROVEN (R457): after 100 ms; the PLL runs from the internal oscillator. -/
def execCrystalNotProven (s : State) : Out :=
  if s.flag .CGU_STATUS_XTOK 0 ∨ !s.mainPower then .next s
  else .next (((s.moveTo (s.bcu.coldAt + msec 100)).put .CGU_STATUS_ONINT 0 1).raise 0x0202 0)

/-- CRYSTAL_FAILURE (R459): 0 no edge, 1 out of band, 2 unstable; a commanded cold reset follows. -/
def execCrystalFailure (kind : Fin 3) (s : State) : Out :=
  if !s.flag .CGU_STATUS_XTOK 0 then .next s
  else
    let s := ((s.put .CGU_STATUS_XTFAIL 0 1).put .CGU_STATUS_ONINT 0 1).put .CGU_STATUS_XTOK 0 0
    .next ((s.raise 0x0203 (kind.val + 1)).coldCommand 6 5)

/-- PLL_LOCK_LOSS (R459). -/
def execPllLockLoss (s : State) : Out :=
  if !s.flag .CGU_STATUS_PLLOK 0 then .next s
  else .next ((((s.put .CGU_STATUS_PLLF 0 1).put .CGU_STATUS_PLLOK 0 0).raise 0x0204 0).coldCommand 6 5)

/-- A write of CGU_FCCTL with START = 1 (R461). -/
def State.startCount (s : State) (win ref meas : Nat) : State :=
  let s := ((s.put .CGU_FCCTL_WIN 0 (clamp 10 24 win)).put .CGU_FCCTL_REF 0 ref).put .CGU_FCCTL_MEAS 0 meas
  if ref = 15 ∨ meas = 15 then s else s.put .CGU_STATUS_FCBUSY 0 1

/-- START (R461). -/
def execStart (win : Nat) (ref meas : Fin 16) (s : State) : Out := .next (s.startCount win ref meas)

/-- FREQUENCY_MEASUREMENT_DONE (R461). -/
def execFrequencyMeasurementDone (count : Nat) (s : State) : Out :=
  if s.flag .CGU_STATUS_FCBUSY 0 then .next ((s.put .CGU_STATUS_FCBUSY 0 0).put .CGU_FCRES_COUNT 0 (min 0xFFFFFFFF count)) else .next s

/-- A write of CGU_CLKEN (R460). -/
def State.writeClken (s : State) (v : Nat) : State :=
  let s := ((s.put .CGU_CLKEN_T1S 0 (bitsOf v 23 16)).put .CGU_CLKEN_ETH 0 (bitsOf v 15 12)).put .CGU_CLKEN_RS485 0 (bitsOf v 11 10)
  let s := ((s.put .CGU_CLKEN_CAN 0 (bitsOf v 9 6)).put .CGU_CLKEN_SDC 0 (bitsOf v 5 5)).put .CGU_CLKEN_USBH 0 (bitsOf v 4 4)
  let s := ((s.put .CGU_CLKEN_HSP 0 (bitsOf v 3 3)).put .CGU_CLKEN_DSE 0 (bitsOf v 2 2)).put .CGU_CLKEN_ALK 0 (bitsOf v 1 1)
  (s.put .CGU_CLKEN_CLU 0 (bitsOf v 0 0)).degrade

/-- CLOCK_ENABLE_WRITE (R460). -/
def execClockEnableWrite (value : BitVec 32) (s : State) : Out := .next (s.writeClken value.toNat)

/-- The units that a unit reset takes (R471), by event class. -/
def resetClasses : List Nat := [0x10, 0x11, 0x12, 0x13, 0x14, 0x15, 0x16, 0x17, 0x18, 0x19, 0x1A, 0x1B, 0x1C, 0x1D, 0x1E]

/-- A safety restart (R268, R472). -/
def State.safetyRestart (s : State) : State := (s.gseStart).raise 0x0108 0

/-- What a unit reset does (R471). -/
def State.unitAction (s : State) (unit index : Nat) : State :=
  match unit with
  | 0x10 => if index < 24 then (s.oiuReset index).trackIdle else s
  | 0x11 => s.vceReset
  | 0x12 => s.dropAll.meuReset.each s.liveElems State.bookNow
  | 0x13 => s.efuReset
  | 0x15 => s.dropAll
  | 0x16 => (s.swReset).dropAll
  | 0x17 => (s.safetyRestart).dropAll
  | 0x18 => s.cluWarm
  | 0x19 => s.tlsLost.secStart 0
  | 0x1A => s.alkRestart 2
  | 0x1B => s.ntuReset
  | 0x1C => s.hpuReset
  | 0x1D => s.dseStart
  | 0x1E => s.updReset
  | _ => s

/-- A unit reset command (R471): refused for the units that the table refuses, and for values that name no unit. -/
def State.unitReset (s : State) (unit index : Nat) : State :=
  if unit ∉ resetClasses ∨ (unit = 0x10 ∧ 24 ≤ index) then s.raise2 0x0107 unit 2
  else
    let s := s.raise2 0x0107 unit 1
    ((s.setBcu { s.bcu with unitResets := s.bcu.unitResets ++ [unit * 256 + index] }).unitAction unit index).degrade

/-- A write of BCU_RSTCMD by a master (R462, R471, R472): it acts only with KEY 0x5A. -/
def State.resetCommand (s : State) (m key cmd unit index : Nat) : State :=
  if key ≠ 0x5A then s
  else match cmd with
    | 1 => s.warmReset (if m = 18 then 3 else 2)
    | 2 => s.coldCommand 4 3
    | 3 => s.safetyRestart
    | 4 => s.unitReset unit index
    | _ => s

/-- WARM_RESET_COMMAND (R462). -/
def execWarmResetCommand (m : Fin 22) (key : BitVec 8) (s : State) : Out := .next (s.resetCommand m key.toNat 1 0 0)

/-- COLD_RESET_COMMAND (R462). -/
def execColdResetCommand (key : BitVec 8) (s : State) : Out := .next (s.resetCommand 0 key.toNat 2 0 0)

/-- SAFETY_RESTART_COMMAND (R472). -/
def execSafetyRestartCommand (key : BitVec 8) (s : State) : Out := .next (s.resetCommand 0 key.toNat 3 0 0)

/-- UNIT_RESET_COMMAND (R471). -/
def execUnitResetCommand (key unit index : BitVec 8) (s : State) : Out := .next (s.resetCommand 0 key.toNat 4 unit.toNat index.toNat)

/-- UNIT_RESET_END (R471). -/
def execUnitResetEnd (unit index : BitVec 8) (s : State) : Out :=
  let k := unit.toNat * 256 + index.toNat
  if s.bcu.unitResets.contains k then
    let s := (s.setBcu { s.bcu with unitResets := s.bcu.unitResets.erase k }).raise2 0x0107 unit.toNat 0
    let s := s.onlyIf (unit == 0x12 && !s.failed 0x12) State.meuResume
    .next (s.onlyIf (unit == 0x16 && !s.failed 0x16) fun s => s.each (List.range 32) State.swRefresh)
  else .next s

/-- WARM_RESET (R20, R462, R467): 0 watchdog, 1 software, 2 host, 3 A0 freeze. -/
def execWarmReset (cause : Fin 4) (s : State) : Out := .next (s.warmReset (cause.val + 1))

/-- KICK (R464): from A0 only. Where the instant of the expiry has come, the expiry acts first (R14). -/
def State.kick (s : State) (m : Nat) : State :=
  match s.bcu.wdt with
  | none => s
  | some t =>
    if m ≠ 0 then s
    else if t ≤ s.now then s.warmReset 1
    else s.setBcu { s.bcu with wdt := some (s.now + msec (10 * s.rd .BCU_WDT_WDTO 0)) }

/-- KICK (R464). A frozen master writes nothing (R27). -/
def execKick (m : Fin 22) (s : State) : Out := .next (if s.frozen m then s else s.kick m)

/-- WATCHDOG_EXPIRY (R464). -/
def execWatchdogExpiry (s : State) : Out :=
  match s.bcu.wdt with
  | none => .next s
  | some t => .next ((s.moveTo t).warmReset 1)

/-- A0_FREEZE_ESCALATION (R29). -/
def execA0FreezeEscalation (s : State) : Out :=
  match s.fab.a0Timer with
  | none => .next s
  | some t => .next (((s.moveTo t).raise 0x0303 0).warmReset 4)

/-- A write of 1 to HEALTHY (R465, R491): it also starts the trial count. -/
def State.writeHealthy (s : State) : State :=
  let s := (s.put .BCU_GHSTAT_UNHEALTHY 0 0).setBcu { s.bcu with healthy := true }
  if s.updState = 7 ∧ s.upd.trialAt.isNone ∧ s.bcu.phase = .running then s.setUpd { s.upd with trialAt := some s.ltime } else s

/-- HEALTHY (R465). A frozen A0 writes nothing (R27). -/
def execHealthy (s : State) : Out := .next (if s.frozen 0 then s else s.writeHealthy)

/-- The expiry of a Guy hold (R469): outlets with a contactor command active shut down; the switch channels act by FUNC (R241). -/
def State.guyExpire (s : State) (t : Nat) : State :=
  let s := s.moveTo t
  let s := (s.setBcu { s.bcu with holdEnd := none, holdExpired := true }).put .BCU_STATUS_GHEXP 0 1
  let shut := (List.range 24).filter fun n => s.flag .OIU_CONTACT_CMD n
  let s := (s.put .BCU_GHOUT_SHUT 0 (maskOf shut)).raise 0x0106 shut.length
  let s := s.each shut State.guyShutdown
  s.each (List.range 32) State.swGuyExpiry

/-- The pilot of a shut-down outlet takes the firmware's GEN again after TAKE (R469). -/
def State.freePilot (s : State) (n : Nat) : State := s.onlyIf (s.oiu n).shutPilot fun s => s.setOiu n { s.oiu n with shutPilot := false }

/-- A write of 1 to TAKE (R468): the hold ends, and turn-ons that the GSE deferred act (R268). Where the expiry instant has come, the expiry
acts first (R14, R470). -/
def State.takeOver (s : State) : State :=
  if !s.flag .BCU_STATUS_GHOLD 0 then s
  else
    let s := match s.bcu.holdEnd with
      | some t => if t ≤ s.now then s.guyExpire t else s
      | none => s
    let s := s.endHold.each (List.range 24) State.freePilot
    let s := s.raise 0x0105 (s.rd .BCU_GHSTAT_ELAPSED 0)
    s.drive

/-- TAKE (R468). A frozen A0 writes nothing (R27). -/
def execTake (s : State) : Out := .next (if s.frozen 0 then s else s.takeOver)

/-- GUY_HOLD_EXPIRY (R469). -/
def execGuyHoldExpiry (s : State) : Out :=
  match s.bcu.holdEnd with
  | none => .next s
  | some t => .next (s.guyExpire t)

/-- IMAGE_CHECK_DONE (R466, R487): an image that fails is reloaded. -/
def execImageCheckDone (pass : Bool) (s : State) : Out :=
  if s.bcu.phase ≠ .warm ∨ pass then .next s else .next ((s.raise 0x010D 0).reserveLoad)

/-- COLD_START (R463): the start sequence of a released cold reset up to the load of the firmware. A commanded cold reset is released here,
when its commit is complete (R462). `secRow` is the operation row whose known-answer test fails, 0 for none (R413); `microFail` a microcode
part that fails its load check in a trial (R493). -/
def execColdStart (secRow : Fin 20) (microFail : Bool) (s : State) : Out :=
  let s := match s.bcu.phase, s.bcu.commanded with
    | .commit, some c => (s.finishCommit.clearDomains).releaseCold c
    | _, _ => s
  if s.bcu.phase ≠ .starting then .next s
  else
    let s := s.updCold microFail
    let had := (s.ppl.active.isSome, s.ppl.stagedRaw.isSome)
    let s := s.pplCold false
    let s := if (had.1 && s.plan.isNone) || decide (secRow.val ≠ 0) then s.updPartFailed.pplCold (had.2 && s.ppl.stagedRaw.isNone && s.rd .PPL_STATUS_STATE 0 == 7) else s
    let s := s.meuRestore
    let s := ((s.setBcu { s.bcu with phase := .units, tpf := none }).gseStart).lgsStart
    let s := (s.secStart secRow).alkRestart 3
    let s := (s.dseStart.cluStart.ndefStart).showLanesOn
    .next s.showLgs

/-- FIRMWARE_RUNNING (R463, R464, R317, R318, R321): after a cold start the BLU replays the restoration and the tamper changes, and sessions
closed by the commit are sealed; after a warm reset the work of the application domain goes on. -/
def execFirmwareRunning (s : State) : Out :=
  if s.bcu.phase ≠ .units ∧ s.bcu.phase ≠ .warm then .next s
  else
    let cold := s.bcu.phase == .units
    let s := s.setBcu { s.bcu with phase := .running, healthy := false, wdt := some (s.now + msec (10 * s.rd .BCU_WDT_WDTO 0)) }
    let s := s.onlyIf cold fun s => ((s.reserveLoad.bluRestore).replayTamper).sealAll
    .next (s.allocEpoch.updFirmware cold)

/-- EMBER_ENTRY (R40): every outlet has been in state A for EMBER_IDLE; the pilots stay at a steady +12 V and the lanes are off. -/
def execEmberEntry (s : State) : Out :=
  match s.plan, s.bcu.idleSince with
  | some p, some t =>
    if bit p.head.flags 0 = false ∨ s.bcu.ember ∨ s.bcu.phase ≠ .running then .next s
    else
      let s := (s.moveTo (t + msec (p.head.emberIdle * 1000))).setBcu { s.bcu with ember := true, wake := none }
      let s := s.each s.outlets fun s n => s.onlyIf (s.rd .OIU_CPCTL_GEN n == 1) fun s => s.put .OIU_CPCTL_GEN n 0
      .next s.fieldsOff.showLanesOn
  | _, _ => .next s

/-- EMBER_EXIT (R41): the first state B has been confirmed on the outlet, which keeps its steady +9 V until the allocator's first cycle is complete
(R198); the working profile is back within 1.5 s, and outlets in state B ask for their lanes (R112), and 10BASE-T1S links are used again (R119). -/
def execEmberExit (n : Fin 24) (s : State) : Out :=
  if !s.bcu.ember || s.bcu.wake != some n.val then .next s
  else
    let s := ((s.setBcu { s.bcu with ember := false }).showLanesOn).allocEpoch
    .next (s.each (List.range 24) fun s n => (s.onlyIf ((s.outl n).isSome && s.cpState n / 2 == 1) fun s => s.requestLane n).t1sJoin n)

end Sys2Proof.Machine
end

