-- ==== Sys2Proof/Machine/Bus.lean ====
section
/-! DEFINITION. The fabric (chapter 1) and what a register access does (R11 to R14): the address map, the permit tables, violations and
releases, snapshots, register reads and register writes with their effect classes. -/

namespace Sys2Proof.Machine

open Sys2Proof

/-- The event class by which a permit record names a unit as target (R16, R50). -/
def UnitId.target : UnitId → Nat
  | .bcu => 0x01 | .cgu => 0x02 | .fab => 0x03 | .ppl => 0x04 | .sch => 0x05 | .oiu => 0x10 | .vce => 0x11 | .meu => 0x12 | .efu => 0x13
  | .blu => 0x14 | .lgs => 0x15 | .psw => 0x16 | .gse => 0x17 | .clu => 0x18 | .sec => 0x19 | .alk => 0x1A | .ntu => 0x1B | .hpu => 0x1C
  | .dse => 0x1D | .upd => 0x1E | .id => 0x1C

/-- The base of a unit's region (R43). -/
def UnitId.base : UnitId → Nat
  | .hpu => 0 | .id => 0 | .bcu => 0x10000 | .cgu => 0x20000 | .fab => 0x30000 | .ppl => 0x40000 | .sch => 0x50000 | .oiu => 0x100000
  | .vce => 0x200000 | .meu => 0x300000 | .efu => 0x380000 | .blu => 0x400000 | .lgs => 0x480000 | .psw => 0x500000 | .gse => 0x580000
  | .clu => 0x600000 | .sec => 0x680000 | .alk => 0x700000 | .ntu => 0x780000 | .dse => 0x800000 | .upd => 0x880000

/-- What an address of the map names: a register, or a word of a window. -/
inductive Place where
  | reg (r : Reg) (i : Nat)
  | page (off : Nat)
  | frame (word : Nat)
  | tag (off : Nat)
  /-- A window of the legal partition or the key store (R424): target and offset. -/
  | legal (target off : Nat)
  deriving DecidableEq, Repr

/-- The windows beside the registers (R43, R284, R342, R424, R432). -/
def windowAt (a : Nat) : Option (Nat × Nat × Place) :=
  if 0x4C0000 ≤ a ∧ a < 0x500000 then some (0x15, a - 0x480000, .page (a - 0x4C0000))
  else if 0x840000 ≤ a ∧ a < 0x843E80 then some (0x1D, a - 0x800000, .frame ((a - 0x840000) / 4))
  else if 0x10000000 ≤ a ∧ a < 0x10002000 then some (0x33, a - 0x10000000, .tag (a - 0x10000000))
  else if 0x4F000 ≤ a ∧ a < 0x50000 then some (0x04, a - 0x40000, .legal 0x04 (a - 0x40000))
  else if 0x370000 ≤ a ∧ a < 0x371000 then some (0x12, a - 0x300000, .legal 0x12 (a - 0x300000))
  else if 0x470000 ≤ a ∧ a < 0x471000 then some (0x14, a - 0x400000, .legal 0x14 (a - 0x400000))
  else if 0x4BF000 ≤ a ∧ a < 0x4BF100 then some (0x15, a - 0x480000, .legal 0x15 (a - 0x480000))
  else if 0x6C0000 ≤ a ∧ a < 0x700000 then some (0x19, a - 0x680000, .legal 0x19 (a - 0x680000))
  else none

/-- The target, the offset in it and the place of an address (R26, R43); none where the address lies in no target. -/
def placeOf (a : Nat) : Option (Nat × Nat × Place) :=
  if a % 4 ≠ 0 then none
  else match findReg a with
    | some (r, i) => some (r.loc.unit.target, a - r.loc.unit.base, .reg r i)
    | none => windowAt a

/-- A window of the legal partition, which no permit table lets a master write; the key store cannot be read either (R32, R424). -/
def legalWindow (target off : Nat) : Bool :=
  (target == 0x04 && decide (0xF000 ≤ off)) || ((target == 0x12 || target == 0x14) && decide (0x70000 ≤ off ∧ off < 0x71000)) ||
    (target == 0x15 && decide (0x3F000 ≤ off ∧ off < 0x3F100)) || (target == 0x19 && decide (0x40000 ≤ off))

/-- Permitted by the PERM records of a plan (R422): bit 0 read, bit 1 write. -/
def Plan.grants (p : Plan) (m target off : Nat) (write : Bool) : Bool :=
  p.perm.any fun r => r.target == target && r.master == m && bit r.access (b2n write) && decide (r.start ≤ off ∧ off ≤ r.stop)

/-- The built-in permit table (R515): the host's part as the rule states it; the records of the other masters lie in the firmware image. -/
def builtinGrants (m target off : Nat) (write : Bool) : Bool :=
  if m = 18 then
    !write || (target == 0x04 && off / 4 == 1) || (target == 0x01 && off / 4 == 7) || target == 0x1C
  else Config.builtinPermit m target off write

/-- Whether the fabric permits one side of an access (R26, R30, R32, R422, R424, R515). -/
def State.permits (s : State) (m : Nat) (supervisor : Bool) (target off : Nat) (write : Bool) : Bool :=
  if write ∧ target = 0x03 ∧ off / 4 = 2 then m == 0 && supervisor
  else if write ∧ target = 0x17 ∧ m ≠ 17 then false
  else if legalWindow target off ∧ (write ∨ target = 0x19) then false
  else match s.plan with
    | some p => p.grants m target off write
    | none => builtinGrants m target off write

/-- FAB_VREC0 to FAB_VREC3 and VPEND show the oldest record (R33). -/
def State.showViolations (s : State) : State :=
  let r := s.fab.queue.head?.getD ⟨0, 0, 0, 0, 0⟩
  let s := ((s.put .FAB_VREC0_ACCESS 0 r.access).put .FAB_VREC0_TARGET 0 r.target).put .FAB_VREC0_MASTER 0 r.master
  let s := ((s.put .FAB_VREC1_ADDR 0 r.addr).put .FAB_VREC2_TIME_L 0 (r.time % 2 ^ 32)).put .FAB_VREC3_TIME_H 0 (r.time / 2 ^ 32)
  s.put .FAB_VCOUNT_VPEND 0 s.fab.queue.length

/-- What the freeze of a master brings with it (R29, R31, R474): the timer of A0, the GSE's outputs, the end of the VCE's sessions, every
contactor command where the MEU or the GSE counts as failed, and the degraded service for the unit. -/
def State.frozenMaster (s : State) (m : Nat) : State :=
  let s := s.putBit .FAB_FROZEN_FROZEN 0 m true
  if m = 0 then
    if s.fab.a0Timer.isSome then s
    else ({ s with fab := { s.fab with a0Timer := some (s.now + msec 100) } } : State).put .FAB_STATUS_ESCAL 0 1
  else if m = 12 then s.dropAll
  else if m = 17 then s.gseFreeze.dropAll
  else if m = 13 then s.vceFail.degrade
  else if m = 14 then s.tlsLost.degrade
  else s.degrade

/-- A permit violation (R27): event, violation record or overflow, record in the ledger's retained class, freeze. -/
def State.violate (s : State) (m target access addr : Nat) : State :=
  let rec_ : VRec := ⟨m, access, target, addr, s.ltime⟩
  let full := decide (16 ≤ s.fab.queue.length)
  let s := (s.count .FAB_VCOUNT_VTOTAL 0).raise 0x0301 m
  let s := if full then (s.put .FAB_STATUS_VOVF 0 1).raise 0x0304 m
    else ({ s with fab := { s.fab with queue := s.fab.queue ++ [rec_] } } : State).showViolations
  let s := s.request 1 [⟨0x02, s.ltime, [⟨16, 1, m⟩, ⟨17, 1, target⟩, ⟨18, 1, access⟩, ⟨20, 4, addr⟩]⟩]
  s.frozenMaster m

/-- FAB_RELEASE (R27, R30, R31): bits of masters that are not frozen have no effect. -/
def State.release (s : State) (mask : Nat) : State :=
  s.each (List.range 22) fun s m =>
    if bit mask m && bit (s.rd .FAB_FROZEN_FROZEN 0) m then
      let s := (s.putBit .FAB_FROZEN_FROZEN 0 m false).raise 0x0302 m
      if m = 0 then ({ s with fab := { s.fab with a0Timer := none } } : State).put .FAB_STATUS_ESCAL 0 0
      else if m = 17 then s.gseRelease
      else if m = 12 then s.rejoinAll
      else s
    else s

/-- FAB_RELEASE (R30): a write of A0 in supervisor state, which runs unless A0 itself is frozen. -/
def execFabRelease (mask : BitVec 22) (s : State) : Out := .next (if s.frozen 0 then s else s.release mask.toNat)

/-- A write of 1 to POP (R33). -/
def State.popViolation (s : State) : State :=
  ({ s with fab := { s.fab with queue := s.fab.queue.drop 1 } } : State).showViolations

/-- FAB_VPOP (R33). -/
def execFabVpop (s : State) : Out := .next s.popViolation

/-- The registers that a unit's snapshot latches (R71, R104, R140, R171, R196, R244, R294, R323, R345, R371, R396, R397, R426, R442, R475,
R499); none for the units without a snapshot. -/
def snapRegs : UnitId → List Reg
  | .sch => [.SCH_MARGIN, .SCH_MISSES, .SCH_REFUSALS, .SCH_OPEN]
  | .oiu => [.OIU_CPSTATE, .OIU_CPMEAS, .OIU_PPCS, .OIU_TEMP, .OIU_COUNT]
  | .vce => [.VCE_LANE, .VCE_OLINK, .VCE_OSVC, .VCE_ORX, .VCE_OERR]
  | .meu => meuSnapRegs
  | .efu => [.EFU_RCMSTAT, .EFU_RCMVAL, .EFU_RCMCTL, .EFU_RCMSCALE, .EFU_RCMCNT, .EFU_IMDSTAT, .EFU_IMDRISO, .EFU_IMDPOLE, .EFU_IMDCTL, .EFU_IMDCNT]
  | .psw => [.PSW_OUT, .PSW_BANKV, .PSW_BANKS, .PSW_CHSTAT, .PSW_CHCNT]
  | .clu => [.CLU_ANTSTAT, .CLU_CARD_L, .CLU_CARD_M, .CLU_CARD_H, .CLU_TCOUNT]
  | .blu => bluSnapRegs
  | .lgs => [.LGS_NEXTSEQ_L, .LGS_NEXTSEQ_H, .LGS_ACKSEQ_L, .LGS_ACKSEQ_H, .LGS_COUNT, .LGS_PFSTAT, .LGS_RFILL, .LGS_RHEAD, .LGS_ROLD_L, .LGS_ROLD_H]
  | .alk => [.ALK_ROUND, .ALK_ROUNDT, .ALK_NSTAT, .ALK_NCNT, .ALK_NLINK, .ALK_NVER]
  | .hpu => [.HPU_FIFOSTAT, .HPU_COUNT]
  | .ntu => [.NTU_TIME_L, .NTU_TIME_H, .NTU_TIME_NS, .NTU_FRC, .NTU_PTP, .NTU_OFFSET, .NTU_PORT, .NTU_CAN, .NTU_MB]
  | .sec => [.SEC_QUEUE, .SEC_REMASK, .SEC_COUNT, .SEC_SLOTATTR, .SEC_SLOTPEND, .SEC_SLOTID_L, .SEC_SLOTID_H]
  | .dse => [.DSE_VMEAS, .DSE_LNSTAT, .DSE_LNSEQ, .DSE_STRESSV, .DSE_COUNT]
  | .bcu => [.BCU_SUPPLY, .BCU_VBAT, .BCU_GHSTAT, .BCU_LTIME_L, .BCU_LTIME_H, .BCU_COUNT]
  | .upd => [.UPD_PROGRESS, .UPD_TRIAL, .UPD_PVER, .UPD_PCTR, .UPD_COUNT]
  | .fab => [] | .ppl => [] | .gse => [] | .cgu => [] | .id => []

/-- The registers of a unit that show a computed value brought up to the present instant. -/
def State.shown (s : State) (u : UnitId) : State :=
  match u with
  | .fab => s.showViolations
  | .sch => s.showOpen.showStream
  | .blu => s.showSyncAge
  | .lgs => s.showLgs
  | .hpu => s.showFifo
  | .ntu => s.showNtu
  | .sec => s.showSlot
  | .dse => s.showStress
  | .bcu => s.showHold.put64 .BCU_LTIME_L .BCU_LTIME_H 0 (s.ltime % 2 ^ 64)
  | .upd => s.showUpd
  | .ppl => s | .oiu => s | .vce => s | .meu => s | .efu => s | .psw => s | .gse => s | .clu => s | .alk => s | .cgu => s | .id => s

/-- The snapshot of one outlet's OIU (R104). -/
def State.latchOiu (s : State) (n : Nat) : State :=
  let mine := fun (e : Nat × Nat) => e.1 / 1024 == n && (keyFld e.1).unit == .oiu && (snapRegs .oiu).contains (keyFld e.1).info.reg
  let key := UnitId.oiu.ctorIdx * 64 + n
  { s with latched := (s.regs.filter mine).foldl (fun t e => update (regDefault e.1) t e.1 e.2) (s.latched.filter fun e => !mine e)
           latchOn := if s.latchOn.contains key then s.latchOn else s.latchOn ++ [key] }

/-- A write of 1 to a unit's SNAP (R6): the latch is taken at once, or requested for the next metering boundary (R171, R323). -/
def State.snap (s : State) (u : UnitId) (inst : Nat) : State :=
  if (snapRegs u).isEmpty then s
  else match u with
    | .meu => s.put .MEU_SNAP_BUSY 0 1
    | .blu => s.put .BLU_SNAP_BUSY 0 1
    | .oiu => if inst < 24 then s.latchOiu inst else s
    | u => (s.shown u).latchFields u (snapRegs u)

/-- SNAP (R6). -/
def execSnap (u : UnitId) (inst : Nat) (s : State) : Out := .next (s.snap u inst)

/-- Whether reads of a register come from the latch (R6). -/
def State.isLatched (s : State) (r : Reg) (i : Nat) : Bool :=
  let u := r.loc.unit
  (snapRegs u).contains r && s.latchOn.contains (u.ctorIdx * 64 + if u == .oiu then i else 0)

/-- The value of a field as a read returns it: a WO field reads zero (R12). -/
def State.fieldRead32 (s : State) (latched : Bool) (i : Nat) (f : Fld) : Nat :=
  if f.info.access = .wo then 0
  else if f = .ID_SERIAL_SERIAL then Config.serial i % 2 ^ 32
  else if latched then lookup f.resetValue s.latched (regKey f i)
  else s.rd f i

/-- The word that a read of a register returns: its fields at their places, zeros between them (R11, R12). -/
def State.readReg (s : State) (r : Reg) (i : Nat) : Nat :=
  let l := s.isLatched r i
  let s := s.shown r.loc.unit
  (r.fields.map fun f => s.fieldRead32 l i f * 2 ^ f.info.lo).sum

/-- The bytes of the calibration store from an offset on, as one word (R168). -/
def State.calWord (s : State) (off : Nat) : Nat := fromLe ((s.calStore.drop off).take 4)

/-- What a legal window reads as (R424): the calibration store as R168 lays it out; of the other windows the spec names the contents and
gives no layout. -/
def State.legalRead (s : State) (target off : Nat) : Nat :=
  if target = 0x12 ∧ off < 0x70000 + 1028 then s.calWord (off - 0x70000)
  else
    let contents := match target with
      | 0x04 => [s.rd .PPL_LEGALCV_LEGALCV 0]
      | 0x14 => [s.rd .PPL_LEGALCV_LEGALCV 0, s.rd .BLU_TAMPCFG_TEN 0, s.rd .BLU_TAMPCFG_TPOL 0, s.hwm]
      | 0x15 => [s.rd .LGS_RETCFG_RETDAYS 0, s.rd .LGS_RETCFG_TICKMIN 0, s.ackSeq]
      | _ => []
    Config.legalWord target off contents % 2 ^ 32

/-- The word that a place reads as. -/
def State.readPlace (s : State) (p : Place) : Nat :=
  match p with
  | .reg r i => s.readReg r i
  | .page off => fromLe (((s.lgs.pageBytes (off / 64)).drop (off % 64)).take 4)
  | .frame w => s.frameWord w
  | .tag off => s.tagHostRead off
  | .legal t off => s.legalRead t off

/-- The range of a field that stores a value outside it as the nearer end; none where every value of its bits is in range. -/
def Fld.range : Fld → Option (Nat × Nat)

  | .OIU_TIMER_C1MAX => some (10, 255)
  | .OIU_TIMER_LKPULSE => some (5, 100)
  | .OIU_TIMER_LKCONF => some (10, 200)
  | .OIU_TIMER_WELDT => some (20, 255)
  | .VCE_CTL_SLACMARG => some (3, 30)
  | .VCE_OCFG_TXATT => some (0, 20)
  | .MEU_CHCTL_ENVTC => some (1, 1000)
  | .MEU_CHCTL_RMSCYC => some (1, 63)
  | .MEU_CHCTL_ZXTO => some (2, 100)
  | .EFU_RCMCTL_TESTN => some (1, 20)
  | .EFU_IMDCTL_IMDHALF => some (20, 200)
  | .PSW_BANKCTL_DROOP => some (70, 95)
  | .PSW_CHDUTY_DUTY => some (0, 1000)
  | .CLU_ANTCTL_GUARD => some (51, 200)
  | .ALK_CTL_TXATT => some (0, 30)
  | .HPU_SPICFG_UPTO => some (1, 65535)
  | .HPU_SPICFG_DUMMY => some (4, 255)
  | .DSE_SSEL_GROUP => some (0, 999)
  | .BCU_PFCFG_PFRIDE => some (0, 20)
  | .BCU_WDT_WDTO => some (10, 1000)
  | .CGU_FCCTL_WIN => some (10, 24)
  | _ => none

/-- The value that a field stores when `v` is written. -/
def Fld.stored (f : Fld) (v : Nat) : Nat := match f.range with | some (lo, hi) => clamp lo hi v | none => v

/-- The unit is idle for an Idle-only field (R13; each unit's chapter defines the condition). -/
def State.idleFor (s : State) (f : Fld) (i : Nat) : Bool :=
  match f.info.reg with
  | .OIU_CPCTL => s.oiuIdle i
  | .OIU_TIMER => s.oiuIdle i
  | .VCE_OCFG => s.vceIdle i
  | .EFU_RCMCTL => s.rcmIdle i
  | .EFU_IMDCTL => s.imdIdle i
  | .PSW_BANKCTL => (bankChannels i).all s.swIdle
  | .PSW_CHCTL => s.swIdle i
  | .CLU_ANTCTL => s.antennaIdle i
  | .ALK_CTL => !s.flag .ALK_CTL_RUN 0
  | .DSE_CTL => s.dse.op.isNone
  | _ => true

/-- Fields whose write is an action of their unit and not a plain store. -/
def actionFlds : List Fld :=
  [.OIU_CONTACT_CLOSE_EN, .OIU_STATUS_WELD, .OIU_STATUS_LOCKF, .PSW_CHCTL_ON, .CLU_ANTCTL_ANTEN, .CLU_TGATE_HOLD, .ALK_CTL_RUN, .LGS_PAGE_REGION,
   .LGS_PAGE_SLOT, .BCU_WDT_WDTO]

/-- The WO fields that hold what is written to them for a later load (R290). -/
def heldFlds : List Fld := [.CLU_TPWD_PWD, .CLU_TKEY_KEY]

/-- The write changes an Idle-only field while the unit runs (R13), or asks a megawatt outlet for PWM (R100). -/
def State.violates (s : State) (i w : Nat) (f : Fld) : Bool :=
  let v := f.stored (bitsOf w f.info.hi f.info.lo)
  (f.info.access == .rw && f.info.effect == .idleOnly && v != s.rd f i && !s.idleFor f i) ||
    (f == .OIU_CPCTL_GEN && s.kind i == 3 && v == 1)

/-- A reserved value that leaves the field unchanged (R88). -/
def Fld.keepsPresent (f : Fld) (v : Nat) : Bool := f == .OIU_CPCTL_DMODE && v == 3

/-- A Boundary field (R13). -/
def Fld.isBoundary (f : Fld) : Bool := [Effect.sample, .frame, .pilotPeriod, .message, .session].contains f.info.effect

/-- One field of a register write (R12, R13): RO ignored, W1C cleared by a 1, RW stored, with Boundary fields taking effect at their
boundary and Idle-only fields kept while the unit runs. -/
def State.writeField (i w : Nat) (s : State) (f : Fld) : State :=
  let v := bitsOf w f.info.hi f.info.lo
  if actionFlds.contains f || s.violates i w f || f.keepsPresent v then s
  else match f.info.access with
    | .ro => s
    | .rw => (s.onlyIf f.isBoundary fun s => s.noteWrite f i).put f i (f.stored v)
    | .w1c => if v = 0 then s else s.put f i 0
    | .wo => if heldFlds.contains f then s.put f i v else s

/-- The CFGVIOL bit and event of the unit that holds a register, with the register's offset (R13). -/
def State.cfgViolation (s : State) (r : Reg) (i off : Nat) : State :=
  match r.loc.unit with
  | .oiu => (s.put .OIU_STATUS_CFGVIOL i 1).raise2 0x100F i (off % 256)
  | .vce => (s.put .VCE_STATUS_CFGVIOL 0 1).raise2 0x110D i (off % 256)
  | .efu => s.efuViolation off
  | .psw => (s.put .PSW_STATUS_CFGVIOL 0 1).raise 0x160C off
  | .clu => (s.put .CLU_STATUS_CFGVIOL 0 1).raise 0x180B off
  | .alk => (s.put .ALK_STATUS_CFGVIOL 0 1).raise 0x1A0B off
  | .dse => (s.put .DSE_STATUS_CFGVIOL 0 1).raise 0x1D09 off
  | _ => s

/-- Watermarks with the low one at or above the high one: the low one is stored as the high one less 1 (R379). -/
def State.fixMarks (s : State) : State :=
  let s := s.onlyIf (decide (s.rd .HPU_WMARK_UPHI 0 ≤ s.rd .HPU_WMARK_UPLO 0)) fun s => s.put .HPU_WMARK_UPLO 0 (s.rd .HPU_WMARK_UPHI 0 - 1)
  (s.onlyIf (decide (s.rd .HPU_WMARK_DNHI 0 ≤ s.rd .HPU_WMARK_DNLO 0)) fun s => s.put .HPU_WMARK_DNLO 0 (s.rd .HPU_WMARK_DNHI 0 - 1)).showFifo

/-- WDTO (R464): the watchdog runs from the last KICK. -/
def State.writeWdto (s : State) (v : Nat) : State :=
  let old := msec (10 * s.rd .BCU_WDT_WDTO 0)
  let new := Fld.BCU_WDT_WDTO.stored v
  (s.setBcu { s.bcu with wdt := s.bcu.wdt.map fun t => t - old + msec (10 * new) }).put .BCU_WDT_WDTO 0 new

/-- The actions of a register write by master `m` after its fields are stored; `viol`: the write broke the Idle-only rule. -/
def State.writeAction (s : State) (m : Nat) (viol : Bool) (r : Reg) (i w : Nat) : State :=
  let one := fun k => bit w k
  match r with
  | .FAB_RELEASE => s.release (w % 2 ^ 22)
  | .FAB_VPOP => s.onlyIf (one 0) State.popViolation
  | .PPL_CMD =>
    match w % 8 with
    | 1 => s.pplVerify
    | 2 => s.pplActivate
    | 3 => s.pplDiscard
    | _ => s
  | .SCH_SNAP => s.onlyIf (one 0) fun s => s.snap .sch 0
  | .OIU_SNAP => s.onlyIf (one 0) fun s => s.snap .oiu i
  | .VCE_SNAP => s.onlyIf (one 0) fun s => s.snap .vce 0
  | .MEU_SNAP => s.onlyIf (one 0) fun s => s.snap .meu 0
  | .EFU_SNAP => s.onlyIf (one 0) fun s => s.snap .efu 0
  | .PSW_SNAP => s.onlyIf (one 0) fun s => s.snap .psw 0
  | .CLU_SNAP => s.onlyIf (one 0) fun s => s.snap .clu 0
  | .BLU_SNAP => s.onlyIf (one 0) fun s => s.snap .blu 0
  | .LGS_SNAP => s.onlyIf (one 0) fun s => s.snap .lgs 0
  | .ALK_SNAP => s.onlyIf (one 0) fun s => s.snap .alk 0
  | .HPU_SNAP => s.onlyIf (one 0) fun s => s.snap .hpu 0
  | .NTU_SNAP => s.onlyIf (one 0) fun s => s.snap .ntu 0
  | .SEC_SNAP => s.onlyIf (one 0) fun s => s.snap .sec 0
  | .DSE_SNAP => s.onlyIf (one 0) fun s => s.snap .dse 0
  | .BCU_SNAP => s.onlyIf (one 0) fun s => s.snap .bcu 0
  | .UPD_SNAP => s.onlyIf (one 0) fun s => s.snap .upd 0
  | .OIU_STATUS => s.onlyIf (one 7 || one 6) fun s => s.clearOiuFaults i (one 7) (one 6)
  | .OIU_LOCK => (s.onlyIf (one 0) fun s => s.startLock i).onlyIf (one 1) fun s => s.writeUnlock i
  | .OIU_CPCTL => s.onlyIf (!s.flag .BCU_STATUS_GHOLD 0) fun s =>
      ((s.putEff .OIU_CPCTL_DALLOW i (s.rd .OIU_CPCTL_DALLOW i)).putEff .OIU_CPCTL_CSEN i (s.rd .OIU_CPCTL_CSEN i)).contact i
  | .OIU_CONTACT => s.writeCloseEn i (one 0)
  | .VCE_OCMD => s.writeOcmd i (w % 8)
  | .MEU_CHCTL => s.onlyIf (one 31) fun s => s.put .MEU_CHPEAK_PEAK i 0
  | .EFU_RCMCTL =>
    let s := (s.onlyIf (one 2) fun s => s.lockClear false i).onlyIf (one 1) fun s => s.tripClear i
    let s := s.onlyIf (one 3 && !viol) fun s =>
      let (v, s) := s.draw
      s.calibrate i v
    s.onlyIf (one 0 && !one 3 && !viol) fun s => s.writeTest false i
  | .EFU_IMDCTL => (s.onlyIf (one 2) fun s => s.lockClear true i).onlyIf (one 0 && !viol) fun s => s.writeTest true i
  | .PSW_CHCTL => (s.onlyIf (one 31) fun s => s.latchClear i).writeOn i (one 0)
  | .CLU_ANTCTL => if one 0 then s.onlyIf (!s.flag .CLU_ANTCTL_ANTEN i) fun s => s.antennaOn i else s.antennaOff i
  | .CLU_TGATE => s.writeHold (one 0)
  | .CLU_TCMD => ((s.onlyIf (one 2) State.clearTfail).onlyIf (one 1) fun s => s.loadKey false).onlyIf (one 0) fun s => s.loadPwd false
  | .BLU_WCMD => s.onlyIf (one 0) State.writeApply
  | .BLU_TSWCTL => (s.onlyIf (one 30) fun s => s.writeClrq (w % 256)).onlyIf (one 31) fun s => s.writeGo (one 29) (bitsOf w 12 8) (w % 256)
  | .LGS_PAGE => s.startPage (bitsOf w 31 30) (bitsOf w 25 0)
  | .ALK_CTL =>
    let s := s.onlyIf (one 0 != s.flag .ALK_CTL_RUN 0) fun s => s.writeRun (one 0)
    s.onlyIf (one 1) fun s => s.alkRestart 1
  | .HPU_SPICFG => ((s.onlyIf (one 31) fun s => s.fifoReset false 2).onlyIf (one 30) fun s => s.fifoReset true 2).showFifo
  | .HPU_WMARK => s.fixMarks
  | .DSE_CTL => (s.onlyIf (one 1 && !viol) State.writeTestDse).onlyIf (one 0) State.writeUpdate
  | .BCU_RSTCMD => s.resetCommand m (bitsOf w 31 24) (w % 8) (bitsOf w 15 8) (bitsOf w 23 16)
  | .BCU_WDT => (s.writeWdto (w % 2 ^ 16)).onlyIf (one 31) fun s => s.kick m
  | .BCU_GHCTL => (s.onlyIf (one 1) State.writeHealthy).onlyIf (one 0) State.takeOver
  | .CGU_CLKEN => s.degrade
  | .CGU_FCCTL => s.onlyIf (one 31) fun s => s.startCount (bitsOf w 20 16) (bitsOf w 7 4) (bitsOf w 3 0)
  | .UPD_CMD => s.updCommand (w % 8)
  | _ => s

/-- The address of a register with an index, as `RegLoc.index` reads it back. -/
def Reg.addrOf (r : Reg) (i : Nat) : Nat :=
  let l := r.loc
  if l.stride = 0 then l.base + l.off + i * l.istride
  else if 1 < l.icount then l.base + (i / 64 - l.first) * l.stride + l.off + i % 64 * l.istride
  else l.base + (i - l.first) * l.stride + l.off

/-- A write of the word `w` to a register by master `m` (R11 to R14): every field under its access code and effect class, one CFGVIOL for
the write, then the actions. -/
def State.writeReg (s : State) (m : Nat) (r : Reg) (i w : Nat) : State :=
  let viol := r.fields.any (s.violates i w)
  let s := r.fields.foldl (State.writeField i w) s
  let s := s.onlyIf viol fun s => s.cfgViolation r i (r.addrOf i - r.loc.unit.base)
  s.writeAction m viol r i w

/-- A block whose clock is gated (R460). -/
def State.gated (s : State) (u : UnitId) : Bool :=
  match u with
  | .clu => !s.flag .CGU_CLKEN_CLU 0
  | .alk => !s.flag .CGU_CLKEN_ALK 0
  | .dse => !s.flag .CGU_CLKEN_DSE 0
  | _ => false

/-- The place lies in a gated block. -/
def State.gatedPlace (s : State) (p : Place) : Bool := match p with | .reg r _ => s.gated r.loc.unit | .frame _ => s.gated .dse | _ => false

/-- A write to a place: the LGS page and the legal windows take none. -/
def State.writePlace (s : State) (m : Nat) (p : Place) (w : Nat) : State :=
  match p with
  | .reg r i => s.writeReg m r i w
  | .frame k => s.writeFrame k w
  | .tag off => s.tagHostWrite off w
  | .page _ => s
  | .legal _ _ => s

/-- The LGS page cannot be read while its copy runs (R342). -/
def State.pageBusy (s : State) (p : Place) : Bool := match p with | .page _ => s.flag .LGS_PAGESTAT_BUSY 0 | _ => false

/-- Whether an access reads, and whether it writes. -/
def reads (k : AccessKind) : Bool := k != .write

/-- See `reads`. -/
def writes (k : AccessKind) : Bool := k != .read

/-- The code of an access in FAB_VREC0. -/
def accessCode (k : AccessKind) : Nat := match k with | .read => 1 | .write => 2 | .readModifyWrite => 3

/-- A decode error (R26). -/
def State.decodeError (s : State) : BusAnswer × State := (.decodeError, s.count .FAB_DECERR_DECERR 0)

/-- The access as the target performs it (R460, R342). -/
def State.perform (s : State) (m : Nat) (k : AccessKind) (p : Place) (w : Nat) : BusAnswer × State :=
  if s.gatedPlace p then (.ok 0, s)
  else if s.pageBusy p then s.decodeError
  else
    let s := match p with | .tag _ => s.tagReady | _ => s
    let v := if reads k then s.readPlace p else 0
    (.ok v, if writes k then s.writePlace m p w else s)

/-- An access of a master (R24 to R27): the address map, the permit table, and the access itself, with one tag in flight while it runs. -/
def State.access (s : State) (m : Nat) (supervisor : Bool) (k : AccessKind) (a w : Nat) : BusAnswer × State :=
  let s := (s.put .FAB_TAGS_PEAK 0 (max 1 (s.rd .FAB_TAGS_PEAK 0))).put .FAB_TAGS_INFLIGHT 0 1
  let r := match placeOf a with
    | none => s.decodeError
    | some (target, off, p) =>
      if (!reads k || s.permits m supervisor target off false) && (!writes k || s.permits m supervisor target off true) then s.perform m k p w
      else (.errorResponse, s.violate m target (accessCode k) a)
  (r.1, r.2.put .FAB_TAGS_INFLIGHT 0 0)

/-- A read that would be neither a decode error nor a violation: what a prefetch probe asks first (R26, R374). -/
def State.readable (s : State) (m a : Nat) : Bool :=
  match placeOf a with
  | none => false
  | some (target, off, p) => s.permits m false target off false && !s.pageBusy p

/-- The master issues transactions: its clock is not gated by a freeze (R27), its unit is in no unit reset (R471), the module has power, the masters of the application domain are
not in reset (R18), and the core runs in Ember (R39: A0 to A3). -/
def State.masterRuns (s : State) (m : Nat) : Bool :=
  !s.frozen m && !(unitMasters.any fun u => u.1 == m && s.bcu.unitResets.any fun k => k / 256 == u.2) && s.bcu.phase != .off && !(s.bcu.ember && decide (4 ≤ m ∧ m < 12)) && (decide (12 ≤ m ∧ m ≤ 17 ∧ m ≠ 16) || m == 20 || s.appRuns)

/-- MASTER_ACCESS (R26). -/
def execMasterAccess (m : Fin 22) (supervisor : Bool) (kind : AccessKind) (addr value : BitVec 32) (s : State) : Out :=
  if !s.masterRuns m then .next s
  else
    let r := s.access m supervisor kind addr.toNat value.toNat
    .next { r.2 with fab := { r.2.fab with answer := r.1 } }

/-- REGISTER_WRITE (R13): a permitted write by the firmware; an address that is no register's takes none. A frozen A0 writes nothing (R27). -/
def execRegisterWrite (addr value : BitVec 32) (s : State) : Out :=
  match placeOf addr.toNat with
  | some (_, _, .reg r i) => .next (if s.frozen 0 then s else s.writeReg 0 r i value.toNat)
  | _ => .next s

end Sys2Proof.Machine
end

