-- ==== Sys2Proof/Machine/Host.lean ====
section
/-! DEFINITION. The host's register accesses (chapter 14): READ and WRITE on the SPI port, and the READ, WRITE and PLAN frames of the Host
Message Interface. All are accesses of fabric master 18. -/

namespace Sys2Proof.Machine

open Sys2Proof

/-- One access of the host: the answer 0 done, 1 decode error, 2 violation, 3 master 18 frozen or not running (R383), with the word. -/
def State.hostAccess (s : State) (k : AccessKind) (a w : Nat) : Nat × Nat × State :=
  if !s.masterRuns 18 then (3, 0, s)
  else
    let r := s.access 18 false k (a % 2 ^ 32) w
    match r.1 with
    | .ok v => (0, v, r.2)
    | .decodeError => (1, 0, r.2)
    | .errorResponse => (2, 0, r.2)

/-- The words from an address upward, read one after the other: the first failure, the words, the state after. A word that fails reads as
zero (R374). -/
def State.hostRead (s : State) (a : Nat) : Nat → Nat × List Nat × State
  | 0 => (0, [], s)
  | n + 1 =>
    let r := s.hostAccess .read a 0
    let rest := State.hostRead r.2.2 (a + 4) n
    (if r.1 = 0 then rest.1 else r.1, r.2.1 :: rest.2.1, rest.2.2)

/-- READ (R374, R375): STAT, then `count` words. A word that fails sets ERR; the words fetched ahead and never clocked out have no effect. -/
def execRead (addr : BitVec 32) (count : Nat) (s : State) : Out :=
  if !s.spiUp then .next s
  else
    let s := s.spiFrame
    let stat := s.stat18
    let r := s.hostRead addr.toNat count
    let bad := r.1 == 1 || r.1 == 2
    .next (r.2.2.setHpu { r.2.2.hpu with spiOut := stat :: r.2.1.flatMap (leBytes 4), err := r.2.2.hpu.err || bad })

/-- Words posted one after the other (R374): a failing word does not hold up the next; ERR is set. -/
def State.postWords (s : State) (a : Nat) : List (BitVec 32) → State
  | [] => s
  | w :: l =>
    let r := s.hostAccess .write a w.toNat
    let s := if r.1 = 1 ∨ r.1 = 2 then r.2.2.setHpu { r.2.2.hpu with err := true } else r.2.2
    State.postWords s (a + 4) l

/-- WRITE (R374): a word cut short is discarded and sets SPIERR. -/
def execWrite (addr : BitVec 32) (words : List (BitVec 32)) (partialWord : Bool) (s : State) : Out :=
  if !s.spiUp then .next s
  else
    let s := s.spiFrame.postWords addr.toNat words
    .next (s.onlyIf partialWord fun s => s.put .HPU_STATUS_SPIERR 0 1)

/-- The answer to a request, where the path still stands after what the request did. -/
def State.reply (s : State) (p seq type : Nat) (payload : List Nat) : State :=
  s.onlyIf (s.pathOpen p) fun s => s.answerHost p seq type payload

/-- HMI_READ (R383): COUNT outside 1 to 256 is malformed. -/
def execHmiRead (p : Fin 5) (seq addr : BitVec 32) (count : BitVec 16) (s : State) : Out :=
  if !s.frameIn p 0x01 seq.toNat (leBytes 4 addr.toNat ++ leBytes 2 count.toNat) then .next s
  else
    let s := s.takeFrame p 6
    if count.toNat = 0 ∨ 256 < count.toNat then .next (s.reply p seq.toNat 0x81 [4, 0, 0, 0])
    else
      let r := s.hostRead addr.toNat count.toNat
      .next (r.2.2.reply p seq.toNat 0x81 ([r.1, 0, 0, 0] ++ r.2.1.flatMap (leBytes 4)))

/-- Words written up to the first that fails: its answer, the number done, the state after (R383). -/
def State.hostWrite (s : State) (a : Nat) : List (BitVec 32) → Nat × Nat × State
  | [] => (0, 0, s)
  | w :: l =>
    let r := s.hostAccess .write a w.toNat
    if r.1 ≠ 0 then (r.1, 0, r.2.2)
    else
      let rest := State.hostWrite r.2.2 (a + 4) l
      (rest.1, rest.2.1 + 1, rest.2.2)

/-- HMI_WRITE (R383). -/
def execHmiWrite (p : Fin 5) (seq addr : BitVec 32) (words : List (BitVec 32)) (s : State) : Out :=
  if !s.frameIn p 0x02 seq.toNat (leBytes 4 addr.toNat ++ words.flatMap fun w => leBytes 4 w.toNat) then .next s
  else
    let r := (s.takeFrame p (4 + 4 * words.length)).hostWrite addr.toNat words
    .next (r.2.2.reply p seq.toNat 0x82 ([r.1, 0] ++ leBytes 2 r.2.1))

/-- The UPD holds plan parts, from LOAD on (R490). -/
def State.planHeld (s : State) : Bool :=
  (s.upd.hold.bind (·.plan)).isSome || ((s.updState == 1 || s.updState == 2) && (manifestParts s.manifestRead).any (·.isPlan))

/-- PLAN (R383, R490): a chunk for the staging area. While an update holds plan parts the PPL refuses the plan with reason 0x13; the spec
gives no RESULT for that, so it is one of the listed values, left open. -/
def execPlan (p : Fin 5) (seq offset totlen : BitVec 32) (bytes : List (BitVec 8)) (s : State) : Out :=
  if !s.frameIn p 0x07 seq.toNat (leBytes 4 offset.toNat ++ leBytes 4 totlen.toNat ++ bytes.map (·.toNat)) then .next s
  else
    let s := s.takeFrame p (8 + bytes.length)
    if s.planHeld then
      let s := (s.put .PPL_STATUS_REJECT 0 0x13).raise 0x0402 0x13
      let (v, s) := s.draw
      .next (s.reply p seq.toNat 0x87 [v % 6])
    else
      let r := s.planChunk offset.toNat totlen.toNat (bytes.map (·.toNat))
      .next (r.2.reply p seq.toNat 0x87 [r.1])

end Sys2Proof.Machine
end

