-- ==== Sys2Proof/Machine/Dispatch.lean ====
section
/-! DEFINITION. Dispatch: one arm per command, each one direct call of its meaning. -/

namespace Sys2Proof.Machine

open Sys2Proof

def exec (i : Instr) (s : State) : Host.Outcome State Fault Refusal :=
  match i with
  | .masterAccess m supervisor kind addr value => Sys2Proof.Machine.execMasterAccess m supervisor kind addr value s
  | .fabRelease mask => Sys2Proof.Machine.execFabRelease mask s
  | .fabVpop => Sys2Proof.Machine.execFabVpop s
  | .a0FreezeEscalation => Sys2Proof.Machine.execA0FreezeEscalation s
  | .snap u inst => Sys2Proof.Machine.execSnap u inst s
  | .registerWrite addr value => Sys2Proof.Machine.execRegisterWrite addr value s
  | .admissionRequest stream cls => Sys2Proof.Machine.execAdmissionRequest stream cls s
  | .streamEnd stream => Sys2Proof.Machine.execStreamEnd stream s
  | .engineFrameBoundary e => Sys2Proof.Machine.execEngineFrameBoundary e s
  | .sliceRun e index done => Sys2Proof.Machine.execSliceRun e index done s
  | .plan p seq offset totlen bytes => Sys2Proof.Machine.execPlan p seq offset totlen bytes s
  | .planVerifyDone => Sys2Proof.Machine.execPlanVerifyDone s
  | .pplVerifyAgain => Sys2Proof.Machine.execPplVerifyAgain s
  | .pplActivate => Sys2Proof.Machine.execPplActivate s
  | .pplDiscard => Sys2Proof.Machine.execPplDiscard s
  | .planActivation => Sys2Proof.Machine.execPlanActivation s
  | .outletsIdle => Sys2Proof.Machine.execOutletsIdle s
  | .pilotPeriodBoundary n => Sys2Proof.Machine.execPilotPeriodBoundary n s
  | .pilotStateConfirm n vhi => Sys2Proof.Machine.execPilotStateConfirm n vhi s
  | .lowLevelClassConfirm n vlo => Sys2Proof.Machine.execLowLevelClassConfirm n vlo s
  | .ppBandConfirm n ohm => Sys2Proof.Machine.execPpBandConfirm n ohm s
  | .lock n => Sys2Proof.Machine.execLock n s
  | .unlock n => Sys2Proof.Machine.execUnlock n s
  | .lkpulseEnd n => Sys2Proof.Machine.execLkpulseEnd n s
  | .lockFeedbackConfirmed n closed => Sys2Proof.Machine.execLockFeedbackConfirmed n closed s
  | .lkconfExpiry n => Sys2Proof.Machine.execLkconfExpiry n s
  | .lockRetry n => Sys2Proof.Machine.execLockRetry n s
  | .lockFeedbackOpen n => Sys2Proof.Machine.execLockFeedbackOpen n s
  | .closeEn n en => Sys2Proof.Machine.execCloseEn n en s
  | .weldtExpiry n closed => Sys2Proof.Machine.execWeldtExpiry n closed s
  | .closeFeedbackTimeout n closed => Sys2Proof.Machine.execCloseFeedbackTimeout n closed s
  | .c1maxExpiry n => Sys2Proof.Machine.execC1maxExpiry n s
  | .fHoldExpiry n => Sys2Proof.Machine.execFHoldExpiry n s
  | .oiuFaultClear n weld lockf => Sys2Proof.Machine.execOiuFaultClear n weld lockf s
  | .temperatureEvaluation n ta tb => Sys2Proof.Machine.execTemperatureEvaluation n ta tb s
  | .temperatureCutOpen n => Sys2Proof.Machine.execTemperatureCutOpen n s
  | .zreqShutdownRelease n => Sys2Proof.Machine.execZreqShutdownRelease n s
  | .hlcFallback n => Sys2Proof.Machine.execHlcFallback n s
  | .fallbackPwmResume n => Sys2Proof.Machine.execFallbackPwmResume n s
  | .emberEntry => Sys2Proof.Machine.execEmberEntry s
  | .emberExit n => Sys2Proof.Machine.execEmberExit n s
  | .vehicleFrameReceived n fecError message => Sys2Proof.Machine.execVehicleFrameReceived n fecError message s
  | .transmitEncode n micros => Sys2Proof.Machine.execTransmitEncode n micros s
  | .cmSlacParmReq run heard => Sys2Proof.Machine.execCmSlacParmReq run heard s
  | .cmStartAttenCharInd run => Sys2Proof.Machine.execCmStartAttenCharInd run s
  | .soundWindowClose run sounds => Sys2Proof.Machine.execSoundWindowClose run sounds s
  | .cmSlacMatchReq run n => Sys2Proof.Machine.execCmSlacMatchReq run n s
  | .linkJoined n => Sys2Proof.Machine.execLinkJoined n s
  | .slacTimerExpiry n => Sys2Proof.Machine.execSlacTimerExpiry n s
  | .slacRetry n => Sys2Proof.Machine.execSlacRetry n s
  | .t1sLinkDown k => Sys2Proof.Machine.execT1sLinkDown k s
  | .sdpRequest n tls => Sys2Proof.Machine.execSdpRequest n tls s
  | .supportedAppProtocol n offers val exi => Sys2Proof.Machine.execSupportedAppProtocol n offers val exi s
  | .v2gRequest n m => Sys2Proof.Machine.execV2gRequest n m s
  | .v2gTimeout n kind => Sys2Proof.Machine.execV2gTimeout n kind s
  | .certificateForwardTimeout n => Sys2Proof.Machine.execCertificateForwardTimeout n s
  | .stop n => Sys2Proof.Machine.execStop n s
  | .pause n => Sys2Proof.Machine.execPause n s
  | .renegotiate n => Sys2Proof.Machine.execRenegotiate n s
  | .loopResponderAnswer n => Sys2Proof.Machine.execLoopResponderAnswer n s
  | .offloadRestart => Sys2Proof.Machine.execOffloadRestart s
  | .meteringBoundary => Sys2Proof.Machine.execMeteringBoundary s
  | .channelSlice n bits => Sys2Proof.Machine.execChannelSlice n bits s
  | .modulatorFault n noClock => Sys2Proof.Machine.execModulatorFault n noClock s
  | .modulatorFaultEnd n => Sys2Proof.Machine.execModulatorFaultEnd n s
  | .zeroCrossing n => Sys2Proof.Machine.execZeroCrossing n s
  | .zeroCrossingTimeout n => Sys2Proof.Machine.execZeroCrossingTimeout n s
  | .pulseCounted n => Sys2Proof.Machine.execPulseCounted n s
  | .pkclr n => Sys2Proof.Machine.execPkclr n s
  | .meuFreeze => Sys2Proof.Machine.execMeuFreeze s
  | .rcmSlice c counts => Sys2Proof.Machine.execRcmSlice c counts s
  | .rcmTrip c band => Sys2Proof.Machine.execRcmTrip c band s
  | .tripclr c => Sys2Proof.Machine.execTripclr c s
  | .lockclr imd c => Sys2Proof.Machine.execLockclr imd c s
  | .test imd c => Sys2Proof.Machine.execTest imd c s
  | .cal c counts => Sys2Proof.Machine.execCal c counts s
  | .rcmSelfTestDone c realCurrent => Sys2Proof.Machine.execRcmSelfTestDone c realCurrent s
  | .rcmSelfTestRetry c => Sys2Proof.Machine.execRcmSelfTestRetry c s
  | .dailySelfTest imd c => Sys2Proof.Machine.execDailySelfTest imd c s
  | .rcmSensorFault c sense => Sys2Proof.Machine.execRcmSensorFault c sense s
  | .imdHalfPeriod k i1 i2 i3 => Sys2Proof.Machine.execImdHalfPeriod k i1 i2 i3 s
  | .poleCheckTrip k vpos vneg => Sys2Proof.Machine.execPoleCheckTrip k vpos vneg s
  | .couplingOpen k vpos vneg => Sys2Proof.Machine.execCouplingOpen k vpos vneg s
  | .imdSelfTestDone k sourceFail => Sys2Proof.Machine.execImdSelfTestDone k sourceFail s
  | .cableCheckStart n => Sys2Proof.Machine.execCableCheckStart n s
  | .cableCheckResult k => Sys2Proof.Machine.execCableCheckResult k s
  | .allocatorCycle => Sys2Proof.Machine.execAllocatorCycle s
  | .cycleAbandon => Sys2Proof.Machine.execCycleAbandon s
  | .breachClear => Sys2Proof.Machine.execBreachClear s
  | .moduleLost n cause => Sys2Proof.Machine.execModuleLost n cause s
  | .moduleLostCloseDrop n => Sys2Proof.Machine.execModuleLostCloseDrop n s
  | .sunspecPoll solar data => Sys2Proof.Machine.execSunspecPoll solar data s
  | .ocppChargingProfile p => Sys2Proof.Machine.execOcppChargingProfile p s
  | .channelTurnOn c => Sys2Proof.Machine.execChannelTurnOn c s
  | .channelTurnOff c => Sys2Proof.Machine.execChannelTurnOff c s
  | .inrushSlotGrant k => Sys2Proof.Machine.execInrushSlotGrant k s
  | .inrushWindowEnd c limiting => Sys2Proof.Machine.execInrushWindowEnd c limiting s
  | .shortCircuit c limited millivolts => Sys2Proof.Machine.execShortCircuit c limited millivolts s
  | .overcurrent c load => Sys2Proof.Machine.execOvercurrent c load s
  | .overtemperature c junction => Sys2Proof.Machine.execOvertemperature c junction s
  | .retryPauseEnd c junction => Sys2Proof.Machine.execRetryPauseEnd c junction s
  | .triesReset c => Sys2Proof.Machine.execTriesReset c s
  | .latchclr c => Sys2Proof.Machine.execLatchclr c s
  | .bankDroop k vnow vmean => Sys2Proof.Machine.execBankDroop k vnow vmean s
  | .bankUndervoltage k vnow => Sys2Proof.Machine.execBankUndervoltage k vnow s
  | .bankUndervoltageEnd k vnow => Sys2Proof.Machine.execBankUndervoltageEnd k vnow s
  | .bankOvercurrent k milliamps micros => Sys2Proof.Machine.execBankOvercurrent k milliamps micros s
  | .openLoadChange c millivolts => Sys2Proof.Machine.execOpenLoadChange c millivolts s
  | .pwmFrame c vmean => Sys2Proof.Machine.execPwmFrame c vmean s
  | .gseCycle encoder => Sys2Proof.Machine.execGseCycle encoder s
  | .safetyInputConfirm inp samples => Sys2Proof.Machine.execSafetyInputConfirm inp samples s
  | .testPulse k low => Sys2Proof.Machine.execTestPulse k low s
  | .discrepancyTimeout k => Sys2Proof.Machine.execDiscrepancyTimeout k s
  | .stopdlyExpiry k => Sys2Proof.Machine.execStopdlyExpiry k s
  | .resetPulse inp ms => Sys2Proof.Machine.execResetPulse inp ms s
  | .edmFault k => Sys2Proof.Machine.execEdmFault k s
  | .unlkdlyExpiry k => Sys2Proof.Machine.execUnlkdlyExpiry k s
  | .mutingStart k => Sys2Proof.Machine.execMutingStart k s
  | .mutingEnd k => Sys2Proof.Machine.execMutingEnd k s
  | .mutmaxExpiry k => Sys2Proof.Machine.execMutmaxExpiry k s
  | .gseFault code => Sys2Proof.Machine.execGseFault code s
  | .soDriveExpiry k => Sys2Proof.Machine.execSoDriveExpiry k s
  | .vsioUndervoltage => Sys2Proof.Machine.execVsioUndervoltage s
  | .gseStartupTestsDone failed inputs => Sys2Proof.Machine.execGseStartupTestsDone failed inputs s
  | .safeConfirmTimeout => Sys2Proof.Machine.execSafeConfirmTimeout s
  | .antennaEnable k => Sys2Proof.Machine.execAntennaEnable k s
  | .antennaDisable k => Sys2Proof.Machine.execAntennaDisable k s
  | .antennaSlice k r => Sys2Proof.Machine.execAntennaSlice k r s
  | .cardExchange k request outcome answer => Sys2Proof.Machine.execCardExchange k request outcome answer s
  | .exchangeBreak k => Sys2Proof.Machine.execExchangeBreak k s
  | .tagFieldOn => Sys2Proof.Machine.execTagFieldOn s
  | .tagFieldLoss => Sys2Proof.Machine.execTagFieldLoss s
  | .tagPowerUp reservoir => Sys2Proof.Machine.execTagPowerUp reservoir s
  | .inventory req mask len afi => Sys2Proof.Machine.execInventory req mask len afi s
  | .stayQuiet req => Sys2Proof.Machine.execStayQuiet req s
  | .select req => Sys2Proof.Machine.execSelect req s
  | .resetToReady req => Sys2Proof.Machine.execResetToReady req s
  | .readSingleBlock req block => Sys2Proof.Machine.execReadSingleBlock req block s
  | .readMultipleBlocks req block count => Sys2Proof.Machine.execReadMultipleBlocks req block count s
  | .writeSingleBlock req block value reservoir collapse => Sys2Proof.Machine.execWriteSingleBlock req block value reservoir collapse s
  | .getSystemInformation req => Sys2Proof.Machine.execGetSystemInformation req s
  | .unsupportedTagCommand req => Sys2Proof.Machine.execUnsupportedTagCommand req s
  | .tpwd req password => Sys2Proof.Machine.execTpwd req password s
  | .tauth1 req keyNo ra => Sys2Proof.Machine.execTauth1 req keyNo ra s
  | .tauth2 req cipher => Sys2Proof.Machine.execTauth2 req cipher s
  | .tlogout req => Sys2Proof.Machine.execTlogout req s
  | .tstat req => Sys2Proof.Machine.execTstat req s
  | .hold on => Sys2Proof.Machine.execHold on s
  | .holdTimeout => Sys2Proof.Machine.execHoldTimeout s
  | .ndefRewrite cut => Sys2Proof.Machine.execNdefRewrite cut s
  | .loadpwd loss => Sys2Proof.Machine.execLoadpwd loss s
  | .loadkey loss => Sys2Proof.Machine.execLoadkey loss s
  | .tfailclr => Sys2Proof.Machine.execTfailclr s
  | .tagMemoryHostWrite off value => Sys2Proof.Machine.execTagMemoryHostWrite off value s
  | .apply => Sys2Proof.Machine.execApply s
  | .wallTimeSync ptp => Sys2Proof.Machine.execWallTimeSync ptp s
  | .wallTimeExpiry => Sys2Proof.Machine.execWallTimeExpiry s
  | .go isNow tariff scope => Sys2Proof.Machine.execGo isNow tariff scope s
  | .clrq scope => Sys2Proof.Machine.execClrq scope s
  | .tariffSwitchFire => Sys2Proof.Machine.execTariffSwitchFire s
  | .intervalClose e => Sys2Proof.Machine.execIntervalClose e s
  | .tamperChange input ohms => Sys2Proof.Machine.execTamperChange input ohms s
  | .ledgerGroupRequest cls recs => Sys2Proof.Machine.execLedgerGroupRequest cls recs s
  | .ledgerCommit => Sys2Proof.Machine.execLedgerCommit s
  | .meterTick => Sys2Proof.Machine.execMeterTick s
  | .retainedNearLimit => Sys2Proof.Machine.execRetainedNearLimit s
  | .pageCopy region slot => Sys2Proof.Machine.execPageCopy region slot s
  | .pageCopyDone changed => Sys2Proof.Machine.execPageCopyDone changed s
  | .roundStart => Sys2Proof.Machine.execRoundStart s
  | .pass ups => Sys2Proof.Machine.execPass ups s
  | .roundEnd => Sys2Proof.Machine.execRoundEnd s
  | .bandCBurst deferMs => Sys2Proof.Machine.execBandCBurst deferMs s
  | .joinreq eui relay cost collided => Sys2Proof.Machine.execJoinreq eui relay cost collided s
  | .nodeConfirmTimeout n => Sys2Proof.Machine.execNodeConfirmTimeout n s
  | .restart => Sys2Proof.Machine.execRestart s
  | .read addr count => Sys2Proof.Machine.execRead addr count s
  | .write addr words partialWord => Sys2Proof.Machine.execWrite addr words partialWord s
  | .status => Sys2Proof.Machine.execStatus s
  | .fifoRead count => Sys2Proof.Machine.execFifoRead count s
  | .fifoWrite bytes => Sys2Proof.Machine.execFifoWrite bytes s
  | .unknownSpiCommand cmd => Sys2Proof.Machine.execUnknownSpiCommand cmd s
  | .fifoPointerMismatch up copies => Sys2Proof.Machine.execFifoPointerMismatch up copies s
  | .dnrst => Sys2Proof.Machine.execDnrst s
  | .uprst => Sys2Proof.Machine.execUprst s
  | .hmiSessionOpen p alert => Sys2Proof.Machine.execHmiSessionOpen p alert s
  | .hmiRead p seq addr count => Sys2Proof.Machine.execHmiRead p seq addr count s
  | .hmiWrite p seq addr words => Sys2Proof.Machine.execHmiWrite p seq addr words s
  | .subscribe p seq streams n => Sys2Proof.Machine.execSubscribe p seq streams n s
  | .ledger p seq region first count => Sys2Proof.Machine.execLedger p seq region first count s
  | .afril p seq node message => Sys2Proof.Machine.execAfril p seq node message s
  | .sealed p seq payload => Sys2Proof.Machine.execSealed p seq payload s
  | .badFrameHeader p => Sys2Proof.Machine.execBadFrameHeader p s
  | .unknownFrameType p seq type payload => Sys2Proof.Machine.execUnknownFrameType p seq type payload s
  | .hostFrameDrop p type => Sys2Proof.Machine.execHostFrameDrop p type s
  | .transparentClockForward ingress egress residence m => Sys2Proof.Machine.execTransparentClockForward ingress egress residence m s
  | .ptpMessage m => Sys2Proof.Machine.execPtpMessage m s
  | .ptpHoldover => Sys2Proof.Machine.execPtpHoldover s
  | .compareFire k => Sys2Proof.Machine.execCompareFire k s
  | .templateSend n => Sys2Proof.Machine.execTemplateSend n s
  | .moduleStatusRx n echo fault vact iact => Sys2Proof.Machine.execModuleStatusRx n echo fault vact iact s
  | .canErrorStateChange k state tec rec_ => Sys2Proof.Machine.execCanErrorStateChange k state tec rec_ s
  | .modbusTransaction dev outcome => Sys2Proof.Machine.execModbusTransaction dev outcome s
  | .sunspecDiscovery dev models => Sys2Proof.Machine.execSunspecDiscovery dev models s
  | .ethernetLinkChange k speed => Sys2Proof.Machine.execEthernetLinkChange k speed s
  | .planActivate keyId planId planVer legalCv => Sys2Proof.Machine.execPlanActivate keyId planId planVer legalCv s
  | .meuCalibrate keyId fnom recs => Sys2Proof.Machine.execMeuCalibrate keyId fnom recs s
  | .bluHwmReset keyId => Sys2Proof.Machine.execBluHwmReset keyId s
  | .tamperConfig keyId ten tpol => Sys2Proof.Machine.execTamperConfig keyId ten tpol s
  | .sealAck keyId => Sys2Proof.Machine.execSealAck keyId s
  | .safeConfirm keyId value => Sys2Proof.Machine.execSafeConfirm keyId value s
  | .lgsRetention keyId days tick => Sys2Proof.Machine.execLgsRetention keyId days tick s
  | .lgsAck keyId first last hash => Sys2Proof.Machine.execLgsAck keyId first last hash s
  | .keyGen keyId slot ktype => Sys2Proof.Machine.execKeyGen keyId slot ktype s
  | .keyLoad keyId slot ktype rest => Sys2Proof.Machine.execKeyLoad keyId slot ktype rest s
  | .keyCommit keyId slot shadow => Sys2Proof.Machine.execKeyCommit keyId slot shadow s
  | .keyAbort keyId slot => Sys2Proof.Machine.execKeyAbort keyId slot s
  | .keyErase keyId slot => Sys2Proof.Machine.execKeyErase keyId slot s
  | .lifecycle keyId newState pub => Sys2Proof.Machine.execLifecycle keyId newState pub s
  | .debugUnlock keyId xroot => Sys2Proof.Machine.execDebugUnlock keyId xroot s
  | .firmwareKeyCommit slot subject chain => Sys2Proof.Machine.execFirmwareKeyCommit slot subject chain s
  | .cryptoOperationDone slot use error queued => Sys2Proof.Machine.execCryptoOperationDone slot use error queued s
  | .remaskPass seconds => Sys2Proof.Machine.execRemaskPass seconds s
  | .drbgReseed => Sys2Proof.Machine.execDrbgReseed s
  | .entropyTestFailure adaptive => Sys2Proof.Machine.execEntropyTestFailure adaptive s
  | .update => Sys2Proof.Machine.execUpdate s
  | .displayTest => Sys2Proof.Machine.execDisplayTest s
  | .displayUpdateDone vdh vdl copies => Sys2Proof.Machine.execDisplayUpdateDone vdh vdl copies s
  | .driveVoltageFault vdh vdl rows => Sys2Proof.Machine.execDriveVoltageFault vdh vdl rows s
  | .driveVoltageResume vdh vdl => Sys2Proof.Machine.execDriveVoltageResume vdh vdl s
  | .lanternStopLatch n => Sys2Proof.Machine.execLanternStopLatch n s
  | .lanternCommit n => Sys2Proof.Machine.execLanternCommit n s
  | .vinLoss kind => Sys2Proof.Machine.execVinLoss kind s
  | .supplyDip ms => Sys2Proof.Machine.execSupplyDip ms s
  | .powerFailure cause => Sys2Proof.Machine.execPowerFailure cause s
  | .holdupEnd => Sys2Proof.Machine.execHoldupEnd s
  | .restoration => Sys2Proof.Machine.execRestoration s
  | .basecampLoss => Sys2Proof.Machine.execBasecampLoss s
  | .vbatMeasure mv => Sys2Proof.Machine.execVbatMeasure mv s
  | .xtal32Check good settled => Sys2Proof.Machine.execXtal32Check good settled s
  | .crystalProven tenMicros => Sys2Proof.Machine.execCrystalProven tenMicros s
  | .crystalNotProven => Sys2Proof.Machine.execCrystalNotProven s
  | .crystalFailure kind => Sys2Proof.Machine.execCrystalFailure kind s
  | .pllLockLoss => Sys2Proof.Machine.execPllLockLoss s
  | .start win ref meas => Sys2Proof.Machine.execStart win ref meas s
  | .frequencyMeasurementDone count => Sys2Proof.Machine.execFrequencyMeasurementDone count s
  | .clockEnableWrite value => Sys2Proof.Machine.execClockEnableWrite value s
  | .warmResetCommand m key => Sys2Proof.Machine.execWarmResetCommand m key s
  | .coldResetCommand key => Sys2Proof.Machine.execColdResetCommand key s
  | .safetyRestartCommand key => Sys2Proof.Machine.execSafetyRestartCommand key s
  | .unitResetCommand key unit index => Sys2Proof.Machine.execUnitResetCommand key unit index s
  | .unitResetEnd unit index => Sys2Proof.Machine.execUnitResetEnd unit index s
  | .warmReset cause => Sys2Proof.Machine.execWarmReset cause s
  | .coldStart secRow microFail => Sys2Proof.Machine.execColdStart secRow microFail s
  | .firmwareRunning => Sys2Proof.Machine.execFirmwareRunning s
  | .imageCheckDone pass => Sys2Proof.Machine.execImageCheckDone pass s
  | .kick m => Sys2Proof.Machine.execKick m s
  | .watchdogExpiry => Sys2Proof.Machine.execWatchdogExpiry s
  | .healthy => Sys2Proof.Machine.execHealthy s
  | .take => Sys2Proof.Machine.execTake s
  | .guyHoldExpiry => Sys2Proof.Machine.execGuyHoldExpiry s
  | .lifeAccounting tmean tnow peak flash0 flash1 => Sys2Proof.Machine.execLifeAccounting tmean tnow peak flash0 flash1 s
  | .load => Sys2Proof.Machine.execLoad s
  | .updateStaged writeFail => Sys2Proof.Machine.execUpdateStaged writeFail s
  | .activate => Sys2Proof.Machine.execActivate s
  | .cancel => Sys2Proof.Machine.execCancel s
  | .confirm => Sys2Proof.Machine.execConfirm s
  | .fallback => Sys2Proof.Machine.execFallback s
  | .drainStart => Sys2Proof.Machine.execDrainStart s
  | .nodeImageDeadline => Sys2Proof.Machine.execNodeImageDeadline s
  | .nodeActivateSend => Sys2Proof.Machine.execNodeActivateSend s
  | .updateActivation => Sys2Proof.Machine.execUpdateActivation s
  | .activationReset => Sys2Proof.Machine.execActivationReset s
  | .trialComplete => Sys2Proof.Machine.execTrialComplete s
  | .nodeVersionTimeout => Sys2Proof.Machine.execNodeVersionTimeout s
  | .mediumRemoved => Sys2Proof.Machine.execMediumRemoved s
  | .ocppFirmwareRequest v2 => Sys2Proof.Machine.execOcppFirmwareRequest v2 s
  | .pilotSample n vhi vlo => Sys2Proof.Machine.execPilotSample n vhi vlo s
  | .shortPulseRejected n => Sys2Proof.Machine.execShortPulseRejected n s
  | .t1sLinkChange k up => Sys2Proof.Machine.execT1sLinkChange k up s
  | .ocppAuthorisationResult n accepted => Sys2Proof.Machine.execOcppAuthorisationResult n accepted s
  | .ocppCertificateAnswer n => Sys2Proof.Machine.execOcppCertificateAnswer n s
  | .bankDroopEnd k vnow vmean => Sys2Proof.Machine.execBankDroopEnd k vnow vmean s
  | .vsioUndervoltageEnd => Sys2Proof.Machine.execVsioUndervoltageEnd s
  | .uptoExpiry => Sys2Proof.Machine.execUptoExpiry s
  | .hmiSessionClose p => Sys2Proof.Machine.execHmiSessionClose p s
  | .modbusTcpReconnect dev => Sys2Proof.Machine.execModbusTcpReconnect dev s
  | .firmwareKeyGen slot ktype testOk => Sys2Proof.Machine.execFirmwareKeyGen slot ktype testOk s
  | .holdupMeasurementDone microfarad => Sys2Proof.Machine.execHoldupMeasurementDone microfarad s
  | .basecampSourceChange src => Sys2Proof.Machine.execBasecampSourceChange src s
  | .fallbackRestoreDone => Sys2Proof.Machine.execFallbackRestoreDone s
  | .fallbackReset => Sys2Proof.Machine.execFallbackReset s
  | .abandonRestoreDone => Sys2Proof.Machine.execAbandonRestoreDone s
  | .mediumInserted manifest files => Sys2Proof.Machine.execMediumInserted manifest files s

end Sys2Proof.Machine
end

