-- ==== Sys2Proof/Safety.lean ====
section
/-! DEFINITION. What a sound state of the block is, in the terms of the statements: a register store in canonical form whose values fit
their fields, and queues within the sizes that the spec gives them. -/

namespace Sys2Proof.Machine

open Sys2Proof

/-- A register table is sound: in canonical form, and every value fits the bits of its field (R5, R12). -/
def regsOk (t : Tab Nat) : Prop := tabWf regDefault t = true ∧ ∀ e ∈ t, e.2 < 2 ^ (keyFld e.1).width

/-- The register store of a state is sound: the values written, those in effect, and the snapshot latches. -/
def State.regsSound (s : State) : Prop := regsOk s.regs ∧ regsOk s.applied ∧ regsOk s.latched

/-- The queues of the block hold no more than the spec gives them: 16 violation records (R27), 65,536 bytes in the UP FIFO and 16,384 in the
DOWN FIFO (R376). -/
def State.queuesSound (s : State) : Prop := s.fab.queue.length ≤ 16 ∧ s.hpu.up.length ≤ 65536 ∧ s.hpu.down.length ≤ 16384

/-- A command completes from a state with a next state of which `P` holds. -/
def Completes (c : Host.Outcome State Fault Refusal) (P : State → Prop) : Prop := ∃ t, c = .next t ∧ P t

/-- Between `s` and `t` an event was raised (R44). -/
def Raises (s t : State) (code arg : Nat) : Prop := ∃ e ∈ t.events.drop s.events.length, e.code = code ∧ e.arg = arg

/-- No register field reads differently, those of a list apart. -/
def OnlyFlds (l : List (Fld × Nat)) (s t : State) : Prop := ∀ f i, (f, i) ∉ l → t.rd f i = s.rd f i

/-- The code and the result of the last response that stands on a vehicle link (R123). -/
def lastAnswer (l : List VceTx) : Option (Nat × Nat) :=
  match l.getLast? with
  | some (.v2gRes r) => some (r.code, r.result)
  | _ => none

/-- The register fields that any event may change: the ledger's count of dropped records and its flag (R330). -/
def dropFlds : List (Fld × Nat) := [(.LGS_COUNT_DROPPED, 0), (.LGS_STATUS_DROP, 0)]

/-- The parts of the block that a command can change: a unit with its registers and its own state, the allocator, the plan in force, and
the snapshot latches (R2, R6, R57, R197). -/
inductive Part where
  | unit (u : UnitId)
  | allocator
  | plan
  | latches
  deriving DecidableEq, Repr

/-- Every part of the first list stands in the second. -/
def Part.sub (a b : List Part) : Bool := a.all fun p => b.contains p

/-- Two states agree outside the parts of a list: every register field of another unit reads the same, the values in effect too, and every
other part holds the same state. -/
structure SameOutside (U : List Part) (s t : State) : Prop where
  regs : ∀ f i, Part.sub [.unit f.unit] U = false → t.rd f i = s.rd f i
  applied : ∀ f i, Part.sub [.unit f.unit] U = false → t.eff f i = s.eff f i
  latches : Part.sub [.latches] U = true ∨ (t.latched = s.latched ∧ t.latchOn = s.latchOn)
  plan : Part.sub [.plan] U = true ∨ t.plan = s.plan
  allocator : Part.sub [.allocator] U = true ∨ t.alloc = s.alloc
  fab : Part.sub [.unit .fab] U = true ∨ t.fab = s.fab
  ppl : Part.sub [.unit .ppl] U = true ∨ t.ppl = s.ppl
  sch : Part.sub [.unit .sch] U = true ∨ t.sch = s.sch
  oiu : Part.sub [.unit .oiu] U = true ∨ t.oius = s.oius
  vce : Part.sub [.unit .vce] U = true ∨
    (t.vces = s.vces ∧ t.slac = s.slac ∧ t.encoder = s.encoder ∧ t.t1sUp = s.t1sUp ∧ t.hostMsgs = s.hostMsgs)
  meu : Part.sub [.unit .meu] U = true ∨ (t.chans = s.chans ∧ t.elems = s.elems ∧ t.meu = s.meu)
  efu : Part.sub [.unit .efu] U = true ∨ (t.rcms = s.rcms ∧ t.imds = s.imds ∧ t.imdTrip = s.imdTrip ∧ t.ccRequested = s.ccRequested)
  psw : Part.sub [.unit .psw] U = true ∨ t.sws = s.sws
  gse : Part.sub [.unit .gse] U = true ∨ t.gse = s.gse
  clu : Part.sub [.unit .clu] U = true ∨ t.clu = s.clu
  blu : Part.sub [.unit .blu] U = true ∨ (t.bills = s.bills ∧ t.blu = s.blu)
  lgs : Part.sub [.unit .lgs] U = true ∨ t.lgs = s.lgs
  alk : Part.sub [.unit .alk] U = true ∨ t.alk = s.alk
  hpu : Part.sub [.unit .hpu] U = true ∨ t.hpu = s.hpu
  ntu : Part.sub [.unit .ntu] U = true ∨ t.ntu = s.ntu
  sec : Part.sub [.unit .sec] U = true ∨ t.sec = s.sec
  dse : Part.sub [.unit .dse] U = true ∨ t.dse = s.dse
  upd : Part.sub [.unit .upd] U = true ∨ t.upd = s.upd
  bcu : Part.sub [.unit .bcu] U = true ∨ t.bcu = s.bcu

/-- Every part of the block. -/
def Part.every : List Part :=
  [.unit .fab, .unit .ppl, .unit .sch, .unit .oiu, .unit .vce, .unit .meu, .unit .efu, .unit .psw, .unit .gse, .unit .clu, .unit .blu, .unit .lgs,
   .unit .alk, .unit .hpu, .unit .ntu, .unit .sec, .unit .dse, .unit .upd, .unit .bcu, .unit .cgu, .unit .id, .allocator, .plan, .latches]

/-- The parts of the block that a command may change. The ledger store stands in most rows because an event or a record goes to it (R44,
R330). Accesses over the fabric may change any register, and a cold start restores every unit. -/
def touches : Instr → List Part
  | .masterAccess _ _ _ _ _ => Part.every
  | .fabRelease _ => [.unit .fab, .unit .oiu, .unit .meu, .unit .efu, .unit .psw, .unit .gse, .unit .lgs, .allocator]
  | .fabVpop => [.unit .fab]
  | .a0FreezeEscalation => [.unit .fab, .unit .sch, .unit .oiu, .unit .vce, .unit .meu, .unit .efu, .unit .psw, .unit .gse, .unit .clu, .unit .blu, .unit .lgs, .unit .alk, .unit .hpu, .unit .dse, .unit .upd, .unit .bcu, .allocator, .latches]
  | .snap _ _ => [.unit .fab, .unit .sch, .unit .meu, .unit .blu, .unit .lgs, .unit .hpu, .unit .ntu, .unit .sec, .unit .dse, .unit .upd, .unit .bcu, .latches]
  | .registerWrite _ _ => Part.every
  | .admissionRequest _ _ => [.unit .sch, .unit .clu, .unit .lgs]
  | .streamEnd _ => [.unit .sch, .unit .clu]
  | .engineFrameBoundary _ => [.unit .sch, .unit .oiu, .unit .vce, .unit .sec]
  | .sliceRun _ _ _ => [.unit .sch, .unit .lgs]
  | .plan _ _ _ _ _ => [.unit .ppl, .unit .lgs, .unit .hpu]
  | .planVerifyDone => [.unit .ppl, .unit .lgs]
  | .pplVerifyAgain => [.unit .ppl]
  | .pplActivate => [.unit .ppl, .unit .sch, .unit .oiu, .unit .meu, .unit .efu, .unit .psw, .unit .clu, .unit .blu, .unit .lgs, .unit .alk, .unit .ntu, .unit .dse, .unit .upd, .unit .bcu, .unit .cgu, .allocator, .plan, .latches]
  | .pplDiscard => [.unit .ppl, .unit .lgs]
  | .planActivation => [.unit .ppl, .unit .sch, .unit .oiu, .unit .meu, .unit .efu, .unit .psw, .unit .clu, .unit .blu, .unit .lgs, .unit .alk, .unit .ntu, .unit .dse, .unit .upd, .unit .bcu, .unit .cgu, .allocator, .plan, .latches]
  | .outletsIdle => [.unit .ppl, .unit .sch, .unit .oiu, .unit .meu, .unit .efu, .unit .psw, .unit .clu, .unit .blu, .unit .lgs, .unit .alk, .unit .ntu, .unit .dse, .unit .upd, .unit .bcu, .unit .cgu, .allocator, .plan, .latches]
  | .pilotPeriodBoundary _ => [.unit .sch, .unit .oiu, .unit .vce, .unit .efu, .unit .psw, .unit .lgs, .unit .sec, .unit .bcu, .allocator]
  | .pilotStateConfirm _ _ => [.unit .sch, .unit .oiu, .unit .vce, .unit .efu, .unit .psw, .unit .lgs, .unit .sec, .unit .bcu, .allocator]
  | .lowLevelClassConfirm _ _ => [.unit .sch, .unit .oiu, .unit .vce, .unit .efu, .unit .psw, .unit .lgs, .unit .sec, .unit .bcu, .allocator]
  | .ppBandConfirm _ _ => [.unit .sch, .unit .oiu, .unit .vce, .unit .efu, .unit .psw, .unit .lgs, .allocator]
  | .lock _ => [.unit .oiu, .unit .efu, .unit .psw, .unit .lgs, .allocator]
  | .unlock _ => [.unit .oiu, .unit .efu, .unit .psw, .unit .lgs, .allocator]
  | .lkpulseEnd _ => [.unit .oiu, .unit .efu, .unit .psw, .unit .lgs, .allocator]
  | .lockFeedbackConfirmed _ _ => [.unit .oiu, .unit .efu, .unit .psw, .unit .lgs, .allocator]
  | .lkconfExpiry _ => [.unit .oiu, .unit .efu, .unit .psw, .unit .lgs, .allocator]
  | .lockRetry _ => [.unit .oiu, .unit .efu, .unit .psw, .unit .lgs, .allocator]
  | .lockFeedbackOpen _ => [.unit .oiu, .unit .efu, .unit .psw, .unit .lgs, .allocator]
  | .closeEn _ _ => [.unit .oiu, .unit .efu, .unit .psw, .unit .lgs, .allocator]
  | .weldtExpiry _ _ => [.unit .oiu, .unit .efu, .unit .psw, .unit .lgs, .allocator]
  | .closeFeedbackTimeout _ _ => [.unit .oiu, .unit .efu, .unit .psw, .unit .lgs, .allocator]
  | .c1maxExpiry _ => [.unit .oiu, .unit .efu, .unit .psw, .unit .lgs, .allocator]
  | .fHoldExpiry _ => [.unit .oiu]
  | .oiuFaultClear _ _ _ => [.unit .oiu, .unit .efu, .unit .psw, .unit .lgs, .allocator]
  | .temperatureEvaluation _ _ _ => [.unit .oiu, .unit .vce, .unit .efu, .unit .psw, .unit .lgs, .allocator]
  | .temperatureCutOpen _ => [.unit .oiu, .unit .efu, .unit .psw, .unit .lgs, .allocator]
  | .zreqShutdownRelease _ => [.unit .oiu, .unit .efu, .unit .psw, .unit .lgs, .allocator]
  | .hlcFallback _ => [.unit .oiu]
  | .fallbackPwmResume _ => [.unit .oiu]
  | .emberEntry => [.unit .oiu, .unit .vce, .unit .clu, .unit .bcu]
  | .emberExit _ => [.unit .sch, .unit .oiu, .unit .vce, .unit .lgs, .unit .sec, .unit .bcu, .allocator]
  | .vehicleFrameReceived _ _ _ => [.unit .sch, .unit .oiu, .unit .vce, .unit .efu, .unit .lgs]
  | .transmitEncode _ _ => [.unit .vce]
  | .cmSlacParmReq _ _ => [.unit .vce]
  | .cmStartAttenCharInd _ => [.unit .vce]
  | .soundWindowClose _ _ => [.unit .vce, .unit .lgs]
  | .cmSlacMatchReq _ _ => [.unit .oiu, .unit .vce, .unit .lgs]
  | .linkJoined _ => [.unit .vce, .unit .lgs]
  | .slacTimerExpiry _ => [.unit .oiu, .unit .vce, .unit .lgs]
  | .slacRetry _ => [.unit .sch, .unit .oiu, .unit .vce, .unit .lgs, .unit .sec]
  | .t1sLinkDown _ => [.unit .sch, .unit .oiu, .unit .vce, .unit .efu, .unit .psw, .unit .lgs, .allocator]
  | .sdpRequest _ _ => [.unit .sch, .unit .oiu, .unit .vce, .unit .lgs, .unit .sec]
  | .supportedAppProtocol _ _ _ _ => [.unit .sch, .unit .oiu, .unit .vce, .unit .efu, .unit .psw, .unit .lgs, .unit .ntu, .allocator]
  | .v2gRequest _ _ => [.unit .sch, .unit .oiu, .unit .vce, .unit .efu, .unit .psw, .unit .lgs, .unit .ntu, .allocator]
  | .v2gTimeout _ _ => [.unit .sch, .unit .oiu, .unit .vce, .unit .efu, .unit .lgs]
  | .certificateForwardTimeout _ => [.unit .vce]
  | .stop _ => [.unit .vce]
  | .pause _ => [.unit .vce]
  | .renegotiate _ => [.unit .vce]
  | .loopResponderAnswer _ => [.unit .vce, .unit .lgs]
  | .offloadRestart => [.unit .sch, .unit .oiu, .unit .vce, .unit .efu, .unit .psw, .unit .lgs, .unit .ntu, .allocator]
  | .meteringBoundary => [.unit .ppl, .unit .oiu, .unit .meu, .unit .efu, .unit .psw, .unit .blu, .unit .lgs, .unit .sec, .unit .dse, .unit .bcu, .allocator, .latches]
  | .channelSlice _ _ => [.unit .meu, .unit .blu, .unit .lgs, .allocator]
  | .modulatorFault _ _ => [.unit .oiu, .unit .meu, .unit .efu, .unit .psw, .unit .lgs, .allocator]
  | .modulatorFaultEnd _ => [.unit .meu, .unit .lgs]
  | .zeroCrossing _ => [.unit .meu, .unit .blu, .unit .lgs, .allocator]
  | .zeroCrossingTimeout _ => [.unit .meu, .unit .lgs]
  | .pulseCounted _ => [.unit .meu]
  | .pkclr _ => [.unit .meu]
  | .meuFreeze => [.unit .ppl, .unit .oiu, .unit .meu, .unit .efu, .unit .psw, .unit .blu, .unit .lgs, .unit .sec, .allocator]
  | .rcmSlice _ _ => [.unit .oiu, .unit .efu, .unit .psw, .unit .lgs, .allocator]
  | .rcmTrip _ _ => [.unit .oiu, .unit .efu, .unit .psw, .unit .lgs, .allocator]
  | .tripclr _ => [.unit .oiu, .unit .efu, .unit .psw, .unit .lgs, .allocator]
  | .lockclr _ _ => [.unit .oiu, .unit .efu, .unit .psw, .unit .lgs, .allocator]
  | .test _ _ => [.unit .oiu, .unit .efu, .unit .psw, .unit .lgs, .allocator]
  | .cal _ _ => [.unit .oiu, .unit .efu, .unit .psw, .unit .lgs, .allocator]
  | .rcmSelfTestDone _ _ => [.unit .oiu, .unit .efu, .unit .psw, .unit .lgs, .allocator]
  | .rcmSelfTestRetry _ => [.unit .oiu, .unit .efu, .unit .psw, .unit .lgs, .allocator]
  | .dailySelfTest _ _ => [.unit .oiu, .unit .efu, .unit .psw, .unit .lgs, .allocator]
  | .rcmSensorFault _ _ => [.unit .oiu, .unit .efu, .unit .psw, .unit .lgs, .allocator]
  | .imdHalfPeriod _ _ _ _ => [.unit .oiu, .unit .efu, .unit .psw, .unit .lgs, .allocator]
  | .poleCheckTrip _ _ _ => [.unit .oiu, .unit .efu, .unit .psw, .unit .lgs, .allocator]
  | .couplingOpen _ _ _ => [.unit .oiu, .unit .efu, .unit .psw, .unit .lgs, .allocator]
  | .imdSelfTestDone _ _ => [.unit .oiu, .unit .efu, .unit .psw, .unit .lgs, .allocator]
  | .cableCheckStart _ => [.unit .oiu, .unit .efu]
  | .cableCheckResult _ => [.unit .efu, .unit .lgs]
  | .allocatorCycle => [.unit .oiu, .unit .vce, .unit .lgs, .unit .bcu, .allocator]
  | .cycleAbandon => [.unit .oiu, .unit .vce, .unit .lgs, .allocator]
  | .breachClear => [.unit .lgs, .allocator]
  | .moduleLost _ _ => [.unit .oiu, .unit .lgs, .allocator]
  | .moduleLostCloseDrop _ => [.unit .oiu, .unit .efu, .unit .psw, .unit .lgs, .allocator]
  | .sunspecPoll _ _ => [.unit .lgs, .unit .ntu, .allocator]
  | .ocppChargingProfile _ => [.unit .lgs, .unit .ntu, .allocator]
  | .channelTurnOn _ => [.unit .oiu, .unit .psw, .unit .lgs]
  | .channelTurnOff _ => [.unit .oiu, .unit .psw, .unit .lgs]
  | .inrushSlotGrant _ => [.unit .oiu, .unit .psw]
  | .inrushWindowEnd _ _ => [.unit .oiu, .unit .psw, .unit .lgs]
  | .shortCircuit _ _ _ => [.unit .oiu, .unit .psw, .unit .lgs]
  | .overcurrent _ _ => [.unit .oiu, .unit .psw, .unit .lgs]
  | .overtemperature _ _ => [.unit .oiu, .unit .psw, .unit .lgs]
  | .retryPauseEnd _ _ => [.unit .oiu, .unit .psw, .unit .lgs]
  | .triesReset _ => [.unit .psw]
  | .latchclr _ => [.unit .oiu, .unit .psw, .unit .lgs]
  | .bankDroop _ _ _ => [.unit .psw, .unit .lgs]
  | .bankUndervoltage _ _ => [.unit .oiu, .unit .psw, .unit .lgs]
  | .bankUndervoltageEnd _ _ => [.unit .oiu, .unit .psw, .unit .lgs]
  | .bankOvercurrent _ _ _ => [.unit .oiu, .unit .psw, .unit .lgs]
  | .openLoadChange _ _ => [.unit .psw, .unit .lgs]
  | .pwmFrame _ _ => [.unit .oiu, .unit .psw, .unit .lgs]
  | .gseCycle _ => [.unit .oiu, .unit .efu, .unit .psw, .unit .gse, .unit .lgs, .unit .hpu, .unit .sec, .allocator]
  | .safetyInputConfirm _ _ => [.unit .gse, .unit .lgs, .unit .hpu, .unit .sec]
  | .testPulse _ _ => [.unit .gse, .unit .lgs]
  | .discrepancyTimeout _ => [.unit .gse, .unit .lgs]
  | .stopdlyExpiry _ => [.unit .oiu, .unit .efu, .unit .psw, .unit .gse, .unit .lgs, .allocator]
  | .resetPulse _ _ => [.unit .gse, .unit .lgs, .unit .hpu, .unit .sec]
  | .edmFault _ => [.unit .gse, .unit .lgs]
  | .unlkdlyExpiry _ => [.unit .gse]
  | .mutingStart _ => [.unit .gse, .unit .lgs]
  | .mutingEnd _ => [.unit .gse, .unit .lgs]
  | .mutmaxExpiry _ => [.unit .gse, .unit .lgs]
  | .gseFault _ => [.unit .oiu, .unit .efu, .unit .psw, .unit .gse, .unit .lgs, .allocator]
  | .soDriveExpiry _ => [.unit .gse]
  | .vsioUndervoltage => [.unit .gse, .unit .lgs]
  | .gseStartupTestsDone _ _ => [.unit .sch, .unit .oiu, .unit .vce, .unit .efu, .unit .psw, .unit .gse, .unit .lgs, .unit .upd, .allocator]
  | .safeConfirmTimeout => [.unit .gse, .unit .lgs, .unit .hpu, .unit .sec]
  | .antennaEnable _ => [.unit .sch, .unit .clu, .unit .lgs]
  | .antennaDisable _ => [.unit .sch, .unit .clu]
  | .antennaSlice _ _ => [.unit .clu, .unit .lgs]
  | .cardExchange _ _ _ _ => [.unit .clu]
  | .exchangeBreak _ => [.unit .clu, .unit .lgs]
  | .tagFieldOn => [.unit .clu]
  | .tagFieldLoss => [.unit .clu]
  | .tagPowerUp _ => [.unit .clu, .unit .lgs]
  | .inventory _ _ _ _ => [.unit .clu]
  | .stayQuiet _ => [.unit .clu]
  | .select _ => [.unit .clu]
  | .resetToReady _ => [.unit .clu]
  | .readSingleBlock _ _ => [.unit .clu]
  | .readMultipleBlocks _ _ _ => [.unit .clu]
  | .writeSingleBlock _ _ _ _ _ => [.unit .clu, .unit .lgs]
  | .getSystemInformation _ => [.unit .clu]
  | .unsupportedTagCommand _ => [.unit .clu]
  | .tpwd _ _ => [.unit .clu, .unit .lgs]
  | .tauth1 _ _ _ => [.unit .clu]
  | .tauth2 _ _ => [.unit .clu, .unit .lgs]
  | .tlogout _ => [.unit .clu]
  | .tstat _ => [.unit .clu]
  | .hold _ => [.unit .clu]
  | .holdTimeout => [.unit .clu, .unit .lgs]
  | .ndefRewrite _ => [.unit .clu]
  | .loadpwd _ => [.unit .clu]
  | .loadkey _ => [.unit .clu]
  | .tfailclr => [.unit .clu]
  | .tagMemoryHostWrite _ _ => [.unit .clu, .unit .lgs]
  | .apply => [.unit .blu, .unit .lgs]
  | .wallTimeSync _ => [.unit .meu, .unit .blu, .unit .lgs, .allocator]
  | .wallTimeExpiry => [.unit .meu, .unit .blu, .unit .lgs, .allocator]
  | .go _ _ _ => [.unit .blu, .unit .lgs]
  | .clrq _ => [.unit .blu]
  | .tariffSwitchFire => [.unit .meu, .unit .blu, .unit .lgs, .allocator]
  | .intervalClose _ => [.unit .meu, .unit .blu, .unit .lgs, .allocator]
  | .tamperChange _ _ => [.unit .blu, .unit .lgs]
  | .ledgerGroupRequest _ _ => [.unit .lgs]
  | .ledgerCommit => [.unit .lgs]
  | .meterTick => [.unit .ppl, .unit .oiu, .unit .meu, .unit .efu, .unit .psw, .unit .blu, .unit .lgs, .unit .sec, .unit .dse, .unit .bcu, .allocator, .latches]
  | .retainedNearLimit => [.unit .lgs]
  | .pageCopy _ _ => [.unit .lgs]
  | .pageCopyDone _ => [.unit .lgs]
  | .roundStart => [.unit .lgs, .unit .alk]
  | .pass _ => [.unit .lgs, .unit .alk]
  | .roundEnd => [.unit .lgs, .unit .alk]
  | .bandCBurst _ => [.unit .lgs, .unit .alk]
  | .joinreq _ _ _ _ => [.unit .sch, .unit .lgs, .unit .alk]
  | .nodeConfirmTimeout _ => [.unit .lgs, .unit .alk]
  | .restart => [.unit .sch, .unit .clu, .unit .lgs, .unit .alk, .latches]
  | .read _ _ => Part.every
  | .write _ _ _ => Part.every
  | .status => [.unit .hpu]
  | .fifoRead _ => [.unit .hpu]
  | .fifoWrite _ => [.unit .lgs, .unit .hpu]
  | .unknownSpiCommand _ => [.unit .hpu]
  | .fifoPointerMismatch _ _ => [.unit .lgs, .unit .hpu]
  | .dnrst => [.unit .lgs, .unit .hpu]
  | .uprst => [.unit .lgs, .unit .hpu]
  | .hmiSessionOpen _ _ => [.unit .sch, .unit .lgs, .unit .hpu]
  | .hmiRead _ _ _ _ => Part.every
  | .hmiWrite _ _ _ _ => Part.every
  | .subscribe _ _ _ _ => [.unit .hpu]
  | .ledger _ _ _ _ _ => [.unit .hpu]
  | .afril _ _ _ _ => [.unit .lgs, .unit .alk, .unit .hpu]
  | .sealed _ _ _ => [.unit .ppl, .unit .sch, .unit .oiu, .unit .meu, .unit .efu, .unit .psw, .unit .gse, .unit .clu, .unit .blu, .unit .lgs, .unit .alk, .unit .hpu, .unit .ntu, .unit .sec, .unit .dse, .unit .upd, .unit .bcu, .unit .cgu, .allocator, .plan, .latches]
  | .badFrameHeader _ => [.unit .lgs, .unit .hpu]
  | .unknownFrameType _ _ _ _ => [.unit .hpu]
  | .hostFrameDrop _ _ => [.unit .lgs, .unit .hpu]
  | .transparentClockForward _ _ _ _ => [.unit .lgs, .unit .ntu]
  | .ptpMessage _ => [.unit .lgs, .unit .ntu, .unit .upd]
  | .ptpHoldover => [.unit .lgs, .unit .ntu, .unit .upd]
  | .compareFire _ => [.unit .ntu]
  | .templateSend _ => [.unit .ntu]
  | .moduleStatusRx _ _ _ _ _ => [.unit .oiu, .unit .lgs, .unit .ntu, .allocator]
  | .canErrorStateChange _ _ _ _ => [.unit .lgs, .unit .ntu]
  | .modbusTransaction _ _ => [.unit .ntu]
  | .sunspecDiscovery _ _ => [.unit .lgs, .unit .ntu, .allocator]
  | .ethernetLinkChange _ _ => [.unit .lgs, .unit .ntu]
  | .planActivate _ _ _ _ => [.unit .ppl, .unit .sch, .unit .oiu, .unit .meu, .unit .efu, .unit .psw, .unit .gse, .unit .clu, .unit .blu, .unit .lgs, .unit .alk, .unit .hpu, .unit .ntu, .unit .sec, .unit .dse, .unit .upd, .unit .bcu, .unit .cgu, .allocator, .plan, .latches]
  | .meuCalibrate _ _ _ => [.unit .ppl, .unit .sch, .unit .oiu, .unit .meu, .unit .efu, .unit .psw, .unit .gse, .unit .clu, .unit .blu, .unit .lgs, .unit .alk, .unit .hpu, .unit .ntu, .unit .sec, .unit .dse, .unit .upd, .unit .bcu, .unit .cgu, .allocator, .plan, .latches]
  | .bluHwmReset _ => [.unit .ppl, .unit .sch, .unit .oiu, .unit .meu, .unit .efu, .unit .psw, .unit .gse, .unit .clu, .unit .blu, .unit .lgs, .unit .alk, .unit .hpu, .unit .ntu, .unit .sec, .unit .dse, .unit .upd, .unit .bcu, .unit .cgu, .allocator, .plan, .latches]
  | .tamperConfig _ _ _ => [.unit .ppl, .unit .sch, .unit .oiu, .unit .meu, .unit .efu, .unit .psw, .unit .gse, .unit .clu, .unit .blu, .unit .lgs, .unit .alk, .unit .hpu, .unit .ntu, .unit .sec, .unit .dse, .unit .upd, .unit .bcu, .unit .cgu, .allocator, .plan, .latches]
  | .sealAck _ => [.unit .ppl, .unit .sch, .unit .oiu, .unit .meu, .unit .efu, .unit .psw, .unit .gse, .unit .clu, .unit .blu, .unit .lgs, .unit .alk, .unit .hpu, .unit .ntu, .unit .sec, .unit .dse, .unit .upd, .unit .bcu, .unit .cgu, .allocator, .plan, .latches]
  | .safeConfirm _ _ => [.unit .ppl, .unit .sch, .unit .oiu, .unit .meu, .unit .efu, .unit .psw, .unit .gse, .unit .clu, .unit .blu, .unit .lgs, .unit .alk, .unit .hpu, .unit .ntu, .unit .sec, .unit .dse, .unit .upd, .unit .bcu, .unit .cgu, .allocator, .plan, .latches]
  | .lgsRetention _ _ _ => [.unit .ppl, .unit .sch, .unit .oiu, .unit .meu, .unit .efu, .unit .psw, .unit .gse, .unit .clu, .unit .blu, .unit .lgs, .unit .alk, .unit .hpu, .unit .ntu, .unit .sec, .unit .dse, .unit .upd, .unit .bcu, .unit .cgu, .allocator, .plan, .latches]
  | .lgsAck _ _ _ _ => [.unit .ppl, .unit .sch, .unit .oiu, .unit .meu, .unit .efu, .unit .psw, .unit .gse, .unit .clu, .unit .blu, .unit .lgs, .unit .alk, .unit .hpu, .unit .ntu, .unit .sec, .unit .dse, .unit .upd, .unit .bcu, .unit .cgu, .allocator, .plan, .latches]
  | .keyGen _ _ _ => [.unit .ppl, .unit .sch, .unit .oiu, .unit .meu, .unit .efu, .unit .psw, .unit .gse, .unit .clu, .unit .blu, .unit .lgs, .unit .alk, .unit .hpu, .unit .ntu, .unit .sec, .unit .dse, .unit .upd, .unit .bcu, .unit .cgu, .allocator, .plan, .latches]
  | .keyLoad _ _ _ _ => [.unit .ppl, .unit .sch, .unit .oiu, .unit .meu, .unit .efu, .unit .psw, .unit .gse, .unit .clu, .unit .blu, .unit .lgs, .unit .alk, .unit .hpu, .unit .ntu, .unit .sec, .unit .dse, .unit .upd, .unit .bcu, .unit .cgu, .allocator, .plan, .latches]
  | .keyCommit _ _ _ => [.unit .ppl, .unit .sch, .unit .oiu, .unit .meu, .unit .efu, .unit .psw, .unit .gse, .unit .clu, .unit .blu, .unit .lgs, .unit .alk, .unit .hpu, .unit .ntu, .unit .sec, .unit .dse, .unit .upd, .unit .bcu, .unit .cgu, .allocator, .plan, .latches]
  | .keyAbort _ _ => [.unit .ppl, .unit .sch, .unit .oiu, .unit .meu, .unit .efu, .unit .psw, .unit .gse, .unit .clu, .unit .blu, .unit .lgs, .unit .alk, .unit .hpu, .unit .ntu, .unit .sec, .unit .dse, .unit .upd, .unit .bcu, .unit .cgu, .allocator, .plan, .latches]
  | .keyErase _ _ => [.unit .ppl, .unit .sch, .unit .oiu, .unit .meu, .unit .efu, .unit .psw, .unit .gse, .unit .clu, .unit .blu, .unit .lgs, .unit .alk, .unit .hpu, .unit .ntu, .unit .sec, .unit .dse, .unit .upd, .unit .bcu, .unit .cgu, .allocator, .plan, .latches]
  | .lifecycle _ _ _ => [.unit .ppl, .unit .sch, .unit .oiu, .unit .meu, .unit .efu, .unit .psw, .unit .gse, .unit .clu, .unit .blu, .unit .lgs, .unit .alk, .unit .hpu, .unit .ntu, .unit .sec, .unit .dse, .unit .upd, .unit .bcu, .unit .cgu, .allocator, .plan, .latches]
  | .debugUnlock _ _ => [.unit .ppl, .unit .sch, .unit .oiu, .unit .meu, .unit .efu, .unit .psw, .unit .gse, .unit .clu, .unit .blu, .unit .lgs, .unit .alk, .unit .hpu, .unit .ntu, .unit .sec, .unit .dse, .unit .upd, .unit .bcu, .unit .cgu, .allocator, .plan, .latches]
  | .firmwareKeyCommit _ _ _ => [.unit .lgs, .unit .sec]
  | .cryptoOperationDone _ _ _ _ => [.unit .blu, .unit .lgs, .unit .sec]
  | .remaskPass _ => [.unit .lgs, .unit .sec]
  | .drbgReseed => [.unit .sec]
  | .entropyTestFailure _ => [.unit .lgs, .unit .sec]
  | .update => [.unit .dse]
  | .displayTest => [.unit .lgs, .unit .dse]
  | .displayUpdateDone _ _ _ => [.unit .lgs, .unit .dse]
  | .driveVoltageFault _ _ _ => [.unit .lgs, .unit .dse]
  | .driveVoltageResume _ _ => [.unit .lgs, .unit .dse]
  | .lanternStopLatch _ => [.unit .lgs, .unit .dse]
  | .lanternCommit _ => [.unit .lgs, .unit .dse]
  | .vinLoss _ => [.unit .bcu]
  | .supplyDip _ => [.unit .lgs, .unit .bcu]
  | .powerFailure _ => [.unit .oiu, .unit .meu, .unit .efu, .unit .psw, .unit .gse, .unit .blu, .unit .lgs, .unit .alk, .unit .dse, .unit .upd, .unit .bcu, .allocator]
  | .holdupEnd => Part.every
  | .restoration => [.unit .lgs, .unit .bcu]
  | .basecampLoss => [.unit .bcu, .latches]
  | .vbatMeasure _ => [.unit .lgs, .unit .bcu]
  | .xtal32Check _ _ => [.unit .lgs, .unit .bcu]
  | .crystalProven _ => [.unit .meu, .unit .lgs, .unit .cgu]
  | .crystalNotProven => [.unit .lgs, .unit .cgu]
  | .crystalFailure _ => [.unit .oiu, .unit .meu, .unit .efu, .unit .psw, .unit .gse, .unit .blu, .unit .lgs, .unit .alk, .unit .dse, .unit .upd, .unit .bcu, .unit .cgu, .allocator]
  | .pllLockLoss => [.unit .oiu, .unit .meu, .unit .efu, .unit .psw, .unit .gse, .unit .blu, .unit .lgs, .unit .alk, .unit .dse, .unit .upd, .unit .bcu, .unit .cgu, .allocator]
  | .start _ _ _ => [.unit .cgu]
  | .frequencyMeasurementDone _ => [.unit .cgu]
  | .clockEnableWrite _ => [.unit .oiu, .unit .efu, .unit .psw, .unit .lgs, .unit .cgu, .allocator]
  | .warmResetCommand _ _ => [.unit .fab, .unit .sch, .unit .oiu, .unit .vce, .unit .meu, .unit .efu, .unit .psw, .unit .gse, .unit .clu, .unit .blu, .unit .lgs, .unit .alk, .unit .hpu, .unit .ntu, .unit .sec, .unit .dse, .unit .upd, .unit .bcu, .allocator, .latches]
  | .coldResetCommand _ => [.unit .fab, .unit .sch, .unit .oiu, .unit .vce, .unit .meu, .unit .efu, .unit .psw, .unit .gse, .unit .clu, .unit .blu, .unit .lgs, .unit .alk, .unit .hpu, .unit .ntu, .unit .sec, .unit .dse, .unit .upd, .unit .bcu, .allocator, .latches]
  | .safetyRestartCommand _ => [.unit .fab, .unit .sch, .unit .oiu, .unit .vce, .unit .meu, .unit .efu, .unit .psw, .unit .gse, .unit .clu, .unit .blu, .unit .lgs, .unit .alk, .unit .hpu, .unit .ntu, .unit .sec, .unit .dse, .unit .upd, .unit .bcu, .allocator, .latches]
  | .unitResetCommand _ _ _ => [.unit .fab, .unit .sch, .unit .oiu, .unit .vce, .unit .meu, .unit .efu, .unit .psw, .unit .gse, .unit .clu, .unit .blu, .unit .lgs, .unit .alk, .unit .hpu, .unit .ntu, .unit .sec, .unit .dse, .unit .upd, .unit .bcu, .allocator, .latches]
  | .unitResetEnd _ _ => [.unit .oiu, .unit .meu, .unit .psw, .unit .lgs, .unit .bcu]
  | .warmReset _ => [.unit .fab, .unit .sch, .unit .oiu, .unit .vce, .unit .meu, .unit .efu, .unit .psw, .unit .gse, .unit .clu, .unit .blu, .unit .lgs, .unit .alk, .unit .hpu, .unit .dse, .unit .upd, .unit .bcu, .allocator, .latches]
  | .coldStart _ _ => Part.every
  | .firmwareRunning => [.unit .meu, .unit .blu, .unit .lgs, .unit .alk, .unit .sec, .unit .upd, .unit .bcu, .allocator]
  | .imageCheckDone _ => [.unit .lgs]
  | .kick _ => [.unit .fab, .unit .sch, .unit .oiu, .unit .vce, .unit .meu, .unit .efu, .unit .psw, .unit .gse, .unit .clu, .unit .blu, .unit .lgs, .unit .alk, .unit .hpu, .unit .dse, .unit .upd, .unit .bcu, .allocator, .latches]
  | .watchdogExpiry => [.unit .fab, .unit .sch, .unit .oiu, .unit .vce, .unit .meu, .unit .efu, .unit .psw, .unit .gse, .unit .clu, .unit .blu, .unit .lgs, .unit .alk, .unit .hpu, .unit .dse, .unit .upd, .unit .bcu, .allocator, .latches]
  | .healthy => [.unit .upd, .unit .bcu]
  | .take => [.unit .oiu, .unit .efu, .unit .psw, .unit .gse, .unit .lgs, .unit .bcu, .allocator]
  | .guyHoldExpiry => [.unit .oiu, .unit .psw, .unit .lgs, .unit .bcu]
  | .lifeAccounting _ _ _ _ _ => [.unit .bcu, .unit .id]
  | .load => [.unit .sch, .unit .oiu, .unit .vce, .unit .efu, .unit .psw, .unit .lgs, .unit .alk, .unit .upd, .allocator]
  | .updateStaged _ => [.unit .lgs, .unit .alk, .unit .upd]
  | .activate => [.unit .sch, .unit .oiu, .unit .vce, .unit .efu, .unit .psw, .unit .lgs, .unit .alk, .unit .upd, .allocator]
  | .cancel => [.unit .sch, .unit .oiu, .unit .vce, .unit .efu, .unit .psw, .unit .lgs, .unit .alk, .unit .upd, .allocator]
  | .confirm => [.unit .sch, .unit .oiu, .unit .vce, .unit .efu, .unit .psw, .unit .lgs, .unit .alk, .unit .upd, .allocator]
  | .fallback => [.unit .sch, .unit .oiu, .unit .vce, .unit .efu, .unit .psw, .unit .lgs, .unit .alk, .unit .upd, .allocator]
  | .drainStart => [.unit .lgs, .unit .upd]
  | .nodeImageDeadline => [.unit .lgs, .unit .alk, .unit .upd]
  | .nodeActivateSend => [.unit .alk]
  | .updateActivation => [.unit .ppl, .unit .sch, .unit .oiu, .unit .vce, .unit .meu, .unit .efu, .unit .psw, .unit .clu, .unit .blu, .unit .lgs, .unit .alk, .unit .ntu, .unit .dse, .unit .upd, .unit .bcu, .unit .cgu, .allocator, .plan, .latches]
  | .activationReset => [.unit .oiu, .unit .meu, .unit .efu, .unit .psw, .unit .gse, .unit .blu, .unit .lgs, .unit .alk, .unit .dse, .unit .upd, .unit .bcu, .allocator]
  | .trialComplete => [.unit .lgs, .unit .alk, .unit .upd]
  | .nodeVersionTimeout => [.unit .sch, .unit .oiu, .unit .vce, .unit .efu, .unit .psw, .unit .lgs, .unit .upd, .allocator]
  | .mediumRemoved => [.unit .lgs, .unit .alk, .unit .upd]
  | .ocppFirmwareRequest _ => [.unit .lgs, .unit .ntu]
  | .pilotSample _ _ _ => [.unit .sch, .unit .oiu, .unit .vce, .unit .efu, .unit .psw, .unit .lgs, .unit .sec, .unit .bcu, .allocator]
  | .shortPulseRejected _ => [.unit .meu]
  | .t1sLinkChange _ _ => [.unit .vce, .unit .lgs]
  | .ocppAuthorisationResult _ _ => [.unit .vce]
  | .ocppCertificateAnswer _ => [.unit .vce]
  | .bankDroopEnd _ _ _ => [.unit .psw, .unit .lgs]
  | .vsioUndervoltageEnd => [.unit .gse, .unit .lgs]
  | .uptoExpiry => [.unit .hpu]
  | .hmiSessionClose _ => [.unit .sch, .unit .lgs, .unit .hpu]
  | .modbusTcpReconnect _ => [.unit .ntu]
  | .firmwareKeyGen _ _ _ => [.unit .lgs, .unit .sec]
  | .holdupMeasurementDone _ => [.unit .lgs, .unit .bcu]
  | .basecampSourceChange _ => [.unit .bcu]
  | .fallbackRestoreDone => [.unit .ppl, .unit .sch, .unit .oiu, .unit .meu, .unit .efu, .unit .psw, .unit .clu, .unit .blu, .unit .lgs, .unit .alk, .unit .ntu, .unit .dse, .unit .upd, .unit .bcu, .unit .cgu, .allocator, .plan, .latches]
  | .fallbackReset => [.unit .oiu, .unit .meu, .unit .efu, .unit .psw, .unit .gse, .unit .blu, .unit .lgs, .unit .alk, .unit .dse, .unit .upd, .unit .bcu, .allocator]
  | .abandonRestoreDone => [.unit .alk, .unit .upd]
  | .mediumInserted _ _ => [.unit .upd]

end Sys2Proof.Machine
end

