-- ==== Sys2Proof/Certificates/Slice0/Obligations.lean ====
section
/-! DEFINITION. The statements for the provers: one per list of clauses about one part of the block. Each clause names what it needs of the
state and the operands, and what follows. `Completes` says that the command answers a next state. -/

open Sys2Proof Sys2Proof.Machine

/-- Admission and the end of a stream (R67 to R69, R276), and a slice's run (R38). -/
def Obligations.AdmissionBindsOrRefuses : Prop :=
  -- admitted
  (∀ (stream : BitVec 16) (cls : Fin 16) (s : State),
    s.isBound stream.toNat = false →
    s.hasRoom stream.toNat cls.val = true →
    Completes (exec (.admissionRequest stream cls) s) fun t =>
      t.sch.slices = bindFirst cls.val stream.toNat (((s.classOf (engineOf stream.toNat) cls.val).map (·.sps)).getD 1) s.sch.slices ∧ t.sch.waiting = s.sch.waiting.filter (fun e => e.1 != stream.toNat) ∧ (stream.toNat < 0x1800 ∨ 0x1803 < stream.toNat → t.events = s.events ∧ OnlyFlds ((List.range 6).flatMap fun e => [(.SCH_OPEN_OPEN, e), (.SCH_OPEN_TOTAL, e)]) s t)) ∧
  -- refused
  (∀ (stream : BitVec 16) (cls : Fin 16) (s : State),
    s.isBound stream.toNat = false →
    s.hasRoom stream.toNat cls.val = false →
    Completes (exec (.admissionRequest stream cls) s) fun t =>
      t.rd .SCH_STATUS_REFUSED 0 = 1 ∧ t.rd .SCH_REFUSALS_LAST 0 = stream.toNat ∧ Raises s t 0x0501 stream.toNat ∧ t.sch = s.sch ∧ (stream.toNat < 0x1800 ∨ 0x1803 < stream.toNat → OnlyFlds ([(.SCH_STATUS_REFUSED, 0), (.SCH_REFUSALS_COUNT, 0), (.SCH_REFUSALS_LAST, 0)] ++ dropFlds) s t)) ∧
  -- antennaStays
  (∀ (k : Fin 4) (cls : Fin 16) (s : State),
    s.isBound (0x1800 + k.val) = true →
    Completes (exec (.admissionRequest (BitVec.ofNat 16 (0x1800 + k.val)) cls) s) fun t =>
      t.flag .CLU_ANTCTL_ADM k = true ∧ t.sch = s.sch ∧ t.events = s.events ∧ OnlyFlds [(.CLU_ANTCTL_ADM, k.val)] s t) ∧
  -- antennaRefused
  (∀ (k : Fin 4) (cls : Fin 16) (s : State),
    s.isBound (0x1800 + k.val) = false →
    s.hasRoom (0x1800 + k.val) cls.val = false →
    Completes (exec (.admissionRequest (BitVec.ofNat 16 (0x1800 + k.val)) cls) s) fun t =>
      t.flag .CLU_ANTCTL_ADM k = false ∧ t.flag .CLU_ANTCTL_ANTEN k = false ∧ Raises s t 0x1803 (k.val * 256) ∧ t.sch = s.sch) ∧
  -- ended
  (∀ (stream : BitVec 16) (s : State),
    Completes (exec (.streamEnd stream) s) fun t =>
      (∀ x ∈ t.sch.slices, x.stream = stream.toNat → x.freed = true) ∧ (∀ e ∈ t.sch.waiting, e.1 ≠ stream.toNat) ∧ t.events = s.events ∧ (0x1800 ≤ stream.toNat ∧ stream.toNat ≤ 0x1803 → t.flag .CLU_ANTCTL_ADM (stream.toNat - 0x1800) = false) ∧ OnlyFlds [(.CLU_ANTCTL_ADM, stream.toNat - 0x1800)] s t) ∧
  -- inTime
  (∀ (e : Fin 6) (index : BitVec 16) (d : Nat) (x : Slice) (s : State),
    (s.slicesOf e.val).find? (fun y => y.index == index.toNat) = some x →
    x.background = false →
    x.stream ≠ 0xFFFF →
    d ≤ ((s.classOf x.engine x.cls).map (·.budget)).getD 0 →
    Completes (exec (.sliceRun e index (some d)) s) fun t =>
      t.stat x.stream = { s.stat x.stream with margin := min (s.stat x.stream).margin (min 0xFFFFFFFF (((s.classOf x.engine x.cls).map (·.budget)).getD 0 - d)) } ∧ t.regs = s.regs ∧ t.events = s.events) ∧
  -- late
  (∀ (e : Fin 6) (index : BitVec 16) (d : Nat) (x : Slice) (s : State),
    (s.slicesOf e.val).find? (fun y => y.index == index.toNat) = some x →
    x.background = false →
    x.stream < 0xFFFF →
    ((s.classOf x.engine x.cls).map (·.budget)).getD 0 < d →
    Completes (exec (.sliceRun e index (some d)) s) fun t =>
      t.rd .SCH_STATUS_MISS 0 = 1 ∧ (t.stat x.stream).misses = satInc 0xFFFF (s.stat x.stream).misses ∧ (t.stat x.stream).margin = 0 ∧ Raises s t 0x0502 x.stream) ∧
  -- noWork
  (∀ (e : Fin 6) (index : BitVec 16) (s : State),
    exec (.sliceRun e index none) s = .next s)

/-- Accesses over the fabric (R26, R27, R24). -/
def Obligations.FabricAnswersEveryAccess : Prop :=
  -- decodeError
  (∀ (m : Fin 22) (sup : Bool) (k : AccessKind) (addr value : BitVec 32) (s : State),
    s.masterRuns m.val = true →
    placeOf addr.toNat = none →
    Completes (exec (.masterAccess m sup k addr value) s) fun t =>
      t.fab.answer = .decodeError ∧ t.rd .FAB_DECERR_DECERR 0 = satInc 0xFFFF (s.rd .FAB_DECERR_DECERR 0) % 2 ^ 16 ∧ t.fab.queue = s.fab.queue ∧ t.events = s.events ∧ OnlyFlds [(.FAB_TAGS_PEAK, 0), (.FAB_TAGS_INFLIGHT, 0), (.FAB_DECERR_DECERR, 0)] s t) ∧
  -- violation
  (∀ (m : Fin 22) (sup : Bool) (k : AccessKind) (addr value : BitVec 32) (target off : Nat) (p : Place) (s : State),
    s.masterRuns m.val = true →
    placeOf addr.toNat = some (target, off, p) →
    ((!reads k || s.permits m.val sup target off false) && (!writes k || s.permits m.val sup target off true)) = false →
    Completes (exec (.masterAccess m sup k addr value) s) fun t =>
      t.fab.answer = .errorResponse ∧ bit (t.rd .FAB_FROZEN_FROZEN 0) m.val = true ∧ Raises s t 0x0301 m.val) ∧
  -- permittedRead
  (∀ (m : Fin 22) (sup : Bool) (addr value : BitVec 32) (target off i : Nat) (r : Reg) (s : State),
    s.masterRuns m.val = true →
    placeOf addr.toNat = some (target, off, .reg r i) →
    s.permits m.val sup target off false = true →
    s.gated r.loc.unit = false →
    Completes (exec (.masterAccess m sup .read addr value) s) fun t =>
      t.fab.answer = .ok (((s.put .FAB_TAGS_PEAK 0 (max 1 (s.rd .FAB_TAGS_PEAK 0))).put .FAB_TAGS_INFLIGHT 0 1).readReg r i) ∧ t.events = s.events ∧ t.fab.queue = s.fab.queue ∧ OnlyFlds [(.FAB_TAGS_PEAK, 0), (.FAB_TAGS_INFLIGHT, 0)] s t) ∧
  -- stopped
  (∀ (m : Fin 22) (sup : Bool) (k : AccessKind) (addr value : BitVec 32) (s : State),
    s.masterRuns m.val = false →
    exec (.masterAccess m sup k addr value) s = .next s)

/-- R30. -/
def Obligations.ReleaseNeedsSupervisorState : Prop :=
  -- permit
  (∀ (m : Nat) (sup : Bool) (s : State),
    s.permits m sup 0x03 8 true = (m == 0 && sup)) ∧
  -- otherWrites
  (∀ (m : Fin 22) (sup : Bool) (value : BitVec 32) (s : State),
    s.masterRuns m.val = true →
    (m.val == 0 && sup) = false →
    Completes (exec (.masterAccess m sup .write 0x00030008 value) s) fun t =>
      t.fab.answer = .errorResponse ∧ bit (t.rd .FAB_FROZEN_FROZEN 0) m.val = true ∧ Raises s t 0x0301 m.val) ∧
  -- supervisorElsewhere
  (∀ (m target off : Nat) (write : Bool) (s : State),
    ¬(write = true ∧ target = 0x03 ∧ off / 4 = 2) →
    s.permits m true target off write = s.permits m false target off write)

/-- FAB_RELEASE (R27, R30), FAB_VPOP (R33) and SNAP (R6). -/
def Obligations.ReleasePopAndSnapshot : Prop :=
  -- release
  (∀ (mask : BitVec 22) (s : State),
    bit (s.rd .FAB_FROZEN_FROZEN 0) 0 = false →
    Completes (exec (.fabRelease mask) s) fun t =>
      (∀ m < 22, bit (t.rd .FAB_FROZEN_FROZEN 0) m = (bit (s.rd .FAB_FROZEN_FROZEN 0) m && !bit mask.toNat m)) ∧ (∀ m < 22, bit (s.rd .FAB_FROZEN_FROZEN 0) m = true → bit mask.toNat m = true → Raises s t 0x0302 m)) ∧
  -- pop
  (∀ (s : State),
    Completes (exec (.fabVpop) s) fun t =>
      t.fab.queue = s.fab.queue.drop 1 ∧ t.rd .FAB_VCOUNT_VPEND 0 = (s.fab.queue.length - 1) % 32 ∧ t.events = s.events) ∧
  -- snapBusy
  (∀ (u : UnitId) (inst : Nat) (s : State),
    u = .meu ∨ u = .blu →
    Completes (exec (.snap u inst) s) fun t =>
      t.rd (if u = .meu then .MEU_SNAP_BUSY else .BLU_SNAP_BUSY) 0 = 1 ∧ t.latched = s.latched ∧ t.events = s.events) ∧
  -- snapOutlet
  (∀ (inst : Nat) (r : Reg) (s : State),
    inst < 24 →
    r ∈ snapRegs .oiu →
    Completes (exec (.snap .oiu inst) s) fun t =>
      t.isLatched r inst = true ∧ t.regs = s.regs ∧ t.events = s.events) ∧
  -- snapUnit
  (∀ (u : UnitId) (r : Reg) (s : State),
    r ∈ snapRegs u →
    u ≠ .meu ∧ u ≠ .blu ∧ u ≠ .oiu →
    Completes (exec (.snap u 0) s) fun t =>
      t.isLatched r 0 = true ∧ t.events = s.events)

/-- Register writes (R12 to R14). -/
def Obligations.RegisterWriteFollowsAccessClass : Prop :=
  -- stored
  (∀ (addr value : BitVec 32) (target off i : Nat) (s : State),
    placeOf addr.toNat = some (target, off, .reg .PSW_CHDUTY i) →
    s.frozen 0 = false →
    Completes (exec (.registerWrite addr value) s) fun t =>
      t.rd .PSW_CHDUTY_DUTY i = min (value.toNat % 1024) 1000 ∧ t.applied = s.applied ∧ OnlyFlds [(.PSW_CHDUTY_DUTY, i)] s t) ∧
  -- stickyBit
  (∀ (addr value : BitVec 32) (target off : Nat) (s : State),
    placeOf addr.toNat = some (target, off, .reg .PSW_STATUS 0) →
    s.frozen 0 = false →
    Completes (exec (.registerWrite addr value) s) fun t =>
      (∀ f ∈ Reg.PSW_STATUS.fields, t.rd f 0 = if bit value.toNat f.info.lo then 0 else s.rd f 0) ∧ t.events = s.events) ∧
  -- refused
  (∀ (addr value : BitVec 32) (target off i : Nat) (s : State),
    placeOf addr.toNat = some (target, off, .reg .OIU_TIMER i) →
    s.frozen 0 = false →
    s.oiuIdle i = false →
    (∃ f ∈ Reg.OIU_TIMER.fields, f.stored (bitsOf value.toNat f.info.hi f.info.lo) ≠ s.rd f i) →
    Completes (exec (.registerWrite addr value) s) fun t =>
      (∀ f ∈ Reg.OIU_TIMER.fields, t.rd f i = s.rd f i) ∧ t.rd .OIU_STATUS_CFGVIOL i = 1 ∧ Raises s t 0x100F (i % 256 * 256 + 0x28))

/-- The verification of a plan (R55, R60), and the commands verify and discard of PPL_CMD (R70). -/
def Obligations.DeliveredPlansAreStagedOrRejected : Prop :=
  -- delivered
  (∀ (s : State),
    s.ppl.again = false →
    s.ppl.delivered = true →
    Completes (exec (.planVerifyDone) s) fun t =>
      (s.checkPlan s.ppl.staging = 0 → t.ppl.staged = some (readPlan s.ppl.staging) ∧ t.ppl.stagedRaw = some s.ppl.staging ∧ t.rd .PPL_STGVER_STGVER 0 = (readPlan s.ppl.staging).planVer % 2 ^ 32 ∧ (s.ppl.commanded = none → t.rd .PPL_STATUS_STATE 0 = 3) ∧ Raises s t 0x0401 ((readPlan s.ppl.staging).planVer % 65536) ∧ (∀ p, s.ppl.staged = some p → Raises s t 0x0406 (p.planVer % 65536))) ∧ (s.checkPlan s.ppl.staging ≠ 0 → t.ppl.staged = s.ppl.staged ∧ t.ppl.stagedRaw = s.ppl.stagedRaw ∧ t.rd .PPL_STATUS_REJECT 0 = s.checkPlan s.ppl.staging % 256 ∧ t.rd .PPL_STATUS_STATE 0 = 7 ∧ Raises s t 0x0402 (s.checkPlan s.ppl.staging % 65536)) ∧ t.ppl.staging = [] ∧ t.ppl.delivered = false ∧ SameOutside [.unit .ppl, .unit .lgs] s t) ∧
  -- again
  (∀ (raw : List Nat) (p : Plan) (s : State),
    s.ppl.again = true →
    s.ppl.stagedRaw = some raw →
    s.ppl.staged = some p →
    Completes (exec (.planVerifyDone) s) fun t =>
      t.ppl.again = false ∧ t.ppl.staging = s.ppl.staging ∧ t.ppl.delivered = s.ppl.delivered ∧ (s.checkPlan raw = 0 → t.ppl.staged = some p ∧ t.ppl.stagedRaw = some raw ∧ t.ppl.commanded = s.ppl.commanded ∧ Raises s t 0x0401 ((readPlan raw).planVer % 65536)) ∧ (s.checkPlan raw ≠ 0 → t.ppl.staged = none ∧ t.ppl.stagedRaw = none ∧ t.ppl.commanded = none ∧ t.rd .PPL_STATUS_REJECT 0 = s.checkPlan raw % 256 ∧ Raises s t 0x0402 (s.checkPlan raw % 65536) ∧ (s.ppl.staging = [] → s.ppl.delivered = false → t.rd .PPL_STATUS_STATE 0 = 7)) ∧ SameOutside [.unit .ppl, .unit .lgs] s t) ∧
  -- verifyAgain
  (∀ (p : Plan) (s : State),
    s.ppl.staged = some p →
    Completes (exec (.pplVerifyAgain) s) fun t =>
      t.rd .PPL_STATUS_STATE 0 = 2 ∧ t.ppl = { s.ppl with again := true } ∧ t.events = s.events ∧ OnlyFlds [(.PPL_STATUS_STATE, 0)] s t ∧ SameOutside [.unit .ppl] s t) ∧
  -- discard
  (∀ (p : Plan) (s : State),
    s.ppl.staged = some p →
    Completes (exec (.pplDiscard) s) fun t =>
      t.ppl.staged = none ∧ t.ppl.stagedRaw = none ∧ t.ppl.commanded = none ∧ t.ppl.staging = s.ppl.staging ∧ t.rd .PPL_STGVER_STGVER 0 = 0 ∧ t.rd .PPL_WAIT_WAIT 0 = 0 ∧ Raises s t 0x0406 (p.planVer % 65536) ∧ t.plan = s.plan ∧ SameOutside [.unit .ppl, .unit .lgs] s t) ∧
  -- noneStaged
  (∀ (s : State),
    s.ppl.staged = none →
    exec .pplVerifyAgain s = .next s ∧ exec .pplDiscard s = .next s)

/-- Change classes and activation (R57, R61 to R63). -/
def Obligations.ActivationFollowsTheChangeClass : Prop :=
  -- refusedLegal
  (∀ (p : Plan) (s : State),
    s.ppl.staged = some p →
    p.legalCv ≠ s.rd .PPL_LEGALCV_LEGALCV 0 →
    Completes (exec (.pplActivate) s) fun t =>
      t.rd .PPL_STATUS_REJECT 0 = 0x12 ∧ Raises s t 0x0402 0x12 ∧ t.ppl = s.ppl ∧ t.plan = s.plan ∧ OnlyFlds ([(.PPL_STATUS_REJECT, 0)] ++ dropFlds) s t) ∧
  -- activateNow
  (∀ (p : Plan) (s : State),
    s.ppl.staged = some p →
    s.ppl.commanded = none →
    p.legalCv = s.rd .PPL_LEGALCV_LEGALCV 0 →
    ((changeClass s.plan p).1 = 1 ∨ ((changeClass s.plan p).1 = 2 ∧ ∀ n ∈ (changeClass s.plan p).2, s.session n = false)) →
    Completes (exec (.pplActivate) s) fun t =>
      t.plan = some p ∧ t.ppl.staged = none ∧ t.ppl.active = some p ∧ t.ppl.counter = max s.ppl.counter p.planVer ∧ t.rd .PPL_PLANID_PLANID 0 = p.planId % 2 ^ 32 ∧ t.rd .PPL_PLANVER_PLANVER 0 = p.planVer % 2 ^ 32 ∧ t.rd .PPL_SAFECV_SAFECV 0 = p.safeCv % 2 ^ 32 ∧ Raises s t 0x0403 (p.planVer % 65536)) ∧
  -- awaited
  (∀ (p : Plan) (s : State),
    s.ppl.staged = some p →
    s.ppl.commanded = none →
    p.legalCv = s.rd .PPL_LEGALCV_LEGALCV 0 →
    (changeClass s.plan p).1 = 2 →
    maskOf ((changeClass s.plan p).2.filter s.session) ≠ 0 →
    s.ppl.delivered = false ∧ s.ppl.again = false ∧ s.ppl.staging = [] →
    Completes (exec (.pplActivate) s) fun t =>
      t.plan = s.plan ∧ t.ppl.staged = some p ∧ t.ppl.commanded = some 2 ∧ t.ppl.awaited = maskOf ((changeClass s.plan p).2.filter s.session) ∧ t.rd .PPL_WAIT_WAIT 0 = maskOf ((changeClass s.plan p).2.filter s.session) % 2 ^ 24 ∧ t.rd .PPL_STATUS_STATE 0 = 4) ∧
  -- coldClasses
  (∀ (p : Plan) (s : State),
    s.ppl.staged = some p →
    s.ppl.commanded = none →
    p.legalCv = s.rd .PPL_LEGALCV_LEGALCV 0 →
    (changeClass s.plan p).1 = 3 ∨ (changeClass s.plan p).1 = 4 →
    s.ppl.delivered = false ∧ s.ppl.again = false ∧ s.ppl.staging = [] →
    Completes (exec (.pplActivate) s) fun t =>
      t.plan = s.plan ∧ t.ppl.staged = some p ∧ t.ppl.commanded = some (changeClass s.plan p).1 ∧ t.rd .PPL_STATUS_STATE 0 = (changeClass s.plan p).1 + 2 ∧ t.events = s.events ∧ SameOutside [.unit .ppl] s t) ∧
  -- nothingToDo
  (∀ (s : State),
    (s.ppl.staged = none ∨ (∃ p, s.ppl.staged = some p ∧ p.legalCv = s.rd .PPL_LEGALCV_LEGALCV 0 ∧ s.ppl.commanded ≠ none)) →
    exec .pplActivate s = .next s) ∧
  -- atItsInstant
  (∀ (p : Plan) (s : State),
    s.ppl.staged = some p →
    s.ppl.commanded = some 2 →
    s.ppl.awaited = 0 →
    s.pplRuns = true →
    Completes (exec (.planActivation) s) fun t =>
      t.plan = some p ∧ t.ppl.staged = none ∧ t.ppl.active = some p ∧ t.ppl.counter = max s.ppl.counter p.planVer ∧ t.rd .PPL_PLANID_PLANID 0 = p.planId % 2 ^ 32 ∧ t.rd .PPL_PLANVER_PLANVER 0 = p.planVer % 2 ^ 32 ∧ t.rd .PPL_SAFECV_SAFECV 0 = p.safeCv % 2 ^ 32 ∧ Raises s t 0x0403 (p.planVer % 65536)) ∧
  -- whenIdle
  (∀ (p : Plan) (s : State),
    s.ppl.staged = some p →
    s.ppl.commanded = some 2 →
    (∀ n < 24, bit s.ppl.awaited n = true → s.session n = false) →
    s.pplRuns = true →
    Completes (exec (.outletsIdle) s) fun t =>
      t.plan = some p ∧ t.ppl.staged = none ∧ t.ppl.active = some p ∧ t.ppl.counter = max s.ppl.counter p.planVer ∧ t.rd .PPL_PLANID_PLANID 0 = p.planId % 2 ^ 32 ∧ t.rd .PPL_PLANVER_PLANVER 0 = p.planVer % 2 ^ 32 ∧ t.rd .PPL_SAFECV_SAFECV 0 = p.safeCv % 2 ^ 32 ∧ Raises s t 0x0403 (p.planVer % 65536)) ∧
  -- stillAwaited
  (∀ (n : Nat) (s : State),
    n < 24 →
    bit s.ppl.awaited n = true →
    s.session n = true →
    Completes (exec (.outletsIdle) s) fun t =>
      t.plan = s.plan ∧ t.ppl.staged = s.ppl.staged ∧ t.ppl.commanded = s.ppl.commanded ∧ t.ppl.awaited = maskOf ((bitList 24 s.ppl.awaited).filter s.session) ∧ SameOutside [.unit .ppl, .unit .lgs] s t)

/-- The pilot (R75, R77 to R83, R105). -/
def Obligations.PilotStatesAndTheirActions : Prop :=
  -- boundary
  (∀ (n : Fin 24) (s : State),
    s.flag .BCU_STATUS_GHOLD 0 = false →
    s.flag .CGU_STATUS_XTOK 0 = true →
    s.plan.isSome = true →
    (s.oiu n).fHold = none ∧ (s.oiu n).fault = false ∧ (s.oiu n).tripF = false →
    (s.oiu n).shutPilot = false →
    s.bcu.ember = false ∧ s.bcu.wake ≠ some n.val →
    (∀ p, (s.oiu n).lastPeriod = some p → p ≤ s.now) →
    Completes (exec (.pilotPeriodBoundary n) s) fun t =>
      t.eff .OIU_CPDUTY_ILIM n = s.rd .OIU_CPDUTY_ILIM n ∧ t.eff .OIU_CPCTL_GEN n = s.rd .OIU_CPCTL_GEN n % 4 ∧ t.eff .OIU_CPCTL_DMODE n = s.rd .OIU_CPCTL_DMODE n % 4 ∧ t.eff .OIU_CPDUTY_DUTY n = s.rd .OIU_CPDUTY_DUTY n % 1024 ∧ s.now ≤ t.now ∧ t.now ≤ s.now + 1000000) ∧
  -- startOfF
  (∀ (n : Fin 24) (s : State),
    s.flag .BCU_STATUS_GHOLD 0 = false →
    s.flag .CGU_STATUS_XTOK 0 = true →
    s.plan.isSome = true →
    (s.oiu n).shutPilot = false →
    s.rd .OIU_CPCTL_GEN n = 2 →
    s.gen n < 2 →
    Completes (exec (.pilotPeriodBoundary n) s) fun t =>
      t.rd .OIU_CPSTATE_STATE n = 9 ∧ t.rd .OIU_CPSTATE_DUTYOUT n = 0 ∧ Raises s t 0x1001 (n.val * 256 + 9)) ∧
  -- firstSample
  (∀ (n : Fin 24) (vhi : Int) (s : State),
    ofTwos 16 (toTwos 16 vhi) = vhi →
    (s.oiu n).modeAt = none →
    s.rd .OIU_CPSTATE_DUTYOUT n = 0 →
    s.measures n = true →
    s.isConfirmed n (s.letterOf n vhi) = false →
    (s.oiu n).runLen = 0 →
    Completes (exec (.pilotSample n vhi none) s) fun t =>
      t.rd .OIU_CPSTATE_PEND n = stateCode (s.letterOf n vhi) false ∧ t.rd .OIU_CPSTATE_STATE n = s.rd .OIU_CPSTATE_STATE n ∧ t.rd .OIU_CPMEAS_VHI n = toTwos 16 vhi ∧ t.rd .OIU_CPMEAS_VLO n = 0x8000 ∧ (t.oiu n).runLen = 1 ∧ t.events = s.events ∧ OnlyFlds [(.OIU_CPSTATE_PEND, n), (.OIU_CPMEAS_VHI, n), (.OIU_CPMEAS_VLO, n)] s t) ∧
  -- confirmed
  (∀ (n : Fin 24) (vhi : Int) (s : State),
    s.measures n = true →
    s.isConfirmed n (s.letterOf n vhi) = false →
    Completes (exec (.pilotStateConfirm n vhi) s) fun t =>
      t.rd .OIU_CPSTATE_STATE n = stateCode (s.letterOf n vhi) (s.pwm n) ∧ Raises s t 0x1001 (n.val * 256 + stateCode (s.letterOf n vhi) (s.pwm n)) ∧ t.rd .OIU_CPMEAS_VHI n = toTwos 16 vhi) ∧
  -- confirmedA
  (∀ (n : Fin 24) (vhi : Int) (s : State),
    s.measures n = true →
    s.isConfirmed n (s.letterOf n vhi) = false →
    s.letterOf n vhi = .a →
    s.genPending n = false ∧ (s.oiu n).fault = false →
    Completes (exec (.pilotStateConfirm n vhi) s) fun t =>
      t.rd .OIU_STATUS_UNAVAIL n = 0 ∧ t.rd .OIU_CPCTL_GEN n = 0 ∧ (t.oiu n).fellBack = false) ∧
  -- confirmedFault
  (∀ (n : Fin 24) (vhi : Int) (s : State),
    s.measures n = true →
    s.isConfirmed n (s.letterOf n vhi) = false →
    s.letterOf n vhi = .e ∨ s.letterOf n vhi = .invalid →
    Completes (exec (.pilotStateConfirm n vhi) s) fun t =>
      t.rd .OIU_STATUS_UNAVAIL n = 1 ∧ t.rd .OIU_CONTACT_CLOSE_EN n = 0 ∧ t.rd .OIU_CPCTL_GEN n = 2 ∧ Raises s t 0x1003 (n.val * 256 + stateCode (s.letterOf n vhi) (s.pwm n))) ∧
  -- diode
  (∀ (n : Fin 24) (vlo : Int) (s : State),
    s.pwm n = true →
    s.kind n ≠ 3 →
    lowClassOf vlo = .fault →
    (s.oiu n).low ≠ .fault →
    s.cpState n ≠ 0xA →
    Completes (exec (.lowLevelClassConfirm n vlo) s) fun t =>
      t.rd .OIU_CPSTATE_STATE n = 0xA ∧ t.rd .OIU_STATUS_DIODE n = 1 ∧ t.rd .OIU_STATUS_UNAVAIL n = 1 ∧ t.rd .OIU_CPCTL_GEN n = 2 ∧ t.rd .OIU_CPMEAS_VLO n = toTwos 16 vlo ∧ Raises s t 0x1001 (n.val * 256 + 0xA) ∧ Raises s t 0x1003 (n.val * 256 + 0xA))

/-- R95, for the commands that change one of its conditions directly. -/
def Obligations.CloseCommandFollowsItsConditions : Prop :=
  -- conditions
  (∀ (n : Nat) (s : State),
    (s.missing n = 0 ↔ (s.cpState n / 2 = 2 ∨ (s.cpState n / 2 = 3 ∧ s.ctl .OIU_CPCTL_DALLOW n = true)) ∧ s.flag .OIU_CONTACT_CLOSE_EN n = true ∧ (((s.outl n).map fun o => bit o.flags 1) = some true → s.rd .OIU_LOCK_LSTATE n = 2) ∧ (s.ppUsed n = true → ppValidCode (s.rd .OIU_PPCS_CODE n) = true) ∧ ((s.outl n).isSome = true ∧ ∀ c ∈ s.contactorChannels n, bit (s.rd .PSW_PERMIT_PERMIT 0) c = true) ∧ s.efuClear n = true ∧ s.flag .OIU_STATUS_CUT n = false ∧ s.flag .OIU_STATUS_WELD n = false)) ∧
  -- closeEn
  (∀ (n : Fin 24) (en : Bool) (s : State),
    en = false ∨ s.staysOpen n = false →
    Completes (exec (.closeEn n en) s) fun t =>
      t.flag .OIU_CONTACT_CLOSE_EN n = en ∧ t.flag .OIU_CONTACT_CMD n = decide (t.rd .OIU_CONTACT_MISSING n = 0 ∨ (t.rd .OIU_CONTACT_MISSING n = 64 ∧ s.flag .OIU_CONTACT_CMD n = true ∧ (s.oiu n).cutT.isSome = true)) ∧ t.rd .OIU_CONTACT_MISSING n = t.missing n) ∧
  -- staysOpen
  (∀ (n : Fin 24) (s : State),
    s.staysOpen n = true →
    exec (.closeEn n true) s = .next s) ∧
  -- feedbackConfirmed
  (∀ (n : Fin 24) (closed : Bool) (s : State),
    (s.oiu n).lkConf ≠ none →
    (s.rd .OIU_LOCK_LSTATE n = 1 ∧ closed = true) ∨ (s.rd .OIU_LOCK_LSTATE n = 3 ∧ closed = false) →
    Completes (exec (.lockFeedbackConfirmed n closed) s) fun t =>
      t.rd .OIU_LOCK_LSTATE n = (if closed then 2 else 0) ∧ t.flag .OIU_LOCK_LKFB n = closed ∧ (t.oiu n).lkConf = none ∧ t.flag .OIU_CONTACT_CMD n = decide (t.rd .OIU_CONTACT_MISSING n = 0 ∨ (t.rd .OIU_CONTACT_MISSING n = 64 ∧ s.flag .OIU_CONTACT_CMD n = true ∧ (s.oiu n).cutT.isSome = true)) ∧ t.rd .OIU_CONTACT_MISSING n = t.missing n) ∧
  -- feedbackOpen
  (∀ (n : Fin 24) (s : State),
    s.session n = true →
    s.rd .OIU_LOCK_LSTATE n = 2 →
    Completes (exec (.lockFeedbackOpen n) s) fun t =>
      t.rd .OIU_LOCK_LSTATE n = 0 ∧ t.rd .OIU_LOCK_LKFB n = 0 ∧ t.flag .OIU_CONTACT_CMD n = decide (t.rd .OIU_CONTACT_MISSING n = 0 ∨ (t.rd .OIU_CONTACT_MISSING n = 64 ∧ s.flag .OIU_CONTACT_CMD n = true ∧ (s.oiu n).cutT.isSome = true)) ∧ t.rd .OIU_CONTACT_MISSING n = t.missing n) ∧
  -- c1max
  (∀ (n : Fin 24) (t0 : Nat) (s : State),
    (s.oiu n).c1max = some t0 →
    Completes (exec (.c1maxExpiry n) s) fun t =>
      t0 ≤ t.now ∧ t.rd .OIU_CONTACT_CLOSE_EN n = 0 ∧ t.rd .OIU_CONTACT_CMD n = 0 ∧ t.rd .OIU_CONTACT_MISSING n = t.missing n ∧ Raises s t 0x100B (n.val * 256)) ∧
  -- faultClear
  (∀ (n : Fin 24) (weld lockf : Bool) (s : State),
    Completes (exec (.oiuFaultClear n weld lockf) s) fun t =>
      t.rd .OIU_STATUS_WELD n = (if weld then 0 else s.rd .OIU_STATUS_WELD n) ∧ t.rd .OIU_STATUS_LOCKF n = (if lockf then 0 else s.rd .OIU_STATUS_LOCKF n) ∧ t.flag .OIU_CONTACT_CMD n = decide (t.rd .OIU_CONTACT_MISSING n = 0 ∨ (t.rd .OIU_CONTACT_MISSING n = 64 ∧ s.flag .OIU_CONTACT_CMD n = true ∧ (s.oiu n).cutT.isSome = true)) ∧ t.rd .OIU_CONTACT_MISSING n = t.missing n) ∧
  -- cutOpen
  (∀ (n : Fin 24) (t0 : Nat) (s : State),
    (s.oiu n).cutT = some t0 →
    s.flag .OIU_STATUS_CUT n = true →
    Completes (exec (.temperatureCutOpen n) s) fun t =>
      t0 ≤ t.now ∧ (t.oiu n).cutT = none ∧ t.rd .OIU_CONTACT_CMD n = 0 ∧ t.rd .OIU_CONTACT_MISSING n = t.missing n) ∧
  -- release
  (∀ (n : Fin 24) (t0 : Nat) (s : State),
    (s.oiu n).shutT = some t0 →
    Completes (exec (.zreqShutdownRelease n) s) fun t =>
      (t.oiu n).shutT = none ∧ t.rd .OIU_CONTACT_CLOSE_EN n = 0 ∧ t.rd .OIU_CONTACT_CMD n = 0 ∧ t.rd .OIU_CONTACT_MISSING n = t.missing n)

/-- The cable lock (R84, R85, R93, R94). -/
def Obligations.TheCableLock : Prop :=
  -- lock
  (∀ (n : Fin 24) (s : State),
    s.hasLock n = true →
    ppValidCode (s.rd .OIU_PPCS_CODE n) = true →
    (s.oiu n).coil = .off →
    Completes (exec (.lock n) s) fun t =>
      t.rd .OIU_LOCK_LSTATE n = 1 ∧ t.rd .OIU_LOCK_TRIES n = 1 ∧ (t.oiu n).coil = .lock) ∧
  -- unlock
  (∀ (n : Fin 24) (s : State),
    s.hasLock n = true →
    s.contactorOpen n = true →
    s.session n = false →
    s.rd .OIU_LOCK_LSTATE n ≠ 3 →
    (s.oiu n).coil = .off →
    Completes (exec (.unlock n) s) fun t =>
      t.rd .OIU_LOCK_LSTATE n = 3 ∧ t.rd .OIU_LOCK_TRIES n = 1 ∧ (t.oiu n).coil = .unlock) ∧
  -- pulseEnd
  (∀ (n : Fin 24) (t0 : Nat) (s : State),
    (s.oiu n).lkPulse = some t0 →
    (s.oiu n).unlockDue = false ∧ (s.oiu n).lockDue = false →
    Completes (exec (.lkpulseEnd n) s) fun t =>
      t0 ≤ t.now ∧ (t.oiu n).coil = .off ∧ (t.oiu n).lkPulse = none) ∧
  -- again
  (∀ (n : Fin 24) (t0 : Nat) (s : State),
    (s.oiu n).lkConf = some t0 →
    s.rd .OIU_LOCK_TRIES n < 3 →
    Completes (exec (.lkconfExpiry n) s) fun t =>
      (t.oiu n).lkConf = none ∧ (t.oiu n).lkRetry = some (t0 + 1000000000) ∧ t.events = s.events ∧ t.regs = s.regs) ∧
  -- fault
  (∀ (n : Fin 24) (t0 : Nat) (s : State),
    (s.oiu n).lkConf = some t0 →
    3 ≤ s.rd .OIU_LOCK_TRIES n →
    s.rd .OIU_LOCK_TRIES n < 256 →
    Completes (exec (.lkconfExpiry n) s) fun t =>
      t.rd .OIU_STATUS_LOCKF n = 1 ∧ t.rd .OIU_LOCK_LSTATE n = (if s.rd .OIU_LOCK_LSTATE n = 1 then 0 else 2) ∧ Raises s t (if s.rd .OIU_LOCK_LSTATE n = 1 then 0x1005 else 0x1006) (n.val * 256 + s.rd .OIU_LOCK_TRIES n) ∧ (s.rd .OIU_LOCK_LSTATE n ≠ 1 → t.rd .OIU_CONTACT_CLOSE_EN n = 0 ∧ t.rd .OIU_CONTACT_CMD n = 0)) ∧
  -- retry
  (∀ (n : Fin 24) (t0 : Nat) (s : State),
    (s.oiu n).lkRetry = some t0 →
    s.rd .OIU_LOCK_TRIES n < 3 →
    Completes (exec (.lockRetry n) s) fun t =>
      t0 ≤ t.now ∧ t.rd .OIU_LOCK_TRIES n = s.rd .OIU_LOCK_TRIES n + 1 ∧ t.rd .OIU_LOCK_LSTATE n = (if s.rd .OIU_LOCK_LSTATE n = 1 then 1 else 3) ∧ (t.oiu n).coil = (if s.rd .OIU_LOCK_LSTATE n = 1 then .lock else .unlock))

/-- Contactor, coding resistor, temperature and fallback (R84, R88, R90, R92, R96 to R98). -/
def Obligations.ContactorFeedbackAndTimers : Prop :=
  -- weld
  (∀ (n : Fin 24) (t0 : Nat) (s : State),
    (s.oiu n).weldt = some t0 →
    Completes (exec (.weldtExpiry n true) s) fun t =>
      t0 ≤ t.now ∧ t.rd .OIU_STATUS_WELD n = 1 ∧ t.rd .OIU_CPCTL_GEN n = 2 ∧ t.rd .OIU_CONTACT_CFB n = 1 ∧ t.rd .OIU_CONTACT_CMD n = 0 ∧ Raises s t 0x100A (n.val * 256)) ∧
  -- noWeld
  (∀ (n : Fin 24) (t0 : Nat) (s : State),
    (s.oiu n).weldt = some t0 →
    (s.oiu n).unlockDue = false →
    Completes (exec (.weldtExpiry n false) s) fun t =>
      t0 ≤ t.now ∧ (t.oiu n).weldt = none ∧ t.rd .OIU_CONTACT_CFB n = 0 ∧ t.events = s.events ∧ OnlyFlds [(.OIU_CONTACT_CFB, n)] s t) ∧
  -- notClosed
  (∀ (n : Fin 24) (t0 : Nat) (s : State),
    (s.oiu n).closeT = some t0 →
    Completes (exec (.closeFeedbackTimeout n false) s) fun t =>
      t0 ≤ t.now ∧ t.rd .OIU_STATUS_UNAVAIL n = 1 ∧ t.rd .OIU_CONTACT_CLOSE_EN n = 0 ∧ t.rd .OIU_CONTACT_CMD n = 0 ∧ Raises s t 0x100E (n.val * 256)) ∧
  -- closed
  (∀ (n : Fin 24) (t0 : Nat) (s : State),
    (s.oiu n).closeT = some t0 →
    Completes (exec (.closeFeedbackTimeout n true) s) fun t =>
      t0 ≤ t.now ∧ (t.oiu n).closeT = none ∧ t.rd .OIU_CONTACT_CFB n = 1 ∧ t.events = s.events ∧ OnlyFlds [(.OIU_CONTACT_CFB, n)] s t) ∧
  -- band
  (∀ (n : Fin 24) (ohm : Nat) (s : State),
    s.kind n = 0 →
    Completes (exec (.ppBandConfirm n ohm) s) fun t =>
      t.rd .OIU_PPCS_RES n = min ohm 0xFFFF ∧ t.rd .OIU_PPCS_CODE n = ppCode ohm ∧ t.rd .OIU_PPCS_RATING n = ppRating (ppCode ohm) (((s.outl n).map (·.phases)).getD 3) ∧ t.rd .OIU_CONTACT_MISSING n = t.missing n) ∧
  -- temperature
  (∀ (n : Fin 24) (ta tb : Int) (o : OutlRec) (s : State),
    s.outl n = some o →
    sensorFault ta = false →
    sensorFault tb = false →
    Completes (exec (.temperatureEvaluation n ta tb) s) fun t =>
      t.rd .OIU_TEMP_TSA n = toTwos 16 ta ∧ t.rd .OIU_TEMP_TSB n = toTwos 16 tb ∧ (t.oiu n).tempLimit = some (tempLimitOf o (max ta tb)) ∧ t.flag .OIU_STATUS_DERATE n = decide (tempLimitOf o (max ta tb) < o.imax) ∧ (10 * o.tCut ≤ max ta tb → t.rd .OIU_STATUS_CUT n = 1)) ∧
  -- cut
  (∀ (n : Fin 24) (ta tb : Int) (o : OutlRec) (s : State),
    s.outl n = some o →
    sensorFault ta = false →
    sensorFault tb = false →
    10 * o.tCut ≤ max ta tb →
    s.flag .OIU_STATUS_CUT n = false →
    Completes (exec (.temperatureEvaluation n ta tb) s) fun t =>
      t.rd .OIU_STATUS_CUT n = 1 ∧ Raises s t 0x1008 (n.val * 256 + (max ta tb / 10).toNat % 256)) ∧
  -- fHold
  (∀ (n : Fin 24) (t0 : Nat) (s : State),
    (s.oiu n).fHold = some t0 →
    Completes (exec (.fHoldExpiry n) s) fun t =>
      t0 ≤ t.now ∧ (t.oiu n).fHold = none ∧ t.regs = s.regs ∧ t.events = s.events) ∧
  -- fallback
  (∀ (n : Fin 24) (o : OutlRec) (s : State),
    s.outl n = some o →
    o.kind < 2 ∧ bit o.proto 0 = true ∧ 2 ≤ o.proto % 16 →
    (s.oiu n).fellBack = false →
    s.gen n < 2 ∧ s.rd .OIU_CPCTL_GEN n < 2 →
    Completes (exec (.hlcFallback n) s) fun t =>
      t.rd .OIU_CPCTL_GEN n = 0 ∧ (t.oiu n).fellBack = true ∧ (t.oiu n).fallbackT = some (s.now + 3000000000) ∧ t.events = s.events ∧ OnlyFlds [(.OIU_CPCTL_GEN, n)] s t) ∧
  -- resume
  (∀ (n : Fin 24) (t0 : Nat) (s : State),
    (s.oiu n).fallbackT = some t0 →
    s.rd .OIU_CPCTL_GEN n < 2 →
    Completes (exec (.fallbackPwmResume n) s) fun t =>
      t0 ≤ t.now ∧ (t.oiu n).fallbackT = none ∧ t.rd .OIU_CPCTL_DMODE n = 0 ∧ t.rd .OIU_CPCTL_GEN n = 1 ∧ t.events = s.events ∧ OnlyFlds [(.OIU_CPCTL_DMODE, n), (.OIU_CPCTL_GEN, n)] s t)

/-- SLAC and the lanes (R68, R114 to R118). -/
def Obligations.SlacMatchesTheOutlet : Prop :=
  -- frameBoundary
  (∀ (e : Fin 6) (s : State),
    s.sch.waiting = [] →
    Completes (exec (.engineFrameBoundary e) s) fun t =>
      t.sch = { s.sch with slices := s.sch.slices.map fun x => if x.engine = e.val ∧ x.freed = true then { x with stream := 0xFFFF, freed := false } else x } ∧ t.now = s.now ∧ t.events = s.events ∧ SameOutside [.unit .oiu, .unit .sch, .unit .sec, .unit .vce] s t) ∧
  -- frameBoundaryBinds
  (∀ (e : Fin 6) (st c : Nat) (k : ClassRec) (s : State),
    s.sch.waiting = [(st, c)] →
    s.classOf (engineOf st) c = some k ∧ 1 ≤ k.sps →
    engineOf st = e.val →
    (s.openFreed e).hasRoom st c = true →
    Completes (exec (.engineFrameBoundary e) s) fun t =>
      t.isBound st = true ∧ t.sch.waiting = []) ∧
  -- encode
  (∀ (n : Fin 24) (micros : Nat) (s : State),
    micros ≤ 2050 →
    s.failed 0x11 = false →
    s.encoder.queue = [] →
    Completes (exec (.transmitEncode n micros) s) fun t =>
      t.encoder.queue = [⟨n, s.now, micros, max s.now s.encoder.freeAt + 260000, decide ((s.vce n).asked < (s.vce n).sent.length)⟩] ∧ (t.vce n).asked = (s.vce n).asked + b2n (decide ((s.vce n).asked < (s.vce n).sent.length)) ∧ (t.vce n).sent = (s.vce n).sent ∧ t.regs = s.regs ∧ t.events = s.events) ∧
  -- encodeBehind
  (∀ (n : Fin 24) (micros : Nat) (p : Ppdu) (s : State),
    micros ≤ 2050 ∧ p.micros ≤ 2050 →
    p.outlet < 24 →
    s.failed 0x11 = false →
    s.encoder.queue = [p] →
    s.now < p.ready + p.micros * 1000 →
    p.ready = max p.asked s.encoder.freeAt + 260000 →
    p.asked < s.now →
    Completes (exec (.transmitEncode n micros) s) fun t =>
      t.encoder.queue = [p, ⟨n, s.now, micros, max s.now p.ready + 260000, decide ((s.vce n).asked < (s.vce n).sent.length)⟩] ∧ t.regs = s.regs ∧ t.events = s.events) ∧
  -- encodeTooLong
  (∀ (n : Fin 24) (micros : Nat) (s : State),
    2050 < micros →
    Completes (exec (.transmitEncode n micros) s) fun t =>
      t = s.sendEncoded ∧ t.regs = s.regs ∧ t.events = s.events) ∧
  -- parm
  (∀ (run : Nat) (heard : BitVec 24) (n : Fin 24) (s : State),
    bit heard.toNat n.val = true →
    s.candidate n.val = true →
    Completes (exec (.cmSlacParmReq run heard) s) fun t =>
      (t.vce n).sent = (s.vce n).sent ++ [.slacParmCnf run] ∧ (t.vce n).initT = none ∧ (t.run run).isSome = true ∧ t.regs = s.regs ∧ t.events = s.events) ∧
  -- window
  (∀ (run : Nat) (r : SlacRun) (s : State),
    s.run run = some r →
    r.window = none →
    Completes (exec (.cmStartAttenCharInd run) s) fun t =>
      (t.run run).map (·.window) = some (some (s.now + 600000000)) ∧ t.regs = s.regs ∧ t.events = s.events) ∧
  -- matched
  (∀ (run sum : Nat) (r : SlacRun) (t0 : Nat) (n : Fin 24) (sounds : List (Nat × Nat × List Nat)) (groups : List Nat) (s : State),
    s.slac = [r] →
    r.id = run →
    r.window = some t0 →
    sounds = [(n.val, 10, groups)] →
    sum = groups.sum →
    s.candidate n.val = true →
    s.rd .VCE_CTL_SLACMARG 0 ≤ 30 →
    Completes (exec (.soundWindowClose run sounds) s) fun t =>
      (t.run run).map (·.match_) = some (some (n.val, sum, 254)) ∧ (t.vce n).sent = (s.vce n).sent ++ [.attenCharInd run] ∧ t0 ≤ t.now ∧ t.regs = s.regs ∧ t.events = s.events) ∧
  -- ambiguous
  (∀ (run a b : Nat) (r : SlacRun) (t0 : Nat) (n m : Fin 24) (s : State),
    s.run run = some r →
    r.window = some t0 →
    s.candidate n.val = true →
    s.candidate m.val = false →
    n ≠ m →
    b < a + 58 * s.rd .VCE_CTL_SLACMARG 0 →
    Completes (exec (.soundWindowClose run [(n.val, 8, [a]), (m.val, 8, [b])]) s) fun t =>
      t.rd .VCE_STATUS_SLACAMB 0 = 1 ∧ Raises s t 0x1103 (n.val * 256 + min 254 ((min (a + 58 * 254) b - a) / 58)) ∧ (t.run run).map (·.window) = some none) ∧
  -- matchReq
  (∀ (run sum margin : Nat) (r : SlacRun) (n : Fin 24) (s : State),
    s.run run = some r →
    r.match_ = some (n.val, sum, margin) →
    s.lstate n = 2 →
    Completes (exec (.cmSlacMatchReq run n) s) fun t =>
      (t.vce n).sent = (s.vce n).sent ++ [.slacMatchCnf run (s.vce n).nid (s.vce n).nmk] ∧ (t.vce n).joinT = some (s.now + 12000000000) ∧ (t.vce n).atten = min 254 (sum / 58) ∧ t.regs = s.regs ∧ t.events = s.events) ∧
  -- joined
  (∀ (n : Fin 24) (s : State),
    (s.vce n).joinT ≠ none →
    (s.vce n).atten < 256 →
    Completes (exec (.linkJoined n) s) fun t =>
      t.rd .VCE_OLINK_LSTATE n = 3 ∧ t.rd .VCE_OLINK_MEDIUM n = 1 ∧ t.rd .VCE_OLINK_ATTEN n = (s.vce n).atten ∧ (t.vce n).linkT = some (s.now + 20000000000) ∧ Raises s t 0x1101 (n.val * 256 + (s.vce n).atten)) ∧
  -- failsAc
  (∀ (n : Fin 24) (t0 : Nat) (s : State),
    (s.vce n).joinT = some t0 →
    s.kind n < 2 →
    Completes (exec (.slacTimerExpiry n) s) fun t =>
      t0 ≤ t.now ∧ t.rd .VCE_OLINK_LSTATE n = 7 ∧ (t.vce n).joinT = none ∧ (t.vce n).initT = none) ∧
  -- failsDc
  (∀ (n : Fin 24) (t0 : Nat) (s : State),
    (s.vce n).joinT = some t0 →
    2 ≤ s.kind n →
    s.rd .VCE_OERR_SLACTRY n < 3 →
    Completes (exec (.slacTimerExpiry n) s) fun t =>
      t0 ≤ t.now ∧ t.rd .OIU_CPCTL_GEN n = 2 ∧ (t.vce n).retryT = some (t.now + 4000000000) ∧ t.events = s.events) ∧
  -- retried
  (∀ (n : Fin 24) (t0 : Nat) (s : State),
    (s.vce n).retryT = some t0 →
    s.isBound (laneStream n) = true →
    s.proto n / 2 % 8 ≠ 0 ∧ s.kind n < 3 ∧ (s.vce n).noLane = false ∧ s.refuses n = false →
    s.randomOk = true ∧ s.failed 0x11 = false →
    Completes (exec (.slacRetry n) s) fun t =>
      t0 ≤ t.now ∧ t.rd .OIU_CPCTL_DMODE n = 1 ∧ t.rd .OIU_CPCTL_GEN n = 1 ∧ t.rd .VCE_OLINK_LSTATE n = 2 ∧ (t.vce n).retryT = none)

/-- Vehicle links (R108, R111, R119 to R121, R126, R134 to R137, R139). -/
def Obligations.VehicleLinksAndTheirMessages : Prop :=
  -- t1sUp
  (∀ (k : Fin 8) (s : State),
    Completes (exec (.t1sLinkChange k true) s) fun t =>
      bit t.t1sUp k = true ∧ (t.vce k).t1sT = none) ∧
  -- t1sLoss
  (∀ (k : Fin 8) (s : State),
    s.rd .VCE_OLINK_MEDIUM k = 2 →
    Completes (exec (.t1sLinkChange k false) s) fun t =>
      bit t.t1sUp k = false ∧ (t.vce k).t1sT = some (s.now + 100000000) ∧ t.regs = s.regs ∧ t.events = s.events) ∧
  -- t1sDown
  (∀ (k : Fin 8) (t0 : Nat) (s : State),
    (s.vce k).t1sT = some t0 →
    s.inSession k = true →
    Completes (exec (.t1sLinkDown k) s) fun t =>
      t0 ≤ t.now ∧ t.rd .VCE_OLINK_MEDIUM k = 0 ∧ t.rd .VCE_OLINK_LSTATE k = 0 ∧ (t.vce k).t1sT = none ∧ Raises s t 0x110A (k.val * 256) ∧ Raises s t 0x1106 (k.val * 256 + 4) ∧ t.rd .OIU_CONTACT_CLOSE_EN k = 0) ∧
  -- t1sDownIdle
  (∀ (k : Fin 8) (t0 : Nat) (s : State),
    (s.vce k).t1sT = some t0 →
    s.inSession k = false →
    Completes (exec (.t1sLinkDown k) s) fun t =>
      t0 ≤ t.now ∧ t.rd .VCE_OLINK_MEDIUM k = 0 ∧ t.rd .VCE_OLINK_LSTATE k = 0 ∧ (t.vce k).t1sT = none ∧ t.events = s.events ∧ OnlyFlds [(.VCE_OLINK_MEDIUM, k), (.VCE_OLINK_LSTATE, k)] s t) ∧
  -- sdp
  (∀ (n : Fin 24) (s : State),
    s.lstate n = 3 →
    s.rd .VCE_OLINK_MEDIUM n ≠ 0 →
    Completes (exec (.sdpRequest n false) s) fun t =>
      (t.vce n).sent = (s.vce n).sent ++ [.sdpRes false] ∧ t.regs = s.regs ∧ t.events = s.events) ∧
  -- sdpTls
  (∀ (n : Fin 24) (s : State),
    s.lstate n = 3 →
    s.rd .VCE_OLINK_MEDIUM n ≠ 0 →
    s.randomOk = true ∧ s.failed 0x19 = false →
    s.isBound (tlsStream n) = true →
    Completes (exec (.sdpRequest n true) s) fun t =>
      (t.vce n).sent = (s.vce n).sent ++ [.sdpRes true] ∧ t.rd .VCE_OLINK_LSTATE n = 4 ∧ t.rd .VCE_OSVC_TLS n = 1 ∧ (t.vce n).tlsT = some (s.now + 10000000000) ∧ t.events = s.events ∧ OnlyFlds [(.VCE_OLINK_LSTATE, n), (.VCE_OSVC_TLS, n)] s t) ∧
  -- sdpAgain
  (∀ (n : Fin 24) (tls : Bool) (s : State),
    4 ≤ s.lstate n ∧ s.lstate n ≤ 6 →
    s.rd .VCE_OLINK_MEDIUM n ≠ 0 →
    Completes (exec (.sdpRequest n tls) s) fun t =>
      (t.vce n).sent = (s.vce n).sent ++ [.sdpRes (s.flag .VCE_OSVC_TLS n)] ∧ t.regs = s.regs ∧ t.events = s.events) ∧
  -- sdpPantograph
  (∀ (n : Fin 24) (s : State),
    s.kind n = 4 →
    s.rd .VCE_OLINK_MEDIUM n = 0 →
    s.hasEthernet = true ∧ s.failed 0x11 = false ∧ s.bcu.ember = false →
    Completes (exec (.sdpRequest n false) s) fun t =>
      (t.vce n).sent = (s.vce n).sent ++ [.sdpRes false] ∧ t.rd .VCE_OLINK_MEDIUM n = 3 ∧ t.rd .VCE_OLINK_LSTATE n = 3 ∧ (t.vce n).linkT = some (s.now + 20000000000) ∧ Raises s t 0x1101 (n.val * 256 + 0xFF)) ∧
  -- counted
  (∀ (n : Fin 24) (fec : Bool) (m : V2gMsg) (s : State),
    s.rd .VCE_OLINK_MEDIUM n ≠ 0 →
    s.flag .VCE_STATUS_OFFLOAD 0 = true →
    Completes (exec (.vehicleFrameReceived n fec (some m)) s) fun t =>
      t.rd .VCE_ORX_RXMSG n = satInc (2 ^ Fld.width .VCE_ORX_RXMSG - 1) (s.rd .VCE_ORX_RXMSG n) ∧ (t.vce n).tlsT = none ∧ (t.vce n).rx = (s.vce n).rx ∧ t.events = s.events ∧ OnlyFlds [(.VCE_ORX_RXMSG, n), (.VCE_LANE_PPDU, n.val / 4), (.VCE_OERR_FECERR, n)] s t) ∧
  -- stored
  (∀ (n : Fin 24) (fec : Bool) (m : V2gMsg) (s : State),
    s.rd .VCE_OLINK_MEDIUM n ≠ 0 →
    s.flag .VCE_STATUS_OFFLOAD 0 = false →
    m.len ≤ 8192 →
    (s.vce n).rx.length < 7 →
    Completes (exec (.vehicleFrameReceived n fec (some m)) s) fun t =>
      (t.vce n).rx = (s.vce n).rx ++ [⟨m, s.ltime, false⟩] ∧ t.rd .VCE_ORX_RXPEND n = (s.vce n).rx.length + 1 ∧ t.events = s.events) ∧
  -- full
  (∀ (n : Fin 24) (fec : Bool) (m : V2gMsg) (s : State),
    s.rd .VCE_OLINK_MEDIUM n ≠ 0 →
    s.flag .VCE_STATUS_OFFLOAD 0 = false →
    m.len ≤ 8192 →
    (s.vce n).rx.length = 7 →
    Completes (exec (.vehicleFrameReceived n fec (some m)) s) fun t =>
      (t.vce n).rx = (s.vce n).rx ++ [⟨m, s.ltime, false⟩] ∧ t.rd .VCE_ORX_RXPEND n = 8 ∧ t.rd .VCE_STATUS_RXFULL 0 = 1 ∧ Raises s t 0x1108 (n.val * 256 + 8)) ∧
  -- laneFrame
  (∀ (n : Fin 24) (fec : Bool) (s : State),
    s.isBound (laneStream n) = true →
    Completes (exec (.vehicleFrameReceived n fec none) s) fun t =>
      t.rd .VCE_LANE_PPDU (n.val / 4) = satInc (2 ^ Fld.width .VCE_LANE_PPDU - 1) (s.rd .VCE_LANE_PPDU (n.val / 4)) ∧ t.rd .VCE_OERR_FECERR n = (if fec then satInc (2 ^ Fld.width .VCE_OERR_FECERR - 1) (s.rd .VCE_OERR_FECERR n) else s.rd .VCE_OERR_FECERR n) ∧ t.vces = s.vces ∧ t.events = s.events ∧ OnlyFlds [(.VCE_LANE_PPDU, n.val / 4), (.VCE_OERR_FECERR, n)] s t) ∧
  -- noMessage
  (∀ (n : Fin 24) (fec : Bool) (m : Option V2gMsg) (s : State),
    s.isBound (laneStream n) = false →
    s.rd .VCE_OLINK_MEDIUM n = 0 →
    exec (.vehicleFrameReceived n fec m) s = .next s) ∧
  -- loop
  (∀ (n : Fin 24) (r : RxMsg) (s : State),
    s.flag .VCE_STATUS_OFFLOAD 0 = false →
    (s.vce n).inLoop = true →
    (s.vce n).rx = [r] →
    isLoopMsg r.msg.code = true →
    r.answered = false →
    Completes (exec (.loopResponderAnswer n) s) fun t =>
      (t.vce n).rx = [{ r with answered := true }] ∧ (t.vce n).sent = (s.vce n).sent ++ [.loopRes s.bcu.holdExpired (if s.bcu.holdExpired then (s.vce n).loopShutdown else (s.vce n).loopNormal) s.wall] ∧ t.rd .VCE_OLINK_LSTATE n = 6 ∧ (t.vce n).seqT = some (s.now + 60000000000) ∧ (s.lstate n ≠ 6 → Raises s t 0x1109 (n.val * 256 + 1))) ∧
  -- restart
  (∀ (s : State),
    s.flag .VCE_STATUS_OFFLOAD 0 = false →
    Completes (exec (.offloadRestart) s) fun t =>
      t.rd .VCE_STATUS_OFFLOAD 0 = 1 ∧ (∀ n < 24, (t.vce n).rx = []) ∧ (∀ n < 24, t.rd .VCE_ORX_RXPEND n = 0)) ∧
  -- restartEmpty
  (∀ (s : State),
    s.flag .VCE_STATUS_OFFLOAD 0 = false →
    s.vces = [] →
    (∀ n < 24, s.lstate n ≠ 6) →
    Completes (exec (.offloadRestart) s) fun t =>
      t.rd .VCE_STATUS_OFFLOAD 0 = 1 ∧ t.events = s.events ∧ t.hostMsgs = s.hostMsgs) ∧
  -- restartRunning
  (∀ (s : State),
    s.flag .VCE_STATUS_OFFLOAD 0 = true →
    exec .offloadRestart s = .next s)

/-- V2G sessions (R121, R123, R125, R127, R129, R130, R133). -/
def Obligations.V2gSessionsAreAnswered : Prop :=
  -- selected
  (∀ (n : Fin 24) (g : Nat) (offers : List Nat) (val : V2gVal) (exi : List Nat) (s : State),
    s.rd .VCE_OLINK_MEDIUM n ≠ 0 →
    s.flag .VCE_STATUS_OFFLOAD 0 = true →
    s.rd .VCE_OLINK_GEN n = 0 ∧ exi.length + 8 ≤ 8192 →
    offers.find? (s.selectable n) = some g →
    Completes (exec (.supportedAppProtocol n offers val exi) s) fun t =>
      t.rd .VCE_OLINK_GEN n = g ∧ (t.vce n).sent = (s.vce n).sent ++ [.appProtoRes g] ∧ (t.vce n).seqT = some (s.now + 60000000000) ∧ (t.vce n).linkT = none ∧ t.events = s.events) ∧
  -- noneOffered
  (∀ (n : Fin 24) (offers : List Nat) (val : V2gVal) (exi : List Nat) (s : State),
    s.rd .VCE_OLINK_MEDIUM n ≠ 0 →
    s.flag .VCE_STATUS_OFFLOAD 0 = true →
    s.rd .VCE_OLINK_GEN n = 0 ∧ exi.length + 8 ≤ 8192 →
    offers.find? (s.selectable n) = none →
    Completes (exec (.supportedAppProtocol n offers val exi) s) fun t =>
      t.rd .VCE_OLINK_GEN n = 0 ∧ (t.vce n).sent = (s.vce n).sent ++ [.appProtoRes 0] ∧ Raises s t 0x1106 (n.val * 256 + 5)) ∧
  -- setup
  (∀ (n : Fin 24) (gen : Nat) (m : V2gMsg) (val : V2gVal) (s : State),
    s.rd .VCE_OLINK_MEDIUM n ≠ 0 →
    s.flag .VCE_STATUS_OFFLOAD 0 = true →
    s.rd .VCE_OLINK_GEN n = gen →
    1 ≤ gen ∧ gen ≤ 3 →
    m.code = gen * 256 + 1 ∧ m.order = .inOrder ∧ m.len ≤ 8192 ∧ m.val = some val →
    Completes (exec (.v2gRequest n m) s) fun t =>
      t.rd .VCE_OLINK_LSTATE n = 5 ∧ (t.vce n).sess = true ∧ (t.vce n).sent.length = (s.vce n).sent.length + 1 ∧ lastAnswer (t.vce n).sent = some (m.code, 0) ∧ (t.vce n).seqT = some (s.now + 60000000000) ∧ Raises s t 0x1105 (n.val * 256 + gen)) ∧
  -- failed
  (∀ (n : Fin 24) (m : V2gMsg) (val : V2gVal) (s : State),
    s.rd .VCE_OLINK_MEDIUM n ≠ 0 →
    s.flag .VCE_STATUS_OFFLOAD 0 = true →
    m.len ≤ 8192 ∧ m.val = some val →
    s.orderOf n m ≠ .inOrder →
    Completes (exec (.v2gRequest n m) s) fun t =>
      lastAnswer (t.vce n).sent = some (m.code, 2) ∧ Raises s t 0x1106 (n.val * 256 + 5) ∧ t.rd .VCE_OLINK_GEN n = 0 ∧ (t.vce n).sess = false) ∧
  -- undecoded
  (∀ (n : Fin 24) (m : V2gMsg) (s : State),
    s.rd .VCE_OLINK_MEDIUM n ≠ 0 →
    s.flag .VCE_STATUS_OFFLOAD 0 = true →
    m.len ≤ 8192 ∧ m.val = none →
    Completes (exec (.v2gRequest n m) s) fun t =>
      (t.vce n).sent = (s.vce n).sent ∧ t.regs = s.regs ∧ t.events = s.events) ∧
  -- tooLong
  (∀ (n : Fin 24) (m : V2gMsg) (s : State),
    s.rd .VCE_OLINK_MEDIUM n ≠ 0 →
    8192 < m.len →
    Completes (exec (.v2gRequest n m) s) fun t =>
      Raises s t 0x110B (n.val * 256) ∧ Raises s t 0x1106 (n.val * 256 + 5) ∧ (t.vce n).sent = (s.vce n).sent ++ [.tcpClose] ∧ t.rd .VCE_OLINK_GEN n = 0) ∧
  -- timeout
  (∀ (n : Fin 24) (kind : Fin 4) (t0 : Nat) (s : State),
    (if kind.val = 0 then (s.vce n).linkT else if kind.val = 1 then (s.vce n).tlsT else if kind.val = 2 then (s.vce n).seqT else (s.vce n).authT) = some t0 →
    kind.val = 1 ∨ s.flag .VCE_STATUS_OFFLOAD 0 = true →
    Completes (exec (.v2gTimeout n kind) s) fun t =>
      t0 ≤ t.now ∧ Raises s t 0x1106 (n.val * 256 + 3) ∧ t.rd .VCE_OLINK_GEN n = 0 ∧ (t.vce n).sess = false ∧ (t.vce n).linkT = none ∧ (t.vce n).tlsT = none ∧ (t.vce n).seqT = none ∧ (t.vce n).authT = none ∧ (kind.val = 3 → lastAnswer (t.vce n).sent = some (if s.rd .VCE_OLINK_GEN n = 1 then 0x0104 else if s.rd .VCE_OLINK_GEN n = 2 then 0x0208 else 0x0303, 2) ∧ (t.vce n).sent.length = (s.vce n).sent.length + 1)) ∧
  -- certificateLate
  (∀ (n : Fin 24) (t0 : Nat) (s : State),
    (s.vce n).certT = some t0 →
    s.flag .VCE_STATUS_OFFLOAD 0 = true →
    Completes (exec (.certificateForwardTimeout n) s) fun t =>
      t0 ≤ t.now ∧ (t.vce n).certT = none ∧ lastAnswer (t.vce n).sent = some ((s.vce n).certMsg, 2)) ∧
  -- certificateAnswer
  (∀ (n : Fin 24) (t0 : Nat) (s : State),
    (s.vce n).certT = some t0 →
    s.flag .VCE_STATUS_OFFLOAD 0 = true →
    Completes (exec (.ocppCertificateAnswer n) s) fun t =>
      (t.vce n).certT = none ∧ lastAnswer (t.vce n).sent = some ((s.vce n).certMsg, 0) ∧ (t.vce n).seqT = some (s.now + 60000000000)) ∧
  -- authorisation
  (∀ (n : Fin 24) (accepted : Bool) (s : State),
    (s.vce n).auth = .pending →
    s.flag .VCE_STATUS_OFFLOAD 0 = true →
    Completes (exec (.ocppAuthorisationResult n accepted) s) fun t =>
      (t.vce n).auth = (if accepted then .accepted else .refused) ∧ (t.vce n).authT = none ∧ t.regs = s.regs ∧ t.events = s.events) ∧
  -- stop
  (∀ (n : Fin 24) (s : State),
    Completes (exec (.stop n) s) fun t =>
      t.rd .VCE_OCMD_RESULT n = 1 ∧ (t.vce n).cmd = 1 ∧ t.events = s.events ∧ OnlyFlds [(.VCE_OCMD_RESULT, n)] s t) ∧
  -- pause
  (∀ (n : Fin 24) (s : State),
    Completes (exec (.pause n) s) fun t =>
      t.rd .VCE_OCMD_RESULT n = 1 ∧ (t.vce n).cmd = 2 ∧ t.events = s.events ∧ OnlyFlds [(.VCE_OCMD_RESULT, n)] s t) ∧
  -- renegotiate
  (∀ (n : Fin 24) (s : State),
    Completes (exec (.renegotiate n) s) fun t =>
      t.rd .VCE_OCMD_RESULT n = 1 ∧ (t.vce n).cmd = 3 ∧ t.events = s.events ∧ OnlyFlds [(.VCE_OCMD_RESULT, n)] s t)

/-- Residual current monitoring (R175 to R183, R192). -/
def Obligations.ResidualCurrentTripsAndLocks : Prop :=
  -- slice
  (∀ (c : Fin 24) (counts : Int) (n : Nat) (s : State),
    s.rcmOutlet c = some n →
    s.failed 0x13 = false →
    (s.rcm c).dailyDue = false →
    s.dueBand c = none →
    (s.takeSample c counts).dueBand c = none →
    s.flag .EFU_RCMSTAT_TRIP c = false →
    Completes (exec (.rcmSlice c counts) s) fun t =>
      (t.rcm c).window = (sampleMicroamp (s.rd .EFU_RCMSCALE_SCALE c) counts :: (s.rcm c).window).take 100 ∧ t.rd .EFU_RCMVAL_DC c = toTwos 16 (dcOf (t.rcm c).window / 100) % 65536 ∧ t.rd .EFU_RCMVAL_AC c = acOf (t.rcm c).window / 100 % 65536 ∧ t.events = s.events ∧ OnlyFlds [(.EFU_RCMVAL_DC, c), (.EFU_RCMVAL_AC, c)] s t) ∧
  -- trip
  (∀ (c : Fin 24) (band : Fin 6) (n : Nat) (s : State),
    s.rcmOutlet c = some n →
    s.flag .EFU_RCMSTAT_TRIP c = false →
    s.rd .EFU_RCMSTAT_TSTATE c ≠ 1 →
    s.dwellReached c band = true →
    s.failed 0x13 = false →
    Completes (exec (.rcmTrip c band) s) fun t =>
      t.rd .EFU_RCMSTAT_TRIP c = 1 ∧ t.rd .EFU_RCMSTAT_BAND c = band.val + 1 ∧ t.rd .EFU_STATUS_TRIP 0 = 1 ∧ (t.rcm c).tripAt = some s.now ∧ t.rd .OIU_CONTACT_ZREQ n = 1 ∧ t.rd .OIU_CPCTL_GEN n = 2 ∧ Raises s t 0x1301 (c.val * 256 + band.val + 1) ∧ t.rd .EFU_RCMCNT_TRIPS c = satInc (2 ^ Fld.width .EFU_RCMCNT_TRIPS - 1) (s.rd .EFU_RCMCNT_TRIPS c)) ∧
  -- cleared
  (∀ (c : Fin 24) (n t0 : Nat) (s : State),
    s.rcmOutlet c = some n →
    (s.rcm c).tripAt = some t0 →
    t0 + 10000000000 ≤ s.now →
    s.rcmQuiet c = true →
    (s.rcm c).plugTrips = 1 →
    Completes (exec (.tripclr c) s) fun t =>
      t.rd .EFU_RCMSTAT_TRIP c = 0 ∧ t.rd .EFU_RCMSTAT_BAND c = 0 ∧ (t.rcm c).tripAt = none ∧ Raises s t 0x1302 (c.val * 256 + 1)) ∧
  -- notCleared
  (∀ (c : Fin 24) (n t0 : Nat) (s : State),
    s.rcmOutlet c = some n →
    (s.rcm c).tripAt = some t0 →
    s.now < t0 + 10000000000 ∨ s.rcmQuiet c = false ∨ (s.rcm c).plugTrips ≠ 1 →
    exec (.tripclr c) s = .next s) ∧
  -- test
  (∀ (c : Fin 24) (n : Nat) (s : State),
    s.rcmOutlet c = some n →
    s.flag .OIU_CONTACT_CMD n = false →
    s.rd .EFU_RCMSTAT_TSTATE c ≠ 1 →
    Completes (exec (.test false c) s) fun t =>
      t.rd .EFU_RCMSTAT_TSTATE c = 1 ∧ (t.rcm c).first = false ∧ (t.rcm c).clearing = (s.rcm c).first ∧ t.events = s.events) ∧
  -- testRefused
  (∀ (c : Fin 24) (n : Nat) (s : State),
    s.rcmOutlet c = some n →
    s.flag .OIU_CONTACT_CMD n = true →
    Completes (exec (.test false c) s) fun t =>
      t.rd .EFU_STATUS_CFGVIOL 0 = 1 ∧ Raises s t 0x130B (0x1008 + 0x20 * c.val) ∧ t.rcms = s.rcms) ∧
  -- lockClear
  (∀ (c : Fin 24) (n : Nat) (s : State),
    s.rcmOutlet c = some n →
    s.flag .EFU_RCMSTAT_LOCKOUT c = true →
    s.flag .OIU_CONTACT_CMD n = false →
    s.rd .EFU_RCMSTAT_TSTATE c ≠ 1 →
    Completes (exec (.lockclr false c) s) fun t =>
      t.rd .EFU_RCMSTAT_TSTATE c = 1 ∧ (t.rcm c).clearing = true ∧ t.events = s.events) ∧
  -- calibrated
  (∀ (c : Fin 24) (counts : Nat) (n : Nat) (s : State),
    s.rcmOutlet c = some n →
    s.flag .OIU_CONTACT_CMD n = false →
    s.rd .EFU_RCMSTAT_TSTATE c ≠ 1 →
    Completes (exec (.cal c counts) s) fun t =>
      t.rd .EFU_RCMSCALE_SCALE c = min (counts * 65536 / 8) 0xFFFFFFFF ∧ t.now = s.now + 100000000 ∧ t.rd .EFU_RCMSTAT_TSTATE c = 1 ∧ (t.rcm c).clearing = true) ∧
  -- passed
  (∀ (c : Fin 24) (real : Bool) (s : State),
    s.rd .EFU_RCMSTAT_TSTATE c = 1 →
    (s.rcm c).testFail = 0 →
    1300 ≤ (s.rcm c).testN →
    (s.rcm c).clearing = true →
    s.flag .EFU_RCMSTAT_LOCKOUT c = true →
    s.rd .EFU_RCMSCALE_SCALE c ≠ 0 →
    Completes (exec (.rcmSelfTestDone c real) s) fun t =>
      t.rd .EFU_RCMSTAT_TSTATE c = 2 ∧ t.rd .EFU_RCMSTAT_TSTEP c = 0 ∧ t.rd .EFU_RCMSTAT_LOCKOUT c = 0 ∧ t.rd .EFU_RCMCNT_TESTS c = satInc (2 ^ Fld.width .EFU_RCMCNT_TESTS - 1) (s.rd .EFU_RCMCNT_TESTS c) ∧ Raises s t 0x1305 (c.val * 256)) ∧
  -- failed
  (∀ (c : Fin 24) (step : Nat) (s : State),
    s.rd .EFU_RCMSTAT_TSTATE c = 1 →
    (s.rcm c).testFail = step →
    (s.rcm c).testTrip = false →
    step = 4 ∨ step = 6 ∨ step = 8 →
    Completes (exec (.rcmSelfTestDone c false) s) fun t =>
      t.rd .EFU_RCMSTAT_TSTATE c = 3 ∧ t.rd .EFU_RCMSTAT_TSTEP c = step ∧ t.rd .EFU_RCMSTAT_LOCKOUT c = 1 ∧ t.rd .EFU_STATUS_LOCK 0 = 1 ∧ Raises s t 0x1303 (c.val * 256 + step)) ∧
  -- baseline
  (∀ (c : Fin 24) (real : Bool) (s : State),
    s.rd .EFU_RCMSTAT_TSTATE c = 1 →
    (s.rcm c).testFail ≠ 0 →
    real = true ∨ (s.rcm c).testTrip = true →
    (s.rcm c).baseFails < 2 →
    Completes (exec (.rcmSelfTestDone c real) s) fun t =>
      t.rd .EFU_RCMSTAT_TSTATE c = 3 ∧ t.rd .EFU_RCMSTAT_TSTEP c = 2 ∧ (t.rcm c).baseFails = (s.rcm c).baseFails + 1 ∧ (t.rcm c).retryAt = some (s.now + 5000000000) ∧ t.rd .EFU_RCMSTAT_LOCKOUT c = s.rd .EFU_RCMSTAT_LOCKOUT c) ∧
  -- baselineThird
  (∀ (c : Fin 24) (real : Bool) (s : State),
    s.rd .EFU_RCMSTAT_TSTATE c = 1 →
    (s.rcm c).testFail ≠ 0 →
    real = true ∨ (s.rcm c).testTrip = true →
    2 ≤ (s.rcm c).baseFails →
    Completes (exec (.rcmSelfTestDone c real) s) fun t =>
      t.rd .EFU_RCMSTAT_TSTATE c = 3 ∧ t.rd .EFU_RCMSTAT_TSTEP c = 2 ∧ t.rd .EFU_RCMSTAT_LOCKOUT c = 1 ∧ (t.rcm c).baseFails = 0 ∧ Raises s t 0x1303 (c.val * 256 + 2)) ∧
  -- repeated
  (∀ (c : Fin 24) (t0 n : Nat) (s : State),
    (s.rcm c).retryAt = some t0 →
    s.rcmOutlet c = some n →
    s.flag .OIU_CONTACT_CMD n = false →
    Completes (exec (.rcmSelfTestRetry c) s) fun t =>
      t0 ≤ t.now ∧ t.rd .EFU_RCMSTAT_TSTATE c = 1 ∧ (t.rcm c).retryAt = none) ∧
  -- daily
  (∀ (c : Fin 24) (n : Nat) (s : State),
    s.rcmOutlet c = some n →
    s.failed 0x13 = false →
    s.flag .OIU_CONTACT_CMD n = false →
    s.rd .EFU_RCMSTAT_TSTATE c ≠ 1 →
    (s.rcm c).dailyDue = true ∨ (s.rcm c).dailyAt ≤ s.ltime →
    Completes (exec (.dailySelfTest false c) s) fun t =>
      t.rd .EFU_RCMSTAT_TSTATE c = 1 ∧ (t.rcm c).dailyDue = false ∧ (t.rcm c).dailyAt = s.ltime + 86400 * 65536 ∧ t.now = s.now) ∧
  -- dailyWaits
  (∀ (c : Fin 24) (n : Nat) (s : State),
    s.rcmOutlet c = some n →
    s.failed 0x13 = false →
    s.flag .OIU_CONTACT_CMD n = true →
    Completes (exec (.dailySelfTest false c) s) fun t =>
      (t.rcm c).dailyDue = true ∧ t.regs = s.regs ∧ t.events = s.events) ∧
  -- sensor
  (∀ (c : Fin 24) (sense : Bool) (n : Nat) (s : State),
    s.rcmOutlet c = some n →
    s.failed 0x13 = false →
    Completes (exec (.rcmSensorFault c sense) s) fun t =>
      t.rd .EFU_RCMSTAT_LOCKOUT c = 1 ∧ t.rd .EFU_STATUS_LOCK 0 = 1 ∧ Raises s t 0x1304 (c.val * 256 + (if sense then 2 else 1)))

/-- Insulation monitoring (R185 to R191). -/
def Obligations.InsulationMonitoring : Prop :=
  -- firstHalf
  (∀ (k : Fin 12) (i1 i2 i3 : Int) (s : State),
    (s.injRefresh k).flag .EFU_IMDSTAT_INJ k = true →
    (s.imd k).test = false →
    s.failed 0x13 = false →
    (s.imd k).last = none →
    Completes (exec (.imdHalfPeriod k i1 i2 i3) s) fun t =>
      (t.imd k).last = some (settled i1 i2 i3) ∧ (t.imd k).positive = !(s.imd k).positive ∧ t.events = s.events ∧ OnlyFlds [(.EFU_IMDSTAT_INJ, k)] s t) ∧
  -- riso
  (∀ (k : Fin 12) (i1 i2 i3 prev : Int) (s : State),
    (s.injRefresh k).flag .EFU_IMDSTAT_INJ k = true →
    (s.imd k).test = false →
    s.failed 0x13 = false →
    (s.imd k).last = some prev →
    Completes (exec (.imdHalfPeriod k i1 i2 i3) s) fun t =>
      (t.imd k).riso = risoOf (settled i1 i2 i3) prev ∧ t.rd .EFU_IMDRISO_RISO k = risoCode (risoOf (settled i1 i2 i3) prev) ∧ (t.imd k).last = some (settled i1 i2 i3)) ∧
  -- pole
  (∀ (k : Fin 12) (vpos vneg : Int) (n : Nat) (s : State),
    100 < vpos - vneg →
    vpos.natAbs * 10 < (vpos - vneg).natAbs ∨ vneg.natAbs * 10 < (vpos - vneg).natAbs →
    n ∈ s.imdOutlets k →
    s.failed 0x13 = false →
    bit s.imdTrip n = false →
    s.flag .OIU_CONTACT_CMD n = true →
    Completes (exec (.poleCheckTrip k vpos vneg) s) fun t =>
      t.rd .EFU_IMDSTAT_TRIP k = 1 ∧ t.rd .EFU_STATUS_IALARM 0 = 1 ∧ bit t.imdTrip n = true ∧ t.rd .OIU_CONTACT_ZREQ n = 1 ∧ t.rd .OIU_CPCTL_GEN n = 2 ∧ t.rd .EFU_IMDPOLE_VPOS k = toTwos 16 vpos ∧ t.rd .EFU_IMDPOLE_VNEG k = toTwos 16 vneg ∧ Raises s t 0x1307 (k.val * 256 + 2)) ∧
  -- coupling
  (∀ (k : Fin 12) (vpos vneg : Int) (s : State),
    100 < vpos - vneg →
    vpos = 0 ∨ vneg = 0 →
    10000 < s.rd .EFU_IMDRISO_RISO k →
    s.failed 0x13 = false →
    (s.imdOutlets k).isEmpty = false →
    Completes (exec (.couplingOpen k vpos vneg) s) fun t =>
      t.rd .EFU_IMDSTAT_LOCKOUT k = 1 ∧ t.rd .EFU_STATUS_IMDF 0 = 1 ∧ t.rd .EFU_STATUS_LOCK 0 = 1 ∧ Raises s t 0x130A (k.val * 256 + 2)) ∧
  -- testPassed
  (∀ (k : Fin 12) (a b c d : Int) (s : State),
    (s.imd k).test = true →
    (s.imd k).testCur = [a, b, c, d] →
    imdTestOk [a, b, c, d] = true →
    (s.imd k).clearing = true →
    s.failed 0x13 = false →
    (s.imdOutlets k).isEmpty = false →
    s.flag .EFU_IMDSTAT_LOCKOUT k = true →
    Completes (exec (.imdSelfTestDone k false) s) fun t =>
      (t.imd k).test = false ∧ t.rd .EFU_IMDSTAT_LOCKOUT k = 0 ∧ Raises s t 0x1305 (k.val * 256 + 1)) ∧
  -- testFailed
  (∀ (k : Fin 12) (a b c d : Int) (s : State),
    (s.imd k).test = true →
    (s.imd k).testCur = [a, b, c, d] →
    imdTestOk [a, b, c, d] = false →
    s.failed 0x13 = false →
    (s.imdOutlets k).isEmpty = false →
    Completes (exec (.imdSelfTestDone k false) s) fun t =>
      (t.imd k).test = false ∧ t.rd .EFU_IMDSTAT_LOCKOUT k = 1 ∧ Raises s t 0x130A (k.val * 256 + 1)) ∧
  -- sourceFailed
  (∀ (k : Fin 12) (s : State),
    s.failed 0x13 = false →
    (s.imdOutlets k).isEmpty = false →
    Completes (exec (.imdSelfTestDone k true) s) fun t =>
      (t.imd k).test = false ∧ t.rd .EFU_IMDSTAT_LOCKOUT k = 1 ∧ Raises s t 0x130A (k.val * 256 + 3)) ∧
  -- checkStart
  (∀ (n : Fin 24) (o : OutlRec) (s : State),
    s.outl n = some o →
    2 ≤ o.kind ∧ o.imd < 12 →
    bit s.ccRequested n = true →
    (s.imd o.imd).check = none ∨ (s.imd o.imd).check = some n.val →
    s.flag .OIU_CONTACT_CMD n = true →
    Completes (exec (.cableCheckStart n) s) fun t =>
      (t.imd o.imd).check = some n.val ∧ (t.imd o.imd).checkRes = [] ∧ bit t.ccRequested n = false ∧ t.rd .EFU_IMDSTAT_INJ o.imd = 1 ∧ t.rd .OIU_CONTACT_CFB n = 1 ∧ t.events = s.events) ∧
  -- checkResult
  (∀ (k : Fin 12) (n a b c d e low : Nat) (s : State),
    (s.imd k).check = some n →
    (s.imd k).checkRes = [a, b, c, d, e] →
    low = [a, b, c, d, e].foldl min 0xFFFFFFFF →
    low < 0xFFFFFFFF →
    Completes (exec (.cableCheckResult k) s) fun t =>
      (t.imd k).check = none ∧ t.rd .EFU_IMDSTAT_CCRES k = 1 + risoLevel (s.imdVmax k) (some low) ∧ t.rd .EFU_IMDRISO_CCRISO k = min (low / 1000) 0xFFFF ∧ Raises s t 0x1309 (k.val * 256 + (1 + risoLevel (s.imdVmax k) (some low))))

/-- Channel samples and energy (R143 to R145, R148, R154, R155, R157). The numbers that the constants of a channel yield are those of the functions that the meanings use (`movingAverage`, `scaled`, `pulseEnergy`). -/
def Obligations.ChannelsTakeSamplesAndEnergy : Prop :=
  -- bit
  (∀ (n : Fin 64) (b : Bool) (r : SensRec) (s : State),
    s.sens n = some r →
    r.sensor ≠ 4 →
    s.failed 0x12 = false →
    s.meu.mclk.isSome = true →
    (s.chan n).dec.phase < 249 →
    (s.chan n).found = none →
    (s.takeBit n (r.sensor == 2) b).sampleReady n = false →
    (s.elem r.elem).ending = false →
    r.ch = n.val →
    (s.chan n).noClk = false →
    Completes (exec (.channelSlice n [b]) s) fun t =>
      (t.chan n).dec = (s.chan n).dec.clock b ∧ (t.chan n).hist = (s.chan n).hist ∧ (t.chan n).lastBit = b ∧ t.events = s.events ∧ OnlyFlds [] s t) ∧
  -- front
  (∀ (n : Fin 64) (b : Bool) (r : SensRec) (s : State),
    s.sens n = some r →
    r.sensor ≠ 2 ∧ r.sensor ≠ 4 →
    s.failed 0x12 = false →
    s.meu.mclk.isSome = true →
    (s.chan n).dec.phase = 249 →
    (s.chan n).skip = 0 →
    (s.chan n).found = none →
    (s.takeBit n false b).sampleReady n = false →
    (s.elem r.elem).ending = false →
    r.ch = n.val →
    (s.chan n).noClk = false →
    Completes (exec (.channelSlice n [b]) s) fun t =>
      (t.chan n).hist = (max (-524287) (min 524287 ((((s.chan n).dec.clock b).comb.1 + 16) / 32 - ofTwos 32 (s.rd .MEU_CHOFFS_OFFS n))) :: (s.chan n).hist).take 272 ∧ (t.chan n).front = (s.chan n).front + 1 ∧ (t.chan n).dec = ((s.chan n).dec.clock b).comb.2 ∧ t.events = s.events ∧ OnlyFlds [] s t) ∧
  -- integrator
  (∀ (n : Fin 64) (b : Bool) (r : SensRec) (w : Int) (s : State),
    s.sens n = some r →
    r.sensor = 2 →
    s.failed 0x12 = false →
    s.meu.mclk.isSome = true →
    (s.chan n).dec.phase = 249 →
    (s.chan n).skip = 0 →
    (s.chan n).found = none →
    (s.takeBit n true b).sampleReady n = false →
    (s.elem r.elem).ending = false →
    w = wrap 40 ((s.chan n).w - (s.chan n).w / 2 ^ s.rd .MEU_CHINT_INTK n + ((((s.chan n).dec.clock b).comb.1 + 16) / 32 - ofTwos 32 (s.rd .MEU_CHOFFS_OFFS n) + (s.chan n).uPrev)) →
    (roundHalfUp w (2 * 2 ^ s.rd .MEU_CHINT_RSHIFT n)).natAbs ≤ 488281 →
    r.ch = n.val →
    (s.chan n).noClk = false →
    Completes (exec (.channelSlice n [b]) s) fun t =>
      (t.chan n).w = w ∧ (t.chan n).hist = (roundHalfUp w (2 * 2 ^ s.rd .MEU_CHINT_RSHIFT n) :: (s.chan n).hist).take 272 ∧ (t.chan n).front = (s.chan n).front + 1 ∧ t.events = s.events ∧ OnlyFlds [] s t) ∧
  -- settle
  (∀ (n : Fin 64) (b : Bool) (r : SensRec) (s : State),
    s.sens n = some r →
    r.sensor ≠ 4 →
    s.failed 0x12 = false →
    s.meu.mclk.isSome = true →
    (s.chan n).dec.phase = 249 →
    0 < (s.chan n).skip →
    (s.chan n).found = none →
    (s.takeBit n (r.sensor == 2) b).sampleReady n = false →
    (s.elem r.elem).ending = false →
    r.ch = n.val →
    (s.chan n).noClk = false →
    Completes (exec (.channelSlice n [b]) s) fun t =>
      (t.chan n).skip = (s.chan n).skip - 1 ∧ (t.chan n).hist = (s.chan n).hist ∧ (t.chan n).front = (s.chan n).front ∧ t.events = s.events ∧ OnlyFlds [] s t) ∧
  -- clockHeld
  (∀ (n : Fin 64) (bits : List Bool) (r : SensRec) (s : State),
    s.sens n = some r →
    r.sensor ≠ 4 →
    s.meu.mclk = none ∨ s.failed 0x12 = true →
    exec (.channelSlice n bits) s = .next s) ∧
  -- sample
  (∀ (n : Fin 64) (r : SensRec) (s : State),
    s.sens n = some r →
    r.sensor ≠ 4 →
    s.failed 0x12 = false →
    s.meu.mclk.isSome = true →
    s.meu.ember = false →
    (s.chan n).found = none →
    (s.elem r.elem).ending = false →
    r.ch = n.val →
    r.pair = 0xFF →
    (s.chan n).stamp ≤ s.stampOf s.boundaryNext →
    s.sampleReady n = true →
    s.windowFilled n = true →
    (s.takeSampleAt r).sampleReady n = false →
    Completes (exec (.channelSlice n []) s) fun t =>
      t.rd .MEU_CHSAMP_SAMPLE n = toTwos 32 (movingAverage (s.chan n) (s.windowEndOf n (s.chan n).stamp) (s.bankOf n (s.chan n).stamp).1) % 2 ^ 32 ∧ t.rd .MEU_CHPEAK_PEAK n = max (s.rd .MEU_CHPEAK_PEAK n) (s.calibrated r (movingAverage (s.chan n) (s.windowEndOf n (s.chan n).stamp) (s.bankOf n (s.chan n).stamp).1)).natAbs % 2 ^ 32 ∧ (t.chan n).stamp = (s.chan n).stamp + s.periodFrom r (s.chan n).stamp ∧ (t.chan n).samples = (((s.chan n).stamp, movingAverage (s.chan n) (s.windowEndOf n (s.chan n).stamp) (s.bankOf n (s.chan n).stamp).1) :: (s.chan n).samples).take 512 ∧ (∀ f i, f.unit ≠ .meu → f.unit ≠ .lgs → t.rd f i = s.rd f i)) ∧
  -- energy
  (∀ (n : Fin 64) (r v : SensRec) (y yv : Int) (s : State),
    s.sens n = some r →
    s.sens r.pair = some v →
    r.sensor ≠ 4 →
    s.failed 0x12 = false →
    s.meu.mclk.isSome = true →
    s.meu.ember = false →
    (s.chan n).found = none →
    (s.elem r.elem).ending = false →
    r.ch = n.val →
    r.pair ≠ 0xFF →
    r.elem ≤ 24 →
    s.elemFault r.elem = false →
    s.meu.frozen = false →
    (s.elem r.elem).acc.length = 9 →
    (s.chan n).stamp ≤ s.stampOf s.boundaryNext →
    s.sampleReady n = true →
    s.windowFilled n = true →
    s.passed v.ch (s.chan n).stamp = true →
    s.passed ((s.refOf r.elem).getD v.ch) (s.chan n).stamp = true →
    y = movingAverage (s.chan n) (s.windowEndOf n (s.chan n).stamp) (s.bankOf n (s.chan n).stamp).1 →
    s.sampleAt v (s.chan n).stamp = some yv →
    v.ch ≠ n.val →
    (s.takeSampleAt r).sampleReady n = false →
    Completes (exec (.channelSlice n []) s) fun t =>
      (t.elem r.elem).acc.getD 0 0 = wrap 96 ((s.elem r.elem).acc.getD 0 0 + (scaled (yv * y) (s.ek v r (s.chan n).stamp) 1 - scaled (y * y) (s.el r (s.chan n).stamp) 1)) ∧ (t.elem r.elem).acc.getD 8 0 = wrap 96 ((s.elem r.elem).acc.getD 8 0 + scaled (y * y) (s.el r (s.chan n).stamp) 1) ∧ t.rd .MEU_CHSAMP_SAMPLE n = toTwos 32 y % 2 ^ 32 ∧ (t.elem r.elem).stamp = (s.chan n).stamp) ∧
  -- pulse
  (∀ (n : Fin 64) (r : SensRec) (s : State),
    s.sens n = some r →
    r.sensor = 4 →
    s.failed 0x12 = false →
    Completes (exec (.pulseCounted n) s) fun t =>
      t.rd .MEU_CHSAMP_SAMPLE n = (s.rd .MEU_CHSAMP_SAMPLE n + 1) % 2 ^ 32 ∧ (t.chan n).pulses = (s.chan n).pulses + 1 ∧ t.now = max s.now (((s.chan n).pulseAt.map fun x => x + 20000000).getD 0) ∧ (t.chan n).pulseAt = some t.now ∧ t.elems = s.elems ∧ t.events = s.events ∧ OnlyFlds [(.MEU_CHSAMP_SAMPLE, n)] s t) ∧
  -- pulseSlice
  (∀ (n : Fin 64) (r : SensRec) (s : State),
    s.sens n = some r →
    r.sensor = 4 →
    r.ch = n.val →
    r.elem ≤ 24 →
    s.failed 0x12 = false →
    s.elemFault r.elem = false →
    s.meu.frozen = false →
    (s.elem r.elem).acc.length = 9 →
    (s.elem r.elem).split = none →
    Completes (exec (.channelSlice n []) s) fun t =>
      (t.chan n).pulses = 0 ∧ (t.elem r.elem).acc.getD 0 0 = (if (s.chan n).pulses = 0 then (s.elem r.elem).acc.getD 0 0 else wrap 96 ((s.elem r.elem).acc.getD 0 0 + (s.chan n).pulses * pulseEnergy r.pulsec)) ∧ (t.elem r.elem).sums.ea = (s.elem r.elem).sums.ea + (s.chan n).pulses * pulseEnergy r.pulsec ∧ t.events = s.events) ∧
  -- pulseNoElement
  (∀ (n : Fin 64) (r : SensRec) (s : State),
    s.sens n = some r →
    r.sensor = 4 →
    s.failed 0x12 = false →
    24 < r.elem ∨ s.elemFault r.elem = true ∨ s.meu.frozen = true →
    Completes (exec (.channelSlice n []) s) fun t =>
      (t.chan r.ch).pulses = 0 ∧ t.elems = s.elems ∧ t.events = s.events ∧ OnlyFlds [] s t) ∧
  -- shortPulse
  (∀ (n : Fin 64) (r : SensRec) (s : State),
    s.sens n = some r →
    r.sensor = 4 →
    s.failed 0x12 = false →
    Completes (exec (.shortPulseRejected n) s) fun t =>
      t.rd .MEU_CHSTAT_PLSREJ n = 1 ∧ t.elems = s.elems ∧ t.events = s.events ∧ OnlyFlds [(.MEU_CHSTAT_PLSREJ, n)] s t) ∧
  -- peakClear
  (∀ (n : Fin 64) (s : State),
    Completes (exec (.pkclr n) s) fun t =>
      t.rd .MEU_CHPEAK_PEAK n = 0 ∧ t.events = s.events ∧ OnlyFlds [(.MEU_CHPEAK_PEAK, n)] s t)

/-- Detectors and the freeze (R143, R153, R159, R165, R170). -/
def Obligations.MeteringFaultsAndCrossings : Prop :=
  -- fault
  (∀ (n : Fin 64) (noClock : Bool) (s : State),
    s.failed 0x12 = false →
    s.modChannel n = true →
    noClock = true ∨ (s.chan n).eqRun = 256 →
    s.flag .MEU_CHSTAT_MODF n = false →
    Completes (exec (.modulatorFault n noClock) s) fun t =>
      t.rd .MEU_CHSTAT_MODF n = 1 ∧ t.rd .MEU_STATUS_MODF 0 = 1 ∧ (∀ e, e < 25 → (s.usedBy e).contains n.val = true → t.rd .MEU_ESTAT_FAULT e = 1) ∧ Raises s t 0x1201 (n.val * 256 + (if noClock then 2 else 1)) ∧ t.elems = s.elems) ∧
  -- faultAgain
  (∀ (n : Fin 64) (s : State),
    s.flag .MEU_CHSTAT_MODF n = true →
    exec (.modulatorFault n false) s = .next s) ∧
  -- faultEnd
  (∀ (n : Fin 64) (s : State),
    s.failed 0x12 = false →
    s.flag .MEU_CHSTAT_MODF n = true →
    (s.chan n).noClk = false →
    (s.chan n).eqRun ≠ 256 →
    Completes (exec (.modulatorFaultEnd n) s) fun t =>
      t.now = max s.now ((s.chan n).badAt + 10000000) ∧ t.rd .MEU_CHSTAT_MODF n = 0 ∧ (∀ e, e < 25 → (s.usedBy e).contains n.val = true → t.flag .MEU_ESTAT_FAULT e = t.elemFault e) ∧ Raises s t 0x1202 (n.val * 256)) ∧
  -- crossing
  (∀ (n : Fin 64) (at_ x a : Nat) (r : SensRec) (s : State),
    s.failed 0x12 = false →
    s.sens n = some r →
    r.qty ≤ 2 →
    (s.chan n).found = some (at_, x) →
    (s.chan n).lastCross = some a →
    validInterval (at_ - a) = true →
    s.flag .MEU_CHSTAT_ZXTO n = false →
    s.meu.frozen = false →
    Completes (exec (.zeroCrossing n) s) fun t =>
      t.rd .MEU_CHFREQ_FREQ n = 16384000000 / (at_ - a) ∧ (t.chan n).lastCross = some at_ ∧ (t.chan n).period = at_ - a ∧ (t.chan n).found = none ∧ (∀ e, e < 25 → s.refOf e = some n.val → s.isDc e = false → (s.elem e).start < (s.elem e).split.getD 0 → s.splitReached e = true → (t.elem e).start = (s.elem e).split.getD 0 ∧ (t.elem e).sums = (s.elem e).tail)) ∧
  -- invalidCrossing
  (∀ (n : Fin 64) (at_ x a : Nat) (r : SensRec) (s : State),
    s.failed 0x12 = false →
    s.sens n = some r →
    r.qty ≤ 2 →
    (s.chan n).found = some (at_, x) →
    (s.chan n).lastCross = some a →
    validInterval (at_ - a) = false →
    Completes (exec (.zeroCrossing n) s) fun t =>
      (t.chan n).lastCross = some at_ ∧ (t.chan n).validRun = 0 ∧ (t.chan n).period = (s.chan n).period ∧ (∀ e, e < 25 → (t.elem e).start = (s.elem e).start ∧ (t.elem e).acc = (s.elem e).acc) ∧ t.events = s.events ∧ OnlyFlds [] s t) ∧
  -- timeout
  (∀ (n : Fin 64) (r : SensRec) (s : State),
    s.failed 0x12 = false →
    s.meu.mclk.isSome = true →
    s.sens n = some r →
    r.qty ≤ 2 →
    s.flag .MEU_CHSTAT_ZXTO n = false →
    Completes (exec (.zeroCrossingTimeout n) s) fun t =>
      t.now = max s.now ((s.chan n).validAt + 10000000 * s.rd .MEU_CHCTL_ZXTO n) ∧ t.rd .MEU_CHSTAT_ZXTO n = 1 ∧ t.rd .MEU_STATUS_ZXTO 0 = 1 ∧ t.rd .MEU_CHFREQ_FREQ n = 0 ∧ (∀ e, e < 25 → s.refOf e = some n.val → s.isDc e = false → t.rd .MEU_ESTAT_ZXTO e = 1) ∧ Raises s t 0x1204 (n.val * 256)) ∧
  -- freeze
  (∀ (t0 : Nat) (s : State),
    s.bcu.tpf = some t0 →
    s.bcu.phase = .commit →
    s.meu.frozen = false →
    Completes (exec (.meuFreeze) s) fun t =>
      t.meu.frozen = true ∧ t.meu.committed = true ∧ t0 + 4000000 ≤ t.now ∧ (∃ e ∈ t.events.drop s.events.length, e.code = 0x1407 ∧ 400 ≤ e.arg ∧ e.arg ≤ 800))

/-- Wall time (R297 to R299). -/
def Obligations.WallTimeFollowsItsSyncs : Prop :=
  -- applyLocked
  (∀ (s : State),
    s.flag .NTU_STATUS_LOCKED 0 = true →
    Completes (exec (.apply) s) fun t =>
      Raises s t 0x1406 1 ∧ t.blu = s.blu ∧ OnlyFlds dropFlds s t) ∧
  -- apply
  (∀ (s : State),
    s.flag .NTU_STATUS_LOCKED 0 = false →
    Completes (exec (.apply) s) fun t =>
      t = { s with blu := { s.blu with applyDue := true } }) ∧
  -- ptpSync
  (∀ (s : State),
    s.flag .NTU_STATUS_LOCKED 0 = true →
    (s.moveTo s.boundaryNext).ntuRuns = true →
    s.billsNow = true →
    (s.moveTo s.boundaryNext).justSynced = false →
    Completes (exec (.wallTimeSync true) s) fun t =>
      t.now = max s.now s.boundaryNext ∧ t.rd64 .BLU_WOFF_L .BLU_WOFF_H 0 = toTwos 64 (((s.moveTo s.boundaryNext).ptpWall : Int) - t.ltime) ∧ t.rd .BLU_TIME_VALID 0 = 1 ∧ t.rd .BLU_TIME_SRC 0 = 1 ∧ t.rd .BLU_TIME_SYNCAGE 0 = 0 ∧ t.blu.lastSync = some t.ltime) ∧
  -- hostSync
  (∀ (s : State),
    s.blu.applyDue = true →
    s.billsNow = true →
    Completes (exec (.wallTimeSync false) s) fun t =>
      t.rd64 .BLU_WOFF_L .BLU_WOFF_H 0 = toTwos 64 ((s.rd64 .BLU_WSET_L .BLU_WSET_H 0 : Int) - t.ltime) ∧ t.rd .BLU_TIME_VALID 0 = 1 ∧ t.rd .BLU_TIME_SRC 0 = 2 ∧ t.rd .BLU_TIME_SYNCAGE 0 = 0 ∧ t.now = max s.now s.boundaryNext ∧ t.blu.applyDue = false ∧ t.blu.lastSync = some t.ltime) ∧
  -- noSync
  (∀ (ptp : Bool) (s : State),
    s.billsNow = false ∨ (if ptp then s.flag .NTU_STATUS_LOCKED 0 && (s.moveTo s.boundaryNext).ntuRuns && !(s.moveTo s.boundaryNext).justSynced else s.blu.applyDue) = false →
    exec (.wallTimeSync ptp) s = .next (s.moveTo s.boundaryNext)) ∧
  -- expiry
  (∀ (a : Nat) (s : State),
    s.blu.lastSync = some a →
    s.wallValid = true →
    s.billsNow = true →
    Completes (exec (.wallTimeExpiry) s) fun t =>
      t.rd .BLU_TIME_VALID 0 = 0 ∧ t.rd .BLU_STATUS_TINV 0 = 1 ∧ Raises s t 0x1404 1 ∧ t.now = max s.now (s.boundaryFrom (s.whenLtime (a + 86400 * 65536)))) ∧
  -- noExpiry
  (∀ (s : State),
    s.blu.lastSync = none ∨ s.wallValid = false ∨ s.billsNow = false →
    exec .wallTimeExpiry s = .next s)

/-- Tariff switches (R306, R307). -/
def Obligations.TariffSwitchesQueueAndFire : Prop :=
  -- go
  (∀ (isNow : Bool) (tariff : BitVec 5) (scope : BitVec 8) (s : State),
    (s.tarf tariff.toNat).isSome = true →
    s.blu.queue.length < 16 →
    (scopeElems scope.toNat).isEmpty = false →
    Completes (exec (.go isNow tariff scope) s) fun t =>
      t.blu.queue = s.blu.queue ++ [⟨scope.toNat, tariff.toNat, isNow, s.rd64 .BLU_TSWTIME_L .BLU_TSWTIME_H 0⟩] ∧ t.rd .BLU_TSWSTAT_PEND 0 = s.blu.queue.length + 1 ∧ t.events = s.events ∧ OnlyFlds [(.BLU_TSWCTL_NOW, 0), (.BLU_TSWCTL_TARIFF, 0), (.BLU_TSWCTL_SCOPE, 0), (.BLU_TSWSTAT_PEND, 0)] s t) ∧
  -- refused
  (∀ (isNow : Bool) (tariff : BitVec 5) (scope : BitVec 8) (s : State),
    (s.tarf tariff.toNat).isNone = true ∨ 16 ≤ s.blu.queue.length ∨ (scopeElems scope.toNat).isEmpty = true →
    Completes (exec (.go isNow tariff scope) s) fun t =>
      t.blu.queue = s.blu.queue ∧ t.rd .BLU_STATUS_TSWREF 0 = 1 ∧ t.rd .BLU_TSWSTAT_LASTREF 0 = (if (s.tarf tariff.toNat).isNone then 1 else if 16 ≤ s.blu.queue.length then 2 else 3) ∧ Raises s t 0x1402 (scope.toNat * 256 + (if (s.tarf tariff.toNat).isNone then 1 else if 16 ≤ s.blu.queue.length then 2 else 3))) ∧
  -- cancel
  (∀ (scope : BitVec 8) (s : State),
    s.blu.queue.length ≤ 16 →
    Completes (exec (.clrq scope) s) fun t =>
      (∀ w ∈ t.blu.queue, w ∈ s.blu.queue ∧ w.scope ≠ scope.toNat) ∧ (∀ w ∈ s.blu.queue, w.scope ≠ scope.toNat → w ∈ t.blu.queue) ∧ t.rd .BLU_TSWSTAT_PEND 0 = t.blu.queue.length ∧ t.events = s.events ∧ OnlyFlds [(.BLU_TSWCTL_SCOPE, 0), (.BLU_TSWSTAT_PEND, 0)] s t) ∧
  -- fires
  (∀ (w : Switch) (s : State),
    s.blu.queue = [w] →
    w.eff (s.moveTo s.boundaryNext).advanceH.wall ≤ (s.moveTo s.boundaryNext).advanceH.hwm →
    s.billsNow = true →
    w.tariff ≤ 16 →
    Completes (exec (.tariffSwitchFire) s) fun t =>
      t.blu.queue = [] ∧ t.rd .BLU_TSWSTAT_PEND 0 = 0 ∧ (∀ e, e ∈ scopeElems w.scope → t.rd .BLU_ESTAT_SCHED e = w.tariff ∧ (s.wallValid = true → t.rd .BLU_ESTAT_TARIFF e = w.tariff)))

/-- Boundaries (R170, R300, R304, R309, R311, R312, R315, R319 to R321). -/
def Obligations.BillingBoundariesAndTamper : Prop :=
  -- boundary
  (∀ (s : State),
    s.failed 0x12 = false →
    Completes (exec (.meteringBoundary) s) fun t =>
      t.now = max s.now s.boundaryNext ∧ t.rd .MEU_SNAP_BUSY 0 = 0 ∧ t.rd .BLU_SNAP_BUSY 0 = 0 ∧ t.meu.pfDue = false ∧ t.meu.ember = s.bcu.ember) ∧
  -- bank
  (∀ (s : State),
    s.failed 0x12 = false →
    s.rd .MEU_STATUS_BANK 0 ≠ s.rd .MEU_CTL_BANKSEL 0 →
    Completes (exec (.meteringBoundary) s) fun t =>
      t.rd .MEU_STATUS_BANK 0 = s.rd .MEU_CTL_BANKSEL 0 % 2 ∧ t.eff .MEU_CTL_BANKSEL 0 = s.rd .MEU_CTL_BANKSEL 0 % 2 ∧ Raises s t 0x1207 (s.rd .MEU_CTL_BANKSEL 0 % 256)) ∧
  -- opens
  (∀ (n : Nat) (s : State),
    n ∈ s.outlets →
    s.outlets.Nodup →
    s.flag .OIU_CONTACT_CFB n = true →
    s.flag .OIU_CONTACT_CMD n = true →
    s.flag .MEU_ESTAT_SESS n = false →
    s.flag .BLU_ESTAT_SESS n = false →
    s.failed 0x12 = false →
    s.billsNow = true →
    Completes (exec (.meteringBoundary) s) fun t =>
      t.rd .BLU_ESTAT_SESS n = 1 ∧ t.rd .MEU_ESTAT_SESS n = 1 ∧ t.rd .BLU_ESESS_SESSNO n = (s.rd .BLU_ESESS_SESSNO n + 1) % 2 ^ 32 ∧ t.rd .BLU_ESCOST_COST n = 0 ∧ t.sessReading n 4 = t.ltime % 2 ^ 64) ∧
  -- highWater
  (∀ (s : State),
    s.billsNow = true →
    s.resumes = false →
    s.blu.applyDue = false →
    (s.hwm : Int) ≤ (s.moveTo s.boundaryNext).wall →
    (s.moveTo s.boundaryNext).wall < 2 ^ 64 →
    Completes (exec (.meteringBoundary) s) fun t =>
      (t.hwm : Int) = t.wall ∧ t.rd .BLU_STATUS_SETBACK 0 = 0) ∧
  -- closes
  (∀ (e : Fin 25) (r : TarfRec) (s : State),
    s.demandTarf e = some r →
    s.rd .BLU_IVEND_IVEND e * 65536 ≤ (s.moveTo s.boundaryNext).advanceH.hwm →
    s.blu.span = none →
    s.blu.replay = none →
    s.blu.queue = [] →
    s.billsNow = true →
    nextEnd r.gridSeconds (s.rd .BLU_IVEND_IVEND e) < 2 ^ 32 →
    Completes (exec (.intervalClose e) s) fun t =>
      t.rd .BLU_IVNO_IVNO e = (s.rd .BLU_IVNO_IVNO e + 1) % 2 ^ 32 ∧ t.rd .BLU_IVEND_IVEND e = nextEnd r.gridSeconds (s.rd .BLU_IVEND_IVEND e) ∧ (t.bill e).closed = (s.bill e).closed + 1) ∧
  -- notYet
  (∀ (e : Fin 25) (s : State),
    s.billsNow = true →
    (s.moveTo s.boundaryNext).advanceH.endDue e = false →
    exec (.intervalClose e) s = .next (s.moveTo s.boundaryNext).advanceH) ∧
  -- notBilling
  (∀ (e : Fin 25) (s : State),
    s.billsNow = false →
    exec (.intervalClose e) s = .next (s.moveTo s.boundaryNext)) ∧
  -- tamper
  (∀ (input : Fin 5) (ohms : List Nat) (kind : Nat) (s : State),
    s.tamperKind input ohms = some kind →
    s.bcu.phase ≠ .off →
    Completes (exec (.tamperChange input ohms) s) fun t =>
      bit (t.rd .BLU_TAMPER_NOW 0) input.val = decide (kind = 1 ∨ kind = 3 ∨ kind = 5) ∧ t.rd .BLU_TAMPER_COUNT 0 = min 0xFFFF (s.rd .BLU_TAMPER_COUNT 0 + 1) ∧ t.rd .BLU_STATUS_TAMPER 0 = 1 ∧ (kind = 3 → t.rd .BLU_STATUS_SEALBRK 0 = 1) ∧ Raises s t 0x1409 (input.val * 256 + kind)) ∧
  -- contact
  (∀ (input : Fin 5) (ohms : List Nat) (s : State),
    input.val ≠ 4 →
    bit (s.rd .BLU_TAMPCFG_TEN 0) input.val = true →
    s.rd .BCU_VBAT_SRC 0 ≠ 2 →
    20 ≤ ohms.length →
    (∀ x ∈ ohms, x < 1000) →
    bit (s.rd .BLU_TAMPER_NOW 0) input.val = !bit (s.rd .BLU_TAMPCFG_TPOL 0) input.val →
    s.tamperKind input ohms = some (if bit (s.rd .BLU_TAMPCFG_TPOL 0) input.val then 1 else 2)) ∧
  -- disabled
  (∀ (input : Fin 5) (ohms : List Nat) (s : State),
    input.val ≠ 4 →
    bit (s.rd .BLU_TAMPCFG_TEN 0) input.val = false ∨ ohms.length < s.tamperNeeds →
    exec (.tamperChange input ohms) s = .next s) ∧
  -- keptTamper
  (∀ (input : Fin 5) (ohms : List Nat) (kind : Nat) (s : State),
    s.tamperKind input ohms = some kind →
    s.bcu.phase = .off →
    Completes (exec (.tamperChange input ohms) s) fun t =>
      (if s.blu.kept.length < 32 then t.blu.kept = s.blu.kept ++ [⟨input.val, kind, s.ltime, s.rd .BCU_VBAT_SRC 0 == 2⟩] else t.rd .BLU_TAMPER_LOST 0 = satInc (2 ^ Fld.BLU_TAMPER_LOST.width - 1) (s.rd .BLU_TAMPER_LOST 0) ∧ t.blu.kept = s.blu.kept) ∧ t.events = s.events)

/-- The distribution of R213, over the function that a cycle uses (`distribute`). -/
def Obligations.DistributionStaysWithinItsBudget : Prop :=
  -- bounds
  (∀ (l : List Share) (avail : Int),
    (∀ x ∈ l, 0 ≤ x.r ∧ 0 ≤ x.floor ∧ x.level ≤ 15) →
    ((distribute l avail).1.map (·.g)).sum ≤ max 0 avail ∧ (∀ x ∈ (distribute l avail).1, 0 ≤ x.g ∧ x.g ≤ x.r) ∧ ((l.map fun x => min x.r x.floor).sum ≤ max 0 avail → ∀ x ∈ (distribute l avail).1, min x.r x.floor ≤ x.g))

/-- The allocator (R198 to R225). -/
def Obligations.AllocatorCyclesAndTheirLosses : Prop :=
  -- stands
  (∀ (s : State),
    s.allocRuns = false →
    exec .allocatorCycle s = .next s ∧ exec .cycleAbandon s = .next s) ∧
  -- cycle
  (∀ (s : State),
    s.allocRuns = true →
    s.alloc.resume = false →
    Completes (exec (.allocatorCycle) s) fun t =>
      t.now = max s.now (s.alloc.dueAt.getD s.now) ∧ t.alloc.core.cycle = (s.alloc.core.cycle + 1) % 2 ^ 32 ∧ t.alloc.core.fallback = false ∧ t.alloc.abandoned = 0 ∧ t.alloc.lastAt = some t.now ∧ (t.alloc.report.map fun r => (r.cycle, decide (∀ n ∈ s.takers, n ∈ r.entries.map (·.outlet)), decide (∀ n ∈ s.outlets, bit s.alloc.lost n = true → n ∈ r.entries.map (·.outlet)))) = some (s.alloc.core.cycle, true, true) ∧ (∀ n, n < 24 → n ∉ s.takers → lookup 0 t.alloc.core.grants n = 0)) ∧
  -- grid
  (∀ (d : Nat) (s : State),
    s.allocRuns = true →
    s.alloc.resume = false →
    s.alloc.dueAt = some d →
    d ≤ s.now →
    s.now < d + s.allocPeriod →
    Completes (exec (.allocatorCycle) s) fun t =>
      t.now = s.now ∧ t.alloc.dueAt = some (d + s.allocPeriod) ∧ (s.allocPeriod / 10 < s.now - d → Raises s t 0x2001 1)) ∧
  -- resume
  (∀ (s : State),
    s.allocRuns = true →
    s.alloc.resume = true →
    Completes (exec (.allocatorCycle) s) fun t =>
      t.alloc.resume = false ∧ t.alloc.core.cycle = ((s.alloc.ckpt.getD {}).cycle + 1) % 2 ^ 32 ∧ Raises s t 0x200B (min 0xFFFF ((s.now - s.alloc.lastAt.getD s.now) / 10000000))) ∧
  -- abandoned
  (∀ (s : State),
    s.allocRuns = true →
    s.alloc.resume = false →
    s.alloc.abandoned + 1 < 2 ∨ s.alloc.core.fallback = true →
    Completes (exec (.cycleAbandon) s) fun t =>
      t.alloc.abandoned = s.alloc.abandoned + 1 ∧ t.now = max s.now (s.alloc.dueAt.getD s.now) + (if s.allocPeriod = 50000000 then 25000000 else 40000000) ∧ t.alloc.core = { s.alloc.core with cycle := (s.alloc.core.cycle + 1) % 2 ^ 32 } ∧ Raises s t 0x2001 2) ∧
  -- fallback
  (∀ (s : State),
    s.allocRuns = true →
    s.alloc.resume = false →
    1 ≤ s.alloc.abandoned →
    s.alloc.core.fallback = false →
    Completes (exec (.cycleAbandon) s) fun t =>
      t.alloc.core.fallback = true ∧ t.alloc.core.storage = 0 ∧ t.alloc.core.curtail = some 0 ∧ (∀ n, n ∈ s.outlets → n < 24 → lookup 0 t.alloc.core.grants n = if s.mayServe n then s.floorOf n else 0) ∧ Raises s t 0x2001 2 ∧ Raises s t 0x200C 0) ∧
  -- breachClear
  (∀ (t0 : Nat) (s : State),
    s.alloc.core.belowSince = some t0 →
    s.alloc.core.breach = 1 ∨ s.alloc.core.breach = 2 →
    (∀ x ∈ lookup [] s.alloc.hist 24, x.at_ ≤ s.alloc.breachAt) →
    Completes (exec (.breachClear) s) fun t =>
      t.alloc.core.breach = 0 ∧ t.alloc.core.belowSince = none ∧ t.now = max s.now (t0 + 5000000000) ∧ Raises s t 0x2003 s.alloc.core.breach) ∧
  -- moduleLost
  (∀ (n : Fin 24) (cause : Fin 3) (t0 : Nat) (s : State),
    bit s.alloc.lost n.val = false →
    2 ≤ s.kind n →
    s.allocRuns = true →
    s.lossAt n cause = some t0 →
    Completes (exec (.moduleLost n cause) s) fun t =>
      t.now = max s.now t0 ∧ bit t.alloc.lost n.val = true ∧ t.rd .OIU_CONTACT_ZREQ n = 1 ∧ lookup none t.alloc.lostT n = some (t.now + 50000000) ∧ Raises s t 0x2006 (n.val * 256 + cause.val + 1)) ∧
  -- noModuleLoss
  (∀ (n : Fin 24) (cause : Fin 3) (s : State),
    s.kind n < 2 ∨ s.allocRuns = false ∨ s.lossAt n cause = none →
    exec (.moduleLost n cause) s = .next s) ∧
  -- closeDrop
  (∀ (n : Fin 24) (t0 : Nat) (s : State),
    lookup none s.alloc.lostT n = some t0 →
    Completes (exec (.moduleLostCloseDrop n) s) fun t =>
      t.rd .OIU_CONTACT_CLOSE_EN n = 0 ∧ t.rd .OIU_CONTACT_CMD n = 0 ∧ lookup none t.alloc.lostT n = none ∧ t.now = max s.now t0) ∧
  -- poll
  (∀ (solar : Bool) (d : SunData) (s : State),
    Completes (exec (.sunspecPoll solar (some d)) s) fun t =>
      (if solar then t.alloc.solar else t.alloc.stor) = { lost := false, misses := 0, power := d.power, soc := d.soc, chaSt := d.chaSt, ctlMod := d.ctlMod } ∧ ((if solar then s.alloc.solar else s.alloc.stor).lost = true → Raises s t (if solar then 0x2008 else 0x2007) 0)) ∧
  -- miss
  (∀ (solar : Bool) (s : State),
    (if solar then s.alloc.solar else s.alloc.stor).misses = 4 →
    (if solar then s.alloc.solar else s.alloc.stor).lost = false →
    Completes (exec (.sunspecPoll solar none) s) fun t =>
      (if solar then t.alloc.solar else t.alloc.stor).lost = true ∧ Raises s t (if solar then 0x2008 else 0x2007) 1) ∧
  -- profile
  (∀ (p : OcppProfile) (v : Nat) (s : State),
    s.ocppVersion = some v →
    (ocppPurposes v).contains p.purpose = true →
    p.setpoints = false →
    Completes (exec (.ocppChargingProfile p) s) fun t =>
      t.alloc.profiles = (s.alloc.profiles.filter fun q => !(q.purpose == p.purpose && q.outlet == p.outlet && q.stack == p.stack)) ++ [{ p with discharge := if v = 2 then p.discharge else none }] ∧ t.ntu.backOffice = s.ntu.backOffice ++ [.profileAnswer true] ∧ t.events = s.events ∧ OnlyFlds [] s t) ∧
  -- rejected
  (∀ (p : OcppProfile) (v : Nat) (s : State),
    s.ocppVersion = some v →
    (ocppPurposes v).contains p.purpose = false ∨ p.setpoints = true →
    Completes (exec (.ocppChargingProfile p) s) fun t =>
      t.alloc = s.alloc ∧ t.ntu.backOffice = s.ntu.backOffice ++ [.profileAnswer false] ∧ Raises s t 0x2009 (p.outlet % 256 * 256 + (if (ocppPurposes v).contains p.purpose then 2 else 1))) ∧
  -- noEndpoint
  (∀ (p : OcppProfile) (s : State),
    s.ocppVersion = none →
    exec (.ocppChargingProfile p) s = .next s)

/-- Turn-on, inrush and turn-off (R230 to R235). -/
def Obligations.ChannelsTurnOnThroughTheirBank : Prop :=
  -- on
  (∀ (c : Fin 32) (s : State),
    3 ≤ s.func c →
    s.failed 0x16 = false →
    s.flag .BCU_STATUS_GHOLD 0 = false →
    s.phase c = phOff →
    bit (s.rd .PSW_PERMIT_PERMIT 0) c = true →
    bit (s.rd .PSW_TRIPRB_TRIP 0) c = false →
    s.rd .PSW_BANKS_QUEUE (c.val / 8) = 0 →
    s.flag .PSW_BANKS_BUSY (c.val / 8) = false →
    s.flag .PSW_BANKS_UV (c.val / 8) = false →
    s.flag .PSW_BANKS_DROOP (c.val / 8) = false →
    Completes (exec (.channelTurnOn c) s) fun t =>
      t.phase c = phInrush ∧ bit (t.rd .PSW_OUT_OUT 0) c = true ∧ t.rd .PSW_CHCTL_ON c = 1 ∧ t.rd .PSW_CHSTAT_CMD c = 1 ∧ t.rd .PSW_BANKS_BUSY (c.val / 8) = 1 ∧ t.rd .PSW_BANKS_HOLDER (c.val / 8) = c.val % 8 ∧ (t.sw c).winEnd = some (s.now + msec (((s.swch c).map (·.inrushMs)).getD 1)) ∧ t.events = s.events) ∧
  -- queues
  (∀ (c : Fin 32) (s : State),
    3 ≤ s.func c →
    s.failed 0x16 = false →
    s.flag .BCU_STATUS_GHOLD 0 = false →
    s.phase c = phOff →
    bit (s.rd .PSW_PERMIT_PERMIT 0) c = true →
    bit (s.rd .PSW_TRIPRB_TRIP 0) c = false →
    s.flag .PSW_BANKS_BUSY (c.val / 8) = true →
    s.flag .PSW_BANKS_UV (c.val / 8) = false →
    Completes (exec (.channelTurnOn c) s) fun t =>
      t.phase c = phQueued ∧ bit (t.rd .PSW_BANKS_QUEUE (c.val / 8)) (c.val % 8) = true ∧ bit (t.rd .PSW_OUT_OUT 0) c = false ∧ t.rd .PSW_CHSTAT_CMD c = 1 ∧ t.events = s.events) ∧
  -- off
  (∀ (c : Fin 32) (s : State),
    3 ≤ s.func c →
    s.flag .BCU_STATUS_GHOLD 0 = false →
    s.phase c = phOn →
    (s.sw c).triedAt ≠ some s.now →
    Completes (exec (.channelTurnOff c) s) fun t =>
      t.phase c = phOff ∧ bit (t.rd .PSW_OUT_OUT 0) c = false ∧ t.rd .PSW_CHCTL_ON c = 0 ∧ (t.sw c).fastOff = false ∧ (t.sw c).onEff = false) ∧
  -- slot
  (∀ (k : Fin 4) (i : Nat) (s : State),
    s.flag .PSW_BANKS_BUSY k = false →
    s.flag .PSW_BANKS_UV k = false →
    s.nextWaiting k = some i →
    Completes (exec (.inrushSlotGrant k) s) fun t =>
      t.rd .PSW_BANKS_BUSY k = 1 ∧ t.rd .PSW_BANKS_HOLDER k = i ∧ t.phase (8 * k + i) = phInrush ∧ bit (t.rd .PSW_BANKS_QUEUE k) i = false ∧ t.events = s.events) ∧
  -- slotTaken
  (∀ (k : Fin 4) (s : State),
    s.flag .PSW_BANKS_BUSY k = true ∨ s.flag .PSW_BANKS_UV k = true ∨ s.nextWaiting k = none →
    exec (.inrushSlotGrant k) s = .next s) ∧
  -- windowEnd
  (∀ (c : Fin 32) (t0 : Nat) (s : State),
    (s.sw c).winEnd = some t0 →
    (s.sw c).frozenAt = none →
    bit (s.rd .PSW_BANKS_QUEUE (c.val / 8)) (c.val % 8) = false →
    Completes (exec (.inrushWindowEnd c false) s) fun t =>
      t.phase c = phOn ∧ bit (t.rd .PSW_OUT_OUT 0) c = true ∧ t.now = max s.now t0 ∧ (t.sw c).goodAt = some (max s.now t0 + 10000000000) ∧ (t.sw c).winEnd = none ∧ t.events = s.events) ∧
  -- windowLimit
  (∀ (c : Fin 32) (t0 : Nat) (s : State),
    (s.sw c).winEnd = some t0 →
    (s.sw c).frozenAt = none →
    Completes (exec (.inrushWindowEnd c true) s) fun t =>
      t = (s.moveTo t0).swFault c .over)

/-- Faults and retries (R228, R229, R233, R234, R239). -/
def Obligations.ChannelFaultsRetryAndLatch : Prop :=
  -- short
  (∀ (c : Fin 32) (mv : Nat) (s : State),
    mv < 2000 →
    s.chOn c = true →
    s.sourceOn c = true →
    satInc 15 (s.rd .PSW_CHSTAT_TRIES c) < s.retryN c →
    Completes (exec (.shortCircuit c true mv) s) fun t =>
      t.phase c = phPause ∧ bit (t.rd .PSW_OUT_OUT 0) c = false ∧ t.rd .PSW_CHFLT_SC c = 1 ∧ t.rd .PSW_STATUS_SC 0 = 1 ∧ t.rd .PSW_CHSTAT_TRIES c = satInc 15 (s.rd .PSW_CHSTAT_TRIES c) ∧ (t.sw c).pauseEnd = some (s.now + retryPause (satInc 15 (s.rd .PSW_CHSTAT_TRIES c))) ∧ Raises s t 0x1601 (c.val * 256 + satInc 15 (s.rd .PSW_CHSTAT_TRIES c))) ∧
  -- over
  (∀ (c : Fin 32) (x : LoadSpan) (s : State),
    s.phase c = phOn →
    ((s.sw c).load x).overloaded = true →
    s.sourceOn c = true →
    satInc 15 (s.rd .PSW_CHSTAT_TRIES c) < s.retryN c →
    Completes (exec (.overcurrent c [x]) s) fun t =>
      t.phase c = phPause ∧ t.rd .PSW_CHFLT_OC c = 1 ∧ t.rd .PSW_STATUS_OC 0 = 1 ∧ (t.sw c).hot = false ∧ (t.sw c).pauseEnd = some (s.now + retryPause (satInc 15 (s.rd .PSW_CHSTAT_TRIES c))) ∧ Raises s t 0x1602 (c.val * 256 + satInc 15 (s.rd .PSW_CHSTAT_TRIES c))) ∧
  -- load
  (∀ (c : Fin 32) (x : LoadSpan) (s : State),
    s.phase c = phOn →
    ((s.sw c).load x).overloaded = false →
    exec (.overcurrent c [x]) s = .next (s.setSw c ((s.sw c).load x))) ∧
  -- loadCounts
  (∀ (w : SwCh) (x : LoadSpan) (s : State),
    x.on = true →
    (3300 < x.milliamps → (w.load x).overUs = w.overUs + x.micros) ∧ (x.milliamps ≤ 3300 → (w.load x).overUs = 0) ∧ (w.load x).limitUs = (if x.limited then w.limitUs + x.micros else 0) ∧ ((w.load x).overloaded = true ↔ 20000 ≤ (w.load x).overUs ∨ 100 ≤ (w.load x).limitUs)) ∧
  -- hot
  (∀ (c : Fin 32) (junction : Nat) (s : State),
    160 ≤ junction →
    s.chOn c = true →
    s.sourceOn c = true →
    satInc 15 (s.rd .PSW_CHSTAT_TRIES c) < s.retryN c →
    Completes (exec (.overtemperature c junction) s) fun t =>
      t.phase c = phPause ∧ t.rd .PSW_CHFLT_OT c = 1 ∧ t.rd .PSW_STATUS_OT 0 = 1 ∧ (t.sw c).hot = true ∧ Raises s t 0x1603 (c.val * 256 + satInc 15 (s.rd .PSW_CHSTAT_TRIES c))) ∧
  -- latches
  (∀ (c : Fin 32) (mv : Nat) (s : State),
    mv < 2000 →
    s.chOn c = true →
    s.sourceOn c = true →
    s.retryN c ≤ satInc 15 (s.rd .PSW_CHSTAT_TRIES c) →
    Completes (exec (.shortCircuit c true mv) s) fun t =>
      t.phase c = phLatched ∧ t.rd .PSW_CHSTAT_LATCH c = 1 ∧ t.rd .PSW_STATUS_LATCH 0 = 1 ∧ bit (t.rd .PSW_OUT_OUT 0) c = false ∧ Raises s t 0x1604 (c.val * 256 + satInc 15 (s.rd .PSW_CHSTAT_TRIES c))) ∧
  -- notOn
  (∀ (c : Fin 32) (limited : Bool) (mv junction : Nat) (s : State),
    s.chOn c = false →
    s.justOff c = false →
    exec (.shortCircuit c limited mv) s = .next s ∧ exec (.overtemperature c junction) s = .next s) ∧
  -- notInLimit
  (∀ (c : Fin 32) (limited : Bool) (mv junction : Nat) (s : State),
    limited = false ∨ 2000 ≤ mv →
    junction < 160 →
    exec (.shortCircuit c limited mv) s = .next s ∧ exec (.overtemperature c junction) s = .next s) ∧
  -- justOff
  (∀ (c : Fin 32) (mv : Nat) (s : State),
    mv < 2000 →
    s.justOff c = true →
    Completes (exec (.shortCircuit c true mv) s) fun t =>
      t.rd .PSW_CHFLT_SC c = 1 ∧ t.rd .PSW_STATUS_SC 0 = 1 ∧ t.phase c = phOff ∧ t.rd .PSW_CHSTAT_TRIES c = s.rd .PSW_CHSTAT_TRIES c ∧ Raises s t 0x1601 (c.val * 256 + s.rd .PSW_CHSTAT_TRIES c)) ∧
  -- pauseEnd
  (∀ (c : Fin 32) (junction : Nat) (t0 : Nat) (s : State),
    (s.sw c).pauseEnd = some t0 →
    (s.sw c).hot = false ∨ junction < 140 →
    s.wantsOn c = true →
    s.failed 0x16 = false →
    s.sourceOn c = true →
    s.rd .PSW_BANKS_QUEUE (c.val / 8) = 0 →
    s.flag .PSW_BANKS_BUSY (c.val / 8) = false →
    s.flag .PSW_BANKS_UV (c.val / 8) = false →
    Completes (exec (.retryPauseEnd c junction) s) fun t =>
      t.phase c = phInrush ∧ (t.sw c).pauseEnd = none ∧ t.now = max s.now t0 ∧ t.rd .PSW_BANKS_HOLDER (c.val / 8) = c.val % 8 ∧ t.events = s.events) ∧
  -- stillHot
  (∀ (c : Fin 32) (junction : Nat) (t0 : Nat) (s : State),
    140 ≤ junction →
    (s.sw c).pauseEnd = some t0 →
    (s.sw c).hot = true →
    exec (.retryPauseEnd c junction) s = .next (s.moveTo t0)) ∧
  -- good
  (∀ (c : Fin 32) (t0 : Nat) (s : State),
    (s.sw c).goodAt = some t0 →
    Completes (exec (.triesReset c) s) fun t =>
      t.rd .PSW_CHSTAT_TRIES c = 0 ∧ (t.sw c).goodAt = none ∧ t.now = max s.now t0 ∧ t.events = s.events ∧ OnlyFlds [(.PSW_CHSTAT_TRIES, c)] s t) ∧
  -- latchClear
  (∀ (c : Fin 32) (s : State),
    s.phase c = phLatched →
    s.sourceOn c = false →
    s.flag .BCU_STATUS_GHOLD 0 = false →
    Completes (exec (.latchclr c) s) fun t =>
      t.phase c = phOff ∧ t.rd .PSW_CHSTAT_TRIES c = 0 ∧ t.rd .PSW_CHSTAT_LATCH c = 0 ∧ Raises s t 0x1605 (c.val * 256)) ∧
  -- notLatched
  (∀ (c : Fin 32) (s : State),
    s.phase c ≠ phLatched →
    s.flag .BCU_STATUS_GHOLD 0 = false →
    exec (.latchclr c) s = .next s) ∧
  -- latchHeld
  (∀ (c : Fin 32) (s : State),
    s.flag .BCU_STATUS_GHOLD 0 = true →
    Completes (exec (.latchclr c) s) fun t =>
      t = s.setSw c { s.sw c with clrDue := true }) ∧
  -- openLoad
  (∀ (c : Fin 32) (mv : Nat) (isOpen : Bool) (r : SwchRec) (s : State),
    isOpen = decide (3000 ≤ mv) →
    s.swch c = some r →
    bit r.flags 0 = true →
    s.chOn c = false →
    s.flag .PSW_BANKS_UV (c.val / 8) = false →
    s.flag .PSW_CHSTAT_OLNOW c ≠ isOpen →
    Completes (exec (.openLoadChange c mv) s) fun t =>
      t.flag .PSW_CHSTAT_OLNOW c = isOpen ∧ (isOpen = true → t.rd .PSW_CHFLT_OL c = 1 ∧ t.rd .PSW_STATUS_OL 0 = 1) ∧ Raises s t 0x1606 (c.val * 256 + b2n isOpen) ∧ s.now ≤ t.now ∧ (∀ x ∈ (s.sw c).offAt, x + 60000000 ≤ t.now) ∧ t.sws = s.sws) ∧
  -- pwm
  (∀ (c : Fin 32) (vmean : BitVec 16) (s : State),
    s.flag .BCU_STATUS_GHOLD 0 = false →
    s.rd .PSW_CHCTL_PWMF c ≠ 0 →
    Completes (exec (.pwmFrame c vmean) s) fun t =>
      t.now = max s.now (s.nextFrame c) ∧ (t.sw c).lastFrame = some t.now ∧ t.rd .PSW_BANKV_VMEAN (c.val / 8) = vmean.toNat ∧ t.eff .PSW_CHDUTY_DUTY c = s.rd .PSW_CHDUTY_DUTY c % 1024 ∧ t.rd .PSW_CHDUTY_DOUT c = min (compensated (s.rd .PSW_CHDUTY_DUTY c % 1024) (((s.swch c).map (·.vnom)).getD 0) vmean.toNat) 1000 ∧ (t.sw c).onEff = s.flag .PSW_CHCTL_ON c)

/-- The bank arbiter's supervision (R236 to R238). -/
def Obligations.BanksGuardTheirSupply : Prop :=
  -- droop
  (∀ (k : Fin 4) (vnow vmean : BitVec 16) (s : State),
    vnow.toNat * 100 < s.rd .PSW_BANKCTL_DROOP k * vmean.toNat →
    s.flag .PSW_BANKS_DROOP k = false →
    s.flag .PSW_BANKS_BUSY k = true →
    (s.sw (8 * k.val + s.rd .PSW_BANKS_HOLDER k)).frozenUsed < 5000000 →
    Completes (exec (.bankDroop k vnow vmean) s) fun t =>
      t.rd .PSW_BANKV_VNOW k = vnow.toNat ∧ t.rd .PSW_BANKV_VMEAN k = vmean.toNat ∧ t.rd .PSW_BANKS_DROOP k = 1 ∧ (t.sw (8 * k.val + s.rd .PSW_BANKS_HOLDER k)).frozenAt = some s.now ∧ t.rd .PSW_CHSTAT_FROZEN (8 * k.val + s.rd .PSW_BANKS_HOLDER k) = 1 ∧ t.events = s.events) ∧
  -- droopEnd
  (∀ (k : Fin 4) (vnow vmean : BitVec 16) (t0 w : Nat) (s : State),
    s.rd .PSW_BANKCTL_DROOP k * vmean.toNat ≤ vnow.toNat * 100 →
    s.flag .PSW_BANKS_DROOP k = true →
    s.flag .PSW_BANKS_BUSY k = true →
    s.rd .PSW_BANKS_HOLDER k < 8 →
    (s.sw (8 * k.val + s.rd .PSW_BANKS_HOLDER k)).frozenAt = some t0 →
    (s.sw (8 * k.val + s.rd .PSW_BANKS_HOLDER k)).winEnd = some w →
    Completes (exec (.bankDroopEnd k vnow vmean) s) fun t =>
      t.rd .PSW_BANKS_DROOP k = 0 ∧ (t.sw (8 * k.val + s.rd .PSW_BANKS_HOLDER k)).frozenAt = none ∧ (t.sw (8 * k.val + s.rd .PSW_BANKS_HOLDER k)).winEnd = some (w + min (s.now - t0) (5000000 - (s.sw (8 * k.val + s.rd .PSW_BANKS_HOLDER k)).frozenUsed)) ∧ Raises s t 0x1607 (k.val * 256 + min (min (s.now - t0) (5000000 - (s.sw (8 * k.val + s.rd .PSW_BANKS_HOLDER k)).frozenUsed) / 100000) 255)) ∧
  -- undervoltage
  (∀ (k : Fin 4) (vnow : BitVec 16) (s : State),
    vnow.toNat < 800 →
    s.rd .PSW_BANKS_UV k = 0 →
    Completes (exec (.bankUndervoltage k vnow) s) fun t =>
      t.rd .PSW_BANKS_UV k = 1 ∧ t.rd .PSW_STATUS_BANKUV 0 = 1 ∧ t.rd .PSW_BANKV_VNOW k = vnow.toNat ∧ (∀ c, c ∈ bankChannels k → t.chOn c = false ∧ t.phase c ≠ phQueued) ∧ Raises s t 0x1608 (k.val * 256 + 1)) ∧
  -- undervoltageEnd
  (∀ (k : Fin 4) (vnow : BitVec 16) (s : State),
    850 ≤ vnow.toNat →
    s.rd .PSW_BANKS_UV k = 1 →
    s.failed 0x16 = false →
    Completes (exec (.bankUndervoltageEnd k vnow) s) fun t =>
      t.rd .PSW_BANKS_UV k = 0 ∧ t.rd .PSW_BANKV_VNOW k = vnow.toNat ∧ (∀ c, c ∈ bankChannels k → s.phase c = phOff → s.wantsOn c = true → t.phase c = phQueued ∨ t.phase c = phInrush) ∧ Raises s t 0x1608 (k.val * 256)) ∧
  -- voltageShown
  (∀ (k : Fin 4) (vnow : BitVec 16) (s : State),
    800 ≤ vnow.toNat →
    vnow.toNat < 850 →
    exec (.bankUndervoltage k vnow) s = .next ((s.put .PSW_BANKV_VNOW k vnow.toNat).judgeDroop k) ∧ exec (.bankUndervoltageEnd k vnow) s = .next ((s.put .PSW_BANKV_VNOW k vnow.toNat).judgeDroop k)) ∧
  -- overcurrent
  (∀ (k : Fin 4) (milliamps : List Nat) (micros : Nat) (c : Nat) (rest : List Nat) (s : State),
    10000 ≤ micros →
    13000 < s.bankSum k milliamps →
    s.shedOrder k = c :: rest →
    Completes (exec (.bankOvercurrent k milliamps micros) s) fun t =>
      t.rd .PSW_STATUS_BANKOC 0 = 1 ∧ t.chOn c = false ∧ Raises s t 0x1609 (k.val * 256 + c)) ∧
  -- enough
  (∀ (k : Fin 4) (milliamps : List Nat) (micros : Nat) (s : State),
    s.bankSum k milliamps ≤ 13000 ∨ micros < 10000 →
    exec (.bankOvercurrent k milliamps micros) s = .next s)

/-- The GSE cycle (R252, R255, R256, R264). The hypotheses name the states of the function before the cycle. -/
def Obligations.GroundsheetCyclesDemandAndEnable : Prop :=
  -- frozen
  (∀ (encoder : Option (Nat × Nat × Bool)) (s : State),
    s.gseRuns = false →
    exec (.gseCycle encoder) s = .next s) ∧
  -- counts
  (∀ (encoder : Option (Nat × Nat × Bool)) (s : State),
    s.gseRuns = true →
    s.rd .GSE_STATUS_STATE 0 ≠ 1 ∧ s.rd .GSE_STATUS_STATE 0 ≠ 2 →
    Completes (exec (.gseCycle encoder) s) fun t =>
      t.now = max s.now s.nextCycle ∧ t.rd .GSE_SEQ_SEQ 0 = (s.rd .GSE_SEQ_SEQ 0 + 1) % 2 ^ 32 ∧ t.events = s.events ∧ OnlyFlds [(.GSE_SEQ_SEQ, 0), (.GSE_DIAG_TESTAGE, 0)] s t) ∧
  -- waits
  (∀ (encoder : Option (Nat × Nat × Bool)) (s : State),
    s.gseRuns = true →
    s.rd .GSE_STATUS_STATE 0 = 1 →
    Completes (exec (.gseCycle encoder) s) fun t =>
      t.now = max s.now s.nextCycle ∧ t.rd .GSE_SEQ_SEQ 0 = (s.rd .GSE_SEQ_SEQ 0 + 1) % 2 ^ 32 ∧ t.rd .GSE_SO_CMD 0 = s.rd .GSE_SO_CMD 0 ∧ t.rd .GSE_SO_RB 0 = s.rd .GSE_SO_RB 0 ∧ t.rd .GSE_PERMIT_PERMIT 0 = s.rd .GSE_PERMIT_PERMIT 0) ∧
  -- demand
  (∀ (k : Fin 16) (encoder : Option (Nat × Nat × Bool)) (r : SafeRec) (cause : Nat) (s : State),
    s.gseRuns = true →
    s.rd .GSE_STATUS_STATE 0 = 2 →
    s.safeRec k = some r →
    cause = (if r.func = 4 then (s.moveTo s.nextCycle).readEncoder k r (encoder.getD (0, 0, false)).1 (encoder.getD (0, 0, false)).2.1 (encoder.getD (0, 0, false)).2.2 else s.moveTo s.nextCycle).causeOf k r →
    0 < cause ∧ cause < 16 →
    (s.gfn k).caused = false →
    r.stopCat ≠ 1 →
    s.flag .GSE_FUNC_STOPPING k = false →
    Completes (exec (.gseCycle encoder) s) fun t =>
      t.rd .GSE_FUNC_DEMAND k = 1 ∧ t.rd .GSE_FUNC_CAUSE k = cause ∧ t.rd .GSE_FUNC_EN k = 0 ∧ (r.manual = true → (s.gfn k).fresh = false → t.rd .GSE_FUNC_RSTREQ k = 1) ∧ (∀ o, o < 4 → bit r.outMask o = true → bit (t.rd .GSE_SO_CMD 0) o = false ∧ bit (t.rd .GSE_SO_RB 0) o = false) ∧ (∀ c, c < 32 → bit r.permMask c = true → bit (t.rd .GSE_PERMIT_PERMIT 0) c = false ∧ bit (t.rd .PSW_PERMIT_PERMIT 0) c = false) ∧ Raises s t 0x1701 (k.val * 256 + cause)) ∧
  -- enable
  (∀ (k : Fin 16) (encoder : Option (Nat × Nat × Bool)) (r : SafeRec) (s : State),
    s.gseRuns = true →
    s.rd .GSE_STATUS_STATE 0 = 2 →
    s.safeRec k = some r →
    (if r.func = 4 then (s.moveTo s.nextCycle).readEncoder k r (encoder.getD (0, 0, false)).1 (encoder.getD (0, 0, false)).2.1 (encoder.getD (0, 0, false)).2.2 else s.moveTo s.nextCycle).causeOf k r = 0 →
    (if r.func = 4 then (s.moveTo s.nextCycle).readEncoder k r (encoder.getD (0, 0, false)).1 (encoder.getD (0, 0, false)).2.1 (encoder.getD (0, 0, false)).2.2 else s.moveTo s.nextCycle).flag .GSE_FUNC_FFAULT k = false →
    s.flag .GSE_FUNC_STOPPING k = false →
    s.flag .GSE_FUNC_EN k = false →
    s.flag .GSE_FUNC_RSTREQ k = false →
    Completes (exec (.gseCycle encoder) s) fun t =>
      t.rd .GSE_FUNC_EN k = 1 ∧ t.rd .GSE_FUNC_DEMAND k = 0 ∧ (t.gfn k).fresh = false ∧ Raises s t 0x1702 (k.val * 256)) ∧
  -- enableReset
  (∀ (k : Fin 16) (encoder : Option (Nat × Nat × Bool)) (r : SafeRec) (s : State),
    s.gseRuns = true →
    s.rd .GSE_STATUS_STATE 0 = 2 →
    s.safeRec k = some r →
    (if r.func = 4 then (s.moveTo s.nextCycle).readEncoder k r (encoder.getD (0, 0, false)).1 (encoder.getD (0, 0, false)).2.1 (encoder.getD (0, 0, false)).2.2 else s.moveTo s.nextCycle).causeOf k r = 0 →
    (if r.func = 4 then (s.moveTo s.nextCycle).readEncoder k r (encoder.getD (0, 0, false)).1 (encoder.getD (0, 0, false)).2.1 (encoder.getD (0, 0, false)).2.2 else s.moveTo s.nextCycle).flag .GSE_FUNC_FFAULT k = false →
    s.flag .GSE_FUNC_STOPPING k = false →
    s.flag .GSE_FUNC_EN k = false →
    s.flag .GSE_FUNC_RSTREQ k = true →
    (s.moveTo s.nextCycle).pulsed k r = true →
    Completes (exec (.gseCycle encoder) s) fun t =>
      t.rd .GSE_FUNC_EN k = 1 ∧ t.rd .GSE_FUNC_DEMAND k = 0 ∧ (t.gfn k).fresh = false ∧ t.rd .GSE_FUNC_RSTREQ k = 0 ∧ Raises s t 0x1702 (k.val * 256 + 1))

/-- Function faults, timers and the safe state (R247, R248, R251, R257, R258, R260, R261, R263, R264). -/
def Obligations.SafetyTimersFaultsAndMuting : Prop :=
  -- testPulse
  (∀ (k : Fin 4) (reads : PulseReads) (j : Fin 16) (r : SafeRec) (s : State),
    s.gseRuns = true →
    s.rd .GSE_STATUS_STATE 0 = 1 ∨ s.rd .GSE_STATUS_STATE 0 = 2 →
    s.safeRec j = some r →
    s.flag .GSE_FUNC_FFAULT j = false →
    r.siA < 16 →
    r.byte 8 = k.val →
    s.si r.siA = true →
    s.tpOf r.siA = some k.val →
    bit reads.low.toNat r.siA = false ∨ bit reads.late.toNat r.siA = true →
    Completes (exec (.testPulse k reads) s) fun t =>
      t.now = max s.now (s.nextPulse k) ∧ t.rd .GSE_FUNC_FFAULT j = 1 ∧ t.rd .GSE_FUNC_FDET j = 1 ∧ Raises s t 0x1708 (j.val * 256 + 1)) ∧
  -- noTest
  (∀ (k : Fin 4) (low : PulseReads) (s : State),
    s.rd .GSE_STATUS_STATE 0 ≠ 1 →
    s.rd .GSE_STATUS_STATE 0 ≠ 2 →
    exec (.testPulse k low) s = .next s) ∧
  -- discrepancy
  (∀ (k : Fin 16) (t0 : Nat) (r : SafeRec) (s : State),
    s.gseRuns = true →
    (s.gfn k).discAt = some t0 →
    s.safeRec k = some r →
    s.flag .GSE_FUNC_FFAULT k = false →
    Completes (exec (.discrepancyTimeout k) s) fun t =>
      t.rd .GSE_FUNC_FFAULT k = 1 ∧ t.rd .GSE_FUNC_FDET k = (if r.pat = 4 then 3 else 2) ∧ (t.gfn k).discAt = none ∧ t.now = max s.now t0 ∧ Raises s t 0x1708 (k.val * 256 + (if r.pat = 4 then 3 else 2))) ∧
  -- edm
  (∀ (k : Fin 16) (t0 : Nat) (r : SafeRec) (s : State),
    s.gseRuns = true →
    (s.gfn k).edmAt = some t0 →
    s.safeRec k = some r →
    s.flag .GSE_FUNC_FFAULT k = false →
    Completes (exec (.edmFault k) s) fun t =>
      t.rd .GSE_FUNC_FFAULT k = 1 ∧ t.rd .GSE_FUNC_FDET k = 5 ∧ (t.gfn k).edmAt = none ∧ t.now = max s.now t0 ∧ Raises s t 0x1708 (k.val * 256 + 5)) ∧
  -- stopDelay
  (∀ (k : Fin 16) (t0 : Nat) (r : SafeRec) (s : State),
    s.gseRuns = true →
    (s.gfn k).stopAt = some t0 →
    s.safeRec k = some r →
    s.flag .GSE_FUNC_EN k = false →
    Completes (exec (.stopdlyExpiry k) s) fun t =>
      t.rd .GSE_FUNC_STOPPING k = 0 ∧ (t.gfn k).stopAt = none ∧ t.now = max s.now t0 ∧ (∀ o, o < 4 → bit r.outMask o = true → bit (t.rd .GSE_SO_CMD 0) o = false) ∧ (∀ c, c < 32 → bit r.permMask c = true → bit (t.rd .PSW_PERMIT_PERMIT 0) c = false)) ∧
  -- unlockDelay
  (∀ (k : Fin 16) (t0 : Nat) (r : SafeRec) (s : State),
    s.gseRuns = true →
    (s.gfn k).unlkAt ≠ none →
    s.safeRec k = some r →
    (s.watchUnlk k r).offSince r = some t0 →
    Completes (exec (.unlkdlyExpiry k) s) fun t =>
      t.rd .GSE_FUNC_UNLKOK k = 1 ∧ (t.gfn k).unlkAt = none ∧ t.now = max s.now (t0 + 1000000 * r.u16 22) ∧ t.events = s.events ∧ OnlyFlds [(.GSE_FUNC_UNLKOK, k)] s t) ∧
  -- muting
  (∀ (k : Fin 16) (r : SafeRec) (s : State),
    s.rd .GSE_STATUS_STATE 0 = 2 →
    s.gseRuns = true →
    s.safeRec k = some r →
    r.func = 3 →
    r.byte 20 < 16 →
    r.byte 21 < 16 →
    s.si (r.byte 20) = true →
    s.si (r.byte 21) = true →
    (s.gfn k).muteBlocked = false →
    s.flag .GSE_FUNC_MUTED k = false →
    s.inputsSafe r = true →
    absDiff (lookup 0 s.gse.siAt (r.byte 20)) (lookup 0 s.gse.siAt (r.byte 21)) ≤ 1000000 * r.u16 22 →
    Completes (exec (.mutingStart k) s) fun t =>
      t.now = max s.now s.nextCycle ∧ t.rd .GSE_FUNC_MUTED k = 1 ∧ (t.gfn k).muteEnd = some (t.now + 100000000 * r.u16 24) ∧ Raises s t 0x1707 (k.val * 256 + 1)) ∧
  -- muteTooLate
  (∀ (k : Fin 16) (r : SafeRec) (s : State),
    s.rd .GSE_STATUS_STATE 0 = 2 →
    s.gseRuns = true →
    s.safeRec k = some r →
    r.func = 3 →
    r.byte 20 < 16 →
    r.byte 21 < 16 →
    s.si (r.byte 20) = true →
    s.si (r.byte 21) = true →
    (s.gfn k).muteBlocked = false →
    s.flag .GSE_FUNC_MUTED k = false →
    s.inputsSafe r = true →
    1000000 * r.u16 22 < absDiff (lookup 0 s.gse.siAt (r.byte 20)) (lookup 0 s.gse.siAt (r.byte 21)) →
    Completes (exec (.mutingStart k) s) fun t =>
      (t.gfn k).muteBlocked = true ∧ t.events = s.events ∧ OnlyFlds [] s t) ∧
  -- muteEnd
  (∀ (k : Fin 16) (r : SafeRec) (s : State),
    s.gseRuns = true →
    s.safeRec k = some r →
    s.flag .GSE_FUNC_MUTED k = true →
    (s.si (r.byte 20) && s.si (r.byte 21)) = false →
    Completes (exec (.mutingEnd k) s) fun t =>
      t.rd .GSE_FUNC_MUTED k = 0 ∧ (t.gfn k).muteEnd = none ∧ (t.gfn k).due = (if s.inputsSafe r then (s.gfn k).due else 1) ∧ Raises s t 0x1707 (k.val * 256)) ∧
  -- muteMax
  (∀ (k : Fin 16) (t0 : Nat) (r : SafeRec) (s : State),
    s.gseRuns = true →
    (s.gfn k).muteEnd = some t0 →
    s.safeRec k = some r →
    s.flag .GSE_FUNC_MUTED k = true →
    Completes (exec (.mutmaxExpiry k) s) fun t =>
      t.rd .GSE_FUNC_MUTED k = 0 ∧ (t.gfn k).due = 2 ∧ (t.gfn k).muteEnd = none ∧ (t.gfn k).muteBlocked = true ∧ t.now = max s.now t0 ∧ t.rd .GSE_SO_CMD 0 = s.rd .GSE_SO_CMD 0 ∧ Raises s t 0x1707 (k.val * 256)) ∧
  -- fault
  (∀ (code : Fin 8) (s : State),
    s.gseRuns = true →
    s.rd .GSE_STATUS_STATE 0 ≠ 3 →
    Completes (exec (.gseFault code) s) fun t =>
      t.rd .GSE_STATUS_STATE 0 = 3 ∧ t.rd .GSE_DIAG_FCODE 0 = code.val + 1 ∧ t.rd .GSE_SO_CMD 0 = 0 ∧ t.rd .GSE_SO_RB 0 = 0 ∧ t.rd .GSE_PERMIT_PERMIT 0 = 0 ∧ (∀ c, c < 32 → bit s.permNamed c = true → bit (t.rd .PSW_PERMIT_PERMIT 0) c = false) ∧ Raises s t 0x1703 (code.val + 1)) ∧
  -- faultAgain
  (∀ (code : Fin 8) (s : State),
    s.rd .GSE_STATUS_STATE 0 = 3 →
    exec (.gseFault code) s = .next s) ∧
  -- drive
  (∀ (k : Fin 4) (s : State),
    Completes (exec (.soDriveExpiry k) s) fun t =>
      bit (t.rd .GSE_SO_RB 0) k.val = false ∧ t.rd .GSE_SO_CMD 0 = s.rd .GSE_SO_CMD 0 ∧ t.events = s.events) ∧
  -- vsio
  (∀ (s : State),
    s.gseRuns = true →
    s.flag .GSE_STATUS_VSIOUV 0 = false →
    Completes (exec (.vsioUndervoltage) s) fun t =>
      t.rd .GSE_STATUS_VSIOUV 0 = 1 ∧ Raises s t 0x170E 1 ∧ t.gse = s.gse) ∧
  -- vsioEnd
  (∀ (s : State),
    s.gseRuns = true →
    s.flag .GSE_STATUS_VSIOUV 0 = true →
    Completes (exec (.vsioUndervoltageEnd) s) fun t =>
      t.rd .GSE_STATUS_VSIOUV 0 = 0 ∧ Raises s t 0x170E 0 ∧ t.gse = s.gse)

/-- Antennas and cards (R276 to R281). -/
def Obligations.AntennasFindCards : Prop :=
  -- room
  (∀ (k : Fin 4) (s : State),
    s.isBound (antennaStream k) = false →
    s.hasRoom (antennaStream k) 1 = true →
    (∀ c ∈ s.sch.classes, 1 ≤ c.sps) →
    (∀ x ∈ s.sch.slices, x.stream = 0xFFFF → x.freed = false) →
    Completes (exec (.antennaEnable k) s) fun t =>
      t.rd .CLU_ANTCTL_ANTEN k = 1 ∧ t.rd .CLU_ANTCTL_ADM k = 1 ∧ t.events = s.events ∧ t.clu = s.clu) ∧
  -- bound
  (∀ (k : Fin 4) (s : State),
    s.isBound (antennaStream k) = true →
    Completes (exec (.antennaEnable k) s) fun t =>
      t.rd .CLU_ANTCTL_ANTEN k = 1 ∧ t.rd .CLU_ANTCTL_ADM k = 1 ∧ t.sch = s.sch ∧ t.events = s.events ∧ OnlyFlds [(.CLU_ANTCTL_ANTEN, k), (.CLU_ANTCTL_ADM, k)] s t) ∧
  -- refused
  (∀ (k : Fin 4) (s : State),
    s.isBound (antennaStream k) = false →
    s.hasRoom (antennaStream k) 1 = false →
    Completes (exec (.antennaEnable k) s) fun t =>
      t.rd .CLU_ANTCTL_ANTEN k = 0 ∧ Raises s t 0x1803 (k.val * 256) ∧ Raises s t 0x0501 (antennaStream k)) ∧
  -- off
  (∀ (k : Fin 4) (s : State),
    Completes (exec (.antennaDisable k) s) fun t =>
      t.rd .CLU_ANTCTL_ANTEN k = 0 ∧ t.rd .CLU_ANTCTL_ADM k = 0 ∧ t.isBound (antennaStream k) = false ∧ bit t.clu.active k.val = false ∧ bit t.clu.running k.val = false ∧ t.events = s.events) ∧
  -- card
  (∀ (k : Fin 4) (current reached rate : Nat) (uid : List Nat) (s : State),
    s.flag .CLU_ANTCTL_ADM k = true →
    s.bcu.ember = false →
    s.failed 0x18 = false →
    s.appRuns = true →
    20 ≤ current ∧ current ≤ 250 →
    1 ≤ reached →
    bit (s.rd .CLU_ANTCTL_POLL k) 0 = true →
    bit (s.rd .CLU_ANTCTL_POLL k) 1 = false →
    bit (s.rd .CLU_ANTCTL_POLL k) 2 = false →
    uid.length = 4 ∨ uid.length = 7 ∨ uid.length = 10 →
    Completes (exec (.antennaSlice k ⟨current, reached, [uid], [], [], rate⟩) s) fun t =>
      t.rd .CLU_ANTSTAT_CARDS k = 1 ∧ t.rd .CLU_ANTSTAT_TECH k = 1 ∧ t.rd .CLU_CARD_H_ULEN k = uid.length ∧ t.rd .CLU_CARD_L k = fromLe (uid.take 4) % 2 ^ 32 ∧ bit t.clu.active k.val = true ∧ t.rd .CLU_ANTSTAT_AFAULT k = 0 ∧ lookup 0 t.clu.polledAt k = s.now ∧ Raises s t 0x1801 (k.val * 256 + 1)) ∧
  -- cardB
  (∀ (k : Fin 4) (current reached rate : Nat) (pupi : List Nat) (s : State),
    s.flag .CLU_ANTCTL_ADM k = true →
    s.bcu.ember = false →
    s.failed 0x18 = false →
    s.appRuns = true →
    20 ≤ current ∧ current ≤ 250 →
    1 ≤ reached →
    bit (s.rd .CLU_ANTCTL_POLL k) 0 = false →
    bit (s.rd .CLU_ANTCTL_POLL k) 1 = true →
    bit (s.rd .CLU_ANTCTL_POLL k) 2 = false →
    pupi.length < 16 →
    Completes (exec (.antennaSlice k ⟨current, reached, [], [[.card pupi]], [], rate⟩) s) fun t =>
      t.rd .CLU_ANTSTAT_CARDS k = 1 ∧ t.rd .CLU_ANTSTAT_TECH k = 2 ∧ t.rd .CLU_CARD_H_ULEN k = pupi.length ∧ t.rd .CLU_ANTSTAT_ROUNDS k = 1 ∧ bit t.clu.active k.val = true ∧ Raises s t 0x1801 (k.val * 256 + 2)) ∧
  -- cardV
  (∀ (k : Fin 4) (current reached rate : Nat) (v : VCard) (s : State),
    s.flag .CLU_ANTCTL_ADM k = true →
    s.bcu.ember = false →
    s.failed 0x18 = false →
    s.appRuns = true →
    20 ≤ current ∧ current ≤ 250 →
    1 ≤ reached →
    bit (s.rd .CLU_ANTCTL_POLL k) 0 = false →
    bit (s.rd .CLU_ANTCTL_POLL k) 1 = false →
    bit (s.rd .CLU_ANTCTL_POLL k) 2 = true →
    s.rd .CLU_ANTCTL_AFI k = 0 ∨ v.afi = s.rd .CLU_ANTCTL_AFI k →
    Completes (exec (.antennaSlice k ⟨current, reached, [], [], [v], rate⟩) s) fun t =>
      (fromLe v.uid ≠ tagUid → t.rd .CLU_ANTSTAT_CARDS k = 1 ∧ t.rd .CLU_ANTSTAT_TECH k = 3 ∧ t.rd .CLU_CARD_H_ULEN k = 8 ∧ bit t.clu.active k.val = true ∧ Raises s t 0x1801 (k.val * 256 + 3)) ∧ (fromLe v.uid = tagUid → t.rd .CLU_ANTSTAT_CARDS k = 0 ∧ bit t.clu.active k.val = false ∧ t.events = s.events)) ∧
  -- noCard
  (∀ (k : Fin 4) (current reached rate : Nat) (s : State),
    s.flag .CLU_ANTCTL_ADM k = true →
    s.bcu.ember = false →
    s.failed 0x18 = false →
    s.appRuns = true →
    20 ≤ current ∧ current ≤ 250 →
    1 ≤ reached →
    Completes (exec (.antennaSlice k ⟨current, reached, [], [], [], rate⟩) s) fun t =>
      t.rd .CLU_ANTSTAT_CARDS k = 0 ∧ t.rd .CLU_ANTSTAT_TECH k = 0 ∧ bit t.clu.active k.val = false ∧ t.rd .CLU_ANTSTAT_SLICES k = satInc (2 ^ Fld.width .CLU_ANTSTAT_SLICES - 1) (s.rd .CLU_ANTSTAT_SLICES k) ∧ t.events = s.events) ∧
  -- several
  (∀ (k : Fin 4) (current reached rate : Nat) (a b : List Nat) (s : State),
    s.flag .CLU_ANTCTL_ADM k = true →
    s.bcu.ember = false →
    s.failed 0x18 = false →
    s.appRuns = true →
    20 ≤ current ∧ current ≤ 250 →
    1 ≤ reached →
    bit (s.rd .CLU_ANTCTL_POLL k) 0 = true →
    bit (s.rd .CLU_ANTCTL_POLL k) 1 = false →
    bit (s.rd .CLU_ANTCTL_POLL k) 2 = false →
    a.length = 4 ∨ a.length = 7 ∨ a.length = 10 →
    b.length = 4 ∨ b.length = 7 ∨ b.length = 10 →
    a ≠ b →
    Completes (exec (.antennaSlice k ⟨current, reached, [a, b], [], [], rate⟩) s) fun t =>
      t.rd .CLU_ANTSTAT_CARDS k = 2 ∧ t.rd .CLU_STATUS_MULTI 0 = 1 ∧ bit t.clu.active k.val = false ∧ Raises s t 0x1802 (k.val * 256 + 2)) ∧
  -- fault
  (∀ (k : Fin 4) (r : AntennaResult) (s : State),
    s.flag .CLU_ANTCTL_ADM k = true →
    s.bcu.ember = false →
    s.failed 0x18 = false →
    s.appRuns = true →
    r.current < 20 ∨ 250 < r.current →
    Completes (exec (.antennaSlice k r) s) fun t =>
      t.rd .CLU_ANTSTAT_AFAULT k = 1 ∧ t.rd .CLU_STATUS_AFAULT 0 = 1 ∧ t.rd .CLU_ANTSTAT_CARDS k = 0 ∧ bit t.clu.active k.val = false ∧ Raises s t 0x180C (k.val * 256 + (if r.current < 20 then 1 else 2))) ∧
  -- noSlice
  (∀ (k : Fin 4) (r : AntennaResult) (s : State),
    s.flag .CLU_ANTCTL_ADM k = false ∨ s.bcu.ember = true ∨ s.failed 0x18 = true ∨ s.appRuns = false →
    exec (.antennaSlice k r) s = .next s) ∧
  -- answered
  (∀ (k : Fin 4) (request answer : List Nat) (s : State),
    bit s.clu.active k.val = true →
    s.failed 0x18 = false →
    s.appRuns = true →
    s.bcu.ember = false →
    s.now ≤ s.exchangeEnd k →
    request.length ≤ 256 →
    Completes (exec (.cardExchange k request 0 answer) s) fun t =>
      lookup .none t.clu.cardData k = .data answer ∧ lookup [] t.clu.cardSent k = request ∧ bit t.clu.active k.val = true ∧ bit t.clu.running k.val = false ∧ t.events = s.events ∧ OnlyFlds [] s t) ∧
  -- cardLeft
  (∀ (k : Fin 4) (request answer : List Nat) (s : State),
    bit s.clu.active k.val = true →
    s.failed 0x18 = false →
    s.appRuns = true →
    s.bcu.ember = false →
    s.now ≤ s.exchangeEnd k →
    request.length ≤ 256 →
    Completes (exec (.cardExchange k request 1 answer) s) fun t =>
      bit t.clu.active k.val = false ∧ bit t.clu.running k.val = false ∧ lookup .none t.clu.cardData k = .error ∧ t.events = s.events ∧ OnlyFlds [] s t) ∧
  -- goesOn
  (∀ (k : Fin 4) (request answer : List Nat) (s : State),
    bit s.clu.active k.val = true →
    s.failed 0x18 = false →
    s.appRuns = true →
    s.bcu.ember = false →
    s.now ≤ s.exchangeEnd k →
    request.length ≤ 256 →
    Completes (exec (.cardExchange k request 2 answer) s) fun t =>
      bit t.clu.active k.val = true ∧ bit t.clu.running k.val = true ∧ lookup [] t.clu.cardSent k = request ∧ t.clu.cardData = s.clu.cardData ∧ t.events = s.events ∧ OnlyFlds [] s t) ∧
  -- noExchange
  (∀ (k : Fin 4) (request answer : List Nat) (o : Fin 3) (s : State),
    bit s.clu.active k.val = false ∨ s.failed 0x18 = true ∨ s.appRuns = false ∨ s.bcu.ember = true ∨ s.exchangeEnd k < s.now ∨ 256 < request.length →
    exec (.cardExchange k request o answer) s = .next s) ∧
  -- break
  (∀ (k : Fin 4) (s : State),
    bit s.clu.running k.val = true →
    Completes (exec (.exchangeBreak k) s) fun t =>
      bit t.clu.active k.val = false ∧ bit t.clu.running k.val = false ∧ t.now = max s.now (s.exchangeEnd k) ∧ Raises s t 0x1804 (k.val * 256)) ∧
  -- nothingToBreak
  (∀ (k : Fin 4) (s : State),
    bit s.clu.running k.val = false →
    Completes (exec (.exchangeBreak k) s) fun t =>
      bit t.clu.active k.val = false ∧ t.now = s.now ∧ t.events = s.events ∧ OnlyFlds [] s t)

/-- The tag (R274, R283, R284, R288, R291 to R293). -/
def Obligations.TagAnswersItsCommands : Prop :=
  -- fieldOn
  (∀ (s : State),
    s.flag .CLU_TSTATE_FIELD 0 = false →
    Completes (exec (.tagFieldOn) s) fun t =>
      t.rd .CLU_TSTATE_FIELD 0 = 1 ∧ t.rd .CLU_TSTATE_TSTATE 0 = 1 ∧ t.clu.quiet = false ∧ t.clu.selected = false ∧ t.clu.auth = none ∧ t.events = s.events ∧ OnlyFlds [(.CLU_TSTATE_FIELD, 0), (.CLU_TSTATE_TSTATE, 0)] s t) ∧
  -- fieldLoss
  (∀ (s : State),
    Completes (exec (.tagFieldLoss) s) fun t =>
      t.rd .CLU_TSTATE_FIELD 0 = 0 ∧ t.rd .CLU_TSTATE_TSTATE 0 = 0 ∧ t.clu.quiet = false ∧ t.clu.selected = false ∧ t.clu.auth = none ∧ t.events = s.events ∧ OnlyFlds [(.CLU_TSTATE_FIELD, 0), (.CLU_TSTATE_TSTATE, 0)] s t) ∧
  -- powerUp
  (∀ (s : State),
    s.clu.block 0x7F2 ≠ 0xA5 →
    Completes (exec (.tagPowerUp true) s) fun t =>
      t.rd .CLU_TSTATE_RESOK 0 = 1 ∧ t.clu = { s.clu with ready := true } ∧ t.events = s.events ∧ OnlyFlds [(.CLU_TSTATE_RESOK, 0)] s t) ∧
  -- recovered
  (∀ (s : State),
    s.clu.block 0x7F2 = 0xA5 →
    s.clu.block 0x7F1 / 65536 = Config.journalCrc (s.clu.block 0x7F0) (s.clu.block 0x7F1 % 65536) % 65536 →
    s.clu.block 0x7F1 % 65536 < 0x7F0 →
    s.bcu.phase ≠ .off →
    s.clu.block 0x7F0 < 2 ^ 32 →
    Completes (exec (.tagPowerUp true) s) fun t =>
      t.clu.block (s.clu.block 0x7F1 % 65536) = s.clu.block 0x7F0 ∧ t.clu.block 0x7F2 = 0 ∧ t.clu.ready = true ∧ Raises s t 0x1809 (s.clu.block 0x7F1 % 65536)) ∧
  -- mute
  (∀ (s : State),
    Completes (exec (.tagPowerUp false) s) fun t =>
      t.rd .CLU_TSTATE_RESOK 0 = 0 ∧ t.clu = { s.clu with ready := false } ∧ t.events = s.events ∧ OnlyFlds [(.CLU_TSTATE_RESOK, 0)] s t) ∧
  -- inventory
  (∀ (q : TagRequest) (mask len : Nat) (afi : Option Nat) (s : State),
    s.tagHears q = true →
    s.clu.quiet = false →
    inventoryMeets mask len afi = true →
    Completes (exec (.inventory q mask len afi) s) fun t =>
      t.clu = { s.clu with answers := s.clu.answers ++ [.uid 0 tagUid], auth := none } ∧ t.events = s.events ∧ OnlyFlds [] s t) ∧
  -- inventoryOther
  (∀ (q : TagRequest) (mask len : Nat) (afi : Option Nat) (s : State),
    s.clu.quiet = true ∨ inventoryMeets mask len afi = false →
    exec (.inventory q mask len afi) s = .next (s.setClu { s.clu with auth := none })) ∧
  -- stayQuiet
  (∀ (q : TagRequest) (s : State),
    s.tagHears q = true →
    Completes (exec (.stayQuiet q) s) fun t =>
      t.clu = { s.clu with quiet := true, selected := false, answers := s.clu.answers ++ [.ok], auth := none } ∧ t.events = s.events ∧ OnlyFlds [] s t) ∧
  -- select
  (∀ (q : TagRequest) (s : State),
    s.tagHears q = true →
    Completes (exec (.select q) s) fun t =>
      t.clu = { s.clu with quiet := false, selected := true, answers := s.clu.answers ++ [.ok], auth := none } ∧ t.events = s.events ∧ OnlyFlds [] s t) ∧
  -- resetToReady
  (∀ (q : TagRequest) (s : State),
    s.tagHears q = true →
    Completes (exec (.resetToReady q) s) fun t =>
      t.clu = { s.clu with quiet := false, selected := false, answers := s.clu.answers ++ [.ok], auth := none } ∧ t.events = s.events ∧ OnlyFlds [] s t) ∧
  -- readOne
  (∀ (q : TagRequest) (block : BitVec 16) (s : State),
    s.tagHears q = true →
    s.readError block.toNat = none →
    Completes (exec (.readSingleBlock q block) s) fun t =>
      t.clu = { s.clu with answers := s.clu.answers ++ [.data [s.clu.block block.toNat]], auth := none } ∧ t.rd .CLU_TCOUNT_READS 0 = satInc (2 ^ Fld.CLU_TCOUNT_READS.width - 1) (s.rd .CLU_TCOUNT_READS 0) ∧ t.events = s.events ∧ OnlyFlds [(.CLU_TCOUNT_READS, 0)] s t) ∧
  -- readRefused
  (∀ (q : TagRequest) (block : BitVec 16) (e : Nat) (s : State),
    s.tagHears q = true →
    s.readError block.toNat = some e →
    Completes (exec (.readSingleBlock q block) s) fun t =>
      t.clu = { s.clu with answers := s.clu.answers ++ [.error e], auth := none } ∧ t.events = s.events ∧ OnlyFlds [] s t) ∧
  -- readMany
  (∀ (q : TagRequest) (block count : BitVec 16) (s : State),
    s.tagHears q = true →
    (∀ b, b < min count.toNat 2048 → s.readError (block.toNat + b) = none) →
    Completes (exec (.readMultipleBlocks q block count) s) fun t =>
      t.clu = { s.clu with answers := s.clu.answers ++ [.data ((List.range (min count.toNat 2048)).map fun b => s.clu.block (block.toNat + b))], auth := none } ∧ t.events = s.events ∧ OnlyFlds [(.CLU_TCOUNT_READS, 0)] s t) ∧
  -- write
  (∀ (q : TagRequest) (block : BitVec 16) (value : BitVec 32) (s : State),
    s.tagHears q = true →
    0x400 ≤ block.toNat →
    block.toNat < 0x600 →
    s.secured = true →
    Completes (exec (.writeSingleBlock q block value true none) s) fun t =>
      t.clu.block block.toNat = value.toNat ∧ t.clu.block 0x7F2 = 0 ∧ (∀ b, b < 0x7F0 → b ≠ block.toNat → t.clu.block b = s.clu.block b) ∧ t.clu.answers = s.clu.answers ++ [.ok] ∧ t.events = s.events ∧ OnlyFlds [(.CLU_TSTATE_RESOK, 0), (.CLU_TCOUNT_WRITES, 0)] s t) ∧
  -- writeCutShort
  (∀ (q : TagRequest) (block : BitVec 16) (value : BitVec 32) (c : WriteCut) (s : State),
    s.tagHears q = true →
    0x400 ≤ block.toNat →
    block.toNat < 0x600 →
    s.secured = true →
    c = .fieldLoss ∨ s.bcu.phase ≠ .off →
    Completes (exec (.writeSingleBlock q block value true (some c)) s) fun t =>
      t.clu.block block.toNat = value.toNat ∧ t.clu.block 0x7F2 = 0 ∧ t.clu.answers = s.clu.answers ∧ t.rd .CLU_TSTATE_FIELD 0 = 0 ∧ t.rd .CLU_TSTATE_TSTATE 0 = 0 ∧ t.events = s.events) ∧
  -- noEnergy
  (∀ (q : TagRequest) (block : BitVec 16) (value : BitVec 32) (c : Option WriteCut) (s : State),
    s.tagHears q = true →
    0x400 ≤ block.toNat →
    block.toNat < 0x600 →
    s.secured = true →
    s.bcu.phase ≠ .off →
    Completes (exec (.writeSingleBlock q block value false c) s) fun t =>
      t.clu = { s.clu with answers := s.clu.answers ++ [.error 0xA2], auth := none } ∧ t.rd .CLU_STATUS_TAGREF 0 = 1 ∧ Raises s t 0x1808 block.toNat) ∧
  -- protected
  (∀ (q : TagRequest) (block : BitVec 16) (value : BitVec 32) (res : Bool) (c : Option WriteCut) (s : State),
    s.tagHears q = true →
    2 ≤ block.toNat →
    block.toNat < 0x400 →
    Completes (exec (.writeSingleBlock q block value res c) s) fun t =>
      t.clu = { s.clu with answers := s.clu.answers ++ [.error (if s.flag .CLU_TGATE_HOLDACK 0 then 0xA1 else 0x12)], auth := none } ∧ t.events = s.events ∧ OnlyFlds [(.CLU_TSTATE_RESOK, 0)] s t) ∧
  -- systemInformation
  (∀ (q : TagRequest) (s : State),
    s.tagHears q = true →
    Completes (exec (.getSystemInformation q) s) fun t =>
      t.clu = { s.clu with answers := s.clu.answers ++ [.system tagUid 0 0 2048 4], auth := none } ∧ t.events = s.events ∧ OnlyFlds [] s t) ∧
  -- unsupported
  (∀ (q : TagRequest) (s : State),
    s.tagHears q = true →
    Completes (exec (.unsupportedTagCommand q) s) fun t =>
      t.clu = { s.clu with answers := s.clu.answers ++ [.error 1], auth := none } ∧ t.events = s.events ∧ OnlyFlds [] s t) ∧
  -- logout
  (∀ (q : TagRequest) (s : State),
    s.tagHears q = true →
    q.ic = Config.icCode % 256 →
    Completes (exec (.tlogout q) s) fun t =>
      t.clu = { s.clu with answers := s.clu.answers ++ [.ok], auth := none } ∧ t.rd .CLU_TSTATE_TSTATE 0 = 1 ∧ t.events = s.events ∧ OnlyFlds [(.CLU_TSTATE_TSTATE, 0)] s t) ∧
  -- status
  (∀ (q : TagRequest) (s : State),
    s.tagHears q = true →
    q.ic = Config.icCode % 256 →
    Completes (exec (.tstat q) s) fun t =>
      t.clu = { s.clu with answers := s.clu.answers ++ [.status (s.rd .CLU_TSTATE_TSTATE 0) (s.rd .CLU_TSTATE_TFAIL 0) Config.tagVersion], auth := none } ∧ t.events = s.events ∧ OnlyFlds [] s t) ∧
  -- deaf
  (∀ (q : TagRequest) (b c : BitVec 16) (v : BitVec 32) (res : Bool) (w : Option WriteCut) (s : State),
    s.tagHears q = false →
    exec (.stayQuiet q) s = .next (s.setClu { s.clu with auth := none }) ∧ exec (.resetToReady q) s = .next (s.setClu { s.clu with auth := none }) ∧ exec (.readSingleBlock q b) s = .next (s.setClu { s.clu with auth := none }) ∧ exec (.readMultipleBlocks q b c) s = .next (s.setClu { s.clu with auth := none }) ∧ exec (.writeSingleBlock q b v res w) s = .next (s.setClu { s.clu with auth := none }) ∧ exec (.getSystemInformation q) s = .next (s.setClu { s.clu with auth := none }) ∧ exec (.unsupportedTagCommand q) s = .next (s.setClu { s.clu with auth := none }) ∧ exec (.tlogout q) s = .next (s.setClu { s.clu with auth := none }) ∧ exec (.tstat q) s = .next (s.setClu { s.clu with auth := none })) ∧
  -- otherCode
  (∀ (q : TagRequest) (p : BitVec 32) (key : BitVec 8) (ra : BitVec 64) (x : BitVec 128) (s : State),
    q.ic ≠ Config.icCode % 256 ∨ s.tagHears q = false →
    exec (.tpwd q p) s = .next (s.setClu { s.clu with auth := none }) ∧ exec (.tauth1 q key ra) s = .next (s.setClu { s.clu with auth := none }) ∧ exec (.tauth2 q x) s = .next (s.setClu { s.clu with auth := none }) ∧ exec (.tlogout q) s = .next (s.setClu { s.clu with auth := none }) ∧ exec (.tstat q) s = .next (s.setClu { s.clu with auth := none })) ∧
  -- deafSelect
  (∀ (q : TagRequest) (s : State),
    s.tagHears q = false →
    Completes (exec (.select q) s) fun t =>
      t.clu.answers = s.clu.answers ∧ t.clu.auth = none ∧ t.clu.quiet = s.clu.quiet ∧ (t.clu.selected = true → s.clu.selected = true) ∧ t.events = s.events ∧ OnlyFlds [] s t)

/-- Authentication and host access (R284, R286, R288 to R290, R293). -/
def Obligations.TagAuthenticationAndGate : Prop :=
  -- locked
  (∀ (q : TagRequest) (password : BitVec 32) (s : State),
    s.tagHears q = true →
    q.ic = Config.icCode % 256 →
    s.flag .CLU_TSTATE_LOCKED 0 = true →
    Completes (exec (.tpwd q password) s) fun t =>
      t.clu = { s.clu with answers := s.clu.answers ++ [.error 0xA3], auth := none } ∧ t.events = s.events ∧ OnlyFlds [] s t) ∧
  -- password
  (∀ (q : TagRequest) (password : BitVec 32) (s : State),
    s.tagHears q = true →
    q.ic = Config.icCode % 256 →
    s.flag .CLU_TSTATE_LOCKED 0 = false →
    s.flag .CLU_TCFG_PWDEN 0 = true →
    s.clu.pwd = password.toNat →
    password.toNat ≠ 0 →
    s.bcu.phase ≠ .off →
    Completes (exec (.tpwd q password) s) fun t =>
      t.rd .CLU_TSTATE_TSTATE 0 = 2 ∧ t.rd .CLU_TSTATE_TFAIL 0 = 0 ∧ t.clu.answers = s.clu.answers ++ [.ok] ∧ Raises s t 0x1805 1) ∧
  -- wrong
  (∀ (q : TagRequest) (password : BitVec 32) (s : State),
    s.tagHears q = true →
    q.ic = Config.icCode % 256 →
    s.flag .CLU_TSTATE_LOCKED 0 = false →
    s.flag .CLU_TCFG_PWDEN 0 = true →
    s.clu.pwd ≠ password.toNat →
    s.clu.pwd ≠ 0 →
    s.rd .CLU_TSTATE_TFAIL 0 < 7 →
    s.bcu.phase ≠ .off →
    Completes (exec (.tpwd q password) s) fun t =>
      t.rd .CLU_TSTATE_TSTATE 0 = 1 ∧ t.rd .CLU_TSTATE_TFAIL 0 = s.rd .CLU_TSTATE_TFAIL 0 + 1 ∧ t.rd .CLU_STATUS_AUTHF 0 = 1 ∧ t.rd .CLU_TSTATE_LOCKED 0 = 0 ∧ t.clu.answers = s.clu.answers ++ [.error 0xA4] ∧ Raises s t 0x1806 (s.rd .CLU_TSTATE_TFAIL 0 + 1)) ∧
  -- lockout
  (∀ (q : TagRequest) (password : BitVec 32) (s : State),
    s.tagHears q = true →
    q.ic = Config.icCode % 256 →
    s.flag .CLU_TSTATE_LOCKED 0 = false →
    s.flag .CLU_TCFG_PWDEN 0 = true →
    s.clu.pwd ≠ password.toNat →
    s.clu.pwd ≠ 0 →
    7 ≤ s.rd .CLU_TSTATE_TFAIL 0 →
    s.bcu.phase ≠ .off →
    Completes (exec (.tpwd q password) s) fun t =>
      t.rd .CLU_TSTATE_TFAIL 0 = 8 ∧ t.rd .CLU_TSTATE_LOCKED 0 = 1 ∧ t.rd .CLU_STATUS_LOCKOUT 0 = 1 ∧ Raises s t 0x1807 0) ∧
  -- challenge
  (∀ (q : TagRequest) (ra : BitVec 64) (s : State),
    s.tagHears q = true →
    q.ic = Config.icCode % 256 →
    s.flag .CLU_TSTATE_LOCKED 0 = false →
    s.flag .CLU_TCFG_AUTHEN 0 = true →
    s.clu.key ≠ 0 →
    Completes (exec (.tauth1 q 0 ra) s) fun t =>
      t.clu.auth.map (·.1) = some ra.toNat ∧ t.clu.answers = s.clu.answers ++ [.auth ((t.clu.auth.map (·.2)).getD 0) (aes128 s.clu.key (ra.toNat * 2 ^ 64 + (t.clu.auth.map (·.2)).getD 0))] ∧ t.events = s.events ∧ OnlyFlds [] s t) ∧
  -- proof
  (∀ (q : TagRequest) (cipher : BitVec 128) (ra rb : Nat) (s : State),
    s.tagHears q = true →
    q.ic = Config.icCode % 256 →
    s.flag .CLU_TSTATE_LOCKED 0 = false →
    s.flag .CLU_TCFG_AUTHEN 0 = true →
    s.clu.key ≠ 0 →
    s.clu.auth = some (ra, rb) →
    s.bcu.phase ≠ .off →
    Completes (exec (.tauth2 q cipher) s) fun t =>
      (if cipher.toNat = aes128 s.clu.key (rb * 2 ^ 64 + ra) then t.rd .CLU_TSTATE_TSTATE 0 = 3 ∧ t.rd .CLU_TSTATE_TFAIL 0 = 0 ∧ Raises s t 0x1805 2 else t.rd .CLU_TSTATE_TSTATE 0 = 1 ∧ t.rd .CLU_TSTATE_TFAIL 0 = min 8 (s.rd .CLU_TSTATE_TFAIL 0 + 1)) ∧ t.clu.auth = none) ∧
  -- hold
  (∀ (s : State),
    Completes (exec (.hold true) s) fun t =>
      t.rd .CLU_TGATE_HOLD 0 = 1 ∧ t.rd .CLU_TGATE_HOLDACK 0 = 1 ∧ t.clu.holdT = some (s.clu.holdT.getD (s.now + 100000000)) ∧ t.events = s.events ∧ OnlyFlds [(.CLU_TGATE_HOLD, 0), (.CLU_TGATE_HOLDACK, 0)] s t) ∧
  -- release
  (∀ (s : State),
    Completes (exec (.hold false) s) fun t =>
      t.rd .CLU_TGATE_HOLD 0 = 0 ∧ t.rd .CLU_TGATE_HOLDACK 0 = 0 ∧ t.clu.holdT = none ∧ t.events = s.events ∧ OnlyFlds [(.CLU_TGATE_HOLD, 0), (.CLU_TGATE_HOLDACK, 0)] s t) ∧
  -- holdTimeout
  (∀ (t0 : Nat) (s : State),
    s.clu.holdT = some t0 →
    Completes (exec (.holdTimeout) s) fun t =>
      t.rd .CLU_TGATE_HOLD 0 = 0 ∧ t.rd .CLU_TGATE_HOLDACK 0 = 0 ∧ t.rd .CLU_STATUS_GATEOVR 0 = 1 ∧ t.clu.holdT = none ∧ t.now = max s.now t0 ∧ Raises s t 0x180A 0) ∧
  -- ndef
  (∀ (s : State),
    s.appRuns = true →
    s.failed 0x18 = false →
    Completes (exec (.ndefRewrite none) s) fun t =>
      (∀ i, i < (wordsOf 1022 (s.ndefBytes false)).length → t.clu.block (2 + i) = (wordsOf 1022 (s.ndefBytes false)).getD i 0 % 2 ^ 32) ∧ t.rd .CLU_TGATE_HOLD 0 = 0 ∧ t.rd .CLU_TGATE_HOLDACK 0 = 0 ∧ t.clu.holdT = none ∧ t.clu.ndefDue = false ∧ (∀ b, b < 0x800 → b < 2 ∨ 0x400 ≤ b → t.clu.block b = s.clu.block b) ∧ t.events = s.events ∧ OnlyFlds [(.CLU_TGATE_HOLD, 0), (.CLU_TGATE_HOLDACK, 0)] s t) ∧
  -- ndefCut
  (∀ (k : Fin 3) (s : State),
    s.appRuns = true →
    s.failed 0x18 = false →
    Completes (exec (.ndefRewrite (some k)) s) fun t =>
      t.clu.ndefDue = true ∧ t.rd .CLU_TGATE_HOLDACK 0 = 1 ∧ (1 ≤ k.val → t.clu.block 2 = (wordsOf 1022 (s.ndefBytes true)).getD 0 0 % 2 ^ 32) ∧ t.events = s.events ∧ OnlyFlds [(.CLU_TGATE_HOLD, 0), (.CLU_TGATE_HOLDACK, 0)] s t) ∧
  -- loadpwd
  (∀ (loss : Bool) (s : State),
    Completes (exec (.loadpwd loss) s) fun t =>
      (loss = false → t.clu.pwd = s.rd .CLU_TPWD_PWD 0) ∧ (t.clu.pwd = s.rd .CLU_TPWD_PWD 0 ∨ t.clu.pwd = s.clu.pwd) ∧ t.clu.key = s.clu.key ∧ t.clu.block 0x7F2 = 0 ∧ t.rd .CLU_TPWD_PWD 0 = 0 ∧ t.events = s.events ∧ OnlyFlds [(.CLU_TPWD_PWD, 0)] s t) ∧
  -- loadkey
  (∀ (loss : Bool) (k : Nat) (s : State),
    k = s.rd .CLU_TKEY_KEY 0 + 2 ^ 32 * s.rd .CLU_TKEY_KEY 1 + 2 ^ 64 * s.rd .CLU_TKEY_KEY 2 + 2 ^ 96 * s.rd .CLU_TKEY_KEY 3 →
    Completes (exec (.loadkey loss) s) fun t =>
      (loss = false → t.clu.key = k) ∧ (t.clu.key = k ∨ t.clu.key = s.clu.key) ∧ t.clu.pwd = s.clu.pwd ∧ t.clu.block 0x7F2 = 0 ∧ (∀ n, n < 4 → t.rd .CLU_TKEY_KEY n = 0) ∧ t.events = s.events ∧ OnlyFlds [(.CLU_TKEY_KEY, 0), (.CLU_TKEY_KEY, 1), (.CLU_TKEY_KEY, 2), (.CLU_TKEY_KEY, 3)] s t) ∧
  -- tfailclr
  (∀ (s : State),
    Completes (exec (.tfailclr) s) fun t =>
      t.rd .CLU_TSTATE_TFAIL 0 = 0 ∧ t.rd .CLU_TSTATE_LOCKED 0 = 0 ∧ t.clu = s.clu ∧ t.events = s.events ∧ OnlyFlds [(.CLU_TSTATE_TFAIL, 0), (.CLU_TSTATE_LOCKED, 0)] s t) ∧
  -- hostWrite
  (∀ (off : BitVec 13) (value : BitVec 32) (s : State),
    2 ≤ off.toNat / 4 →
    off.toNat / 4 < 0x7E0 →
    Completes (exec (.tagMemoryHostWrite off value) s) fun t =>
      t.clu.block (off.toNat / 4) = value.toNat ∧ t.clu.ready = true ∧ (s.clu.ready = true → (∀ b, b < 0x800 → b ≠ off.toNat / 4 → t.clu.block b = s.clu.block b) ∧ t.events = s.events ∧ t.regs = s.regs)) ∧
  -- hostDiscard
  (∀ (off : BitVec 13) (value : BitVec 32) (s : State),
    off.toNat / 4 < 2 ∨ 0x7E0 ≤ off.toNat / 4 →
    s.clu.ready = true →
    Completes (exec (.tagMemoryHostWrite off value) s) fun t =>
      t.clu = s.clu ∧ t.regs = s.regs ∧ Raises s t 0x180B off.toNat) ∧
  -- keyAreaReadsZero
  (∀ (off : Nat) (s : State),
    0x7E0 ≤ off / 4 →
    off / 4 < 0x7F0 →
    s.tagHostRead off = 0) ∧
  -- elsewhereReads
  (∀ (off : Nat) (s : State),
    off / 4 < 0x7E0 ∨ 0x7F0 ≤ off / 4 →
    s.tagHostRead off = s.clu.block (off / 4))

/-- The ledger (R325 to R327, R329, R330, R334, R335, R342). Which of the two contents an overwritten slot of a page shows is a free value of the model. -/
def Obligations.LedgerTakesAndCommitsRecords : Prop :=
  -- request
  (∀ (cls : Fin 3) (recs : List RecData) (s : State),
    recs ≠ [] →
    recs.length ≤ 26 →
    recs.all (fun r => recordFits cls.val r.type) = true →
    cls.val ≠ 0 ∨ queuedRecords s.lgs.queue < 1024 →
    Completes (exec (.ledgerGroupRequest cls recs) s) fun t =>
      t.lgs = { s.lgs with queue := s.lgs.queue ++ [⟨cls.val, s.now, recs.map fun r => ⟨r.type, s.ltime, r.fields⟩⟩] } ∧ t.events = s.events ∧ OnlyFlds [] s t) ∧
  -- dropped
  (∀ (recs : List RecData) (s : State),
    recs ≠ [] →
    recs.length ≤ 26 →
    recs.all (fun r => recordFits 0 r.type) = true →
    1024 ≤ queuedRecords s.lgs.queue →
    Completes (exec (.ledgerGroupRequest 0 recs) s) fun t =>
      t.lgs.queue = s.lgs.queue ∧ t.lgs.dropPending = s.lgs.dropPending + recs.length ∧ t.rd .LGS_STATUS_DROP 0 = 1 ∧ t.rd .LGS_COUNT_DROPPED 0 = min 0xFFFF (s.rd .LGS_COUNT_DROPPED 0 + recs.length) ∧ Raises s t 0x1507 (min (s.lgs.dropPending + recs.length) 0xFFFF) ∧ OnlyFlds dropFlds s t) ∧
  -- noGroup
  (∀ (cls : Fin 3) (recs : List RecData) (s : State),
    (recs = [] ∨ 26 < recs.length ∨ ∃ r ∈ recs, recordFits cls.val r.type = false) →
    exec (.ledgerGroupRequest cls recs) s = .next s) ∧
  -- commit
  (∀ (g : Group) (q : ReqRec) (s : State),
    s.lgs.accepting = true →
    s.lgs.queue = [g] →
    g.recs = [q] →
    g.cls < 3 →
    q.type ≠ 0x26 →
    s.stuck g = false →
    s.failed 0x15 = false →
    s.nextSeq + 1 < 2 ^ 48 →
    Completes (exec (.ledgerCommit) s) fun t =>
      t.nextSeq = s.nextSeq + 1 ∧ t.lgs.taken (regionOf g.cls) = s.lgs.taken (regionOf g.cls) + 1 ∧ t.lgs.slot (regionOf g.cls) (s.lgs.taken (regionOf g.cls) % regionSize (regionOf g.cls)) = some ⟨s.nextSeq, q.type, g.cls + 4 * b2n (s.rd .BLU_TIME_VALID 0 == 0), q.ltime, q.fields⟩) ∧
  -- closed
  (∀ (s : State),
    s.lgs.accepting = false →
    exec .ledgerCommit s = .next s) ∧
  -- tick
  (∀ (s : State),
    s.bcu.counting = true →
    s.tickPeriod ≠ 0 →
    Completes (exec (.meterTick) s) fun t =>
      t.lgs.tickAt = s.tickNext ∧ ∀ u : State, u = (if s.meu.lastBoundary = some (s.boundaryFrom (s.whenLtime s.tickNext)) ∨ s.boundaryFrom (s.whenLtime s.tickNext) < s.now then s.moveTo (s.boundaryFrom (s.whenLtime s.tickNext)) else s.actBoundary (s.boundaryFrom (s.whenLtime s.tickNext))) → t.lgs.queue = u.lgs.queue ++ u.outlets.map fun n => ⟨1, u.now, [u.tickRecord n]⟩) ∧
  -- tickAfterBoundary
  (∀ (s : State),
    s.bcu.counting = true →
    s.tickPeriod ≠ 0 →
    s.meu.lastBoundary = some (s.boundaryFrom (s.whenLtime s.tickNext)) →
    Completes (exec (.meterTick) s) fun t =>
      t.lgs.tickAt % s.tickPeriod = 0 ∧ s.lgs.tickAt < t.lgs.tickAt ∧ s.ltime ≤ t.lgs.tickAt ∧ t.lgs.queue.length = s.lgs.queue.length + s.outlets.length ∧ s.now ≤ t.now ∧ t.events = s.events ∧ OnlyFlds [] s t) ∧
  -- noTick
  (∀ (s : State),
    s.bcu.counting = false ∨ s.tickPeriod = 0 →
    exec .meterTick s = .next s) ∧
  -- near
  (∀ (s : State),
    s.retainedLow = true →
    (s.lgs.nearAt.map fun a => decide (a + ledgerDay ≤ s.ltime)).getD true = true →
    Completes (exec (.retainedNearLimit) s) fun t =>
      t.lgs.nearAt = some s.ltime ∧ t.rd .LGS_STATUS_RETLOW 0 = 1 ∧ Raises s t 0x1508 (((oldestOf (s.lgs.records 1)).map fun r => s.age r / ledgerDay).getD 0 % 65536)) ∧
  -- notNear
  (∀ (s : State),
    s.retainedLow = false →
    Completes (exec (.retainedNearLimit) s) fun t =>
      t.rd .LGS_STATUS_RETLOW 0 = 0 ∧ t.lgs = s.lgs ∧ t.events = s.events) ∧
  -- page
  (∀ (region : Fin 4) (slot : BitVec 26) (s : State),
    Completes (exec (.pageCopy region slot) s) fun t =>
      t.rd .LGS_PAGE_REGION 0 = min 2 region.val ∧ t.rd .LGS_PAGE_SLOT 0 = slot.toNat ∧ t.rd .LGS_PAGESTAT_BUSY 0 = 1 ∧ t.rd .LGS_PAGESTAT_BADCRC 0 = 0 ∧ t.lgs.page = t.pageNow ∧ t.events = s.events) ∧
  -- pageDone
  (∀ (s : State),
    s.rd .LGS_PAGESTAT_BUSY 0 ≠ 0 →
    Completes (exec (.pageCopyDone []) s) fun t =>
      t.rd .LGS_PAGESTAT_BUSY 0 = 0 ∧ t.rd .LGS_PAGESTAT_BADCRC 0 = 0 ∧ (∀ p, lookup none t.lgs.page p = lookup none s.lgs.page p ∨ lookup none t.lgs.page p = lookup none s.pageNow p) ∧ t.events = s.events ∧ OnlyFlds [(.LGS_PAGESTAT_BUSY, 0), (.LGS_PAGESTAT_BADCRC, 0)] s t) ∧
  -- pageBad
  (∀ (p : Nat) (l : List Nat) (s : State),
    s.rd .LGS_PAGESTAT_BUSY 0 ≠ 0 →
    p < 4096 →
    l.length = 64 →
    badCrc l = true →
    (s.lgs.page.any fun e => e.1 == p) = true →
    Completes (exec (.pageCopyDone [(p, l)]) s) fun t =>
      t.rd .LGS_PAGESTAT_BUSY 0 = 0 ∧ t.rd .LGS_PAGESTAT_BADCRC 0 = 1 ∧ t.rd .LGS_STATUS_CRCERR 0 = 1 ∧ t.lgs.pageBytes p = l ∧ Raises s t 0x1506 (s.rd .LGS_PAGE_REGION 0 % 256 * 256 + 1))

/-- Rounds (R349, R350, R352, R353, R359 to R361) and codes (R356, R357). -/
def Obligations.AfrilRoundsAndPasses : Prop :=
  -- start
  (∀ (s : State),
    s.alkRuns = true →
    s.alk.pass = none →
    s.wide = true →
    Completes (exec (.roundStart) s) fun t =>
      t.alk.pass = some 0 ∧ t.alk.startAt = some t.now ∧ t.now = max s.now ((s.alk.startAt.map (· + 200000000)).getD s.now) ∧ t.alk.exchanges.map (·.node) = s.polled ∧ t.alk.failed = [] ∧ t.alk.repolls = 0) ∧
  -- startBandC
  (∀ (s : State),
    s.alkRuns = true →
    s.alk.pass = none →
    s.wide = false →
    Completes (exec (.roundStart) s) fun t =>
      t.alk.pass = some 0 ∧ t.alk.startAt = some s.now ∧ t.alk.failed = [] ∧ t.alk.repolls = 0 ∧ t.now = s.now) ∧
  -- noRound
  (∀ (ups : List AlkUp) (s : State),
    s.alkRuns = false →
    exec .roundStart s = .next s ∧ exec (.pass ups) s = .next s) ∧
  -- pass
  (∀ (ups : List AlkUp) (k : Nat) (s : State),
    s.alk.pass = some k →
    s.alkRuns = true →
    s.wide = true →
    k < wideP s.spanMs →
    s.alk.seq < 256 →
    Completes (exec (.pass ups) s) fun t =>
      t.alk.pass = some (k + 1) ∧ t.alk.tx.map (fun x => x.header % 2 ^ 11) = some (s.alk.seq + 256 * k) ∧ t.now = max s.now (s.alk.startAt.getD s.now + (k + 1) * s.passLen)) ∧
  -- relayed
  (∀ (ups : List AlkUp) (n k j h : Nat) (s : State),
    s.alk.pass = some k →
    s.alkRuns = true →
    s.wide = true →
    k < wideP s.spanMs →
    s.alk.exchanges = [⟨n, j, h, false⟩] →
    j < k →
    k < j + h →
    Completes (exec (.pass ups) s) fun t =>
      ∃ x, t.alk.tx = some x ∧ (∀ w, w ∈ x.words → 96 ≤ w.1) ∧ s.codeOf k n = 0) ∧
  -- answered
  (∀ (u : AlkUp) (p : AlkPay) (k : Nat) (s : State),
    s.alk.pass = some k →
    s.alkRuns = true →
    s.wide = true →
    k < wideP s.spanMs →
    s.alk.exchanges = [⟨u.node, k, 1, false⟩] →
    readWords s.spanMs u.words u.flagged = some p →
    u.words.length * carrierBits s.spanMs = s.payBits u.node →
    p.type = 0 →
    Completes (exec (.pass [u]) s) fun t =>
      (t.anode u.node).failRounds = 0 ∧ (t.anode u.node).more = p.more ∧ (t.anode u.node).resend = false ∧ t.alk.failed = s.alk.failed ∧ (s.nodeState u.node = 3 → t.nodeState u.node = 2)) ∧
  -- lost
  (∀ (n k : Nat) (s : State),
    s.alk.pass = some k →
    s.alkRuns = true →
    s.wide = true →
    k < wideP s.spanMs →
    s.alk.exchanges = [⟨n, k, 1, false⟩] →
    3 ≤ (s.anode n).repolls →
    s.alk.bq = [] →
    Completes (exec (.pass []) s) fun t =>
      t.alk.failed = s.alk.failed ++ [n] ∧ (t.anode n).resend = true ∧ t.events = s.events) ∧
  -- end
  (∀ (k : Nat) (s : State),
    s.alk.pass = some k →
    Completes (exec (.roundEnd) s) fun t =>
      t.alk.pass = none ∧ t.alk.exchanges = [] ∧ t.alk.failed = [] ∧ t.alk.burstEnd = none ∧ t.alk.seq = (s.alk.seq + 1) % 256 ∧ t.rd .ALK_ROUND_SEQ 0 = s.alk.seq % 256 ∧ t.rd .ALK_ROUND_PASSES 0 = k % 2 ^ Fld.ALK_ROUND_PASSES.width) ∧
  -- nodeLost
  (∀ (k : Nat) (n : Fin 63) (s : State),
    s.alk.pass = some k →
    n.val ∈ s.alk.failed →
    (s.anode n).failRounds = 2 →
    (s.anode n).repolls ≤ 3 →
    s.nodeState n = 2 →
    Completes (exec (.roundEnd) s) fun t =>
      t.nodeState n = 3 ∧ t.rd .ALK_STATUS_NODELOST 0 = 1 ∧ (t.anode n).failRounds = 3 ∧ Raises s t 0x1A04 (n.val * 256 + (s.anode n).repolls) ∧ Raises s t 0x1A02 (n.val * 256 + 3)) ∧
  -- noEnd
  (∀ (s : State),
    s.alk.pass = none →
    exec .roundEnd s = .next s) ∧
  -- burst
  (∀ (deferMs : Nat) (s : State),
    s.alkRuns = true →
    s.wide = false →
    s.alk.burstEnd = none →
    Completes (exec (.bandCBurst deferMs) s) fun t =>
      t.now = (match s.alk.lastBurst with | none => s.now + 85000000 | some e => max s.now (e + 125000000)) + deferMs * 1000000 ∧ t.alk.burstEnd = some (t.now + 1000000000) ∧ (0 < deferMs → Raises s t 0x1A0A (min 0xFF (deferMs / 10)))) ∧
  -- rs16
  (∀ (info : List Nat),
    info.length = 8 →
    (∀ x ∈ info, x < 32) →
    rsDecode 16 8 (rsEncode 16 8 info) [] = some info) ∧
  -- rs8
  (∀ (info : List Nat),
    info.length = 4 →
    (∀ x ∈ info, x < 32) →
    rsDecode 8 4 (rsEncode 8 4 info) [] = some info) ∧
  -- tooMany
  (∀ (n k : Nat) (word erased : List Nat),
    n - k < ((List.range n).filter fun j => erased.contains j).length →
    rsDecode n k word erased = none) ∧
  -- payload
  (∀ (p : AlkPay) (size : Nat),
    p.type < 16 →
    p.seg < 4 →
    p.mid.length + 16 = size →
    readPay (p.toBits size) = some p)

/-- Joining and restart (R365, R368, R369). -/
def Obligations.AfrilNodesJoinAndRestart : Prop :=
  -- joins
  (∀ (eui : BitVec 64) (cost : Nat) (r : NetwRec) (s : State),
    s.alkRuns = true →
    (s.nodeRecs.find? fun q => q.eui == eui.toNat) = some r →
    (s.polled.any fun m => m != r.byte 2 && (s.anode m).eui == eui.toNat) = false →
    1 ≤ s.maxHop →
    s.isBound (0x1A00 + r.byte 2) = true ∨ s.hasRoom (0x1A00 + r.byte 2) 1 = true →
    Completes (exec (.joinreq eui none cost false) s) fun t =>
      t.nodeState (r.byte 2) = 1 ∧ (t.anode (r.byte 2)).eui = eui.toNat ∧ (t.anode (r.byte 2)).route = [] ∧ (t.anode (r.byte 2)).cost = cost ∧ t.alk.bq = (s.alk.bq.filter fun b => !(b.type == 4 && b.node == r.byte 2)) ++ [⟨4, msbBits 64 eui.toNat ++ msbBits 6 (r.byte 2) ++ msbBits 7 (r.byte 4) ++ msbBits 3 (r.byte 5 - 1), 0, r.byte 2⟩]) ∧
  -- assigned
  (∀ (ups : List AlkUp) (b : AlkBc) (k : Nat) (s : State),
    s.alk.pass = some k →
    s.alkRuns = true →
    s.wide = true →
    k < wideP s.spanMs →
    s.alk.bq = [b] →
    b.type = 4 →
    s.bcSegments b = b.sent + 1 →
    1 ≤ b.node ∧ b.node < 63 →
    s.nodeState b.node = 1 →
    s.alk.exchanges = [] →
    s.polled = [] →
    Completes (exec (.pass ups) s) fun t =>
      t.nodeState b.node = 2 ∧ t.rd .ALK_NSTAT_HOP b.node = (s.anode b.node).hop % 16 ∧ t.rd .ALK_NSTAT_PARENT b.node = (s.anode b.node).route.head?.getD 0 % 256 ∧ t.alk.bq = [] ∧ Raises s t 0x1A01 (b.node * 256 + (s.anode b.node).hop % 256)) ∧
  -- unknown
  (∀ (eui : BitVec 64) (relay : Option (Fin 63)) (cost : Nat) (s : State),
    s.alkRuns = true →
    (s.nodeRecs.find? fun q => q.eui == eui.toNat) = none →
    Completes (exec (.joinreq eui relay cost false) s) fun t =>
      t.rd .ALK_STATUS_JOINREF 0 = 1 ∧ t.alk = s.alk ∧ Raises s t 0x1A05 0xFF01) ∧
  -- elsewhere
  (∀ (eui : BitVec 64) (relay : Option (Fin 63)) (cost : Nat) (r : NetwRec) (s : State),
    s.alkRuns = true →
    (s.nodeRecs.find? fun q => q.eui == eui.toNat) = some r →
    (s.polled.any fun m => m != r.byte 2 && (s.anode m).eui == eui.toNat) = true →
    Completes (exec (.joinreq eui relay cost false) s) fun t =>
      t.rd .ALK_STATUS_JOINREF 0 = 1 ∧ t.alk = s.alk ∧ Raises s t 0x1A05 (r.byte 2 % 256 * 256 + 3)) ∧
  -- noSlice
  (∀ (eui : BitVec 64) (cost : Nat) (r : NetwRec) (s : State),
    s.alkRuns = true →
    (s.nodeRecs.find? fun q => q.eui == eui.toNat) = some r →
    (s.polled.any fun m => m != r.byte 2 && (s.anode m).eui == eui.toNat) = false →
    1 ≤ s.maxHop →
    s.isBound (0x1A00 + r.byte 2) = false →
    s.hasRoom (0x1A00 + r.byte 2) 1 = false →
    Completes (exec (.joinreq eui none cost false) s) fun t =>
      t.rd .ALK_STATUS_JOINREF 0 = 1 ∧ t.alk = s.alk ∧ Raises s t 0x1A05 (r.byte 2 % 256 * 256 + 2)) ∧
  -- silent
  (∀ (eui : BitVec 64) (relay : Option (Fin 63)) (cost : Nat) (collided : Bool) (s : State),
    s.alkRuns = false ∨ collided = true →
    exec (.joinreq eui relay cost collided) s = .next s) ∧
  -- confirm
  (∀ (n : Fin 63) (t0 : Nat) (s : State),
    (s.anode n).confT = some t0 →
    Completes (exec (.nodeConfirmTimeout n) s) fun t =>
      t.rd .ALK_NVER_CONF n = 0 ∧ t.rd .ALK_NVER_PEND n = 0 ∧ (t.anode n).confT = none ∧ t.now = max s.now t0 ∧ Raises s t 0x1A09 (n.val * 256)) ∧
  -- restart
  (∀ (s : State),
    Completes (exec (.restart) s) fun t =>
      (∀ n, n < 63 → 1 ≤ n → t.nodeState n = 0) ∧ t.alk.pass = none ∧ (∀ n, n < 63 → 1 ≤ n → (t.anode n).route = [] ∧ (t.anode n).upq = (s.anode n).upq ∧ (t.anode n).dnq = (s.anode n).dnq) ∧ t.alk.seq = s.alk.seq ∧ Raises s t 0x1A08 1)

/-- Network time (R386 to R388). The servo's rate is a free value within the bounds of R387. -/
def Obligations.TheClockFollowsItsMaster : Prop :=
  -- disabled
  (∀ (m : PtpMsg) (s : State),
    s.ptpState = 0 →
    exec (.ptpMessage m) s = .next s) ∧
  -- firstMaster
  (∀ (source rank interval : Nat) (port : Fin 4) (utc : Int) (s : State),
    s.ptpPort port = true →
    s.ptpState = 1 →
    s.ntu.masters = [] →
    s.ntu.master = none →
    s.ntuRuns = true →
    Completes (exec (.ptpMessage (.announce source rank port interval utc)) s) fun t =>
      t.ntu.master = some source ∧ t.ptpState = 2 ∧ t.rd .NTU_PTP_MPORT 0 = port.val ∧ t.ntu.masters = [⟨source, rank, port.val, s.now + s.ptpRec.byte 5 * interval, utc⟩] ∧ t.ntu.utc = utc ∧ t.ntu.syncT = some (s.now + 3000000000) ∧ Raises s t 0x1B01 2 ∧ Raises s t 0x1B02 (port.val * 256)) ∧
  -- locks
  (∀ (source : Nat) (t1 t2 : Int) (s : State),
    s.ntu.master = some source →
    s.ptpState = 2 →
    (t2 - t1 - s.ntu.delay).natAbs ≤ s.ptpRec.u32 8 →
    (t2 - t1 - s.ntu.delay).natAbs ≤ 1000000 →
    15 ≤ s.ntu.goodRun →
    s.ntuRuns = true →
    Completes (exec (.ptpMessage (.sync source t1 t2)) s) fun t =>
      t.ptpState = 3 ∧ t.rd .NTU_STATUS_LOCKED 0 = 1 ∧ t.ntu.everLocked = true ∧ t.rd .NTU_OFFSET_OFFSET 0 = toTwos 32 (t2 - t1 - s.ntu.delay) ∧ t.ntu.forward = t2 - t1 ∧ -50000 ≤ t.ntu.rate ∧ t.ntu.rate ≤ 50000 ∧ Raises s t 0x1B01 3) ∧
  -- steps
  (∀ (source : Nat) (t1 t2 : Int) (s : State),
    s.ntu.master = some source →
    s.ptpState = 2 ∨ s.ptpState = 3 →
    1000000 < (t2 - t1 - s.ntu.delay).natAbs →
    s.ntuRuns = true →
    Completes (exec (.ptpMessage (.sync source t1 t2)) s) fun t =>
      t.rd .NTU_STATUS_STEPPED 0 = 1 ∧ t.ntu.ptp = ((s.ptpNs : Int) - (t2 - t1 - s.ntu.delay)).toNat ∧ t.ntu.rate = s.ntu.rate ∧ Raises s t 0x1B03 (toTwos 16 (satInt 32767 ((-(t2 - t1 - s.ntu.delay)).tdiv 1000000)))) ∧
  -- delay
  (∀ (source : Nat) (t3 t4 : Int) (s : State),
    s.ntu.master = some source →
    s.ptpState ≠ 0 →
    s.ntuRuns = true →
    Completes (exec (.ptpMessage (.delayResp source t3 t4)) s) fun t =>
      t.ntu = { s.ntu with delay := (s.ntu.forward + (t4 - t3)) / 2 } ∧ t.events = s.events ∧ OnlyFlds [] s t) ∧
  -- holdover
  (∀ (t0 : Nat) (s : State),
    s.ptpState = 2 ∨ s.ptpState = 3 →
    earlier ((s.ntu.masters.find? fun m => some m.source == s.ntu.master).map (·.until_)) s.ntu.syncT = some t0 →
    s.ntuRuns = true →
    Completes (exec (.ptpHoldover) s) fun t =>
      t.ptpState = 4 ∧ t.rd .NTU_STATUS_LOCKED 0 = 0 ∧ t.rd .NTU_STATUS_HOLDOVER 0 = 1 ∧ t.ntu.master = none ∧ t.now = max s.now t0 ∧ Raises s t 0x1B01 4) ∧
  -- forwardSync
  (∀ (ingress egress : Fin 4) (residence : Nat) (c : Int) (s : State),
    bit (s.ptpRec.byte 3) 0 = true →
    s.ntuRuns = true →
    s.flag .NTU_PORT_LINK ingress = true →
    s.flag .NTU_PORT_LINK egress = true →
    Completes (exec (.transparentClockForward ingress egress residence (.sync c)) s) fun t =>
      lookup 0 t.ntu.correction egress = c + ((residence + (s.portRec ingress).u16 6 + (s.portRec egress).u16 8 : Nat) : Int) * 65536 ∧ t.rd .NTU_PORT_MAXRES egress = max (s.rd .NTU_PORT_MAXRES egress) (min 0xFFFF (residence + (s.portRec ingress).u16 6 + (s.portRec egress).u16 8)) ∧ t.events = s.events ∧ OnlyFlds [(.NTU_PORT_MAXRES, egress)] s t) ∧
  -- twoStep
  (∀ (ingress egress : Fin 4) (residence q src : Nat) (c : Int) (s : State),
    bit (s.ptpRec.byte 3) 0 = true →
    s.ntuRuns = true →
    s.flag .NTU_PORT_LINK ingress = true →
    s.flag .NTU_PORT_LINK egress = true →
    Completes (exec (.transparentClockForward ingress egress residence (.twoStepSync q src c)) s) fun t =>
      lookup 0 t.ntu.correction egress = c ∧ t.ntu.twoStep = s.ntu.twoStep ++ [⟨egress, q, src, residence + (s.portRec ingress).u16 6 + (s.portRec egress).u16 8, s.now + 1000000000⟩] ∧ t.events = s.events ∧ OnlyFlds [] s t) ∧
  -- linkDown
  (∀ (ingress egress : Fin 4) (residence : Nat) (m : TcMsg) (s : State),
    s.flag .NTU_PORT_LINK ingress = false ∨ s.flag .NTU_PORT_LINK egress = false ∨ s.ntuRuns = false →
    exec (.transparentClockForward ingress egress residence m) s = .next s) ∧
  -- forwardDelayReq
  (∀ (ingress egress : Fin 4) (residence : Nat) (c : Int) (s : State),
    bit (s.ptpRec.byte 3) 0 = false →
    s.ntuRuns = true →
    s.flag .NTU_PORT_LINK ingress = true →
    s.flag .NTU_PORT_LINK egress = true →
    Completes (exec (.transparentClockForward ingress egress residence (.delayReq c)) s) fun t =>
      lookup 0 t.ntu.correction egress = c ∧ t.events = s.events ∧ OnlyFlds [] s t) ∧
  -- followUp
  (∀ (ingress egress : Fin 4) (residence q src : Nat) (c : Int) (x : TwoStep) (s : State),
    bit (s.ptpRec.byte 3) 0 = true →
    s.followed egress q src = some x →
    s.ntuRuns = true →
    s.flag .NTU_PORT_LINK ingress = true →
    s.flag .NTU_PORT_LINK egress = true →
    Completes (exec (.transparentClockForward ingress egress residence (.followUp q src c)) s) fun t =>
      lookup 0 t.ntu.correction egress = c + (x.residence : Int) * 65536 ∧ x ∉ t.ntu.twoStep ∧ t.events = s.events) ∧
  -- followUpAlone
  (∀ (ingress egress : Fin 4) (residence q src : Nat) (c : Int) (s : State),
    s.followed egress q src = none →
    bit (s.ptpRec.byte 3) 0 = true →
    s.ntuRuns = true →
    s.flag .NTU_PORT_LINK ingress = true →
    s.flag .NTU_PORT_LINK egress = true →
    Completes (exec (.transparentClockForward ingress egress residence (.followUp q src c)) s) fun t =>
      lookup 0 t.ntu.correction egress = c ∧ Raises s t 0x1B06 (ingress.val * 256)) ∧
  -- fires
  (∀ (k : Fin 2) (s : State),
    s.flag .NTU_CMPCTL_ARM k = true →
    s.ntuRuns = true →
    Completes (exec (.compareFire k) s) fun t =>
      t.rd .NTU_CMPCTL_ARM k = 0 ∧ t.rd .NTU_CMPCTL_FIRED k = 1 ∧ s.now ≤ t.now ∧ t.events = s.events ∧ OnlyFlds [(.NTU_CMPCTL_ARM, k), (.NTU_CMPCTL_FIRED, k)] s t) ∧
  -- notArmed
  (∀ (k : Fin 2) (s : State),
    s.flag .NTU_CMPCTL_ARM k = false →
    exec (.compareFire k) s = .next s)

/-- Buses and links (R220, R385, R389 to R393). -/
def Obligations.BusesAndTheirDevices : Prop :=
  -- send
  (∀ (n : Fin 24) (r : NetwRec) (s : State),
    s.template n = some r →
    s.canClocked r = true →
    s.rd .NTU_CAN_STATE (r.byte 1 % 4) < 2 →
    s.ntuRuns = true →
    Completes (exec (.templateSend n) s) fun t =>
      lookup [] t.ntu.txFrame n = s.txBytes n ∧ lookup 0 t.ntu.txAt n = t.now ∧ s.now ≤ t.now ∧ t.events = s.events ∧ OnlyFlds [] s t) ∧
  -- noSend
  (∀ (n : Fin 24) (s : State),
    s.template n = none →
    exec (.templateSend n) s = .next s) ∧
  -- status
  (∀ (n : Fin 24) (echo : BitVec 8) (vact iact : BitVec 16) (r : NetwRec) (s : State),
    s.template n = some r →
    s.canClocked r = true →
    bit s.alloc.lost n.val = false →
    s.ntuRuns = true →
    Completes (exec (.moduleStatusRx n echo 0 vact iact) s) fun t =>
      lookup none t.ntu.rxFrame n = some ⟨echo.toNat, 0, vact.toNat, iact.toInt, s.now⟩ ∧ lookup 0 t.alloc.vact n = vact.toNat ∧ t.events = s.events ∧ OnlyFlds [] s t) ∧
  -- fault
  (∀ (n : Fin 24) (echo fault : BitVec 8) (vact iact : BitVec 16) (r : NetwRec) (s : State),
    s.template n = some r →
    s.canClocked r = true →
    bit s.alloc.lost n.val = false →
    fault.toNat ≠ 0 →
    s.ntuRuns = true →
    Completes (exec (.moduleStatusRx n echo fault vact iact) s) fun t =>
      lookup none t.ntu.rxFrame n = some ⟨echo.toNat, fault.toNat, vact.toNat, iact.toInt, s.now⟩ ∧ bit t.alloc.lost n.val = true ∧ t.rd .OIU_CONTACT_ZREQ n = 1 ∧ Raises s t 0x2006 (n.val * 256 + 3)) ∧
  -- can
  (∀ (k : Fin 4) (state : Fin 3) (tec rec_ : BitVec 8) (s : State),
    s.rd .NTU_CAN_STATE k ≠ 3 →
    s.rd .NTU_CAN_STATE k ≠ state.val →
    s.ntuRuns = true →
    bit (s.rd .CGU_CLKEN_CAN 0) k = true →
    Completes (exec (.canErrorStateChange k state tec rec_) s) fun t =>
      t.rd .NTU_CAN_STATE k = state.val ∧ t.rd .NTU_CAN_TEC k = tec.toNat ∧ t.rd .NTU_CAN_REC k = rec_.toNat ∧ (state.val = 2 → t.rd .NTU_STATUS_CANOFF 0 = 1) ∧ Raises s t 0x1B05 (k.val * 256 + state.val)) ∧
  -- answered
  (∀ (dev : Fin 16) (x : Nat × NetwRec) (s : State),
    s.modbusDev dev = some x →
    s.rd .NTU_MB_STATE dev ≠ 1 →
    s.ntuRuns = true →
    s.modbusClocked x.2 = true →
    lookup none s.ntu.reconnect dev = none →
    Completes (exec (.modbusTransaction dev 0) s) fun t =>
      t.rd .NTU_MB_STATE dev = 2 ∧ bit t.ntu.retrying dev.val = false ∧ t.events = s.events ∧ OnlyFlds [(.NTU_MB_STATE, dev)] s t) ∧
  -- exception
  (∀ (dev : Fin 16) (x : Nat × NetwRec) (s : State),
    s.modbusDev dev = some x →
    s.ntuRuns = true →
    s.modbusClocked x.2 = true →
    lookup none s.ntu.reconnect dev = none →
    Completes (exec (.modbusTransaction dev 2) s) fun t =>
      t.rd .NTU_MB_EXC dev = satInc (2 ^ Fld.NTU_MB_EXC.width - 1) (s.rd .NTU_MB_EXC dev) ∧ bit t.ntu.retrying dev.val = false ∧ t.events = s.events) ∧
  -- retry
  (∀ (dev : Fin 16) (x : Nat × NetwRec) (s : State),
    s.modbusDev dev = some x →
    bit s.ntu.retrying dev.val = false →
    s.ntuRuns = true →
    s.modbusClocked x.2 = true →
    lookup none s.ntu.reconnect dev = none →
    Completes (exec (.modbusTransaction dev 1) s) fun t =>
      bit t.ntu.retrying dev.val = true ∧ t.events = s.events ∧ OnlyFlds [] s t) ∧
  -- miss
  (∀ (dev : Fin 16) (x : Nat × NetwRec) (s : State),
    s.modbusDev dev = some x →
    bit s.ntu.retrying dev.val = true →
    s.rd .NTU_MB_STATE dev ≠ 1 →
    s.ntuRuns = true →
    s.modbusClocked x.2 = true →
    lookup none s.ntu.reconnect dev = none →
    Completes (exec (.modbusTransaction dev 1) s) fun t =>
      t.rd .NTU_MB_STATE dev = 3 ∧ t.rd .NTU_MB_MISSES dev = satInc (2 ^ Fld.NTU_MB_MISSES.width - 1) (s.rd .NTU_MB_MISSES dev) ∧ bit t.ntu.retrying dev.val = false ∧ t.events = s.events) ∧
  -- connectionLost
  (∀ (dev : Fin 16) (x : Nat × NetwRec) (s : State),
    s.modbusDev dev = some x →
    x.2.byte 1 = 2 →
    s.ntuRuns = true →
    s.modbusClocked x.2 = true →
    lookup none s.ntu.reconnect dev = none →
    Completes (exec (.modbusTransaction dev 3) s) fun t =>
      lookup none t.ntu.reconnect dev = some (s.now + 5000000000) ∧ t.rd .NTU_MB_MISSES dev = satInc (2 ^ Fld.NTU_MB_MISSES.width - 1) (s.rd .NTU_MB_MISSES dev) ∧ t.events = s.events) ∧
  -- reconnect
  (∀ (dev : Fin 16) (t0 : Nat) (s : State),
    lookup none s.ntu.reconnect dev = some t0 →
    Completes (exec (.modbusTcpReconnect dev) s) fun t =>
      t.rd .NTU_MB_STATE dev = 1 ∧ lookup none t.ntu.reconnect dev = none ∧ t.now = max s.now t0 ∧ t.events = s.events ∧ OnlyFlds [(.NTU_MB_STATE, dev)] s t) ∧
  -- found
  (∀ (dev : Fin 16) (models : Option (List (BitVec 16))) (x : Nat × NetwRec) (s : State),
    s.modbusDev dev = some x →
    s.ntuRuns = true →
    s.modbusClocked x.2 = true →
    s.rd .NTU_MB_STATE dev = 1 →
    s.discovered x.1 models = 0 →
    Completes (exec (.sunspecDiscovery dev models) s) fun t =>
      t.rd .NTU_MB_STATE dev = 2 ∧ t.events = s.events ∧ OnlyFlds [(.NTU_MB_STATE, dev)] s t) ∧
  -- missing
  (∀ (dev : Fin 16) (models : Option (List (BitVec 16))) (x : Nat × NetwRec) (s : State),
    s.modbusDev dev = some x →
    s.discovered x.1 models ≠ 0 →
    s.ntuRuns = true →
    s.modbusClocked x.2 = true →
    s.rd .NTU_MB_STATE dev = 1 →
    Completes (exec (.sunspecDiscovery dev models) s) fun t =>
      t.rd .NTU_MB_STATE dev = 1 ∧ Raises s t 0x1B07 (x.1 % 256 * 256 + s.discovered x.1 models) ∧ (∀ r ∈ s.sunspecUse x.1, (r = 6 → t.alloc.stor.lost = true) ∧ (r = 7 → t.alloc.solar.lost = true))) ∧
  -- link
  (∀ (k speed : Fin 4) (s : State),
    s.portOn k = true →
    s.flag .NTU_PORT_LINK k ≠ decide (speed.val ≠ 0) →
    s.ntuRuns = true →
    Completes (exec (.ethernetLinkChange k speed) s) fun t =>
      t.rd .NTU_PORT_SPEED k = speed.val ∧ t.flag .NTU_PORT_LINK k = decide (speed.val ≠ 0) ∧ t.rd .NTU_STATUS_LINKCHG 0 = 1 ∧ Raises s t 0x1B04 (k.val * 256 + b2n (decide (speed.val ≠ 0)))) ∧
  -- sameLink
  (∀ (k speed : Fin 4) (s : State),
    s.portOn k = true →
    s.flag .NTU_PORT_LINK k = decide (speed.val ≠ 0) →
    s.ntuRuns = true →
    Completes (exec (.ethernetLinkChange k speed) s) fun t =>
      t.rd .NTU_PORT_SPEED k = speed.val ∧ t.events = s.events ∧ OnlyFlds [(.NTU_PORT_SPEED, k), (.NTU_PORT_LINK, k)] s t)

/-- Sealed commands (R63, R167, R301, R319, R322, R266, R341, R343, R418 to R420). The rows are the commands after their authentication. -/
def Obligations.SealedCommandsOfTheOperator : Prop :=
  -- planActivate
  (∀ (keyId : BitVec 64) (p : Plan) (s : State),
    s.bcu.phase ≠ .commit →
    s.lifeCycle = 2 ∨ s.lifeCycle = 3 →
    s.flag .LGS_STATUS_LHRES 0 = false →
    65568 ≤ s.legalFree →
    s.ppl.staged = some p →
    p.planId < 2 ^ 32 →
    p.planVer < 2 ^ 32 →
    p.legalCv < 2 ^ 32 →
    s.ppl.commanded = some 2 →
    Completes (exec (.planActivate keyId (BitVec.ofNat 32 p.planId) (BitVec.ofNat 32 p.planVer) (BitVec.ofNat 32 p.legalCv)) s) fun t =>
      t.ppl.armed = some ⟨s.rd .SEC_SCNEXT_SCNEXT 0, keyId.toNat⟩ ∧ t.ppl.staged = some p ∧ t.rd .SEC_SCNEXT_SCNEXT 0 = (s.rd .SEC_SCNEXT_SCNEXT 0 + 1) % 2 ^ 32 ∧ (t.sec.answer.map fun a => (a.result, a.detail, a.scSeq)) = some (0, 0, s.rd .SEC_SCNEXT_SCNEXT 0) ∧ Raises s t 0x1902 (1 * 256)) ∧
  -- meuCalibrate
  (∀ (keyId : BitVec 64) (fnom : BitVec 16) (recs : List (BitVec 8 × BitVec 128)) (s : State),
    s.bcu.phase ≠ .commit →
    s.lifeCycle = 2 ∨ s.lifeCycle = 3 →
    s.flag .LGS_STATUS_LHRES 0 = false →
    65568 ≤ s.legalFree →
    fnom.toNat = 50 ∨ fnom.toNat = 60 →
    recs ≠ [] →
    recs.length ≤ 24 →
    (recs.map (·.1)).Nodup →
    (∀ r ∈ recs, s.calRecordOk (r.1.toNat, leBytes 16 r.2.toNat) = true) →
    (∀ r ∈ recs, ((s.sens r.1.toNat).map fun q => decide (q.outlet ≤ 23) && s.flag .MEU_ESTAT_SESS q.outlet).getD false = false) →
    Completes (exec (.meuCalibrate keyId fnom recs) s) fun t =>
      (∀ r ∈ recs, t.rd .MEU_CHGAIN_GAIN r.1.toNat = r.2.toNat % 2 ^ 32 ∧ t.rd .MEU_CHOFFS_OFFS r.1.toNat = r.2.toNat / 2 ^ 32 % 2 ^ 32 ∧ t.rd .MEU_CHDELAY_DELAY0 r.1.toNat = r.2.toNat / 2 ^ 64 % 2 ^ 16 ∧ (t.chan r.1.toNat).calibrated = true) ∧ t.meu.fnom = fnom.toNat ∧ t.rd .MEU_CALSEQ_CALSEQ 0 = satInc (2 ^ 32 - 1) (s.rd .MEU_CALSEQ_CALSEQ 0) ∧ t.rd .MEU_CALCV_CALCV 0 = crc32c t.calStore % 2 ^ 32 ∧ t.rd .SEC_SCNEXT_SCNEXT 0 = (s.rd .SEC_SCNEXT_SCNEXT 0 + 1) % 2 ^ 32 ∧ (t.sec.answer.map fun a => (a.result, a.detail, a.scSeq)) = some (0, 0, s.rd .SEC_SCNEXT_SCNEXT 0) ∧ Raises s t 0x1902 (2 * 256)) ∧
  -- bluHwmReset
  (∀ (keyId : BitVec 64) (s : State),
    s.bcu.phase ≠ .commit →
    s.lifeCycle = 2 ∨ s.lifeCycle = 3 →
    s.flag .LGS_STATUS_LHRES 0 = false →
    65568 ≤ s.legalFree →
    0 ≤ (s.moveTo (gridAt 125000 s.now)).wall →
    Completes (exec (.bluHwmReset keyId) s) fun t =>
      t.hwm = t.wall.toNat % 2 ^ 64 ∧ Raises s t 0x140B 0 ∧ t.rd .SEC_SCNEXT_SCNEXT 0 = (s.rd .SEC_SCNEXT_SCNEXT 0 + 1) % 2 ^ 32 ∧ (t.sec.answer.map fun a => (a.result, a.detail, a.scSeq)) = some (0, 0, s.rd .SEC_SCNEXT_SCNEXT 0) ∧ Raises s t 0x1902 (3 * 256)) ∧
  -- tamperConfig
  (∀ (keyId : BitVec 64) (ten tpol : BitVec 8) (s : State),
    s.bcu.phase ≠ .commit →
    s.lifeCycle = 2 ∨ s.lifeCycle = 3 →
    s.flag .LGS_STATUS_LHRES 0 = false →
    65568 ≤ s.legalFree →
    ten.toNat ≤ 15 →
    tpol.toNat ≤ 15 →
    Completes (exec (.tamperConfig keyId ten tpol) s) fun t =>
      t.rd .BLU_TAMPCFG_TEN 0 = ten.toNat ∧ t.rd .BLU_TAMPCFG_TPOL 0 = tpol.toNat ∧ t.rd .BLU_TAMPER_NOW 0 = s.rd .BLU_TAMPER_NOW 0 &&& (ten.toNat ||| 16) ∧ OnlyFlds (dropFlds ++ [(.SEC_SCNEXT_SCNEXT, 0), (.BLU_TAMPCFG_TEN, 0), (.BLU_TAMPCFG_TPOL, 0), (.BLU_TAMPER_NOW, 0)]) s t ∧ t.rd .SEC_SCNEXT_SCNEXT 0 = (s.rd .SEC_SCNEXT_SCNEXT 0 + 1) % 2 ^ 32 ∧ (t.sec.answer.map fun a => (a.result, a.detail, a.scSeq)) = some (0, 0, s.rd .SEC_SCNEXT_SCNEXT 0) ∧ Raises s t 0x1902 (4 * 256)) ∧
  -- sealAck
  (∀ (keyId : BitVec 64) (s : State),
    s.bcu.phase ≠ .commit →
    s.lifeCycle = 2 ∨ s.lifeCycle = 3 →
    s.flag .LGS_STATUS_LHRES 0 = false →
    65568 ≤ s.legalFree →
    bit (s.rd .BLU_TAMPER_NOW 0) 4 = false →
    Completes (exec (.sealAck keyId) s) fun t =>
      t.rd .BLU_STATUS_SEALBRK 0 = 0 ∧ Raises s t 0x140A 0 ∧ t.rd .SEC_SCNEXT_SCNEXT 0 = (s.rd .SEC_SCNEXT_SCNEXT 0 + 1) % 2 ^ 32 ∧ (t.sec.answer.map fun a => (a.result, a.detail, a.scSeq)) = some (0, 0, s.rd .SEC_SCNEXT_SCNEXT 0) ∧ Raises s t 0x1902 (5 * 256)) ∧
  -- safeConfirm
  (∀ (keyId : BitVec 64) (value : BitVec 32) (s : State),
    s.bcu.phase ≠ .commit →
    s.lifeCycle = 2 ∨ s.lifeCycle = 3 →
    s.flag .LGS_STATUS_LHRES 0 = false →
    65568 ≤ s.legalFree →
    s.sec.waiting = none →
    value.toNat = s.rd .PPL_SAFECV_SAFECV 0 →
    value.toNat = s.rd .GSE_CV_CV 0 →
    Completes (exec (.safeConfirm keyId value) s) fun t =>
      t.gse.confirming = some ⟨value.toNat, t.now + 300000000000, s.rd .SEC_SCNEXT_SCNEXT 0⟩ ∧ t.sec.waiting = some ⟨none, s.rd .SEC_SCNEXT_SCNEXT 0⟩ ∧ t.rd .SEC_SCNEXT_SCNEXT 0 = (s.rd .SEC_SCNEXT_SCNEXT 0 + 1) % 2 ^ 32 ∧ t.events = s.events) ∧
  -- lgsRetention
  (∀ (keyId : BitVec 64) (days : BitVec 16) (tick : BitVec 8) (s : State),
    s.bcu.phase ≠ .commit →
    s.lifeCycle = 2 ∨ s.lifeCycle = 3 →
    s.flag .LGS_STATUS_LHRES 0 = false →
    65568 ≤ s.legalFree →
    400 ≤ days.toNat →
    days.toNat ≤ 3650 →
    1 ≤ tick.toNat →
    tick.toNat ≤ 60 →
    Completes (exec (.lgsRetention keyId days tick) s) fun t =>
      t.rd .LGS_RETCFG_RETDAYS 0 = days.toNat ∧ t.rd .LGS_RETCFG_TICKMIN 0 = tick.toNat ∧ t.rd .SEC_SCNEXT_SCNEXT 0 = (s.rd .SEC_SCNEXT_SCNEXT 0 + 1) % 2 ^ 32 ∧ (t.sec.answer.map fun a => (a.result, a.detail, a.scSeq)) = some (0, 0, s.rd .SEC_SCNEXT_SCNEXT 0) ∧ Raises s t 0x1902 (7 * 256)) ∧
  -- lgsAck
  (∀ (keyId first last : BitVec 64) (hash : BitVec 256) (s : State),
    s.bcu.phase ≠ .commit →
    s.lifeCycle = 2 ∨ s.lifeCycle = 3 →
    s.flag .LGS_STATUS_LHRES 0 = false →
    65568 ≤ s.legalFree →
    s.ackReason first.toNat last.toNat (hashBytes 32 32 hash.toNat) = 0 →
    Completes (exec (.lgsAck keyId first last hash) s) fun t =>
      (∃ g ∈ t.lgs.queue, g.cls = 2 ∧ g.recs.map (·.type) = [0x20, 0x26]) ∧ t.rd .SEC_SCNEXT_SCNEXT 0 = (s.rd .SEC_SCNEXT_SCNEXT 0 + 1) % 2 ^ 32 ∧ (t.sec.answer.map fun a => (a.result, a.detail, a.scSeq)) = some (0, 0, s.rd .SEC_SCNEXT_SCNEXT 0) ∧ Raises s t 0x1902 (8 * 256)) ∧
  -- wrongState
  (∀ (keyId a b : BitVec 64) (w x y : BitVec 32) (u : BitVec 16) (p q : BitVec 8) (recs : List (BitVec 8 × BitVec 128)) (hash : BitVec 256) (s : State),
    s.bcu.phase ≠ .commit →
    s.lifeCycle ≠ 2 →
    s.lifeCycle ≠ 3 →
    ∀ c ∈ [(.planActivate keyId w x y, 1), (.meuCalibrate keyId u recs, 2), (.bluHwmReset keyId, 3), (.tamperConfig keyId p q, 4), (.sealAck keyId, 5), (.safeConfirm keyId w, 6), (.lgsRetention keyId u p, 7), (.lgsAck keyId a b hash, 8)], ∃ t, exec c.1 s = .next t ∧ t.sec.answer = some ⟨0x11, 0, s.rd .SEC_SCNEXT_SCNEXT 0, 0, []⟩ ∧ Raises s t 0x1903 (c.2 * 256 + 0x11) ∧ t.plan = s.plan ∧ t.meu = s.meu ∧ t.gse = s.gse ∧ t.rd .BLU_STATUS_SEALBRK 0 = s.rd .BLU_STATUS_SEALBRK 0 ∧ t.rd .LGS_RETCFG_RETDAYS 0 = s.rd .LGS_RETCFG_RETDAYS 0) ∧
  -- inCommit
  (∀ (keyId : BitVec 64) (s : State),
    s.bcu.phase = .commit →
    Completes (exec (.tamperConfig keyId 3 3) s) fun t =>
      (t.sec.answer.map fun a => (a.result, a.scSeq)) = some (0x12, s.rd .SEC_SCNEXT_SCNEXT 0) ∧ t.events = s.events ∧ OnlyFlds [(.SEC_SCNEXT_SCNEXT, 0)] s t)

/-- Key commands, the life cycle and the frame (R402, R408, R409, R416 to R420). -/
def Obligations.SealedCommandsOnKeysAndTheLifeCycle : Prop :=
  -- keyGen
  (∀ (keyId : BitVec 64) (k kt : BitVec 8) (s : State),
    s.bcu.phase ≠ .commit →
    s.lifeCycle = 2 ∨ s.lifeCycle = 3 →
    s.flag .LGS_STATUS_LHRES 0 = false →
    65568 ≤ s.legalFree →
    k.toNat < 128 →
    kt.toNat ∈ [9, 10] →
    s.fixedSlot k.toNat = false →
    kt.toNat ∈ typesOf k.toNat →
    s.randomOk = true →
    Completes (exec (.keyGen keyId k kt) s) fun t =>
      (t.slot k.toNat).pAttr = attrOf k.toNat kt.toNat true + 2 ^ 15 + 2 ^ 16 ∧ (∃ d < 2 ^ keyBits kt.toNat, pairKey kt.toNat (t.slot k.toNat).pShares.pair = d) ∧ (t.slot k.toNat).attr = (s.slot k.toNat).attr ∧ Raises s t 0x1904 (k.toNat * 256 + 1) ∧ t.rd .SEC_SCNEXT_SCNEXT 0 = (s.rd .SEC_SCNEXT_SCNEXT 0 + 1) % 2 ^ 32 ∧ (t.sec.answer.map fun a => (a.result, a.detail, a.scSeq)) = some (0, 0, s.rd .SEC_SCNEXT_SCNEXT 0) ∧ Raises s t 0x1902 (16 * 256)) ∧
  -- keyPair
  (∀ (keyId : BitVec 64) (k kt : BitVec 8) (s : State),
    s.bcu.phase ≠ .commit →
    s.lifeCycle = 2 ∨ s.lifeCycle = 3 →
    s.flag .LGS_STATUS_LHRES 0 = false →
    65568 ≤ s.legalFree →
    k.toNat < 128 →
    kt.toNat ∈ [1, 2, 3, 4] →
    s.fixedSlot k.toNat = false →
    kt.toNat ∈ typesOf k.toNat →
    s.randomOk = true →
    Completes (exec (.keyGen keyId k kt) s) fun t =>
      ((t.slot k.toNat).pAttr = attrOf k.toNat kt.toNat true + 2 ^ 15 + 2 ^ 16 ∧ (t.slot k.toNat).pPub = publicKey kt.toNat (pairKey kt.toNat (t.slot k.toNat).pShares.pair) ∨ (t.slot k.toNat).pAttr = 0 ∧ Raises s t 0x1906 (k.toNat * 256 + 1)) ∧ (t.slot k.toNat).attr = (s.slot k.toNat).attr ∧ Raises s t 0x1904 (k.toNat * 256 + 1) ∧ t.rd .SEC_SCNEXT_SCNEXT 0 = (s.rd .SEC_SCNEXT_SCNEXT 0 + 1) % 2 ^ 32 ∧ (t.sec.answer.map fun a => (a.result, a.detail, a.scSeq)) = some (0, 0, s.rd .SEC_SCNEXT_SCNEXT 0) ∧ Raises s t 0x1902 (16 * 256)) ∧
  -- keyLoad
  (∀ (keyId : BitVec 64) (k kt : BitVec 8) (rest : List (BitVec 8)) (s : State),
    s.bcu.phase ≠ .commit →
    s.lifeCycle = 2 ∨ s.lifeCycle = 3 →
    s.flag .LGS_STATUS_LHRES 0 = false →
    65568 ≤ s.legalFree →
    k.toNat < 128 →
    5 ≤ kt.toNat →
    kt.toNat ≤ 8 →
    s.fixedSlot k.toNat = false →
    kt.toNat ∈ typesOf k.toNat →
    rest.length = pubLen kt.toNat + (if isAnchor k.toNat then 32 else 0) + sigLen (kt.toNat - 4) →
    Completes (exec (.keyLoad keyId k kt rest) s) fun t =>
      Raises s t 0x1904 (k.toNat * 256 + 2) ∧ (if verifies (kt.toNat - 4) ((rest.map (·.toNat)).take (pubLen kt.toNat)) ([0x4C, 0x58, 0x4B, 0x54] ++ leBytes 4 (s.rd .SEC_SCNEXT_SCNEXT 0)) ((rest.map (·.toNat)).drop (pubLen kt.toNat + (if isAnchor k.toNat then 32 else 0))) = true then (t.slot k.toNat).pAttr = attrOf k.toNat kt.toNat false + 2 ^ 15 + 2 ^ 16 ∧ (t.slot k.toNat).pPub = (rest.map (·.toNat)).take (pubLen kt.toNat) else (t.slot k.toNat).pAttr = 0 ∧ Raises s t 0x1906 (k.toNat * 256 + 1)) ∧ t.rd .SEC_SCNEXT_SCNEXT 0 = (s.rd .SEC_SCNEXT_SCNEXT 0 + 1) % 2 ^ 32 ∧ (t.sec.answer.map fun a => (a.result, a.detail, a.scSeq)) = some (0, 0, s.rd .SEC_SCNEXT_SCNEXT 0) ∧ Raises s t 0x1902 (17 * 256)) ∧
  -- keyCommit
  (∀ (keyId : BitVec 64) (k : BitVec 8) (shadow : BitVec 64) (s : State),
    s.bcu.phase ≠ .commit →
    s.lifeCycle = 2 ∨ s.lifeCycle = 3 →
    s.flag .LGS_STATUS_LHRES 0 = false →
    65568 ≤ s.legalFree →
    k.toNat < 128 →
    s.fixedSlot k.toNat = false →
    bit (s.slot k.toNat).pAttr 16 = true →
    (s.slot k.toNat).shadowId = shadow.toNat →
    Completes (exec (.keyCommit keyId k shadow) s) fun t =>
      t.slot k.toNat = { attr := (s.slot k.toNat).pAttr % 2 ^ 15, pub := some (s.slot k.toNat).pPub, cert := (s.slot k.toNat).pCert, shares := (s.slot k.toNat).pShares } ∧ Raises s t 0x1905 (k.toNat * 256 + 1) ∧ t.rd .SEC_SCNEXT_SCNEXT 0 = (s.rd .SEC_SCNEXT_SCNEXT 0 + 1) % 2 ^ 32 ∧ (t.sec.answer.map fun a => (a.result, a.detail, a.scSeq)) = some (0, 0, s.rd .SEC_SCNEXT_SCNEXT 0) ∧ Raises s t 0x1902 (18 * 256)) ∧
  -- keyAbort
  (∀ (keyId : BitVec 64) (k : BitVec 8) (s : State),
    s.bcu.phase ≠ .commit →
    s.lifeCycle = 2 ∨ s.lifeCycle = 3 →
    s.flag .LGS_STATUS_LHRES 0 = false →
    65568 ≤ s.legalFree →
    k.toNat < 128 →
    s.fixedSlot k.toNat = false →
    bit (s.slot k.toNat).pAttr 15 = true →
    Completes (exec (.keyAbort keyId k) s) fun t =>
      (t.slot k.toNat).pAttr = 0 ∧ (t.slot k.toNat).attr = (s.slot k.toNat).attr ∧ Raises s t 0x1906 (k.toNat * 256 + 3) ∧ t.rd .SEC_SCNEXT_SCNEXT 0 = (s.rd .SEC_SCNEXT_SCNEXT 0 + 1) % 2 ^ 32 ∧ (t.sec.answer.map fun a => (a.result, a.detail, a.scSeq)) = some (0, 0, s.rd .SEC_SCNEXT_SCNEXT 0) ∧ Raises s t 0x1902 (19 * 256)) ∧
  -- keyErase
  (∀ (keyId : BitVec 64) (k : BitVec 8) (s : State),
    s.bcu.phase ≠ .commit →
    s.lifeCycle = 2 ∨ s.lifeCycle = 3 →
    s.flag .LGS_STATUS_LHRES 0 = false →
    65568 ≤ s.legalFree →
    k.toNat < 128 →
    replaceOf k.toNat = 2 →
    Completes (exec (.keyErase keyId k) s) fun t =>
      t.slot k.toNat = {} ∧ Raises s t 0x190B (k.toNat * 256 + 1) ∧ t.rd .SEC_SCNEXT_SCNEXT 0 = (s.rd .SEC_SCNEXT_SCNEXT 0 + 1) % 2 ^ 32 ∧ (t.sec.answer.map fun a => (a.result, a.detail, a.scSeq)) = some (0, 0, s.rd .SEC_SCNEXT_SCNEXT 0) ∧ Raises s t 0x1902 (20 * 256)) ∧
  -- lifecycle
  (∀ (keyId : BitVec 64) (dest : BitVec 8) (pub : List (BitVec 8)) (s : State),
    s.bcu.phase ≠ .commit →
    s.flag .LGS_STATUS_LHRES 0 = false →
    65568 ≤ s.legalFree →
    dest.toNat ≤ 5 →
    s.transition dest.toNat = some true →
    pub.length ∈ [57, 65, 97, 133] →
    Completes (exec (.lifecycle keyId dest pub) s) fun t =>
      t.lifeCycle = dest.toNat ∧ t.flag .SEC_LC_DBGOPEN 0 = decide (dest.toNat < 2) ∧ (t.sec.answer.map fun a => (a.result, a.scSeq)) = some (0, s.rd .SEC_SCNEXT_SCNEXT 0) ∧ Raises s t 0x1907 (s.lifeCycle % 256 * 256 + dest.toNat) ∧ Raises s t 0x1902 (0x15 * 256)) ∧
  -- noTransition
  (∀ (keyId : BitVec 64) (dest : BitVec 8) (pub : List (BitVec 8)) (s : State),
    s.bcu.phase ≠ .commit →
    s.flag .LGS_STATUS_LHRES 0 = false →
    dest.toNat ≤ 5 →
    s.transition dest.toNat ≠ some true →
    pub.length ∈ [57, 65, 97, 133] →
    Completes (exec (.lifecycle keyId dest pub) s) fun t =>
      t.lifeCycle = s.lifeCycle ∧ (t.sec.answer.map fun a => (a.result, a.scSeq)) = some (if s.transition dest.toNat = none then 0x11 else 1, s.rd .SEC_SCNEXT_SCNEXT 0)) ∧
  -- debugUnlock
  (∀ (keyId : BitVec 64) (xroot : List (BitVec 8)) (s : State),
    s.bcu.phase ≠ .commit →
    s.lifeCycle = 4 →
    xroot.length = 97 →
    Completes (exec (.debugUnlock keyId xroot) s) fun t =>
      t.rd .SEC_LC_DBGOPEN 0 = 1 ∧ (t.sec.answer.map fun a => (a.result, a.scSeq)) = some (0, s.rd .SEC_SCNEXT_SCNEXT 0) ∧ Raises s t 0x1902 (0x16 * 256)) ∧
  -- frame
  (∀ (p : Fin 5) (seq : BitVec 32) (payload : List (BitVec 8)) (s : State),
    s.frameIn p 0x06 seq.toNat (payload.map (·.toNat)) = true →
    24 ≤ payload.length →
    numAt (payload.map (·.toNat)) 2 2 ≤ 1024 →
    payload.length = 24 + numAt (payload.map (·.toNat)) 2 2 + sigLen (byteAt (payload.map (·.toNat)) 1) →
    Completes (exec (.sealed p seq payload) s) fun t =>
      (if s.authCheck (payload.map (·.toNat)) = 0 then t = (s.takeFrame p payload.length).sealedRun (some (p.val, seq.toNat)) (byteAt (payload.map (·.toNat)) 0) (numAt (payload.map (·.toNat)) 16 8) (numAt (payload.map (·.toNat)) 4 4) ((s.takeFrame p payload.length).ownBody (byteAt (payload.map (·.toNat)) 0) (numAt (payload.map (·.toNat)) 16 8) (((payload.map (·.toNat)).drop 24).take (numAt (payload.map (·.toNat)) 2 2))) else t.rd .SEC_STATUS_AUTHF 0 = 1 ∧ t.rd .SEC_COUNT_AUTHFAIL 0 = satInc (2 ^ Fld.SEC_COUNT_AUTHFAIL.width - 1) (s.rd .SEC_COUNT_AUTHFAIL 0) ∧ (t.sec.answer.map fun a => (a.result, a.detail)) = some (0x40, s.authCheck (payload.map (·.toNat))) ∧ Raises s t 0x1901 (byteAt (payload.map (·.toNat)) 0 * 256 + s.authCheck (payload.map (·.toNat))))) ∧
  -- badLength
  (∀ (p : Fin 5) (seq : BitVec 32) (payload : List (BitVec 8)) (s : State),
    s.frameIn p 0x06 seq.toNat (payload.map (·.toNat)) = true →
    p.val ≠ 4 →
    payload.length < 24 →
    Completes (exec (.sealed p seq payload) s) fun t =>
      lookup [] t.hpu.sent p = lookup [] s.hpu.sent p ++ [⟨0xFE, lookup 0 s.hpu.seqs p, leBytes 4 seq.toNat ++ [2]⟩] ∧ t.events = s.events ∧ OnlyFlds [] s t)

/-- Keys and random bits (R338, R405, R407 to R409, R412), safety inputs (R250, R256, R266). -/
def Obligations.KeysRandomBitsAndSafetyInputs : Prop :=
  -- firmwareKeyGen
  (∀ (k : Fin 128) (kt : Fin 16) (testOk : Bool) (s : State),
    replaceOf k = 1 →
    kt.val ∈ typesOf k →
    s.randomOk = true →
    s.appRuns = true →
    Completes (exec (.firmwareKeyGen k kt testOk) s) fun t =>
      (t.slot k).pAttr = (if testOk then attrOf k kt true + 2 ^ 15 + 2 ^ 16 else 0) ∧ (t.slot k).attr = (s.slot k).attr ∧ (testOk = false → Raises s t 0x1906 (k.val * 256 + 1)) ∧ Raises s t 0x1904 (k.val * 256 + 1)) ∧
  -- noFirmwareKey
  (∀ (k : Fin 128) (kt : Fin 16) (testOk : Bool) (s : State),
    replaceOf k ≠ 1 ∨ kt.val ∉ typesOf k ∨ s.randomOk = false →
    exec (.firmwareKeyGen k kt testOk) s = .next s) ∧
  -- firmwareKeyCommit
  (∀ (k : Fin 128) (subject : List (BitVec 8)) (chain : CertChain) (s : State),
    replaceOf k = 1 →
    bit (s.slot k).pAttr 16 = true →
    subject.map (·.toNat) = (s.slot k).pPub →
    s.chainValid chain = true →
    s.failed 0x19 = false →
    s.appRuns = true →
    Completes (exec (.firmwareKeyCommit k subject chain) s) fun t =>
      t.slot k = { attr := (s.slot k).pAttr % 2 ^ 15, pub := some (s.slot k).pPub, cert := (s.slot k).pCert, shares := (s.slot k).pShares } ∧ Raises s t 0x1905 (k.val * 256) ∧ (∃ g ∈ t.lgs.queue, g.cls = 1 ∧ g.recs.map (·.type) = [0x30])) ∧
  -- emptySlot
  (∀ (k : Fin 128) (use : Fin 4) (err : BitVec 8) (queued : Fin 65) (s : State),
    (s.slot k).full = false ∨ bit ((s.slot k).attr / 16) use = false →
    s.failed 0x19 = false →
    Completes (exec (.cryptoOperationDone k use err queued) s) fun t =>
      t.sec.lastStatus = 3 ∧ t.rd .SEC_COUNT_OPERR 0 = satInc 65535 (s.rd .SEC_COUNT_OPERR 0) ∧ t.rd .SEC_QUEUE_INQ 0 = queued.val ∧ t.blu = s.blu ∧ t.events = s.events) ∧
  -- signs
  (∀ (queued : Fin 65) (d : CloseData) (l : List CloseData) (s : State),
    (s.slot 1).full = true →
    bit ((s.slot 1).attr / 16) 0 = true →
    s.blu.toSeal = d :: l →
    s.failed 0x19 = false →
    Completes (exec (.cryptoOperationDone 1 0 0 queued) s) fun t =>
      t.sec.lastStatus = 0 ∧ t.blu.toSeal = l ∧ t.lgs.queue.length = s.lgs.queue.length + 1 ∧ (lookup none t.sec.sealed d.outlet).map (·.1) = some d.sessNo ∧ t.events = s.events) ∧
  -- remask
  (∀ (seconds : Nat) (s : State),
    s.randomOk = true →
    Completes (exec (.remaskPass seconds) s) fun t =>
      t.rd .SEC_REMASK_REMASK 0 = (s.rd .SEC_REMASK_REMASK 0 + 1) % 2 ^ 32 ∧ (∀ k, k < 128 → t.keyOf k = s.keyOf k ∧ (isMasked (ktypeOf (s.slot k).attr) = true → (t.slot k).shares.sel = !(s.slot k).shares.sel)) ∧ t.sec.remaskAt = t.ltime ∧ s.now ≤ t.now ∧ (10 < seconds → Raises s t 0x190A (min 0xFF seconds))) ∧
  -- reseed
  (∀ (s : State),
    s.randomOk = true →
    Completes (exec (.drbgReseed) s) fun t =>
      t.sec = { s.sec with reseedAt := t.ltime, requests := 0 } ∧ (if 65536 ≤ s.sec.requests then t.now = s.now else t.now = max s.now (s.whenLtime (s.sec.reseedAt + 3932160))) ∧ t.events = s.events ∧ OnlyFlds [] s t) ∧
  -- noRandom
  (∀ (seconds : Nat) (s : State),
    s.randomOk = false →
    exec (.remaskPass seconds) s = .next s ∧ exec .drbgReseed s = .next s) ∧
  -- entropy
  (∀ (adaptive : Bool) (s : State),
    Completes (exec (.entropyTestFailure adaptive) s) fun t =>
      t.rd .SEC_STATUS_DRBGF 0 = 1 ∧ Raises s t 0x1908 (if adaptive then 2 else 1) ∧ t.sec = s.sec) ∧
  -- inputConfirm
  (∀ (i : Fin 16) (samples : List Bool) (isActive : Bool) (s : State),
    s.confirmedLevel i samples = some isActive →
    s.si i ≠ isActive →
    s.gse.confirming = none →
    s.gseRuns = true →
    Completes (exec (.safetyInputConfirm i samples) s) fun t =>
      t.si i = isActive ∧ lookup 0 t.gse.siAt i = s.now ∧ t.sec = s.sec) ∧
  -- sameInput
  (∀ (i : Fin 16) (samples : List Bool) (s : State),
    s.confirmedLevel i samples = none ∨ s.confirmedLevel i samples = some (s.si i) ∧ s.gse.confirming = none →
    exec (.safetyInputConfirm i samples) s = .next s) ∧
  -- pulse
  (∀ (i : Fin 16) (ms k : Nat) (r : SafeRec) (s : State),
    s.safeRec k = some r →
    r.rstSi = i.val →
    100 ≤ ms →
    ms ≤ 5000 →
    s.gse.confirming = none →
    s.gseRuns = true →
    s.rd .GSE_STATUS_STATE 0 = 2 →
    Completes (exec (.resetPulse i ms) s) fun t =>
      t.gse.pulses = s.gse.pulses ++ [(i.val, s.now - ms * 1000000, s.now)] ∧ t.si i = false ∧ t.events = s.events) ∧
  -- badPulse
  (∀ (i : Fin 16) (ms : Nat) (k : Fin 16) (r : SafeRec) (s : State),
    s.safeRec k = some r →
    r.rstSi = i.val →
    ms < 100 ∨ 5000 < ms →
    s.gse.confirming = none →
    s.gseRuns = true →
    Completes (exec (.resetPulse i ms) s) fun t =>
      t.gse.pulses = s.gse.pulses ∧ Raises s t 0x1708 (k.val * 256 + 4)) ∧
  -- confirmLate
  (∀ (c : Confirming) (w : AwaitAct) (s : State),
    s.gse.confirming = some c →
    s.sec.waiting = some w →
    s.gseRuns = true →
    Completes (exec (.safeConfirmTimeout) s) fun t =>
      t.gse.confirming = none ∧ t.sec.waiting = none ∧ t.now = max s.now c.deadline ∧ t.sec.answer = some ⟨2, 0, w.scSeq, 0, []⟩ ∧ Raises s t 0x1706 2 ∧ Raises s t 0x1903 (6 * 256 + 2))

/-- Updates, pulse pairs, the charge ledger and the drive voltages (R430, R431, R433, R434, R509). -/
def Obligations.PanelUpdatesAndTheirCharge : Prop :=
  -- update
  (∀ (s : State),
    s.dse.op = none →
    Completes (exec (.update) s) fun t =>
      t.dse = { s.dse with op := some .update } ∧ t.rd .DSE_STATUS_BUSY 0 = 1 ∧ t.events = s.events ∧ t.now = s.now ∧ OnlyFlds [(.DSE_STATUS_BUSY, 0)] s t) ∧
  -- updateHeld
  (∀ (o : DseOp) (s : State),
    s.dse.op = some o →
    o ≠ .start →
    Completes (exec (.update) s) fun t =>
      t.dse = { s.dse with again := true } ∧ t.rd .DSE_STATUS_BUSY 0 = 1 ∧ t.events = s.events) ∧
  -- updateInStart
  (∀ (s : State),
    s.dse.op = some .start →
    exec .update s = .next s) ∧
  -- test
  (∀ (s : State),
    s.dse.op = none →
    Completes (exec (.displayTest) s) fun t =>
      t.dse = { s.dse with op := some .test } ∧ t.rd .DSE_STATUS_BUSY 0 = 1 ∧ t.events = s.events ∧ OnlyFlds [(.DSE_STATUS_BUSY, 0)] s t) ∧
  -- testBusy
  (∀ (o : DseOp) (s : State),
    s.dse.op = some o →
    Completes (exec (.displayTest) s) fun t =>
      t.dse = s.dse ∧ t.rd .DSE_STATUS_CFGVIOL 0 = 1 ∧ Raises s t 0x1D09 0x008) ∧
  -- done
  (∀ (vdh vdl : BitVec 16) (copies : List (Nat × Int)) (s : State),
    s.dse.op = some .update →
    s.flag .DSE_STATUS_VFAULT 0 = false →
    s.failed 0x1D = false →
    s.dseRows.length ≤ 200 →
    s.appRuns = true →
    s.drivesInRange vdh.toNat vdl.toNat = true →
    Completes (exec (.displayUpdateDone vdh vdl copies) s) fun t =>
      Raises s t 0x1D01 (s.dseRows.filter (fun r => s.rowDiffers s.dse.shown s.dse.target r)).length ∧ t.rd .DSE_VMEAS_VDH 0 = vdh.toNat ∧ t.rd .DSE_VMEAS_VDL 0 = vdl.toNat ∧ t.rd .DSE_COUNT_UPDATES 0 = min 0xFFFF (s.rd .DSE_COUNT_UPDATES 0 + 1) ∧ t.dse.op = (if s.dse.again then some .update else none) ∧ t.dse.again = false ∧ t.dse.target = s.dse.target) ∧
  -- rowsAlike
  (∀ (r : Nat) (vdh vdl : BitVec 16) (copies : List (Nat × Int)) (s : State),
    s.dse.op = some .update →
    s.flag .DSE_STATUS_VFAULT 0 = false →
    s.failed 0x1D = false →
    s.rowDiffers s.dse.shown s.dse.target r = false →
    s.appRuns = true →
    s.drivesInRange vdh.toNat vdl.toNat = true →
    Completes (exec (.displayUpdateDone vdh vdl copies) s) fun t =>
      lookup 0 t.dse.balance r = lookup 0 s.dse.balance r ∧ bit t.dse.phase r = bit s.dse.phase r) ∧
  -- rowWritten
  (∀ (r : Nat) (vdh vdl : BitVec 16) (copies : List (Nat × Int)) (s : State),
    s.dse.op = some .update →
    s.flag .DSE_STATUS_VFAULT 0 = false →
    s.failed 0x1D = false →
    s.dseRows.contains r = true →
    s.rowDiffers s.dse.shown s.dse.target r = true →
    s.appRuns = true →
    s.drivesInRange vdh.toNat vdl.toNat = true →
    Completes (exec (.displayUpdateDone vdh vdl copies) s) fun t =>
      bit t.dse.phase r = (if s.flag .DSE_CTL_MODE 0 then bit s.dse.phase r else !bit s.dse.phase r) ∧ (s.flag .DSE_CTL_MODE 0 = true → lookup 0 t.dse.balance r = lookup 0 s.dse.balance r) ∧ (∀ w, w < 20 → lookup 0 t.dse.shown (r * 20 + w) = s.imageWord s.dse.target r w)) ∧
  -- doneIdle
  (∀ (vdh vdl : BitVec 16) (copies : List (Nat × Int)) (s : State),
    s.dse.op = none →
    s.flag .DSE_STATUS_VFAULT 0 = false →
    s.failed 0x1D = false →
    s.appRuns = true →
    s.drivesInRange vdh.toNat vdl.toNat = true →
    Completes (exec (.displayUpdateDone vdh vdl copies) s) fun t =>
      t.dse = s.dse ∧ t.events = s.events ∧ OnlyFlds [(.DSE_VMEAS_VDH, 0), (.DSE_VMEAS_VDL, 0)] s t) ∧
  -- doneFault
  (∀ (vdh vdl : BitVec 16) (copies : List (Nat × Int)) (s : State),
    s.flag .DSE_STATUS_VFAULT 0 = true →
    exec (.displayUpdateDone vdh vdl copies) s = .next s) ∧
  -- voltageLow
  (∀ (vdh vdl : BitVec 16) (rows : Nat) (s : State),
    s.flag .DSE_STATUS_VFAULT 0 = false →
    vdh.toNat < s.disp.byte 8 * 100 →
    s.dse.op ≠ some .update →
    Completes (exec (.driveVoltageFault vdh vdl rows) s) fun t =>
      t.rd .DSE_STATUS_VFAULT 0 = 1 ∧ t.dse = { s.dse with fault := 1, faultAt := s.now } ∧ t.rd .DSE_VMEAS_VDH 0 = vdh.toNat ∧ Raises s t 0x1D04 0x0101) ∧
  -- voltageHigh
  (∀ (vdh vdl : BitVec 16) (rows : Nat) (s : State),
    s.flag .DSE_STATUS_VFAULT 0 = false →
    s.disp.byte 8 * 100 ≤ vdh.toNat →
    s.disp.byte 9 * 100 < vdl.toNat →
    s.dse.op ≠ some .update →
    Completes (exec (.driveVoltageFault vdh vdl rows) s) fun t =>
      t.rd .DSE_STATUS_VFAULT 0 = 1 ∧ t.dse = { s.dse with fault := 2, faultAt := s.now } ∧ t.rd .DSE_VMEAS_VDL 0 = vdl.toNat ∧ Raises s t 0x1D04 0x0201) ∧
  -- voltageInUpdate
  (∀ (vdh vdl : BitVec 16) (rows : Nat) (s : State),
    s.flag .DSE_STATUS_VFAULT 0 = false →
    vdh.toNat < s.disp.byte 8 * 100 ∨ s.disp.byte 9 * 100 < vdl.toNat →
    s.dse.op = some .update →
    Completes (exec (.driveVoltageFault vdh vdl rows) s) fun t =>
      t.rd .DSE_STATUS_VFAULT 0 = 1 ∧ t.dse.op = some .update ∧ t.dse.target = s.dse.target ∧ t.dse.faultAt = s.now ∧ (∀ r ∈ s.changedRows.drop rows, lookup 0 t.dse.balance r = lookup 0 s.dse.balance r ∧ bit t.dse.phase r = bit s.dse.phase r) ∧ (∀ r ∈ s.changedRows.take rows, ∀ w, w < 20 → lookup 0 t.dse.shown (r * 20 + w) = s.imageWord s.dse.target r w) ∧ Raises s t 0x1D04 ((if vdh.toNat < s.disp.byte 8 * 100 then 1 else 2) * 256 + 1)) ∧
  -- voltageInRange
  (∀ (vdh vdl : BitVec 16) (rows : Nat) (s : State),
    s.disp.byte 8 * 100 ≤ vdh.toNat →
    vdl.toNat ≤ s.disp.byte 9 * 100 →
    Completes (exec (.driveVoltageFault vdh vdl rows) s) fun t =>
      t.dse = s.dse ∧ t.events = s.events ∧ OnlyFlds [(.DSE_VMEAS_VDH, 0), (.DSE_VMEAS_VDL, 0)] s t) ∧
  -- voltageBack
  (∀ (vdh vdl : BitVec 16) (s : State),
    s.dse.fault ≤ 2 →
    s.flag .DSE_STATUS_VFAULT 0 = true →
    s.lanternOn = false →
    s.disp.byte 8 * 100 ≤ vdh.toNat →
    vdl.toNat ≤ s.disp.byte 9 * 100 →
    Completes (exec (.driveVoltageResume vdh vdl) s) fun t =>
      t.rd .DSE_STATUS_VFAULT 0 = 0 ∧ t.dse = { s.dse with fault := 0 } ∧ t.now = max s.now (s.dse.faultAt + 100000000) ∧ Raises s t 0x1D04 (s.dse.fault * 256)) ∧
  -- voltageStillOut
  (∀ (vdh vdl : BitVec 16) (s : State),
    vdh.toNat < s.disp.byte 8 * 100 ∨ s.disp.byte 9 * 100 < vdl.toNat →
    Completes (exec (.driveVoltageResume vdh vdl) s) fun t =>
      t.dse = s.dse ∧ t.rd .DSE_STATUS_VFAULT 0 = s.rd .DSE_STATUS_VFAULT 0 ∧ t.events = s.events) ∧
  -- life
  (∀ (tmean tnow peak : Int) (flash0 flash1 : BitVec 32) (s : State),
    s.bcu.vin = none →
    s.bcu.counting = true →
    s.bcu.ltMark ≤ s.now →
    s.rd .ID_RUNTIME_HOURS 0 < 2 ^ 32 →
    Completes (exec (.lifeAccounting tmean tnow peak flash0 flash1) s) fun t =>
      t.rd .ID_RUNTIME_HOURS 0 = min 0xFFFFFFFF (s.rd .ID_RUNTIME_HOURS 0 + 100) ∧ (t.rd .ID_LIFE_EQH 0 = min 0xFFFFFFFF (s.rd .ID_LIFE_EQH 0 + (lifeHour tmean).1) ∨ (lifeHour tmean).2 = false ∧ t.rd .ID_LIFE_EQH 0 = min 0xFFFFFFFF (s.rd .ID_LIFE_EQH 0 + (lifeHour tmean).1 + 1)) ∧ s.bcu.lifeAt + 3600 * 65536 ≤ t.ltime ∧ t.bcu.lifeAt = s.bcu.lifeAt + 3600 * 65536 ∧ t.rd .ID_TCASE_TNOW 0 = toTwos 16 tnow % 2 ^ 16 ∧ t.rd .ID_FLASH_WEAR 0 = max (s.rd .ID_FLASH_WEAR 0) (flash0.toNat / 2 ^ 24) ∧ t.rd .ID_FLASH_WRITTEN 1 = max (s.rd .ID_FLASH_WRITTEN 1) (flash1.toNat % 2 ^ 16) ∧ t.events = s.events ∧ OnlyFlds [(.ID_RUNTIME_HOURS, 0), (.ID_LIFE_EQH, 0), (.ID_TCASE_TNOW, 0), (.ID_TCASE_TMAX, 0), (.ID_FLASH_WEAR, 0), (.ID_FLASH_SPARE, 0), (.ID_FLASH_WRITTEN, 0), (.ID_FLASH_WEAR, 1), (.ID_FLASH_SPARE, 1), (.ID_FLASH_WRITTEN, 1)] s t) ∧
  -- lifeRule
  (∀ (tmean : Int),
    -1000 ≤ tmean →
    tmean ≤ 2000 →
    (lifeHour tmean).1 ^ 100 * 2 ^ (550 - tmean).toNat ≤ 100 ^ 100 * 2 ^ (tmean - 550).toNat ∧ 100 ^ 100 * 2 ^ (tmean - 550).toNat < ((lifeHour tmean).1 + 1) ^ 100 * 2 ^ (550 - tmean).toNat) ∧
  -- lifeOff
  (∀ (tmean tnow peak : Int) (flash0 flash1 : BitVec 32) (v : VinState) (s : State),
    s.bcu.vin = some v →
    exec (.lifeAccounting tmean tnow peak flash0 flash1) s = .next s)

/-- The Lantern path (R439 to R441). -/
def Obligations.TheLanternBand : Prop :=
  -- latch
  (∀ (n : Fin 24) (s : State),
    s.lanternOn = true →
    bit (s.eff .DSE_LNMASK_LNMASK 0) n.val = true →
    s.flag .DSE_STATUS_VFAULT 0 = false →
    s.flag .DSE_LNSTAT_MARK 0 = false →
    Completes (exec (.lanternStopLatch n) s) fun t =>
      t.rd .DSE_LNSTAT_MARK 0 = 1 ∧ t.rd .DSE_STATUS_STALE 0 = 1 ∧ t.rd .DSE_LNSTAT_PEND 0 = 1 ∧ t.dse.awaits = some (n.val, s.rd .BLU_ESESS_SESSNO n.val) ∧ t.dse.committed = false ∧ t.dse.target = s.dse.target ∧ t.dse.op = s.dse.op ∧ Raises s t 0x1D08 1 ∧ t.rd .DSE_LNSTAT_OUTLET 0 = s.rd .DSE_LNSTAT_OUTLET 0 ∧ t.rd .DSE_LNSEQ_SESSNO 0 = s.rd .DSE_LNSEQ_SESSNO 0) ∧
  -- latchMarked
  (∀ (n : Fin 24) (s : State),
    s.lanternOn = true →
    bit (s.eff .DSE_LNMASK_LNMASK 0) n.val = true →
    s.flag .DSE_STATUS_VFAULT 0 = false →
    s.flag .DSE_LNSTAT_MARK 0 = true →
    Completes (exec (.lanternStopLatch n) s) fun t =>
      t.rd .DSE_LNSTAT_MARK 0 = 1 ∧ t.rd .DSE_LNSTAT_PEND 0 = 1 ∧ t.dse.awaits = some (n.val, s.rd .BLU_ESESS_SESSNO n.val) ∧ t.dse.committed = false ∧ t.dse.target = s.dse.target ∧ t.dse.op = s.dse.op ∧ t.events = s.events) ∧
  -- latchWaits
  (∀ (n : Fin 24) (s : State),
    s.lanternOn = true →
    bit (s.eff .DSE_LNMASK_LNMASK 0) n.val = true →
    s.flag .DSE_STATUS_VFAULT 0 = true →
    Completes (exec (.lanternStopLatch n) s) fun t =>
      t.rd .DSE_LNSTAT_MARK 0 = s.rd .DSE_LNSTAT_MARK 0 ∧ t.rd .DSE_LNSTAT_PEND 0 = 1 ∧ t.dse.awaits = some (n.val, s.rd .BLU_ESESS_SESSNO n.val) ∧ t.events = s.events) ∧
  -- latchOff
  (∀ (n : Fin 24) (s : State),
    s.lanternOn = false ∨ bit (s.eff .DSE_LNMASK_LNMASK 0) n.val = false →
    exec (.lanternStopLatch n) s = .next s) ∧
  -- commit
  (∀ (n : Fin 24) (sess energy flags : Nat) (unsigned : Bool) (s : State),
    lookup none s.sec.sealed n.val = some (sess, energy, flags, unsigned) →
    s.dse.awaits = some (n.val, sess) →
    s.lanternOn = true →
    s.flag .DSE_STATUS_VFAULT 0 = false →
    s.flag .DSE_LNSTAT_MARK 0 = true →
    sess < 2 ^ 32 →
    s.lgs.queue.any (·.closes n sess) = false →
    Completes (exec (.lanternCommit n) s) fun t =>
      t.rd .DSE_LNSTAT_MARK 0 = 0 ∧ t.rd .DSE_STATUS_STALE 0 = 0 ∧ t.rd .DSE_LNSTAT_PEND 0 = 0 ∧ t.rd .DSE_LNSTAT_OUTLET 0 = n.val ∧ t.rd .DSE_LNSEQ_SESSNO 0 = sess ∧ t.dse.lantern = ⟨n.val, sess, energy, flags, unsigned⟩ ∧ t.dse.awaits = none ∧ Raises s t 0x1D08 0 ∧ Raises s t 0x1D07 (n.val * 256 + sess % 256)) ∧
  -- commitWaits
  (∀ (n : Fin 24) (sess energy flags : Nat) (unsigned : Bool) (s : State),
    lookup none s.sec.sealed n.val = some (sess, energy, flags, unsigned) →
    s.lgs.queue.any (·.closes n sess) = true →
    exec (.lanternCommit n) s = .next s) ∧
  -- commitOther
  (∀ (n : Fin 24) (s : State),
    s.dse.awaits = none →
    exec (.lanternCommit n) s = .next s) ∧
  -- commitOld
  (∀ (n : Fin 24) (m k : Nat) (sess energy flags : Nat) (unsigned : Bool) (s : State),
    lookup none s.sec.sealed n.val = some (sess, energy, flags, unsigned) →
    s.dse.awaits = some (m, k) →
    k ≠ sess ∨ m ≠ n.val →
    exec (.lanternCommit n) s = .next s) ∧
  -- resume
  (∀ (n : Fin 24) (sess energy flags : Nat) (unsigned : Bool) (vdh vdl : BitVec 16) (s : State),
    lookup none s.sec.sealed n.val = some (sess, energy, flags, unsigned) →
    s.dse.awaits = some (n.val, sess) →
    s.dse.committed = true →
    s.lanternOn = true →
    s.flag .DSE_STATUS_VFAULT 0 = true →
    s.disp.byte 8 * 100 ≤ vdh.toNat →
    vdl.toNat ≤ s.disp.byte 9 * 100 →
    sess < 2 ^ 32 →
    Completes (exec (.driveVoltageResume vdh vdl) s) fun t =>
      t.rd .DSE_STATUS_VFAULT 0 = 0 ∧ t.rd .DSE_LNSTAT_MARK 0 = 0 ∧ t.rd .DSE_LNSTAT_OUTLET 0 = n.val ∧ t.rd .DSE_LNSEQ_SESSNO 0 = sess ∧ Raises s t 0x1D07 (n.val * 256 + sess % 256))

/-- Staging and scheduling (R478 to R488, R495, R498, R499). What the opaque signature and digest give enters only through the checks. -/
def Obligations.UpdatesAreCheckedAndStaged : Prop :=
  -- load
  (∀ (s : State),
    s.failed 0x1E = false →
    s.updState = 0 →
    s.ppl.staged = none →
    s.lifeCycle = 1 ∨ s.lifeCycle = 2 ∨ s.lifeCycle = 3 →
    Completes (exec (.load) s) fun t =>
      t.updState = 1 ∧ t.upd = s.upd ∧ t.events = s.events ∧ t.now = s.now) ∧
  -- loadRefused
  (∀ (s : State),
    s.failed 0x1E = false →
    s.updState ≠ 0 ∨ s.ppl.staged.isSome = true ∨ s.lifeCycle = 4 ∨ s.lifeCycle = 5 →
    Completes (exec (.load) s) fun t =>
      t.updState = s.updState ∧ t.upd = s.upd ∧ t.rd .UPD_RESULT_REASON 0 = 0x0F ∧ t.rd .UPD_STATUS_REFUSED 0 = 1 ∧ Raises s t 0x1E02 0x0F) ∧
  -- staged
  (∀ (writeFail : Option (Fin 64)) (s : State),
    s.updState = 1 →
    s.updRuns = true →
    Completes (exec (.updateStaged writeFail) s) fun t =>
      (if s.updChecks.1 = 0 ∧ writeFail = none then t.updState = 4 ∧ t.upd.hold.isSome = true ∧ Raises s t 0x1E03 (u16 ((s.upd.medium.bind (·.manifest)).getD []) 0x0C) else t.updState = 0 ∧ t.upd.hold = (if s.updChecks.1 = 0 then none else s.upd.hold) ∧ t.rd .UPD_STATUS_REFUSED 0 = 1 ∧ t.rd .UPD_RESULT_REASON 0 = (if s.updChecks.1 = 0 then 0x0E else s.updChecks.1 % 256) ∧ Raises s t 0x1E02 (if s.updChecks.1 = 0 then ((writeFail.map (·.val)).getD 0) % 256 * 256 + 0x0E else s.updChecks.2 % 256 * 256 + s.updChecks.1 % 256))) ∧
  -- noMedium
  (∀ (writeFail : Option (Fin 64)) (s : State),
    s.updState = 1 →
    s.upd.medium = none →
    s.updRuns = true →
    Completes (exec (.updateStaged writeFail) s) fun t =>
      t.updState = 0 ∧ t.rd .UPD_RESULT_REASON 0 = 1 ∧ t.rd .UPD_RESULT_DETAIL 0 = 0 ∧ t.rd .UPD_STATUS_REFUSED 0 = 1 ∧ Raises s t 0x1E02 1) ∧
  -- noManifest
  (∀ (files : List (List Nat × List Nat)) (writeFail : Option (Fin 64)) (s : State),
    s.updState = 1 →
    s.upd.medium = some ⟨none, files⟩ →
    s.updRuns = true →
    Completes (exec (.updateStaged writeFail) s) fun t =>
      t.updState = 0 ∧ t.rd .UPD_RESULT_REASON 0 = 2 ∧ t.rd .UPD_STATUS_REFUSED 0 = 1 ∧ Raises s t 0x1E02 2) ∧
  -- badManifest
  (∀ (m : List Nat) (files : List (List Nat × List Nat)) (writeFail : Option (Fin 64)) (s : State),
    s.updState = 1 →
    s.upd.medium = some ⟨some m, files⟩ →
    manifestOk m = false →
    s.updRuns = true →
    Completes (exec (.updateStaged writeFail) s) fun t =>
      t.updState = 0 ∧ t.rd .UPD_RESULT_REASON 0 = 3 ∧ t.rd .UPD_STATUS_REFUSED 0 = 1 ∧ Raises s t 0x1E02 3) ∧
  -- written
  (∀ (h : UpdHold) (s : State),
    s.upd.hold = some h →
    s.updState = 3 →
    s.updRuns = true →
    fromLe ((h.manifest.drop 0x18).take 8) = 0 →
    Completes (exec (.updateStaged none) s) fun t =>
      t.updState = 4 ∧ t.upd = s.upd ∧ t.alk = { s.alk with images := h.images, imgAt := 0 } ∧ t.rd .UPD_UPDID_UPDID 0 = h.updId % 2 ^ 32 ∧ Raises s t 0x1E03 h.parts.length) ∧
  -- notReading
  (∀ (writeFail : Option (Fin 64)) (s : State),
    s.updState = 0 ∨ 3 < s.updState ∨ s.updRuns = false →
    exec (.updateStaged writeFail) s = .next s) ∧
  -- inserted
  (∀ (manifest : Option (List (BitVec 8))) (files : List (List (BitVec 8) × List (BitVec 8))) (s : State),
    Completes (exec (.mediumInserted manifest files) s) fun t =>
      t.rd .UPD_STATUS_MEDIA 0 = 1 ∧ t.upd.medium = some ⟨manifest.map (·.map (·.toNat)), files.map fun f => (f.1.map (·.toNat), f.2.map (·.toNat))⟩ ∧ t.upd.hold = s.upd.hold ∧ t.events = s.events ∧ OnlyFlds [(.UPD_STATUS_MEDIA, 0)] s t) ∧
  -- removedReading
  (∀ (s : State),
    s.updState = 1 ∨ s.updState = 2 →
    s.upd.hold = none →
    Completes (exec (.mediumRemoved) s) fun t =>
      t.rd .UPD_STATUS_MEDIA 0 = 0 ∧ t.upd.medium = none ∧ t.updState = 0 ∧ t.rd .UPD_RESULT_REASON 0 = 0x11 ∧ t.rd .UPD_STATUS_REFUSED 0 = 1 ∧ Raises s t 0x1E02 0x11) ∧
  -- removed
  (∀ (s : State),
    s.updState ≠ 1 →
    s.updState ≠ 2 →
    Completes (exec (.mediumRemoved) s) fun t =>
      t.upd = { s.upd with medium := none } ∧ t.events = s.events ∧ OnlyFlds [(.UPD_STATUS_MEDIA, 0)] s t ∧ t.rd .UPD_STATUS_MEDIA 0 = 0) ∧
  -- network
  (∀ (v2 : Bool) (s : State),
    Completes (exec (.ocppFirmwareRequest v2) s) fun t =>
      Raises s t 0x1E0C (if v2 then 2 else 1) ∧ t.ntu.backOffice = s.ntu.backOffice ++ [.firmwareRefused v2] ∧ t.upd = s.upd ∧ OnlyFlds dropFlds s t) ∧
  -- activate
  (∀ (h : UpdHold) (ask : Nat) (s : State),
    s.upd.hold = some h →
    s.updState = 4 →
    fromLe ((h.manifest.drop 0x18).take 8) = 0 →
    s.ptpUsable = true ∨ h.parts.any (fun p => p.kind == 6) = false →
    s.rd .UPD_ACTTIME_L 0 + 2 ^ 32 * s.rd .UPD_ACTTIME_H 0 = ask →
    ask ≠ 0 →
    s.timeOk s.ptpUsable h.drain ask = true →
    s.updRuns = true →
    Completes (exec (.activate) s) fun t =>
      t.upd.hold = some { h with t := some ask, byPtp := s.ptpUsable, tL := s.ledgerOf s.ptpUsable ask } ∧ t.updState = 4 ∧ Raises s t 0x1E04 (min 0xFFFF ((ask - s.clockSec s.ptpUsable) / 60))) ∧
  -- activateSoon
  (∀ (h : UpdHold) (s : State),
    s.upd.hold = some h →
    s.updState = 4 →
    fromLe ((h.manifest.drop 0x18).take 8) = 0 →
    h.drain ≤ 120 →
    s.ptpUsable = true ∨ h.parts.any (fun p => p.kind == 6) = false →
    s.rd .UPD_ACTTIME_L 0 + 2 ^ 32 * s.rd .UPD_ACTTIME_H 0 = 0 →
    s.updRuns = true →
    Completes (exec (.activate) s) fun t =>
      ∃ h', t.upd.hold = some h' ∧ h'.t = some (s.clockNext s.ptpUsable + h.drain * 60 + 60) ∧ h'.byPtp = s.ptpUsable) ∧
  -- activateLate
  (∀ (h : UpdHold) (ask : Nat) (s : State),
    s.upd.hold = some h →
    s.updState = 4 →
    fromLe ((h.manifest.drop 0x18).take 8) = 0 →
    s.rd .UPD_ACTTIME_L 0 + 2 ^ 32 * s.rd .UPD_ACTTIME_H 0 = ask →
    s.timeOk s.ptpUsable h.drain ask = false ∧ ask ≠ 0 ∨ s.ptpUsable = false ∧ h.parts.any (fun p => p.kind == 6) = true →
    s.updRuns = true →
    Completes (exec (.activate) s) fun t =>
      t.upd = s.upd ∧ t.rd .UPD_RESULT_REASON 0 = 0x0D ∧ t.rd .UPD_STATUS_REFUSED 0 = 1 ∧ Raises s t 0x1E02 0x0D) ∧
  -- activateState
  (∀ (s : State),
    s.updState ≠ 4 ∨ s.upd.hold = none ∨ (s.upd.hold.map fun h => fromLe ((h.manifest.drop 0x18).take 8)) ≠ some 0 →
    s.updRuns = true →
    Completes (exec (.activate) s) fun t =>
      Raises s t 0x1E0A (512 + s.updState % 256) ∧ t.upd = s.upd ∧ OnlyFlds dropFlds s t) ∧
  -- cancel
  (∀ (h : UpdHold) (s : State),
    s.upd.hold = some h →
    1 ≤ s.updState ∧ s.updState ≤ 5 →
    h.written = [] →
    s.updRuns = true →
    Completes (exec (.cancel) s) fun t =>
      t.updState = 0 ∧ t.upd.hold = none ∧ t.rd .UPD_RESULT_REASON 0 = 0x10 ∧ t.rd .UPD_STATUS_REFUSED 0 = 1 ∧ t.rd .UPD_UPDID_UPDID 0 = 0 ∧ Raises s t 0x1E02 0x10) ∧
  -- cancelWritten
  (∀ (h : UpdHold) (s : State),
    s.upd.hold = some h →
    1 ≤ s.updState ∧ s.updState ≤ 5 →
    h.written ≠ [] →
    s.updRuns = true →
    Completes (exec (.cancel) s) fun t =>
      t.updState = 9 ∧ t.upd.hold = some h ∧ t.rd .UPD_RESULT_REASON 0 = 0x10 ∧ t.rd .UPD_STATUS_REFUSED 0 = 1 ∧ Raises s t 0x1E02 0x10) ∧
  -- cancelState
  (∀ (s : State),
    s.updState = 0 ∨ 5 < s.updState →
    s.updRuns = true →
    Completes (exec (.cancel) s) fun t =>
      Raises s t 0x1E0A (768 + s.updState % 256) ∧ t.upd = s.upd ∧ OnlyFlds dropFlds s t) ∧
  -- restored
  (∀ (s : State),
    s.updState = 9 →
    s.updRuns = true →
    Completes (exec (.abandonRestoreDone) s) fun t =>
      t.updState = 0 ∧ t.upd.hold = none ∧ t.events = s.events) ∧
  -- nothingToRestore
  (∀ (s : State),
    s.updState ≠ 9 →
    exec .abandonRestoreDone s = .next s)

/-- Activation, trial, commit and fallback (R265, R267, R489, R491 to R496). -/
def Obligations.UpdatesActivateOnTrialAndFallBack : Prop :=
  -- drain
  (∀ (h : UpdHold) (at_ : Nat) (s : State),
    s.upd.hold = some h →
    h.t = some at_ →
    s.updState = 4 →
    s.updRuns = true →
    Completes (exec (.drainStart) s) fun t =>
      t.updState = 5 ∧ t.upd = s.upd ∧ Raises s t 0x1E05 0 ∧ t.now = max s.now (s.whenLtime (s.tL h - h.drain * 60 * 65536))) ∧
  -- noDrain
  (∀ (s : State),
    s.updState ≠ 4 →
    exec .drainStart s = .next s) ∧
  -- nodesHold
  (∀ (h : UpdHold) (at_ : Nat) (s : State),
    s.upd.hold = some h →
    h.t = some at_ →
    s.updState = 5 →
    (∀ r ∈ s.namedNodes h, s.flag .ALK_NVER_PEND (r.byte 2) = true) →
    s.updRuns = true →
    Completes (exec (.nodeImageDeadline) s) fun t =>
      t.updState = 5 ∧ t.upd = s.upd ∧ t.events = s.events ∧ t.now = max s.now (s.whenLtime (s.tL h - 60 * 65536)) ∧ OnlyFlds [] s t) ∧
  -- nodesMiss
  (∀ (h : UpdHold) (at_ : Nat) (r : NetwRec) (s : State),
    s.upd.hold = some h →
    h.t = some at_ →
    s.updState = 5 →
    r ∈ s.namedNodes h →
    s.flag .ALK_NVER_PEND (r.byte 2) = false →
    s.updRuns = true →
    Completes (exec (.nodeImageDeadline) s) fun t =>
      t.updState = (if h.written = [] then 0 else 9) ∧ t.rd .UPD_RESULT_REASON 0 = 0x12 ∧ t.rd .UPD_STATUS_REFUSED 0 = 1 ∧ Raises s t 0x1E02 0x12) ∧
  -- activateNodes
  (∀ (h : UpdHold) (at_ : Nat) (p : UpdPart) (s : State),
    s.upd.hold = some h →
    h.t = some at_ →
    s.updState = 5 →
    h.parts = [p] →
    p.kind = 6 →
    s.updRuns = true →
    Completes (exec (.nodeActivateSend) s) fun t =>
      t.alk.switch = some ⟨at_, [p.imgId], false⟩ ∧ t.updState = 5 ∧ t.events = s.events ∧ t.now = max s.now (s.whenLtime (s.tL h - 5 * 65536))) ∧
  -- activation
  (∀ (n : Fin 24) (h : UpdHold) (at_ : Nat) (s : State),
    s.upd.hold = some h →
    h.t = some at_ →
    s.updState = 5 →
    h.plan = none →
    s.inSession n.val = true →
    s.updRuns = true →
    Completes (exec (.updateActivation) s) fun t =>
      t.updState = 6 ∧ t.upd = s.upd ∧ t.inSession n.val = false ∧ Raises s t 0x1106 (n.val * 256 + 2) ∧ t.now = max s.now (s.whenLtime (s.tL h))) ∧
  -- notScheduled
  (∀ (s : State),
    s.upd.hold = none →
    exec .nodeImageDeadline s = .next s ∧ exec .nodeActivateSend s = .next s ∧ exec .updateActivation s = .next s ∧ exec .activationReset s = .next s ∧ exec .nodeVersionTimeout s = .next s) ∧
  -- activationReset
  (∀ (h : UpdHold) (w : Nat × Nat × Nat) (s : State),
    s.upd.hold = some h →
    h.written = [w] →
    s.updState = 6 →
    s.bcu.phase = .running →
    s.updRuns = true →
    Completes (exec (.activationReset) s) fun t =>
      t.updState = 7 ∧ t.bcu.phase = .commit ∧ t.bcu.commanded = some 3 ∧ lookup none t.upd.versions w.1 = some w.2.2 ∧ t.upd.sfmt = h.newSfmt ∧ t.upd.trial = 0 ∧ t.rd .UPD_STATUS_SETDUAL 0 = (if h.oldSfmt = h.newSfmt then 0 else 1) ∧ Raises s t 0x1E06 (h.updId % 65536) ∧ Raises s t 0x0101 4) ∧
  -- confirm
  (∀ (h : UpdHold) (s : State),
    s.upd.hold = some h →
    s.updState = 7 →
    s.updRuns = true →
    Completes (exec (.confirm) s) fun t =>
      t.updState = 0 ∧ t.upd.hold = none ∧ t.rd .UPD_COUNT_COMMITS 0 = min 0xFFFF (s.rd .UPD_COUNT_COMMITS 0 + 1) ∧ t.rd .UPD_STATUS_SETDUAL 0 = 0 ∧ Raises s t 0x1E07 1 ∧ (∃ g ∈ t.lgs.queue.drop s.lgs.queue.length, g.cls = 1 ∧ ∃ r ∈ g.recs, r.type = 0x39) ∧ ∀ p ∈ h.parts, p.isPlan = false → s.partCounter p.key < p.version → h.parts = [p] → lookup 0 t.upd.counters p.key = p.version) ∧
  -- confirmState
  (∀ (s : State),
    s.updState ≠ 7 →
    s.updRuns = true →
    Completes (exec (.confirm) s) fun t =>
      Raises s t 0x1E0A (1024 + s.updState % 256) ∧ t.upd = s.upd ∧ OnlyFlds dropFlds s t) ∧
  -- trialComplete
  (∀ (h : UpdHold) (a : Nat) (s : State),
    s.upd.hold = some h →
    s.upd.trialAt = some a →
    s.updState = 7 →
    s.updRuns = true →
    Completes (exec (.trialComplete) s) fun t =>
      t.updState = 0 ∧ t.upd.hold = none ∧ t.rd .UPD_COUNT_COMMITS 0 = min 0xFFFF (s.rd .UPD_COUNT_COMMITS 0 + 1) ∧ Raises s t 0x1E07 2 ∧ s.now ≤ t.now) ∧
  -- trialNotRunning
  (∀ (s : State),
    s.updState ≠ 7 ∨ s.upd.trialAt = none →
    exec .trialComplete s = .next s) ∧
  -- fallback
  (∀ (h : UpdHold) (s : State),
    s.upd.hold = some h →
    s.updState = 7 →
    s.updRuns = true →
    Completes (exec (.fallback) s) fun t =>
      t.updState = 8 ∧ t.upd.hold = some { h with cause := 4 } ∧ t.upd.trialAt = none ∧ t.rd .UPD_COUNT_FALLBACKS 0 = min 0xFFFF (s.rd .UPD_COUNT_FALLBACKS 0 + 1) ∧ Raises s t 0x1E08 4 ∧ (∃ g ∈ t.lgs.queue.drop s.lgs.queue.length, g.cls = 1 ∧ ∃ r ∈ g.recs, r.type = 0x3A)) ∧
  -- fallbackState
  (∀ (s : State),
    s.updState ≠ 7 →
    s.updRuns = true →
    Completes (exec (.fallback) s) fun t =>
      Raises s t 0x1E0A (1280 + s.updState % 256) ∧ t.upd = s.upd ∧ OnlyFlds dropFlds s t) ∧
  -- nodesConfirm
  (∀ (h : UpdHold) (t0 : Nat) (s : State),
    s.upd.hold = some h →
    s.upd.nodeT = some t0 →
    s.updState = 7 →
    s.namedNodes h = [] →
    s.updRuns = true →
    Completes (exec (.nodeVersionTimeout) s) fun t =>
      t.upd = { s.upd with nodeT := none } ∧ t.updState = 7 ∧ t.now = max s.now t0 ∧ t.events = s.events ∧ OnlyFlds [] s t) ∧
  -- nodesOld
  (∀ (h : UpdHold) (t0 : Nat) (r : NetwRec) (s : State),
    s.upd.hold = some h →
    s.upd.nodeT = some t0 →
    s.updState = 7 →
    r ∈ s.namedNodes h →
    s.flag .ALK_NVER_CONF (r.byte 2) = false →
    s.updRuns = true →
    Completes (exec (.nodeVersionTimeout) s) fun t =>
      t.updState = 8 ∧ t.upd.hold = some { h with cause := 3 } ∧ t.upd.nodeT = none ∧ Raises s t 0x1E08 3 ∧ t.now = max s.now t0) ∧
  -- restoreDone
  (∀ (h : UpdHold) (w : Nat × Nat × Nat) (s : State),
    s.upd.hold = some h →
    s.updState = 8 →
    s.upd.fallbackAt = none →
    h.fallback = none →
    h.written = [w] →
    s.updRuns = true →
    Completes (exec (.fallbackRestoreDone) s) fun t =>
      t.updState = 8 ∧ lookup none t.upd.versions w.1 = some w.2.1 ∧ t.upd.sfmt = h.oldSfmt ∧ t.upd.hold = some { h with told := true } ∧ t.upd.fallbackAt = some (s.ledgerOf s.ptpUsable (s.clockNext s.ptpUsable + 10)) ∧ t.events = s.events ∧ t.now = s.now) ∧
  -- noRestore
  (∀ (s : State),
    s.updState ≠ 8 →
    exec .fallbackRestoreDone s = .next s ∧ exec .fallbackReset s = .next s) ∧
  -- fallbackReset
  (∀ (t0 : Nat) (s : State),
    s.upd.fallbackAt = some t0 →
    s.updState = 8 →
    s.bcu.phase = .running →
    s.updRuns = true →
    Completes (exec (.fallbackReset) s) fun t =>
      t.bcu.phase = .commit ∧ t.bcu.commanded = some 3 ∧ t.upd.fallbackAt = none ∧ t.updState = 8 ∧ Raises s t 0x0101 4 ∧ t.bcu.tpf = some (max s.now (s.whenLtime t0))) ∧
  -- gsePassed
  (∀ (inputs : BitVec 16) (t0 : Nat) (p : Plan) (s : State),
    s.gse.testsT = some t0 →
    s.plan = some p →
    p.safeCv = s.rd .GSE_CVCONF_CVCONF 0 →
    p.safe = [] →
    Completes (exec (.gseStartupTestsDone 0 inputs) s) fun t =>
      t.rd .GSE_STATUS_STATE 0 = 2 ∧ t.rd .GSE_STATUS_CVOK 0 = 1 ∧ t.rd .GSE_SI_IN 0 = inputs.toNat ∧ t.gse.testsT = none ∧ t.now = max s.now t0 ∧ Raises s t 0x1704 2) ∧
  -- gseOther
  (∀ (inputs : BitVec 16) (t0 : Nat) (p : Plan) (s : State),
    s.gse.testsT = some t0 →
    s.plan = some p →
    p.safeCv ≠ s.rd .GSE_CVCONF_CVCONF 0 →
    p.safe = [] →
    Completes (exec (.gseStartupTestsDone 0 inputs) s) fun t =>
      t.rd .GSE_STATUS_STATE 0 = 1 ∧ t.rd .GSE_STATUS_CVOK 0 = 0 ∧ t.gse.testsT = none ∧ Raises s t 0x1704 1) ∧
  -- gseFailed
  (∀ (failed : Fin 10) (inputs : BitVec 16) (t0 : Nat) (s : State),
    s.gse.testsT = some t0 →
    failed ≠ 0 →
    s.rd .GSE_STATUS_STATE 0 ≠ 3 →
    s.updState ≠ 7 →
    Completes (exec (.gseStartupTestsDone failed inputs) s) fun t =>
      t.rd .GSE_STATUS_STATE 0 = 3 ∧ t.rd .GSE_DIAG_FCODE 0 = failed.val ∧ t.rd .GSE_SO_CMD 0 = 0 ∧ t.gse.testsT = none ∧ t.upd = s.upd ∧ Raises s t 0x1703 failed.val) ∧
  -- gseFailedInTrial
  (∀ (failed : Fin 10) (inputs : BitVec 16) (t0 : Nat) (h : UpdHold) (s : State),
    s.gse.testsT = some t0 →
    failed ≠ 0 →
    s.rd .GSE_STATUS_STATE 0 ≠ 3 →
    s.updState = 7 →
    s.upd.hold = some h →
    Completes (exec (.gseStartupTestsDone failed inputs) s) fun t =>
      t.rd .GSE_STATUS_STATE 0 = 3 ∧ t.updState = 8 ∧ t.upd.hold = some { h with cause := 2 } ∧ Raises s t 0x1E08 2) ∧
  -- gseNotTesting
  (∀ (failed : Fin 10) (inputs : BitVec 16) (s : State),
    s.gse.testsT = none →
    exec (.gseStartupTestsDone failed inputs) s = .next s)

/-- Supply, power failure and restoration (R444, R445, R448 to R451, R476). The free values of VIN and of the restoration time are the model's (the spec gives ranges). -/
def Obligations.SupplyLossEndsInPowerFailure : Prop :=
  -- vinLow
  (∀ (s : State),
    s.bcu.vin = none →
    s.bcu.phase ≠ .off →
    Completes (exec (.vinLoss .low) s) fun t =>
      t.bcu.vin = some .low ∧ t.bcu.absentAt = some s.now ∧ t.rd .BCU_SUPPLY_VIN 0 ≤ 3450 ∧ t.events = s.events ∧ OnlyFlds [(.BCU_SUPPLY_VIN, 0)] s t) ∧
  -- vinReversed
  (∀ (s : State),
    s.bcu.vin = none →
    s.bcu.phase ≠ .off →
    Completes (exec (.vinLoss .reversed) s) fun t =>
      t.bcu.vin = some .reversed ∧ t.bcu.absentAt = some s.now ∧ t.rd .BCU_SUPPLY_VIN 0 = 0 ∧ t.events = s.events ∧ OnlyFlds [(.BCU_SUPPLY_VIN, 0)] s t) ∧
  -- vinOver
  (∀ (s : State),
    s.bcu.vin = none →
    s.bcu.phase ≠ .off →
    Completes (exec (.vinLoss .over) s) fun t =>
      t.bcu.vin = some .over ∧ 7700 ≤ t.rd .BCU_SUPPLY_VIN 0 ∧ t.rd .BCU_SUPPLY_VIN 0 ≤ 10000 ∧ t.rd .BCU_STATUS_OVV 0 = 1 ∧ t.events = s.events ∧ OnlyFlds [(.BCU_SUPPLY_VIN, 0), (.BCU_STATUS_OVV, 0)] s t) ∧
  -- dip
  (∀ (ms t0 : Nat) (k : VinState) (s : State),
    s.bcu.vin = some k →
    s.bcu.absentAt = some t0 →
    s.bcu.phase = .running →
    ms < s.rideThrough →
    Completes (exec (.supplyDip ms) s) fun t =>
      t.bcu.vin = none ∧ t.bcu.phase = .running ∧ t.rd .BCU_STATUS_DIP 0 = 1 ∧ Raises s t 0x0103 ms ∧ t.now = max s.now (t0 + ms * 1000000)) ∧
  -- failure
  (∀ (cause : Fin 3) (t0 : Nat) (k : VinState) (s : State),
    s.bcu.vin = some k →
    s.bcu.absentAt = some t0 →
    s.bcu.phase = .running →
    cause.val ≠ 2 →
    Completes (exec (.powerFailure cause) s) fun t =>
      t.bcu.phase = .commit ∧ t.bcu.commanded = none ∧ t.bcu.tpf = some (max s.now (t0 + s.rideThrough * 1000000)) ∧ Raises s t 0x0101 (match k with | .low => 1 | .reversed => 2 | .over => 2) ∧ t.rd .BCU_STATUS_GHOLD 0 = 0) ∧
  -- commandedCommit
  (∀ (cause : Fin 3) (t0 : Nat) (k : VinState) (s : State),
    s.bcu.vin = some k →
    s.bcu.absentAt = some t0 →
    s.bcu.phase = .commit →
    s.bcu.commanded.isSome = true →
    Completes (exec (.powerFailure cause) s) fun t =>
      t.bcu = { s.bcu with commanded := none } ∧ t.events = s.events ∧ t.now = s.now ∧ OnlyFlds [] s t) ∧
  -- holdLost
  (∀ (t0 : Nat) (k : VinState) (s : State),
    s.bcu.vin = some k →
    s.bcu.absentAt = some t0 →
    s.bcu.phase = .running →
    Completes (exec (.powerFailure 2) s) fun t =>
      t.bcu.phase = .commit ∧ t.bcu.tpf = some s.now ∧ Raises s t 0x0101 3) ∧
  -- holdupEnd
  (∀ (s : State),
    s.bcu.phase = .commit →
    s.bcu.commanded = none →
    Completes (exec (.holdupEnd) s) fun t =>
      t.bcu.phase = .off ∧ t.plan = none ∧ (∀ f i, f.unit ∈ [UnitId.fab, .ppl, .sch, .oiu, .vce, .ntu, .hpu, .cgu] → t.rd f i = f.resetValue)) ∧
  -- restoration
  (∀ (s : State),
    s.bcu.phase = .off →
    Completes (exec (.restoration) s) fun t =>
      t.bcu.phase = .starting ∧ t.bcu.vin = none ∧ s.now + 100000000 ≤ t.now ∧ t.now ≤ s.now + 700000000 ∧ t.rd .BCU_RSTCAUSE_CAUSE 0 = (if s.bcu.tpf = none then 1 else 2) ∧ Raises s t 0x0102 (if s.bcu.tpf = none then 1 else 2) ∧ 3600 ≤ t.rd .BCU_SUPPLY_VIN 0 ∧ t.rd .BCU_SUPPLY_VIN 0 ≤ 7500)

/-- Basecamp (R18, R452, R454, R455) and the hold-up measurement (R447). -/
def Obligations.BasecampAndItsSupply : Prop :=
  -- lost
  (∀ (s : State),
    s.bcu.phase = .off →
    Completes (exec (.basecampLoss) s) fun t =>
      t.bcu.phase = .off ∧ t.bcu.counting = false ∧ t.ltime = s.ltime ∧ t.events = s.events ∧ (∀ f i, f.unit ≠ .bcu → t.rd f i = s.rd f i)) ∧
  -- source
  (∀ (src : Fin 3) (s : State),
    Completes (exec (.basecampSourceChange src) s) fun t =>
      t.rd .BCU_VBAT_SRC 0 = src.val ∧ t.ltime = s.ltime ∧ (src.val = 2 → s.bcu.xtFault = true → t.bcu.counting = false) ∧ t.events = s.events ∧ OnlyFlds [(.BCU_VBAT_SRC, 0)] s t) ∧
  -- batteryLow
  (∀ (mv : BitVec 16) (s : State),
    s.bcu.phase ≠ .off →
    mv.toNat < 2600 →
    Completes (exec (.vbatMeasure mv) s) fun t =>
      t.rd .BCU_VBAT_VBAT 0 = mv.toNat ∧ t.rd .BCU_STATUS_VBATLOW 0 = 1 ∧ Raises s t 0x010A (mv.toNat / 10)) ∧
  -- batteryGood
  (∀ (mv : BitVec 16) (s : State),
    s.bcu.phase ≠ .off →
    2600 ≤ mv.toNat →
    Completes (exec (.vbatMeasure mv) s) fun t =>
      t.rd .BCU_VBAT_VBAT 0 = mv.toNat ∧ t.rd .BCU_STATUS_VBATLOW 0 = (if 2700 ≤ mv.toNat then 0 else s.rd .BCU_STATUS_VBATLOW 0) ∧ t.events = s.events ∧ OnlyFlds [(.BCU_VBAT_VBAT, 0), (.BCU_STATUS_VBATLOW, 0)] s t) ∧
  -- crystalBad
  (∀ (settled : Bool) (s : State),
    s.bcu.phase ≠ .off →
    s.bcu.xtFault = false →
    Completes (exec (.xtal32Check false settled) s) fun t =>
      t.bcu.xtFault = true ∧ t.rd .BCU_STATUS_XT32F 0 = 1 ∧ Raises s t 0x010B 1) ∧
  -- crystalGood
  (∀ (s : State),
    s.bcu.phase ≠ .off →
    s.bcu.xtFault = true →
    Completes (exec (.xtal32Check true true) s) fun t =>
      t.bcu.xtFault = false ∧ Raises s t 0x010B 0 ∧ OnlyFlds dropFlds s t) ∧
  -- holdupLow
  (∀ (uf : BitVec 16) (s : State),
    s.bcu.phase ≠ .off →
    uf.toNat < 950 →
    Completes (exec (.holdupMeasurementDone uf) s) fun t =>
      t.rd .BCU_HOLDCAP_CAP 0 = uf.toNat ∧ t.rd .BCU_STATUS_HUFAULT 0 = 1 ∧ Raises s t 0x0109 (uf.toNat / 10)) ∧
  -- holdupGood
  (∀ (uf : BitVec 16) (s : State),
    s.bcu.phase ≠ .off →
    950 ≤ uf.toNat →
    Completes (exec (.holdupMeasurementDone uf) s) fun t =>
      t.rd .BCU_HOLDCAP_CAP 0 = uf.toNat ∧ t.rd .BCU_STATUS_HUFAULT 0 = 0 ∧ t.events = s.events)

/-- Clocks (R457, R459 to R461). Clock 15 of the frequency counter is reserved. -/
def Obligations.ClocksAndTheirFailures : Prop :=
  -- proven
  (∀ (tenMicros : Nat) (s : State),
    s.flag .CGU_STATUS_XTOK 0 = false →
    s.bcu.phase ≠ .off →
    Completes (exec (.crystalProven tenMicros) s) fun t =>
      t.rd .CGU_STATUS_XTOK 0 = 1 ∧ t.rd .CGU_STATUS_PLLOK 0 = 1 ∧ t.rd .CGU_STATUS_ONINT 0 = 0 ∧ t.rd .CGU_CFG_PROVE 0 = min 0xFFFF tenMicros ∧ Raises s t 0x0201 (min 0xFFFF tenMicros)) ∧
  -- notProven
  (∀ (s : State),
    s.flag .CGU_STATUS_XTOK 0 = false →
    s.bcu.phase ≠ .off →
    Completes (exec (.crystalNotProven) s) fun t =>
      t.rd .CGU_STATUS_ONINT 0 = 1 ∧ Raises s t 0x0202 0 ∧ OnlyFlds ((.CGU_STATUS_ONINT, 0) :: dropFlds) s t) ∧
  -- failure
  (∀ (kind : Fin 3) (s : State),
    s.flag .CGU_STATUS_XTOK 0 = true →
    s.bcu.phase = .running →
    Completes (exec (.crystalFailure kind) s) fun t =>
      t.rd .CGU_STATUS_XTFAIL 0 = 1 ∧ t.rd .CGU_STATUS_ONINT 0 = 1 ∧ t.rd .CGU_STATUS_XTOK 0 = 0 ∧ Raises s t 0x0203 (kind.val + 1) ∧ Raises s t 0x0101 6 ∧ t.bcu.phase = .commit ∧ t.bcu.commanded = some 5) ∧
  -- lockLoss
  (∀ (s : State),
    s.flag .CGU_STATUS_PLLOK 0 = true →
    s.bcu.phase = .running →
    Completes (exec (.pllLockLoss) s) fun t =>
      t.rd .CGU_STATUS_PLLF 0 = 1 ∧ t.rd .CGU_STATUS_PLLOK 0 = 0 ∧ Raises s t 0x0204 0 ∧ Raises s t 0x0101 6 ∧ t.bcu.phase = .commit ∧ t.bcu.commanded = some 5) ∧
  -- count
  (∀ (win : Nat) (ref meas : Fin 16) (s : State),
    ref.val ≠ 15 →
    meas.val ≠ 15 →
    Completes (exec (.start win ref meas) s) fun t =>
      t.rd .CGU_STATUS_FCBUSY 0 = 1 ∧ t.rd .CGU_FCCTL_WIN 0 = clamp 10 24 win ∧ t.rd .CGU_FCCTL_REF 0 = ref.val ∧ t.rd .CGU_FCCTL_MEAS 0 = meas.val ∧ t.events = s.events ∧ OnlyFlds [(.CGU_STATUS_FCBUSY, 0), (.CGU_FCCTL_WIN, 0), (.CGU_FCCTL_REF, 0), (.CGU_FCCTL_MEAS, 0)] s t) ∧
  -- reserved
  (∀ (win : Nat) (ref meas : Fin 16) (s : State),
    ref.val = 15 ∨ meas.val = 15 →
    Completes (exec (.start win ref meas) s) fun t =>
      t.rd .CGU_STATUS_FCBUSY 0 = s.rd .CGU_STATUS_FCBUSY 0 ∧ t.events = s.events) ∧
  -- counted
  (∀ (count : Nat) (s : State),
    s.flag .CGU_STATUS_FCBUSY 0 = true →
    Completes (exec (.frequencyMeasurementDone count) s) fun t =>
      t.rd .CGU_STATUS_FCBUSY 0 = 0 ∧ t.rd .CGU_FCRES_COUNT 0 = min 0xFFFFFFFF count ∧ OnlyFlds [(.CGU_STATUS_FCBUSY, 0), (.CGU_FCRES_COUNT, 0)] s t) ∧
  -- enables
  (∀ (value : BitVec 32) (s : State),
    Completes (exec (.clockEnableWrite value) s) fun t =>
      (∀ f ∈ Reg.CGU_CLKEN.fields, t.rd f 0 = bitsOf value.toNat f.info.hi f.info.lo) ∧ (∀ f i, f.unit = .cgu → f ∉ Reg.CGU_CLKEN.fields → t.rd f i = s.rd f i) ∧ SameOutside [.unit .cgu, .unit .oiu, .unit .efu, .unit .psw, .unit .lgs, .allocator] s t)

/-- Resets (R20, R29, R462, R464, R465, R467, R471, R472). -/
def Obligations.ResetsAndTheirCauses : Prop :=
  -- happening
  (∀ (cause : Fin 4) (s : State),
    s.bcu.phase = .running ∨ s.bcu.phase = .units ∨ s.bcu.phase = .warm →
    s.bcu.healthy = true ∨ s.rd .BCU_GHSTAT_UNHEALTHY 0 < 3 →
    Completes (exec (.warmReset cause) s) fun t =>
      t.rd .BCU_RSTCAUSE_CAUSE 0 = cause.val + 6 ∧ Raises s t 0x0104 (cause.val + 1) ∧ t.rd .FAB_FROZEN_FROZEN 0 = 0 ∧ t.fab.a0Timer = none ∧ t.rd .BCU_STATUS_GHOLD 0 = 1 ∧ t.bcu.phase = .warm ∧ t.bcu.wdt = none) ∧
  -- crashLoop
  (∀ (cause : Fin 4) (s : State),
    s.bcu.phase = .running ∨ s.bcu.phase = .units ∨ s.bcu.phase = .warm →
    s.bcu.healthy = false →
    3 ≤ s.rd .BCU_GHSTAT_UNHEALTHY 0 →
    Completes (exec (.warmReset cause) s) fun t =>
      Raises s t 0x0101 5 ∧ t.bcu.phase = .commit ∧ t.bcu.commanded = some 4) ∧
  -- notStarted
  (∀ (cause : Fin 4) (s : State),
    s.bcu.phase = .off ∨ s.bcu.phase = .commit ∨ s.bcu.phase = .starting →
    exec (.warmReset cause) s = .next s) ∧
  -- commandedWarm
  (∀ (m : Fin 22) (s : State),
    s.bcu.phase = .running ∨ s.bcu.phase = .units ∨ s.bcu.phase = .warm →
    s.bcu.healthy = true ∨ s.rd .BCU_GHSTAT_UNHEALTHY 0 < 3 →
    Completes (exec (.warmResetCommand m 0x5A) s) fun t =>
      t.rd .BCU_RSTCAUSE_CAUSE 0 = (if m.val = 18 then 8 else 7) ∧ Raises s t 0x0104 (if m.val = 18 then 3 else 2) ∧ t.rd .FAB_FROZEN_FROZEN 0 = 0 ∧ t.rd .BCU_STATUS_GHOLD 0 = 1 ∧ t.bcu.phase = .warm) ∧
  -- otherKey
  (∀ (m : Fin 22) (key unit index : BitVec 8) (s : State),
    key ≠ 0x5A →
    exec (.warmResetCommand m key) s = .next s ∧ exec (.coldResetCommand key) s = .next s ∧ exec (.safetyRestartCommand key) s = .next s ∧ exec (.unitResetCommand key unit index) s = .next s) ∧
  -- commandedCold
  (∀ (s : State),
    s.bcu.phase = .running →
    Completes (exec (.coldResetCommand 0x5A) s) fun t =>
      Raises s t 0x0101 4 ∧ t.bcu.phase = .commit ∧ t.bcu.commanded = some 3 ∧ t.bcu.tpf = some s.now) ∧
  -- safetyRestart
  (∀ (s : State),
    Completes (exec (.safetyRestartCommand 0x5A) s) fun t =>
      Raises s t 0x0108 0 ∧ SameOutside [.unit .gse, .unit .oiu, .unit .psw, .unit .lgs, .latches] s t) ∧
  -- unitReset
  (∀ (unit index : BitVec 8) (s : State),
    unit.toNat ∈ resetClasses →
    (unit.toNat = 0x10 → index.toNat < 24) →
    Completes (exec (.unitResetCommand 0x5A unit index) s) fun t =>
      Raises s t 0x0107 (unit.toNat * 256 + 1) ∧ t.bcu.unitResets = s.bcu.unitResets ++ [unit.toNat * 256 + index.toNat]) ∧
  -- unitRefused
  (∀ (unit index : BitVec 8) (s : State),
    unit.toNat ∉ resetClasses ∨ unit.toNat = 0x10 ∧ 24 ≤ index.toNat →
    Completes (exec (.unitResetCommand 0x5A unit index) s) fun t =>
      Raises s t 0x0107 (unit.toNat * 256 + 2) ∧ t.bcu = s.bcu ∧ OnlyFlds dropFlds s t) ∧
  -- unitResetEnd
  (∀ (unit index : BitVec 8) (s : State),
    unit ≠ 0x12 ∧ unit ≠ 0x16 →
    s.bcu.unitResets.contains (unit.toNat * 256 + index.toNat) = true →
    Completes (exec (.unitResetEnd unit index) s) fun t =>
      Raises s t 0x0107 (unit.toNat * 256) ∧ t.bcu.unitResets = s.bcu.unitResets.erase (unit.toNat * 256 + index.toNat) ∧ OnlyFlds dropFlds s t) ∧
  -- ownUnitsEnd
  (∀ (unit index : BitVec 8) (s : State),
    unit = 0x12 ∨ unit = 0x16 →
    s.bcu.unitResets.contains (unit.toNat * 256 + index.toNat) = true →
    Completes (exec (.unitResetEnd unit index) s) fun t =>
      Raises s t 0x0107 (unit.toNat * 256) ∧ t.bcu.unitResets = s.bcu.unitResets.erase (unit.toNat * 256 + index.toNat) ∧ SameOutside [.unit .meu, .unit .psw, .unit .oiu, .unit .lgs, .unit .bcu] s t) ∧
  -- watchdog
  (∀ (at_ : Nat) (s : State),
    s.bcu.wdt = some at_ →
    s.bcu.phase = .running →
    s.bcu.healthy = true ∨ s.rd .BCU_GHSTAT_UNHEALTHY 0 < 3 →
    Completes (exec (.watchdogExpiry) s) fun t =>
      at_ ≤ t.now ∧ t.rd .BCU_RSTCAUSE_CAUSE 0 = 6 ∧ Raises s t 0x0104 1 ∧ t.rd .BCU_STATUS_GHOLD 0 = 1 ∧ t.bcu.phase = .warm ∧ t.bcu.wdt = none) ∧
  -- escalation
  (∀ (at_ : Nat) (s : State),
    s.fab.a0Timer = some at_ →
    s.bcu.phase = .running →
    s.bcu.healthy = true ∨ s.rd .BCU_GHSTAT_UNHEALTHY 0 < 3 →
    Completes (exec (.a0FreezeEscalation) s) fun t =>
      at_ ≤ t.now ∧ Raises s t 0x0303 0 ∧ t.rd .BCU_RSTCAUSE_CAUSE 0 = 9 ∧ Raises s t 0x0104 4 ∧ t.rd .FAB_FROZEN_FROZEN 0 = 0 ∧ t.fab.a0Timer = none ∧ t.bcu.phase = .warm)

/-- Start sequence, watchdog and Guy hold (R40, R41, R463 to R469, R487). -/
def Obligations.StartsAndTheGuyHold : Prop :=
  -- coldStart
  (∀ (secRow : Fin 20) (micro : Bool) (s : State),
    s.bcu.phase = .starting →
    Completes (exec (.coldStart secRow micro) s) fun t =>
      t.bcu.phase = .units ∧ t.bcu.tpf = none) ∧
  -- running
  (∀ (s : State),
    s.bcu.phase = .units ∨ s.bcu.phase = .warm →
    Completes (exec (.firmwareRunning) s) fun t =>
      t.bcu.phase = .running ∧ t.bcu.healthy = false ∧ t.bcu.wdt = some (s.now + s.rd .BCU_WDT_WDTO 0 * 10000000)) ∧
  -- kick
  (∀ (at_ : Nat) (s : State),
    s.frozen 0 = false →
    s.bcu.wdt = some at_ →
    s.now < at_ →
    Completes (exec (.kick 0) s) fun t =>
      t.bcu.wdt = some (s.now + s.rd .BCU_WDT_WDTO 0 * 10000000) ∧ t.regs = s.regs ∧ t.events = s.events) ∧
  -- lateKick
  (∀ (at_ : Nat) (s : State),
    s.frozen 0 = false →
    s.bcu.wdt = some at_ →
    at_ ≤ s.now →
    s.bcu.phase = .running →
    s.bcu.healthy = true ∨ s.rd .BCU_GHSTAT_UNHEALTHY 0 < 3 →
    Completes (exec (.kick 0) s) fun t =>
      t.rd .BCU_RSTCAUSE_CAUSE 0 = 6 ∧ Raises s t 0x0104 1 ∧ t.bcu.phase = .warm ∧ t.bcu.wdt = none) ∧
  -- frozenA0
  (∀ (s : State),
    s.frozen 0 = true →
    exec (.kick 0) s = .next s ∧ exec .healthy s = .next s ∧ exec .take s = .next s) ∧
  -- otherKick
  (∀ (m : Fin 22) (s : State),
    m.val ≠ 0 →
    exec (.kick m) s = .next s) ∧
  -- healthy
  (∀ (s : State),
    s.frozen 0 = false →
    Completes (exec (.healthy) s) fun t =>
      t.rd .BCU_GHSTAT_UNHEALTHY 0 = 0 ∧ t.bcu.healthy = true ∧ t.events = s.events ∧ OnlyFlds [(.BCU_GHSTAT_UNHEALTHY, 0)] s t) ∧
  -- take
  (∀ (s : State),
    s.frozen 0 = false →
    s.flag .BCU_STATUS_GHOLD 0 = true →
    Completes (exec (.take) s) fun t =>
      t.rd .BCU_STATUS_GHOLD 0 = 0 ∧ t.bcu.holdEnd = none ∧ Raises s t 0x0105 (min 0xFFFF ((s.now - s.bcu.holdStart) / 1000000))) ∧
  -- holdExpiry
  (∀ (at_ : Nat) (s : State),
    s.bcu.holdEnd = some at_ →
    Completes (exec (.guyHoldExpiry) s) fun t =>
      at_ ≤ t.now ∧ t.rd .BCU_STATUS_GHEXP 0 = 1 ∧ t.bcu.holdEnd = none ∧ Raises s t 0x0106 ((List.range 24).filter fun n => s.flag .OIU_CONTACT_CMD n).length ∧ (∀ n < 24, bit (t.rd .BCU_GHOUT_SHUT 0) n = s.flag .OIU_CONTACT_CMD n)) ∧
  -- imageFails
  (∀ (s : State),
    s.bcu.phase = .warm →
    Completes (exec (.imageCheckDone false) s) fun t =>
      Raises s t 0x010D 0) ∧
  -- ember
  (∀ (p : Plan) (t0 : Nat) (s : State),
    s.plan = some p →
    s.bcu.idleSince = some t0 →
    bit p.head.flags 0 = true →
    s.bcu.ember = false →
    s.bcu.phase = .running →
    Completes (exec (.emberEntry) s) fun t =>
      t.bcu.ember = true ∧ t0 + p.head.emberIdle * 1000000000 ≤ t.now ∧ (∀ n ∈ s.outlets, t.rd .OIU_CPCTL_GEN n ≠ 1)) ∧
  -- emberEnd
  (∀ (n : Fin 24) (s : State),
    s.bcu.ember = true →
    s.bcu.wake = some n.val →
    Completes (exec (.emberExit n) s) fun t =>
      t.bcu.ember = false)

/-- The host SPI port and its FIFOs (R373 to R380). -/
def Obligations.HostPortTransactionsAndFifos : Prop :=
  -- status
  (∀ (s : State),
    s.spiUp = true →
    Completes (exec (.status) s) fun t =>
      t.hpu.spiOut = [s.stat18] ∧ t.hpu.err = false ∧ t.hpu.frst = false ∧ t.hpu.dnovf = false ∧ t.hpu.up = s.hpu.up ∧ t.hpu.down = s.hpu.down ∧ t.events = s.events ∧ OnlyFlds [] s t) ∧
  -- off
  (∀ (addr : BitVec 32) (count : Nat) (words : List (BitVec 32)) (cut : Bool) (bytes : List (BitVec 8)) (cmd : BitVec 8) (s : State),
    s.spiUp = false →
    exec .status s = .next s ∧ exec (.read addr count) s = .next s ∧ exec (.write addr words cut) s = .next s ∧ exec (.fifoRead count) s = .next s ∧ exec (.fifoWrite bytes) s = .next s ∧ exec (.unknownSpiCommand cmd) s = .next s) ∧
  -- unknown
  (∀ (cmd : BitVec 8) (s : State),
    s.spiUp = true →
    cmd.toNat ∉ [0x0B, 0x02, 0x05, 0x3B, 0x32] →
    Completes (exec (.unknownSpiCommand cmd) s) fun t =>
      t.rd .HPU_STATUS_SPIERR 0 = 1 ∧ t.hpu.up = s.hpu.up ∧ t.hpu.down = s.hpu.down ∧ t.events = s.events ∧ OnlyFlds [(.HPU_STATUS_SPIERR, 0)] s t) ∧
  -- fifoRead
  (∀ (count : Nat) (s : State),
    s.spiUp = true →
    s.hpuRuns = true →
    s.hpu.waiting = [] →
    Completes (exec (.fifoRead count) s) fun t =>
      t.hpu.spiOut = [s.stat18] ++ leBytes 4 s.hpu.up.length ++ s.hpu.up.take count ++ List.replicate (count - s.hpu.up.length) 0 ∧ t.hpu.up = s.hpu.up.drop count ∧ t.hpu.down = s.hpu.down ∧ t.events = s.events) ∧
  -- fifoReadReset
  (∀ (count : Nat) (s : State),
    s.spiUp = true →
    s.hpuRuns = false →
    Completes (exec (.fifoRead count) s) fun t =>
      t.hpu.spiOut = [s.stat18] ++ List.replicate (4 + count) 0 ∧ t.hpu.up = s.hpu.up ∧ t.events = s.events ∧ OnlyFlds [] s t) ∧
  -- fifoWrite
  (∀ (bytes : List (BitVec 8)) (s : State),
    s.spiUp = true →
    s.hpuRuns = true →
    s.hpu.down.length + bytes.length ≤ 16384 →
    Completes (exec (.fifoWrite bytes) s) fun t =>
      t.hpu.down = s.hpu.down ++ bytes.map (·.toNat) ∧ t.rd .HPU_FIFOSTAT_DNOCC 0 = s.hpu.down.length + bytes.length ∧ t.rd .HPU_STATUS_DNOVF 0 = s.rd .HPU_STATUS_DNOVF 0 ∧ t.hpu.up = s.hpu.up ∧ t.events = s.events) ∧
  -- fifoOverflow
  (∀ (bytes : List (BitVec 8)) (s : State),
    s.spiUp = true →
    s.hpuRuns = true →
    s.hpu.down.length ≤ 16384 →
    16384 < s.hpu.down.length + bytes.length →
    Completes (exec (.fifoWrite bytes) s) fun t =>
      t.hpu.down = s.hpu.down ++ (bytes.take (16384 - s.hpu.down.length)).map (·.toNat) ∧ t.rd .HPU_STATUS_DNOVF 0 = 1 ∧ t.hpu.dnovf = true ∧ Raises s t 0x1C02 (1024 + min 0xFF (bytes.length - (16384 - s.hpu.down.length)))) ∧
  -- fifoWriteReset
  (∀ (bytes : List (BitVec 8)) (s : State),
    s.spiUp = true →
    s.hpuRuns = false →
    Completes (exec (.fifoWrite bytes) s) fun t =>
      t.hpu.down = s.hpu.down ∧ t.events = s.events ∧ OnlyFlds [] s t) ∧
  -- readFrozen
  (∀ (addr : BitVec 32) (count : Nat) (s : State),
    s.spiUp = true →
    s.masterRuns 18 = false →
    Completes (exec (.read addr count) s) fun t =>
      t.hpu.spiOut = s.stat18 :: List.replicate (4 * count) 0 ∧ t.hpu.err = s.hpu.err ∧ t.events = s.events ∧ OnlyFlds [] s t) ∧
  -- readWord
  (∀ (addr : BitVec 32) (target off i : Nat) (r : Reg) (s : State),
    s.spiUp = true →
    s.masterRuns 18 = true →
    placeOf addr.toNat = some (target, off, .reg r i) →
    s.permits 18 false target off false = true →
    s.gated r.loc.unit = false →
    r.loc.unit ≠ .fab →
    Completes (exec (.read addr 1) s) fun t =>
      t.hpu.spiOut = s.stat18 :: leBytes 4 (s.readReg r i) ∧ t.hpu.err = s.hpu.err ∧ t.events = s.events ∧ OnlyFlds [(.FAB_TAGS_PEAK, 0), (.FAB_TAGS_INFLIGHT, 0)] s t) ∧
  -- readRefused
  (∀ (addr : BitVec 32) (target off : Nat) (pl : Place) (s : State),
    s.spiUp = true →
    s.masterRuns 18 = true →
    placeOf addr.toNat = some (target, off, pl) →
    s.permits 18 false target off false = false →
    Completes (exec (.read addr 1) s) fun t =>
      t.hpu.spiOut = s.stat18 :: List.replicate 4 0 ∧ t.hpu.err = true ∧ bit (t.rd .FAB_FROZEN_FROZEN 0) 18 = true ∧ Raises s t 0x0301 18) ∧
  -- writeWord
  (∀ (addr w : BitVec 32) (cut : Bool) (target off : Nat) (s : State),
    s.spiUp = true →
    s.masterRuns 18 = true →
    placeOf addr.toNat = some (target, off, .reg .HPU_WMARK 0) →
    s.permits 18 false target off true = true →
    Completes (exec (.write addr [w] cut) s) fun t =>
      t.rd .HPU_WMARK_UPHI 0 = w.toNat / 2 ^ 24 ∧ t.rd .HPU_WMARK_DNHI 0 = w.toNat / 2 ^ 8 % 256 ∧ t.hpu.err = s.hpu.err ∧ t.rd .HPU_STATUS_SPIERR 0 = (if cut then 1 else s.rd .HPU_STATUS_SPIERR 0) ∧ t.events = s.events) ∧
  -- writeNowhere
  (∀ (addr w : BitVec 32) (s : State),
    s.spiUp = true →
    s.masterRuns 18 = true →
    placeOf addr.toNat = none →
    Completes (exec (.write addr [w] false) s) fun t =>
      t.hpu.err = true ∧ t.rd .FAB_DECERR_DECERR 0 = satInc 0xFFFF (s.rd .FAB_DECERR_DECERR 0) % 2 ^ 16 ∧ t.events = s.events ∧ OnlyFlds [(.FAB_TAGS_PEAK, 0), (.FAB_TAGS_INFLIGHT, 0), (.FAB_DECERR_DECERR, 0)] s t) ∧
  -- mismatch
  (∀ (up : Bool) (copies : List (Nat × Nat)) (s : State),
    pointerFault (if up then 17 else 15) 0 copies = true →
    s.hpu.waiting = [] →
    s.hpuRuns = true →
    Completes (exec (.fifoPointerMismatch up copies) s) fun t =>
      (if up then t.hpu.up = [] ∧ t.hpu.down = s.hpu.down else t.hpu.down = [] ∧ t.hpu.up = s.hpu.up) ∧ t.hpu.frst = true ∧ t.rd .HPU_STATUS_FRST 0 = 1 ∧ t.rd .HPU_COUNT_FRSTS 0 = min 0xFFFF (s.rd .HPU_COUNT_FRSTS 0 + 1) ∧ Raises s t 0x1C01 (if up then 257 else 1)) ∧
  -- oneBitPasses
  (∀ (up : Bool) (copies : List (Nat × Nat)) (s : State),
    pointerFault (if up then 17 else 15) 0 copies = false →
    exec (.fifoPointerMismatch up copies) s = .next s) ∧
  -- dnrst
  (∀ (s : State),
    s.hpu.waiting = [] →
    Completes (exec (.dnrst) s) fun t =>
      t.hpu.down = [] ∧ t.hpu.up = s.hpu.up ∧ t.rd .HPU_STATUS_FRST 0 = 1 ∧ Raises s t 0x1C01 2) ∧
  -- uprst
  (∀ (s : State),
    s.hpu.waiting = [] →
    Completes (exec (.uprst) s) fun t =>
      t.hpu.up = [] ∧ t.hpu.down = s.hpu.down ∧ t.rd .HPU_STATUS_FRST 0 = 1 ∧ Raises s t 0x1C01 258) ∧
  -- upto
  (∀ (n t0 : Nat) (l : List (Nat × Nat)) (s : State),
    s.hpu.upMarks = (n, t0) :: l →
    Completes (exec (.uptoExpiry) s) fun t =>
      t.hpu.hrdy = true ∧ t.now = max s.now (t0 + usec (s.rd .HPU_SPICFG_UPTO 0)) ∧ t.hpu.up = s.hpu.up ∧ t.events = s.events) ∧
  -- uptoNone
  (∀ (s : State),
    s.hpu.upMarks = [] →
    exec .uptoExpiry s = .next s)

/-- The Host Message Interface (R381 to R384, R358, R490). -/
def Obligations.HostMessageFramesAreAnswered : Prop :=
  -- closed
  (∀ (p : Fin 5) (seq addr streams32 count : BitVec 32) (n streams cnt : BitVec 16) (region node : BitVec 8) (first : BitVec 64) (message : List (BitVec 8)) (words : List (BitVec 32)) (type : BitVec 8) (s : State),
    s.pathOpen p.val = false →
    exec (.badFrameHeader p) s = .next s ∧ exec (.unknownFrameType p seq type message) s = .next s ∧ exec (.sealed p seq message) s = .next s ∧ exec (.subscribe p seq streams n) s = .next s ∧ exec (.ledger p seq region first count) s = .next s ∧ exec (.afril p seq node message) s = .next s ∧ exec (.plan p seq addr streams32 message) s = .next s ∧ exec (.hmiRead p seq addr cnt) s = .next s ∧ exec (.hmiWrite p seq addr words) s = .next s) ∧
  -- subscribe
  (∀ (p : Fin 5) (seq : BitVec 32) (streams n : BitVec 16) (s : State),
    p.val < 4 →
    s.hpuRuns = true →
    bit s.hpu.sessions p.val = true →
    1 ≤ n.toNat ∧ n.toNat ≤ 600 →
    Completes (exec (.subscribe p seq streams n) s) fun t =>
      lookup [] t.hpu.sent p.val = lookup [] s.hpu.sent p.val ++ [⟨0x83, lookup 0 s.hpu.seqs p.val, leBytes 4 seq.toNat ++ [0]⟩] ∧ (lookup {} t.hpu.subs p.val).streams = streams.toNat % 16 ∧ (lookup {} t.hpu.subs p.val).n = n.toNat ∧ (lookup {} t.hpu.subs p.val).evAt = s.events.length ∧ lookup 0 t.hpu.seqs p.val = (lookup 0 s.hpu.seqs p.val + 1) % 2 ^ 32 ∧ t.events = s.events ∧ OnlyFlds [] s t) ∧
  -- subscribeBad
  (∀ (p : Fin 5) (seq : BitVec 32) (streams n : BitVec 16) (s : State),
    p.val < 4 →
    s.hpuRuns = true →
    bit s.hpu.sessions p.val = true →
    n.toNat = 0 ∨ 600 < n.toNat →
    Completes (exec (.subscribe p seq streams n) s) fun t =>
      lookup [] t.hpu.sent p.val = lookup [] s.hpu.sent p.val ++ [⟨0x83, lookup 0 s.hpu.seqs p.val, leBytes 4 seq.toNat ++ [4]⟩] ∧ t.hpu.subs = s.hpu.subs ∧ t.events = s.events) ∧
  -- spiPath
  (∀ (seq : BitVec 32) (streams n : BitVec 16) (s : State),
    s.frameIn 4 0x03 seq.toNat (leBytes 2 streams.toNat ++ leBytes 2 n.toNat) = true →
    s.hpu.waiting = [] →
    s.hpu.up.length ≤ 65515 →
    1 ≤ n.toNat ∧ n.toNat ≤ 600 →
    Completes (exec (.subscribe 4 seq streams n) s) fun t =>
      t.hpu.up = s.hpu.up ++ HostFrame.bytes ⟨0x83, lookup 0 s.hpu.seqs 4, leBytes 4 seq.toNat ++ [0]⟩ ∧ t.hpu.down = s.hpu.down.drop 20 ∧ (lookup {} t.hpu.subs 4).streams = streams.toNat % 16 ∧ t.events = s.events) ∧
  -- spiOther
  (∀ (seq : BitVec 32) (streams n : BitVec 16) (s : State),
    s.frameIn 4 0x03 seq.toNat (leBytes 2 streams.toNat ++ leBytes 2 n.toNat) = false →
    exec (.subscribe 4 seq streams n) s = .next s) ∧
  -- readBad
  (∀ (p : Fin 5) (seq addr : BitVec 32) (count : BitVec 16) (s : State),
    p.val < 4 →
    s.hpuRuns = true →
    bit s.hpu.sessions p.val = true →
    count.toNat = 0 ∨ 256 < count.toNat →
    Completes (exec (.hmiRead p seq addr count) s) fun t =>
      lookup [] t.hpu.sent p.val = lookup [] s.hpu.sent p.val ++ [⟨0x81, lookup 0 s.hpu.seqs p.val, leBytes 4 seq.toNat ++ [4, 0, 0, 0]⟩] ∧ t.events = s.events ∧ OnlyFlds [] s t) ∧
  -- readFrozen
  (∀ (p : Fin 5) (seq addr : BitVec 32) (count : BitVec 16) (s : State),
    p.val < 4 →
    s.hpuRuns = true →
    bit s.hpu.sessions p.val = true →
    1 ≤ count.toNat ∧ count.toNat ≤ 256 →
    s.masterRuns 18 = false →
    Completes (exec (.hmiRead p seq addr count) s) fun t =>
      lookup [] t.hpu.sent p.val = lookup [] s.hpu.sent p.val ++ [⟨0x81, lookup 0 s.hpu.seqs p.val, leBytes 4 seq.toNat ++ ([3, 0, 0, 0] ++ List.replicate (4 * count.toNat) 0)⟩] ∧ t.events = s.events ∧ OnlyFlds [] s t) ∧
  -- readWord
  (∀ (p : Fin 5) (seq addr : BitVec 32) (target off i : Nat) (r : Reg) (s : State),
    p.val < 4 →
    s.hpuRuns = true →
    bit s.hpu.sessions p.val = true →
    s.masterRuns 18 = true →
    placeOf addr.toNat = some (target, off, .reg r i) →
    s.permits 18 false target off false = true →
    s.gated r.loc.unit = false →
    r.loc.unit ≠ .fab →
    Completes (exec (.hmiRead p seq addr 1) s) fun t =>
      lookup [] t.hpu.sent p.val = lookup [] s.hpu.sent p.val ++ [⟨0x81, lookup 0 s.hpu.seqs p.val, leBytes 4 seq.toNat ++ ([0, 0, 0, 0] ++ leBytes 4 (s.readReg r i))⟩] ∧ t.events = s.events ∧ OnlyFlds [(.FAB_TAGS_PEAK, 0), (.FAB_TAGS_INFLIGHT, 0)] s t) ∧
  -- readRefused
  (∀ (p : Fin 5) (seq addr : BitVec 32) (target off : Nat) (pl : Place) (s : State),
    p.val < 4 →
    s.hpuRuns = true →
    bit s.hpu.sessions p.val = true →
    s.masterRuns 18 = true →
    placeOf addr.toNat = some (target, off, pl) →
    s.permits 18 false target off false = false →
    Completes (exec (.hmiRead p seq addr 1) s) fun t =>
      lookup [] t.hpu.sent p.val = lookup [] s.hpu.sent p.val ++ [⟨0x81, lookup 0 s.hpu.seqs p.val, leBytes 4 seq.toNat ++ ([2, 0, 0, 0] ++ List.replicate 4 0)⟩] ∧ bit (t.rd .FAB_FROZEN_FROZEN 0) 18 = true ∧ Raises s t 0x0301 18) ∧
  -- writeNowhere
  (∀ (p : Fin 5) (seq addr w : BitVec 32) (words : List (BitVec 32)) (s : State),
    p.val < 4 →
    s.hpuRuns = true →
    bit s.hpu.sessions p.val = true →
    s.masterRuns 18 = true →
    placeOf addr.toNat = none →
    Completes (exec (.hmiWrite p seq addr (w :: words)) s) fun t =>
      lookup [] t.hpu.sent p.val = lookup [] s.hpu.sent p.val ++ [⟨0x82, lookup 0 s.hpu.seqs p.val, leBytes 4 seq.toNat ++ [1, 0, 0, 0]⟩] ∧ t.rd .FAB_DECERR_DECERR 0 = satInc 0xFFFF (s.rd .FAB_DECERR_DECERR 0) % 2 ^ 16 ∧ t.events = s.events ∧ OnlyFlds [(.FAB_TAGS_PEAK, 0), (.FAB_TAGS_INFLIGHT, 0), (.FAB_DECERR_DECERR, 0)] s t) ∧
  -- writeWord
  (∀ (p : Fin 5) (seq addr w : BitVec 32) (target off : Nat) (s : State),
    p.val < 4 →
    s.hpuRuns = true →
    bit s.hpu.sessions p.val = true →
    s.masterRuns 18 = true →
    placeOf addr.toNat = some (target, off, .reg .HPU_WMARK 0) →
    s.permits 18 false target off true = true →
    Completes (exec (.hmiWrite p seq addr [w]) s) fun t =>
      lookup [] t.hpu.sent p.val = lookup [] s.hpu.sent p.val ++ [⟨0x82, lookup 0 s.hpu.seqs p.val, leBytes 4 seq.toNat ++ [0, 0, 1, 0]⟩] ∧ t.rd .HPU_WMARK_UPHI 0 = w.toNat / 2 ^ 24 ∧ t.rd .HPU_WMARK_DNHI 0 = w.toNat / 2 ^ 8 % 256 ∧ t.events = s.events) ∧
  -- writeNothing
  (∀ (p : Fin 5) (seq addr : BitVec 32) (s : State),
    p.val < 4 →
    s.hpuRuns = true →
    bit s.hpu.sessions p.val = true →
    Completes (exec (.hmiWrite p seq addr []) s) fun t =>
      lookup [] t.hpu.sent p.val = lookup [] s.hpu.sent p.val ++ [⟨0x82, lookup 0 s.hpu.seqs p.val, leBytes 4 seq.toNat ++ [0, 0, 0, 0]⟩] ∧ t.events = s.events ∧ OnlyFlds [] s t) ∧
  -- ledger
  (∀ (p : Fin 5) (seq : BitVec 32) (region : BitVec 8) (first : BitVec 64) (count : BitVec 32) (l : List LedgerRec) (s : State),
    p.val < 4 →
    s.hpuRuns = true →
    bit s.hpu.sessions p.val = true →
    region.toNat ≤ 2 →
    s.ledgerFrom region.toNat first.toNat (min 1048576 count.toNat) = l →
    1 ≤ l.length ∧ l.length ≤ 1000 →
    Completes (exec (.ledger p seq region first count) s) fun t =>
      lookup [] t.hpu.sent p.val = lookup [] s.hpu.sent p.val ++ [⟨0x84, lookup 0 s.hpu.seqs p.val, leBytes 4 seq.toNat ++ (leBytes 2 l.length ++ l.flatMap LedgerRec.bytes)⟩, ⟨0x84, (lookup 0 s.hpu.seqs p.val + 1) % 2 ^ 32, leBytes 4 seq.toNat ++ [0, 0]⟩] ∧ t.lgs = s.lgs ∧ t.events = s.events) ∧
  -- ledgerLong
  (∀ (p : Fin 5) (seq : BitVec 32) (region : BitVec 8) (first : BitVec 64) (count : BitVec 32) (s : State),
    p.val < 4 →
    s.hpuRuns = true →
    bit s.hpu.sessions p.val = true →
    region.toNat ≤ 2 →
    Completes (exec (.ledger p seq region first count) s) fun t =>
      (lookup [] t.hpu.sent p.val).map (·.type) = (lookup [] s.hpu.sent p.val).map (·.type) ++ List.replicate (((s.ledgerFrom region.toNat first.toNat (min 1048576 count.toNat)).length + 999) / 1000 + 1) 0x84 ∧ (lookup [] t.hpu.sent p.val).take (lookup [] s.hpu.sent p.val).length = lookup [] s.hpu.sent p.val ∧ t.lgs = s.lgs ∧ t.events = s.events ∧ OnlyFlds [] s t) ∧
  -- ledgerEmpty
  (∀ (p : Fin 5) (seq : BitVec 32) (region : BitVec 8) (first : BitVec 64) (count : BitVec 32) (s : State),
    p.val < 4 →
    s.hpuRuns = true →
    bit s.hpu.sessions p.val = true →
    2 < region.toNat ∨ s.ledgerFrom region.toNat first.toNat (min 1048576 count.toNat) = [] →
    Completes (exec (.ledger p seq region first count) s) fun t =>
      lookup [] t.hpu.sent p.val = lookup [] s.hpu.sent p.val ++ [⟨0x84, lookup 0 s.hpu.seqs p.val, leBytes 4 seq.toNat ++ [0, 0]⟩] ∧ t.lgs = s.lgs ∧ t.events = s.events) ∧
  -- afril
  (∀ (p : Fin 5) (seq : BitVec 32) (node : BitVec 8) (message : List (BitVec 8)) (s : State),
    p.val < 4 →
    s.hpuRuns = true →
    bit s.hpu.sessions p.val = true →
    (s.nodeRec node.toNat).isSome = true →
    (s.anode node.toNat).dnq.length < 8 →
    Completes (exec (.afril p seq node message) s) fun t =>
      lookup [] t.hpu.sent p.val = lookup [] s.hpu.sent p.val ++ [⟨0x85, lookup 0 s.hpu.seqs p.val, leBytes 4 seq.toNat ++ [0]⟩] ∧ (t.anode node.toNat).dnq = (s.anode node.toNat).dnq ++ [message.map (·.toNat)] ∧ t.events = s.events) ∧
  -- afrilFull
  (∀ (p : Fin 5) (seq : BitVec 32) (node : BitVec 8) (message : List (BitVec 8)) (s : State),
    p.val < 4 →
    s.hpuRuns = true →
    bit s.hpu.sessions p.val = true →
    (s.nodeRec node.toNat).isSome = true →
    8 ≤ (s.anode node.toNat).dnq.length →
    Completes (exec (.afril p seq node message) s) fun t =>
      lookup [] t.hpu.sent p.val = lookup [] s.hpu.sent p.val ++ [⟨0x85, lookup 0 s.hpu.seqs p.val, leBytes 4 seq.toNat ++ [5]⟩] ∧ t.rd .ALK_STATUS_QFULL 0 = 1 ∧ Raises s t 0x1A07 (node.toNat * 256 + 1) ∧ t.alk = s.alk) ∧
  -- afrilUnknown
  (∀ (p : Fin 5) (seq : BitVec 32) (node : BitVec 8) (message : List (BitVec 8)) (s : State),
    p.val < 4 →
    s.hpuRuns = true →
    bit s.hpu.sessions p.val = true →
    s.nodeRec node.toNat = none →
    Completes (exec (.afril p seq node message) s) fun t =>
      lookup [] t.hpu.sent p.val = lookup [] s.hpu.sent p.val ++ [⟨0x85, lookup 0 s.hpu.seqs p.val, leBytes 4 seq.toNat ++ [4]⟩] ∧ t.alk = s.alk ∧ t.events = s.events) ∧
  -- planChunk
  (∀ (p : Fin 5) (seq offset totlen : BitVec 32) (bytes : List (BitVec 8)) (s : State),
    p.val < 4 →
    s.hpuRuns = true →
    bit s.hpu.sessions p.val = true →
    s.planHeld = false →
    offset.toNat = s.ppl.staging.length →
    0 < offset.toNat →
    totlen.toNat = s.ppl.totLen →
    s.ppl.staging.length + bytes.length ≤ totlen.toNat →
    totlen.toNat ≤ 4194304 →
    Completes (exec (.plan p seq offset totlen bytes) s) fun t =>
      lookup [] t.hpu.sent p.val = lookup [] s.hpu.sent p.val ++ [⟨0x87, lookup 0 s.hpu.seqs p.val, leBytes 4 seq.toNat ++ [0]⟩] ∧ t.ppl.staging = s.ppl.staging ++ bytes.map (·.toNat) ∧ t.rd .PPL_STATUS_STATE 0 = (if s.ppl.staging.length + bytes.length = totlen.toNat then 2 else 1) ∧ t.events = s.events) ∧
  -- planFirst
  (∀ (p : Fin 5) (seq totlen : BitVec 32) (bytes : List (BitVec 8)) (s : State),
    p.val < 4 →
    s.hpuRuns = true →
    bit s.hpu.sessions p.val = true →
    s.planHeld = false →
    bytes.length ≤ totlen.toNat →
    totlen.toNat ≤ 4194304 →
    Completes (exec (.plan p seq 0 totlen bytes) s) fun t =>
      lookup [] t.hpu.sent p.val = lookup [] s.hpu.sent p.val ++ [⟨0x87, lookup 0 s.hpu.seqs p.val, leBytes 4 seq.toNat ++ [0]⟩] ∧ t.ppl.staging = bytes.map (·.toNat) ∧ t.ppl.totLen = totlen.toNat ∧ t.events = s.events) ∧
  -- planGap
  (∀ (p : Fin 5) (seq offset totlen : BitVec 32) (bytes : List (BitVec 8)) (s : State),
    p.val < 4 →
    s.hpuRuns = true →
    bit s.hpu.sessions p.val = true →
    s.planHeld = false →
    offset.toNat ≠ s.ppl.staging.length ∨ totlen.toNat ≠ s.ppl.totLen ∨ totlen.toNat < s.ppl.staging.length + bytes.length ∨ 4194304 < totlen.toNat →
    0 < offset.toNat →
    Completes (exec (.plan p seq offset totlen bytes) s) fun t =>
      lookup [] t.hpu.sent p.val = lookup [] s.hpu.sent p.val ++ [⟨0x87, lookup 0 s.hpu.seqs p.val, leBytes 4 seq.toNat ++ [4]⟩] ∧ t.ppl.staging = [] ∧ t.events = s.events) ∧
  -- planLong
  (∀ (p : Fin 5) (seq totlen : BitVec 32) (bytes : List (BitVec 8)) (s : State),
    p.val < 4 →
    s.hpuRuns = true →
    bit s.hpu.sessions p.val = true →
    s.planHeld = false →
    totlen.toNat < bytes.length ∨ 4194304 < totlen.toNat →
    Completes (exec (.plan p seq 0 totlen bytes) s) fun t =>
      lookup [] t.hpu.sent p.val = lookup [] s.hpu.sent p.val ++ [⟨0x87, lookup 0 s.hpu.seqs p.val, leBytes 4 seq.toNat ++ [4]⟩] ∧ t.ppl.staging = [] ∧ t.events = s.events) ∧
  -- planHeld
  (∀ (p : Fin 5) (seq offset totlen : BitVec 32) (bytes : List (BitVec 8)) (s : State),
    p.val < 4 →
    s.hpuRuns = true →
    bit s.hpu.sessions p.val = true →
    s.planHeld = true →
    Completes (exec (.plan p seq offset totlen bytes) s) fun t =>
      (lookup [] t.hpu.sent p.val).map (·.type) = (lookup [] s.hpu.sent p.val).map (·.type) ++ [0x87] ∧ t.rd .PPL_STATUS_REJECT 0 = 0x13 ∧ t.ppl = s.ppl ∧ Raises s t 0x0402 0x13) ∧
  -- unknownType
  (∀ (p : Fin 5) (seq : BitVec 32) (type : BitVec 8) (payload : List (BitVec 8)) (s : State),
    frameFault type.toNat payload.length ≠ 0 →
    p.val < 4 →
    s.hpuRuns = true →
    bit s.hpu.sessions p.val = true →
    Completes (exec (.unknownFrameType p seq type payload) s) fun t =>
      lookup [] t.hpu.sent p.val = lookup [] s.hpu.sent p.val ++ [⟨0xFE, lookup 0 s.hpu.seqs p.val, leBytes 4 seq.toNat ++ [if type.toNat = 0 ∨ 7 < type.toNat then 1 else 2]⟩] ∧ t.events = s.events ∧ OnlyFlds [] s t) ∧
  -- badHeader
  (∀ (p : Fin 5) (s : State),
    p.val < 4 →
    s.hpuRuns = true →
    bit s.hpu.sessions p.val = true →
    Completes (exec (.badFrameHeader p) s) fun t =>
      t.rd .HPU_STATUS_BADHDR 0 = 1 ∧ Raises s t 0x1C04 (p.val * 256) ∧ t.hpu = s.hpu) ∧
  -- badHeaderSpi
  (∀ (s : State),
    s.pathOpen 4 = true →
    16 ≤ s.hpu.down.length →
    validHeader s.hpu.down = false →
    Completes (exec (.badFrameHeader 4) s) fun t =>
      t.rd .HPU_STATUS_BADHDR 0 = 1 ∧ Raises s t 0x1C04 1024 ∧ t.hpu.down = scanHeader (s.hpu.down.drop 1) ∧ t.hpu.up = s.hpu.up) ∧
  -- drop
  (∀ (p : Fin 5) (type : BitVec 8) (l : List HostFrame) (f : HostFrame) (s : State),
    p.val < 4 →
    bit s.hpu.sessions p.val = true →
    lookup [] s.hpu.sent p.val = l ++ [f] →
    f.type = type.toNat →
    Completes (exec (.hostFrameDrop p type) s) fun t =>
      t.rd .HPU_STATUS_QDROP 0 = 1 ∧ t.rd .HPU_COUNT_DROPS 0 = min 0xFFFF (s.rd .HPU_COUNT_DROPS 0 + 1) ∧ Raises s t 0x1C03 (p.val * 256 + type.toNat) ∧ lookup [] t.hpu.sent p.val = l ∧ t.hpu.seqs = s.hpu.seqs) ∧
  -- dropUp
  (∀ (type : BitVec 8) (w : WaitingFrame) (s : State),
    s.hpu.waiting = [w] →
    Completes (exec (.hostFrameDrop 4 type) s) fun t =>
      t.hpu.waiting = [] ∧ t.hpu.up = s.hpu.up ∧ t.now = max s.now w.until_ ∧ t.rd .HPU_STATUS_QDROP 0 = 1 ∧ t.rd .HPU_COUNT_DROPS 0 = min 0xFFFF (s.rd .HPU_COUNT_DROPS 0 + 1) ∧ Raises s t 0x1C03 (1024 + w.frame.type % 256)) ∧
  -- noDrop
  (∀ (p : Fin 5) (type : BitVec 8) (s : State),
    if p.val = 4 then s.hpu.waiting = [] else bit s.hpu.sessions p.val = false ∨ (lookup [] s.hpu.sent p.val).getLast?.map (·.type) ≠ some type.toNat →
    exec (.hostFrameDrop p type) s = .next s) ∧
  -- opens
  (∀ (p : Fin 4) (s : State),
    s.hpuRuns = true →
    s.hmiRec.u16 2 ≠ 0 →
    p.val < s.hmiRec.byte 4 →
    bit s.hpu.sessions p.val = false →
    s.hasRoom (hmiStream p.val) 3 = true →
    s.flag .SEC_STATUS_DRBGF 0 = false →
    s.failed 0x19 = false →
    (s.slot 9).full = true →
    (s.slot (s.hmiRec.byte 5)).full = true →
    s.ntuRuns = true →
    Completes (exec (.hmiSessionOpen p none) s) fun t =>
      bit t.hpu.sessions p.val = true ∧ lookup [] t.hpu.sent p.val = [] ∧ lookup 0 t.hpu.seqs p.val = 0 ∧ Raises s t 0x1C05 (p.val * 256 + 1)) ∧
  -- noRoom
  (∀ (p : Fin 4) (alert : Option (BitVec 8)) (s : State),
    s.hpuRuns = true →
    s.hmiRec.u16 2 ≠ 0 →
    p.val < s.hmiRec.byte 4 →
    bit s.hpu.sessions p.val = false →
    s.hasRoom (hmiStream p.val) 3 = false →
    s.ntuRuns = true →
    Completes (exec (.hmiSessionOpen p alert) s) fun t =>
      t.hpu = s.hpu ∧ t.rd .SCH_STATUS_REFUSED 0 = 1 ∧ t.rd .SCH_REFUSALS_LAST 0 = 0x1C00 + p.val ∧ Raises s t 0x0501 (0x1C00 + p.val) ∧ Raises s t 0x1C06 0xFF00) ∧
  -- alert
  (∀ (p : Fin 4) (a : BitVec 8) (s : State),
    s.hpuRuns = true →
    s.hmiRec.u16 2 ≠ 0 →
    p.val < s.hmiRec.byte 4 →
    bit s.hpu.sessions p.val = false →
    s.hasRoom (hmiStream p.val) 3 = true →
    s.ntuRuns = true →
    Completes (exec (.hmiSessionOpen p (some a)) s) fun t =>
      t.hpu = s.hpu ∧ Raises s t 0x1C06 (0xFF00 + a.toNat)) ∧
  -- notServed
  (∀ (p : Fin 4) (alert : Option (BitVec 8)) (s : State),
    s.hpuRuns = false ∨ s.ntuRuns = false ∨ s.hmiRec.u16 2 = 0 ∨ s.hmiRec.byte 4 ≤ p.val ∨ bit s.hpu.sessions p.val = true →
    exec (.hmiSessionOpen p alert) s = .next s) ∧
  -- closes
  (∀ (p : Fin 4) (s : State),
    bit s.hpu.sessions p.val = true →
    Completes (exec (.hmiSessionClose p) s) fun t =>
      bit t.hpu.sessions p.val = false ∧ lookup {} t.hpu.subs p.val = {} ∧ Raises s t 0x1C05 (p.val * 256)) ∧
  -- notOpen
  (∀ (p : Fin 4) (s : State),
    bit s.hpu.sessions p.val = false →
    exec (.hmiSessionClose p) s = .next s)

/-- The queue of commands and the idle tick: a choice of the model, log entry 1. -/
def Obligations.StepTakesTheOldestCommand : Prop :=
  -- front
  (∀ (c : Instr) (rest : List Instr) (s : State),
    s.pending = c :: rest →
    step s = exec c { s with pending := rest }) ∧
  -- idle
  (∀ (s : State),
    s.pending = [] →
    Completes (step s) fun t => t.pending = [] ∧ t.now = s.now + 1000 ∧ (s.updState ≠ 1 → s.updState ≠ 2 → t.events = s.events) ∧ s.events <+: t.events ∧ SameOutside [.unit .hpu, .unit .alk, .unit .upd, .unit .lgs] s t)

/-- The state after reset. Where the tables print no value the field's value is a choice of the model, log entry 3; this statement names printed values only, beside the general clause. -/
def Obligations.ResetStateIsTheReleaseOfACold : Prop :=
  -- table
  (∀ (f : Fld) (i : Nat),
    State.reset.rd f i = f.info.reset ∧ State.reset.eff f i = f.info.reset) ∧
  -- values
  (State.reset.rd .HPU_WMARK_UPHI 0 = 0x10 ∧ State.reset.rd .HPU_WMARK_DNHI 0 = 0xC0 ∧ State.reset.rd .HPU_WMARK_DNLO 0 = 0x80 ∧ State.reset.rd .HPU_SPICFG_UPTO 0 = 200 ∧ State.reset.rd .HPU_SPICFG_DUMMY 0 = 32 ∧ State.reset.rd .HPU_IDENT_DEVTYPE 0 = 0x2464 ∧ State.reset.rd .DSE_LNMASK_LNMASK 0 = 0xFFFFFF ∧ State.reset.rd .DSE_LNSTAT_OUTLET 0 = 0xFF ∧ State.reset.rd .UPD_PSEL_KIND 0 = 1) ∧
  -- off
  (∀ (n : Nat),
    State.reset.rd .OIU_CONTACT_CMD n = 0 ∧ State.reset.rd .PSW_OUT_OUT 0 = 0 ∧ State.reset.rd .GSE_SO_CMD 0 = 0 ∧ State.reset.rd .GSE_PERMIT_PERMIT 0 = 0) ∧
  -- empty
  (State.reset.pending = [] ∧ State.reset.fab.queue = [] ∧ State.reset.hpu.up = [] ∧ State.reset.hpu.down = [] ∧ State.reset.events = [] ∧ State.reset.regsSound ∧ State.reset.queuesSound)

/-- R47. -/
def Obligations.PlanCrcsAreCrc32c : Prop :=
  -- check
  (crc32c [0x31, 0x32, 0x33, 0x34, 0x35, 0x36, 0x37, 0x38, 0x39] = 0xE3069283 ∧ crc32c [] = 0) ∧
  -- reflected
  (∀ (k : Nat),
    k < 32 →
    bit 0x82F63B78 k = bit 0x1EDC6F41 (31 - k)) ∧
  -- byte
  (∀ (l : List Nat) (b : Nat),
    b < 256 →
    crc32c (l ++ [b]) ^^^ 0xFFFFFFFF = (List.range 8).foldl (fun c _ => if c % 2 = 1 then (c / 2) ^^^ 0x82F63B78 else c / 2) ((crc32c l ^^^ 0xFFFFFFFF) ^^^ b)) ∧
  -- header
  (∀ (raw : List Nat) (s : State),
    u32 raw 0x3C ≠ crc32c (raw.take 0x3C) →
    s.checkPlan raw ≠ 0) ∧
  -- accepted
  (∀ (raw : List Nat) (s : State),
    s.checkPlan raw = 0 → u32 raw 0x3C = crc32c (raw.take 0x3C) ∧ (∀ e ∈ (sectTable raw).take 11, e.crc = crc32c (body raw e)) ∧ (∀ e, (sectTable raw)[5]? = some e → u32 raw 0x34 = crc32c (body raw e)) ∧ (∀ e f, (sectTable raw)[7]? = some e → (sectTable raw)[2]? = some f → u32 raw 0x38 = crc32c (body raw e ++ body raw f)))

/-- R11. The premise is the invariant of EveryStepKeepsTheStateSound. -/
def Obligations.ReservedBitsReadAsZero : Prop :=
  -- read
  (∀ (r : Reg) (i k : Nat) (s : State),
    s.regsSound →
    k < 32 →
    (∀ f ∈ r.fields, k < f.info.lo ∨ f.info.hi < k) →
    bit (s.readReg r i) k = false) ∧
  -- word
  (∀ (r : Reg) (i : Nat) (s : State),
    s.regsSound →
    s.readReg r i < 2 ^ 32) ∧
  -- write
  (∀ (i k w : Nat) (f : Fld) (s : State),
    k < f.info.lo ∨ f.info.hi < k →
    State.writeField i (w ^^^ 2 ^ k) s f = State.writeField i w s f)

/-- R29. A warm reset after three unhealthy starts is the crash loop of R465, which ResetsAndTheirCauses states; the premise on UNHEALTHY keeps the two apart. -/
def Obligations.AFrozenA0EndsInAWarmReset : Prop :=
  -- timer
  (∀ (sup : Bool) (k : AccessKind) (addr value : BitVec 32) (target off : Nat) (p : Place) (s : State),
    s.masterRuns 0 = true →
    s.fab.a0Timer = none →
    placeOf addr.toNat = some (target, off, p) →
    ((!reads k || s.permits 0 sup target off false) && (!writes k || s.permits 0 sup target off true)) = false →
    Completes (exec (.masterAccess 0 sup k addr value) s) fun t =>
      bit (t.rd .FAB_FROZEN_FROZEN 0) 0 = true ∧ t.fab.a0Timer = some (s.now + 100000000) ∧ t.rd .FAB_STATUS_ESCAL 0 = 1 ∧ Raises s t 0x0301 0) ∧
  -- expiry
  (∀ (t0 : Nat) (s : State),
    s.fab.a0Timer = some t0 →
    s.bcu.phase = .running ∨ s.bcu.phase = .units ∨ s.bcu.phase = .warm →
    s.bcu.healthy = true ∨ s.rd .BCU_GHSTAT_UNHEALTHY 0 < 3 →
    Completes (exec (.a0FreezeEscalation) s) fun t =>
      t0 ≤ t.now ∧ Raises s t 0x0303 0 ∧ t.bcu.phase = .warm ∧ t.rd .BCU_RSTCAUSE_CAUSE 0 = 9 ∧ t.rd .FAB_FROZEN_FROZEN 0 = 0 ∧ t.fab.a0Timer = none) ∧
  -- none
  (∀ (s : State),
    s.fab.a0Timer = none →
    exec .a0FreezeEscalation s = .next s)

/-- R434. -/
def Obligations.DriveVoltagesHoldUpAnUpdate : Prop :=
  -- stops
  (∀ (vdh vdl : BitVec 16) (rows : Nat) (s : State),
    s.flag .DSE_STATUS_VFAULT 0 = false →
    vdh.toNat < s.disp.byte 8 * 100 ∨ s.disp.byte 9 * 100 < vdl.toNat →
    s.dse.op = some .update →
    Completes (exec (.driveVoltageFault vdh vdl rows) s) fun t =>
      t.rd .DSE_STATUS_VFAULT 0 = 1 ∧ t.dse.op = some .update ∧ Raises s t 0x1D04 ((if vdh.toNat < s.disp.byte 8 * 100 then 256 else 512) + 1) ∧ ∀ r ∈ s.changedRows.drop rows, t.rowDiffers t.dse.shown t.dse.target r = true) ∧
  -- waits
  (∀ (vdh vdl : BitVec 16) (copies : List (Nat × Int)) (s : State),
    s.flag .DSE_STATUS_VFAULT 0 = true →
    exec (.displayUpdateDone vdh vdl copies) s = .next s) ∧
  -- resumes
  (∀ (vdh vdl : BitVec 16) (s : State),
    s.flag .DSE_STATUS_VFAULT 0 = true →
    s.dse.fault ≤ 2 →
    s.disp.byte 8 * 100 ≤ vdh.toNat →
    vdl.toNat ≤ s.disp.byte 9 * 100 →
    Completes (exec (.driveVoltageResume vdh vdl) s) fun t =>
      t.rd .DSE_STATUS_VFAULT 0 = 0 ∧ t.dse.op = s.dse.op ∧ (∀ r, r < 256 → s.firstRow ≤ r → t.rowDiffers t.dse.shown s.dse.shown r = false) ∧ s.dse.faultAt + 100000000 ≤ t.now ∧ t.dse.target = s.dse.target ∧ Raises s t 0x1D04 (s.dse.fault * 256)) ∧
  -- stillOut
  (∀ (vdh vdl : BitVec 16) (s : State),
    vdh.toNat < s.disp.byte 8 * 100 ∨ s.disp.byte 9 * 100 < vdl.toNat →
    Completes (exec (.driveVoltageResume vdh vdl) s) fun t =>
      t.rd .DSE_STATUS_VFAULT 0 = s.rd .DSE_STATUS_VFAULT 0 ∧ t.dse = s.dse ∧ t.events = s.events)

/-- The address map and the guards of the permit tables (R26, R30, R32, R43, R424). -/
def Obligations.TheMapAndItsGuards : Prop :=
  -- address
  (∀ (a target off i : Nat) (r : Reg),
    placeOf a = some (target, off, .reg r i) →
    r.addrOf i = a ∧ a % 4 = 0 ∧ target = r.loc.unit.target ∧ off + r.loc.unit.base = a) ∧
  -- gse
  (∀ (m off : Nat) (sup : Bool) (s : State),
    m ≠ 17 →
    s.permits m sup 0x17 off true = false) ∧
  -- legal
  (∀ (m target off : Nat) (sup : Bool) (s : State),
    legalWindow target off = true →
    s.permits m sup target off true = false) ∧
  -- keys
  (∀ (m off : Nat) (sup write : Bool) (s : State),
    0x40000 ≤ off →
    s.permits m sup 0x19 off write = false)

/-- The invariants of the register store (R11, R12) and of the queues (R27, R376), for every command and for the idle tick. -/
def Obligations.EveryStepKeepsTheStateSound : Prop :=
  -- step
  (∀ (s t : State),
    step s = .next t →
    (s.regsSound → t.regsSound) ∧ (s.queuesSound → t.queuesSound))

/-- No command stops the block: every row of the table has an effect or none. Log entry 4 names the counter of open values. -/
def Obligations.EveryCommandCompletes : Prop :=
  -- next
  (∀ (c : Instr) (s : State),
    ∃ t, exec c s = .next t ∧ t.pending = s.pending ∧ s.now ≤ t.now ∧ s.free ≤ t.free ∧ s.events <+: t.events)

/-- The frame of all 293 commands (R2, R6, R16, R18), by the parts of the block that each can change. -/
def Obligations.EveryCommandKeepsToItsUnits : Prop :=
  -- frame
  (∀ (c : Instr) (s t : State),
    exec c s = .next t →
    SameOutside (touches c) s t)
end

