-- ==== Sys2Proof/Laws/Bits.lean ====
section
/-! SUPPORT. Laws of the bit operations on numbers. -/

namespace Sys2Proof.Machine

theorem testBit_add_pow (v k j : Nat) (h : v.testBit k = false) : (v + 2 ^ k).testBit j = if j = k then true else v.testBit j := by
  have hk : v / 2 ^ k % 2 = 0 := by
    rw [Nat.testBit_eq_decide_div_mod_eq] at h
    have := of_decide_eq_false h
    omega
  rw [Nat.testBit_eq_decide_div_mod_eq, Nat.testBit_eq_decide_div_mod_eq]
  have p : ∀ n : Nat, 0 < 2 ^ n := fun n => Nat.two_pow_pos n
  rcases Nat.lt_trichotomy j k with hj | hj | hj
  · rw [if_neg (by omega)]
    have e : 2 ^ k = 2 ^ j * (2 * 2 ^ (k - j - 1)) := by
      have : k = j + (k - j - 1 + 1) := by omega
      conv => lhs; rw [this]
      rw [Nat.pow_add, Nat.pow_succ']
    rw [e, Nat.add_mul_div_left _ _ (p j), Nat.add_mul_mod_self_left]
  · subst hj
    rw [if_pos rfl, Nat.add_div_right _ (p j)]
    exact decide_eq_true (by omega)
  · rw [if_neg (by omega)]
    have e : 2 ^ j = 2 ^ k * (2 * 2 ^ (j - k - 1)) := by
      have : j = k + (j - k - 1 + 1) := by omega
      conv => lhs; rw [this]
      rw [Nat.pow_add, Nat.pow_succ']
    rw [e, ← Nat.div_div_eq_div_mul, ← Nat.div_div_eq_div_mul (v), Nat.add_div_right _ (p k), ← Nat.div_div_eq_div_mul,
      ← Nat.div_div_eq_div_mul (v / 2 ^ k)]
    have : (v / 2 ^ k).succ / 2 = v / 2 ^ k / 2 := by omega
    rw [this]

/-- Bit `j` after bit `k` was set to `b`. -/
theorem bit_setBit (v k j : Nat) (b : Bool) : bit (setBit v k b) j = if j = k then b else bit v j := by
  unfold bit setBit
  by_cases hb : v.testBit k = b
  · rw [if_pos hb]
    split
    · rename_i e; rw [e]; exact hb
    · rfl
  · rw [if_neg hb]
    cases b with
    | true =>
      have h0 : v.testBit k = false := by simpa using hb
      simpa using testBit_add_pow v k j h0
    | false =>
      have h1 : v.testBit k = true := by simpa using hb
      have hle : 2 ^ k ≤ v := Nat.ge_two_pow_of_testBit h1
      have h0 : (v - 2 ^ k).testBit k = false := by
        rw [Nat.testBit_eq_decide_div_mod_eq] at *
        have := of_decide_eq_true h1
        have p := Nat.two_pow_pos k
        have e : (v - 2 ^ k) / 2 ^ k + 1 = v / 2 ^ k := by
          have := Nat.add_div_right (v - 2 ^ k) p
          rw [Nat.sub_add_cancel hle] at this
          omega
        exact decide_eq_false (by omega)
      have h := testBit_add_pow (v - 2 ^ k) k j h0
      rw [Nat.sub_add_cancel hle] at h
      by_cases hj : j = k
      · subst hj; simp [h0]
      · rw [if_neg hj] at h
        simp [h, hj]

/-- A cut to `w` bits keeps the bits below `w`. -/
theorem bit_mod (v w k : Nat) (h : k < w) : bit (v % 2 ^ w) k = bit v k := by
  unfold bit
  rw [Nat.testBit_mod_two_pow]
  simp [h]

theorem setBit_lt (v k w : Nat) (b : Bool) (h : v < 2 ^ w) (hk : k < w) : setBit v k b < 2 ^ w := by
  apply Nat.lt_pow_two_of_testBit
  intro j hj
  have := bit_setBit v k j b
  unfold bit at this
  rw [this, if_neg (by omega)]
  exact Nat.testBit_lt_two_pow (Nat.lt_of_lt_of_le h (Nat.pow_le_pow_right (by omega) hj))

end Sys2Proof.Machine
end

