-- ==== Sys2Proof/Laws/Tab.lean ====
section
/-! SUPPORT. Laws of tables: what is written is read, other keys keep their entry, and the canonical form is kept. -/

namespace Sys2Proof.Machine

open Sys2Proof

variable {α : Type}

theorem lookup_insertAt_same (d : α) (t : Tab α) (k : Nat) (v : α) (h : ∀ e ∈ t, e.1 ≠ k) : lookup d (insertAt t k v) k = v := by
  induction t with
  | nil => simp [insertAt, lookup]
  | cons e r ih =>
    obtain ⟨j, w⟩ := e
    have hj : j ≠ k := h (j, w) (by simp)
    have hr : ∀ e ∈ r, e.1 ≠ k := fun e he => h e (by simp [he])
    by_cases hk : k < j <;> simp [insertAt, lookup, hk, hj, ih hr]

theorem lookup_insertAt_other (d : α) (t : Tab α) (k i : Nat) (v : α) (h : i ≠ k) : lookup d (insertAt t k v) i = lookup d t i := by
  induction t with
  | nil => simp [insertAt, lookup, Ne.symm h]
  | cons e r ih =>
    obtain ⟨j, w⟩ := e
    by_cases hk : k < j <;> simp [insertAt, lookup, hk, ih, Ne.symm h]

theorem lookup_filter_other (d : α) (t : Tab α) (k i : Nat) (h : i ≠ k) :
    lookup d (t.filter fun e => e.1 != k) i = lookup d t i := by
  induction t with
  | nil => rfl
  | cons e r ih =>
    obtain ⟨j, w⟩ := e
    by_cases hj : j = k
    · subst hj; simp [lookup, ih, Ne.symm h]
    · simp [lookup, ih, hj]

/-- A filter that keeps what stands at a key does not change how the key reads. -/
theorem lookup_filter_kept (d : α) (t : Tab α) (p : Nat × α → Bool) (i : Nat) (h : ∀ v, p (i, v) = true) :
    lookup d (t.filter p) i = lookup d t i := by
  induction t with
  | nil => rfl
  | cons e r ih =>
    obtain ⟨j, w⟩ := e
    by_cases hj : j = i
    · subst hj; simp [lookup, h]
    · by_cases hp : p (j, w) = true
      · simp [lookup, hp, ih, hj]
      · simp [lookup, hp, ih, hj]

theorem lookup_absent (d : α) (t : Tab α) (k : Nat) (h : ∀ e ∈ t, e.1 ≠ k) : lookup d t k = d := by
  induction t with
  | nil => rfl
  | cons e r ih =>
    obtain ⟨j, w⟩ := e
    have hj : j ≠ k := h (j, w) (by simp)
    simp [lookup, hj, ih fun e he => h e (by simp [he])]

/-- What is written at a key is read there. -/
theorem lookup_update_same [DecidableEq α] (d : α) (t : Tab α) (k : Nat) (v : α) : lookup d (update d t k v) k = v := by
  have hk : ∀ e ∈ t.filter (fun e => e.1 != k), e.1 ≠ k := by simp
  unfold update
  by_cases hv : v = d
  · simp only [hv, if_true]; exact lookup_absent d _ k hk
  · simp only [hv, if_false]; exact lookup_insertAt_same d _ k v hk

/-- A write leaves every other key alone. -/
theorem lookup_update_other [DecidableEq α] (d : α) (t : Tab α) (k i : Nat) (v : α) (h : i ≠ k) :
    lookup d (update d t k v) i = lookup d t i := by
  unfold update
  by_cases hv : v = d
  · simp only [hv, if_true]; exact lookup_filter_other d t k i h
  · simp only [hv, if_false, lookup_insertAt_other d _ k i v h]; exact lookup_filter_other d t k i h

theorem lookup_update [DecidableEq α] (d : α) (t : Tab α) (k i : Nat) (v : α) :
    lookup d (update d t k v) i = if i = k then v else lookup d t i := by
  by_cases h : i = k
  · subst h; simp [lookup_update_same]
  · simp [h, lookup_update_other d t k i v h]

/-- The canonical form says: keys rise strictly, and no entry equals its default. -/
theorem tabWfFrom_iff [DecidableEq α] (d : Nat → α) (t : Tab α) (lo : Nat) :
    tabWfFrom d lo t = true ↔ (∀ e ∈ t, lo ≤ e.1 ∧ e.2 ≠ d e.1) ∧ t.Pairwise fun a b => a.1 < b.1 := by
  induction t generalizing lo with
  | nil => simp [tabWfFrom]
  | cons e r ih =>
    obtain ⟨k, v⟩ := e
    simp only [tabWfFrom, Bool.and_eq_true, decide_eq_true_eq, ih, List.forall_mem_cons, List.pairwise_cons]
    constructor
    · rintro ⟨⟨h1, h2⟩, h3, h4⟩
      exact ⟨⟨⟨h1, h2⟩, fun e he => ⟨by have := (h3 e he).1; omega, (h3 e he).2⟩⟩, fun e he => by have := (h3 e he).1; omega, h4⟩
    · rintro ⟨⟨⟨h1, h2⟩, h3⟩, h4, h5⟩
      exact ⟨⟨h1, h2⟩, fun e he => ⟨by have := h4 e he; omega, (h3 e he).2⟩, h5⟩

theorem tabWf_iff [DecidableEq α] (d : Nat → α) (t : Tab α) :
    tabWf d t = true ↔ (∀ e ∈ t, e.2 ≠ d e.1) ∧ t.Pairwise fun a b => a.1 < b.1 := by
  simp [tabWf, tabWfFrom_iff]

theorem tabWf_filter [DecidableEq α] (d : Nat → α) (t : Tab α) (p : Nat × α → Bool) (h : tabWf d t = true) : tabWf d (t.filter p) = true := by
  rw [tabWf_iff] at h ⊢
  exact ⟨fun e he => h.1 e ((List.mem_filter.1 he).1), h.2.filter p⟩

theorem mem_insertAt (t : Tab α) (k : Nat) (v : α) (e : Nat × α) : e ∈ insertAt t k v ↔ e = (k, v) ∨ e ∈ t := by
  induction t with
  | nil => simp [insertAt]
  | cons x r ih =>
    obtain ⟨j, w⟩ := x
    by_cases hk : k < j
    · simp [insertAt, hk]
    · simp only [insertAt, hk, if_false, List.mem_cons, ih]; constructor <;> rintro (h | h | h) <;> simp [h]

theorem pairwise_insertAt (t : Tab α) (k : Nat) (v : α) (h : t.Pairwise fun a b => a.1 < b.1) (hk : ∀ e ∈ t, e.1 ≠ k) :
    (insertAt t k v).Pairwise fun a b => a.1 < b.1 := by
  induction t with
  | nil => simp [insertAt]
  | cons x r ih =>
    obtain ⟨j, w⟩ := x
    obtain ⟨h1, h2⟩ := List.pairwise_cons.1 h
    by_cases hj : k < j
    · simp only [insertAt, hj, if_true, List.pairwise_cons, List.forall_mem_cons]
      exact ⟨⟨trivial, fun e he => by have := h1 e he; simp at this; omega⟩, h1, h2⟩
    · simp only [insertAt, hj, if_false, List.pairwise_cons]
      refine ⟨fun e he => ?_, ih h2 fun e he => hk e (by simp [he])⟩
      have hne : j ≠ k := hk (j, w) (by simp)
      rcases (mem_insertAt r k v e).1 he with rfl | he
      · simp; omega
      · exact h1 e he

/-- Every write keeps the canonical form. -/
theorem tabWf_update [DecidableEq α] (d : Nat → α) (t : Tab α) (k : Nat) (v : α) (h : tabWf d t = true) : tabWf d (update (d k) t k v) = true := by
  have hf := tabWf_filter d t (fun e => e.1 != k) h
  unfold update
  by_cases hv : v = d k
  · simp only [hv, if_true]; exact hf
  · simp only [hv, if_false]
    rw [tabWf_iff] at hf ⊢
    refine ⟨fun e he => ?_, pairwise_insertAt _ k v hf.2 (by simp)⟩
    rcases (mem_insertAt _ k v e).1 he with rfl | he
    · exact hv
    · exact hf.1 e he

theorem mem_update [DecidableEq α] (d : α) (t : Tab α) (k : Nat) (v : α) (e : Nat × α) (h : e ∈ update d t k v) : e = (k, v) ∨ e ∈ t := by
  unfold update at h
  by_cases hv : v = d
  · simp only [hv, if_true] at h; exact .inr ((List.mem_filter.1 h).1)
  · simp only [hv, if_false, mem_insertAt] at h
    rcases h with h | h
    · exact .inl h
    · exact .inr ((List.mem_filter.1 h).1)

/-- In canonical form, equal reads are equal tables: a table is what it reads as. -/
theorem lookup_of_mem [DecidableEq α] (d : Nat → α) (t : Tab α) (h : tabWf d t = true) (e : Nat × α) (he : e ∈ t) : lookup (d e.1) t e.1 = e.2 := by
  have hp := ((tabWf_iff d t).1 h).2
  clear h
  induction t with
  | nil => simp at he
  | cons x r ih =>
    obtain ⟨h1, h2⟩ := List.pairwise_cons.1 hp
    obtain ⟨j, w⟩ := x
    rcases List.mem_cons.1 he with rfl | he
    · simp [lookup]
    · have := h1 e he
      simp only at this
      have hne : j ≠ e.1 := by omega
      simp [lookup, hne, ih he h2]

end Sys2Proof.Machine
end

