-- ==== Sys2Proof/Laws/Regs.lean ====
section
/-! SUPPORT. Laws of the register store: a field that is written reads as written, every other field reads as before. -/

namespace Sys2Proof.Machine

open Sys2Proof

theorem Fld.ctorIdx_lt (f : Fld) : f.ctorIdx < 1024 := by cases f <;> decide

theorem Fld.ofNat_ctor (f : Fld) : Fld.ofNat f.ctorIdx = f := by cases f <;> rfl

/-- The key of a field names the field. -/
@[simp] theorem keyFld_regKey (f : Fld) (i : Nat) : keyFld (regKey f i) = f := by
  have h := Fld.ctorIdx_lt f
  have e : (i * 1024 + f.ctorIdx) % 1024 = f.ctorIdx := by omega
  simp [keyFld, regKey, e, Fld.ofNat_ctor]

@[simp] theorem regDefault_regKey (f : Fld) (i : Nat) : regDefault (regKey f i) = f.resetValue := by
  have h := keyFld_regKey f i
  unfold keyFld at h
  simp [regDefault, h]

theorem regKey_div (f : Fld) (i : Nat) : regKey f i / 1024 = i := by
  have h := Fld.ctorIdx_lt f
  unfold regKey; omega

/-- Two keys are equal only for the same field at the same index. -/
@[simp] theorem regKey_inj (f g : Fld) (i j : Nat) : regKey f i = regKey g j ↔ f = g ∧ i = j := by
  constructor
  · intro h
    exact ⟨by rw [← keyFld_regKey f i, h, keyFld_regKey], by rw [← regKey_div f i, h, regKey_div]⟩
  · rintro ⟨rfl, rfl⟩; rfl

/-- A register field reads as it was written, and a write leaves every other field alone. -/
theorem rd_put (s : State) (f g : Fld) (i j : Nat) (v : Nat) :
    (s.put f i v).rd g j = if g = f ∧ j = i then v % 2 ^ f.width else s.rd g j := by
  unfold State.put State.rd
  by_cases h : g = f ∧ j = i
  · obtain ⟨rfl, rfl⟩ := h; simp [lookup_update_same]
  · rw [if_neg h]
    by_cases hg : g = f
    · subst hg
      exact lookup_update_other _ _ _ _ _ (by simpa using h)
    · have hk : regKey g j ≠ regKey f i := by simp [hg]
      -- the two fields have their own defaults, so the table is read with the default of `g`
      generalize hd : f.resetValue = d
      clear hd h
      unfold update
      by_cases hv : v % 2 ^ f.width = d
      · simp only [hv, if_true]; exact lookup_filter_other _ _ _ _ hk
      · simp only [hv, if_false, lookup_insertAt_other _ _ _ _ _ hk]; exact lookup_filter_other _ _ _ _ hk

theorem rd_put_same (s : State) (f : Fld) (i v : Nat) : (s.put f i v).rd f i = v % 2 ^ f.width := by simp [rd_put]

/-- Every field has at least one bit. -/
theorem Fld.width_pos (f : Fld) : 0 < f.width := by cases f <;> decide

@[simp] theorem rd_put_one (s : State) (f : Fld) (i : Nat) : (s.put f i 1).rd f i = 1 := by
  rw [rd_put, if_pos ⟨rfl, rfl⟩]
  exact Nat.mod_eq_of_lt (Nat.one_lt_two_pow (Nat.ne_of_gt f.width_pos))

@[simp] theorem rd_put_zero (s : State) (f : Fld) (i : Nat) : (s.put f i 0).rd f i = 0 := by
  rw [rd_put, if_pos ⟨rfl, rfl⟩]
  exact Nat.zero_mod _

/-- A value that fits its field reads back as written. -/
theorem rd_put_fits (s : State) (f : Fld) (i v : Nat) (h : v < 2 ^ f.width) : (s.put f i v).rd f i = v := by
  rw [rd_put, if_pos ⟨rfl, rfl⟩]
  exact Nat.mod_eq_of_lt h

@[simp] theorem rd_put_fld (s : State) (f g : Fld) (i j v : Nat) (h : g ≠ f) : (s.put f i v).rd g j = s.rd g j := by simp [rd_put, h]

theorem rd_put_idx (s : State) (f g : Fld) (i j v : Nat) (h : j ≠ i) : (s.put f i v).rd g j = s.rd g j := by simp [rd_put, h]

@[simp] theorem eff_put (s : State) (f g : Fld) (i j v : Nat) : (s.put f i v).eff g j = s.eff g j := rfl

@[simp] theorem rd_putEff (s : State) (f g : Fld) (i j v : Nat) : (s.putEff f i v).rd g j = s.rd g j := rfl

/-- A value in effect reads as it was set, and setting one leaves every other alone. -/
theorem eff_putEff (s : State) (f g : Fld) (i j : Nat) (v : Nat) :
    (s.putEff f i v).eff g j = if g = f ∧ j = i then v % 2 ^ f.width else s.eff g j :=
  rd_put { s with regs := s.applied } f g i j v

@[simp] theorem eff_putEff_fld (s : State) (f g : Fld) (i j v : Nat) (h : g ≠ f) : (s.putEff f i v).eff g j = s.eff g j := by
  simp [eff_putEff, h]

/-- A one-bit field reads as it was set. -/
theorem flag_putFlag (s : State) (f g : Fld) (i j : Nat) (b : Bool) (hw : f.width = 1) :
    (s.putFlag f i b).flag g j = if g = f ∧ j = i then b else s.flag g j := by
  unfold State.putFlag State.flag
  rw [rd_put]
  by_cases h : g = f ∧ j = i
  · rw [if_pos h, if_pos h, hw]; cases b <;> simp [b2n]
  · rw [if_neg h, if_neg h]

end Sys2Proof.Machine
end

