-- ==== Sys2Proof/Laws/Later.lean ====
section
/-! SUPPORT. What every operation of the block does to the parts that no unit owns: the queue of commands stays, time and the counter of
free values go on, the event stream only grows, and the well-formed parts of the state stay well-formed. -/

namespace Sys2Proof.Machine

open Sys2Proof

/-- `t` can follow `s`. -/
structure Later (s t : State) : Prop where
  pending : t.pending = s.pending
  now : s.now ≤ t.now
  free : s.free ≤ t.free
  events : s.events <+: t.events
  regs : regsOk s.regs → regsOk t.regs
  applied : regsOk s.applied → regsOk t.applied
  latched : regsOk s.regs → regsOk s.latched → regsOk t.latched
  fab : s.fab.queue.length ≤ 16 → t.fab.queue.length ≤ 16
  up : s.hpu.up.length ≤ 65536 → t.hpu.up.length ≤ 65536
  down : s.hpu.down.length ≤ 16384 → t.hpu.down.length ≤ 16384

theorem Later.refl (s : State) : Later s s := ⟨rfl, Nat.le_refl _, Nat.le_refl _, List.prefix_refl _, id, id, fun _ h => h, id, id, id⟩

theorem Later.trans {r s t : State} (h : Later r s) (k : Later s t) : Later r t :=
  ⟨k.pending.trans h.pending, Nat.le_trans h.now k.now, Nat.le_trans h.free k.free, h.events.trans k.events, fun x => k.regs (h.regs x),
   fun x => k.applied (h.applied x), fun x y => k.latched (h.regs x) (h.latched x y), fun x => k.fab (h.fab x), fun x => k.up (h.up x),
   fun x => k.down (h.down x)⟩

/-- A change of the units' own parts. -/
theorem Later.same {r s t : State} (h : Later r s) (e1 : t.pending = s.pending) (e2 : t.now = s.now) (e3 : t.free = s.free)
    (e4 : t.events = s.events) (e5 : t.regs = s.regs) (e6 : t.applied = s.applied) (e7 : t.latched = s.latched)
    (e8 : t.fab.queue = s.fab.queue) (e9 : t.hpu.up = s.hpu.up) (e10 : t.hpu.down = s.hpu.down) : Later r t := by
  refine h.trans ⟨e1, Nat.le_of_eq e2.symm, Nat.le_of_eq e3.symm, ⟨[], by rw [List.append_nil, e4]⟩, ?_, ?_, ?_, ?_, ?_, ?_⟩
  · rw [e5]; exact id
  · rw [e6]; exact id
  · rw [e7]; exact fun _ x => x
  · rw [e8]; exact id
  · rw [e9]; exact id
  · rw [e10]; exact id

/-- The same, with events raised. -/
theorem Later.more {r s t : State} (h : Later r s) (l : List Event) (e1 : t.pending = s.pending) (e2 : t.now = s.now) (e3 : t.free = s.free)
    (e4 : t.events = s.events ++ l) (e5 : t.regs = s.regs) (e6 : t.applied = s.applied) (e7 : t.latched = s.latched)
    (e8 : t.fab.queue = s.fab.queue) (e9 : t.hpu.up = s.hpu.up) (e10 : t.hpu.down = s.hpu.down) : Later r t := by
  have h1 : Later s { s with events := s.events ++ l } :=
    ⟨rfl, Nat.le_refl _, Nat.le_refl _, List.prefix_append _ _, id, id, fun _ x => x, id, id, id⟩
  exact (h.trans h1).same e1 e2 e3 e4 e5 e6 e7 e8 e9 e10

/-- A state built from another with the units' own parts changed. -/
theorem Later.built {r s : State} {latchOn' : List Nat} {plan' : Option Plan} {fab' : Fab} {sch' : Sch} {ppl' : Ppl} {oius' : Tab Oiu} {sws' : Tab
    SwCh} {lgs' : Lgs} {bcu' : Bcu} {rcms' : Tab Rcm} {imds' : Tab Imd} {imdTrip' : Nat} {ccRequested' : Nat} {chans' : Tab Chan} {elems' : Tab Elem}
    {meu' : Meu} {bills' : Tab Bill} {blu' : Blu} {vces' : Tab Vce} {slac' : List SlacRun} {encoder' : Encoder} {t1sUp' : Nat} {hostMsgs' : List
    HostMsg} {gse' : Gse} {alloc' : Alloc} {clu' : Clu} {ntu' : Ntu} {alk' : Alk} {hpu' : Hpu} {sec' : Sec} {dse' : Dse} {upd' : Upd}
    (h : Later r s) (e8 : fab'.queue = s.fab.queue) (e9 : hpu'.up = s.hpu.up) (e10 : hpu'.down = s.hpu.down) :
    Later r ⟨s.regs, s.applied, s.latched, latchOn', s.now, s.free, s.events, plan', fab', sch', ppl', oius', sws', lgs', bcu', rcms', imds',
    imdTrip', ccRequested', chans', elems', meu', bills', blu', vces', slac', encoder', t1sUp', hostMsgs', gse', alloc', clu', ntu', alk', hpu',
    sec', dse', upd', s.pending⟩ := h.same rfl rfl rfl rfl rfl rfl rfl e8 e9 e10

/-- The second part of a pair that an operation answered. -/
theorem Later.snd {α : Type} {r b : State} {a : α} {p : α × State} (h : Later r p.2) (e : p = (a, b)) : Later r b := by
  rw [e] at h; exact h

theorem Later.fst {α : Type} {r b : State} {a : α} {p : State × α} (h : Later r p.1) (e : p = (b, a)) : Later r b := by
  rw [e] at h; exact h

/-- An answered next state that can follow `s`. -/
def Runs (s : State) (o : Out) : Prop := ∃ t, o = .next t ∧ Later s t

theorem Runs.next {s t : State} (h : Later s t) : Runs s (.next t) := ⟨t, rfl, h⟩

/-- A sealed command that succeeds leads to a later state. -/
structure Ends (s : State) (r : Except Nat (List ReqRec × List Nat × State)) : Prop where
  out : ∀ a d t, r = .ok (a, d, t) → Later s t

theorem Ends.error {s : State} (n : Nat) : Ends s (.error n) := ⟨fun _ _ _ h => nomatch h⟩

theorem Ends.ok {s t : State} {a : List ReqRec} {d : List Nat} (h : Later s t) : Ends s (.ok (a, d, t)) := by
  refine ⟨?_⟩
  intro a' d' t' e
  cases e
  exact h

end Sys2Proof.Machine
end

