-- ==== Sys2Proof/Laws/LaterOps.lean ====
section
/-! SUPPORT. The shared operations of Machine/Ops.lean lead to later states. -/

namespace Sys2Proof.Machine

open Sys2Proof

theorem regsOk_update {t : Tab Nat} (h : regsOk t) (k v : Nat) (hv : v < 2 ^ (keyFld k).width) : regsOk (update (regDefault k) t k v) := by
  refine ⟨tabWf_update regDefault t k v h.1, fun e he => ?_⟩
  rcases mem_update _ _ _ _ _ he with rfl | he
  · exact hv
  · exact h.2 e he

theorem regsOk_filter {t : Tab Nat} (h : regsOk t) (p : Nat × Nat → Bool) : regsOk (t.filter p) :=
  ⟨tabWf_filter _ _ _ h.1, fun e he => h.2 e (List.mem_filter.1 he).1⟩

theorem regsOk_put {t : Tab Nat} (h : regsOk t) (f : Fld) (i v : Nat) : regsOk (update f.resetValue t (regKey f i) (v % 2 ^ f.width)) := by
  have := regsOk_update h (regKey f i) (v % 2 ^ f.width) (by rw [keyFld_regKey]; exact Nat.mod_lt _ (Nat.two_pow_pos _))
  rwa [regDefault_regKey] at this

theorem regsOk_copy {l t : Tab Nat} (hl : ∀ e ∈ l, e.2 < 2 ^ (keyFld e.1).width) (ht : regsOk t) :
    regsOk (l.foldl (fun t e => update (regDefault e.1) t e.1 e.2) t) := by
  induction l generalizing t with
  | nil => exact ht
  | cons e l ih =>
    rw [List.foldl_cons]
    exact ih (fun x hx => hl x (by simp [hx])) (regsOk_update ht _ _ (hl e (by simp)))

theorem State.put_later {r s : State} (h : Later r s) (f : Fld) (i v : Nat) : Later r (s.put f i v) :=
  h.trans ⟨rfl, Nat.le_refl _, Nat.le_refl _, List.prefix_refl _, fun x => regsOk_put x f i v, id, fun _ x => x, id, id, id⟩

theorem State.putEff_later {r s : State} (h : Later r s) (f : Fld) (i v : Nat) : Later r (s.putEff f i v) :=
  h.trans ⟨rfl, Nat.le_refl _, Nat.le_refl _, List.prefix_refl _, id, fun x => regsOk_put x f i v, fun _ x => x, id, id, id⟩

theorem State.moveTo_later {r s : State} (h : Later r s) (t : Nat) : Later r (s.moveTo t) :=
  h.trans ⟨rfl, Nat.le_max_left _ _, Nat.le_refl _, List.prefix_refl _, id, id, fun _ x => x, id, id, id⟩

theorem State.draw_later {r s : State} (h : Later r s) : Later r s.draw.2 :=
  h.trans ⟨rfl, Nat.le_refl _, Nat.le_succ _, List.prefix_refl _, id, id, fun _ x => x, id, id, id⟩

/-- The next free value. -/
theorem Later.bump {r s : State} (h : Later r s) (t : State) (e : t = { s with free := s.free + 1 }) : Later r t := by
  subst e; exact State.draw_later h

theorem State.addEvents_later {r s : State} (h : Later r s) (l : List Event) : Later r { s with events := s.events ++ l } :=
  h.trans ⟨rfl, Nat.le_refl _, Nat.le_refl _, List.prefix_append _ _, id, id, fun _ x => x, id, id, id⟩

theorem State.clearUnit_later {r s : State} (h : Later r s) (u : UnitId) (p : Nat → Bool) (keep : List Fld) : Later r (s.clearUnit u p keep) :=
  h.trans ⟨rfl, Nat.le_refl _, Nat.le_refl _, List.prefix_refl _, fun x => regsOk_filter x _, fun x => regsOk_filter x _,
    fun _ x => regsOk_filter x _, id, id, id⟩

theorem State.each_later {r s : State} {l : List Nat} {f : State → Nat → State} (hf : ∀ x k, Later r x → Later r (f x k)) (h : Later r s) :
    Later r (s.each l f) := by
  unfold State.each
  induction l generalizing s with
  | nil => exact h
  | cons a l ih => exact ih (hf s a h)

theorem State.foldl_later {α : Type} {r s : State} {l : List α} {f : State → α → State} (hf : ∀ x k, Later r x → Later r (f x k))
    (h : Later r s) : Later r (l.foldl f s) := by
  induction l generalizing s with
  | nil => exact h
  | cons a l ih => exact ih (hf s a h)

theorem State.onlyIf_later {r s : State} {c : Bool} {f : State → State} (hf : ∀ x, Later r x → Later r (f x)) (h : Later r s) :
    Later r (s.onlyIf c f) := by
  unfold State.onlyIf
  cases c
  · exact h
  · exact hf s h

theorem State.request_later {r s : State} (h : Later r s) (cls : Nat) (recs : List ReqRec) : Later r (s.request cls recs) := by
  unfold State.request
  dsimp only
  split
  · have h2 := State.put_later (State.put_later h .LGS_COUNT_DROPPED 0 (min 0xFFFF (s.rd .LGS_COUNT_DROPPED 0 + recs.length)))
      .LGS_STATUS_DROP 0 1
    exact Later.more h2 _ rfl rfl rfl rfl rfl rfl rfl rfl rfl rfl
  · exact Later.same h rfl rfl rfl rfl rfl rfl rfl rfl rfl rfl

theorem State.requestHeld_later {r s : State} (h : Later r s) (cls : Nat) (recs : List ReqRec) : Later r (s.requestHeld cls recs) := by
  unfold State.requestHeld
  split
  · exact State.request_later h _ _
  · split <;> exact Later.same h rfl rfl rfl rfl rfl rfl rfl rfl rfl rfl

theorem State.raise_later {r s : State} (h : Later r s) (code arg : Nat) : Later r (s.raise code arg) := by
  unfold State.raise
  dsimp only
  split
  · exact State.requestHeld_later (State.addEvents_later h _) _ _
  · exact State.request_later (State.addEvents_later h _) _ _

/-- An event leaves the fabric's part alone. -/
theorem State.raise_fab (s : State) (code arg : Nat) : (s.raise code arg).fab = s.fab := by
  unfold State.raise State.requestHeld State.request
  dsimp only
  repeat' split
  all_goals rfl

theorem State.raise2_later {r s : State} (h : Later r s) (code hi lo : Nat) : Later r (s.raise2 code hi lo) := State.raise_later h _ _

theorem State.putFlag_later {r s : State} (h : Later r s) (f : Fld) (i : Nat) (b : Bool) : Later r (s.putFlag f i b) := State.put_later h _ _ _

theorem State.putBit_later {r s : State} (h : Later r s) (f : Fld) (i k : Nat) (b : Bool) : Later r (s.putBit f i k b) := State.put_later h _ _ _

theorem State.count_later {r s : State} (h : Later r s) (f : Fld) (i : Nat) : Later r (s.count f i) := State.put_later h _ _ _

theorem State.apply_later {r s : State} (h : Later r s) (f : Fld) (i : Nat) : Later r (s.apply f i) := State.putEff_later h _ _ _

theorem State.put64_later {r s : State} (h : Later r s) (lo hi : Fld) (i v : Nat) : Later r (s.put64 lo hi i v) :=
  State.put_later (State.put_later h _ _ _) _ _ _

theorem State.noteWrite_later {z0 s : State} (hz : Later z0 s) (f : Fld) (i : Nat) : Later z0 (State.noteWrite s f i) := by
  unfold State.noteWrite
  try dsimp only
  repeat' first
    | (with_reducible assumption)
    | (with_reducible apply State.each_later)
    | (with_reducible apply State.onlyIf_later)
    | (with_reducible apply State.foldl_later)
    | (intro x k hx)
    | (intro x hx)
    | split
    | (with_reducible refine Later.built ?_ ?_ ?_ ?_; rotate_left; exact rfl; exact rfl; exact rfl)


theorem State.drawBytes_later {z0 s : State} (hz : Later z0 s) : Later z0 (State.drawBytes s).2 :=
  Later.bump hz _ rfl

theorem State.setOiu_later {z0 s : State} (hz : Later z0 s) (n : Nat) (o : Oiu) : Later z0 (State.setOiu s n o) := by
  unfold State.setOiu
  try dsimp only
  repeat' first
    | (with_reducible assumption)
    | (with_reducible apply State.each_later)
    | (with_reducible apply State.onlyIf_later)
    | (with_reducible apply State.foldl_later)
    | (intro x k hx)
    | (intro x hx)
    | split
    | (with_reducible refine Later.built ?_ ?_ ?_ ?_; rotate_left; exact rfl; exact rfl; exact rfl)


theorem State.setSw_later {z0 s : State} (hz : Later z0 s) (c : Nat) (v : SwCh) : Later z0 (State.setSw s c v) := by
  unfold State.setSw
  try dsimp only
  repeat' first
    | (with_reducible assumption)
    | (with_reducible apply State.each_later)
    | (with_reducible apply State.onlyIf_later)
    | (with_reducible apply State.foldl_later)
    | (intro x k hx)
    | (intro x hx)
    | split
    | (with_reducible refine Later.built ?_ ?_ ?_ ?_; rotate_left; exact rfl; exact rfl; exact rfl)


theorem State.randomBits_later {z0 s : State} (hz : Later z0 s) : Later z0 (State.randomBits s).2 := by
  unfold State.randomBits
  try dsimp only
  repeat' first
    | (with_reducible assumption)
    | (with_reducible apply State.draw_later)
    | (with_reducible apply State.each_later)
    | (with_reducible apply State.onlyIf_later)
    | (with_reducible apply State.foldl_later)
    | (intro x k hx)
    | (intro x hx)
    | (with_reducible refine Later.snd ?_ (by assumption))
    | split
    | (with_reducible refine Later.built ?_ ?_ ?_ ?_; rotate_left; exact rfl; exact rfl; exact rfl)


theorem State.trackWait_later {z0 s : State} (hz : Later z0 s) : Later z0 (State.trackWait s) := by
  unfold State.trackWait
  try dsimp only
  repeat' first
    | (with_reducible assumption)
    | (with_reducible apply State.put_later)
    | (with_reducible apply State.raise_later)
    | (with_reducible apply State.each_later)
    | (with_reducible apply State.onlyIf_later)
    | (with_reducible apply State.foldl_later)
    | (intro x k hx)
    | (intro x hx)
    | split
    | (with_reducible refine Later.built ?_ ?_ ?_ ?_; rotate_left; exact rfl; exact rfl; exact rfl)


theorem State.refreshTl_later {z0 s : State} (hz : Later z0 s) : Later z0 (State.refreshTl s) := by
  unfold State.refreshTl
  try dsimp only
  repeat' first
    | (with_reducible assumption)
    | (with_reducible apply State.each_later)
    | (with_reducible apply State.onlyIf_later)
    | (with_reducible apply State.foldl_later)
    | (intro x k hx)
    | (intro x hx)
    | split
    | (with_reducible refine Later.built ?_ ?_ ?_ ?_; rotate_left; exact rfl; exact rfl; exact rfl)


end Sys2Proof.Machine
end

