-- ==== Sys2Proof/Laws/State.lean ====
section
/-! SUPPORT. What each update of the state leaves as it was, field by field, and what it sets. -/

namespace Sys2Proof.Machine

open Sys2Proof

variable (s : State)

@[simp] theorem State.put_applied (f : Fld) (i v : Nat) : (s.put f i v).applied = s.applied := rfl
@[simp] theorem State.put_latched (f : Fld) (i v : Nat) : (s.put f i v).latched = s.latched := rfl
@[simp] theorem State.put_latchOn (f : Fld) (i v : Nat) : (s.put f i v).latchOn = s.latchOn := rfl
@[simp] theorem State.put_now (f : Fld) (i v : Nat) : (s.put f i v).now = s.now := rfl
@[simp] theorem State.put_free (f : Fld) (i v : Nat) : (s.put f i v).free = s.free := rfl
@[simp] theorem State.put_events (f : Fld) (i v : Nat) : (s.put f i v).events = s.events := rfl
@[simp] theorem State.put_plan (f : Fld) (i v : Nat) : (s.put f i v).plan = s.plan := rfl
@[simp] theorem State.put_fab (f : Fld) (i v : Nat) : (s.put f i v).fab = s.fab := rfl
@[simp] theorem State.put_sch (f : Fld) (i v : Nat) : (s.put f i v).sch = s.sch := rfl
@[simp] theorem State.put_ppl (f : Fld) (i v : Nat) : (s.put f i v).ppl = s.ppl := rfl
@[simp] theorem State.put_oius (f : Fld) (i v : Nat) : (s.put f i v).oius = s.oius := rfl
@[simp] theorem State.put_sws (f : Fld) (i v : Nat) : (s.put f i v).sws = s.sws := rfl
@[simp] theorem State.put_lgs (f : Fld) (i v : Nat) : (s.put f i v).lgs = s.lgs := rfl
@[simp] theorem State.put_bcu (f : Fld) (i v : Nat) : (s.put f i v).bcu = s.bcu := rfl
@[simp] theorem State.put_rcms (f : Fld) (i v : Nat) : (s.put f i v).rcms = s.rcms := rfl
@[simp] theorem State.put_imds (f : Fld) (i v : Nat) : (s.put f i v).imds = s.imds := rfl
@[simp] theorem State.put_imdTrip (f : Fld) (i v : Nat) : (s.put f i v).imdTrip = s.imdTrip := rfl
@[simp] theorem State.put_ccRequested (f : Fld) (i v : Nat) : (s.put f i v).ccRequested = s.ccRequested := rfl
@[simp] theorem State.put_chans (f : Fld) (i v : Nat) : (s.put f i v).chans = s.chans := rfl
@[simp] theorem State.put_elems (f : Fld) (i v : Nat) : (s.put f i v).elems = s.elems := rfl
@[simp] theorem State.put_meu (f : Fld) (i v : Nat) : (s.put f i v).meu = s.meu := rfl
@[simp] theorem State.put_bills (f : Fld) (i v : Nat) : (s.put f i v).bills = s.bills := rfl
@[simp] theorem State.put_blu (f : Fld) (i v : Nat) : (s.put f i v).blu = s.blu := rfl
@[simp] theorem State.put_vces (f : Fld) (i v : Nat) : (s.put f i v).vces = s.vces := rfl
@[simp] theorem State.put_slac (f : Fld) (i v : Nat) : (s.put f i v).slac = s.slac := rfl
@[simp] theorem State.put_encoder (f : Fld) (i v : Nat) : (s.put f i v).encoder = s.encoder := rfl
@[simp] theorem State.put_t1sUp (f : Fld) (i v : Nat) : (s.put f i v).t1sUp = s.t1sUp := rfl
@[simp] theorem State.put_hostMsgs (f : Fld) (i v : Nat) : (s.put f i v).hostMsgs = s.hostMsgs := rfl
@[simp] theorem State.put_gse (f : Fld) (i v : Nat) : (s.put f i v).gse = s.gse := rfl
@[simp] theorem State.put_alloc (f : Fld) (i v : Nat) : (s.put f i v).alloc = s.alloc := rfl
@[simp] theorem State.put_clu (f : Fld) (i v : Nat) : (s.put f i v).clu = s.clu := rfl
@[simp] theorem State.put_ntu (f : Fld) (i v : Nat) : (s.put f i v).ntu = s.ntu := rfl
@[simp] theorem State.put_alk (f : Fld) (i v : Nat) : (s.put f i v).alk = s.alk := rfl
@[simp] theorem State.put_hpu (f : Fld) (i v : Nat) : (s.put f i v).hpu = s.hpu := rfl
@[simp] theorem State.put_sec (f : Fld) (i v : Nat) : (s.put f i v).sec = s.sec := rfl
@[simp] theorem State.put_dse (f : Fld) (i v : Nat) : (s.put f i v).dse = s.dse := rfl
@[simp] theorem State.put_upd (f : Fld) (i v : Nat) : (s.put f i v).upd = s.upd := rfl
@[simp] theorem State.put_pending (f : Fld) (i v : Nat) : (s.put f i v).pending = s.pending := rfl
@[simp] theorem State.put_eff (f : Fld) (i v : Nat) (g : Fld) (j : Nat) : (s.put f i v).eff g j = s.eff g j := rfl

@[simp] theorem State.putEff_regs (f : Fld) (i v : Nat) : (s.putEff f i v).regs = s.regs := rfl
@[simp] theorem State.putEff_latched (f : Fld) (i v : Nat) : (s.putEff f i v).latched = s.latched := rfl
@[simp] theorem State.putEff_latchOn (f : Fld) (i v : Nat) : (s.putEff f i v).latchOn = s.latchOn := rfl
@[simp] theorem State.putEff_now (f : Fld) (i v : Nat) : (s.putEff f i v).now = s.now := rfl
@[simp] theorem State.putEff_free (f : Fld) (i v : Nat) : (s.putEff f i v).free = s.free := rfl
@[simp] theorem State.putEff_events (f : Fld) (i v : Nat) : (s.putEff f i v).events = s.events := rfl
@[simp] theorem State.putEff_plan (f : Fld) (i v : Nat) : (s.putEff f i v).plan = s.plan := rfl
@[simp] theorem State.putEff_fab (f : Fld) (i v : Nat) : (s.putEff f i v).fab = s.fab := rfl
@[simp] theorem State.putEff_sch (f : Fld) (i v : Nat) : (s.putEff f i v).sch = s.sch := rfl
@[simp] theorem State.putEff_ppl (f : Fld) (i v : Nat) : (s.putEff f i v).ppl = s.ppl := rfl
@[simp] theorem State.putEff_oius (f : Fld) (i v : Nat) : (s.putEff f i v).oius = s.oius := rfl
@[simp] theorem State.putEff_sws (f : Fld) (i v : Nat) : (s.putEff f i v).sws = s.sws := rfl
@[simp] theorem State.putEff_lgs (f : Fld) (i v : Nat) : (s.putEff f i v).lgs = s.lgs := rfl
@[simp] theorem State.putEff_bcu (f : Fld) (i v : Nat) : (s.putEff f i v).bcu = s.bcu := rfl
@[simp] theorem State.putEff_rcms (f : Fld) (i v : Nat) : (s.putEff f i v).rcms = s.rcms := rfl
@[simp] theorem State.putEff_imds (f : Fld) (i v : Nat) : (s.putEff f i v).imds = s.imds := rfl
@[simp] theorem State.putEff_imdTrip (f : Fld) (i v : Nat) : (s.putEff f i v).imdTrip = s.imdTrip := rfl
@[simp] theorem State.putEff_ccRequested (f : Fld) (i v : Nat) : (s.putEff f i v).ccRequested = s.ccRequested := rfl
@[simp] theorem State.putEff_chans (f : Fld) (i v : Nat) : (s.putEff f i v).chans = s.chans := rfl
@[simp] theorem State.putEff_elems (f : Fld) (i v : Nat) : (s.putEff f i v).elems = s.elems := rfl
@[simp] theorem State.putEff_meu (f : Fld) (i v : Nat) : (s.putEff f i v).meu = s.meu := rfl
@[simp] theorem State.putEff_bills (f : Fld) (i v : Nat) : (s.putEff f i v).bills = s.bills := rfl
@[simp] theorem State.putEff_blu (f : Fld) (i v : Nat) : (s.putEff f i v).blu = s.blu := rfl
@[simp] theorem State.putEff_vces (f : Fld) (i v : Nat) : (s.putEff f i v).vces = s.vces := rfl
@[simp] theorem State.putEff_slac (f : Fld) (i v : Nat) : (s.putEff f i v).slac = s.slac := rfl
@[simp] theorem State.putEff_encoder (f : Fld) (i v : Nat) : (s.putEff f i v).encoder = s.encoder := rfl
@[simp] theorem State.putEff_t1sUp (f : Fld) (i v : Nat) : (s.putEff f i v).t1sUp = s.t1sUp := rfl
@[simp] theorem State.putEff_hostMsgs (f : Fld) (i v : Nat) : (s.putEff f i v).hostMsgs = s.hostMsgs := rfl
@[simp] theorem State.putEff_gse (f : Fld) (i v : Nat) : (s.putEff f i v).gse = s.gse := rfl
@[simp] theorem State.putEff_alloc (f : Fld) (i v : Nat) : (s.putEff f i v).alloc = s.alloc := rfl
@[simp] theorem State.putEff_clu (f : Fld) (i v : Nat) : (s.putEff f i v).clu = s.clu := rfl
@[simp] theorem State.putEff_ntu (f : Fld) (i v : Nat) : (s.putEff f i v).ntu = s.ntu := rfl
@[simp] theorem State.putEff_alk (f : Fld) (i v : Nat) : (s.putEff f i v).alk = s.alk := rfl
@[simp] theorem State.putEff_hpu (f : Fld) (i v : Nat) : (s.putEff f i v).hpu = s.hpu := rfl
@[simp] theorem State.putEff_sec (f : Fld) (i v : Nat) : (s.putEff f i v).sec = s.sec := rfl
@[simp] theorem State.putEff_dse (f : Fld) (i v : Nat) : (s.putEff f i v).dse = s.dse := rfl
@[simp] theorem State.putEff_upd (f : Fld) (i v : Nat) : (s.putEff f i v).upd = s.upd := rfl
@[simp] theorem State.putEff_pending (f : Fld) (i v : Nat) : (s.putEff f i v).pending = s.pending := rfl
@[simp] theorem State.putEff_rd (f : Fld) (i v : Nat) (g : Fld) (j : Nat) : (s.putEff f i v).rd g j = s.rd g j := rfl
@[simp] theorem State.putEff_flag (f : Fld) (i v : Nat) (g : Fld) (j : Nat) : (s.putEff f i v).flag g j = s.flag g j := rfl

@[simp] theorem State.moveTo_regs (x : Nat) : (s.moveTo x).regs = s.regs := rfl
@[simp] theorem State.moveTo_applied (x : Nat) : (s.moveTo x).applied = s.applied := rfl
@[simp] theorem State.moveTo_latched (x : Nat) : (s.moveTo x).latched = s.latched := rfl
@[simp] theorem State.moveTo_latchOn (x : Nat) : (s.moveTo x).latchOn = s.latchOn := rfl
@[simp] theorem State.moveTo_free (x : Nat) : (s.moveTo x).free = s.free := rfl
@[simp] theorem State.moveTo_events (x : Nat) : (s.moveTo x).events = s.events := rfl
@[simp] theorem State.moveTo_plan (x : Nat) : (s.moveTo x).plan = s.plan := rfl
@[simp] theorem State.moveTo_fab (x : Nat) : (s.moveTo x).fab = s.fab := rfl
@[simp] theorem State.moveTo_sch (x : Nat) : (s.moveTo x).sch = s.sch := rfl
@[simp] theorem State.moveTo_ppl (x : Nat) : (s.moveTo x).ppl = s.ppl := rfl
@[simp] theorem State.moveTo_oius (x : Nat) : (s.moveTo x).oius = s.oius := rfl
@[simp] theorem State.moveTo_sws (x : Nat) : (s.moveTo x).sws = s.sws := rfl
@[simp] theorem State.moveTo_lgs (x : Nat) : (s.moveTo x).lgs = s.lgs := rfl
@[simp] theorem State.moveTo_bcu (x : Nat) : (s.moveTo x).bcu = s.bcu := rfl
@[simp] theorem State.moveTo_rcms (x : Nat) : (s.moveTo x).rcms = s.rcms := rfl
@[simp] theorem State.moveTo_imds (x : Nat) : (s.moveTo x).imds = s.imds := rfl
@[simp] theorem State.moveTo_imdTrip (x : Nat) : (s.moveTo x).imdTrip = s.imdTrip := rfl
@[simp] theorem State.moveTo_ccRequested (x : Nat) : (s.moveTo x).ccRequested = s.ccRequested := rfl
@[simp] theorem State.moveTo_chans (x : Nat) : (s.moveTo x).chans = s.chans := rfl
@[simp] theorem State.moveTo_elems (x : Nat) : (s.moveTo x).elems = s.elems := rfl
@[simp] theorem State.moveTo_meu (x : Nat) : (s.moveTo x).meu = s.meu := rfl
@[simp] theorem State.moveTo_bills (x : Nat) : (s.moveTo x).bills = s.bills := rfl
@[simp] theorem State.moveTo_blu (x : Nat) : (s.moveTo x).blu = s.blu := rfl
@[simp] theorem State.moveTo_vces (x : Nat) : (s.moveTo x).vces = s.vces := rfl
@[simp] theorem State.moveTo_slac (x : Nat) : (s.moveTo x).slac = s.slac := rfl
@[simp] theorem State.moveTo_encoder (x : Nat) : (s.moveTo x).encoder = s.encoder := rfl
@[simp] theorem State.moveTo_t1sUp (x : Nat) : (s.moveTo x).t1sUp = s.t1sUp := rfl
@[simp] theorem State.moveTo_hostMsgs (x : Nat) : (s.moveTo x).hostMsgs = s.hostMsgs := rfl
@[simp] theorem State.moveTo_gse (x : Nat) : (s.moveTo x).gse = s.gse := rfl
@[simp] theorem State.moveTo_alloc (x : Nat) : (s.moveTo x).alloc = s.alloc := rfl
@[simp] theorem State.moveTo_clu (x : Nat) : (s.moveTo x).clu = s.clu := rfl
@[simp] theorem State.moveTo_ntu (x : Nat) : (s.moveTo x).ntu = s.ntu := rfl
@[simp] theorem State.moveTo_alk (x : Nat) : (s.moveTo x).alk = s.alk := rfl
@[simp] theorem State.moveTo_hpu (x : Nat) : (s.moveTo x).hpu = s.hpu := rfl
@[simp] theorem State.moveTo_sec (x : Nat) : (s.moveTo x).sec = s.sec := rfl
@[simp] theorem State.moveTo_dse (x : Nat) : (s.moveTo x).dse = s.dse := rfl
@[simp] theorem State.moveTo_upd (x : Nat) : (s.moveTo x).upd = s.upd := rfl
@[simp] theorem State.moveTo_pending (x : Nat) : (s.moveTo x).pending = s.pending := rfl
@[simp] theorem State.moveTo_rd (x : Nat) (g : Fld) (j : Nat) : (s.moveTo x).rd g j = s.rd g j := rfl
@[simp] theorem State.moveTo_flag (x : Nat) (g : Fld) (j : Nat) : (s.moveTo x).flag g j = s.flag g j := rfl
@[simp] theorem State.moveTo_eff (x : Nat) (g : Fld) (j : Nat) : (s.moveTo x).eff g j = s.eff g j := rfl
@[simp] theorem State.moveTo_now (x : Nat) : (s.moveTo x).now = max s.now x := rfl

@[simp] theorem State.setOiu_regs (n : Nat) (v : Oiu) : (s.setOiu n v).regs = s.regs := rfl
@[simp] theorem State.setOiu_applied (n : Nat) (v : Oiu) : (s.setOiu n v).applied = s.applied := rfl
@[simp] theorem State.setOiu_latched (n : Nat) (v : Oiu) : (s.setOiu n v).latched = s.latched := rfl
@[simp] theorem State.setOiu_latchOn (n : Nat) (v : Oiu) : (s.setOiu n v).latchOn = s.latchOn := rfl
@[simp] theorem State.setOiu_now (n : Nat) (v : Oiu) : (s.setOiu n v).now = s.now := rfl
@[simp] theorem State.setOiu_free (n : Nat) (v : Oiu) : (s.setOiu n v).free = s.free := rfl
@[simp] theorem State.setOiu_events (n : Nat) (v : Oiu) : (s.setOiu n v).events = s.events := rfl
@[simp] theorem State.setOiu_plan (n : Nat) (v : Oiu) : (s.setOiu n v).plan = s.plan := rfl
@[simp] theorem State.setOiu_fab (n : Nat) (v : Oiu) : (s.setOiu n v).fab = s.fab := rfl
@[simp] theorem State.setOiu_sch (n : Nat) (v : Oiu) : (s.setOiu n v).sch = s.sch := rfl
@[simp] theorem State.setOiu_ppl (n : Nat) (v : Oiu) : (s.setOiu n v).ppl = s.ppl := rfl
@[simp] theorem State.setOiu_sws (n : Nat) (v : Oiu) : (s.setOiu n v).sws = s.sws := rfl
@[simp] theorem State.setOiu_lgs (n : Nat) (v : Oiu) : (s.setOiu n v).lgs = s.lgs := rfl
@[simp] theorem State.setOiu_bcu (n : Nat) (v : Oiu) : (s.setOiu n v).bcu = s.bcu := rfl
@[simp] theorem State.setOiu_rcms (n : Nat) (v : Oiu) : (s.setOiu n v).rcms = s.rcms := rfl
@[simp] theorem State.setOiu_imds (n : Nat) (v : Oiu) : (s.setOiu n v).imds = s.imds := rfl
@[simp] theorem State.setOiu_imdTrip (n : Nat) (v : Oiu) : (s.setOiu n v).imdTrip = s.imdTrip := rfl
@[simp] theorem State.setOiu_ccRequested (n : Nat) (v : Oiu) : (s.setOiu n v).ccRequested = s.ccRequested := rfl
@[simp] theorem State.setOiu_chans (n : Nat) (v : Oiu) : (s.setOiu n v).chans = s.chans := rfl
@[simp] theorem State.setOiu_elems (n : Nat) (v : Oiu) : (s.setOiu n v).elems = s.elems := rfl
@[simp] theorem State.setOiu_meu (n : Nat) (v : Oiu) : (s.setOiu n v).meu = s.meu := rfl
@[simp] theorem State.setOiu_bills (n : Nat) (v : Oiu) : (s.setOiu n v).bills = s.bills := rfl
@[simp] theorem State.setOiu_blu (n : Nat) (v : Oiu) : (s.setOiu n v).blu = s.blu := rfl
@[simp] theorem State.setOiu_vces (n : Nat) (v : Oiu) : (s.setOiu n v).vces = s.vces := rfl
@[simp] theorem State.setOiu_slac (n : Nat) (v : Oiu) : (s.setOiu n v).slac = s.slac := rfl
@[simp] theorem State.setOiu_encoder (n : Nat) (v : Oiu) : (s.setOiu n v).encoder = s.encoder := rfl
@[simp] theorem State.setOiu_t1sUp (n : Nat) (v : Oiu) : (s.setOiu n v).t1sUp = s.t1sUp := rfl
@[simp] theorem State.setOiu_hostMsgs (n : Nat) (v : Oiu) : (s.setOiu n v).hostMsgs = s.hostMsgs := rfl
@[simp] theorem State.setOiu_gse (n : Nat) (v : Oiu) : (s.setOiu n v).gse = s.gse := rfl
@[simp] theorem State.setOiu_alloc (n : Nat) (v : Oiu) : (s.setOiu n v).alloc = s.alloc := rfl
@[simp] theorem State.setOiu_clu (n : Nat) (v : Oiu) : (s.setOiu n v).clu = s.clu := rfl
@[simp] theorem State.setOiu_ntu (n : Nat) (v : Oiu) : (s.setOiu n v).ntu = s.ntu := rfl
@[simp] theorem State.setOiu_alk (n : Nat) (v : Oiu) : (s.setOiu n v).alk = s.alk := rfl
@[simp] theorem State.setOiu_hpu (n : Nat) (v : Oiu) : (s.setOiu n v).hpu = s.hpu := rfl
@[simp] theorem State.setOiu_sec (n : Nat) (v : Oiu) : (s.setOiu n v).sec = s.sec := rfl
@[simp] theorem State.setOiu_dse (n : Nat) (v : Oiu) : (s.setOiu n v).dse = s.dse := rfl
@[simp] theorem State.setOiu_upd (n : Nat) (v : Oiu) : (s.setOiu n v).upd = s.upd := rfl
@[simp] theorem State.setOiu_pending (n : Nat) (v : Oiu) : (s.setOiu n v).pending = s.pending := rfl
@[simp] theorem State.setOiu_rd (n : Nat) (v : Oiu) (g : Fld) (j : Nat) : (s.setOiu n v).rd g j = s.rd g j := rfl
@[simp] theorem State.setOiu_flag (n : Nat) (v : Oiu) (g : Fld) (j : Nat) : (s.setOiu n v).flag g j = s.flag g j := rfl
@[simp] theorem State.setOiu_eff (n : Nat) (v : Oiu) (g : Fld) (j : Nat) : (s.setOiu n v).eff g j = s.eff g j := rfl
@[simp] theorem State.setOiu_oiu_same (n : Nat) (v : Oiu) : (s.setOiu n v).oiu n = v := lookup_update_same _ _ _ _
theorem State.setOiu_oiu_other (n : Nat) (v : Oiu) (k : Nat) (h : k ≠ n) : (s.setOiu n v).oiu k = s.oiu k := lookup_update_other _ _ _ _ _ h

@[simp] theorem State.setSw_regs (n : Nat) (v : SwCh) : (s.setSw n v).regs = s.regs := rfl
@[simp] theorem State.setSw_applied (n : Nat) (v : SwCh) : (s.setSw n v).applied = s.applied := rfl
@[simp] theorem State.setSw_latched (n : Nat) (v : SwCh) : (s.setSw n v).latched = s.latched := rfl
@[simp] theorem State.setSw_latchOn (n : Nat) (v : SwCh) : (s.setSw n v).latchOn = s.latchOn := rfl
@[simp] theorem State.setSw_now (n : Nat) (v : SwCh) : (s.setSw n v).now = s.now := rfl
@[simp] theorem State.setSw_free (n : Nat) (v : SwCh) : (s.setSw n v).free = s.free := rfl
@[simp] theorem State.setSw_events (n : Nat) (v : SwCh) : (s.setSw n v).events = s.events := rfl
@[simp] theorem State.setSw_plan (n : Nat) (v : SwCh) : (s.setSw n v).plan = s.plan := rfl
@[simp] theorem State.setSw_fab (n : Nat) (v : SwCh) : (s.setSw n v).fab = s.fab := rfl
@[simp] theorem State.setSw_sch (n : Nat) (v : SwCh) : (s.setSw n v).sch = s.sch := rfl
@[simp] theorem State.setSw_ppl (n : Nat) (v : SwCh) : (s.setSw n v).ppl = s.ppl := rfl
@[simp] theorem State.setSw_oius (n : Nat) (v : SwCh) : (s.setSw n v).oius = s.oius := rfl
@[simp] theorem State.setSw_lgs (n : Nat) (v : SwCh) : (s.setSw n v).lgs = s.lgs := rfl
@[simp] theorem State.setSw_bcu (n : Nat) (v : SwCh) : (s.setSw n v).bcu = s.bcu := rfl
@[simp] theorem State.setSw_rcms (n : Nat) (v : SwCh) : (s.setSw n v).rcms = s.rcms := rfl
@[simp] theorem State.setSw_imds (n : Nat) (v : SwCh) : (s.setSw n v).imds = s.imds := rfl
@[simp] theorem State.setSw_imdTrip (n : Nat) (v : SwCh) : (s.setSw n v).imdTrip = s.imdTrip := rfl
@[simp] theorem State.setSw_ccRequested (n : Nat) (v : SwCh) : (s.setSw n v).ccRequested = s.ccRequested := rfl
@[simp] theorem State.setSw_chans (n : Nat) (v : SwCh) : (s.setSw n v).chans = s.chans := rfl
@[simp] theorem State.setSw_elems (n : Nat) (v : SwCh) : (s.setSw n v).elems = s.elems := rfl
@[simp] theorem State.setSw_meu (n : Nat) (v : SwCh) : (s.setSw n v).meu = s.meu := rfl
@[simp] theorem State.setSw_bills (n : Nat) (v : SwCh) : (s.setSw n v).bills = s.bills := rfl
@[simp] theorem State.setSw_blu (n : Nat) (v : SwCh) : (s.setSw n v).blu = s.blu := rfl
@[simp] theorem State.setSw_vces (n : Nat) (v : SwCh) : (s.setSw n v).vces = s.vces := rfl
@[simp] theorem State.setSw_slac (n : Nat) (v : SwCh) : (s.setSw n v).slac = s.slac := rfl
@[simp] theorem State.setSw_encoder (n : Nat) (v : SwCh) : (s.setSw n v).encoder = s.encoder := rfl
@[simp] theorem State.setSw_t1sUp (n : Nat) (v : SwCh) : (s.setSw n v).t1sUp = s.t1sUp := rfl
@[simp] theorem State.setSw_hostMsgs (n : Nat) (v : SwCh) : (s.setSw n v).hostMsgs = s.hostMsgs := rfl
@[simp] theorem State.setSw_gse (n : Nat) (v : SwCh) : (s.setSw n v).gse = s.gse := rfl
@[simp] theorem State.setSw_alloc (n : Nat) (v : SwCh) : (s.setSw n v).alloc = s.alloc := rfl
@[simp] theorem State.setSw_clu (n : Nat) (v : SwCh) : (s.setSw n v).clu = s.clu := rfl
@[simp] theorem State.setSw_ntu (n : Nat) (v : SwCh) : (s.setSw n v).ntu = s.ntu := rfl
@[simp] theorem State.setSw_alk (n : Nat) (v : SwCh) : (s.setSw n v).alk = s.alk := rfl
@[simp] theorem State.setSw_hpu (n : Nat) (v : SwCh) : (s.setSw n v).hpu = s.hpu := rfl
@[simp] theorem State.setSw_sec (n : Nat) (v : SwCh) : (s.setSw n v).sec = s.sec := rfl
@[simp] theorem State.setSw_dse (n : Nat) (v : SwCh) : (s.setSw n v).dse = s.dse := rfl
@[simp] theorem State.setSw_upd (n : Nat) (v : SwCh) : (s.setSw n v).upd = s.upd := rfl
@[simp] theorem State.setSw_pending (n : Nat) (v : SwCh) : (s.setSw n v).pending = s.pending := rfl
@[simp] theorem State.setSw_rd (n : Nat) (v : SwCh) (g : Fld) (j : Nat) : (s.setSw n v).rd g j = s.rd g j := rfl
@[simp] theorem State.setSw_flag (n : Nat) (v : SwCh) (g : Fld) (j : Nat) : (s.setSw n v).flag g j = s.flag g j := rfl
@[simp] theorem State.setSw_eff (n : Nat) (v : SwCh) (g : Fld) (j : Nat) : (s.setSw n v).eff g j = s.eff g j := rfl
@[simp] theorem State.setSw_sw_same (n : Nat) (v : SwCh) : (s.setSw n v).sw n = v := lookup_update_same _ _ _ _
theorem State.setSw_sw_other (n : Nat) (v : SwCh) (k : Nat) (h : k ≠ n) : (s.setSw n v).sw k = s.sw k := lookup_update_other _ _ _ _ _ h

@[simp] theorem State.setAlk_regs (v : Alk) : (s.setAlk v).regs = s.regs := rfl
@[simp] theorem State.setAlk_applied (v : Alk) : (s.setAlk v).applied = s.applied := rfl
@[simp] theorem State.setAlk_latched (v : Alk) : (s.setAlk v).latched = s.latched := rfl
@[simp] theorem State.setAlk_latchOn (v : Alk) : (s.setAlk v).latchOn = s.latchOn := rfl
@[simp] theorem State.setAlk_now (v : Alk) : (s.setAlk v).now = s.now := rfl
@[simp] theorem State.setAlk_free (v : Alk) : (s.setAlk v).free = s.free := rfl
@[simp] theorem State.setAlk_events (v : Alk) : (s.setAlk v).events = s.events := rfl
@[simp] theorem State.setAlk_plan (v : Alk) : (s.setAlk v).plan = s.plan := rfl
@[simp] theorem State.setAlk_fab (v : Alk) : (s.setAlk v).fab = s.fab := rfl
@[simp] theorem State.setAlk_sch (v : Alk) : (s.setAlk v).sch = s.sch := rfl
@[simp] theorem State.setAlk_ppl (v : Alk) : (s.setAlk v).ppl = s.ppl := rfl
@[simp] theorem State.setAlk_oius (v : Alk) : (s.setAlk v).oius = s.oius := rfl
@[simp] theorem State.setAlk_sws (v : Alk) : (s.setAlk v).sws = s.sws := rfl
@[simp] theorem State.setAlk_lgs (v : Alk) : (s.setAlk v).lgs = s.lgs := rfl
@[simp] theorem State.setAlk_bcu (v : Alk) : (s.setAlk v).bcu = s.bcu := rfl
@[simp] theorem State.setAlk_rcms (v : Alk) : (s.setAlk v).rcms = s.rcms := rfl
@[simp] theorem State.setAlk_imds (v : Alk) : (s.setAlk v).imds = s.imds := rfl
@[simp] theorem State.setAlk_imdTrip (v : Alk) : (s.setAlk v).imdTrip = s.imdTrip := rfl
@[simp] theorem State.setAlk_ccRequested (v : Alk) : (s.setAlk v).ccRequested = s.ccRequested := rfl
@[simp] theorem State.setAlk_chans (v : Alk) : (s.setAlk v).chans = s.chans := rfl
@[simp] theorem State.setAlk_elems (v : Alk) : (s.setAlk v).elems = s.elems := rfl
@[simp] theorem State.setAlk_meu (v : Alk) : (s.setAlk v).meu = s.meu := rfl
@[simp] theorem State.setAlk_bills (v : Alk) : (s.setAlk v).bills = s.bills := rfl
@[simp] theorem State.setAlk_blu (v : Alk) : (s.setAlk v).blu = s.blu := rfl
@[simp] theorem State.setAlk_vces (v : Alk) : (s.setAlk v).vces = s.vces := rfl
@[simp] theorem State.setAlk_slac (v : Alk) : (s.setAlk v).slac = s.slac := rfl
@[simp] theorem State.setAlk_encoder (v : Alk) : (s.setAlk v).encoder = s.encoder := rfl
@[simp] theorem State.setAlk_t1sUp (v : Alk) : (s.setAlk v).t1sUp = s.t1sUp := rfl
@[simp] theorem State.setAlk_hostMsgs (v : Alk) : (s.setAlk v).hostMsgs = s.hostMsgs := rfl
@[simp] theorem State.setAlk_gse (v : Alk) : (s.setAlk v).gse = s.gse := rfl
@[simp] theorem State.setAlk_alloc (v : Alk) : (s.setAlk v).alloc = s.alloc := rfl
@[simp] theorem State.setAlk_clu (v : Alk) : (s.setAlk v).clu = s.clu := rfl
@[simp] theorem State.setAlk_ntu (v : Alk) : (s.setAlk v).ntu = s.ntu := rfl
@[simp] theorem State.setAlk_hpu (v : Alk) : (s.setAlk v).hpu = s.hpu := rfl
@[simp] theorem State.setAlk_sec (v : Alk) : (s.setAlk v).sec = s.sec := rfl
@[simp] theorem State.setAlk_dse (v : Alk) : (s.setAlk v).dse = s.dse := rfl
@[simp] theorem State.setAlk_upd (v : Alk) : (s.setAlk v).upd = s.upd := rfl
@[simp] theorem State.setAlk_pending (v : Alk) : (s.setAlk v).pending = s.pending := rfl
@[simp] theorem State.setAlk_rd (v : Alk) (g : Fld) (j : Nat) : (s.setAlk v).rd g j = s.rd g j := rfl
@[simp] theorem State.setAlk_flag (v : Alk) (g : Fld) (j : Nat) : (s.setAlk v).flag g j = s.flag g j := rfl
@[simp] theorem State.setAlk_eff (v : Alk) (g : Fld) (j : Nat) : (s.setAlk v).eff g j = s.eff g j := rfl
@[simp] theorem State.setAlk_alk (v : Alk) : (s.setAlk v).alk = v := rfl

@[simp] theorem State.setCore_regs (v : AllocCore) : (s.setCore v).regs = s.regs := rfl
@[simp] theorem State.setCore_applied (v : AllocCore) : (s.setCore v).applied = s.applied := rfl
@[simp] theorem State.setCore_latched (v : AllocCore) : (s.setCore v).latched = s.latched := rfl
@[simp] theorem State.setCore_latchOn (v : AllocCore) : (s.setCore v).latchOn = s.latchOn := rfl
@[simp] theorem State.setCore_now (v : AllocCore) : (s.setCore v).now = s.now := rfl
@[simp] theorem State.setCore_free (v : AllocCore) : (s.setCore v).free = s.free := rfl
@[simp] theorem State.setCore_events (v : AllocCore) : (s.setCore v).events = s.events := rfl
@[simp] theorem State.setCore_plan (v : AllocCore) : (s.setCore v).plan = s.plan := rfl
@[simp] theorem State.setCore_fab (v : AllocCore) : (s.setCore v).fab = s.fab := rfl
@[simp] theorem State.setCore_sch (v : AllocCore) : (s.setCore v).sch = s.sch := rfl
@[simp] theorem State.setCore_ppl (v : AllocCore) : (s.setCore v).ppl = s.ppl := rfl
@[simp] theorem State.setCore_oius (v : AllocCore) : (s.setCore v).oius = s.oius := rfl
@[simp] theorem State.setCore_sws (v : AllocCore) : (s.setCore v).sws = s.sws := rfl
@[simp] theorem State.setCore_lgs (v : AllocCore) : (s.setCore v).lgs = s.lgs := rfl
@[simp] theorem State.setCore_bcu (v : AllocCore) : (s.setCore v).bcu = s.bcu := rfl
@[simp] theorem State.setCore_rcms (v : AllocCore) : (s.setCore v).rcms = s.rcms := rfl
@[simp] theorem State.setCore_imds (v : AllocCore) : (s.setCore v).imds = s.imds := rfl
@[simp] theorem State.setCore_imdTrip (v : AllocCore) : (s.setCore v).imdTrip = s.imdTrip := rfl
@[simp] theorem State.setCore_ccRequested (v : AllocCore) : (s.setCore v).ccRequested = s.ccRequested := rfl
@[simp] theorem State.setCore_chans (v : AllocCore) : (s.setCore v).chans = s.chans := rfl
@[simp] theorem State.setCore_elems (v : AllocCore) : (s.setCore v).elems = s.elems := rfl
@[simp] theorem State.setCore_meu (v : AllocCore) : (s.setCore v).meu = s.meu := rfl
@[simp] theorem State.setCore_bills (v : AllocCore) : (s.setCore v).bills = s.bills := rfl
@[simp] theorem State.setCore_blu (v : AllocCore) : (s.setCore v).blu = s.blu := rfl
@[simp] theorem State.setCore_vces (v : AllocCore) : (s.setCore v).vces = s.vces := rfl
@[simp] theorem State.setCore_slac (v : AllocCore) : (s.setCore v).slac = s.slac := rfl
@[simp] theorem State.setCore_encoder (v : AllocCore) : (s.setCore v).encoder = s.encoder := rfl
@[simp] theorem State.setCore_t1sUp (v : AllocCore) : (s.setCore v).t1sUp = s.t1sUp := rfl
@[simp] theorem State.setCore_hostMsgs (v : AllocCore) : (s.setCore v).hostMsgs = s.hostMsgs := rfl
@[simp] theorem State.setCore_gse (v : AllocCore) : (s.setCore v).gse = s.gse := rfl
@[simp] theorem State.setCore_clu (v : AllocCore) : (s.setCore v).clu = s.clu := rfl
@[simp] theorem State.setCore_ntu (v : AllocCore) : (s.setCore v).ntu = s.ntu := rfl
@[simp] theorem State.setCore_alk (v : AllocCore) : (s.setCore v).alk = s.alk := rfl
@[simp] theorem State.setCore_hpu (v : AllocCore) : (s.setCore v).hpu = s.hpu := rfl
@[simp] theorem State.setCore_sec (v : AllocCore) : (s.setCore v).sec = s.sec := rfl
@[simp] theorem State.setCore_dse (v : AllocCore) : (s.setCore v).dse = s.dse := rfl
@[simp] theorem State.setCore_upd (v : AllocCore) : (s.setCore v).upd = s.upd := rfl
@[simp] theorem State.setCore_pending (v : AllocCore) : (s.setCore v).pending = s.pending := rfl
@[simp] theorem State.setCore_rd (v : AllocCore) (g : Fld) (j : Nat) : (s.setCore v).rd g j = s.rd g j := rfl
@[simp] theorem State.setCore_flag (v : AllocCore) (g : Fld) (j : Nat) : (s.setCore v).flag g j = s.flag g j := rfl
@[simp] theorem State.setCore_eff (v : AllocCore) (g : Fld) (j : Nat) : (s.setCore v).eff g j = s.eff g j := rfl
@[simp] theorem State.setCore_core (v : AllocCore) : (s.setCore v).alloc.core = v := rfl

@[simp] theorem State.setBill_regs (n : Nat) (v : Bill) : (s.setBill n v).regs = s.regs := rfl
@[simp] theorem State.setBill_applied (n : Nat) (v : Bill) : (s.setBill n v).applied = s.applied := rfl
@[simp] theorem State.setBill_latched (n : Nat) (v : Bill) : (s.setBill n v).latched = s.latched := rfl
@[simp] theorem State.setBill_latchOn (n : Nat) (v : Bill) : (s.setBill n v).latchOn = s.latchOn := rfl
@[simp] theorem State.setBill_now (n : Nat) (v : Bill) : (s.setBill n v).now = s.now := rfl
@[simp] theorem State.setBill_free (n : Nat) (v : Bill) : (s.setBill n v).free = s.free := rfl
@[simp] theorem State.setBill_events (n : Nat) (v : Bill) : (s.setBill n v).events = s.events := rfl
@[simp] theorem State.setBill_plan (n : Nat) (v : Bill) : (s.setBill n v).plan = s.plan := rfl
@[simp] theorem State.setBill_fab (n : Nat) (v : Bill) : (s.setBill n v).fab = s.fab := rfl
@[simp] theorem State.setBill_sch (n : Nat) (v : Bill) : (s.setBill n v).sch = s.sch := rfl
@[simp] theorem State.setBill_ppl (n : Nat) (v : Bill) : (s.setBill n v).ppl = s.ppl := rfl
@[simp] theorem State.setBill_oius (n : Nat) (v : Bill) : (s.setBill n v).oius = s.oius := rfl
@[simp] theorem State.setBill_sws (n : Nat) (v : Bill) : (s.setBill n v).sws = s.sws := rfl
@[simp] theorem State.setBill_lgs (n : Nat) (v : Bill) : (s.setBill n v).lgs = s.lgs := rfl
@[simp] theorem State.setBill_bcu (n : Nat) (v : Bill) : (s.setBill n v).bcu = s.bcu := rfl
@[simp] theorem State.setBill_rcms (n : Nat) (v : Bill) : (s.setBill n v).rcms = s.rcms := rfl
@[simp] theorem State.setBill_imds (n : Nat) (v : Bill) : (s.setBill n v).imds = s.imds := rfl
@[simp] theorem State.setBill_imdTrip (n : Nat) (v : Bill) : (s.setBill n v).imdTrip = s.imdTrip := rfl
@[simp] theorem State.setBill_ccRequested (n : Nat) (v : Bill) : (s.setBill n v).ccRequested = s.ccRequested := rfl
@[simp] theorem State.setBill_chans (n : Nat) (v : Bill) : (s.setBill n v).chans = s.chans := rfl
@[simp] theorem State.setBill_elems (n : Nat) (v : Bill) : (s.setBill n v).elems = s.elems := rfl
@[simp] theorem State.setBill_meu (n : Nat) (v : Bill) : (s.setBill n v).meu = s.meu := rfl
@[simp] theorem State.setBill_blu (n : Nat) (v : Bill) : (s.setBill n v).blu = s.blu := rfl
@[simp] theorem State.setBill_vces (n : Nat) (v : Bill) : (s.setBill n v).vces = s.vces := rfl
@[simp] theorem State.setBill_slac (n : Nat) (v : Bill) : (s.setBill n v).slac = s.slac := rfl
@[simp] theorem State.setBill_encoder (n : Nat) (v : Bill) : (s.setBill n v).encoder = s.encoder := rfl
@[simp] theorem State.setBill_t1sUp (n : Nat) (v : Bill) : (s.setBill n v).t1sUp = s.t1sUp := rfl
@[simp] theorem State.setBill_hostMsgs (n : Nat) (v : Bill) : (s.setBill n v).hostMsgs = s.hostMsgs := rfl
@[simp] theorem State.setBill_gse (n : Nat) (v : Bill) : (s.setBill n v).gse = s.gse := rfl
@[simp] theorem State.setBill_alloc (n : Nat) (v : Bill) : (s.setBill n v).alloc = s.alloc := rfl
@[simp] theorem State.setBill_clu (n : Nat) (v : Bill) : (s.setBill n v).clu = s.clu := rfl
@[simp] theorem State.setBill_ntu (n : Nat) (v : Bill) : (s.setBill n v).ntu = s.ntu := rfl
@[simp] theorem State.setBill_alk (n : Nat) (v : Bill) : (s.setBill n v).alk = s.alk := rfl
@[simp] theorem State.setBill_hpu (n : Nat) (v : Bill) : (s.setBill n v).hpu = s.hpu := rfl
@[simp] theorem State.setBill_sec (n : Nat) (v : Bill) : (s.setBill n v).sec = s.sec := rfl
@[simp] theorem State.setBill_dse (n : Nat) (v : Bill) : (s.setBill n v).dse = s.dse := rfl
@[simp] theorem State.setBill_upd (n : Nat) (v : Bill) : (s.setBill n v).upd = s.upd := rfl
@[simp] theorem State.setBill_pending (n : Nat) (v : Bill) : (s.setBill n v).pending = s.pending := rfl
@[simp] theorem State.setBill_rd (n : Nat) (v : Bill) (g : Fld) (j : Nat) : (s.setBill n v).rd g j = s.rd g j := rfl
@[simp] theorem State.setBill_flag (n : Nat) (v : Bill) (g : Fld) (j : Nat) : (s.setBill n v).flag g j = s.flag g j := rfl
@[simp] theorem State.setBill_eff (n : Nat) (v : Bill) (g : Fld) (j : Nat) : (s.setBill n v).eff g j = s.eff g j := rfl
@[simp] theorem State.setBill_bill_same (n : Nat) (v : Bill) : (s.setBill n v).bill n = v := lookup_update_same _ _ _ _
theorem State.setBill_bill_other (n : Nat) (v : Bill) (k : Nat) (h : k ≠ n) : (s.setBill n v).bill k = s.bill k := lookup_update_other _ _ _ _ _ h

@[simp] theorem State.setClu_regs (v : Clu) : (s.setClu v).regs = s.regs := rfl
@[simp] theorem State.setClu_applied (v : Clu) : (s.setClu v).applied = s.applied := rfl
@[simp] theorem State.setClu_latched (v : Clu) : (s.setClu v).latched = s.latched := rfl
@[simp] theorem State.setClu_latchOn (v : Clu) : (s.setClu v).latchOn = s.latchOn := rfl
@[simp] theorem State.setClu_now (v : Clu) : (s.setClu v).now = s.now := rfl
@[simp] theorem State.setClu_free (v : Clu) : (s.setClu v).free = s.free := rfl
@[simp] theorem State.setClu_events (v : Clu) : (s.setClu v).events = s.events := rfl
@[simp] theorem State.setClu_plan (v : Clu) : (s.setClu v).plan = s.plan := rfl
@[simp] theorem State.setClu_fab (v : Clu) : (s.setClu v).fab = s.fab := rfl
@[simp] theorem State.setClu_sch (v : Clu) : (s.setClu v).sch = s.sch := rfl
@[simp] theorem State.setClu_ppl (v : Clu) : (s.setClu v).ppl = s.ppl := rfl
@[simp] theorem State.setClu_oius (v : Clu) : (s.setClu v).oius = s.oius := rfl
@[simp] theorem State.setClu_sws (v : Clu) : (s.setClu v).sws = s.sws := rfl
@[simp] theorem State.setClu_lgs (v : Clu) : (s.setClu v).lgs = s.lgs := rfl
@[simp] theorem State.setClu_bcu (v : Clu) : (s.setClu v).bcu = s.bcu := rfl
@[simp] theorem State.setClu_rcms (v : Clu) : (s.setClu v).rcms = s.rcms := rfl
@[simp] theorem State.setClu_imds (v : Clu) : (s.setClu v).imds = s.imds := rfl
@[simp] theorem State.setClu_imdTrip (v : Clu) : (s.setClu v).imdTrip = s.imdTrip := rfl
@[simp] theorem State.setClu_ccRequested (v : Clu) : (s.setClu v).ccRequested = s.ccRequested := rfl
@[simp] theorem State.setClu_chans (v : Clu) : (s.setClu v).chans = s.chans := rfl
@[simp] theorem State.setClu_elems (v : Clu) : (s.setClu v).elems = s.elems := rfl
@[simp] theorem State.setClu_meu (v : Clu) : (s.setClu v).meu = s.meu := rfl
@[simp] theorem State.setClu_bills (v : Clu) : (s.setClu v).bills = s.bills := rfl
@[simp] theorem State.setClu_blu (v : Clu) : (s.setClu v).blu = s.blu := rfl
@[simp] theorem State.setClu_vces (v : Clu) : (s.setClu v).vces = s.vces := rfl
@[simp] theorem State.setClu_slac (v : Clu) : (s.setClu v).slac = s.slac := rfl
@[simp] theorem State.setClu_encoder (v : Clu) : (s.setClu v).encoder = s.encoder := rfl
@[simp] theorem State.setClu_t1sUp (v : Clu) : (s.setClu v).t1sUp = s.t1sUp := rfl
@[simp] theorem State.setClu_hostMsgs (v : Clu) : (s.setClu v).hostMsgs = s.hostMsgs := rfl
@[simp] theorem State.setClu_gse (v : Clu) : (s.setClu v).gse = s.gse := rfl
@[simp] theorem State.setClu_alloc (v : Clu) : (s.setClu v).alloc = s.alloc := rfl
@[simp] theorem State.setClu_ntu (v : Clu) : (s.setClu v).ntu = s.ntu := rfl
@[simp] theorem State.setClu_alk (v : Clu) : (s.setClu v).alk = s.alk := rfl
@[simp] theorem State.setClu_hpu (v : Clu) : (s.setClu v).hpu = s.hpu := rfl
@[simp] theorem State.setClu_sec (v : Clu) : (s.setClu v).sec = s.sec := rfl
@[simp] theorem State.setClu_dse (v : Clu) : (s.setClu v).dse = s.dse := rfl
@[simp] theorem State.setClu_upd (v : Clu) : (s.setClu v).upd = s.upd := rfl
@[simp] theorem State.setClu_pending (v : Clu) : (s.setClu v).pending = s.pending := rfl
@[simp] theorem State.setClu_rd (v : Clu) (g : Fld) (j : Nat) : (s.setClu v).rd g j = s.rd g j := rfl
@[simp] theorem State.setClu_flag (v : Clu) (g : Fld) (j : Nat) : (s.setClu v).flag g j = s.flag g j := rfl
@[simp] theorem State.setClu_eff (v : Clu) (g : Fld) (j : Nat) : (s.setClu v).eff g j = s.eff g j := rfl
@[simp] theorem State.setClu_clu (v : Clu) : (s.setClu v).clu = v := rfl

@[simp] theorem State.setRcm_regs (n : Nat) (v : Rcm) : (s.setRcm n v).regs = s.regs := rfl
@[simp] theorem State.setRcm_applied (n : Nat) (v : Rcm) : (s.setRcm n v).applied = s.applied := rfl
@[simp] theorem State.setRcm_latched (n : Nat) (v : Rcm) : (s.setRcm n v).latched = s.latched := rfl
@[simp] theorem State.setRcm_latchOn (n : Nat) (v : Rcm) : (s.setRcm n v).latchOn = s.latchOn := rfl
@[simp] theorem State.setRcm_now (n : Nat) (v : Rcm) : (s.setRcm n v).now = s.now := rfl
@[simp] theorem State.setRcm_free (n : Nat) (v : Rcm) : (s.setRcm n v).free = s.free := rfl
@[simp] theorem State.setRcm_events (n : Nat) (v : Rcm) : (s.setRcm n v).events = s.events := rfl
@[simp] theorem State.setRcm_plan (n : Nat) (v : Rcm) : (s.setRcm n v).plan = s.plan := rfl
@[simp] theorem State.setRcm_fab (n : Nat) (v : Rcm) : (s.setRcm n v).fab = s.fab := rfl
@[simp] theorem State.setRcm_sch (n : Nat) (v : Rcm) : (s.setRcm n v).sch = s.sch := rfl
@[simp] theorem State.setRcm_ppl (n : Nat) (v : Rcm) : (s.setRcm n v).ppl = s.ppl := rfl
@[simp] theorem State.setRcm_oius (n : Nat) (v : Rcm) : (s.setRcm n v).oius = s.oius := rfl
@[simp] theorem State.setRcm_sws (n : Nat) (v : Rcm) : (s.setRcm n v).sws = s.sws := rfl
@[simp] theorem State.setRcm_lgs (n : Nat) (v : Rcm) : (s.setRcm n v).lgs = s.lgs := rfl
@[simp] theorem State.setRcm_bcu (n : Nat) (v : Rcm) : (s.setRcm n v).bcu = s.bcu := rfl
@[simp] theorem State.setRcm_imds (n : Nat) (v : Rcm) : (s.setRcm n v).imds = s.imds := rfl
@[simp] theorem State.setRcm_imdTrip (n : Nat) (v : Rcm) : (s.setRcm n v).imdTrip = s.imdTrip := rfl
@[simp] theorem State.setRcm_ccRequested (n : Nat) (v : Rcm) : (s.setRcm n v).ccRequested = s.ccRequested := rfl
@[simp] theorem State.setRcm_chans (n : Nat) (v : Rcm) : (s.setRcm n v).chans = s.chans := rfl
@[simp] theorem State.setRcm_elems (n : Nat) (v : Rcm) : (s.setRcm n v).elems = s.elems := rfl
@[simp] theorem State.setRcm_meu (n : Nat) (v : Rcm) : (s.setRcm n v).meu = s.meu := rfl
@[simp] theorem State.setRcm_bills (n : Nat) (v : Rcm) : (s.setRcm n v).bills = s.bills := rfl
@[simp] theorem State.setRcm_blu (n : Nat) (v : Rcm) : (s.setRcm n v).blu = s.blu := rfl
@[simp] theorem State.setRcm_vces (n : Nat) (v : Rcm) : (s.setRcm n v).vces = s.vces := rfl
@[simp] theorem State.setRcm_slac (n : Nat) (v : Rcm) : (s.setRcm n v).slac = s.slac := rfl
@[simp] theorem State.setRcm_encoder (n : Nat) (v : Rcm) : (s.setRcm n v).encoder = s.encoder := rfl
@[simp] theorem State.setRcm_t1sUp (n : Nat) (v : Rcm) : (s.setRcm n v).t1sUp = s.t1sUp := rfl
@[simp] theorem State.setRcm_hostMsgs (n : Nat) (v : Rcm) : (s.setRcm n v).hostMsgs = s.hostMsgs := rfl
@[simp] theorem State.setRcm_gse (n : Nat) (v : Rcm) : (s.setRcm n v).gse = s.gse := rfl
@[simp] theorem State.setRcm_alloc (n : Nat) (v : Rcm) : (s.setRcm n v).alloc = s.alloc := rfl
@[simp] theorem State.setRcm_clu (n : Nat) (v : Rcm) : (s.setRcm n v).clu = s.clu := rfl
@[simp] theorem State.setRcm_ntu (n : Nat) (v : Rcm) : (s.setRcm n v).ntu = s.ntu := rfl
@[simp] theorem State.setRcm_alk (n : Nat) (v : Rcm) : (s.setRcm n v).alk = s.alk := rfl
@[simp] theorem State.setRcm_hpu (n : Nat) (v : Rcm) : (s.setRcm n v).hpu = s.hpu := rfl
@[simp] theorem State.setRcm_sec (n : Nat) (v : Rcm) : (s.setRcm n v).sec = s.sec := rfl
@[simp] theorem State.setRcm_dse (n : Nat) (v : Rcm) : (s.setRcm n v).dse = s.dse := rfl
@[simp] theorem State.setRcm_upd (n : Nat) (v : Rcm) : (s.setRcm n v).upd = s.upd := rfl
@[simp] theorem State.setRcm_pending (n : Nat) (v : Rcm) : (s.setRcm n v).pending = s.pending := rfl
@[simp] theorem State.setRcm_rd (n : Nat) (v : Rcm) (g : Fld) (j : Nat) : (s.setRcm n v).rd g j = s.rd g j := rfl
@[simp] theorem State.setRcm_flag (n : Nat) (v : Rcm) (g : Fld) (j : Nat) : (s.setRcm n v).flag g j = s.flag g j := rfl
@[simp] theorem State.setRcm_eff (n : Nat) (v : Rcm) (g : Fld) (j : Nat) : (s.setRcm n v).eff g j = s.eff g j := rfl
@[simp] theorem State.setRcm_rcm_same (n : Nat) (v : Rcm) : (s.setRcm n v).rcm n = v := lookup_update_same _ _ _ _
theorem State.setRcm_rcm_other (n : Nat) (v : Rcm) (k : Nat) (h : k ≠ n) : (s.setRcm n v).rcm k = s.rcm k := lookup_update_other _ _ _ _ _ h

@[simp] theorem State.setImd_regs (n : Nat) (v : Imd) : (s.setImd n v).regs = s.regs := rfl
@[simp] theorem State.setImd_applied (n : Nat) (v : Imd) : (s.setImd n v).applied = s.applied := rfl
@[simp] theorem State.setImd_latched (n : Nat) (v : Imd) : (s.setImd n v).latched = s.latched := rfl
@[simp] theorem State.setImd_latchOn (n : Nat) (v : Imd) : (s.setImd n v).latchOn = s.latchOn := rfl
@[simp] theorem State.setImd_now (n : Nat) (v : Imd) : (s.setImd n v).now = s.now := rfl
@[simp] theorem State.setImd_free (n : Nat) (v : Imd) : (s.setImd n v).free = s.free := rfl
@[simp] theorem State.setImd_events (n : Nat) (v : Imd) : (s.setImd n v).events = s.events := rfl
@[simp] theorem State.setImd_plan (n : Nat) (v : Imd) : (s.setImd n v).plan = s.plan := rfl
@[simp] theorem State.setImd_fab (n : Nat) (v : Imd) : (s.setImd n v).fab = s.fab := rfl
@[simp] theorem State.setImd_sch (n : Nat) (v : Imd) : (s.setImd n v).sch = s.sch := rfl
@[simp] theorem State.setImd_ppl (n : Nat) (v : Imd) : (s.setImd n v).ppl = s.ppl := rfl
@[simp] theorem State.setImd_oius (n : Nat) (v : Imd) : (s.setImd n v).oius = s.oius := rfl
@[simp] theorem State.setImd_sws (n : Nat) (v : Imd) : (s.setImd n v).sws = s.sws := rfl
@[simp] theorem State.setImd_lgs (n : Nat) (v : Imd) : (s.setImd n v).lgs = s.lgs := rfl
@[simp] theorem State.setImd_bcu (n : Nat) (v : Imd) : (s.setImd n v).bcu = s.bcu := rfl
@[simp] theorem State.setImd_rcms (n : Nat) (v : Imd) : (s.setImd n v).rcms = s.rcms := rfl
@[simp] theorem State.setImd_imdTrip (n : Nat) (v : Imd) : (s.setImd n v).imdTrip = s.imdTrip := rfl
@[simp] theorem State.setImd_ccRequested (n : Nat) (v : Imd) : (s.setImd n v).ccRequested = s.ccRequested := rfl
@[simp] theorem State.setImd_chans (n : Nat) (v : Imd) : (s.setImd n v).chans = s.chans := rfl
@[simp] theorem State.setImd_elems (n : Nat) (v : Imd) : (s.setImd n v).elems = s.elems := rfl
@[simp] theorem State.setImd_meu (n : Nat) (v : Imd) : (s.setImd n v).meu = s.meu := rfl
@[simp] theorem State.setImd_bills (n : Nat) (v : Imd) : (s.setImd n v).bills = s.bills := rfl
@[simp] theorem State.setImd_blu (n : Nat) (v : Imd) : (s.setImd n v).blu = s.blu := rfl
@[simp] theorem State.setImd_vces (n : Nat) (v : Imd) : (s.setImd n v).vces = s.vces := rfl
@[simp] theorem State.setImd_slac (n : Nat) (v : Imd) : (s.setImd n v).slac = s.slac := rfl
@[simp] theorem State.setImd_encoder (n : Nat) (v : Imd) : (s.setImd n v).encoder = s.encoder := rfl
@[simp] theorem State.setImd_t1sUp (n : Nat) (v : Imd) : (s.setImd n v).t1sUp = s.t1sUp := rfl
@[simp] theorem State.setImd_hostMsgs (n : Nat) (v : Imd) : (s.setImd n v).hostMsgs = s.hostMsgs := rfl
@[simp] theorem State.setImd_gse (n : Nat) (v : Imd) : (s.setImd n v).gse = s.gse := rfl
@[simp] theorem State.setImd_alloc (n : Nat) (v : Imd) : (s.setImd n v).alloc = s.alloc := rfl
@[simp] theorem State.setImd_clu (n : Nat) (v : Imd) : (s.setImd n v).clu = s.clu := rfl
@[simp] theorem State.setImd_ntu (n : Nat) (v : Imd) : (s.setImd n v).ntu = s.ntu := rfl
@[simp] theorem State.setImd_alk (n : Nat) (v : Imd) : (s.setImd n v).alk = s.alk := rfl
@[simp] theorem State.setImd_hpu (n : Nat) (v : Imd) : (s.setImd n v).hpu = s.hpu := rfl
@[simp] theorem State.setImd_sec (n : Nat) (v : Imd) : (s.setImd n v).sec = s.sec := rfl
@[simp] theorem State.setImd_dse (n : Nat) (v : Imd) : (s.setImd n v).dse = s.dse := rfl
@[simp] theorem State.setImd_upd (n : Nat) (v : Imd) : (s.setImd n v).upd = s.upd := rfl
@[simp] theorem State.setImd_pending (n : Nat) (v : Imd) : (s.setImd n v).pending = s.pending := rfl
@[simp] theorem State.setImd_rd (n : Nat) (v : Imd) (g : Fld) (j : Nat) : (s.setImd n v).rd g j = s.rd g j := rfl
@[simp] theorem State.setImd_flag (n : Nat) (v : Imd) (g : Fld) (j : Nat) : (s.setImd n v).flag g j = s.flag g j := rfl
@[simp] theorem State.setImd_eff (n : Nat) (v : Imd) (g : Fld) (j : Nat) : (s.setImd n v).eff g j = s.eff g j := rfl
@[simp] theorem State.setImd_imd_same (n : Nat) (v : Imd) : (s.setImd n v).imd n = v := lookup_update_same _ _ _ _
theorem State.setImd_imd_other (n : Nat) (v : Imd) (k : Nat) (h : k ≠ n) : (s.setImd n v).imd k = s.imd k := lookup_update_other _ _ _ _ _ h

@[simp] theorem State.setHpu_regs (v : Hpu) : (s.setHpu v).regs = s.regs := rfl
@[simp] theorem State.setHpu_applied (v : Hpu) : (s.setHpu v).applied = s.applied := rfl
@[simp] theorem State.setHpu_latched (v : Hpu) : (s.setHpu v).latched = s.latched := rfl
@[simp] theorem State.setHpu_latchOn (v : Hpu) : (s.setHpu v).latchOn = s.latchOn := rfl
@[simp] theorem State.setHpu_now (v : Hpu) : (s.setHpu v).now = s.now := rfl
@[simp] theorem State.setHpu_free (v : Hpu) : (s.setHpu v).free = s.free := rfl
@[simp] theorem State.setHpu_events (v : Hpu) : (s.setHpu v).events = s.events := rfl
@[simp] theorem State.setHpu_plan (v : Hpu) : (s.setHpu v).plan = s.plan := rfl
@[simp] theorem State.setHpu_fab (v : Hpu) : (s.setHpu v).fab = s.fab := rfl
@[simp] theorem State.setHpu_sch (v : Hpu) : (s.setHpu v).sch = s.sch := rfl
@[simp] theorem State.setHpu_ppl (v : Hpu) : (s.setHpu v).ppl = s.ppl := rfl
@[simp] theorem State.setHpu_oius (v : Hpu) : (s.setHpu v).oius = s.oius := rfl
@[simp] theorem State.setHpu_sws (v : Hpu) : (s.setHpu v).sws = s.sws := rfl
@[simp] theorem State.setHpu_lgs (v : Hpu) : (s.setHpu v).lgs = s.lgs := rfl
@[simp] theorem State.setHpu_bcu (v : Hpu) : (s.setHpu v).bcu = s.bcu := rfl
@[simp] theorem State.setHpu_rcms (v : Hpu) : (s.setHpu v).rcms = s.rcms := rfl
@[simp] theorem State.setHpu_imds (v : Hpu) : (s.setHpu v).imds = s.imds := rfl
@[simp] theorem State.setHpu_imdTrip (v : Hpu) : (s.setHpu v).imdTrip = s.imdTrip := rfl
@[simp] theorem State.setHpu_ccRequested (v : Hpu) : (s.setHpu v).ccRequested = s.ccRequested := rfl
@[simp] theorem State.setHpu_chans (v : Hpu) : (s.setHpu v).chans = s.chans := rfl
@[simp] theorem State.setHpu_elems (v : Hpu) : (s.setHpu v).elems = s.elems := rfl
@[simp] theorem State.setHpu_meu (v : Hpu) : (s.setHpu v).meu = s.meu := rfl
@[simp] theorem State.setHpu_bills (v : Hpu) : (s.setHpu v).bills = s.bills := rfl
@[simp] theorem State.setHpu_blu (v : Hpu) : (s.setHpu v).blu = s.blu := rfl
@[simp] theorem State.setHpu_vces (v : Hpu) : (s.setHpu v).vces = s.vces := rfl
@[simp] theorem State.setHpu_slac (v : Hpu) : (s.setHpu v).slac = s.slac := rfl
@[simp] theorem State.setHpu_encoder (v : Hpu) : (s.setHpu v).encoder = s.encoder := rfl
@[simp] theorem State.setHpu_t1sUp (v : Hpu) : (s.setHpu v).t1sUp = s.t1sUp := rfl
@[simp] theorem State.setHpu_hostMsgs (v : Hpu) : (s.setHpu v).hostMsgs = s.hostMsgs := rfl
@[simp] theorem State.setHpu_gse (v : Hpu) : (s.setHpu v).gse = s.gse := rfl
@[simp] theorem State.setHpu_alloc (v : Hpu) : (s.setHpu v).alloc = s.alloc := rfl
@[simp] theorem State.setHpu_clu (v : Hpu) : (s.setHpu v).clu = s.clu := rfl
@[simp] theorem State.setHpu_ntu (v : Hpu) : (s.setHpu v).ntu = s.ntu := rfl
@[simp] theorem State.setHpu_alk (v : Hpu) : (s.setHpu v).alk = s.alk := rfl
@[simp] theorem State.setHpu_sec (v : Hpu) : (s.setHpu v).sec = s.sec := rfl
@[simp] theorem State.setHpu_dse (v : Hpu) : (s.setHpu v).dse = s.dse := rfl
@[simp] theorem State.setHpu_upd (v : Hpu) : (s.setHpu v).upd = s.upd := rfl
@[simp] theorem State.setHpu_pending (v : Hpu) : (s.setHpu v).pending = s.pending := rfl
@[simp] theorem State.setHpu_rd (v : Hpu) (g : Fld) (j : Nat) : (s.setHpu v).rd g j = s.rd g j := rfl
@[simp] theorem State.setHpu_flag (v : Hpu) (g : Fld) (j : Nat) : (s.setHpu v).flag g j = s.flag g j := rfl
@[simp] theorem State.setHpu_eff (v : Hpu) (g : Fld) (j : Nat) : (s.setHpu v).eff g j = s.eff g j := rfl
@[simp] theorem State.setHpu_hpu (v : Hpu) : (s.setHpu v).hpu = v := rfl

@[simp] theorem State.setGfn_regs (n : Nat) (v : GFn) : (s.setGfn n v).regs = s.regs := rfl
@[simp] theorem State.setGfn_applied (n : Nat) (v : GFn) : (s.setGfn n v).applied = s.applied := rfl
@[simp] theorem State.setGfn_latched (n : Nat) (v : GFn) : (s.setGfn n v).latched = s.latched := rfl
@[simp] theorem State.setGfn_latchOn (n : Nat) (v : GFn) : (s.setGfn n v).latchOn = s.latchOn := rfl
@[simp] theorem State.setGfn_now (n : Nat) (v : GFn) : (s.setGfn n v).now = s.now := rfl
@[simp] theorem State.setGfn_free (n : Nat) (v : GFn) : (s.setGfn n v).free = s.free := rfl
@[simp] theorem State.setGfn_events (n : Nat) (v : GFn) : (s.setGfn n v).events = s.events := rfl
@[simp] theorem State.setGfn_plan (n : Nat) (v : GFn) : (s.setGfn n v).plan = s.plan := rfl
@[simp] theorem State.setGfn_fab (n : Nat) (v : GFn) : (s.setGfn n v).fab = s.fab := rfl
@[simp] theorem State.setGfn_sch (n : Nat) (v : GFn) : (s.setGfn n v).sch = s.sch := rfl
@[simp] theorem State.setGfn_ppl (n : Nat) (v : GFn) : (s.setGfn n v).ppl = s.ppl := rfl
@[simp] theorem State.setGfn_oius (n : Nat) (v : GFn) : (s.setGfn n v).oius = s.oius := rfl
@[simp] theorem State.setGfn_sws (n : Nat) (v : GFn) : (s.setGfn n v).sws = s.sws := rfl
@[simp] theorem State.setGfn_lgs (n : Nat) (v : GFn) : (s.setGfn n v).lgs = s.lgs := rfl
@[simp] theorem State.setGfn_bcu (n : Nat) (v : GFn) : (s.setGfn n v).bcu = s.bcu := rfl
@[simp] theorem State.setGfn_rcms (n : Nat) (v : GFn) : (s.setGfn n v).rcms = s.rcms := rfl
@[simp] theorem State.setGfn_imds (n : Nat) (v : GFn) : (s.setGfn n v).imds = s.imds := rfl
@[simp] theorem State.setGfn_imdTrip (n : Nat) (v : GFn) : (s.setGfn n v).imdTrip = s.imdTrip := rfl
@[simp] theorem State.setGfn_ccRequested (n : Nat) (v : GFn) : (s.setGfn n v).ccRequested = s.ccRequested := rfl
@[simp] theorem State.setGfn_chans (n : Nat) (v : GFn) : (s.setGfn n v).chans = s.chans := rfl
@[simp] theorem State.setGfn_elems (n : Nat) (v : GFn) : (s.setGfn n v).elems = s.elems := rfl
@[simp] theorem State.setGfn_meu (n : Nat) (v : GFn) : (s.setGfn n v).meu = s.meu := rfl
@[simp] theorem State.setGfn_bills (n : Nat) (v : GFn) : (s.setGfn n v).bills = s.bills := rfl
@[simp] theorem State.setGfn_blu (n : Nat) (v : GFn) : (s.setGfn n v).blu = s.blu := rfl
@[simp] theorem State.setGfn_vces (n : Nat) (v : GFn) : (s.setGfn n v).vces = s.vces := rfl
@[simp] theorem State.setGfn_slac (n : Nat) (v : GFn) : (s.setGfn n v).slac = s.slac := rfl
@[simp] theorem State.setGfn_encoder (n : Nat) (v : GFn) : (s.setGfn n v).encoder = s.encoder := rfl
@[simp] theorem State.setGfn_t1sUp (n : Nat) (v : GFn) : (s.setGfn n v).t1sUp = s.t1sUp := rfl
@[simp] theorem State.setGfn_hostMsgs (n : Nat) (v : GFn) : (s.setGfn n v).hostMsgs = s.hostMsgs := rfl
@[simp] theorem State.setGfn_alloc (n : Nat) (v : GFn) : (s.setGfn n v).alloc = s.alloc := rfl
@[simp] theorem State.setGfn_clu (n : Nat) (v : GFn) : (s.setGfn n v).clu = s.clu := rfl
@[simp] theorem State.setGfn_ntu (n : Nat) (v : GFn) : (s.setGfn n v).ntu = s.ntu := rfl
@[simp] theorem State.setGfn_alk (n : Nat) (v : GFn) : (s.setGfn n v).alk = s.alk := rfl
@[simp] theorem State.setGfn_hpu (n : Nat) (v : GFn) : (s.setGfn n v).hpu = s.hpu := rfl
@[simp] theorem State.setGfn_sec (n : Nat) (v : GFn) : (s.setGfn n v).sec = s.sec := rfl
@[simp] theorem State.setGfn_dse (n : Nat) (v : GFn) : (s.setGfn n v).dse = s.dse := rfl
@[simp] theorem State.setGfn_upd (n : Nat) (v : GFn) : (s.setGfn n v).upd = s.upd := rfl
@[simp] theorem State.setGfn_pending (n : Nat) (v : GFn) : (s.setGfn n v).pending = s.pending := rfl
@[simp] theorem State.setGfn_rd (n : Nat) (v : GFn) (g : Fld) (j : Nat) : (s.setGfn n v).rd g j = s.rd g j := rfl
@[simp] theorem State.setGfn_flag (n : Nat) (v : GFn) (g : Fld) (j : Nat) : (s.setGfn n v).flag g j = s.flag g j := rfl
@[simp] theorem State.setGfn_eff (n : Nat) (v : GFn) (g : Fld) (j : Nat) : (s.setGfn n v).eff g j = s.eff g j := rfl

@[simp] theorem State.setSec_regs (v : Sec) : (s.setSec v).regs = s.regs := rfl
@[simp] theorem State.setSec_applied (v : Sec) : (s.setSec v).applied = s.applied := rfl
@[simp] theorem State.setSec_latched (v : Sec) : (s.setSec v).latched = s.latched := rfl
@[simp] theorem State.setSec_latchOn (v : Sec) : (s.setSec v).latchOn = s.latchOn := rfl
@[simp] theorem State.setSec_now (v : Sec) : (s.setSec v).now = s.now := rfl
@[simp] theorem State.setSec_free (v : Sec) : (s.setSec v).free = s.free := rfl
@[simp] theorem State.setSec_events (v : Sec) : (s.setSec v).events = s.events := rfl
@[simp] theorem State.setSec_plan (v : Sec) : (s.setSec v).plan = s.plan := rfl
@[simp] theorem State.setSec_fab (v : Sec) : (s.setSec v).fab = s.fab := rfl
@[simp] theorem State.setSec_sch (v : Sec) : (s.setSec v).sch = s.sch := rfl
@[simp] theorem State.setSec_ppl (v : Sec) : (s.setSec v).ppl = s.ppl := rfl
@[simp] theorem State.setSec_oius (v : Sec) : (s.setSec v).oius = s.oius := rfl
@[simp] theorem State.setSec_sws (v : Sec) : (s.setSec v).sws = s.sws := rfl
@[simp] theorem State.setSec_lgs (v : Sec) : (s.setSec v).lgs = s.lgs := rfl
@[simp] theorem State.setSec_bcu (v : Sec) : (s.setSec v).bcu = s.bcu := rfl
@[simp] theorem State.setSec_rcms (v : Sec) : (s.setSec v).rcms = s.rcms := rfl
@[simp] theorem State.setSec_imds (v : Sec) : (s.setSec v).imds = s.imds := rfl
@[simp] theorem State.setSec_imdTrip (v : Sec) : (s.setSec v).imdTrip = s.imdTrip := rfl
@[simp] theorem State.setSec_ccRequested (v : Sec) : (s.setSec v).ccRequested = s.ccRequested := rfl
@[simp] theorem State.setSec_chans (v : Sec) : (s.setSec v).chans = s.chans := rfl
@[simp] theorem State.setSec_elems (v : Sec) : (s.setSec v).elems = s.elems := rfl
@[simp] theorem State.setSec_meu (v : Sec) : (s.setSec v).meu = s.meu := rfl
@[simp] theorem State.setSec_bills (v : Sec) : (s.setSec v).bills = s.bills := rfl
@[simp] theorem State.setSec_blu (v : Sec) : (s.setSec v).blu = s.blu := rfl
@[simp] theorem State.setSec_vces (v : Sec) : (s.setSec v).vces = s.vces := rfl
@[simp] theorem State.setSec_slac (v : Sec) : (s.setSec v).slac = s.slac := rfl
@[simp] theorem State.setSec_encoder (v : Sec) : (s.setSec v).encoder = s.encoder := rfl
@[simp] theorem State.setSec_t1sUp (v : Sec) : (s.setSec v).t1sUp = s.t1sUp := rfl
@[simp] theorem State.setSec_hostMsgs (v : Sec) : (s.setSec v).hostMsgs = s.hostMsgs := rfl
@[simp] theorem State.setSec_gse (v : Sec) : (s.setSec v).gse = s.gse := rfl
@[simp] theorem State.setSec_alloc (v : Sec) : (s.setSec v).alloc = s.alloc := rfl
@[simp] theorem State.setSec_clu (v : Sec) : (s.setSec v).clu = s.clu := rfl
@[simp] theorem State.setSec_ntu (v : Sec) : (s.setSec v).ntu = s.ntu := rfl
@[simp] theorem State.setSec_alk (v : Sec) : (s.setSec v).alk = s.alk := rfl
@[simp] theorem State.setSec_hpu (v : Sec) : (s.setSec v).hpu = s.hpu := rfl
@[simp] theorem State.setSec_dse (v : Sec) : (s.setSec v).dse = s.dse := rfl
@[simp] theorem State.setSec_upd (v : Sec) : (s.setSec v).upd = s.upd := rfl
@[simp] theorem State.setSec_pending (v : Sec) : (s.setSec v).pending = s.pending := rfl
@[simp] theorem State.setSec_rd (v : Sec) (g : Fld) (j : Nat) : (s.setSec v).rd g j = s.rd g j := rfl
@[simp] theorem State.setSec_flag (v : Sec) (g : Fld) (j : Nat) : (s.setSec v).flag g j = s.flag g j := rfl
@[simp] theorem State.setSec_eff (v : Sec) (g : Fld) (j : Nat) : (s.setSec v).eff g j = s.eff g j := rfl
@[simp] theorem State.setSec_sec (v : Sec) : (s.setSec v).sec = v := rfl

@[simp] theorem State.setChan_regs (n : Nat) (v : Chan) : (s.setChan n v).regs = s.regs := rfl
@[simp] theorem State.setChan_applied (n : Nat) (v : Chan) : (s.setChan n v).applied = s.applied := rfl
@[simp] theorem State.setChan_latched (n : Nat) (v : Chan) : (s.setChan n v).latched = s.latched := rfl
@[simp] theorem State.setChan_latchOn (n : Nat) (v : Chan) : (s.setChan n v).latchOn = s.latchOn := rfl
@[simp] theorem State.setChan_now (n : Nat) (v : Chan) : (s.setChan n v).now = s.now := rfl
@[simp] theorem State.setChan_free (n : Nat) (v : Chan) : (s.setChan n v).free = s.free := rfl
@[simp] theorem State.setChan_events (n : Nat) (v : Chan) : (s.setChan n v).events = s.events := rfl
@[simp] theorem State.setChan_plan (n : Nat) (v : Chan) : (s.setChan n v).plan = s.plan := rfl
@[simp] theorem State.setChan_fab (n : Nat) (v : Chan) : (s.setChan n v).fab = s.fab := rfl
@[simp] theorem State.setChan_sch (n : Nat) (v : Chan) : (s.setChan n v).sch = s.sch := rfl
@[simp] theorem State.setChan_ppl (n : Nat) (v : Chan) : (s.setChan n v).ppl = s.ppl := rfl
@[simp] theorem State.setChan_oius (n : Nat) (v : Chan) : (s.setChan n v).oius = s.oius := rfl
@[simp] theorem State.setChan_sws (n : Nat) (v : Chan) : (s.setChan n v).sws = s.sws := rfl
@[simp] theorem State.setChan_lgs (n : Nat) (v : Chan) : (s.setChan n v).lgs = s.lgs := rfl
@[simp] theorem State.setChan_bcu (n : Nat) (v : Chan) : (s.setChan n v).bcu = s.bcu := rfl
@[simp] theorem State.setChan_rcms (n : Nat) (v : Chan) : (s.setChan n v).rcms = s.rcms := rfl
@[simp] theorem State.setChan_imds (n : Nat) (v : Chan) : (s.setChan n v).imds = s.imds := rfl
@[simp] theorem State.setChan_imdTrip (n : Nat) (v : Chan) : (s.setChan n v).imdTrip = s.imdTrip := rfl
@[simp] theorem State.setChan_ccRequested (n : Nat) (v : Chan) : (s.setChan n v).ccRequested = s.ccRequested := rfl
@[simp] theorem State.setChan_elems (n : Nat) (v : Chan) : (s.setChan n v).elems = s.elems := rfl
@[simp] theorem State.setChan_meu (n : Nat) (v : Chan) : (s.setChan n v).meu = s.meu := rfl
@[simp] theorem State.setChan_bills (n : Nat) (v : Chan) : (s.setChan n v).bills = s.bills := rfl
@[simp] theorem State.setChan_blu (n : Nat) (v : Chan) : (s.setChan n v).blu = s.blu := rfl
@[simp] theorem State.setChan_vces (n : Nat) (v : Chan) : (s.setChan n v).vces = s.vces := rfl
@[simp] theorem State.setChan_slac (n : Nat) (v : Chan) : (s.setChan n v).slac = s.slac := rfl
@[simp] theorem State.setChan_encoder (n : Nat) (v : Chan) : (s.setChan n v).encoder = s.encoder := rfl
@[simp] theorem State.setChan_t1sUp (n : Nat) (v : Chan) : (s.setChan n v).t1sUp = s.t1sUp := rfl
@[simp] theorem State.setChan_hostMsgs (n : Nat) (v : Chan) : (s.setChan n v).hostMsgs = s.hostMsgs := rfl
@[simp] theorem State.setChan_gse (n : Nat) (v : Chan) : (s.setChan n v).gse = s.gse := rfl
@[simp] theorem State.setChan_alloc (n : Nat) (v : Chan) : (s.setChan n v).alloc = s.alloc := rfl
@[simp] theorem State.setChan_clu (n : Nat) (v : Chan) : (s.setChan n v).clu = s.clu := rfl
@[simp] theorem State.setChan_ntu (n : Nat) (v : Chan) : (s.setChan n v).ntu = s.ntu := rfl
@[simp] theorem State.setChan_alk (n : Nat) (v : Chan) : (s.setChan n v).alk = s.alk := rfl
@[simp] theorem State.setChan_hpu (n : Nat) (v : Chan) : (s.setChan n v).hpu = s.hpu := rfl
@[simp] theorem State.setChan_sec (n : Nat) (v : Chan) : (s.setChan n v).sec = s.sec := rfl
@[simp] theorem State.setChan_dse (n : Nat) (v : Chan) : (s.setChan n v).dse = s.dse := rfl
@[simp] theorem State.setChan_upd (n : Nat) (v : Chan) : (s.setChan n v).upd = s.upd := rfl
@[simp] theorem State.setChan_pending (n : Nat) (v : Chan) : (s.setChan n v).pending = s.pending := rfl
@[simp] theorem State.setChan_rd (n : Nat) (v : Chan) (g : Fld) (j : Nat) : (s.setChan n v).rd g j = s.rd g j := rfl
@[simp] theorem State.setChan_flag (n : Nat) (v : Chan) (g : Fld) (j : Nat) : (s.setChan n v).flag g j = s.flag g j := rfl
@[simp] theorem State.setChan_eff (n : Nat) (v : Chan) (g : Fld) (j : Nat) : (s.setChan n v).eff g j = s.eff g j := rfl
@[simp] theorem State.setChan_chan_same (n : Nat) (v : Chan) : (s.setChan n v).chan n = v := lookup_update_same _ _ _ _
theorem State.setChan_chan_other (n : Nat) (v : Chan) (k : Nat) (h : k ≠ n) : (s.setChan n v).chan k = s.chan k := lookup_update_other _ _ _ _ _ h

@[simp] theorem State.setElem_regs (n : Nat) (v : Elem) : (s.setElem n v).regs = s.regs := rfl
@[simp] theorem State.setElem_applied (n : Nat) (v : Elem) : (s.setElem n v).applied = s.applied := rfl
@[simp] theorem State.setElem_latched (n : Nat) (v : Elem) : (s.setElem n v).latched = s.latched := rfl
@[simp] theorem State.setElem_latchOn (n : Nat) (v : Elem) : (s.setElem n v).latchOn = s.latchOn := rfl
@[simp] theorem State.setElem_now (n : Nat) (v : Elem) : (s.setElem n v).now = s.now := rfl
@[simp] theorem State.setElem_free (n : Nat) (v : Elem) : (s.setElem n v).free = s.free := rfl
@[simp] theorem State.setElem_events (n : Nat) (v : Elem) : (s.setElem n v).events = s.events := rfl
@[simp] theorem State.setElem_plan (n : Nat) (v : Elem) : (s.setElem n v).plan = s.plan := rfl
@[simp] theorem State.setElem_fab (n : Nat) (v : Elem) : (s.setElem n v).fab = s.fab := rfl
@[simp] theorem State.setElem_sch (n : Nat) (v : Elem) : (s.setElem n v).sch = s.sch := rfl
@[simp] theorem State.setElem_ppl (n : Nat) (v : Elem) : (s.setElem n v).ppl = s.ppl := rfl
@[simp] theorem State.setElem_oius (n : Nat) (v : Elem) : (s.setElem n v).oius = s.oius := rfl
@[simp] theorem State.setElem_sws (n : Nat) (v : Elem) : (s.setElem n v).sws = s.sws := rfl
@[simp] theorem State.setElem_lgs (n : Nat) (v : Elem) : (s.setElem n v).lgs = s.lgs := rfl
@[simp] theorem State.setElem_bcu (n : Nat) (v : Elem) : (s.setElem n v).bcu = s.bcu := rfl
@[simp] theorem State.setElem_rcms (n : Nat) (v : Elem) : (s.setElem n v).rcms = s.rcms := rfl
@[simp] theorem State.setElem_imds (n : Nat) (v : Elem) : (s.setElem n v).imds = s.imds := rfl
@[simp] theorem State.setElem_imdTrip (n : Nat) (v : Elem) : (s.setElem n v).imdTrip = s.imdTrip := rfl
@[simp] theorem State.setElem_ccRequested (n : Nat) (v : Elem) : (s.setElem n v).ccRequested = s.ccRequested := rfl
@[simp] theorem State.setElem_chans (n : Nat) (v : Elem) : (s.setElem n v).chans = s.chans := rfl
@[simp] theorem State.setElem_meu (n : Nat) (v : Elem) : (s.setElem n v).meu = s.meu := rfl
@[simp] theorem State.setElem_bills (n : Nat) (v : Elem) : (s.setElem n v).bills = s.bills := rfl
@[simp] theorem State.setElem_blu (n : Nat) (v : Elem) : (s.setElem n v).blu = s.blu := rfl
@[simp] theorem State.setElem_vces (n : Nat) (v : Elem) : (s.setElem n v).vces = s.vces := rfl
@[simp] theorem State.setElem_slac (n : Nat) (v : Elem) : (s.setElem n v).slac = s.slac := rfl
@[simp] theorem State.setElem_encoder (n : Nat) (v : Elem) : (s.setElem n v).encoder = s.encoder := rfl
@[simp] theorem State.setElem_t1sUp (n : Nat) (v : Elem) : (s.setElem n v).t1sUp = s.t1sUp := rfl
@[simp] theorem State.setElem_hostMsgs (n : Nat) (v : Elem) : (s.setElem n v).hostMsgs = s.hostMsgs := rfl
@[simp] theorem State.setElem_gse (n : Nat) (v : Elem) : (s.setElem n v).gse = s.gse := rfl
@[simp] theorem State.setElem_alloc (n : Nat) (v : Elem) : (s.setElem n v).alloc = s.alloc := rfl
@[simp] theorem State.setElem_clu (n : Nat) (v : Elem) : (s.setElem n v).clu = s.clu := rfl
@[simp] theorem State.setElem_ntu (n : Nat) (v : Elem) : (s.setElem n v).ntu = s.ntu := rfl
@[simp] theorem State.setElem_alk (n : Nat) (v : Elem) : (s.setElem n v).alk = s.alk := rfl
@[simp] theorem State.setElem_hpu (n : Nat) (v : Elem) : (s.setElem n v).hpu = s.hpu := rfl
@[simp] theorem State.setElem_sec (n : Nat) (v : Elem) : (s.setElem n v).sec = s.sec := rfl
@[simp] theorem State.setElem_dse (n : Nat) (v : Elem) : (s.setElem n v).dse = s.dse := rfl
@[simp] theorem State.setElem_upd (n : Nat) (v : Elem) : (s.setElem n v).upd = s.upd := rfl
@[simp] theorem State.setElem_pending (n : Nat) (v : Elem) : (s.setElem n v).pending = s.pending := rfl
@[simp] theorem State.setElem_rd (n : Nat) (v : Elem) (g : Fld) (j : Nat) : (s.setElem n v).rd g j = s.rd g j := rfl
@[simp] theorem State.setElem_flag (n : Nat) (v : Elem) (g : Fld) (j : Nat) : (s.setElem n v).flag g j = s.flag g j := rfl
@[simp] theorem State.setElem_eff (n : Nat) (v : Elem) (g : Fld) (j : Nat) : (s.setElem n v).eff g j = s.eff g j := rfl
@[simp] theorem State.setElem_elem_same (n : Nat) (v : Elem) : (s.setElem n v).elem n = v := lookup_update_same _ _ _ _
theorem State.setElem_elem_other (n : Nat) (v : Elem) (k : Nat) (h : k ≠ n) : (s.setElem n v).elem k = s.elem k := lookup_update_other _ _ _ _ _ h

@[simp] theorem State.setNtu_regs (v : Ntu) : (s.setNtu v).regs = s.regs := rfl
@[simp] theorem State.setNtu_applied (v : Ntu) : (s.setNtu v).applied = s.applied := rfl
@[simp] theorem State.setNtu_latched (v : Ntu) : (s.setNtu v).latched = s.latched := rfl
@[simp] theorem State.setNtu_latchOn (v : Ntu) : (s.setNtu v).latchOn = s.latchOn := rfl
@[simp] theorem State.setNtu_now (v : Ntu) : (s.setNtu v).now = s.now := rfl
@[simp] theorem State.setNtu_free (v : Ntu) : (s.setNtu v).free = s.free := rfl
@[simp] theorem State.setNtu_events (v : Ntu) : (s.setNtu v).events = s.events := rfl
@[simp] theorem State.setNtu_plan (v : Ntu) : (s.setNtu v).plan = s.plan := rfl
@[simp] theorem State.setNtu_fab (v : Ntu) : (s.setNtu v).fab = s.fab := rfl
@[simp] theorem State.setNtu_sch (v : Ntu) : (s.setNtu v).sch = s.sch := rfl
@[simp] theorem State.setNtu_ppl (v : Ntu) : (s.setNtu v).ppl = s.ppl := rfl
@[simp] theorem State.setNtu_oius (v : Ntu) : (s.setNtu v).oius = s.oius := rfl
@[simp] theorem State.setNtu_sws (v : Ntu) : (s.setNtu v).sws = s.sws := rfl
@[simp] theorem State.setNtu_lgs (v : Ntu) : (s.setNtu v).lgs = s.lgs := rfl
@[simp] theorem State.setNtu_bcu (v : Ntu) : (s.setNtu v).bcu = s.bcu := rfl
@[simp] theorem State.setNtu_rcms (v : Ntu) : (s.setNtu v).rcms = s.rcms := rfl
@[simp] theorem State.setNtu_imds (v : Ntu) : (s.setNtu v).imds = s.imds := rfl
@[simp] theorem State.setNtu_imdTrip (v : Ntu) : (s.setNtu v).imdTrip = s.imdTrip := rfl
@[simp] theorem State.setNtu_ccRequested (v : Ntu) : (s.setNtu v).ccRequested = s.ccRequested := rfl
@[simp] theorem State.setNtu_chans (v : Ntu) : (s.setNtu v).chans = s.chans := rfl
@[simp] theorem State.setNtu_elems (v : Ntu) : (s.setNtu v).elems = s.elems := rfl
@[simp] theorem State.setNtu_meu (v : Ntu) : (s.setNtu v).meu = s.meu := rfl
@[simp] theorem State.setNtu_bills (v : Ntu) : (s.setNtu v).bills = s.bills := rfl
@[simp] theorem State.setNtu_blu (v : Ntu) : (s.setNtu v).blu = s.blu := rfl
@[simp] theorem State.setNtu_vces (v : Ntu) : (s.setNtu v).vces = s.vces := rfl
@[simp] theorem State.setNtu_slac (v : Ntu) : (s.setNtu v).slac = s.slac := rfl
@[simp] theorem State.setNtu_encoder (v : Ntu) : (s.setNtu v).encoder = s.encoder := rfl
@[simp] theorem State.setNtu_t1sUp (v : Ntu) : (s.setNtu v).t1sUp = s.t1sUp := rfl
@[simp] theorem State.setNtu_hostMsgs (v : Ntu) : (s.setNtu v).hostMsgs = s.hostMsgs := rfl
@[simp] theorem State.setNtu_gse (v : Ntu) : (s.setNtu v).gse = s.gse := rfl
@[simp] theorem State.setNtu_alloc (v : Ntu) : (s.setNtu v).alloc = s.alloc := rfl
@[simp] theorem State.setNtu_clu (v : Ntu) : (s.setNtu v).clu = s.clu := rfl
@[simp] theorem State.setNtu_alk (v : Ntu) : (s.setNtu v).alk = s.alk := rfl
@[simp] theorem State.setNtu_hpu (v : Ntu) : (s.setNtu v).hpu = s.hpu := rfl
@[simp] theorem State.setNtu_sec (v : Ntu) : (s.setNtu v).sec = s.sec := rfl
@[simp] theorem State.setNtu_dse (v : Ntu) : (s.setNtu v).dse = s.dse := rfl
@[simp] theorem State.setNtu_upd (v : Ntu) : (s.setNtu v).upd = s.upd := rfl
@[simp] theorem State.setNtu_pending (v : Ntu) : (s.setNtu v).pending = s.pending := rfl
@[simp] theorem State.setNtu_rd (v : Ntu) (g : Fld) (j : Nat) : (s.setNtu v).rd g j = s.rd g j := rfl
@[simp] theorem State.setNtu_flag (v : Ntu) (g : Fld) (j : Nat) : (s.setNtu v).flag g j = s.flag g j := rfl
@[simp] theorem State.setNtu_eff (v : Ntu) (g : Fld) (j : Nat) : (s.setNtu v).eff g j = s.eff g j := rfl
@[simp] theorem State.setNtu_ntu (v : Ntu) : (s.setNtu v).ntu = v := rfl

@[simp] theorem State.setPpl_regs (v : Ppl) : (s.setPpl v).regs = s.regs := rfl
@[simp] theorem State.setPpl_applied (v : Ppl) : (s.setPpl v).applied = s.applied := rfl
@[simp] theorem State.setPpl_latched (v : Ppl) : (s.setPpl v).latched = s.latched := rfl
@[simp] theorem State.setPpl_latchOn (v : Ppl) : (s.setPpl v).latchOn = s.latchOn := rfl
@[simp] theorem State.setPpl_now (v : Ppl) : (s.setPpl v).now = s.now := rfl
@[simp] theorem State.setPpl_free (v : Ppl) : (s.setPpl v).free = s.free := rfl
@[simp] theorem State.setPpl_events (v : Ppl) : (s.setPpl v).events = s.events := rfl
@[simp] theorem State.setPpl_plan (v : Ppl) : (s.setPpl v).plan = s.plan := rfl
@[simp] theorem State.setPpl_fab (v : Ppl) : (s.setPpl v).fab = s.fab := rfl
@[simp] theorem State.setPpl_sch (v : Ppl) : (s.setPpl v).sch = s.sch := rfl
@[simp] theorem State.setPpl_oius (v : Ppl) : (s.setPpl v).oius = s.oius := rfl
@[simp] theorem State.setPpl_sws (v : Ppl) : (s.setPpl v).sws = s.sws := rfl
@[simp] theorem State.setPpl_lgs (v : Ppl) : (s.setPpl v).lgs = s.lgs := rfl
@[simp] theorem State.setPpl_bcu (v : Ppl) : (s.setPpl v).bcu = s.bcu := rfl
@[simp] theorem State.setPpl_rcms (v : Ppl) : (s.setPpl v).rcms = s.rcms := rfl
@[simp] theorem State.setPpl_imds (v : Ppl) : (s.setPpl v).imds = s.imds := rfl
@[simp] theorem State.setPpl_imdTrip (v : Ppl) : (s.setPpl v).imdTrip = s.imdTrip := rfl
@[simp] theorem State.setPpl_ccRequested (v : Ppl) : (s.setPpl v).ccRequested = s.ccRequested := rfl
@[simp] theorem State.setPpl_chans (v : Ppl) : (s.setPpl v).chans = s.chans := rfl
@[simp] theorem State.setPpl_elems (v : Ppl) : (s.setPpl v).elems = s.elems := rfl
@[simp] theorem State.setPpl_meu (v : Ppl) : (s.setPpl v).meu = s.meu := rfl
@[simp] theorem State.setPpl_bills (v : Ppl) : (s.setPpl v).bills = s.bills := rfl
@[simp] theorem State.setPpl_blu (v : Ppl) : (s.setPpl v).blu = s.blu := rfl
@[simp] theorem State.setPpl_vces (v : Ppl) : (s.setPpl v).vces = s.vces := rfl
@[simp] theorem State.setPpl_slac (v : Ppl) : (s.setPpl v).slac = s.slac := rfl
@[simp] theorem State.setPpl_encoder (v : Ppl) : (s.setPpl v).encoder = s.encoder := rfl
@[simp] theorem State.setPpl_t1sUp (v : Ppl) : (s.setPpl v).t1sUp = s.t1sUp := rfl
@[simp] theorem State.setPpl_hostMsgs (v : Ppl) : (s.setPpl v).hostMsgs = s.hostMsgs := rfl
@[simp] theorem State.setPpl_gse (v : Ppl) : (s.setPpl v).gse = s.gse := rfl
@[simp] theorem State.setPpl_alloc (v : Ppl) : (s.setPpl v).alloc = s.alloc := rfl
@[simp] theorem State.setPpl_clu (v : Ppl) : (s.setPpl v).clu = s.clu := rfl
@[simp] theorem State.setPpl_ntu (v : Ppl) : (s.setPpl v).ntu = s.ntu := rfl
@[simp] theorem State.setPpl_alk (v : Ppl) : (s.setPpl v).alk = s.alk := rfl
@[simp] theorem State.setPpl_hpu (v : Ppl) : (s.setPpl v).hpu = s.hpu := rfl
@[simp] theorem State.setPpl_sec (v : Ppl) : (s.setPpl v).sec = s.sec := rfl
@[simp] theorem State.setPpl_dse (v : Ppl) : (s.setPpl v).dse = s.dse := rfl
@[simp] theorem State.setPpl_upd (v : Ppl) : (s.setPpl v).upd = s.upd := rfl
@[simp] theorem State.setPpl_pending (v : Ppl) : (s.setPpl v).pending = s.pending := rfl
@[simp] theorem State.setPpl_rd (v : Ppl) (g : Fld) (j : Nat) : (s.setPpl v).rd g j = s.rd g j := rfl
@[simp] theorem State.setPpl_flag (v : Ppl) (g : Fld) (j : Nat) : (s.setPpl v).flag g j = s.flag g j := rfl
@[simp] theorem State.setPpl_eff (v : Ppl) (g : Fld) (j : Nat) : (s.setPpl v).eff g j = s.eff g j := rfl
@[simp] theorem State.setPpl_ppl (v : Ppl) : (s.setPpl v).ppl = v := rfl

@[simp] theorem State.setBcu_regs (v : Bcu) : (s.setBcu v).regs = s.regs := rfl
@[simp] theorem State.setBcu_applied (v : Bcu) : (s.setBcu v).applied = s.applied := rfl
@[simp] theorem State.setBcu_latched (v : Bcu) : (s.setBcu v).latched = s.latched := rfl
@[simp] theorem State.setBcu_latchOn (v : Bcu) : (s.setBcu v).latchOn = s.latchOn := rfl
@[simp] theorem State.setBcu_now (v : Bcu) : (s.setBcu v).now = s.now := rfl
@[simp] theorem State.setBcu_free (v : Bcu) : (s.setBcu v).free = s.free := rfl
@[simp] theorem State.setBcu_events (v : Bcu) : (s.setBcu v).events = s.events := rfl
@[simp] theorem State.setBcu_plan (v : Bcu) : (s.setBcu v).plan = s.plan := rfl
@[simp] theorem State.setBcu_fab (v : Bcu) : (s.setBcu v).fab = s.fab := rfl
@[simp] theorem State.setBcu_sch (v : Bcu) : (s.setBcu v).sch = s.sch := rfl
@[simp] theorem State.setBcu_ppl (v : Bcu) : (s.setBcu v).ppl = s.ppl := rfl
@[simp] theorem State.setBcu_oius (v : Bcu) : (s.setBcu v).oius = s.oius := rfl
@[simp] theorem State.setBcu_sws (v : Bcu) : (s.setBcu v).sws = s.sws := rfl
@[simp] theorem State.setBcu_lgs (v : Bcu) : (s.setBcu v).lgs = s.lgs := rfl
@[simp] theorem State.setBcu_rcms (v : Bcu) : (s.setBcu v).rcms = s.rcms := rfl
@[simp] theorem State.setBcu_imds (v : Bcu) : (s.setBcu v).imds = s.imds := rfl
@[simp] theorem State.setBcu_imdTrip (v : Bcu) : (s.setBcu v).imdTrip = s.imdTrip := rfl
@[simp] theorem State.setBcu_ccRequested (v : Bcu) : (s.setBcu v).ccRequested = s.ccRequested := rfl
@[simp] theorem State.setBcu_chans (v : Bcu) : (s.setBcu v).chans = s.chans := rfl
@[simp] theorem State.setBcu_elems (v : Bcu) : (s.setBcu v).elems = s.elems := rfl
@[simp] theorem State.setBcu_meu (v : Bcu) : (s.setBcu v).meu = s.meu := rfl
@[simp] theorem State.setBcu_bills (v : Bcu) : (s.setBcu v).bills = s.bills := rfl
@[simp] theorem State.setBcu_blu (v : Bcu) : (s.setBcu v).blu = s.blu := rfl
@[simp] theorem State.setBcu_vces (v : Bcu) : (s.setBcu v).vces = s.vces := rfl
@[simp] theorem State.setBcu_slac (v : Bcu) : (s.setBcu v).slac = s.slac := rfl
@[simp] theorem State.setBcu_encoder (v : Bcu) : (s.setBcu v).encoder = s.encoder := rfl
@[simp] theorem State.setBcu_t1sUp (v : Bcu) : (s.setBcu v).t1sUp = s.t1sUp := rfl
@[simp] theorem State.setBcu_hostMsgs (v : Bcu) : (s.setBcu v).hostMsgs = s.hostMsgs := rfl
@[simp] theorem State.setBcu_gse (v : Bcu) : (s.setBcu v).gse = s.gse := rfl
@[simp] theorem State.setBcu_alloc (v : Bcu) : (s.setBcu v).alloc = s.alloc := rfl
@[simp] theorem State.setBcu_clu (v : Bcu) : (s.setBcu v).clu = s.clu := rfl
@[simp] theorem State.setBcu_ntu (v : Bcu) : (s.setBcu v).ntu = s.ntu := rfl
@[simp] theorem State.setBcu_alk (v : Bcu) : (s.setBcu v).alk = s.alk := rfl
@[simp] theorem State.setBcu_hpu (v : Bcu) : (s.setBcu v).hpu = s.hpu := rfl
@[simp] theorem State.setBcu_sec (v : Bcu) : (s.setBcu v).sec = s.sec := rfl
@[simp] theorem State.setBcu_dse (v : Bcu) : (s.setBcu v).dse = s.dse := rfl
@[simp] theorem State.setBcu_upd (v : Bcu) : (s.setBcu v).upd = s.upd := rfl
@[simp] theorem State.setBcu_pending (v : Bcu) : (s.setBcu v).pending = s.pending := rfl
@[simp] theorem State.setBcu_rd (v : Bcu) (g : Fld) (j : Nat) : (s.setBcu v).rd g j = s.rd g j := rfl
@[simp] theorem State.setBcu_flag (v : Bcu) (g : Fld) (j : Nat) : (s.setBcu v).flag g j = s.flag g j := rfl
@[simp] theorem State.setBcu_eff (v : Bcu) (g : Fld) (j : Nat) : (s.setBcu v).eff g j = s.eff g j := rfl
@[simp] theorem State.setBcu_bcu (v : Bcu) : (s.setBcu v).bcu = v := rfl

@[simp] theorem State.setUpd_regs (v : Upd) : (s.setUpd v).regs = s.regs := rfl
@[simp] theorem State.setUpd_applied (v : Upd) : (s.setUpd v).applied = s.applied := rfl
@[simp] theorem State.setUpd_latched (v : Upd) : (s.setUpd v).latched = s.latched := rfl
@[simp] theorem State.setUpd_latchOn (v : Upd) : (s.setUpd v).latchOn = s.latchOn := rfl
@[simp] theorem State.setUpd_now (v : Upd) : (s.setUpd v).now = s.now := rfl
@[simp] theorem State.setUpd_free (v : Upd) : (s.setUpd v).free = s.free := rfl
@[simp] theorem State.setUpd_events (v : Upd) : (s.setUpd v).events = s.events := rfl
@[simp] theorem State.setUpd_plan (v : Upd) : (s.setUpd v).plan = s.plan := rfl
@[simp] theorem State.setUpd_fab (v : Upd) : (s.setUpd v).fab = s.fab := rfl
@[simp] theorem State.setUpd_sch (v : Upd) : (s.setUpd v).sch = s.sch := rfl
@[simp] theorem State.setUpd_ppl (v : Upd) : (s.setUpd v).ppl = s.ppl := rfl
@[simp] theorem State.setUpd_oius (v : Upd) : (s.setUpd v).oius = s.oius := rfl
@[simp] theorem State.setUpd_sws (v : Upd) : (s.setUpd v).sws = s.sws := rfl
@[simp] theorem State.setUpd_lgs (v : Upd) : (s.setUpd v).lgs = s.lgs := rfl
@[simp] theorem State.setUpd_bcu (v : Upd) : (s.setUpd v).bcu = s.bcu := rfl
@[simp] theorem State.setUpd_rcms (v : Upd) : (s.setUpd v).rcms = s.rcms := rfl
@[simp] theorem State.setUpd_imds (v : Upd) : (s.setUpd v).imds = s.imds := rfl
@[simp] theorem State.setUpd_imdTrip (v : Upd) : (s.setUpd v).imdTrip = s.imdTrip := rfl
@[simp] theorem State.setUpd_ccRequested (v : Upd) : (s.setUpd v).ccRequested = s.ccRequested := rfl
@[simp] theorem State.setUpd_chans (v : Upd) : (s.setUpd v).chans = s.chans := rfl
@[simp] theorem State.setUpd_elems (v : Upd) : (s.setUpd v).elems = s.elems := rfl
@[simp] theorem State.setUpd_meu (v : Upd) : (s.setUpd v).meu = s.meu := rfl
@[simp] theorem State.setUpd_bills (v : Upd) : (s.setUpd v).bills = s.bills := rfl
@[simp] theorem State.setUpd_blu (v : Upd) : (s.setUpd v).blu = s.blu := rfl
@[simp] theorem State.setUpd_vces (v : Upd) : (s.setUpd v).vces = s.vces := rfl
@[simp] theorem State.setUpd_slac (v : Upd) : (s.setUpd v).slac = s.slac := rfl
@[simp] theorem State.setUpd_encoder (v : Upd) : (s.setUpd v).encoder = s.encoder := rfl
@[simp] theorem State.setUpd_t1sUp (v : Upd) : (s.setUpd v).t1sUp = s.t1sUp := rfl
@[simp] theorem State.setUpd_hostMsgs (v : Upd) : (s.setUpd v).hostMsgs = s.hostMsgs := rfl
@[simp] theorem State.setUpd_gse (v : Upd) : (s.setUpd v).gse = s.gse := rfl
@[simp] theorem State.setUpd_alloc (v : Upd) : (s.setUpd v).alloc = s.alloc := rfl
@[simp] theorem State.setUpd_clu (v : Upd) : (s.setUpd v).clu = s.clu := rfl
@[simp] theorem State.setUpd_ntu (v : Upd) : (s.setUpd v).ntu = s.ntu := rfl
@[simp] theorem State.setUpd_alk (v : Upd) : (s.setUpd v).alk = s.alk := rfl
@[simp] theorem State.setUpd_hpu (v : Upd) : (s.setUpd v).hpu = s.hpu := rfl
@[simp] theorem State.setUpd_sec (v : Upd) : (s.setUpd v).sec = s.sec := rfl
@[simp] theorem State.setUpd_dse (v : Upd) : (s.setUpd v).dse = s.dse := rfl
@[simp] theorem State.setUpd_pending (v : Upd) : (s.setUpd v).pending = s.pending := rfl
@[simp] theorem State.setUpd_rd (v : Upd) (g : Fld) (j : Nat) : (s.setUpd v).rd g j = s.rd g j := rfl
@[simp] theorem State.setUpd_flag (v : Upd) (g : Fld) (j : Nat) : (s.setUpd v).flag g j = s.flag g j := rfl
@[simp] theorem State.setUpd_eff (v : Upd) (g : Fld) (j : Nat) : (s.setUpd v).eff g j = s.eff g j := rfl
@[simp] theorem State.setUpd_upd (v : Upd) : (s.setUpd v).upd = v := rfl

@[simp] theorem State.setVce_regs (n : Nat) (v : Vce) : (s.setVce n v).regs = s.regs := rfl
@[simp] theorem State.setVce_applied (n : Nat) (v : Vce) : (s.setVce n v).applied = s.applied := rfl
@[simp] theorem State.setVce_latched (n : Nat) (v : Vce) : (s.setVce n v).latched = s.latched := rfl
@[simp] theorem State.setVce_latchOn (n : Nat) (v : Vce) : (s.setVce n v).latchOn = s.latchOn := rfl
@[simp] theorem State.setVce_now (n : Nat) (v : Vce) : (s.setVce n v).now = s.now := rfl
@[simp] theorem State.setVce_free (n : Nat) (v : Vce) : (s.setVce n v).free = s.free := rfl
@[simp] theorem State.setVce_events (n : Nat) (v : Vce) : (s.setVce n v).events = s.events := rfl
@[simp] theorem State.setVce_plan (n : Nat) (v : Vce) : (s.setVce n v).plan = s.plan := rfl
@[simp] theorem State.setVce_fab (n : Nat) (v : Vce) : (s.setVce n v).fab = s.fab := rfl
@[simp] theorem State.setVce_sch (n : Nat) (v : Vce) : (s.setVce n v).sch = s.sch := rfl
@[simp] theorem State.setVce_ppl (n : Nat) (v : Vce) : (s.setVce n v).ppl = s.ppl := rfl
@[simp] theorem State.setVce_oius (n : Nat) (v : Vce) : (s.setVce n v).oius = s.oius := rfl
@[simp] theorem State.setVce_sws (n : Nat) (v : Vce) : (s.setVce n v).sws = s.sws := rfl
@[simp] theorem State.setVce_lgs (n : Nat) (v : Vce) : (s.setVce n v).lgs = s.lgs := rfl
@[simp] theorem State.setVce_bcu (n : Nat) (v : Vce) : (s.setVce n v).bcu = s.bcu := rfl
@[simp] theorem State.setVce_rcms (n : Nat) (v : Vce) : (s.setVce n v).rcms = s.rcms := rfl
@[simp] theorem State.setVce_imds (n : Nat) (v : Vce) : (s.setVce n v).imds = s.imds := rfl
@[simp] theorem State.setVce_imdTrip (n : Nat) (v : Vce) : (s.setVce n v).imdTrip = s.imdTrip := rfl
@[simp] theorem State.setVce_ccRequested (n : Nat) (v : Vce) : (s.setVce n v).ccRequested = s.ccRequested := rfl
@[simp] theorem State.setVce_chans (n : Nat) (v : Vce) : (s.setVce n v).chans = s.chans := rfl
@[simp] theorem State.setVce_elems (n : Nat) (v : Vce) : (s.setVce n v).elems = s.elems := rfl
@[simp] theorem State.setVce_meu (n : Nat) (v : Vce) : (s.setVce n v).meu = s.meu := rfl
@[simp] theorem State.setVce_bills (n : Nat) (v : Vce) : (s.setVce n v).bills = s.bills := rfl
@[simp] theorem State.setVce_blu (n : Nat) (v : Vce) : (s.setVce n v).blu = s.blu := rfl
@[simp] theorem State.setVce_slac (n : Nat) (v : Vce) : (s.setVce n v).slac = s.slac := rfl
@[simp] theorem State.setVce_encoder (n : Nat) (v : Vce) : (s.setVce n v).encoder = s.encoder := rfl
@[simp] theorem State.setVce_t1sUp (n : Nat) (v : Vce) : (s.setVce n v).t1sUp = s.t1sUp := rfl
@[simp] theorem State.setVce_hostMsgs (n : Nat) (v : Vce) : (s.setVce n v).hostMsgs = s.hostMsgs := rfl
@[simp] theorem State.setVce_gse (n : Nat) (v : Vce) : (s.setVce n v).gse = s.gse := rfl
@[simp] theorem State.setVce_alloc (n : Nat) (v : Vce) : (s.setVce n v).alloc = s.alloc := rfl
@[simp] theorem State.setVce_clu (n : Nat) (v : Vce) : (s.setVce n v).clu = s.clu := rfl
@[simp] theorem State.setVce_ntu (n : Nat) (v : Vce) : (s.setVce n v).ntu = s.ntu := rfl
@[simp] theorem State.setVce_alk (n : Nat) (v : Vce) : (s.setVce n v).alk = s.alk := rfl
@[simp] theorem State.setVce_hpu (n : Nat) (v : Vce) : (s.setVce n v).hpu = s.hpu := rfl
@[simp] theorem State.setVce_sec (n : Nat) (v : Vce) : (s.setVce n v).sec = s.sec := rfl
@[simp] theorem State.setVce_dse (n : Nat) (v : Vce) : (s.setVce n v).dse = s.dse := rfl
@[simp] theorem State.setVce_upd (n : Nat) (v : Vce) : (s.setVce n v).upd = s.upd := rfl
@[simp] theorem State.setVce_pending (n : Nat) (v : Vce) : (s.setVce n v).pending = s.pending := rfl
@[simp] theorem State.setVce_rd (n : Nat) (v : Vce) (g : Fld) (j : Nat) : (s.setVce n v).rd g j = s.rd g j := rfl
@[simp] theorem State.setVce_flag (n : Nat) (v : Vce) (g : Fld) (j : Nat) : (s.setVce n v).flag g j = s.flag g j := rfl
@[simp] theorem State.setVce_eff (n : Nat) (v : Vce) (g : Fld) (j : Nat) : (s.setVce n v).eff g j = s.eff g j := rfl
@[simp] theorem State.setVce_vce_same (n : Nat) (v : Vce) : (s.setVce n v).vce n = v := lookup_update_same _ _ _ _
theorem State.setVce_vce_other (n : Nat) (v : Vce) (k : Nat) (h : k ≠ n) : (s.setVce n v).vce k = s.vce k := lookup_update_other _ _ _ _ _ h

/-! An event: only the event stream, the ledger queue and the ledger's drop count can change. -/

@[simp] theorem State.raise_applied (code arg : Nat) : (s.raise code arg).applied = s.applied := by
  unfold State.raise State.requestHeld State.request
  dsimp only
  repeat' split
  all_goals rfl
@[simp] theorem State.raise_latched (code arg : Nat) : (s.raise code arg).latched = s.latched := by
  unfold State.raise State.requestHeld State.request
  dsimp only
  repeat' split
  all_goals rfl
@[simp] theorem State.raise_latchOn (code arg : Nat) : (s.raise code arg).latchOn = s.latchOn := by
  unfold State.raise State.requestHeld State.request
  dsimp only
  repeat' split
  all_goals rfl
@[simp] theorem State.raise_now (code arg : Nat) : (s.raise code arg).now = s.now := by
  unfold State.raise State.requestHeld State.request
  dsimp only
  repeat' split
  all_goals rfl
@[simp] theorem State.raise_free (code arg : Nat) : (s.raise code arg).free = s.free := by
  unfold State.raise State.requestHeld State.request
  dsimp only
  repeat' split
  all_goals rfl
@[simp] theorem State.raise_plan (code arg : Nat) : (s.raise code arg).plan = s.plan := by
  unfold State.raise State.requestHeld State.request
  dsimp only
  repeat' split
  all_goals rfl
@[simp] theorem State.raise_sch (code arg : Nat) : (s.raise code arg).sch = s.sch := by
  unfold State.raise State.requestHeld State.request
  dsimp only
  repeat' split
  all_goals rfl
@[simp] theorem State.raise_ppl (code arg : Nat) : (s.raise code arg).ppl = s.ppl := by
  unfold State.raise State.requestHeld State.request
  dsimp only
  repeat' split
  all_goals rfl
@[simp] theorem State.raise_oius (code arg : Nat) : (s.raise code arg).oius = s.oius := by
  unfold State.raise State.requestHeld State.request
  dsimp only
  repeat' split
  all_goals rfl
@[simp] theorem State.raise_sws (code arg : Nat) : (s.raise code arg).sws = s.sws := by
  unfold State.raise State.requestHeld State.request
  dsimp only
  repeat' split
  all_goals rfl
@[simp] theorem State.raise_bcu (code arg : Nat) : (s.raise code arg).bcu = s.bcu := by
  unfold State.raise State.requestHeld State.request
  dsimp only
  repeat' split
  all_goals rfl
@[simp] theorem State.raise_rcms (code arg : Nat) : (s.raise code arg).rcms = s.rcms := by
  unfold State.raise State.requestHeld State.request
  dsimp only
  repeat' split
  all_goals rfl
@[simp] theorem State.raise_imds (code arg : Nat) : (s.raise code arg).imds = s.imds := by
  unfold State.raise State.requestHeld State.request
  dsimp only
  repeat' split
  all_goals rfl
@[simp] theorem State.raise_imdTrip (code arg : Nat) : (s.raise code arg).imdTrip = s.imdTrip := by
  unfold State.raise State.requestHeld State.request
  dsimp only
  repeat' split
  all_goals rfl
@[simp] theorem State.raise_ccRequested (code arg : Nat) : (s.raise code arg).ccRequested = s.ccRequested := by
  unfold State.raise State.requestHeld State.request
  dsimp only
  repeat' split
  all_goals rfl
@[simp] theorem State.raise_chans (code arg : Nat) : (s.raise code arg).chans = s.chans := by
  unfold State.raise State.requestHeld State.request
  dsimp only
  repeat' split
  all_goals rfl
@[simp] theorem State.raise_elems (code arg : Nat) : (s.raise code arg).elems = s.elems := by
  unfold State.raise State.requestHeld State.request
  dsimp only
  repeat' split
  all_goals rfl
@[simp] theorem State.raise_meu (code arg : Nat) : (s.raise code arg).meu = s.meu := by
  unfold State.raise State.requestHeld State.request
  dsimp only
  repeat' split
  all_goals rfl
@[simp] theorem State.raise_bills (code arg : Nat) : (s.raise code arg).bills = s.bills := by
  unfold State.raise State.requestHeld State.request
  dsimp only
  repeat' split
  all_goals rfl
@[simp] theorem State.raise_blu (code arg : Nat) : (s.raise code arg).blu = s.blu := by
  unfold State.raise State.requestHeld State.request
  dsimp only
  repeat' split
  all_goals rfl
@[simp] theorem State.raise_vces (code arg : Nat) : (s.raise code arg).vces = s.vces := by
  unfold State.raise State.requestHeld State.request
  dsimp only
  repeat' split
  all_goals rfl
@[simp] theorem State.raise_slac (code arg : Nat) : (s.raise code arg).slac = s.slac := by
  unfold State.raise State.requestHeld State.request
  dsimp only
  repeat' split
  all_goals rfl
@[simp] theorem State.raise_encoder (code arg : Nat) : (s.raise code arg).encoder = s.encoder := by
  unfold State.raise State.requestHeld State.request
  dsimp only
  repeat' split
  all_goals rfl
@[simp] theorem State.raise_t1sUp (code arg : Nat) : (s.raise code arg).t1sUp = s.t1sUp := by
  unfold State.raise State.requestHeld State.request
  dsimp only
  repeat' split
  all_goals rfl
@[simp] theorem State.raise_hostMsgs (code arg : Nat) : (s.raise code arg).hostMsgs = s.hostMsgs := by
  unfold State.raise State.requestHeld State.request
  dsimp only
  repeat' split
  all_goals rfl
@[simp] theorem State.raise_gse (code arg : Nat) : (s.raise code arg).gse = s.gse := by
  unfold State.raise State.requestHeld State.request
  dsimp only
  repeat' split
  all_goals rfl
@[simp] theorem State.raise_alloc (code arg : Nat) : (s.raise code arg).alloc = s.alloc := by
  unfold State.raise State.requestHeld State.request
  dsimp only
  repeat' split
  all_goals rfl
@[simp] theorem State.raise_clu (code arg : Nat) : (s.raise code arg).clu = s.clu := by
  unfold State.raise State.requestHeld State.request
  dsimp only
  repeat' split
  all_goals rfl
@[simp] theorem State.raise_ntu (code arg : Nat) : (s.raise code arg).ntu = s.ntu := by
  unfold State.raise State.requestHeld State.request
  dsimp only
  repeat' split
  all_goals rfl
@[simp] theorem State.raise_alk (code arg : Nat) : (s.raise code arg).alk = s.alk := by
  unfold State.raise State.requestHeld State.request
  dsimp only
  repeat' split
  all_goals rfl
@[simp] theorem State.raise_hpu (code arg : Nat) : (s.raise code arg).hpu = s.hpu := by
  unfold State.raise State.requestHeld State.request
  dsimp only
  repeat' split
  all_goals rfl
@[simp] theorem State.raise_sec (code arg : Nat) : (s.raise code arg).sec = s.sec := by
  unfold State.raise State.requestHeld State.request
  dsimp only
  repeat' split
  all_goals rfl
@[simp] theorem State.raise_dse (code arg : Nat) : (s.raise code arg).dse = s.dse := by
  unfold State.raise State.requestHeld State.request
  dsimp only
  repeat' split
  all_goals rfl
@[simp] theorem State.raise_upd (code arg : Nat) : (s.raise code arg).upd = s.upd := by
  unfold State.raise State.requestHeld State.request
  dsimp only
  repeat' split
  all_goals rfl
@[simp] theorem State.raise_pending (code arg : Nat) : (s.raise code arg).pending = s.pending := by
  unfold State.raise State.requestHeld State.request
  dsimp only
  repeat' split
  all_goals rfl

theorem State.request_rd (cls : Nat) (recs : List ReqRec) (g : Fld) (j : Nat) (h1 : g ≠ .LGS_COUNT_DROPPED) (h2 : g ≠ .LGS_STATUS_DROP) :
    (s.request cls recs).rd g j = s.rd g j := by
  have h : ((s.put .LGS_COUNT_DROPPED 0 (min 0xFFFF (s.rd .LGS_COUNT_DROPPED 0 + recs.length))).put .LGS_STATUS_DROP 0 1).rd g j = s.rd g j := by
    rw [rd_put_fld _ _ _ _ _ _ h2, rd_put_fld _ _ _ _ _ _ h1]
  unfold State.request
  dsimp only
  split
  · exact h
  · rfl

/-- The registers that an event can change: the ledger's drop counter and its flag (R330). -/
theorem State.raise_rd (code arg : Nat) (g : Fld) (j : Nat) (h1 : g ≠ .LGS_COUNT_DROPPED) (h2 : g ≠ .LGS_STATUS_DROP) :
    (s.raise code arg).rd g j = s.rd g j := by
  unfold State.raise State.requestHeld
  dsimp only
  repeat' split
  all_goals first
    | exact State.request_rd _ _ _ _ _ h1 h2
    | rfl

theorem State.raise_eff (code arg : Nat) (g : Fld) (j : Nat) : (s.raise code arg).eff g j = s.eff g j := by
  unfold State.eff
  rw [State.raise_applied]

/-- The event stands in the stream after what was raised before it. -/
theorem State.raise_events (code arg : Nat) :
    ∃ l, (s.raise code arg).events = s.events ++ [⟨code, s.ltime, arg % 2 ^ 16⟩] ++ l := by
  unfold State.raise State.requestHeld State.request
  dsimp only
  repeat' split
  all_goals first
    | exact ⟨[_], rfl⟩
    | exact ⟨[], (List.append_nil _).symm⟩

@[simp] theorem State.put_ltime (f : Fld) (i v : Nat) : (s.put f i v).ltime = s.ltime := rfl

/-- An event is new in the stream. -/
theorem Raises.of_raise (z : State) (h : Later z s) (code arg : Nat) (ha : arg < 65536) : Raises z (s.raise code arg) code arg := by
  obtain ⟨l, hl⟩ := State.raise_events s code arg
  obtain ⟨m, hm⟩ := h.events
  refine ⟨⟨code, s.ltime, arg % 2 ^ 16⟩, ?_, rfl, Nat.mod_eq_of_lt ha⟩
  rw [hl, ← hm]
  simp

/-- What was raised stays raised. -/
theorem Raises.mono {z s t : State} {code arg : Nat} (hz : Later z s) (h : Raises z s code arg) (k : Later s t) : Raises z t code arg := by
  obtain ⟨e, he, hc⟩ := h
  refine ⟨e, ?_, hc⟩
  obtain ⟨l, hl⟩ := k.events
  rw [← hl, List.drop_append_of_le_length (hz.events.length_le)]
  exact List.mem_append_left _ he

/-- A field that is written is the only one that reads differently. -/
theorem OnlyFlds.put {l : List (Fld × Nat)} {z s : State} (h : OnlyFlds l z s) (f : Fld) (i v : Nat) (hf : (f, i) ∈ l) :
    OnlyFlds l z (s.put f i v) := by
  intro g j hg
  rw [rd_put]
  split
  · rename_i e
    rw [e.1, e.2] at hg
    exact absurd hf hg
  · exact h g j hg

theorem OnlyFlds.refl (l : List (Fld × Nat)) (s : State) : OnlyFlds l s s := fun _ _ _ => rfl

/-- Only the register store counts. -/
theorem OnlyFlds.same {l : List (Fld × Nat)} {z s t : State} (h : OnlyFlds l z s) (e : t.regs = s.regs) : OnlyFlds l z t := by
  intro g j hg
  have hr : t.rd g j = s.rd g j := by
    unfold State.rd
    rw [e]
  exact hr.trans (h g j hg)

theorem OnlyFlds.raise {l : List (Fld × Nat)} {z s : State} (h : OnlyFlds l z s) (code arg : Nat) (h1 : (.LGS_COUNT_DROPPED, 0) ∈ l)
    (h2 : (.LGS_STATUS_DROP, 0) ∈ l) : OnlyFlds l z (s.raise code arg) := by
  have hr : ∀ (x : State) (cls : Nat) (recs : List ReqRec), OnlyFlds l z x → OnlyFlds l z (x.request cls recs) := by
    intro x cls recs hx
    unfold State.request
    dsimp only
    split
    · exact OnlyFlds.same (OnlyFlds.put (OnlyFlds.put hx .LGS_COUNT_DROPPED 0
        (min 0xFFFF (x.rd .LGS_COUNT_DROPPED 0 + recs.length)) h1) .LGS_STATUS_DROP 0 1 h2) rfl
    · exact hx
  unfold State.raise State.requestHeld
  dsimp only
  repeat' split
  · exact hr _ _ _ h
  · exact h
  · exact h
  · exact hr _ _ _ h

end Sys2Proof.Machine
end

