-- ==== Sys2Proof/Laws/Claims.lean ====
section
/-! SUPPORT. Laws of the words that the statements use: completing, raising an event, and the fields that change. -/

namespace Sys2Proof.Machine

open Sys2Proof

/-- A command that answers a next state completes where the claim holds of that state. -/
@[simp] theorem completes_next (t : State) (P : State → Prop) : Completes (.next t) P ↔ P t :=
  ⟨fun ⟨_, h, p⟩ => by cases h; exact p, fun p => ⟨t, rfl, p⟩⟩

theorem Raises.put {z s : State} {c a : Nat} (h : Raises z s c a) (f : Fld) (i v : Nat) : Raises z (s.put f i v) c a := h

theorem Raises.putEff {z s : State} {c a : Nat} (h : Raises z s c a) (f : Fld) (i v : Nat) : Raises z (s.putEff f i v) c a := h

/-- The event that is raised last. -/
theorem Raises.last {z s : State} (h : Later z s) (c a : Nat) (ha : a < 65536) : Raises z (s.raise c a) c a := Raises.of_raise _ _ h c a ha

/-- The event with a two-part argument that is raised last. -/
theorem Raises.last2 {z s : State} (h : Later z s) (c a b : Nat) (ha : a < 256) (hb : b < 256) : Raises z (s.raise2 c a b) c (a * 256 + b) := by
  unfold State.raise2
  rw [Nat.mod_eq_of_lt ha, Nat.mod_eq_of_lt hb]
  exact Raises.of_raise _ _ h c _ (by omega)

theorem Raises.raise {z s : State} {c a : Nat} (h : Raises z s c a) (hz : Later z s) (d b : Nat) : Raises z (s.raise d b) c a :=
  h.mono hz (State.raise_later (Later.refl _) _ _)

theorem Raises.request {z s : State} {c a : Nat} (h : Raises z s c a) (hz : Later z s) (d : Nat) (b : List ReqRec) :
    Raises z (s.request d b) c a := h.mono hz (State.request_later (Later.refl _) _ _)

end Sys2Proof.Machine
end

