-- ==== Sys2Proof/Laws/LaterLedger.lean ====
section
/-! SUPPORT. Every operation and every command of the LGS leads to a later state (Laws/Later.lean). -/

namespace Sys2Proof.Machine

open Sys2Proof

theorem State.showRegion_later {z0 s : State} (hz : Later z0 s) (k : Nat) : Later z0 (State.showRegion s k) := by
  unfold State.showRegion
  try dsimp only
  repeat' first
    | (with_reducible assumption)
    | (with_reducible apply State.put_later)

theorem State.showLgs_later {z0 s : State} (hz : Later z0 s) : Later z0 (State.showLgs s) := by
  unfold State.showLgs
  try dsimp only
  repeat' first
    | (with_reducible assumption)
    | (with_reducible apply State.showRegion_later)
    | (with_reducible apply State.putFlag_later)

theorem State.legalSpace_later {z0 s : State} (hz : Later z0 s) : Later z0 (State.legalSpace s) := by
  unfold State.legalSpace
  try dsimp only
  repeat' first
    | (with_reducible assumption)
    | (with_reducible apply State.raise_later)
    | (with_reducible apply State.put_later)
    | (with_reducible apply State.each_later)
    | (with_reducible apply State.onlyIf_later)
    | (with_reducible apply State.foldl_later)
    | (intro x k hx)
    | (intro x hx)
    | split
    | (with_reducible refine Later.built ?_ ?_ ?_ ?_; rotate_left; exact rfl; exact rfl; exact rfl)

theorem State.recordDrops_later {z0 s : State} (hz : Later z0 s) : Later z0 (State.recordDrops s) := by
  unfold State.recordDrops
  try dsimp only
  repeat' first
    | (with_reducible assumption)
    | (with_reducible apply State.request_later)
    | (with_reducible apply State.each_later)
    | (with_reducible apply State.onlyIf_later)
    | (with_reducible apply State.foldl_later)
    | (intro x k hx)
    | (intro x hx)
    | split
    | (with_reducible refine Later.built ?_ ?_ ?_ ?_; rotate_left; exact rfl; exact rfl; exact rfl)

theorem State.committed_later {z0 s : State} (hz : Later z0 s) (r : LedgerRec) : Later z0 (State.committed s r) := by
  unfold State.committed
  try dsimp only
  repeat' first
    | (with_reducible assumption)
    | (with_reducible apply State.put_later)
    | (with_reducible apply State.raise_later)
    | (with_reducible apply State.each_later)
    | (with_reducible apply State.onlyIf_later)
    | (with_reducible apply State.foldl_later)
    | (intro x k hx)
    | (intro x hx)
    | split
    | (with_reducible refine Later.built ?_ ?_ ?_ ?_; rotate_left; exact rfl; exact rfl; exact rfl)

theorem State.place_later {z0 s : State} (hz : Later z0 s) (cls : Nat) (first : Bool) (q : ReqRec) : Later z0 (State.place s cls first q) := by
  unfold State.place
  try dsimp only
  repeat' first
    | (with_reducible assumption)
    | (with_reducible apply State.count_later)
    | (with_reducible apply State.put_later)
    | (with_reducible apply State.committed_later)
    | (with_reducible apply State.each_later)
    | (with_reducible apply State.onlyIf_later)
    | (with_reducible apply State.foldl_later)
    | (intro x k hx)
    | (intro x hx)
    | split
    | (with_reducible refine Later.built ?_ ?_ ?_ ?_; rotate_left; exact rfl; exact rfl; exact rfl)

theorem State.commitGroup_later {z0 s : State} (hz : Later z0 s) (g : Group) : Later z0 (State.commitGroup s g) := by
  unfold State.commitGroup
  try dsimp only
  repeat' first
    | (with_reducible assumption)
    | (with_reducible apply State.place_later)
    | (with_reducible apply State.put_later)
    | (with_reducible apply State.raise_later)
    | (with_reducible apply State.each_later)
    | (with_reducible apply State.onlyIf_later)
    | (with_reducible apply State.foldl_later)
    | (intro x k hx)
    | (intro x hx)

theorem State.commitNext_later {z0 s : State} (hz : Later z0 s) : Later z0 (State.commitNext s) := by
  unfold State.commitNext
  try dsimp only
  repeat' first
    | (with_reducible assumption)
    | (with_reducible apply State.legalSpace_later)
    | (with_reducible apply State.commitGroup_later)
    | (with_reducible apply State.recordDrops_later)
    | (with_reducible apply State.showLgs_later)
    | (with_reducible apply State.each_later)
    | (with_reducible apply State.onlyIf_later)
    | (with_reducible apply State.foldl_later)
    | (intro x k hx)
    | (intro x hx)
    | split
    | (with_reducible refine Later.built ?_ ?_ ?_ ?_; rotate_left; exact rfl; exact rfl; exact rfl)

theorem execLedgerGroupRequest_later (cls : Fin 3) (recs : List RecData) (s : State) : Runs s (execLedgerGroupRequest cls recs s) := by
  unfold execLedgerGroupRequest
  try dsimp only
  repeat' first
    | (with_reducible assumption)
    | (with_reducible exact Later.refl _)
    | (with_reducible apply Runs.next)
    | (with_reducible apply State.request_later)
    | (with_reducible apply State.each_later)
    | (with_reducible apply State.onlyIf_later)
    | (with_reducible apply State.foldl_later)
    | (intro x k hx)
    | (intro x hx)
    | split

theorem execLedgerCommit_later (s : State) : Runs s (execLedgerCommit s) := by
  unfold execLedgerCommit
  try dsimp only
  repeat' first
    | (with_reducible assumption)
    | (with_reducible exact Later.refl _)
    | (with_reducible apply Runs.next)
    | (with_reducible apply State.commitNext_later)

theorem State.writeTicks_later {z0 s : State} (hz : Later z0 s) (tick : Nat) : Later z0 (State.writeTicks s tick) := by
  unfold State.writeTicks
  try dsimp only
  repeat' first
    | (with_reducible assumption)
    | (with_reducible apply State.request_later)
    | (with_reducible apply State.each_later)
    | (with_reducible apply State.onlyIf_later)
    | (with_reducible apply State.foldl_later)
    | (intro x k hx)
    | (intro x hx)
    | split
    | (with_reducible refine Later.built ?_ ?_ ?_ ?_; rotate_left; exact rfl; exact rfl; exact rfl)

theorem execRetainedNearLimit_later (s : State) : Runs s (execRetainedNearLimit s) := by
  unfold execRetainedNearLimit
  try dsimp only
  repeat' first
    | (with_reducible assumption)
    | (with_reducible exact Later.refl _)
    | (with_reducible apply Runs.next)
    | (with_reducible apply State.showLgs_later)
    | (with_reducible apply State.raise_later)
    | (with_reducible apply State.each_later)
    | (with_reducible apply State.onlyIf_later)
    | (with_reducible apply State.foldl_later)
    | (intro x k hx)
    | (intro x hx)
    | split
    | (with_reducible refine Later.built ?_ ?_ ?_ ?_; rotate_left; exact rfl; exact rfl; exact rfl)

theorem State.startPage_later {z0 s : State} (hz : Later z0 s) (region : Nat) (slot : Nat) : Later z0 (State.startPage s region slot) := by
  unfold State.startPage
  try dsimp only
  repeat' first
    | (with_reducible assumption)
    | (with_reducible apply State.put_later)
    | (with_reducible apply State.each_later)
    | (with_reducible apply State.onlyIf_later)
    | (with_reducible apply State.foldl_later)
    | (intro x k hx)
    | (intro x hx)
    | split
    | (with_reducible refine Later.built ?_ ?_ ?_ ?_; rotate_left; exact rfl; exact rfl; exact rfl)

theorem execPageCopy_later (region : Fin 4) (slot : BitVec 26) (s : State) : Runs s (execPageCopy region slot s) := by
  unfold execPageCopy
  try dsimp only
  repeat' first
    | (with_reducible assumption)
    | (with_reducible exact Later.refl _)
    | (with_reducible apply Runs.next)
    | (with_reducible apply State.startPage_later)

theorem execPageCopyDone_later (changed : List (Nat × List Nat)) (s : State) : Runs s (execPageCopyDone changed s) := by
  unfold execPageCopyDone
  try dsimp only
  repeat' first
    | (with_reducible assumption)
    | (with_reducible exact Later.refl _)
    | (with_reducible apply Runs.next)
    | (with_reducible apply State.draw_later)
    | (with_reducible apply State.put_later)
    | (with_reducible apply State.raise2_later)
    | (with_reducible apply State.each_later)
    | (with_reducible apply State.onlyIf_later)
    | (with_reducible apply State.foldl_later)
    | (intro x k hx)
    | (intro x hx)
    | (with_reducible refine Later.snd ?_ (by assumption))
    | split
    | (with_reducible refine Later.built ?_ ?_ ?_ ?_; rotate_left; exact rfl; exact rfl; exact rfl)

theorem State.lgsStart_later {z0 s : State} (hz : Later z0 s) : Later z0 (State.lgsStart s) := by
  unfold State.lgsStart
  try dsimp only
  repeat' first
    | (with_reducible assumption)
    | (with_reducible apply State.request_later)
    | (with_reducible apply State.each_later)
    | (with_reducible apply State.onlyIf_later)
    | (with_reducible apply State.foldl_later)
    | (intro x k hx)
    | (intro x hx)
    | split
    | (with_reducible refine Later.built ?_ ?_ ?_ ?_; rotate_left; exact rfl; exact rfl; exact rfl)

end Sys2Proof.Machine
end

