-- ==== Sys2Proof/Laws/LaterDisplay.lean ====
section
/-! SUPPORT. Every operation and every command of the DSE leads to a later state (Laws/Later.lean). -/

namespace Sys2Proof.Machine

open Sys2Proof

theorem State.setDse_later {z0 s : State} (hz : Later z0 s) (v : Dse) : Later z0 (State.setDse s v) := by
  unfold State.setDse
  try dsimp only
  repeat' first
    | (with_reducible assumption)
    | (with_reducible apply State.putFlag_later)
    | (with_reducible apply State.each_later)
    | (with_reducible apply State.onlyIf_later)
    | (with_reducible apply State.foldl_later)
    | (intro x k hx)
    | (intro x hx)
    | split
    | (with_reducible refine Later.built ?_ ?_ ?_ ?_; rotate_left; exact rfl; exact rfl; exact rfl)

theorem State.addStress_later {z0 s : State} (hz : Later z0 s) (a : Tab Nat) (b : Tab Nat) (row : Nat) : Later z0 (State.addStress s a b row) := by
  unfold State.addStress
  try dsimp only
  repeat' first
    | (with_reducible assumption)
    | (with_reducible apply State.setDse_later)
    | (with_reducible apply State.each_later)
    | (with_reducible apply State.onlyIf_later)
    | (with_reducible apply State.foldl_later)
    | (intro x k hx)
    | (intro x hx)
    | split

theorem State.pwOf_later {z0 s : State} (hz : Later z0 s) (row : Nat) : Later z0 (State.pwOf s row).2 := by
  unfold State.pwOf
  try dsimp only
  repeat' first
    | (with_reducible assumption)
    | (with_reducible apply State.put_later)
    | (with_reducible apply State.setDse_later)
    | (with_reducible apply State.raise_later)
    | (with_reducible apply State.each_later)
    | (with_reducible apply State.onlyIf_later)
    | (with_reducible apply State.foldl_later)
    | (intro x k hx)
    | (intro x hx)
    | split

theorem State.putRow_later {z0 s : State} (hz : Later z0 s) (half : Nat) (balanced : Bool) (image : Nat → Nat) (row : Nat) : Later z0 (State.putRow s half balanced image row) := by
  unfold State.putRow
  try dsimp only
  repeat' first
    | (with_reducible assumption)
    | (with_reducible apply State.addStress_later)
    | (with_reducible apply State.setDse_later)
    | (with_reducible apply State.each_later)
    | (with_reducible apply State.onlyIf_later)
    | (with_reducible apply State.foldl_later)
    | (intro x k hx)
    | (intro x hx)
    | split

theorem State.driveRow_later {z0 s : State} (hz : Later z0 s) (balanced : Bool) (image : Nat → Nat) (row : Nat) : Later z0 (State.driveRow s balanced image row) := by
  unfold State.driveRow
  try dsimp only
  repeat' first
    | (with_reducible assumption)
    | (with_reducible apply State.pwOf_later)
    | (with_reducible apply State.putRow_later)
    | (with_reducible apply State.moveTo_later)

theorem State.writeRow_later {z0 s : State} (hz : Later z0 s) (balanced : Bool) (row : Nat) : Later z0 (State.writeRow s balanced row) := by
  unfold State.writeRow
  try dsimp only
  repeat' first
    | (with_reducible assumption)
    | (with_reducible apply State.driveRow_later)

theorem State.writeUpdate_later {z0 s : State} (hz : Later z0 s) : Later z0 (State.writeUpdate s) := by
  unfold State.writeUpdate
  try dsimp only
  repeat' first
    | (with_reducible assumption)
    | (with_reducible apply State.setDse_later)
    | (with_reducible apply State.each_later)
    | (with_reducible apply State.onlyIf_later)
    | (with_reducible apply State.foldl_later)
    | (intro x k hx)
    | (intro x hx)
    | split

theorem execUpdate_later (s : State) : Runs s (execUpdate s) := by
  unfold execUpdate
  try dsimp only
  repeat' first
    | (with_reducible assumption)
    | (with_reducible exact Later.refl _)
    | (with_reducible apply Runs.next)
    | (with_reducible apply State.writeUpdate_later)

theorem State.writeTestDse_later {z0 s : State} (hz : Later z0 s) : Later z0 (State.writeTestDse s) := by
  unfold State.writeTestDse
  try dsimp only
  repeat' first
    | (with_reducible assumption)
    | (with_reducible apply State.put_later)
    | (with_reducible apply State.raise_later)
    | (with_reducible apply State.setDse_later)
    | (with_reducible apply State.each_later)
    | (with_reducible apply State.onlyIf_later)
    | (with_reducible apply State.foldl_later)
    | (intro x k hx)
    | (intro x hx)
    | split

theorem execDisplayTest_later (s : State) : Runs s (execDisplayTest s) := by
  unfold execDisplayTest
  try dsimp only
  repeat' first
    | (with_reducible assumption)
    | (with_reducible exact Later.refl _)
    | (with_reducible apply Runs.next)
    | (with_reducible apply State.writeTestDse_later)

theorem State.testPanel_later {z0 s : State} (hz : Later z0 s) : Later z0 (State.testPanel s) := by
  unfold State.testPanel
  try dsimp only
  repeat' first
    | (with_reducible assumption)
    | (with_reducible apply State.driveRow_later)
    | (with_reducible apply State.each_later)
    | (with_reducible apply State.onlyIf_later)
    | (with_reducible apply State.foldl_later)
    | (intro x k hx)

theorem State.ledgerDisagrees_later {z0 s : State} (hz : Later z0 s) (rows : List (Nat × Int)) : Later z0 (State.ledgerDisagrees s rows) := by
  unfold State.ledgerDisagrees
  try dsimp only
  repeat' first
    | (with_reducible assumption)
    | (with_reducible apply State.setDse_later)
    | (with_reducible apply State.put_later)
    | (with_reducible apply State.raise_later)
    | (with_reducible apply State.each_later)
    | (with_reducible apply State.onlyIf_later)
    | (with_reducible apply State.foldl_later)
    | (intro x k hx)

theorem State.recover_later {z0 s : State} (hz : Later z0 s) : Later z0 (State.recover s) := by
  unfold State.recover
  try dsimp only
  repeat' first
    | (with_reducible assumption)
    | (with_reducible apply State.setDse_later)
    | (with_reducible apply State.raise_later)

theorem execDriveVoltageFault_later (vdh : BitVec 16) (vdl : BitVec 16) (rows : Nat) (s : State) : Runs s (execDriveVoltageFault vdh vdl rows s) := by
  unfold execDriveVoltageFault
  try dsimp only
  repeat' first
    | (with_reducible assumption)
    | (with_reducible exact Later.refl _)
    | (with_reducible apply Runs.next)
    | (with_reducible apply State.put_later)
    | (with_reducible apply State.take_later)
    | (with_reducible apply State.writeRow_later)
    | (with_reducible apply State.setDse_later)
    | (with_reducible apply State.putFlag_later)
    | (with_reducible apply State.raise2_later)
    | (with_reducible apply State.each_later)
    | (with_reducible apply State.onlyIf_later)
    | (with_reducible apply State.foldl_later)
    | (intro x k hx)
    | (intro x hx)
    | split

theorem State.setMark_later {z0 s : State} (hz : Later z0 s) (on : Bool) : Later z0 (State.setMark s on) := by
  unfold State.setMark
  try dsimp only
  repeat' first
    | (with_reducible assumption)
    | (with_reducible apply State.putFlag_later)
    | (with_reducible apply State.raise_later)
    | (with_reducible apply State.each_later)
    | (with_reducible apply State.onlyIf_later)
    | (with_reducible apply State.foldl_later)
    | (intro x k hx)
    | (intro x hx)
    | split

theorem State.lanternDraw_later {z0 s : State} (hz : Later z0 s) (balanced : Bool) (all : Bool) : Later z0 (State.lanternDraw s balanced all) := by
  unfold State.lanternDraw
  try dsimp only
  repeat' first
    | (with_reducible assumption)
    | (with_reducible apply State.putRow_later)
    | (with_reducible apply State.each_later)
    | (with_reducible apply State.onlyIf_later)
    | (with_reducible apply State.foldl_later)
    | (intro x k hx)

theorem State.showLantern_later {z0 s : State} (hz : Later z0 s) (l : Lantern) : Later z0 (State.showLantern s l) := by
  unfold State.showLantern
  try dsimp only
  repeat' first
    | (with_reducible assumption)
    | (with_reducible apply State.setDse_later)
    | (with_reducible apply State.putFlag_later)
    | (with_reducible apply State.put_later)
    | (with_reducible apply State.setMark_later)
    | (with_reducible apply State.raise2_later)

theorem State.lanternAct_later {z0 s : State} (hz : Later z0 s) : Later z0 (State.lanternAct s) := by
  unfold State.lanternAct
  try dsimp only
  repeat' first
    | (with_reducible assumption)
    | (with_reducible apply State.setMark_later)
    | (with_reducible apply State.committed_later)
    | (with_reducible apply State.showLantern_later)
    | (with_reducible apply State.each_later)
    | (with_reducible apply State.onlyIf_later)
    | (with_reducible apply State.foldl_later)
    | (intro x k hx)
    | (intro x hx)
    | split

theorem State.lanternRun_later {z0 s : State} (hz : Later z0 s) : Later z0 (State.lanternRun s) := by
  unfold State.lanternRun
  try dsimp only
  repeat' first
    | (with_reducible assumption)
    | (with_reducible apply State.lanternAct_later)
    | (with_reducible apply State.lanternDraw_later)
    | (with_reducible apply State.each_later)
    | (with_reducible apply State.onlyIf_later)
    | (with_reducible apply State.foldl_later)
    | (intro x k hx)
    | (intro x hx)
    | split

theorem execDisplayUpdateDone_later (vdh : BitVec 16) (vdl : BitVec 16) (copies : List (Nat × Int)) (s : State) : Runs s (execDisplayUpdateDone vdh vdl copies s) := by
  unfold execDisplayUpdateDone
  try dsimp only
  repeat' first
    | (with_reducible assumption)
    | (with_reducible exact Later.refl _)
    | (with_reducible apply Runs.next)
    | (with_reducible apply State.put_later)
    | (with_reducible apply State.setDse_later)
    | (with_reducible apply State.count_later)
    | (with_reducible apply State.raise_later)
    | (with_reducible apply State.writeRow_later)
    | (with_reducible apply State.testPanel_later)
    | (with_reducible apply State.lanternDraw_later)
    | (with_reducible apply State.ledgerDisagrees_later)
    | (with_reducible apply State.recover_later)
    | (with_reducible apply State.each_later)
    | (with_reducible apply State.onlyIf_later)
    | (with_reducible apply State.foldl_later)
    | (intro x k hx)
    | (intro x hx)
    | split

theorem execLanternStopLatch_later (n : Fin 24) (s : State) : Runs s (execLanternStopLatch n s) := by
  unfold execLanternStopLatch
  try dsimp only
  repeat' first
    | (with_reducible assumption)
    | (with_reducible exact Later.refl _)
    | (with_reducible apply Runs.next)
    | (with_reducible apply State.setDse_later)
    | (with_reducible apply State.putFlag_later)
    | (with_reducible apply State.lanternRun_later)
    | (with_reducible apply State.each_later)
    | (with_reducible apply State.onlyIf_later)
    | (with_reducible apply State.foldl_later)
    | (intro x k hx)
    | (intro x hx)
    | split

theorem execLanternCommit_later (n : Fin 24) (s : State) : Runs s (execLanternCommit n s) := by
  unfold execLanternCommit
  try dsimp only
  repeat' first
    | (with_reducible assumption)
    | (with_reducible exact Later.refl _)
    | (with_reducible apply Runs.next)
    | (with_reducible apply State.setDse_later)
    | (with_reducible apply State.lanternRun_later)
    | (with_reducible apply State.each_later)
    | (with_reducible apply State.onlyIf_later)
    | (with_reducible apply State.foldl_later)
    | (intro x k hx)
    | (intro x hx)
    | split

theorem execDriveVoltageResume_later (vdh : BitVec 16) (vdl : BitVec 16) (s : State) : Runs s (execDriveVoltageResume vdh vdl s) := by
  unfold execDriveVoltageResume
  try dsimp only
  repeat' first
    | (with_reducible assumption)
    | (with_reducible exact Later.refl _)
    | (with_reducible apply Runs.next)
    | (with_reducible apply State.put_later)
    | (with_reducible apply State.moveTo_later)
    | (with_reducible apply State.setDse_later)
    | (with_reducible apply State.putFlag_later)
    | (with_reducible apply State.raise2_later)
    | (with_reducible apply State.lanternRun_later)
    | (with_reducible apply State.each_later)
    | (with_reducible apply State.onlyIf_later)
    | (with_reducible apply State.foldl_later)
    | (intro x k hx)
    | (intro x hx)
    | split

theorem State.writeFrame_later {z0 s : State} (hz : Later z0 s) (w : Nat) (v : Nat) : Later z0 (State.writeFrame s w v) := by
  unfold State.writeFrame
  try dsimp only
  repeat' first
    | (with_reducible assumption)
    | (with_reducible apply State.setDse_later)
    | (with_reducible apply State.each_later)
    | (with_reducible apply State.onlyIf_later)
    | (with_reducible apply State.foldl_later)
    | (intro x k hx)
    | (intro x hx)
    | split

theorem State.showStress_later {z0 s : State} (hz : Later z0 s) : Later z0 (State.showStress s) := by
  unfold State.showStress
  try dsimp only
  repeat' first
    | (with_reducible assumption)
    | (with_reducible apply State.put_later)

theorem State.dsePlan_later {z0 s : State} (hz : Later z0 s) : Later z0 (State.dsePlan s) := by
  unfold State.dsePlan
  try dsimp only
  repeat' first
    | (with_reducible assumption)
    | (with_reducible apply State.setDse_later)
    | (with_reducible apply State.each_later)
    | (with_reducible apply State.onlyIf_later)
    | (with_reducible apply State.foldl_later)
    | (intro x k hx)
    | (intro x hx)
    | split
    | (with_reducible refine Later.built ?_ ?_ ?_ ?_; rotate_left; exact rfl; exact rfl; exact rfl)

theorem State.dseStart_later {z0 s : State} (hz : Later z0 s) : Later z0 (State.dseStart s) := by
  unfold State.dseStart
  try dsimp only
  repeat' first
    | (with_reducible assumption)
    | (with_reducible apply State.clearUnit_later)
    | (with_reducible apply State.setDse_later)
    | (with_reducible apply State.putFlag_later)
    | (with_reducible apply State.lanternRun_later)
    | (with_reducible apply State.each_later)
    | (with_reducible apply State.onlyIf_later)
    | (with_reducible apply State.foldl_later)
    | (intro x k hx)
    | (intro x hx)
    | split

theorem State.dseWarm_later {z0 s : State} (hz : Later z0 s) : Later z0 (State.dseWarm s) := by
  unfold State.dseWarm
  try dsimp only
  repeat' first
    | (with_reducible assumption)
    | (with_reducible apply State.clearUnit_later)
    | (with_reducible apply State.setDse_later)
    | (with_reducible apply State.each_later)
    | (with_reducible apply State.onlyIf_later)
    | (with_reducible apply State.foldl_later)
    | (intro x k hx)
    | (intro x hx)
    | split

theorem State.dsePowerFail_later {z0 s : State} (hz : Later z0 s) : Later z0 (State.dsePowerFail s) := by
  unfold State.dsePowerFail
  try dsimp only
  repeat' first
    | (with_reducible assumption)
    | (with_reducible apply State.setDse_later)
    | (with_reducible apply State.put_later)
    | (with_reducible apply State.count_later)
    | (with_reducible apply State.raise_later)
    | (with_reducible apply State.each_later)
    | (with_reducible apply State.onlyIf_later)
    | (with_reducible apply State.foldl_later)
    | (intro x k hx)
    | (intro x hx)
    | split

end Sys2Proof.Machine
end

