-- ==== Sys2Proof/Laws/LaterSwitch.lean ====
section
/-! SUPPORT. Every operation and every command of the switch channels leads to a later state (Laws/Later.lean). -/

namespace Sys2Proof.Machine

open Sys2Proof

theorem State.setPhase_later {z0 s : State} (hz : Later z0 s) (c : Nat) (ph : Nat) : Later z0 (State.setPhase s c ph) := by
  unfold State.setPhase
  try dsimp only
  repeat' first
    | (with_reducible assumption)
    | (with_reducible apply State.put_later)
    | (with_reducible apply State.putBit_later)
    | (with_reducible apply State.putFlag_later)

theorem State.leaveQueue_later {z0 s : State} (hz : Later z0 s) (c : Nat) : Later z0 (State.leaveQueue s c) := by
  unfold State.leaveQueue
  try dsimp only
  repeat' first
    | (with_reducible assumption)
    | (with_reducible apply State.putBit_later)
    | (with_reducible apply State.setSw_later)
    | (with_reducible apply State.each_later)
    | (with_reducible apply State.onlyIf_later)
    | (with_reducible apply State.foldl_later)
    | (intro x k hx)

theorem State.startLockTimers_later {z0 s : State} (hz : Later z0 s) (c : Nat) : Later z0 (State.startLockTimers s c) := by
  unfold State.startLockTimers
  try dsimp only
  repeat' first
    | (with_reducible assumption)
    | (with_reducible apply State.setOiu_later)
    | (with_reducible apply State.each_later)
    | (with_reducible apply State.onlyIf_later)
    | (with_reducible apply State.foldl_later)
    | (intro x k hx)
    | (intro x hx)
    | split

theorem State.grantSlot_later {z0 s : State} (hz : Later z0 s) (c : Nat) : Later z0 (State.grantSlot s c) := by
  unfold State.grantSlot
  try dsimp only
  repeat' first
    | (with_reducible assumption)
    | (with_reducible apply State.leaveQueue_later)
    | (with_reducible apply State.setSw_later)
    | (with_reducible apply State.putFlag_later)
    | (with_reducible apply State.put_later)
    | (with_reducible apply State.setPhase_later)
    | (with_reducible apply State.count_later)
    | (with_reducible apply State.startLockTimers_later)

theorem State.serveBank_later {z0 s : State} (hz : Later z0 s) (k : Nat) : Later z0 (State.serveBank s k) := by
  unfold State.serveBank
  try dsimp only
  repeat' first
    | (with_reducible assumption)
    | (with_reducible apply State.grantSlot_later)
    | (with_reducible apply State.each_later)
    | (with_reducible apply State.onlyIf_later)
    | (with_reducible apply State.foldl_later)
    | (intro x k hx)
    | (intro x hx)
    | split

theorem State.releaseSlot_later {z0 s : State} (hz : Later z0 s) (c : Nat) : Later z0 (State.releaseSlot s c) := by
  unfold State.releaseSlot
  try dsimp only
  repeat' first
    | (with_reducible assumption)
    | (with_reducible apply State.putFlag_later)
    | (with_reducible apply State.put_later)
    | (with_reducible apply State.serveBank_later)
    | (with_reducible apply State.each_later)
    | (with_reducible apply State.onlyIf_later)
    | (with_reducible apply State.foldl_later)
    | (intro x k hx)
    | (intro x hx)
    | split

theorem State.endFreeze_later {z0 s : State} (hz : Later z0 s) (c : Nat) : Later z0 (State.endFreeze s c) := by
  unfold State.endFreeze
  try dsimp only
  repeat' first
    | (with_reducible assumption)
    | (with_reducible apply State.setSw_later)
    | (with_reducible apply State.putFlag_later)
    | (with_reducible apply State.raise2_later)
    | (with_reducible apply State.each_later)
    | (with_reducible apply State.onlyIf_later)
    | (with_reducible apply State.foldl_later)
    | (intro x k hx)
    | (intro x hx)
    | split

theorem State.joinQueue_later {z0 s : State} (hz : Later z0 s) (c : Nat) : Later z0 (State.joinQueue s c) := by
  unfold State.joinQueue
  try dsimp only
  repeat' first
    | (with_reducible assumption)
    | (with_reducible apply State.putBit_later)
    | (with_reducible apply State.setPhase_later)

theorem State.askSlot_later {z0 s : State} (hz : Later z0 s) (c : Nat) : Later z0 (State.askSlot s c) := by
  unfold State.askSlot
  try dsimp only
  repeat' first
    | (with_reducible assumption)
    | (with_reducible apply State.joinQueue_later)
    | (with_reducible apply State.serveBank_later)
    | (with_reducible apply State.each_later)
    | (with_reducible apply State.onlyIf_later)
    | (with_reducible apply State.foldl_later)
    | (intro x k hx)
    | (intro x hx)
    | split

theorem State.chOff_later {z0 s : State} (hz : Later z0 s) (c : Nat) (ph : Nat) (fast : Bool) : Later z0 (State.chOff s c ph fast) := by
  unfold State.chOff
  try dsimp only
  repeat' first
    | (with_reducible assumption)
    | (with_reducible apply State.endFreeze_later)
    | (with_reducible apply State.leaveQueue_later)
    | (with_reducible apply State.setSw_later)
    | (with_reducible apply State.setPhase_later)
    | (with_reducible apply State.releaseSlot_later)

theorem State.uncount_later {z0 s : State} (hz : Later z0 s) (c : Nat) : Later z0 (State.uncount s c) := by
  unfold State.uncount
  try dsimp only
  repeat' first
    | (with_reducible assumption)
    | (with_reducible apply State.put_later)
    | (with_reducible apply State.setSw_later)
    | (with_reducible apply State.setPhase_later)
    | (with_reducible apply State.each_later)
    | (with_reducible apply State.onlyIf_later)
    | (with_reducible apply State.foldl_later)
    | (intro x k hx)
    | (intro x hx)
    | split

theorem State.swRefresh_later {z0 s : State} (hz : Later z0 s) (c : Nat) : Later z0 (State.swRefresh s c) := by
  unfold State.swRefresh
  try dsimp only
  repeat' first
    | (with_reducible assumption)
    | (with_reducible apply State.uncount_later)
    | (with_reducible apply State.putFlag_later)
    | (with_reducible apply State.askSlot_later)
    | (with_reducible apply State.chOff_later)
    | (with_reducible apply State.each_later)
    | (with_reducible apply State.onlyIf_later)
    | (with_reducible apply State.foldl_later)
    | (intro x k hx)
    | (intro x hx)
    | split

theorem State.swPermit_later {z0 s : State} (hz : Later z0 s) (c : Nat) (b : Bool) : Later z0 (State.swPermit s c b) := by
  unfold State.swPermit
  try dsimp only
  repeat' first
    | (with_reducible assumption)
    | (with_reducible apply State.putBit_later)
    | (with_reducible apply State.putFlag_later)
    | (with_reducible apply State.swRefresh_later)

theorem State.swTripLine_later {z0 s : State} (hz : Later z0 s) (c : Nat) (b : Bool) : Later z0 (State.swTripLine s c b) := by
  unfold State.swTripLine
  try dsimp only
  repeat' first
    | (with_reducible assumption)
    | (with_reducible apply State.putBit_later)
    | (with_reducible apply State.swRefresh_later)

theorem State.endTry_later {z0 s : State} (hz : Later z0 s) (c : Nat) (hot : Bool) : Later z0 (State.endTry s c hot) := by
  unfold State.endTry
  try dsimp only
  repeat' first
    | (with_reducible assumption)
    | (with_reducible apply State.chOff_later)
    | (with_reducible apply State.put_later)
    | (with_reducible apply State.raise2_later)
    | (with_reducible apply State.setSw_later)
    | (with_reducible apply State.each_later)
    | (with_reducible apply State.onlyIf_later)
    | (with_reducible apply State.foldl_later)
    | (intro x k hx)
    | (intro x hx)
    | split

theorem State.swFault_later {z0 s : State} (hz : Later z0 s) (c : Nat) (kind : ChFault) : Later z0 (State.swFault s c kind) := by
  unfold State.swFault
  try dsimp only
  repeat' first
    | (with_reducible assumption)
    | (with_reducible apply State.put_later)
    | (with_reducible apply State.count_later)
    | (with_reducible apply State.setSw_later)
    | (with_reducible apply State.raise2_later)
    | (with_reducible apply State.endTry_later)
    | (with_reducible apply State.chOff_later)
    | (with_reducible apply State.each_later)
    | (with_reducible apply State.onlyIf_later)
    | (with_reducible apply State.foldl_later)
    | (intro x k hx)
    | (intro x hx)
    | split

theorem State.writeOn_later {z0 s : State} (hz : Later z0 s) (c : Nat) (b : Bool) : Later z0 (State.writeOn s c b) := by
  unfold State.writeOn
  try dsimp only
  repeat' first
    | (with_reducible assumption)
    | (with_reducible apply State.putFlag_later)
    | (with_reducible apply State.setSw_later)
    | (with_reducible apply State.swRefresh_later)
    | (with_reducible apply State.each_later)
    | (with_reducible apply State.onlyIf_later)
    | (with_reducible apply State.foldl_later)
    | (intro x k hx)
    | (intro x hx)
    | split

theorem execChannelTurnOn_later (c : Fin 32) (s : State) : Runs s (execChannelTurnOn c s) := by
  unfold execChannelTurnOn
  try dsimp only
  repeat' first
    | (with_reducible assumption)
    | (with_reducible exact Later.refl _)
    | (with_reducible apply Runs.next)
    | (with_reducible apply State.writeOn_later)
    | (with_reducible apply State.swRefresh_later)
    | (with_reducible apply State.each_later)
    | (with_reducible apply State.onlyIf_later)
    | (with_reducible apply State.foldl_later)
    | (intro x k hx)
    | (intro x hx)
    | split

theorem execChannelTurnOff_later (c : Fin 32) (s : State) : Runs s (execChannelTurnOff c s) := by
  unfold execChannelTurnOff
  try dsimp only
  repeat' first
    | (with_reducible assumption)
    | (with_reducible exact Later.refl _)
    | (with_reducible apply Runs.next)
    | (with_reducible apply State.writeOn_later)
    | (with_reducible apply State.swRefresh_later)
    | (with_reducible apply State.each_later)
    | (with_reducible apply State.onlyIf_later)
    | (with_reducible apply State.foldl_later)
    | (intro x k hx)
    | (intro x hx)
    | split

theorem execInrushSlotGrant_later (k : Fin 4) (s : State) : Runs s (execInrushSlotGrant k s) := by
  unfold execInrushSlotGrant
  try dsimp only
  repeat' first
    | (with_reducible assumption)
    | (with_reducible exact Later.refl _)
    | (with_reducible apply Runs.next)
    | (with_reducible apply State.serveBank_later)

theorem State.windowEnd_later {z0 s : State} (hz : Later z0 s) (c : Nat) (limiting : Bool) : Later z0 (State.windowEnd s c limiting) := by
  unfold State.windowEnd
  try dsimp only
  repeat' first
    | (with_reducible assumption)
    | (with_reducible apply State.swFault_later)
    | (with_reducible apply State.endFreeze_later)
    | (with_reducible apply State.setPhase_later)
    | (with_reducible apply State.setSw_later)
    | (with_reducible apply State.releaseSlot_later)
    | (with_reducible apply State.each_later)
    | (with_reducible apply State.onlyIf_later)
    | (with_reducible apply State.foldl_later)
    | (intro x k hx)
    | (intro x hx)
    | split

theorem execInrushWindowEnd_later (c : Fin 32) (limiting : Bool) (s : State) : Runs s (execInrushWindowEnd c limiting s) := by
  unfold execInrushWindowEnd
  try dsimp only
  repeat' first
    | (with_reducible assumption)
    | (with_reducible exact Later.refl _)
    | (with_reducible apply Runs.next)
    | (with_reducible apply State.moveTo_later)
    | (with_reducible apply State.windowEnd_later)
    | (with_reducible apply State.each_later)
    | (with_reducible apply State.onlyIf_later)
    | (with_reducible apply State.foldl_later)
    | (intro x k hx)
    | (intro x hx)
    | split

theorem execShortCircuit_later (c : Fin 32) (limited : Bool) (millivolts : Nat) (s : State) : Runs s (execShortCircuit c limited millivolts s) := by
  unfold execShortCircuit
  try dsimp only
  repeat' first
    | (with_reducible assumption)
    | (with_reducible exact Later.refl _)
    | (with_reducible apply Runs.next)
    | (with_reducible apply State.swFault_later)
    | (with_reducible apply State.each_later)
    | (with_reducible apply State.onlyIf_later)
    | (with_reducible apply State.foldl_later)
    | (intro x k hx)
    | (intro x hx)
    | split

theorem State.takeLoad_later {z0 s : State} (hz : Later z0 s) (c : Nat) (l : List LoadSpan) : Later z0 (State.takeLoad s c l) := by
  induction l generalizing s with
  | nil => exact hz
  | cons x l ih =>
    unfold State.takeLoad
    extract_lets w s1
    have h1 : Later z0 s1 := State.setSw_later hz _ _
    clear_value s1
    split
    · exact State.swFault_later h1 _ _
    · exact ih h1

theorem execOvercurrent_later (c : Fin 32) (load : List LoadSpan) (s : State) : Runs s (execOvercurrent c load s) := by
  unfold execOvercurrent
  try dsimp only
  repeat' first
    | (with_reducible assumption)
    | (with_reducible exact Later.refl _)
    | (with_reducible apply Runs.next)
    | (with_reducible apply State.takeLoad_later)
    | (with_reducible apply State.each_later)
    | (with_reducible apply State.onlyIf_later)
    | (with_reducible apply State.foldl_later)
    | (intro x k hx)
    | (intro x hx)
    | split
    | (with_reducible refine Later.built ?_ ?_ ?_ ?_; rotate_left; exact rfl; exact rfl; exact rfl)

theorem execOvertemperature_later (c : Fin 32) (junction : Nat) (s : State) : Runs s (execOvertemperature c junction s) := by
  unfold execOvertemperature
  try dsimp only
  repeat' first
    | (with_reducible assumption)
    | (with_reducible exact Later.refl _)
    | (with_reducible apply Runs.next)
    | (with_reducible apply State.swFault_later)
    | (with_reducible apply State.each_later)
    | (with_reducible apply State.onlyIf_later)
    | (with_reducible apply State.foldl_later)
    | (intro x k hx)
    | (intro x hx)
    | split

theorem execRetryPauseEnd_later (c : Fin 32) (junction : Nat) (s : State) : Runs s (execRetryPauseEnd c junction s) := by
  unfold execRetryPauseEnd
  try dsimp only
  repeat' first
    | (with_reducible assumption)
    | (with_reducible exact Later.refl _)
    | (with_reducible apply Runs.next)
    | (with_reducible apply State.moveTo_later)
    | (with_reducible apply State.setSw_later)
    | (with_reducible apply State.setPhase_later)
    | (with_reducible apply State.swRefresh_later)
    | (with_reducible apply State.each_later)
    | (with_reducible apply State.onlyIf_later)
    | (with_reducible apply State.foldl_later)
    | (intro x k hx)
    | (intro x hx)
    | split

theorem execTriesReset_later (c : Fin 32) (s : State) : Runs s (execTriesReset c s) := by
  unfold execTriesReset
  try dsimp only
  repeat' first
    | (with_reducible assumption)
    | (with_reducible exact Later.refl _)
    | (with_reducible apply Runs.next)
    | (with_reducible apply State.moveTo_later)
    | (with_reducible apply State.setSw_later)
    | (with_reducible apply State.put_later)
    | (with_reducible apply State.each_later)
    | (with_reducible apply State.onlyIf_later)
    | (with_reducible apply State.foldl_later)
    | (intro x k hx)
    | (intro x hx)
    | split

theorem State.clearLatch_later {z0 s : State} (hz : Later z0 s) (c : Nat) : Later z0 (State.clearLatch s c) := by
  unfold State.clearLatch
  try dsimp only
  repeat' first
    | (with_reducible assumption)
    | (with_reducible apply State.put_later)
    | (with_reducible apply State.setPhase_later)
    | (with_reducible apply State.raise2_later)
    | (with_reducible apply State.swRefresh_later)
    | (with_reducible apply State.each_later)
    | (with_reducible apply State.onlyIf_later)
    | (with_reducible apply State.foldl_later)
    | (intro x k hx)
    | (intro x hx)
    | split

theorem State.latchClear_later {z0 s : State} (hz : Later z0 s) (c : Nat) : Later z0 (State.latchClear s c) := by
  unfold State.latchClear
  try dsimp only
  repeat' first
    | (with_reducible assumption)
    | (with_reducible apply State.setSw_later)
    | (with_reducible apply State.clearLatch_later)
    | (with_reducible apply State.each_later)
    | (with_reducible apply State.onlyIf_later)
    | (with_reducible apply State.foldl_later)
    | (intro x k hx)
    | (intro x hx)
    | split

theorem execLatchclr_later (c : Fin 32) (s : State) : Runs s (execLatchclr c s) := by
  unfold execLatchclr
  try dsimp only
  repeat' first
    | (with_reducible assumption)
    | (with_reducible exact Later.refl _)
    | (with_reducible apply Runs.next)
    | (with_reducible apply State.latchClear_later)

theorem State.bankVolts_later {z0 s : State} (hz : Later z0 s) (k : Nat) (vnow : Nat) (vmean : Nat) : Later z0 (State.bankVolts s k vnow vmean) := by
  unfold State.bankVolts
  try dsimp only
  repeat' first
    | (with_reducible assumption)
    | (with_reducible apply State.put_later)

theorem State.freezeLimit_later {z0 s : State} (hz : Later z0 s) (k : Nat) : Later z0 (State.freezeLimit s k) := by
  unfold State.freezeLimit
  try dsimp only
  repeat' first
    | (with_reducible assumption)
    | (with_reducible apply State.endFreeze_later)
    | (with_reducible apply State.each_later)
    | (with_reducible apply State.onlyIf_later)
    | (with_reducible apply State.foldl_later)
    | (intro x k hx)
    | (intro x hx)
    | split

theorem State.judgeDroop_later {z0 s : State} (hz : Later z0 s) (k : Nat) : Later z0 (State.judgeDroop s k) := by
  unfold State.judgeDroop
  try dsimp only
  repeat' first
    | (with_reducible assumption)
    | (with_reducible apply State.freezeLimit_later)
    | (with_reducible apply State.putFlag_later)
    | (with_reducible apply State.setSw_later)
    | (with_reducible apply State.endFreeze_later)
    | (with_reducible apply State.each_later)
    | (with_reducible apply State.onlyIf_later)
    | (with_reducible apply State.foldl_later)
    | (intro x k hx)
    | (intro x hx)
    | split

theorem execBankDroop_later (k : Fin 4) (vnow : BitVec 16) (vmean : BitVec 16) (s : State) : Runs s (execBankDroop k vnow vmean s) := by
  unfold execBankDroop
  try dsimp only
  repeat' first
    | (with_reducible assumption)
    | (with_reducible exact Later.refl _)
    | (with_reducible apply Runs.next)
    | (with_reducible apply State.bankVolts_later)
    | (with_reducible apply State.judgeDroop_later)

theorem execBankDroopEnd_later (k : Fin 4) (vnow : BitVec 16) (vmean : BitVec 16) (s : State) : Runs s (execBankDroopEnd k vnow vmean s) := by
  unfold execBankDroopEnd
  try dsimp only
  repeat' first
    | (with_reducible assumption)
    | (with_reducible exact Later.refl _)
    | (with_reducible apply Runs.next)
    | (with_reducible apply State.bankVolts_later)
    | (with_reducible apply State.judgeDroop_later)

theorem execBankUndervoltage_later (k : Fin 4) (vnow : BitVec 16) (s : State) : Runs s (execBankUndervoltage k vnow s) := by
  unfold execBankUndervoltage
  try dsimp only
  repeat' first
    | (with_reducible assumption)
    | (with_reducible exact Later.refl _)
    | (with_reducible apply Runs.next)
    | (with_reducible apply State.put_later)
    | (with_reducible apply State.judgeDroop_later)
    | (with_reducible apply State.putFlag_later)
    | (with_reducible apply State.chOff_later)
    | (with_reducible apply State.raise2_later)
    | (with_reducible apply State.each_later)
    | (with_reducible apply State.onlyIf_later)
    | (with_reducible apply State.foldl_later)
    | (intro x k hx)
    | (intro x hx)
    | split

theorem execBankUndervoltageEnd_later (k : Fin 4) (vnow : BitVec 16) (s : State) : Runs s (execBankUndervoltageEnd k vnow s) := by
  unfold execBankUndervoltageEnd
  try dsimp only
  repeat' first
    | (with_reducible assumption)
    | (with_reducible exact Later.refl _)
    | (with_reducible apply Runs.next)
    | (with_reducible apply State.put_later)
    | (with_reducible apply State.judgeDroop_later)
    | (with_reducible apply State.joinQueue_later)
    | (with_reducible apply State.putFlag_later)
    | (with_reducible apply State.serveBank_later)
    | (with_reducible apply State.raise2_later)
    | (with_reducible apply State.each_later)
    | (with_reducible apply State.onlyIf_later)
    | (with_reducible apply State.foldl_later)
    | (intro x k hx)
    | (intro x hx)
    | split

theorem State.shed_later {r s : State} (h : Later r s) (k : Nat) (ma l : List Nat) (sum : Nat) : Later r (s.shed k ma l sum) := by
  induction l generalizing s sum with
  | nil => exact h
  | cons c l ih =>
    unfold State.shed
    split
    · exact h
    · exact ih (State.raise2_later (State.swFault_later h _ _) _ _ _) _

theorem execBankOvercurrent_later (k : Fin 4) (milliamps : List Nat) (micros : Nat) (s : State) : Runs s (execBankOvercurrent k milliamps micros s) := by
  unfold execBankOvercurrent
  try dsimp only
  repeat' first
    | (with_reducible assumption)
    | (with_reducible exact Later.refl _)
    | (with_reducible apply Runs.next)
    | (with_reducible apply State.put_later)
    | (with_reducible apply State.shed_later)
    | (with_reducible apply State.each_later)
    | (with_reducible apply State.onlyIf_later)
    | (with_reducible apply State.foldl_later)
    | (intro x k hx)
    | (intro x hx)
    | split

theorem execOpenLoadChange_later (c : Fin 32) (millivolts : Nat) (s : State) : Runs s (execOpenLoadChange c millivolts s) := by
  unfold execOpenLoadChange
  try dsimp only
  repeat' first
    | (with_reducible assumption)
    | (with_reducible exact Later.refl _)
    | (with_reducible apply Runs.next)
    | (with_reducible apply State.moveTo_later)
    | (with_reducible apply State.putFlag_later)
    | (with_reducible apply State.put_later)
    | (with_reducible apply State.raise2_later)
    | (with_reducible apply State.each_later)
    | (with_reducible apply State.onlyIf_later)
    | (with_reducible apply State.foldl_later)
    | (intro x k hx)
    | (intro x hx)
    | split

theorem execPwmFrame_later (c : Fin 32) (vmean : BitVec 16) (s : State) : Runs s (execPwmFrame c vmean s) := by
  unfold execPwmFrame
  try dsimp only
  repeat' first
    | (with_reducible assumption)
    | (with_reducible exact Later.refl _)
    | (with_reducible apply Runs.next)
    | (with_reducible apply State.moveTo_later)
    | (with_reducible apply State.setSw_later)
    | (with_reducible apply State.put_later)
    | (with_reducible apply State.judgeDroop_later)
    | (with_reducible apply State.apply_later)
    | (with_reducible apply State.swRefresh_later)
    | (with_reducible apply State.clearLatch_later)
    | (with_reducible apply State.putFlag_later)
    | (with_reducible apply State.raise2_later)
    | (with_reducible apply State.each_later)
    | (with_reducible apply State.onlyIf_later)
    | (with_reducible apply State.foldl_later)
    | (intro x k hx)
    | (intro x hx)
    | split

theorem State.swGuyExpiry_later {z0 s : State} (hz : Later z0 s) (c : Nat) : Later z0 (State.swGuyExpiry s c) := by
  unfold State.swGuyExpiry
  try dsimp only
  repeat' first
    | (with_reducible assumption)
    | (with_reducible apply State.setSw_later)
    | (with_reducible apply State.swRefresh_later)
    | (with_reducible apply State.raise2_later)
    | (with_reducible apply State.each_later)
    | (with_reducible apply State.onlyIf_later)
    | (with_reducible apply State.foldl_later)
    | (intro x k hx)
    | (intro x hx)
    | split

theorem State.swReset_later {z0 s : State} (hz : Later z0 s) : Later z0 (State.swReset s) := by
  unfold State.swReset
  try dsimp only
  repeat' first
    | (with_reducible assumption)
    | (with_reducible apply State.put_later)
    | (with_reducible apply State.chOff_later)
    | (with_reducible apply State.setSw_later)
    | (with_reducible apply State.clearUnit_later)
    | (with_reducible apply State.judgeDroop_later)
    | (with_reducible apply State.each_later)
    | (with_reducible apply State.onlyIf_later)
    | (with_reducible apply State.foldl_later)
    | (intro x k hx)

end Sys2Proof.Machine
end

