-- ==== Sys2Proof/Laws/LaterOutlet.lean ====
section
/-! SUPPORT. Every operation and every command of the outlets leads to a later state (Laws/Later.lean). -/

namespace Sys2Proof.Machine

open Sys2Proof

theorem State.route_later {z0 s : State} (hz : Later z0 s) (n : Nat) : Later z0 (State.route s n) := by
  unfold State.route
  try dsimp only
  repeat' first
    | (with_reducible assumption)
    | (with_reducible apply State.swRefresh_later)
    | (with_reducible apply State.each_later)
    | (with_reducible apply State.onlyIf_later)
    | (with_reducible apply State.foldl_later)
    | (intro x k hx)

theorem State.cmdRise_later {z0 s : State} (hz : Later z0 s) (n : Nat) : Later z0 (State.cmdRise s n) := by
  unfold State.cmdRise
  try dsimp only
  repeat' first
    | (with_reducible assumption)
    | (with_reducible apply State.setOiu_later)
    | (with_reducible apply State.putFlag_later)
    | (with_reducible apply State.route_later)

theorem State.cmdDrop_later {z0 s : State} (hz : Later z0 s) (n : Nat) : Later z0 (State.cmdDrop s n) := by
  unfold State.cmdDrop
  try dsimp only
  repeat' first
    | (with_reducible assumption)
    | (with_reducible apply State.setOiu_later)
    | (with_reducible apply State.putFlag_later)
    | (with_reducible apply State.route_later)

theorem State.trackC1_later {z0 s : State} (hz : Later z0 s) (n : Nat) : Later z0 (State.trackC1 s n) := by
  unfold State.trackC1
  try dsimp only
  repeat' first
    | (with_reducible assumption)
    | (with_reducible apply State.setOiu_later)
    | (with_reducible apply State.each_later)
    | (with_reducible apply State.onlyIf_later)
    | (with_reducible apply State.foldl_later)
    | (intro x k hx)
    | (intro x hx)
    | split

theorem State.setRcm_later {z0 s : State} (hz : Later z0 s) (c : Nat) (v : Rcm) : Later z0 (State.setRcm s c v) := by
  unfold State.setRcm
  try dsimp only
  repeat' first
    | (with_reducible assumption)
    | (with_reducible apply State.each_later)
    | (with_reducible apply State.onlyIf_later)
    | (with_reducible apply State.foldl_later)
    | (intro x k hx)
    | (intro x hx)
    | split
    | (with_reducible refine Later.built ?_ ?_ ?_ ?_; rotate_left; exact rfl; exact rfl; exact rfl)

theorem State.setImd_later {z0 s : State} (hz : Later z0 s) (k : Nat) (v : Imd) : Later z0 (State.setImd s k v) := by
  unfold State.setImd
  try dsimp only
  repeat' first
    | (with_reducible assumption)
    | (with_reducible apply State.each_later)
    | (with_reducible apply State.onlyIf_later)
    | (with_reducible apply State.foldl_later)
    | (intro x k hx)
    | (intro x hx)
    | split
    | (with_reducible refine Later.built ?_ ?_ ?_ ?_; rotate_left; exact rfl; exact rfl; exact rfl)

theorem State.injRefresh_later {z0 s : State} (hz : Later z0 s) (k : Nat) : Later z0 (State.injRefresh s k) := by
  unfold State.injRefresh
  try dsimp only
  repeat' first
    | (with_reducible assumption)
    | (with_reducible apply State.putFlag_later)

theorem State.startImdTest_later {z0 s : State} (hz : Later z0 s) (k : Nat) (clearing : Bool) : Later z0 (State.startImdTest s k clearing) := by
  unfold State.startImdTest
  try dsimp only
  repeat' first
    | (with_reducible assumption)
    | (with_reducible apply State.setImd_later)
    | (with_reducible apply State.injRefresh_later)
    | (with_reducible apply State.each_later)
    | (with_reducible apply State.onlyIf_later)
    | (with_reducible apply State.foldl_later)
    | (intro x k hx)
    | (intro x hx)
    | split

theorem State.imdDaily_later {z0 s : State} (hz : Later z0 s) (k : Nat) : Later z0 (State.imdDaily s k) := by
  unfold State.imdDaily
  try dsimp only
  repeat' first
    | (with_reducible assumption)
    | (with_reducible apply State.setImd_later)
    | (with_reducible apply State.startImdTest_later)

theorem State.imdFollow_later {z0 s : State} (hz : Later z0 s) (n : Nat) : Later z0 (State.imdFollow s n) := by
  unfold State.imdFollow
  try dsimp only
  repeat' first
    | (with_reducible assumption)
    | (with_reducible apply State.injRefresh_later)
    | (with_reducible apply State.imdDaily_later)
    | (with_reducible apply State.each_later)
    | (with_reducible apply State.onlyIf_later)
    | (with_reducible apply State.foldl_later)
    | (intro x k hx)
    | (intro x hx)
    | split

theorem State.moduleBack_later {z0 s : State} (hz : Later z0 s) (n : Nat) : Later z0 (State.moduleBack s n) := by
  unfold State.moduleBack
  try dsimp only
  repeat' first
    | (with_reducible assumption)
    | (with_reducible apply State.putFlag_later)
    | (with_reducible apply State.each_later)
    | (with_reducible apply State.onlyIf_later)
    | (with_reducible apply State.foldl_later)
    | (intro x k hx)
    | (intro x hx)
    | split
    | (with_reducible refine Later.built ?_ ?_ ?_ ?_; rotate_left; exact rfl; exact rfl; exact rfl)

theorem State.newSession_later {z0 s : State} (hz : Later z0 s) (n : Nat) : Later z0 (State.newSession s n) := by
  unfold State.newSession
  try dsimp only
  repeat' first
    | (with_reducible assumption)
    | (with_reducible apply State.moduleBack_later)
    | (with_reducible apply State.each_later)
    | (with_reducible apply State.onlyIf_later)
    | (with_reducible apply State.foldl_later)
    | (intro x k hx)
    | (intro x hx)
    | split
    | (with_reducible refine Later.built ?_ ?_ ?_ ?_; rotate_left; exact rfl; exact rfl; exact rfl)

theorem State.noteOpened_later {z0 s : State} (hz : Later z0 s) (n : Nat) : Later z0 (State.noteOpened s n) := by
  unfold State.noteOpened
  try dsimp only
  repeat' first
    | (with_reducible assumption)
    | (with_reducible apply State.each_later)
    | (with_reducible apply State.onlyIf_later)
    | (with_reducible apply State.foldl_later)
    | (intro x k hx)
    | (intro x hx)
    | split
    | (with_reducible refine Later.built ?_ ?_ ?_ ?_; rotate_left; exact rfl; exact rfl; exact rfl)

theorem State.contact_later {z0 s : State} (hz : Later z0 s) (n : Nat) : Later z0 (State.contact s n) := by
  unfold State.contact
  try dsimp only
  repeat' first
    | (with_reducible assumption)
    | (with_reducible apply State.put_later)
    | (with_reducible apply State.cmdRise_later)
    | (with_reducible apply State.noteOpened_later)
    | (with_reducible apply State.cmdDrop_later)
    | (with_reducible apply State.trackC1_later)
    | (with_reducible apply State.imdFollow_later)
    | (with_reducible apply State.each_later)
    | (with_reducible apply State.onlyIf_later)
    | (with_reducible apply State.foldl_later)
    | (intro x k hx)
    | (intro x hx)
    | split

theorem State.withdraw_later {z0 s : State} (hz : Later z0 s) (n : Nat) : Later z0 (State.withdraw s n) := by
  unfold State.withdraw
  try dsimp only
  repeat' first
    | (with_reducible assumption)
    | (with_reducible apply State.putFlag_later)
    | (with_reducible apply State.contact_later)
    | (with_reducible apply State.each_later)
    | (with_reducible apply State.onlyIf_later)
    | (with_reducible apply State.foldl_later)
    | (intro x k hx)
    | (intro x hx)
    | split

theorem State.degrade_later {z0 s : State} (hz : Later z0 s) : Later z0 (State.degrade s) := by
  unfold State.degrade
  try dsimp only
  repeat' first
    | (with_reducible assumption)
    | (with_reducible apply State.withdraw_later)
    | (with_reducible apply State.each_later)
    | (with_reducible apply State.onlyIf_later)
    | (with_reducible apply State.foldl_later)
    | (intro x k hx)
    | (intro x hx)

theorem State.setUnavail_later {z0 s : State} (hz : Later z0 s) (n : Nat) : Later z0 (State.setUnavail s n) := by
  unfold State.setUnavail
  try dsimp only
  repeat' first
    | (with_reducible assumption)
    | (with_reducible apply State.putFlag_later)

theorem State.showIcode_later {z0 s : State} (hz : Later z0 s) (n : Nat) : Later z0 (State.showIcode s n) := by
  unfold State.showIcode
  try dsimp only
  repeat' first
    | (with_reducible assumption)
    | (with_reducible apply State.put_later)
    | (with_reducible apply State.each_later)
    | (with_reducible apply State.onlyIf_later)
    | (with_reducible apply State.foldl_later)
    | (intro x k hx)
    | (intro x hx)
    | split
    | (with_reducible refine Later.built ?_ ?_ ?_ ?_; rotate_left; exact rfl; exact rfl; exact rfl)

theorem State.driveCoil_later {z0 s : State} (hz : Later z0 s) (n : Nat) (c : Coil) : Later z0 (State.driveCoil s n c) := by
  unfold State.driveCoil
  try dsimp only
  repeat' first
    | (with_reducible assumption)
    | (with_reducible apply State.setOiu_later)
    | (with_reducible apply State.swRefresh_later)
    | (with_reducible apply State.each_later)
    | (with_reducible apply State.onlyIf_later)
    | (with_reducible apply State.foldl_later)
    | (intro x k hx)
    | (intro x hx)
    | split

theorem State.lockAttempt_later {z0 s : State} (hz : Later z0 s) (n : Nat) (tries : Nat) (lock : Bool) : Later z0 (State.lockAttempt s n tries lock) := by
  unfold State.lockAttempt
  try dsimp only
  repeat' first
    | (with_reducible assumption)
    | (with_reducible apply State.put_later)
    | (with_reducible apply State.setOiu_later)
    | (with_reducible apply State.driveCoil_later)
    | (with_reducible apply State.contact_later)

theorem State.startLock_later {z0 s : State} (hz : Later z0 s) (n : Nat) : Later z0 (State.startLock s n) := by
  unfold State.startLock
  try dsimp only
  repeat' first
    | (with_reducible assumption)
    | (with_reducible apply State.lockAttempt_later)
    | (with_reducible apply State.setOiu_later)
    | (with_reducible apply State.each_later)
    | (with_reducible apply State.onlyIf_later)
    | (with_reducible apply State.foldl_later)
    | (intro x k hx)
    | (intro x hx)
    | split

theorem State.startUnlock_later {z0 s : State} (hz : Later z0 s) (n : Nat) : Later z0 (State.startUnlock s n) := by
  unfold State.startUnlock
  try dsimp only
  repeat' first
    | (with_reducible assumption)
    | (with_reducible apply State.setOiu_later)
    | (with_reducible apply State.lockAttempt_later)
    | (with_reducible apply State.each_later)
    | (with_reducible apply State.onlyIf_later)
    | (with_reducible apply State.foldl_later)
    | (intro x k hx)
    | (intro x hx)
    | split

theorem State.faultF_later {z0 s : State} (hz : Later z0 s) (n : Nat) : Later z0 (State.faultF s n) := by
  unfold State.faultF
  try dsimp only
  repeat' first
    | (with_reducible assumption)
    | (with_reducible apply State.put_later)
    | (with_reducible apply State.setOiu_later)

theorem State.tripPilot_later {z0 s : State} (hz : Later z0 s) (n : Nat) : Later z0 (State.tripPilot s n) := by
  unfold State.tripPilot
  try dsimp only
  repeat' first
    | (with_reducible assumption)
    | (with_reducible apply State.faultF_later)
    | (with_reducible apply State.setOiu_later)

theorem State.reportState_later {z0 s : State} (hz : Later z0 s) (n : Nat) (code : Nat) : Later z0 (State.reportState s n code) := by
  unfold State.reportState
  try dsimp only
  repeat' first
    | (with_reducible assumption)
    | (with_reducible apply State.put_later)
    | (with_reducible apply State.setOiu_later)
    | (with_reducible apply State.count_later)
    | (with_reducible apply State.raise2_later)

theorem State.contactByPilot_later {z0 s : State} (hz : Later z0 s) (n : Nat) (code : Nat) : Later z0 (State.contactByPilot s n code) := by
  unfold State.contactByPilot
  try dsimp only
  repeat' first
    | (with_reducible assumption)
    | (with_reducible apply State.contact_later)
    | (with_reducible apply State.raise2_later)
    | (with_reducible apply State.each_later)
    | (with_reducible apply State.onlyIf_later)
    | (with_reducible apply State.foldl_later)
    | (intro x k hx)
    | (intro x hx)

theorem State.confirm_later {z0 s : State} (hz : Later z0 s) (n : Nat) (l : Letter) : Later z0 (State.confirm s n l) := by
  unfold State.confirm
  try dsimp only
  repeat' first
    | (with_reducible assumption)
    | (with_reducible apply State.reportState_later)
    | (with_reducible apply State.putFlag_later)
    | (with_reducible apply State.put_later)
    | (with_reducible apply State.setOiu_later)
    | (with_reducible apply State.newSession_later)
    | (with_reducible apply State.contactByPilot_later)
    | (with_reducible apply State.startUnlock_later)
    | (with_reducible apply State.raise2_later)
    | (with_reducible apply State.setUnavail_later)
    | (with_reducible apply State.faultF_later)
    | (with_reducible apply State.each_later)
    | (with_reducible apply State.onlyIf_later)
    | (with_reducible apply State.foldl_later)
    | (intro x k hx)
    | (intro x hx)
    | split

theorem State.takeVhi_later {z0 s : State} (hz : Later z0 s) (n : Nat) (vhi : Int) : Later z0 (State.takeVhi s n vhi) := by
  unfold State.takeVhi
  try dsimp only
  repeat' first
    | (with_reducible assumption)
    | (with_reducible apply State.setOiu_later)
    | (with_reducible apply State.put_later)
    | (with_reducible apply State.each_later)
    | (with_reducible apply State.onlyIf_later)
    | (with_reducible apply State.foldl_later)
    | (intro x k hx)
    | (intro x hx)
    | split

theorem State.runStep_later {z0 s : State} (hz : Later z0 s) (n : Nat) (l : Letter) : Later z0 (State.runStep s n l) := by
  unfold State.runStep
  try dsimp only
  repeat' first
    | (with_reducible assumption)
    | (with_reducible apply State.setOiu_later)
    | (with_reducible apply State.put_later)
    | (with_reducible apply State.count_later)
    | (with_reducible apply State.each_later)
    | (with_reducible apply State.onlyIf_later)
    | (with_reducible apply State.foldl_later)
    | (intro x k hx)
    | (intro x hx)
    | split

theorem State.confirmLow_later {z0 s : State} (hz : Later z0 s) (n : Nat) (c : LowClass) : Later z0 (State.confirmLow s n c) := by
  unfold State.confirmLow
  try dsimp only
  repeat' first
    | (with_reducible assumption)
    | (with_reducible apply State.setOiu_later)
    | (with_reducible apply State.confirm_later)
    | (with_reducible apply State.each_later)
    | (with_reducible apply State.onlyIf_later)
    | (with_reducible apply State.foldl_later)
    | (intro x k hx)
    | (intro x hx)
    | split

theorem State.takeVlo_later {z0 s : State} (hz : Later z0 s) (n : Nat) (vlo : Int) : Later z0 (State.takeVlo s n vlo) := by
  unfold State.takeVlo
  try dsimp only
  repeat' first
    | (with_reducible assumption)
    | (with_reducible apply State.put_later)
    | (with_reducible apply State.count_later)
    | (with_reducible apply State.setOiu_later)
    | (with_reducible apply State.confirmLow_later)
    | (with_reducible apply State.each_later)
    | (with_reducible apply State.onlyIf_later)
    | (with_reducible apply State.foldl_later)
    | (intro x k hx)
    | (intro x hx)
    | split

theorem State.takeLow_later {z0 s : State} (hz : Later z0 s) (n : Nat) (vlo : Option Int) : Later z0 (State.takeLow s n vlo) := by
  unfold State.takeLow
  try dsimp only
  repeat' first
    | (with_reducible assumption)
    | (with_reducible apply State.put_later)
    | (with_reducible apply State.takeVlo_later)
    | (with_reducible apply State.each_later)
    | (with_reducible apply State.onlyIf_later)
    | (with_reducible apply State.foldl_later)
    | (intro x k hx)
    | (intro x hx)
    | split

theorem State.applyPilot_later {z0 s : State} (hz : Later z0 s) (n : Nat) : Later z0 (State.applyPilot s n) := by
  unfold State.applyPilot
  try dsimp only
  repeat' first
    | (with_reducible assumption)
    | (with_reducible apply State.apply_later)
    | (with_reducible apply State.each_later)
    | (with_reducible apply State.onlyIf_later)
    | (with_reducible apply State.foldl_later)
    | (intro x k hx)

theorem State.latchPilot_later {z0 s : State} (hz : Later z0 s) (n : Nat) : Later z0 (State.latchPilot s n) := by
  unfold State.latchPilot
  try dsimp only
  repeat' first
    | (with_reducible assumption)
    | (with_reducible apply State.applyPilot_later)
    | (with_reducible apply State.putEff_later)
    | (with_reducible apply State.each_later)
    | (with_reducible apply State.onlyIf_later)
    | (with_reducible apply State.foldl_later)
    | (intro x k hx)
    | (intro x hx)

theorem State.setDigit_later {z0 s : State} (hz : Later z0 s) (n : Nat) : Later z0 (State.setDigit s n) := by
  unfold State.setDigit
  try dsimp only
  repeat' first
    | (with_reducible assumption)
    | (with_reducible apply State.put_later)
    | (with_reducible apply State.setOiu_later)
    | (with_reducible apply State.each_later)
    | (with_reducible apply State.onlyIf_later)
    | (with_reducible apply State.foldl_later)
    | (intro x k hx)
    | (intro x hx)

theorem State.modeChange_later {z0 s : State} (hz : Later z0 s) (n : Nat) (was : Nat) : Later z0 (State.modeChange s n was) := by
  unfold State.modeChange
  try dsimp only
  repeat' first
    | (with_reducible assumption)
    | (with_reducible apply State.setOiu_later)
    | (with_reducible apply State.each_later)
    | (with_reducible apply State.onlyIf_later)
    | (with_reducible apply State.foldl_later)
    | (intro x k hx)
    | (intro x hx)
    | split

theorem State.startGenerated_later {z0 s : State} (hz : Later z0 s) (n : Nat) : Later z0 (State.startGenerated s n) := by
  unfold State.startGenerated
  try dsimp only
  repeat' first
    | (with_reducible assumption)
    | (with_reducible apply State.setOiu_later)
    | (with_reducible apply State.reportState_later)
    | (with_reducible apply State.contactByPilot_later)
    | (with_reducible apply State.each_later)
    | (with_reducible apply State.onlyIf_later)
    | (with_reducible apply State.foldl_later)
    | (intro x k hx)
    | (intro x hx)

theorem State.pilotPeriod_later {z0 s : State} (hz : Later z0 s) (n : Nat) : Later z0 (State.pilotPeriod s n) := by
  unfold State.pilotPeriod
  try dsimp only
  repeat' first
    | (with_reducible assumption)
    | (with_reducible apply State.moveTo_later)
    | (with_reducible apply State.setOiu_later)
    | (with_reducible apply State.latchPilot_later)
    | (with_reducible apply State.showIcode_later)
    | (with_reducible apply State.put_later)
    | (with_reducible apply State.setDigit_later)
    | (with_reducible apply State.modeChange_later)
    | (with_reducible apply State.trackC1_later)
    | (with_reducible apply State.contact_later)
    | (with_reducible apply State.startGenerated_later)
    | (with_reducible apply State.each_later)
    | (with_reducible apply State.onlyIf_later)
    | (with_reducible apply State.foldl_later)
    | (intro x k hx)
    | (intro x hx)
    | split

theorem execLock_later (n : Fin 24) (s : State) : Runs s (execLock n s) := by
  unfold execLock
  try dsimp only
  repeat' first
    | (with_reducible assumption)
    | (with_reducible exact Later.refl _)
    | (with_reducible apply Runs.next)
    | (with_reducible apply State.startLock_later)

theorem State.writeUnlock_later {z0 s : State} (hz : Later z0 s) (n : Nat) : Later z0 (State.writeUnlock s n) := by
  unfold State.writeUnlock
  try dsimp only
  repeat' first
    | (with_reducible assumption)
    | (with_reducible apply State.startUnlock_later)
    | (with_reducible apply State.each_later)
    | (with_reducible apply State.onlyIf_later)
    | (with_reducible apply State.foldl_later)
    | (intro x k hx)
    | (intro x hx)
    | split

theorem execUnlock_later (n : Fin 24) (s : State) : Runs s (execUnlock n s) := by
  unfold execUnlock
  try dsimp only
  repeat' first
    | (with_reducible assumption)
    | (with_reducible exact Later.refl _)
    | (with_reducible apply Runs.next)
    | (with_reducible apply State.writeUnlock_later)

theorem execLkpulseEnd_later (n : Fin 24) (s : State) : Runs s (execLkpulseEnd n s) := by
  unfold execLkpulseEnd
  try dsimp only
  repeat' first
    | (with_reducible assumption)
    | (with_reducible exact Later.refl _)
    | (with_reducible apply Runs.next)
    | (with_reducible apply State.moveTo_later)
    | (with_reducible apply State.driveCoil_later)
    | (with_reducible apply State.startUnlock_later)
    | (with_reducible apply State.startLock_later)
    | (with_reducible apply State.each_later)
    | (with_reducible apply State.onlyIf_later)
    | (with_reducible apply State.foldl_later)
    | (intro x k hx)
    | (intro x hx)
    | split

theorem execLockFeedbackConfirmed_later (n : Fin 24) (closed : Bool) (s : State) : Runs s (execLockFeedbackConfirmed n closed s) := by
  unfold execLockFeedbackConfirmed
  try dsimp only
  repeat' first
    | (with_reducible assumption)
    | (with_reducible exact Later.refl _)
    | (with_reducible apply Runs.next)
    | (with_reducible apply State.putFlag_later)
    | (with_reducible apply State.put_later)
    | (with_reducible apply State.setOiu_later)
    | (with_reducible apply State.contact_later)
    | (with_reducible apply State.each_later)
    | (with_reducible apply State.onlyIf_later)
    | (with_reducible apply State.foldl_later)
    | (intro x k hx)
    | (intro x hx)
    | split

theorem execLkconfExpiry_later (n : Fin 24) (s : State) : Runs s (execLkconfExpiry n s) := by
  unfold execLkconfExpiry
  try dsimp only
  repeat' first
    | (with_reducible assumption)
    | (with_reducible exact Later.refl _)
    | (with_reducible apply Runs.next)
    | (with_reducible apply State.moveTo_later)
    | (with_reducible apply State.setOiu_later)
    | (with_reducible apply State.put_later)
    | (with_reducible apply State.raise2_later)
    | (with_reducible apply State.contact_later)
    | (with_reducible apply State.withdraw_later)
    | (with_reducible apply State.each_later)
    | (with_reducible apply State.onlyIf_later)
    | (with_reducible apply State.foldl_later)
    | (intro x k hx)
    | (intro x hx)
    | split

theorem execLockRetry_later (n : Fin 24) (s : State) : Runs s (execLockRetry n s) := by
  unfold execLockRetry
  try dsimp only
  repeat' first
    | (with_reducible assumption)
    | (with_reducible exact Later.refl _)
    | (with_reducible apply Runs.next)
    | (with_reducible apply State.moveTo_later)
    | (with_reducible apply State.lockAttempt_later)
    | (with_reducible apply State.each_later)
    | (with_reducible apply State.onlyIf_later)
    | (with_reducible apply State.foldl_later)
    | (intro x k hx)
    | (intro x hx)
    | split

theorem execLockFeedbackOpen_later (n : Fin 24) (s : State) : Runs s (execLockFeedbackOpen n s) := by
  unfold execLockFeedbackOpen
  try dsimp only
  repeat' first
    | (with_reducible assumption)
    | (with_reducible exact Later.refl _)
    | (with_reducible apply Runs.next)
    | (with_reducible apply State.putFlag_later)
    | (with_reducible apply State.put_later)
    | (with_reducible apply State.contact_later)
    | (with_reducible apply State.each_later)
    | (with_reducible apply State.onlyIf_later)
    | (with_reducible apply State.foldl_later)
    | (intro x k hx)
    | (intro x hx)
    | split

theorem State.writeCloseEn_later {z0 s : State} (hz : Later z0 s) (n : Nat) (en : Bool) : Later z0 (State.writeCloseEn s n en) := by
  unfold State.writeCloseEn
  try dsimp only
  repeat' first
    | (with_reducible assumption)
    | (with_reducible apply State.putFlag_later)
    | (with_reducible apply State.contact_later)
    | (with_reducible apply State.each_later)
    | (with_reducible apply State.onlyIf_later)
    | (with_reducible apply State.foldl_later)
    | (intro x k hx)
    | (intro x hx)
    | split

theorem execCloseEn_later (n : Fin 24) (en : Bool) (s : State) : Runs s (execCloseEn n en s) := by
  unfold execCloseEn
  try dsimp only
  repeat' first
    | (with_reducible assumption)
    | (with_reducible exact Later.refl _)
    | (with_reducible apply Runs.next)
    | (with_reducible apply State.writeCloseEn_later)

theorem execWeldtExpiry_later (n : Fin 24) (closed : Bool) (s : State) : Runs s (execWeldtExpiry n closed s) := by
  unfold execWeldtExpiry
  try dsimp only
  repeat' first
    | (with_reducible assumption)
    | (with_reducible exact Later.refl _)
    | (with_reducible apply Runs.next)
    | (with_reducible apply State.moveTo_later)
    | (with_reducible apply State.setOiu_later)
    | (with_reducible apply State.putFlag_later)
    | (with_reducible apply State.put_later)
    | (with_reducible apply State.raise2_later)
    | (with_reducible apply State.faultF_later)
    | (with_reducible apply State.contact_later)
    | (with_reducible apply State.startUnlock_later)
    | (with_reducible apply State.each_later)
    | (with_reducible apply State.onlyIf_later)
    | (with_reducible apply State.foldl_later)
    | (intro x k hx)
    | (intro x hx)
    | split

theorem execCloseFeedbackTimeout_later (n : Fin 24) (closed : Bool) (s : State) : Runs s (execCloseFeedbackTimeout n closed s) := by
  unfold execCloseFeedbackTimeout
  try dsimp only
  repeat' first
    | (with_reducible assumption)
    | (with_reducible exact Later.refl _)
    | (with_reducible apply Runs.next)
    | (with_reducible apply State.moveTo_later)
    | (with_reducible apply State.setOiu_later)
    | (with_reducible apply State.putFlag_later)
    | (with_reducible apply State.setUnavail_later)
    | (with_reducible apply State.contact_later)
    | (with_reducible apply State.raise2_later)
    | (with_reducible apply State.each_later)
    | (with_reducible apply State.onlyIf_later)
    | (with_reducible apply State.foldl_later)
    | (intro x k hx)
    | (intro x hx)
    | split

theorem execC1maxExpiry_later (n : Fin 24) (s : State) : Runs s (execC1maxExpiry n s) := by
  unfold execC1maxExpiry
  try dsimp only
  repeat' first
    | (with_reducible assumption)
    | (with_reducible exact Later.refl _)
    | (with_reducible apply Runs.next)
    | (with_reducible apply State.moveTo_later)
    | (with_reducible apply State.setOiu_later)
    | (with_reducible apply State.putFlag_later)
    | (with_reducible apply State.contact_later)
    | (with_reducible apply State.raise2_later)
    | (with_reducible apply State.each_later)
    | (with_reducible apply State.onlyIf_later)
    | (with_reducible apply State.foldl_later)
    | (intro x k hx)
    | (intro x hx)
    | split

theorem execFHoldExpiry_later (n : Fin 24) (s : State) : Runs s (execFHoldExpiry n s) := by
  unfold execFHoldExpiry
  try dsimp only
  repeat' first
    | (with_reducible assumption)
    | (with_reducible exact Later.refl _)
    | (with_reducible apply Runs.next)
    | (with_reducible apply State.moveTo_later)
    | (with_reducible apply State.setOiu_later)
    | (with_reducible apply State.each_later)
    | (with_reducible apply State.onlyIf_later)
    | (with_reducible apply State.foldl_later)
    | (intro x k hx)
    | (intro x hx)
    | split

theorem State.clearOiuFaults_later {z0 s : State} (hz : Later z0 s) (n : Nat) (weld : Bool) (lockf : Bool) : Later z0 (State.clearOiuFaults s n weld lockf) := by
  unfold State.clearOiuFaults
  try dsimp only
  repeat' first
    | (with_reducible assumption)
    | (with_reducible apply State.put_later)
    | (with_reducible apply State.setOiu_later)
    | (with_reducible apply State.contact_later)
    | (with_reducible apply State.each_later)
    | (with_reducible apply State.onlyIf_later)
    | (with_reducible apply State.foldl_later)
    | (intro x k hx)
    | (intro x hx)

theorem execOiuFaultClear_later (n : Fin 24) (weld : Bool) (lockf : Bool) (s : State) : Runs s (execOiuFaultClear n weld lockf s) := by
  unfold execOiuFaultClear
  try dsimp only
  repeat' first
    | (with_reducible assumption)
    | (with_reducible exact Later.refl _)
    | (with_reducible apply Runs.next)
    | (with_reducible apply State.clearOiuFaults_later)

theorem State.sensorEvents_later {z0 s : State} (hz : Later z0 s) (n : Nat) (ta : Int) (tb : Int) : Later z0 (State.sensorEvents s n ta tb) := by
  unfold State.sensorEvents
  try dsimp only
  repeat' first
    | (with_reducible assumption)
    | (with_reducible apply State.put_later)
    | (with_reducible apply State.raise2_later)
    | (with_reducible apply State.setOiu_later)
    | (with_reducible apply State.each_later)
    | (with_reducible apply State.onlyIf_later)
    | (with_reducible apply State.foldl_later)
    | (intro x k hx)
    | (intro x hx)

theorem execTemperatureEvaluation_later (n : Fin 24) (ta : Int) (tb : Int) (s : State) : Runs s (execTemperatureEvaluation n ta tb s) := by
  unfold execTemperatureEvaluation
  try dsimp only
  repeat' first
    | (with_reducible assumption)
    | (with_reducible exact Later.refl _)
    | (with_reducible apply Runs.next)
    | (with_reducible apply State.sensorEvents_later)
    | (with_reducible apply State.raise2_later)
    | (with_reducible apply State.putFlag_later)
    | (with_reducible apply State.setOiu_later)
    | (with_reducible apply State.showIcode_later)
    | (with_reducible apply State.contact_later)
    | (with_reducible apply State.each_later)
    | (with_reducible apply State.onlyIf_later)
    | (with_reducible apply State.foldl_later)
    | (intro x k hx)
    | (intro x hx)
    | split

theorem execTemperatureCutOpen_later (n : Fin 24) (s : State) : Runs s (execTemperatureCutOpen n s) := by
  unfold execTemperatureCutOpen
  try dsimp only
  repeat' first
    | (with_reducible assumption)
    | (with_reducible exact Later.refl _)
    | (with_reducible apply Runs.next)
    | (with_reducible apply State.moveTo_later)
    | (with_reducible apply State.setOiu_later)
    | (with_reducible apply State.contact_later)
    | (with_reducible apply State.each_later)
    | (with_reducible apply State.onlyIf_later)
    | (with_reducible apply State.foldl_later)
    | (intro x k hx)
    | (intro x hx)
    | split

theorem execZreqShutdownRelease_later (n : Fin 24) (s : State) : Runs s (execZreqShutdownRelease n s) := by
  unfold execZreqShutdownRelease
  try dsimp only
  repeat' first
    | (with_reducible assumption)
    | (with_reducible exact Later.refl _)
    | (with_reducible apply Runs.next)
    | (with_reducible apply State.setOiu_later)
    | (with_reducible apply State.putFlag_later)
    | (with_reducible apply State.contact_later)
    | (with_reducible apply State.raise2_later)
    | (with_reducible apply State.each_later)
    | (with_reducible apply State.onlyIf_later)
    | (with_reducible apply State.foldl_later)
    | (intro x k hx)
    | (intro x hx)
    | split

theorem State.guyShutdown_later {z0 s : State} (hz : Later z0 s) (n : Nat) : Later z0 (State.guyShutdown s n) := by
  unfold State.guyShutdown
  try dsimp only
  repeat' first
    | (with_reducible assumption)
    | (with_reducible apply State.putFlag_later)
    | (with_reducible apply State.setOiu_later)
    | (with_reducible apply State.raise2_later)

theorem State.hlcFallback_later {z0 s : State} (hz : Later z0 s) (n : Nat) : Later z0 (State.hlcFallback s n) := by
  unfold State.hlcFallback
  try dsimp only
  repeat' first
    | (with_reducible assumption)
    | (with_reducible apply State.put_later)
    | (with_reducible apply State.setOiu_later)
    | (with_reducible apply State.each_later)
    | (with_reducible apply State.onlyIf_later)
    | (with_reducible apply State.foldl_later)
    | (intro x k hx)
    | (intro x hx)
    | split

theorem execHlcFallback_later (n : Fin 24) (s : State) : Runs s (execHlcFallback n s) := by
  unfold execHlcFallback
  try dsimp only
  repeat' first
    | (with_reducible assumption)
    | (with_reducible exact Later.refl _)
    | (with_reducible apply Runs.next)
    | (with_reducible apply State.hlcFallback_later)

theorem execFallbackPwmResume_later (n : Fin 24) (s : State) : Runs s (execFallbackPwmResume n s) := by
  unfold execFallbackPwmResume
  try dsimp only
  repeat' first
    | (with_reducible assumption)
    | (with_reducible exact Later.refl _)
    | (with_reducible apply Runs.next)
    | (with_reducible apply State.moveTo_later)
    | (with_reducible apply State.setOiu_later)
    | (with_reducible apply State.put_later)
    | (with_reducible apply State.each_later)
    | (with_reducible apply State.onlyIf_later)
    | (with_reducible apply State.foldl_later)
    | (intro x k hx)
    | (intro x hx)
    | split

theorem State.oiuReset_later {z0 s : State} (hz : Later z0 s) (n : Nat) : Later z0 (State.oiuReset s n) := by
  unfold State.oiuReset
  try dsimp only
  repeat' first
    | (with_reducible assumption)
    | (with_reducible apply State.cmdDrop_later)
    | (with_reducible apply State.clearUnit_later)
    | (with_reducible apply State.setOiu_later)
    | (with_reducible apply State.route_later)
    | (with_reducible apply State.each_later)
    | (with_reducible apply State.onlyIf_later)
    | (with_reducible apply State.foldl_later)
    | (intro x k hx)
    | (intro x hx)

theorem State.confirmBand_later {z0 s : State} (hz : Later z0 s) (n : Nat) (ohm : Nat) : Later z0 (State.confirmBand s n ohm) := by
  unfold State.confirmBand
  try dsimp only
  repeat' first
    | (with_reducible assumption)
    | (with_reducible apply State.put_later)
    | (with_reducible apply State.setUnavail_later)
    | (with_reducible apply State.contact_later)
    | (with_reducible apply State.raise2_later)
    | (with_reducible apply State.startLock_later)
    | (with_reducible apply State.showIcode_later)
    | (with_reducible apply State.each_later)
    | (with_reducible apply State.onlyIf_later)
    | (with_reducible apply State.foldl_later)
    | (intro x k hx)
    | (intro x hx)
    | split

end Sys2Proof.Machine
end

