-- ==== Sys2Proof/Laws/LaterEarth.lean ====
section
/-! SUPPORT. Every operation and every command of the EFU leads to a later state (Laws/Later.lean). -/

namespace Sys2Proof.Machine

open Sys2Proof

theorem State.efuAct_later {z0 s : State} (hz : Later z0 s) (n : Nat) : Later z0 (State.efuAct s n) := by
  unfold State.efuAct
  try dsimp only
  repeat' first
    | (with_reducible assumption)
    | (with_reducible apply State.swTripLine_later)
    | (with_reducible apply State.contact_later)
    | (with_reducible apply State.each_later)
    | (with_reducible apply State.onlyIf_later)
    | (with_reducible apply State.foldl_later)
    | (intro x k hx)

theorem State.tripOutlet_later {z0 s : State} (hz : Later z0 s) (n : Nat) : Later z0 (State.tripOutlet s n) := by
  unfold State.tripOutlet
  try dsimp only
  repeat' first
    | (with_reducible assumption)
    | (with_reducible apply State.putFlag_later)
    | (with_reducible apply State.tripPilot_later)
    | (with_reducible apply State.efuAct_later)

theorem State.startRcmTest_later {z0 s : State} (hz : Later z0 s) (c : Nat) (clearing : Bool) : Later z0 (State.startRcmTest s c clearing) := by
  unfold State.startRcmTest
  try dsimp only
  repeat' first
    | (with_reducible assumption)
    | (with_reducible apply State.setRcm_later)
    | (with_reducible apply State.put_later)
    | (with_reducible apply State.efuAct_later)
    | (with_reducible apply State.each_later)
    | (with_reducible apply State.onlyIf_later)
    | (with_reducible apply State.foldl_later)
    | (intro x k hx)
    | (intro x hx)
    | split

theorem State.rcmLockout_later {z0 s : State} (hz : Later z0 s) (c : Nat) : Later z0 (State.rcmLockout s c) := by
  unfold State.rcmLockout
  try dsimp only
  repeat' first
    | (with_reducible assumption)
    | (with_reducible apply State.put_later)
    | (with_reducible apply State.putFlag_later)
    | (with_reducible apply State.setRcm_later)
    | (with_reducible apply State.efuAct_later)
    | (with_reducible apply State.each_later)
    | (with_reducible apply State.onlyIf_later)
    | (with_reducible apply State.foldl_later)
    | (intro x k hx)
    | (intro x hx)
    | split

theorem State.rcmTrip_later {z0 s : State} (hz : Later z0 s) (c : Nat) (band : Nat) : Later z0 (State.rcmTrip s c band) := by
  unfold State.rcmTrip
  try dsimp only
  repeat' first
    | (with_reducible assumption)
    | (with_reducible apply State.setRcm_later)
    | (with_reducible apply State.put_later)
    | (with_reducible apply State.putFlag_later)
    | (with_reducible apply State.count_later)
    | (with_reducible apply State.tripOutlet_later)
    | (with_reducible apply State.raise2_later)
    | (with_reducible apply State.each_later)
    | (with_reducible apply State.onlyIf_later)
    | (with_reducible apply State.foldl_later)
    | (intro x k hx)
    | (intro x hx)
    | split

theorem State.clearTrip_later {z0 s : State} (hz : Later z0 s) (c : Nat) (detail : Nat) : Later z0 (State.clearTrip s c detail) := by
  unfold State.clearTrip
  try dsimp only
  repeat' first
    | (with_reducible assumption)
    | (with_reducible apply State.putFlag_later)
    | (with_reducible apply State.put_later)
    | (with_reducible apply State.setRcm_later)
    | (with_reducible apply State.raise2_later)
    | (with_reducible apply State.startRcmTest_later)
    | (with_reducible apply State.efuAct_later)
    | (with_reducible apply State.each_later)
    | (with_reducible apply State.onlyIf_later)
    | (with_reducible apply State.foldl_later)
    | (intro x k hx)
    | (intro x hx)
    | split

theorem State.clearAtUnplug_later {z0 s : State} (hz : Later z0 s) (c : Nat) : Later z0 (State.clearAtUnplug s c) := by
  unfold State.clearAtUnplug
  try dsimp only
  repeat' first
    | (with_reducible assumption)
    | (with_reducible apply State.clearTrip_later)
    | (with_reducible apply State.each_later)
    | (with_reducible apply State.onlyIf_later)
    | (with_reducible apply State.foldl_later)
    | (intro x k hx)
    | (intro x hx)
    | split

theorem State.takeSample_later {z0 s : State} (hz : Later z0 s) (c : Nat) (counts : Int) : Later z0 (State.takeSample s c counts) := by
  unfold State.takeSample
  try dsimp only
  repeat' first
    | (with_reducible assumption)
    | (with_reducible apply State.setRcm_later)
    | (with_reducible apply State.put_later)

theorem State.testSample_later {z0 s : State} (hz : Later z0 s) (c : Nat) : Later z0 (State.testSample s c) := by
  unfold State.testSample
  try dsimp only
  repeat' first
    | (with_reducible assumption)
    | (with_reducible apply State.setRcm_later)
    | (with_reducible apply State.each_later)
    | (with_reducible apply State.onlyIf_later)
    | (with_reducible apply State.foldl_later)
    | (intro x k hx)
    | (intro x hx)
    | split

theorem State.rcmDaily_later {z0 s : State} (hz : Later z0 s) (c : Nat) : Later z0 (State.rcmDaily s c) := by
  unfold State.rcmDaily
  try dsimp only
  repeat' first
    | (with_reducible assumption)
    | (with_reducible apply State.setRcm_later)
    | (with_reducible apply State.startRcmTest_later)

theorem execRcmSlice_later (c : Fin 24) (counts : Int) (s : State) : Runs s (execRcmSlice c counts s) := by
  unfold execRcmSlice
  try dsimp only
  repeat' first
    | (with_reducible assumption)
    | (with_reducible exact Later.refl _)
    | (with_reducible apply Runs.next)
    | (with_reducible apply State.rcmDaily_later)
    | (with_reducible apply State.takeSample_later)
    | (with_reducible apply State.testSample_later)
    | (with_reducible apply State.rcmTrip_later)
    | (with_reducible apply State.clearAtUnplug_later)
    | (with_reducible apply State.each_later)
    | (with_reducible apply State.onlyIf_later)
    | (with_reducible apply State.foldl_later)
    | (intro x k hx)
    | (intro x hx)
    | split

theorem execRcmTrip_later (c : Fin 24) (band : Fin 6) (s : State) : Runs s (execRcmTrip c band s) := by
  unfold execRcmTrip
  try dsimp only
  repeat' first
    | (with_reducible assumption)
    | (with_reducible exact Later.refl _)
    | (with_reducible apply Runs.next)
    | (with_reducible apply State.rcmTrip_later)
    | (with_reducible apply State.each_later)
    | (with_reducible apply State.onlyIf_later)
    | (with_reducible apply State.foldl_later)
    | (intro x k hx)
    | (intro x hx)
    | split
    | (with_reducible refine Later.built ?_ ?_ ?_ ?_; rotate_left; exact rfl; exact rfl; exact rfl)

theorem State.tripClear_later {z0 s : State} (hz : Later z0 s) (c : Nat) : Later z0 (State.tripClear s c) := by
  unfold State.tripClear
  try dsimp only
  repeat' first
    | (with_reducible assumption)
    | (with_reducible apply State.setRcm_later)
    | (with_reducible apply State.clearTrip_later)
    | (with_reducible apply State.each_later)
    | (with_reducible apply State.onlyIf_later)
    | (with_reducible apply State.foldl_later)
    | (intro x k hx)
    | (intro x hx)
    | split

theorem execTripclr_later (c : Fin 24) (s : State) : Runs s (execTripclr c s) := by
  unfold execTripclr
  try dsimp only
  repeat' first
    | (with_reducible assumption)
    | (with_reducible exact Later.refl _)
    | (with_reducible apply Runs.next)
    | (with_reducible apply State.tripClear_later)

theorem State.efuViolation_later {z0 s : State} (hz : Later z0 s) (off : Nat) : Later z0 (State.efuViolation s off) := by
  unfold State.efuViolation
  try dsimp only
  repeat' first
    | (with_reducible assumption)
    | (with_reducible apply State.put_later)
    | (with_reducible apply State.raise_later)

theorem State.writeTest_later {z0 s : State} (hz : Later z0 s) (imd : Bool) (c : Nat) : Later z0 (State.writeTest s imd c) := by
  unfold State.writeTest
  try dsimp only
  repeat' first
    | (with_reducible assumption)
    | (with_reducible apply State.startImdTest_later)
    | (with_reducible apply State.efuViolation_later)
    | (with_reducible apply State.startRcmTest_later)
    | (with_reducible apply State.each_later)
    | (with_reducible apply State.onlyIf_later)
    | (with_reducible apply State.foldl_later)
    | (intro x k hx)
    | (intro x hx)
    | split

theorem execTest_later (imd : Bool) (c : Fin 24) (s : State) : Runs s (execTest imd c s) := by
  unfold execTest
  try dsimp only
  repeat' first
    | (with_reducible assumption)
    | (with_reducible exact Later.refl _)
    | (with_reducible apply Runs.next)
    | (with_reducible apply State.writeTest_later)

theorem State.lockClear_later {z0 s : State} (hz : Later z0 s) (imd : Bool) (c : Nat) : Later z0 (State.lockClear s imd c) := by
  unfold State.lockClear
  try dsimp only
  repeat' first
    | (with_reducible assumption)
    | (with_reducible apply State.startImdTest_later)
    | (with_reducible apply State.startRcmTest_later)
    | (with_reducible apply State.each_later)
    | (with_reducible apply State.onlyIf_later)
    | (with_reducible apply State.foldl_later)
    | (intro x k hx)
    | (intro x hx)
    | split

theorem execLockclr_later (imd : Bool) (c : Fin 24) (s : State) : Runs s (execLockclr imd c s) := by
  unfold execLockclr
  try dsimp only
  repeat' first
    | (with_reducible assumption)
    | (with_reducible exact Later.refl _)
    | (with_reducible apply Runs.next)
    | (with_reducible apply State.lockClear_later)

theorem State.calibrate_later {z0 s : State} (hz : Later z0 s) (c : Nat) (counts : Nat) : Later z0 (State.calibrate s c counts) := by
  unfold State.calibrate
  try dsimp only
  repeat' first
    | (with_reducible assumption)
    | (with_reducible apply State.moveTo_later)
    | (with_reducible apply State.put_later)
    | (with_reducible apply State.rcmLockout_later)
    | (with_reducible apply State.raise2_later)
    | (with_reducible apply State.startRcmTest_later)
    | (with_reducible apply State.efuViolation_later)
    | (with_reducible apply State.each_later)
    | (with_reducible apply State.onlyIf_later)
    | (with_reducible apply State.foldl_later)
    | (intro x k hx)
    | (intro x hx)
    | split

theorem execCal_later (c : Fin 24) (counts : Nat) (s : State) : Runs s (execCal c counts s) := by
  unfold execCal
  try dsimp only
  repeat' first
    | (with_reducible assumption)
    | (with_reducible exact Later.refl _)
    | (with_reducible apply Runs.next)
    | (with_reducible apply State.calibrate_later)

theorem State.endRcmTest_later {z0 s : State} (hz : Later z0 s) (c : Nat) : Later z0 (State.endRcmTest s c) := by
  unfold State.endRcmTest
  try dsimp only
  repeat' first
    | (with_reducible assumption)
    | (with_reducible apply State.efuAct_later)
    | (with_reducible apply State.each_later)
    | (with_reducible apply State.onlyIf_later)
    | (with_reducible apply State.foldl_later)
    | (intro x k hx)
    | (intro x hx)
    | split

theorem execRcmSelfTestDone_later (c : Fin 24) (realCurrent : Bool) (s : State) : Runs s (execRcmSelfTestDone c realCurrent s) := by
  unfold execRcmSelfTestDone
  try dsimp only
  repeat' first
    | (with_reducible assumption)
    | (with_reducible exact Later.refl _)
    | (with_reducible apply Runs.next)
    | (with_reducible apply State.put_later)
    | (with_reducible apply State.count_later)
    | (with_reducible apply State.setRcm_later)
    | (with_reducible apply State.putFlag_later)
    | (with_reducible apply State.raise2_later)
    | (with_reducible apply State.endRcmTest_later)
    | (with_reducible apply State.rcmLockout_later)
    | (with_reducible apply State.each_later)
    | (with_reducible apply State.onlyIf_later)
    | (with_reducible apply State.foldl_later)
    | (intro x k hx)
    | (intro x hx)
    | split

theorem execRcmSelfTestRetry_later (c : Fin 24) (s : State) : Runs s (execRcmSelfTestRetry c s) := by
  unfold execRcmSelfTestRetry
  try dsimp only
  repeat' first
    | (with_reducible assumption)
    | (with_reducible exact Later.refl _)
    | (with_reducible apply Runs.next)
    | (with_reducible apply State.moveTo_later)
    | (with_reducible apply State.setRcm_later)
    | (with_reducible apply State.put_later)
    | (with_reducible apply State.endRcmTest_later)
    | (with_reducible apply State.each_later)
    | (with_reducible apply State.onlyIf_later)
    | (with_reducible apply State.foldl_later)
    | (intro x k hx)
    | (intro x hx)
    | split

theorem execDailySelfTest_later (imd : Bool) (c : Fin 24) (s : State) : Runs s (execDailySelfTest imd c s) := by
  unfold execDailySelfTest
  try dsimp only
  repeat' first
    | (with_reducible assumption)
    | (with_reducible exact Later.refl _)
    | (with_reducible apply Runs.next)
    | (with_reducible apply State.moveTo_later)
    | (with_reducible apply State.imdDaily_later)
    | (with_reducible apply State.setImd_later)
    | (with_reducible apply State.rcmDaily_later)
    | (with_reducible apply State.setRcm_later)
    | (with_reducible apply State.each_later)
    | (with_reducible apply State.onlyIf_later)
    | (with_reducible apply State.foldl_later)
    | (intro x k hx)
    | (intro x hx)
    | split

theorem execRcmSensorFault_later (c : Fin 24) (sense : Bool) (s : State) : Runs s (execRcmSensorFault c sense s) := by
  unfold execRcmSensorFault
  try dsimp only
  repeat' first
    | (with_reducible assumption)
    | (with_reducible exact Later.refl _)
    | (with_reducible apply Runs.next)
    | (with_reducible apply State.rcmLockout_later)
    | (with_reducible apply State.raise2_later)
    | (with_reducible apply State.each_later)
    | (with_reducible apply State.onlyIf_later)
    | (with_reducible apply State.foldl_later)
    | (intro x k hx)
    | (intro x hx)
    | split

theorem State.imdTripAll_later {z0 s : State} (hz : Later z0 s) (k : Nat) (detail : Nat) : Later z0 (State.imdTripAll s k detail) := by
  unfold State.imdTripAll
  try dsimp only
  repeat' first
    | (with_reducible assumption)
    | (with_reducible apply State.putFlag_later)
    | (with_reducible apply State.count_later)
    | (with_reducible apply State.put_later)
    | (with_reducible apply State.tripOutlet_later)
    | (with_reducible apply State.raise2_later)
    | (with_reducible apply State.each_later)
    | (with_reducible apply State.onlyIf_later)
    | (with_reducible apply State.foldl_later)
    | (intro x k hx)
    | (intro x hx)
    | split
    | (with_reducible refine Later.built ?_ ?_ ?_ ?_; rotate_left; exact rfl; exact rfl; exact rfl)

theorem State.startCheck_later {z0 s : State} (hz : Later z0 s) (k : Nat) (n : Nat) : Later z0 (State.startCheck s k n) := by
  unfold State.startCheck
  try dsimp only
  repeat' first
    | (with_reducible assumption)
    | (with_reducible apply State.setImd_later)
    | (with_reducible apply State.injRefresh_later)
    | (with_reducible apply State.each_later)
    | (with_reducible apply State.onlyIf_later)
    | (with_reducible apply State.foldl_later)
    | (intro x k hx)
    | (intro x hx)
    | split
    | (with_reducible refine Later.built ?_ ?_ ?_ ?_; rotate_left; exact rfl; exact rfl; exact rfl)

theorem State.endCheck_later {z0 s : State} (hz : Later z0 s) (k : Nat) (code : Nat) (riso : Nat) : Later z0 (State.endCheck s k code riso) := by
  unfold State.endCheck
  try dsimp only
  repeat' first
    | (with_reducible assumption)
    | (with_reducible apply State.setImd_later)
    | (with_reducible apply State.put_later)
    | (with_reducible apply State.count_later)
    | (with_reducible apply State.raise2_later)
    | (with_reducible apply State.injRefresh_later)
    | (with_reducible apply State.startCheck_later)
    | (with_reducible apply State.each_later)
    | (with_reducible apply State.onlyIf_later)
    | (with_reducible apply State.foldl_later)
    | (intro x k hx)
    | (intro x hx)
    | split

theorem State.risoRuns_later {z0 s : State} (hz : Later z0 s) (k : Nat) (r : Option Nat) : Later z0 (State.risoRuns s k r) := by
  unfold State.risoRuns
  try dsimp only
  repeat' first
    | (with_reducible assumption)
    | (with_reducible apply State.setImd_later)
    | (with_reducible apply State.put_later)
    | (with_reducible apply State.raise2_later)
    | (with_reducible apply State.imdTripAll_later)
    | (with_reducible apply State.endCheck_later)
    | (with_reducible apply State.each_later)
    | (with_reducible apply State.onlyIf_later)
    | (with_reducible apply State.foldl_later)
    | (intro x k hx)
    | (intro x hx)
    | split

theorem execImdHalfPeriod_later (k : Fin 12) (i1 : Int) (i2 : Int) (i3 : Int) (s : State) : Runs s (execImdHalfPeriod k i1 i2 i3 s) := by
  unfold execImdHalfPeriod
  try dsimp only
  repeat' first
    | (with_reducible assumption)
    | (with_reducible exact Later.refl _)
    | (with_reducible apply Runs.next)
    | (with_reducible apply State.injRefresh_later)
    | (with_reducible apply State.setImd_later)
    | (with_reducible apply State.risoRuns_later)
    | (with_reducible apply State.each_later)
    | (with_reducible apply State.onlyIf_later)
    | (with_reducible apply State.foldl_later)
    | (intro x k hx)
    | (intro x hx)
    | split

theorem execPoleCheckTrip_later (k : Fin 12) (vpos : Int) (vneg : Int) (s : State) : Runs s (execPoleCheckTrip k vpos vneg s) := by
  unfold execPoleCheckTrip
  try dsimp only
  repeat' first
    | (with_reducible assumption)
    | (with_reducible exact Later.refl _)
    | (with_reducible apply Runs.next)
    | (with_reducible apply State.put_later)
    | (with_reducible apply State.imdTripAll_later)
    | (with_reducible apply State.endCheck_later)
    | (with_reducible apply State.each_later)
    | (with_reducible apply State.onlyIf_later)
    | (with_reducible apply State.foldl_later)
    | (intro x k hx)
    | (intro x hx)
    | split

theorem State.imdLockout_later {z0 s : State} (hz : Later z0 s) (k : Nat) (detail : Nat) : Later z0 (State.imdLockout s k detail) := by
  unfold State.imdLockout
  try dsimp only
  repeat' first
    | (with_reducible assumption)
    | (with_reducible apply State.put_later)
    | (with_reducible apply State.putFlag_later)
    | (with_reducible apply State.setImd_later)
    | (with_reducible apply State.efuAct_later)
    | (with_reducible apply State.raise2_later)
    | (with_reducible apply State.each_later)
    | (with_reducible apply State.onlyIf_later)
    | (with_reducible apply State.foldl_later)
    | (intro x k hx)

theorem execCouplingOpen_later (k : Fin 12) (vpos : Int) (vneg : Int) (s : State) : Runs s (execCouplingOpen k vpos vneg s) := by
  unfold execCouplingOpen
  try dsimp only
  repeat' first
    | (with_reducible assumption)
    | (with_reducible exact Later.refl _)
    | (with_reducible apply Runs.next)
    | (with_reducible apply State.put_later)
    | (with_reducible apply State.imdLockout_later)
    | (with_reducible apply State.each_later)
    | (with_reducible apply State.onlyIf_later)
    | (with_reducible apply State.foldl_later)
    | (intro x k hx)
    | (intro x hx)
    | split

theorem execImdSelfTestDone_later (k : Fin 12) (sourceFail : Bool) (s : State) : Runs s (execImdSelfTestDone k sourceFail s) := by
  unfold execImdSelfTestDone
  try dsimp only
  repeat' first
    | (with_reducible assumption)
    | (with_reducible exact Later.refl _)
    | (with_reducible apply Runs.next)
    | (with_reducible apply State.setImd_later)
    | (with_reducible apply State.injRefresh_later)
    | (with_reducible apply State.putFlag_later)
    | (with_reducible apply State.raise2_later)
    | (with_reducible apply State.efuAct_later)
    | (with_reducible apply State.imdLockout_later)
    | (with_reducible apply State.each_later)
    | (with_reducible apply State.onlyIf_later)
    | (with_reducible apply State.foldl_later)
    | (intro x k hx)
    | (intro x hx)
    | split

theorem execCableCheckStart_later (n : Fin 24) (s : State) : Runs s (execCableCheckStart n s) := by
  unfold execCableCheckStart
  try dsimp only
  repeat' first
    | (with_reducible assumption)
    | (with_reducible exact Later.refl _)
    | (with_reducible apply Runs.next)
    | (with_reducible apply State.putFlag_later)
    | (with_reducible apply State.setOiu_later)
    | (with_reducible apply State.startCheck_later)
    | (with_reducible apply State.each_later)
    | (with_reducible apply State.onlyIf_later)
    | (with_reducible apply State.foldl_later)
    | (intro x k hx)
    | (intro x hx)
    | split

theorem execCableCheckResult_later (k : Fin 12) (s : State) : Runs s (execCableCheckResult k s) := by
  unfold execCableCheckResult
  try dsimp only
  repeat' first
    | (with_reducible assumption)
    | (with_reducible exact Later.refl _)
    | (with_reducible apply Runs.next)
    | (with_reducible apply State.endCheck_later)
    | (with_reducible apply State.each_later)
    | (with_reducible apply State.onlyIf_later)
    | (with_reducible apply State.foldl_later)
    | (intro x k hx)
    | (intro x hx)
    | split

theorem State.efuPilot_later {z0 s : State} (hz : Later z0 s) (n : Nat) (oldCode : Nat) : Later z0 (State.efuPilot s n oldCode) := by
  unfold State.efuPilot
  try dsimp only
  repeat' first
    | (with_reducible assumption)
    | (with_reducible apply State.setRcm_later)
    | (with_reducible apply State.clearAtUnplug_later)
    | (with_reducible apply State.putFlag_later)
    | (with_reducible apply State.efuAct_later)
    | (with_reducible apply State.startRcmTest_later)
    | (with_reducible apply State.each_later)
    | (with_reducible apply State.onlyIf_later)
    | (with_reducible apply State.foldl_later)
    | (intro x k hx)
    | (intro x hx)
    | split
    | (with_reducible refine Later.built ?_ ?_ ?_ ?_; rotate_left; exact rfl; exact rfl; exact rfl)

theorem State.efuBind_later {z0 s : State} (hz : Later z0 s) : Later z0 (State.efuBind s) := by
  unfold State.efuBind
  try dsimp only
  repeat' first
    | (with_reducible assumption)
    | (with_reducible apply State.put_later)
    | (with_reducible apply State.putFlag_later)
    | (with_reducible apply State.setRcm_later)
    | (with_reducible apply State.raise2_later)
    | (with_reducible apply State.startRcmTest_later)
    | (with_reducible apply State.imdDaily_later)
    | (with_reducible apply State.each_later)
    | (with_reducible apply State.onlyIf_later)
    | (with_reducible apply State.foldl_later)
    | (intro x k hx)
    | (intro x hx)
    | split

theorem State.efuReset_later {z0 s : State} (hz : Later z0 s) : Later z0 (State.efuReset s) := by
  unfold State.efuReset
  try dsimp only
  repeat' first
    | (with_reducible assumption)
    | (with_reducible apply State.clearUnit_later)
    | (with_reducible apply State.setRcm_later)
    | (with_reducible apply State.setImd_later)
    | (with_reducible apply State.efuAct_later)
    | (with_reducible apply State.efuBind_later)
    | (with_reducible apply State.each_later)
    | (with_reducible apply State.onlyIf_later)
    | (with_reducible apply State.foldl_later)
    | (intro x k hx)

end Sys2Proof.Machine
end

