-- ==== Sys2Proof/Laws/LaterMeter.lean ====
section
/-! SUPPORT. Every operation and every command of the MEU leads to a later state (Laws/Later.lean). -/

namespace Sys2Proof.Machine

open Sys2Proof

theorem State.setChan_later {z0 s : State} (hz : Later z0 s) (n : Nat) (c : Chan) : Later z0 (State.setChan s n c) := by
  unfold State.setChan
  try dsimp only
  repeat' first
    | (with_reducible assumption)
    | (with_reducible apply State.each_later)
    | (with_reducible apply State.onlyIf_later)
    | (with_reducible apply State.foldl_later)
    | (intro x k hx)
    | (intro x hx)
    | split
    | (with_reducible refine Later.built ?_ ?_ ?_ ?_; rotate_left; exact rfl; exact rfl; exact rfl)

theorem State.setElem_later {z0 s : State} (hz : Later z0 s) (e : Nat) (v : Elem) : Later z0 (State.setElem s e v) := by
  unfold State.setElem
  try dsimp only
  repeat' first
    | (with_reducible assumption)
    | (with_reducible apply State.each_later)
    | (with_reducible apply State.onlyIf_later)
    | (with_reducible apply State.foldl_later)
    | (intro x k hx)
    | (intro x hx)
    | split
    | (with_reducible refine Later.built ?_ ?_ ?_ ?_; rotate_left; exact rfl; exact rfl; exact rfl)

theorem State.takeFront_later {z0 s : State} (hz : Later z0 s) (n : Nat) (rogowski : Bool) (dec : Int) : Later z0 (State.takeFront s n rogowski dec) := by
  unfold State.takeFront
  try dsimp only
  repeat' first
    | (with_reducible assumption)
    | (with_reducible apply State.setChan_later)
    | (with_reducible apply State.put_later)
    | (with_reducible apply State.raise2_later)
    | (with_reducible apply State.each_later)
    | (with_reducible apply State.onlyIf_later)
    | (with_reducible apply State.foldl_later)
    | (intro x k hx)
    | (intro x hx)
    | split

theorem State.takeBit_later {z0 s : State} (hz : Later z0 s) (n : Nat) (rogowski : Bool) (b : Bool) : Later z0 (State.takeBit s n rogowski b) := by
  unfold State.takeBit
  try dsimp only
  repeat' first
    | (with_reducible assumption)
    | (with_reducible apply State.setChan_later)
    | (with_reducible apply State.takeFront_later)
    | (with_reducible apply State.each_later)
    | (with_reducible apply State.onlyIf_later)
    | (with_reducible apply State.foldl_later)
    | (intro x k hx)
    | (intro x hx)
    | split

theorem State.detect_later {z0 s : State} (hz : Later z0 s) (r : SensRec) (stamp : Nat) (y : Int) : Later z0 (State.detect s r stamp y) := by
  unfold State.detect
  try dsimp only
  repeat' first
    | (with_reducible assumption)
    | (with_reducible apply State.put_later)
    | (with_reducible apply State.setChan_later)
    | (with_reducible apply State.raise2_later)
    | (with_reducible apply State.each_later)
    | (with_reducible apply State.onlyIf_later)
    | (with_reducible apply State.foldl_later)
    | (intro x k hx)
    | (intro x hx)

theorem State.dropSplit_later {z0 s : State} (hz : Later z0 s) (e : Nat) : Later z0 (State.dropSplit s e) := by
  unfold State.dropSplit
  try dsimp only
  repeat' first
    | (with_reducible assumption)
    | (with_reducible apply State.setElem_later)
    | (with_reducible apply State.setChan_later)
    | (with_reducible apply State.each_later)
    | (with_reducible apply State.onlyIf_later)
    | (with_reducible apply State.foldl_later)
    | (intro x k hx)
    | (intro x hx)
    | split

theorem State.watchCrossing_later {z0 s : State} (hz : Later z0 s) (r : SensRec) (stamp : Nat) (y : Int) : Later z0 (State.watchCrossing s r stamp y) := by
  unfold State.watchCrossing
  try dsimp only
  repeat' first
    | (with_reducible assumption)
    | (with_reducible apply State.dropSplit_later)
    | (with_reducible apply State.setChan_later)
    | (with_reducible apply State.setElem_later)
    | (with_reducible apply State.each_later)
    | (with_reducible apply State.onlyIf_later)
    | (with_reducible apply State.foldl_later)
    | (intro x k hx)
    | (intro x hx)
    | split

theorem State.takeSampleAt_later {z0 s : State} (hz : Later z0 s) (r : SensRec) : Later z0 (State.takeSampleAt s r) := by
  unfold State.takeSampleAt
  try dsimp only
  repeat' first
    | (with_reducible assumption)
    | (with_reducible apply State.setChan_later)
    | (with_reducible apply State.put_later)
    | (with_reducible apply State.watchCrossing_later)
    | (with_reducible apply State.detect_later)

theorem State.showEnergy_later {z0 s : State} (hz : Later z0 s) (e : Nat) (ks : List Nat) : Later z0 (State.showEnergy s e ks) := by
  unfold State.showEnergy
  try dsimp only
  repeat' first
    | (with_reducible assumption)
    | (with_reducible apply State.put64_later)
    | (with_reducible apply State.each_later)
    | (with_reducible apply State.onlyIf_later)
    | (with_reducible apply State.foldl_later)
    | (intro x k hx)

theorem State.addEnergy_later {z0 s : State} (hz : Later z0 s) (i : SensRec) (v : SensRec) (yi : Int) (yv : Int) (stamp : Nat) : Later z0 (State.addEnergy s i v yi yv stamp) := by
  unfold State.addEnergy
  try dsimp only
  repeat' first
    | (with_reducible assumption)
    | (with_reducible apply State.setElem_later)
    | (with_reducible apply State.showEnergy_later)
    | (with_reducible apply State.each_later)
    | (with_reducible apply State.onlyIf_later)
    | (with_reducible apply State.foldl_later)
    | (intro x k hx)
    | (intro x hx)
    | split

theorem State.processStamp_later {z0 s : State} (hz : Later z0 s) (r : SensRec) : Later z0 (State.processStamp s r) := by
  unfold State.processStamp
  try dsimp only
  repeat' first
    | (with_reducible assumption)
    | (with_reducible apply State.setChan_later)
    | (with_reducible apply State.takeSampleAt_later)
    | (with_reducible apply State.addEnergy_later)
    | (with_reducible apply State.each_later)
    | (with_reducible apply State.onlyIf_later)
    | (with_reducible apply State.foldl_later)
    | (intro x k hx)
    | (intro x hx)
    | split

theorem State.pulseSlice_later {z0 s : State} (hz : Later z0 s) (r : SensRec) : Later z0 (State.pulseSlice s r) := by
  unfold State.pulseSlice
  try dsimp only
  repeat' first
    | (with_reducible assumption)
    | (with_reducible apply State.setChan_later)
    | (with_reducible apply State.setElem_later)
    | (with_reducible apply State.showEnergy_later)
    | (with_reducible apply State.each_later)
    | (with_reducible apply State.onlyIf_later)
    | (with_reducible apply State.foldl_later)
    | (intro x k hx)
    | (intro x hx)
    | split

theorem State.backEnd_later {z0 s : State} (hz : Later z0 s) (r : SensRec) : Later z0 (State.backEnd s r) := by
  unfold State.backEnd
  try dsimp only
  repeat' first
    | (with_reducible assumption)
    | (with_reducible apply State.pulseSlice_later)
    | (with_reducible apply State.setChan_later)
    | (with_reducible apply State.processStamp_later)
    | (with_reducible apply State.each_later)
    | (with_reducible apply State.onlyIf_later)
    | (with_reducible apply State.foldl_later)
    | (intro x k hx)
    | (intro x hx)
    | split

theorem State.catchUp_later {z0 s : State} (hz : Later z0 s) (e : Nat) (upTo : Nat) : Later z0 (State.catchUp s e upTo) := by
  unfold State.catchUp
  try dsimp only
  repeat' first
    | (with_reducible assumption)
    | (with_reducible apply State.processStamp_later)
    | (with_reducible apply State.each_later)
    | (with_reducible apply State.onlyIf_later)
    | (with_reducible apply State.foldl_later)
    | (intro x k hx)
    | (intro x hx)
    | split

theorem State.faultShow_later {z0 s : State} (hz : Later z0 s) (e : Nat) : Later z0 (State.faultShow s e) := by
  unfold State.faultShow
  try dsimp only
  repeat' first
    | (with_reducible assumption)
    | (with_reducible apply State.putFlag_later)
    | (with_reducible apply State.each_later)
    | (with_reducible apply State.onlyIf_later)
    | (with_reducible apply State.foldl_later)
    | (intro x k hx)
    | (intro x hx)
    | split
    | (with_reducible refine Later.built ?_ ?_ ?_ ?_; rotate_left; exact rfl; exact rfl; exact rfl)

theorem State.faultRefresh_later {z0 s : State} (hz : Later z0 s) (n : Nat) : Later z0 (State.faultRefresh s n) := by
  unfold State.faultRefresh
  exact State.each_later (fun x k hx => State.faultShow_later hx k) hz

theorem State.modFault_later {z0 s : State} (hz : Later z0 s) (n : Nat) (detail : Nat) : Later z0 (State.modFault s n detail) := by
  unfold State.modFault
  try dsimp only
  repeat' first
    | (with_reducible assumption)
    | (with_reducible apply State.putFlag_later)
    | (with_reducible apply State.put_later)
    | (with_reducible apply State.faultRefresh_later)
    | (with_reducible apply State.raise2_later)
    | (with_reducible apply State.degrade_later)

theorem execModulatorFault_later (n : Fin 64) (noClock : Bool) (s : State) : Runs s (execModulatorFault n noClock s) := by
  unfold execModulatorFault
  try dsimp only
  repeat' first
    | (with_reducible assumption)
    | (with_reducible exact Later.refl _)
    | (with_reducible apply Runs.next)
    | (with_reducible apply State.setChan_later)
    | (with_reducible apply State.modFault_later)
    | (with_reducible apply State.each_later)
    | (with_reducible apply State.onlyIf_later)
    | (with_reducible apply State.foldl_later)
    | (intro x k hx)
    | (intro x hx)
    | split

theorem execModulatorFaultEnd_later (n : Fin 64) (s : State) : Runs s (execModulatorFaultEnd n s) := by
  unfold execModulatorFaultEnd
  try dsimp only
  repeat' first
    | (with_reducible assumption)
    | (with_reducible exact Later.refl _)
    | (with_reducible apply Runs.next)
    | (with_reducible apply State.moveTo_later)
    | (with_reducible apply State.putFlag_later)
    | (with_reducible apply State.faultRefresh_later)
    | (with_reducible apply State.raise2_later)
    | (with_reducible apply State.each_later)
    | (with_reducible apply State.onlyIf_later)
    | (with_reducible apply State.foldl_later)
    | (intro x k hx)
    | (intro x hx)
    | split

theorem State.endRms_later {z0 s : State} (hz : Later z0 s) (n : Nat) : Later z0 (State.endRms s n) := by
  unfold State.endRms
  try dsimp only
  repeat' first
    | (with_reducible assumption)
    | (with_reducible apply State.put_later)
    | (with_reducible apply State.setChan_later)
    | (with_reducible apply State.each_later)
    | (with_reducible apply State.onlyIf_later)
    | (with_reducible apply State.foldl_later)
    | (intro x k hx)
    | (intro x hx)

theorem State.rmsCycle_later {z0 s : State} (hz : Later z0 s) (e : Nat) : Later z0 (State.rmsCycle s e) := by
  unfold State.rmsCycle
  try dsimp only
  repeat' first
    | (with_reducible assumption)
    | (with_reducible apply State.endRms_later)
    | (with_reducible apply State.setChan_later)
    | (with_reducible apply State.each_later)
    | (with_reducible apply State.onlyIf_later)
    | (with_reducible apply State.foldl_later)
    | (intro x k hx)
    | (intro x hx)
    | split

theorem State.showShift_later {z0 s : State} (hz : Later z0 s) (n : Nat) : Later z0 (State.showShift s n) := by
  unfold State.showShift
  try dsimp only
  repeat' first
    | (with_reducible assumption)
    | (with_reducible apply State.put_later)
    | (with_reducible apply State.raise2_later)
    | (with_reducible apply State.each_later)
    | (with_reducible apply State.onlyIf_later)
    | (with_reducible apply State.foldl_later)
    | (intro x k hx)
    | (intro x hx)

theorem State.compensate_later {z0 s : State} (hz : Later z0 s) (e : Nat) : Later z0 (State.compensate s e) := by
  unfold State.compensate
  try dsimp only
  repeat' first
    | (with_reducible assumption)
    | (with_reducible apply State.setChan_later)
    | (with_reducible apply State.showShift_later)
    | (with_reducible apply State.each_later)
    | (with_reducible apply State.onlyIf_later)
    | (with_reducible apply State.foldl_later)
    | (intro x k hx)

theorem State.copyPeriod_later {z0 s : State} (hz : Later z0 s) (e : Nat) (len : Nat) : Later z0 (State.copyPeriod s e len) := by
  unfold State.copyPeriod
  try dsimp only
  repeat' first
    | (with_reducible assumption)
    | (with_reducible apply State.each_later)
    | (with_reducible apply State.onlyIf_later)
    | (with_reducible apply State.foldl_later)
    | (intro x k hx)
    | (intro x hx)
    | split
    | (with_reducible refine Later.built ?_ ?_ ?_ ?_; rotate_left; exact rfl; exact rfl; exact rfl)

theorem State.endPeriod_later {z0 s : State} (hz : Later z0 s) (e : Nat) (stamp : Nat) : Later z0 (State.endPeriod s e stamp) := by
  unfold State.endPeriod
  try dsimp only
  repeat' first
    | (with_reducible assumption)
    | (with_reducible apply State.setElem_later)
    | (with_reducible apply State.put_later)
    | (with_reducible apply State.showEnergy_later)
    | (with_reducible apply State.copyPeriod_later)
    | (with_reducible apply State.compensate_later)
    | (with_reducible apply State.each_later)
    | (with_reducible apply State.onlyIf_later)
    | (with_reducible apply State.foldl_later)
    | (intro x k hx)
    | (intro x hx)
    | split

theorem State.endAtSplit_later {z0 s : State} (hz : Later z0 s) (e : Nat) : Later z0 (State.endAtSplit s e) := by
  unfold State.endAtSplit
  try dsimp only
  repeat' first
    | (with_reducible assumption)
    | (with_reducible apply State.setElem_later)
    | (with_reducible apply State.rmsCycle_later)
    | (with_reducible apply State.endPeriod_later)
    | (with_reducible apply State.each_later)
    | (with_reducible apply State.onlyIf_later)
    | (with_reducible apply State.foldl_later)
    | (intro x k hx)
    | (intro x hx)
    | split

theorem State.endNow_later {z0 s : State} (hz : Later z0 s) (e : Nat) : Later z0 (State.endNow s e) := by
  unfold State.endNow
  try dsimp only
  repeat' first
    | (with_reducible assumption)
    | (with_reducible apply State.catchUp_later)
    | (with_reducible apply State.endAtSplit_later)
    | (with_reducible apply State.dropSplit_later)
    | (with_reducible apply State.endPeriod_later)
    | (with_reducible apply State.each_later)
    | (with_reducible apply State.onlyIf_later)
    | (with_reducible apply State.foldl_later)
    | (intro x k hx)
    | (intro x hx)
    | split

theorem State.crossing_later {z0 s : State} (hz : Later z0 s) (n : Nat) (at_ : Nat) : Later z0 (State.crossing s n at_) := by
  unfold State.crossing
  try dsimp only
  repeat' first
    | (with_reducible assumption)
    | (with_reducible apply State.setChan_later)
    | (with_reducible apply State.putFlag_later)
    | (with_reducible apply State.raise2_later)
    | (with_reducible apply State.put_later)
    | (with_reducible apply State.each_later)
    | (with_reducible apply State.onlyIf_later)
    | (with_reducible apply State.foldl_later)
    | (intro x k hx)
    | (intro x hx)
    | split

theorem execZeroCrossingTimeout_later (n : Fin 64) (s : State) : Runs s (execZeroCrossingTimeout n s) := by
  unfold execZeroCrossingTimeout
  try dsimp only
  repeat' first
    | (with_reducible assumption)
    | (with_reducible exact Later.refl _)
    | (with_reducible apply Runs.next)
    | (with_reducible apply State.moveTo_later)
    | (with_reducible apply State.putFlag_later)
    | (with_reducible apply State.put_later)
    | (with_reducible apply State.setChan_later)
    | (with_reducible apply State.raise2_later)
    | (with_reducible apply State.each_later)
    | (with_reducible apply State.onlyIf_later)
    | (with_reducible apply State.foldl_later)
    | (intro x k hx)
    | (intro x hx)
    | split

theorem execPulseCounted_later (n : Fin 64) (s : State) : Runs s (execPulseCounted n s) := by
  unfold execPulseCounted
  try dsimp only
  repeat' first
    | (with_reducible assumption)
    | (with_reducible exact Later.refl _)
    | (with_reducible apply Runs.next)
    | (with_reducible apply State.moveTo_later)
    | (with_reducible apply State.setChan_later)
    | (with_reducible apply State.put_later)
    | (with_reducible apply State.each_later)
    | (with_reducible apply State.onlyIf_later)
    | (with_reducible apply State.foldl_later)
    | (intro x k hx)
    | (intro x hx)
    | split

theorem execShortPulseRejected_later (n : Fin 64) (s : State) : Runs s (execShortPulseRejected n s) := by
  unfold execShortPulseRejected
  try dsimp only
  repeat' first
    | (with_reducible assumption)
    | (with_reducible exact Later.refl _)
    | (with_reducible apply Runs.next)
    | (with_reducible apply State.put_later)
    | (with_reducible apply State.each_later)
    | (with_reducible apply State.onlyIf_later)
    | (with_reducible apply State.foldl_later)
    | (intro x k hx)
    | (intro x hx)
    | split

theorem execPkclr_later (n : Fin 64) (s : State) : Runs s (execPkclr n s) := by
  unfold execPkclr
  try dsimp only
  repeat' first
    | (with_reducible assumption)
    | (with_reducible exact Later.refl _)
    | (with_reducible apply Runs.next)
    | (with_reducible apply State.put_later)

theorem State.fixedRms_later {z0 s : State} (hz : Later z0 s) : Later z0 (State.fixedRms s) := by
  unfold State.fixedRms
  try dsimp only
  repeat' first
    | (with_reducible assumption)
    | (with_reducible apply State.endRms_later)
    | (with_reducible apply State.each_later)
    | (with_reducible apply State.onlyIf_later)
    | (with_reducible apply State.foldl_later)
    | (intro x k hx)
    | (intro x hx)
    | split

theorem State.bankSwap_later {z0 s : State} (hz : Later z0 s) : Later z0 (State.bankSwap s) := by
  unfold State.bankSwap
  try dsimp only
  repeat' first
    | (with_reducible assumption)
    | (with_reducible apply State.apply_later)
    | (with_reducible apply State.setChan_later)
    | (with_reducible apply State.put_later)
    | (with_reducible apply State.raise2_later)
    | (with_reducible apply State.showShift_later)
    | (with_reducible apply State.each_later)
    | (with_reducible apply State.onlyIf_later)
    | (with_reducible apply State.foldl_later)
    | (intro x k hx)
    | (intro x hx)
    | split
    | (with_reducible refine Later.built ?_ ?_ ?_ ?_; rotate_left; exact rfl; exact rfl; exact rfl)

theorem State.oneSecondWrite_later {z0 s : State} (hz : Later z0 s) : Later z0 (State.oneSecondWrite s) := by
  unfold State.oneSecondWrite
  try dsimp only
  repeat' first
    | (with_reducible assumption)
    | (with_reducible apply State.each_later)
    | (with_reducible apply State.onlyIf_later)
    | (with_reducible apply State.foldl_later)
    | (intro x k hx)
    | (intro x hx)
    | split
    | (with_reducible refine Later.built ?_ ?_ ?_ ?_; rotate_left; exact rfl; exact rfl; exact rfl)

theorem State.faultSeconds_later {z0 s : State} (hz : Later z0 s) : Later z0 (State.faultSeconds s) := by
  unfold State.faultSeconds
  try dsimp only
  repeat' first
    | (with_reducible assumption)
    | (with_reducible apply State.count_later)
    | (with_reducible apply State.each_later)
    | (with_reducible apply State.onlyIf_later)
    | (with_reducible apply State.foldl_later)
    | (intro x k hx)
    | (intro x hx)
    | split

theorem State.meuFreeze_later {z0 s : State} (hz : Later z0 s) : Later z0 (State.meuFreeze s) := by
  unfold State.meuFreeze
  try dsimp only
  repeat' first
    | (with_reducible assumption)
    | (with_reducible apply State.endNow_later)
    | (with_reducible apply State.each_later)
    | (with_reducible apply State.onlyIf_later)
    | (with_reducible apply State.foldl_later)
    | (intro x k hx)
    | (intro x hx)
    | split
    | (with_reducible refine Later.built ?_ ?_ ?_ ?_; rotate_left; exact rfl; exact rfl; exact rfl)

theorem State.meuRestore_later {z0 s : State} (hz : Later z0 s) : Later z0 (State.meuRestore s) := by
  unfold State.meuRestore
  try dsimp only
  repeat' first
    | (with_reducible assumption)
    | (with_reducible apply State.showEnergy_later)
    | (with_reducible apply State.put_later)
    | (with_reducible apply State.raise2_later)
    | (with_reducible apply State.each_later)
    | (with_reducible apply State.onlyIf_later)
    | (with_reducible apply State.foldl_later)
    | (intro x k hx)
    | (intro x hx)
    | split
    | (with_reducible refine Later.built ?_ ?_ ?_ ?_; rotate_left; exact rfl; exact rfl; exact rfl)

theorem State.rejoin_later {z0 s : State} (hz : Later z0 s) (ago : Nat) (r : SensRec) : Later z0 (State.rejoin s ago r) := by
  unfold State.rejoin
  try dsimp only
  repeat' first
    | (with_reducible assumption)
    | (with_reducible apply State.setChan_later)

theorem State.rejoinAll_later {z0 s : State} (hz : Later z0 s) : Later z0 (State.rejoinAll s) := by
  unfold State.rejoinAll
  try dsimp only
  repeat' first
    | (with_reducible assumption)
    | (with_reducible apply State.rejoin_later)
    | (with_reducible apply State.each_later)
    | (with_reducible apply State.onlyIf_later)
    | (with_reducible apply State.foldl_later)
    | (intro x k hx)
    | (intro x hx)
    | split
    | (with_reducible refine Later.built ?_ ?_ ?_ ?_; rotate_left; exact rfl; exact rfl; exact rfl)

theorem State.mclkStart_later {z0 s : State} (hz : Later z0 s) : Later z0 (State.mclkStart s) := by
  unfold State.mclkStart
  try dsimp only
  repeat' first
    | (with_reducible assumption)
    | (with_reducible apply State.rejoinAll_later)
    | (with_reducible apply State.compensate_later)
    | (with_reducible apply State.each_later)
    | (with_reducible apply State.onlyIf_later)
    | (with_reducible apply State.foldl_later)
    | (intro x k hx)
    | (intro x hx)
    | split
    | (with_reducible refine Later.built ?_ ?_ ?_ ?_; rotate_left; exact rfl; exact rfl; exact rfl)

theorem State.meuReset_later {z0 s : State} (hz : Later z0 s) : Later z0 (State.meuReset s) := by
  unfold State.meuReset
  try dsimp only
  repeat' first
    | (with_reducible assumption)
    | (with_reducible apply State.endNow_later)
    | (with_reducible apply State.oneSecondWrite_later)
    | (with_reducible apply State.each_later)
    | (with_reducible apply State.onlyIf_later)
    | (with_reducible apply State.foldl_later)
    | (intro x k hx)
    | (intro x hx)
    | split
    | (with_reducible refine Later.built ?_ ?_ ?_ ?_; rotate_left; exact rfl; exact rfl; exact rfl)

theorem State.meuResume_later {z0 s : State} (hz : Later z0 s) : Later z0 (State.meuResume s) := by
  unfold State.meuResume
  try dsimp only
  repeat' first
    | (with_reducible assumption)
    | (with_reducible apply State.rejoinAll_later)
    | (with_reducible apply State.raise2_later)
    | (with_reducible apply State.each_later)
    | (with_reducible apply State.onlyIf_later)
    | (with_reducible apply State.foldl_later)
    | (intro x k hx)
    | (intro x hx)
    | split
    | (with_reducible refine Later.built ?_ ?_ ?_ ?_; rotate_left; exact rfl; exact rfl; exact rfl)

theorem State.showCal_later {z0 s : State} (hz : Later z0 s) : Later z0 (State.showCal s) := by
  unfold State.showCal
  try dsimp only
  repeat' first
    | (with_reducible assumption)
    | (with_reducible apply State.put_later)

theorem State.unbindChannel_later {z0 s : State} (hz : Later z0 s) (n : Nat) : Later z0 (State.unbindChannel s n) := by
  unfold State.unbindChannel
  try dsimp only
  repeat' first
    | (with_reducible assumption)
    | (with_reducible apply State.put_later)
    | (with_reducible apply State.putFlag_later)
    | (with_reducible apply State.setChan_later)

theorem State.bindChannel_later {z0 s : State} (hz : Later z0 s) (r : SensRec) (changed : Bool) : Later z0 (State.bindChannel s r changed) := by
  unfold State.bindChannel
  try dsimp only
  repeat' first
    | (with_reducible assumption)
    | (with_reducible apply State.unbindChannel_later)
    | (with_reducible apply State.put_later)
    | (with_reducible apply State.rejoin_later)
    | (with_reducible apply State.putFlag_later)
    | (with_reducible apply State.each_later)
    | (with_reducible apply State.onlyIf_later)
    | (with_reducible apply State.foldl_later)
    | (intro x k hx)
    | (intro x hx)

theorem State.meuBind_later {z0 s : State} (hz : Later z0 s) (old : Option Plan) : Later z0 (State.meuBind s old) := by
  unfold State.meuBind
  try dsimp only
  repeat' first
    | (with_reducible assumption)
    | (with_reducible apply State.unbindChannel_later)
    | (with_reducible apply State.bindChannel_later)
    | (with_reducible apply State.dropSplit_later)
    | (with_reducible apply State.compensate_later)
    | (with_reducible apply State.faultShow_later)
    | (with_reducible apply State.mclkStart_later)
    | (with_reducible apply State.showCal_later)
    | (with_reducible apply State.each_later)
    | (with_reducible apply State.onlyIf_later)
    | (with_reducible apply State.foldl_later)
    | (intro x k hx)
    | (intro x hx)
    | split

end Sys2Proof.Machine
end

