-- ==== Sys2Proof/Laws/LaterSlots.lean ====
section
/-! SUPPORT. Every operation and every command of the key slots leads to a later state (Laws/Later.lean). -/

namespace Sys2Proof.Machine

open Sys2Proof

theorem State.setSec_later {z0 s : State} (hz : Later z0 s) (v : Sec) : Later z0 (State.setSec s v) := by
  unfold State.setSec
  try dsimp only
  repeat' first
    | (with_reducible assumption)
    | (with_reducible apply State.each_later)
    | (with_reducible apply State.onlyIf_later)
    | (with_reducible apply State.foldl_later)
    | (intro x k hx)
    | (intro x hx)
    | split
    | (with_reducible refine Later.built ?_ ?_ ?_ ?_; rotate_left; exact rfl; exact rfl; exact rfl)

theorem State.showPend_later {z0 s : State} (hz : Later z0 s) : Later z0 (State.showPend s) := by
  unfold State.showPend
  try dsimp only
  repeat' first
    | (with_reducible assumption)
    | (with_reducible apply State.putFlag_later)

theorem State.setSlot_later {z0 s : State} (hz : Later z0 s) (k : Nat) (v : KeySlot) : Later z0 (State.setSlot s k v) := by
  unfold State.setSlot
  try dsimp only
  repeat' first
    | (with_reducible assumption)
    | (with_reducible apply State.setSec_later)
    | (with_reducible apply State.showPend_later)

theorem State.sealNext_later {z0 s : State} (hz : Later z0 s) : Later z0 (State.sealNext s) := by
  unfold State.sealNext
  try dsimp only
  repeat' first
    | (with_reducible assumption)
    | (with_reducible apply State.setSec_later)
    | (with_reducible apply State.request_later)
    | (with_reducible apply State.each_later)
    | (with_reducible apply State.onlyIf_later)
    | (with_reducible apply State.foldl_later)
    | (intro x k hx)
    | (intro x hx)
    | split
    | (with_reducible refine Later.built ?_ ?_ ?_ ?_; rotate_left; exact rfl; exact rfl; exact rfl)

theorem State.sealAll_later {z0 s : State} (hz : Later z0 s) : Later z0 (State.sealAll s) := by
  unfold State.sealAll
  try dsimp only
  repeat' first
    | (with_reducible assumption)
    | (with_reducible apply State.sealNext_later)
    | (with_reducible apply State.each_later)
    | (with_reducible apply State.onlyIf_later)
    | (with_reducible apply State.foldl_later)
    | (intro x k hx)

end Sys2Proof.Machine
end

