-- ==== Sys2Proof/Laws/LaterBilling.lean ====
section
/-! SUPPORT. Every operation and every command of the BLU leads to a later state (Laws/Later.lean). -/

namespace Sys2Proof.Machine

open Sys2Proof

theorem State.setBill_later {z0 s : State} (hz : Later z0 s) (e : Nat) (b : Bill) : Later z0 (State.setBill s e b) := by
  unfold State.setBill
  try dsimp only
  repeat' first
    | (with_reducible assumption)
    | (with_reducible apply State.each_later)
    | (with_reducible apply State.onlyIf_later)
    | (with_reducible apply State.foldl_later)
    | (intro x k hx)
    | (intro x hx)
    | split
    | (with_reducible refine Later.built ?_ ?_ ?_ ?_; rotate_left; exact rfl; exact rfl; exact rfl)

theorem State.showFlags_later {z0 s : State} (hz : Later z0 s) (e : Nat) : Later z0 (State.showFlags s e) := by
  unfold State.showFlags
  try dsimp only
  repeat' first
    | (with_reducible assumption)
    | (with_reducible apply State.putFlag_later)

theorem State.add64_later {z0 s : State} (hz : Later z0 s) (lo : Fld) (hi : Fld) (i : Nat) (x : Nat) : Later z0 (State.add64 s lo hi i x) := by
  unfold State.add64
  try dsimp only
  repeat' first
    | (with_reducible assumption)
    | (with_reducible apply State.put64_later)

theorem State.book_later {z0 s : State} (hz : Later z0 s) (e : Nat) : Later z0 (State.book s e) := by
  unfold State.book
  try dsimp only
  repeat' first
    | (with_reducible assumption)
    | (with_reducible apply State.setBill_later)
    | (with_reducible apply State.add64_later)
    | (with_reducible apply State.put_later)
    | (with_reducible apply State.each_later)
    | (with_reducible apply State.onlyIf_later)
    | (with_reducible apply State.foldl_later)
    | (intro x k hx)
    | (intro x hx)

theorem State.bookNow_later {z0 s : State} (hz : Later z0 s) (e : Nat) : Later z0 (State.bookNow s e) := by
  unfold State.bookNow
  try dsimp only
  repeat' first
    | (with_reducible assumption)
    | (with_reducible apply State.book_later)
    | (with_reducible apply State.each_later)
    | (with_reducible apply State.onlyIf_later)
    | (with_reducible apply State.foldl_later)
    | (intro x k hx)
    | (intro x hx)

theorem State.periodAndBook_later {z0 s : State} (hz : Later z0 s) (e : Nat) : Later z0 (State.periodAndBook s e) := by
  unfold State.periodAndBook
  try dsimp only
  repeat' first
    | (with_reducible assumption)
    | (with_reducible apply State.endNow_later)
    | (with_reducible apply State.bookNow_later)
    | (with_reducible apply State.each_later)
    | (with_reducible apply State.onlyIf_later)
    | (with_reducible apply State.foldl_later)
    | (intro x k hx)
    | (intro x hx)
    | split

theorem State.settleSplit_later {z0 s : State} (hz : Later z0 s) (e : Nat) : Later z0 (State.settleSplit s e) := by
  unfold State.settleSplit
  try dsimp only
  repeat' first
    | (with_reducible assumption)
    | (with_reducible apply State.endAtSplit_later)
    | (with_reducible apply State.bookNow_later)
    | (with_reducible apply State.each_later)
    | (with_reducible apply State.onlyIf_later)
    | (with_reducible apply State.foldl_later)
    | (intro x k hx)
    | (intro x hx)
    | split

theorem State.placeCrossing_later {z0 s : State} (hz : Later z0 s) (n : Nat) : Later z0 (State.placeCrossing s n) := by
  unfold State.placeCrossing
  try dsimp only
  repeat' first
    | (with_reducible assumption)
    | (with_reducible apply State.setChan_later)
    | (with_reducible apply State.crossing_later)
    | (with_reducible apply State.setElem_later)
    | (with_reducible apply State.settleSplit_later)
    | (with_reducible apply State.dropSplit_later)
    | (with_reducible apply State.each_later)
    | (with_reducible apply State.onlyIf_later)
    | (with_reducible apply State.foldl_later)
    | (intro x k hx)
    | (intro x hx)
    | split

theorem execZeroCrossing_later (n : Fin 64) (s : State) : Runs s (execZeroCrossing n s) := by
  unfold execZeroCrossing
  try dsimp only
  repeat' first
    | (with_reducible assumption)
    | (with_reducible exact Later.refl _)
    | (with_reducible apply Runs.next)
    | (with_reducible apply State.placeCrossing_later)
    | (with_reducible apply State.each_later)
    | (with_reducible apply State.onlyIf_later)
    | (with_reducible apply State.foldl_later)
    | (intro x k hx)
    | (intro x hx)
    | split

theorem execChannelSlice_later (n : Fin 64) (bits : List Bool) (s : State) : Runs s (execChannelSlice n bits s) := by
  unfold execChannelSlice
  try dsimp only
  repeat' first
    | (with_reducible assumption)
    | (with_reducible exact Later.refl _)
    | (with_reducible apply Runs.next)
    | (with_reducible apply State.backEnd_later)
    | (with_reducible apply State.rejoin_later)
    | (with_reducible apply State.takeBit_later)
    | (with_reducible apply State.placeCrossing_later)
    | (with_reducible apply State.settleSplit_later)
    | (with_reducible apply State.each_later)
    | (with_reducible apply State.onlyIf_later)
    | (with_reducible apply State.foldl_later)
    | (intro x k hx)
    | (intro x hx)
    | split

theorem State.maxDemand_later {z0 s : State} (hz : Later z0 s) (e : Nat) (k : Nat) (d : Nat) (led : Nat) : Later z0 (State.maxDemand s e k d led) := by
  unfold State.maxDemand
  try dsimp only
  repeat' first
    | (with_reducible assumption)
    | (with_reducible apply State.put_later)
    | (with_reducible apply State.each_later)
    | (with_reducible apply State.onlyIf_later)
    | (with_reducible apply State.foldl_later)
    | (intro x k hx)
    | (intro x hx)
    | split

theorem State.countRest_later {z0 s : State} (hz : Later z0 s) (e : Nat) (endSec : Nat) : Later z0 (State.countRest s e endSec) := by
  unfold State.countRest
  try dsimp only
  repeat' first
    | (with_reducible assumption)
    | (with_reducible apply State.setBill_later)

theorem State.spendReplay_later {z0 s : State} (hz : Later z0 s) : Later z0 (State.spendReplay s) := by
  unfold State.spendReplay
  try dsimp only
  repeat' first
    | (with_reducible assumption)
    | (with_reducible apply State.each_later)
    | (with_reducible apply State.onlyIf_later)
    | (with_reducible apply State.foldl_later)
    | (intro x k hx)
    | (intro x hx)
    | split
    | (with_reducible refine Later.built ?_ ?_ ?_ ?_; rotate_left; exact rfl; exact rfl; exact rfl)

theorem State.closeInterval_later {z0 s : State} (hz : Later z0 s) (e : Nat) (endSec : Nat) (led : Nat) (short : Bool) : Later z0 (State.closeInterval s e endSec led short) := by
  unfold State.closeInterval
  try dsimp only
  repeat' first
    | (with_reducible assumption)
    | (with_reducible apply State.countRest_later)
    | (with_reducible apply State.spendReplay_later)
    | (with_reducible apply State.maxDemand_later)
    | (with_reducible apply State.request_later)
    | (with_reducible apply State.count_later)
    | (with_reducible apply State.put_later)
    | (with_reducible apply State.setBill_later)
    | (with_reducible apply State.each_later)
    | (with_reducible apply State.onlyIf_later)
    | (with_reducible apply State.foldl_later)
    | (intro x k hx)
    | (intro x hx)
    | split

theorem State.beginInterval_later {z0 s : State} (hz : Later z0 s) (e : Nat) (sec : Nat) (led : Nat) (pf : Bool) : Later z0 (State.beginInterval s e sec led pf) := by
  unfold State.beginInterval
  try dsimp only
  repeat' first
    | (with_reducible assumption)
    | (with_reducible apply State.put_later)
    | (with_reducible apply State.setBill_later)
    | (with_reducible apply State.put64_later)
    | (with_reducible apply State.each_later)
    | (with_reducible apply State.onlyIf_later)
    | (with_reducible apply State.foldl_later)
    | (intro x k hx)
    | (intro x hx)
    | split

theorem State.cutInterval_later {z0 s : State} (hz : Later z0 s) (e : Nat) (sec : Nat) (led : Nat) : Later z0 (State.cutInterval s e sec led) := by
  unfold State.cutInterval
  try dsimp only
  repeat' first
    | (with_reducible assumption)
    | (with_reducible apply State.closeInterval_later)
    | (with_reducible apply State.setBill_later)
    | (with_reducible apply State.each_later)
    | (with_reducible apply State.onlyIf_later)
    | (with_reducible apply State.foldl_later)
    | (intro x k hx)
    | (intro x hx)
    | split

theorem State.newTariff_later {z0 s : State} (hz : Later z0 s) (e : Nat) (t : Nat) (cause : Nat) (sec : Nat) (led : Nat) (pf : Bool) : Later z0 (State.newTariff s e t cause sec led pf) := by
  unfold State.newTariff
  try dsimp only
  repeat' first
    | (with_reducible assumption)
    | (with_reducible apply State.setBill_later)
    | (with_reducible apply State.put_later)
    | (with_reducible apply State.raise2_later)
    | (with_reducible apply State.request_later)
    | (with_reducible apply State.beginInterval_later)
    | (with_reducible apply State.showFlags_later)

theorem State.setTariff_later {z0 s : State} (hz : Later z0 s) (e : Nat) (t : Nat) (cause : Nat) (sec : Nat) (led : Nat) (pf : Bool) : Later z0 (State.setTariff s e t cause sec led pf) := by
  unfold State.setTariff
  try dsimp only
  repeat' first
    | (with_reducible assumption)
    | (with_reducible apply State.cutInterval_later)
    | (with_reducible apply State.newTariff_later)
    | (with_reducible apply State.each_later)
    | (with_reducible apply State.onlyIf_later)
    | (with_reducible apply State.foldl_later)
    | (intro x k hx)
    | (intro x hx)
    | split

theorem State.fireSwitch_later {z0 s : State} (hz : Later z0 s) (w : Switch) (cause : Nat) (sec : Nat) (led : Nat) (pf : Bool) : Later z0 (State.fireSwitch s w cause sec led pf) := by
  unfold State.fireSwitch
  try dsimp only
  repeat' first
    | (with_reducible assumption)
    | (with_reducible apply State.put_later)
    | (with_reducible apply State.setTariff_later)
    | (with_reducible apply State.each_later)
    | (with_reducible apply State.onlyIf_later)
    | (with_reducible apply State.foldl_later)
    | (intro x k hx)
    | (intro x hx)

theorem State.showQueue_later {z0 s : State} (hz : Later z0 s) : Later z0 (State.showQueue s) := by
  unfold State.showQueue
  try dsimp only
  repeat' first
    | (with_reducible assumption)
    | (with_reducible apply State.put_later)

theorem State.fireSwitchesAt_later {z0 s : State} (hz : Later z0 s) (t : Nat) (cause : Nat) (led : Nat) (pf : Bool) : Later z0 (State.fireSwitchesAt s t cause led pf) := by
  unfold State.fireSwitchesAt
  try dsimp only
  repeat' first
    | (with_reducible assumption)
    | (with_reducible apply State.fireSwitch_later)
    | (with_reducible apply State.showQueue_later)
    | (with_reducible apply State.each_later)
    | (with_reducible apply State.onlyIf_later)
    | (with_reducible apply State.foldl_later)
    | (intro x k hx)
    | (intro x hx)
    | split
    | (with_reducible refine Later.built ?_ ?_ ?_ ?_; rotate_left; exact rfl; exact rfl; exact rfl)

theorem State.turnInterval_later {z0 s : State} (hz : Later z0 s) (e : Nat) (sec : Nat) (led : Nat) (pf : Bool) : Later z0 (State.turnInterval s e sec led pf) := by
  unfold State.turnInterval
  try dsimp only
  repeat' first
    | (with_reducible assumption)
    | (with_reducible apply State.closeInterval_later)
    | (with_reducible apply State.beginInterval_later)
    | (with_reducible apply State.showFlags_later)

theorem State.turnUpTo_later {z0 s : State} (hz : Later z0 s) (e limit led fuel : Nat) : Later z0 (State.turnUpTo s e limit led fuel) := by
  induction fuel generalizing s with
  | zero => exact hz
  | succ fuel ih =>
    unfold State.turnUpTo
    split
    · exact ih (State.turnInterval_later hz _ _ _ _)
    · exact hz

theorem State.fireDue_later {z0 s : State} (hz : Later z0 s) (limit cause led : Nat) (pf : Bool) (fuel : Nat) :
    Later z0 (s.fireDue limit cause led pf fuel) := by
  induction fuel generalizing s with
  | zero => exact hz
  | succ fuel ih =>
    unfold State.fireDue
    split
    · exact hz
    · exact ih (State.fireSwitchesAt_later (State.each_later (fun x k hx => State.turnInterval_later hx _ _ _ _) hz) _ _ _ _)

theorem State.openSession_later {z0 s : State} (hz : Later z0 s) (n : Nat) : Later z0 (State.openSession s n) := by
  unfold State.openSession
  try dsimp only
  repeat' first
    | (with_reducible assumption)
    | (with_reducible apply State.draw_later)
    | (with_reducible apply State.setOiu_later)
    | (with_reducible apply State.put_later)
    | (with_reducible apply State.put64_later)
    | (with_reducible apply State.setBill_later)
    | (with_reducible apply State.putFlag_later)
    | (with_reducible apply State.showFlags_later)
    | (with_reducible apply State.apply_later)
    | (with_reducible apply State.each_later)
    | (with_reducible apply State.onlyIf_later)
    | (with_reducible apply State.foldl_later)
    | (intro x k hx)
    | (intro x hx)

theorem State.closeSession_later {z0 s : State} (hz : Later z0 s) (n : Nat) : Later z0 (State.closeSession s n) := by
  unfold State.closeSession
  try dsimp only
  repeat' first
    | (with_reducible assumption)
    | (with_reducible apply State.sealAll_later)
    | (with_reducible apply State.putFlag_later)
    | (with_reducible apply State.showFlags_later)
    | (with_reducible apply State.trackWait_later)
    | (with_reducible apply State.withdraw_later)
    | (with_reducible apply State.each_later)
    | (with_reducible apply State.onlyIf_later)
    | (with_reducible apply State.foldl_later)
    | (intro x k hx)
    | (intro x hx)
    | split
    | (with_reducible refine Later.built ?_ ?_ ?_ ?_; rotate_left; exact rfl; exact rfl; exact rfl)

theorem State.latchStart_later {z0 s : State} (hz : Later z0 s) (n : Nat) : Later z0 (State.latchStart s n) := by
  unfold State.latchStart
  try dsimp only
  repeat' first
    | (with_reducible assumption)
    | (with_reducible apply State.put64_later)
    | (with_reducible apply State.putFlag_later)

theorem State.latchStop_later {z0 s : State} (hz : Later z0 s) (n : Nat) : Later z0 (State.latchStop s n) := by
  unfold State.latchStop
  try dsimp only
  repeat' first
    | (with_reducible assumption)
    | (with_reducible apply State.put64_later)
    | (with_reducible apply State.putFlag_later)

theorem State.advanceH_later {z0 s : State} (hz : Later z0 s) : Later z0 (State.advanceH s) := by
  unfold State.advanceH
  extract_lets w h _ s1 s2
  have h1 : Later z0 s1 := hz.same rfl rfl rfl rfl rfl rfl rfl rfl rfl rfl
  clear_value s1
  split
  · exact State.onlyIf_later (fun x hx => State.raise2_later (State.putFlag_later hx _ _ _) _ _ _) h1
  · exact State.onlyIf_later (fun x hx => State.raise2_later (State.putFlag_later hx _ _ _) _ _ _) (State.put64_later h1 _ _ _ _)

theorem State.showSyncAge_later {z0 s : State} (hz : Later z0 s) : Later z0 (State.showSyncAge s) := by
  unfold State.showSyncAge
  try dsimp only
  repeat' first
    | (with_reducible assumption)
    | (with_reducible apply State.put_later)
    | (with_reducible apply State.each_later)
    | (with_reducible apply State.onlyIf_later)
    | (with_reducible apply State.foldl_later)
    | (intro x k hx)
    | (intro x hx)
    | split

theorem State.latchFields_later {r s : State} (h : Later r s) (u : UnitId) (regs : List Reg) : Later r (s.latchFields u regs) :=
  h.trans ⟨rfl, Nat.le_refl _, Nat.le_refl _, List.prefix_refl _, id, id,
    fun hr hl => regsOk_copy (fun e he => hr.2 e (List.mem_filter.1 he).1) (regsOk_filter hl _), id, id, id⟩

theorem State.emberGrid_later {z0 s : State} (hz : Later z0 s) : Later z0 (State.emberGrid s) := by
  unfold State.emberGrid
  try dsimp only
  repeat' first
    | (with_reducible assumption)
    | (with_reducible apply State.setChan_later)
    | (with_reducible apply State.each_later)
    | (with_reducible apply State.onlyIf_later)
    | (with_reducible apply State.foldl_later)
    | (intro x k hx)
    | (intro x hx)
    | split
    | (with_reducible refine Later.built ?_ ?_ ?_ ?_; rotate_left; exact rfl; exact rfl; exact rfl)

theorem State.pfLatch_later {z0 s : State} (hz : Later z0 s) : Later z0 (State.pfLatch s) := by
  unfold State.pfLatch
  try dsimp only
  repeat' first
    | (with_reducible assumption)
    | (with_reducible apply State.each_later)
    | (with_reducible apply State.onlyIf_later)
    | (with_reducible apply State.foldl_later)
    | (intro x k hx)
    | (intro x hx)
    | split
    | (with_reducible refine Later.built ?_ ?_ ?_ ?_; rotate_left; exact rfl; exact rfl; exact rfl)

theorem State.meuBoundary_later {z0 s : State} (hz : Later z0 s) : Later z0 (State.meuBoundary s) := by
  unfold State.meuBoundary
  try dsimp only
  repeat' first
    | (with_reducible assumption)
    | (with_reducible apply State.emberGrid_later)
    | (with_reducible apply State.bankSwap_later)
    | (with_reducible apply State.each_later)
    | (with_reducible apply State.onlyIf_later)
    | (with_reducible apply State.foldl_later)
    | (intro x k hx)
    | (intro x hx)
    | split

theorem State.meuLatches_later {z0 s : State} (hz : Later z0 s) (stops : List Nat) (starts : List Nat) : Later z0 (State.meuLatches s stops starts) := by
  unfold State.meuLatches
  try dsimp only
  repeat' first
    | (with_reducible assumption)
    | (with_reducible apply State.fixedRms_later)
    | (with_reducible apply State.pfLatch_later)
    | (with_reducible apply State.latchStop_later)
    | (with_reducible apply State.latchStart_later)
    | (with_reducible apply State.each_later)
    | (with_reducible apply State.onlyIf_later)
    | (with_reducible apply State.foldl_later)
    | (intro x k hx)
    | (intro x hx)
    | split

theorem State.meuSecond_later {z0 s : State} (hz : Later z0 s) : Later z0 (State.meuSecond s) := by
  unfold State.meuSecond
  try dsimp only
  repeat' first
    | (with_reducible assumption)
    | (with_reducible apply State.faultSeconds_later)
    | (with_reducible apply State.oneSecondWrite_later)
    | (with_reducible apply State.each_later)
    | (with_reducible apply State.onlyIf_later)
    | (with_reducible apply State.foldl_later)
    | (intro x k hx)
    | (intro x hx)
    | split

theorem State.writeApply_later {z0 s : State} (hz : Later z0 s) : Later z0 (State.writeApply s) := by
  unfold State.writeApply
  try dsimp only
  repeat' first
    | (with_reducible assumption)
    | (with_reducible apply State.raise2_later)
    | (with_reducible apply State.each_later)
    | (with_reducible apply State.onlyIf_later)
    | (with_reducible apply State.foldl_later)
    | (intro x k hx)
    | (intro x hx)
    | split
    | (with_reducible refine Later.built ?_ ?_ ?_ ?_; rotate_left; exact rfl; exact rfl; exact rfl)

theorem execApply_later (s : State) : Runs s (execApply s) := by
  unfold execApply
  try dsimp only
  repeat' first
    | (with_reducible assumption)
    | (with_reducible exact Later.refl _)
    | (with_reducible apply Runs.next)
    | (with_reducible apply State.writeApply_later)

theorem State.boundaryEnd_later {z0 s : State} (hz : Later z0 s) (e : Nat) : Later z0 (State.boundaryEnd s e) := by
  unfold State.boundaryEnd
  try dsimp only
  repeat' first
    | (with_reducible assumption)
    | (with_reducible apply State.periodAndBook_later)
    | (with_reducible apply State.bookNow_later)
    | (with_reducible apply State.each_later)
    | (with_reducible apply State.onlyIf_later)
    | (with_reducible apply State.foldl_later)
    | (intro x k hx)
    | (intro x hx)
    | split

theorem State.setValid_later {z0 s : State} (hz : Later z0 s) (valid : Bool) (reason : Nat) : Later z0 (State.setValid s valid reason) := by
  unfold State.setValid
  try dsimp only
  repeat' first
    | (with_reducible assumption)
    | (with_reducible apply State.putFlag_later)
    | (with_reducible apply State.raise2_later)
    | (with_reducible apply State.setBill_later)
    | (with_reducible apply State.boundaryEnd_later)
    | (with_reducible apply State.setTariff_later)
    | (with_reducible apply State.showFlags_later)
    | (with_reducible apply State.each_later)
    | (with_reducible apply State.onlyIf_later)
    | (with_reducible apply State.foldl_later)
    | (intro x k hx)
    | (intro x hx)
    | split

theorem State.expireWall_later {z0 s : State} (hz : Later z0 s) : Later z0 (State.expireWall s) := by
  unfold State.expireWall
  try dsimp only
  repeat' first
    | (with_reducible assumption)
    | (with_reducible apply State.setValid_later)
    | (with_reducible apply State.each_later)
    | (with_reducible apply State.onlyIf_later)
    | (with_reducible apply State.foldl_later)
    | (intro x k hx)
    | (intro x hx)
    | split

theorem State.actDue_later {z0 s : State} (hz : Later z0 s) : Later z0 (State.actDue s) := by
  unfold State.actDue
  try dsimp only
  repeat' first
    | (with_reducible assumption)
    | (with_reducible apply State.advanceH_later)
    | (with_reducible apply State.boundaryEnd_later)
    | (with_reducible apply State.fireDue_later)
    | (with_reducible apply State.each_later)
    | (with_reducible apply State.onlyIf_later)
    | (with_reducible apply State.foldl_later)
    | (intro x k hx)

theorem State.sync_later {z0 s : State} (hz : Later z0 s) (ptp : Bool) (time : Nat) : Later z0 (State.sync s ptp time) := by
  unfold State.sync
  try dsimp only
  repeat' first
    | (with_reducible assumption)
    | (with_reducible apply State.put64_later)
    | (with_reducible apply State.put_later)
    | (with_reducible apply State.raise_later)
    | (with_reducible apply State.request_later)
    | (with_reducible apply State.setBill_later)
    | (with_reducible apply State.actDue_later)
    | (with_reducible apply State.setValid_later)
    | (with_reducible apply State.showFlags_later)
    | (with_reducible apply State.each_later)
    | (with_reducible apply State.onlyIf_later)
    | (with_reducible apply State.foldl_later)
    | (intro x k hx)
    | (intro x hx)
    | split
    | (with_reducible refine Later.built ?_ ?_ ?_ ?_; rotate_left; exact rfl; exact rfl; exact rfl)

theorem State.hostSync_later {z0 s : State} (hz : Later z0 s) : Later z0 (State.hostSync s) := by
  unfold State.hostSync
  try dsimp only
  repeat' first
    | (with_reducible assumption)
    | (with_reducible apply State.sync_later)

theorem execWallTimeSync_later (ptp : Bool) (s : State) : Runs s (execWallTimeSync ptp s) := by
  unfold execWallTimeSync
  try dsimp only
  repeat' first
    | (with_reducible assumption)
    | (with_reducible exact Later.refl _)
    | (with_reducible apply Runs.next)
    | (with_reducible apply State.moveTo_later)
    | (with_reducible apply State.sync_later)
    | (with_reducible apply State.hostSync_later)
    | (with_reducible apply State.each_later)
    | (with_reducible apply State.onlyIf_later)
    | (with_reducible apply State.foldl_later)
    | (intro x k hx)
    | (intro x hx)
    | split

theorem execWallTimeExpiry_later (s : State) : Runs s (execWallTimeExpiry s) := by
  unfold execWallTimeExpiry
  try dsimp only
  repeat' first
    | (with_reducible assumption)
    | (with_reducible exact Later.refl _)
    | (with_reducible apply Runs.next)
    | (with_reducible apply State.moveTo_later)
    | (with_reducible apply State.actDue_later)
    | (with_reducible apply State.setValid_later)
    | (with_reducible apply State.each_later)
    | (with_reducible apply State.onlyIf_later)
    | (with_reducible apply State.foldl_later)
    | (intro x k hx)
    | (intro x hx)
    | split

theorem State.refuseSwitch_later {z0 s : State} (hz : Later z0 s) (scope : Nat) (reason : Nat) : Later z0 (State.refuseSwitch s scope reason) := by
  unfold State.refuseSwitch
  try dsimp only
  repeat' first
    | (with_reducible assumption)
    | (with_reducible apply State.put_later)
    | (with_reducible apply State.raise2_later)

theorem State.bluPowerFail_later {z0 s : State} (hz : Later z0 s) : Later z0 (State.bluPowerFail s) := by
  unfold State.bluPowerFail
  try dsimp only
  repeat' first
    | (with_reducible assumption)
    | (with_reducible apply State.each_later)
    | (with_reducible apply State.onlyIf_later)
    | (with_reducible apply State.foldl_later)
    | (intro x k hx)
    | (intro x hx)
    | split
    | (with_reducible refine Later.built ?_ ?_ ?_ ?_; rotate_left; exact rfl; exact rfl; exact rfl)

theorem State.bluCommit_later {r s : State} (h : Later r s) (wallPf tenMicros : Nat) : Later r (s.bluCommit wallPf tenMicros) := by
  unfold State.bluCommit
  extract_lets s1 s2 n0 ends0 sws0 s3 ends sws open_ s4 s5 s6 s7
  have h1 : Later r s1 := State.each_later (fun x k hx => State.book_later hx _) h
  clear_value s1
  have h2 : Later r s2 := State.each_later (fun x k hx => State.setBill_later hx _ _) h1
  clear_value s2
  have h3 : Later r s3 := State.fireDue_later h2 _ _ _ _ _
  clear_value s3
  have h4 : Later r s4 := State.each_later (fun x k hx => State.closeSession_later (State.put64_later (State.setBill_later (State.latchStop_later hx _) _ _) _ _ _ _) _) h3
  clear_value s4
  have h5 : Later r s5 := State.each_later (fun x k hx => State.showFlags_later hx _) h4
  clear_value s5
  have h6 : Later r s6 := State.put_later h5 _ _ _
  clear_value s6
  have h7 : Later r s7 := State.request_later h6 _ _
  clear_value s7
  exact (State.raise_later h7 _ _).same rfl rfl rfl rfl rfl rfl rfl rfl rfl rfl

theorem State.replayRest_later {z0 s : State} (hz : Later z0 s) (e : Nat) : Later z0 (State.replayRest s e) := by
  unfold State.replayRest
  try dsimp only
  repeat' first
    | (with_reducible assumption)
    | (with_reducible apply State.request_later)
    | (with_reducible apply State.setBill_later)
    | (with_reducible apply State.each_later)
    | (with_reducible apply State.onlyIf_later)
    | (with_reducible apply State.foldl_later)
    | (intro x k hx)
    | (intro x hx)
    | split

theorem State.resumeElem_later {z0 s : State} (hz : Later z0 s) (outage : Nat) (e : Nat) : Later z0 (State.resumeElem s outage e) := by
  unfold State.resumeElem
  try dsimp only
  repeat' first
    | (with_reducible assumption)
    | (with_reducible apply State.setBill_later)
    | (with_reducible apply State.put_later)
    | (with_reducible apply State.put64_later)
    | (with_reducible apply State.showFlags_later)
    | (with_reducible apply State.each_later)
    | (with_reducible apply State.onlyIf_later)
    | (with_reducible apply State.foldl_later)
    | (intro x k hx)
    | (intro x hx)

theorem State.bluReplay_later {r s : State} (h : Later r s) : Later r s.bluReplay := by
  unfold State.bluReplay
  extract_lets ends0 led s1 _ s2 s3 n outage s4 s5 s6 _ s7 s8 _
  have h1 : Later r s1 := State.onlyIf_later (fun x hx => State.put64_later hx _ _ _ _) h
  clear_value s1
  have h2 : Later r s2 := h1.same rfl rfl rfl rfl rfl rfl rfl rfl rfl rfl
  clear_value s2
  have h3 : Later r s3 := by
    dsimp only [s3]
    split
    · exact State.each_later (fun x k hx => State.replayRest_later hx _) (State.fireDue_later h2 _ _ _ _ _)
    · exact State.each_later (fun x k hx => State.beginInterval_later (State.closeInterval_later hx _ _ _ _) _ _ _ _) h2
  clear_value s3
  have h4 : Later r s4 := State.each_later (fun x k hx => State.resumeElem_later hx _ _) h3
  clear_value s4
  have h5 : Later r s5 := State.request_later h4 _ _
  clear_value s5
  have h6 : Later r s6 := State.raise_later (State.put_later h5 _ _ _) _ _
  clear_value s6
  have h7 : Later r s7 := h6.same rfl rfl rfl rfl rfl rfl rfl rfl rfl rfl
  clear_value s7
  have h8 : Later r s8 := State.onlyIf_later (fun x hx => State.setValid_later hx _ _) h7
  clear_value s8
  exact h8.same rfl rfl rfl rfl rfl rfl rfl rfl rfl rfl

theorem State.bluPlan_later {z0 s : State} (hz : Later z0 s) : Later z0 (State.bluPlan s) := by
  unfold State.bluPlan
  try dsimp only
  repeat' first
    | (with_reducible assumption)
    | (with_reducible apply State.actDue_later)
    | (with_reducible apply State.showQueue_later)
    | (with_reducible apply State.refuseSwitch_later)
    | (with_reducible apply State.put_later)
    | (with_reducible apply State.boundaryEnd_later)
    | (with_reducible apply State.cutInterval_later)
    | (with_reducible apply State.newTariff_later)
    | (with_reducible apply State.beginInterval_later)
    | (with_reducible apply State.showFlags_later)
    | (with_reducible apply State.each_later)
    | (with_reducible apply State.onlyIf_later)
    | (with_reducible apply State.foldl_later)
    | (intro x k hx)
    | (intro x hx)
    | split
    | (with_reducible refine Later.built ?_ ?_ ?_ ?_; rotate_left; exact rfl; exact rfl; exact rfl)

theorem State.bluRestore_later {z0 s : State} (hz : Later z0 s) : Later z0 (State.bluRestore s) := by
  unfold State.bluRestore
  try dsimp only
  repeat' first
    | (with_reducible assumption)
    | (with_reducible apply State.bluReplay_later)
    | (with_reducible apply State.bluPlan_later)
    | (with_reducible apply State.each_later)
    | (with_reducible apply State.onlyIf_later)
    | (with_reducible apply State.foldl_later)
    | (intro x k hx)
    | (intro x hx)
    | split
    | (with_reducible refine Later.built ?_ ?_ ?_ ?_; rotate_left; exact rfl; exact rfl; exact rfl)

theorem State.actBoundary_later {z0 s : State} (hz : Later z0 s) (b : Nat) : Later z0 (s.actBoundary b) := by
  unfold State.actBoundary
  extract_lets s1 _ s2 s3 s4 meets starts stops pf billed ending s5 s6 s7 s8 s9 s10
  have h1 : Later z0 s1 := State.moveTo_later hz _
  clear_value s1
  have h2 : Later z0 s2 := h1.same rfl rfl rfl rfl rfl rfl rfl rfl rfl rfl
  clear_value s2
  have h3 : Later z0 s3 := State.onlyIf_later (fun x hx => State.bluRestore_later hx) (State.meuBoundary_later h2)
  clear_value s3
  have h4 : Later z0 s4 := State.onlyIf_later (fun x hx => State.advanceH_later hx) (State.onlyIf_later (fun x hx => State.hostSync_later hx) h3)
  clear_value s4
  have h5 : Later z0 s5 := State.onlyIf_later (fun x hx => State.each_later (fun y k hy => State.periodAndBook_later hy _) hx) h4
  clear_value s5
  have h6 : Later z0 s6 := State.meuLatches_later h5 _ _
  clear_value s6
  have h7 : Later z0 s7 := by
    refine State.onlyIf_later (fun x hx => ?_) h6
    extract_lets y1 y2 y3
    have k1 : Later z0 y1 := by
      refine State.each_later (fun y k hy => ?_) hx
      split
      · exact State.turnInterval_later hy _ _ _ _
      · exact hy
    clear_value y1
    have k2 : Later z0 y2 := State.each_later (fun y k hy => State.closeSession_later hy _) k1
    clear_value y2
    have k3 : Later z0 y3 := State.expireWall_later (State.fireDue_later k2 _ _ _ _ _)
    clear_value y3
    exact State.each_later (fun y k hy => State.openSession_later hy _) k3
  clear_value s7
  have h8 : Later z0 s8 := State.showSyncAge_later h7
  clear_value s8
  have h9 : Later z0 s9 := State.onlyIf_later (fun x hx => State.put_later (State.latchFields_later hx _ _) _ _ _) h8
  clear_value s9
  have h10 : Later z0 s10 := State.onlyIf_later (fun x hx => State.put_later (State.latchFields_later hx _ _) _ _ _) h9
  clear_value s10
  exact State.meuSecond_later h10

theorem execMeteringBoundary_later (s : State) : Runs s (execMeteringBoundary s) := by
  unfold execMeteringBoundary
  try dsimp only
  repeat' first
    | (with_reducible assumption)
    | (with_reducible exact Later.refl _)
    | (with_reducible apply Runs.next)
    | (with_reducible apply State.actBoundary_later)
    | (with_reducible apply State.each_later)
    | (with_reducible apply State.onlyIf_later)
    | (with_reducible apply State.foldl_later)
    | (intro x k hx)
    | (intro x hx)
    | split
    | (with_reducible refine Later.built ?_ ?_ ?_ ?_; rotate_left; exact rfl; exact rfl; exact rfl)

theorem execMeterTick_later (s : State) : Runs s (execMeterTick s) := by
  unfold execMeterTick
  try dsimp only
  repeat' first
    | (with_reducible assumption)
    | (with_reducible exact Later.refl _)
    | (with_reducible apply Runs.next)
    | (with_reducible apply State.moveTo_later)
    | (with_reducible apply State.actBoundary_later)
    | (with_reducible apply State.writeTicks_later)
    | (with_reducible apply State.each_later)
    | (with_reducible apply State.onlyIf_later)
    | (with_reducible apply State.foldl_later)
    | (intro x k hx)
    | (intro x hx)
    | split

theorem State.writeGo_later {z0 s : State} (hz : Later z0 s) (isNow : Bool) (tariff : Nat) (scope : Nat) : Later z0 (State.writeGo s isNow tariff scope) := by
  unfold State.writeGo
  try dsimp only
  repeat' first
    | (with_reducible assumption)
    | (with_reducible apply State.putFlag_later)
    | (with_reducible apply State.put_later)
    | (with_reducible apply State.refuseSwitch_later)
    | (with_reducible apply State.showQueue_later)
    | (with_reducible apply State.each_later)
    | (with_reducible apply State.onlyIf_later)
    | (with_reducible apply State.foldl_later)
    | (intro x k hx)
    | (intro x hx)
    | split
    | (with_reducible refine Later.built ?_ ?_ ?_ ?_; rotate_left; exact rfl; exact rfl; exact rfl)

theorem execGo_later (isNow : Bool) (tariff : BitVec 5) (scope : BitVec 8) (s : State) : Runs s (execGo isNow tariff scope s) := by
  unfold execGo
  try dsimp only
  repeat' first
    | (with_reducible assumption)
    | (with_reducible exact Later.refl _)
    | (with_reducible apply Runs.next)
    | (with_reducible apply State.writeGo_later)

theorem State.writeClrq_later {z0 s : State} (hz : Later z0 s) (scope : Nat) : Later z0 (State.writeClrq s scope) := by
  unfold State.writeClrq
  try dsimp only
  repeat' first
    | (with_reducible assumption)
    | (with_reducible apply State.put_later)
    | (with_reducible apply State.showQueue_later)
    | (with_reducible apply State.each_later)
    | (with_reducible apply State.onlyIf_later)
    | (with_reducible apply State.foldl_later)
    | (intro x k hx)
    | (intro x hx)
    | split
    | (with_reducible refine Later.built ?_ ?_ ?_ ?_; rotate_left; exact rfl; exact rfl; exact rfl)

theorem execClrq_later (scope : BitVec 8) (s : State) : Runs s (execClrq scope s) := by
  unfold execClrq
  try dsimp only
  repeat' first
    | (with_reducible assumption)
    | (with_reducible exact Later.refl _)
    | (with_reducible apply Runs.next)
    | (with_reducible apply State.writeClrq_later)

theorem execTariffSwitchFire_later (s : State) : Runs s (execTariffSwitchFire s) := by
  unfold execTariffSwitchFire
  extract_lets s1 s2 due es s3
  have h1 : Later s s1 := State.moveTo_later (Later.refl s) _
  clear_value s1
  split
  · exact Runs.next h1
  · have h2 : Later s s2 := State.advanceH_later h1
    clear_value s2
    have h3 : Later s s3 := State.each_later (fun y k hy => State.boundaryEnd_later hy _) h2
    clear_value s3
    exact Runs.next (State.each_later (fun x t hx =>
      State.fireSwitchesAt_later (State.each_later (fun y k hy => State.turnUpTo_later hy _ _ _ _) hx) _ _ _ _) h3)

theorem execIntervalClose_later (e : Fin 25) (s : State) : Runs s (execIntervalClose e s) := by
  unfold execIntervalClose
  try dsimp only
  repeat' first
    | (with_reducible assumption)
    | (with_reducible exact Later.refl _)
    | (with_reducible apply Runs.next)
    | (with_reducible apply State.moveTo_later)
    | (with_reducible apply State.advanceH_later)
    | (with_reducible apply State.boundaryEnd_later)
    | (with_reducible apply State.fireDue_later)
    | (with_reducible apply State.turnInterval_later)
    | (with_reducible apply State.each_later)
    | (with_reducible apply State.onlyIf_later)
    | (with_reducible apply State.foldl_later)
    | (intro x k hx)
    | (intro x hx)
    | split

theorem State.recordTamper_later {z0 s : State} (hz : Later z0 s) (c : TamperChange) : Later z0 (State.recordTamper s c) := by
  unfold State.recordTamper
  try dsimp only
  repeat' first
    | (with_reducible assumption)
    | (with_reducible apply State.put_later)
    | (with_reducible apply State.raise2_later)
    | (with_reducible apply State.request_later)
    | (with_reducible apply State.each_later)
    | (with_reducible apply State.onlyIf_later)
    | (with_reducible apply State.foldl_later)
    | (intro x k hx)
    | (intro x hx)
    | split
    | (with_reducible refine Later.built ?_ ?_ ?_ ?_; rotate_left; exact rfl; exact rfl; exact rfl)

theorem State.tamperState_later {z0 s : State} (hz : Later z0 s) (c : TamperChange) : Later z0 (State.tamperState s c) := by
  unfold State.tamperState
  try dsimp only
  repeat' first
    | (with_reducible assumption)
    | (with_reducible apply State.putBit_later)
    | (with_reducible apply State.count_later)
    | (with_reducible apply State.setBill_later)
    | (with_reducible apply State.showFlags_later)
    | (with_reducible apply State.putFlag_later)
    | (with_reducible apply State.each_later)
    | (with_reducible apply State.onlyIf_later)
    | (with_reducible apply State.foldl_later)
    | (intro x k hx)
    | (intro x hx)
    | split
    | (with_reducible refine Later.built ?_ ?_ ?_ ?_; rotate_left; exact rfl; exact rfl; exact rfl)

theorem execTamperChange_later (input : Fin 5) (ohms : List Nat) (s : State) : Runs s (execTamperChange input ohms s) := by
  unfold execTamperChange
  try dsimp only
  repeat' first
    | (with_reducible assumption)
    | (with_reducible exact Later.refl _)
    | (with_reducible apply Runs.next)
    | (with_reducible apply State.tamperState_later)
    | (with_reducible apply State.recordTamper_later)
    | (with_reducible apply State.count_later)
    | (with_reducible apply State.each_later)
    | (with_reducible apply State.onlyIf_later)
    | (with_reducible apply State.foldl_later)
    | (intro x k hx)
    | (intro x hx)
    | split
    | (with_reducible refine Later.built ?_ ?_ ?_ ?_; rotate_left; exact rfl; exact rfl; exact rfl)

theorem State.replayTamper_later {z0 s : State} (hz : Later z0 s) : Later z0 (State.replayTamper s) := by
  unfold State.replayTamper
  try dsimp only
  repeat' first
    | (with_reducible assumption)
    | (with_reducible apply State.recordTamper_later)
    | (with_reducible apply State.request_later)
    | (with_reducible apply State.put_later)
    | (with_reducible apply State.each_later)
    | (with_reducible apply State.onlyIf_later)
    | (with_reducible apply State.foldl_later)
    | (intro x k hx)
    | (intro x hx)
    | split
    | (with_reducible refine Later.built ?_ ?_ ?_ ?_; rotate_left; exact rfl; exact rfl; exact rfl)

end Sys2Proof.Machine
end

