-- ==== Sys2Proof/Laws/LaterSched.lean ====
section
/-! SUPPORT. Every operation and every command of the scheduler leads to a later state (Laws/Later.lean). -/

namespace Sys2Proof.Machine

open Sys2Proof

theorem State.showOpen_later {z0 s : State} (hz : Later z0 s) : Later z0 (State.showOpen s) := by
  unfold State.showOpen
  try dsimp only
  repeat' first
    | (with_reducible assumption)
    | (with_reducible apply State.put_later)
    | (with_reducible apply State.each_later)
    | (with_reducible apply State.onlyIf_later)
    | (with_reducible apply State.foldl_later)
    | (intro x k hx)

theorem State.setStat_later {z0 s : State} (hz : Later z0 s) (stream : Nat) (v : StreamStat) : Later z0 (State.setStat s stream v) := by
  unfold State.setStat
  try dsimp only
  repeat' first
    | (with_reducible assumption)
    | (with_reducible apply State.each_later)
    | (with_reducible apply State.onlyIf_later)
    | (with_reducible apply State.foldl_later)
    | (intro x k hx)
    | (intro x hx)
    | split
    | (with_reducible refine Later.built ?_ ?_ ?_ ?_; rotate_left; exact rfl; exact rfl; exact rfl)

theorem State.bindStream_later {z0 s : State} (hz : Later z0 s) (stream : Nat) (cls : Nat) : Later z0 (State.bindStream s stream cls) := by
  unfold State.bindStream
  try dsimp only
  repeat' first
    | (with_reducible assumption)
    | (with_reducible apply State.setStat_later)
    | (with_reducible apply State.showOpen_later)
    | (with_reducible apply State.each_later)
    | (with_reducible apply State.onlyIf_later)
    | (with_reducible apply State.foldl_later)
    | (intro x k hx)
    | (intro x hx)
    | split
    | (with_reducible refine Later.built ?_ ?_ ?_ ?_; rotate_left; exact rfl; exact rfl; exact rfl)

theorem State.refuseStream_later {z0 s : State} (hz : Later z0 s) (stream : Nat) : Later z0 (State.refuseStream s stream) := by
  unfold State.refuseStream
  try dsimp only
  repeat' first
    | (with_reducible assumption)
    | (with_reducible apply State.put_later)
    | (with_reducible apply State.count_later)
    | (with_reducible apply State.raise_later)

theorem State.antennaAnswer_later {z0 s : State} (hz : Later z0 s) (stream : Nat) : Later z0 (State.antennaAnswer s stream) := by
  unfold State.antennaAnswer
  try dsimp only
  repeat' first
    | (with_reducible assumption)
    | (with_reducible apply State.putFlag_later)
    | (with_reducible apply State.raise2_later)
    | (with_reducible apply State.each_later)
    | (with_reducible apply State.onlyIf_later)
    | (with_reducible apply State.foldl_later)
    | (intro x k hx)
    | (intro x hx)
    | split

theorem State.admitStream_later {z0 s : State} (hz : Later z0 s) (stream : Nat) (cls : Nat) : Later z0 (State.admitStream s stream cls) := by
  unfold State.admitStream
  try dsimp only
  repeat' first
    | (with_reducible assumption)
    | (with_reducible apply State.bindStream_later)
    | (with_reducible apply State.refuseStream_later)
    | (with_reducible apply State.antennaAnswer_later)
    | (with_reducible apply State.each_later)
    | (with_reducible apply State.onlyIf_later)
    | (with_reducible apply State.foldl_later)
    | (intro x k hx)
    | (intro x hx)
    | split

theorem State.waitStream_later {z0 s : State} (hz : Later z0 s) (stream : Nat) (cls : Nat) : Later z0 (State.waitStream s stream cls) := by
  unfold State.waitStream
  try dsimp only
  repeat' first
    | (with_reducible assumption)
    | (with_reducible apply State.each_later)
    | (with_reducible apply State.onlyIf_later)
    | (with_reducible apply State.foldl_later)
    | (intro x k hx)
    | (intro x hx)
    | split
    | (with_reducible refine Later.built ?_ ?_ ?_ ?_; rotate_left; exact rfl; exact rfl; exact rfl)

theorem State.endStream_later {z0 s : State} (hz : Later z0 s) (stream : Nat) : Later z0 (State.endStream s stream) := by
  unfold State.endStream
  try dsimp only
  repeat' first
    | (with_reducible assumption)
    | (with_reducible apply State.each_later)
    | (with_reducible apply State.onlyIf_later)
    | (with_reducible apply State.foldl_later)
    | (intro x k hx)
    | (intro x hx)
    | split
    | (with_reducible refine Later.built ?_ ?_ ?_ ?_; rotate_left; exact rfl; exact rfl; exact rfl)

theorem State.openFreed_later {z0 s : State} (hz : Later z0 s) (e : Nat) : Later z0 (State.openFreed s e) := by
  unfold State.openFreed
  try dsimp only
  repeat' first
    | (with_reducible assumption)
    | (with_reducible apply State.showOpen_later)
    | (with_reducible apply State.each_later)
    | (with_reducible apply State.onlyIf_later)
    | (with_reducible apply State.foldl_later)
    | (intro x k hx)
    | (intro x hx)
    | split
    | (with_reducible refine Later.built ?_ ?_ ?_ ?_; rotate_left; exact rfl; exact rfl; exact rfl)

theorem execAdmissionRequest_later (stream : BitVec 16) (cls : Fin 16) (s : State) : Runs s (execAdmissionRequest stream cls s) := by
  unfold execAdmissionRequest
  try dsimp only
  repeat' first
    | (with_reducible assumption)
    | (with_reducible exact Later.refl _)
    | (with_reducible apply Runs.next)
    | (with_reducible apply State.admitStream_later)

theorem execStreamEnd_later (stream : BitVec 16) (s : State) : Runs s (execStreamEnd stream s) := by
  unfold execStreamEnd
  try dsimp only
  repeat' first
    | (with_reducible assumption)
    | (with_reducible exact Later.refl _)
    | (with_reducible apply Runs.next)
    | (with_reducible apply State.endStream_later)
    | (with_reducible apply State.putFlag_later)
    | (with_reducible apply State.each_later)
    | (with_reducible apply State.onlyIf_later)
    | (with_reducible apply State.foldl_later)
    | (intro x k hx)
    | (intro x hx)

theorem State.complete_later {z0 s : State} (hz : Later z0 s) (x : Slice) (t : Nat) : Later z0 (State.complete s x t) := by
  unfold State.complete
  try dsimp only
  repeat' first
    | (with_reducible assumption)
    | (with_reducible apply State.setStat_later)
    | (with_reducible apply State.put_later)
    | (with_reducible apply State.count_later)
    | (with_reducible apply State.raise_later)
    | (with_reducible apply State.each_later)
    | (with_reducible apply State.onlyIf_later)
    | (with_reducible apply State.foldl_later)
    | (intro x k hx)
    | (intro x hx)
    | split

theorem execSliceRun_later (e : Fin 6) (index : BitVec 16) (done : Option Nat) (s : State) : Runs s (execSliceRun e index done s) := by
  unfold execSliceRun
  try dsimp only
  repeat' first
    | (with_reducible assumption)
    | (with_reducible exact Later.refl _)
    | (with_reducible apply Runs.next)
    | (with_reducible apply State.complete_later)
    | (with_reducible apply State.each_later)
    | (with_reducible apply State.onlyIf_later)
    | (with_reducible apply State.foldl_later)
    | (intro x k hx)
    | (intro x hx)
    | split

theorem State.showStream_later {z0 s : State} (hz : Later z0 s) : Later z0 (State.showStream s) := by
  unfold State.showStream
  try dsimp only
  repeat' first
    | (with_reducible assumption)
    | (with_reducible apply State.put_later)

theorem State.bindSlices_later {z0 s : State} (hz : Later z0 s) (p : Plan) : Later z0 (State.bindSlices s p) := by
  unfold State.bindSlices
  try dsimp only
  repeat' first
    | (with_reducible assumption)
    | (with_reducible apply State.showOpen_later)
    | (with_reducible apply State.bindStream_later)
    | (with_reducible apply State.each_later)
    | (with_reducible apply State.onlyIf_later)
    | (with_reducible apply State.foldl_later)
    | (intro x k hx)
    | (intro x hx)
    | split
    | (with_reducible refine Later.built ?_ ?_ ?_ ?_; rotate_left; exact rfl; exact rfl; exact rfl)

end Sys2Proof.Machine
end

