-- ==== Sys2Proof/Laws/LaterContactless.lean ====
section
/-! SUPPORT. Every operation and every command of the CLU leads to a later state (Laws/Later.lean). -/

namespace Sys2Proof.Machine

open Sys2Proof

theorem State.setClu_later {z0 s : State} (hz : Later z0 s) (c : Clu) : Later z0 (State.setClu s c) := by
  unfold State.setClu
  try dsimp only
  repeat' first
    | (with_reducible assumption)
    | (with_reducible apply State.each_later)
    | (with_reducible apply State.onlyIf_later)
    | (with_reducible apply State.foldl_later)
    | (intro x k hx)
    | (intro x hx)
    | split
    | (with_reducible refine Later.built ?_ ?_ ?_ ?_; rotate_left; exact rfl; exact rfl; exact rfl)

theorem State.antennaOn_later {z0 s : State} (hz : Later z0 s) (k : Nat) : Later z0 (State.antennaOn s k) := by
  unfold State.antennaOn
  try dsimp only
  repeat' first
    | (with_reducible assumption)
    | (with_reducible apply State.putFlag_later)
    | (with_reducible apply State.admitStream_later)

theorem State.antennaOff_later {z0 s : State} (hz : Later z0 s) (k : Nat) : Later z0 (State.antennaOff s k) := by
  unfold State.antennaOff
  try dsimp only
  repeat' first
    | (with_reducible assumption)
    | (with_reducible apply State.putFlag_later)
    | (with_reducible apply State.endStream_later)
    | (with_reducible apply State.setClu_later)

theorem execAntennaEnable_later (k : Fin 4) (s : State) : Runs s (execAntennaEnable k s) := by
  unfold execAntennaEnable
  try dsimp only
  repeat' first
    | (with_reducible assumption)
    | (with_reducible exact Later.refl _)
    | (with_reducible apply Runs.next)
    | (with_reducible apply State.antennaOn_later)

theorem execAntennaDisable_later (k : Fin 4) (s : State) : Runs s (execAntennaDisable k s) := by
  unfold execAntennaDisable
  try dsimp only
  repeat' first
    | (with_reducible assumption)
    | (with_reducible exact Later.refl _)
    | (with_reducible apply Runs.next)
    | (with_reducible apply State.antennaOff_later)

theorem State.showCard_later {z0 s : State} (hz : Later z0 s) (k : Nat) (tech : Nat) (uid : List Nat) : Later z0 (State.showCard s k tech uid) := by
  unfold State.showCard
  try dsimp only
  repeat' first
    | (with_reducible assumption)
    | (with_reducible apply State.put_later)

theorem execAntennaSlice_later (k : Fin 4) (r : AntennaResult) (s : State) : Runs s (execAntennaSlice k r s) := by
  unfold execAntennaSlice
  try dsimp only
  repeat' first
    | (with_reducible assumption)
    | (with_reducible exact Later.refl _)
    | (with_reducible apply Runs.next)
    | (with_reducible apply State.count_later)
    | (with_reducible apply State.showCard_later)
    | (with_reducible apply State.setClu_later)
    | (with_reducible apply State.putFlag_later)
    | (with_reducible apply State.put_later)
    | (with_reducible apply State.raise2_later)
    | (with_reducible apply State.take_later)
    | (with_reducible apply State.each_later)
    | (with_reducible apply State.onlyIf_later)
    | (with_reducible apply State.foldl_later)
    | (intro x k hx)
    | (intro x hx)
    | split

theorem execCardExchange_later (k : Fin 4) (request : List Nat) (outcome : Fin 3) (answer : List Nat) (s : State) : Runs s (execCardExchange k request outcome answer s) := by
  unfold execCardExchange
  try dsimp only
  repeat' first
    | (with_reducible assumption)
    | (with_reducible exact Later.refl _)
    | (with_reducible apply Runs.next)
    | (with_reducible apply State.setClu_later)
    | (with_reducible apply State.each_later)
    | (with_reducible apply State.onlyIf_later)
    | (with_reducible apply State.foldl_later)
    | (intro x k hx)
    | (intro x hx)
    | split

theorem execExchangeBreak_later (k : Fin 4) (s : State) : Runs s (execExchangeBreak k s) := by
  unfold execExchangeBreak
  try dsimp only
  repeat' first
    | (with_reducible assumption)
    | (with_reducible exact Later.refl _)
    | (with_reducible apply Runs.next)
    | (with_reducible apply State.moveTo_later)
    | (with_reducible apply State.setClu_later)
    | (with_reducible apply State.raise2_later)
    | (with_reducible apply State.each_later)
    | (with_reducible apply State.onlyIf_later)
    | (with_reducible apply State.foldl_later)
    | (intro x k hx)
    | (intro x hx)
    | split

theorem State.fieldsOff_later {z0 s : State} (hz : Later z0 s) : Later z0 (State.fieldsOff s) := by
  unfold State.fieldsOff
  try dsimp only
  repeat' first
    | (with_reducible assumption)
    | (with_reducible apply State.setClu_later)

theorem State.tagEvent_later {z0 s : State} (hz : Later z0 s) (code : Nat) (arg : Nat) : Later z0 (State.tagEvent s code arg) := by
  unfold State.tagEvent
  try dsimp only
  repeat' first
    | (with_reducible assumption)
    | (with_reducible apply State.setClu_later)
    | (with_reducible apply State.raise_later)
    | (with_reducible apply State.each_later)
    | (with_reducible apply State.onlyIf_later)
    | (with_reducible apply State.foldl_later)
    | (intro x k hx)
    | (intro x hx)
    | split

theorem State.tagRequest_later {z0 s : State} {q : TagRequest} {act : State → State} (hf : ∀ x, Later z0 x → Later z0 (act x)) (hz : Later z0 s) :
    Later z0 (State.tagRequest s q act) := by
  unfold State.tagRequest
  exact State.onlyIf_later hf (State.setClu_later hz _)

theorem State.tagCustom_later {z0 s : State} {q : TagRequest} {act : State → State} (hf : ∀ x, Later z0 x → Later z0 (act x)) (hz : Later z0 s) :
    Later z0 (State.tagCustom s q act) := by
  unfold State.tagCustom
  exact State.tagRequest_later (fun x hx => State.onlyIf_later hf hx) hz

theorem State.tagAnswer_later {z0 s : State} (hz : Later z0 s) (a : TagAnswer) : Later z0 (State.tagAnswer s a) := by
  unfold State.tagAnswer
  try dsimp only
  repeat' first
    | (with_reducible assumption)
    | (with_reducible apply State.setClu_later)

theorem execTagFieldOn_later (s : State) : Runs s (execTagFieldOn s) := by
  unfold execTagFieldOn
  try dsimp only
  repeat' first
    | (with_reducible assumption)
    | (with_reducible exact Later.refl _)
    | (with_reducible apply Runs.next)
    | (with_reducible apply State.putFlag_later)
    | (with_reducible apply State.put_later)
    | (with_reducible apply State.setClu_later)
    | (with_reducible apply State.each_later)
    | (with_reducible apply State.onlyIf_later)
    | (with_reducible apply State.foldl_later)
    | (intro x k hx)
    | (intro x hx)
    | split

theorem State.fieldLoss_later {z0 s : State} (hz : Later z0 s) : Later z0 (State.fieldLoss s) := by
  unfold State.fieldLoss
  try dsimp only
  repeat' first
    | (with_reducible assumption)
    | (with_reducible apply State.putFlag_later)
    | (with_reducible apply State.put_later)
    | (with_reducible apply State.setClu_later)

theorem execTagFieldLoss_later (s : State) : Runs s (execTagFieldLoss s) := by
  unfold execTagFieldLoss
  try dsimp only
  repeat' first
    | (with_reducible assumption)
    | (with_reducible exact Later.refl _)
    | (with_reducible apply Runs.next)
    | (with_reducible apply State.fieldLoss_later)

theorem State.journal_later {z0 s : State} (hz : Later z0 s) : Later z0 (State.journal s) := by
  unfold State.journal
  try dsimp only
  repeat' first
    | (with_reducible assumption)
    | (with_reducible apply State.setClu_later)
    | (with_reducible apply State.count_later)
    | (with_reducible apply State.tagEvent_later)
    | (with_reducible apply State.each_later)
    | (with_reducible apply State.onlyIf_later)
    | (with_reducible apply State.foldl_later)
    | (intro x k hx)
    | (intro x hx)
    | split

theorem execTagPowerUp_later (reservoir : Bool) (s : State) : Runs s (execTagPowerUp reservoir s) := by
  unfold execTagPowerUp
  try dsimp only
  repeat' first
    | (with_reducible assumption)
    | (with_reducible exact Later.refl _)
    | (with_reducible apply Runs.next)
    | (with_reducible apply State.putFlag_later)
    | (with_reducible apply State.journal_later)
    | (with_reducible apply State.setClu_later)
    | (with_reducible apply State.each_later)
    | (with_reducible apply State.onlyIf_later)
    | (with_reducible apply State.foldl_later)
    | (intro x k hx)
    | (intro x hx)
    | split

theorem execInventory_later (req : TagRequest) (mask : Nat) (len : Nat) (afi : Option Nat) (s : State) : Runs s (execInventory req mask len afi s) := by
  unfold execInventory
  try dsimp only
  repeat' first
    | (with_reducible assumption)
    | (with_reducible exact Later.refl _)
    | (with_reducible apply Runs.next)
    | (with_reducible apply State.tagRequest_later)
    | (with_reducible apply State.tagAnswer_later)
    | (with_reducible apply State.each_later)
    | (with_reducible apply State.onlyIf_later)
    | (with_reducible apply State.foldl_later)
    | (intro x k hx)
    | (intro x hx)

theorem execStayQuiet_later (req : TagRequest) (s : State) : Runs s (execStayQuiet req s) := by
  unfold execStayQuiet
  try dsimp only
  repeat' first
    | (with_reducible assumption)
    | (with_reducible exact Later.refl _)
    | (with_reducible apply Runs.next)
    | (with_reducible apply State.tagRequest_later)
    | (with_reducible apply State.setClu_later)
    | (with_reducible apply State.tagAnswer_later)
    | (with_reducible apply State.each_later)
    | (with_reducible apply State.onlyIf_later)
    | (with_reducible apply State.foldl_later)
    | (intro x k hx)
    | (intro x hx)

theorem execSelect_later (req : TagRequest) (s : State) : Runs s (execSelect req s) := by
  unfold execSelect
  try dsimp only
  repeat' first
    | (with_reducible assumption)
    | (with_reducible exact Later.refl _)
    | (with_reducible apply Runs.next)
    | (with_reducible apply State.setClu_later)
    | (with_reducible apply State.tagRequest_later)
    | (with_reducible apply State.tagAnswer_later)
    | (with_reducible apply State.each_later)
    | (with_reducible apply State.onlyIf_later)
    | (with_reducible apply State.foldl_later)
    | (intro x k hx)
    | (intro x hx)

theorem execResetToReady_later (req : TagRequest) (s : State) : Runs s (execResetToReady req s) := by
  unfold execResetToReady
  try dsimp only
  repeat' first
    | (with_reducible assumption)
    | (with_reducible exact Later.refl _)
    | (with_reducible apply Runs.next)
    | (with_reducible apply State.tagRequest_later)
    | (with_reducible apply State.setClu_later)
    | (with_reducible apply State.tagAnswer_later)
    | (with_reducible apply State.each_later)
    | (with_reducible apply State.onlyIf_later)
    | (with_reducible apply State.foldl_later)
    | (intro x k hx)
    | (intro x hx)

theorem State.fieldRead_later {z0 s : State} (hz : Later z0 s) (q : TagRequest) (blocks : List Nat) : Later z0 (State.fieldRead s q blocks) := by
  unfold State.fieldRead
  try dsimp only
  repeat' first
    | (with_reducible assumption)
    | (with_reducible apply State.tagRequest_later)
    | (with_reducible apply State.tagAnswer_later)
    | (with_reducible apply State.count_later)
    | (with_reducible apply State.each_later)
    | (with_reducible apply State.onlyIf_later)
    | (with_reducible apply State.foldl_later)
    | (intro x k hx)
    | (intro x hx)
    | split

theorem execReadSingleBlock_later (req : TagRequest) (block : BitVec 16) (s : State) : Runs s (execReadSingleBlock req block s) := by
  unfold execReadSingleBlock
  try dsimp only
  repeat' first
    | (with_reducible assumption)
    | (with_reducible exact Later.refl _)
    | (with_reducible apply Runs.next)
    | (with_reducible apply State.fieldRead_later)

theorem execReadMultipleBlocks_later (req : TagRequest) (block : BitVec 16) (count : BitVec 16) (s : State) : Runs s (execReadMultipleBlocks req block count s) := by
  unfold execReadMultipleBlocks
  try dsimp only
  repeat' first
    | (with_reducible assumption)
    | (with_reducible exact Later.refl _)
    | (with_reducible apply Runs.next)
    | (with_reducible apply State.fieldRead_later)

theorem State.collapsed_later {z0 s : State} (hz : Later z0 s) (b : Nat) (v : Nat) (step : Nat) : Later z0 (State.collapsed s b v step) := by
  unfold State.collapsed
  try dsimp only
  repeat' first
    | (with_reducible assumption)
    | (with_reducible apply State.draw_later)
    | (with_reducible apply State.count_later)
    | (with_reducible apply State.setClu_later)
    | (with_reducible apply State.fieldLoss_later)
    | (with_reducible apply State.each_later)
    | (with_reducible apply State.onlyIf_later)
    | (with_reducible apply State.foldl_later)
    | (intro x k hx)
    | (intro x hx)

theorem State.journalWrite_later {z0 s : State} (hz : Later z0 s) (b : Nat) (v : Nat) : Later z0 (State.journalWrite s b v) := by
  unfold State.journalWrite
  try dsimp only
  repeat' first
    | (with_reducible assumption)
    | (with_reducible apply State.setClu_later)
    | (with_reducible apply State.count_later)

theorem execWriteSingleBlock_later (req : TagRequest) (block : BitVec 16) (value : BitVec 32) (reservoir : Bool) (cut : Option WriteCut) (s : State) : Runs s (execWriteSingleBlock req block value reservoir cut s) := by
  unfold execWriteSingleBlock
  try dsimp only
  repeat' first
    | (with_reducible assumption)
    | (with_reducible exact Later.refl _)
    | (with_reducible apply Runs.next)
    | (with_reducible apply State.tagRequest_later)
    | (with_reducible apply State.putFlag_later)
    | (with_reducible apply State.tagAnswer_later)
    | (with_reducible apply State.put_later)
    | (with_reducible apply State.tagEvent_later)
    | (with_reducible apply State.journalWrite_later)
    | (with_reducible apply State.fieldLoss_later)
    | (with_reducible apply State.collapsed_later)
    | (with_reducible apply State.each_later)
    | (with_reducible apply State.onlyIf_later)
    | (with_reducible apply State.foldl_later)
    | (intro x k hx)
    | (intro x hx)
    | split

theorem execGetSystemInformation_later (req : TagRequest) (s : State) : Runs s (execGetSystemInformation req s) := by
  unfold execGetSystemInformation
  try dsimp only
  repeat' first
    | (with_reducible assumption)
    | (with_reducible exact Later.refl _)
    | (with_reducible apply Runs.next)
    | (with_reducible apply State.tagRequest_later)
    | (with_reducible apply State.tagAnswer_later)
    | (with_reducible apply State.each_later)
    | (with_reducible apply State.onlyIf_later)
    | (with_reducible apply State.foldl_later)
    | (intro x k hx)
    | (intro x hx)

theorem execUnsupportedTagCommand_later (req : TagRequest) (s : State) : Runs s (execUnsupportedTagCommand req s) := by
  unfold execUnsupportedTagCommand
  try dsimp only
  repeat' first
    | (with_reducible assumption)
    | (with_reducible exact Later.refl _)
    | (with_reducible apply Runs.next)
    | (with_reducible apply State.tagRequest_later)
    | (with_reducible apply State.tagAnswer_later)
    | (with_reducible apply State.each_later)
    | (with_reducible apply State.onlyIf_later)
    | (with_reducible apply State.foldl_later)
    | (intro x k hx)
    | (intro x hx)

theorem State.authFail_later {z0 s : State} (hz : Later z0 s) : Later z0 (State.authFail s) := by
  unfold State.authFail
  try dsimp only
  repeat' first
    | (with_reducible assumption)
    | (with_reducible apply State.put_later)
    | (with_reducible apply State.tagEvent_later)
    | (with_reducible apply State.putFlag_later)
    | (with_reducible apply State.tagAnswer_later)
    | (with_reducible apply State.each_later)
    | (with_reducible apply State.onlyIf_later)
    | (with_reducible apply State.foldl_later)
    | (intro x k hx)
    | (intro x hx)

theorem State.authOk_later {z0 s : State} (hz : Later z0 s) (how : Nat) : Later z0 (State.authOk s how) := by
  unfold State.authOk
  try dsimp only
  repeat' first
    | (with_reducible assumption)
    | (with_reducible apply State.put_later)
    | (with_reducible apply State.tagEvent_later)
    | (with_reducible apply State.tagAnswer_later)

theorem State.notAccepted_later {z0 s : State} (hz : Later z0 s) : Later z0 (State.notAccepted s) := by
  unfold State.notAccepted
  try dsimp only
  repeat' first
    | (with_reducible assumption)
    | (with_reducible apply State.draw_later)
    | (with_reducible apply State.tagAnswer_later)

theorem execTpwd_later (req : TagRequest) (password : BitVec 32) (s : State) : Runs s (execTpwd req password s) := by
  unfold execTpwd
  try dsimp only
  repeat' first
    | (with_reducible assumption)
    | (with_reducible exact Later.refl _)
    | (with_reducible apply Runs.next)
    | (with_reducible apply State.tagCustom_later)
    | (with_reducible apply State.tagAnswer_later)
    | (with_reducible apply State.notAccepted_later)
    | (with_reducible apply State.authOk_later)
    | (with_reducible apply State.authFail_later)
    | (with_reducible apply State.each_later)
    | (with_reducible apply State.onlyIf_later)
    | (with_reducible apply State.foldl_later)
    | (intro x k hx)
    | (intro x hx)
    | split

theorem execTauth1_later (req : TagRequest) (keyNo : BitVec 8) (ra : BitVec 64) (s : State) : Runs s (execTauth1 req keyNo ra s) := by
  unfold execTauth1
  try dsimp only
  repeat' first
    | (with_reducible assumption)
    | (with_reducible exact Later.refl _)
    | (with_reducible apply Runs.next)
    | (with_reducible apply State.tagCustom_later)
    | (with_reducible apply State.tagAnswer_later)
    | (with_reducible apply State.notAccepted_later)
    | (with_reducible apply State.draw_later)
    | (with_reducible apply State.setClu_later)
    | (with_reducible apply State.each_later)
    | (with_reducible apply State.onlyIf_later)
    | (with_reducible apply State.foldl_later)
    | (intro x k hx)
    | (intro x hx)
    | (with_reducible refine Later.snd ?_ (by assumption))
    | split

theorem execTauth2_later (req : TagRequest) (cipher : BitVec 128) (s : State) : Runs s (execTauth2 req cipher s) := by
  unfold execTauth2
  try dsimp only
  repeat' first
    | (with_reducible assumption)
    | (with_reducible exact Later.refl _)
    | (with_reducible apply Runs.next)
    | (with_reducible apply State.tagCustom_later)
    | (with_reducible apply State.tagAnswer_later)
    | (with_reducible apply State.notAccepted_later)
    | (with_reducible apply State.authOk_later)
    | (with_reducible apply State.authFail_later)
    | (with_reducible apply State.each_later)
    | (with_reducible apply State.onlyIf_later)
    | (with_reducible apply State.foldl_later)
    | (intro x k hx)
    | (intro x hx)
    | split

theorem execTlogout_later (req : TagRequest) (s : State) : Runs s (execTlogout req s) := by
  unfold execTlogout
  try dsimp only
  repeat' first
    | (with_reducible assumption)
    | (with_reducible exact Later.refl _)
    | (with_reducible apply Runs.next)
    | (with_reducible apply State.tagCustom_later)
    | (with_reducible apply State.put_later)
    | (with_reducible apply State.tagAnswer_later)
    | (with_reducible apply State.each_later)
    | (with_reducible apply State.onlyIf_later)
    | (with_reducible apply State.foldl_later)
    | (intro x k hx)
    | (intro x hx)

theorem execTstat_later (req : TagRequest) (s : State) : Runs s (execTstat req s) := by
  unfold execTstat
  try dsimp only
  repeat' first
    | (with_reducible assumption)
    | (with_reducible exact Later.refl _)
    | (with_reducible apply Runs.next)
    | (with_reducible apply State.tagCustom_later)
    | (with_reducible apply State.tagAnswer_later)
    | (with_reducible apply State.each_later)
    | (with_reducible apply State.onlyIf_later)
    | (with_reducible apply State.foldl_later)
    | (intro x k hx)
    | (intro x hx)

theorem State.writeHold_later {z0 s : State} (hz : Later z0 s) (on : Bool) : Later z0 (State.writeHold s on) := by
  unfold State.writeHold
  try dsimp only
  repeat' first
    | (with_reducible assumption)
    | (with_reducible apply State.putFlag_later)
    | (with_reducible apply State.setClu_later)

theorem execHold_later (on : Bool) (s : State) : Runs s (execHold on s) := by
  unfold execHold
  try dsimp only
  repeat' first
    | (with_reducible assumption)
    | (with_reducible exact Later.refl _)
    | (with_reducible apply Runs.next)
    | (with_reducible apply State.writeHold_later)

theorem execHoldTimeout_later (s : State) : Runs s (execHoldTimeout s) := by
  unfold execHoldTimeout
  try dsimp only
  repeat' first
    | (with_reducible assumption)
    | (with_reducible exact Later.refl _)
    | (with_reducible apply Runs.next)
    | (with_reducible apply State.moveTo_later)
    | (with_reducible apply State.writeHold_later)
    | (with_reducible apply State.put_later)
    | (with_reducible apply State.raise_later)
    | (with_reducible apply State.each_later)
    | (with_reducible apply State.onlyIf_later)
    | (with_reducible apply State.foldl_later)
    | (intro x k hx)
    | (intro x hx)
    | split

theorem State.throughJournal_later {z0 s : State} (hz : Later z0 s) (data : Option Nat) : Later z0 (State.throughJournal s data) := by
  unfold State.throughJournal
  try dsimp only
  repeat' first
    | (with_reducible assumption)
    | (with_reducible apply State.draw_later)
    | (with_reducible apply State.setClu_later)

theorem State.loadHolds_later {z0 s : State} (hz : Later z0 s) (loss : Bool) : Later z0 (State.loadHolds s loss).2 := by
  unfold State.loadHolds
  try dsimp only
  repeat' first
    | (with_reducible assumption)
    | (with_reducible apply State.draw_later)
    | (with_reducible apply State.each_later)
    | (with_reducible apply State.onlyIf_later)
    | (with_reducible apply State.foldl_later)
    | (intro x k hx)
    | (intro x hx)
    | (with_reducible refine Later.snd ?_ (by assumption))
    | split

theorem State.loadPwd_later {z0 s : State} (hz : Later z0 s) (loss : Bool) : Later z0 (State.loadPwd s loss) := by
  unfold State.loadPwd
  try dsimp only
  repeat' first
    | (with_reducible assumption)
    | (with_reducible apply State.loadHolds_later)
    | (with_reducible apply State.throughJournal_later)
    | (with_reducible apply State.setClu_later)
    | (with_reducible apply State.put_later)
    | (with_reducible apply State.each_later)
    | (with_reducible apply State.onlyIf_later)
    | (with_reducible apply State.foldl_later)
    | (intro x k hx)
    | (intro x hx)

theorem execLoadpwd_later (loss : Bool) (s : State) : Runs s (execLoadpwd loss s) := by
  unfold execLoadpwd
  try dsimp only
  repeat' first
    | (with_reducible assumption)
    | (with_reducible exact Later.refl _)
    | (with_reducible apply Runs.next)
    | (with_reducible apply State.loadPwd_later)

theorem State.loadKey_later {z0 s : State} (hz : Later z0 s) (loss : Bool) : Later z0 (State.loadKey s loss) := by
  unfold State.loadKey
  try dsimp only
  repeat' first
    | (with_reducible assumption)
    | (with_reducible apply State.loadHolds_later)
    | (with_reducible apply State.throughJournal_later)
    | (with_reducible apply State.setClu_later)
    | (with_reducible apply State.put_later)
    | (with_reducible apply State.each_later)
    | (with_reducible apply State.onlyIf_later)
    | (with_reducible apply State.foldl_later)
    | (intro x k hx)
    | (intro x hx)

theorem execLoadkey_later (loss : Bool) (s : State) : Runs s (execLoadkey loss s) := by
  unfold execLoadkey
  try dsimp only
  repeat' first
    | (with_reducible assumption)
    | (with_reducible exact Later.refl _)
    | (with_reducible apply Runs.next)
    | (with_reducible apply State.loadKey_later)

theorem State.clearTfail_later {z0 s : State} (hz : Later z0 s) : Later z0 (State.clearTfail s) := by
  unfold State.clearTfail
  try dsimp only
  repeat' first
    | (with_reducible assumption)
    | (with_reducible apply State.put_later)
    | (with_reducible apply State.putFlag_later)

theorem execTfailclr_later (s : State) : Runs s (execTfailclr s) := by
  unfold execTfailclr
  try dsimp only
  repeat' first
    | (with_reducible assumption)
    | (with_reducible exact Later.refl _)
    | (with_reducible apply Runs.next)
    | (with_reducible apply State.clearTfail_later)

theorem State.tagHostWrite_later {z0 s : State} (hz : Later z0 s) (off : Nat) (value : Nat) : Later z0 (State.tagHostWrite s off value) := by
  unfold State.tagHostWrite
  try dsimp only
  repeat' first
    | (with_reducible assumption)
    | (with_reducible apply State.setClu_later)
    | (with_reducible apply State.raise_later)
    | (with_reducible apply State.each_later)
    | (with_reducible apply State.onlyIf_later)
    | (with_reducible apply State.foldl_later)
    | (intro x k hx)
    | (intro x hx)
    | split

theorem State.tagReady_later {z0 s : State} (hz : Later z0 s) : Later z0 (State.tagReady s) := by
  unfold State.tagReady
  try dsimp only
  repeat' first
    | (with_reducible assumption)
    | (with_reducible apply State.putFlag_later)
    | (with_reducible apply State.journal_later)
    | (with_reducible apply State.each_later)
    | (with_reducible apply State.onlyIf_later)
    | (with_reducible apply State.foldl_later)
    | (intro x k hx)
    | (intro x hx)
    | split

theorem execTagMemoryHostWrite_later (off : BitVec 13) (value : BitVec 32) (s : State) : Runs s (execTagMemoryHostWrite off value s) := by
  unfold execTagMemoryHostWrite
  try dsimp only
  repeat' first
    | (with_reducible assumption)
    | (with_reducible exact Later.refl _)
    | (with_reducible apply Runs.next)
    | (with_reducible apply State.tagReady_later)
    | (with_reducible apply State.tagHostWrite_later)

theorem State.cluStart_later {z0 s : State} (hz : Later z0 s) : Later z0 (State.cluStart s) := by
  unfold State.cluStart
  try dsimp only
  repeat' first
    | (with_reducible assumption)
    | (with_reducible apply State.tagReady_later)
    | (with_reducible apply State.setClu_later)
    | (with_reducible apply State.raise_later)
    | (with_reducible apply State.each_later)
    | (with_reducible apply State.onlyIf_later)
    | (with_reducible apply State.foldl_later)
    | (intro x k hx)

theorem State.cluWarm_later {z0 s : State} (hz : Later z0 s) : Later z0 (State.cluWarm s) := by
  unfold State.cluWarm
  try dsimp only
  repeat' first
    | (with_reducible assumption)
    | (with_reducible apply State.clearUnit_later)
    | (with_reducible apply State.fieldsOff_later)
    | (with_reducible apply State.setClu_later)

end Sys2Proof.Machine
end

