-- ==== Sys2Proof/Laws/LaterVehicle.lean ====
section
/-! SUPPORT. Every operation and every command of the VCE leads to a later state (Laws/Later.lean). -/

namespace Sys2Proof.Machine

open Sys2Proof

theorem State.setVce_later {z0 s : State} (hz : Later z0 s) (n : Nat) (v : Vce) : Later z0 (State.setVce s n v) := by
  unfold State.setVce
  try dsimp only
  repeat' first
    | (with_reducible assumption)
    | (with_reducible apply State.each_later)
    | (with_reducible apply State.onlyIf_later)
    | (with_reducible apply State.foldl_later)
    | (intro x k hx)
    | (intro x hx)
    | split
    | (with_reducible refine Later.built ?_ ?_ ?_ ?_; rotate_left; exact rfl; exact rfl; exact rfl)

theorem State.showLanes_later {z0 s : State} (hz : Later z0 s) : Later z0 (State.showLanes s) := by
  unfold State.showLanes
  try dsimp only
  repeat' first
    | (with_reducible assumption)
    | (with_reducible apply State.put_later)
    | (with_reducible apply State.each_later)
    | (with_reducible apply State.onlyIf_later)
    | (with_reducible apply State.foldl_later)
    | (intro x k hx)

theorem State.send_later {z0 s : State} (hz : Later z0 s) (n : Nat) (t : VceTx) : Later z0 (State.send s n t) := by
  unfold State.send
  try dsimp only
  repeat' first
    | (with_reducible assumption)
    | (with_reducible apply State.setVce_later)

theorem State.hostMsg_later {z0 s : State} (hz : Later z0 s) (n : Nat) (dir : Nat) (flags : Nat) (code : Nat) (lt : Nat) (body : List Nat) (exi : List Nat) : Later z0 (State.hostMsg s n dir flags code lt body exi) := by
  unfold State.hostMsg
  try dsimp only
  repeat' first
    | (with_reducible assumption)
    | (with_reducible apply State.setVce_later)
    | (with_reducible apply State.each_later)
    | (with_reducible apply State.onlyIf_later)
    | (with_reducible apply State.foldl_later)
    | (intro x k hx)
    | (intro x hx)
    | split
    | (with_reducible refine Later.built ?_ ?_ ?_ ?_; rotate_left; exact rfl; exact rfl; exact rfl)

theorem State.hostRes_later {z0 s : State} (hz : Later z0 s) (n : Nat) (flags : Nat) (o : V2gOut) (lt : Nat) : Later z0 (State.hostRes s n flags o lt) := by
  unfold State.hostRes
  try dsimp only
  repeat' first
    | (with_reducible assumption)
    | (with_reducible apply State.draw_later)
    | (with_reducible apply State.hostMsg_later)

theorem State.laneAdmitted_later {z0 s : State} (hz : Later z0 s) (n : Nat) : Later z0 (State.laneAdmitted s n) := by
  unfold State.laneAdmitted
  try dsimp only
  repeat' first
    | (with_reducible assumption)
    | (with_reducible apply State.put_later)
    | (with_reducible apply State.showLanes_later)
    | (with_reducible apply State.endStream_later)
    | (with_reducible apply State.randomBits_later)
    | (with_reducible apply State.setVce_later)
    | (with_reducible apply State.each_later)
    | (with_reducible apply State.onlyIf_later)
    | (with_reducible apply State.foldl_later)
    | (intro x k hx)
    | (intro x hx)
    | (with_reducible refine Later.snd ?_ (by assumption))
    | split

theorem State.requestLane_later {z0 s : State} (hz : Later z0 s) (n : Nat) : Later z0 (State.requestLane s n) := by
  unfold State.requestLane
  try dsimp only
  repeat' first
    | (with_reducible assumption)
    | (with_reducible apply State.laneAdmitted_later)
    | (with_reducible apply State.bindStream_later)
    | (with_reducible apply State.refuseStream_later)
    | (with_reducible apply State.put_later)
    | (with_reducible apply State.setVce_later)
    | (with_reducible apply State.raise2_later)
    | (with_reducible apply State.waitStream_later)
    | (with_reducible apply State.each_later)
    | (with_reducible apply State.onlyIf_later)
    | (with_reducible apply State.foldl_later)
    | (intro x k hx)
    | (intro x hx)
    | split

theorem State.responderStops_later {z0 s : State} (hz : Later z0 s) (n : Nat) : Later z0 (State.responderStops s n) := by
  unfold State.responderStops
  try dsimp only
  repeat' first
    | (with_reducible assumption)
    | (with_reducible apply State.raise2_later)
    | (with_reducible apply State.each_later)
    | (with_reducible apply State.onlyIf_later)
    | (with_reducible apply State.foldl_later)
    | (intro x k hx)
    | (intro x hx)

theorem State.endSession_later {z0 s : State} (hz : Later z0 s) (n : Nat) (reason : Nat) : Later z0 (State.endSession s n reason) := by
  unfold State.endSession
  try dsimp only
  repeat' first
    | (with_reducible assumption)
    | (with_reducible apply State.responderStops_later)
    | (with_reducible apply State.raise2_later)
    | (with_reducible apply State.put_later)
    | (with_reducible apply State.setVce_later)
    | (with_reducible apply State.endStream_later)
    | (with_reducible apply State.hlcFallback_later)
    | (with_reducible apply State.each_later)
    | (with_reducible apply State.onlyIf_later)
    | (with_reducible apply State.foldl_later)
    | (intro x k hx)
    | (intro x hx)
    | split
    | (with_reducible refine Later.built ?_ ?_ ?_ ?_; rotate_left; exact rfl; exact rfl; exact rfl)

theorem State.setQueue_later {z0 s : State} (hz : Later z0 s) (e : Encoder) : Later z0 (State.setQueue s e) := by
  unfold State.setQueue
  try dsimp only
  repeat' first
    | (with_reducible assumption)
    | (with_reducible apply State.setVce_later)
    | (with_reducible apply State.each_later)
    | (with_reducible apply State.onlyIf_later)
    | (with_reducible apply State.foldl_later)
    | (intro x k hx)
    | (intro x hx)
    | split
    | (with_reducible refine Later.built ?_ ?_ ?_ ?_; rotate_left; exact rfl; exact rfl; exact rfl)

theorem State.sendEncoded_later {z0 s : State} (hz : Later z0 s) : Later z0 (State.sendEncoded s) := by
  unfold State.sendEncoded
  try dsimp only
  repeat' first
    | (with_reducible assumption)
    | (with_reducible apply State.setVce_later)
    | (with_reducible apply State.setQueue_later)
    | (with_reducible apply State.each_later)
    | (with_reducible apply State.onlyIf_later)
    | (with_reducible apply State.foldl_later)
    | (intro x k hx)

theorem State.vceDrop_later {z0 s : State} (hz : Later z0 s) (n : Nat) : Later z0 (State.vceDrop s n) := by
  unfold State.vceDrop
  try dsimp only
  repeat' first
    | (with_reducible assumption)
    | (with_reducible apply State.endSession_later)
    | (with_reducible apply State.put_later)
    | (with_reducible apply State.setVce_later)
    | (with_reducible apply State.setQueue_later)
    | (with_reducible apply State.endStream_later)
    | (with_reducible apply State.showLanes_later)
    | (with_reducible apply State.each_later)
    | (with_reducible apply State.onlyIf_later)
    | (with_reducible apply State.foldl_later)
    | (intro x k hx)
    | (intro x hx)
    | split
    | (with_reducible refine Later.built ?_ ?_ ?_ ?_; rotate_left; exact rfl; exact rfl; exact rfl)

theorem State.tlsLost_later {z0 s : State} (hz : Later z0 s) : Later z0 (State.tlsLost s) := by
  unfold State.tlsLost
  try dsimp only
  repeat' first
    | (with_reducible assumption)
    | (with_reducible apply State.endSession_later)
    | (with_reducible apply State.each_later)
    | (with_reducible apply State.onlyIf_later)
    | (with_reducible apply State.foldl_later)
    | (intro x k hx)
    | (intro x hx)

theorem State.vceFail_later {z0 s : State} (hz : Later z0 s) : Later z0 (State.vceFail s) := by
  unfold State.vceFail
  try dsimp only
  repeat' first
    | (with_reducible assumption)
    | (with_reducible apply State.vceDrop_later)
    | (with_reducible apply State.hlcFallback_later)
    | (with_reducible apply State.each_later)
    | (with_reducible apply State.onlyIf_later)
    | (with_reducible apply State.foldl_later)
    | (intro x k hx)
    | (intro x hx)

theorem State.t1sJoin_later {z0 s : State} (hz : Later z0 s) (n : Nat) : Later z0 (State.t1sJoin s n) := by
  unfold State.t1sJoin
  try dsimp only
  repeat' first
    | (with_reducible assumption)
    | (with_reducible apply State.put_later)
    | (with_reducible apply State.setVce_later)
    | (with_reducible apply State.raise2_later)
    | (with_reducible apply State.each_later)
    | (with_reducible apply State.onlyIf_later)
    | (with_reducible apply State.foldl_later)
    | (intro x k hx)
    | (intro x hx)
    | split

theorem State.vceBand_later {z0 s : State} (hz : Later z0 s) (n : Nat) : Later z0 (State.vceBand s n) := by
  unfold State.vceBand
  try dsimp only
  repeat' first
    | (with_reducible assumption)
    | (with_reducible apply State.vceDrop_later)
    | (with_reducible apply State.t1sJoin_later)
    | (with_reducible apply State.each_later)
    | (with_reducible apply State.onlyIf_later)
    | (with_reducible apply State.foldl_later)
    | (intro x k hx)
    | (intro x hx)

theorem State.vcePilot_later {z0 s : State} (hz : Later z0 s) (n : Nat) : Later z0 (State.vcePilot s n) := by
  unfold State.vcePilot
  try dsimp only
  repeat' first
    | (with_reducible assumption)
    | (with_reducible apply State.vceDrop_later)
    | (with_reducible apply State.endStream_later)
    | (with_reducible apply State.showLanes_later)
    | (with_reducible apply State.put_later)
    | (with_reducible apply State.setVce_later)
    | (with_reducible apply State.requestLane_later)
    | (with_reducible apply State.t1sJoin_later)
    | (with_reducible apply State.each_later)
    | (with_reducible apply State.onlyIf_later)
    | (with_reducible apply State.foldl_later)
    | (intro x k hx)
    | (intro x hx)

theorem State.streamAdmitted_later {z0 s : State} (hz : Later z0 s) (stream : Nat) : Later z0 (State.streamAdmitted s stream) := by
  unfold State.streamAdmitted
  try dsimp only
  repeat' first
    | (with_reducible assumption)
    | (with_reducible apply State.laneAdmitted_later)
    | (with_reducible apply State.send_later)
    | (with_reducible apply State.put_later)
    | (with_reducible apply State.setVce_later)
    | (with_reducible apply State.each_later)
    | (with_reducible apply State.onlyIf_later)
    | (with_reducible apply State.foldl_later)
    | (intro x k hx)
    | (intro x hx)
    | split

theorem execEngineFrameBoundary_later (e : Fin 6) (s : State) : Runs s (execEngineFrameBoundary e s) := by
  unfold execEngineFrameBoundary
  try dsimp only
  repeat' first
    | (with_reducible assumption)
    | (with_reducible exact Later.refl _)
    | (with_reducible apply Runs.next)
    | (with_reducible apply State.openFreed_later)
    | (with_reducible apply State.bindStream_later)
    | (with_reducible apply State.streamAdmitted_later)
    | (with_reducible apply State.showLanes_later)
    | (with_reducible apply State.each_later)
    | (with_reducible apply State.onlyIf_later)
    | (with_reducible apply State.foldl_later)
    | (intro x k hx)
    | (intro x hx)
    | split

theorem State.oversize_later {z0 s : State} (hz : Later z0 s) (n : Nat) : Later z0 (State.oversize s n) := by
  unfold State.oversize
  try dsimp only
  repeat' first
    | (with_reducible assumption)
    | (with_reducible apply State.raise2_later)
    | (with_reducible apply State.send_later)
    | (with_reducible apply State.endSession_later)

theorem State.store_later {z0 s : State} (hz : Later z0 s) (n : Nat) (m : V2gMsg) : Later z0 (State.store s n m) := by
  unfold State.store
  try dsimp only
  repeat' first
    | (with_reducible assumption)
    | (with_reducible apply State.setVce_later)
    | (with_reducible apply State.count_later)
    | (with_reducible apply State.put_later)
    | (with_reducible apply State.raise2_later)
    | (with_reducible apply State.each_later)
    | (with_reducible apply State.onlyIf_later)
    | (with_reducible apply State.foldl_later)
    | (intro x k hx)
    | (intro x hx)
    | split

theorem State.handshakeDone_later {z0 s : State} (hz : Later z0 s) (n : Nat) : Later z0 (State.handshakeDone s n) := by
  unfold State.handshakeDone
  try dsimp only
  repeat' first
    | (with_reducible assumption)
    | (with_reducible apply State.setVce_later)

theorem execVehicleFrameReceived_later (n : Fin 24) (fecError : Bool) (message : Option V2gMsg) (s : State) : Runs s (execVehicleFrameReceived n fecError message s) := by
  unfold execVehicleFrameReceived
  try dsimp only
  repeat' first
    | (with_reducible assumption)
    | (with_reducible exact Later.refl _)
    | (with_reducible apply Runs.next)
    | (with_reducible apply State.count_later)
    | (with_reducible apply State.handshakeDone_later)
    | (with_reducible apply State.oversize_later)
    | (with_reducible apply State.store_later)
    | (with_reducible apply State.each_later)
    | (with_reducible apply State.onlyIf_later)
    | (with_reducible apply State.foldl_later)
    | (intro x k hx)
    | (intro x hx)
    | split

theorem execTransmitEncode_later (n : Fin 24) (micros : Nat) (s : State) : Runs s (execTransmitEncode n micros s) := by
  unfold execTransmitEncode
  try dsimp only
  repeat' first
    | (with_reducible assumption)
    | (with_reducible exact Later.refl _)
    | (with_reducible apply Runs.next)
    | (with_reducible apply State.sendEncoded_later)
    | (with_reducible apply State.setVce_later)
    | (with_reducible apply State.setQueue_later)
    | (with_reducible apply State.each_later)
    | (with_reducible apply State.onlyIf_later)
    | (with_reducible apply State.foldl_later)
    | (intro x k hx)
    | (intro x hx)
    | split

theorem State.setRun_later {z0 s : State} (hz : Later z0 s) (r : SlacRun) : Later z0 (State.setRun s r) := by
  unfold State.setRun
  try dsimp only
  repeat' first
    | (with_reducible assumption)
    | (with_reducible apply State.each_later)
    | (with_reducible apply State.onlyIf_later)
    | (with_reducible apply State.foldl_later)
    | (intro x k hx)
    | (intro x hx)
    | split
    | (with_reducible refine Later.built ?_ ?_ ?_ ?_; rotate_left; exact rfl; exact rfl; exact rfl)

theorem execCmSlacParmReq_later (run : Nat) (heard : BitVec 24) (s : State) : Runs s (execCmSlacParmReq run heard s) := by
  unfold execCmSlacParmReq
  try dsimp only
  repeat' first
    | (with_reducible assumption)
    | (with_reducible exact Later.refl _)
    | (with_reducible apply Runs.next)
    | (with_reducible apply State.setRun_later)
    | (with_reducible apply State.send_later)
    | (with_reducible apply State.setVce_later)
    | (with_reducible apply State.each_later)
    | (with_reducible apply State.onlyIf_later)
    | (with_reducible apply State.foldl_later)
    | (intro x k hx)
    | (intro x hx)

theorem execCmStartAttenCharInd_later (run : Nat) (s : State) : Runs s (execCmStartAttenCharInd run s) := by
  unfold execCmStartAttenCharInd
  try dsimp only
  repeat' first
    | (with_reducible assumption)
    | (with_reducible exact Later.refl _)
    | (with_reducible apply Runs.next)
    | (with_reducible apply State.setRun_later)
    | (with_reducible apply State.each_later)
    | (with_reducible apply State.onlyIf_later)
    | (with_reducible apply State.foldl_later)
    | (intro x k hx)
    | (intro x hx)
    | split

theorem State.marginFailed_later {z0 s : State} (hz : Later z0 s) (n : Nat) (margin : Nat) : Later z0 (State.marginFailed s n margin) := by
  unfold State.marginFailed
  try dsimp only
  repeat' first
    | (with_reducible assumption)
    | (with_reducible apply State.put_later)
    | (with_reducible apply State.raise2_later)

theorem State.matchRun_later {z0 s : State} (hz : Later z0 s) (r : SlacRun) (n : Nat) (sum : Nat) (margin : Nat) : Later z0 (State.matchRun s r n sum margin) := by
  unfold State.matchRun
  try dsimp only
  repeat' first
    | (with_reducible assumption)
    | (with_reducible apply State.setRun_later)
    | (with_reducible apply State.send_later)
    | (with_reducible apply State.marginFailed_later)
    | (with_reducible apply State.each_later)
    | (with_reducible apply State.onlyIf_later)
    | (with_reducible apply State.foldl_later)
    | (intro x k hx)
    | (intro x hx)
    | split

theorem execSoundWindowClose_later (run : Nat) (sounds : List (Nat × Nat × List Nat)) (s : State) : Runs s (execSoundWindowClose run sounds s) := by
  unfold execSoundWindowClose
  try dsimp only
  repeat' first
    | (with_reducible assumption)
    | (with_reducible exact Later.refl _)
    | (with_reducible apply Runs.next)
    | (with_reducible apply State.moveTo_later)
    | (with_reducible apply State.setRun_later)
    | (with_reducible apply State.matchRun_later)
    | (with_reducible apply State.marginFailed_later)
    | (with_reducible apply State.each_later)
    | (with_reducible apply State.onlyIf_later)
    | (with_reducible apply State.foldl_later)
    | (intro x k hx)
    | (intro x hx)
    | split

theorem State.slacFail_later {z0 s : State} (hz : Later z0 s) (n : Nat) : Later z0 (State.slacFail s n) := by
  unfold State.slacFail
  try dsimp only
  repeat' first
    | (with_reducible assumption)
    | (with_reducible apply State.setVce_later)
    | (with_reducible apply State.put_later)
    | (with_reducible apply State.hlcFallback_later)
    | (with_reducible apply State.raise2_later)
    | (with_reducible apply State.each_later)
    | (with_reducible apply State.onlyIf_later)
    | (with_reducible apply State.foldl_later)
    | (intro x k hx)
    | (intro x hx)
    | split
    | (with_reducible refine Later.built ?_ ?_ ?_ ?_; rotate_left; exact rfl; exact rfl; exact rfl)

theorem execCmSlacMatchReq_later (run : Nat) (n : Fin 24) (s : State) : Runs s (execCmSlacMatchReq run n s) := by
  unfold execCmSlacMatchReq
  try dsimp only
  repeat' first
    | (with_reducible assumption)
    | (with_reducible exact Later.refl _)
    | (with_reducible apply Runs.next)
    | (with_reducible apply State.send_later)
    | (with_reducible apply State.setVce_later)
    | (with_reducible apply State.slacFail_later)
    | (with_reducible apply State.each_later)
    | (with_reducible apply State.onlyIf_later)
    | (with_reducible apply State.foldl_later)
    | (intro x k hx)
    | (intro x hx)
    | split

theorem execLinkJoined_later (n : Fin 24) (s : State) : Runs s (execLinkJoined n s) := by
  unfold execLinkJoined
  try dsimp only
  repeat' first
    | (with_reducible assumption)
    | (with_reducible exact Later.refl _)
    | (with_reducible apply Runs.next)
    | (with_reducible apply State.put_later)
    | (with_reducible apply State.setVce_later)
    | (with_reducible apply State.raise2_later)
    | (with_reducible apply State.each_later)
    | (with_reducible apply State.onlyIf_later)
    | (with_reducible apply State.foldl_later)
    | (intro x k hx)
    | (intro x hx)
    | split
    | (with_reducible refine Later.built ?_ ?_ ?_ ?_; rotate_left; exact rfl; exact rfl; exact rfl)

theorem execSlacTimerExpiry_later (n : Fin 24) (s : State) : Runs s (execSlacTimerExpiry n s) := by
  unfold execSlacTimerExpiry
  try dsimp only
  repeat' first
    | (with_reducible assumption)
    | (with_reducible exact Later.refl _)
    | (with_reducible apply Runs.next)
    | (with_reducible apply State.moveTo_later)
    | (with_reducible apply State.slacFail_later)
    | (with_reducible apply State.each_later)
    | (with_reducible apply State.onlyIf_later)
    | (with_reducible apply State.foldl_later)
    | (intro x k hx)
    | (intro x hx)
    | split

theorem execSlacRetry_later (n : Fin 24) (s : State) : Runs s (execSlacRetry n s) := by
  unfold execSlacRetry
  try dsimp only
  repeat' first
    | (with_reducible assumption)
    | (with_reducible exact Later.refl _)
    | (with_reducible apply Runs.next)
    | (with_reducible apply State.moveTo_later)
    | (with_reducible apply State.setVce_later)
    | (with_reducible apply State.put_later)
    | (with_reducible apply State.requestLane_later)
    | (with_reducible apply State.each_later)
    | (with_reducible apply State.onlyIf_later)
    | (with_reducible apply State.foldl_later)
    | (intro x k hx)
    | (intro x hx)
    | split

theorem execT1sLinkChange_later (k : Fin 8) (up : Bool) (s : State) : Runs s (execT1sLinkChange k up s) := by
  unfold execT1sLinkChange
  try dsimp only
  repeat' first
    | (with_reducible assumption)
    | (with_reducible exact Later.refl _)
    | (with_reducible apply Runs.next)
    | (with_reducible apply State.setVce_later)
    | (with_reducible apply State.t1sJoin_later)
    | (with_reducible apply State.each_later)
    | (with_reducible apply State.onlyIf_later)
    | (with_reducible apply State.foldl_later)
    | (intro x k hx)
    | (intro x hx)
    | split
    | (with_reducible refine Later.built ?_ ?_ ?_ ?_; rotate_left; exact rfl; exact rfl; exact rfl)

theorem execT1sLinkDown_later (k : Fin 8) (s : State) : Runs s (execT1sLinkDown k s) := by
  unfold execT1sLinkDown
  try dsimp only
  repeat' first
    | (with_reducible assumption)
    | (with_reducible exact Later.refl _)
    | (with_reducible apply Runs.next)
    | (with_reducible apply State.moveTo_later)
    | (with_reducible apply State.setVce_later)
    | (with_reducible apply State.raise2_later)
    | (with_reducible apply State.endSession_later)
    | (with_reducible apply State.put_later)
    | (with_reducible apply State.writeCloseEn_later)
    | (with_reducible apply State.each_later)
    | (with_reducible apply State.onlyIf_later)
    | (with_reducible apply State.foldl_later)
    | (intro x k hx)
    | (intro x hx)
    | split

theorem State.offerTls_later {z0 s : State} (hz : Later z0 s) (n : Nat) : Later z0 (State.offerTls s n) := by
  unfold State.offerTls
  try dsimp only
  repeat' first
    | (with_reducible assumption)
    | (with_reducible apply State.send_later)
    | (with_reducible apply State.streamAdmitted_later)
    | (with_reducible apply State.bindStream_later)
    | (with_reducible apply State.refuseStream_later)
    | (with_reducible apply State.waitStream_later)
    | (with_reducible apply State.each_later)
    | (with_reducible apply State.onlyIf_later)
    | (with_reducible apply State.foldl_later)
    | (intro x k hx)
    | (intro x hx)
    | split

theorem execSdpRequest_later (n : Fin 24) (tls : Bool) (s : State) : Runs s (execSdpRequest n tls s) := by
  unfold execSdpRequest
  try dsimp only
  repeat' first
    | (with_reducible assumption)
    | (with_reducible exact Later.refl _)
    | (with_reducible apply Runs.next)
    | (with_reducible apply State.put_later)
    | (with_reducible apply State.setVce_later)
    | (with_reducible apply State.raise2_later)
    | (with_reducible apply State.send_later)
    | (with_reducible apply State.offerTls_later)
    | (with_reducible apply State.each_later)
    | (with_reducible apply State.onlyIf_later)
    | (with_reducible apply State.foldl_later)
    | (intro x k hx)
    | (intro x hx)
    | split

theorem State.respondWith_later {z0 s : State} (hz : Later z0 s) (n : Nat) (code : Nat) (result : Nat) (fail : Option V2gFail) : Later z0 (State.respondWith s n code result fail) := by
  unfold State.respondWith
  try dsimp only
  repeat' first
    | (with_reducible assumption)
    | (with_reducible apply State.setVce_later)
    | (with_reducible apply State.send_later)
    | (with_reducible apply State.hostRes_later)
    | (with_reducible apply State.each_later)
    | (with_reducible apply State.onlyIf_later)
    | (with_reducible apply State.foldl_later)
    | (intro x k hx)
    | (intro x hx)

theorem State.respond_later {z0 s : State} (hz : Later z0 s) (n : Nat) (code : Nat) (result : Nat) : Later z0 (State.respond s n code result) := by
  unfold State.respond
  try dsimp only
  repeat' first
    | (with_reducible assumption)
    | (with_reducible apply State.respondWith_later)

theorem State.failRequest_later {z0 s : State} (hz : Later z0 s) (n : Nat) (code : Nat) (f : V2gFail) : Later z0 (State.failRequest s n code f) := by
  unfold State.failRequest
  try dsimp only
  repeat' first
    | (with_reducible assumption)
    | (with_reducible apply State.respondWith_later)
    | (with_reducible apply State.endSession_later)

theorem State.selectProtocol_later {z0 s : State} (hz : Later z0 s) (n : Nat) (offers : List Nat) : Later z0 (State.selectProtocol s n offers) := by
  unfold State.selectProtocol
  try dsimp only
  repeat' first
    | (with_reducible assumption)
    | (with_reducible apply State.setVce_later)
    | (with_reducible apply State.send_later)
    | (with_reducible apply State.hostRes_later)
    | (with_reducible apply State.endSession_later)
    | (with_reducible apply State.put_later)
    | (with_reducible apply State.each_later)
    | (with_reducible apply State.onlyIf_later)
    | (with_reducible apply State.foldl_later)
    | (intro x k hx)
    | (intro x hx)
    | split

theorem State.refuseContract_later {z0 s : State} (hz : Later z0 s) (n : Nat) (code : Nat) (detail : Nat) : Later z0 (State.refuseContract s n code detail) := by
  unfold State.refuseContract
  try dsimp only
  repeat' first
    | (with_reducible assumption)
    | (with_reducible apply State.setVce_later)
    | (with_reducible apply State.raise2_later)
    | (with_reducible apply State.respondWith_later)

theorem State.awaitAuth_later {z0 s : State} (hz : Later z0 s) (n : Nat) (code : Nat) (ask : Bool) : Later z0 (State.awaitAuth s n code ask) := by
  unfold State.awaitAuth
  try dsimp only
  repeat' first
    | (with_reducible assumption)
    | (with_reducible apply State.setVce_later)
    | (with_reducible apply State.respond_later)
    | (with_reducible apply State.each_later)
    | (with_reducible apply State.onlyIf_later)
    | (with_reducible apply State.foldl_later)
    | (intro x k hx)
    | (intro x hx)
    | split
    | (with_reducible refine Later.built ?_ ?_ ?_ ?_; rotate_left; exact rfl; exact rfl; exact rfl)

theorem State.paymentDetails_later {z0 s : State} (hz : Later z0 s) (n : Nat) (code : Nat) (check : Nat) (inList : Bool) : Later z0 (State.paymentDetails s n code check inList) := by
  unfold State.paymentDetails
  try dsimp only
  repeat' first
    | (with_reducible assumption)
    | (with_reducible apply State.put_later)
    | (with_reducible apply State.failRequest_later)
    | (with_reducible apply State.refuseContract_later)
    | (with_reducible apply State.setVce_later)
    | (with_reducible apply State.respond_later)
    | (with_reducible apply State.each_later)
    | (with_reducible apply State.onlyIf_later)
    | (with_reducible apply State.foldl_later)
    | (intro x k hx)
    | (intro x hx)
    | split

theorem State.decideContract_later {z0 s : State} (hz : Later z0 s) (n : Nat) (code : Nat) (inList : Bool) : Later z0 (State.decideContract s n code inList) := by
  unfold State.decideContract
  try dsimp only
  repeat' first
    | (with_reducible assumption)
    | (with_reducible apply State.setVce_later)
    | (with_reducible apply State.respond_later)
    | (with_reducible apply State.awaitAuth_later)
    | (with_reducible apply State.each_later)
    | (with_reducible apply State.onlyIf_later)
    | (with_reducible apply State.foldl_later)
    | (intro x k hx)
    | (intro x hx)
    | split

theorem State.authorise_later {z0 s : State} (hz : Later z0 s) (n : Nat) (code : Nat) (contract : Option (Nat × Bool)) : Later z0 (State.authorise s n code contract) := by
  unfold State.authorise
  try dsimp only
  repeat' first
    | (with_reducible assumption)
    | (with_reducible apply State.put_later)
    | (with_reducible apply State.failRequest_later)
    | (with_reducible apply State.refuseContract_later)
    | (with_reducible apply State.setVce_later)
    | (with_reducible apply State.respond_later)
    | (with_reducible apply State.respondWith_later)
    | (with_reducible apply State.decideContract_later)
    | (with_reducible apply State.awaitAuth_later)
    | (with_reducible apply State.each_later)
    | (with_reducible apply State.onlyIf_later)
    | (with_reducible apply State.foldl_later)
    | (intro x k hx)
    | (intro x hx)
    | split

theorem State.answerCableCheck_later {z0 s : State} (hz : Later z0 s) (n : Nat) (code : Nat) : Later z0 (State.answerCableCheck s n code) := by
  unfold State.answerCableCheck
  try dsimp only
  repeat' first
    | (with_reducible assumption)
    | (with_reducible apply State.setVce_later)
    | (with_reducible apply State.respond_later)
    | (with_reducible apply State.each_later)
    | (with_reducible apply State.onlyIf_later)
    | (with_reducible apply State.foldl_later)
    | (intro x k hx)
    | (intro x hx)
    | split
    | (with_reducible refine Later.built ?_ ?_ ?_ ?_; rotate_left; exact rfl; exact rfl; exact rfl)

theorem State.actOnCmd_later {z0 s : State} (hz : Later z0 s) (n : Nat) (isStop : Bool) : Later z0 (State.actOnCmd s n isStop) := by
  unfold State.actOnCmd
  try dsimp only
  repeat' first
    | (with_reducible assumption)
    | (with_reducible apply State.setVce_later)
    | (with_reducible apply State.put_later)
    | (with_reducible apply State.each_later)
    | (with_reducible apply State.onlyIf_later)
    | (with_reducible apply State.foldl_later)
    | (intro x k hx)
    | (intro x hx)
    | split

theorem State.forwardCertificate_later {z0 s : State} (hz : Later z0 s) (n : Nat) (code : Nat) (exi : List Nat) : Later z0 (State.forwardCertificate s n code exi) := by
  unfold State.forwardCertificate
  try dsimp only
  repeat' first
    | (with_reducible assumption)
    | (with_reducible apply State.setVce_later)
    | (with_reducible apply State.each_later)
    | (with_reducible apply State.onlyIf_later)
    | (with_reducible apply State.foldl_later)
    | (intro x k hx)
    | (intro x hx)
    | split
    | (with_reducible refine Later.built ?_ ?_ ?_ ?_; rotate_left; exact rfl; exact rfl; exact rfl)

theorem State.encodeLoop_later {z0 s : State} (hz : Later z0 s) (n : Nat) : Later z0 (State.encodeLoop s n) := by
  unfold State.encodeLoop
  try dsimp only
  repeat' first
    | (with_reducible assumption)
    | (with_reducible apply State.drawBytes_later)
    | (with_reducible apply State.draw_later)
    | (with_reducible apply State.setVce_later)

theorem State.seeHead_later {z0 s : State} (hz : Later z0 s) (n : Nat) : Later z0 (State.seeHead s n) := by
  unfold State.seeHead
  try dsimp only
  repeat' first
    | (with_reducible assumption)
    | (with_reducible apply State.setVce_later)
    | (with_reducible apply State.each_later)
    | (with_reducible apply State.onlyIf_later)
    | (with_reducible apply State.foldl_later)
    | (intro x k hx)
    | (intro x hx)

theorem State.answerStop_later {z0 s : State} (hz : Later z0 s) (n : Nat) (m : V2gMsg) : Later z0 (State.answerStop s n m) := by
  unfold State.answerStop
  try dsimp only
  repeat' first
    | (with_reducible assumption)
    | (with_reducible apply State.respond_later)
    | (with_reducible apply State.endSession_later)
    | (with_reducible apply State.writeCloseEn_later)
    | (with_reducible apply State.vceDrop_later)
    | (with_reducible apply State.each_later)
    | (with_reducible apply State.onlyIf_later)
    | (with_reducible apply State.foldl_later)
    | (intro x k hx)
    | (intro x hx)

theorem State.answerService_later {z0 s : State} (hz : Later z0 s) (n : Nat) (code : Nat) (svc : Nat) (dyn : Bool) (contract : Bool) : Later z0 (State.answerService s n code svc dyn contract) := by
  unfold State.answerService
  try dsimp only
  repeat' first
    | (with_reducible assumption)
    | (with_reducible apply State.put_later)
    | (with_reducible apply State.putFlag_later)
    | (with_reducible apply State.respond_later)
    | (with_reducible apply State.failRequest_later)
    | (with_reducible apply State.each_later)
    | (with_reducible apply State.onlyIf_later)
    | (with_reducible apply State.foldl_later)
    | (intro x k hx)
    | (intro x hx)
    | split

theorem State.answerCheckIn_later {z0 s : State} (hz : Later z0 s) (n : Nat) (code : Nat) (outlet : Nat) : Later z0 (State.answerCheckIn s n code outlet) := by
  unfold State.answerCheckIn
  try dsimp only
  repeat' first
    | (with_reducible assumption)
    | (with_reducible apply State.setVce_later)
    | (with_reducible apply State.respond_later)
    | (with_reducible apply State.respondWith_later)
    | (with_reducible apply State.each_later)
    | (with_reducible apply State.onlyIf_later)
    | (with_reducible apply State.foldl_later)
    | (intro x k hx)
    | (intro x hx)
    | split

theorem State.answerCheckOut_later {z0 s : State} (hz : Later z0 s) (n : Nat) (code : Nat) : Later z0 (State.answerCheckOut s n code) := by
  unfold State.answerCheckOut
  try dsimp only
  repeat' first
    | (with_reducible assumption)
    | (with_reducible apply State.setVce_later)
    | (with_reducible apply State.respond_later)
    | (with_reducible apply State.each_later)
    | (with_reducible apply State.onlyIf_later)
    | (with_reducible apply State.foldl_later)
    | (intro x k hx)
    | (intro x hx)
    | split

theorem State.answerMsg_later {z0 s : State} (hz : Later z0 s) (n : Nat) (m : V2gMsg) : Later z0 (State.answerMsg s n m) := by
  unfold State.answerMsg
  extract_lets gen stop s1 receipt _ s2 s3 s4
  have h1 : Later z0 s1 := State.seeHead_later (State.actOnCmd_later hz _ _) _
  clear_value s1
  have h2 : Later z0 s2 := State.setVce_later h1 _ _
  clear_value s2
  have h3 : Later z0 s3 := State.onlyIf_later (fun x hx => State.encodeLoop_later hx _) h2
  clear_value s3
  have hr : ∀ c, Later z0 (s3.respond n m.code c) := fun c => State.respond_later h3 _ _ _
  split
  · exact State.respond_later (State.raise2_later (State.newSession_later (State.setVce_later (State.put_later h3 _ _ _) _ _) _) _ _ _) _ _ _
  repeat' split
  all_goals first
    | with_reducible exact hr _
    | with_reducible exact State.answerStop_later h3 _ _
    | with_reducible exact State.answerCheckOut_later h3 _ _
    | with_reducible exact State.answerCableCheck_later h3 _ _
    | with_reducible exact State.forwardCertificate_later h3 _ _ _
    | with_reducible exact State.authorise_later h3 _ _ _
    | with_reducible exact State.answerService_later h3 _ _ _ _ _
    | with_reducible exact State.paymentDetails_later h3 _ _ _ _
    | with_reducible exact State.answerCheckIn_later h3 _ _ _

theorem State.saveSession_later {z0 s : State} (hz : Later z0 s) (n : Nat) : Later z0 (State.saveSession s n) := by
  unfold State.saveSession
  try dsimp only
  repeat' first
    | (with_reducible assumption)
    | (with_reducible apply State.setVce_later)

theorem State.answer_later {z0 s : State} (hz : Later z0 s) (n : Nat) (m : V2gMsg) (flags : Nat) (lt : Nat) : Later z0 (State.answer s n m flags lt) := by
  unfold State.answer
  try dsimp only
  repeat' first
    | (with_reducible assumption)
    | (with_reducible apply State.apply_later)
    | (with_reducible apply State.hostMsg_later)
    | (with_reducible apply State.setVce_later)
    | (with_reducible apply State.failRequest_later)
    | (with_reducible apply State.selectProtocol_later)
    | (with_reducible apply State.answerMsg_later)
    | (with_reducible apply State.saveSession_later)
    | (with_reducible apply State.each_later)
    | (with_reducible apply State.onlyIf_later)
    | (with_reducible apply State.foldl_later)
    | (intro x k hx)
    | (intro x hx)
    | split
    | (with_reducible refine Later.built ?_ ?_ ?_ ?_; rotate_left; exact rfl; exact rfl; exact rfl)

theorem State.take_later {z0 s : State} (hz : Later z0 s) (n : Nat) (m : V2gMsg) : Later z0 (State.take s n m) := by
  unfold State.take
  try dsimp only
  repeat' first
    | (with_reducible assumption)
    | (with_reducible apply State.handshakeDone_later)
    | (with_reducible apply State.oversize_later)
    | (with_reducible apply State.answer_later)
    | (with_reducible apply State.store_later)
    | (with_reducible apply State.each_later)
    | (with_reducible apply State.onlyIf_later)
    | (with_reducible apply State.foldl_later)
    | (intro x k hx)
    | (intro x hx)
    | split

theorem execSupportedAppProtocol_later (n : Fin 24) (offers : List Nat) (val : V2gVal) (exi : List Nat) (s : State) : Runs s (execSupportedAppProtocol n offers val exi s) := by
  unfold execSupportedAppProtocol
  try dsimp only
  repeat' first
    | (with_reducible assumption)
    | (with_reducible exact Later.refl _)
    | (with_reducible apply Runs.next)
    | (with_reducible apply State.take_later)

theorem execV2gRequest_later (n : Fin 24) (m : V2gMsg) (s : State) : Runs s (execV2gRequest n m s) := by
  unfold execV2gRequest
  try dsimp only
  repeat' first
    | (with_reducible assumption)
    | (with_reducible exact Later.refl _)
    | (with_reducible apply Runs.next)
    | (with_reducible apply State.take_later)

theorem execV2gTimeout_later (n : Fin 24) (kind : Fin 4) (s : State) : Runs s (execV2gTimeout n kind s) := by
  unfold execV2gTimeout
  try dsimp only
  repeat' first
    | (with_reducible assumption)
    | (with_reducible exact Later.refl _)
    | (with_reducible apply Runs.next)
    | (with_reducible apply State.moveTo_later)
    | (with_reducible apply State.draw_later)
    | (with_reducible apply State.raise2_later)
    | (with_reducible apply State.endSession_later)
    | (with_reducible apply State.respondWith_later)
    | (with_reducible apply State.each_later)
    | (with_reducible apply State.onlyIf_later)
    | (with_reducible apply State.foldl_later)
    | (intro x k hx)
    | (intro x hx)
    | (with_reducible refine Later.snd ?_ (by assumption))
    | split

theorem State.answerCert_later {z0 s : State} (hz : Later z0 s) (n : Nat) (result : Nat) : Later z0 (State.answerCert s n result) := by
  unfold State.answerCert
  try dsimp only
  repeat' first
    | (with_reducible assumption)
    | (with_reducible apply State.setVce_later)
    | (with_reducible apply State.respondWith_later)

theorem execCertificateForwardTimeout_later (n : Fin 24) (s : State) : Runs s (execCertificateForwardTimeout n s) := by
  unfold execCertificateForwardTimeout
  try dsimp only
  repeat' first
    | (with_reducible assumption)
    | (with_reducible exact Later.refl _)
    | (with_reducible apply Runs.next)
    | (with_reducible apply State.moveTo_later)
    | (with_reducible apply State.answerCert_later)
    | (with_reducible apply State.each_later)
    | (with_reducible apply State.onlyIf_later)
    | (with_reducible apply State.foldl_later)
    | (intro x k hx)
    | (intro x hx)
    | split

theorem execOcppCertificateAnswer_later (n : Fin 24) (s : State) : Runs s (execOcppCertificateAnswer n s) := by
  unfold execOcppCertificateAnswer
  try dsimp only
  repeat' first
    | (with_reducible assumption)
    | (with_reducible exact Later.refl _)
    | (with_reducible apply Runs.next)
    | (with_reducible apply State.answerCert_later)
    | (with_reducible apply State.each_later)
    | (with_reducible apply State.onlyIf_later)
    | (with_reducible apply State.foldl_later)
    | (intro x k hx)
    | (intro x hx)
    | split

theorem execOcppAuthorisationResult_later (n : Fin 24) (accepted : Bool) (s : State) : Runs s (execOcppAuthorisationResult n accepted s) := by
  unfold execOcppAuthorisationResult
  try dsimp only
  repeat' first
    | (with_reducible assumption)
    | (with_reducible exact Later.refl _)
    | (with_reducible apply Runs.next)
    | (with_reducible apply State.setVce_later)
    | (with_reducible apply State.saveSession_later)
    | (with_reducible apply State.each_later)
    | (with_reducible apply State.onlyIf_later)
    | (with_reducible apply State.foldl_later)
    | (intro x k hx)
    | (intro x hx)
    | split

theorem State.writeOcmd_later {z0 s : State} (hz : Later z0 s) (n : Nat) (cmd : Nat) : Later z0 (State.writeOcmd s n cmd) := by
  unfold State.writeOcmd
  try dsimp only
  repeat' first
    | (with_reducible assumption)
    | (with_reducible apply State.setVce_later)
    | (with_reducible apply State.put_later)
    | (with_reducible apply State.each_later)
    | (with_reducible apply State.onlyIf_later)
    | (with_reducible apply State.foldl_later)
    | (intro x k hx)
    | (intro x hx)
    | split

theorem execStop_later (n : Fin 24) (s : State) : Runs s (execStop n s) := by
  unfold execStop
  try dsimp only
  repeat' first
    | (with_reducible assumption)
    | (with_reducible exact Later.refl _)
    | (with_reducible apply Runs.next)
    | (with_reducible apply State.writeOcmd_later)

theorem execPause_later (n : Fin 24) (s : State) : Runs s (execPause n s) := by
  unfold execPause
  try dsimp only
  repeat' first
    | (with_reducible assumption)
    | (with_reducible exact Later.refl _)
    | (with_reducible apply Runs.next)
    | (with_reducible apply State.writeOcmd_later)

theorem execRenegotiate_later (n : Fin 24) (s : State) : Runs s (execRenegotiate n s) := by
  unfold execRenegotiate
  try dsimp only
  repeat' first
    | (with_reducible assumption)
    | (with_reducible exact Later.refl _)
    | (with_reducible apply Runs.next)
    | (with_reducible apply State.writeOcmd_later)

theorem State.respondLoop_later {z0 s : State} (hz : Later z0 s) (n : Nat) : Later z0 (State.respondLoop s n) := by
  unfold State.respondLoop
  try dsimp only
  repeat' first
    | (with_reducible assumption)
    | (with_reducible apply State.put_later)
    | (with_reducible apply State.raise2_later)
    | (with_reducible apply State.count_later)
    | (with_reducible apply State.send_later)
    | (with_reducible apply State.setVce_later)
    | (with_reducible apply State.each_later)
    | (with_reducible apply State.onlyIf_later)
    | (with_reducible apply State.foldl_later)
    | (intro x k hx)
    | (intro x hx)
    | split

theorem execLoopResponderAnswer_later (n : Fin 24) (s : State) : Runs s (execLoopResponderAnswer n s) := by
  unfold execLoopResponderAnswer
  try dsimp only
  repeat' first
    | (with_reducible assumption)
    | (with_reducible exact Later.refl _)
    | (with_reducible apply Runs.next)
    | (with_reducible apply State.respondLoop_later)
    | (with_reducible apply State.each_later)
    | (with_reducible apply State.onlyIf_later)
    | (with_reducible apply State.foldl_later)
    | (intro x k hx)
    | (intro x hx)
    | split

theorem State.drainRx_later {z0 s : State} (hz : Later z0 s) (n : Nat) : Later z0 (State.drainRx s n) := by
  unfold State.drainRx
  try dsimp only
  repeat' first
    | (with_reducible assumption)
    | (with_reducible apply State.respondLoop_later)
    | (with_reducible apply State.responderStops_later)
    | (with_reducible apply State.setVce_later)
    | (with_reducible apply State.put_later)
    | (with_reducible apply State.hostMsg_later)
    | (with_reducible apply State.answer_later)
    | (with_reducible apply State.each_later)
    | (with_reducible apply State.onlyIf_later)
    | (with_reducible apply State.foldl_later)
    | (intro x k hx)
    | (intro x hx)
    | split

theorem State.resumeSessions_later {z0 s : State} (hz : Later z0 s) : Later z0 (State.resumeSessions s) := by
  unfold State.resumeSessions
  try dsimp only
  repeat' first
    | (with_reducible assumption)
    | (with_reducible apply State.setVce_later)
    | (with_reducible apply State.each_later)
    | (with_reducible apply State.onlyIf_later)
    | (with_reducible apply State.foldl_later)
    | (intro x k hx)

theorem execOffloadRestart_later (s : State) : Runs s (execOffloadRestart s) := by
  unfold execOffloadRestart
  try dsimp only
  repeat' first
    | (with_reducible assumption)
    | (with_reducible exact Later.refl _)
    | (with_reducible apply Runs.next)
    | (with_reducible apply State.resumeSessions_later)
    | (with_reducible apply State.put_later)
    | (with_reducible apply State.drainRx_later)
    | (with_reducible apply State.each_later)
    | (with_reducible apply State.onlyIf_later)
    | (with_reducible apply State.foldl_later)
    | (intro x k hx)
    | (intro x hx)
    | split

theorem State.showLanesOn_later {z0 s : State} (hz : Later z0 s) : Later z0 (State.showLanesOn s) := by
  unfold State.showLanesOn
  try dsimp only
  repeat' first
    | (with_reducible assumption)
    | (with_reducible apply State.putFlag_later)
    | (with_reducible apply State.each_later)
    | (with_reducible apply State.onlyIf_later)
    | (with_reducible apply State.foldl_later)
    | (intro x k hx)

theorem State.vceWarm_later {z0 s : State} (hz : Later z0 s) : Later z0 (State.vceWarm s) := by
  unfold State.vceWarm
  try dsimp only
  repeat' first
    | (with_reducible assumption)
    | (with_reducible apply State.put_later)
    | (with_reducible apply State.setVce_later)
    | (with_reducible apply State.each_later)
    | (with_reducible apply State.onlyIf_later)
    | (with_reducible apply State.foldl_later)
    | (intro x k hx)

theorem State.vceReset_later {z0 s : State} (hz : Later z0 s) : Later z0 (State.vceReset s) := by
  unfold State.vceReset
  try dsimp only
  repeat' first
    | (with_reducible assumption)
    | (with_reducible apply State.vceFail_later)
    | (with_reducible apply State.clearUnit_later)
    | (with_reducible apply State.put_later)
    | (with_reducible apply State.showLanesOn_later)
    | (with_reducible apply State.showLanes_later)
    | (with_reducible apply State.each_later)
    | (with_reducible apply State.onlyIf_later)
    | (with_reducible apply State.foldl_later)
    | (intro x k hx)
    | (intro x hx)
    | split
    | (with_reducible refine Later.built ?_ ?_ ?_ ?_; rotate_left; exact rfl; exact rfl; exact rfl)

end Sys2Proof.Machine
end

