-- ==== Sys2Proof/Laws/LaterAllocator.lean ====
section
/-! SUPPORT. Every operation and every command of the allocator leads to a later state (Laws/Later.lean). -/

namespace Sys2Proof.Machine

open Sys2Proof

theorem State.setCore_later {z0 s : State} (hz : Later z0 s) (c : AllocCore) : Later z0 (State.setCore s c) := by
  unfold State.setCore
  try dsimp only
  repeat' first
    | (with_reducible assumption)
    | (with_reducible apply State.each_later)
    | (with_reducible apply State.onlyIf_later)
    | (with_reducible apply State.foldl_later)
    | (intro x k hx)
    | (intro x hx)
    | split
    | (with_reducible refine Later.built ?_ ?_ ?_ ?_; rotate_left; exact rfl; exact rfl; exact rfl)

theorem State.trackLow_later {z0 s : State} (hz : Later z0 s) (v : VehIn) : Later z0 (State.trackLow s v) := by
  unfold State.trackLow
  try dsimp only
  repeat' first
    | (with_reducible assumption)
    | (with_reducible apply State.request_later)
    | (with_reducible apply State.setCore_later)
    | (with_reducible apply State.each_later)
    | (with_reducible apply State.onlyIf_later)
    | (with_reducible apply State.foldl_later)
    | (intro x k hx)
    | (intro x hx)
    | split

theorem State.ownInterval_later {z0 s : State} (hz : Later z0 s) : Later z0 (State.ownInterval s) := by
  unfold State.ownInterval
  try dsimp only
  repeat' first
    | (with_reducible assumption)
    | (with_reducible apply State.setCore_later)
    | (with_reducible apply State.each_later)
    | (with_reducible apply State.onlyIf_later)
    | (with_reducible apply State.foldl_later)
    | (intro x k hx)
    | (intro x hx)
    | split

theorem State.trackInterval_later {z0 s : State} (hz : Later z0 s) : Later z0 (State.trackInterval s) := by
  unfold State.trackInterval
  try dsimp only
  repeat' first
    | (with_reducible assumption)
    | (with_reducible apply State.setCore_later)
    | (with_reducible apply State.ownInterval_later)
    | (with_reducible apply State.raise_later)
    | (with_reducible apply State.each_later)
    | (with_reducible apply State.onlyIf_later)
    | (with_reducible apply State.foldl_later)
    | (intro x k hx)
    | (intro x hx)
    | split

theorem State.breachStep_later {z0 s : State} (hz : Later z0 s) (t : Nat) (p : Int) : Later z0 (State.breachStep s t p) := by
  unfold State.breachStep
  try dsimp only
  repeat' first
    | (with_reducible assumption)
    | (with_reducible apply State.setCore_later)
    | (with_reducible apply State.raise2_later)
    | (with_reducible apply State.each_later)
    | (with_reducible apply State.onlyIf_later)
    | (with_reducible apply State.foldl_later)
    | (intro x k hx)
    | (intro x hx)
    | split

theorem State.checkBreach_later {z0 s : State} (hz : Later z0 s) : Later z0 (State.checkBreach s) := by
  unfold State.checkBreach
  try dsimp only
  repeat' first
    | (with_reducible assumption)
    | (with_reducible apply State.breachStep_later)
    | (with_reducible apply State.each_later)
    | (with_reducible apply State.onlyIf_later)
    | (with_reducible apply State.foldl_later)
    | (intro x k hx)
    | (intro x hx)
    | split
    | (with_reducible refine Later.built ?_ ?_ ?_ ?_; rotate_left; exact rfl; exact rfl; exact rfl)

theorem State.pause_later {z0 s : State} (hz : Later z0 s) (v : VehIn) (computed : Int) (g : Int) : Later z0 (State.pause s v computed g).2 := by
  unfold State.pause
  try dsimp only
  repeat' first
    | (with_reducible assumption)
    | (with_reducible apply State.setCore_later)
    | (with_reducible apply State.raise2_later)
    | (with_reducible apply State.each_later)
    | (with_reducible apply State.onlyIf_later)
    | (with_reducible apply State.foldl_later)
    | (intro x k hx)
    | (intro x hx)
    | split

theorem State.writeSignals_later {z0 s : State} (hz : Later z0 s) (v : VehIn) (g : Int) : Later z0 (State.writeSignals s v g) := by
  unfold State.writeSignals
  try dsimp only
  repeat' first
    | (with_reducible assumption)
    | (with_reducible apply State.setCore_later)
    | (with_reducible apply State.each_later)
    | (with_reducible apply State.onlyIf_later)
    | (with_reducible apply State.foldl_later)
    | (intro x k hx)
    | (intro x hx)
    | split

theorem State.handLimits_later {z0 s : State} (hz : Later z0 s) (n : Nat) (g : Int) : Later z0 (State.handLimits s n g) := by
  unfold State.handLimits
  try dsimp only
  repeat' first
    | (with_reducible assumption)
    | (with_reducible apply State.setVce_later)
    | (with_reducible apply State.each_later)
    | (with_reducible apply State.onlyIf_later)
    | (with_reducible apply State.foldl_later)
    | (intro x k hx)
    | (intro x hx)
    | split

theorem State.writeGrant_later {z0 s : State} (hz : Later z0 s) (v : VehIn) (g : Int) : Later z0 (State.writeGrant s v g) := by
  unfold State.writeGrant
  try dsimp only
  repeat' first
    | (with_reducible assumption)
    | (with_reducible apply State.put_later)
    | (with_reducible apply State.writeSignals_later)
    | (with_reducible apply State.handLimits_later)
    | (with_reducible apply State.each_later)
    | (with_reducible apply State.onlyIf_later)
    | (with_reducible apply State.foldl_later)
    | (intro x k hx)
    | (intro x hx)
    | split

theorem State.trackSchedule_later {z0 s : State} (hz : Later z0 s) (v : VehIn) (g : Int) : Later z0 (State.trackSchedule s v g) := by
  unfold State.trackSchedule
  try dsimp only
  repeat' first
    | (with_reducible assumption)
    | (with_reducible apply State.setCore_later)
    | (with_reducible apply State.writeOcmd_later)
    | (with_reducible apply State.each_later)
    | (with_reducible apply State.onlyIf_later)
    | (with_reducible apply State.foldl_later)
    | (intro x k hx)
    | (intro x hx)
    | split

theorem State.queueStorage_later {z0 s : State} (hz : Later z0 s) : Later z0 (State.queueStorage s) := by
  unfold State.queueStorage
  try dsimp only
  repeat' first
    | (with_reducible assumption)
    | (with_reducible apply State.each_later)
    | (with_reducible apply State.onlyIf_later)
    | (with_reducible apply State.foldl_later)
    | (intro x k hx)
    | (intro x hx)
    | split
    | (with_reducible refine Later.built ?_ ?_ ?_ ?_; rotate_left; exact rfl; exact rfl; exact rfl)

theorem State.queueSolar_later {z0 s : State} (hz : Later z0 s) : Later z0 (State.queueSolar s) := by
  unfold State.queueSolar
  try dsimp only
  repeat' first
    | (with_reducible assumption)
    | (with_reducible apply State.each_later)
    | (with_reducible apply State.onlyIf_later)
    | (with_reducible apply State.foldl_later)
    | (intro x k hx)
    | (intro x hx)
    | split
    | (with_reducible refine Later.built ?_ ?_ ?_ ?_; rotate_left; exact rfl; exact rfl; exact rfl)

theorem State.placeSources_later {z0 s : State} (hz : Later z0 s) (draw : Int) (agrid : Int) (lift : Bool) : Later z0 (State.placeSources s draw agrid lift) := by
  unfold State.placeSources
  try dsimp only
  repeat' first
    | (with_reducible assumption)
    | (with_reducible apply State.setCore_later)
    | (with_reducible apply State.queueStorage_later)
    | (with_reducible apply State.queueSolar_later)

theorem State.settle_later {z0 s : State} (hz : Later z0 s) (l : List (VehIn × Share)) (site : Option Int) : Later z0 (State.settle s l site).1 := by
  induction l generalizing s site with
  | nil => exact hz
  | cons p l ih =>
    unfold State.settle
    extract_lets
    dsimp only
    refine ih ?_ _
    refine State.trackSchedule_later (State.writeGrant_later (State.setCore_later (Later.snd (State.pause_later hz _ _ _) rfl) _) _ _) _ _

theorem State.dropGrants_later {z0 s : State} (hz : Later z0 s) (keep : List Nat) : Later z0 (State.dropGrants s keep) := by
  unfold State.dropGrants
  try dsimp only
  repeat' first
    | (with_reducible assumption)
    | (with_reducible apply State.setCore_later)
    | (with_reducible apply State.writeGrant_later)
    | (with_reducible apply State.each_later)
    | (with_reducible apply State.onlyIf_later)
    | (with_reducible apply State.foldl_later)
    | (intro x k hx)
    | (intro x hx)
    | split

theorem State.resumeCycle_later {z0 s : State} (hz : Later z0 s) : Later z0 (State.resumeCycle s) := by
  unfold State.resumeCycle
  try dsimp only
  repeat' first
    | (with_reducible assumption)
    | (with_reducible apply State.raise_later)
    | (with_reducible apply State.each_later)
    | (with_reducible apply State.onlyIf_later)
    | (with_reducible apply State.foldl_later)
    | (intro x k hx)
    | (intro x hx)
    | split
    | (with_reducible refine Later.built ?_ ?_ ?_ ?_; rotate_left; exact rfl; exact rfl; exact rfl)

theorem State.demandPower_later {z0 s : State} (hz : Later z0 s) (unlimited : Int) (need : Int) : Later z0 (State.demandPower s unlimited need).2 := by
  unfold State.demandPower
  try dsimp only
  repeat' first
    | (with_reducible assumption)
    | (with_reducible apply State.setCore_later)
    | (with_reducible apply State.raise_later)
    | (with_reducible apply State.each_later)
    | (with_reducible apply State.onlyIf_later)
    | (with_reducible apply State.foldl_later)
    | (intro x k hx)
    | (intro x hx)
    | split

theorem State.report_later {z0 s : State} (hz : Later z0 s) (pdem : Int) (pbase : Int) (short : Bool) (l : List ReportEntry) : Later z0 (State.report s pdem pbase short l) := by
  unfold State.report
  try dsimp only
  repeat' first
    | (with_reducible assumption)
    | (with_reducible apply State.each_later)
    | (with_reducible apply State.onlyIf_later)
    | (with_reducible apply State.foldl_later)
    | (intro x k hx)
    | (intro x hx)
    | split
    | (with_reducible refine Later.built ?_ ?_ ?_ ?_; rotate_left; exact rfl; exact rfl; exact rfl)

theorem State.endProfiles_later {z0 s : State} (hz : Later z0 s) : Later z0 (State.endProfiles s) := by
  unfold State.endProfiles
  try dsimp only
  repeat' first
    | (with_reducible assumption)
    | (with_reducible apply State.each_later)
    | (with_reducible apply State.onlyIf_later)
    | (with_reducible apply State.foldl_later)
    | (intro x k hx)
    | (intro x hx)
    | split
    | (with_reducible refine Later.built ?_ ?_ ?_ ?_; rotate_left; exact rfl; exact rfl; exact rfl)

theorem State.allocate_later {z0 s : State} (hz : Later z0 s) : Later z0 (State.allocate s) := by
  unfold State.allocate
  extract_lets lim vehicles s1 shares pbase floors dem s2 agrid wanted lift dealt s3 ramp done s4 c rep
  have h1 : Later z0 s1 := State.foldl_later (fun x k hx => State.trackLow_later hx _) hz
  clear_value s1
  have h2 : Later z0 s2 := State.demandPower_later h1 _ _
  clear_value s2
  have h3 : Later z0 s3 := State.onlyIf_later (fun x hx => State.raise_later hx _ _) h2
  clear_value s3
  have h4 : Later z0 s4 := State.placeSources_later (State.settle_later (State.dropGrants_later h3 _) _ _) _ _ _
  clear_value s4
  exact h4.same rfl rfl rfl rfl rfl rfl rfl rfl rfl rfl

theorem State.startCycle_later {z0 s : State} (hz : Later z0 s) : Later z0 (State.startCycle s) := by
  unfold State.startCycle
  try dsimp only
  repeat' first
    | (with_reducible assumption)
    | (with_reducible apply State.moveTo_later)
    | (with_reducible apply State.raise_later)
    | (with_reducible apply State.each_later)
    | (with_reducible apply State.onlyIf_later)
    | (with_reducible apply State.foldl_later)
    | (intro x k hx)
    | (intro x hx)
    | split
    | (with_reducible refine Later.built ?_ ?_ ?_ ?_; rotate_left; exact rfl; exact rfl; exact rfl)

theorem State.allocEpoch_later {z0 s : State} (hz : Later z0 s) : Later z0 (State.allocEpoch s) := by
  unfold State.allocEpoch
  try dsimp only
  repeat' first
    | (with_reducible assumption)
    | (with_reducible apply State.each_later)
    | (with_reducible apply State.onlyIf_later)
    | (with_reducible apply State.foldl_later)
    | (intro x k hx)
    | (intro x hx)
    | split
    | (with_reducible refine Later.built ?_ ?_ ?_ ?_; rotate_left; exact rfl; exact rfl; exact rfl)

theorem execAllocatorCycle_later (s : State) : Runs s (execAllocatorCycle s) := by
  unfold execAllocatorCycle
  try dsimp only
  repeat' first
    | (with_reducible assumption)
    | (with_reducible exact Later.refl _)
    | (with_reducible apply Runs.next)
    | (with_reducible apply State.resumeCycle_later)
    | (with_reducible apply State.startCycle_later)
    | (with_reducible apply State.checkBreach_later)
    | (with_reducible apply State.trackInterval_later)
    | (with_reducible apply State.endProfiles_later)
    | (with_reducible apply State.allocate_later)
    | (with_reducible apply State.each_later)
    | (with_reducible apply State.onlyIf_later)
    | (with_reducible apply State.foldl_later)
    | (intro x k hx)
    | (intro x hx)
    | split
    | (with_reducible refine Later.built ?_ ?_ ?_ ?_; rotate_left; exact rfl; exact rfl; exact rfl)

theorem State.fallback_later {z0 s : State} (hz : Later z0 s) : Later z0 (State.fallback s) := by
  unfold State.fallback
  try dsimp only
  repeat' first
    | (with_reducible assumption)
    | (with_reducible apply State.setCore_later)
    | (with_reducible apply State.writeGrant_later)
    | (with_reducible apply State.queueStorage_later)
    | (with_reducible apply State.queueSolar_later)
    | (with_reducible apply State.raise_later)
    | (with_reducible apply State.each_later)
    | (with_reducible apply State.onlyIf_later)
    | (with_reducible apply State.foldl_later)
    | (intro x k hx)

theorem State.fallbackReport_later {z0 s : State} (hz : Later z0 s) : Later z0 (State.fallbackReport s) := by
  unfold State.fallbackReport
  try dsimp only
  repeat' first
    | (with_reducible assumption)
    | (with_reducible apply State.report_later)

theorem execCycleAbandon_later (s : State) : Runs s (execCycleAbandon s) := by
  unfold execCycleAbandon
  try dsimp only
  repeat' first
    | (with_reducible assumption)
    | (with_reducible exact Later.refl _)
    | (with_reducible apply Runs.next)
    | (with_reducible apply State.resumeCycle_later)
    | (with_reducible apply State.startCycle_later)
    | (with_reducible apply State.moveTo_later)
    | (with_reducible apply State.raise_later)
    | (with_reducible apply State.fallback_later)
    | (with_reducible apply State.queueStorage_later)
    | (with_reducible apply State.fallbackReport_later)
    | (with_reducible apply State.setCore_later)
    | (with_reducible apply State.each_later)
    | (with_reducible apply State.onlyIf_later)
    | (with_reducible apply State.foldl_later)
    | (intro x k hx)
    | (intro x hx)
    | split
    | (with_reducible refine Later.built ?_ ?_ ?_ ?_; rotate_left; exact rfl; exact rfl; exact rfl)

theorem execBreachClear_later (s : State) : Runs s (execBreachClear s) := by
  unfold execBreachClear
  try dsimp only
  repeat' first
    | (with_reducible assumption)
    | (with_reducible exact Later.refl _)
    | (with_reducible apply Runs.next)
    | (with_reducible apply State.checkBreach_later)
    | (with_reducible apply State.moveTo_later)
    | (with_reducible apply State.setCore_later)
    | (with_reducible apply State.raise_later)
    | (with_reducible apply State.each_later)
    | (with_reducible apply State.onlyIf_later)
    | (with_reducible apply State.foldl_later)
    | (intro x k hx)
    | (intro x hx)
    | split

theorem State.moduleLost_later {z0 s : State} (hz : Later z0 s) (n : Nat) (detail : Nat) : Later z0 (State.moduleLost s n detail) := by
  unfold State.moduleLost
  try dsimp only
  repeat' first
    | (with_reducible assumption)
    | (with_reducible apply State.putFlag_later)
    | (with_reducible apply State.raise2_later)
    | (with_reducible apply State.each_later)
    | (with_reducible apply State.onlyIf_later)
    | (with_reducible apply State.foldl_later)
    | (intro x k hx)
    | (intro x hx)
    | split
    | (with_reducible refine Later.built ?_ ?_ ?_ ?_; rotate_left; exact rfl; exact rfl; exact rfl)

theorem execModuleLost_later (n : Fin 24) (cause : Fin 3) (s : State) : Runs s (execModuleLost n cause s) := by
  unfold execModuleLost
  try dsimp only
  repeat' first
    | (with_reducible assumption)
    | (with_reducible exact Later.refl _)
    | (with_reducible apply Runs.next)
    | (with_reducible apply State.moveTo_later)
    | (with_reducible apply State.moduleLost_later)
    | (with_reducible apply State.each_later)
    | (with_reducible apply State.onlyIf_later)
    | (with_reducible apply State.foldl_later)
    | (intro x k hx)
    | (intro x hx)
    | split

theorem execModuleLostCloseDrop_later (n : Fin 24) (s : State) : Runs s (execModuleLostCloseDrop n s) := by
  unfold execModuleLostCloseDrop
  try dsimp only
  repeat' first
    | (with_reducible assumption)
    | (with_reducible exact Later.refl _)
    | (with_reducible apply Runs.next)
    | (with_reducible apply State.moveTo_later)
    | (with_reducible apply State.writeCloseEn_later)
    | (with_reducible apply State.each_later)
    | (with_reducible apply State.onlyIf_later)
    | (with_reducible apply State.foldl_later)
    | (intro x k hx)
    | (intro x hx)
    | split
    | (with_reducible refine Later.built ?_ ?_ ?_ ?_; rotate_left; exact rfl; exact rfl; exact rfl)

theorem State.discoverAgain_later {z0 s : State} (hz : Later z0 s) (rule : Nat) : Later z0 (State.discoverAgain s rule) := by
  unfold State.discoverAgain
  try dsimp only
  repeat' first
    | (with_reducible assumption)
    | (with_reducible apply State.put_later)
    | (with_reducible apply State.each_later)
    | (with_reducible apply State.onlyIf_later)
    | (with_reducible apply State.foldl_later)
    | (intro x k hx)
    | (intro x hx)
    | split

theorem execSunspecPoll_later (solar : Bool) (data : Option SunData) (s : State) : Runs s (execSunspecPoll solar data s) := by
  unfold execSunspecPoll
  try dsimp only
  repeat' first
    | (with_reducible assumption)
    | (with_reducible exact Later.refl _)
    | (with_reducible apply Runs.next)
    | (with_reducible apply State.discoverAgain_later)
    | (with_reducible apply State.raise_later)
    | (with_reducible apply State.each_later)
    | (with_reducible apply State.onlyIf_later)
    | (with_reducible apply State.foldl_later)
    | (intro x k hx)
    | (intro x hx)
    | split
    | (with_reducible refine Later.built ?_ ?_ ?_ ?_; rotate_left; exact rfl; exact rfl; exact rfl)

theorem State.answerProfile_later {z0 s : State} (hz : Later z0 s) (ok : Bool) : Later z0 (State.answerProfile s ok) := by
  unfold State.answerProfile
  try dsimp only
  repeat' first
    | (with_reducible assumption)
    | (with_reducible apply State.each_later)
    | (with_reducible apply State.onlyIf_later)
    | (with_reducible apply State.foldl_later)
    | (intro x k hx)
    | (intro x hx)
    | split
    | (with_reducible refine Later.built ?_ ?_ ?_ ?_; rotate_left; exact rfl; exact rfl; exact rfl)

theorem execOcppChargingProfile_later (p : OcppProfile) (s : State) : Runs s (execOcppChargingProfile p s) := by
  unfold execOcppChargingProfile
  try dsimp only
  repeat' first
    | (with_reducible assumption)
    | (with_reducible exact Later.refl _)
    | (with_reducible apply Runs.next)
    | (with_reducible apply State.answerProfile_later)
    | (with_reducible apply State.raise2_later)
    | (with_reducible apply State.each_later)
    | (with_reducible apply State.onlyIf_later)
    | (with_reducible apply State.foldl_later)
    | (intro x k hx)
    | (intro x hx)
    | split
    | (with_reducible refine Later.built ?_ ?_ ?_ ?_; rotate_left; exact rfl; exact rfl; exact rfl)

theorem State.allocWarm_later {z0 s : State} (hz : Later z0 s) : Later z0 (State.allocWarm s) := by
  unfold State.allocWarm
  try dsimp only
  repeat' first
    | (with_reducible assumption)
    | (with_reducible apply State.each_later)
    | (with_reducible apply State.onlyIf_later)
    | (with_reducible apply State.foldl_later)
    | (intro x k hx)
    | (intro x hx)
    | split
    | (with_reducible refine Later.built ?_ ?_ ?_ ?_; rotate_left; exact rfl; exact rfl; exact rfl)

end Sys2Proof.Machine
end

