-- ==== Sys2Proof/Laws/LaterGroundsheet.lean ====
section
/-! SUPPORT. Every operation and every command of the GSE leads to a later state (Laws/Later.lean). -/

namespace Sys2Proof.Machine

open Sys2Proof

theorem State.setGfn_later {z0 s : State} (hz : Later z0 s) (k : Nat) (f : GFn) : Later z0 (State.setGfn s k f) := by
  unfold State.setGfn
  try dsimp only
  repeat' first
    | (with_reducible assumption)
    | (with_reducible apply State.each_later)
    | (with_reducible apply State.onlyIf_later)
    | (with_reducible apply State.foldl_later)
    | (intro x k hx)
    | (intro x hx)
    | split
    | (with_reducible refine Later.built ?_ ?_ ?_ ?_; rotate_left; exact rfl; exact rfl; exact rfl)

theorem State.pullLines_later {z0 s : State} (hz : Later z0 s) : Later z0 (State.pullLines s) := by
  unfold State.pullLines
  try dsimp only
  repeat' first
    | (with_reducible assumption)
    | (with_reducible apply State.each_later)
    | (with_reducible apply State.onlyIf_later)
    | (with_reducible apply State.foldl_later)
    | (intro x k hx)
    | (intro x hx)
    | split
    | (with_reducible refine Later.built ?_ ?_ ?_ ?_; rotate_left; exact rfl; exact rfl; exact rfl)

theorem State.pullZreq_later {z0 s : State} (hz : Later z0 s) (k : Nat) (on : Bool) : Later z0 (State.pullZreq s k on) := by
  unfold State.pullZreq
  try dsimp only
  repeat' first
    | (with_reducible assumption)
    | (with_reducible apply State.setGfn_later)
    | (with_reducible apply State.pullLines_later)

theorem State.watchEdm_later {z0 s : State} (hz : Later z0 s) (k : Nat) : Later z0 (State.watchEdm s k) := by
  unfold State.watchEdm
  try dsimp only
  repeat' first
    | (with_reducible assumption)
    | (with_reducible apply State.setGfn_later)
    | (with_reducible apply State.each_later)
    | (with_reducible apply State.onlyIf_later)
    | (with_reducible apply State.foldl_later)
    | (intro x k hx)
    | (intro x hx)
    | split

theorem State.watchUnlk_later {z0 s : State} (hz : Later z0 s) (k : Nat) (r : SafeRec) : Later z0 (State.watchUnlk s k r) := by
  unfold State.watchUnlk
  try dsimp only
  repeat' first
    | (with_reducible assumption)
    | (with_reducible apply State.putFlag_later)
    | (with_reducible apply State.setGfn_later)
    | (with_reducible apply State.each_later)
    | (with_reducible apply State.onlyIf_later)
    | (with_reducible apply State.foldl_later)
    | (intro x k hx)
    | (intro x hx)
    | split

theorem State.afterOutputs_later {z0 s : State} (hz : Later z0 s) : Later z0 (State.afterOutputs s) := by
  unfold State.afterOutputs
  try dsimp only
  repeat' first
    | (with_reducible assumption)
    | (with_reducible apply State.put_later)
    | (with_reducible apply State.watchEdm_later)
    | (with_reducible apply State.watchUnlk_later)
    | (with_reducible apply State.each_later)
    | (with_reducible apply State.onlyIf_later)
    | (with_reducible apply State.foldl_later)
    | (intro x k hx)
    | (intro x hx)
    | split

theorem State.setReadback_later {z0 s : State} (hz : Later z0 s) (so : Nat) : Later z0 (State.setReadback s so) := by
  unfold State.setReadback
  try dsimp only
  repeat' first
    | (with_reducible assumption)
    | (with_reducible apply State.put_later)
    | (with_reducible apply State.each_later)
    | (with_reducible apply State.onlyIf_later)
    | (with_reducible apply State.foldl_later)
    | (intro x k hx)
    | (intro x hx)
    | split
    | (with_reducible refine Later.built ?_ ?_ ?_ ?_; rotate_left; exact rfl; exact rfl; exact rfl)

theorem State.setOutputs_later {z0 s : State} (hz : Later z0 s) (so : Nat) (permit : Nat) : Later z0 (State.setOutputs s so permit) := by
  unfold State.setOutputs
  try dsimp only
  repeat' first
    | (with_reducible assumption)
    | (with_reducible apply State.put_later)
    | (with_reducible apply State.setReadback_later)
    | (with_reducible apply State.swPermit_later)
    | (with_reducible apply State.contact_later)
    | (with_reducible apply State.afterOutputs_later)
    | (with_reducible apply State.each_later)
    | (with_reducible apply State.onlyIf_later)
    | (with_reducible apply State.foldl_later)
    | (intro x k hx)
    | (intro x hx)
    | split

theorem State.drive_later {z0 s : State} (hz : Later z0 s) : Later z0 (State.drive s) := by
  unfold State.drive
  try dsimp only
  repeat' first
    | (with_reducible assumption)
    | (with_reducible apply State.putFlag_later)
    | (with_reducible apply State.setOutputs_later)
    | (with_reducible apply State.raise_later)
    | (with_reducible apply State.each_later)
    | (with_reducible apply State.onlyIf_later)
    | (with_reducible apply State.foldl_later)
    | (intro x k hx)
    | (intro x hx)
    | split
    | (with_reducible refine Later.built ?_ ?_ ?_ ?_; rotate_left; exact rfl; exact rfl; exact rfl)

theorem State.takeDemand_later {z0 s : State} (hz : Later z0 s) (k : Nat) (r : SafeRec) : Later z0 (State.takeDemand s k r) := by
  unfold State.takeDemand
  try dsimp only
  repeat' first
    | (with_reducible assumption)
    | (with_reducible apply State.putFlag_later)
    | (with_reducible apply State.setGfn_later)
    | (with_reducible apply State.pullZreq_later)
    | (with_reducible apply State.raise2_later)
    | (with_reducible apply State.each_later)
    | (with_reducible apply State.onlyIf_later)
    | (with_reducible apply State.foldl_later)
    | (intro x k hx)
    | (intro x hx)

theorem State.demand_later {z0 s : State} (hz : Later z0 s) (k : Nat) (r : SafeRec) (cause : Nat) : Later z0 (State.demand s k r cause) := by
  unfold State.demand
  try dsimp only
  repeat' first
    | (with_reducible assumption)
    | (with_reducible apply State.putFlag_later)
    | (with_reducible apply State.put_later)
    | (with_reducible apply State.count_later)
    | (with_reducible apply State.setGfn_later)
    | (with_reducible apply State.raise2_later)
    | (with_reducible apply State.takeDemand_later)

theorem State.showFaultInputs_later {z0 s : State} (hz : Later z0 s) : Later z0 (State.showFaultInputs s) := by
  unfold State.showFaultInputs
  try dsimp only
  repeat' first
    | (with_reducible assumption)
    | (with_reducible apply State.put_later)

theorem State.funcFault_later {z0 s : State} (hz : Later z0 s) (k : Nat) (detail : Nat) (mask : Nat) (encoder : Bool) : Later z0 (State.funcFault s k detail mask encoder) := by
  unfold State.funcFault
  try dsimp only
  repeat' first
    | (with_reducible assumption)
    | (with_reducible apply State.putFlag_later)
    | (with_reducible apply State.put_later)
    | (with_reducible apply State.count_later)
    | (with_reducible apply State.setGfn_later)
    | (with_reducible apply State.raise2_later)
    | (with_reducible apply State.showFaultInputs_later)
    | (with_reducible apply State.each_later)
    | (with_reducible apply State.onlyIf_later)
    | (with_reducible apply State.foldl_later)
    | (intro x k hx)
    | (intro x hx)
    | split

theorem State.clearFault_later {z0 s : State} (hz : Later z0 s) (k : Nat) (r : SafeRec) (cause : Nat) : Later z0 (State.clearFault s k r cause) := by
  unfold State.clearFault
  try dsimp only
  repeat' first
    | (with_reducible assumption)
    | (with_reducible apply State.setGfn_later)
    | (with_reducible apply State.putFlag_later)
    | (with_reducible apply State.put_later)
    | (with_reducible apply State.showFaultInputs_later)
    | (with_reducible apply State.each_later)
    | (with_reducible apply State.onlyIf_later)
    | (with_reducible apply State.foldl_later)
    | (intro x k hx)
    | (intro x hx)
    | split

theorem State.enable_later {z0 s : State} (hz : Later z0 s) (k : Nat) (how : Nat) : Later z0 (State.enable s k how) := by
  unfold State.enable
  try dsimp only
  repeat' first
    | (with_reducible assumption)
    | (with_reducible apply State.putFlag_later)
    | (with_reducible apply State.raise2_later)
    | (with_reducible apply State.setGfn_later)
    | (with_reducible apply State.pullZreq_later)

theorem State.tryMute_later {z0 s : State} (hz : Later z0 s) (k : Nat) : Later z0 (State.tryMute s k) := by
  unfold State.tryMute
  try dsimp only
  repeat' first
    | (with_reducible assumption)
    | (with_reducible apply State.putFlag_later)
    | (with_reducible apply State.setGfn_later)
    | (with_reducible apply State.raise2_later)
    | (with_reducible apply State.each_later)
    | (with_reducible apply State.onlyIf_later)
    | (with_reducible apply State.foldl_later)
    | (intro x k hx)
    | (intro x hx)
    | split

theorem State.evaluate_later {z0 s : State} (hz : Later z0 s) (k : Nat) : Later z0 (State.evaluate s k) := by
  unfold State.evaluate
  try dsimp only
  repeat' first
    | (with_reducible assumption)
    | (with_reducible apply State.tryMute_later)
    | (with_reducible apply State.setGfn_later)
    | (with_reducible apply State.clearFault_later)
    | (with_reducible apply State.demand_later)
    | (with_reducible apply State.putFlag_later)
    | (with_reducible apply State.takeDemand_later)
    | (with_reducible apply State.enable_later)
    | (with_reducible apply State.each_later)
    | (with_reducible apply State.onlyIf_later)
    | (with_reducible apply State.foldl_later)
    | (intro x k hx)
    | (intro x hx)
    | split

theorem State.readEncoder_later {z0 s : State} (hz : Later z0 s) (k : Nat) (r : SafeRec) (w1 : Nat) (w2 : Nat) (frame : Bool) : Later z0 (State.readEncoder s k r w1 w2 frame) := by
  unfold State.readEncoder
  try dsimp only
  repeat' first
    | (with_reducible assumption)
    | (with_reducible apply State.setGfn_later)
    | (with_reducible apply State.funcFault_later)
    | (with_reducible apply State.put_later)
    | (with_reducible apply State.each_later)
    | (with_reducible apply State.onlyIf_later)
    | (with_reducible apply State.foldl_later)
    | (intro x k hx)
    | (intro x hx)
    | split

theorem State.endMute_later {z0 s : State} (hz : Later z0 s) (k : Nat) : Later z0 (State.endMute s k) := by
  unfold State.endMute
  try dsimp only
  repeat' first
    | (with_reducible assumption)
    | (with_reducible apply State.putFlag_later)
    | (with_reducible apply State.setGfn_later)
    | (with_reducible apply State.raise2_later)
    | (with_reducible apply State.each_later)
    | (with_reducible apply State.onlyIf_later)
    | (with_reducible apply State.foldl_later)
    | (intro x k hx)
    | (intro x hx)
    | split

theorem State.muteInput_later {z0 s : State} (hz : Later z0 s) (k : Nat) : Later z0 (State.muteInput s k) := by
  unfold State.muteInput
  try dsimp only
  repeat' first
    | (with_reducible assumption)
    | (with_reducible apply State.setGfn_later)
    | (with_reducible apply State.endMute_later)
    | (with_reducible apply State.each_later)
    | (with_reducible apply State.onlyIf_later)
    | (with_reducible apply State.foldl_later)
    | (intro x k hx)
    | (intro x hx)
    | split

theorem State.watchPair_later {z0 s : State} (hz : Later z0 s) (k : Nat) (r : SafeRec) : Later z0 (State.watchPair s k r) := by
  unfold State.watchPair
  try dsimp only
  repeat' first
    | (with_reducible assumption)
    | (with_reducible apply State.setGfn_later)
    | (with_reducible apply State.each_later)
    | (with_reducible apply State.onlyIf_later)
    | (with_reducible apply State.foldl_later)
    | (intro x k hx)
    | (intro x hx)
    | split

theorem State.confirmCv_later {z0 s : State} (hz : Later z0 s) : Later z0 (State.confirmCv s) := by
  unfold State.confirmCv
  try dsimp only
  repeat' first
    | (with_reducible assumption)
    | (with_reducible apply State.put_later)
    | (with_reducible apply State.raise_later)
    | (with_reducible apply State.request_later)
    | (with_reducible apply State.putFlag_later)
    | (with_reducible apply State.setGfn_later)
    | (with_reducible apply State.each_later)
    | (with_reducible apply State.onlyIf_later)
    | (with_reducible apply State.foldl_later)
    | (intro x k hx)
    | (intro x hx)
    | split
    | (with_reducible refine Later.built ?_ ?_ ?_ ?_; rotate_left; exact rfl; exact rfl; exact rfl)

theorem State.inputsChanged_later {z0 s : State} (hz : Later z0 s) (k : Nat) (r : SafeRec) : Later z0 (State.inputsChanged s k r) := by
  unfold State.inputsChanged
  try dsimp only
  repeat' first
    | (with_reducible assumption)
    | (with_reducible apply State.setGfn_later)
    | (with_reducible apply State.confirmCv_later)
    | (with_reducible apply State.watchPair_later)
    | (with_reducible apply State.each_later)
    | (with_reducible apply State.onlyIf_later)
    | (with_reducible apply State.foldl_later)
    | (intro x k hx)
    | (intro x hx)
    | split

theorem State.resetPulse_later {z0 s : State} (hz : Later z0 s) (i : Nat) (len : Nat) : Later z0 (State.resetPulse s i len) := by
  unfold State.resetPulse
  try dsimp only
  repeat' first
    | (with_reducible assumption)
    | (with_reducible apply State.raise2_later)
    | (with_reducible apply State.confirmCv_later)
    | (with_reducible apply State.each_later)
    | (with_reducible apply State.onlyIf_later)
    | (with_reducible apply State.foldl_later)
    | (intro x k hx)
    | (intro x hx)
    | split
    | (with_reducible refine Later.built ?_ ?_ ?_ ?_; rotate_left; exact rfl; exact rfl; exact rfl)

theorem State.inputConfirm_later {z0 s : State} (hz : Later z0 s) (i : Nat) (isActive : Bool) : Later z0 (State.inputConfirm s i isActive) := by
  unfold State.inputConfirm
  try dsimp only
  repeat' first
    | (with_reducible assumption)
    | (with_reducible apply State.putBit_later)
    | (with_reducible apply State.setGfn_later)
    | (with_reducible apply State.inputsChanged_later)
    | (with_reducible apply State.muteInput_later)
    | (with_reducible apply State.resetPulse_later)
    | (with_reducible apply State.afterOutputs_later)
    | (with_reducible apply State.each_later)
    | (with_reducible apply State.onlyIf_later)
    | (with_reducible apply State.foldl_later)
    | (intro x k hx)
    | (intro x hx)
    | split
    | (with_reducible refine Later.built ?_ ?_ ?_ ?_; rotate_left; exact rfl; exact rfl; exact rfl)

theorem State.learnTp_later {z0 s : State} (hz : Later z0 s) (k : Nat) (i : Nat) (low : Bool) : Later z0 (State.learnTp s k i low) := by
  unfold State.learnTp
  try dsimp only
  repeat' first
    | (with_reducible assumption)
    | (with_reducible apply State.each_later)
    | (with_reducible apply State.onlyIf_later)
    | (with_reducible apply State.foldl_later)
    | (intro x k hx)
    | (intro x hx)
    | split
    | (with_reducible refine Later.built ?_ ?_ ?_ ?_; rotate_left; exact rfl; exact rfl; exact rfl)

theorem execTestPulse_later (k : Fin 4) (reads : PulseReads) (s : State) : Runs s (execTestPulse k reads s) := by
  unfold execTestPulse
  try dsimp only
  repeat' first
    | (with_reducible assumption)
    | (with_reducible exact Later.refl _)
    | (with_reducible apply Runs.next)
    | (with_reducible apply State.moveTo_later)
    | (with_reducible apply State.learnTp_later)
    | (with_reducible apply State.funcFault_later)
    | (with_reducible apply State.each_later)
    | (with_reducible apply State.onlyIf_later)
    | (with_reducible apply State.foldl_later)
    | (intro x k hx)
    | (intro x hx)
    | split
    | (with_reducible refine Later.built ?_ ?_ ?_ ?_; rotate_left; exact rfl; exact rfl; exact rfl)

theorem execDiscrepancyTimeout_later (k : Fin 16) (s : State) : Runs s (execDiscrepancyTimeout k s) := by
  unfold execDiscrepancyTimeout
  try dsimp only
  repeat' first
    | (with_reducible assumption)
    | (with_reducible exact Later.refl _)
    | (with_reducible apply Runs.next)
    | (with_reducible apply State.moveTo_later)
    | (with_reducible apply State.setGfn_later)
    | (with_reducible apply State.funcFault_later)
    | (with_reducible apply State.each_later)
    | (with_reducible apply State.onlyIf_later)
    | (with_reducible apply State.foldl_later)
    | (intro x k hx)
    | (intro x hx)
    | split

theorem execStopdlyExpiry_later (k : Fin 16) (s : State) : Runs s (execStopdlyExpiry k s) := by
  unfold execStopdlyExpiry
  try dsimp only
  repeat' first
    | (with_reducible assumption)
    | (with_reducible exact Later.refl _)
    | (with_reducible apply Runs.next)
    | (with_reducible apply State.moveTo_later)
    | (with_reducible apply State.setGfn_later)
    | (with_reducible apply State.putFlag_later)
    | (with_reducible apply State.drive_later)
    | (with_reducible apply State.each_later)
    | (with_reducible apply State.onlyIf_later)
    | (with_reducible apply State.foldl_later)
    | (intro x k hx)
    | (intro x hx)
    | split

theorem execEdmFault_later (k : Fin 16) (s : State) : Runs s (execEdmFault k s) := by
  unfold execEdmFault
  try dsimp only
  repeat' first
    | (with_reducible assumption)
    | (with_reducible exact Later.refl _)
    | (with_reducible apply Runs.next)
    | (with_reducible apply State.moveTo_later)
    | (with_reducible apply State.setGfn_later)
    | (with_reducible apply State.funcFault_later)
    | (with_reducible apply State.each_later)
    | (with_reducible apply State.onlyIf_later)
    | (with_reducible apply State.foldl_later)
    | (intro x k hx)
    | (intro x hx)
    | split

theorem execUnlkdlyExpiry_later (k : Fin 16) (s : State) : Runs s (execUnlkdlyExpiry k s) := by
  unfold execUnlkdlyExpiry
  try dsimp only
  repeat' first
    | (with_reducible assumption)
    | (with_reducible exact Later.refl _)
    | (with_reducible apply Runs.next)
    | (with_reducible apply State.watchUnlk_later)
    | (with_reducible apply State.moveTo_later)
    | (with_reducible apply State.setGfn_later)
    | (with_reducible apply State.putFlag_later)
    | (with_reducible apply State.each_later)
    | (with_reducible apply State.onlyIf_later)
    | (with_reducible apply State.foldl_later)
    | (intro x k hx)
    | (intro x hx)
    | split

theorem execMutingStart_later (k : Fin 16) (s : State) : Runs s (execMutingStart k s) := by
  unfold execMutingStart
  try dsimp only
  repeat' first
    | (with_reducible assumption)
    | (with_reducible exact Later.refl _)
    | (with_reducible apply Runs.next)
    | (with_reducible apply State.moveTo_later)
    | (with_reducible apply State.tryMute_later)
    | (with_reducible apply State.each_later)
    | (with_reducible apply State.onlyIf_later)
    | (with_reducible apply State.foldl_later)
    | (intro x k hx)
    | (intro x hx)
    | split
    | (with_reducible refine Later.built ?_ ?_ ?_ ?_; rotate_left; exact rfl; exact rfl; exact rfl)

theorem execMutingEnd_later (k : Fin 16) (s : State) : Runs s (execMutingEnd k s) := by
  unfold execMutingEnd
  try dsimp only
  repeat' first
    | (with_reducible assumption)
    | (with_reducible exact Later.refl _)
    | (with_reducible apply Runs.next)
    | (with_reducible apply State.endMute_later)
    | (with_reducible apply State.each_later)
    | (with_reducible apply State.onlyIf_later)
    | (with_reducible apply State.foldl_later)
    | (intro x k hx)
    | (intro x hx)
    | split

theorem execMutmaxExpiry_later (k : Fin 16) (s : State) : Runs s (execMutmaxExpiry k s) := by
  unfold execMutmaxExpiry
  try dsimp only
  repeat' first
    | (with_reducible assumption)
    | (with_reducible exact Later.refl _)
    | (with_reducible apply Runs.next)
    | (with_reducible apply State.moveTo_later)
    | (with_reducible apply State.endMute_later)
    | (with_reducible apply State.setGfn_later)
    | (with_reducible apply State.each_later)
    | (with_reducible apply State.onlyIf_later)
    | (with_reducible apply State.foldl_later)
    | (intro x k hx)
    | (intro x hx)
    | split

theorem State.allOff_later {z0 s : State} (hz : Later z0 s) : Later z0 (State.allOff s) := by
  unfold State.allOff
  try dsimp only
  repeat' first
    | (with_reducible assumption)
    | (with_reducible apply State.putFlag_later)
    | (with_reducible apply State.setGfn_later)
    | (with_reducible apply State.setOutputs_later)
    | (with_reducible apply State.each_later)
    | (with_reducible apply State.onlyIf_later)
    | (with_reducible apply State.foldl_later)
    | (intro x k hx)

theorem State.gseFault_later {z0 s : State} (hz : Later z0 s) (code : Nat) : Later z0 (State.gseFault s code) := by
  unfold State.gseFault
  try dsimp only
  repeat' first
    | (with_reducible assumption)
    | (with_reducible apply State.put_later)
    | (with_reducible apply State.count_later)
    | (with_reducible apply State.raise_later)
    | (with_reducible apply State.allOff_later)
    | (with_reducible apply State.each_later)
    | (with_reducible apply State.onlyIf_later)
    | (with_reducible apply State.foldl_later)
    | (intro x k hx)
    | (intro x hx)
    | split
    | (with_reducible refine Later.built ?_ ?_ ?_ ?_; rotate_left; exact rfl; exact rfl; exact rfl)

theorem execGseFault_later (code : Fin 8) (s : State) : Runs s (execGseFault code s) := by
  unfold execGseFault
  try dsimp only
  repeat' first
    | (with_reducible assumption)
    | (with_reducible exact Later.refl _)
    | (with_reducible apply Runs.next)
    | (with_reducible apply State.gseFault_later)
    | (with_reducible apply State.each_later)
    | (with_reducible apply State.onlyIf_later)
    | (with_reducible apply State.foldl_later)
    | (intro x k hx)
    | (intro x hx)
    | split

theorem State.gseFreeze_later {z0 s : State} (hz : Later z0 s) : Later z0 (State.gseFreeze s) := by
  unfold State.gseFreeze
  try dsimp only
  repeat' first
    | (with_reducible assumption)
    | (with_reducible apply State.allOff_later)
    | (with_reducible apply State.each_later)
    | (with_reducible apply State.onlyIf_later)
    | (with_reducible apply State.foldl_later)
    | (intro x k hx)
    | (intro x hx)
    | split
    | (with_reducible refine Later.built ?_ ?_ ?_ ?_; rotate_left; exact rfl; exact rfl; exact rfl)

theorem State.gseRelease_later {z0 s : State} (hz : Later z0 s) : Later z0 (State.gseRelease s) := by
  unfold State.gseRelease
  try dsimp only
  repeat' first
    | (with_reducible assumption)
    | (with_reducible apply State.gseFault_later)
    | (with_reducible apply State.each_later)
    | (with_reducible apply State.onlyIf_later)
    | (with_reducible apply State.foldl_later)
    | (intro x k hx)
    | (intro x hx)
    | split
    | (with_reducible refine Later.built ?_ ?_ ?_ ?_; rotate_left; exact rfl; exact rfl; exact rfl)

theorem execSoDriveExpiry_later (k : Fin 4) (s : State) : Runs s (execSoDriveExpiry k s) := by
  unfold execSoDriveExpiry
  try dsimp only
  repeat' first
    | (with_reducible assumption)
    | (with_reducible exact Later.refl _)
    | (with_reducible apply Runs.next)
    | (with_reducible apply State.setReadback_later)
    | (with_reducible apply State.afterOutputs_later)

theorem execVsioUndervoltage_later (s : State) : Runs s (execVsioUndervoltage s) := by
  unfold execVsioUndervoltage
  try dsimp only
  repeat' first
    | (with_reducible assumption)
    | (with_reducible exact Later.refl _)
    | (with_reducible apply Runs.next)
    | (with_reducible apply State.putFlag_later)
    | (with_reducible apply State.raise_later)
    | (with_reducible apply State.each_later)
    | (with_reducible apply State.onlyIf_later)
    | (with_reducible apply State.foldl_later)
    | (intro x k hx)
    | (intro x hx)
    | split

theorem execVsioUndervoltageEnd_later (s : State) : Runs s (execVsioUndervoltageEnd s) := by
  unfold execVsioUndervoltageEnd
  try dsimp only
  repeat' first
    | (with_reducible assumption)
    | (with_reducible exact Later.refl _)
    | (with_reducible apply Runs.next)
    | (with_reducible apply State.putFlag_later)
    | (with_reducible apply State.raise_later)
    | (with_reducible apply State.each_later)
    | (with_reducible apply State.onlyIf_later)
    | (with_reducible apply State.foldl_later)
    | (intro x k hx)
    | (intro x hx)
    | split

theorem State.gseStart_later {z0 s : State} (hz : Later z0 s) : Later z0 (State.gseStart s) := by
  unfold State.gseStart
  extract_lets s1 keep
  have h1 : Later z0 s1 := State.allOff_later hz
  clear_value s1
  have h3 : Later z0 (s1.clearUnit .gse (fun _ => true) keep) := State.clearUnit_later h1 _ _ _
  exact h3.same rfl rfl rfl rfl rfl rfl rfl rfl rfl rfl

theorem State.gseTestsDone_later {z0 s : State} (hz : Later z0 s) (failed : Nat) (inputs : Nat) : Later z0 (State.gseTestsDone s failed inputs) := by
  unfold State.gseTestsDone
  try dsimp only
  repeat' first
    | (with_reducible assumption)
    | (with_reducible apply State.moveTo_later)
    | (with_reducible apply State.put_later)
    | (with_reducible apply State.gseFault_later)
    | (with_reducible apply State.putFlag_later)
    | (with_reducible apply State.setGfn_later)
    | (with_reducible apply State.inputsChanged_later)
    | (with_reducible apply State.raise_later)
    | (with_reducible apply State.pullLines_later)
    | (with_reducible apply State.afterOutputs_later)
    | (with_reducible apply State.each_later)
    | (with_reducible apply State.onlyIf_later)
    | (with_reducible apply State.foldl_later)
    | (intro x k hx)
    | (intro x hx)
    | split
    | (with_reducible refine Later.built ?_ ?_ ?_ ?_; rotate_left; exact rfl; exact rfl; exact rfl)

theorem State.confirmLate_later {z0 s : State} (hz : Later z0 s) : Later z0 (State.confirmLate s) := by
  unfold State.confirmLate
  try dsimp only
  repeat' first
    | (with_reducible assumption)
    | (with_reducible apply State.moveTo_later)
    | (with_reducible apply State.raise_later)
    | (with_reducible apply State.each_later)
    | (with_reducible apply State.onlyIf_later)
    | (with_reducible apply State.foldl_later)
    | (intro x k hx)
    | (intro x hx)
    | split
    | (with_reducible refine Later.built ?_ ?_ ?_ ?_; rotate_left; exact rfl; exact rfl; exact rfl)

theorem State.gsePowerFail_later {z0 s : State} (hz : Later z0 s) : Later z0 (State.gsePowerFail s) := by
  unfold State.gsePowerFail
  try dsimp only
  repeat' first
    | (with_reducible assumption)
    | (with_reducible apply State.demand_later)
    | (with_reducible apply State.allOff_later)
    | (with_reducible apply State.raise_later)
    | (with_reducible apply State.each_later)
    | (with_reducible apply State.onlyIf_later)
    | (with_reducible apply State.foldl_later)
    | (intro x k hx)
    | (intro x hx)
    | split
    | (with_reducible refine Later.built ?_ ?_ ?_ ?_; rotate_left; exact rfl; exact rfl; exact rfl)

end Sys2Proof.Machine
end

