-- ==== Sys2Proof/Laws/LaterNetwork.lean ====
section
/-! SUPPORT. Every operation and every command of the NTU leads to a later state (Laws/Later.lean). -/

namespace Sys2Proof.Machine

open Sys2Proof

theorem State.setNtu_later {z0 s : State} (hz : Later z0 s) (v : Ntu) : Later z0 (State.setNtu s v) := by
  unfold State.setNtu
  try dsimp only
  repeat' first
    | (with_reducible assumption)
    | (with_reducible apply State.each_later)
    | (with_reducible apply State.onlyIf_later)
    | (with_reducible apply State.foldl_later)
    | (intro x k hx)
    | (intro x hx)
    | split
    | (with_reducible refine Later.built ?_ ?_ ?_ ?_; rotate_left; exact rfl; exact rfl; exact rfl)

theorem State.markClock_later {z0 s : State} (hz : Later z0 s) : Later z0 (State.markClock s) := by
  unfold State.markClock
  try dsimp only
  repeat' first
    | (with_reducible assumption)
    | (with_reducible apply State.setNtu_later)

theorem State.showNtu_later {z0 s : State} (hz : Later z0 s) : Later z0 (State.showNtu s) := by
  unfold State.showNtu
  try dsimp only
  repeat' first
    | (with_reducible assumption)
    | (with_reducible apply State.put_later)

theorem State.setPtp_later {z0 s : State} (hz : Later z0 s) (st : Nat) : Later z0 (State.setPtp s st) := by
  unfold State.setPtp
  try dsimp only
  repeat' first
    | (with_reducible assumption)
    | (with_reducible apply State.refreshTl_later)
    | (with_reducible apply State.put_later)
    | (with_reducible apply State.putFlag_later)
    | (with_reducible apply State.raise_later)
    | (with_reducible apply State.setNtu_later)
    | (with_reducible apply State.each_later)
    | (with_reducible apply State.onlyIf_later)
    | (with_reducible apply State.foldl_later)
    | (intro x k hx)
    | (intro x hx)
    | split

theorem State.announce_later {z0 s : State} (hz : Later z0 s) (source : Nat) (rank : Nat) (port : Nat) (interval : Nat) (utc : Int) : Later z0 (State.announce s source rank port interval utc) := by
  unfold State.announce
  try dsimp only
  repeat' first
    | (with_reducible assumption)
    | (with_reducible apply State.setNtu_later)
    | (with_reducible apply State.setPtp_later)
    | (with_reducible apply State.put_later)
    | (with_reducible apply State.raise2_later)
    | (with_reducible apply State.each_later)
    | (with_reducible apply State.onlyIf_later)
    | (with_reducible apply State.foldl_later)
    | (intro x k hx)
    | (intro x hx)
    | split

theorem State.drawRate_later {z0 s : State} (hz : Later z0 s) : Later z0 (State.drawRate s) := by
  unfold State.drawRate
  try dsimp only
  repeat' first
    | (with_reducible assumption)
    | (with_reducible apply State.draw_later)
    | (with_reducible apply State.markClock_later)
    | (with_reducible apply State.setNtu_later)
    | (with_reducible apply State.put_later)
    | (with_reducible apply State.each_later)
    | (with_reducible apply State.onlyIf_later)
    | (with_reducible apply State.foldl_later)
    | (intro x k hx)
    | (intro x hx)
    | (with_reducible refine Later.snd ?_ (by assumption))
    | split

theorem State.stepPtp_later {z0 s : State} (hz : Later z0 s) (offset : Int) : Later z0 (State.stepPtp s offset) := by
  unfold State.stepPtp
  try dsimp only
  repeat' first
    | (with_reducible assumption)
    | (with_reducible apply State.markClock_later)
    | (with_reducible apply State.setNtu_later)
    | (with_reducible apply State.put_later)
    | (with_reducible apply State.raise_later)

theorem State.takeOffset_later {z0 s : State} (hz : Later z0 s) (offset : Int) : Later z0 (State.takeOffset s offset) := by
  unfold State.takeOffset
  try dsimp only
  repeat' first
    | (with_reducible assumption)
    | (with_reducible apply State.put_later)
    | (with_reducible apply State.stepPtp_later)
    | (with_reducible apply State.drawRate_later)
    | (with_reducible apply State.setNtu_later)
    | (with_reducible apply State.setPtp_later)
    | (with_reducible apply State.each_later)
    | (with_reducible apply State.onlyIf_later)
    | (with_reducible apply State.foldl_later)
    | (intro x k hx)
    | (intro x hx)
    | split

theorem execPtpMessage_later (m : PtpMsg) (s : State) : Runs s (execPtpMessage m s) := by
  unfold execPtpMessage
  try dsimp only
  repeat' first
    | (with_reducible assumption)
    | (with_reducible exact Later.refl _)
    | (with_reducible apply Runs.next)
    | (with_reducible apply State.announce_later)
    | (with_reducible apply State.sync_later)
    | (with_reducible apply State.setNtu_later)
    | (with_reducible apply State.takeOffset_later)
    | (with_reducible apply State.each_later)
    | (with_reducible apply State.onlyIf_later)
    | (with_reducible apply State.foldl_later)
    | (intro x k hx)
    | (intro x hx)
    | split

theorem execPtpHoldover_later (s : State) : Runs s (execPtpHoldover s) := by
  unfold execPtpHoldover
  try dsimp only
  repeat' first
    | (with_reducible assumption)
    | (with_reducible exact Later.refl _)
    | (with_reducible apply Runs.next)
    | (with_reducible apply State.moveTo_later)
    | (with_reducible apply State.setNtu_later)
    | (with_reducible apply State.setPtp_later)
    | (with_reducible apply State.each_later)
    | (with_reducible apply State.onlyIf_later)
    | (with_reducible apply State.foldl_later)
    | (intro x k hx)
    | (intro x hx)
    | split

theorem State.correct_later {z0 s : State} (hz : Later z0 s) (egress : Nat) (total : Nat) (c : Int) : Later z0 (State.correct s egress total c) := by
  unfold State.correct
  try dsimp only
  repeat' first
    | (with_reducible assumption)
    | (with_reducible apply State.put_later)
    | (with_reducible apply State.setNtu_later)

theorem execTransparentClockForward_later (ingress : Fin 4) (egress : Fin 4) (residence : Nat) (m : TcMsg) (s : State) : Runs s (execTransparentClockForward ingress egress residence m s) := by
  unfold execTransparentClockForward
  try dsimp only
  repeat' first
    | (with_reducible assumption)
    | (with_reducible exact Later.refl _)
    | (with_reducible apply Runs.next)
    | (with_reducible apply State.setNtu_later)
    | (with_reducible apply State.sync_later)
    | (with_reducible apply State.correct_later)
    | (with_reducible apply State.raise2_later)
    | (with_reducible apply State.each_later)
    | (with_reducible apply State.onlyIf_later)
    | (with_reducible apply State.foldl_later)
    | (intro x k hx)
    | (intro x hx)
    | split

theorem execCompareFire_later (k : Fin 2) (s : State) : Runs s (execCompareFire k s) := by
  unfold execCompareFire
  try dsimp only
  repeat' first
    | (with_reducible assumption)
    | (with_reducible exact Later.refl _)
    | (with_reducible apply Runs.next)
    | (with_reducible apply State.moveTo_later)
    | (with_reducible apply State.putFlag_later)
    | (with_reducible apply State.put_later)
    | (with_reducible apply State.each_later)
    | (with_reducible apply State.onlyIf_later)
    | (with_reducible apply State.foldl_later)
    | (intro x k hx)
    | (intro x hx)
    | split

theorem execTemplateSend_later (n : Fin 24) (s : State) : Runs s (execTemplateSend n s) := by
  unfold execTemplateSend
  try dsimp only
  repeat' first
    | (with_reducible assumption)
    | (with_reducible exact Later.refl _)
    | (with_reducible apply Runs.next)
    | (with_reducible apply State.moveTo_later)
    | (with_reducible apply State.setNtu_later)
    | (with_reducible apply State.each_later)
    | (with_reducible apply State.onlyIf_later)
    | (with_reducible apply State.foldl_later)
    | (intro x k hx)
    | (intro x hx)
    | split

theorem State.moduleGood_later {z0 s : State} (hz : Later z0 s) (n : Nat) : Later z0 (State.moduleGood s n) := by
  unfold State.moduleGood
  try dsimp only
  repeat' first
    | (with_reducible assumption)
    | (with_reducible apply State.moduleBack_later)
    | (with_reducible apply State.each_later)
    | (with_reducible apply State.onlyIf_later)
    | (with_reducible apply State.foldl_later)
    | (intro x k hx)
    | (intro x hx)
    | split
    | (with_reducible refine Later.built ?_ ?_ ?_ ?_; rotate_left; exact rfl; exact rfl; exact rfl)

theorem execModuleStatusRx_later (n : Fin 24) (echo : BitVec 8) (fault : BitVec 8) (vact : BitVec 16) (iact : BitVec 16) (s : State) : Runs s (execModuleStatusRx n echo fault vact iact s) := by
  unfold execModuleStatusRx
  try dsimp only
  repeat' first
    | (with_reducible assumption)
    | (with_reducible exact Later.refl _)
    | (with_reducible apply Runs.next)
    | (with_reducible apply State.setNtu_later)
    | (with_reducible apply State.moduleLost_later)
    | (with_reducible apply State.moduleGood_later)
    | (with_reducible apply State.each_later)
    | (with_reducible apply State.onlyIf_later)
    | (with_reducible apply State.foldl_later)
    | (intro x k hx)
    | (intro x hx)
    | split
    | (with_reducible refine Later.built ?_ ?_ ?_ ?_; rotate_left; exact rfl; exact rfl; exact rfl)

theorem execCanErrorStateChange_later (k : Fin 4) (state : Fin 3) (tec : BitVec 8) (rec_ : BitVec 8) (s : State) : Runs s (execCanErrorStateChange k state tec rec_ s) := by
  unfold execCanErrorStateChange
  try dsimp only
  repeat' first
    | (with_reducible assumption)
    | (with_reducible exact Later.refl _)
    | (with_reducible apply Runs.next)
    | (with_reducible apply State.put_later)
    | (with_reducible apply State.raise2_later)
    | (with_reducible apply State.each_later)
    | (with_reducible apply State.onlyIf_later)
    | (with_reducible apply State.foldl_later)
    | (intro x k hx)
    | (intro x hx)
    | split

theorem State.sunspecLost_later {z0 s : State} (hz : Later z0 s) (idx : Nat) : Later z0 (State.sunspecLost s idx) := by
  unfold State.sunspecLost
  try dsimp only
  repeat' first
    | (with_reducible assumption)
    | (with_reducible apply State.raise_later)
    | (with_reducible apply State.each_later)
    | (with_reducible apply State.onlyIf_later)
    | (with_reducible apply State.foldl_later)
    | (intro x k hx)
    | (intro x hx)
    | split
    | (with_reducible refine Later.built ?_ ?_ ?_ ?_; rotate_left; exact rfl; exact rfl; exact rfl)

theorem execModbusTransaction_later (dev : Fin 16) (outcome : Fin 4) (s : State) : Runs s (execModbusTransaction dev outcome s) := by
  unfold execModbusTransaction
  try dsimp only
  repeat' first
    | (with_reducible assumption)
    | (with_reducible exact Later.refl _)
    | (with_reducible apply Runs.next)
    | (with_reducible apply State.setNtu_later)
    | (with_reducible apply State.put_later)
    | (with_reducible apply State.count_later)
    | (with_reducible apply State.each_later)
    | (with_reducible apply State.onlyIf_later)
    | (with_reducible apply State.foldl_later)
    | (intro x k hx)
    | (intro x hx)
    | split

theorem execModbusTcpReconnect_later (dev : Fin 16) (s : State) : Runs s (execModbusTcpReconnect dev s) := by
  unfold execModbusTcpReconnect
  try dsimp only
  repeat' first
    | (with_reducible assumption)
    | (with_reducible exact Later.refl _)
    | (with_reducible apply Runs.next)
    | (with_reducible apply State.moveTo_later)
    | (with_reducible apply State.setNtu_later)
    | (with_reducible apply State.put_later)
    | (with_reducible apply State.each_later)
    | (with_reducible apply State.onlyIf_later)
    | (with_reducible apply State.foldl_later)
    | (intro x k hx)
    | (intro x hx)
    | split

theorem execSunspecDiscovery_later (dev : Fin 16) (models : Option (List (BitVec 16))) (s : State) : Runs s (execSunspecDiscovery dev models s) := by
  unfold execSunspecDiscovery
  try dsimp only
  repeat' first
    | (with_reducible assumption)
    | (with_reducible exact Later.refl _)
    | (with_reducible apply Runs.next)
    | (with_reducible apply State.put_later)
    | (with_reducible apply State.raise2_later)
    | (with_reducible apply State.sunspecLost_later)
    | (with_reducible apply State.each_later)
    | (with_reducible apply State.onlyIf_later)
    | (with_reducible apply State.foldl_later)
    | (intro x k hx)
    | (intro x hx)
    | split

theorem State.setLink_later {z0 s : State} (hz : Later z0 s) (k : Nat) (speed : Nat) : Later z0 (State.setLink s k speed) := by
  unfold State.setLink
  try dsimp only
  repeat' first
    | (with_reducible assumption)
    | (with_reducible apply State.put_later)
    | (with_reducible apply State.putFlag_later)
    | (with_reducible apply State.raise2_later)
    | (with_reducible apply State.each_later)
    | (with_reducible apply State.onlyIf_later)
    | (with_reducible apply State.foldl_later)
    | (intro x k hx)
    | (intro x hx)
    | split

theorem execEthernetLinkChange_later (k : Fin 4) (speed : Fin 4) (s : State) : Runs s (execEthernetLinkChange k speed s) := by
  unfold execEthernetLinkChange
  try dsimp only
  repeat' first
    | (with_reducible assumption)
    | (with_reducible exact Later.refl _)
    | (with_reducible apply Runs.next)
    | (with_reducible apply State.setLink_later)
    | (with_reducible apply State.each_later)
    | (with_reducible apply State.onlyIf_later)
    | (with_reducible apply State.foldl_later)
    | (intro x k hx)
    | (intro x hx)
    | split

theorem State.startPtp_later {z0 s : State} (hz : Later z0 s) : Later z0 (State.startPtp s) := by
  unfold State.startPtp
  try dsimp only
  repeat' first
    | (with_reducible assumption)
    | (with_reducible apply State.markClock_later)
    | (with_reducible apply State.setNtu_later)
    | (with_reducible apply State.put_later)
    | (with_reducible apply State.setPtp_later)

theorem State.ntuPlan_later {z0 s : State} (hz : Later z0 s) (ptpChanged : Bool) : Later z0 (State.ntuPlan s ptpChanged) := by
  unfold State.ntuPlan
  try dsimp only
  repeat' first
    | (with_reducible assumption)
    | (with_reducible apply State.put_later)
    | (with_reducible apply State.setLink_later)
    | (with_reducible apply State.startPtp_later)
    | (with_reducible apply State.each_later)
    | (with_reducible apply State.onlyIf_later)
    | (with_reducible apply State.foldl_later)
    | (intro x k hx)
    | (intro x hx)
    | split

theorem State.ntuReset_later {z0 s : State} (hz : Later z0 s) : Later z0 (State.ntuReset s) := by
  unfold State.ntuReset
  try dsimp only
  repeat' first
    | (with_reducible assumption)
    | (with_reducible apply State.clearUnit_later)
    | (with_reducible apply State.setNtu_later)
    | (with_reducible apply State.ntuPlan_later)

end Sys2Proof.Machine
end

