-- ==== Sys2Proof/Laws/LaterAfril.lean ====
section
/-! SUPPORT. Every operation and every command of the ALK leads to a later state (Laws/Later.lean). -/

namespace Sys2Proof.Machine

open Sys2Proof

theorem State.setAlk_later {z0 s : State} (hz : Later z0 s) (v : Alk) : Later z0 (State.setAlk s v) := by
  unfold State.setAlk
  try dsimp only
  repeat' first
    | (with_reducible assumption)
    | (with_reducible apply State.each_later)
    | (with_reducible apply State.onlyIf_later)
    | (with_reducible apply State.foldl_later)
    | (intro x k hx)
    | (intro x hx)
    | split
    | (with_reducible refine Later.built ?_ ?_ ?_ ?_; rotate_left; exact rfl; exact rfl; exact rfl)

theorem State.setAnode_later {z0 s : State} (hz : Later z0 s) (n : Nat) (v : AlkNode) : Later z0 (State.setAnode s n v) := by
  unfold State.setAnode
  try dsimp only
  repeat' first
    | (with_reducible assumption)
    | (with_reducible apply State.setAlk_later)
    | (with_reducible apply State.put_later)

theorem State.showRelays_later {z0 s : State} (hz : Later z0 s) : Later z0 (State.showRelays s) := by
  unfold State.showRelays
  try dsimp only
  repeat' first
    | (with_reducible assumption)
    | (with_reducible apply State.route_later)
    | (with_reducible apply State.putFlag_later)
    | (with_reducible apply State.each_later)
    | (with_reducible apply State.onlyIf_later)
    | (with_reducible apply State.foldl_later)
    | (intro x k hx)

theorem State.showRoute_later {z0 s : State} (hz : Later z0 s) (n : Nat) : Later z0 (State.showRoute s n) := by
  unfold State.showRoute
  try dsimp only
  repeat' first
    | (with_reducible assumption)
    | (with_reducible apply State.put_later)

theorem State.sendRoutes_later {z0 s : State} (hz : Later z0 s) (relays : List Nat) : Later z0 (State.sendRoutes s relays) := by
  unfold State.sendRoutes
  try dsimp only
  repeat' first
    | (with_reducible assumption)
    | (with_reducible apply State.setAnode_later)
    | (with_reducible apply State.each_later)
    | (with_reducible apply State.onlyIf_later)
    | (with_reducible apply State.foldl_later)
    | (intro x k hx)

theorem State.planRoute_later {z0 s : State} (hz : Later z0 s) (n : Nat) (v : List Nat × Nat) : Later z0 (State.planRoute s n v) := by
  unfold State.planRoute
  try dsimp only
  repeat' first
    | (with_reducible assumption)
    | (with_reducible apply State.route_later)
    | (with_reducible apply State.setAnode_later)
    | (with_reducible apply State.sendRoutes_later)

theorem State.takeRoute_later {z0 s : State} (hz : Later z0 s) (n : Nat) : Later z0 (State.takeRoute s n) := by
  unfold State.takeRoute
  try dsimp only
  repeat' first
    | (with_reducible assumption)
    | (with_reducible apply State.route_later)
    | (with_reducible apply State.setAnode_later)
    | (with_reducible apply State.showRoute_later)
    | (with_reducible apply State.put_later)
    | (with_reducible apply State.raise2_later)
    | (with_reducible apply State.each_later)
    | (with_reducible apply State.onlyIf_later)
    | (with_reducible apply State.foldl_later)
    | (intro x k hx)
    | (intro x hx)
    | split

theorem State.chooseRoute_later {z0 s : State} (hz : Later z0 s) (t : Tab (Option (List Nat × Nat))) (n : Nat) : Later z0 (State.chooseRoute t s n) := by
  unfold State.chooseRoute
  try dsimp only
  repeat' first
    | (with_reducible assumption)
    | (with_reducible apply State.route_later)
    | (with_reducible apply State.planRoute_later)
    | (with_reducible apply State.setAnode_later)
    | (with_reducible apply State.each_later)
    | (with_reducible apply State.onlyIf_later)
    | (with_reducible apply State.foldl_later)
    | (intro x k hx)
    | (intro x hx)
    | split

theorem State.switchImages_later {z0 s : State} (hz : Later z0 s) : Later z0 (State.switchImages s) := by
  unfold State.switchImages
  try dsimp only
  repeat' first
    | (with_reducible assumption)
    | (with_reducible apply State.setAlk_later)
    | (with_reducible apply State.putFlag_later)
    | (with_reducible apply State.setAnode_later)
    | (with_reducible apply State.each_later)
    | (with_reducible apply State.onlyIf_later)
    | (with_reducible apply State.foldl_later)
    | (intro x k hx)
    | (intro x hx)
    | split

theorem State.broadcast_later {z0 s : State} (hz : Later z0 s) (type : Nat) (bits : List Bool) (node : Nat) : Later z0 (State.broadcast s type bits node) := by
  unfold State.broadcast
  try dsimp only
  repeat' first
    | (with_reducible assumption)
    | (with_reducible apply State.setAlk_later)

theorem State.announceImages_later {z0 s : State} (hz : Later z0 s) (w : NodeSwitch) (versions : List Nat) : Later z0 (State.announceImages s w versions) := by
  unfold State.announceImages
  try dsimp only
  repeat' first
    | (with_reducible assumption)
    | (with_reducible apply State.setAlk_later)
    | (with_reducible apply State.fallback_later)
    | (with_reducible apply State.broadcast_later)
    | (with_reducible apply State.each_later)
    | (with_reducible apply State.onlyIf_later)
    | (with_reducible apply State.foldl_later)
    | (intro x k hx)
    | (intro x hx)
    | split

theorem State.sendTime_later {z0 s : State} (hz : Later z0 s) (len : Nat) : Later z0 (State.sendTime s len) := by
  unfold State.sendTime
  try dsimp only
  repeat' first
    | (with_reducible assumption)
    | (with_reducible apply State.setAlk_later)
    | (with_reducible apply State.broadcast_later)
    | (with_reducible apply State.each_later)
    | (with_reducible apply State.onlyIf_later)
    | (with_reducible apply State.foldl_later)
    | (intro x k hx)
    | (intro x hx)
    | split

theorem execRoundStart_later (s : State) : Runs s (execRoundStart s) := by
  unfold execRoundStart
  try dsimp only
  repeat' first
    | (with_reducible assumption)
    | (with_reducible exact Later.refl _)
    | (with_reducible apply Runs.next)
    | (with_reducible apply State.moveTo_later)
    | (with_reducible apply State.switchImages_later)
    | (with_reducible apply State.takeRoute_later)
    | (with_reducible apply State.chooseRoute_later)
    | (with_reducible apply State.setAnode_later)
    | (with_reducible apply State.showRelays_later)
    | (with_reducible apply State.setAlk_later)
    | (with_reducible apply State.sendTime_later)
    | (with_reducible apply State.each_later)
    | (with_reducible apply State.onlyIf_later)
    | (with_reducible apply State.foldl_later)
    | (intro x k hx)
    | (intro x hx)
    | split

theorem State.loadDown_later {z0 s : State} (hz : Later z0 s) (n : Nat) : Later z0 (State.loadDown s n) := by
  unfold State.loadDown
  try dsimp only
  repeat' first
    | (with_reducible assumption)
    | (with_reducible apply State.setAnode_later)
    | (with_reducible apply State.each_later)
    | (with_reducible apply State.onlyIf_later)
    | (with_reducible apply State.foldl_later)
    | (intro x k hx)
    | (intro x hx)
    | split

theorem State.sendDown_later {z0 s : State} (hz : Later z0 s) (n : Nat) : Later z0 (State.sendDown s n) := by
  unfold State.sendDown
  try dsimp only
  repeat' first
    | (with_reducible assumption)
    | (with_reducible apply State.loadDown_later)
    | (with_reducible apply State.setAnode_later)
    | (with_reducible apply State.each_later)
    | (with_reducible apply State.onlyIf_later)
    | (with_reducible apply State.foldl_later)
    | (intro x k hx)
    | (intro x hx)
    | split

theorem State.ackDown_later {z0 s : State} (hz : Later z0 s) (n : Nat) (dack : Bool) : Later z0 (State.ackDown s n dack) := by
  unfold State.ackDown
  try dsimp only
  repeat' first
    | (with_reducible assumption)
    | (with_reducible apply State.setAnode_later)
    | (with_reducible apply State.each_later)
    | (with_reducible apply State.onlyIf_later)
    | (with_reducible apply State.foldl_later)
    | (intro x k hx)
    | (intro x hx)
    | split

theorem State.takeMessage_later {z0 s : State} (hz : Later z0 s) (n : Nat) (type : Nat) (bits : List Bool) : Later z0 (State.takeMessage s n type bits) := by
  unfold State.takeMessage
  try dsimp only
  repeat' first
    | (with_reducible assumption)
    | (with_reducible apply State.setAnode_later)
    | (with_reducible apply State.put_later)
    | (with_reducible apply State.raise2_later)
    | (with_reducible apply State.take_later)
    | (with_reducible apply State.setAlk_later)
    | (with_reducible apply State.putFlag_later)
    | (with_reducible apply State.each_later)
    | (with_reducible apply State.onlyIf_later)
    | (with_reducible apply State.foldl_later)
    | (intro x k hx)
    | (intro x hx)
    | split

theorem State.takeUp_later {z0 s : State} (hz : Later z0 s) (n : Nat) (u : AlkPay) : Later z0 (State.takeUp s n u) := by
  unfold State.takeUp
  try dsimp only
  repeat' first
    | (with_reducible assumption)
    | (with_reducible apply State.setAnode_later)
    | (with_reducible apply State.takeMessage_later)
    | (with_reducible apply State.each_later)
    | (with_reducible apply State.onlyIf_later)
    | (with_reducible apply State.foldl_later)
    | (intro x k hx)
    | (intro x hx)
    | split

theorem State.measure_later {z0 s : State} (hz : Later z0 s) (u : AlkUp) : Later z0 (State.measure s u) := by
  unfold State.measure
  try dsimp only
  repeat' first
    | (with_reducible assumption)
    | (with_reducible apply State.setAnode_later)
    | (with_reducible apply State.put_later)
    | (with_reducible apply State.setAlk_later)

theorem State.exchangeGood_later {z0 s : State} (hz : Later z0 s) (n : Nat) (u : AlkPay) : Later z0 (State.exchangeGood s n u) := by
  unfold State.exchangeGood
  try dsimp only
  repeat' first
    | (with_reducible assumption)
    | (with_reducible apply State.setAnode_later)
    | (with_reducible apply State.ackDown_later)
    | (with_reducible apply State.takeUp_later)
    | (with_reducible apply State.put_later)
    | (with_reducible apply State.raise2_later)
    | (with_reducible apply State.each_later)
    | (with_reducible apply State.onlyIf_later)
    | (with_reducible apply State.foldl_later)
    | (intro x k hx)
    | (intro x hx)

theorem State.exchangeLost_later {z0 s : State} (hz : Later z0 s) (k : Nat) (e : Exch) : Later z0 (State.exchangeLost s k e) := by
  unfold State.exchangeLost
  try dsimp only
  repeat' first
    | (with_reducible assumption)
    | (with_reducible apply State.setAnode_later)
    | (with_reducible apply State.count_later)
    | (with_reducible apply State.setAlk_later)
    | (with_reducible apply State.each_later)
    | (with_reducible apply State.onlyIf_later)
    | (with_reducible apply State.foldl_later)
    | (intro x k hx)
    | (intro x hx)
    | split

theorem State.grants_later {z0 s : State} (hz : Later z0 s) (k : Nat) : Later z0 (State.grants s k) := by
  unfold State.grants
  try dsimp only
  repeat' first
    | (with_reducible assumption)
    | (with_reducible apply State.setAlk_later)
    | (with_reducible apply State.each_later)
    | (with_reducible apply State.onlyIf_later)
    | (with_reducible apply State.foldl_later)
    | (intro x k hx)
    | (intro x hx)
    | split

theorem State.fillBcast_later {z0 s : State} (hz : Later z0 s) (k : Nat) : Later z0 (State.fillBcast s k) := by
  unfold State.fillBcast
  try dsimp only
  repeat' first
    | (with_reducible assumption)
    | (with_reducible apply State.broadcast_later)
    | (with_reducible apply State.take_later)
    | (with_reducible apply State.setAlk_later)
    | (with_reducible apply State.each_later)
    | (with_reducible apply State.onlyIf_later)
    | (with_reducible apply State.foldl_later)
    | (intro x k hx)
    | (intro x hx)
    | split

theorem State.joinDone_later {z0 s : State} (hz : Later z0 s) (n : Nat) : Later z0 (State.joinDone s n) := by
  unfold State.joinDone
  try dsimp only
  repeat' first
    | (with_reducible assumption)
    | (with_reducible apply State.put_later)
    | (with_reducible apply State.showRoute_later)
    | (with_reducible apply State.showRelays_later)
    | (with_reducible apply State.raise2_later)
    | (with_reducible apply State.each_later)
    | (with_reducible apply State.onlyIf_later)
    | (with_reducible apply State.foldl_later)
    | (intro x k hx)
    | (intro x hx)
    | split

theorem State.endBcast_later {z0 s : State} (hz : Later z0 s) : Later z0 (State.endBcast s) := by
  unfold State.endBcast
  try dsimp only
  repeat' first
    | (with_reducible assumption)
    | (with_reducible apply State.setAlk_later)
    | (with_reducible apply State.joinDone_later)
    | (with_reducible apply State.each_later)
    | (with_reducible apply State.onlyIf_later)
    | (with_reducible apply State.foldl_later)
    | (intro x k hx)
    | (intro x hx)
    | split

theorem State.transmit_later {z0 s : State} (hz : Later z0 s) (k : Nat) : Later z0 (State.transmit s k) := by
  unfold State.transmit
  try dsimp only
  repeat' first
    | (with_reducible assumption)
    | (with_reducible apply State.sendDown_later)
    | (with_reducible apply State.fillBcast_later)
    | (with_reducible apply State.setAlk_later)
    | (with_reducible apply State.endBcast_later)
    | (with_reducible apply State.each_later)
    | (with_reducible apply State.onlyIf_later)
    | (with_reducible apply State.foldl_later)
    | (intro x k hx)
    | (intro x hx)

theorem State.decideExchange_later {z0 s : State} (hz : Later z0 s) (ups : List AlkUp) (k : Nat) (e : Exch) : Later z0 (State.decideExchange ups k s e) := by
  unfold State.decideExchange
  try dsimp only
  repeat' first
    | (with_reducible assumption)
    | (with_reducible apply State.exchangeLost_later)
    | (with_reducible apply State.measure_later)
    | (with_reducible apply State.exchangeGood_later)
    | (with_reducible apply State.each_later)
    | (with_reducible apply State.onlyIf_later)
    | (with_reducible apply State.foldl_later)
    | (intro x k hx)
    | (intro x hx)
    | split

theorem execPass_later (ups : List AlkUp) (s : State) : Runs s (execPass ups s) := by
  unfold execPass
  try dsimp only
  repeat' first
    | (with_reducible assumption)
    | (with_reducible exact Later.refl _)
    | (with_reducible apply Runs.next)
    | (with_reducible apply State.setAlk_later)
    | (with_reducible apply State.moveTo_later)
    | (with_reducible apply State.grants_later)
    | (with_reducible apply State.transmit_later)
    | (with_reducible apply State.decideExchange_later)
    | (with_reducible apply State.each_later)
    | (with_reducible apply State.onlyIf_later)
    | (with_reducible apply State.foldl_later)
    | (intro x k hx)
    | (intro x hx)
    | split

theorem State.roundLost_later {z0 s : State} (hz : Later z0 s) (n : Nat) : Later z0 (State.roundLost s n) := by
  unfold State.roundLost
  try dsimp only
  repeat' first
    | (with_reducible assumption)
    | (with_reducible apply State.setAnode_later)
    | (with_reducible apply State.count_later)
    | (with_reducible apply State.raise2_later)
    | (with_reducible apply State.put_later)
    | (with_reducible apply State.each_later)
    | (with_reducible apply State.onlyIf_later)
    | (with_reducible apply State.foldl_later)
    | (intro x k hx)
    | (intro x hx)

theorem execRoundEnd_later (s : State) : Runs s (execRoundEnd s) := by
  unfold execRoundEnd
  try dsimp only
  repeat' first
    | (with_reducible assumption)
    | (with_reducible exact Later.refl _)
    | (with_reducible apply Runs.next)
    | (with_reducible apply State.moveTo_later)
    | (with_reducible apply State.roundLost_later)
    | (with_reducible apply State.put_later)
    | (with_reducible apply State.raise_later)
    | (with_reducible apply State.setAlk_later)
    | (with_reducible apply State.each_later)
    | (with_reducible apply State.onlyIf_later)
    | (with_reducible apply State.foldl_later)
    | (intro x k hx)
    | (intro x hx)
    | split

theorem execBandCBurst_later (deferMs : Nat) (s : State) : Runs s (execBandCBurst deferMs s) := by
  unfold execBandCBurst
  try dsimp only
  repeat' first
    | (with_reducible assumption)
    | (with_reducible exact Later.refl _)
    | (with_reducible apply Runs.next)
    | (with_reducible apply State.moveTo_later)
    | (with_reducible apply State.setAlk_later)
    | (with_reducible apply State.raise_later)
    | (with_reducible apply State.each_later)
    | (with_reducible apply State.onlyIf_later)
    | (with_reducible apply State.foldl_later)
    | (intro x k hx)
    | (intro x hx)
    | split

theorem State.joinRefused_later {z0 s : State} (hz : Later z0 s) (addr : Nat) (why : Nat) : Later z0 (State.joinRefused s addr why) := by
  unfold State.joinRefused
  try dsimp only
  repeat' first
    | (with_reducible assumption)
    | (with_reducible apply State.put_later)
    | (with_reducible apply State.raise2_later)

theorem execJoinreq_later (eui : BitVec 64) (relay : Option (Fin 63)) (cost : Nat) (collided : Bool) (s : State) : Runs s (execJoinreq eui relay cost collided s) := by
  unfold execJoinreq
  try dsimp only
  repeat' first
    | (with_reducible assumption)
    | (with_reducible exact Later.refl _)
    | (with_reducible apply Runs.next)
    | (with_reducible apply State.joinRefused_later)
    | (with_reducible apply State.route_later)
    | (with_reducible apply State.refuseStream_later)
    | (with_reducible apply State.bindStream_later)
    | (with_reducible apply State.put_later)
    | (with_reducible apply State.setAnode_later)
    | (with_reducible apply State.sendRoutes_later)
    | (with_reducible apply State.setAlk_later)
    | (with_reducible apply State.broadcast_later)
    | (with_reducible apply State.each_later)
    | (with_reducible apply State.onlyIf_later)
    | (with_reducible apply State.foldl_later)
    | (intro x k hx)
    | (intro x hx)
    | split

theorem execNodeConfirmTimeout_later (n : Fin 63) (s : State) : Runs s (execNodeConfirmTimeout n s) := by
  unfold execNodeConfirmTimeout
  try dsimp only
  repeat' first
    | (with_reducible assumption)
    | (with_reducible exact Later.refl _)
    | (with_reducible apply Runs.next)
    | (with_reducible apply State.moveTo_later)
    | (with_reducible apply State.setAnode_later)
    | (with_reducible apply State.putFlag_later)
    | (with_reducible apply State.raise2_later)
    | (with_reducible apply State.each_later)
    | (with_reducible apply State.onlyIf_later)
    | (with_reducible apply State.foldl_later)
    | (intro x k hx)
    | (intro x hx)
    | split

theorem State.dropNode_later {z0 s : State} (hz : Later z0 s) (n : Nat) : Later z0 (State.dropNode s n) := by
  unfold State.dropNode
  try dsimp only
  repeat' first
    | (with_reducible assumption)
    | (with_reducible apply State.endStream_later)
    | (with_reducible apply State.clearUnit_later)
    | (with_reducible apply State.setAlk_later)

theorem State.forgetNode_later {z0 s : State} (hz : Later z0 s) (n : Nat) : Later z0 (State.forgetNode s n) := by
  unfold State.forgetNode
  try dsimp only
  repeat' first
    | (with_reducible assumption)
    | (with_reducible apply State.dropNode_later)
    | (with_reducible apply State.setAnode_later)

theorem State.alkSwitch_later {z0 s : State} (hz : Later z0 s) : Later z0 (State.alkSwitch s) := by
  unfold State.alkSwitch
  try dsimp only
  repeat' first
    | (with_reducible assumption)
    | (with_reducible apply State.putFlag_later)
    | (with_reducible apply State.admitStream_later)
    | (with_reducible apply State.endStream_later)
    | (with_reducible apply State.setAlk_later)
    | (with_reducible apply State.each_later)
    | (with_reducible apply State.onlyIf_later)
    | (with_reducible apply State.foldl_later)
    | (intro x k hx)
    | (intro x hx)
    | split

theorem State.alkRestart_later {z0 s : State} (hz : Later z0 s) (why : Nat) : Later z0 (State.alkRestart s why) := by
  unfold State.alkRestart
  try dsimp only
  repeat' first
    | (with_reducible assumption)
    | (with_reducible apply State.forgetNode_later)
    | (with_reducible apply State.setAlk_later)
    | (with_reducible apply State.alkSwitch_later)
    | (with_reducible apply State.raise_later)
    | (with_reducible apply State.each_later)
    | (with_reducible apply State.onlyIf_later)
    | (with_reducible apply State.foldl_later)
    | (intro x k hx)

theorem execRestart_later (s : State) : Runs s (execRestart s) := by
  unfold execRestart
  try dsimp only
  repeat' first
    | (with_reducible assumption)
    | (with_reducible exact Later.refl _)
    | (with_reducible apply Runs.next)
    | (with_reducible apply State.alkRestart_later)

theorem State.writeRun_later {z0 s : State} (hz : Later z0 s) (on : Bool) : Later z0 (State.writeRun s on) := by
  unfold State.writeRun
  try dsimp only
  repeat' first
    | (with_reducible assumption)
    | (with_reducible apply State.putFlag_later)
    | (with_reducible apply State.alkSwitch_later)

theorem State.alkPlan_later {z0 s : State} (hz : Later z0 s) (cold : Bool) : Later z0 (State.alkPlan s cold) := by
  unfold State.alkPlan
  try dsimp only
  repeat' first
    | (with_reducible assumption)
    | (with_reducible apply State.put_later)
    | (with_reducible apply State.dropNode_later)
    | (with_reducible apply State.each_later)
    | (with_reducible apply State.onlyIf_later)
    | (with_reducible apply State.foldl_later)
    | (intro x k hx)
    | (intro x hx)
    | split

theorem State.alkPowerFail_later {z0 s : State} (hz : Later z0 s) : Later z0 (State.alkPowerFail s) := by
  unfold State.alkPowerFail
  try dsimp only
  repeat' first
    | (with_reducible assumption)
    | (with_reducible apply State.setAlk_later)

theorem State.queueDown_later {z0 s : State} (hz : Later z0 s) (n : Nat) (m : List Nat) : Later z0 (State.queueDown s n m).2 := by
  unfold State.queueDown
  try dsimp only
  repeat' first
    | (with_reducible assumption)
    | (with_reducible apply State.setAnode_later)
    | (with_reducible apply State.put_later)
    | (with_reducible apply State.raise2_later)
    | (with_reducible apply State.each_later)
    | (with_reducible apply State.onlyIf_later)
    | (with_reducible apply State.foldl_later)
    | (intro x k hx)
    | (intro x hx)
    | split

end Sys2Proof.Machine
end

