-- ==== Sys2Proof/Laws/LaterFifo.lean ====
section
/-! SUPPORT. Every operation and every command of the HPU leads to a later state (Laws/Later.lean). -/

namespace Sys2Proof.Machine

open Sys2Proof

theorem State.setHpu_later {z0 s : State} (hz : Later z0 s) (v : Hpu) (hu : s.hpu.up.length ≤ 65536 → v.up.length ≤ 65536)
    (hd : s.hpu.down.length ≤ 16384 → v.down.length ≤ 16384) : Later z0 (s.setHpu v) :=
  hz.trans ⟨rfl, Nat.le_refl _, Nat.le_refl _, List.prefix_refl _, id, id, fun _ x => x, id, hu, hd⟩

theorem State.showFifo_later {z0 s : State} (hz : Later z0 s) : Later z0 (State.showFifo s) := by
  unfold State.showFifo
  try dsimp only
  repeat' first
    | (with_reducible assumption)
    | (with_reducible apply State.setHpu_later)
    | (with_reducible apply State.put_later)
    | (with_reducible apply State.each_later)
    | (with_reducible apply State.onlyIf_later)
    | (with_reducible apply State.foldl_later)
    | exact fun h => h

theorem State.flushUp_later {z0 s : State} (hz : Later z0 s) : Later z0 s.flushUp := by
  have h : ∀ (now : Nat) (l : List WaitingFrame) (up : List Nat) (m : List (Nat × Nat)),
      up.length ≤ 65536 → (flushFrames now l up m).2.1.length ≤ 65536 := by
    intro now l
    induction l with
    | nil => exact fun _ _ h => h
    | cons w l ih =>
      intro up m hu
      unfold flushFrames
      dsimp only
      split
      · exact ih _ _ (by rw [List.length_append]; assumption)
      · exact hu
  exact State.showFifo_later (State.setHpu_later hz _ (h _ _ _ _) id)

theorem State.sendFrame_later {z0 s : State} (hz : Later z0 s) (p : Nat) (type : Nat) (payload : List Nat) : Later z0 (State.sendFrame s p type payload) := by
  unfold State.sendFrame
  try dsimp only
  repeat' first
    | (with_reducible assumption)
    | (with_reducible apply State.setHpu_later)
    | (with_reducible apply State.flushUp_later)
    | (with_reducible apply State.each_later)
    | (with_reducible apply State.onlyIf_later)
    | (with_reducible apply State.foldl_later)
    | exact fun h => h
    | exact fun _ => Nat.zero_le _
    | (intro x k hx)
    | (intro x hx)
    | split

theorem State.answerHost_later {z0 s : State} (hz : Later z0 s) (p : Nat) (seq : Nat) (type : Nat) (payload : List Nat) : Later z0 (State.answerHost s p seq type payload) := by
  unfold State.answerHost
  try dsimp only
  repeat' first
    | (with_reducible assumption)
    | (with_reducible apply State.sendFrame_later)

theorem State.takeFrame_later {z0 s : State} (hz : Later z0 s) (p len : Nat) : Later z0 (State.takeFrame s p len) := by
  unfold State.takeFrame
  split
  · refine State.showFifo_later (State.setHpu_later hz _ id fun h => ?_)
    dsimp only
    rw [List.length_drop]
    omega
  · exact hz

theorem State.fifoReset_later {z0 s : State} (hz : Later z0 s) (up : Bool) (why : Nat) : Later z0 (State.fifoReset s up why) := by
  unfold State.fifoReset
  try dsimp only
  repeat' first
    | (with_reducible assumption)
    | (with_reducible apply State.setHpu_later)
    | (with_reducible apply State.put_later)
    | (with_reducible apply State.count_later)
    | (with_reducible apply State.raise2_later)
    | (with_reducible apply State.flushUp_later)
    | (with_reducible apply State.each_later)
    | (with_reducible apply State.onlyIf_later)
    | (with_reducible apply State.foldl_later)
    | exact fun h => h
    | exact fun _ => Nat.zero_le _
    | (intro x k hx)
    | (intro x hx)
    | split

theorem execDnrst_later (s : State) : Runs s (execDnrst s) := by
  unfold execDnrst
  try dsimp only
  repeat' first
    | (with_reducible assumption)
    | (with_reducible exact Later.refl _)
    | (with_reducible apply Runs.next)
    | (with_reducible apply State.fifoReset_later)

theorem execUprst_later (s : State) : Runs s (execUprst s) := by
  unfold execUprst
  try dsimp only
  repeat' first
    | (with_reducible assumption)
    | (with_reducible exact Later.refl _)
    | (with_reducible apply Runs.next)
    | (with_reducible apply State.fifoReset_later)

theorem execFifoPointerMismatch_later (up : Bool) (copies : List (Nat × Nat)) (s : State) : Runs s (execFifoPointerMismatch up copies s) := by
  unfold execFifoPointerMismatch
  try dsimp only
  repeat' first
    | (with_reducible assumption)
    | (with_reducible exact Later.refl _)
    | (with_reducible apply Runs.next)
    | (with_reducible apply State.fifoReset_later)
    | (with_reducible apply State.each_later)
    | (with_reducible apply State.onlyIf_later)
    | (with_reducible apply State.foldl_later)
    | (intro x k hx)
    | (intro x hx)
    | split

theorem State.spiFrame_later {z0 s : State} (hz : Later z0 s) : Later z0 (State.spiFrame s) := by
  unfold State.spiFrame
  try dsimp only
  repeat' first
    | (with_reducible assumption)
    | (with_reducible apply State.apply_later)
    | (with_reducible apply State.setHpu_later)
    | (with_reducible apply State.each_later)
    | (with_reducible apply State.onlyIf_later)
    | (with_reducible apply State.foldl_later)
    | exact fun h => h

theorem execStatus_later (s : State) : Runs s (execStatus s) := by
  unfold execStatus
  try dsimp only
  repeat' first
    | (with_reducible assumption)
    | (with_reducible exact Later.refl _)
    | (with_reducible apply Runs.next)
    | (with_reducible apply State.spiFrame_later)
    | (with_reducible apply State.setHpu_later)
    | (with_reducible apply State.each_later)
    | (with_reducible apply State.onlyIf_later)
    | (with_reducible apply State.foldl_later)
    | exact fun h => h
    | exact fun _ => Nat.zero_le _
    | (intro x k hx)
    | (intro x hx)
    | split

theorem execUnknownSpiCommand_later (cmd : BitVec 8) (s : State) : Runs s (execUnknownSpiCommand cmd s) := by
  unfold execUnknownSpiCommand
  try dsimp only
  repeat' first
    | (with_reducible assumption)
    | (with_reducible exact Later.refl _)
    | (with_reducible apply Runs.next)
    | (with_reducible apply State.spiFrame_later)
    | (with_reducible apply State.put_later)
    | (with_reducible apply State.each_later)
    | (with_reducible apply State.onlyIf_later)
    | (with_reducible apply State.foldl_later)
    | (intro x k hx)
    | (intro x hx)
    | split

theorem execFifoRead_later (count : Nat) (s : State) : Runs s (execFifoRead count s) := by
  unfold execFifoRead
  have h := State.spiFrame_later (Later.refl s)
  split
  · exact Runs.next (Later.refl s)
  · split
    · exact Runs.next (State.setHpu_later h _ (fun h => h) fun h => h)
    · extract_lets avail out s1
      refine Runs.next (State.flushUp_later (State.setHpu_later h _ (fun hh => ?_) fun h => h))
      have e : s.spiFrame.hpu.up = s.hpu.up := rfl
      rw [e] at hh
      dsimp only
      rw [List.length_drop]
      omega

theorem execFifoWrite_later (bytes : List (BitVec 8)) (s : State) : Runs s (execFifoWrite bytes s) := by
  unfold execFifoWrite
  have h := State.spiFrame_later (Later.refl s)
  split
  · exact Runs.next (Later.refl s)
  · split
    · exact Runs.next h
    · extract_lets s1 room lost _ s2
      have h2 : Later s s2 := by
        have hl : (s1.hpu.down ++ (bytes.take room).map (·.toNat)).length ≤ s1.hpu.down.length + (16384 - s1.hpu.down.length) := by
          rw [List.length_append, List.length_map, List.length_take]
          omega
        refine State.showFifo_later (State.setHpu_later h _ (fun h => h) fun hh => ?_)
        exact Nat.le_trans hl (by have : s1.hpu.down.length ≤ 16384 := hh; omega)
      clear_value s2
      refine Runs.next ?_
      split
      · exact h2
      · refine State.raise2_later (State.setHpu_later (State.put_later h2 _ _ _) _ ?_ ?_) _ _ _ <;> exact fun h => h

theorem execUptoExpiry_later (s : State) : Runs s (execUptoExpiry s) := by
  unfold execUptoExpiry
  try dsimp only
  repeat' first
    | (with_reducible assumption)
    | (with_reducible exact Later.refl _)
    | (with_reducible apply Runs.next)
    | (with_reducible apply State.moveTo_later)
    | (with_reducible apply State.showFifo_later)
    | (with_reducible apply State.each_later)
    | (with_reducible apply State.onlyIf_later)
    | (with_reducible apply State.foldl_later)
    | (intro x k hx)
    | (intro x hx)
    | split

theorem execBadFrameHeader_later (p : Fin 5) (s : State) : Runs s (execBadFrameHeader p s) := by
  have hl : ∀ l : List Nat, (scanHeader l).length ≤ l.length := by
    intro l
    induction l with
    | nil => exact Nat.le_refl _
    | cons b l ih =>
      unfold scanHeader
      split
      · exact Nat.le_refl _
      · exact Nat.le_succ_of_le ih
  unfold execBadFrameHeader
  split
  · exact Runs.next (Later.refl s)
  · extract_lets _ s1
    have h1 : Later s s1 := by
      dsimp only [s1]
      split
      · refine State.showFifo_later (State.setHpu_later (Later.refl s) _ (fun h => h) fun hh => ?_)
        have := hl (s.hpu.down.drop 1)
        rw [List.length_drop] at this
        dsimp only
        omega
      · exact Later.refl s
    clear_value s1
    exact Runs.next (State.raise2_later (State.put_later h1 _ _ _) _ _ _)

theorem execUnknownFrameType_later (p : Fin 5) (seq : BitVec 32) (type : BitVec 8) (payload : List (BitVec 8)) (s : State) : Runs s (execUnknownFrameType p seq type payload s) := by
  unfold execUnknownFrameType
  try dsimp only
  repeat' first
    | (with_reducible assumption)
    | (with_reducible exact Later.refl _)
    | (with_reducible apply Runs.next)
    | (with_reducible apply State.takeFrame_later)
    | (with_reducible apply State.sendFrame_later)
    | (with_reducible apply State.each_later)
    | (with_reducible apply State.onlyIf_later)
    | (with_reducible apply State.foldl_later)
    | (intro x k hx)
    | (intro x hx)
    | split

theorem State.frameDropped_later {z0 s : State} (hz : Later z0 s) (p : Nat) (type : Nat) : Later z0 (State.frameDropped s p type) := by
  unfold State.frameDropped
  try dsimp only
  repeat' first
    | (with_reducible assumption)
    | (with_reducible apply State.put_later)
    | (with_reducible apply State.count_later)
    | (with_reducible apply State.raise2_later)

theorem execHostFrameDrop_later (p : Fin 5) (type : BitVec 8) (s : State) : Runs s (execHostFrameDrop p type s) := by
  unfold execHostFrameDrop
  try dsimp only
  repeat' first
    | (with_reducible assumption)
    | (with_reducible exact Later.refl _)
    | (with_reducible apply Runs.next)
    | (with_reducible apply State.moveTo_later)
    | (with_reducible apply State.setHpu_later)
    | (with_reducible apply State.frameDropped_later)
    | (with_reducible apply State.flushUp_later)
    | (with_reducible apply State.each_later)
    | (with_reducible apply State.onlyIf_later)
    | (with_reducible apply State.foldl_later)
    | exact fun h => h
    | exact fun _ => Nat.zero_le _
    | (intro x k hx)
    | (intro x hx)
    | split

theorem execSubscribe_later (p : Fin 5) (seq : BitVec 32) (streams : BitVec 16) (n : BitVec 16) (s : State) : Runs s (execSubscribe p seq streams n s) := by
  unfold execSubscribe
  try dsimp only
  repeat' first
    | (with_reducible assumption)
    | (with_reducible exact Later.refl _)
    | (with_reducible apply Runs.next)
    | (with_reducible apply State.takeFrame_later)
    | (with_reducible apply State.answerHost_later)
    | (with_reducible apply State.setHpu_later)
    | (with_reducible apply State.each_later)
    | (with_reducible apply State.onlyIf_later)
    | (with_reducible apply State.foldl_later)
    | exact fun h => h
    | exact fun _ => Nat.zero_le _
    | (intro x k hx)
    | (intro x hx)
    | split

theorem State.setSub_later {z0 s : State} (hz : Later z0 s) (p : Nat) (v : Sub) : Later z0 (State.setSub s p v) := by
  unfold State.setSub
  try dsimp only
  repeat' first
    | (with_reducible assumption)
    | (with_reducible apply State.setHpu_later)
    | (with_reducible apply State.each_later)
    | (with_reducible apply State.onlyIf_later)
    | (with_reducible apply State.foldl_later)
    | exact fun h => h

theorem State.deliver_later {z0 s : State} (hz : Later z0 s) : Later z0 (State.deliver s) := by
  unfold State.deliver
  try dsimp only
  repeat' first
    | (with_reducible assumption)
    | (with_reducible apply State.take_later)
    | (with_reducible apply State.setSub_later)
    | (with_reducible apply State.sendFrame_later)
    | (with_reducible apply State.setAnode_later)
    | (with_reducible apply State.each_later)
    | (with_reducible apply State.onlyIf_later)
    | (with_reducible apply State.foldl_later)
    | (intro x k hx)
    | (intro x hx)
    | split
    | (with_reducible refine Later.built ?_ ?_ ?_ ?_; rotate_left; exact rfl; exact rfl; exact rfl)

theorem execLedger_later (p : Fin 5) (seq : BitVec 32) (region : BitVec 8) (first : BitVec 64) (count : BitVec 32) (s : State) : Runs s (execLedger p seq region first count s) := by
  unfold execLedger
  try dsimp only
  repeat' first
    | (with_reducible assumption)
    | (with_reducible exact Later.refl _)
    | (with_reducible apply Runs.next)
    | (with_reducible apply State.takeFrame_later)
    | (with_reducible apply State.answerHost_later)
    | (with_reducible apply State.each_later)
    | (with_reducible apply State.onlyIf_later)
    | (with_reducible apply State.foldl_later)
    | (intro x k hx)
    | (intro x hx)
    | split

theorem execAfril_later (p : Fin 5) (seq : BitVec 32) (node : BitVec 8) (message : List (BitVec 8)) (s : State) : Runs s (execAfril p seq node message s) := by
  unfold execAfril
  try dsimp only
  repeat' first
    | (with_reducible assumption)
    | (with_reducible exact Later.refl _)
    | (with_reducible apply Runs.next)
    | (with_reducible apply State.takeFrame_later)
    | (with_reducible apply State.answerHost_later)
    | (with_reducible apply State.queueDown_later)
    | (with_reducible apply State.each_later)
    | (with_reducible apply State.onlyIf_later)
    | (with_reducible apply State.foldl_later)
    | (intro x k hx)
    | (intro x hx)
    | (with_reducible refine Later.snd ?_ (by assumption))
    | split

theorem execHmiSessionOpen_later (p : Fin 4) (alert : Option (BitVec 8)) (s : State) : Runs s (execHmiSessionOpen p alert s) := by
  unfold execHmiSessionOpen
  try dsimp only
  repeat' first
    | (with_reducible assumption)
    | (with_reducible exact Later.refl _)
    | (with_reducible apply Runs.next)
    | (with_reducible apply State.refuseStream_later)
    | (with_reducible apply State.raise_later)
    | (with_reducible apply State.bindStream_later)
    | (with_reducible apply State.draw_later)
    | (with_reducible apply State.endStream_later)
    | (with_reducible apply State.setHpu_later)
    | (with_reducible apply State.raise2_later)
    | (with_reducible apply State.each_later)
    | (with_reducible apply State.onlyIf_later)
    | (with_reducible apply State.foldl_later)
    | exact fun h => h
    | exact fun _ => Nat.zero_le _
    | (intro x k hx)
    | (intro x hx)
    | (with_reducible refine Later.snd ?_ (by assumption))
    | split

theorem State.closeHmi_later {z0 s : State} (hz : Later z0 s) (p : Nat) : Later z0 (State.closeHmi s p) := by
  unfold State.closeHmi
  try dsimp only
  repeat' first
    | (with_reducible assumption)
    | (with_reducible apply State.setHpu_later)
    | (with_reducible apply State.endStream_later)
    | (with_reducible apply State.raise2_later)
    | (with_reducible apply State.each_later)
    | (with_reducible apply State.onlyIf_later)
    | (with_reducible apply State.foldl_later)
    | exact fun h => h
    | exact fun _ => Nat.zero_le _
    | (intro x k hx)
    | (intro x hx)
    | split

theorem execHmiSessionClose_later (p : Fin 4) (s : State) : Runs s (execHmiSessionClose p s) := by
  unfold execHmiSessionClose
  try dsimp only
  repeat' first
    | (with_reducible assumption)
    | (with_reducible exact Later.refl _)
    | (with_reducible apply Runs.next)
    | (with_reducible apply State.closeHmi_later)

theorem State.hpuWarm_later {z0 s : State} (hz : Later z0 s) : Later z0 (State.hpuWarm s) := by
  unfold State.hpuWarm
  try dsimp only
  repeat' first
    | (with_reducible assumption)
    | (with_reducible apply State.closeHmi_later)
    | (with_reducible apply State.clearUnit_later)
    | (with_reducible apply State.setHpu_later)
    | (with_reducible apply State.fifoReset_later)
    | (with_reducible apply State.each_later)
    | (with_reducible apply State.onlyIf_later)
    | (with_reducible apply State.foldl_later)
    | exact fun h => h
    | exact fun _ => Nat.zero_le _
    | (intro x k hx)

theorem State.hpuReset_later {z0 s : State} (hz : Later z0 s) : Later z0 (State.hpuReset s) := by
  unfold State.hpuReset
  try dsimp only
  repeat' first
    | (with_reducible assumption)
    | (with_reducible apply State.hpuWarm_later)

end Sys2Proof.Machine
end

