-- ==== Sys2Proof/Laws/LaterKeys.lean ====
section
/-! SUPPORT. Every operation and every command of the SEC leads to a later state (Laws/Later.lean). -/

namespace Sys2Proof.Machine

open Sys2Proof

theorem State.showSlot_later {z0 s : State} (hz : Later z0 s) : Later z0 (State.showSlot s) := by
  unfold State.showSlot
  try dsimp only
  repeat' first
    | (with_reducible assumption)
    | (with_reducible apply State.put_later)

theorem State.dropShadow_later {z0 s : State} (hz : Later z0 s) (k : Nat) (why : Nat) : Later z0 (State.dropShadow s k why) := by
  unfold State.dropShadow
  try dsimp only
  repeat' first
    | (with_reducible assumption)
    | (with_reducible apply State.setSlot_later)
    | (with_reducible apply State.raise2_later)
    | (with_reducible apply State.each_later)
    | (with_reducible apply State.onlyIf_later)
    | (with_reducible apply State.foldl_later)
    | (intro x k hx)
    | (intro x hx)
    | split

theorem State.writeShadow_later {z0 s : State} (hz : Later z0 s) (k : Nat) (t : Nat) (gen : Bool) (pub : List Nat) (shares : KeyShares) (cert : Nat) (testOk : Bool) : Later z0 (State.writeShadow s k t gen pub shares cert testOk) := by
  unfold State.writeShadow
  try dsimp only
  repeat' first
    | (with_reducible assumption)
    | (with_reducible apply State.dropShadow_later)
    | (with_reducible apply State.setSlot_later)
    | (with_reducible apply State.raise2_later)
    | (with_reducible apply State.each_later)
    | (with_reducible apply State.onlyIf_later)
    | (with_reducible apply State.foldl_later)
    | (intro x k hx)
    | (intro x hx)
    | split

theorem State.newKey_later {z0 s : State} (hz : Later z0 s) (t : Nat) : Later z0 (State.newKey s t).2 := by
  unfold State.newKey
  try dsimp only
  repeat' first
    | (with_reducible assumption)
    | (with_reducible apply State.randomBits_later)

theorem State.flipSlot_later {z0 s : State} (hz : Later z0 s) (k : Nat) (sealed : Bool) : Later z0 (State.flipSlot s k sealed) := by
  unfold State.flipSlot
  try dsimp only
  repeat' first
    | (with_reducible assumption)
    | (with_reducible apply State.setSlot_later)
    | (with_reducible apply State.raise2_later)

theorem execFirmwareKeyGen_later (slot : Fin 128) (ktype : Fin 16) (testOk : Bool) (s : State) : Runs s (execFirmwareKeyGen slot ktype testOk s) := by
  unfold execFirmwareKeyGen
  try dsimp only
  repeat' first
    | (with_reducible assumption)
    | (with_reducible exact Later.refl _)
    | (with_reducible apply Runs.next)
    | (with_reducible apply State.newKey_later)
    | (with_reducible apply State.writeShadow_later)
    | (with_reducible apply State.each_later)
    | (with_reducible apply State.onlyIf_later)
    | (with_reducible apply State.foldl_later)
    | (intro x k hx)
    | (intro x hx)
    | (with_reducible refine Later.snd ?_ (by assumption))
    | split
    | (with_reducible refine Later.built ?_ ?_ ?_ ?_; rotate_left; exact rfl; exact rfl; exact rfl)

theorem execFirmwareKeyCommit_later (slot : Fin 128) (subject : List (BitVec 8)) (chain : CertChain) (s : State) : Runs s (execFirmwareKeyCommit slot subject chain s) := by
  unfold execFirmwareKeyCommit
  try dsimp only
  repeat' first
    | (with_reducible assumption)
    | (with_reducible exact Later.refl _)
    | (with_reducible apply Runs.next)
    | (with_reducible apply State.flipSlot_later)
    | (with_reducible apply State.request_later)
    | (with_reducible apply State.each_later)
    | (with_reducible apply State.onlyIf_later)
    | (with_reducible apply State.foldl_later)
    | (intro x k hx)
    | (intro x hx)
    | split

theorem execCryptoOperationDone_later (slot : Fin 128) (use : Fin 4) (error : BitVec 8) (queued : Fin 65) (s : State) : Runs s (execCryptoOperationDone slot use error queued s) := by
  unfold execCryptoOperationDone
  try dsimp only
  repeat' first
    | (with_reducible assumption)
    | (with_reducible exact Later.refl _)
    | (with_reducible apply Runs.next)
    | (with_reducible apply State.put_later)
    | (with_reducible apply State.count_later)
    | (with_reducible apply State.setSec_later)
    | (with_reducible apply State.sealNext_later)
    | (with_reducible apply State.each_later)
    | (with_reducible apply State.onlyIf_later)
    | (with_reducible apply State.foldl_later)
    | (intro x k hx)
    | (intro x hx)
    | split

theorem State.remaskSlot_later {z0 s : State} (hz : Later z0 s) (k : Nat) : Later z0 (State.remaskSlot s k) := by
  unfold State.remaskSlot
  try dsimp only
  repeat' first
    | (with_reducible assumption)
    | (with_reducible apply State.randomBits_later)
    | (with_reducible apply State.setSlot_later)
    | (with_reducible apply State.each_later)
    | (with_reducible apply State.onlyIf_later)
    | (with_reducible apply State.foldl_later)
    | (intro x k hx)
    | (intro x hx)
    | (with_reducible refine Later.snd ?_ (by assumption))
    | split

theorem execRemaskPass_later (seconds : Nat) (s : State) : Runs s (execRemaskPass seconds s) := by
  unfold execRemaskPass
  try dsimp only
  repeat' first
    | (with_reducible assumption)
    | (with_reducible exact Later.refl _)
    | (with_reducible apply Runs.next)
    | (with_reducible apply State.moveTo_later)
    | (with_reducible apply State.setSec_later)
    | (with_reducible apply State.remaskSlot_later)
    | (with_reducible apply State.put_later)
    | (with_reducible apply State.raise_later)
    | (with_reducible apply State.each_later)
    | (with_reducible apply State.onlyIf_later)
    | (with_reducible apply State.foldl_later)
    | (intro x k hx)
    | (intro x hx)
    | split

theorem execDrbgReseed_later (s : State) : Runs s (execDrbgReseed s) := by
  unfold execDrbgReseed
  try dsimp only
  repeat' first
    | (with_reducible assumption)
    | (with_reducible exact Later.refl _)
    | (with_reducible apply Runs.next)
    | (with_reducible apply State.moveTo_later)
    | (with_reducible apply State.setSec_later)
    | (with_reducible apply State.each_later)
    | (with_reducible apply State.onlyIf_later)
    | (with_reducible apply State.foldl_later)
    | (intro x k hx)
    | (intro x hx)
    | split

theorem execEntropyTestFailure_later (adaptive : Bool) (s : State) : Runs s (execEntropyTestFailure adaptive s) := by
  unfold execEntropyTestFailure
  try dsimp only
  repeat' first
    | (with_reducible assumption)
    | (with_reducible exact Later.refl _)
    | (with_reducible apply Runs.next)
    | (with_reducible apply State.putFlag_later)
    | (with_reducible apply State.raise_later)

theorem State.secStart_later {z0 s : State} (hz : Later z0 s) (failedRow : Nat) : Later z0 (State.secStart s failedRow) := by
  unfold State.secStart
  try dsimp only
  repeat' first
    | (with_reducible assumption)
    | (with_reducible apply State.putFlag_later)
    | (with_reducible apply State.raise_later)
    | (with_reducible apply State.each_later)
    | (with_reducible apply State.onlyIf_later)
    | (with_reducible apply State.foldl_later)
    | (intro x k hx)
    | (intro x hx)

end Sys2Proof.Machine
end

