-- ==== Sys2Proof/Laws/LaterPilot.lean ====
section
/-! SUPPORT. Every operation and every command of the pilots leads to a later state (Laws/Later.lean). -/

namespace Sys2Proof.Machine

open Sys2Proof

theorem State.trackIdle_later {z0 s : State} (hz : Later z0 s) : Later z0 (State.trackIdle s) := by
  unfold State.trackIdle
  try dsimp only
  repeat' first
    | (with_reducible assumption)
    | (with_reducible apply State.each_later)
    | (with_reducible apply State.onlyIf_later)
    | (with_reducible apply State.foldl_later)
    | (intro x k hx)
    | (intro x hx)
    | split
    | (with_reducible refine Later.built ?_ ?_ ?_ ?_; rotate_left; exact rfl; exact rfl; exact rfl)

theorem State.withPilot_later {z0 s : State} (hz : Later z0 s) (n : Nat) (f : State → State) (hf : ∀ x, Later z0 x → Later z0 (f x)) : Later z0 (State.withPilot s n f) := by
  unfold State.withPilot
  extract_lets old s1
  have h1 : Later z0 s1 := hf s hz
  clear_value s1
  split
  · exact h1
  · exact State.trackIdle_later (State.vcePilot_later (State.efuPilot_later h1 _ _) _)

theorem execPilotPeriodBoundary_later (n : Fin 24) (s : State) : Runs s (execPilotPeriodBoundary n s) := by
  unfold execPilotPeriodBoundary
  try dsimp only
  repeat' first
    | (with_reducible assumption)
    | (with_reducible exact Later.refl _)
    | (with_reducible apply Runs.next)
    | (with_reducible apply State.withPilot_later)
    | (with_reducible apply State.pilotPeriod_later)
    | (with_reducible apply State.each_later)
    | (with_reducible apply State.onlyIf_later)
    | (with_reducible apply State.foldl_later)
    | (intro x k hx)
    | (intro x hx)

theorem State.pilotHigh_later {z0 s : State} (hz : Later z0 s) (n : Nat) (vhi : Int) : Later z0 (State.pilotHigh s n vhi) := by
  unfold State.pilotHigh
  try dsimp only
  repeat' first
    | (with_reducible assumption)
    | (with_reducible apply State.takeVhi_later)
    | (with_reducible apply State.runStep_later)
    | (with_reducible apply State.confirm_later)
    | (with_reducible apply State.each_later)
    | (with_reducible apply State.onlyIf_later)
    | (with_reducible apply State.foldl_later)
    | (intro x k hx)
    | (intro x hx)
    | split

theorem execPilotSample_later (n : Fin 24) (vhi : Int) (vlo : Option Int) (s : State) : Runs s (execPilotSample n vhi vlo s) := by
  unfold execPilotSample
  try dsimp only
  repeat' first
    | (with_reducible assumption)
    | (with_reducible exact Later.refl _)
    | (with_reducible apply Runs.next)
    | (with_reducible apply State.moveTo_later)
    | (with_reducible apply State.setOiu_later)
    | (with_reducible apply State.withPilot_later)
    | (with_reducible apply State.pilotHigh_later)
    | (with_reducible apply State.takeLow_later)
    | (with_reducible apply State.each_later)
    | (with_reducible apply State.onlyIf_later)
    | (with_reducible apply State.foldl_later)
    | (intro x k hx)
    | (intro x hx)

theorem execPilotStateConfirm_later (n : Fin 24) (vhi : Int) (s : State) : Runs s (execPilotStateConfirm n vhi s) := by
  unfold execPilotStateConfirm
  try dsimp only
  repeat' first
    | (with_reducible assumption)
    | (with_reducible exact Later.refl _)
    | (with_reducible apply Runs.next)
    | (with_reducible apply State.withPilot_later)
    | (with_reducible apply State.put_later)
    | (with_reducible apply State.confirm_later)
    | (with_reducible apply State.each_later)
    | (with_reducible apply State.onlyIf_later)
    | (with_reducible apply State.foldl_later)
    | (intro x k hx)
    | (intro x hx)
    | split

theorem execLowLevelClassConfirm_later (n : Fin 24) (vlo : Int) (s : State) : Runs s (execLowLevelClassConfirm n vlo s) := by
  unfold execLowLevelClassConfirm
  try dsimp only
  repeat' first
    | (with_reducible assumption)
    | (with_reducible exact Later.refl _)
    | (with_reducible apply Runs.next)
    | (with_reducible apply State.withPilot_later)
    | (with_reducible apply State.put_later)
    | (with_reducible apply State.confirmLow_later)
    | (with_reducible apply State.each_later)
    | (with_reducible apply State.onlyIf_later)
    | (with_reducible apply State.foldl_later)
    | (intro x k hx)
    | (intro x hx)
    | split

theorem execPpBandConfirm_later (n : Fin 24) (ohm : Nat) (s : State) : Runs s (execPpBandConfirm n ohm s) := by
  unfold execPpBandConfirm
  try dsimp only
  repeat' first
    | (with_reducible assumption)
    | (with_reducible exact Later.refl _)
    | (with_reducible apply Runs.next)
    | (with_reducible apply State.confirmBand_later)
    | (with_reducible apply State.vceBand_later)

end Sys2Proof.Machine
end

