-- ==== Sys2Proof/Laws/LaterPitch.lean ====
section
/-! SUPPORT. Every operation and every command of the PPL leads to a later state (Laws/Later.lean). -/

namespace Sys2Proof.Machine

open Sys2Proof

theorem State.setPpl_later {z0 s : State} (hz : Later z0 s) (v : Ppl) : Later z0 (State.setPpl s v) := by
  unfold State.setPpl
  try dsimp only
  repeat' first
    | (with_reducible assumption)
    | (with_reducible apply State.each_later)
    | (with_reducible apply State.onlyIf_later)
    | (with_reducible apply State.foldl_later)
    | (intro x k hx)
    | (intro x hx)
    | split
    | (with_reducible refine Later.built ?_ ?_ ?_ ?_; rotate_left; exact rfl; exact rfl; exact rfl)

theorem State.showPpl_later {z0 s : State} (hz : Later z0 s) : Later z0 (State.showPpl s) := by
  unfold State.showPpl
  try dsimp only
  repeat' first
    | (with_reducible assumption)
    | (with_reducible apply State.put_later)
    | (with_reducible apply State.each_later)
    | (with_reducible apply State.onlyIf_later)
    | (with_reducible apply State.foldl_later)
    | (intro x k hx)

theorem State.showStaged_later {z0 s : State} (hz : Later z0 s) : Later z0 (State.showStaged s) := by
  unfold State.showStaged
  try dsimp only
  repeat' first
    | (with_reducible assumption)
    | (with_reducible apply State.put_later)
    | (with_reducible apply State.showPpl_later)

theorem State.disarm_later {z0 s : State} (hz : Later z0 s) : Later z0 (State.disarm s) := by
  unfold State.disarm
  try dsimp only
  repeat' first
    | (with_reducible assumption)
    | (with_reducible apply State.setPpl_later)
    | (with_reducible apply State.request_later)
    | (with_reducible apply State.raise2_later)
    | (with_reducible apply State.each_later)
    | (with_reducible apply State.onlyIf_later)
    | (with_reducible apply State.foldl_later)
    | (intro x k hx)
    | (intro x hx)
    | split

theorem State.discardStaged_later {z0 s : State} (hz : Later z0 s) (event : Bool) : Later z0 (State.discardStaged s event) := by
  unfold State.discardStaged
  try dsimp only
  repeat' first
    | (with_reducible assumption)
    | (with_reducible apply State.setPpl_later)
    | (with_reducible apply State.put_later)
    | (with_reducible apply State.disarm_later)
    | (with_reducible apply State.raise_later)
    | (with_reducible apply State.showStaged_later)
    | (with_reducible apply State.each_later)
    | (with_reducible apply State.onlyIf_later)
    | (with_reducible apply State.foldl_later)
    | (intro x k hx)
    | (intro x hx)
    | split

theorem State.rejectPlan_later {z0 s : State} (hz : Later z0 s) (reason : Nat) : Later z0 (State.rejectPlan s reason) := by
  unfold State.rejectPlan
  try dsimp only
  repeat' first
    | (with_reducible assumption)
    | (with_reducible apply State.put_later)
    | (with_reducible apply State.raise_later)

theorem State.stagePlan_later {z0 s : State} (hz : Later z0 s) (raw : List Nat) : Later z0 (State.stagePlan s raw) := by
  unfold State.stagePlan
  try dsimp only
  repeat' first
    | (with_reducible assumption)
    | (with_reducible apply State.discardStaged_later)
    | (with_reducible apply State.setPpl_later)
    | (with_reducible apply State.raise_later)
    | (with_reducible apply State.showStaged_later)

theorem State.showDelivery_later {z0 s : State} (hz : Later z0 s) : Later z0 (State.showDelivery s) := by
  unfold State.showDelivery
  try dsimp only
  repeat' first
    | (with_reducible assumption)
    | (with_reducible apply State.put_later)
    | (with_reducible apply State.each_later)
    | (with_reducible apply State.onlyIf_later)
    | (with_reducible apply State.foldl_later)
    | (intro x k hx)
    | (intro x hx)
    | split

theorem State.verifiedAgain_later {z0 s : State} (hz : Later z0 s) (raw : List Nat) : Later z0 (State.verifiedAgain s raw) := by
  unfold State.verifiedAgain
  try dsimp only
  repeat' first
    | (with_reducible assumption)
    | (with_reducible apply State.setPpl_later)
    | (with_reducible apply State.raise_later)
    | (with_reducible apply State.showStaged_later)
    | (with_reducible apply State.discardStaged_later)
    | (with_reducible apply State.rejectPlan_later)
    | (with_reducible apply State.showDelivery_later)
    | (with_reducible apply State.each_later)
    | (with_reducible apply State.onlyIf_later)
    | (with_reducible apply State.foldl_later)
    | (intro x k hx)
    | (intro x hx)
    | split

theorem execPlanVerifyDone_later (s : State) : Runs s (execPlanVerifyDone s) := by
  unfold execPlanVerifyDone
  try dsimp only
  repeat' first
    | (with_reducible assumption)
    | (with_reducible exact Later.refl _)
    | (with_reducible apply Runs.next)
    | (with_reducible apply State.verifiedAgain_later)
    | (with_reducible apply State.setPpl_later)
    | (with_reducible apply State.stagePlan_later)
    | (with_reducible apply State.rejectPlan_later)
    | (with_reducible apply State.each_later)
    | (with_reducible apply State.onlyIf_later)
    | (with_reducible apply State.foldl_later)
    | (intro x k hx)
    | (intro x hx)
    | split

theorem State.pplVerify_later {z0 s : State} (hz : Later z0 s) : Later z0 (State.pplVerify s) := by
  unfold State.pplVerify
  try dsimp only
  repeat' first
    | (with_reducible assumption)
    | (with_reducible apply State.setPpl_later)
    | (with_reducible apply State.put_later)
    | (with_reducible apply State.each_later)
    | (with_reducible apply State.onlyIf_later)
    | (with_reducible apply State.foldl_later)
    | (intro x k hx)
    | (intro x hx)
    | split

theorem execPplVerifyAgain_later (s : State) : Runs s (execPplVerifyAgain s) := by
  unfold execPplVerifyAgain
  try dsimp only
  repeat' first
    | (with_reducible assumption)
    | (with_reducible exact Later.refl _)
    | (with_reducible apply Runs.next)
    | (with_reducible apply State.pplVerify_later)

theorem State.pplDiscard_later {z0 s : State} (hz : Later z0 s) : Later z0 (State.pplDiscard s) := by
  unfold State.pplDiscard
  try dsimp only
  repeat' first
    | (with_reducible assumption)
    | (with_reducible apply State.discardStaged_later)

theorem execPplDiscard_later (s : State) : Runs s (execPplDiscard s) := by
  unfold execPplDiscard
  try dsimp only
  repeat' first
    | (with_reducible assumption)
    | (with_reducible exact Later.refl _)
    | (with_reducible apply Runs.next)
    | (with_reducible apply State.pplDiscard_later)

theorem State.efuAdmit_later {z0 s : State} (hz : Later z0 s) : Later z0 (State.efuAdmit s) := by
  unfold State.efuAdmit
  try dsimp only
  repeat' first
    | (with_reducible assumption)
    | (with_reducible apply State.endStream_later)
    | (with_reducible apply State.admitStream_later)
    | (with_reducible apply State.each_later)
    | (with_reducible apply State.onlyIf_later)
    | (with_reducible apply State.foldl_later)
    | (intro x k hx)

theorem State.swPlan_later {z0 s : State} (hz : Later z0 s) : Later z0 (State.swPlan s) := by
  unfold State.swPlan
  try dsimp only
  repeat' first
    | (with_reducible assumption)
    | (with_reducible apply State.put_later)
    | (with_reducible apply State.swPermit_later)
    | (with_reducible apply State.each_later)
    | (with_reducible apply State.onlyIf_later)
    | (with_reducible apply State.foldl_later)
    | (intro x k hx)

theorem State.installPlan_later {z0 s : State} (hz : Later z0 s) (old : Option Plan) (p : Plan) (cold : Bool) : Later z0 (State.installPlan s old p cold) := by
  unfold State.installPlan
  try dsimp only
  repeat' first
    | (with_reducible assumption)
    | (with_reducible apply State.bindSlices_later)
    | (with_reducible apply State.put_later)
    | (with_reducible apply State.swPlan_later)
    | (with_reducible apply State.efuAdmit_later)
    | (with_reducible apply State.meuBind_later)
    | (with_reducible apply State.efuBind_later)
    | (with_reducible apply State.ntuPlan_later)
    | (with_reducible apply State.alkPlan_later)
    | (with_reducible apply State.dsePlan_later)
    | (with_reducible apply State.contact_later)
    | (with_reducible apply State.trackIdle_later)
    | (with_reducible apply State.allocEpoch_later)
    | (with_reducible apply State.showPpl_later)
    | (with_reducible apply State.each_later)
    | (with_reducible apply State.onlyIf_later)
    | (with_reducible apply State.foldl_later)
    | (intro x k hx)
    | (intro x hx)
    | split
    | (with_reducible refine Later.built ?_ ?_ ?_ ?_; rotate_left; exact rfl; exact rfl; exact rfl)

theorem State.legalChange_later {z0 s : State} (hz : Later z0 s) (old : Option Plan) (p : Plan) : Later z0 (State.legalChange s old p) := by
  unfold State.legalChange
  try dsimp only
  repeat' first
    | (with_reducible assumption)
    | (with_reducible apply State.setPpl_later)
    | (with_reducible apply State.request_later)
    | (with_reducible apply State.raise_later)
    | (with_reducible apply State.each_later)
    | (with_reducible apply State.onlyIf_later)
    | (with_reducible apply State.foldl_later)
    | (intro x k hx)
    | (intro x hx)
    | split

theorem State.activateStaged_later {z0 s : State} (hz : Later z0 s) (cold : Bool) : Later z0 (State.activateStaged s cold) := by
  unfold State.activateStaged
  try dsimp only
  repeat' first
    | (with_reducible assumption)
    | (with_reducible apply State.setPpl_later)
    | (with_reducible apply State.put_later)
    | (with_reducible apply State.installPlan_later)
    | (with_reducible apply State.raise_later)
    | (with_reducible apply State.legalChange_later)
    | (with_reducible apply State.showStaged_later)
    | (with_reducible apply State.each_later)
    | (with_reducible apply State.onlyIf_later)
    | (with_reducible apply State.foldl_later)
    | (intro x k hx)
    | (intro x hx)
    | split

theorem State.arrange_later {z0 s : State} (hz : Later z0 s) : Later z0 (State.arrange s) := by
  unfold State.arrange
  try dsimp only
  repeat' first
    | (with_reducible assumption)
    | (with_reducible apply State.activateStaged_later)
    | (with_reducible apply State.setPpl_later)
    | (with_reducible apply State.withdraw_later)
    | (with_reducible apply State.put_later)
    | (with_reducible apply State.showStaged_later)
    | (with_reducible apply State.each_later)
    | (with_reducible apply State.onlyIf_later)
    | (with_reducible apply State.foldl_later)
    | (intro x k hx)
    | (intro x hx)
    | split

theorem State.pplActivate_later {z0 s : State} (hz : Later z0 s) : Later z0 (State.pplActivate s) := by
  unfold State.pplActivate
  try dsimp only
  repeat' first
    | (with_reducible assumption)
    | (with_reducible apply State.put_later)
    | (with_reducible apply State.raise_later)
    | (with_reducible apply State.arrange_later)
    | (with_reducible apply State.each_later)
    | (with_reducible apply State.onlyIf_later)
    | (with_reducible apply State.foldl_later)
    | (intro x k hx)
    | (intro x hx)
    | split

theorem execPplActivate_later (s : State) : Runs s (execPplActivate s) := by
  unfold execPplActivate
  try dsimp only
  repeat' first
    | (with_reducible assumption)
    | (with_reducible exact Later.refl _)
    | (with_reducible apply Runs.next)
    | (with_reducible apply State.pplActivate_later)

theorem State.activateAt_later {z0 s : State} (hz : Later z0 s) : Later z0 (State.activateAt s) := by
  unfold State.activateAt
  try dsimp only
  repeat' first
    | (with_reducible assumption)
    | (with_reducible apply State.moveTo_later)
    | (with_reducible apply State.activateStaged_later)
    | (with_reducible apply State.each_later)
    | (with_reducible apply State.onlyIf_later)
    | (with_reducible apply State.foldl_later)
    | (intro x k hx)
    | (intro x hx)
    | split

theorem execPlanActivation_later (s : State) : Runs s (execPlanActivation s) := by
  unfold execPlanActivation
  try dsimp only
  repeat' first
    | (with_reducible assumption)
    | (with_reducible exact Later.refl _)
    | (with_reducible apply Runs.next)
    | (with_reducible apply State.trackWait_later)
    | (with_reducible apply State.activateAt_later)
    | (with_reducible apply State.each_later)
    | (with_reducible apply State.onlyIf_later)
    | (with_reducible apply State.foldl_later)
    | (intro x k hx)
    | (intro x hx)
    | split

theorem execOutletsIdle_later (s : State) : Runs s (execOutletsIdle s) := by
  unfold execOutletsIdle
  try dsimp only
  repeat' first
    | (with_reducible assumption)
    | (with_reducible exact Later.refl _)
    | (with_reducible apply Runs.next)
    | (with_reducible apply State.trackWait_later)
    | (with_reducible apply State.activateAt_later)
    | (with_reducible apply State.each_later)
    | (with_reducible apply State.onlyIf_later)
    | (with_reducible apply State.foldl_later)
    | (intro x k hx)
    | (intro x hx)
    | split

theorem State.planChunk_later {z0 s : State} (hz : Later z0 s) (offset : Nat) (tot : Nat) (bytes : List Nat) : Later z0 (State.planChunk s offset tot bytes).2 := by
  unfold State.planChunk
  try dsimp only
  repeat' first
    | (with_reducible assumption)
    | (with_reducible apply State.setPpl_later)
    | (with_reducible apply State.showStaged_later)
    | (with_reducible apply State.put_later)
    | (with_reducible apply State.each_later)
    | (with_reducible apply State.onlyIf_later)
    | (with_reducible apply State.foldl_later)
    | (intro x k hx)
    | (intro x hx)
    | split

theorem State.showCold_later {z0 s : State} (hz : Later z0 s) (rejected : Bool) : Later z0 (State.showCold s rejected) := by
  unfold State.showCold
  try dsimp only
  repeat' first
    | (with_reducible assumption)
    | (with_reducible apply State.showPpl_later)
    | (with_reducible apply State.showStaged_later)
    | (with_reducible apply State.each_later)
    | (with_reducible apply State.onlyIf_later)
    | (with_reducible apply State.foldl_later)
    | (intro x k hx)
    | (intro x hx)
    | split

theorem State.activeCold_later {z0 s : State} (hz : Later z0 s) (rejected : Bool) : Later z0 (State.activeCold s rejected) := by
  unfold State.activeCold
  try dsimp only
  repeat' first
    | (with_reducible assumption)
    | (with_reducible apply State.showCold_later)
    | (with_reducible apply State.rejectPlan_later)
    | (with_reducible apply State.setPpl_later)
    | (with_reducible apply State.showPpl_later)
    | (with_reducible apply State.installPlan_later)
    | (with_reducible apply State.each_later)
    | (with_reducible apply State.onlyIf_later)
    | (with_reducible apply State.foldl_later)
    | (intro x k hx)
    | (intro x hx)
    | split
    | (with_reducible refine Later.built ?_ ?_ ?_ ?_; rotate_left; exact rfl; exact rfl; exact rfl)

theorem State.pplCold_later {z0 s : State} (hz : Later z0 s) (rejected : Bool) : Later z0 (State.pplCold s rejected) := by
  unfold State.pplCold
  try dsimp only
  repeat' first
    | (with_reducible assumption)
    | (with_reducible apply State.setPpl_later)
    | (with_reducible apply State.activeCold_later)
    | (with_reducible apply State.discardStaged_later)
    | (with_reducible apply State.rejectPlan_later)
    | (with_reducible apply State.trackWait_later)
    | (with_reducible apply State.activateStaged_later)
    | (with_reducible apply State.each_later)
    | (with_reducible apply State.onlyIf_later)
    | (with_reducible apply State.foldl_later)
    | (intro x k hx)
    | (intro x hx)
    | split

end Sys2Proof.Machine
end

