-- ==== Sys2Proof/Laws/LaterSealed.lean ====
section
/-! SUPPORT. Every operation and every command of the sealed commands leads to a later state (Laws/Later.lean). -/

namespace Sys2Proof.Machine

open Sys2Proof

theorem State.scPlanActivate_later {z0 s : State} (hz : Later z0 s) (keyId : Nat) (scSeq : Nat) (b : List Nat) : Ends z0 (State.scPlanActivate s keyId scSeq b) := by
  unfold State.scPlanActivate
  try dsimp only
  repeat' first
    | (with_reducible assumption)
    | (with_reducible exact Ends.error _)
    | (with_reducible apply Ends.ok)
    | (with_reducible apply State.disarm_later)
    | (with_reducible apply State.setPpl_later)
    | (with_reducible apply State.arrange_later)
    | (with_reducible apply State.each_later)
    | (with_reducible apply State.onlyIf_later)
    | (with_reducible apply State.foldl_later)
    | (intro x k hx)
    | (intro x hx)
    | split

theorem State.takeCalibration_later {z0 s : State} (hz : Later z0 s) (c : Nat × List Nat) : Later z0 (State.takeCalibration s c) := by
  unfold State.takeCalibration
  try dsimp only
  repeat' first
    | (with_reducible assumption)
    | (with_reducible apply State.put_later)
    | (with_reducible apply State.setChan_later)

theorem State.scMeuCalibrate_later {z0 s : State} (hz : Later z0 s) (b : List Nat) : Ends z0 (State.scMeuCalibrate s b) := by
  unfold State.scMeuCalibrate
  try dsimp only
  repeat' first
    | (with_reducible assumption)
    | (with_reducible exact Ends.error _)
    | (with_reducible apply Ends.ok)
    | (with_reducible apply State.catchUp_later)
    | (with_reducible apply State.takeCalibration_later)
    | (with_reducible apply State.showCal_later)
    | (with_reducible apply State.showShift_later)
    | (with_reducible apply State.count_later)
    | (with_reducible apply State.raise2_later)
    | (with_reducible apply State.each_later)
    | (with_reducible apply State.onlyIf_later)
    | (with_reducible apply State.foldl_later)
    | (intro x k hx)
    | (intro x hx)
    | split
    | (with_reducible refine Later.built ?_ ?_ ?_ ?_; rotate_left; exact rfl; exact rfl; exact rfl)

theorem State.scBluHwmReset_later {z0 s : State} (hz : Later z0 s) (b : List Nat) : Ends z0 (State.scBluHwmReset s b) := by
  unfold State.scBluHwmReset
  try dsimp only
  repeat' first
    | (with_reducible assumption)
    | (with_reducible exact Ends.error _)
    | (with_reducible apply Ends.ok)
    | (with_reducible apply State.put64_later)
    | (with_reducible apply State.put_later)
    | (with_reducible apply State.raise_later)
    | (with_reducible apply State.advanceH_later)
    | (with_reducible apply State.each_later)
    | (with_reducible apply State.onlyIf_later)
    | (with_reducible apply State.foldl_later)
    | (intro x k hx)
    | (intro x hx)
    | split

theorem State.scTamperConfig_later {z0 s : State} (hz : Later z0 s) (b : List Nat) : Ends z0 (State.scTamperConfig s b) := by
  unfold State.scTamperConfig
  try dsimp only
  repeat' first
    | (with_reducible assumption)
    | (with_reducible exact Ends.error _)
    | (with_reducible apply Ends.ok)
    | (with_reducible apply State.put_later)
    | (with_reducible apply State.each_later)
    | (with_reducible apply State.onlyIf_later)
    | (with_reducible apply State.foldl_later)
    | (intro x k hx)
    | (intro x hx)
    | split

theorem State.scSealAck_later {z0 s : State} (hz : Later z0 s) (b : List Nat) : Ends z0 (State.scSealAck s b) := by
  unfold State.scSealAck
  try dsimp only
  repeat' first
    | (with_reducible assumption)
    | (with_reducible exact Ends.error _)
    | (with_reducible apply Ends.ok)
    | (with_reducible apply State.put_later)
    | (with_reducible apply State.raise_later)
    | (with_reducible apply State.showFlags_later)
    | (with_reducible apply State.each_later)
    | (with_reducible apply State.onlyIf_later)
    | (with_reducible apply State.foldl_later)
    | (intro x k hx)
    | (intro x hx)
    | split

theorem State.scLgsRetention_later {z0 s : State} (hz : Later z0 s) (b : List Nat) : Ends z0 (State.scLgsRetention s b) := by
  unfold State.scLgsRetention
  try dsimp only
  repeat' first
    | (with_reducible assumption)
    | (with_reducible exact Ends.error _)
    | (with_reducible apply Ends.ok)
    | (with_reducible apply State.put_later)
    | (with_reducible apply State.showLgs_later)
    | (with_reducible apply State.each_later)
    | (with_reducible apply State.onlyIf_later)
    | (with_reducible apply State.foldl_later)
    | (intro x k hx)
    | (intro x hx)
    | split

theorem State.scLgsAck_later {z0 s : State} (hz : Later z0 s) (b : List Nat) : Ends z0 (State.scLgsAck s b) := by
  unfold State.scLgsAck
  try dsimp only
  repeat' first
    | (with_reducible assumption)
    | (with_reducible exact Ends.error _)
    | (with_reducible apply Ends.ok)
    | (with_reducible apply State.each_later)
    | (with_reducible apply State.onlyIf_later)
    | (with_reducible apply State.foldl_later)
    | (intro x k hx)
    | (intro x hx)
    | split

theorem State.scKeyGen_later {z0 s : State} (hz : Later z0 s) (b : List Nat) : Ends z0 (State.scKeyGen s b) := by
  unfold State.scKeyGen
  try dsimp only
  repeat' first
    | (with_reducible assumption)
    | (with_reducible exact Ends.error _)
    | (with_reducible apply Ends.ok)
    | (with_reducible apply State.newKey_later)
    | (with_reducible apply State.randomBits_later)
    | (with_reducible apply State.writeShadow_later)
    | (with_reducible apply State.each_later)
    | (with_reducible apply State.onlyIf_later)
    | (with_reducible apply State.foldl_later)
    | (intro x k hx)
    | (intro x hx)
    | (with_reducible refine Later.snd ?_ (by assumption))
    | split

theorem State.scKeyLoad_later {z0 s : State} (hz : Later z0 s) (scSeq : Nat) (b : List Nat) : Ends z0 (State.scKeyLoad s scSeq b) := by
  unfold State.scKeyLoad
  try dsimp only
  repeat' first
    | (with_reducible assumption)
    | (with_reducible exact Ends.error _)
    | (with_reducible apply Ends.ok)
    | (with_reducible apply State.take_later)
    | (with_reducible apply State.writeShadow_later)
    | (with_reducible apply State.each_later)
    | (with_reducible apply State.onlyIf_later)
    | (with_reducible apply State.foldl_later)
    | (intro x k hx)
    | (intro x hx)
    | split

theorem State.scKeyCommit_later {z0 s : State} (hz : Later z0 s) (scSeq : Nat) (b : List Nat) : Ends z0 (State.scKeyCommit s scSeq b) := by
  unfold State.scKeyCommit
  try dsimp only
  repeat' first
    | (with_reducible assumption)
    | (with_reducible exact Ends.error _)
    | (with_reducible apply Ends.ok)
    | (with_reducible apply State.flipSlot_later)
    | (with_reducible apply State.each_later)
    | (with_reducible apply State.onlyIf_later)
    | (with_reducible apply State.foldl_later)
    | (intro x k hx)
    | (intro x hx)
    | split

theorem State.scKeyAbort_later {z0 s : State} (hz : Later z0 s) (b : List Nat) : Ends z0 (State.scKeyAbort s b) := by
  unfold State.scKeyAbort
  try dsimp only
  repeat' first
    | (with_reducible assumption)
    | (with_reducible exact Ends.error _)
    | (with_reducible apply Ends.ok)
    | (with_reducible apply State.dropShadow_later)
    | (with_reducible apply State.each_later)
    | (with_reducible apply State.onlyIf_later)
    | (with_reducible apply State.foldl_later)
    | (intro x k hx)
    | (intro x hx)
    | split

theorem State.eraseSlot_later {z0 s : State} (hz : Later z0 s) (k : Nat) (why : Nat) : Later z0 (State.eraseSlot s k why) := by
  unfold State.eraseSlot
  try dsimp only
  repeat' first
    | (with_reducible assumption)
    | (with_reducible apply State.setSlot_later)
    | (with_reducible apply State.raise2_later)

theorem State.scKeyErase_later {z0 s : State} (hz : Later z0 s) (scSeq : Nat) (b : List Nat) : Ends z0 (State.scKeyErase s scSeq b) := by
  unfold State.scKeyErase
  try dsimp only
  repeat' first
    | (with_reducible assumption)
    | (with_reducible exact Ends.error _)
    | (with_reducible apply Ends.ok)
    | (with_reducible apply State.eraseSlot_later)
    | (with_reducible apply State.each_later)
    | (with_reducible apply State.onlyIf_later)
    | (with_reducible apply State.foldl_later)
    | (intro x k hx)
    | (intro x hx)
    | split

theorem State.commission_later {z0 s : State} (hz : Later z0 s) : Later z0 (State.commission s) := by
  unfold State.commission
  try dsimp only
  repeat' first
    | (with_reducible assumption)
    | (with_reducible apply State.put_later)
    | (with_reducible apply State.each_later)
    | (with_reducible apply State.onlyIf_later)
    | (with_reducible apply State.foldl_later)
    | (intro x k hx)
    | (intro x hx)
    | split
    | (with_reducible refine Later.built ?_ ?_ ?_ ?_; rotate_left; exact rfl; exact rfl; exact rfl)

theorem State.enterState_later {z0 s : State} (hz : Later z0 s) (dest : Nat) : Later z0 (State.enterState s dest) := by
  unfold State.enterState
  try dsimp only
  repeat' first
    | (with_reducible assumption)
    | (with_reducible apply State.put_later)
    | (with_reducible apply State.putFlag_later)
    | (with_reducible apply State.commission_later)
    | (with_reducible apply State.setSec_later)
    | (with_reducible apply State.take_later)
    | (with_reducible apply State.eraseSlot_later)
    | (with_reducible apply State.raise2_later)
    | (with_reducible apply State.each_later)
    | (with_reducible apply State.onlyIf_later)
    | (with_reducible apply State.foldl_later)
    | (intro x k hx)
    | (intro x hx)
    | split

theorem State.scLifecycle_later {z0 s : State} (hz : Later z0 s) (b : List Nat) : Ends z0 (State.scLifecycle s b) := by
  unfold State.scLifecycle
  try dsimp only
  repeat' first
    | (with_reducible assumption)
    | (with_reducible exact Ends.error _)
    | (with_reducible apply Ends.ok)
    | (with_reducible apply State.enterState_later)
    | (with_reducible apply State.each_later)
    | (with_reducible apply State.onlyIf_later)
    | (with_reducible apply State.foldl_later)
    | (intro x k hx)
    | (intro x hx)
    | split

theorem State.scDebugUnlock_later {z0 s : State} (hz : Later z0 s) (b : List Nat) : Ends z0 (State.scDebugUnlock s b) := by
  unfold State.scDebugUnlock
  try dsimp only
  repeat' first
    | (with_reducible assumption)
    | (with_reducible exact Ends.error _)
    | (with_reducible apply Ends.ok)
    | (with_reducible apply State.putFlag_later)
    | (with_reducible apply State.each_later)
    | (with_reducible apply State.onlyIf_later)
    | (with_reducible apply State.foldl_later)
    | (intro x k hx)
    | (intro x hx)
    | split

theorem State.scRun_later {z0 s : State} (hz : Later z0 s) (cmd : Nat) (keyId : Nat) (scSeq : Nat) (b : List Nat) : Ends z0 (State.scRun s cmd keyId scSeq b) := by
  unfold State.scRun
  try dsimp only
  repeat' first
    | (with_reducible assumption)
    | (with_reducible exact Ends.error _)
    | (with_reducible apply Ends.ok)
    | (with_reducible apply State.scPlanActivate_later)
    | (with_reducible apply State.scMeuCalibrate_later)
    | (with_reducible apply State.scBluHwmReset_later)
    | (with_reducible apply State.scTamperConfig_later)
    | (with_reducible apply State.scSealAck_later)
    | (with_reducible apply State.scLgsRetention_later)
    | (with_reducible apply State.scLgsAck_later)
    | (with_reducible apply State.scKeyGen_later)
    | (with_reducible apply State.scKeyLoad_later)
    | (with_reducible apply State.scKeyCommit_later)
    | (with_reducible apply State.scKeyAbort_later)
    | (with_reducible apply State.scKeyErase_later)
    | (with_reducible apply State.scLifecycle_later)
    | (with_reducible apply State.scDebugUnlock_later)
    | (with_reducible apply State.each_later)
    | (with_reducible apply State.onlyIf_later)
    | (with_reducible apply State.foldl_later)
    | (intro x k hx)
    | (intro x hx)
    | split

theorem State.answerSealed_later {z0 s : State} (hz : Later z0 s) (path : Option (Nat × Nat)) (a : SealedAnswer) : Later z0 (State.answerSealed s path a) := by
  unfold State.answerSealed
  try dsimp only
  repeat' first
    | (with_reducible assumption)
    | (with_reducible apply State.setSec_later)
    | (with_reducible apply State.answerHost_later)
    | (with_reducible apply State.each_later)
    | (with_reducible apply State.onlyIf_later)
    | (with_reducible apply State.foldl_later)
    | (intro x k hx)
    | (intro x hx)
    | split

theorem State.refuseSealed_later {z0 s : State} (hz : Later z0 s) (path : Option (Nat × Nat)) (cmd : Nat) (keyId : Nat) (scSeq : Nat) (result : Nat) : Later z0 (State.refuseSealed s path cmd keyId scSeq result) := by
  unfold State.refuseSealed
  try dsimp only
  repeat' first
    | (with_reducible assumption)
    | (with_reducible apply State.request_later)
    | (with_reducible apply State.raise_later)
    | (with_reducible apply State.raise2_later)
    | (with_reducible apply State.answerSealed_later)
    | (with_reducible apply State.each_later)
    | (with_reducible apply State.onlyIf_later)
    | (with_reducible apply State.foldl_later)
    | (intro x k hx)
    | (intro x hx)

theorem State.scSafeConfirm_later {z0 s : State} (hz : Later z0 s) (path : Option (Nat × Nat)) (keyId : Nat) (scSeq : Nat) (b : List Nat) : Later z0 (State.scSafeConfirm s path keyId scSeq b) := by
  unfold State.scSafeConfirm
  try dsimp only
  repeat' first
    | (with_reducible assumption)
    | (with_reducible apply State.refuseSealed_later)
    | (with_reducible apply State.raise_later)
    | (with_reducible apply State.setGfn_later)
    | (with_reducible apply State.setSec_later)
    | (with_reducible apply State.each_later)
    | (with_reducible apply State.onlyIf_later)
    | (with_reducible apply State.foldl_later)
    | (intro x k hx)
    | (intro x hx)
    | split
    | (with_reducible refine Later.built ?_ ?_ ?_ ?_; rotate_left; exact rfl; exact rfl; exact rfl)

theorem State.confirmOutcome_later {z0 s : State} (before : State) (hz : Later z0 s) (result : Nat) : Later z0 (State.confirmOutcome before s result) := by
  unfold State.confirmOutcome
  split
  · extract_lets _ s1
    have h1 : Later z0 s1 := State.setSec_later hz _
    clear_value s1
    split
    · exact State.answerSealed_later (State.raise2_later h1 _ _ _) _ _
    · exact State.refuseSealed_later h1 _ _ _ _ _
  · exact hz

theorem State.sealedRun_later {z0 s : State} (hz : Later z0 s) (path : Option (Nat × Nat)) (cmd keyId scSeq : Nat) (b : List Nat) : Later z0 (State.sealedRun s path cmd keyId scSeq b) := by
  unfold State.sealedRun
  extract_lets s1 serves s2
  have h1 : Later z0 s1 := State.put_later hz _ _ _
  clear_value s1
  have h2 : Later z0 s2 := State.moveTo_later h1 _
  clear_value s2
  split
  · exact State.answerSealed_later h1 _ _
  · split
    · exact State.refuseSealed_later h2 _ _ _ _ _
    · split
      · exact State.refuseSealed_later h2 _ _ _ _ _
      · split
        · exact State.scSafeConfirm_later h2 _ _ _ _
        · split
          · exact State.refuseSealed_later h2 _ _ _ _ _
          · rename_i recs data t heq
            have ht : Later z0 t := (State.scRun_later h2 _ _ _ _).out _ _ _ heq
            extract_lets n group t1
            split
            · exact State.refuseSealed_later h2 _ _ _ _ _
            · exact State.answerSealed_later (State.raise2_later (State.onlyIf_later (fun x hx => State.request_later hx _ _) ht) _ _ _) _ _

theorem State.sealedRow_later {z0 s : State} (hz : Later z0 s) (cmd keyId : Nat) (b : List Nat) : Later z0 (State.sealedRow s cmd keyId b) :=
  State.sealedRun_later hz _ _ _ _ _

theorem execSealed_later (p : Fin 5) (seq : BitVec 32) (payload : List (BitVec 8)) (s : State) : Runs s (execSealed p seq payload s) := by
  unfold execSealed
  try dsimp only
  repeat' first
    | (with_reducible assumption)
    | (with_reducible exact Later.refl _)
    | (with_reducible apply Runs.next)
    | (with_reducible apply State.takeFrame_later)
    | (with_reducible apply State.sendFrame_later)
    | (with_reducible apply State.put_later)
    | (with_reducible apply State.count_later)
    | (with_reducible apply State.raise2_later)
    | (with_reducible apply State.answerSealed_later)
    | (with_reducible apply State.sealedRun_later)
    | (with_reducible apply State.take_later)
    | (with_reducible apply State.each_later)
    | (with_reducible apply State.onlyIf_later)
    | (with_reducible apply State.foldl_later)
    | (intro x k hx)
    | (intro x hx)
    | split

theorem execPlanActivate_later (keyId : BitVec 64) (planId : BitVec 32) (planVer : BitVec 32) (legalCv : BitVec 32) (s : State) : Runs s (execPlanActivate keyId planId planVer legalCv s) := by
  unfold execPlanActivate
  try dsimp only
  repeat' first
    | (with_reducible assumption)
    | (with_reducible exact Later.refl _)
    | (with_reducible apply Runs.next)
    | (with_reducible apply State.sealedRow_later)

theorem execMeuCalibrate_later (keyId : BitVec 64) (fnom : BitVec 16) (recs : List (BitVec 8 × BitVec 128)) (s : State) : Runs s (execMeuCalibrate keyId fnom recs s) := by
  unfold execMeuCalibrate
  try dsimp only
  repeat' first
    | (with_reducible assumption)
    | (with_reducible exact Later.refl _)
    | (with_reducible apply Runs.next)
    | (with_reducible apply State.sealedRow_later)

theorem execBluHwmReset_later (keyId : BitVec 64) (s : State) : Runs s (execBluHwmReset keyId s) := by
  unfold execBluHwmReset
  try dsimp only
  repeat' first
    | (with_reducible assumption)
    | (with_reducible exact Later.refl _)
    | (with_reducible apply Runs.next)
    | (with_reducible apply State.sealedRow_later)

theorem execTamperConfig_later (keyId : BitVec 64) (ten : BitVec 8) (tpol : BitVec 8) (s : State) : Runs s (execTamperConfig keyId ten tpol s) := by
  unfold execTamperConfig
  try dsimp only
  repeat' first
    | (with_reducible assumption)
    | (with_reducible exact Later.refl _)
    | (with_reducible apply Runs.next)
    | (with_reducible apply State.sealedRow_later)

theorem execSealAck_later (keyId : BitVec 64) (s : State) : Runs s (execSealAck keyId s) := by
  unfold execSealAck
  try dsimp only
  repeat' first
    | (with_reducible assumption)
    | (with_reducible exact Later.refl _)
    | (with_reducible apply Runs.next)
    | (with_reducible apply State.sealedRow_later)

theorem execSafeConfirm_later (keyId : BitVec 64) (value : BitVec 32) (s : State) : Runs s (execSafeConfirm keyId value s) := by
  unfold execSafeConfirm
  try dsimp only
  repeat' first
    | (with_reducible assumption)
    | (with_reducible exact Later.refl _)
    | (with_reducible apply Runs.next)
    | (with_reducible apply State.sealedRow_later)

theorem execLgsRetention_later (keyId : BitVec 64) (days : BitVec 16) (tick : BitVec 8) (s : State) : Runs s (execLgsRetention keyId days tick s) := by
  unfold execLgsRetention
  try dsimp only
  repeat' first
    | (with_reducible assumption)
    | (with_reducible exact Later.refl _)
    | (with_reducible apply Runs.next)
    | (with_reducible apply State.sealedRow_later)

theorem execLgsAck_later (keyId : BitVec 64) (first : BitVec 64) (last : BitVec 64) (hash : BitVec 256) (s : State) : Runs s (execLgsAck keyId first last hash s) := by
  unfold execLgsAck
  try dsimp only
  repeat' first
    | (with_reducible assumption)
    | (with_reducible exact Later.refl _)
    | (with_reducible apply Runs.next)
    | (with_reducible apply State.sealedRow_later)

theorem execKeyGen_later (keyId : BitVec 64) (slot : BitVec 8) (ktype : BitVec 8) (s : State) : Runs s (execKeyGen keyId slot ktype s) := by
  unfold execKeyGen
  try dsimp only
  repeat' first
    | (with_reducible assumption)
    | (with_reducible exact Later.refl _)
    | (with_reducible apply Runs.next)
    | (with_reducible apply State.sealedRow_later)

theorem execKeyLoad_later (keyId : BitVec 64) (slot : BitVec 8) (ktype : BitVec 8) (rest : List (BitVec 8)) (s : State) : Runs s (execKeyLoad keyId slot ktype rest s) := by
  unfold execKeyLoad
  try dsimp only
  repeat' first
    | (with_reducible assumption)
    | (with_reducible exact Later.refl _)
    | (with_reducible apply Runs.next)
    | (with_reducible apply State.sealedRow_later)

theorem execKeyCommit_later (keyId : BitVec 64) (slot : BitVec 8) (shadow : BitVec 64) (s : State) : Runs s (execKeyCommit keyId slot shadow s) := by
  unfold execKeyCommit
  try dsimp only
  repeat' first
    | (with_reducible assumption)
    | (with_reducible exact Later.refl _)
    | (with_reducible apply Runs.next)
    | (with_reducible apply State.sealedRow_later)

theorem execKeyAbort_later (keyId : BitVec 64) (slot : BitVec 8) (s : State) : Runs s (execKeyAbort keyId slot s) := by
  unfold execKeyAbort
  try dsimp only
  repeat' first
    | (with_reducible assumption)
    | (with_reducible exact Later.refl _)
    | (with_reducible apply Runs.next)
    | (with_reducible apply State.sealedRow_later)

theorem execKeyErase_later (keyId : BitVec 64) (slot : BitVec 8) (s : State) : Runs s (execKeyErase keyId slot s) := by
  unfold execKeyErase
  try dsimp only
  repeat' first
    | (with_reducible assumption)
    | (with_reducible exact Later.refl _)
    | (with_reducible apply Runs.next)
    | (with_reducible apply State.sealedRow_later)

theorem execLifecycle_later (keyId : BitVec 64) (newState : BitVec 8) (pub : List (BitVec 8)) (s : State) : Runs s (execLifecycle keyId newState pub s) := by
  unfold execLifecycle
  try dsimp only
  repeat' first
    | (with_reducible assumption)
    | (with_reducible exact Later.refl _)
    | (with_reducible apply Runs.next)
    | (with_reducible apply State.sealedRow_later)

theorem execDebugUnlock_later (keyId : BitVec 64) (xroot : List (BitVec 8)) (s : State) : Runs s (execDebugUnlock keyId xroot s) := by
  unfold execDebugUnlock
  try dsimp only
  repeat' first
    | (with_reducible assumption)
    | (with_reducible exact Later.refl _)
    | (with_reducible apply Runs.next)
    | (with_reducible apply State.sealedRow_later)

theorem execSafetyInputConfirm_later (i : Fin 16) (samples : List Bool) (s : State) : Runs s (execSafetyInputConfirm i samples s) := by
  unfold execSafetyInputConfirm
  try dsimp only
  repeat' first
    | (with_reducible assumption)
    | (with_reducible exact Later.refl _)
    | (with_reducible apply Runs.next)
    | (with_reducible apply State.confirmOutcome_later)
    | (with_reducible apply State.inputConfirm_later)
    | (with_reducible apply State.each_later)
    | (with_reducible apply State.onlyIf_later)
    | (with_reducible apply State.foldl_later)
    | (intro x k hx)
    | (intro x hx)
    | split

theorem execGseCycle_later (encoder : Option (Nat × Nat × Bool)) (s : State) : Runs s (execGseCycle encoder s) := by
  unfold execGseCycle
  try dsimp only
  repeat' first
    | (with_reducible assumption)
    | (with_reducible exact Later.refl _)
    | (with_reducible apply Runs.next)
    | (with_reducible apply State.moveTo_later)
    | (with_reducible apply State.put_later)
    | (with_reducible apply State.readEncoder_later)
    | (with_reducible apply State.inputsChanged_later)
    | (with_reducible apply State.confirmOutcome_later)
    | (with_reducible apply State.evaluate_later)
    | (with_reducible apply State.drive_later)
    | (with_reducible apply State.each_later)
    | (with_reducible apply State.onlyIf_later)
    | (with_reducible apply State.foldl_later)
    | (intro x k hx)
    | (intro x hx)
    | split
    | (with_reducible refine Later.built ?_ ?_ ?_ ?_; rotate_left; exact rfl; exact rfl; exact rfl)

theorem execResetPulse_later (i : Fin 16) (ms : Nat) (s : State) : Runs s (execResetPulse i ms s) := by
  unfold execResetPulse
  try dsimp only
  repeat' first
    | (with_reducible assumption)
    | (with_reducible exact Later.refl _)
    | (with_reducible apply Runs.next)
    | (with_reducible apply State.confirmOutcome_later)
    | (with_reducible apply State.putBit_later)
    | (with_reducible apply State.resetPulse_later)
    | (with_reducible apply State.each_later)
    | (with_reducible apply State.onlyIf_later)
    | (with_reducible apply State.foldl_later)
    | (intro x k hx)
    | (intro x hx)
    | split
    | (with_reducible refine Later.built ?_ ?_ ?_ ?_; rotate_left; exact rfl; exact rfl; exact rfl)

theorem execSafeConfirmTimeout_later (s : State) : Runs s (execSafeConfirmTimeout s) := by
  unfold execSafeConfirmTimeout
  try dsimp only
  repeat' first
    | (with_reducible assumption)
    | (with_reducible exact Later.refl _)
    | (with_reducible apply Runs.next)
    | (with_reducible apply State.confirmOutcome_later)
    | (with_reducible apply State.confirmLate_later)
    | (with_reducible apply State.each_later)
    | (with_reducible apply State.onlyIf_later)
    | (with_reducible apply State.foldl_later)
    | (intro x k hx)
    | (intro x hx)
    | split
    | (with_reducible refine Later.built ?_ ?_ ?_ ?_; rotate_left; exact rfl; exact rfl; exact rfl)

end Sys2Proof.Machine
end

