-- ==== Sys2Proof/Laws/LaterReset.lean ====
section
/-! SUPPORT. Every operation and every command of the resets leads to a later state (Laws/Later.lean). -/

namespace Sys2Proof.Machine

open Sys2Proof

theorem State.setBcu_later {z0 s : State} (hz : Later z0 s) (v : Bcu) : Later z0 (State.setBcu s v) := by
  unfold State.setBcu
  try dsimp only
  repeat' first
    | (with_reducible assumption)
    | (with_reducible apply State.each_later)
    | (with_reducible apply State.onlyIf_later)
    | (with_reducible apply State.foldl_later)
    | (intro x k hx)
    | (intro x hx)
    | split
    | (with_reducible refine Later.built ?_ ?_ ?_ ?_; rotate_left; exact rfl; exact rfl; exact rfl)

theorem State.addLife_later {z0 s : State} (hz : Later z0 s) (eqh : Nat) (hours : Nat) : Later z0 (State.addLife s eqh hours) := by
  unfold State.addLife
  try dsimp only
  repeat' first
    | (with_reducible assumption)
    | (with_reducible apply State.put_later)

theorem State.lifePart_later {z0 s : State} (hz : Later z0 s) : Later z0 (State.lifePart s) := by
  unfold State.lifePart
  try dsimp only
  repeat' first
    | (with_reducible assumption)
    | (with_reducible apply State.draw_later)
    | (with_reducible apply State.addLife_later)
    | (with_reducible apply State.setBcu_later)

theorem State.showTcase_later {z0 s : State} (hz : Later z0 s) (tnow : Int) (peak : Int) : Later z0 (State.showTcase s tnow peak) := by
  unfold State.showTcase
  try dsimp only
  repeat' first
    | (with_reducible assumption)
    | (with_reducible apply State.put_later)

theorem State.showFlash_later {z0 s : State} (hz : Later z0 s) (n : Nat) (w : Nat) : Later z0 (State.showFlash s n w) := by
  unfold State.showFlash
  try dsimp only
  repeat' first
    | (with_reducible assumption)
    | (with_reducible apply State.put_later)

theorem execLifeAccounting_later (tmean : Int) (tnow : Int) (peak : Int) (flash0 : BitVec 32) (flash1 : BitVec 32) (s : State) : Runs s (execLifeAccounting tmean tnow peak flash0 flash1 s) := by
  unfold execLifeAccounting
  try dsimp only
  repeat' first
    | (with_reducible assumption)
    | (with_reducible exact Later.refl _)
    | (with_reducible apply Runs.next)
    | (with_reducible apply State.moveTo_later)
    | (with_reducible apply State.draw_later)
    | (with_reducible apply State.addLife_later)
    | (with_reducible apply State.setBcu_later)
    | (with_reducible apply State.showTcase_later)
    | (with_reducible apply State.showFlash_later)
    | (with_reducible apply State.each_later)
    | (with_reducible apply State.onlyIf_later)
    | (with_reducible apply State.foldl_later)
    | (intro x k hx)
    | (intro x hx)
    | (with_reducible refine Later.snd ?_ (by assumption))
    | split

theorem State.setUpd_later {z0 s : State} (hz : Later z0 s) (v : Upd) : Later z0 (State.setUpd s v) := by
  unfold State.setUpd
  try dsimp only
  repeat' first
    | (with_reducible assumption)
    | (with_reducible apply State.each_later)
    | (with_reducible apply State.onlyIf_later)
    | (with_reducible apply State.foldl_later)
    | (intro x k hx)
    | (intro x hx)
    | split
    | (with_reducible refine Later.built ?_ ?_ ?_ ?_; rotate_left; exact rfl; exact rfl; exact rfl)

theorem State.trialPause_later {z0 s : State} (hz : Later z0 s) : Later z0 (State.trialPause s) := by
  unfold State.trialPause
  try dsimp only
  repeat' first
    | (with_reducible assumption)
    | (with_reducible apply State.setUpd_later)

theorem State.showHold_later {z0 s : State} (hz : Later z0 s) : Later z0 (State.showHold s) := by
  unfold State.showHold
  try dsimp only
  repeat' first
    | (with_reducible assumption)
    | (with_reducible apply State.put_later)
    | (with_reducible apply State.each_later)
    | (with_reducible apply State.onlyIf_later)
    | (with_reducible apply State.foldl_later)
    | (intro x k hx)
    | (intro x hx)
    | split

theorem State.endHold_later {z0 s : State} (hz : Later z0 s) : Later z0 (State.endHold s) := by
  unfold State.endHold
  try dsimp only
  repeat' first
    | (with_reducible assumption)
    | (with_reducible apply State.showHold_later)
    | (with_reducible apply State.put_later)
    | (with_reducible apply State.setBcu_later)

theorem State.dropAll_later {z0 s : State} (hz : Later z0 s) : Later z0 (State.dropAll s) := by
  unfold State.dropAll
  try dsimp only
  repeat' first
    | (with_reducible assumption)
    | (with_reducible apply State.putFlag_later)
    | (with_reducible apply State.contact_later)
    | (with_reducible apply State.each_later)
    | (with_reducible apply State.onlyIf_later)
    | (with_reducible apply State.foldl_later)
    | (intro x k hx)

theorem State.oiuPowerFail_later {z0 s : State} (hz : Later z0 s) : Later z0 (State.oiuPowerFail s) := by
  unfold State.oiuPowerFail
  try dsimp only
  repeat' first
    | (with_reducible assumption)
    | (with_reducible apply State.dropAll_later)
    | (with_reducible apply State.putFlag_later)
    | (with_reducible apply State.put_later)
    | (with_reducible apply State.each_later)
    | (with_reducible apply State.onlyIf_later)
    | (with_reducible apply State.foldl_later)
    | (intro x k hx)

theorem State.swPowerFail_later {z0 s : State} (hz : Later z0 s) : Later z0 (State.swPowerFail s) := by
  unfold State.swPowerFail
  try dsimp only
  repeat' first
    | (with_reducible assumption)
    | (with_reducible apply State.chOff_later)
    | (with_reducible apply State.each_later)
    | (with_reducible apply State.onlyIf_later)
    | (with_reducible apply State.foldl_later)
    | (intro x k hx)
    | (intro x hx)

theorem State.declarePf_later {z0 s : State} (hz : Later z0 s) (arg : Nat) (next : Option Nat) : Later z0 (State.declarePf s arg next) := by
  unfold State.declarePf
  try dsimp only
  repeat' first
    | (with_reducible assumption)
    | (with_reducible apply State.endHold_later)
    | (with_reducible apply State.trialPause_later)
    | (with_reducible apply State.setBcu_later)
    | (with_reducible apply State.raise_later)
    | (with_reducible apply State.bluPowerFail_later)
    | (with_reducible apply State.gsePowerFail_later)
    | (with_reducible apply State.swPowerFail_later)
    | (with_reducible apply State.oiuPowerFail_later)
    | (with_reducible apply State.put_later)
    | (with_reducible apply State.dsePowerFail_later)
    | (with_reducible apply State.alkPowerFail_later)
    | (with_reducible apply State.each_later)
    | (with_reducible apply State.onlyIf_later)
    | (with_reducible apply State.foldl_later)
    | (intro x k hx)
    | (intro x hx)
    | split
    | (with_reducible refine Later.built ?_ ?_ ?_ ?_; rotate_left; exact rfl; exact rfl; exact rfl)

theorem State.freezeAndCommit_later {z0 s : State} (hz : Later z0 s) : Later z0 (State.freezeAndCommit s) := by
  unfold State.freezeAndCommit
  try dsimp only
  repeat' first
    | (with_reducible assumption)
    | (with_reducible apply State.endNow_later)
    | (with_reducible apply State.pfLatch_later)
    | (with_reducible apply State.meuFreeze_later)
    | (with_reducible apply State.draw_later)
    | (with_reducible apply State.bluCommit_later)
    | (with_reducible apply State.each_later)
    | (with_reducible apply State.onlyIf_later)
    | (with_reducible apply State.foldl_later)
    | (intro x k hx)
    | (intro x hx)
    | (with_reducible refine Later.snd ?_ (by assumption))
    | split

theorem execMeuFreeze_later (s : State) : Runs s (execMeuFreeze s) := by
  unfold execMeuFreeze
  try dsimp only
  repeat' first
    | (with_reducible assumption)
    | (with_reducible exact Later.refl _)
    | (with_reducible apply Runs.next)
    | (with_reducible apply State.moveTo_later)
    | (with_reducible apply State.freezeAndCommit_later)
    | (with_reducible apply State.each_later)
    | (with_reducible apply State.onlyIf_later)
    | (with_reducible apply State.foldl_later)
    | (intro x k hx)
    | (intro x hx)
    | split

theorem State.commitAll_later {z0 s : State} (hz : Later z0 s) : Later z0 (State.commitAll s) := by
  unfold State.commitAll
  try dsimp only
  repeat' first
    | (with_reducible assumption)
    | (with_reducible apply State.commitNext_later)
    | (with_reducible apply State.each_later)
    | (with_reducible apply State.onlyIf_later)
    | (with_reducible apply State.foldl_later)
    | (intro x k hx)

theorem State.finishCommit_later {z0 s : State} (hz : Later z0 s) : Later z0 (State.finishCommit s) := by
  unfold State.finishCommit
  try dsimp only
  repeat' first
    | (with_reducible assumption)
    | (with_reducible apply State.moveTo_later)
    | (with_reducible apply State.freezeAndCommit_later)
    | (with_reducible apply State.lifePart_later)
    | (with_reducible apply State.commitAll_later)
    | (with_reducible apply State.each_later)
    | (with_reducible apply State.onlyIf_later)

theorem State.clearDomains_later {z0 s : State} (hz : Later z0 s) : Later z0 (State.clearDomains s) := by
  unfold State.clearDomains
  extract_lets pulses latched s1 s2 s3 s4 s5 _ _ _ _ _ _ s6
  have h1 : Later z0 s1 := State.gseStart_later (State.refreshTl_later hz)
  clear_value s1
  have h2 : Later z0 s2 := State.foldl_later (fun x k hx => State.clearUnit_later hx _ _ _) h1
  clear_value s2
  have h3 : Later z0 s3 := State.foldl_later (fun x k hx => State.put_later hx _ _ _) h2
  clear_value s3
  have h4 : Later z0 s4 := State.each_later (fun x k hx => State.put_later hx _ _ _) h3
  clear_value s4
  have h5 : Later z0 s5 := State.putFlag_later h4 _ _ _
  clear_value s5
  have h6 : Later z0 s6 := h5.trans ⟨rfl, Nat.le_refl _, Nat.le_refl _, List.prefix_refl _, id, id, fun _ y => y, fun _ => Nat.zero_le _,
    fun _ => Nat.zero_le _, fun _ => Nat.zero_le _⟩
  clear_value s6
  exact State.setBcu_later (State.endHold_later h6) _

theorem State.releaseCold_later {z0 s : State} (hz : Later z0 s) (cause : Nat) : Later z0 (State.releaseCold s cause) := by
  unfold State.releaseCold
  try dsimp only
  repeat' first
    | (with_reducible assumption)
    | (with_reducible apply State.setBcu_later)
    | (with_reducible apply State.put_later)
    | (with_reducible apply State.count_later)
    | (with_reducible apply State.raise_later)

theorem State.captureOutputs_later {z0 s : State} (hz : Later z0 s) : Later z0 (State.captureOutputs s) := by
  unfold State.captureOutputs
  try dsimp only
  repeat' first
    | (with_reducible assumption)
    | (with_reducible apply State.setBcu_later)
    | (with_reducible apply State.each_later)
    | (with_reducible apply State.onlyIf_later)
    | (with_reducible apply State.foldl_later)
    | (intro x k hx)

theorem State.updWarm_later {z0 s : State} (hz : Later z0 s) : Later z0 (State.updWarm s) := by
  unfold State.updWarm
  try dsimp only
  repeat' first
    | (with_reducible assumption)
    | (with_reducible apply State.clearUnit_later)
    | (with_reducible apply State.put_later)
    | (with_reducible apply State.each_later)
    | (with_reducible apply State.onlyIf_later)
    | (with_reducible apply State.foldl_later)
    | (intro x k hx)
    | (intro x hx)

theorem State.resetApplication_later {z0 s : State} (hz : Later z0 s) : Later z0 (State.resetApplication s) := by
  unfold State.resetApplication
  try dsimp only
  repeat' first
    | (with_reducible assumption)
    | (with_reducible apply State.vceWarm_later)
    | (with_reducible apply State.cluWarm_later)
    | (with_reducible apply State.hpuWarm_later)
    | (with_reducible apply State.dseWarm_later)
    | (with_reducible apply State.allocWarm_later)
    | (with_reducible apply State.updWarm_later)
    | (with_reducible apply State.setUpd_later)
    | (with_reducible apply State.each_later)
    | (with_reducible apply State.onlyIf_later)
    | (with_reducible apply State.foldl_later)
    | (intro x k hx)
    | (intro x hx)

theorem State.countWarm_later {z0 s : State} (hz : Later z0 s) (c : Nat) : Later z0 (State.countWarm s c) := by
  unfold State.countWarm
  try dsimp only
  repeat' first
    | (with_reducible assumption)
    | (with_reducible apply State.put_later)
    | (with_reducible apply State.count_later)
    | (with_reducible apply State.raise_later)
    | (with_reducible apply State.each_later)
    | (with_reducible apply State.onlyIf_later)
    | (with_reducible apply State.foldl_later)
    | (intro x k hx)
    | (intro x hx)
    | split

theorem State.thawAll_later {z0 s : State} (hz : Later z0 s) : Later z0 (State.thawAll s) := by
  unfold State.thawAll
  try dsimp only
  repeat' first
    | (with_reducible assumption)
    | (with_reducible apply State.put_later)
    | (with_reducible apply State.gseRelease_later)
    | (with_reducible apply State.rejoinAll_later)
    | (with_reducible apply State.each_later)
    | (with_reducible apply State.onlyIf_later)
    | (with_reducible apply State.foldl_later)
    | (intro x k hx)
    | (intro x hx)
    | split
    | (with_reducible refine Later.built ?_ ?_ ?_ ?_; rotate_left; exact rfl; exact rfl; exact rfl)

theorem State.startHold_later {z0 s : State} (hz : Later z0 s) : Later z0 (State.startHold s) := by
  unfold State.startHold
  try dsimp only
  repeat' first
    | (with_reducible assumption)
    | (with_reducible apply State.captureOutputs_later)
    | (with_reducible apply State.put_later)
    | (with_reducible apply State.setBcu_later)
    | (with_reducible apply State.each_later)
    | (with_reducible apply State.onlyIf_later)
    | (with_reducible apply State.foldl_later)
    | (intro x k hx)
    | (intro x hx)
    | split

theorem State.warmReset_later {z0 s : State} (hz : Later z0 s) (c : Nat) : Later z0 (State.warmReset s c) := by
  unfold State.warmReset
  split
  · exact hz
  · split
    · exact State.declarePf_later (State.raise_later hz _ _) _ _
    · exact State.resetApplication_later (State.setBcu_later (State.startHold_later (State.thawAll_later (State.countWarm_later hz _))) _)

theorem State.coldCommand_later {z0 s : State} (hz : Later z0 s) (arg : Nat) (cause : Nat) : Later z0 (State.coldCommand s arg cause) := by
  unfold State.coldCommand
  try dsimp only
  repeat' first
    | (with_reducible assumption)
    | (with_reducible apply State.declarePf_later)
    | (with_reducible apply State.each_later)
    | (with_reducible apply State.onlyIf_later)
    | (with_reducible apply State.foldl_later)
    | (intro x k hx)
    | (intro x hx)
    | split

end Sys2Proof.Machine
end

