-- ==== Sys2Proof/Laws/LaterUpdate.lean ====
section
/-! SUPPORT. Every operation and every command of the UPD leads to a later state (Laws/Later.lean). -/

namespace Sys2Proof.Machine

open Sys2Proof

theorem State.setUpdState_later {z0 s : State} (hz : Later z0 s) (st : Nat) : Later z0 (State.setUpdState s st) := by
  unfold State.setUpdState
  try dsimp only
  repeat' first
    | (with_reducible assumption)
    | (with_reducible apply State.put_later)

theorem State.setInstalled_later {z0 s : State} (hz : Later z0 s) (key : Nat) (v : Nat) : Later z0 (State.setInstalled s key v) := by
  unfold State.setInstalled
  try dsimp only
  repeat' first
    | (with_reducible assumption)
    | (with_reducible apply State.setUpd_later)

theorem State.showUpd_later {z0 s : State} (hz : Later z0 s) : Later z0 (State.showUpd s) := by
  unfold State.showUpd
  try dsimp only
  repeat' first
    | (with_reducible assumption)
    | (with_reducible apply State.put_later)

theorem State.updRefuse_later {z0 s : State} (hz : Later z0 s) (reason : Nat) (detail : Nat) : Later z0 (State.updRefuse s reason detail) := by
  unfold State.updRefuse
  try dsimp only
  repeat' first
    | (with_reducible assumption)
    | (with_reducible apply State.put_later)
    | (with_reducible apply State.raise2_later)

theorem State.updBadState_later {z0 s : State} (hz : Later z0 s) (cmd : Nat) : Later z0 (State.updBadState s cmd) := by
  unfold State.updBadState
  try dsimp only
  repeat' first
    | (with_reducible assumption)
    | (with_reducible apply State.raise2_later)

theorem State.updLoad_later {z0 s : State} (hz : Later z0 s) : Later z0 (State.updLoad s) := by
  unfold State.updLoad
  try dsimp only
  repeat' first
    | (with_reducible assumption)
    | (with_reducible apply State.updRefuse_later)
    | (with_reducible apply State.setUpdState_later)
    | (with_reducible apply State.each_later)
    | (with_reducible apply State.onlyIf_later)
    | (with_reducible apply State.foldl_later)
    | (intro x k hx)
    | (intro x hx)
    | split

theorem State.schedule_later {z0 s : State} (hz : Later z0 s) (byPtp : Bool) (t : Nat) : Later z0 (State.schedule s byPtp t) := by
  unfold State.schedule
  try dsimp only
  repeat' first
    | (with_reducible assumption)
    | (with_reducible apply State.setUpd_later)
    | (with_reducible apply State.put_later)
    | (with_reducible apply State.raise_later)
    | (with_reducible apply State.each_later)
    | (with_reducible apply State.onlyIf_later)
    | (with_reducible apply State.foldl_later)
    | (intro x k hx)
    | (intro x hx)
    | split

theorem State.showPart_later {z0 s : State} (hz : Later z0 s) (l : List UpdPart) (ends : Bool) : Later z0 (State.showPart s l ends) := by
  unfold State.showPart
  try dsimp only
  repeat' first
    | (with_reducible assumption)
    | (with_reducible apply State.put_later)

theorem State.updRead_later {z0 s : State} (hz : Later z0 s) : Later z0 (State.updRead s) := by
  unfold State.updRead
  try dsimp only
  repeat' first
    | (with_reducible assumption)
    | (with_reducible apply State.setUpdState_later)
    | (with_reducible apply State.raise_later)
    | (with_reducible apply State.showPart_later)
    | (with_reducible apply State.each_later)
    | (with_reducible apply State.onlyIf_later)
    | (with_reducible apply State.foldl_later)
    | (intro x k hx)
    | (intro x hx)
    | split

theorem State.updCheck_later {z0 s : State} (hz : Later z0 s) : Later z0 (State.updCheck s) := by
  unfold State.updCheck
  try dsimp only
  repeat' first
    | (with_reducible assumption)
    | (with_reducible apply State.setUpdState_later)
    | (with_reducible apply State.updRefuse_later)
    | (with_reducible apply State.setUpd_later)
    | (with_reducible apply State.showPart_later)
    | (with_reducible apply State.each_later)
    | (with_reducible apply State.onlyIf_later)
    | (with_reducible apply State.foldl_later)
    | (intro x k hx)
    | (intro x hx)
    | split

theorem State.sendImages_later {z0 s : State} (hz : Later z0 s) (l : List (Nat × List Nat)) : Later z0 (State.sendImages s l) := by
  unfold State.sendImages
  try dsimp only
  repeat' first
    | (with_reducible assumption)
    | (with_reducible apply State.setAlk_later)

theorem State.updStage_later {z0 s : State} (hz : Later z0 s) : Later z0 (State.updStage s) := by
  unfold State.updStage
  try dsimp only
  repeat' first
    | (with_reducible assumption)
    | (with_reducible apply State.setUpdState_later)
    | (with_reducible apply State.showPart_later)
    | (with_reducible apply State.raise_later)
    | (with_reducible apply State.sendImages_later)
    | (with_reducible apply State.take_later)
    | (with_reducible apply State.schedule_later)
    | (with_reducible apply State.each_later)
    | (with_reducible apply State.onlyIf_later)
    | (with_reducible apply State.foldl_later)
    | (intro x k hx)
    | (intro x hx)
    | split

theorem execUpdateStaged_later (writeFail : Option (Fin 64)) (s : State) : Runs s (execUpdateStaged writeFail s) := by
  unfold execUpdateStaged
  try dsimp only
  repeat' first
    | (with_reducible assumption)
    | (with_reducible exact Later.refl _)
    | (with_reducible apply Runs.next)
    | (with_reducible apply State.updRead_later)
    | (with_reducible apply State.updCheck_later)
    | (with_reducible apply State.setUpd_later)
    | (with_reducible apply State.setUpdState_later)
    | (with_reducible apply State.updRefuse_later)
    | (with_reducible apply State.updStage_later)
    | (with_reducible apply State.each_later)
    | (with_reducible apply State.onlyIf_later)
    | (with_reducible apply State.foldl_later)
    | (intro x k hx)
    | (intro x hx)
    | split

theorem State.updProgress_later {z0 s : State} (hz : Later z0 s) : Later z0 (State.updProgress s) := by
  unfold State.updProgress
  try dsimp only
  repeat' first
    | (with_reducible assumption)
    | (with_reducible apply State.updRead_later)
    | (with_reducible apply State.updCheck_later)
    | (with_reducible apply State.each_later)
    | (with_reducible apply State.onlyIf_later)
    | (with_reducible apply State.foldl_later)
    | (intro x k hx)
    | (intro x hx)
    | split

theorem State.updActivate_later {z0 s : State} (hz : Later z0 s) : Later z0 (State.updActivate s) := by
  unfold State.updActivate
  try dsimp only
  repeat' first
    | (with_reducible assumption)
    | (with_reducible apply State.updBadState_later)
    | (with_reducible apply State.take_later)
    | (with_reducible apply State.updRefuse_later)
    | (with_reducible apply State.schedule_later)
    | (with_reducible apply State.each_later)
    | (with_reducible apply State.onlyIf_later)
    | (with_reducible apply State.foldl_later)
    | (intro x k hx)
    | (intro x hx)
    | split

theorem State.updDrop_later {z0 s : State} (hz : Later z0 s) : Later z0 (State.updDrop s) := by
  unfold State.updDrop
  try dsimp only
  repeat' first
    | (with_reducible assumption)
    | (with_reducible apply State.setUpd_later)
    | (with_reducible apply State.setUpdState_later)
    | (with_reducible apply State.put_later)
    | (with_reducible apply State.sendImages_later)

theorem State.updAbandon_later {z0 s : State} (hz : Later z0 s) (reason : Nat) : Later z0 (State.updAbandon s reason) := by
  unfold State.updAbandon
  try dsimp only
  repeat' first
    | (with_reducible assumption)
    | (with_reducible apply State.setUpdState_later)
    | (with_reducible apply State.sendImages_later)
    | (with_reducible apply State.updDrop_later)
    | (with_reducible apply State.updRefuse_later)
    | (with_reducible apply State.each_later)
    | (with_reducible apply State.onlyIf_later)
    | (with_reducible apply State.foldl_later)
    | (intro x k hx)
    | (intro x hx)
    | split

theorem State.updCancel_later {z0 s : State} (hz : Later z0 s) : Later z0 (State.updCancel s) := by
  unfold State.updCancel
  try dsimp only
  repeat' first
    | (with_reducible assumption)
    | (with_reducible apply State.updAbandon_later)
    | (with_reducible apply State.updBadState_later)
    | (with_reducible apply State.each_later)
    | (with_reducible apply State.onlyIf_later)
    | (with_reducible apply State.foldl_later)
    | (intro x k hx)
    | (intro x hx)
    | split

theorem execAbandonRestoreDone_later (s : State) : Runs s (execAbandonRestoreDone s) := by
  unfold execAbandonRestoreDone
  try dsimp only
  repeat' first
    | (with_reducible assumption)
    | (with_reducible exact Later.refl _)
    | (with_reducible apply Runs.next)
    | (with_reducible apply State.updDrop_later)
    | (with_reducible apply State.each_later)
    | (with_reducible apply State.onlyIf_later)
    | (with_reducible apply State.foldl_later)
    | (intro x k hx)
    | (intro x hx)
    | split

theorem execMediumInserted_later (manifest : Option (List (BitVec 8))) (files : List (List (BitVec 8) × List (BitVec 8))) (s : State) : Runs s (execMediumInserted manifest files s) := by
  unfold execMediumInserted
  try dsimp only
  repeat' first
    | (with_reducible assumption)
    | (with_reducible exact Later.refl _)
    | (with_reducible apply Runs.next)
    | (with_reducible apply State.setUpd_later)
    | (with_reducible apply State.put_later)

theorem execMediumRemoved_later (s : State) : Runs s (execMediumRemoved s) := by
  unfold execMediumRemoved
  try dsimp only
  repeat' first
    | (with_reducible assumption)
    | (with_reducible exact Later.refl _)
    | (with_reducible apply Runs.next)
    | (with_reducible apply State.setUpd_later)
    | (with_reducible apply State.put_later)
    | (with_reducible apply State.updAbandon_later)
    | (with_reducible apply State.each_later)
    | (with_reducible apply State.onlyIf_later)
    | (with_reducible apply State.foldl_later)
    | (intro x k hx)
    | (intro x hx)
    | split

theorem execOcppFirmwareRequest_later (v2 : Bool) (s : State) : Runs s (execOcppFirmwareRequest v2 s) := by
  unfold execOcppFirmwareRequest
  try dsimp only
  repeat' first
    | (with_reducible assumption)
    | (with_reducible exact Later.refl _)
    | (with_reducible apply Runs.next)
    | (with_reducible apply State.raise_later)
    | (with_reducible apply State.each_later)
    | (with_reducible apply State.onlyIf_later)
    | (with_reducible apply State.foldl_later)
    | (intro x k hx)
    | (intro x hx)
    | split
    | (with_reducible refine Later.built ?_ ?_ ?_ ?_; rotate_left; exact rfl; exact rfl; exact rfl)

theorem execDrainStart_later (s : State) : Runs s (execDrainStart s) := by
  unfold execDrainStart
  try dsimp only
  repeat' first
    | (with_reducible assumption)
    | (with_reducible exact Later.refl _)
    | (with_reducible apply Runs.next)
    | (with_reducible apply State.moveTo_later)
    | (with_reducible apply State.setUpdState_later)
    | (with_reducible apply State.raise_later)
    | (with_reducible apply State.each_later)
    | (with_reducible apply State.onlyIf_later)
    | (with_reducible apply State.foldl_later)
    | (intro x k hx)
    | (intro x hx)
    | split

theorem execNodeImageDeadline_later (s : State) : Runs s (execNodeImageDeadline s) := by
  unfold execNodeImageDeadline
  try dsimp only
  repeat' first
    | (with_reducible assumption)
    | (with_reducible exact Later.refl _)
    | (with_reducible apply Runs.next)
    | (with_reducible apply State.moveTo_later)
    | (with_reducible apply State.updAbandon_later)
    | (with_reducible apply State.each_later)
    | (with_reducible apply State.onlyIf_later)
    | (with_reducible apply State.foldl_later)
    | (intro x k hx)
    | (intro x hx)
    | split

theorem execNodeActivateSend_later (s : State) : Runs s (execNodeActivateSend s) := by
  unfold execNodeActivateSend
  try dsimp only
  repeat' first
    | (with_reducible assumption)
    | (with_reducible exact Later.refl _)
    | (with_reducible apply Runs.next)
    | (with_reducible apply State.moveTo_later)
    | (with_reducible apply State.announceImages_later)
    | (with_reducible apply State.each_later)
    | (with_reducible apply State.onlyIf_later)
    | (with_reducible apply State.foldl_later)
    | (intro x k hx)
    | (intro x hx)
    | split

theorem State.endSessions_later {z0 s : State} (hz : Later z0 s) : Later z0 (State.endSessions s) := by
  unfold State.endSessions
  try dsimp only
  repeat' first
    | (with_reducible assumption)
    | (with_reducible apply State.endSession_later)
    | (with_reducible apply State.putFlag_later)
    | (with_reducible apply State.contact_later)
    | (with_reducible apply State.each_later)
    | (with_reducible apply State.onlyIf_later)
    | (with_reducible apply State.foldl_later)
    | (intro x k hx)
    | (intro x hx)

theorem State.stagePart_later {z0 s : State} (hz : Later z0 s) (raw : Option (List Nat)) (cold : Bool) : Later z0 (State.stagePart s raw cold) := by
  unfold State.stagePart
  try dsimp only
  repeat' first
    | (with_reducible assumption)
    | (with_reducible apply State.stagePlan_later)
    | (with_reducible apply State.setPpl_later)
    | (with_reducible apply State.showStaged_later)
    | (with_reducible apply State.arrange_later)
    | (with_reducible apply State.each_later)
    | (with_reducible apply State.onlyIf_later)
    | (with_reducible apply State.foldl_later)
    | (intro x k hx)
    | (intro x hx)
    | split

theorem execUpdateActivation_later (s : State) : Runs s (execUpdateActivation s) := by
  unfold execUpdateActivation
  try dsimp only
  repeat' first
    | (with_reducible assumption)
    | (with_reducible exact Later.refl _)
    | (with_reducible apply Runs.next)
    | (with_reducible apply State.moveTo_later)
    | (with_reducible apply State.endSessions_later)
    | (with_reducible apply State.setUpdState_later)
    | (with_reducible apply State.stagePart_later)
    | (with_reducible apply State.each_later)
    | (with_reducible apply State.onlyIf_later)
    | (with_reducible apply State.foldl_later)
    | (intro x k hx)
    | (intro x hx)
    | split

theorem State.updBegin_later {z0 s : State} (hz : Later z0 s) (h : UpdHold) : Later z0 (State.updBegin s h) := by
  unfold State.updBegin
  try dsimp only
  repeat' first
    | (with_reducible assumption)
    | (with_reducible apply State.setInstalled_later)
    | (with_reducible apply State.setUpd_later)
    | (with_reducible apply State.request_later)
    | (with_reducible apply State.putFlag_later)
    | (with_reducible apply State.setUpdState_later)
    | (with_reducible apply State.raise_later)
    | (with_reducible apply State.each_later)
    | (with_reducible apply State.onlyIf_later)
    | (with_reducible apply State.foldl_later)
    | (intro x k hx)

theorem execActivationReset_later (s : State) : Runs s (execActivationReset s) := by
  unfold execActivationReset
  try dsimp only
  repeat' first
    | (with_reducible assumption)
    | (with_reducible exact Later.refl _)
    | (with_reducible apply Runs.next)
    | (with_reducible apply State.moveTo_later)
    | (with_reducible apply State.updBegin_later)
    | (with_reducible apply State.coldCommand_later)
    | (with_reducible apply State.each_later)
    | (with_reducible apply State.onlyIf_later)
    | (with_reducible apply State.foldl_later)
    | (intro x k hx)
    | (intro x hx)
    | split

theorem State.updCommit_later {z0 s : State} (hz : Later z0 s) (cause : Nat) : Later z0 (State.updCommit s cause) := by
  unfold State.updCommit
  try dsimp only
  repeat' first
    | (with_reducible assumption)
    | (with_reducible apply State.setUpd_later)
    | (with_reducible apply State.request_later)
    | (with_reducible apply State.count_later)
    | (with_reducible apply State.raise_later)
    | (with_reducible apply State.updDrop_later)
    | (with_reducible apply State.each_later)
    | (with_reducible apply State.onlyIf_later)
    | (with_reducible apply State.foldl_later)
    | (intro x k hx)
    | (intro x hx)
    | split

theorem State.updConfirm_later {z0 s : State} (hz : Later z0 s) : Later z0 (State.updConfirm s) := by
  unfold State.updConfirm
  try dsimp only
  repeat' first
    | (with_reducible assumption)
    | (with_reducible apply State.updCommit_later)
    | (with_reducible apply State.updBadState_later)
    | (with_reducible apply State.each_later)
    | (with_reducible apply State.onlyIf_later)
    | (with_reducible apply State.foldl_later)
    | (intro x k hx)
    | (intro x hx)
    | split

theorem execTrialComplete_later (s : State) : Runs s (execTrialComplete s) := by
  unfold execTrialComplete
  try dsimp only
  repeat' first
    | (with_reducible assumption)
    | (with_reducible exact Later.refl _)
    | (with_reducible apply Runs.next)
    | (with_reducible apply State.moveTo_later)
    | (with_reducible apply State.updCommit_later)
    | (with_reducible apply State.each_later)
    | (with_reducible apply State.onlyIf_later)
    | (with_reducible apply State.foldl_later)
    | (intro x k hx)
    | (intro x hx)
    | split

theorem State.startFallback_later {z0 s : State} (hz : Later z0 s) (cause : Nat) : Later z0 (State.startFallback s cause) := by
  unfold State.startFallback
  try dsimp only
  repeat' first
    | (with_reducible assumption)
    | (with_reducible apply State.setUpd_later)
    | (with_reducible apply State.request_later)
    | (with_reducible apply State.count_later)
    | (with_reducible apply State.setUpdState_later)
    | (with_reducible apply State.raise_later)
    | (with_reducible apply State.endSessions_later)
    | (with_reducible apply State.each_later)
    | (with_reducible apply State.onlyIf_later)
    | (with_reducible apply State.foldl_later)
    | (intro x k hx)
    | (intro x hx)
    | split

theorem execGseStartupTestsDone_later (failed : Fin 10) (inputs : BitVec 16) (s : State) : Runs s (execGseStartupTestsDone failed inputs s) := by
  unfold execGseStartupTestsDone
  try dsimp only
  repeat' first
    | (with_reducible assumption)
    | (with_reducible exact Later.refl _)
    | (with_reducible apply Runs.next)
    | (with_reducible apply State.gseTestsDone_later)
    | (with_reducible apply State.startFallback_later)
    | (with_reducible apply State.each_later)
    | (with_reducible apply State.onlyIf_later)
    | (with_reducible apply State.foldl_later)
    | (intro x k hx)
    | (intro x hx)
    | split

theorem State.updFallback_later {z0 s : State} (hz : Later z0 s) : Later z0 (State.updFallback s) := by
  unfold State.updFallback
  try dsimp only
  repeat' first
    | (with_reducible assumption)
    | (with_reducible apply State.startFallback_later)
    | (with_reducible apply State.updBadState_later)
    | (with_reducible apply State.each_later)
    | (with_reducible apply State.onlyIf_later)
    | (with_reducible apply State.foldl_later)
    | (intro x k hx)
    | (intro x hx)
    | split

theorem State.restoreParts_later {z0 s : State} (hz : Later z0 s) (h : UpdHold) (cold : Bool) : Later z0 (State.restoreParts s h cold) := by
  unfold State.restoreParts
  try dsimp only
  repeat' first
    | (with_reducible assumption)
    | (with_reducible apply State.setInstalled_later)
    | (with_reducible apply State.setUpd_later)
    | (with_reducible apply State.stagePart_later)
    | (with_reducible apply State.fallback_later)
    | (with_reducible apply State.each_later)
    | (with_reducible apply State.onlyIf_later)
    | (with_reducible apply State.foldl_later)
    | (intro x k hx)

theorem State.tellFallback_later {z0 s : State} (hz : Later z0 s) (h : UpdHold) (t : Nat) : Later z0 (State.tellFallback s h t) := by
  unfold State.tellFallback
  try dsimp only
  repeat' first
    | (with_reducible assumption)
    | (with_reducible apply State.announceImages_later)
    | (with_reducible apply State.each_later)
    | (with_reducible apply State.onlyIf_later)
    | (with_reducible apply State.foldl_later)
    | (intro x k hx)
    | (intro x hx)
    | split

theorem execFallbackRestoreDone_later (s : State) : Runs s (execFallbackRestoreDone s) := by
  unfold execFallbackRestoreDone
  try dsimp only
  repeat' first
    | (with_reducible assumption)
    | (with_reducible exact Later.refl _)
    | (with_reducible apply Runs.next)
    | (with_reducible apply State.restoreParts_later)
    | (with_reducible apply State.setUpd_later)
    | (with_reducible apply State.tellFallback_later)
    | (with_reducible apply State.each_later)
    | (with_reducible apply State.onlyIf_later)
    | (with_reducible apply State.foldl_later)
    | (intro x k hx)
    | (intro x hx)
    | split

theorem execFallbackReset_later (s : State) : Runs s (execFallbackReset s) := by
  unfold execFallbackReset
  try dsimp only
  repeat' first
    | (with_reducible assumption)
    | (with_reducible exact Later.refl _)
    | (with_reducible apply Runs.next)
    | (with_reducible apply State.moveTo_later)
    | (with_reducible apply State.setUpd_later)
    | (with_reducible apply State.coldCommand_later)
    | (with_reducible apply State.each_later)
    | (with_reducible apply State.onlyIf_later)
    | (with_reducible apply State.foldl_later)
    | (intro x k hx)
    | (intro x hx)
    | split

theorem execNodeVersionTimeout_later (s : State) : Runs s (execNodeVersionTimeout s) := by
  unfold execNodeVersionTimeout
  try dsimp only
  repeat' first
    | (with_reducible assumption)
    | (with_reducible exact Later.refl _)
    | (with_reducible apply Runs.next)
    | (with_reducible apply State.moveTo_later)
    | (with_reducible apply State.setUpd_later)
    | (with_reducible apply State.startFallback_later)
    | (with_reducible apply State.each_later)
    | (with_reducible apply State.onlyIf_later)
    | (with_reducible apply State.foldl_later)
    | (intro x k hx)
    | (intro x hx)
    | split

theorem State.updCold_later {z0 s : State} (hz : Later z0 s) (microFail : Bool) : Later z0 (State.updCold s microFail) := by
  unfold State.updCold
  try dsimp only
  repeat' first
    | (with_reducible assumption)
    | (with_reducible apply State.updDrop_later)
    | (with_reducible apply State.updRefuse_later)
    | (with_reducible apply State.stagePart_later)
    | (with_reducible apply State.updBegin_later)
    | (with_reducible apply State.startFallback_later)
    | (with_reducible apply State.restoreParts_later)
    | (with_reducible apply State.sendImages_later)
    | (with_reducible apply State.each_later)
    | (with_reducible apply State.onlyIf_later)
    | (with_reducible apply State.foldl_later)
    | (intro x k hx)
    | (intro x hx)
    | split

theorem State.updPartFailed_later {z0 s : State} (hz : Later z0 s) : Later z0 (State.updPartFailed s) := by
  unfold State.updPartFailed
  try dsimp only
  repeat' first
    | (with_reducible assumption)
    | (with_reducible apply State.startFallback_later)
    | (with_reducible apply State.restoreParts_later)
    | (with_reducible apply State.each_later)
    | (with_reducible apply State.onlyIf_later)
    | (with_reducible apply State.foldl_later)
    | (intro x k hx)
    | (intro x hx)
    | split

theorem State.reserveLoad_later {z0 s : State} (hz : Later z0 s) : Later z0 (State.reserveLoad s) := by
  unfold State.reserveLoad
  try dsimp only
  repeat' first
    | (with_reducible assumption)
    | (with_reducible apply State.raise_later)
    | (with_reducible apply State.each_later)
    | (with_reducible apply State.onlyIf_later)
    | (with_reducible apply State.foldl_later)
    | (intro x k hx)
    | (intro x hx)
    | split

theorem State.updFirmware_later {z0 s : State} (hz : Later z0 s) (cold : Bool) : Later z0 (State.updFirmware s cold) := by
  unfold State.updFirmware
  try dsimp only
  repeat' first
    | (with_reducible assumption)
    | (with_reducible apply State.tellFallback_later)
    | (with_reducible apply State.raise_later)
    | (with_reducible apply State.updDrop_later)
    | (with_reducible apply State.setUpd_later)
    | (with_reducible apply State.each_later)
    | (with_reducible apply State.onlyIf_later)
    | (with_reducible apply State.foldl_later)
    | (intro x k hx)
    | (intro x hx)
    | split

theorem State.updReset_later {z0 s : State} (hz : Later z0 s) : Later z0 (State.updReset s) := by
  unfold State.updReset
  try dsimp only
  repeat' first
    | (with_reducible assumption)
    | (with_reducible apply State.updAbandon_later)
    | (with_reducible apply State.each_later)
    | (with_reducible apply State.onlyIf_later)
    | (with_reducible apply State.foldl_later)
    | (intro x k hx)
    | (intro x hx)
    | split

theorem State.updCommand_later {z0 s : State} (hz : Later z0 s) (cmd : Nat) : Later z0 (State.updCommand s cmd) := by
  unfold State.updCommand
  try dsimp only
  repeat' first
    | (with_reducible assumption)
    | (with_reducible apply State.updLoad_later)
    | (with_reducible apply State.updActivate_later)
    | (with_reducible apply State.updCancel_later)
    | (with_reducible apply State.updConfirm_later)
    | (with_reducible apply State.updFallback_later)
    | (with_reducible apply State.each_later)
    | (with_reducible apply State.onlyIf_later)
    | (with_reducible apply State.foldl_later)
    | (intro x k hx)
    | (intro x hx)
    | split

theorem execLoad_later (s : State) : Runs s (execLoad s) := by
  unfold execLoad
  try dsimp only
  repeat' first
    | (with_reducible assumption)
    | (with_reducible exact Later.refl _)
    | (with_reducible apply Runs.next)
    | (with_reducible apply State.updCommand_later)

theorem execActivate_later (s : State) : Runs s (execActivate s) := by
  unfold execActivate
  try dsimp only
  repeat' first
    | (with_reducible assumption)
    | (with_reducible exact Later.refl _)
    | (with_reducible apply Runs.next)
    | (with_reducible apply State.updCommand_later)

theorem execCancel_later (s : State) : Runs s (execCancel s) := by
  unfold execCancel
  try dsimp only
  repeat' first
    | (with_reducible assumption)
    | (with_reducible exact Later.refl _)
    | (with_reducible apply Runs.next)
    | (with_reducible apply State.updCommand_later)

theorem execConfirm_later (s : State) : Runs s (execConfirm s) := by
  unfold execConfirm
  try dsimp only
  repeat' first
    | (with_reducible assumption)
    | (with_reducible exact Later.refl _)
    | (with_reducible apply Runs.next)
    | (with_reducible apply State.updCommand_later)

theorem execFallback_later (s : State) : Runs s (execFallback s) := by
  unfold execFallback
  try dsimp only
  repeat' first
    | (with_reducible assumption)
    | (with_reducible exact Later.refl _)
    | (with_reducible apply Runs.next)
    | (with_reducible apply State.updCommand_later)

end Sys2Proof.Machine
end

