-- ==== Sys2Proof/Laws/LaterNdef.lean ====
section
/-! SUPPORT. Every operation and every command of the tag's NDEF record leads to a later state (Laws/Later.lean). -/

namespace Sys2Proof.Machine

open Sys2Proof

theorem State.writeNdef_later {z0 s : State} (hz : Later z0 s) (words : List Nat) : Later z0 (State.writeNdef s words) := by
  unfold State.writeNdef
  try dsimp only
  repeat' first
    | (with_reducible assumption)
    | (with_reducible apply State.setClu_later)

theorem State.rewriteNdef_later {z0 s : State} (hz : Later z0 s) : Later z0 (State.rewriteNdef s) := by
  unfold State.rewriteNdef
  try dsimp only
  repeat' first
    | (with_reducible assumption)
    | (with_reducible apply State.writeHold_later)
    | (with_reducible apply State.writeNdef_later)
    | (with_reducible apply State.setClu_later)

theorem execNdefRewrite_later (cut : Option (Fin 3)) (s : State) : Runs s (execNdefRewrite cut s) := by
  unfold execNdefRewrite
  try dsimp only
  repeat' first
    | (with_reducible assumption)
    | (with_reducible exact Later.refl _)
    | (with_reducible apply Runs.next)
    | (with_reducible apply State.rewriteNdef_later)
    | (with_reducible apply State.writeHold_later)
    | (with_reducible apply State.writeNdef_later)
    | (with_reducible apply State.take_later)
    | (with_reducible apply State.setClu_later)
    | (with_reducible apply State.each_later)
    | (with_reducible apply State.onlyIf_later)
    | (with_reducible apply State.foldl_later)
    | (intro x k hx)
    | (intro x hx)
    | split

theorem State.ndefStart_later {z0 s : State} (hz : Later z0 s) : Later z0 (State.ndefStart s) := by
  unfold State.ndefStart
  try dsimp only
  repeat' first
    | (with_reducible assumption)
    | (with_reducible apply State.rewriteNdef_later)
    | (with_reducible apply State.each_later)
    | (with_reducible apply State.onlyIf_later)

end Sys2Proof.Machine
end

