-- ==== Sys2Proof/Laws/LaterPower.lean ====
section
/-! SUPPORT. Every operation and every command of the BCU and the CGU leads to a later state (Laws/Later.lean). -/

namespace Sys2Proof.Machine

open Sys2Proof

theorem State.showVin_later {z0 s : State} (hz : Later z0 s) (lo : Nat) (size : Nat) : Later z0 (State.showVin s lo size) := by
  unfold State.showVin
  try dsimp only
  repeat' first
    | (with_reducible assumption)
    | (with_reducible apply State.draw_later)
    | (with_reducible apply State.put_later)

theorem execVinLoss_later (kind : VinState) (s : State) : Runs s (execVinLoss kind s) := by
  unfold execVinLoss
  try dsimp only
  repeat' first
    | (with_reducible assumption)
    | (with_reducible exact Later.refl _)
    | (with_reducible apply Runs.next)
    | (with_reducible apply State.setBcu_later)
    | (with_reducible apply State.showVin_later)
    | (with_reducible apply State.put_later)
    | (with_reducible apply State.each_later)
    | (with_reducible apply State.onlyIf_later)
    | (with_reducible apply State.foldl_later)
    | (intro x k hx)
    | (intro x hx)
    | split

theorem execSupplyDip_later (ms : Nat) (s : State) : Runs s (execSupplyDip ms s) := by
  unfold execSupplyDip
  try dsimp only
  repeat' first
    | (with_reducible assumption)
    | (with_reducible exact Later.refl _)
    | (with_reducible apply Runs.next)
    | (with_reducible apply State.moveTo_later)
    | (with_reducible apply State.showVin_later)
    | (with_reducible apply State.setBcu_later)
    | (with_reducible apply State.put_later)
    | (with_reducible apply State.raise_later)
    | (with_reducible apply State.each_later)
    | (with_reducible apply State.onlyIf_later)
    | (with_reducible apply State.foldl_later)
    | (intro x k hx)
    | (intro x hx)
    | split

theorem execPowerFailure_later (cause : Fin 3) (s : State) : Runs s (execPowerFailure cause s) := by
  unfold execPowerFailure
  try dsimp only
  repeat' first
    | (with_reducible assumption)
    | (with_reducible exact Later.refl _)
    | (with_reducible apply Runs.next)
    | (with_reducible apply State.setBcu_later)
    | (with_reducible apply State.put_later)
    | (with_reducible apply State.declarePf_later)
    | (with_reducible apply State.moveTo_later)
    | (with_reducible apply State.each_later)
    | (with_reducible apply State.onlyIf_later)
    | (with_reducible apply State.foldl_later)
    | (intro x k hx)
    | (intro x hx)
    | split

theorem execHoldupEnd_later (s : State) : Runs s (execHoldupEnd s) := by
  unfold execHoldupEnd
  try dsimp only
  repeat' first
    | (with_reducible assumption)
    | (with_reducible exact Later.refl _)
    | (with_reducible apply Runs.next)
    | (with_reducible apply State.draw_later)
    | (with_reducible apply State.finishCommit_later)
    | (with_reducible apply State.moveTo_later)
    | (with_reducible apply State.clearDomains_later)
    | (with_reducible apply State.put_later)
    | (with_reducible apply State.setBcu_later)
    | (with_reducible apply State.each_later)
    | (with_reducible apply State.onlyIf_later)
    | (with_reducible apply State.foldl_later)
    | (intro x k hx)
    | (intro x hx)
    | (with_reducible refine Later.snd ?_ (by assumption))
    | split

theorem execRestoration_later (s : State) : Runs s (execRestoration s) := by
  unfold execRestoration
  try dsimp only
  repeat' first
    | (with_reducible assumption)
    | (with_reducible exact Later.refl _)
    | (with_reducible apply Runs.next)
    | (with_reducible apply State.draw_later)
    | (with_reducible apply State.moveTo_later)
    | (with_reducible apply State.showVin_later)
    | (with_reducible apply State.put_later)
    | (with_reducible apply State.setBcu_later)
    | (with_reducible apply State.releaseCold_later)
    | (with_reducible apply State.each_later)
    | (with_reducible apply State.onlyIf_later)
    | (with_reducible apply State.foldl_later)
    | (intro x k hx)
    | (intro x hx)
    | (with_reducible refine Later.snd ?_ (by assumption))
    | split

theorem execBasecampLoss_later (s : State) : Runs s (execBasecampLoss s) := by
  unfold execBasecampLoss
  try dsimp only
  repeat' first
    | (with_reducible assumption)
    | (with_reducible exact Later.refl _)
    | (with_reducible apply Runs.next)
    | (with_reducible apply State.clearUnit_later)
    | (with_reducible apply State.each_later)
    | (with_reducible apply State.onlyIf_later)
    | (with_reducible apply State.foldl_later)
    | (intro x k hx)
    | (intro x hx)
    | split
    | (with_reducible refine Later.built ?_ ?_ ?_ ?_; rotate_left; exact rfl; exact rfl; exact rfl)

theorem execBasecampSourceChange_later (src : Fin 3) (s : State) : Runs s (execBasecampSourceChange src s) := by
  unfold execBasecampSourceChange
  try dsimp only
  repeat' first
    | (with_reducible assumption)
    | (with_reducible exact Later.refl _)
    | (with_reducible apply Runs.next)
    | (with_reducible apply State.put_later)
    | (with_reducible apply State.setBcu_later)
    | (with_reducible apply State.each_later)
    | (with_reducible apply State.onlyIf_later)
    | (with_reducible apply State.foldl_later)
    | (intro x k hx)
    | (intro x hx)
    | split

theorem execVbatMeasure_later (mv : BitVec 16) (s : State) : Runs s (execVbatMeasure mv s) := by
  unfold execVbatMeasure
  try dsimp only
  repeat' first
    | (with_reducible assumption)
    | (with_reducible exact Later.refl _)
    | (with_reducible apply Runs.next)
    | (with_reducible apply State.put_later)
    | (with_reducible apply State.raise_later)
    | (with_reducible apply State.each_later)
    | (with_reducible apply State.onlyIf_later)
    | (with_reducible apply State.foldl_later)
    | (intro x k hx)
    | (intro x hx)
    | split

theorem execXtal32Check_later (good : Bool) (settled : Bool) (s : State) : Runs s (execXtal32Check good settled s) := by
  unfold execXtal32Check
  try dsimp only
  repeat' first
    | (with_reducible assumption)
    | (with_reducible exact Later.refl _)
    | (with_reducible apply Runs.next)
    | (with_reducible apply State.setBcu_later)
    | (with_reducible apply State.put_later)
    | (with_reducible apply State.raise_later)
    | (with_reducible apply State.each_later)
    | (with_reducible apply State.onlyIf_later)
    | (with_reducible apply State.foldl_later)
    | (intro x k hx)
    | (intro x hx)
    | split

theorem execHoldupMeasurementDone_later (microfarad : BitVec 16) (s : State) : Runs s (execHoldupMeasurementDone microfarad s) := by
  unfold execHoldupMeasurementDone
  try dsimp only
  repeat' first
    | (with_reducible assumption)
    | (with_reducible exact Later.refl _)
    | (with_reducible apply Runs.next)
    | (with_reducible apply State.put_later)
    | (with_reducible apply State.raise_later)
    | (with_reducible apply State.each_later)
    | (with_reducible apply State.onlyIf_later)
    | (with_reducible apply State.foldl_later)
    | (intro x k hx)
    | (intro x hx)
    | split

theorem execCrystalProven_later (tenMicros : Nat) (s : State) : Runs s (execCrystalProven tenMicros s) := by
  unfold execCrystalProven
  try dsimp only
  repeat' first
    | (with_reducible assumption)
    | (with_reducible exact Later.refl _)
    | (with_reducible apply Runs.next)
    | (with_reducible apply State.moveTo_later)
    | (with_reducible apply State.put_later)
    | (with_reducible apply State.raise_later)
    | (with_reducible apply State.mclkStart_later)
    | (with_reducible apply State.each_later)
    | (with_reducible apply State.onlyIf_later)
    | (with_reducible apply State.foldl_later)
    | (intro x k hx)
    | (intro x hx)
    | split

theorem execCrystalNotProven_later (s : State) : Runs s (execCrystalNotProven s) := by
  unfold execCrystalNotProven
  try dsimp only
  repeat' first
    | (with_reducible assumption)
    | (with_reducible exact Later.refl _)
    | (with_reducible apply Runs.next)
    | (with_reducible apply State.moveTo_later)
    | (with_reducible apply State.put_later)
    | (with_reducible apply State.raise_later)
    | (with_reducible apply State.each_later)
    | (with_reducible apply State.onlyIf_later)
    | (with_reducible apply State.foldl_later)
    | (intro x k hx)
    | (intro x hx)
    | split

theorem execCrystalFailure_later (kind : Fin 3) (s : State) : Runs s (execCrystalFailure kind s) := by
  unfold execCrystalFailure
  try dsimp only
  repeat' first
    | (with_reducible assumption)
    | (with_reducible exact Later.refl _)
    | (with_reducible apply Runs.next)
    | (with_reducible apply State.put_later)
    | (with_reducible apply State.raise_later)
    | (with_reducible apply State.coldCommand_later)
    | (with_reducible apply State.each_later)
    | (with_reducible apply State.onlyIf_later)
    | (with_reducible apply State.foldl_later)
    | (intro x k hx)
    | (intro x hx)
    | split

theorem execPllLockLoss_later (s : State) : Runs s (execPllLockLoss s) := by
  unfold execPllLockLoss
  try dsimp only
  repeat' first
    | (with_reducible assumption)
    | (with_reducible exact Later.refl _)
    | (with_reducible apply Runs.next)
    | (with_reducible apply State.put_later)
    | (with_reducible apply State.raise_later)
    | (with_reducible apply State.coldCommand_later)
    | (with_reducible apply State.each_later)
    | (with_reducible apply State.onlyIf_later)
    | (with_reducible apply State.foldl_later)
    | (intro x k hx)
    | (intro x hx)
    | split

theorem State.startCount_later {z0 s : State} (hz : Later z0 s) (win : Nat) (ref : Nat) (meas : Nat) : Later z0 (State.startCount s win ref meas) := by
  unfold State.startCount
  try dsimp only
  repeat' first
    | (with_reducible assumption)
    | (with_reducible apply State.put_later)
    | (with_reducible apply State.each_later)
    | (with_reducible apply State.onlyIf_later)
    | (with_reducible apply State.foldl_later)
    | (intro x k hx)
    | (intro x hx)
    | split

theorem execStart_later (win : Nat) (ref : Fin 16) (meas : Fin 16) (s : State) : Runs s (execStart win ref meas s) := by
  unfold execStart
  try dsimp only
  repeat' first
    | (with_reducible assumption)
    | (with_reducible exact Later.refl _)
    | (with_reducible apply Runs.next)
    | (with_reducible apply State.startCount_later)

theorem execFrequencyMeasurementDone_later (count : Nat) (s : State) : Runs s (execFrequencyMeasurementDone count s) := by
  unfold execFrequencyMeasurementDone
  try dsimp only
  repeat' first
    | (with_reducible assumption)
    | (with_reducible exact Later.refl _)
    | (with_reducible apply Runs.next)
    | (with_reducible apply State.put_later)
    | (with_reducible apply State.each_later)
    | (with_reducible apply State.onlyIf_later)
    | (with_reducible apply State.foldl_later)
    | (intro x k hx)
    | (intro x hx)
    | split

theorem State.writeClken_later {z0 s : State} (hz : Later z0 s) (v : Nat) : Later z0 (State.writeClken s v) := by
  unfold State.writeClken
  try dsimp only
  repeat' first
    | (with_reducible assumption)
    | (with_reducible apply State.put_later)
    | (with_reducible apply State.degrade_later)

theorem execClockEnableWrite_later (value : BitVec 32) (s : State) : Runs s (execClockEnableWrite value s) := by
  unfold execClockEnableWrite
  try dsimp only
  repeat' first
    | (with_reducible assumption)
    | (with_reducible exact Later.refl _)
    | (with_reducible apply Runs.next)
    | (with_reducible apply State.writeClken_later)

theorem State.safetyRestart_later {z0 s : State} (hz : Later z0 s) : Later z0 (State.safetyRestart s) := by
  unfold State.safetyRestart
  try dsimp only
  repeat' first
    | (with_reducible assumption)
    | (with_reducible apply State.gseStart_later)
    | (with_reducible apply State.raise_later)

theorem State.unitAction_later {z0 s : State} (hz : Later z0 s) (unit : Nat) (index : Nat) : Later z0 (State.unitAction s unit index) := by
  unfold State.unitAction
  try dsimp only
  repeat' first
    | (with_reducible assumption)
    | (with_reducible apply State.oiuReset_later)
    | (with_reducible apply State.trackIdle_later)
    | (with_reducible apply State.vceReset_later)
    | (with_reducible apply State.dropAll_later)
    | (with_reducible apply State.meuReset_later)
    | (with_reducible apply State.bookNow_later)
    | (with_reducible apply State.efuReset_later)
    | (with_reducible apply State.swReset_later)
    | (with_reducible apply State.safetyRestart_later)
    | (with_reducible apply State.cluWarm_later)
    | (with_reducible apply State.tlsLost_later)
    | (with_reducible apply State.secStart_later)
    | (with_reducible apply State.alkRestart_later)
    | (with_reducible apply State.ntuReset_later)
    | (with_reducible apply State.hpuReset_later)
    | (with_reducible apply State.dseStart_later)
    | (with_reducible apply State.updReset_later)
    | (with_reducible apply State.each_later)
    | (with_reducible apply State.onlyIf_later)
    | (with_reducible apply State.foldl_later)
    | (intro x k hx)
    | (intro x hx)
    | split

theorem State.unitReset_later {z0 s : State} (hz : Later z0 s) (unit : Nat) (index : Nat) : Later z0 (State.unitReset s unit index) := by
  unfold State.unitReset
  try dsimp only
  repeat' first
    | (with_reducible assumption)
    | (with_reducible apply State.raise2_later)
    | (with_reducible apply State.setBcu_later)
    | (with_reducible apply State.unitAction_later)
    | (with_reducible apply State.degrade_later)
    | (with_reducible apply State.each_later)
    | (with_reducible apply State.onlyIf_later)
    | (with_reducible apply State.foldl_later)
    | (intro x k hx)
    | (intro x hx)
    | split

theorem State.resetCommand_later {z0 s : State} (hz : Later z0 s) (m : Nat) (key : Nat) (cmd : Nat) (unit : Nat) (index : Nat) : Later z0 (State.resetCommand s m key cmd unit index) := by
  unfold State.resetCommand
  try dsimp only
  repeat' first
    | (with_reducible assumption)
    | (with_reducible apply State.warmReset_later)
    | (with_reducible apply State.coldCommand_later)
    | (with_reducible apply State.safetyRestart_later)
    | (with_reducible apply State.unitReset_later)
    | (with_reducible apply State.each_later)
    | (with_reducible apply State.onlyIf_later)
    | (with_reducible apply State.foldl_later)
    | (intro x k hx)
    | (intro x hx)
    | split

theorem execWarmResetCommand_later (m : Fin 22) (key : BitVec 8) (s : State) : Runs s (execWarmResetCommand m key s) := by
  unfold execWarmResetCommand
  try dsimp only
  repeat' first
    | (with_reducible assumption)
    | (with_reducible exact Later.refl _)
    | (with_reducible apply Runs.next)
    | (with_reducible apply State.resetCommand_later)

theorem execColdResetCommand_later (key : BitVec 8) (s : State) : Runs s (execColdResetCommand key s) := by
  unfold execColdResetCommand
  try dsimp only
  repeat' first
    | (with_reducible assumption)
    | (with_reducible exact Later.refl _)
    | (with_reducible apply Runs.next)
    | (with_reducible apply State.resetCommand_later)

theorem execSafetyRestartCommand_later (key : BitVec 8) (s : State) : Runs s (execSafetyRestartCommand key s) := by
  unfold execSafetyRestartCommand
  try dsimp only
  repeat' first
    | (with_reducible assumption)
    | (with_reducible exact Later.refl _)
    | (with_reducible apply Runs.next)
    | (with_reducible apply State.resetCommand_later)

theorem execUnitResetCommand_later (key : BitVec 8) (unit : BitVec 8) (index : BitVec 8) (s : State) : Runs s (execUnitResetCommand key unit index s) := by
  unfold execUnitResetCommand
  try dsimp only
  repeat' first
    | (with_reducible assumption)
    | (with_reducible exact Later.refl _)
    | (with_reducible apply Runs.next)
    | (with_reducible apply State.resetCommand_later)

theorem execUnitResetEnd_later (unit : BitVec 8) (index : BitVec 8) (s : State) : Runs s (execUnitResetEnd unit index s) := by
  unfold execUnitResetEnd
  try dsimp only
  repeat' first
    | (with_reducible assumption)
    | (with_reducible exact Later.refl _)
    | (with_reducible apply Runs.next)
    | (with_reducible apply State.setBcu_later)
    | (with_reducible apply State.raise2_later)
    | (with_reducible apply State.meuResume_later)
    | (with_reducible apply State.swRefresh_later)
    | (with_reducible apply State.each_later)
    | (with_reducible apply State.onlyIf_later)
    | (with_reducible apply State.foldl_later)
    | (intro x k hx)
    | (intro x hx)
    | split

theorem execWarmReset_later (cause : Fin 4) (s : State) : Runs s (execWarmReset cause s) := by
  unfold execWarmReset
  try dsimp only
  repeat' first
    | (with_reducible assumption)
    | (with_reducible exact Later.refl _)
    | (with_reducible apply Runs.next)
    | (with_reducible apply State.warmReset_later)

theorem State.kick_later {z0 s : State} (hz : Later z0 s) (m : Nat) : Later z0 (State.kick s m) := by
  unfold State.kick
  try dsimp only
  repeat' first
    | (with_reducible assumption)
    | (with_reducible apply State.warmReset_later)
    | (with_reducible apply State.setBcu_later)
    | (with_reducible apply State.each_later)
    | (with_reducible apply State.onlyIf_later)
    | (with_reducible apply State.foldl_later)
    | (intro x k hx)
    | (intro x hx)
    | split

theorem execKick_later (m : Fin 22) (s : State) : Runs s (execKick m s) := by
  unfold execKick
  try dsimp only
  repeat' first
    | (with_reducible assumption)
    | (with_reducible exact Later.refl _)
    | (with_reducible apply Runs.next)
    | (with_reducible apply State.kick_later)
    | (with_reducible apply State.each_later)
    | (with_reducible apply State.onlyIf_later)
    | (with_reducible apply State.foldl_later)
    | (intro x k hx)
    | (intro x hx)
    | split
    | (with_reducible refine Later.built ?_ ?_ ?_ ?_; rotate_left; exact rfl; exact rfl; exact rfl)

theorem execWatchdogExpiry_later (s : State) : Runs s (execWatchdogExpiry s) := by
  unfold execWatchdogExpiry
  try dsimp only
  repeat' first
    | (with_reducible assumption)
    | (with_reducible exact Later.refl _)
    | (with_reducible apply Runs.next)
    | (with_reducible apply State.moveTo_later)
    | (with_reducible apply State.warmReset_later)
    | (with_reducible apply State.each_later)
    | (with_reducible apply State.onlyIf_later)
    | (with_reducible apply State.foldl_later)
    | (intro x k hx)
    | (intro x hx)
    | split

theorem execA0FreezeEscalation_later (s : State) : Runs s (execA0FreezeEscalation s) := by
  unfold execA0FreezeEscalation
  try dsimp only
  repeat' first
    | (with_reducible assumption)
    | (with_reducible exact Later.refl _)
    | (with_reducible apply Runs.next)
    | (with_reducible apply State.moveTo_later)
    | (with_reducible apply State.raise_later)
    | (with_reducible apply State.warmReset_later)
    | (with_reducible apply State.each_later)
    | (with_reducible apply State.onlyIf_later)
    | (with_reducible apply State.foldl_later)
    | (intro x k hx)
    | (intro x hx)
    | split

theorem State.writeHealthy_later {z0 s : State} (hz : Later z0 s) : Later z0 (State.writeHealthy s) := by
  unfold State.writeHealthy
  try dsimp only
  repeat' first
    | (with_reducible assumption)
    | (with_reducible apply State.put_later)
    | (with_reducible apply State.setBcu_later)
    | (with_reducible apply State.setUpd_later)
    | (with_reducible apply State.each_later)
    | (with_reducible apply State.onlyIf_later)
    | (with_reducible apply State.foldl_later)
    | (intro x k hx)
    | (intro x hx)
    | split

theorem execHealthy_later (s : State) : Runs s (execHealthy s) := by
  unfold execHealthy
  try dsimp only
  repeat' first
    | (with_reducible assumption)
    | (with_reducible exact Later.refl _)
    | (with_reducible apply Runs.next)
    | (with_reducible apply State.writeHealthy_later)
    | (with_reducible apply State.each_later)
    | (with_reducible apply State.onlyIf_later)
    | (with_reducible apply State.foldl_later)
    | (intro x k hx)
    | (intro x hx)
    | split
    | (with_reducible refine Later.built ?_ ?_ ?_ ?_; rotate_left; exact rfl; exact rfl; exact rfl)

theorem State.guyExpire_later {z0 s : State} (hz : Later z0 s) (t : Nat) : Later z0 (State.guyExpire s t) := by
  unfold State.guyExpire
  try dsimp only
  repeat' first
    | (with_reducible assumption)
    | (with_reducible apply State.moveTo_later)
    | (with_reducible apply State.setBcu_later)
    | (with_reducible apply State.put_later)
    | (with_reducible apply State.raise_later)
    | (with_reducible apply State.guyShutdown_later)
    | (with_reducible apply State.swGuyExpiry_later)
    | (with_reducible apply State.each_later)
    | (with_reducible apply State.onlyIf_later)
    | (with_reducible apply State.foldl_later)
    | (intro x k hx)

theorem State.freePilot_later {z0 s : State} (hz : Later z0 s) (n : Nat) : Later z0 (State.freePilot s n) := by
  unfold State.freePilot
  try dsimp only
  repeat' first
    | (with_reducible assumption)
    | (with_reducible apply State.setOiu_later)
    | (with_reducible apply State.each_later)
    | (with_reducible apply State.onlyIf_later)
    | (with_reducible apply State.foldl_later)
    | (intro x k hx)
    | (intro x hx)

theorem State.takeOver_later {z0 s : State} (hz : Later z0 s) : Later z0 (State.takeOver s) := by
  unfold State.takeOver
  try dsimp only
  repeat' first
    | (with_reducible assumption)
    | (with_reducible apply State.guyExpire_later)
    | (with_reducible apply State.endHold_later)
    | (with_reducible apply State.freePilot_later)
    | (with_reducible apply State.raise_later)
    | (with_reducible apply State.drive_later)
    | (with_reducible apply State.each_later)
    | (with_reducible apply State.onlyIf_later)
    | (with_reducible apply State.foldl_later)
    | (intro x k hx)
    | (intro x hx)
    | split

theorem execTake_later (s : State) : Runs s (execTake s) := by
  unfold execTake
  try dsimp only
  repeat' first
    | (with_reducible assumption)
    | (with_reducible exact Later.refl _)
    | (with_reducible apply Runs.next)
    | (with_reducible apply State.takeOver_later)
    | (with_reducible apply State.each_later)
    | (with_reducible apply State.onlyIf_later)
    | (with_reducible apply State.foldl_later)
    | (intro x k hx)
    | (intro x hx)
    | split
    | (with_reducible refine Later.built ?_ ?_ ?_ ?_; rotate_left; exact rfl; exact rfl; exact rfl)

theorem execGuyHoldExpiry_later (s : State) : Runs s (execGuyHoldExpiry s) := by
  unfold execGuyHoldExpiry
  try dsimp only
  repeat' first
    | (with_reducible assumption)
    | (with_reducible exact Later.refl _)
    | (with_reducible apply Runs.next)
    | (with_reducible apply State.guyExpire_later)
    | (with_reducible apply State.each_later)
    | (with_reducible apply State.onlyIf_later)
    | (with_reducible apply State.foldl_later)
    | (intro x k hx)
    | (intro x hx)
    | split

theorem execImageCheckDone_later (pass : Bool) (s : State) : Runs s (execImageCheckDone pass s) := by
  unfold execImageCheckDone
  try dsimp only
  repeat' first
    | (with_reducible assumption)
    | (with_reducible exact Later.refl _)
    | (with_reducible apply Runs.next)
    | (with_reducible apply State.raise_later)
    | (with_reducible apply State.reserveLoad_later)
    | (with_reducible apply State.each_later)
    | (with_reducible apply State.onlyIf_later)
    | (with_reducible apply State.foldl_later)
    | (intro x k hx)
    | (intro x hx)
    | split

theorem execColdStart_later (secRow : Fin 20) (microFail : Bool) (s : State) : Runs s (execColdStart secRow microFail s) := by
  unfold execColdStart
  try dsimp only
  repeat' first
    | (with_reducible assumption)
    | (with_reducible exact Later.refl _)
    | (with_reducible apply Runs.next)
    | (with_reducible apply State.finishCommit_later)
    | (with_reducible apply State.clearDomains_later)
    | (with_reducible apply State.releaseCold_later)
    | (with_reducible apply State.updCold_later)
    | (with_reducible apply State.pplCold_later)
    | (with_reducible apply State.updPartFailed_later)
    | (with_reducible apply State.meuRestore_later)
    | (with_reducible apply State.setBcu_later)
    | (with_reducible apply State.gseStart_later)
    | (with_reducible apply State.lgsStart_later)
    | (with_reducible apply State.secStart_later)
    | (with_reducible apply State.alkRestart_later)
    | (with_reducible apply State.dseStart_later)
    | (with_reducible apply State.cluStart_later)
    | (with_reducible apply State.ndefStart_later)
    | (with_reducible apply State.showLanesOn_later)
    | (with_reducible apply State.showLgs_later)
    | (with_reducible apply State.each_later)
    | (with_reducible apply State.onlyIf_later)
    | (with_reducible apply State.foldl_later)
    | (intro x k hx)
    | (intro x hx)
    | split

theorem execFirmwareRunning_later (s : State) : Runs s (execFirmwareRunning s) := by
  unfold execFirmwareRunning
  try dsimp only
  repeat' first
    | (with_reducible assumption)
    | (with_reducible exact Later.refl _)
    | (with_reducible apply Runs.next)
    | (with_reducible apply State.setBcu_later)
    | (with_reducible apply State.reserveLoad_later)
    | (with_reducible apply State.bluRestore_later)
    | (with_reducible apply State.replayTamper_later)
    | (with_reducible apply State.sealAll_later)
    | (with_reducible apply State.allocEpoch_later)
    | (with_reducible apply State.updFirmware_later)
    | (with_reducible apply State.each_later)
    | (with_reducible apply State.onlyIf_later)
    | (with_reducible apply State.foldl_later)
    | (intro x k hx)
    | (intro x hx)
    | split

theorem execEmberEntry_later (s : State) : Runs s (execEmberEntry s) := by
  unfold execEmberEntry
  try dsimp only
  repeat' first
    | (with_reducible assumption)
    | (with_reducible exact Later.refl _)
    | (with_reducible apply Runs.next)
    | (with_reducible apply State.moveTo_later)
    | (with_reducible apply State.setBcu_later)
    | (with_reducible apply State.put_later)
    | (with_reducible apply State.fieldsOff_later)
    | (with_reducible apply State.showLanesOn_later)
    | (with_reducible apply State.each_later)
    | (with_reducible apply State.onlyIf_later)
    | (with_reducible apply State.foldl_later)
    | (intro x k hx)
    | (intro x hx)
    | split

theorem execEmberExit_later (n : Fin 24) (s : State) : Runs s (execEmberExit n s) := by
  unfold execEmberExit
  try dsimp only
  repeat' first
    | (with_reducible assumption)
    | (with_reducible exact Later.refl _)
    | (with_reducible apply Runs.next)
    | (with_reducible apply State.setBcu_later)
    | (with_reducible apply State.showLanesOn_later)
    | (with_reducible apply State.allocEpoch_later)
    | (with_reducible apply State.requestLane_later)
    | (with_reducible apply State.t1sJoin_later)
    | (with_reducible apply State.each_later)
    | (with_reducible apply State.onlyIf_later)
    | (with_reducible apply State.foldl_later)
    | (intro x k hx)
    | (intro x hx)
    | split

end Sys2Proof.Machine
end

