-- ==== Sys2Proof/Laws/LaterBus.lean ====
section
/-! SUPPORT. Every operation and every command of the fabric leads to a later state (Laws/Later.lean). -/

namespace Sys2Proof.Machine

open Sys2Proof

theorem State.showViolations_later {z0 s : State} (hz : Later z0 s) : Later z0 (State.showViolations s) := by
  unfold State.showViolations
  try dsimp only
  repeat' first
    | (with_reducible assumption)
    | (with_reducible apply State.put_later)

theorem State.frozenMaster_later {z0 s : State} (hz : Later z0 s) (m : Nat) : Later z0 (State.frozenMaster s m) := by
  unfold State.frozenMaster
  try dsimp only
  repeat' first
    | (with_reducible assumption)
    | (with_reducible apply State.putBit_later)
    | (with_reducible apply State.put_later)
    | (with_reducible apply State.dropAll_later)
    | (with_reducible apply State.gseFreeze_later)
    | (with_reducible apply State.vceFail_later)
    | (with_reducible apply State.degrade_later)
    | (with_reducible apply State.tlsLost_later)
    | (with_reducible apply State.each_later)
    | (with_reducible apply State.onlyIf_later)
    | (with_reducible apply State.foldl_later)
    | (intro x k hx)
    | (intro x hx)
    | split
    | (with_reducible refine Later.built ?_ ?_ ?_ ?_; rotate_left; exact rfl; exact rfl; exact rfl)

theorem State.violate_later {z0 s : State} (hz : Later z0 s) (m target access addr : Nat) : Later z0 (State.violate s m target access addr) := by
  have hs : ∀ (x : State) (v : VRec), Later z0 x → decide (16 ≤ x.fab.queue.length) = false →
      Later z0 ({ x with fab := { x.fab with queue := x.fab.queue ++ [v] } } : State) := by
    intro x v hx hq
    refine hx.trans ⟨rfl, Nat.le_refl _, Nat.le_refl _, List.prefix_refl _, id, id, fun _ y => y, fun _ => ?_, id, id⟩
    dsimp only
    rw [List.length_append]
    simp only [decide_eq_false_iff_not] at hq
    simp only [List.length_cons, List.length_nil]
    omega
  unfold State.violate
  extract_lets rec_ full s1 _ s2 s3
  have h1 : Later z0 s1 := State.raise_later (State.count_later hz _ _) _ _
  have hf : s1.fab.queue = s.fab.queue := by
    dsimp only [s1]
    rw [State.raise_fab]; rfl
  clear_value s1
  have h2 : Later z0 s2 := by
    dsimp only [s2]
    split
    · exact State.raise_later (State.put_later h1 _ _ _) _ _
    · rename_i hq
      exact State.showViolations_later (hs _ _ h1 (by rw [hf]; simpa [full] using hq))
  clear_value s2
  exact State.frozenMaster_later (State.request_later h2 _ _) _

theorem State.release_later {z0 s : State} (hz : Later z0 s) (mask : Nat) : Later z0 (State.release s mask) := by
  unfold State.release
  try dsimp only
  repeat' first
    | (with_reducible assumption)
    | (with_reducible apply State.putBit_later)
    | (with_reducible apply State.raise_later)
    | (with_reducible apply State.put_later)
    | (with_reducible apply State.gseRelease_later)
    | (with_reducible apply State.rejoinAll_later)
    | (with_reducible apply State.each_later)
    | (with_reducible apply State.onlyIf_later)
    | (with_reducible apply State.foldl_later)
    | (intro x k hx)
    | (intro x hx)
    | split
    | (with_reducible refine Later.built ?_ ?_ ?_ ?_; rotate_left; exact rfl; exact rfl; exact rfl)

theorem execFabRelease_later (mask : BitVec 22) (s : State) : Runs s (execFabRelease mask s) := by
  unfold execFabRelease
  try dsimp only
  repeat' first
    | (with_reducible assumption)
    | (with_reducible exact Later.refl _)
    | (with_reducible apply Runs.next)
    | (with_reducible apply State.release_later)
    | (with_reducible apply State.each_later)
    | (with_reducible apply State.onlyIf_later)
    | (with_reducible apply State.foldl_later)
    | (intro x k hx)
    | (intro x hx)
    | split

theorem State.popViolation_later {z0 s : State} (hz : Later z0 s) : Later z0 (State.popViolation s) := by
  unfold State.popViolation
  refine State.showViolations_later (hz.trans ⟨rfl, Nat.le_refl _, Nat.le_refl _, List.prefix_refl _, id, id, fun _ x => x, fun h => ?_, id, id⟩)
  dsimp only
  rw [List.length_drop]; omega

theorem execFabVpop_later (s : State) : Runs s (execFabVpop s) := by
  unfold execFabVpop
  try dsimp only
  repeat' first
    | (with_reducible assumption)
    | (with_reducible exact Later.refl _)
    | (with_reducible apply Runs.next)
    | (with_reducible apply State.popViolation_later)

theorem State.shown_later {z0 s : State} (hz : Later z0 s) (u : UnitId) : Later z0 (State.shown s u) := by
  unfold State.shown
  try dsimp only
  repeat' first
    | (with_reducible assumption)
    | (with_reducible apply State.showViolations_later)
    | (with_reducible apply State.showOpen_later)
    | (with_reducible apply State.showStream_later)
    | (with_reducible apply State.showSyncAge_later)
    | (with_reducible apply State.showLgs_later)
    | (with_reducible apply State.showFifo_later)
    | (with_reducible apply State.showNtu_later)
    | (with_reducible apply State.showSlot_later)
    | (with_reducible apply State.showStress_later)
    | (with_reducible apply State.showHold_later)
    | (with_reducible apply State.put64_later)
    | (with_reducible apply State.showUpd_later)
    | (with_reducible apply State.each_later)
    | (with_reducible apply State.onlyIf_later)
    | (with_reducible apply State.foldl_later)
    | (intro x k hx)
    | (intro x hx)
    | split

theorem State.latchOiu_later {r s : State} (h : Later r s) (n : Nat) : Later r (s.latchOiu n) :=
  h.trans ⟨rfl, Nat.le_refl _, Nat.le_refl _, List.prefix_refl _, id, id,
    fun hr hl => regsOk_copy (fun e he => hr.2 e (List.mem_filter.1 he).1) (regsOk_filter hl _), id, id, id⟩

theorem State.snap_later {z0 s : State} (hz : Later z0 s) (u : UnitId) (inst : Nat) : Later z0 (State.snap s u inst) := by
  unfold State.snap
  try dsimp only
  repeat' first
    | (with_reducible assumption)
    | (with_reducible apply State.put_later)
    | (with_reducible apply State.latchOiu_later)
    | (with_reducible apply State.shown_later)
    | (with_reducible apply State.latchFields_later)
    | (with_reducible apply State.each_later)
    | (with_reducible apply State.onlyIf_later)
    | (with_reducible apply State.foldl_later)
    | (intro x k hx)
    | (intro x hx)
    | split

theorem execSnap_later (u : UnitId) (inst : Nat) (s : State) : Runs s (execSnap u inst s) := by
  unfold execSnap
  try dsimp only
  repeat' first
    | (with_reducible assumption)
    | (with_reducible exact Later.refl _)
    | (with_reducible apply Runs.next)
    | (with_reducible apply State.snap_later)

theorem State.writeField_later {z0 s : State} (hz : Later z0 s) (i : Nat) (w : Nat) (f : Fld) : Later z0 (State.writeField i w s f) := by
  unfold State.writeField
  try dsimp only
  repeat' first
    | (with_reducible assumption)
    | (with_reducible apply State.noteWrite_later)
    | (with_reducible apply State.put_later)
    | (with_reducible apply State.each_later)
    | (with_reducible apply State.onlyIf_later)
    | (with_reducible apply State.foldl_later)
    | (intro x k hx)
    | (intro x hx)
    | split

theorem State.cfgViolation_later {z0 s : State} (hz : Later z0 s) (r : Reg) (i : Nat) (off : Nat) : Later z0 (State.cfgViolation s r i off) := by
  unfold State.cfgViolation
  try dsimp only
  repeat' first
    | (with_reducible assumption)
    | (with_reducible apply State.put_later)
    | (with_reducible apply State.raise2_later)
    | (with_reducible apply State.efuViolation_later)
    | (with_reducible apply State.raise_later)
    | (with_reducible apply State.each_later)
    | (with_reducible apply State.onlyIf_later)
    | (with_reducible apply State.foldl_later)
    | (intro x k hx)
    | (intro x hx)
    | split

theorem State.fixMarks_later {z0 s : State} (hz : Later z0 s) : Later z0 (State.fixMarks s) := by
  unfold State.fixMarks
  try dsimp only
  repeat' first
    | (with_reducible assumption)
    | (with_reducible apply State.put_later)
    | (with_reducible apply State.showFifo_later)
    | (with_reducible apply State.each_later)
    | (with_reducible apply State.onlyIf_later)
    | (with_reducible apply State.foldl_later)
    | (intro x k hx)
    | (intro x hx)

theorem State.writeWdto_later {z0 s : State} (hz : Later z0 s) (v : Nat) : Later z0 (State.writeWdto s v) := by
  unfold State.writeWdto
  try dsimp only
  repeat' first
    | (with_reducible assumption)
    | (with_reducible apply State.setBcu_later)
    | (with_reducible apply State.put_later)

theorem State.writeAction_later {z0 s : State} (hz : Later z0 s) (m : Nat) (viol : Bool) (r : Reg) (i : Nat) (w : Nat) : Later z0 (State.writeAction s m viol r i w) := by
  unfold State.writeAction
  try dsimp only
  repeat' first
    | (with_reducible assumption)
    | (with_reducible apply State.release_later)
    | (with_reducible apply State.popViolation_later)
    | (with_reducible apply State.pplVerify_later)
    | (with_reducible apply State.pplActivate_later)
    | (with_reducible apply State.pplDiscard_later)
    | (with_reducible apply State.snap_later)
    | (with_reducible apply State.clearOiuFaults_later)
    | (with_reducible apply State.startLock_later)
    | (with_reducible apply State.writeUnlock_later)
    | (with_reducible apply State.putEff_later)
    | (with_reducible apply State.contact_later)
    | (with_reducible apply State.writeCloseEn_later)
    | (with_reducible apply State.writeOcmd_later)
    | (with_reducible apply State.put_later)
    | (with_reducible apply State.lockClear_later)
    | (with_reducible apply State.tripClear_later)
    | (with_reducible apply State.draw_later)
    | (with_reducible apply State.calibrate_later)
    | (with_reducible apply State.writeTest_later)
    | (with_reducible apply State.latchClear_later)
    | (with_reducible apply State.writeOn_later)
    | (with_reducible apply State.antennaOn_later)
    | (with_reducible apply State.antennaOff_later)
    | (with_reducible apply State.writeHold_later)
    | (with_reducible apply State.clearTfail_later)
    | (with_reducible apply State.loadKey_later)
    | (with_reducible apply State.loadPwd_later)
    | (with_reducible apply State.writeApply_later)
    | (with_reducible apply State.writeClrq_later)
    | (with_reducible apply State.writeGo_later)
    | (with_reducible apply State.startPage_later)
    | (with_reducible apply State.writeRun_later)
    | (with_reducible apply State.alkRestart_later)
    | (with_reducible apply State.fifoReset_later)
    | (with_reducible apply State.showFifo_later)
    | (with_reducible apply State.fixMarks_later)
    | (with_reducible apply State.writeTestDse_later)
    | (with_reducible apply State.writeUpdate_later)
    | (with_reducible apply State.resetCommand_later)
    | (with_reducible apply State.writeWdto_later)
    | (with_reducible apply State.kick_later)
    | (with_reducible apply State.writeHealthy_later)
    | (with_reducible apply State.takeOver_later)
    | (with_reducible apply State.degrade_later)
    | (with_reducible apply State.startCount_later)
    | (with_reducible apply State.updCommand_later)
    | (with_reducible apply State.each_later)
    | (with_reducible apply State.onlyIf_later)
    | (with_reducible apply State.foldl_later)
    | (intro x k hx)
    | (intro x hx)
    | (with_reducible refine Later.snd ?_ (by assumption))
    | split

theorem State.writeReg_later {z0 s : State} (hz : Later z0 s) (m : Nat) (r : Reg) (i : Nat) (w : Nat) : Later z0 (State.writeReg s m r i w) := by
  unfold State.writeReg
  try dsimp only
  repeat' first
    | (with_reducible assumption)
    | (with_reducible apply State.writeField_later)
    | (with_reducible apply State.cfgViolation_later)
    | (with_reducible apply State.writeAction_later)
    | (with_reducible apply State.each_later)
    | (with_reducible apply State.onlyIf_later)
    | (with_reducible apply State.foldl_later)
    | (intro x k hx)
    | (intro x hx)

theorem State.writePlace_later {z0 s : State} (hz : Later z0 s) (m : Nat) (p : Place) (w : Nat) : Later z0 (State.writePlace s m p w) := by
  unfold State.writePlace
  try dsimp only
  repeat' first
    | (with_reducible assumption)
    | (with_reducible apply State.writeReg_later)
    | (with_reducible apply State.writeFrame_later)
    | (with_reducible apply State.tagHostWrite_later)
    | (with_reducible apply State.each_later)
    | (with_reducible apply State.onlyIf_later)
    | (with_reducible apply State.foldl_later)
    | (intro x k hx)
    | (intro x hx)
    | split

theorem State.decodeError_later {z0 s : State} (hz : Later z0 s) : Later z0 (State.decodeError s).2 := by
  unfold State.decodeError
  try dsimp only
  repeat' first
    | (with_reducible assumption)
    | (with_reducible apply State.count_later)

theorem State.perform_later {z0 s : State} (hz : Later z0 s) (m : Nat) (k : AccessKind) (p : Place) (w : Nat) : Later z0 (State.perform s m k p w).2 := by
  unfold State.perform
  try dsimp only
  repeat' first
    | (with_reducible assumption)
    | (with_reducible apply State.decodeError_later)
    | (with_reducible apply State.tagReady_later)
    | (with_reducible apply State.writePlace_later)
    | (with_reducible apply State.each_later)
    | (with_reducible apply State.onlyIf_later)
    | (with_reducible apply State.foldl_later)
    | (intro x k hx)
    | (intro x hx)
    | (with_reducible refine Later.snd ?_ (by assumption))
    | split

theorem State.access_later {z0 s : State} (hz : Later z0 s) (m : Nat) (supervisor : Bool) (k : AccessKind) (a : Nat) (w : Nat) : Later z0 (State.access s m supervisor k a w).2 := by
  unfold State.access
  try dsimp only
  repeat' first
    | (with_reducible assumption)
    | (with_reducible apply State.put_later)
    | (with_reducible apply State.decodeError_later)
    | (with_reducible apply State.perform_later)
    | (with_reducible apply State.violate_later)
    | (with_reducible apply State.each_later)
    | (with_reducible apply State.onlyIf_later)
    | (with_reducible apply State.foldl_later)
    | (intro x k hx)
    | (intro x hx)
    | (with_reducible refine Later.snd ?_ (by assumption))
    | split

theorem execMasterAccess_later (m : Fin 22) (supervisor : Bool) (kind : AccessKind) (addr : BitVec 32) (value : BitVec 32) (s : State) : Runs s (execMasterAccess m supervisor kind addr value s) := by
  unfold execMasterAccess
  try dsimp only
  repeat' first
    | (with_reducible assumption)
    | (with_reducible exact Later.refl _)
    | (with_reducible apply Runs.next)
    | (with_reducible apply State.access_later)
    | (with_reducible apply State.each_later)
    | (with_reducible apply State.onlyIf_later)
    | (with_reducible apply State.foldl_later)
    | (intro x k hx)
    | (intro x hx)
    | (with_reducible refine Later.snd ?_ (by assumption))
    | split
    | (with_reducible refine Later.built ?_ ?_ ?_ ?_; rotate_left; exact rfl; exact rfl; exact rfl)

theorem execRegisterWrite_later (addr : BitVec 32) (value : BitVec 32) (s : State) : Runs s (execRegisterWrite addr value s) := by
  unfold execRegisterWrite
  try dsimp only
  repeat' first
    | (with_reducible assumption)
    | (with_reducible exact Later.refl _)
    | (with_reducible apply Runs.next)
    | (with_reducible apply State.writeReg_later)
    | (with_reducible apply State.each_later)
    | (with_reducible apply State.onlyIf_later)
    | (with_reducible apply State.foldl_later)
    | (intro x k hx)
    | (intro x hx)
    | split

end Sys2Proof.Machine
end

