-- ==== Sys2Proof/Laws/Within.lean ====
section
/-! SUPPORT. What a command leaves alone: laws of `SameOutside`, for the shared operations. -/

namespace Sys2Proof.Machine

open Sys2Proof

theorem Part.sub_trans {a b U : List Part} (h : Part.sub a b = true) (k : Part.sub b U = true) : Part.sub a U = true := by
  unfold Part.sub at *
  rw [List.all_eq_true] at *
  intro x hx
  have := h x hx
  exact k x (by simpa using this)

theorem SameOutside.refl (U : List Part) (s : State) : SameOutside U s s := by
  constructor
  all_goals first
    | (intros; rfl)
    | (right; trivial)
    | exact Or.inr rfl
    | exact Or.inr ⟨rfl, rfl⟩
    | exact Or.inr ⟨rfl, rfl, rfl⟩
    | exact Or.inr ⟨rfl, rfl, rfl, rfl⟩
    | exact Or.inr ⟨rfl, rfl, rfl, rfl, rfl⟩

/-- A state built from another with some parts replaced: each replaced part stands in the list. -/
theorem SameOutside.built {U : List Part} {r s : State} {now' free' : Nat} {events' : List Event} {pending' : List Instr}
    {latched' : Tab Nat} {latchOn' : List Nat} {plan' : Option Plan} {alloc' : Alloc} {fab' : Fab} {ppl' : Ppl} {sch' : Sch} {oius' : Tab Oiu} {vces' : Tab Vce} {slac' : List SlacRun} {encoder' : Encoder} {t1sUp' : Nat} {hostMsgs' : List HostMsg} {chans' : Tab Chan} {elems' : Tab Elem} {meu' : Meu} {rcms' : Tab Rcm} {imds' : Tab Imd} {imdTrip' : Nat} {ccRequested' : Nat} {sws' : Tab SwCh} {gse' : Gse} {clu' : Clu} {bills' : Tab Bill} {blu' : Blu} {lgs' : Lgs} {alk' : Alk} {hpu' : Hpu} {ntu' : Ntu} {sec' : Sec} {dse' : Dse} {upd' : Upd} {bcu' : Bcu}
    (h : SameOutside U r s)
    (e_latched : Part.sub [.latches] U = true ∨ latched' = s.latched)
    (e_latchOn : Part.sub [.latches] U = true ∨ latchOn' = s.latchOn)
    (e_plan : Part.sub [.plan] U = true ∨ plan' = s.plan)
    (e_alloc : Part.sub [.allocator] U = true ∨ alloc' = s.alloc)
    (e_fab : Part.sub [.unit .fab] U = true ∨ fab' = s.fab)
    (e_ppl : Part.sub [.unit .ppl] U = true ∨ ppl' = s.ppl)
    (e_sch : Part.sub [.unit .sch] U = true ∨ sch' = s.sch)
    (e_oius : Part.sub [.unit .oiu] U = true ∨ oius' = s.oius)
    (e_vces : Part.sub [.unit .vce] U = true ∨ vces' = s.vces)
    (e_slac : Part.sub [.unit .vce] U = true ∨ slac' = s.slac)
    (e_encoder : Part.sub [.unit .vce] U = true ∨ encoder' = s.encoder)
    (e_t1sUp : Part.sub [.unit .vce] U = true ∨ t1sUp' = s.t1sUp)
    (e_hostMsgs : Part.sub [.unit .vce] U = true ∨ hostMsgs' = s.hostMsgs)
    (e_chans : Part.sub [.unit .meu] U = true ∨ chans' = s.chans)
    (e_elems : Part.sub [.unit .meu] U = true ∨ elems' = s.elems)
    (e_meu : Part.sub [.unit .meu] U = true ∨ meu' = s.meu)
    (e_rcms : Part.sub [.unit .efu] U = true ∨ rcms' = s.rcms)
    (e_imds : Part.sub [.unit .efu] U = true ∨ imds' = s.imds)
    (e_imdTrip : Part.sub [.unit .efu] U = true ∨ imdTrip' = s.imdTrip)
    (e_ccRequested : Part.sub [.unit .efu] U = true ∨ ccRequested' = s.ccRequested)
    (e_sws : Part.sub [.unit .psw] U = true ∨ sws' = s.sws)
    (e_gse : Part.sub [.unit .gse] U = true ∨ gse' = s.gse)
    (e_clu : Part.sub [.unit .clu] U = true ∨ clu' = s.clu)
    (e_bills : Part.sub [.unit .blu] U = true ∨ bills' = s.bills)
    (e_blu : Part.sub [.unit .blu] U = true ∨ blu' = s.blu)
    (e_lgs : Part.sub [.unit .lgs] U = true ∨ lgs' = s.lgs)
    (e_alk : Part.sub [.unit .alk] U = true ∨ alk' = s.alk)
    (e_hpu : Part.sub [.unit .hpu] U = true ∨ hpu' = s.hpu)
    (e_ntu : Part.sub [.unit .ntu] U = true ∨ ntu' = s.ntu)
    (e_sec : Part.sub [.unit .sec] U = true ∨ sec' = s.sec)
    (e_dse : Part.sub [.unit .dse] U = true ∨ dse' = s.dse)
    (e_upd : Part.sub [.unit .upd] U = true ∨ upd' = s.upd)
    (e_bcu : Part.sub [.unit .bcu] U = true ∨ bcu' = s.bcu) :
    SameOutside U r ⟨s.regs, s.applied, latched', latchOn', now', free', events', plan', fab', sch', ppl', oius', sws', lgs', bcu', rcms', imds', imdTrip', ccRequested', chans', elems', meu', bills', blu', vces', slac', encoder', t1sUp', hostMsgs', gse', alloc', clu', ntu', alk', hpu', sec', dse', upd', pending'⟩ := by
  refine ⟨h.regs, h.applied, ?_, ?_, ?_, ?_, ?_, ?_, ?_, ?_, ?_, ?_, ?_, ?_, ?_, ?_, ?_, ?_, ?_, ?_, ?_, ?_, ?_, ?_⟩
  · rcases h.latches with h | h
    · exact Or.inl h
    · rcases e_latched with k | k0
      · exact Or.inl k
      rcases e_latchOn with k | k1
      · exact Or.inl k
      exact Or.inr ⟨k0.trans h.1, k1.trans h.2⟩
  · rcases h.plan with h | h
    · exact Or.inl h
    · rcases e_plan with k | k0
      · exact Or.inl k
      exact Or.inr (k0.trans h)
  · rcases h.allocator with h | h
    · exact Or.inl h
    · rcases e_alloc with k | k0
      · exact Or.inl k
      exact Or.inr (k0.trans h)
  · rcases h.fab with h | h
    · exact Or.inl h
    · rcases e_fab with k | k0
      · exact Or.inl k
      exact Or.inr (k0.trans h)
  · rcases h.ppl with h | h
    · exact Or.inl h
    · rcases e_ppl with k | k0
      · exact Or.inl k
      exact Or.inr (k0.trans h)
  · rcases h.sch with h | h
    · exact Or.inl h
    · rcases e_sch with k | k0
      · exact Or.inl k
      exact Or.inr (k0.trans h)
  · rcases h.oiu with h | h
    · exact Or.inl h
    · rcases e_oius with k | k0
      · exact Or.inl k
      exact Or.inr (k0.trans h)
  · rcases h.vce with h | h
    · exact Or.inl h
    · rcases e_vces with k | k0
      · exact Or.inl k
      rcases e_slac with k | k1
      · exact Or.inl k
      rcases e_encoder with k | k2
      · exact Or.inl k
      rcases e_t1sUp with k | k3
      · exact Or.inl k
      rcases e_hostMsgs with k | k4
      · exact Or.inl k
      exact Or.inr ⟨k0.trans h.1, k1.trans h.2.1, k2.trans h.2.2.1, k3.trans h.2.2.2.1, k4.trans h.2.2.2.2⟩
  · rcases h.meu with h | h
    · exact Or.inl h
    · rcases e_chans with k | k0
      · exact Or.inl k
      rcases e_elems with k | k1
      · exact Or.inl k
      rcases e_meu with k | k2
      · exact Or.inl k
      exact Or.inr ⟨k0.trans h.1, k1.trans h.2.1, k2.trans h.2.2⟩
  · rcases h.efu with h | h
    · exact Or.inl h
    · rcases e_rcms with k | k0
      · exact Or.inl k
      rcases e_imds with k | k1
      · exact Or.inl k
      rcases e_imdTrip with k | k2
      · exact Or.inl k
      rcases e_ccRequested with k | k3
      · exact Or.inl k
      exact Or.inr ⟨k0.trans h.1, k1.trans h.2.1, k2.trans h.2.2.1, k3.trans h.2.2.2⟩
  · rcases h.psw with h | h
    · exact Or.inl h
    · rcases e_sws with k | k0
      · exact Or.inl k
      exact Or.inr (k0.trans h)
  · rcases h.gse with h | h
    · exact Or.inl h
    · rcases e_gse with k | k0
      · exact Or.inl k
      exact Or.inr (k0.trans h)
  · rcases h.clu with h | h
    · exact Or.inl h
    · rcases e_clu with k | k0
      · exact Or.inl k
      exact Or.inr (k0.trans h)
  · rcases h.blu with h | h
    · exact Or.inl h
    · rcases e_bills with k | k0
      · exact Or.inl k
      rcases e_blu with k | k1
      · exact Or.inl k
      exact Or.inr ⟨k0.trans h.1, k1.trans h.2⟩
  · rcases h.lgs with h | h
    · exact Or.inl h
    · rcases e_lgs with k | k0
      · exact Or.inl k
      exact Or.inr (k0.trans h)
  · rcases h.alk with h | h
    · exact Or.inl h
    · rcases e_alk with k | k0
      · exact Or.inl k
      exact Or.inr (k0.trans h)
  · rcases h.hpu with h | h
    · exact Or.inl h
    · rcases e_hpu with k | k0
      · exact Or.inl k
      exact Or.inr (k0.trans h)
  · rcases h.ntu with h | h
    · exact Or.inl h
    · rcases e_ntu with k | k0
      · exact Or.inl k
      exact Or.inr (k0.trans h)
  · rcases h.sec with h | h
    · exact Or.inl h
    · rcases e_sec with k | k0
      · exact Or.inl k
      exact Or.inr (k0.trans h)
  · rcases h.dse with h | h
    · exact Or.inl h
    · rcases e_dse with k | k0
      · exact Or.inl k
      exact Or.inr (k0.trans h)
  · rcases h.upd with h | h
    · exact Or.inl h
    · rcases e_upd with k | k0
      · exact Or.inl k
      exact Or.inr (k0.trans h)
  · rcases h.bcu with h | h
    · exact Or.inl h
    · rcases e_bcu with k | k0
      · exact Or.inl k
      exact Or.inr (k0.trans h)

theorem SameOutside.snd {U : List Part} {α : Type} {r b : State} {a : α} {p : α × State} (h : SameOutside U r p.2) (e : p = (a, b)) :
    SameOutside U r b := by
  rw [e] at h; exact h

theorem SameOutside.fst {U : List Part} {α : Type} {r b : State} {a : α} {p : State × α} (h : SameOutside U r p.1) (e : p = (b, a)) :
    SameOutside U r b := by
  rw [e] at h; exact h

/-- An answered next state that agrees with `s` outside the parts of a list. -/
def Stays (U : List Part) (s : State) (o : Out) : Prop := ∃ t, o = .next t ∧ SameOutside U s t

theorem Stays.next {U : List Part} {s t : State} (h : SameOutside U s t) : Stays U s (.next t) := ⟨t, rfl, h⟩

/-- A sealed command that succeeds leaves everything outside the parts of a list alone. -/
structure EndsIn (U : List Part) (s : State) (r : Except Nat (List ReqRec × List Nat × State)) : Prop where
  out : ∀ a d t, r = .ok (a, d, t) → SameOutside U s t

theorem EndsIn.error {U : List Part} {s : State} (n : Nat) : EndsIn U s (.error n) := ⟨fun _ _ _ h => nomatch h⟩

theorem EndsIn.ok {U : List Part} {s t : State} {a : List ReqRec} {d : List Nat} (h : SameOutside U s t) : EndsIn U s (.ok (a, d, t)) := by
  refine ⟨?_⟩
  intro a' d' t' e
  cases e
  exact h

theorem State.put_within {U : List Part} {r s : State} (h : SameOutside U r s) (f : Fld) (i v : Nat)
    (hf : Part.sub [.unit f.unit] U = true) : SameOutside U r (s.put f i v) := by
  refine ⟨?_, h.applied, h.latches, h.plan, h.allocator, h.fab, h.ppl, h.sch, h.oiu, h.vce, h.meu, h.efu, h.psw, h.gse, h.clu, h.blu, h.lgs,
    h.alk, h.hpu, h.ntu, h.sec, h.dse, h.upd, h.bcu⟩
  intro g j hg
  have hne : g ≠ f := by
    intro e
    rw [e, hf] at hg
    exact absurd hg (by decide)
  rw [rd_put_fld _ _ _ _ _ _ hne]
  exact h.regs g j hg

theorem State.putEff_within {U : List Part} {r s : State} (h : SameOutside U r s) (f : Fld) (i v : Nat)
    (hf : Part.sub [.unit f.unit] U = true) : SameOutside U r (s.putEff f i v) := by
  refine ⟨h.regs, ?_, h.latches, h.plan, h.allocator, h.fab, h.ppl, h.sch, h.oiu, h.vce, h.meu, h.efu, h.psw, h.gse, h.clu, h.blu, h.lgs,
    h.alk, h.hpu, h.ntu, h.sec, h.dse, h.upd, h.bcu⟩
  intro g j hg
  have hne : g ≠ f := by
    intro e
    rw [e, hf] at hg
    exact absurd hg (by decide)
  rw [eff_putEff_fld _ _ _ _ _ _ hne]
  exact h.applied g j hg

theorem State.putFlag_within {U : List Part} {r s : State} (h : SameOutside U r s) (f : Fld) (i : Nat) (b : Bool)
    (hf : Part.sub [.unit f.unit] U = true) : SameOutside U r (s.putFlag f i b) := State.put_within h f i _ hf

theorem State.putBit_within {U : List Part} {r s : State} (h : SameOutside U r s) (f : Fld) (i k : Nat) (b : Bool)
    (hf : Part.sub [.unit f.unit] U = true) : SameOutside U r (s.putBit f i k b) := State.put_within h f i _ hf

theorem State.count_within {U : List Part} {r s : State} (h : SameOutside U r s) (f : Fld) (i : Nat)
    (hf : Part.sub [.unit f.unit] U = true) : SameOutside U r (s.count f i) := State.put_within h f i _ hf

theorem State.apply_within {U : List Part} {r s : State} (h : SameOutside U r s) (f : Fld) (i : Nat)
    (hf : Part.sub [.unit f.unit] U = true) : SameOutside U r (s.apply f i) := State.putEff_within h f i _ hf

theorem State.put64_within {U : List Part} {r s : State} (h : SameOutside U r s) (lo hi : Fld) (i v : Nat)
    (hl : Part.sub [.unit lo.unit] U = true) (hh : Part.sub [.unit hi.unit] U = true) : SameOutside U r (s.put64 lo hi i v) :=
  State.put_within (State.put_within h lo i _ hl) hi i _ hh

theorem State.moveTo_within {U : List Part} {r s : State} (h : SameOutside U r s) (t : Nat) : SameOutside U r (s.moveTo t) :=
  ⟨h.regs, h.applied, h.latches, h.plan, h.allocator, h.fab, h.ppl, h.sch, h.oiu, h.vce, h.meu, h.efu, h.psw, h.gse, h.clu, h.blu, h.lgs,
    h.alk, h.hpu, h.ntu, h.sec, h.dse, h.upd, h.bcu⟩

theorem State.draw_within {U : List Part} {r s : State} (h : SameOutside U r s) : SameOutside U r s.draw.2 :=
  ⟨h.regs, h.applied, h.latches, h.plan, h.allocator, h.fab, h.ppl, h.sch, h.oiu, h.vce, h.meu, h.efu, h.psw, h.gse, h.clu, h.blu, h.lgs,
    h.alk, h.hpu, h.ntu, h.sec, h.dse, h.upd, h.bcu⟩

theorem State.each_within {U : List Part} {r s : State} {l : List Nat} {f : State → Nat → State}
    (hf : ∀ x k, SameOutside U r x → SameOutside U r (f x k)) (h : SameOutside U r s) : SameOutside U r (s.each l f) := by
  unfold State.each
  induction l generalizing s with
  | nil => exact h
  | cons a l ih => exact ih (hf s a h)

theorem State.foldl_within {α : Type} {U : List Part} {r s : State} {l : List α} {f : State → α → State}
    (hf : ∀ x k, SameOutside U r x → SameOutside U r (f x k)) (h : SameOutside U r s) : SameOutside U r (l.foldl f s) := by
  induction l generalizing s with
  | nil => exact h
  | cons a l ih => exact ih (hf s a h)

theorem State.onlyIf_within {U : List Part} {r s : State} {c : Bool} {f : State → State}
    (hf : ∀ x, SameOutside U r x → SameOutside U r (f x)) (h : SameOutside U r s) : SameOutside U r (s.onlyIf c f) := by
  unfold State.onlyIf
  cases c
  · exact h
  · exact hf s h

theorem State.request_within {U : List Part} {r s : State} (h : SameOutside U r s) (cls : Nat) (recs : List ReqRec) (hU : Part.sub [.unit .lgs] U = true) :
    SameOutside U r (s.request cls recs) := by
  unfold State.request
  dsimp only
  repeat' first
    | (with_reducible assumption)
    | (with_reducible exact Part.sub_trans rfl hU)
    | (with_reducible exact Or.inl (Part.sub_trans rfl hU))
    | (with_reducible exact Or.inr rfl)
    | (with_reducible apply State.put_within)
    | (with_reducible apply State.count_within)
    | split
    | (with_reducible apply SameOutside.built)

theorem State.requestHeld_within {U : List Part} {r s : State} (h : SameOutside U r s) (cls : Nat) (recs : List ReqRec) (hU : Part.sub [.unit .lgs] U = true) :
    SameOutside U r (s.requestHeld cls recs) := by
  unfold State.requestHeld
  dsimp only
  repeat' first
    | (with_reducible assumption)
    | (with_reducible exact Part.sub_trans rfl hU)
    | (with_reducible exact Or.inl (Part.sub_trans rfl hU))
    | (with_reducible exact Or.inr rfl)
    | (with_reducible apply State.request_within)
    | split
    | (with_reducible apply SameOutside.built)

theorem State.raise_within {U : List Part} {r s : State} (h : SameOutside U r s) (code arg : Nat) (hU : Part.sub [.unit .lgs] U = true) :
    SameOutside U r (s.raise code arg) := by
  unfold State.raise
  dsimp only
  repeat' first
    | (with_reducible assumption)
    | (with_reducible exact Part.sub_trans rfl hU)
    | (with_reducible exact Or.inl (Part.sub_trans rfl hU))
    | (with_reducible exact Or.inr rfl)
    | (with_reducible apply State.request_within)
    | (with_reducible apply State.requestHeld_within)
    | split
    | (with_reducible apply SameOutside.built)

theorem State.raise2_within {U : List Part} {r s : State} (h : SameOutside U r s) (code hi lo : Nat) (hU : Part.sub [.unit .lgs] U = true) :
    SameOutside U r (s.raise2 code hi lo) := State.raise_within h _ _ hU

theorem State.clearUnit_within {U : List Part} {r s : State} (h : SameOutside U r s) (u : UnitId) (p : Nat → Bool) (keep : List Fld)
    (hu : Part.sub [.unit u] U = true) (hl : Part.sub [.latches] U = true) : SameOutside U r (s.clearUnit u p keep) := by
  have hne : ∀ g : Fld, Part.sub [.unit g.unit] U = false → g.unit ≠ u := by
    intro g hg e
    rw [e, hu] at hg
    exact absurd hg (by decide)
  refine ⟨fun g j hg => ?_, fun g j hg => ?_, Or.inl hl, h.plan, h.allocator, h.fab, h.ppl, h.sch, h.oiu, h.vce, h.meu, h.efu, h.psw, h.gse, h.clu,
    h.blu, h.lgs, h.alk, h.hpu, h.ntu, h.sec, h.dse, h.upd, h.bcu⟩
  · refine (lookup_filter_kept _ _ _ _ ?_).trans (h.regs g j hg)
    intro v
    dsimp only
    rw [keyFld_regKey]
    simp [hne g hg]
  · refine (lookup_filter_kept _ _ _ _ ?_).trans (h.applied g j hg)
    intro v
    dsimp only
    rw [keyFld_regKey]
    simp [hne g hg]

end Sys2Proof.Machine
end

