-- ==== Sys2Proof/Laws/WithinOps.lean ====
section
/-! SUPPORT. Every operation and every command of setting one part leaves the parts of the block alone that it does not touch (Laws/Within.lean). -/

namespace Sys2Proof.Machine

open Sys2Proof

theorem State.drawBytes_within {U : List Part} {z0 s : State} (hz : SameOutside U z0 s) (hU : Part.sub [] U = true) : SameOutside U z0 (State.drawBytes s).2 := by
  unfold State.drawBytes
  try dsimp only
  repeat' first
    | (with_reducible assumption)
    | (with_reducible exact Part.sub_trans rfl hU)
    | (with_reducible exact Or.inl (Part.sub_trans rfl hU))
    | (with_reducible exact Or.inr rfl)
    | (with_reducible apply State.each_within)
    | (with_reducible apply State.onlyIf_within)
    | (with_reducible apply State.foldl_within)
    | (intro x k hx)
    | (intro x hx)
    | split
    | (with_reducible apply SameOutside.built)

theorem State.setOiu_within {U : List Part} {z0 s : State} (hz : SameOutside U z0 s) (n : Nat) (o : Oiu) (hU : Part.sub [.unit .oiu] U = true) : SameOutside U z0 (State.setOiu s n o) := by
  unfold State.setOiu
  try dsimp only
  repeat' first
    | (with_reducible assumption)
    | (with_reducible exact Part.sub_trans rfl hU)
    | (with_reducible exact Or.inl (Part.sub_trans rfl hU))
    | (with_reducible exact Or.inr rfl)
    | (with_reducible apply State.each_within)
    | (with_reducible apply State.onlyIf_within)
    | (with_reducible apply State.foldl_within)
    | (intro x k hx)
    | (intro x hx)
    | split
    | (with_reducible apply SameOutside.built)

theorem State.setSw_within {U : List Part} {z0 s : State} (hz : SameOutside U z0 s) (c : Nat) (v : SwCh) (hU : Part.sub [.unit .psw] U = true) : SameOutside U z0 (State.setSw s c v) := by
  unfold State.setSw
  try dsimp only
  repeat' first
    | (with_reducible assumption)
    | (with_reducible exact Part.sub_trans rfl hU)
    | (with_reducible exact Or.inl (Part.sub_trans rfl hU))
    | (with_reducible exact Or.inr rfl)
    | (with_reducible apply State.each_within)
    | (with_reducible apply State.onlyIf_within)
    | (with_reducible apply State.foldl_within)
    | (intro x k hx)
    | (intro x hx)
    | split
    | (with_reducible apply SameOutside.built)

theorem State.randomBits_within {U : List Part} {z0 s : State} (hz : SameOutside U z0 s) (hU : Part.sub [.unit .sec] U = true) : SameOutside U z0 (State.randomBits s).2 := by
  unfold State.randomBits
  try dsimp only
  repeat' first
    | (with_reducible assumption)
    | (with_reducible exact Part.sub_trans rfl hU)
    | (with_reducible exact Or.inl (Part.sub_trans rfl hU))
    | (with_reducible exact Or.inr rfl)
    | (with_reducible apply State.draw_within)
    | (with_reducible apply State.each_within)
    | (with_reducible apply State.onlyIf_within)
    | (with_reducible apply State.foldl_within)
    | (intro x k hx)
    | (intro x hx)
    | (with_reducible refine SameOutside.snd ?_ (by assumption))
    | split
    | (with_reducible apply SameOutside.built)

theorem State.trackWait_within {U : List Part} {z0 s : State} (hz : SameOutside U z0 s) (hU : Part.sub [.unit .ppl, .unit .lgs] U = true) : SameOutside U z0 (State.trackWait s) := by
  unfold State.trackWait
  try dsimp only
  repeat' first
    | (with_reducible assumption)
    | (with_reducible exact Part.sub_trans rfl hU)
    | (with_reducible exact Or.inl (Part.sub_trans rfl hU))
    | (with_reducible exact Or.inr rfl)
    | (with_reducible apply State.raise_within)
    | (with_reducible apply State.put_within)
    | (with_reducible apply State.each_within)
    | (with_reducible apply State.onlyIf_within)
    | (with_reducible apply State.foldl_within)
    | (intro x k hx)
    | (intro x hx)
    | split
    | (with_reducible apply SameOutside.built)

theorem State.refreshTl_within {U : List Part} {z0 s : State} (hz : SameOutside U z0 s) (hU : Part.sub [.unit .upd] U = true) : SameOutside U z0 (State.refreshTl s) := by
  unfold State.refreshTl
  try dsimp only
  repeat' first
    | (with_reducible assumption)
    | (with_reducible exact Part.sub_trans rfl hU)
    | (with_reducible exact Or.inl (Part.sub_trans rfl hU))
    | (with_reducible exact Or.inr rfl)
    | (with_reducible apply State.each_within)
    | (with_reducible apply State.onlyIf_within)
    | (with_reducible apply State.foldl_within)
    | (intro x k hx)
    | (intro x hx)
    | split
    | (with_reducible apply SameOutside.built)

end Sys2Proof.Machine
end

