-- ==== Sys2Proof/Laws/WithinLedger.lean ====
section
/-! SUPPORT. Every operation and every command of the LGS leaves the parts of the block alone that it does not touch (Laws/Within.lean). -/

namespace Sys2Proof.Machine

open Sys2Proof

theorem State.showRegion_within {U : List Part} {z0 s : State} (hz : SameOutside U z0 s) (k : Nat) (hU : Part.sub [.unit .lgs] U = true) : SameOutside U z0 (State.showRegion s k) := by
  unfold State.showRegion
  try dsimp only
  repeat' first
    | (with_reducible assumption)
    | (with_reducible exact Part.sub_trans rfl hU)
    | (with_reducible exact Or.inl (Part.sub_trans rfl hU))
    | (with_reducible exact Or.inr rfl)
    | (with_reducible apply State.put_within)

theorem State.showLgs_within {U : List Part} {z0 s : State} (hz : SameOutside U z0 s) (hU : Part.sub [.unit .lgs] U = true) : SameOutside U z0 (State.showLgs s) := by
  unfold State.showLgs
  try dsimp only
  repeat' first
    | (with_reducible assumption)
    | (with_reducible exact Part.sub_trans rfl hU)
    | (with_reducible exact Or.inl (Part.sub_trans rfl hU))
    | (with_reducible exact Or.inr rfl)
    | (with_reducible apply State.showRegion_within)
    | (with_reducible apply State.putFlag_within)

theorem State.legalSpace_within {U : List Part} {z0 s : State} (hz : SameOutside U z0 s) (hU : Part.sub [.unit .lgs] U = true) : SameOutside U z0 (State.legalSpace s) := by
  unfold State.legalSpace
  try dsimp only
  repeat' first
    | (with_reducible assumption)
    | (with_reducible exact Part.sub_trans rfl hU)
    | (with_reducible exact Or.inl (Part.sub_trans rfl hU))
    | (with_reducible exact Or.inr rfl)
    | (with_reducible apply State.raise_within)
    | (with_reducible apply State.put_within)
    | (with_reducible apply State.each_within)
    | (with_reducible apply State.onlyIf_within)
    | (with_reducible apply State.foldl_within)
    | (intro x k hx)
    | (intro x hx)
    | split
    | (with_reducible apply SameOutside.built)

theorem State.recordDrops_within {U : List Part} {z0 s : State} (hz : SameOutside U z0 s) (hU : Part.sub [.unit .lgs] U = true) : SameOutside U z0 (State.recordDrops s) := by
  unfold State.recordDrops
  try dsimp only
  repeat' first
    | (with_reducible assumption)
    | (with_reducible exact Part.sub_trans rfl hU)
    | (with_reducible exact Or.inl (Part.sub_trans rfl hU))
    | (with_reducible exact Or.inr rfl)
    | (with_reducible apply State.request_within)
    | (with_reducible apply State.each_within)
    | (with_reducible apply State.onlyIf_within)
    | (with_reducible apply State.foldl_within)
    | (intro x k hx)
    | (intro x hx)
    | split
    | (with_reducible apply SameOutside.built)

theorem State.committed_within {U : List Part} {z0 s : State} (hz : SameOutside U z0 s) (r : LedgerRec) (hU : Part.sub [.unit .lgs] U = true) : SameOutside U z0 (State.committed s r) := by
  unfold State.committed
  try dsimp only
  repeat' first
    | (with_reducible assumption)
    | (with_reducible exact Part.sub_trans rfl hU)
    | (with_reducible exact Or.inl (Part.sub_trans rfl hU))
    | (with_reducible exact Or.inr rfl)
    | (with_reducible apply State.raise_within)
    | (with_reducible apply State.put_within)
    | (with_reducible apply State.each_within)
    | (with_reducible apply State.onlyIf_within)
    | (with_reducible apply State.foldl_within)
    | (intro x k hx)
    | (intro x hx)
    | split
    | (with_reducible apply SameOutside.built)

theorem State.place_within {U : List Part} {z0 s : State} (hz : SameOutside U z0 s) (cls : Nat) (first : Bool) (q : ReqRec) (hU : Part.sub [.unit .lgs] U = true) : SameOutside U z0 (State.place s cls first q) := by
  unfold State.place
  try dsimp only
  repeat' first
    | (with_reducible assumption)
    | (with_reducible exact Part.sub_trans rfl hU)
    | (with_reducible exact Or.inl (Part.sub_trans rfl hU))
    | (with_reducible exact Or.inr rfl)
    | (with_reducible apply State.count_within)
    | (with_reducible apply State.committed_within)
    | (with_reducible apply State.put_within)
    | (with_reducible apply State.each_within)
    | (with_reducible apply State.onlyIf_within)
    | (with_reducible apply State.foldl_within)
    | (intro x k hx)
    | (intro x hx)
    | split
    | (with_reducible apply SameOutside.built)

theorem State.commitGroup_within {U : List Part} {z0 s : State} (hz : SameOutside U z0 s) (g : Group) (hU : Part.sub [.unit .lgs] U = true) : SameOutside U z0 (State.commitGroup s g) := by
  unfold State.commitGroup
  try dsimp only
  repeat' first
    | (with_reducible assumption)
    | (with_reducible exact Part.sub_trans rfl hU)
    | (with_reducible exact Or.inl (Part.sub_trans rfl hU))
    | (with_reducible exact Or.inr rfl)
    | (with_reducible apply State.place_within)
    | (with_reducible apply State.raise_within)
    | (with_reducible apply State.put_within)
    | (with_reducible apply State.each_within)
    | (with_reducible apply State.onlyIf_within)
    | (with_reducible apply State.foldl_within)
    | (intro x k hx)
    | (intro x hx)
    | split
    | (with_reducible apply SameOutside.built)

theorem State.commitNext_within {U : List Part} {z0 s : State} (hz : SameOutside U z0 s) (hU : Part.sub [.unit .lgs] U = true) : SameOutside U z0 (State.commitNext s) := by
  unfold State.commitNext
  try dsimp only
  repeat' first
    | (with_reducible assumption)
    | (with_reducible exact Part.sub_trans rfl hU)
    | (with_reducible exact Or.inl (Part.sub_trans rfl hU))
    | (with_reducible exact Or.inr rfl)
    | (with_reducible apply State.commitGroup_within)
    | (with_reducible apply State.recordDrops_within)
    | (with_reducible apply State.showLgs_within)
    | (with_reducible apply State.legalSpace_within)
    | (with_reducible apply State.each_within)
    | (with_reducible apply State.onlyIf_within)
    | (with_reducible apply State.foldl_within)
    | (intro x k hx)
    | (intro x hx)
    | split
    | (with_reducible apply SameOutside.built)

theorem execLedgerGroupRequest_within (cls : Fin 3) (recs : List RecData) (s : State) : Stays [.unit .lgs] s (execLedgerGroupRequest cls recs s) := by
  have hU : Part.sub [.unit .lgs] [.unit .lgs] = true := rfl
  unfold execLedgerGroupRequest
  try dsimp only
  repeat' first
    | (with_reducible assumption)
    | (with_reducible exact Part.sub_trans rfl hU)
    | (with_reducible exact Or.inl (Part.sub_trans rfl hU))
    | (with_reducible exact Or.inr rfl)
    | (with_reducible exact SameOutside.refl _ _)
    | (with_reducible apply Stays.next)
    | (with_reducible apply State.request_within)
    | (with_reducible apply State.each_within)
    | (with_reducible apply State.onlyIf_within)
    | (with_reducible apply State.foldl_within)
    | (intro x k hx)
    | (intro x hx)
    | split

theorem execLedgerCommit_within (s : State) : Stays [.unit .lgs] s (execLedgerCommit s) := by
  have hU : Part.sub [.unit .lgs] [.unit .lgs] = true := rfl
  unfold execLedgerCommit
  try dsimp only
  repeat' first
    | (with_reducible assumption)
    | (with_reducible exact Part.sub_trans rfl hU)
    | (with_reducible exact Or.inl (Part.sub_trans rfl hU))
    | (with_reducible exact Or.inr rfl)
    | (with_reducible exact SameOutside.refl _ _)
    | (with_reducible apply Stays.next)
    | (with_reducible apply State.commitNext_within)

theorem State.writeTicks_within {U : List Part} {z0 s : State} (hz : SameOutside U z0 s) (tick : Nat) (hU : Part.sub [.unit .lgs] U = true) : SameOutside U z0 (State.writeTicks s tick) := by
  unfold State.writeTicks
  try dsimp only
  repeat' first
    | (with_reducible assumption)
    | (with_reducible exact Part.sub_trans rfl hU)
    | (with_reducible exact Or.inl (Part.sub_trans rfl hU))
    | (with_reducible exact Or.inr rfl)
    | (with_reducible apply State.request_within)
    | (with_reducible apply State.each_within)
    | (with_reducible apply State.onlyIf_within)
    | (with_reducible apply State.foldl_within)
    | (intro x k hx)
    | (intro x hx)
    | split
    | (with_reducible apply SameOutside.built)

theorem execRetainedNearLimit_within (s : State) : Stays [.unit .lgs] s (execRetainedNearLimit s) := by
  have hU : Part.sub [.unit .lgs] [.unit .lgs] = true := rfl
  unfold execRetainedNearLimit
  try dsimp only
  repeat' first
    | (with_reducible assumption)
    | (with_reducible exact Part.sub_trans rfl hU)
    | (with_reducible exact Or.inl (Part.sub_trans rfl hU))
    | (with_reducible exact Or.inr rfl)
    | (with_reducible exact SameOutside.refl _ _)
    | (with_reducible apply Stays.next)
    | (with_reducible apply State.showLgs_within)
    | (with_reducible apply State.raise_within)
    | (with_reducible apply State.each_within)
    | (with_reducible apply State.onlyIf_within)
    | (with_reducible apply State.foldl_within)
    | (intro x k hx)
    | (intro x hx)
    | split
    | (with_reducible apply SameOutside.built)

theorem State.startPage_within {U : List Part} {z0 s : State} (hz : SameOutside U z0 s) (region : Nat) (slot : Nat) (hU : Part.sub [.unit .lgs] U = true) : SameOutside U z0 (State.startPage s region slot) := by
  unfold State.startPage
  try dsimp only
  repeat' first
    | (with_reducible assumption)
    | (with_reducible exact Part.sub_trans rfl hU)
    | (with_reducible exact Or.inl (Part.sub_trans rfl hU))
    | (with_reducible exact Or.inr rfl)
    | (with_reducible apply State.put_within)
    | (with_reducible apply State.each_within)
    | (with_reducible apply State.onlyIf_within)
    | (with_reducible apply State.foldl_within)
    | (intro x k hx)
    | (intro x hx)
    | split
    | (with_reducible apply SameOutside.built)

theorem execPageCopy_within (region : Fin 4) (slot : BitVec 26) (s : State) : Stays [.unit .lgs] s (execPageCopy region slot s) := by
  have hU : Part.sub [.unit .lgs] [.unit .lgs] = true := rfl
  unfold execPageCopy
  try dsimp only
  repeat' first
    | (with_reducible assumption)
    | (with_reducible exact Part.sub_trans rfl hU)
    | (with_reducible exact Or.inl (Part.sub_trans rfl hU))
    | (with_reducible exact Or.inr rfl)
    | (with_reducible exact SameOutside.refl _ _)
    | (with_reducible apply Stays.next)
    | (with_reducible apply State.startPage_within)

theorem execPageCopyDone_within (changed : List (Nat × List Nat)) (s : State) : Stays [.unit .lgs] s (execPageCopyDone changed s) := by
  have hU : Part.sub [.unit .lgs] [.unit .lgs] = true := rfl
  unfold execPageCopyDone
  try dsimp only
  repeat' first
    | (with_reducible assumption)
    | (with_reducible exact Part.sub_trans rfl hU)
    | (with_reducible exact Or.inl (Part.sub_trans rfl hU))
    | (with_reducible exact Or.inr rfl)
    | (with_reducible exact SameOutside.refl _ _)
    | (with_reducible apply Stays.next)
    | (with_reducible apply State.raise2_within)
    | (with_reducible apply State.draw_within)
    | (with_reducible apply State.put_within)
    | (with_reducible apply State.each_within)
    | (with_reducible apply State.onlyIf_within)
    | (with_reducible apply State.foldl_within)
    | (intro x k hx)
    | (intro x hx)
    | (with_reducible refine SameOutside.snd ?_ (by assumption))
    | split
    | (with_reducible apply SameOutside.built)

end Sys2Proof.Machine
end

