-- ==== Sys2Proof/Laws/WithinDisplay.lean ====
section
/-! SUPPORT. Every operation and every command of the DSE leaves the parts of the block alone that it does not touch (Laws/Within.lean). -/

namespace Sys2Proof.Machine

open Sys2Proof

theorem State.setDse_within {U : List Part} {z0 s : State} (hz : SameOutside U z0 s) (v : Dse) (hU : Part.sub [.unit .dse] U = true) : SameOutside U z0 (State.setDse s v) := by
  unfold State.setDse
  try dsimp only
  repeat' first
    | (with_reducible assumption)
    | (with_reducible exact Part.sub_trans rfl hU)
    | (with_reducible exact Or.inl (Part.sub_trans rfl hU))
    | (with_reducible exact Or.inr rfl)
    | (with_reducible apply State.putFlag_within)
    | (with_reducible apply State.each_within)
    | (with_reducible apply State.onlyIf_within)
    | (with_reducible apply State.foldl_within)
    | (intro x k hx)
    | (intro x hx)
    | split
    | (with_reducible apply SameOutside.built)

theorem State.addStress_within {U : List Part} {z0 s : State} (hz : SameOutside U z0 s) (a : Tab Nat) (b : Tab Nat) (row : Nat) (hU : Part.sub [.unit .dse] U = true) : SameOutside U z0 (State.addStress s a b row) := by
  unfold State.addStress
  try dsimp only
  repeat' first
    | (with_reducible assumption)
    | (with_reducible exact Part.sub_trans rfl hU)
    | (with_reducible exact Or.inl (Part.sub_trans rfl hU))
    | (with_reducible exact Or.inr rfl)
    | (with_reducible apply State.setDse_within)
    | (with_reducible apply State.each_within)
    | (with_reducible apply State.onlyIf_within)
    | (with_reducible apply State.foldl_within)
    | (intro x k hx)
    | (intro x hx)
    | split

theorem State.pwOf_within {U : List Part} {z0 s : State} (hz : SameOutside U z0 s) (row : Nat) (hU : Part.sub [.unit .lgs, .unit .dse] U = true) : SameOutside U z0 (State.pwOf s row).2 := by
  unfold State.pwOf
  try dsimp only
  repeat' first
    | (with_reducible assumption)
    | (with_reducible exact Part.sub_trans rfl hU)
    | (with_reducible exact Or.inl (Part.sub_trans rfl hU))
    | (with_reducible exact Or.inr rfl)
    | (with_reducible apply State.raise_within)
    | (with_reducible apply State.setDse_within)
    | (with_reducible apply State.put_within)
    | (with_reducible apply State.each_within)
    | (with_reducible apply State.onlyIf_within)
    | (with_reducible apply State.foldl_within)
    | (intro x k hx)
    | (intro x hx)
    | split

theorem State.putRow_within {U : List Part} {z0 s : State} (hz : SameOutside U z0 s) (half : Nat) (balanced : Bool) (image : Nat → Nat) (row : Nat) (hU : Part.sub [.unit .dse] U = true) : SameOutside U z0 (State.putRow s half balanced image row) := by
  unfold State.putRow
  try dsimp only
  repeat' first
    | (with_reducible assumption)
    | (with_reducible exact Part.sub_trans rfl hU)
    | (with_reducible exact Or.inl (Part.sub_trans rfl hU))
    | (with_reducible exact Or.inr rfl)
    | (with_reducible apply State.addStress_within)
    | (with_reducible apply State.setDse_within)
    | (with_reducible apply State.each_within)
    | (with_reducible apply State.onlyIf_within)
    | (with_reducible apply State.foldl_within)
    | (intro x k hx)
    | (intro x hx)
    | split

theorem State.driveRow_within {U : List Part} {z0 s : State} (hz : SameOutside U z0 s) (balanced : Bool) (image : Nat → Nat) (row : Nat) (hU : Part.sub [.unit .lgs, .unit .dse] U = true) : SameOutside U z0 (State.driveRow s balanced image row) := by
  unfold State.driveRow
  try dsimp only
  repeat' first
    | (with_reducible assumption)
    | (with_reducible exact Part.sub_trans rfl hU)
    | (with_reducible exact Or.inl (Part.sub_trans rfl hU))
    | (with_reducible exact Or.inr rfl)
    | (with_reducible apply State.moveTo_within)
    | (with_reducible apply State.pwOf_within)
    | (with_reducible apply State.putRow_within)
    | (with_reducible apply State.each_within)
    | (with_reducible apply State.onlyIf_within)
    | (with_reducible apply State.foldl_within)
    | (intro x k hx)
    | (intro x hx)
    | (with_reducible refine SameOutside.snd ?_ (by assumption))
    | split
    | (with_reducible apply SameOutside.built)

theorem State.writeRow_within {U : List Part} {z0 s : State} (hz : SameOutside U z0 s) (balanced : Bool) (row : Nat) (hU : Part.sub [.unit .lgs, .unit .dse] U = true) : SameOutside U z0 (State.writeRow s balanced row) := by
  unfold State.writeRow
  try dsimp only
  repeat' first
    | (with_reducible assumption)
    | (with_reducible exact Part.sub_trans rfl hU)
    | (with_reducible exact Or.inl (Part.sub_trans rfl hU))
    | (with_reducible exact Or.inr rfl)
    | (with_reducible apply State.driveRow_within)

theorem State.writeUpdate_within {U : List Part} {z0 s : State} (hz : SameOutside U z0 s) (hU : Part.sub [.unit .dse] U = true) : SameOutside U z0 (State.writeUpdate s) := by
  unfold State.writeUpdate
  try dsimp only
  repeat' first
    | (with_reducible assumption)
    | (with_reducible exact Part.sub_trans rfl hU)
    | (with_reducible exact Or.inl (Part.sub_trans rfl hU))
    | (with_reducible exact Or.inr rfl)
    | (with_reducible apply State.setDse_within)
    | (with_reducible apply State.each_within)
    | (with_reducible apply State.onlyIf_within)
    | (with_reducible apply State.foldl_within)
    | (intro x k hx)
    | (intro x hx)
    | split

theorem execUpdate_within (s : State) : Stays [.unit .dse] s (execUpdate s) := by
  have hU : Part.sub [.unit .dse] [.unit .dse] = true := rfl
  unfold execUpdate
  try dsimp only
  repeat' first
    | (with_reducible assumption)
    | (with_reducible exact Part.sub_trans rfl hU)
    | (with_reducible exact Or.inl (Part.sub_trans rfl hU))
    | (with_reducible exact Or.inr rfl)
    | (with_reducible exact SameOutside.refl _ _)
    | (with_reducible apply Stays.next)
    | (with_reducible apply State.writeUpdate_within)

theorem State.writeTestDse_within {U : List Part} {z0 s : State} (hz : SameOutside U z0 s) (hU : Part.sub [.unit .lgs, .unit .dse] U = true) : SameOutside U z0 (State.writeTestDse s) := by
  unfold State.writeTestDse
  try dsimp only
  repeat' first
    | (with_reducible assumption)
    | (with_reducible exact Part.sub_trans rfl hU)
    | (with_reducible exact Or.inl (Part.sub_trans rfl hU))
    | (with_reducible exact Or.inr rfl)
    | (with_reducible apply State.setDse_within)
    | (with_reducible apply State.raise_within)
    | (with_reducible apply State.put_within)
    | (with_reducible apply State.each_within)
    | (with_reducible apply State.onlyIf_within)
    | (with_reducible apply State.foldl_within)
    | (intro x k hx)
    | (intro x hx)
    | split
    | (with_reducible apply SameOutside.built)

theorem execDisplayTest_within (s : State) : Stays [.unit .lgs, .unit .dse] s (execDisplayTest s) := by
  have hU : Part.sub [.unit .lgs, .unit .dse] [.unit .lgs, .unit .dse] = true := rfl
  unfold execDisplayTest
  try dsimp only
  repeat' first
    | (with_reducible assumption)
    | (with_reducible exact Part.sub_trans rfl hU)
    | (with_reducible exact Or.inl (Part.sub_trans rfl hU))
    | (with_reducible exact Or.inr rfl)
    | (with_reducible exact SameOutside.refl _ _)
    | (with_reducible apply Stays.next)
    | (with_reducible apply State.writeTestDse_within)

theorem State.testPanel_within {U : List Part} {z0 s : State} (hz : SameOutside U z0 s) (hU : Part.sub [.unit .lgs, .unit .dse] U = true) : SameOutside U z0 (State.testPanel s) := by
  unfold State.testPanel
  try dsimp only
  repeat' first
    | (with_reducible assumption)
    | (with_reducible exact Part.sub_trans rfl hU)
    | (with_reducible exact Or.inl (Part.sub_trans rfl hU))
    | (with_reducible exact Or.inr rfl)
    | (with_reducible apply State.driveRow_within)
    | (with_reducible apply State.each_within)
    | (with_reducible apply State.onlyIf_within)
    | (with_reducible apply State.foldl_within)
    | (intro x k hx)

theorem State.ledgerDisagrees_within {U : List Part} {z0 s : State} (hz : SameOutside U z0 s) (rows : List (Nat × Int)) (hU : Part.sub [.unit .lgs, .unit .dse] U = true) : SameOutside U z0 (State.ledgerDisagrees s rows) := by
  unfold State.ledgerDisagrees
  try dsimp only
  repeat' first
    | (with_reducible assumption)
    | (with_reducible exact Part.sub_trans rfl hU)
    | (with_reducible exact Or.inl (Part.sub_trans rfl hU))
    | (with_reducible exact Or.inr rfl)
    | (with_reducible apply State.raise_within)
    | (with_reducible apply State.setDse_within)
    | (with_reducible apply State.put_within)
    | (with_reducible apply State.each_within)
    | (with_reducible apply State.onlyIf_within)
    | (with_reducible apply State.foldl_within)
    | (intro x k hx)
    | (intro x hx)
    | split
    | (with_reducible apply SameOutside.built)

theorem State.recover_within {U : List Part} {z0 s : State} (hz : SameOutside U z0 s) (hU : Part.sub [.unit .lgs, .unit .dse] U = true) : SameOutside U z0 (State.recover s) := by
  unfold State.recover
  try dsimp only
  repeat' first
    | (with_reducible assumption)
    | (with_reducible exact Part.sub_trans rfl hU)
    | (with_reducible exact Or.inl (Part.sub_trans rfl hU))
    | (with_reducible exact Or.inr rfl)
    | (with_reducible apply State.raise_within)
    | (with_reducible apply State.setDse_within)

theorem execDriveVoltageFault_within (vdh : BitVec 16) (vdl : BitVec 16) (rows : Nat) (s : State) : Stays [.unit .lgs, .unit .dse] s (execDriveVoltageFault vdh vdl rows s) := by
  have hU : Part.sub [.unit .lgs, .unit .dse] [.unit .lgs, .unit .dse] = true := rfl
  unfold execDriveVoltageFault
  try dsimp only
  repeat' first
    | (with_reducible assumption)
    | (with_reducible exact Part.sub_trans rfl hU)
    | (with_reducible exact Or.inl (Part.sub_trans rfl hU))
    | (with_reducible exact Or.inr rfl)
    | (with_reducible exact SameOutside.refl _ _)
    | (with_reducible apply Stays.next)
    | (with_reducible apply State.raise2_within)
    | (with_reducible apply State.putFlag_within)
    | (with_reducible apply State.writeRow_within)
    | (with_reducible apply State.setDse_within)
    | (with_reducible apply State.put_within)
    | (with_reducible apply State.each_within)
    | (with_reducible apply State.onlyIf_within)
    | (with_reducible apply State.foldl_within)
    | (intro x k hx)
    | (intro x hx)
    | split
    | (with_reducible apply SameOutside.built)

theorem State.setMark_within {U : List Part} {z0 s : State} (hz : SameOutside U z0 s) (on : Bool) (hU : Part.sub [.unit .lgs, .unit .dse] U = true) : SameOutside U z0 (State.setMark s on) := by
  unfold State.setMark
  try dsimp only
  repeat' first
    | (with_reducible assumption)
    | (with_reducible exact Part.sub_trans rfl hU)
    | (with_reducible exact Or.inl (Part.sub_trans rfl hU))
    | (with_reducible exact Or.inr rfl)
    | (with_reducible apply State.raise_within)
    | (with_reducible apply State.putFlag_within)
    | (with_reducible apply State.each_within)
    | (with_reducible apply State.onlyIf_within)
    | (with_reducible apply State.foldl_within)
    | (intro x k hx)
    | (intro x hx)
    | split

theorem State.lanternDraw_within {U : List Part} {z0 s : State} (hz : SameOutside U z0 s) (balanced : Bool) (all : Bool) (hU : Part.sub [.unit .dse] U = true) : SameOutside U z0 (State.lanternDraw s balanced all) := by
  unfold State.lanternDraw
  try dsimp only
  repeat' first
    | (with_reducible assumption)
    | (with_reducible exact Part.sub_trans rfl hU)
    | (with_reducible exact Or.inl (Part.sub_trans rfl hU))
    | (with_reducible exact Or.inr rfl)
    | (with_reducible apply State.putRow_within)
    | (with_reducible apply State.each_within)
    | (with_reducible apply State.onlyIf_within)
    | (with_reducible apply State.foldl_within)
    | (intro x k hx)

theorem State.showLantern_within {U : List Part} {z0 s : State} (hz : SameOutside U z0 s) (l : Lantern) (hU : Part.sub [.unit .lgs, .unit .dse] U = true) : SameOutside U z0 (State.showLantern s l) := by
  unfold State.showLantern
  try dsimp only
  repeat' first
    | (with_reducible assumption)
    | (with_reducible exact Part.sub_trans rfl hU)
    | (with_reducible exact Or.inl (Part.sub_trans rfl hU))
    | (with_reducible exact Or.inr rfl)
    | (with_reducible apply State.raise2_within)
    | (with_reducible apply State.putFlag_within)
    | (with_reducible apply State.setDse_within)
    | (with_reducible apply State.setMark_within)
    | (with_reducible apply State.put_within)
    | (with_reducible apply State.each_within)
    | (with_reducible apply State.onlyIf_within)
    | (with_reducible apply State.foldl_within)
    | (intro x k hx)
    | (intro x hx)
    | split
    | (with_reducible apply SameOutside.built)

theorem State.lanternAct_within {U : List Part} {z0 s : State} (hz : SameOutside U z0 s) (hU : Part.sub [.unit .lgs, .unit .dse] U = true) : SameOutside U z0 (State.lanternAct s) := by
  unfold State.lanternAct
  try dsimp only
  repeat' first
    | (with_reducible assumption)
    | (with_reducible exact Part.sub_trans rfl hU)
    | (with_reducible exact Or.inl (Part.sub_trans rfl hU))
    | (with_reducible exact Or.inr rfl)
    | (with_reducible apply State.showLantern_within)
    | (with_reducible apply State.setMark_within)
    | (with_reducible apply State.each_within)
    | (with_reducible apply State.onlyIf_within)
    | (with_reducible apply State.foldl_within)
    | (intro x k hx)
    | (intro x hx)
    | split

theorem State.lanternRun_within {U : List Part} {z0 s : State} (hz : SameOutside U z0 s) (hU : Part.sub [.unit .lgs, .unit .dse] U = true) : SameOutside U z0 (State.lanternRun s) := by
  unfold State.lanternRun
  try dsimp only
  repeat' first
    | (with_reducible assumption)
    | (with_reducible exact Part.sub_trans rfl hU)
    | (with_reducible exact Or.inl (Part.sub_trans rfl hU))
    | (with_reducible exact Or.inr rfl)
    | (with_reducible apply State.lanternDraw_within)
    | (with_reducible apply State.lanternAct_within)
    | (with_reducible apply State.each_within)
    | (with_reducible apply State.onlyIf_within)
    | (with_reducible apply State.foldl_within)
    | (intro x k hx)
    | (intro x hx)
    | split
    | (with_reducible apply SameOutside.built)

theorem execDisplayUpdateDone_within (vdh : BitVec 16) (vdl : BitVec 16) (copies : List (Nat × Int)) (s : State) : Stays [.unit .lgs, .unit .dse] s (execDisplayUpdateDone vdh vdl copies s) := by
  have hU : Part.sub [.unit .lgs, .unit .dse] [.unit .lgs, .unit .dse] = true := rfl
  unfold execDisplayUpdateDone
  try dsimp only
  repeat' first
    | (with_reducible assumption)
    | (with_reducible exact Part.sub_trans rfl hU)
    | (with_reducible exact Or.inl (Part.sub_trans rfl hU))
    | (with_reducible exact Or.inr rfl)
    | (with_reducible exact SameOutside.refl _ _)
    | (with_reducible apply Stays.next)
    | (with_reducible apply State.testPanel_within)
    | (with_reducible apply State.count_within)
    | (with_reducible apply State.lanternDraw_within)
    | (with_reducible apply State.raise_within)
    | (with_reducible apply State.recover_within)
    | (with_reducible apply State.writeRow_within)
    | (with_reducible apply State.setDse_within)
    | (with_reducible apply State.put_within)
    | (with_reducible apply State.ledgerDisagrees_within)
    | (with_reducible apply State.each_within)
    | (with_reducible apply State.onlyIf_within)
    | (with_reducible apply State.foldl_within)
    | (intro x k hx)
    | (intro x hx)
    | split
    | (with_reducible apply SameOutside.built)

theorem execLanternStopLatch_within (n : Fin 24) (s : State) : Stays [.unit .lgs, .unit .dse] s (execLanternStopLatch n s) := by
  have hU : Part.sub [.unit .lgs, .unit .dse] [.unit .lgs, .unit .dse] = true := rfl
  unfold execLanternStopLatch
  try dsimp only
  repeat' first
    | (with_reducible assumption)
    | (with_reducible exact Part.sub_trans rfl hU)
    | (with_reducible exact Or.inl (Part.sub_trans rfl hU))
    | (with_reducible exact Or.inr rfl)
    | (with_reducible exact SameOutside.refl _ _)
    | (with_reducible apply Stays.next)
    | (with_reducible apply State.putFlag_within)
    | (with_reducible apply State.setDse_within)
    | (with_reducible apply State.lanternRun_within)
    | (with_reducible apply State.each_within)
    | (with_reducible apply State.onlyIf_within)
    | (with_reducible apply State.foldl_within)
    | (intro x k hx)
    | (intro x hx)
    | split
    | (with_reducible apply SameOutside.built)

theorem execLanternCommit_within (n : Fin 24) (s : State) : Stays [.unit .lgs, .unit .dse] s (execLanternCommit n s) := by
  have hU : Part.sub [.unit .lgs, .unit .dse] [.unit .lgs, .unit .dse] = true := rfl
  unfold execLanternCommit
  try dsimp only
  repeat' first
    | (with_reducible assumption)
    | (with_reducible exact Part.sub_trans rfl hU)
    | (with_reducible exact Or.inl (Part.sub_trans rfl hU))
    | (with_reducible exact Or.inr rfl)
    | (with_reducible exact SameOutside.refl _ _)
    | (with_reducible apply Stays.next)
    | (with_reducible apply State.setDse_within)
    | (with_reducible apply State.lanternRun_within)
    | (with_reducible apply State.each_within)
    | (with_reducible apply State.onlyIf_within)
    | (with_reducible apply State.foldl_within)
    | (intro x k hx)
    | (intro x hx)
    | split

theorem execDriveVoltageResume_within (vdh : BitVec 16) (vdl : BitVec 16) (s : State) : Stays [.unit .lgs, .unit .dse] s (execDriveVoltageResume vdh vdl s) := by
  have hU : Part.sub [.unit .lgs, .unit .dse] [.unit .lgs, .unit .dse] = true := rfl
  unfold execDriveVoltageResume
  try dsimp only
  repeat' first
    | (with_reducible assumption)
    | (with_reducible exact Part.sub_trans rfl hU)
    | (with_reducible exact Or.inl (Part.sub_trans rfl hU))
    | (with_reducible exact Or.inr rfl)
    | (with_reducible exact SameOutside.refl _ _)
    | (with_reducible apply Stays.next)
    | (with_reducible apply State.raise2_within)
    | (with_reducible apply State.moveTo_within)
    | (with_reducible apply State.putFlag_within)
    | (with_reducible apply State.setDse_within)
    | (with_reducible apply State.put_within)
    | (with_reducible apply State.lanternRun_within)
    | (with_reducible apply State.each_within)
    | (with_reducible apply State.onlyIf_within)
    | (with_reducible apply State.foldl_within)
    | (intro x k hx)
    | (intro x hx)
    | split
    | (with_reducible apply SameOutside.built)

theorem State.showStress_within {U : List Part} {z0 s : State} (hz : SameOutside U z0 s) (hU : Part.sub [.unit .dse] U = true) : SameOutside U z0 (State.showStress s) := by
  unfold State.showStress
  try dsimp only
  repeat' first
    | (with_reducible assumption)
    | (with_reducible exact Part.sub_trans rfl hU)
    | (with_reducible exact Or.inl (Part.sub_trans rfl hU))
    | (with_reducible exact Or.inr rfl)
    | (with_reducible apply State.put_within)

theorem State.dsePlan_within {U : List Part} {z0 s : State} (hz : SameOutside U z0 s) (hU : Part.sub [.unit .dse] U = true) : SameOutside U z0 (State.dsePlan s) := by
  unfold State.dsePlan
  try dsimp only
  repeat' first
    | (with_reducible assumption)
    | (with_reducible exact Part.sub_trans rfl hU)
    | (with_reducible exact Or.inl (Part.sub_trans rfl hU))
    | (with_reducible exact Or.inr rfl)
    | (with_reducible apply State.setDse_within)
    | (with_reducible apply State.each_within)
    | (with_reducible apply State.onlyIf_within)
    | (with_reducible apply State.foldl_within)
    | (intro x k hx)
    | (intro x hx)
    | split
    | (with_reducible apply SameOutside.built)

theorem State.dseStart_within {U : List Part} {z0 s : State} (hz : SameOutside U z0 s) (hU : Part.sub [.unit .lgs, .unit .dse, .latches] U = true) : SameOutside U z0 (State.dseStart s) := by
  unfold State.dseStart
  try dsimp only
  repeat' first
    | (with_reducible assumption)
    | (with_reducible exact Part.sub_trans rfl hU)
    | (with_reducible exact Or.inl (Part.sub_trans rfl hU))
    | (with_reducible exact Or.inr rfl)
    | (with_reducible apply State.putFlag_within)
    | (with_reducible apply State.clearUnit_within)
    | (with_reducible apply State.setDse_within)
    | (with_reducible apply State.lanternRun_within)
    | (with_reducible apply State.each_within)
    | (with_reducible apply State.onlyIf_within)
    | (with_reducible apply State.foldl_within)
    | (intro x k hx)
    | (intro x hx)
    | split

theorem State.dseWarm_within {U : List Part} {z0 s : State} (hz : SameOutside U z0 s) (hU : Part.sub [.unit .dse, .latches] U = true) : SameOutside U z0 (State.dseWarm s) := by
  unfold State.dseWarm
  try dsimp only
  repeat' first
    | (with_reducible assumption)
    | (with_reducible exact Part.sub_trans rfl hU)
    | (with_reducible exact Or.inl (Part.sub_trans rfl hU))
    | (with_reducible exact Or.inr rfl)
    | (with_reducible apply State.setDse_within)
    | (with_reducible apply State.clearUnit_within)
    | (with_reducible apply State.each_within)
    | (with_reducible apply State.onlyIf_within)
    | (with_reducible apply State.foldl_within)
    | (intro x k hx)
    | (intro x hx)
    | split

theorem State.dsePowerFail_within {U : List Part} {z0 s : State} (hz : SameOutside U z0 s) (hU : Part.sub [.unit .lgs, .unit .dse] U = true) : SameOutside U z0 (State.dsePowerFail s) := by
  unfold State.dsePowerFail
  try dsimp only
  repeat' first
    | (with_reducible assumption)
    | (with_reducible exact Part.sub_trans rfl hU)
    | (with_reducible exact Or.inl (Part.sub_trans rfl hU))
    | (with_reducible exact Or.inr rfl)
    | (with_reducible apply State.count_within)
    | (with_reducible apply State.raise_within)
    | (with_reducible apply State.setDse_within)
    | (with_reducible apply State.put_within)
    | (with_reducible apply State.each_within)
    | (with_reducible apply State.onlyIf_within)
    | (with_reducible apply State.foldl_within)
    | (intro x k hx)
    | (intro x hx)
    | split
    | (with_reducible apply SameOutside.built)

end Sys2Proof.Machine
end

