-- ==== Sys2Proof/Laws/WithinSwitch.lean ====
section
/-! SUPPORT. Every operation and every command of the switch channels leaves the parts of the block alone that it does not touch (Laws/Within.lean). -/

namespace Sys2Proof.Machine

open Sys2Proof

theorem State.setPhase_within {U : List Part} {z0 s : State} (hz : SameOutside U z0 s) (c : Nat) (ph : Nat) (hU : Part.sub [.unit .psw] U = true) : SameOutside U z0 (State.setPhase s c ph) := by
  unfold State.setPhase
  try dsimp only
  repeat' first
    | (with_reducible assumption)
    | (with_reducible exact Part.sub_trans rfl hU)
    | (with_reducible exact Or.inl (Part.sub_trans rfl hU))
    | (with_reducible exact Or.inr rfl)
    | (with_reducible apply State.putBit_within)
    | (with_reducible apply State.putFlag_within)
    | (with_reducible apply State.put_within)

theorem State.leaveQueue_within {U : List Part} {z0 s : State} (hz : SameOutside U z0 s) (c : Nat) (hU : Part.sub [.unit .psw] U = true) : SameOutside U z0 (State.leaveQueue s c) := by
  unfold State.leaveQueue
  try dsimp only
  repeat' first
    | (with_reducible assumption)
    | (with_reducible exact Part.sub_trans rfl hU)
    | (with_reducible exact Or.inl (Part.sub_trans rfl hU))
    | (with_reducible exact Or.inr rfl)
    | (with_reducible apply State.putBit_within)
    | (with_reducible apply State.setSw_within)
    | (with_reducible apply State.each_within)
    | (with_reducible apply State.onlyIf_within)
    | (with_reducible apply State.foldl_within)
    | (intro x k hx)

theorem State.startLockTimers_within {U : List Part} {z0 s : State} (hz : SameOutside U z0 s) (c : Nat) (hU : Part.sub [.unit .oiu] U = true) : SameOutside U z0 (State.startLockTimers s c) := by
  unfold State.startLockTimers
  try dsimp only
  repeat' first
    | (with_reducible assumption)
    | (with_reducible exact Part.sub_trans rfl hU)
    | (with_reducible exact Or.inl (Part.sub_trans rfl hU))
    | (with_reducible exact Or.inr rfl)
    | (with_reducible apply State.setOiu_within)
    | (with_reducible apply State.each_within)
    | (with_reducible apply State.onlyIf_within)
    | (with_reducible apply State.foldl_within)
    | (intro x k hx)
    | (intro x hx)
    | split

theorem State.grantSlot_within {U : List Part} {z0 s : State} (hz : SameOutside U z0 s) (c : Nat) (hU : Part.sub [.unit .oiu, .unit .psw] U = true) : SameOutside U z0 (State.grantSlot s c) := by
  unfold State.grantSlot
  try dsimp only
  repeat' first
    | (with_reducible assumption)
    | (with_reducible exact Part.sub_trans rfl hU)
    | (with_reducible exact Or.inl (Part.sub_trans rfl hU))
    | (with_reducible exact Or.inr rfl)
    | (with_reducible apply State.leaveQueue_within)
    | (with_reducible apply State.put_within)
    | (with_reducible apply State.startLockTimers_within)
    | (with_reducible apply State.count_within)
    | (with_reducible apply State.putFlag_within)
    | (with_reducible apply State.setPhase_within)
    | (with_reducible apply State.setSw_within)
    | (with_reducible apply State.each_within)
    | (with_reducible apply State.onlyIf_within)
    | (with_reducible apply State.foldl_within)
    | (intro x k hx)
    | (intro x hx)
    | split
    | (with_reducible apply SameOutside.built)

theorem State.serveBank_within {U : List Part} {z0 s : State} (hz : SameOutside U z0 s) (k : Nat) (hU : Part.sub [.unit .oiu, .unit .psw] U = true) : SameOutside U z0 (State.serveBank s k) := by
  unfold State.serveBank
  try dsimp only
  repeat' first
    | (with_reducible assumption)
    | (with_reducible exact Part.sub_trans rfl hU)
    | (with_reducible exact Or.inl (Part.sub_trans rfl hU))
    | (with_reducible exact Or.inr rfl)
    | (with_reducible apply State.grantSlot_within)
    | (with_reducible apply State.each_within)
    | (with_reducible apply State.onlyIf_within)
    | (with_reducible apply State.foldl_within)
    | (intro x k hx)
    | (intro x hx)
    | split

theorem State.releaseSlot_within {U : List Part} {z0 s : State} (hz : SameOutside U z0 s) (c : Nat) (hU : Part.sub [.unit .oiu, .unit .psw] U = true) : SameOutside U z0 (State.releaseSlot s c) := by
  unfold State.releaseSlot
  try dsimp only
  repeat' first
    | (with_reducible assumption)
    | (with_reducible exact Part.sub_trans rfl hU)
    | (with_reducible exact Or.inl (Part.sub_trans rfl hU))
    | (with_reducible exact Or.inr rfl)
    | (with_reducible apply State.putFlag_within)
    | (with_reducible apply State.serveBank_within)
    | (with_reducible apply State.put_within)
    | (with_reducible apply State.each_within)
    | (with_reducible apply State.onlyIf_within)
    | (with_reducible apply State.foldl_within)
    | (intro x k hx)
    | (intro x hx)
    | split
    | (with_reducible apply SameOutside.built)

theorem State.endFreeze_within {U : List Part} {z0 s : State} (hz : SameOutside U z0 s) (c : Nat) (hU : Part.sub [.unit .psw, .unit .lgs] U = true) : SameOutside U z0 (State.endFreeze s c) := by
  unfold State.endFreeze
  try dsimp only
  repeat' first
    | (with_reducible assumption)
    | (with_reducible exact Part.sub_trans rfl hU)
    | (with_reducible exact Or.inl (Part.sub_trans rfl hU))
    | (with_reducible exact Or.inr rfl)
    | (with_reducible apply State.raise2_within)
    | (with_reducible apply State.putFlag_within)
    | (with_reducible apply State.setSw_within)
    | (with_reducible apply State.each_within)
    | (with_reducible apply State.onlyIf_within)
    | (with_reducible apply State.foldl_within)
    | (intro x k hx)
    | (intro x hx)
    | split

theorem State.joinQueue_within {U : List Part} {z0 s : State} (hz : SameOutside U z0 s) (c : Nat) (hU : Part.sub [.unit .psw] U = true) : SameOutside U z0 (State.joinQueue s c) := by
  unfold State.joinQueue
  try dsimp only
  repeat' first
    | (with_reducible assumption)
    | (with_reducible exact Part.sub_trans rfl hU)
    | (with_reducible exact Or.inl (Part.sub_trans rfl hU))
    | (with_reducible exact Or.inr rfl)
    | (with_reducible apply State.putBit_within)
    | (with_reducible apply State.setPhase_within)

theorem State.askSlot_within {U : List Part} {z0 s : State} (hz : SameOutside U z0 s) (c : Nat) (hU : Part.sub [.unit .oiu, .unit .psw] U = true) : SameOutside U z0 (State.askSlot s c) := by
  unfold State.askSlot
  try dsimp only
  repeat' first
    | (with_reducible assumption)
    | (with_reducible exact Part.sub_trans rfl hU)
    | (with_reducible exact Or.inl (Part.sub_trans rfl hU))
    | (with_reducible exact Or.inr rfl)
    | (with_reducible apply State.serveBank_within)
    | (with_reducible apply State.joinQueue_within)
    | (with_reducible apply State.each_within)
    | (with_reducible apply State.onlyIf_within)
    | (with_reducible apply State.foldl_within)
    | (intro x k hx)
    | (intro x hx)
    | split
    | (with_reducible apply SameOutside.built)

theorem State.chOff_within {U : List Part} {z0 s : State} (hz : SameOutside U z0 s) (c : Nat) (ph : Nat) (fast : Bool) (hU : Part.sub [.unit .oiu, .unit .psw, .unit .lgs] U = true) : SameOutside U z0 (State.chOff s c ph fast) := by
  unfold State.chOff
  try dsimp only
  repeat' first
    | (with_reducible assumption)
    | (with_reducible exact Part.sub_trans rfl hU)
    | (with_reducible exact Or.inl (Part.sub_trans rfl hU))
    | (with_reducible exact Or.inr rfl)
    | (with_reducible apply State.leaveQueue_within)
    | (with_reducible apply State.endFreeze_within)
    | (with_reducible apply State.setPhase_within)
    | (with_reducible apply State.setSw_within)
    | (with_reducible apply State.releaseSlot_within)
    | (with_reducible apply State.each_within)
    | (with_reducible apply State.onlyIf_within)
    | (with_reducible apply State.foldl_within)
    | (intro x k hx)
    | (intro x hx)
    | split
    | (with_reducible apply SameOutside.built)

theorem State.uncount_within {U : List Part} {z0 s : State} (hz : SameOutside U z0 s) (c : Nat) (hU : Part.sub [.unit .psw] U = true) : SameOutside U z0 (State.uncount s c) := by
  unfold State.uncount
  try dsimp only
  repeat' first
    | (with_reducible assumption)
    | (with_reducible exact Part.sub_trans rfl hU)
    | (with_reducible exact Or.inl (Part.sub_trans rfl hU))
    | (with_reducible exact Or.inr rfl)
    | (with_reducible apply State.put_within)
    | (with_reducible apply State.setPhase_within)
    | (with_reducible apply State.setSw_within)
    | (with_reducible apply State.each_within)
    | (with_reducible apply State.onlyIf_within)
    | (with_reducible apply State.foldl_within)
    | (intro x k hx)
    | (intro x hx)
    | split
    | (with_reducible apply SameOutside.built)

theorem State.swRefresh_within {U : List Part} {z0 s : State} (hz : SameOutside U z0 s) (c : Nat) (hU : Part.sub [.unit .oiu, .unit .psw, .unit .lgs] U = true) : SameOutside U z0 (State.swRefresh s c) := by
  unfold State.swRefresh
  try dsimp only
  repeat' first
    | (with_reducible assumption)
    | (with_reducible exact Part.sub_trans rfl hU)
    | (with_reducible exact Or.inl (Part.sub_trans rfl hU))
    | (with_reducible exact Or.inr rfl)
    | (with_reducible apply State.chOff_within)
    | (with_reducible apply State.uncount_within)
    | (with_reducible apply State.askSlot_within)
    | (with_reducible apply State.putFlag_within)
    | (with_reducible apply State.each_within)
    | (with_reducible apply State.onlyIf_within)
    | (with_reducible apply State.foldl_within)
    | (intro x k hx)
    | (intro x hx)
    | split
    | (with_reducible apply SameOutside.built)

theorem State.swPermit_within {U : List Part} {z0 s : State} (hz : SameOutside U z0 s) (c : Nat) (b : Bool) (hU : Part.sub [.unit .oiu, .unit .psw, .unit .lgs] U = true) : SameOutside U z0 (State.swPermit s c b) := by
  unfold State.swPermit
  try dsimp only
  repeat' first
    | (with_reducible assumption)
    | (with_reducible exact Part.sub_trans rfl hU)
    | (with_reducible exact Or.inl (Part.sub_trans rfl hU))
    | (with_reducible exact Or.inr rfl)
    | (with_reducible apply State.swRefresh_within)
    | (with_reducible apply State.putBit_within)
    | (with_reducible apply State.putFlag_within)

theorem State.swTripLine_within {U : List Part} {z0 s : State} (hz : SameOutside U z0 s) (c : Nat) (b : Bool) (hU : Part.sub [.unit .oiu, .unit .psw, .unit .lgs] U = true) : SameOutside U z0 (State.swTripLine s c b) := by
  unfold State.swTripLine
  try dsimp only
  repeat' first
    | (with_reducible assumption)
    | (with_reducible exact Part.sub_trans rfl hU)
    | (with_reducible exact Or.inl (Part.sub_trans rfl hU))
    | (with_reducible exact Or.inr rfl)
    | (with_reducible apply State.swRefresh_within)
    | (with_reducible apply State.putBit_within)

theorem State.endTry_within {U : List Part} {z0 s : State} (hz : SameOutside U z0 s) (c : Nat) (hot : Bool) (hU : Part.sub [.unit .oiu, .unit .psw, .unit .lgs] U = true) : SameOutside U z0 (State.endTry s c hot) := by
  unfold State.endTry
  try dsimp only
  repeat' first
    | (with_reducible assumption)
    | (with_reducible exact Part.sub_trans rfl hU)
    | (with_reducible exact Or.inl (Part.sub_trans rfl hU))
    | (with_reducible exact Or.inr rfl)
    | (with_reducible apply State.chOff_within)
    | (with_reducible apply State.raise2_within)
    | (with_reducible apply State.setSw_within)
    | (with_reducible apply State.put_within)
    | (with_reducible apply State.each_within)
    | (with_reducible apply State.onlyIf_within)
    | (with_reducible apply State.foldl_within)
    | (intro x k hx)
    | (intro x hx)
    | split
    | (with_reducible apply SameOutside.built)

theorem State.swFault_within {U : List Part} {z0 s : State} (hz : SameOutside U z0 s) (c : Nat) (kind : ChFault) (hU : Part.sub [.unit .oiu, .unit .psw, .unit .lgs] U = true) : SameOutside U z0 (State.swFault s c kind) := by
  unfold State.swFault
  try dsimp only
  repeat' first
    | (with_reducible assumption)
    | (with_reducible exact Part.sub_trans rfl hU)
    | (with_reducible exact Or.inl (Part.sub_trans rfl hU))
    | (with_reducible exact Or.inr rfl)
    | (with_reducible apply State.chOff_within)
    | (with_reducible apply State.raise2_within)
    | (with_reducible apply State.count_within)
    | (with_reducible apply State.setSw_within)
    | (with_reducible apply State.endTry_within)
    | (with_reducible apply State.put_within)
    | (with_reducible apply State.each_within)
    | (with_reducible apply State.onlyIf_within)
    | (with_reducible apply State.foldl_within)
    | (exact Part.sub_trans (by cases kind <;> rfl) hU)
    | (intro x k hx)
    | (intro x hx)
    | split
    | (with_reducible apply SameOutside.built)

theorem State.writeOn_within {U : List Part} {z0 s : State} (hz : SameOutside U z0 s) (c : Nat) (b : Bool) (hU : Part.sub [.unit .oiu, .unit .psw, .unit .lgs] U = true) : SameOutside U z0 (State.writeOn s c b) := by
  unfold State.writeOn
  try dsimp only
  repeat' first
    | (with_reducible assumption)
    | (with_reducible exact Part.sub_trans rfl hU)
    | (with_reducible exact Or.inl (Part.sub_trans rfl hU))
    | (with_reducible exact Or.inr rfl)
    | (with_reducible apply State.putFlag_within)
    | (with_reducible apply State.swRefresh_within)
    | (with_reducible apply State.setSw_within)
    | (with_reducible apply State.each_within)
    | (with_reducible apply State.onlyIf_within)
    | (with_reducible apply State.foldl_within)
    | (intro x k hx)
    | (intro x hx)
    | split
    | (with_reducible apply SameOutside.built)

theorem execChannelTurnOn_within (c : Fin 32) (s : State) : Stays [.unit .oiu, .unit .psw, .unit .lgs] s (execChannelTurnOn c s) := by
  have hU : Part.sub [.unit .oiu, .unit .psw, .unit .lgs] [.unit .oiu, .unit .psw, .unit .lgs] = true := rfl
  unfold execChannelTurnOn
  try dsimp only
  repeat' first
    | (with_reducible assumption)
    | (with_reducible exact Part.sub_trans rfl hU)
    | (with_reducible exact Or.inl (Part.sub_trans rfl hU))
    | (with_reducible exact Or.inr rfl)
    | (with_reducible exact SameOutside.refl _ _)
    | (with_reducible apply Stays.next)
    | (with_reducible apply State.swRefresh_within)
    | (with_reducible apply State.writeOn_within)
    | (with_reducible apply State.each_within)
    | (with_reducible apply State.onlyIf_within)
    | (with_reducible apply State.foldl_within)
    | (intro x k hx)
    | (intro x hx)
    | split

theorem execChannelTurnOff_within (c : Fin 32) (s : State) : Stays [.unit .oiu, .unit .psw, .unit .lgs] s (execChannelTurnOff c s) := by
  have hU : Part.sub [.unit .oiu, .unit .psw, .unit .lgs] [.unit .oiu, .unit .psw, .unit .lgs] = true := rfl
  unfold execChannelTurnOff
  try dsimp only
  repeat' first
    | (with_reducible assumption)
    | (with_reducible exact Part.sub_trans rfl hU)
    | (with_reducible exact Or.inl (Part.sub_trans rfl hU))
    | (with_reducible exact Or.inr rfl)
    | (with_reducible exact SameOutside.refl _ _)
    | (with_reducible apply Stays.next)
    | (with_reducible apply State.swRefresh_within)
    | (with_reducible apply State.writeOn_within)
    | (with_reducible apply State.each_within)
    | (with_reducible apply State.onlyIf_within)
    | (with_reducible apply State.foldl_within)
    | (intro x k hx)
    | (intro x hx)
    | split

theorem execInrushSlotGrant_within (k : Fin 4) (s : State) : Stays [.unit .oiu, .unit .psw] s (execInrushSlotGrant k s) := by
  have hU : Part.sub [.unit .oiu, .unit .psw] [.unit .oiu, .unit .psw] = true := rfl
  unfold execInrushSlotGrant
  try dsimp only
  repeat' first
    | (with_reducible assumption)
    | (with_reducible exact Part.sub_trans rfl hU)
    | (with_reducible exact Or.inl (Part.sub_trans rfl hU))
    | (with_reducible exact Or.inr rfl)
    | (with_reducible exact SameOutside.refl _ _)
    | (with_reducible apply Stays.next)
    | (with_reducible apply State.serveBank_within)

theorem State.windowEnd_within {U : List Part} {z0 s : State} (hz : SameOutside U z0 s) (c : Nat) (limiting : Bool) (hU : Part.sub [.unit .oiu, .unit .psw, .unit .lgs] U = true) : SameOutside U z0 (State.windowEnd s c limiting) := by
  unfold State.windowEnd
  try dsimp only
  repeat' first
    | (with_reducible assumption)
    | (with_reducible exact Part.sub_trans rfl hU)
    | (with_reducible exact Or.inl (Part.sub_trans rfl hU))
    | (with_reducible exact Or.inr rfl)
    | (with_reducible apply State.endFreeze_within)
    | (with_reducible apply State.swFault_within)
    | (with_reducible apply State.setPhase_within)
    | (with_reducible apply State.setSw_within)
    | (with_reducible apply State.releaseSlot_within)
    | (with_reducible apply State.each_within)
    | (with_reducible apply State.onlyIf_within)
    | (with_reducible apply State.foldl_within)
    | (intro x k hx)
    | (intro x hx)
    | split
    | (with_reducible apply SameOutside.built)

theorem execInrushWindowEnd_within (c : Fin 32) (limiting : Bool) (s : State) : Stays [.unit .oiu, .unit .psw, .unit .lgs] s (execInrushWindowEnd c limiting s) := by
  have hU : Part.sub [.unit .oiu, .unit .psw, .unit .lgs] [.unit .oiu, .unit .psw, .unit .lgs] = true := rfl
  unfold execInrushWindowEnd
  try dsimp only
  repeat' first
    | (with_reducible assumption)
    | (with_reducible exact Part.sub_trans rfl hU)
    | (with_reducible exact Or.inl (Part.sub_trans rfl hU))
    | (with_reducible exact Or.inr rfl)
    | (with_reducible exact SameOutside.refl _ _)
    | (with_reducible apply Stays.next)
    | (with_reducible apply State.windowEnd_within)
    | (with_reducible apply State.moveTo_within)
    | (with_reducible apply State.each_within)
    | (with_reducible apply State.onlyIf_within)
    | (with_reducible apply State.foldl_within)
    | (intro x k hx)
    | (intro x hx)
    | split

theorem execShortCircuit_within (c : Fin 32) (limited : Bool) (millivolts : Nat) (s : State) : Stays [.unit .oiu, .unit .psw, .unit .lgs] s (execShortCircuit c limited millivolts s) := by
  have hU : Part.sub [.unit .oiu, .unit .psw, .unit .lgs] [.unit .oiu, .unit .psw, .unit .lgs] = true := rfl
  unfold execShortCircuit
  try dsimp only
  repeat' first
    | (with_reducible assumption)
    | (with_reducible exact Part.sub_trans rfl hU)
    | (with_reducible exact Or.inl (Part.sub_trans rfl hU))
    | (with_reducible exact Or.inr rfl)
    | (with_reducible exact SameOutside.refl _ _)
    | (with_reducible apply Stays.next)
    | (with_reducible apply State.swFault_within)
    | (with_reducible apply State.each_within)
    | (with_reducible apply State.onlyIf_within)
    | (with_reducible apply State.foldl_within)
    | (intro x k hx)
    | (intro x hx)
    | split

theorem State.takeLoad_within {U : List Part} {z0 s : State} (hz : SameOutside U z0 s) (c : Nat) (l : List LoadSpan)
    (hU : Part.sub [.unit .oiu, .unit .psw, .unit .lgs] U = true) : SameOutside U z0 (State.takeLoad s c l) := by
  induction l generalizing s with
  | nil => exact hz
  | cons x l ih =>
    unfold State.takeLoad
    extract_lets w s1
    have h1 : SameOutside U z0 s1 := State.setSw_within hz _ _ (Part.sub_trans rfl hU)
    clear_value s1
    split
    · exact State.swFault_within h1 _ _ (Part.sub_trans rfl hU)
    · exact ih h1

theorem execOvercurrent_within (c : Fin 32) (load : List LoadSpan) (s : State) : Stays [.unit .oiu, .unit .psw, .unit .lgs] s (execOvercurrent c load s) := by
  have hU : Part.sub [.unit .oiu, .unit .psw, .unit .lgs] [.unit .oiu, .unit .psw, .unit .lgs] = true := rfl
  unfold execOvercurrent
  try dsimp only
  repeat' first
    | (with_reducible assumption)
    | (with_reducible exact Part.sub_trans rfl hU)
    | (with_reducible exact Or.inl (Part.sub_trans rfl hU))
    | (with_reducible exact Or.inr rfl)
    | (with_reducible exact SameOutside.refl _ _)
    | (with_reducible apply Stays.next)
    | (with_reducible apply State.takeLoad_within)
    | (with_reducible apply State.each_within)
    | (with_reducible apply State.onlyIf_within)
    | (with_reducible apply State.foldl_within)
    | (intro x k hx)
    | (intro x hx)
    | split
    | (with_reducible apply SameOutside.built)

theorem execOvertemperature_within (c : Fin 32) (junction : Nat) (s : State) : Stays [.unit .oiu, .unit .psw, .unit .lgs] s (execOvertemperature c junction s) := by
  have hU : Part.sub [.unit .oiu, .unit .psw, .unit .lgs] [.unit .oiu, .unit .psw, .unit .lgs] = true := rfl
  unfold execOvertemperature
  try dsimp only
  repeat' first
    | (with_reducible assumption)
    | (with_reducible exact Part.sub_trans rfl hU)
    | (with_reducible exact Or.inl (Part.sub_trans rfl hU))
    | (with_reducible exact Or.inr rfl)
    | (with_reducible exact SameOutside.refl _ _)
    | (with_reducible apply Stays.next)
    | (with_reducible apply State.swFault_within)
    | (with_reducible apply State.each_within)
    | (with_reducible apply State.onlyIf_within)
    | (with_reducible apply State.foldl_within)
    | (intro x k hx)
    | (intro x hx)
    | split

theorem execRetryPauseEnd_within (c : Fin 32) (junction : Nat) (s : State) : Stays [.unit .oiu, .unit .psw, .unit .lgs] s (execRetryPauseEnd c junction s) := by
  have hU : Part.sub [.unit .oiu, .unit .psw, .unit .lgs] [.unit .oiu, .unit .psw, .unit .lgs] = true := rfl
  unfold execRetryPauseEnd
  try dsimp only
  repeat' first
    | (with_reducible assumption)
    | (with_reducible exact Part.sub_trans rfl hU)
    | (with_reducible exact Or.inl (Part.sub_trans rfl hU))
    | (with_reducible exact Or.inr rfl)
    | (with_reducible exact SameOutside.refl _ _)
    | (with_reducible apply Stays.next)
    | (with_reducible apply State.moveTo_within)
    | (with_reducible apply State.swRefresh_within)
    | (with_reducible apply State.setPhase_within)
    | (with_reducible apply State.setSw_within)
    | (with_reducible apply State.each_within)
    | (with_reducible apply State.onlyIf_within)
    | (with_reducible apply State.foldl_within)
    | (intro x k hx)
    | (intro x hx)
    | split
    | (with_reducible apply SameOutside.built)

theorem execTriesReset_within (c : Fin 32) (s : State) : Stays [.unit .psw] s (execTriesReset c s) := by
  have hU : Part.sub [.unit .psw] [.unit .psw] = true := rfl
  unfold execTriesReset
  try dsimp only
  repeat' first
    | (with_reducible assumption)
    | (with_reducible exact Part.sub_trans rfl hU)
    | (with_reducible exact Or.inl (Part.sub_trans rfl hU))
    | (with_reducible exact Or.inr rfl)
    | (with_reducible exact SameOutside.refl _ _)
    | (with_reducible apply Stays.next)
    | (with_reducible apply State.moveTo_within)
    | (with_reducible apply State.put_within)
    | (with_reducible apply State.setSw_within)
    | (with_reducible apply State.each_within)
    | (with_reducible apply State.onlyIf_within)
    | (with_reducible apply State.foldl_within)
    | (intro x k hx)
    | (intro x hx)
    | split

theorem State.clearLatch_within {U : List Part} {z0 s : State} (hz : SameOutside U z0 s) (c : Nat) (hU : Part.sub [.unit .oiu, .unit .psw, .unit .lgs] U = true) : SameOutside U z0 (State.clearLatch s c) := by
  unfold State.clearLatch
  try dsimp only
  repeat' first
    | (with_reducible assumption)
    | (with_reducible exact Part.sub_trans rfl hU)
    | (with_reducible exact Or.inl (Part.sub_trans rfl hU))
    | (with_reducible exact Or.inr rfl)
    | (with_reducible apply State.raise2_within)
    | (with_reducible apply State.put_within)
    | (with_reducible apply State.swRefresh_within)
    | (with_reducible apply State.setPhase_within)
    | (with_reducible apply State.each_within)
    | (with_reducible apply State.onlyIf_within)
    | (with_reducible apply State.foldl_within)
    | (intro x k hx)
    | (intro x hx)
    | split
    | (with_reducible apply SameOutside.built)

theorem State.latchClear_within {U : List Part} {z0 s : State} (hz : SameOutside U z0 s) (c : Nat) (hU : Part.sub [.unit .oiu, .unit .psw, .unit .lgs] U = true) : SameOutside U z0 (State.latchClear s c) := by
  unfold State.latchClear
  try dsimp only
  repeat' first
    | (with_reducible assumption)
    | (with_reducible exact Part.sub_trans rfl hU)
    | (with_reducible exact Or.inl (Part.sub_trans rfl hU))
    | (with_reducible exact Or.inr rfl)
    | (with_reducible apply State.clearLatch_within)
    | (with_reducible apply State.setSw_within)
    | (with_reducible apply State.each_within)
    | (with_reducible apply State.onlyIf_within)
    | (with_reducible apply State.foldl_within)
    | (intro x k hx)
    | (intro x hx)
    | split
    | (with_reducible apply SameOutside.built)

theorem execLatchclr_within (c : Fin 32) (s : State) : Stays [.unit .oiu, .unit .psw, .unit .lgs] s (execLatchclr c s) := by
  have hU : Part.sub [.unit .oiu, .unit .psw, .unit .lgs] [.unit .oiu, .unit .psw, .unit .lgs] = true := rfl
  unfold execLatchclr
  try dsimp only
  repeat' first
    | (with_reducible assumption)
    | (with_reducible exact Part.sub_trans rfl hU)
    | (with_reducible exact Or.inl (Part.sub_trans rfl hU))
    | (with_reducible exact Or.inr rfl)
    | (with_reducible exact SameOutside.refl _ _)
    | (with_reducible apply Stays.next)
    | (with_reducible apply State.latchClear_within)

theorem State.bankVolts_within {U : List Part} {z0 s : State} (hz : SameOutside U z0 s) (k : Nat) (vnow : Nat) (vmean : Nat) (hU : Part.sub [.unit .psw] U = true) : SameOutside U z0 (State.bankVolts s k vnow vmean) := by
  unfold State.bankVolts
  try dsimp only
  repeat' first
    | (with_reducible assumption)
    | (with_reducible exact Part.sub_trans rfl hU)
    | (with_reducible exact Or.inl (Part.sub_trans rfl hU))
    | (with_reducible exact Or.inr rfl)
    | (with_reducible apply State.put_within)

theorem State.freezeLimit_within {U : List Part} {z0 s : State} (hz : SameOutside U z0 s) (k : Nat) (hU : Part.sub [.unit .psw, .unit .lgs] U = true) : SameOutside U z0 (State.freezeLimit s k) := by
  unfold State.freezeLimit
  try dsimp only
  repeat' first
    | (with_reducible assumption)
    | (with_reducible exact Part.sub_trans rfl hU)
    | (with_reducible exact Or.inl (Part.sub_trans rfl hU))
    | (with_reducible exact Or.inr rfl)
    | (with_reducible apply State.endFreeze_within)
    | (with_reducible apply State.each_within)
    | (with_reducible apply State.onlyIf_within)
    | (with_reducible apply State.foldl_within)
    | (intro x k hx)
    | (intro x hx)
    | split

theorem State.judgeDroop_within {U : List Part} {z0 s : State} (hz : SameOutside U z0 s) (k : Nat) (hU : Part.sub [.unit .psw, .unit .lgs] U = true) : SameOutside U z0 (State.judgeDroop s k) := by
  unfold State.judgeDroop
  try dsimp only
  repeat' first
    | (with_reducible assumption)
    | (with_reducible exact Part.sub_trans rfl hU)
    | (with_reducible exact Or.inl (Part.sub_trans rfl hU))
    | (with_reducible exact Or.inr rfl)
    | (with_reducible apply State.freezeLimit_within)
    | (with_reducible apply State.endFreeze_within)
    | (with_reducible apply State.putFlag_within)
    | (with_reducible apply State.setSw_within)
    | (with_reducible apply State.each_within)
    | (with_reducible apply State.onlyIf_within)
    | (with_reducible apply State.foldl_within)
    | (intro x k hx)
    | (intro x hx)
    | split
    | (with_reducible apply SameOutside.built)

theorem execBankDroop_within (k : Fin 4) (vnow : BitVec 16) (vmean : BitVec 16) (s : State) : Stays [.unit .psw, .unit .lgs] s (execBankDroop k vnow vmean s) := by
  have hU : Part.sub [.unit .psw, .unit .lgs] [.unit .psw, .unit .lgs] = true := rfl
  unfold execBankDroop
  try dsimp only
  repeat' first
    | (with_reducible assumption)
    | (with_reducible exact Part.sub_trans rfl hU)
    | (with_reducible exact Or.inl (Part.sub_trans rfl hU))
    | (with_reducible exact Or.inr rfl)
    | (with_reducible exact SameOutside.refl _ _)
    | (with_reducible apply Stays.next)
    | (with_reducible apply State.judgeDroop_within)
    | (with_reducible apply State.bankVolts_within)
    | (with_reducible apply State.each_within)
    | (with_reducible apply State.onlyIf_within)
    | (with_reducible apply State.foldl_within)
    | (intro x k hx)
    | (intro x hx)
    | split
    | (with_reducible apply SameOutside.built)

theorem execBankDroopEnd_within (k : Fin 4) (vnow : BitVec 16) (vmean : BitVec 16) (s : State) : Stays [.unit .psw, .unit .lgs] s (execBankDroopEnd k vnow vmean s) := by
  have hU : Part.sub [.unit .psw, .unit .lgs] [.unit .psw, .unit .lgs] = true := rfl
  unfold execBankDroopEnd
  try dsimp only
  repeat' first
    | (with_reducible assumption)
    | (with_reducible exact Part.sub_trans rfl hU)
    | (with_reducible exact Or.inl (Part.sub_trans rfl hU))
    | (with_reducible exact Or.inr rfl)
    | (with_reducible exact SameOutside.refl _ _)
    | (with_reducible apply Stays.next)
    | (with_reducible apply State.judgeDroop_within)
    | (with_reducible apply State.bankVolts_within)
    | (with_reducible apply State.each_within)
    | (with_reducible apply State.onlyIf_within)
    | (with_reducible apply State.foldl_within)
    | (intro x k hx)
    | (intro x hx)
    | split
    | (with_reducible apply SameOutside.built)

theorem execBankUndervoltage_within (k : Fin 4) (vnow : BitVec 16) (s : State) : Stays [.unit .oiu, .unit .psw, .unit .lgs] s (execBankUndervoltage k vnow s) := by
  have hU : Part.sub [.unit .oiu, .unit .psw, .unit .lgs] [.unit .oiu, .unit .psw, .unit .lgs] = true := rfl
  unfold execBankUndervoltage
  try dsimp only
  repeat' first
    | (with_reducible assumption)
    | (with_reducible exact Part.sub_trans rfl hU)
    | (with_reducible exact Or.inl (Part.sub_trans rfl hU))
    | (with_reducible exact Or.inr rfl)
    | (with_reducible exact SameOutside.refl _ _)
    | (with_reducible apply Stays.next)
    | (with_reducible apply State.chOff_within)
    | (with_reducible apply State.judgeDroop_within)
    | (with_reducible apply State.raise2_within)
    | (with_reducible apply State.putFlag_within)
    | (with_reducible apply State.put_within)
    | (with_reducible apply State.each_within)
    | (with_reducible apply State.onlyIf_within)
    | (with_reducible apply State.foldl_within)
    | (intro x k hx)
    | (intro x hx)
    | split
    | (with_reducible apply SameOutside.built)

theorem execBankUndervoltageEnd_within (k : Fin 4) (vnow : BitVec 16) (s : State) : Stays [.unit .oiu, .unit .psw, .unit .lgs] s (execBankUndervoltageEnd k vnow s) := by
  have hU : Part.sub [.unit .oiu, .unit .psw, .unit .lgs] [.unit .oiu, .unit .psw, .unit .lgs] = true := rfl
  unfold execBankUndervoltageEnd
  try dsimp only
  repeat' first
    | (with_reducible assumption)
    | (with_reducible exact Part.sub_trans rfl hU)
    | (with_reducible exact Or.inl (Part.sub_trans rfl hU))
    | (with_reducible exact Or.inr rfl)
    | (with_reducible exact SameOutside.refl _ _)
    | (with_reducible apply Stays.next)
    | (with_reducible apply State.judgeDroop_within)
    | (with_reducible apply State.raise2_within)
    | (with_reducible apply State.joinQueue_within)
    | (with_reducible apply State.putFlag_within)
    | (with_reducible apply State.serveBank_within)
    | (with_reducible apply State.put_within)
    | (with_reducible apply State.each_within)
    | (with_reducible apply State.onlyIf_within)
    | (with_reducible apply State.foldl_within)
    | (intro x k hx)
    | (intro x hx)
    | split
    | (with_reducible apply SameOutside.built)

theorem State.shed_within {U : List Part} {r s : State} (h : SameOutside U r s) (k : Nat) (ma l : List Nat) (sum : Nat)
    (hU : Part.sub [.unit .oiu, .unit .psw, .unit .lgs] U = true) : SameOutside U r (s.shed k ma l sum) := by
  induction l generalizing s sum with
  | nil => exact h
  | cons c l ih =>
    unfold State.shed
    split
    · exact h
    · exact ih (State.raise2_within (State.swFault_within h _ _ (Part.sub_trans rfl hU)) _ _ _ (Part.sub_trans rfl hU)) _

theorem execBankOvercurrent_within (k : Fin 4) (milliamps : List Nat) (micros : Nat) (s : State) : Stays [.unit .oiu, .unit .psw, .unit .lgs] s (execBankOvercurrent k milliamps micros s) := by
  have hU : Part.sub [.unit .oiu, .unit .psw, .unit .lgs] [.unit .oiu, .unit .psw, .unit .lgs] = true := rfl
  unfold execBankOvercurrent
  try dsimp only
  repeat' first
    | (with_reducible assumption)
    | (with_reducible exact Part.sub_trans rfl hU)
    | (with_reducible exact Or.inl (Part.sub_trans rfl hU))
    | (with_reducible exact Or.inr rfl)
    | (with_reducible exact SameOutside.refl _ _)
    | (with_reducible apply Stays.next)
    | (with_reducible apply State.put_within)
    | (with_reducible apply State.shed_within)
    | (with_reducible apply State.each_within)
    | (with_reducible apply State.onlyIf_within)
    | (with_reducible apply State.foldl_within)
    | (intro x k hx)
    | (intro x hx)
    | split

theorem execOpenLoadChange_within (c : Fin 32) (millivolts : Nat) (s : State) : Stays [.unit .psw, .unit .lgs] s (execOpenLoadChange c millivolts s) := by
  have hU : Part.sub [.unit .psw, .unit .lgs] [.unit .psw, .unit .lgs] = true := rfl
  unfold execOpenLoadChange
  try dsimp only
  repeat' first
    | (with_reducible assumption)
    | (with_reducible exact Part.sub_trans rfl hU)
    | (with_reducible exact Or.inl (Part.sub_trans rfl hU))
    | (with_reducible exact Or.inr rfl)
    | (with_reducible exact SameOutside.refl _ _)
    | (with_reducible apply Stays.next)
    | (with_reducible apply State.raise2_within)
    | (with_reducible apply State.moveTo_within)
    | (with_reducible apply State.putFlag_within)
    | (with_reducible apply State.put_within)
    | (with_reducible apply State.each_within)
    | (with_reducible apply State.onlyIf_within)
    | (with_reducible apply State.foldl_within)
    | (intro x k hx)
    | (intro x hx)
    | split
    | (with_reducible apply SameOutside.built)

theorem execPwmFrame_within (c : Fin 32) (vmean : BitVec 16) (s : State) : Stays [.unit .oiu, .unit .psw, .unit .lgs] s (execPwmFrame c vmean s) := by
  have hU : Part.sub [.unit .oiu, .unit .psw, .unit .lgs] [.unit .oiu, .unit .psw, .unit .lgs] = true := rfl
  unfold execPwmFrame
  try dsimp only
  repeat' first
    | (with_reducible assumption)
    | (with_reducible exact Part.sub_trans rfl hU)
    | (with_reducible exact Or.inl (Part.sub_trans rfl hU))
    | (with_reducible exact Or.inr rfl)
    | (with_reducible exact SameOutside.refl _ _)
    | (with_reducible apply Stays.next)
    | (with_reducible apply State.apply_within)
    | (with_reducible apply State.clearLatch_within)
    | (with_reducible apply State.judgeDroop_within)
    | (with_reducible apply State.put_within)
    | (with_reducible apply State.raise2_within)
    | (with_reducible apply State.moveTo_within)
    | (with_reducible apply State.putFlag_within)
    | (with_reducible apply State.swRefresh_within)
    | (with_reducible apply State.setSw_within)
    | (with_reducible apply State.each_within)
    | (with_reducible apply State.onlyIf_within)
    | (with_reducible apply State.foldl_within)
    | (intro x k hx)
    | (intro x hx)
    | split
    | (with_reducible apply SameOutside.built)

theorem State.swGuyExpiry_within {U : List Part} {z0 s : State} (hz : SameOutside U z0 s) (c : Nat) (hU : Part.sub [.unit .oiu, .unit .psw, .unit .lgs] U = true) : SameOutside U z0 (State.swGuyExpiry s c) := by
  unfold State.swGuyExpiry
  try dsimp only
  repeat' first
    | (with_reducible assumption)
    | (with_reducible exact Part.sub_trans rfl hU)
    | (with_reducible exact Or.inl (Part.sub_trans rfl hU))
    | (with_reducible exact Or.inr rfl)
    | (with_reducible apply State.raise2_within)
    | (with_reducible apply State.swRefresh_within)
    | (with_reducible apply State.setSw_within)
    | (with_reducible apply State.each_within)
    | (with_reducible apply State.onlyIf_within)
    | (with_reducible apply State.foldl_within)
    | (intro x k hx)
    | (intro x hx)
    | split

theorem State.swReset_within {U : List Part} {z0 s : State} (hz : SameOutside U z0 s) (hU : Part.sub [.unit .oiu, .unit .psw, .unit .lgs, .latches] U = true) : SameOutside U z0 (State.swReset s) := by
  unfold State.swReset
  try dsimp only
  repeat' first
    | (with_reducible assumption)
    | (with_reducible exact Part.sub_trans rfl hU)
    | (with_reducible exact Or.inl (Part.sub_trans rfl hU))
    | (with_reducible exact Or.inr rfl)
    | (with_reducible apply State.chOff_within)
    | (with_reducible apply State.judgeDroop_within)
    | (with_reducible apply State.put_within)
    | (with_reducible apply State.setSw_within)
    | (with_reducible apply State.clearUnit_within)
    | (with_reducible apply State.each_within)
    | (with_reducible apply State.onlyIf_within)
    | (with_reducible apply State.foldl_within)
    | (intro x k hx)
    | (intro x hx)
    | split
    | (with_reducible apply SameOutside.built)

end Sys2Proof.Machine
end

