-- ==== Sys2Proof/Laws/WithinOutlet.lean ====
section
/-! SUPPORT. Every operation and every command of the outlets leaves the parts of the block alone that it does not touch (Laws/Within.lean). -/

namespace Sys2Proof.Machine

open Sys2Proof

theorem State.route_within {U : List Part} {z0 s : State} (hz : SameOutside U z0 s) (n : Nat) (hU : Part.sub [.unit .oiu, .unit .psw, .unit .lgs] U = true) : SameOutside U z0 (State.route s n) := by
  unfold State.route
  try dsimp only
  repeat' first
    | (with_reducible assumption)
    | (with_reducible exact Part.sub_trans rfl hU)
    | (with_reducible exact Or.inl (Part.sub_trans rfl hU))
    | (with_reducible exact Or.inr rfl)
    | (with_reducible apply State.swRefresh_within)
    | (with_reducible apply State.each_within)
    | (with_reducible apply State.onlyIf_within)
    | (with_reducible apply State.foldl_within)
    | (intro x k hx)

theorem State.cmdRise_within {U : List Part} {z0 s : State} (hz : SameOutside U z0 s) (n : Nat) (hU : Part.sub [.unit .oiu, .unit .psw, .unit .lgs] U = true) : SameOutside U z0 (State.cmdRise s n) := by
  unfold State.cmdRise
  try dsimp only
  repeat' first
    | (with_reducible assumption)
    | (with_reducible exact Part.sub_trans rfl hU)
    | (with_reducible exact Or.inl (Part.sub_trans rfl hU))
    | (with_reducible exact Or.inr rfl)
    | (with_reducible apply State.route_within)
    | (with_reducible apply State.setOiu_within)
    | (with_reducible apply State.putFlag_within)

theorem State.cmdDrop_within {U : List Part} {z0 s : State} (hz : SameOutside U z0 s) (n : Nat) (hU : Part.sub [.unit .oiu, .unit .psw, .unit .lgs] U = true) : SameOutside U z0 (State.cmdDrop s n) := by
  unfold State.cmdDrop
  try dsimp only
  repeat' first
    | (with_reducible assumption)
    | (with_reducible exact Part.sub_trans rfl hU)
    | (with_reducible exact Or.inl (Part.sub_trans rfl hU))
    | (with_reducible exact Or.inr rfl)
    | (with_reducible apply State.route_within)
    | (with_reducible apply State.setOiu_within)
    | (with_reducible apply State.putFlag_within)

theorem State.trackC1_within {U : List Part} {z0 s : State} (hz : SameOutside U z0 s) (n : Nat) (hU : Part.sub [.unit .oiu] U = true) : SameOutside U z0 (State.trackC1 s n) := by
  unfold State.trackC1
  try dsimp only
  repeat' first
    | (with_reducible assumption)
    | (with_reducible exact Part.sub_trans rfl hU)
    | (with_reducible exact Or.inl (Part.sub_trans rfl hU))
    | (with_reducible exact Or.inr rfl)
    | (with_reducible apply State.setOiu_within)
    | (with_reducible apply State.each_within)
    | (with_reducible apply State.onlyIf_within)
    | (with_reducible apply State.foldl_within)
    | (intro x k hx)
    | (intro x hx)
    | split

theorem State.setRcm_within {U : List Part} {z0 s : State} (hz : SameOutside U z0 s) (c : Nat) (v : Rcm) (hU : Part.sub [.unit .efu] U = true) : SameOutside U z0 (State.setRcm s c v) := by
  unfold State.setRcm
  try dsimp only
  repeat' first
    | (with_reducible assumption)
    | (with_reducible exact Part.sub_trans rfl hU)
    | (with_reducible exact Or.inl (Part.sub_trans rfl hU))
    | (with_reducible exact Or.inr rfl)
    | (with_reducible apply State.each_within)
    | (with_reducible apply State.onlyIf_within)
    | (with_reducible apply State.foldl_within)
    | (intro x k hx)
    | (intro x hx)
    | split
    | (with_reducible apply SameOutside.built)

theorem State.setImd_within {U : List Part} {z0 s : State} (hz : SameOutside U z0 s) (k : Nat) (v : Imd) (hU : Part.sub [.unit .efu] U = true) : SameOutside U z0 (State.setImd s k v) := by
  unfold State.setImd
  try dsimp only
  repeat' first
    | (with_reducible assumption)
    | (with_reducible exact Part.sub_trans rfl hU)
    | (with_reducible exact Or.inl (Part.sub_trans rfl hU))
    | (with_reducible exact Or.inr rfl)
    | (with_reducible apply State.each_within)
    | (with_reducible apply State.onlyIf_within)
    | (with_reducible apply State.foldl_within)
    | (intro x k hx)
    | (intro x hx)
    | split
    | (with_reducible apply SameOutside.built)

theorem State.injRefresh_within {U : List Part} {z0 s : State} (hz : SameOutside U z0 s) (k : Nat) (hU : Part.sub [.unit .efu] U = true) : SameOutside U z0 (State.injRefresh s k) := by
  unfold State.injRefresh
  try dsimp only
  repeat' first
    | (with_reducible assumption)
    | (with_reducible exact Part.sub_trans rfl hU)
    | (with_reducible exact Or.inl (Part.sub_trans rfl hU))
    | (with_reducible exact Or.inr rfl)
    | (with_reducible apply State.putFlag_within)

theorem State.startImdTest_within {U : List Part} {z0 s : State} (hz : SameOutside U z0 s) (k : Nat) (clearing : Bool) (hU : Part.sub [.unit .efu] U = true) : SameOutside U z0 (State.startImdTest s k clearing) := by
  unfold State.startImdTest
  try dsimp only
  repeat' first
    | (with_reducible assumption)
    | (with_reducible exact Part.sub_trans rfl hU)
    | (with_reducible exact Or.inl (Part.sub_trans rfl hU))
    | (with_reducible exact Or.inr rfl)
    | (with_reducible apply State.injRefresh_within)
    | (with_reducible apply State.setImd_within)
    | (with_reducible apply State.each_within)
    | (with_reducible apply State.onlyIf_within)
    | (with_reducible apply State.foldl_within)
    | (intro x k hx)
    | (intro x hx)
    | split
    | (with_reducible apply SameOutside.built)

theorem State.imdDaily_within {U : List Part} {z0 s : State} (hz : SameOutside U z0 s) (k : Nat) (hU : Part.sub [.unit .efu] U = true) : SameOutside U z0 (State.imdDaily s k) := by
  unfold State.imdDaily
  try dsimp only
  repeat' first
    | (with_reducible assumption)
    | (with_reducible exact Part.sub_trans rfl hU)
    | (with_reducible exact Or.inl (Part.sub_trans rfl hU))
    | (with_reducible exact Or.inr rfl)
    | (with_reducible apply State.setImd_within)
    | (with_reducible apply State.startImdTest_within)
    | (with_reducible apply State.each_within)
    | (with_reducible apply State.onlyIf_within)
    | (with_reducible apply State.foldl_within)
    | (intro x k hx)
    | (intro x hx)
    | split
    | (with_reducible apply SameOutside.built)

theorem State.imdFollow_within {U : List Part} {z0 s : State} (hz : SameOutside U z0 s) (n : Nat) (hU : Part.sub [.unit .efu] U = true) : SameOutside U z0 (State.imdFollow s n) := by
  unfold State.imdFollow
  try dsimp only
  repeat' first
    | (with_reducible assumption)
    | (with_reducible exact Part.sub_trans rfl hU)
    | (with_reducible exact Or.inl (Part.sub_trans rfl hU))
    | (with_reducible exact Or.inr rfl)
    | (with_reducible apply State.imdDaily_within)
    | (with_reducible apply State.injRefresh_within)
    | (with_reducible apply State.each_within)
    | (with_reducible apply State.onlyIf_within)
    | (with_reducible apply State.foldl_within)
    | (intro x k hx)
    | (intro x hx)
    | split

theorem State.moduleBack_within {U : List Part} {z0 s : State} (hz : SameOutside U z0 s) (n : Nat) (hU : Part.sub [.unit .oiu, .allocator] U = true) : SameOutside U z0 (State.moduleBack s n) := by
  unfold State.moduleBack
  try dsimp only
  repeat' first
    | (with_reducible assumption)
    | (with_reducible exact Part.sub_trans rfl hU)
    | (with_reducible exact Or.inl (Part.sub_trans rfl hU))
    | (with_reducible exact Or.inr rfl)
    | (with_reducible apply State.putFlag_within)
    | (with_reducible apply State.each_within)
    | (with_reducible apply State.onlyIf_within)
    | (with_reducible apply State.foldl_within)
    | (intro x k hx)
    | (intro x hx)
    | split
    | (with_reducible apply SameOutside.built)

theorem State.newSession_within {U : List Part} {z0 s : State} (hz : SameOutside U z0 s) (n : Nat) (hU : Part.sub [.unit .oiu, .allocator] U = true) : SameOutside U z0 (State.newSession s n) := by
  unfold State.newSession
  try dsimp only
  repeat' first
    | (with_reducible assumption)
    | (with_reducible exact Part.sub_trans rfl hU)
    | (with_reducible exact Or.inl (Part.sub_trans rfl hU))
    | (with_reducible exact Or.inr rfl)
    | (with_reducible apply State.moduleBack_within)
    | (with_reducible apply State.each_within)
    | (with_reducible apply State.onlyIf_within)
    | (with_reducible apply State.foldl_within)
    | (intro x k hx)
    | (intro x hx)
    | split
    | (with_reducible apply SameOutside.built)

theorem State.noteOpened_within {U : List Part} {z0 s : State} (hz : SameOutside U z0 s) (n : Nat) (hU : Part.sub [.allocator] U = true) : SameOutside U z0 (State.noteOpened s n) := by
  unfold State.noteOpened
  try dsimp only
  repeat' first
    | (with_reducible assumption)
    | (with_reducible exact Part.sub_trans rfl hU)
    | (with_reducible exact Or.inl (Part.sub_trans rfl hU))
    | (with_reducible exact Or.inr rfl)
    | (with_reducible apply State.each_within)
    | (with_reducible apply State.onlyIf_within)
    | (with_reducible apply State.foldl_within)
    | (intro x k hx)
    | (intro x hx)
    | split
    | (with_reducible apply SameOutside.built)

theorem State.contact_within {U : List Part} {z0 s : State} (hz : SameOutside U z0 s) (n : Nat) (hU : Part.sub [.unit .oiu, .unit .efu, .unit .psw, .unit .lgs, .allocator] U = true) : SameOutside U z0 (State.contact s n) := by
  unfold State.contact
  try dsimp only
  repeat' first
    | (with_reducible assumption)
    | (with_reducible exact Part.sub_trans rfl hU)
    | (with_reducible exact Or.inl (Part.sub_trans rfl hU))
    | (with_reducible exact Or.inr rfl)
    | (with_reducible apply State.cmdRise_within)
    | (with_reducible apply State.trackC1_within)
    | (with_reducible apply State.noteOpened_within)
    | (with_reducible apply State.cmdDrop_within)
    | (with_reducible apply State.imdFollow_within)
    | (with_reducible apply State.put_within)
    | (with_reducible apply State.each_within)
    | (with_reducible apply State.onlyIf_within)
    | (with_reducible apply State.foldl_within)
    | (intro x k hx)
    | (intro x hx)
    | split
    | (with_reducible apply SameOutside.built)

theorem State.withdraw_within {U : List Part} {z0 s : State} (hz : SameOutside U z0 s) (n : Nat) (hU : Part.sub [.unit .oiu, .unit .efu, .unit .psw, .unit .lgs, .allocator] U = true) : SameOutside U z0 (State.withdraw s n) := by
  unfold State.withdraw
  try dsimp only
  repeat' first
    | (with_reducible assumption)
    | (with_reducible exact Part.sub_trans rfl hU)
    | (with_reducible exact Or.inl (Part.sub_trans rfl hU))
    | (with_reducible exact Or.inr rfl)
    | (with_reducible apply State.contact_within)
    | (with_reducible apply State.putFlag_within)
    | (with_reducible apply State.each_within)
    | (with_reducible apply State.onlyIf_within)
    | (with_reducible apply State.foldl_within)
    | (intro x k hx)
    | (intro x hx)
    | split

theorem State.degrade_within {U : List Part} {z0 s : State} (hz : SameOutside U z0 s) (hU : Part.sub [.unit .oiu, .unit .efu, .unit .psw, .unit .lgs, .allocator] U = true) : SameOutside U z0 (State.degrade s) := by
  unfold State.degrade
  try dsimp only
  repeat' first
    | (with_reducible assumption)
    | (with_reducible exact Part.sub_trans rfl hU)
    | (with_reducible exact Or.inl (Part.sub_trans rfl hU))
    | (with_reducible exact Or.inr rfl)
    | (with_reducible apply State.withdraw_within)
    | (with_reducible apply State.each_within)
    | (with_reducible apply State.onlyIf_within)
    | (with_reducible apply State.foldl_within)
    | (intro x k hx)
    | (intro x hx)

theorem State.setUnavail_within {U : List Part} {z0 s : State} (hz : SameOutside U z0 s) (n : Nat) (hU : Part.sub [.unit .oiu] U = true) : SameOutside U z0 (State.setUnavail s n) := by
  unfold State.setUnavail
  try dsimp only
  repeat' first
    | (with_reducible assumption)
    | (with_reducible exact Part.sub_trans rfl hU)
    | (with_reducible exact Or.inl (Part.sub_trans rfl hU))
    | (with_reducible exact Or.inr rfl)
    | (with_reducible apply State.putFlag_within)

theorem State.showIcode_within {U : List Part} {z0 s : State} (hz : SameOutside U z0 s) (n : Nat) (hU : Part.sub [.unit .oiu, .unit .vce] U = true) : SameOutside U z0 (State.showIcode s n) := by
  unfold State.showIcode
  try dsimp only
  repeat' first
    | (with_reducible assumption)
    | (with_reducible exact Part.sub_trans rfl hU)
    | (with_reducible exact Or.inl (Part.sub_trans rfl hU))
    | (with_reducible exact Or.inr rfl)
    | (with_reducible apply State.put_within)
    | (with_reducible apply State.each_within)
    | (with_reducible apply State.onlyIf_within)
    | (with_reducible apply State.foldl_within)
    | (intro x k hx)
    | (intro x hx)
    | split
    | (with_reducible apply SameOutside.built)

theorem State.driveCoil_within {U : List Part} {z0 s : State} (hz : SameOutside U z0 s) (n : Nat) (c : Coil) (hU : Part.sub [.unit .oiu, .unit .psw, .unit .lgs] U = true) : SameOutside U z0 (State.driveCoil s n c) := by
  unfold State.driveCoil
  try dsimp only
  repeat' first
    | (with_reducible assumption)
    | (with_reducible exact Part.sub_trans rfl hU)
    | (with_reducible exact Or.inl (Part.sub_trans rfl hU))
    | (with_reducible exact Or.inr rfl)
    | (with_reducible apply State.setOiu_within)
    | (with_reducible apply State.swRefresh_within)
    | (with_reducible apply State.each_within)
    | (with_reducible apply State.onlyIf_within)
    | (with_reducible apply State.foldl_within)
    | (intro x k hx)
    | (intro x hx)
    | split
    | (with_reducible apply SameOutside.built)

theorem State.lockAttempt_within {U : List Part} {z0 s : State} (hz : SameOutside U z0 s) (n : Nat) (tries : Nat) (lock : Bool) (hU : Part.sub [.unit .oiu, .unit .efu, .unit .psw, .unit .lgs, .allocator] U = true) : SameOutside U z0 (State.lockAttempt s n tries lock) := by
  unfold State.lockAttempt
  try dsimp only
  repeat' first
    | (with_reducible assumption)
    | (with_reducible exact Part.sub_trans rfl hU)
    | (with_reducible exact Or.inl (Part.sub_trans rfl hU))
    | (with_reducible exact Or.inr rfl)
    | (with_reducible apply State.setOiu_within)
    | (with_reducible apply State.driveCoil_within)
    | (with_reducible apply State.put_within)
    | (with_reducible apply State.contact_within)
    | (with_reducible apply State.each_within)
    | (with_reducible apply State.onlyIf_within)
    | (with_reducible apply State.foldl_within)
    | (intro x k hx)
    | (intro x hx)
    | split
    | (with_reducible apply SameOutside.built)

theorem State.startLock_within {U : List Part} {z0 s : State} (hz : SameOutside U z0 s) (n : Nat) (hU : Part.sub [.unit .oiu, .unit .efu, .unit .psw, .unit .lgs, .allocator] U = true) : SameOutside U z0 (State.startLock s n) := by
  unfold State.startLock
  try dsimp only
  repeat' first
    | (with_reducible assumption)
    | (with_reducible exact Part.sub_trans rfl hU)
    | (with_reducible exact Or.inl (Part.sub_trans rfl hU))
    | (with_reducible exact Or.inr rfl)
    | (with_reducible apply State.lockAttempt_within)
    | (with_reducible apply State.setOiu_within)
    | (with_reducible apply State.each_within)
    | (with_reducible apply State.onlyIf_within)
    | (with_reducible apply State.foldl_within)
    | (intro x k hx)
    | (intro x hx)
    | split

theorem State.startUnlock_within {U : List Part} {z0 s : State} (hz : SameOutside U z0 s) (n : Nat) (hU : Part.sub [.unit .oiu, .unit .efu, .unit .psw, .unit .lgs, .allocator] U = true) : SameOutside U z0 (State.startUnlock s n) := by
  unfold State.startUnlock
  try dsimp only
  repeat' first
    | (with_reducible assumption)
    | (with_reducible exact Part.sub_trans rfl hU)
    | (with_reducible exact Or.inl (Part.sub_trans rfl hU))
    | (with_reducible exact Or.inr rfl)
    | (with_reducible apply State.lockAttempt_within)
    | (with_reducible apply State.setOiu_within)
    | (with_reducible apply State.each_within)
    | (with_reducible apply State.onlyIf_within)
    | (with_reducible apply State.foldl_within)
    | (intro x k hx)
    | (intro x hx)
    | split

theorem State.faultF_within {U : List Part} {z0 s : State} (hz : SameOutside U z0 s) (n : Nat) (hU : Part.sub [.unit .oiu] U = true) : SameOutside U z0 (State.faultF s n) := by
  unfold State.faultF
  try dsimp only
  repeat' first
    | (with_reducible assumption)
    | (with_reducible exact Part.sub_trans rfl hU)
    | (with_reducible exact Or.inl (Part.sub_trans rfl hU))
    | (with_reducible exact Or.inr rfl)
    | (with_reducible apply State.setOiu_within)
    | (with_reducible apply State.put_within)
    | (with_reducible apply State.each_within)
    | (with_reducible apply State.onlyIf_within)
    | (with_reducible apply State.foldl_within)
    | (intro x k hx)
    | (intro x hx)
    | split
    | (with_reducible apply SameOutside.built)

theorem State.tripPilot_within {U : List Part} {z0 s : State} (hz : SameOutside U z0 s) (n : Nat) (hU : Part.sub [.unit .oiu] U = true) : SameOutside U z0 (State.tripPilot s n) := by
  unfold State.tripPilot
  try dsimp only
  repeat' first
    | (with_reducible assumption)
    | (with_reducible exact Part.sub_trans rfl hU)
    | (with_reducible exact Or.inl (Part.sub_trans rfl hU))
    | (with_reducible exact Or.inr rfl)
    | (with_reducible apply State.setOiu_within)
    | (with_reducible apply State.faultF_within)
    | (with_reducible apply State.each_within)
    | (with_reducible apply State.onlyIf_within)
    | (with_reducible apply State.foldl_within)
    | (intro x k hx)
    | (intro x hx)
    | split
    | (with_reducible apply SameOutside.built)

theorem State.reportState_within {U : List Part} {z0 s : State} (hz : SameOutside U z0 s) (n : Nat) (code : Nat) (hU : Part.sub [.unit .oiu, .unit .lgs] U = true) : SameOutside U z0 (State.reportState s n code) := by
  unfold State.reportState
  try dsimp only
  repeat' first
    | (with_reducible assumption)
    | (with_reducible exact Part.sub_trans rfl hU)
    | (with_reducible exact Or.inl (Part.sub_trans rfl hU))
    | (with_reducible exact Or.inr rfl)
    | (with_reducible apply State.raise2_within)
    | (with_reducible apply State.count_within)
    | (with_reducible apply State.setOiu_within)
    | (with_reducible apply State.put_within)
    | (with_reducible apply State.each_within)
    | (with_reducible apply State.onlyIf_within)
    | (with_reducible apply State.foldl_within)
    | (intro x k hx)
    | (intro x hx)
    | split
    | (with_reducible apply SameOutside.built)

theorem State.contactByPilot_within {U : List Part} {z0 s : State} (hz : SameOutside U z0 s) (n : Nat) (code : Nat) (hU : Part.sub [.unit .oiu, .unit .efu, .unit .psw, .unit .lgs, .allocator] U = true) : SameOutside U z0 (State.contactByPilot s n code) := by
  unfold State.contactByPilot
  try dsimp only
  repeat' first
    | (with_reducible assumption)
    | (with_reducible exact Part.sub_trans rfl hU)
    | (with_reducible exact Or.inl (Part.sub_trans rfl hU))
    | (with_reducible exact Or.inr rfl)
    | (with_reducible apply State.contact_within)
    | (with_reducible apply State.raise2_within)
    | (with_reducible apply State.each_within)
    | (with_reducible apply State.onlyIf_within)
    | (with_reducible apply State.foldl_within)
    | (intro x k hx)
    | (intro x hx)

theorem State.confirm_within {U : List Part} {z0 s : State} (hz : SameOutside U z0 s) (n : Nat) (l : Letter) (hU : Part.sub [.unit .oiu, .unit .efu, .unit .psw, .unit .lgs, .allocator] U = true) : SameOutside U z0 (State.confirm s n l) := by
  unfold State.confirm
  try dsimp only
  repeat' first
    | (with_reducible assumption)
    | (with_reducible exact Part.sub_trans rfl hU)
    | (with_reducible exact Or.inl (Part.sub_trans rfl hU))
    | (with_reducible exact Or.inr rfl)
    | (with_reducible apply State.newSession_within)
    | (with_reducible apply State.raise2_within)
    | (with_reducible apply State.faultF_within)
    | (with_reducible apply State.setUnavail_within)
    | (with_reducible apply State.put_within)
    | (with_reducible apply State.setOiu_within)
    | (with_reducible apply State.putFlag_within)
    | (with_reducible apply State.startUnlock_within)
    | (with_reducible apply State.reportState_within)
    | (with_reducible apply State.contactByPilot_within)
    | (with_reducible apply State.each_within)
    | (with_reducible apply State.onlyIf_within)
    | (with_reducible apply State.foldl_within)
    | (intro x k hx)
    | (intro x hx)
    | split
    | (with_reducible apply SameOutside.built)

theorem State.takeVhi_within {U : List Part} {z0 s : State} (hz : SameOutside U z0 s) (n : Nat) (vhi : Int) (hU : Part.sub [.unit .oiu] U = true) : SameOutside U z0 (State.takeVhi s n vhi) := by
  unfold State.takeVhi
  try dsimp only
  repeat' first
    | (with_reducible assumption)
    | (with_reducible exact Part.sub_trans rfl hU)
    | (with_reducible exact Or.inl (Part.sub_trans rfl hU))
    | (with_reducible exact Or.inr rfl)
    | (with_reducible apply State.setOiu_within)
    | (with_reducible apply State.put_within)
    | (with_reducible apply State.each_within)
    | (with_reducible apply State.onlyIf_within)
    | (with_reducible apply State.foldl_within)
    | (intro x k hx)
    | (intro x hx)
    | split

theorem State.runStep_within {U : List Part} {z0 s : State} (hz : SameOutside U z0 s) (n : Nat) (l : Letter) (hU : Part.sub [.unit .oiu] U = true) : SameOutside U z0 (State.runStep s n l) := by
  unfold State.runStep
  try dsimp only
  repeat' first
    | (with_reducible assumption)
    | (with_reducible exact Part.sub_trans rfl hU)
    | (with_reducible exact Or.inl (Part.sub_trans rfl hU))
    | (with_reducible exact Or.inr rfl)
    | (with_reducible apply State.count_within)
    | (with_reducible apply State.setOiu_within)
    | (with_reducible apply State.put_within)
    | (with_reducible apply State.each_within)
    | (with_reducible apply State.onlyIf_within)
    | (with_reducible apply State.foldl_within)
    | (intro x k hx)
    | (intro x hx)
    | split
    | (with_reducible apply SameOutside.built)

theorem State.confirmLow_within {U : List Part} {z0 s : State} (hz : SameOutside U z0 s) (n : Nat) (c : LowClass) (hU : Part.sub [.unit .oiu, .unit .efu, .unit .psw, .unit .lgs, .allocator] U = true) : SameOutside U z0 (State.confirmLow s n c) := by
  unfold State.confirmLow
  try dsimp only
  repeat' first
    | (with_reducible assumption)
    | (with_reducible exact Part.sub_trans rfl hU)
    | (with_reducible exact Or.inl (Part.sub_trans rfl hU))
    | (with_reducible exact Or.inr rfl)
    | (with_reducible apply State.setOiu_within)
    | (with_reducible apply State.confirm_within)
    | (with_reducible apply State.each_within)
    | (with_reducible apply State.onlyIf_within)
    | (with_reducible apply State.foldl_within)
    | (intro x k hx)
    | (intro x hx)
    | split
    | (with_reducible apply SameOutside.built)

theorem State.takeVlo_within {U : List Part} {z0 s : State} (hz : SameOutside U z0 s) (n : Nat) (vlo : Int) (hU : Part.sub [.unit .oiu, .unit .efu, .unit .psw, .unit .lgs, .allocator] U = true) : SameOutside U z0 (State.takeVlo s n vlo) := by
  unfold State.takeVlo
  try dsimp only
  repeat' first
    | (with_reducible assumption)
    | (with_reducible exact Part.sub_trans rfl hU)
    | (with_reducible exact Or.inl (Part.sub_trans rfl hU))
    | (with_reducible exact Or.inr rfl)
    | (with_reducible apply State.count_within)
    | (with_reducible apply State.setOiu_within)
    | (with_reducible apply State.confirmLow_within)
    | (with_reducible apply State.put_within)
    | (with_reducible apply State.each_within)
    | (with_reducible apply State.onlyIf_within)
    | (with_reducible apply State.foldl_within)
    | (intro x k hx)
    | (intro x hx)
    | split
    | (with_reducible apply SameOutside.built)

theorem State.takeLow_within {U : List Part} {z0 s : State} (hz : SameOutside U z0 s) (n : Nat) (vlo : Option Int) (hU : Part.sub [.unit .oiu, .unit .efu, .unit .psw, .unit .lgs, .allocator] U = true) : SameOutside U z0 (State.takeLow s n vlo) := by
  unfold State.takeLow
  try dsimp only
  repeat' first
    | (with_reducible assumption)
    | (with_reducible exact Part.sub_trans rfl hU)
    | (with_reducible exact Or.inl (Part.sub_trans rfl hU))
    | (with_reducible exact Or.inr rfl)
    | (with_reducible apply State.takeVlo_within)
    | (with_reducible apply State.put_within)
    | (with_reducible apply State.each_within)
    | (with_reducible apply State.onlyIf_within)
    | (with_reducible apply State.foldl_within)
    | (intro x k hx)
    | (intro x hx)
    | split
    | (with_reducible apply SameOutside.built)

theorem State.applyPilot_within {U : List Part} {z0 s : State} (hz : SameOutside U z0 s) (n : Nat)
    (hU : Part.sub [.unit .oiu] U = true) : SameOutside U z0 (State.applyPilot s n) := by
  unfold State.applyPilot
  simp only [List.foldl_cons, List.foldl_nil]
  exact State.apply_within (State.apply_within (State.apply_within (State.apply_within (State.apply_within (State.apply_within hz _ _
    (Part.sub_trans rfl hU)) _ _ (Part.sub_trans rfl hU)) _ _ (Part.sub_trans rfl hU)) _ _ (Part.sub_trans rfl hU)) _ _
    (Part.sub_trans rfl hU)) _ _ (Part.sub_trans rfl hU)

theorem State.latchPilot_within {U : List Part} {z0 s : State} (hz : SameOutside U z0 s) (n : Nat) (hU : Part.sub [.unit .oiu] U = true) : SameOutside U z0 (State.latchPilot s n) := by
  unfold State.latchPilot
  try dsimp only
  repeat' first
    | (with_reducible assumption)
    | (with_reducible exact Part.sub_trans rfl hU)
    | (with_reducible exact Or.inl (Part.sub_trans rfl hU))
    | (with_reducible exact Or.inr rfl)
    | (with_reducible apply State.putEff_within)
    | (with_reducible apply State.applyPilot_within)
    | (with_reducible apply State.each_within)
    | (with_reducible apply State.onlyIf_within)
    | (with_reducible apply State.foldl_within)
    | (intro x k hx)
    | (intro x hx)

theorem State.setDigit_within {U : List Part} {z0 s : State} (hz : SameOutside U z0 s) (n : Nat) (hU : Part.sub [.unit .oiu] U = true) : SameOutside U z0 (State.setDigit s n) := by
  unfold State.setDigit
  try dsimp only
  repeat' first
    | (with_reducible assumption)
    | (with_reducible exact Part.sub_trans rfl hU)
    | (with_reducible exact Or.inl (Part.sub_trans rfl hU))
    | (with_reducible exact Or.inr rfl)
    | (with_reducible apply State.setOiu_within)
    | (with_reducible apply State.put_within)
    | (with_reducible apply State.each_within)
    | (with_reducible apply State.onlyIf_within)
    | (with_reducible apply State.foldl_within)
    | (intro x k hx)
    | (intro x hx)

theorem State.modeChange_within {U : List Part} {z0 s : State} (hz : SameOutside U z0 s) (n : Nat) (was : Nat) (hU : Part.sub [.unit .oiu] U = true) : SameOutside U z0 (State.modeChange s n was) := by
  unfold State.modeChange
  try dsimp only
  repeat' first
    | (with_reducible assumption)
    | (with_reducible exact Part.sub_trans rfl hU)
    | (with_reducible exact Or.inl (Part.sub_trans rfl hU))
    | (with_reducible exact Or.inr rfl)
    | (with_reducible apply State.setOiu_within)
    | (with_reducible apply State.each_within)
    | (with_reducible apply State.onlyIf_within)
    | (with_reducible apply State.foldl_within)
    | (intro x k hx)
    | (intro x hx)
    | split

theorem State.startGenerated_within {U : List Part} {z0 s : State} (hz : SameOutside U z0 s) (n : Nat) (hU : Part.sub [.unit .oiu, .unit .efu, .unit .psw, .unit .lgs, .allocator] U = true) : SameOutside U z0 (State.startGenerated s n) := by
  unfold State.startGenerated
  try dsimp only
  repeat' first
    | (with_reducible assumption)
    | (with_reducible exact Part.sub_trans rfl hU)
    | (with_reducible exact Or.inl (Part.sub_trans rfl hU))
    | (with_reducible exact Or.inr rfl)
    | (with_reducible apply State.setOiu_within)
    | (with_reducible apply State.reportState_within)
    | (with_reducible apply State.contactByPilot_within)
    | (with_reducible apply State.each_within)
    | (with_reducible apply State.onlyIf_within)
    | (with_reducible apply State.foldl_within)
    | (intro x k hx)
    | (intro x hx)
    | split
    | (with_reducible apply SameOutside.built)

theorem State.pilotPeriod_within {U : List Part} {z0 s : State} (hz : SameOutside U z0 s) (n : Nat) (hU : Part.sub [.unit .oiu, .unit .vce, .unit .efu, .unit .psw, .unit .lgs, .allocator] U = true) : SameOutside U z0 (State.pilotPeriod s n) := by
  unfold State.pilotPeriod
  try dsimp only
  repeat' first
    | (with_reducible assumption)
    | (with_reducible exact Part.sub_trans rfl hU)
    | (with_reducible exact Or.inl (Part.sub_trans rfl hU))
    | (with_reducible exact Or.inr rfl)
    | (with_reducible apply State.setDigit_within)
    | (with_reducible apply State.setOiu_within)
    | (with_reducible apply State.trackC1_within)
    | (with_reducible apply State.put_within)
    | (with_reducible apply State.showIcode_within)
    | (with_reducible apply State.startGenerated_within)
    | (with_reducible apply State.contact_within)
    | (with_reducible apply State.moveTo_within)
    | (with_reducible apply State.latchPilot_within)
    | (with_reducible apply State.modeChange_within)
    | (with_reducible apply State.each_within)
    | (with_reducible apply State.onlyIf_within)
    | (with_reducible apply State.foldl_within)
    | (intro x k hx)
    | (intro x hx)
    | split
    | (with_reducible apply SameOutside.built)

theorem execLock_within (n : Fin 24) (s : State) : Stays [.unit .oiu, .unit .efu, .unit .psw, .unit .lgs, .allocator] s (execLock n s) := by
  have hU : Part.sub [.unit .oiu, .unit .efu, .unit .psw, .unit .lgs, .allocator] [.unit .oiu, .unit .efu, .unit .psw, .unit .lgs, .allocator] = true := rfl
  unfold execLock
  try dsimp only
  repeat' first
    | (with_reducible assumption)
    | (with_reducible exact Part.sub_trans rfl hU)
    | (with_reducible exact Or.inl (Part.sub_trans rfl hU))
    | (with_reducible exact Or.inr rfl)
    | (with_reducible exact SameOutside.refl _ _)
    | (with_reducible apply Stays.next)
    | (with_reducible apply State.startLock_within)

theorem State.writeUnlock_within {U : List Part} {z0 s : State} (hz : SameOutside U z0 s) (n : Nat) (hU : Part.sub [.unit .oiu, .unit .efu, .unit .psw, .unit .lgs, .allocator] U = true) : SameOutside U z0 (State.writeUnlock s n) := by
  unfold State.writeUnlock
  try dsimp only
  repeat' first
    | (with_reducible assumption)
    | (with_reducible exact Part.sub_trans rfl hU)
    | (with_reducible exact Or.inl (Part.sub_trans rfl hU))
    | (with_reducible exact Or.inr rfl)
    | (with_reducible apply State.startUnlock_within)
    | (with_reducible apply State.each_within)
    | (with_reducible apply State.onlyIf_within)
    | (with_reducible apply State.foldl_within)
    | (intro x k hx)
    | (intro x hx)
    | split

theorem execUnlock_within (n : Fin 24) (s : State) : Stays [.unit .oiu, .unit .efu, .unit .psw, .unit .lgs, .allocator] s (execUnlock n s) := by
  have hU : Part.sub [.unit .oiu, .unit .efu, .unit .psw, .unit .lgs, .allocator] [.unit .oiu, .unit .efu, .unit .psw, .unit .lgs, .allocator] = true := rfl
  unfold execUnlock
  try dsimp only
  repeat' first
    | (with_reducible assumption)
    | (with_reducible exact Part.sub_trans rfl hU)
    | (with_reducible exact Or.inl (Part.sub_trans rfl hU))
    | (with_reducible exact Or.inr rfl)
    | (with_reducible exact SameOutside.refl _ _)
    | (with_reducible apply Stays.next)
    | (with_reducible apply State.writeUnlock_within)

theorem execLkpulseEnd_within (n : Fin 24) (s : State) : Stays [.unit .oiu, .unit .efu, .unit .psw, .unit .lgs, .allocator] s (execLkpulseEnd n s) := by
  have hU : Part.sub [.unit .oiu, .unit .efu, .unit .psw, .unit .lgs, .allocator] [.unit .oiu, .unit .efu, .unit .psw, .unit .lgs, .allocator] = true := rfl
  unfold execLkpulseEnd
  try dsimp only
  repeat' first
    | (with_reducible assumption)
    | (with_reducible exact Part.sub_trans rfl hU)
    | (with_reducible exact Or.inl (Part.sub_trans rfl hU))
    | (with_reducible exact Or.inr rfl)
    | (with_reducible exact SameOutside.refl _ _)
    | (with_reducible apply Stays.next)
    | (with_reducible apply State.startLock_within)
    | (with_reducible apply State.moveTo_within)
    | (with_reducible apply State.startUnlock_within)
    | (with_reducible apply State.driveCoil_within)
    | (with_reducible apply State.each_within)
    | (with_reducible apply State.onlyIf_within)
    | (with_reducible apply State.foldl_within)
    | (intro x k hx)
    | (intro x hx)
    | split
    | (with_reducible apply SameOutside.built)

theorem execLockFeedbackConfirmed_within (n : Fin 24) (closed : Bool) (s : State) : Stays [.unit .oiu, .unit .efu, .unit .psw, .unit .lgs, .allocator] s (execLockFeedbackConfirmed n closed s) := by
  have hU : Part.sub [.unit .oiu, .unit .efu, .unit .psw, .unit .lgs, .allocator] [.unit .oiu, .unit .efu, .unit .psw, .unit .lgs, .allocator] = true := rfl
  unfold execLockFeedbackConfirmed
  try dsimp only
  repeat' first
    | (with_reducible assumption)
    | (with_reducible exact Part.sub_trans rfl hU)
    | (with_reducible exact Or.inl (Part.sub_trans rfl hU))
    | (with_reducible exact Or.inr rfl)
    | (with_reducible exact SameOutside.refl _ _)
    | (with_reducible apply Stays.next)
    | (with_reducible apply State.setOiu_within)
    | (with_reducible apply State.putFlag_within)
    | (with_reducible apply State.put_within)
    | (with_reducible apply State.contact_within)
    | (with_reducible apply State.each_within)
    | (with_reducible apply State.onlyIf_within)
    | (with_reducible apply State.foldl_within)
    | (intro x k hx)
    | (intro x hx)
    | split
    | (with_reducible apply SameOutside.built)

theorem execLkconfExpiry_within (n : Fin 24) (s : State) : Stays [.unit .oiu, .unit .efu, .unit .psw, .unit .lgs, .allocator] s (execLkconfExpiry n s) := by
  have hU : Part.sub [.unit .oiu, .unit .efu, .unit .psw, .unit .lgs, .allocator] [.unit .oiu, .unit .efu, .unit .psw, .unit .lgs, .allocator] = true := rfl
  unfold execLkconfExpiry
  try dsimp only
  repeat' first
    | (with_reducible assumption)
    | (with_reducible exact Part.sub_trans rfl hU)
    | (with_reducible exact Or.inl (Part.sub_trans rfl hU))
    | (with_reducible exact Or.inr rfl)
    | (with_reducible exact SameOutside.refl _ _)
    | (with_reducible apply Stays.next)
    | (with_reducible apply State.raise2_within)
    | (with_reducible apply State.setOiu_within)
    | (with_reducible apply State.moveTo_within)
    | (with_reducible apply State.withdraw_within)
    | (with_reducible apply State.put_within)
    | (with_reducible apply State.contact_within)
    | (with_reducible apply State.each_within)
    | (with_reducible apply State.onlyIf_within)
    | (with_reducible apply State.foldl_within)
    | (intro x k hx)
    | (intro x hx)
    | split
    | (with_reducible apply SameOutside.built)

theorem execLockRetry_within (n : Fin 24) (s : State) : Stays [.unit .oiu, .unit .efu, .unit .psw, .unit .lgs, .allocator] s (execLockRetry n s) := by
  have hU : Part.sub [.unit .oiu, .unit .efu, .unit .psw, .unit .lgs, .allocator] [.unit .oiu, .unit .efu, .unit .psw, .unit .lgs, .allocator] = true := rfl
  unfold execLockRetry
  try dsimp only
  repeat' first
    | (with_reducible assumption)
    | (with_reducible exact Part.sub_trans rfl hU)
    | (with_reducible exact Or.inl (Part.sub_trans rfl hU))
    | (with_reducible exact Or.inr rfl)
    | (with_reducible exact SameOutside.refl _ _)
    | (with_reducible apply Stays.next)
    | (with_reducible apply State.moveTo_within)
    | (with_reducible apply State.lockAttempt_within)
    | (with_reducible apply State.each_within)
    | (with_reducible apply State.onlyIf_within)
    | (with_reducible apply State.foldl_within)
    | (intro x k hx)
    | (intro x hx)
    | split
    | (with_reducible apply SameOutside.built)

theorem execLockFeedbackOpen_within (n : Fin 24) (s : State) : Stays [.unit .oiu, .unit .efu, .unit .psw, .unit .lgs, .allocator] s (execLockFeedbackOpen n s) := by
  have hU : Part.sub [.unit .oiu, .unit .efu, .unit .psw, .unit .lgs, .allocator] [.unit .oiu, .unit .efu, .unit .psw, .unit .lgs, .allocator] = true := rfl
  unfold execLockFeedbackOpen
  try dsimp only
  repeat' first
    | (with_reducible assumption)
    | (with_reducible exact Part.sub_trans rfl hU)
    | (with_reducible exact Or.inl (Part.sub_trans rfl hU))
    | (with_reducible exact Or.inr rfl)
    | (with_reducible exact SameOutside.refl _ _)
    | (with_reducible apply Stays.next)
    | (with_reducible apply State.putFlag_within)
    | (with_reducible apply State.put_within)
    | (with_reducible apply State.contact_within)
    | (with_reducible apply State.each_within)
    | (with_reducible apply State.onlyIf_within)
    | (with_reducible apply State.foldl_within)
    | (intro x k hx)
    | (intro x hx)
    | split

theorem State.writeCloseEn_within {U : List Part} {z0 s : State} (hz : SameOutside U z0 s) (n : Nat) (en : Bool) (hU : Part.sub [.unit .oiu, .unit .efu, .unit .psw, .unit .lgs, .allocator] U = true) : SameOutside U z0 (State.writeCloseEn s n en) := by
  unfold State.writeCloseEn
  try dsimp only
  repeat' first
    | (with_reducible assumption)
    | (with_reducible exact Part.sub_trans rfl hU)
    | (with_reducible exact Or.inl (Part.sub_trans rfl hU))
    | (with_reducible exact Or.inr rfl)
    | (with_reducible apply State.putFlag_within)
    | (with_reducible apply State.contact_within)
    | (with_reducible apply State.each_within)
    | (with_reducible apply State.onlyIf_within)
    | (with_reducible apply State.foldl_within)
    | (intro x k hx)
    | (intro x hx)
    | split

theorem execCloseEn_within (n : Fin 24) (en : Bool) (s : State) : Stays [.unit .oiu, .unit .efu, .unit .psw, .unit .lgs, .allocator] s (execCloseEn n en s) := by
  have hU : Part.sub [.unit .oiu, .unit .efu, .unit .psw, .unit .lgs, .allocator] [.unit .oiu, .unit .efu, .unit .psw, .unit .lgs, .allocator] = true := rfl
  unfold execCloseEn
  try dsimp only
  repeat' first
    | (with_reducible assumption)
    | (with_reducible exact Part.sub_trans rfl hU)
    | (with_reducible exact Or.inl (Part.sub_trans rfl hU))
    | (with_reducible exact Or.inr rfl)
    | (with_reducible exact SameOutside.refl _ _)
    | (with_reducible apply Stays.next)
    | (with_reducible apply State.writeCloseEn_within)

theorem execWeldtExpiry_within (n : Fin 24) (closed : Bool) (s : State) : Stays [.unit .oiu, .unit .efu, .unit .psw, .unit .lgs, .allocator] s (execWeldtExpiry n closed s) := by
  have hU : Part.sub [.unit .oiu, .unit .efu, .unit .psw, .unit .lgs, .allocator] [.unit .oiu, .unit .efu, .unit .psw, .unit .lgs, .allocator] = true := rfl
  unfold execWeldtExpiry
  try dsimp only
  repeat' first
    | (with_reducible assumption)
    | (with_reducible exact Part.sub_trans rfl hU)
    | (with_reducible exact Or.inl (Part.sub_trans rfl hU))
    | (with_reducible exact Or.inr rfl)
    | (with_reducible exact SameOutside.refl _ _)
    | (with_reducible apply Stays.next)
    | (with_reducible apply State.faultF_within)
    | (with_reducible apply State.raise2_within)
    | (with_reducible apply State.setOiu_within)
    | (with_reducible apply State.moveTo_within)
    | (with_reducible apply State.putFlag_within)
    | (with_reducible apply State.startUnlock_within)
    | (with_reducible apply State.put_within)
    | (with_reducible apply State.contact_within)
    | (with_reducible apply State.each_within)
    | (with_reducible apply State.onlyIf_within)
    | (with_reducible apply State.foldl_within)
    | (intro x k hx)
    | (intro x hx)
    | split
    | (with_reducible apply SameOutside.built)

theorem execCloseFeedbackTimeout_within (n : Fin 24) (closed : Bool) (s : State) : Stays [.unit .oiu, .unit .efu, .unit .psw, .unit .lgs, .allocator] s (execCloseFeedbackTimeout n closed s) := by
  have hU : Part.sub [.unit .oiu, .unit .efu, .unit .psw, .unit .lgs, .allocator] [.unit .oiu, .unit .efu, .unit .psw, .unit .lgs, .allocator] = true := rfl
  unfold execCloseFeedbackTimeout
  try dsimp only
  repeat' first
    | (with_reducible assumption)
    | (with_reducible exact Part.sub_trans rfl hU)
    | (with_reducible exact Or.inl (Part.sub_trans rfl hU))
    | (with_reducible exact Or.inr rfl)
    | (with_reducible exact SameOutside.refl _ _)
    | (with_reducible apply Stays.next)
    | (with_reducible apply State.raise2_within)
    | (with_reducible apply State.setUnavail_within)
    | (with_reducible apply State.setOiu_within)
    | (with_reducible apply State.moveTo_within)
    | (with_reducible apply State.putFlag_within)
    | (with_reducible apply State.contact_within)
    | (with_reducible apply State.each_within)
    | (with_reducible apply State.onlyIf_within)
    | (with_reducible apply State.foldl_within)
    | (intro x k hx)
    | (intro x hx)
    | split
    | (with_reducible apply SameOutside.built)

theorem execC1maxExpiry_within (n : Fin 24) (s : State) : Stays [.unit .oiu, .unit .efu, .unit .psw, .unit .lgs, .allocator] s (execC1maxExpiry n s) := by
  have hU : Part.sub [.unit .oiu, .unit .efu, .unit .psw, .unit .lgs, .allocator] [.unit .oiu, .unit .efu, .unit .psw, .unit .lgs, .allocator] = true := rfl
  unfold execC1maxExpiry
  try dsimp only
  repeat' first
    | (with_reducible assumption)
    | (with_reducible exact Part.sub_trans rfl hU)
    | (with_reducible exact Or.inl (Part.sub_trans rfl hU))
    | (with_reducible exact Or.inr rfl)
    | (with_reducible exact SameOutside.refl _ _)
    | (with_reducible apply Stays.next)
    | (with_reducible apply State.raise2_within)
    | (with_reducible apply State.setOiu_within)
    | (with_reducible apply State.moveTo_within)
    | (with_reducible apply State.putFlag_within)
    | (with_reducible apply State.contact_within)
    | (with_reducible apply State.each_within)
    | (with_reducible apply State.onlyIf_within)
    | (with_reducible apply State.foldl_within)
    | (intro x k hx)
    | (intro x hx)
    | split
    | (with_reducible apply SameOutside.built)

theorem execFHoldExpiry_within (n : Fin 24) (s : State) : Stays [.unit .oiu] s (execFHoldExpiry n s) := by
  have hU : Part.sub [.unit .oiu] [.unit .oiu] = true := rfl
  unfold execFHoldExpiry
  try dsimp only
  repeat' first
    | (with_reducible assumption)
    | (with_reducible exact Part.sub_trans rfl hU)
    | (with_reducible exact Or.inl (Part.sub_trans rfl hU))
    | (with_reducible exact Or.inr rfl)
    | (with_reducible exact SameOutside.refl _ _)
    | (with_reducible apply Stays.next)
    | (with_reducible apply State.setOiu_within)
    | (with_reducible apply State.moveTo_within)
    | (with_reducible apply State.each_within)
    | (with_reducible apply State.onlyIf_within)
    | (with_reducible apply State.foldl_within)
    | (intro x k hx)
    | (intro x hx)
    | split

theorem State.clearOiuFaults_within {U : List Part} {z0 s : State} (hz : SameOutside U z0 s) (n : Nat) (weld : Bool) (lockf : Bool) (hU : Part.sub [.unit .oiu, .unit .efu, .unit .psw, .unit .lgs, .allocator] U = true) : SameOutside U z0 (State.clearOiuFaults s n weld lockf) := by
  unfold State.clearOiuFaults
  try dsimp only
  repeat' first
    | (with_reducible assumption)
    | (with_reducible exact Part.sub_trans rfl hU)
    | (with_reducible exact Or.inl (Part.sub_trans rfl hU))
    | (with_reducible exact Or.inr rfl)
    | (with_reducible apply State.setOiu_within)
    | (with_reducible apply State.put_within)
    | (with_reducible apply State.contact_within)
    | (with_reducible apply State.each_within)
    | (with_reducible apply State.onlyIf_within)
    | (with_reducible apply State.foldl_within)
    | (intro x k hx)
    | (intro x hx)
    | split
    | (with_reducible apply SameOutside.built)

theorem execOiuFaultClear_within (n : Fin 24) (weld : Bool) (lockf : Bool) (s : State) : Stays [.unit .oiu, .unit .efu, .unit .psw, .unit .lgs, .allocator] s (execOiuFaultClear n weld lockf s) := by
  have hU : Part.sub [.unit .oiu, .unit .efu, .unit .psw, .unit .lgs, .allocator] [.unit .oiu, .unit .efu, .unit .psw, .unit .lgs, .allocator] = true := rfl
  unfold execOiuFaultClear
  try dsimp only
  repeat' first
    | (with_reducible assumption)
    | (with_reducible exact Part.sub_trans rfl hU)
    | (with_reducible exact Or.inl (Part.sub_trans rfl hU))
    | (with_reducible exact Or.inr rfl)
    | (with_reducible exact SameOutside.refl _ _)
    | (with_reducible apply Stays.next)
    | (with_reducible apply State.clearOiuFaults_within)

theorem State.sensorEvents_within {U : List Part} {z0 s : State} (hz : SameOutside U z0 s) (n : Nat) (ta : Int) (tb : Int) (hU : Part.sub [.unit .oiu, .unit .lgs] U = true) : SameOutside U z0 (State.sensorEvents s n ta tb) := by
  unfold State.sensorEvents
  try dsimp only
  repeat' first
    | (with_reducible assumption)
    | (with_reducible exact Part.sub_trans rfl hU)
    | (with_reducible exact Or.inl (Part.sub_trans rfl hU))
    | (with_reducible exact Or.inr rfl)
    | (with_reducible apply State.raise2_within)
    | (with_reducible apply State.setOiu_within)
    | (with_reducible apply State.put_within)
    | (with_reducible apply State.each_within)
    | (with_reducible apply State.onlyIf_within)
    | (with_reducible apply State.foldl_within)
    | (intro x k hx)
    | (intro x hx)
    | split
    | (with_reducible apply SameOutside.built)

theorem execTemperatureEvaluation_within (n : Fin 24) (ta : Int) (tb : Int) (s : State) : Stays [.unit .oiu, .unit .vce, .unit .efu, .unit .psw, .unit .lgs, .allocator] s (execTemperatureEvaluation n ta tb s) := by
  have hU : Part.sub [.unit .oiu, .unit .vce, .unit .efu, .unit .psw, .unit .lgs, .allocator] [.unit .oiu, .unit .vce, .unit .efu, .unit .psw, .unit .lgs, .allocator] = true := rfl
  unfold execTemperatureEvaluation
  try dsimp only
  repeat' first
    | (with_reducible assumption)
    | (with_reducible exact Part.sub_trans rfl hU)
    | (with_reducible exact Or.inl (Part.sub_trans rfl hU))
    | (with_reducible exact Or.inr rfl)
    | (with_reducible exact SameOutside.refl _ _)
    | (with_reducible apply Stays.next)
    | (with_reducible apply State.raise2_within)
    | (with_reducible apply State.setOiu_within)
    | (with_reducible apply State.showIcode_within)
    | (with_reducible apply State.sensorEvents_within)
    | (with_reducible apply State.putFlag_within)
    | (with_reducible apply State.contact_within)
    | (with_reducible apply State.each_within)
    | (with_reducible apply State.onlyIf_within)
    | (with_reducible apply State.foldl_within)
    | (intro x k hx)
    | (intro x hx)
    | split
    | (with_reducible apply SameOutside.built)

theorem execTemperatureCutOpen_within (n : Fin 24) (s : State) : Stays [.unit .oiu, .unit .efu, .unit .psw, .unit .lgs, .allocator] s (execTemperatureCutOpen n s) := by
  have hU : Part.sub [.unit .oiu, .unit .efu, .unit .psw, .unit .lgs, .allocator] [.unit .oiu, .unit .efu, .unit .psw, .unit .lgs, .allocator] = true := rfl
  unfold execTemperatureCutOpen
  try dsimp only
  repeat' first
    | (with_reducible assumption)
    | (with_reducible exact Part.sub_trans rfl hU)
    | (with_reducible exact Or.inl (Part.sub_trans rfl hU))
    | (with_reducible exact Or.inr rfl)
    | (with_reducible exact SameOutside.refl _ _)
    | (with_reducible apply Stays.next)
    | (with_reducible apply State.setOiu_within)
    | (with_reducible apply State.moveTo_within)
    | (with_reducible apply State.contact_within)
    | (with_reducible apply State.each_within)
    | (with_reducible apply State.onlyIf_within)
    | (with_reducible apply State.foldl_within)
    | (intro x k hx)
    | (intro x hx)
    | split
    | (with_reducible apply SameOutside.built)

theorem execZreqShutdownRelease_within (n : Fin 24) (s : State) : Stays [.unit .oiu, .unit .efu, .unit .psw, .unit .lgs, .allocator] s (execZreqShutdownRelease n s) := by
  have hU : Part.sub [.unit .oiu, .unit .efu, .unit .psw, .unit .lgs, .allocator] [.unit .oiu, .unit .efu, .unit .psw, .unit .lgs, .allocator] = true := rfl
  unfold execZreqShutdownRelease
  try dsimp only
  repeat' first
    | (with_reducible assumption)
    | (with_reducible exact Part.sub_trans rfl hU)
    | (with_reducible exact Or.inl (Part.sub_trans rfl hU))
    | (with_reducible exact Or.inr rfl)
    | (with_reducible exact SameOutside.refl _ _)
    | (with_reducible apply Stays.next)
    | (with_reducible apply State.raise2_within)
    | (with_reducible apply State.setOiu_within)
    | (with_reducible apply State.putFlag_within)
    | (with_reducible apply State.contact_within)
    | (with_reducible apply State.each_within)
    | (with_reducible apply State.onlyIf_within)
    | (with_reducible apply State.foldl_within)
    | (intro x k hx)
    | (intro x hx)
    | split
    | (with_reducible apply SameOutside.built)

theorem State.guyShutdown_within {U : List Part} {z0 s : State} (hz : SameOutside U z0 s) (n : Nat) (hU : Part.sub [.unit .oiu, .unit .lgs] U = true) : SameOutside U z0 (State.guyShutdown s n) := by
  unfold State.guyShutdown
  try dsimp only
  repeat' first
    | (with_reducible assumption)
    | (with_reducible exact Part.sub_trans rfl hU)
    | (with_reducible exact Or.inl (Part.sub_trans rfl hU))
    | (with_reducible exact Or.inr rfl)
    | (with_reducible apply State.raise2_within)
    | (with_reducible apply State.setOiu_within)
    | (with_reducible apply State.putFlag_within)

theorem State.hlcFallback_within {U : List Part} {z0 s : State} (hz : SameOutside U z0 s) (n : Nat) (hU : Part.sub [.unit .oiu] U = true) : SameOutside U z0 (State.hlcFallback s n) := by
  unfold State.hlcFallback
  try dsimp only
  repeat' first
    | (with_reducible assumption)
    | (with_reducible exact Part.sub_trans rfl hU)
    | (with_reducible exact Or.inl (Part.sub_trans rfl hU))
    | (with_reducible exact Or.inr rfl)
    | (with_reducible apply State.setOiu_within)
    | (with_reducible apply State.put_within)
    | (with_reducible apply State.each_within)
    | (with_reducible apply State.onlyIf_within)
    | (with_reducible apply State.foldl_within)
    | (intro x k hx)
    | (intro x hx)
    | split

theorem execHlcFallback_within (n : Fin 24) (s : State) : Stays [.unit .oiu] s (execHlcFallback n s) := by
  have hU : Part.sub [.unit .oiu] [.unit .oiu] = true := rfl
  unfold execHlcFallback
  try dsimp only
  repeat' first
    | (with_reducible assumption)
    | (with_reducible exact Part.sub_trans rfl hU)
    | (with_reducible exact Or.inl (Part.sub_trans rfl hU))
    | (with_reducible exact Or.inr rfl)
    | (with_reducible exact SameOutside.refl _ _)
    | (with_reducible apply Stays.next)
    | (with_reducible apply State.hlcFallback_within)

theorem execFallbackPwmResume_within (n : Fin 24) (s : State) : Stays [.unit .oiu] s (execFallbackPwmResume n s) := by
  have hU : Part.sub [.unit .oiu] [.unit .oiu] = true := rfl
  unfold execFallbackPwmResume
  try dsimp only
  repeat' first
    | (with_reducible assumption)
    | (with_reducible exact Part.sub_trans rfl hU)
    | (with_reducible exact Or.inl (Part.sub_trans rfl hU))
    | (with_reducible exact Or.inr rfl)
    | (with_reducible exact SameOutside.refl _ _)
    | (with_reducible apply Stays.next)
    | (with_reducible apply State.setOiu_within)
    | (with_reducible apply State.moveTo_within)
    | (with_reducible apply State.put_within)
    | (with_reducible apply State.each_within)
    | (with_reducible apply State.onlyIf_within)
    | (with_reducible apply State.foldl_within)
    | (intro x k hx)
    | (intro x hx)
    | split
    | (with_reducible apply SameOutside.built)

theorem State.oiuReset_within {U : List Part} {z0 s : State} (hz : SameOutside U z0 s) (n : Nat) (hU : Part.sub [.unit .oiu, .unit .psw, .unit .lgs, .latches] U = true) : SameOutside U z0 (State.oiuReset s n) := by
  unfold State.oiuReset
  try dsimp only
  repeat' first
    | (with_reducible assumption)
    | (with_reducible exact Part.sub_trans rfl hU)
    | (with_reducible exact Or.inl (Part.sub_trans rfl hU))
    | (with_reducible exact Or.inr rfl)
    | (with_reducible apply State.route_within)
    | (with_reducible apply State.setOiu_within)
    | (with_reducible apply State.clearUnit_within)
    | (with_reducible apply State.cmdDrop_within)
    | (with_reducible apply State.each_within)
    | (with_reducible apply State.onlyIf_within)
    | (with_reducible apply State.foldl_within)
    | (intro x k hx)
    | (intro x hx)
    | split
    | (with_reducible apply SameOutside.built)

theorem State.confirmBand_within {U : List Part} {z0 s : State} (hz : SameOutside U z0 s) (n : Nat) (ohm : Nat) (hU : Part.sub [.unit .oiu, .unit .vce, .unit .efu, .unit .psw, .unit .lgs, .allocator] U = true) : SameOutside U z0 (State.confirmBand s n ohm) := by
  unfold State.confirmBand
  try dsimp only
  repeat' first
    | (with_reducible assumption)
    | (with_reducible exact Part.sub_trans rfl hU)
    | (with_reducible exact Or.inl (Part.sub_trans rfl hU))
    | (with_reducible exact Or.inr rfl)
    | (with_reducible apply State.raise2_within)
    | (with_reducible apply State.setUnavail_within)
    | (with_reducible apply State.startLock_within)
    | (with_reducible apply State.showIcode_within)
    | (with_reducible apply State.contact_within)
    | (with_reducible apply State.put_within)
    | (with_reducible apply State.each_within)
    | (with_reducible apply State.onlyIf_within)
    | (with_reducible apply State.foldl_within)
    | (intro x k hx)
    | (intro x hx)
    | split
    | (with_reducible apply SameOutside.built)

end Sys2Proof.Machine
end

