-- ==== Sys2Proof/Laws/WithinEarth.lean ====
section
/-! SUPPORT. Every operation and every command of the EFU leaves the parts of the block alone that it does not touch (Laws/Within.lean). -/

namespace Sys2Proof.Machine

open Sys2Proof

theorem State.efuAct_within {U : List Part} {z0 s : State} (hz : SameOutside U z0 s) (n : Nat) (hU : Part.sub [.unit .oiu, .unit .efu, .unit .psw, .unit .lgs, .allocator] U = true) : SameOutside U z0 (State.efuAct s n) := by
  unfold State.efuAct
  try dsimp only
  repeat' first
    | (with_reducible assumption)
    | (with_reducible exact Part.sub_trans rfl hU)
    | (with_reducible exact Or.inl (Part.sub_trans rfl hU))
    | (with_reducible exact Or.inr rfl)
    | (with_reducible apply State.swTripLine_within)
    | (with_reducible apply State.contact_within)
    | (with_reducible apply State.each_within)
    | (with_reducible apply State.onlyIf_within)
    | (with_reducible apply State.foldl_within)
    | (intro x k hx)

theorem State.tripOutlet_within {U : List Part} {z0 s : State} (hz : SameOutside U z0 s) (n : Nat) (hU : Part.sub [.unit .oiu, .unit .efu, .unit .psw, .unit .lgs, .allocator] U = true) : SameOutside U z0 (State.tripOutlet s n) := by
  unfold State.tripOutlet
  try dsimp only
  repeat' first
    | (with_reducible assumption)
    | (with_reducible exact Part.sub_trans rfl hU)
    | (with_reducible exact Or.inl (Part.sub_trans rfl hU))
    | (with_reducible exact Or.inr rfl)
    | (with_reducible apply State.tripPilot_within)
    | (with_reducible apply State.efuAct_within)
    | (with_reducible apply State.putFlag_within)
    | (with_reducible apply State.each_within)
    | (with_reducible apply State.onlyIf_within)
    | (with_reducible apply State.foldl_within)
    | (intro x k hx)
    | (intro x hx)
    | split
    | (with_reducible apply SameOutside.built)

theorem State.startRcmTest_within {U : List Part} {z0 s : State} (hz : SameOutside U z0 s) (c : Nat) (clearing : Bool) (hU : Part.sub [.unit .oiu, .unit .efu, .unit .psw, .unit .lgs, .allocator] U = true) : SameOutside U z0 (State.startRcmTest s c clearing) := by
  unfold State.startRcmTest
  try dsimp only
  repeat' first
    | (with_reducible assumption)
    | (with_reducible exact Part.sub_trans rfl hU)
    | (with_reducible exact Or.inl (Part.sub_trans rfl hU))
    | (with_reducible exact Or.inr rfl)
    | (with_reducible apply State.setRcm_within)
    | (with_reducible apply State.put_within)
    | (with_reducible apply State.efuAct_within)
    | (with_reducible apply State.each_within)
    | (with_reducible apply State.onlyIf_within)
    | (with_reducible apply State.foldl_within)
    | (intro x k hx)
    | (intro x hx)
    | split
    | (with_reducible apply SameOutside.built)

theorem State.rcmLockout_within {U : List Part} {z0 s : State} (hz : SameOutside U z0 s) (c : Nat) (hU : Part.sub [.unit .oiu, .unit .efu, .unit .psw, .unit .lgs, .allocator] U = true) : SameOutside U z0 (State.rcmLockout s c) := by
  unfold State.rcmLockout
  try dsimp only
  repeat' first
    | (with_reducible assumption)
    | (with_reducible exact Part.sub_trans rfl hU)
    | (with_reducible exact Or.inl (Part.sub_trans rfl hU))
    | (with_reducible exact Or.inr rfl)
    | (with_reducible apply State.setRcm_within)
    | (with_reducible apply State.putFlag_within)
    | (with_reducible apply State.put_within)
    | (with_reducible apply State.efuAct_within)
    | (with_reducible apply State.each_within)
    | (with_reducible apply State.onlyIf_within)
    | (with_reducible apply State.foldl_within)
    | (intro x k hx)
    | (intro x hx)
    | split
    | (with_reducible apply SameOutside.built)

theorem State.rcmTrip_within {U : List Part} {z0 s : State} (hz : SameOutside U z0 s) (c : Nat) (band : Nat) (hU : Part.sub [.unit .oiu, .unit .efu, .unit .psw, .unit .lgs, .allocator] U = true) : SameOutside U z0 (State.rcmTrip s c band) := by
  unfold State.rcmTrip
  try dsimp only
  repeat' first
    | (with_reducible assumption)
    | (with_reducible exact Part.sub_trans rfl hU)
    | (with_reducible exact Or.inl (Part.sub_trans rfl hU))
    | (with_reducible exact Or.inr rfl)
    | (with_reducible apply State.setRcm_within)
    | (with_reducible apply State.raise2_within)
    | (with_reducible apply State.count_within)
    | (with_reducible apply State.putFlag_within)
    | (with_reducible apply State.tripOutlet_within)
    | (with_reducible apply State.put_within)
    | (with_reducible apply State.each_within)
    | (with_reducible apply State.onlyIf_within)
    | (with_reducible apply State.foldl_within)
    | (intro x k hx)
    | (intro x hx)
    | split
    | (with_reducible apply SameOutside.built)

theorem State.clearTrip_within {U : List Part} {z0 s : State} (hz : SameOutside U z0 s) (c : Nat) (detail : Nat) (hU : Part.sub [.unit .oiu, .unit .efu, .unit .psw, .unit .lgs, .allocator] U = true) : SameOutside U z0 (State.clearTrip s c detail) := by
  unfold State.clearTrip
  try dsimp only
  repeat' first
    | (with_reducible assumption)
    | (with_reducible exact Part.sub_trans rfl hU)
    | (with_reducible exact Or.inl (Part.sub_trans rfl hU))
    | (with_reducible exact Or.inr rfl)
    | (with_reducible apply State.setRcm_within)
    | (with_reducible apply State.raise2_within)
    | (with_reducible apply State.putFlag_within)
    | (with_reducible apply State.efuAct_within)
    | (with_reducible apply State.put_within)
    | (with_reducible apply State.startRcmTest_within)
    | (with_reducible apply State.each_within)
    | (with_reducible apply State.onlyIf_within)
    | (with_reducible apply State.foldl_within)
    | (intro x k hx)
    | (intro x hx)
    | split
    | (with_reducible apply SameOutside.built)

theorem State.clearAtUnplug_within {U : List Part} {z0 s : State} (hz : SameOutside U z0 s) (c : Nat) (hU : Part.sub [.unit .oiu, .unit .efu, .unit .psw, .unit .lgs, .allocator] U = true) : SameOutside U z0 (State.clearAtUnplug s c) := by
  unfold State.clearAtUnplug
  try dsimp only
  repeat' first
    | (with_reducible assumption)
    | (with_reducible exact Part.sub_trans rfl hU)
    | (with_reducible exact Or.inl (Part.sub_trans rfl hU))
    | (with_reducible exact Or.inr rfl)
    | (with_reducible apply State.clearTrip_within)
    | (with_reducible apply State.each_within)
    | (with_reducible apply State.onlyIf_within)
    | (with_reducible apply State.foldl_within)
    | (intro x k hx)
    | (intro x hx)
    | split

theorem State.takeSample_within {U : List Part} {z0 s : State} (hz : SameOutside U z0 s) (c : Nat) (counts : Int) (hU : Part.sub [.unit .efu] U = true) : SameOutside U z0 (State.takeSample s c counts) := by
  unfold State.takeSample
  try dsimp only
  repeat' first
    | (with_reducible assumption)
    | (with_reducible exact Part.sub_trans rfl hU)
    | (with_reducible exact Or.inl (Part.sub_trans rfl hU))
    | (with_reducible exact Or.inr rfl)
    | (with_reducible apply State.setRcm_within)
    | (with_reducible apply State.put_within)

theorem State.testSample_within {U : List Part} {z0 s : State} (hz : SameOutside U z0 s) (c : Nat) (hU : Part.sub [.unit .efu] U = true) : SameOutside U z0 (State.testSample s c) := by
  unfold State.testSample
  try dsimp only
  repeat' first
    | (with_reducible assumption)
    | (with_reducible exact Part.sub_trans rfl hU)
    | (with_reducible exact Or.inl (Part.sub_trans rfl hU))
    | (with_reducible exact Or.inr rfl)
    | (with_reducible apply State.setRcm_within)
    | (with_reducible apply State.each_within)
    | (with_reducible apply State.onlyIf_within)
    | (with_reducible apply State.foldl_within)
    | (intro x k hx)
    | (intro x hx)
    | split

theorem State.rcmDaily_within {U : List Part} {z0 s : State} (hz : SameOutside U z0 s) (c : Nat) (hU : Part.sub [.unit .oiu, .unit .efu, .unit .psw, .unit .lgs, .allocator] U = true) : SameOutside U z0 (State.rcmDaily s c) := by
  unfold State.rcmDaily
  try dsimp only
  repeat' first
    | (with_reducible assumption)
    | (with_reducible exact Part.sub_trans rfl hU)
    | (with_reducible exact Or.inl (Part.sub_trans rfl hU))
    | (with_reducible exact Or.inr rfl)
    | (with_reducible apply State.setRcm_within)
    | (with_reducible apply State.startRcmTest_within)

theorem execRcmSlice_within (c : Fin 24) (counts : Int) (s : State) : Stays [.unit .oiu, .unit .efu, .unit .psw, .unit .lgs, .allocator] s (execRcmSlice c counts s) := by
  have hU : Part.sub [.unit .oiu, .unit .efu, .unit .psw, .unit .lgs, .allocator] [.unit .oiu, .unit .efu, .unit .psw, .unit .lgs, .allocator] = true := rfl
  unfold execRcmSlice
  try dsimp only
  repeat' first
    | (with_reducible assumption)
    | (with_reducible exact Part.sub_trans rfl hU)
    | (with_reducible exact Or.inl (Part.sub_trans rfl hU))
    | (with_reducible exact Or.inr rfl)
    | (with_reducible exact SameOutside.refl _ _)
    | (with_reducible apply Stays.next)
    | (with_reducible apply State.rcmTrip_within)
    | (with_reducible apply State.rcmDaily_within)
    | (with_reducible apply State.clearAtUnplug_within)
    | (with_reducible apply State.testSample_within)
    | (with_reducible apply State.takeSample_within)
    | (with_reducible apply State.each_within)
    | (with_reducible apply State.onlyIf_within)
    | (with_reducible apply State.foldl_within)
    | (intro x k hx)
    | (intro x hx)
    | split
    | (with_reducible apply SameOutside.built)

theorem execRcmTrip_within (c : Fin 24) (band : Fin 6) (s : State) : Stays [.unit .oiu, .unit .efu, .unit .psw, .unit .lgs, .allocator] s (execRcmTrip c band s) := by
  have hU : Part.sub [.unit .oiu, .unit .efu, .unit .psw, .unit .lgs, .allocator] [.unit .oiu, .unit .efu, .unit .psw, .unit .lgs, .allocator] = true := rfl
  unfold execRcmTrip
  try dsimp only
  repeat' first
    | (with_reducible assumption)
    | (with_reducible exact Part.sub_trans rfl hU)
    | (with_reducible exact Or.inl (Part.sub_trans rfl hU))
    | (with_reducible exact Or.inr rfl)
    | (with_reducible exact SameOutside.refl _ _)
    | (with_reducible apply Stays.next)
    | (with_reducible apply State.rcmTrip_within)
    | (with_reducible apply State.each_within)
    | (with_reducible apply State.onlyIf_within)
    | (with_reducible apply State.foldl_within)
    | (intro x k hx)
    | (intro x hx)
    | split
    | (with_reducible apply SameOutside.built)

theorem State.tripClear_within {U : List Part} {z0 s : State} (hz : SameOutside U z0 s) (c : Nat) (hU : Part.sub [.unit .oiu, .unit .efu, .unit .psw, .unit .lgs, .allocator] U = true) : SameOutside U z0 (State.tripClear s c) := by
  unfold State.tripClear
  try dsimp only
  repeat' first
    | (with_reducible assumption)
    | (with_reducible exact Part.sub_trans rfl hU)
    | (with_reducible exact Or.inl (Part.sub_trans rfl hU))
    | (with_reducible exact Or.inr rfl)
    | (with_reducible apply State.setRcm_within)
    | (with_reducible apply State.clearTrip_within)
    | (with_reducible apply State.each_within)
    | (with_reducible apply State.onlyIf_within)
    | (with_reducible apply State.foldl_within)
    | (intro x k hx)
    | (intro x hx)
    | split
    | (with_reducible apply SameOutside.built)

theorem execTripclr_within (c : Fin 24) (s : State) : Stays [.unit .oiu, .unit .efu, .unit .psw, .unit .lgs, .allocator] s (execTripclr c s) := by
  have hU : Part.sub [.unit .oiu, .unit .efu, .unit .psw, .unit .lgs, .allocator] [.unit .oiu, .unit .efu, .unit .psw, .unit .lgs, .allocator] = true := rfl
  unfold execTripclr
  try dsimp only
  repeat' first
    | (with_reducible assumption)
    | (with_reducible exact Part.sub_trans rfl hU)
    | (with_reducible exact Or.inl (Part.sub_trans rfl hU))
    | (with_reducible exact Or.inr rfl)
    | (with_reducible exact SameOutside.refl _ _)
    | (with_reducible apply Stays.next)
    | (with_reducible apply State.tripClear_within)

theorem State.efuViolation_within {U : List Part} {z0 s : State} (hz : SameOutside U z0 s) (off : Nat) (hU : Part.sub [.unit .efu, .unit .lgs] U = true) : SameOutside U z0 (State.efuViolation s off) := by
  unfold State.efuViolation
  try dsimp only
  repeat' first
    | (with_reducible assumption)
    | (with_reducible exact Part.sub_trans rfl hU)
    | (with_reducible exact Or.inl (Part.sub_trans rfl hU))
    | (with_reducible exact Or.inr rfl)
    | (with_reducible apply State.raise_within)
    | (with_reducible apply State.put_within)
    | (with_reducible apply State.each_within)
    | (with_reducible apply State.onlyIf_within)
    | (with_reducible apply State.foldl_within)
    | (intro x k hx)
    | (intro x hx)
    | split
    | (with_reducible apply SameOutside.built)

theorem State.writeTest_within {U : List Part} {z0 s : State} (hz : SameOutside U z0 s) (imd : Bool) (c : Nat) (hU : Part.sub [.unit .oiu, .unit .efu, .unit .psw, .unit .lgs, .allocator] U = true) : SameOutside U z0 (State.writeTest s imd c) := by
  unfold State.writeTest
  try dsimp only
  repeat' first
    | (with_reducible assumption)
    | (with_reducible exact Part.sub_trans rfl hU)
    | (with_reducible exact Or.inl (Part.sub_trans rfl hU))
    | (with_reducible exact Or.inr rfl)
    | (with_reducible apply State.efuViolation_within)
    | (with_reducible apply State.startRcmTest_within)
    | (with_reducible apply State.startImdTest_within)
    | (with_reducible apply State.each_within)
    | (with_reducible apply State.onlyIf_within)
    | (with_reducible apply State.foldl_within)
    | (intro x k hx)
    | (intro x hx)
    | split
    | (with_reducible apply SameOutside.built)

theorem execTest_within (imd : Bool) (c : Fin 24) (s : State) : Stays [.unit .oiu, .unit .efu, .unit .psw, .unit .lgs, .allocator] s (execTest imd c s) := by
  have hU : Part.sub [.unit .oiu, .unit .efu, .unit .psw, .unit .lgs, .allocator] [.unit .oiu, .unit .efu, .unit .psw, .unit .lgs, .allocator] = true := rfl
  unfold execTest
  try dsimp only
  repeat' first
    | (with_reducible assumption)
    | (with_reducible exact Part.sub_trans rfl hU)
    | (with_reducible exact Or.inl (Part.sub_trans rfl hU))
    | (with_reducible exact Or.inr rfl)
    | (with_reducible exact SameOutside.refl _ _)
    | (with_reducible apply Stays.next)
    | (with_reducible apply State.writeTest_within)

theorem State.lockClear_within {U : List Part} {z0 s : State} (hz : SameOutside U z0 s) (imd : Bool) (c : Nat) (hU : Part.sub [.unit .oiu, .unit .efu, .unit .psw, .unit .lgs, .allocator] U = true) : SameOutside U z0 (State.lockClear s imd c) := by
  unfold State.lockClear
  try dsimp only
  repeat' first
    | (with_reducible assumption)
    | (with_reducible exact Part.sub_trans rfl hU)
    | (with_reducible exact Or.inl (Part.sub_trans rfl hU))
    | (with_reducible exact Or.inr rfl)
    | (with_reducible apply State.startImdTest_within)
    | (with_reducible apply State.startRcmTest_within)
    | (with_reducible apply State.each_within)
    | (with_reducible apply State.onlyIf_within)
    | (with_reducible apply State.foldl_within)
    | (intro x k hx)
    | (intro x hx)
    | split

theorem execLockclr_within (imd : Bool) (c : Fin 24) (s : State) : Stays [.unit .oiu, .unit .efu, .unit .psw, .unit .lgs, .allocator] s (execLockclr imd c s) := by
  have hU : Part.sub [.unit .oiu, .unit .efu, .unit .psw, .unit .lgs, .allocator] [.unit .oiu, .unit .efu, .unit .psw, .unit .lgs, .allocator] = true := rfl
  unfold execLockclr
  try dsimp only
  repeat' first
    | (with_reducible assumption)
    | (with_reducible exact Part.sub_trans rfl hU)
    | (with_reducible exact Or.inl (Part.sub_trans rfl hU))
    | (with_reducible exact Or.inr rfl)
    | (with_reducible exact SameOutside.refl _ _)
    | (with_reducible apply Stays.next)
    | (with_reducible apply State.lockClear_within)

theorem State.calibrate_within {U : List Part} {z0 s : State} (hz : SameOutside U z0 s) (c : Nat) (counts : Nat) (hU : Part.sub [.unit .oiu, .unit .efu, .unit .psw, .unit .lgs, .allocator] U = true) : SameOutside U z0 (State.calibrate s c counts) := by
  unfold State.calibrate
  try dsimp only
  repeat' first
    | (with_reducible assumption)
    | (with_reducible exact Part.sub_trans rfl hU)
    | (with_reducible exact Or.inl (Part.sub_trans rfl hU))
    | (with_reducible exact Or.inr rfl)
    | (with_reducible apply State.raise2_within)
    | (with_reducible apply State.efuViolation_within)
    | (with_reducible apply State.moveTo_within)
    | (with_reducible apply State.rcmLockout_within)
    | (with_reducible apply State.put_within)
    | (with_reducible apply State.startRcmTest_within)
    | (with_reducible apply State.each_within)
    | (with_reducible apply State.onlyIf_within)
    | (with_reducible apply State.foldl_within)
    | (intro x k hx)
    | (intro x hx)
    | split
    | (with_reducible apply SameOutside.built)

theorem execCal_within (c : Fin 24) (counts : Nat) (s : State) : Stays [.unit .oiu, .unit .efu, .unit .psw, .unit .lgs, .allocator] s (execCal c counts s) := by
  have hU : Part.sub [.unit .oiu, .unit .efu, .unit .psw, .unit .lgs, .allocator] [.unit .oiu, .unit .efu, .unit .psw, .unit .lgs, .allocator] = true := rfl
  unfold execCal
  try dsimp only
  repeat' first
    | (with_reducible assumption)
    | (with_reducible exact Part.sub_trans rfl hU)
    | (with_reducible exact Or.inl (Part.sub_trans rfl hU))
    | (with_reducible exact Or.inr rfl)
    | (with_reducible exact SameOutside.refl _ _)
    | (with_reducible apply Stays.next)
    | (with_reducible apply State.calibrate_within)

theorem State.endRcmTest_within {U : List Part} {z0 s : State} (hz : SameOutside U z0 s) (c : Nat) (hU : Part.sub [.unit .oiu, .unit .efu, .unit .psw, .unit .lgs, .allocator] U = true) : SameOutside U z0 (State.endRcmTest s c) := by
  unfold State.endRcmTest
  try dsimp only
  repeat' first
    | (with_reducible assumption)
    | (with_reducible exact Part.sub_trans rfl hU)
    | (with_reducible exact Or.inl (Part.sub_trans rfl hU))
    | (with_reducible exact Or.inr rfl)
    | (with_reducible apply State.efuAct_within)
    | (with_reducible apply State.each_within)
    | (with_reducible apply State.onlyIf_within)
    | (with_reducible apply State.foldl_within)
    | (intro x k hx)
    | (intro x hx)
    | split

theorem execRcmSelfTestDone_within (c : Fin 24) (realCurrent : Bool) (s : State) : Stays [.unit .oiu, .unit .efu, .unit .psw, .unit .lgs, .allocator] s (execRcmSelfTestDone c realCurrent s) := by
  have hU : Part.sub [.unit .oiu, .unit .efu, .unit .psw, .unit .lgs, .allocator] [.unit .oiu, .unit .efu, .unit .psw, .unit .lgs, .allocator] = true := rfl
  unfold execRcmSelfTestDone
  try dsimp only
  repeat' first
    | (with_reducible assumption)
    | (with_reducible exact Part.sub_trans rfl hU)
    | (with_reducible exact Or.inl (Part.sub_trans rfl hU))
    | (with_reducible exact Or.inr rfl)
    | (with_reducible exact SameOutside.refl _ _)
    | (with_reducible apply Stays.next)
    | (with_reducible apply State.setRcm_within)
    | (with_reducible apply State.raise2_within)
    | (with_reducible apply State.count_within)
    | (with_reducible apply State.putFlag_within)
    | (with_reducible apply State.endRcmTest_within)
    | (with_reducible apply State.rcmLockout_within)
    | (with_reducible apply State.put_within)
    | (with_reducible apply State.each_within)
    | (with_reducible apply State.onlyIf_within)
    | (with_reducible apply State.foldl_within)
    | (intro x k hx)
    | (intro x hx)
    | split
    | (with_reducible apply SameOutside.built)

theorem execRcmSelfTestRetry_within (c : Fin 24) (s : State) : Stays [.unit .oiu, .unit .efu, .unit .psw, .unit .lgs, .allocator] s (execRcmSelfTestRetry c s) := by
  have hU : Part.sub [.unit .oiu, .unit .efu, .unit .psw, .unit .lgs, .allocator] [.unit .oiu, .unit .efu, .unit .psw, .unit .lgs, .allocator] = true := rfl
  unfold execRcmSelfTestRetry
  try dsimp only
  repeat' first
    | (with_reducible assumption)
    | (with_reducible exact Part.sub_trans rfl hU)
    | (with_reducible exact Or.inl (Part.sub_trans rfl hU))
    | (with_reducible exact Or.inr rfl)
    | (with_reducible exact SameOutside.refl _ _)
    | (with_reducible apply Stays.next)
    | (with_reducible apply State.setRcm_within)
    | (with_reducible apply State.moveTo_within)
    | (with_reducible apply State.endRcmTest_within)
    | (with_reducible apply State.put_within)
    | (with_reducible apply State.each_within)
    | (with_reducible apply State.onlyIf_within)
    | (with_reducible apply State.foldl_within)
    | (intro x k hx)
    | (intro x hx)
    | split
    | (with_reducible apply SameOutside.built)

theorem execDailySelfTest_within (imd : Bool) (c : Fin 24) (s : State) : Stays [.unit .oiu, .unit .efu, .unit .psw, .unit .lgs, .allocator] s (execDailySelfTest imd c s) := by
  have hU : Part.sub [.unit .oiu, .unit .efu, .unit .psw, .unit .lgs, .allocator] [.unit .oiu, .unit .efu, .unit .psw, .unit .lgs, .allocator] = true := rfl
  unfold execDailySelfTest
  try dsimp only
  repeat' first
    | (with_reducible assumption)
    | (with_reducible exact Part.sub_trans rfl hU)
    | (with_reducible exact Or.inl (Part.sub_trans rfl hU))
    | (with_reducible exact Or.inr rfl)
    | (with_reducible exact SameOutside.refl _ _)
    | (with_reducible apply Stays.next)
    | (with_reducible apply State.setRcm_within)
    | (with_reducible apply State.imdDaily_within)
    | (with_reducible apply State.setImd_within)
    | (with_reducible apply State.moveTo_within)
    | (with_reducible apply State.rcmDaily_within)
    | (with_reducible apply State.each_within)
    | (with_reducible apply State.onlyIf_within)
    | (with_reducible apply State.foldl_within)
    | (intro x k hx)
    | (intro x hx)
    | split
    | (with_reducible apply SameOutside.built)

theorem execRcmSensorFault_within (c : Fin 24) (sense : Bool) (s : State) : Stays [.unit .oiu, .unit .efu, .unit .psw, .unit .lgs, .allocator] s (execRcmSensorFault c sense s) := by
  have hU : Part.sub [.unit .oiu, .unit .efu, .unit .psw, .unit .lgs, .allocator] [.unit .oiu, .unit .efu, .unit .psw, .unit .lgs, .allocator] = true := rfl
  unfold execRcmSensorFault
  try dsimp only
  repeat' first
    | (with_reducible assumption)
    | (with_reducible exact Part.sub_trans rfl hU)
    | (with_reducible exact Or.inl (Part.sub_trans rfl hU))
    | (with_reducible exact Or.inr rfl)
    | (with_reducible exact SameOutside.refl _ _)
    | (with_reducible apply Stays.next)
    | (with_reducible apply State.rcmLockout_within)
    | (with_reducible apply State.raise2_within)
    | (with_reducible apply State.each_within)
    | (with_reducible apply State.onlyIf_within)
    | (with_reducible apply State.foldl_within)
    | (intro x k hx)
    | (intro x hx)
    | split
    | (with_reducible apply SameOutside.built)

theorem State.imdTripAll_within {U : List Part} {z0 s : State} (hz : SameOutside U z0 s) (k : Nat) (detail : Nat) (hU : Part.sub [.unit .oiu, .unit .efu, .unit .psw, .unit .lgs, .allocator] U = true) : SameOutside U z0 (State.imdTripAll s k detail) := by
  unfold State.imdTripAll
  try dsimp only
  repeat' first
    | (with_reducible assumption)
    | (with_reducible exact Part.sub_trans rfl hU)
    | (with_reducible exact Or.inl (Part.sub_trans rfl hU))
    | (with_reducible exact Or.inr rfl)
    | (with_reducible apply State.raise2_within)
    | (with_reducible apply State.put_within)
    | (with_reducible apply State.count_within)
    | (with_reducible apply State.putFlag_within)
    | (with_reducible apply State.tripOutlet_within)
    | (with_reducible apply State.each_within)
    | (with_reducible apply State.onlyIf_within)
    | (with_reducible apply State.foldl_within)
    | (intro x k hx)
    | (intro x hx)
    | split
    | (with_reducible apply SameOutside.built)

theorem State.startCheck_within {U : List Part} {z0 s : State} (hz : SameOutside U z0 s) (k : Nat) (n : Nat) (hU : Part.sub [.unit .efu] U = true) : SameOutside U z0 (State.startCheck s k n) := by
  unfold State.startCheck
  try dsimp only
  repeat' first
    | (with_reducible assumption)
    | (with_reducible exact Part.sub_trans rfl hU)
    | (with_reducible exact Or.inl (Part.sub_trans rfl hU))
    | (with_reducible exact Or.inr rfl)
    | (with_reducible apply State.injRefresh_within)
    | (with_reducible apply State.setImd_within)
    | (with_reducible apply State.each_within)
    | (with_reducible apply State.onlyIf_within)
    | (with_reducible apply State.foldl_within)
    | (intro x k hx)
    | (intro x hx)
    | split
    | (with_reducible apply SameOutside.built)

theorem State.endCheck_within {U : List Part} {z0 s : State} (hz : SameOutside U z0 s) (k : Nat) (code : Nat) (riso : Nat) (hU : Part.sub [.unit .efu, .unit .lgs] U = true) : SameOutside U z0 (State.endCheck s k code riso) := by
  unfold State.endCheck
  try dsimp only
  repeat' first
    | (with_reducible assumption)
    | (with_reducible exact Part.sub_trans rfl hU)
    | (with_reducible exact Or.inl (Part.sub_trans rfl hU))
    | (with_reducible exact Or.inr rfl)
    | (with_reducible apply State.startCheck_within)
    | (with_reducible apply State.raise2_within)
    | (with_reducible apply State.setImd_within)
    | (with_reducible apply State.count_within)
    | (with_reducible apply State.injRefresh_within)
    | (with_reducible apply State.put_within)
    | (with_reducible apply State.each_within)
    | (with_reducible apply State.onlyIf_within)
    | (with_reducible apply State.foldl_within)
    | (intro x k hx)
    | (intro x hx)
    | split
    | (with_reducible apply SameOutside.built)

theorem State.risoRuns_within {U : List Part} {z0 s : State} (hz : SameOutside U z0 s) (k : Nat) (r : Option Nat)
    (hU : Part.sub [.unit .oiu, .unit .efu, .unit .psw, .unit .lgs, .allocator] U = true) : SameOutside U z0 (State.risoRuns s k r) := by
  unfold State.risoRuns
  extract_lets v lvl i0 above i s1 was s2
  have h1 : SameOutside U z0 s1 := State.put_within (State.setImd_within hz _ _ (Part.sub_trans rfl hU)) _ _ _ (Part.sub_trans rfl hU)
  clear_value s1
  have h2 : SameOutside U z0 s2 := State.imdTripAll_within (State.put_within h1 _ _ _ (Part.sub_trans rfl hU)) _ _ (Part.sub_trans rfl hU)
  clear_value s2
  split
  · refine State.raise2_within (State.put_within (State.put_within h1 _ _ _ ?_) _ _ _ ?_) _ _ _ ?_
    all_goals exact Part.sub_trans rfl hU
  · split
    · refine State.raise2_within (State.put_within h1 _ _ _ ?_) _ _ _ ?_
      all_goals exact Part.sub_trans rfl hU
    · split
      · exact State.put_within h1 _ _ _ (Part.sub_trans rfl hU)
      · split
        · split
          · exact State.endCheck_within h2 _ _ _ (Part.sub_trans rfl hU)
          · exact h2
        · exact h1

theorem execImdHalfPeriod_within (k : Fin 12) (i1 : Int) (i2 : Int) (i3 : Int) (s : State) : Stays [.unit .oiu, .unit .efu, .unit .psw, .unit .lgs, .allocator] s (execImdHalfPeriod k i1 i2 i3 s) := by
  have hU : Part.sub [.unit .oiu, .unit .efu, .unit .psw, .unit .lgs, .allocator] [.unit .oiu, .unit .efu, .unit .psw, .unit .lgs, .allocator] = true := rfl
  unfold execImdHalfPeriod
  try dsimp only
  repeat' first
    | (with_reducible assumption)
    | (with_reducible exact Part.sub_trans rfl hU)
    | (with_reducible exact Or.inl (Part.sub_trans rfl hU))
    | (with_reducible exact Or.inr rfl)
    | (with_reducible exact SameOutside.refl _ _)
    | (with_reducible apply Stays.next)
    | (with_reducible apply State.risoRuns_within)
    | (with_reducible apply State.setImd_within)
    | (with_reducible apply State.injRefresh_within)
    | (with_reducible apply State.each_within)
    | (with_reducible apply State.onlyIf_within)
    | (with_reducible apply State.foldl_within)
    | (intro x k hx)
    | (intro x hx)
    | split
    | (with_reducible apply SameOutside.built)

theorem execPoleCheckTrip_within (k : Fin 12) (vpos : Int) (vneg : Int) (s : State) : Stays [.unit .oiu, .unit .efu, .unit .psw, .unit .lgs, .allocator] s (execPoleCheckTrip k vpos vneg s) := by
  have hU : Part.sub [.unit .oiu, .unit .efu, .unit .psw, .unit .lgs, .allocator] [.unit .oiu, .unit .efu, .unit .psw, .unit .lgs, .allocator] = true := rfl
  unfold execPoleCheckTrip
  try dsimp only
  repeat' first
    | (with_reducible assumption)
    | (with_reducible exact Part.sub_trans rfl hU)
    | (with_reducible exact Or.inl (Part.sub_trans rfl hU))
    | (with_reducible exact Or.inr rfl)
    | (with_reducible exact SameOutside.refl _ _)
    | (with_reducible apply Stays.next)
    | (with_reducible apply State.put_within)
    | (with_reducible apply State.endCheck_within)
    | (with_reducible apply State.imdTripAll_within)
    | (with_reducible apply State.each_within)
    | (with_reducible apply State.onlyIf_within)
    | (with_reducible apply State.foldl_within)
    | (intro x k hx)
    | (intro x hx)
    | split
    | (with_reducible apply SameOutside.built)

theorem State.imdLockout_within {U : List Part} {z0 s : State} (hz : SameOutside U z0 s) (k : Nat) (detail : Nat) (hU : Part.sub [.unit .oiu, .unit .efu, .unit .psw, .unit .lgs, .allocator] U = true) : SameOutside U z0 (State.imdLockout s k detail) := by
  unfold State.imdLockout
  try dsimp only
  repeat' first
    | (with_reducible assumption)
    | (with_reducible exact Part.sub_trans rfl hU)
    | (with_reducible exact Or.inl (Part.sub_trans rfl hU))
    | (with_reducible exact Or.inr rfl)
    | (with_reducible apply State.setImd_within)
    | (with_reducible apply State.raise2_within)
    | (with_reducible apply State.putFlag_within)
    | (with_reducible apply State.put_within)
    | (with_reducible apply State.efuAct_within)
    | (with_reducible apply State.each_within)
    | (with_reducible apply State.onlyIf_within)
    | (with_reducible apply State.foldl_within)
    | (intro x k hx)
    | (intro x hx)
    | split
    | (with_reducible apply SameOutside.built)

theorem execCouplingOpen_within (k : Fin 12) (vpos : Int) (vneg : Int) (s : State) : Stays [.unit .oiu, .unit .efu, .unit .psw, .unit .lgs, .allocator] s (execCouplingOpen k vpos vneg s) := by
  have hU : Part.sub [.unit .oiu, .unit .efu, .unit .psw, .unit .lgs, .allocator] [.unit .oiu, .unit .efu, .unit .psw, .unit .lgs, .allocator] = true := rfl
  unfold execCouplingOpen
  try dsimp only
  repeat' first
    | (with_reducible assumption)
    | (with_reducible exact Part.sub_trans rfl hU)
    | (with_reducible exact Or.inl (Part.sub_trans rfl hU))
    | (with_reducible exact Or.inr rfl)
    | (with_reducible exact SameOutside.refl _ _)
    | (with_reducible apply Stays.next)
    | (with_reducible apply State.put_within)
    | (with_reducible apply State.imdLockout_within)
    | (with_reducible apply State.each_within)
    | (with_reducible apply State.onlyIf_within)
    | (with_reducible apply State.foldl_within)
    | (intro x k hx)
    | (intro x hx)
    | split

theorem execImdSelfTestDone_within (k : Fin 12) (sourceFail : Bool) (s : State) : Stays [.unit .oiu, .unit .efu, .unit .psw, .unit .lgs, .allocator] s (execImdSelfTestDone k sourceFail s) := by
  have hU : Part.sub [.unit .oiu, .unit .efu, .unit .psw, .unit .lgs, .allocator] [.unit .oiu, .unit .efu, .unit .psw, .unit .lgs, .allocator] = true := rfl
  unfold execImdSelfTestDone
  try dsimp only
  repeat' first
    | (with_reducible assumption)
    | (with_reducible exact Part.sub_trans rfl hU)
    | (with_reducible exact Or.inl (Part.sub_trans rfl hU))
    | (with_reducible exact Or.inr rfl)
    | (with_reducible exact SameOutside.refl _ _)
    | (with_reducible apply Stays.next)
    | (with_reducible apply State.setImd_within)
    | (with_reducible apply State.raise2_within)
    | (with_reducible apply State.imdLockout_within)
    | (with_reducible apply State.putFlag_within)
    | (with_reducible apply State.injRefresh_within)
    | (with_reducible apply State.efuAct_within)
    | (with_reducible apply State.each_within)
    | (with_reducible apply State.onlyIf_within)
    | (with_reducible apply State.foldl_within)
    | (intro x k hx)
    | (intro x hx)
    | split
    | (with_reducible apply SameOutside.built)

theorem execCableCheckStart_within (n : Fin 24) (s : State) : Stays [.unit .oiu, .unit .efu] s (execCableCheckStart n s) := by
  have hU : Part.sub [.unit .oiu, .unit .efu] [.unit .oiu, .unit .efu] = true := rfl
  unfold execCableCheckStart
  try dsimp only
  repeat' first
    | (with_reducible assumption)
    | (with_reducible exact Part.sub_trans rfl hU)
    | (with_reducible exact Or.inl (Part.sub_trans rfl hU))
    | (with_reducible exact Or.inr rfl)
    | (with_reducible exact SameOutside.refl _ _)
    | (with_reducible apply Stays.next)
    | (with_reducible apply State.startCheck_within)
    | (with_reducible apply State.setOiu_within)
    | (with_reducible apply State.putFlag_within)
    | (with_reducible apply State.each_within)
    | (with_reducible apply State.onlyIf_within)
    | (with_reducible apply State.foldl_within)
    | (intro x k hx)
    | (intro x hx)
    | split
    | (with_reducible apply SameOutside.built)

theorem execCableCheckResult_within (k : Fin 12) (s : State) : Stays [.unit .efu, .unit .lgs] s (execCableCheckResult k s) := by
  have hU : Part.sub [.unit .efu, .unit .lgs] [.unit .efu, .unit .lgs] = true := rfl
  unfold execCableCheckResult
  try dsimp only
  repeat' first
    | (with_reducible assumption)
    | (with_reducible exact Part.sub_trans rfl hU)
    | (with_reducible exact Or.inl (Part.sub_trans rfl hU))
    | (with_reducible exact Or.inr rfl)
    | (with_reducible exact SameOutside.refl _ _)
    | (with_reducible apply Stays.next)
    | (with_reducible apply State.endCheck_within)
    | (with_reducible apply State.each_within)
    | (with_reducible apply State.onlyIf_within)
    | (with_reducible apply State.foldl_within)
    | (intro x k hx)
    | (intro x hx)
    | split

theorem State.efuPilot_within {U : List Part} {z0 s : State} (hz : SameOutside U z0 s) (n : Nat) (oldCode : Nat) (hU : Part.sub [.unit .oiu, .unit .efu, .unit .psw, .unit .lgs, .allocator] U = true) : SameOutside U z0 (State.efuPilot s n oldCode) := by
  unfold State.efuPilot
  try dsimp only
  repeat' first
    | (with_reducible assumption)
    | (with_reducible exact Part.sub_trans rfl hU)
    | (with_reducible exact Or.inl (Part.sub_trans rfl hU))
    | (with_reducible exact Or.inr rfl)
    | (with_reducible apply State.setRcm_within)
    | (with_reducible apply State.putFlag_within)
    | (with_reducible apply State.clearAtUnplug_within)
    | (with_reducible apply State.startRcmTest_within)
    | (with_reducible apply State.efuAct_within)
    | (with_reducible apply State.each_within)
    | (with_reducible apply State.onlyIf_within)
    | (with_reducible apply State.foldl_within)
    | (intro x k hx)
    | (intro x hx)
    | split
    | (with_reducible apply SameOutside.built)

theorem State.efuBind_within {U : List Part} {z0 s : State} (hz : SameOutside U z0 s) (hU : Part.sub [.unit .oiu, .unit .efu, .unit .psw, .unit .lgs, .allocator] U = true) : SameOutside U z0 (State.efuBind s) := by
  unfold State.efuBind
  try dsimp only
  repeat' first
    | (with_reducible assumption)
    | (with_reducible exact Part.sub_trans rfl hU)
    | (with_reducible exact Or.inl (Part.sub_trans rfl hU))
    | (with_reducible exact Or.inr rfl)
    | (with_reducible apply State.setRcm_within)
    | (with_reducible apply State.raise2_within)
    | (with_reducible apply State.imdDaily_within)
    | (with_reducible apply State.putFlag_within)
    | (with_reducible apply State.put_within)
    | (with_reducible apply State.startRcmTest_within)
    | (with_reducible apply State.each_within)
    | (with_reducible apply State.onlyIf_within)
    | (with_reducible apply State.foldl_within)
    | (intro x k hx)
    | (intro x hx)
    | split
    | (with_reducible apply SameOutside.built)

theorem State.efuReset_within {U : List Part} {z0 s : State} (hz : SameOutside U z0 s) (hU : Part.sub [.unit .oiu, .unit .efu, .unit .psw, .unit .lgs, .allocator, .latches] U = true) : SameOutside U z0 (State.efuReset s) := by
  unfold State.efuReset
  try dsimp only
  repeat' first
    | (with_reducible assumption)
    | (with_reducible exact Part.sub_trans rfl hU)
    | (with_reducible exact Or.inl (Part.sub_trans rfl hU))
    | (with_reducible exact Or.inr rfl)
    | (with_reducible apply State.setRcm_within)
    | (with_reducible apply State.setImd_within)
    | (with_reducible apply State.efuBind_within)
    | (with_reducible apply State.clearUnit_within)
    | (with_reducible apply State.efuAct_within)
    | (with_reducible apply State.each_within)
    | (with_reducible apply State.onlyIf_within)
    | (with_reducible apply State.foldl_within)
    | (intro x k hx)
    | (intro x hx)
    | split
    | (with_reducible apply SameOutside.built)

end Sys2Proof.Machine
end

