-- ==== Sys2Proof/Laws/WithinMeter.lean ====
section
/-! SUPPORT. Every operation and every command of the MEU leaves the parts of the block alone that it does not touch (Laws/Within.lean). -/

namespace Sys2Proof.Machine

open Sys2Proof

theorem State.setChan_within {U : List Part} {z0 s : State} (hz : SameOutside U z0 s) (n : Nat) (c : Chan) (hU : Part.sub [.unit .meu] U = true) : SameOutside U z0 (State.setChan s n c) := by
  unfold State.setChan
  try dsimp only
  repeat' first
    | (with_reducible assumption)
    | (with_reducible exact Part.sub_trans rfl hU)
    | (with_reducible exact Or.inl (Part.sub_trans rfl hU))
    | (with_reducible exact Or.inr rfl)
    | (with_reducible apply State.each_within)
    | (with_reducible apply State.onlyIf_within)
    | (with_reducible apply State.foldl_within)
    | (intro x k hx)
    | (intro x hx)
    | split
    | (with_reducible apply SameOutside.built)

theorem State.setElem_within {U : List Part} {z0 s : State} (hz : SameOutside U z0 s) (e : Nat) (v : Elem) (hU : Part.sub [.unit .meu] U = true) : SameOutside U z0 (State.setElem s e v) := by
  unfold State.setElem
  try dsimp only
  repeat' first
    | (with_reducible assumption)
    | (with_reducible exact Part.sub_trans rfl hU)
    | (with_reducible exact Or.inl (Part.sub_trans rfl hU))
    | (with_reducible exact Or.inr rfl)
    | (with_reducible apply State.each_within)
    | (with_reducible apply State.onlyIf_within)
    | (with_reducible apply State.foldl_within)
    | (intro x k hx)
    | (intro x hx)
    | split
    | (with_reducible apply SameOutside.built)

theorem State.takeFront_within {U : List Part} {z0 s : State} (hz : SameOutside U z0 s) (n : Nat) (rogowski : Bool) (dec : Int) (hU : Part.sub [.unit .meu, .unit .lgs] U = true) : SameOutside U z0 (State.takeFront s n rogowski dec) := by
  unfold State.takeFront
  try dsimp only
  repeat' first
    | (with_reducible assumption)
    | (with_reducible exact Part.sub_trans rfl hU)
    | (with_reducible exact Or.inl (Part.sub_trans rfl hU))
    | (with_reducible exact Or.inr rfl)
    | (with_reducible apply State.raise2_within)
    | (with_reducible apply State.setChan_within)
    | (with_reducible apply State.put_within)
    | (with_reducible apply State.each_within)
    | (with_reducible apply State.onlyIf_within)
    | (with_reducible apply State.foldl_within)
    | (intro x k hx)
    | (intro x hx)
    | split

theorem State.takeBit_within {U : List Part} {z0 s : State} (hz : SameOutside U z0 s) (n : Nat) (rogowski : Bool) (b : Bool) (hU : Part.sub [.unit .meu, .unit .lgs] U = true) : SameOutside U z0 (State.takeBit s n rogowski b) := by
  unfold State.takeBit
  try dsimp only
  repeat' first
    | (with_reducible assumption)
    | (with_reducible exact Part.sub_trans rfl hU)
    | (with_reducible exact Or.inl (Part.sub_trans rfl hU))
    | (with_reducible exact Or.inr rfl)
    | (with_reducible apply State.takeFront_within)
    | (with_reducible apply State.setChan_within)
    | (with_reducible apply State.each_within)
    | (with_reducible apply State.onlyIf_within)
    | (with_reducible apply State.foldl_within)
    | (intro x k hx)
    | (intro x hx)
    | split
    | (with_reducible apply SameOutside.built)

theorem State.detect_within {U : List Part} {z0 s : State} (hz : SameOutside U z0 s) (r : SensRec) (stamp : Nat) (y : Int) (hU : Part.sub [.unit .meu, .unit .lgs] U = true) : SameOutside U z0 (State.detect s r stamp y) := by
  unfold State.detect
  try dsimp only
  repeat' first
    | (with_reducible assumption)
    | (with_reducible exact Part.sub_trans rfl hU)
    | (with_reducible exact Or.inl (Part.sub_trans rfl hU))
    | (with_reducible exact Or.inr rfl)
    | (with_reducible apply State.raise2_within)
    | (with_reducible apply State.setChan_within)
    | (with_reducible apply State.put_within)
    | (with_reducible apply State.each_within)
    | (with_reducible apply State.onlyIf_within)
    | (with_reducible apply State.foldl_within)
    | (intro x k hx)
    | (intro x hx)

theorem State.dropSplit_within {U : List Part} {z0 s : State} (hz : SameOutside U z0 s) (e : Nat) (hU : Part.sub [.unit .meu] U = true) : SameOutside U z0 (State.dropSplit s e) := by
  unfold State.dropSplit
  try dsimp only
  repeat' first
    | (with_reducible assumption)
    | (with_reducible exact Part.sub_trans rfl hU)
    | (with_reducible exact Or.inl (Part.sub_trans rfl hU))
    | (with_reducible exact Or.inr rfl)
    | (with_reducible apply State.setElem_within)
    | (with_reducible apply State.setChan_within)
    | (with_reducible apply State.each_within)
    | (with_reducible apply State.onlyIf_within)
    | (with_reducible apply State.foldl_within)
    | (intro x k hx)
    | (intro x hx)
    | split
    | (with_reducible apply SameOutside.built)

theorem State.watchCrossing_within {U : List Part} {z0 s : State} (hz : SameOutside U z0 s) (r : SensRec) (stamp : Nat) (y : Int) (hU : Part.sub [.unit .meu] U = true) : SameOutside U z0 (State.watchCrossing s r stamp y) := by
  unfold State.watchCrossing
  try dsimp only
  repeat' first
    | (with_reducible assumption)
    | (with_reducible exact Part.sub_trans rfl hU)
    | (with_reducible exact Or.inl (Part.sub_trans rfl hU))
    | (with_reducible exact Or.inr rfl)
    | (with_reducible apply State.dropSplit_within)
    | (with_reducible apply State.setChan_within)
    | (with_reducible apply State.setElem_within)
    | (with_reducible apply State.each_within)
    | (with_reducible apply State.onlyIf_within)
    | (with_reducible apply State.foldl_within)
    | (intro x k hx)
    | (intro x hx)
    | split
    | (with_reducible apply SameOutside.built)

theorem State.takeSampleAt_within {U : List Part} {z0 s : State} (hz : SameOutside U z0 s) (r : SensRec) (hU : Part.sub [.unit .meu, .unit .lgs] U = true) : SameOutside U z0 (State.takeSampleAt s r) := by
  unfold State.takeSampleAt
  try dsimp only
  repeat' first
    | (with_reducible assumption)
    | (with_reducible exact Part.sub_trans rfl hU)
    | (with_reducible exact Or.inl (Part.sub_trans rfl hU))
    | (with_reducible exact Or.inr rfl)
    | (with_reducible apply State.detect_within)
    | (with_reducible apply State.setChan_within)
    | (with_reducible apply State.watchCrossing_within)
    | (with_reducible apply State.put_within)
    | (with_reducible apply State.each_within)
    | (with_reducible apply State.onlyIf_within)
    | (with_reducible apply State.foldl_within)
    | (intro x k hx)
    | (intro x hx)
    | split
    | (with_reducible apply SameOutside.built)

theorem State.showEnergy_within {U : List Part} {z0 s : State} (hz : SameOutside U z0 s) (e : Nat) (ks : List Nat) (hU : Part.sub [.unit .meu] U = true) : SameOutside U z0 (State.showEnergy s e ks) := by
  unfold State.showEnergy
  try dsimp only
  repeat' first
    | (with_reducible assumption)
    | (with_reducible exact Part.sub_trans rfl hU)
    | (with_reducible exact Or.inl (Part.sub_trans rfl hU))
    | (with_reducible exact Or.inr rfl)
    | (with_reducible apply State.put64_within)
    | (with_reducible apply State.each_within)
    | (with_reducible apply State.onlyIf_within)
    | (with_reducible apply State.foldl_within)
    | (intro x k hx)

theorem State.addEnergy_within {U : List Part} {z0 s : State} (hz : SameOutside U z0 s) (i : SensRec) (v : SensRec) (yi : Int) (yv : Int) (stamp : Nat) (hU : Part.sub [.unit .meu] U = true) : SameOutside U z0 (State.addEnergy s i v yi yv stamp) := by
  unfold State.addEnergy
  try dsimp only
  repeat' first
    | (with_reducible assumption)
    | (with_reducible exact Part.sub_trans rfl hU)
    | (with_reducible exact Or.inl (Part.sub_trans rfl hU))
    | (with_reducible exact Or.inr rfl)
    | (with_reducible apply State.showEnergy_within)
    | (with_reducible apply State.setElem_within)
    | (with_reducible apply State.each_within)
    | (with_reducible apply State.onlyIf_within)
    | (with_reducible apply State.foldl_within)
    | (intro x k hx)
    | (intro x hx)
    | split

theorem State.processStamp_within {U : List Part} {z0 s : State} (hz : SameOutside U z0 s) (r : SensRec) (hU : Part.sub [.unit .meu, .unit .lgs] U = true) : SameOutside U z0 (State.processStamp s r) := by
  unfold State.processStamp
  try dsimp only
  repeat' first
    | (with_reducible assumption)
    | (with_reducible exact Part.sub_trans rfl hU)
    | (with_reducible exact Or.inl (Part.sub_trans rfl hU))
    | (with_reducible exact Or.inr rfl)
    | (with_reducible apply State.takeSampleAt_within)
    | (with_reducible apply State.setChan_within)
    | (with_reducible apply State.addEnergy_within)
    | (with_reducible apply State.each_within)
    | (with_reducible apply State.onlyIf_within)
    | (with_reducible apply State.foldl_within)
    | (intro x k hx)
    | (intro x hx)
    | split
    | (with_reducible apply SameOutside.built)

theorem State.pulseSlice_within {U : List Part} {z0 s : State} (hz : SameOutside U z0 s) (r : SensRec) (hU : Part.sub [.unit .meu] U = true) : SameOutside U z0 (State.pulseSlice s r) := by
  unfold State.pulseSlice
  try dsimp only
  repeat' first
    | (with_reducible assumption)
    | (with_reducible exact Part.sub_trans rfl hU)
    | (with_reducible exact Or.inl (Part.sub_trans rfl hU))
    | (with_reducible exact Or.inr rfl)
    | (with_reducible apply State.showEnergy_within)
    | (with_reducible apply State.setChan_within)
    | (with_reducible apply State.setElem_within)
    | (with_reducible apply State.each_within)
    | (with_reducible apply State.onlyIf_within)
    | (with_reducible apply State.foldl_within)
    | (intro x k hx)
    | (intro x hx)
    | split
    | (with_reducible apply SameOutside.built)

theorem State.backEnd_within {U : List Part} {z0 s : State} (hz : SameOutside U z0 s) (r : SensRec) (hU : Part.sub [.unit .meu, .unit .lgs] U = true) : SameOutside U z0 (State.backEnd s r) := by
  unfold State.backEnd
  try dsimp only
  repeat' first
    | (with_reducible assumption)
    | (with_reducible exact Part.sub_trans rfl hU)
    | (with_reducible exact Or.inl (Part.sub_trans rfl hU))
    | (with_reducible exact Or.inr rfl)
    | (with_reducible apply State.processStamp_within)
    | (with_reducible apply State.setChan_within)
    | (with_reducible apply State.pulseSlice_within)
    | (with_reducible apply State.each_within)
    | (with_reducible apply State.onlyIf_within)
    | (with_reducible apply State.foldl_within)
    | (intro x k hx)
    | (intro x hx)
    | split
    | (with_reducible apply SameOutside.built)

theorem State.catchUp_within {U : List Part} {z0 s : State} (hz : SameOutside U z0 s) (e : Nat) (upTo : Nat) (hU : Part.sub [.unit .meu, .unit .lgs] U = true) : SameOutside U z0 (State.catchUp s e upTo) := by
  unfold State.catchUp
  try dsimp only
  repeat' first
    | (with_reducible assumption)
    | (with_reducible exact Part.sub_trans rfl hU)
    | (with_reducible exact Or.inl (Part.sub_trans rfl hU))
    | (with_reducible exact Or.inr rfl)
    | (with_reducible apply State.processStamp_within)
    | (with_reducible apply State.each_within)
    | (with_reducible apply State.onlyIf_within)
    | (with_reducible apply State.foldl_within)
    | (intro x k hx)
    | (intro x hx)
    | split

theorem State.faultShow_within {U : List Part} {z0 s : State} (hz : SameOutside U z0 s) (e : Nat) (hU : Part.sub [.unit .meu] U = true) : SameOutside U z0 (State.faultShow s e) := by
  unfold State.faultShow
  try dsimp only
  repeat' first
    | (with_reducible assumption)
    | (with_reducible exact Part.sub_trans rfl hU)
    | (with_reducible exact Or.inl (Part.sub_trans rfl hU))
    | (with_reducible exact Or.inr rfl)
    | (with_reducible apply State.putFlag_within)
    | (with_reducible apply State.each_within)
    | (with_reducible apply State.onlyIf_within)
    | (with_reducible apply State.foldl_within)
    | (intro x k hx)
    | (intro x hx)
    | split
    | (with_reducible apply SameOutside.built)

theorem State.faultRefresh_within {U : List Part} {z0 s : State} (hz : SameOutside U z0 s) (n : Nat) (hU : Part.sub [.unit .meu] U = true) : SameOutside U z0 (State.faultRefresh s n) := by
  unfold State.faultRefresh
  try dsimp only
  repeat' first
    | (with_reducible assumption)
    | (with_reducible exact Part.sub_trans rfl hU)
    | (with_reducible exact Or.inl (Part.sub_trans rfl hU))
    | (with_reducible exact Or.inr rfl)
    | (with_reducible apply State.faultShow_within)
    | (with_reducible apply State.each_within)
    | (with_reducible apply State.onlyIf_within)
    | (with_reducible apply State.foldl_within)
    | (intro x k hx)
    | (intro x hx)
    | split
    | (with_reducible apply SameOutside.built)

theorem State.modFault_within {U : List Part} {z0 s : State} (hz : SameOutside U z0 s) (n : Nat) (detail : Nat) (hU : Part.sub [.unit .oiu, .unit .meu, .unit .efu, .unit .psw, .unit .lgs, .allocator] U = true) : SameOutside U z0 (State.modFault s n detail) := by
  unfold State.modFault
  try dsimp only
  repeat' first
    | (with_reducible assumption)
    | (with_reducible exact Part.sub_trans rfl hU)
    | (with_reducible exact Or.inl (Part.sub_trans rfl hU))
    | (with_reducible exact Or.inr rfl)
    | (with_reducible apply State.raise2_within)
    | (with_reducible apply State.degrade_within)
    | (with_reducible apply State.faultRefresh_within)
    | (with_reducible apply State.putFlag_within)
    | (with_reducible apply State.put_within)
    | (with_reducible apply State.each_within)
    | (with_reducible apply State.onlyIf_within)
    | (with_reducible apply State.foldl_within)
    | (intro x k hx)
    | (intro x hx)
    | split
    | (with_reducible apply SameOutside.built)

theorem execModulatorFault_within (n : Fin 64) (noClock : Bool) (s : State) : Stays [.unit .oiu, .unit .meu, .unit .efu, .unit .psw, .unit .lgs, .allocator] s (execModulatorFault n noClock s) := by
  have hU : Part.sub [.unit .oiu, .unit .meu, .unit .efu, .unit .psw, .unit .lgs, .allocator] [.unit .oiu, .unit .meu, .unit .efu, .unit .psw, .unit .lgs, .allocator] = true := rfl
  unfold execModulatorFault
  try dsimp only
  repeat' first
    | (with_reducible assumption)
    | (with_reducible exact Part.sub_trans rfl hU)
    | (with_reducible exact Or.inl (Part.sub_trans rfl hU))
    | (with_reducible exact Or.inr rfl)
    | (with_reducible exact SameOutside.refl _ _)
    | (with_reducible apply Stays.next)
    | (with_reducible apply State.modFault_within)
    | (with_reducible apply State.setChan_within)
    | (with_reducible apply State.each_within)
    | (with_reducible apply State.onlyIf_within)
    | (with_reducible apply State.foldl_within)
    | (intro x k hx)
    | (intro x hx)
    | split
    | (with_reducible apply SameOutside.built)

theorem execModulatorFaultEnd_within (n : Fin 64) (s : State) : Stays [.unit .meu, .unit .lgs] s (execModulatorFaultEnd n s) := by
  have hU : Part.sub [.unit .meu, .unit .lgs] [.unit .meu, .unit .lgs] = true := rfl
  unfold execModulatorFaultEnd
  try dsimp only
  repeat' first
    | (with_reducible assumption)
    | (with_reducible exact Part.sub_trans rfl hU)
    | (with_reducible exact Or.inl (Part.sub_trans rfl hU))
    | (with_reducible exact Or.inr rfl)
    | (with_reducible exact SameOutside.refl _ _)
    | (with_reducible apply Stays.next)
    | (with_reducible apply State.raise2_within)
    | (with_reducible apply State.faultRefresh_within)
    | (with_reducible apply State.moveTo_within)
    | (with_reducible apply State.putFlag_within)
    | (with_reducible apply State.each_within)
    | (with_reducible apply State.onlyIf_within)
    | (with_reducible apply State.foldl_within)
    | (intro x k hx)
    | (intro x hx)
    | split
    | (with_reducible apply SameOutside.built)

theorem State.endRms_within {U : List Part} {z0 s : State} (hz : SameOutside U z0 s) (n : Nat) (hU : Part.sub [.unit .meu] U = true) : SameOutside U z0 (State.endRms s n) := by
  unfold State.endRms
  try dsimp only
  repeat' first
    | (with_reducible assumption)
    | (with_reducible exact Part.sub_trans rfl hU)
    | (with_reducible exact Or.inl (Part.sub_trans rfl hU))
    | (with_reducible exact Or.inr rfl)
    | (with_reducible apply State.put_within)
    | (with_reducible apply State.setChan_within)
    | (with_reducible apply State.each_within)
    | (with_reducible apply State.onlyIf_within)
    | (with_reducible apply State.foldl_within)
    | (intro x k hx)
    | (intro x hx)

theorem State.rmsCycle_within {U : List Part} {z0 s : State} (hz : SameOutside U z0 s) (e : Nat) (hU : Part.sub [.unit .meu] U = true) : SameOutside U z0 (State.rmsCycle s e) := by
  unfold State.rmsCycle
  try dsimp only
  repeat' first
    | (with_reducible assumption)
    | (with_reducible exact Part.sub_trans rfl hU)
    | (with_reducible exact Or.inl (Part.sub_trans rfl hU))
    | (with_reducible exact Or.inr rfl)
    | (with_reducible apply State.endRms_within)
    | (with_reducible apply State.setChan_within)
    | (with_reducible apply State.each_within)
    | (with_reducible apply State.onlyIf_within)
    | (with_reducible apply State.foldl_within)
    | (intro x k hx)
    | (intro x hx)
    | split
    | (with_reducible apply SameOutside.built)

theorem State.showShift_within {U : List Part} {z0 s : State} (hz : SameOutside U z0 s) (n : Nat) (hU : Part.sub [.unit .meu, .unit .lgs] U = true) : SameOutside U z0 (State.showShift s n) := by
  unfold State.showShift
  try dsimp only
  repeat' first
    | (with_reducible assumption)
    | (with_reducible exact Part.sub_trans rfl hU)
    | (with_reducible exact Or.inl (Part.sub_trans rfl hU))
    | (with_reducible exact Or.inr rfl)
    | (with_reducible apply State.raise2_within)
    | (with_reducible apply State.put_within)
    | (with_reducible apply State.each_within)
    | (with_reducible apply State.onlyIf_within)
    | (with_reducible apply State.foldl_within)
    | (intro x k hx)
    | (intro x hx)

theorem State.compensate_within {U : List Part} {z0 s : State} (hz : SameOutside U z0 s) (e : Nat) (hU : Part.sub [.unit .meu, .unit .lgs] U = true) : SameOutside U z0 (State.compensate s e) := by
  unfold State.compensate
  try dsimp only
  repeat' first
    | (with_reducible assumption)
    | (with_reducible exact Part.sub_trans rfl hU)
    | (with_reducible exact Or.inl (Part.sub_trans rfl hU))
    | (with_reducible exact Or.inr rfl)
    | (with_reducible apply State.setChan_within)
    | (with_reducible apply State.showShift_within)
    | (with_reducible apply State.each_within)
    | (with_reducible apply State.onlyIf_within)
    | (with_reducible apply State.foldl_within)
    | (intro x k hx)

theorem State.copyPeriod_within {U : List Part} {z0 s : State} (hz : SameOutside U z0 s) (e : Nat) (len : Nat) (hU : Part.sub [.allocator] U = true) : SameOutside U z0 (State.copyPeriod s e len) := by
  unfold State.copyPeriod
  try dsimp only
  repeat' first
    | (with_reducible assumption)
    | (with_reducible exact Part.sub_trans rfl hU)
    | (with_reducible exact Or.inl (Part.sub_trans rfl hU))
    | (with_reducible exact Or.inr rfl)
    | (with_reducible apply State.each_within)
    | (with_reducible apply State.onlyIf_within)
    | (with_reducible apply State.foldl_within)
    | (intro x k hx)
    | (intro x hx)
    | split
    | (with_reducible apply SameOutside.built)

theorem State.endPeriod_within {U : List Part} {z0 s : State} (hz : SameOutside U z0 s) (e : Nat) (stamp : Nat) (hU : Part.sub [.unit .meu, .unit .lgs, .allocator] U = true) : SameOutside U z0 (State.endPeriod s e stamp) := by
  unfold State.endPeriod
  try dsimp only
  repeat' first
    | (with_reducible assumption)
    | (with_reducible exact Part.sub_trans rfl hU)
    | (with_reducible exact Or.inl (Part.sub_trans rfl hU))
    | (with_reducible exact Or.inr rfl)
    | (with_reducible apply State.compensate_within)
    | (with_reducible apply State.setElem_within)
    | (with_reducible apply State.showEnergy_within)
    | (with_reducible apply State.copyPeriod_within)
    | (with_reducible apply State.put_within)
    | (with_reducible apply State.each_within)
    | (with_reducible apply State.onlyIf_within)
    | (with_reducible apply State.foldl_within)
    | (intro x k hx)
    | (intro x hx)
    | split
    | (with_reducible apply SameOutside.built)

theorem State.endAtSplit_within {U : List Part} {z0 s : State} (hz : SameOutside U z0 s) (e : Nat) (hU : Part.sub [.unit .meu, .unit .lgs, .allocator] U = true) : SameOutside U z0 (State.endAtSplit s e) := by
  unfold State.endAtSplit
  try dsimp only
  repeat' first
    | (with_reducible assumption)
    | (with_reducible exact Part.sub_trans rfl hU)
    | (with_reducible exact Or.inl (Part.sub_trans rfl hU))
    | (with_reducible exact Or.inr rfl)
    | (with_reducible apply State.rmsCycle_within)
    | (with_reducible apply State.endPeriod_within)
    | (with_reducible apply State.setElem_within)
    | (with_reducible apply State.each_within)
    | (with_reducible apply State.onlyIf_within)
    | (with_reducible apply State.foldl_within)
    | (intro x k hx)
    | (intro x hx)
    | split

theorem State.endNow_within {U : List Part} {z0 s : State} (hz : SameOutside U z0 s) (e : Nat) (hU : Part.sub [.unit .meu, .unit .lgs, .allocator] U = true) : SameOutside U z0 (State.endNow s e) := by
  unfold State.endNow
  try dsimp only
  repeat' first
    | (with_reducible assumption)
    | (with_reducible exact Part.sub_trans rfl hU)
    | (with_reducible exact Or.inl (Part.sub_trans rfl hU))
    | (with_reducible exact Or.inr rfl)
    | (with_reducible apply State.catchUp_within)
    | (with_reducible apply State.endPeriod_within)
    | (with_reducible apply State.dropSplit_within)
    | (with_reducible apply State.endAtSplit_within)
    | (with_reducible apply State.each_within)
    | (with_reducible apply State.onlyIf_within)
    | (with_reducible apply State.foldl_within)
    | (intro x k hx)
    | (intro x hx)
    | split
    | (with_reducible apply SameOutside.built)

theorem State.crossing_within {U : List Part} {z0 s : State} (hz : SameOutside U z0 s) (n : Nat) (at_ : Nat) (hU : Part.sub [.unit .meu, .unit .lgs] U = true) : SameOutside U z0 (State.crossing s n at_) := by
  unfold State.crossing
  try dsimp only
  repeat' first
    | (with_reducible assumption)
    | (with_reducible exact Part.sub_trans rfl hU)
    | (with_reducible exact Or.inl (Part.sub_trans rfl hU))
    | (with_reducible exact Or.inr rfl)
    | (with_reducible apply State.raise2_within)
    | (with_reducible apply State.putFlag_within)
    | (with_reducible apply State.setChan_within)
    | (with_reducible apply State.put_within)
    | (with_reducible apply State.each_within)
    | (with_reducible apply State.onlyIf_within)
    | (with_reducible apply State.foldl_within)
    | (intro x k hx)
    | (intro x hx)
    | split
    | (with_reducible apply SameOutside.built)

theorem execZeroCrossingTimeout_within (n : Fin 64) (s : State) : Stays [.unit .meu, .unit .lgs] s (execZeroCrossingTimeout n s) := by
  have hU : Part.sub [.unit .meu, .unit .lgs] [.unit .meu, .unit .lgs] = true := rfl
  unfold execZeroCrossingTimeout
  try dsimp only
  repeat' first
    | (with_reducible assumption)
    | (with_reducible exact Part.sub_trans rfl hU)
    | (with_reducible exact Or.inl (Part.sub_trans rfl hU))
    | (with_reducible exact Or.inr rfl)
    | (with_reducible exact SameOutside.refl _ _)
    | (with_reducible apply Stays.next)
    | (with_reducible apply State.raise2_within)
    | (with_reducible apply State.moveTo_within)
    | (with_reducible apply State.putFlag_within)
    | (with_reducible apply State.setChan_within)
    | (with_reducible apply State.put_within)
    | (with_reducible apply State.each_within)
    | (with_reducible apply State.onlyIf_within)
    | (with_reducible apply State.foldl_within)
    | (intro x k hx)
    | (intro x hx)
    | split
    | (with_reducible apply SameOutside.built)

theorem execPulseCounted_within (n : Fin 64) (s : State) : Stays [.unit .meu] s (execPulseCounted n s) := by
  have hU : Part.sub [.unit .meu] [.unit .meu] = true := rfl
  unfold execPulseCounted
  try dsimp only
  repeat' first
    | (with_reducible assumption)
    | (with_reducible exact Part.sub_trans rfl hU)
    | (with_reducible exact Or.inl (Part.sub_trans rfl hU))
    | (with_reducible exact Or.inr rfl)
    | (with_reducible exact SameOutside.refl _ _)
    | (with_reducible apply Stays.next)
    | (with_reducible apply State.moveTo_within)
    | (with_reducible apply State.setChan_within)
    | (with_reducible apply State.put_within)
    | (with_reducible apply State.each_within)
    | (with_reducible apply State.onlyIf_within)
    | (with_reducible apply State.foldl_within)
    | (intro x k hx)
    | (intro x hx)
    | split
    | (with_reducible apply SameOutside.built)

theorem execShortPulseRejected_within (n : Fin 64) (s : State) : Stays [.unit .meu] s (execShortPulseRejected n s) := by
  have hU : Part.sub [.unit .meu] [.unit .meu] = true := rfl
  unfold execShortPulseRejected
  try dsimp only
  repeat' first
    | (with_reducible assumption)
    | (with_reducible exact Part.sub_trans rfl hU)
    | (with_reducible exact Or.inl (Part.sub_trans rfl hU))
    | (with_reducible exact Or.inr rfl)
    | (with_reducible exact SameOutside.refl _ _)
    | (with_reducible apply Stays.next)
    | (with_reducible apply State.put_within)
    | (with_reducible apply State.each_within)
    | (with_reducible apply State.onlyIf_within)
    | (with_reducible apply State.foldl_within)
    | (intro x k hx)
    | (intro x hx)
    | split

theorem execPkclr_within (n : Fin 64) (s : State) : Stays [.unit .meu] s (execPkclr n s) := by
  have hU : Part.sub [.unit .meu] [.unit .meu] = true := rfl
  unfold execPkclr
  try dsimp only
  repeat' first
    | (with_reducible assumption)
    | (with_reducible exact Part.sub_trans rfl hU)
    | (with_reducible exact Or.inl (Part.sub_trans rfl hU))
    | (with_reducible exact Or.inr rfl)
    | (with_reducible exact SameOutside.refl _ _)
    | (with_reducible apply Stays.next)
    | (with_reducible apply State.put_within)

theorem State.fixedRms_within {U : List Part} {z0 s : State} (hz : SameOutside U z0 s) (hU : Part.sub [.unit .meu] U = true) : SameOutside U z0 (State.fixedRms s) := by
  unfold State.fixedRms
  try dsimp only
  repeat' first
    | (with_reducible assumption)
    | (with_reducible exact Part.sub_trans rfl hU)
    | (with_reducible exact Or.inl (Part.sub_trans rfl hU))
    | (with_reducible exact Or.inr rfl)
    | (with_reducible apply State.endRms_within)
    | (with_reducible apply State.each_within)
    | (with_reducible apply State.onlyIf_within)
    | (with_reducible apply State.foldl_within)
    | (intro x k hx)
    | (intro x hx)
    | split

theorem State.bankSwap_within {U : List Part} {z0 s : State} (hz : SameOutside U z0 s) (hU : Part.sub [.unit .meu, .unit .lgs] U = true) : SameOutside U z0 (State.bankSwap s) := by
  unfold State.bankSwap
  try dsimp only
  repeat' first
    | (with_reducible assumption)
    | (with_reducible exact Part.sub_trans rfl hU)
    | (with_reducible exact Or.inl (Part.sub_trans rfl hU))
    | (with_reducible exact Or.inr rfl)
    | (with_reducible apply State.apply_within)
    | (with_reducible apply State.raise2_within)
    | (with_reducible apply State.setChan_within)
    | (with_reducible apply State.showShift_within)
    | (with_reducible apply State.put_within)
    | (with_reducible apply State.each_within)
    | (with_reducible apply State.onlyIf_within)
    | (with_reducible apply State.foldl_within)
    | (intro x k hx)
    | (intro x hx)
    | split
    | (with_reducible apply SameOutside.built)

theorem State.oneSecondWrite_within {U : List Part} {z0 s : State} (hz : SameOutside U z0 s) (hU : Part.sub [.unit .meu] U = true) : SameOutside U z0 (State.oneSecondWrite s) := by
  unfold State.oneSecondWrite
  try dsimp only
  repeat' first
    | (with_reducible assumption)
    | (with_reducible exact Part.sub_trans rfl hU)
    | (with_reducible exact Or.inl (Part.sub_trans rfl hU))
    | (with_reducible exact Or.inr rfl)
    | (with_reducible apply State.each_within)
    | (with_reducible apply State.onlyIf_within)
    | (with_reducible apply State.foldl_within)
    | (intro x k hx)
    | (intro x hx)
    | split
    | (with_reducible apply SameOutside.built)

theorem State.faultSeconds_within {U : List Part} {z0 s : State} (hz : SameOutside U z0 s) (hU : Part.sub [.unit .meu] U = true) : SameOutside U z0 (State.faultSeconds s) := by
  unfold State.faultSeconds
  try dsimp only
  repeat' first
    | (with_reducible assumption)
    | (with_reducible exact Part.sub_trans rfl hU)
    | (with_reducible exact Or.inl (Part.sub_trans rfl hU))
    | (with_reducible exact Or.inr rfl)
    | (with_reducible apply State.count_within)
    | (with_reducible apply State.each_within)
    | (with_reducible apply State.onlyIf_within)
    | (with_reducible apply State.foldl_within)
    | (intro x k hx)
    | (intro x hx)
    | split

theorem State.meuFreeze_within {U : List Part} {z0 s : State} (hz : SameOutside U z0 s) (hU : Part.sub [.unit .meu, .unit .lgs, .allocator] U = true) : SameOutside U z0 (State.meuFreeze s) := by
  unfold State.meuFreeze
  try dsimp only
  repeat' first
    | (with_reducible assumption)
    | (with_reducible exact Part.sub_trans rfl hU)
    | (with_reducible exact Or.inl (Part.sub_trans rfl hU))
    | (with_reducible exact Or.inr rfl)
    | (with_reducible apply State.endNow_within)
    | (with_reducible apply State.each_within)
    | (with_reducible apply State.onlyIf_within)
    | (with_reducible apply State.foldl_within)
    | (intro x k hx)
    | (intro x hx)
    | split
    | (with_reducible apply SameOutside.built)

theorem State.rejoin_within {U : List Part} {z0 s : State} (hz : SameOutside U z0 s) (ago : Nat) (r : SensRec) (hU : Part.sub [.unit .meu] U = true) : SameOutside U z0 (State.rejoin s ago r) := by
  unfold State.rejoin
  try dsimp only
  repeat' first
    | (with_reducible assumption)
    | (with_reducible exact Part.sub_trans rfl hU)
    | (with_reducible exact Or.inl (Part.sub_trans rfl hU))
    | (with_reducible exact Or.inr rfl)
    | (with_reducible apply State.setChan_within)

theorem State.rejoinAll_within {U : List Part} {z0 s : State} (hz : SameOutside U z0 s) (hU : Part.sub [.unit .meu] U = true) : SameOutside U z0 (State.rejoinAll s) := by
  unfold State.rejoinAll
  try dsimp only
  repeat' first
    | (with_reducible assumption)
    | (with_reducible exact Part.sub_trans rfl hU)
    | (with_reducible exact Or.inl (Part.sub_trans rfl hU))
    | (with_reducible exact Or.inr rfl)
    | (with_reducible apply State.rejoin_within)
    | (with_reducible apply State.each_within)
    | (with_reducible apply State.onlyIf_within)
    | (with_reducible apply State.foldl_within)
    | (intro x k hx)
    | (intro x hx)
    | split
    | (with_reducible apply SameOutside.built)

theorem State.mclkStart_within {U : List Part} {z0 s : State} (hz : SameOutside U z0 s) (hU : Part.sub [.unit .meu, .unit .lgs] U = true) : SameOutside U z0 (State.mclkStart s) := by
  unfold State.mclkStart
  try dsimp only
  repeat' first
    | (with_reducible assumption)
    | (with_reducible exact Part.sub_trans rfl hU)
    | (with_reducible exact Or.inl (Part.sub_trans rfl hU))
    | (with_reducible exact Or.inr rfl)
    | (with_reducible apply State.rejoinAll_within)
    | (with_reducible apply State.compensate_within)
    | (with_reducible apply State.each_within)
    | (with_reducible apply State.onlyIf_within)
    | (with_reducible apply State.foldl_within)
    | (intro x k hx)
    | (intro x hx)
    | split
    | (with_reducible apply SameOutside.built)

theorem State.meuReset_within {U : List Part} {z0 s : State} (hz : SameOutside U z0 s) (hU : Part.sub [.unit .meu, .unit .lgs, .allocator] U = true) : SameOutside U z0 (State.meuReset s) := by
  unfold State.meuReset
  try dsimp only
  repeat' first
    | (with_reducible assumption)
    | (with_reducible exact Part.sub_trans rfl hU)
    | (with_reducible exact Or.inl (Part.sub_trans rfl hU))
    | (with_reducible exact Or.inr rfl)
    | (with_reducible apply State.endNow_within)
    | (with_reducible apply State.oneSecondWrite_within)
    | (with_reducible apply State.each_within)
    | (with_reducible apply State.onlyIf_within)
    | (with_reducible apply State.foldl_within)
    | (intro x k hx)
    | (intro x hx)
    | split
    | (with_reducible apply SameOutside.built)

theorem State.meuResume_within {U : List Part} {z0 s : State} (hz : SameOutside U z0 s) (hU : Part.sub [.unit .meu, .unit .lgs] U = true) : SameOutside U z0 (State.meuResume s) := by
  unfold State.meuResume
  try dsimp only
  repeat' first
    | (with_reducible assumption)
    | (with_reducible exact Part.sub_trans rfl hU)
    | (with_reducible exact Or.inl (Part.sub_trans rfl hU))
    | (with_reducible exact Or.inr rfl)
    | (with_reducible apply State.rejoinAll_within)
    | (with_reducible apply State.raise2_within)
    | (with_reducible apply State.each_within)
    | (with_reducible apply State.onlyIf_within)
    | (with_reducible apply State.foldl_within)
    | (intro x k hx)
    | (intro x hx)
    | split
    | (with_reducible apply SameOutside.built)

theorem State.showCal_within {U : List Part} {z0 s : State} (hz : SameOutside U z0 s) (hU : Part.sub [.unit .meu] U = true) : SameOutside U z0 (State.showCal s) := by
  unfold State.showCal
  try dsimp only
  repeat' first
    | (with_reducible assumption)
    | (with_reducible exact Part.sub_trans rfl hU)
    | (with_reducible exact Or.inl (Part.sub_trans rfl hU))
    | (with_reducible exact Or.inr rfl)
    | (with_reducible apply State.put_within)

theorem State.unbindChannel_within {U : List Part} {z0 s : State} (hz : SameOutside U z0 s) (n : Nat) (hU : Part.sub [.unit .meu] U = true) : SameOutside U z0 (State.unbindChannel s n) := by
  unfold State.unbindChannel
  try dsimp only
  repeat' first
    | (with_reducible assumption)
    | (with_reducible exact Part.sub_trans rfl hU)
    | (with_reducible exact Or.inl (Part.sub_trans rfl hU))
    | (with_reducible exact Or.inr rfl)
    | (with_reducible apply State.put_within)
    | (with_reducible apply State.setChan_within)
    | (with_reducible apply State.putFlag_within)
    | (with_reducible apply State.each_within)
    | (with_reducible apply State.onlyIf_within)
    | (with_reducible apply State.foldl_within)
    | (intro x k hx)
    | (intro x hx)
    | split
    | (with_reducible apply SameOutside.built)

theorem State.bindChannel_within {U : List Part} {z0 s : State} (hz : SameOutside U z0 s) (r : SensRec) (changed : Bool) (hU : Part.sub [.unit .meu] U = true) : SameOutside U z0 (State.bindChannel s r changed) := by
  unfold State.bindChannel
  try dsimp only
  repeat' first
    | (with_reducible assumption)
    | (with_reducible exact Part.sub_trans rfl hU)
    | (with_reducible exact Or.inl (Part.sub_trans rfl hU))
    | (with_reducible exact Or.inr rfl)
    | (with_reducible apply State.unbindChannel_within)
    | (with_reducible apply State.putFlag_within)
    | (with_reducible apply State.rejoin_within)
    | (with_reducible apply State.put_within)
    | (with_reducible apply State.each_within)
    | (with_reducible apply State.onlyIf_within)
    | (with_reducible apply State.foldl_within)
    | (intro x k hx)
    | (intro x hx)
    | split
    | (with_reducible apply SameOutside.built)

theorem State.meuBind_within {U : List Part} {z0 s : State} (hz : SameOutside U z0 s) (old : Option Plan) (hU : Part.sub [.unit .meu, .unit .lgs] U = true) : SameOutside U z0 (State.meuBind s old) := by
  unfold State.meuBind
  try dsimp only
  repeat' first
    | (with_reducible assumption)
    | (with_reducible exact Part.sub_trans rfl hU)
    | (with_reducible exact Or.inl (Part.sub_trans rfl hU))
    | (with_reducible exact Or.inr rfl)
    | (with_reducible apply State.unbindChannel_within)
    | (with_reducible apply State.mclkStart_within)
    | (with_reducible apply State.bindChannel_within)
    | (with_reducible apply State.compensate_within)
    | (with_reducible apply State.dropSplit_within)
    | (with_reducible apply State.showCal_within)
    | (with_reducible apply State.faultShow_within)
    | (with_reducible apply State.each_within)
    | (with_reducible apply State.onlyIf_within)
    | (with_reducible apply State.foldl_within)
    | (intro x k hx)
    | (intro x hx)
    | split
    | (with_reducible apply SameOutside.built)

end Sys2Proof.Machine
end

