-- ==== Sys2Proof/Laws/WithinSlots.lean ====
section
/-! SUPPORT. Every operation and every command of the key slots leaves the parts of the block alone that it does not touch (Laws/Within.lean). -/

namespace Sys2Proof.Machine

open Sys2Proof

theorem State.setSec_within {U : List Part} {z0 s : State} (hz : SameOutside U z0 s) (v : Sec) (hU : Part.sub [.unit .sec] U = true) : SameOutside U z0 (State.setSec s v) := by
  unfold State.setSec
  try dsimp only
  repeat' first
    | (with_reducible assumption)
    | (with_reducible exact Part.sub_trans rfl hU)
    | (with_reducible exact Or.inl (Part.sub_trans rfl hU))
    | (with_reducible exact Or.inr rfl)
    | (with_reducible apply State.each_within)
    | (with_reducible apply State.onlyIf_within)
    | (with_reducible apply State.foldl_within)
    | (intro x k hx)
    | (intro x hx)
    | split
    | (with_reducible apply SameOutside.built)

theorem State.showPend_within {U : List Part} {z0 s : State} (hz : SameOutside U z0 s) (hU : Part.sub [.unit .sec] U = true) : SameOutside U z0 (State.showPend s) := by
  unfold State.showPend
  try dsimp only
  repeat' first
    | (with_reducible assumption)
    | (with_reducible exact Part.sub_trans rfl hU)
    | (with_reducible exact Or.inl (Part.sub_trans rfl hU))
    | (with_reducible exact Or.inr rfl)
    | (with_reducible apply State.putFlag_within)

theorem State.setSlot_within {U : List Part} {z0 s : State} (hz : SameOutside U z0 s) (k : Nat) (v : KeySlot) (hU : Part.sub [.unit .sec] U = true) : SameOutside U z0 (State.setSlot s k v) := by
  unfold State.setSlot
  try dsimp only
  repeat' first
    | (with_reducible assumption)
    | (with_reducible exact Part.sub_trans rfl hU)
    | (with_reducible exact Or.inl (Part.sub_trans rfl hU))
    | (with_reducible exact Or.inr rfl)
    | (with_reducible apply State.showPend_within)
    | (with_reducible apply State.setSec_within)

theorem State.sealNext_within {U : List Part} {z0 s : State} (hz : SameOutside U z0 s) (hU : Part.sub [.unit .blu, .unit .lgs, .unit .sec] U = true) : SameOutside U z0 (State.sealNext s) := by
  unfold State.sealNext
  try dsimp only
  repeat' first
    | (with_reducible assumption)
    | (with_reducible exact Part.sub_trans rfl hU)
    | (with_reducible exact Or.inl (Part.sub_trans rfl hU))
    | (with_reducible exact Or.inr rfl)
    | (with_reducible apply State.request_within)
    | (with_reducible apply State.setSec_within)
    | (with_reducible apply State.each_within)
    | (with_reducible apply State.onlyIf_within)
    | (with_reducible apply State.foldl_within)
    | (intro x k hx)
    | (intro x hx)
    | split
    | (with_reducible apply SameOutside.built)

theorem State.sealAll_within {U : List Part} {z0 s : State} (hz : SameOutside U z0 s) (hU : Part.sub [.unit .blu, .unit .lgs, .unit .sec] U = true) : SameOutside U z0 (State.sealAll s) := by
  unfold State.sealAll
  try dsimp only
  repeat' first
    | (with_reducible assumption)
    | (with_reducible exact Part.sub_trans rfl hU)
    | (with_reducible exact Or.inl (Part.sub_trans rfl hU))
    | (with_reducible exact Or.inr rfl)
    | (with_reducible apply State.sealNext_within)
    | (with_reducible apply State.each_within)
    | (with_reducible apply State.onlyIf_within)
    | (with_reducible apply State.foldl_within)
    | (intro x k hx)

end Sys2Proof.Machine
end

