-- ==== Sys2Proof/Laws/WithinBilling.lean ====
section
/-! SUPPORT. Every operation and every command of the BLU leaves the parts of the block alone that it does not touch (Laws/Within.lean). -/

namespace Sys2Proof.Machine

open Sys2Proof

theorem State.setBill_within {U : List Part} {z0 s : State} (hz : SameOutside U z0 s) (e : Nat) (b : Bill) (hU : Part.sub [.unit .blu] U = true) : SameOutside U z0 (State.setBill s e b) := by
  unfold State.setBill
  try dsimp only
  repeat' first
    | (with_reducible assumption)
    | (with_reducible exact Part.sub_trans rfl hU)
    | (with_reducible exact Or.inl (Part.sub_trans rfl hU))
    | (with_reducible exact Or.inr rfl)
    | (with_reducible apply State.each_within)
    | (with_reducible apply State.onlyIf_within)
    | (with_reducible apply State.foldl_within)
    | (intro x k hx)
    | (intro x hx)
    | split
    | (with_reducible apply SameOutside.built)

theorem State.showFlags_within {U : List Part} {z0 s : State} (hz : SameOutside U z0 s) (e : Nat) (hU : Part.sub [.unit .blu] U = true) : SameOutside U z0 (State.showFlags s e) := by
  unfold State.showFlags
  try dsimp only
  repeat' first
    | (with_reducible assumption)
    | (with_reducible exact Part.sub_trans rfl hU)
    | (with_reducible exact Or.inl (Part.sub_trans rfl hU))
    | (with_reducible exact Or.inr rfl)
    | (with_reducible apply State.putFlag_within)

theorem State.add64_within {U : List Part} {r s : State} (h : SameOutside U r s) (lo hi : Fld) (i v : Nat)
    (hl : Part.sub [.unit lo.unit] U = true) (hh : Part.sub [.unit hi.unit] U = true) : SameOutside U r (s.add64 lo hi i v) :=
  State.put64_within h lo hi i _ hl hh

theorem State.book_within {U : List Part} {z0 s : State} (hz : SameOutside U z0 s) (e : Nat) (hU : Part.sub [.unit .blu] U = true) :
    SameOutside U z0 (State.book s e) := by
  unfold State.book
  extract_lets b di dx t dem s1 s2 s3
  have h1 : SameOutside U z0 s1 := State.setBill_within hz _ _ (Part.sub_trans rfl hU)
  clear_value s1
  have h2 : SameOutside U z0 s2 := by
    refine State.add64_within (State.add64_within h1 _ _ _ _ ?_ ?_) _ _ _ _ ?_ ?_
    all_goals exact Part.sub_trans rfl hU
  clear_value s2
  have h3 : SameOutside U z0 s3 := by
    refine State.onlyIf_within (fun x hx => State.add64_within (State.add64_within hx _ _ _ _ ?_ ?_) _ _ _ _ ?_ ?_) h2
    all_goals exact Part.sub_trans rfl hU
  clear_value s3
  refine State.onlyIf_within (fun x hx => State.put_within (State.add64_within (State.add64_within hx _ _ _ _ ?_ ?_) _ _ _ _ ?_ ?_) _ _ _ ?_) h3
  all_goals exact Part.sub_trans rfl hU

theorem State.bookNow_within {U : List Part} {z0 s : State} (hz : SameOutside U z0 s) (e : Nat) (hU : Part.sub [.unit .blu] U = true) : SameOutside U z0 (State.bookNow s e) := by
  unfold State.bookNow
  try dsimp only
  repeat' first
    | (with_reducible assumption)
    | (with_reducible exact Part.sub_trans rfl hU)
    | (with_reducible exact Or.inl (Part.sub_trans rfl hU))
    | (with_reducible exact Or.inr rfl)
    | (with_reducible apply State.book_within)
    | (with_reducible apply State.each_within)
    | (with_reducible apply State.onlyIf_within)
    | (with_reducible apply State.foldl_within)
    | (intro x k hx)
    | (intro x hx)

theorem State.periodAndBook_within {U : List Part} {z0 s : State} (hz : SameOutside U z0 s) (e : Nat) (hU : Part.sub [.unit .meu, .unit .blu, .unit .lgs, .allocator] U = true) : SameOutside U z0 (State.periodAndBook s e) := by
  unfold State.periodAndBook
  try dsimp only
  repeat' first
    | (with_reducible assumption)
    | (with_reducible exact Part.sub_trans rfl hU)
    | (with_reducible exact Or.inl (Part.sub_trans rfl hU))
    | (with_reducible exact Or.inr rfl)
    | (with_reducible apply State.endNow_within)
    | (with_reducible apply State.bookNow_within)
    | (with_reducible apply State.each_within)
    | (with_reducible apply State.onlyIf_within)
    | (with_reducible apply State.foldl_within)
    | (intro x k hx)
    | (intro x hx)
    | split

theorem State.settleSplit_within {U : List Part} {z0 s : State} (hz : SameOutside U z0 s) (e : Nat) (hU : Part.sub [.unit .meu, .unit .blu, .unit .lgs, .allocator] U = true) : SameOutside U z0 (State.settleSplit s e) := by
  unfold State.settleSplit
  try dsimp only
  repeat' first
    | (with_reducible assumption)
    | (with_reducible exact Part.sub_trans rfl hU)
    | (with_reducible exact Or.inl (Part.sub_trans rfl hU))
    | (with_reducible exact Or.inr rfl)
    | (with_reducible apply State.endAtSplit_within)
    | (with_reducible apply State.bookNow_within)
    | (with_reducible apply State.each_within)
    | (with_reducible apply State.onlyIf_within)
    | (with_reducible apply State.foldl_within)
    | (intro x k hx)
    | (intro x hx)
    | split

theorem State.placeCrossing_within {U : List Part} {z0 s : State} (hz : SameOutside U z0 s) (n : Nat) (hU : Part.sub [.unit .meu, .unit .blu, .unit .lgs, .allocator] U = true) : SameOutside U z0 (State.placeCrossing s n) := by
  unfold State.placeCrossing
  try dsimp only
  repeat' first
    | (with_reducible assumption)
    | (with_reducible exact Part.sub_trans rfl hU)
    | (with_reducible exact Or.inl (Part.sub_trans rfl hU))
    | (with_reducible exact Or.inr rfl)
    | (with_reducible apply State.crossing_within)
    | (with_reducible apply State.dropSplit_within)
    | (with_reducible apply State.setChan_within)
    | (with_reducible apply State.setElem_within)
    | (with_reducible apply State.settleSplit_within)
    | (with_reducible apply State.each_within)
    | (with_reducible apply State.onlyIf_within)
    | (with_reducible apply State.foldl_within)
    | (intro x k hx)
    | (intro x hx)
    | split
    | (with_reducible apply SameOutside.built)

theorem execZeroCrossing_within (n : Fin 64) (s : State) : Stays [.unit .meu, .unit .blu, .unit .lgs, .allocator] s (execZeroCrossing n s) := by
  have hU : Part.sub [.unit .meu, .unit .blu, .unit .lgs, .allocator] [.unit .meu, .unit .blu, .unit .lgs, .allocator] = true := rfl
  unfold execZeroCrossing
  try dsimp only
  repeat' first
    | (with_reducible assumption)
    | (with_reducible exact Part.sub_trans rfl hU)
    | (with_reducible exact Or.inl (Part.sub_trans rfl hU))
    | (with_reducible exact Or.inr rfl)
    | (with_reducible exact SameOutside.refl _ _)
    | (with_reducible apply Stays.next)
    | (with_reducible apply State.placeCrossing_within)
    | (with_reducible apply State.each_within)
    | (with_reducible apply State.onlyIf_within)
    | (with_reducible apply State.foldl_within)
    | (intro x k hx)
    | (intro x hx)
    | split

theorem execChannelSlice_within (n : Fin 64) (bits : List Bool) (s : State) : Stays [.unit .meu, .unit .blu, .unit .lgs, .allocator] s (execChannelSlice n bits s) := by
  have hU : Part.sub [.unit .meu, .unit .blu, .unit .lgs, .allocator] [.unit .meu, .unit .blu, .unit .lgs, .allocator] = true := rfl
  unfold execChannelSlice
  try dsimp only
  repeat' first
    | (with_reducible assumption)
    | (with_reducible exact Part.sub_trans rfl hU)
    | (with_reducible exact Or.inl (Part.sub_trans rfl hU))
    | (with_reducible exact Or.inr rfl)
    | (with_reducible exact SameOutside.refl _ _)
    | (with_reducible apply Stays.next)
    | (with_reducible apply State.placeCrossing_within)
    | (with_reducible apply State.backEnd_within)
    | (with_reducible apply State.takeBit_within)
    | (with_reducible apply State.rejoin_within)
    | (with_reducible apply State.settleSplit_within)
    | (with_reducible apply State.each_within)
    | (with_reducible apply State.onlyIf_within)
    | (with_reducible apply State.foldl_within)
    | (intro x k hx)
    | (intro x hx)
    | split
    | (with_reducible apply SameOutside.built)

theorem State.maxDemand_within {U : List Part} {z0 s : State} (hz : SameOutside U z0 s) (e : Nat) (k : Nat) (d : Nat) (led : Nat) (hU : Part.sub [.unit .blu] U = true) : SameOutside U z0 (State.maxDemand s e k d led) := by
  unfold State.maxDemand
  try dsimp only
  repeat' first
    | (with_reducible assumption)
    | (with_reducible exact Part.sub_trans rfl hU)
    | (with_reducible exact Or.inl (Part.sub_trans rfl hU))
    | (with_reducible exact Or.inr rfl)
    | (with_reducible apply State.put_within)
    | (with_reducible apply State.each_within)
    | (with_reducible apply State.onlyIf_within)
    | (with_reducible apply State.foldl_within)
    | (intro x k hx)
    | (intro x hx)
    | split

theorem State.countRest_within {U : List Part} {z0 s : State} (hz : SameOutside U z0 s) (e : Nat) (endSec : Nat) (hU : Part.sub [.unit .blu] U = true) : SameOutside U z0 (State.countRest s e endSec) := by
  unfold State.countRest
  try dsimp only
  repeat' first
    | (with_reducible assumption)
    | (with_reducible exact Part.sub_trans rfl hU)
    | (with_reducible exact Or.inl (Part.sub_trans rfl hU))
    | (with_reducible exact Or.inr rfl)
    | (with_reducible apply State.setBill_within)

theorem State.spendReplay_within {U : List Part} {z0 s : State} (hz : SameOutside U z0 s) (hU : Part.sub [.unit .blu] U = true) : SameOutside U z0 (State.spendReplay s) := by
  unfold State.spendReplay
  try dsimp only
  repeat' first
    | (with_reducible assumption)
    | (with_reducible exact Part.sub_trans rfl hU)
    | (with_reducible exact Or.inl (Part.sub_trans rfl hU))
    | (with_reducible exact Or.inr rfl)
    | (with_reducible apply State.each_within)
    | (with_reducible apply State.onlyIf_within)
    | (with_reducible apply State.foldl_within)
    | (intro x k hx)
    | (intro x hx)
    | split
    | (with_reducible apply SameOutside.built)

theorem State.closeInterval_within {U : List Part} {z0 s : State} (hz : SameOutside U z0 s) (e : Nat) (endSec : Nat) (led : Nat) (short : Bool) (hU : Part.sub [.unit .blu, .unit .lgs] U = true) : SameOutside U z0 (State.closeInterval s e endSec led short) := by
  unfold State.closeInterval
  try dsimp only
  repeat' first
    | (with_reducible assumption)
    | (with_reducible exact Part.sub_trans rfl hU)
    | (with_reducible exact Or.inl (Part.sub_trans rfl hU))
    | (with_reducible exact Or.inr rfl)
    | (with_reducible apply State.put_within)
    | (with_reducible apply State.setBill_within)
    | (with_reducible apply State.maxDemand_within)
    | (with_reducible apply State.count_within)
    | (with_reducible apply State.spendReplay_within)
    | (with_reducible apply State.request_within)
    | (with_reducible apply State.countRest_within)
    | (with_reducible apply State.each_within)
    | (with_reducible apply State.onlyIf_within)
    | (with_reducible apply State.foldl_within)
    | (intro x k hx)
    | (intro x hx)
    | split
    | (with_reducible apply SameOutside.built)

theorem State.beginInterval_within {U : List Part} {z0 s : State} (hz : SameOutside U z0 s) (e : Nat) (sec : Nat) (led : Nat) (pf : Bool) (hU : Part.sub [.unit .blu] U = true) : SameOutside U z0 (State.beginInterval s e sec led pf) := by
  unfold State.beginInterval
  try dsimp only
  repeat' first
    | (with_reducible assumption)
    | (with_reducible exact Part.sub_trans rfl hU)
    | (with_reducible exact Or.inl (Part.sub_trans rfl hU))
    | (with_reducible exact Or.inr rfl)
    | (with_reducible apply State.put64_within)
    | (with_reducible apply State.setBill_within)
    | (with_reducible apply State.put_within)
    | (with_reducible apply State.each_within)
    | (with_reducible apply State.onlyIf_within)
    | (with_reducible apply State.foldl_within)
    | (intro x k hx)
    | (intro x hx)
    | split
    | (with_reducible apply SameOutside.built)

theorem State.cutInterval_within {U : List Part} {z0 s : State} (hz : SameOutside U z0 s) (e : Nat) (sec : Nat) (led : Nat) (hU : Part.sub [.unit .blu, .unit .lgs] U = true) : SameOutside U z0 (State.cutInterval s e sec led) := by
  unfold State.cutInterval
  try dsimp only
  repeat' first
    | (with_reducible assumption)
    | (with_reducible exact Part.sub_trans rfl hU)
    | (with_reducible exact Or.inl (Part.sub_trans rfl hU))
    | (with_reducible exact Or.inr rfl)
    | (with_reducible apply State.closeInterval_within)
    | (with_reducible apply State.setBill_within)
    | (with_reducible apply State.each_within)
    | (with_reducible apply State.onlyIf_within)
    | (with_reducible apply State.foldl_within)
    | (intro x k hx)
    | (intro x hx)
    | split
    | (with_reducible apply SameOutside.built)

theorem State.newTariff_within {U : List Part} {z0 s : State} (hz : SameOutside U z0 s) (e : Nat) (t : Nat) (cause : Nat) (sec : Nat) (led : Nat) (pf : Bool) (hU : Part.sub [.unit .blu, .unit .lgs] U = true) : SameOutside U z0 (State.newTariff s e t cause sec led pf) := by
  unfold State.newTariff
  try dsimp only
  repeat' first
    | (with_reducible assumption)
    | (with_reducible exact Part.sub_trans rfl hU)
    | (with_reducible exact Or.inl (Part.sub_trans rfl hU))
    | (with_reducible exact Or.inr rfl)
    | (with_reducible apply State.request_within)
    | (with_reducible apply State.raise2_within)
    | (with_reducible apply State.beginInterval_within)
    | (with_reducible apply State.showFlags_within)
    | (with_reducible apply State.setBill_within)
    | (with_reducible apply State.put_within)
    | (with_reducible apply State.each_within)
    | (with_reducible apply State.onlyIf_within)
    | (with_reducible apply State.foldl_within)
    | (intro x k hx)
    | (intro x hx)
    | split
    | (with_reducible apply SameOutside.built)

theorem State.setTariff_within {U : List Part} {z0 s : State} (hz : SameOutside U z0 s) (e : Nat) (t : Nat) (cause : Nat) (sec : Nat) (led : Nat) (pf : Bool) (hU : Part.sub [.unit .blu, .unit .lgs] U = true) : SameOutside U z0 (State.setTariff s e t cause sec led pf) := by
  unfold State.setTariff
  try dsimp only
  repeat' first
    | (with_reducible assumption)
    | (with_reducible exact Part.sub_trans rfl hU)
    | (with_reducible exact Or.inl (Part.sub_trans rfl hU))
    | (with_reducible exact Or.inr rfl)
    | (with_reducible apply State.cutInterval_within)
    | (with_reducible apply State.newTariff_within)
    | (with_reducible apply State.each_within)
    | (with_reducible apply State.onlyIf_within)
    | (with_reducible apply State.foldl_within)
    | (intro x k hx)
    | (intro x hx)
    | split

theorem State.fireSwitch_within {U : List Part} {z0 s : State} (hz : SameOutside U z0 s) (w : Switch) (cause : Nat) (sec : Nat) (led : Nat) (pf : Bool) (hU : Part.sub [.unit .blu, .unit .lgs] U = true) : SameOutside U z0 (State.fireSwitch s w cause sec led pf) := by
  unfold State.fireSwitch
  try dsimp only
  repeat' first
    | (with_reducible assumption)
    | (with_reducible exact Part.sub_trans rfl hU)
    | (with_reducible exact Or.inl (Part.sub_trans rfl hU))
    | (with_reducible exact Or.inr rfl)
    | (with_reducible apply State.setTariff_within)
    | (with_reducible apply State.put_within)
    | (with_reducible apply State.each_within)
    | (with_reducible apply State.onlyIf_within)
    | (with_reducible apply State.foldl_within)
    | (intro x k hx)
    | (intro x hx)

theorem State.showQueue_within {U : List Part} {z0 s : State} (hz : SameOutside U z0 s) (hU : Part.sub [.unit .blu] U = true) : SameOutside U z0 (State.showQueue s) := by
  unfold State.showQueue
  try dsimp only
  repeat' first
    | (with_reducible assumption)
    | (with_reducible exact Part.sub_trans rfl hU)
    | (with_reducible exact Or.inl (Part.sub_trans rfl hU))
    | (with_reducible exact Or.inr rfl)
    | (with_reducible apply State.put_within)

theorem State.fireSwitchesAt_within {U : List Part} {z0 s : State} (hz : SameOutside U z0 s) (t : Nat) (cause : Nat) (led : Nat) (pf : Bool) (hU : Part.sub [.unit .blu, .unit .lgs] U = true) : SameOutside U z0 (State.fireSwitchesAt s t cause led pf) := by
  unfold State.fireSwitchesAt
  try dsimp only
  repeat' first
    | (with_reducible assumption)
    | (with_reducible exact Part.sub_trans rfl hU)
    | (with_reducible exact Or.inl (Part.sub_trans rfl hU))
    | (with_reducible exact Or.inr rfl)
    | (with_reducible apply State.showQueue_within)
    | (with_reducible apply State.fireSwitch_within)
    | (with_reducible apply State.each_within)
    | (with_reducible apply State.onlyIf_within)
    | (with_reducible apply State.foldl_within)
    | (intro x k hx)
    | (intro x hx)
    | split
    | (with_reducible apply SameOutside.built)

theorem State.turnInterval_within {U : List Part} {z0 s : State} (hz : SameOutside U z0 s) (e : Nat) (sec : Nat) (led : Nat) (pf : Bool) (hU : Part.sub [.unit .blu, .unit .lgs] U = true) : SameOutside U z0 (State.turnInterval s e sec led pf) := by
  unfold State.turnInterval
  try dsimp only
  repeat' first
    | (with_reducible assumption)
    | (with_reducible exact Part.sub_trans rfl hU)
    | (with_reducible exact Or.inl (Part.sub_trans rfl hU))
    | (with_reducible exact Or.inr rfl)
    | (with_reducible apply State.showFlags_within)
    | (with_reducible apply State.closeInterval_within)
    | (with_reducible apply State.beginInterval_within)

theorem State.turnUpTo_within {U : List Part} {z0 s : State} (hz : SameOutside U z0 s) (e limit led fuel : Nat)
    (hU : Part.sub [.unit .blu, .unit .lgs] U = true) : SameOutside U z0 (State.turnUpTo s e limit led fuel) := by
  induction fuel generalizing s with
  | zero => exact hz
  | succ fuel ih =>
    unfold State.turnUpTo
    split
    · exact ih (State.turnInterval_within hz _ _ _ _ (Part.sub_trans rfl hU))
    · exact hz

theorem State.fireDue_within {U : List Part} {z0 s : State} (hz : SameOutside U z0 s) (limit cause led : Nat) (pf : Bool) (fuel : Nat)
    (hU : Part.sub [.unit .blu, .unit .lgs] U = true) : SameOutside U z0 (s.fireDue limit cause led pf fuel) := by
  induction fuel generalizing s with
  | zero => exact hz
  | succ fuel ih =>
    unfold State.fireDue
    split
    · exact hz
    · exact ih (State.fireSwitchesAt_within (State.each_within
        (fun x k hx => State.turnInterval_within hx _ _ _ _ (Part.sub_trans rfl hU)) hz) _ _ _ _ (Part.sub_trans rfl hU))

theorem State.openSession_within {U : List Part} {z0 s : State} (hz : SameOutside U z0 s) (n : Nat) (hU : Part.sub [.unit .oiu, .unit .blu, .unit .dse] U = true) : SameOutside U z0 (State.openSession s n) := by
  unfold State.openSession
  try dsimp only
  repeat' first
    | (with_reducible assumption)
    | (with_reducible exact Part.sub_trans rfl hU)
    | (with_reducible exact Or.inl (Part.sub_trans rfl hU))
    | (with_reducible exact Or.inr rfl)
    | (with_reducible apply State.apply_within)
    | (with_reducible apply State.setOiu_within)
    | (with_reducible apply State.draw_within)
    | (with_reducible apply State.put64_within)
    | (with_reducible apply State.putFlag_within)
    | (with_reducible apply State.showFlags_within)
    | (with_reducible apply State.setBill_within)
    | (with_reducible apply State.put_within)
    | (with_reducible apply State.each_within)
    | (with_reducible apply State.onlyIf_within)
    | (with_reducible apply State.foldl_within)
    | (intro x k hx)
    | (intro x hx)
    | (with_reducible refine SameOutside.snd ?_ (by assumption))
    | split
    | (with_reducible apply SameOutside.built)

theorem State.closeSession_within {U : List Part} {z0 s : State} (hz : SameOutside U z0 s) (n : Nat) (hU : Part.sub [.unit .ppl, .unit .oiu, .unit .efu, .unit .psw, .unit .blu, .unit .lgs, .unit .sec, .allocator] U = true) : SameOutside U z0 (State.closeSession s n) := by
  unfold State.closeSession
  try dsimp only
  repeat' first
    | (with_reducible assumption)
    | (with_reducible exact Part.sub_trans rfl hU)
    | (with_reducible exact Or.inl (Part.sub_trans rfl hU))
    | (with_reducible exact Or.inr rfl)
    | (with_reducible apply State.trackWait_within)
    | (with_reducible apply State.withdraw_within)
    | (with_reducible apply State.putFlag_within)
    | (with_reducible apply State.showFlags_within)
    | (with_reducible apply State.sealAll_within)
    | (with_reducible apply State.each_within)
    | (with_reducible apply State.onlyIf_within)
    | (with_reducible apply State.foldl_within)
    | (intro x k hx)
    | (intro x hx)
    | split
    | (with_reducible apply SameOutside.built)

theorem State.latchStart_within {U : List Part} {z0 s : State} (hz : SameOutside U z0 s) (n : Nat) (hU : Part.sub [.unit .meu] U = true) : SameOutside U z0 (State.latchStart s n) := by
  unfold State.latchStart
  try dsimp only
  repeat' first
    | (with_reducible assumption)
    | (with_reducible exact Part.sub_trans rfl hU)
    | (with_reducible exact Or.inl (Part.sub_trans rfl hU))
    | (with_reducible exact Or.inr rfl)
    | (with_reducible apply State.put64_within)
    | (with_reducible apply State.putFlag_within)

theorem State.latchStop_within {U : List Part} {z0 s : State} (hz : SameOutside U z0 s) (n : Nat) (hU : Part.sub [.unit .meu] U = true) : SameOutside U z0 (State.latchStop s n) := by
  unfold State.latchStop
  try dsimp only
  repeat' first
    | (with_reducible assumption)
    | (with_reducible exact Part.sub_trans rfl hU)
    | (with_reducible exact Or.inl (Part.sub_trans rfl hU))
    | (with_reducible exact Or.inr rfl)
    | (with_reducible apply State.put64_within)
    | (with_reducible apply State.putFlag_within)

theorem State.advanceH_within {U : List Part} {z0 s : State} (hz : SameOutside U z0 s) (hU : Part.sub [.unit .blu, .unit .lgs] U = true) : SameOutside U z0 (State.advanceH s) := by
  unfold State.advanceH
  try dsimp only
  repeat' first
    | (with_reducible assumption)
    | (with_reducible exact Part.sub_trans rfl hU)
    | (with_reducible exact Or.inl (Part.sub_trans rfl hU))
    | (with_reducible exact Or.inr rfl)
    | (with_reducible apply State.raise2_within)
    | (with_reducible apply State.put64_within)
    | (with_reducible apply State.putFlag_within)
    | (with_reducible apply State.each_within)
    | (with_reducible apply State.onlyIf_within)
    | (with_reducible apply State.foldl_within)
    | (intro x k hx)
    | (intro x hx)
    | split
    | (with_reducible apply SameOutside.built)

theorem State.showSyncAge_within {U : List Part} {z0 s : State} (hz : SameOutside U z0 s) (hU : Part.sub [.unit .blu] U = true) : SameOutside U z0 (State.showSyncAge s) := by
  unfold State.showSyncAge
  try dsimp only
  repeat' first
    | (with_reducible assumption)
    | (with_reducible exact Part.sub_trans rfl hU)
    | (with_reducible exact Or.inl (Part.sub_trans rfl hU))
    | (with_reducible exact Or.inr rfl)
    | (with_reducible apply State.put_within)
    | (with_reducible apply State.each_within)
    | (with_reducible apply State.onlyIf_within)
    | (with_reducible apply State.foldl_within)
    | (intro x k hx)
    | (intro x hx)
    | split

theorem State.latchFields_within {U : List Part} {z0 s : State} (hz : SameOutside U z0 s) (u : UnitId) (regs : List Reg) (hU : Part.sub [.latches] U = true) : SameOutside U z0 (State.latchFields s u regs) := by
  unfold State.latchFields
  try dsimp only
  repeat' first
    | (with_reducible assumption)
    | (with_reducible exact Part.sub_trans rfl hU)
    | (with_reducible exact Or.inl (Part.sub_trans rfl hU))
    | (with_reducible exact Or.inr rfl)
    | (with_reducible apply State.each_within)
    | (with_reducible apply State.onlyIf_within)
    | (with_reducible apply State.foldl_within)
    | (intro x k hx)
    | (intro x hx)
    | split
    | (with_reducible apply SameOutside.built)

theorem State.emberGrid_within {U : List Part} {z0 s : State} (hz : SameOutside U z0 s) (hU : Part.sub [.unit .meu] U = true) : SameOutside U z0 (State.emberGrid s) := by
  unfold State.emberGrid
  try dsimp only
  repeat' first
    | (with_reducible assumption)
    | (with_reducible exact Part.sub_trans rfl hU)
    | (with_reducible exact Or.inl (Part.sub_trans rfl hU))
    | (with_reducible exact Or.inr rfl)
    | (with_reducible apply State.setChan_within)
    | (with_reducible apply State.each_within)
    | (with_reducible apply State.onlyIf_within)
    | (with_reducible apply State.foldl_within)
    | (intro x k hx)
    | (intro x hx)
    | split
    | (with_reducible apply SameOutside.built)

theorem State.pfLatch_within {U : List Part} {z0 s : State} (hz : SameOutside U z0 s) (hU : Part.sub [.unit .meu] U = true) : SameOutside U z0 (State.pfLatch s) := by
  unfold State.pfLatch
  try dsimp only
  repeat' first
    | (with_reducible assumption)
    | (with_reducible exact Part.sub_trans rfl hU)
    | (with_reducible exact Or.inl (Part.sub_trans rfl hU))
    | (with_reducible exact Or.inr rfl)
    | (with_reducible apply State.each_within)
    | (with_reducible apply State.onlyIf_within)
    | (with_reducible apply State.foldl_within)
    | (intro x k hx)
    | (intro x hx)
    | split
    | (with_reducible apply SameOutside.built)

theorem State.meuBoundary_within {U : List Part} {z0 s : State} (hz : SameOutside U z0 s) (hU : Part.sub [.unit .meu, .unit .lgs] U = true) : SameOutside U z0 (State.meuBoundary s) := by
  unfold State.meuBoundary
  try dsimp only
  repeat' first
    | (with_reducible assumption)
    | (with_reducible exact Part.sub_trans rfl hU)
    | (with_reducible exact Or.inl (Part.sub_trans rfl hU))
    | (with_reducible exact Or.inr rfl)
    | (with_reducible apply State.emberGrid_within)
    | (with_reducible apply State.bankSwap_within)
    | (with_reducible apply State.each_within)
    | (with_reducible apply State.onlyIf_within)
    | (with_reducible apply State.foldl_within)
    | (intro x k hx)
    | (intro x hx)
    | split

theorem State.meuLatches_within {U : List Part} {z0 s : State} (hz : SameOutside U z0 s) (stops : List Nat) (starts : List Nat) (hU : Part.sub [.unit .meu] U = true) : SameOutside U z0 (State.meuLatches s stops starts) := by
  unfold State.meuLatches
  try dsimp only
  repeat' first
    | (with_reducible assumption)
    | (with_reducible exact Part.sub_trans rfl hU)
    | (with_reducible exact Or.inl (Part.sub_trans rfl hU))
    | (with_reducible exact Or.inr rfl)
    | (with_reducible apply State.fixedRms_within)
    | (with_reducible apply State.latchStop_within)
    | (with_reducible apply State.pfLatch_within)
    | (with_reducible apply State.latchStart_within)
    | (with_reducible apply State.each_within)
    | (with_reducible apply State.onlyIf_within)
    | (with_reducible apply State.foldl_within)
    | (intro x k hx)
    | (intro x hx)
    | split
    | (with_reducible apply SameOutside.built)

theorem State.meuSecond_within {U : List Part} {z0 s : State} (hz : SameOutside U z0 s) (hU : Part.sub [.unit .meu] U = true) : SameOutside U z0 (State.meuSecond s) := by
  unfold State.meuSecond
  try dsimp only
  repeat' first
    | (with_reducible assumption)
    | (with_reducible exact Part.sub_trans rfl hU)
    | (with_reducible exact Or.inl (Part.sub_trans rfl hU))
    | (with_reducible exact Or.inr rfl)
    | (with_reducible apply State.faultSeconds_within)
    | (with_reducible apply State.oneSecondWrite_within)
    | (with_reducible apply State.each_within)
    | (with_reducible apply State.onlyIf_within)
    | (with_reducible apply State.foldl_within)
    | (intro x k hx)
    | (intro x hx)
    | split
    | (with_reducible apply SameOutside.built)

theorem State.writeApply_within {U : List Part} {z0 s : State} (hz : SameOutside U z0 s) (hU : Part.sub [.unit .blu, .unit .lgs] U = true) : SameOutside U z0 (State.writeApply s) := by
  unfold State.writeApply
  try dsimp only
  repeat' first
    | (with_reducible assumption)
    | (with_reducible exact Part.sub_trans rfl hU)
    | (with_reducible exact Or.inl (Part.sub_trans rfl hU))
    | (with_reducible exact Or.inr rfl)
    | (with_reducible apply State.raise2_within)
    | (with_reducible apply State.each_within)
    | (with_reducible apply State.onlyIf_within)
    | (with_reducible apply State.foldl_within)
    | (intro x k hx)
    | (intro x hx)
    | split
    | (with_reducible apply SameOutside.built)

theorem execApply_within (s : State) : Stays [.unit .blu, .unit .lgs] s (execApply s) := by
  have hU : Part.sub [.unit .blu, .unit .lgs] [.unit .blu, .unit .lgs] = true := rfl
  unfold execApply
  try dsimp only
  repeat' first
    | (with_reducible assumption)
    | (with_reducible exact Part.sub_trans rfl hU)
    | (with_reducible exact Or.inl (Part.sub_trans rfl hU))
    | (with_reducible exact Or.inr rfl)
    | (with_reducible exact SameOutside.refl _ _)
    | (with_reducible apply Stays.next)
    | (with_reducible apply State.writeApply_within)

theorem State.boundaryEnd_within {U : List Part} {z0 s : State} (hz : SameOutside U z0 s) (e : Nat) (hU : Part.sub [.unit .meu, .unit .blu, .unit .lgs, .allocator] U = true) : SameOutside U z0 (State.boundaryEnd s e) := by
  unfold State.boundaryEnd
  try dsimp only
  repeat' first
    | (with_reducible assumption)
    | (with_reducible exact Part.sub_trans rfl hU)
    | (with_reducible exact Or.inl (Part.sub_trans rfl hU))
    | (with_reducible exact Or.inr rfl)
    | (with_reducible apply State.periodAndBook_within)
    | (with_reducible apply State.bookNow_within)
    | (with_reducible apply State.each_within)
    | (with_reducible apply State.onlyIf_within)
    | (with_reducible apply State.foldl_within)
    | (intro x k hx)
    | (intro x hx)
    | split

theorem State.setValid_within {U : List Part} {z0 s : State} (hz : SameOutside U z0 s) (valid : Bool) (reason : Nat) (hU : Part.sub [.unit .meu, .unit .blu, .unit .lgs, .allocator] U = true) : SameOutside U z0 (State.setValid s valid reason) := by
  unfold State.setValid
  try dsimp only
  repeat' first
    | (with_reducible assumption)
    | (with_reducible exact Part.sub_trans rfl hU)
    | (with_reducible exact Or.inl (Part.sub_trans rfl hU))
    | (with_reducible exact Or.inr rfl)
    | (with_reducible apply State.raise2_within)
    | (with_reducible apply State.boundaryEnd_within)
    | (with_reducible apply State.putFlag_within)
    | (with_reducible apply State.showFlags_within)
    | (with_reducible apply State.setBill_within)
    | (with_reducible apply State.setTariff_within)
    | (with_reducible apply State.each_within)
    | (with_reducible apply State.onlyIf_within)
    | (with_reducible apply State.foldl_within)
    | (intro x k hx)
    | (intro x hx)
    | split
    | (with_reducible apply SameOutside.built)

theorem State.expireWall_within {U : List Part} {z0 s : State} (hz : SameOutside U z0 s) (hU : Part.sub [.unit .meu, .unit .blu, .unit .lgs, .allocator] U = true) : SameOutside U z0 (State.expireWall s) := by
  unfold State.expireWall
  try dsimp only
  repeat' first
    | (with_reducible assumption)
    | (with_reducible exact Part.sub_trans rfl hU)
    | (with_reducible exact Or.inl (Part.sub_trans rfl hU))
    | (with_reducible exact Or.inr rfl)
    | (with_reducible apply State.setValid_within)
    | (with_reducible apply State.each_within)
    | (with_reducible apply State.onlyIf_within)
    | (with_reducible apply State.foldl_within)
    | (intro x k hx)
    | (intro x hx)
    | split

theorem State.actDue_within {U : List Part} {z0 s : State} (hz : SameOutside U z0 s) (hU : Part.sub [.unit .meu, .unit .blu, .unit .lgs, .allocator] U = true) : SameOutside U z0 (State.actDue s) := by
  unfold State.actDue
  try dsimp only
  repeat' first
    | (with_reducible assumption)
    | (with_reducible exact Part.sub_trans rfl hU)
    | (with_reducible exact Or.inl (Part.sub_trans rfl hU))
    | (with_reducible exact Or.inr rfl)
    | (with_reducible apply State.fireDue_within)
    | (with_reducible apply State.advanceH_within)
    | (with_reducible apply State.boundaryEnd_within)
    | (with_reducible apply State.each_within)
    | (with_reducible apply State.onlyIf_within)
    | (with_reducible apply State.foldl_within)
    | (intro x k hx)
    | (intro x hx)
    | split
    | (with_reducible apply SameOutside.built)

theorem State.sync_within {U : List Part} {z0 s : State} (hz : SameOutside U z0 s) (ptp : Bool) (time : Nat) (hU : Part.sub [.unit .meu, .unit .blu, .unit .lgs, .allocator] U = true) : SameOutside U z0 (State.sync s ptp time) := by
  unfold State.sync
  try dsimp only
  repeat' first
    | (with_reducible assumption)
    | (with_reducible exact Part.sub_trans rfl hU)
    | (with_reducible exact Or.inl (Part.sub_trans rfl hU))
    | (with_reducible exact Or.inr rfl)
    | (with_reducible apply State.request_within)
    | (with_reducible apply State.setValid_within)
    | (with_reducible apply State.raise_within)
    | (with_reducible apply State.put64_within)
    | (with_reducible apply State.showFlags_within)
    | (with_reducible apply State.actDue_within)
    | (with_reducible apply State.setBill_within)
    | (with_reducible apply State.put_within)
    | (with_reducible apply State.each_within)
    | (with_reducible apply State.onlyIf_within)
    | (with_reducible apply State.foldl_within)
    | (intro x k hx)
    | (intro x hx)
    | split
    | (with_reducible apply SameOutside.built)

theorem State.hostSync_within {U : List Part} {z0 s : State} (hz : SameOutside U z0 s) (hU : Part.sub [.unit .meu, .unit .blu, .unit .lgs, .allocator] U = true) : SameOutside U z0 (State.hostSync s) := by
  unfold State.hostSync
  try dsimp only
  repeat' first
    | (with_reducible assumption)
    | (with_reducible exact Part.sub_trans rfl hU)
    | (with_reducible exact Or.inl (Part.sub_trans rfl hU))
    | (with_reducible exact Or.inr rfl)
    | (with_reducible apply State.sync_within)

theorem execWallTimeSync_within (ptp : Bool) (s : State) : Stays [.unit .meu, .unit .blu, .unit .lgs, .allocator] s (execWallTimeSync ptp s) := by
  have hU : Part.sub [.unit .meu, .unit .blu, .unit .lgs, .allocator] [.unit .meu, .unit .blu, .unit .lgs, .allocator] = true := rfl
  unfold execWallTimeSync
  try dsimp only
  repeat' first
    | (with_reducible assumption)
    | (with_reducible exact Part.sub_trans rfl hU)
    | (with_reducible exact Or.inl (Part.sub_trans rfl hU))
    | (with_reducible exact Or.inr rfl)
    | (with_reducible exact SameOutside.refl _ _)
    | (with_reducible apply Stays.next)
    | (with_reducible apply State.sync_within)
    | (with_reducible apply State.moveTo_within)
    | (with_reducible apply State.hostSync_within)
    | (with_reducible apply State.each_within)
    | (with_reducible apply State.onlyIf_within)
    | (with_reducible apply State.foldl_within)
    | (intro x k hx)
    | (intro x hx)
    | split
    | (with_reducible apply SameOutside.built)

theorem execWallTimeExpiry_within (s : State) : Stays [.unit .meu, .unit .blu, .unit .lgs, .allocator] s (execWallTimeExpiry s) := by
  have hU : Part.sub [.unit .meu, .unit .blu, .unit .lgs, .allocator] [.unit .meu, .unit .blu, .unit .lgs, .allocator] = true := rfl
  unfold execWallTimeExpiry
  try dsimp only
  repeat' first
    | (with_reducible assumption)
    | (with_reducible exact Part.sub_trans rfl hU)
    | (with_reducible exact Or.inl (Part.sub_trans rfl hU))
    | (with_reducible exact Or.inr rfl)
    | (with_reducible exact SameOutside.refl _ _)
    | (with_reducible apply Stays.next)
    | (with_reducible apply State.setValid_within)
    | (with_reducible apply State.moveTo_within)
    | (with_reducible apply State.actDue_within)
    | (with_reducible apply State.each_within)
    | (with_reducible apply State.onlyIf_within)
    | (with_reducible apply State.foldl_within)
    | (intro x k hx)
    | (intro x hx)
    | split

theorem State.refuseSwitch_within {U : List Part} {z0 s : State} (hz : SameOutside U z0 s) (scope : Nat) (reason : Nat) (hU : Part.sub [.unit .blu, .unit .lgs] U = true) : SameOutside U z0 (State.refuseSwitch s scope reason) := by
  unfold State.refuseSwitch
  try dsimp only
  repeat' first
    | (with_reducible assumption)
    | (with_reducible exact Part.sub_trans rfl hU)
    | (with_reducible exact Or.inl (Part.sub_trans rfl hU))
    | (with_reducible exact Or.inr rfl)
    | (with_reducible apply State.raise2_within)
    | (with_reducible apply State.put_within)

theorem State.bluPowerFail_within {U : List Part} {z0 s : State} (hz : SameOutside U z0 s) (hU : Part.sub [.unit .blu] U = true) : SameOutside U z0 (State.bluPowerFail s) := by
  unfold State.bluPowerFail
  try dsimp only
  repeat' first
    | (with_reducible assumption)
    | (with_reducible exact Part.sub_trans rfl hU)
    | (with_reducible exact Or.inl (Part.sub_trans rfl hU))
    | (with_reducible exact Or.inr rfl)
    | (with_reducible apply State.each_within)
    | (with_reducible apply State.onlyIf_within)
    | (with_reducible apply State.foldl_within)
    | (intro x k hx)
    | (intro x hx)
    | split
    | (with_reducible apply SameOutside.built)

theorem State.bluCommit_within {U : List Part} {z0 s : State} (hz : SameOutside U z0 s) (wallPf : Nat) (tenMicros : Nat) (hU : Part.sub [.unit .ppl, .unit .oiu, .unit .meu, .unit .efu, .unit .psw, .unit .blu, .unit .lgs, .unit .sec, .allocator] U = true) : SameOutside U z0 (State.bluCommit s wallPf tenMicros) := by
  unfold State.bluCommit
  try dsimp only
  repeat' first
    | (with_reducible assumption)
    | (with_reducible exact Part.sub_trans rfl hU)
    | (with_reducible exact Or.inl (Part.sub_trans rfl hU))
    | (with_reducible exact Or.inr rfl)
    | (with_reducible apply State.latchStop_within)
    | (with_reducible apply State.put_within)
    | (with_reducible apply State.put64_within)
    | (with_reducible apply State.book_within)
    | (with_reducible apply State.setBill_within)
    | (with_reducible apply State.closeSession_within)
    | (with_reducible apply State.raise_within)
    | (with_reducible apply State.showFlags_within)
    | (with_reducible apply State.fireDue_within)
    | (with_reducible apply State.request_within)
    | (with_reducible apply State.each_within)
    | (with_reducible apply State.onlyIf_within)
    | (with_reducible apply State.foldl_within)
    | (intro x k hx)
    | (intro x hx)
    | split
    | (with_reducible apply SameOutside.built)

theorem State.replayRest_within {U : List Part} {z0 s : State} (hz : SameOutside U z0 s) (e : Nat) (hU : Part.sub [.unit .blu, .unit .lgs] U = true) : SameOutside U z0 (State.replayRest s e) := by
  unfold State.replayRest
  try dsimp only
  repeat' first
    | (with_reducible assumption)
    | (with_reducible exact Part.sub_trans rfl hU)
    | (with_reducible exact Or.inl (Part.sub_trans rfl hU))
    | (with_reducible exact Or.inr rfl)
    | (with_reducible apply State.request_within)
    | (with_reducible apply State.setBill_within)
    | (with_reducible apply State.each_within)
    | (with_reducible apply State.onlyIf_within)
    | (with_reducible apply State.foldl_within)
    | (intro x k hx)
    | (intro x hx)
    | split

theorem State.resumeElem_within {U : List Part} {z0 s : State} (hz : SameOutside U z0 s) (outage : Nat) (e : Nat) (hU : Part.sub [.unit .blu] U = true) : SameOutside U z0 (State.resumeElem s outage e) := by
  unfold State.resumeElem
  try dsimp only
  repeat' first
    | (with_reducible assumption)
    | (with_reducible exact Part.sub_trans rfl hU)
    | (with_reducible exact Or.inl (Part.sub_trans rfl hU))
    | (with_reducible exact Or.inr rfl)
    | (with_reducible apply State.put64_within)
    | (with_reducible apply State.showFlags_within)
    | (with_reducible apply State.setBill_within)
    | (with_reducible apply State.put_within)
    | (with_reducible apply State.each_within)
    | (with_reducible apply State.onlyIf_within)
    | (with_reducible apply State.foldl_within)
    | (intro x k hx)
    | (intro x hx)
    | split
    | (with_reducible apply SameOutside.built)

theorem State.bluReplay_within {U : List Part} {r s : State} (h : SameOutside U r s) (hU : Part.sub [.unit .meu, .unit .blu, .unit .lgs, .unit .bcu, .allocator] U = true) : SameOutside U r s.bluReplay := by
  unfold State.bluReplay
  extract_lets ends0 led s1 _ s2 s3 n outage s4 s5 s6 _ s7 s8 _
  have h1 : SameOutside U r s1 := State.onlyIf_within (fun x hx => State.put64_within hx _ _ _ _ (Part.sub_trans rfl hU) (Part.sub_trans rfl hU)) h
  clear_value s1
  have h2 : SameOutside U r s2 := by
    apply SameOutside.built h1
    all_goals first
      | exact Or.inl (Part.sub_trans rfl hU)
      | exact Or.inr rfl
  clear_value s2
  have h3 : SameOutside U r s3 := by
    dsimp only [s3]
    split
    · exact State.each_within (fun x k hx => State.replayRest_within hx _ (Part.sub_trans rfl hU))
        (State.fireDue_within h2 _ _ _ _ _ (Part.sub_trans rfl hU))
    · exact State.each_within (fun x k hx => State.beginInterval_within (State.closeInterval_within hx _ _ _ _ (Part.sub_trans rfl hU)) _ _ _ _
        (Part.sub_trans rfl hU)) h2
  clear_value s3
  have h4 : SameOutside U r s4 := State.each_within (fun x k hx => State.resumeElem_within hx _ _ (Part.sub_trans rfl hU)) h3
  clear_value s4
  have h5 : SameOutside U r s5 := State.request_within h4 _ _ (Part.sub_trans rfl hU)
  clear_value s5
  have h6 : SameOutside U r s6 := State.raise_within (State.put_within h5 .BLU_STATUS_PF 0 1 (Part.sub_trans rfl hU)) _ _ (Part.sub_trans rfl hU)
  clear_value s6
  have h7 : SameOutside U r s7 := by
    apply SameOutside.built h6
    all_goals first
      | exact Or.inl (Part.sub_trans rfl hU)
      | exact Or.inr rfl
  clear_value s7
  have h8 : SameOutside U r s8 := State.onlyIf_within (fun x hx => State.setValid_within hx _ _ (Part.sub_trans rfl hU)) h7
  clear_value s8
  apply SameOutside.built h8
  all_goals first
    | exact Or.inl (Part.sub_trans rfl hU)
    | exact Or.inr rfl

theorem State.bluPlan_within {U : List Part} {z0 s : State} (hz : SameOutside U z0 s) (hU : Part.sub [.unit .meu, .unit .blu, .unit .lgs, .allocator] U = true) : SameOutside U z0 (State.bluPlan s) := by
  unfold State.bluPlan
  try dsimp only
  repeat' first
    | (with_reducible assumption)
    | (with_reducible exact Part.sub_trans rfl hU)
    | (with_reducible exact Or.inl (Part.sub_trans rfl hU))
    | (with_reducible exact Or.inr rfl)
    | (with_reducible apply State.boundaryEnd_within)
    | (with_reducible apply State.put_within)
    | (with_reducible apply State.cutInterval_within)
    | (with_reducible apply State.refuseSwitch_within)
    | (with_reducible apply State.showFlags_within)
    | (with_reducible apply State.actDue_within)
    | (with_reducible apply State.beginInterval_within)
    | (with_reducible apply State.newTariff_within)
    | (with_reducible apply State.showQueue_within)
    | (with_reducible apply State.each_within)
    | (with_reducible apply State.onlyIf_within)
    | (with_reducible apply State.foldl_within)
    | (intro x k hx)
    | (intro x hx)
    | split
    | (with_reducible apply SameOutside.built)

theorem State.bluRestore_within {U : List Part} {z0 s : State} (hz : SameOutside U z0 s) (hU : Part.sub [.unit .meu, .unit .blu, .unit .lgs, .unit .bcu, .allocator] U = true) : SameOutside U z0 (State.bluRestore s) := by
  unfold State.bluRestore
  try dsimp only
  repeat' first
    | (with_reducible assumption)
    | (with_reducible exact Part.sub_trans rfl hU)
    | (with_reducible exact Or.inl (Part.sub_trans rfl hU))
    | (with_reducible exact Or.inr rfl)
    | (with_reducible apply State.bluReplay_within)
    | (with_reducible apply State.bluPlan_within)
    | (with_reducible apply State.each_within)
    | (with_reducible apply State.onlyIf_within)
    | (with_reducible apply State.foldl_within)
    | (intro x k hx)
    | (intro x hx)
    | split
    | (with_reducible apply SameOutside.built)

theorem State.actBoundary_within {U : List Part} {z0 s : State} (hz : SameOutside U z0 s) (b : Nat) (hU : Part.sub [.unit .ppl, .unit .oiu, .unit .meu, .unit .efu, .unit .psw, .unit .blu, .unit .lgs, .unit .sec, .unit .dse, .unit .bcu, .allocator, .latches] U = true) : SameOutside U z0 (State.actBoundary s b) := by
  unfold State.actBoundary
  try dsimp only
  repeat' first
    | (with_reducible assumption)
    | (with_reducible exact Part.sub_trans rfl hU)
    | (with_reducible exact Or.inl (Part.sub_trans rfl hU))
    | (with_reducible exact Or.inr rfl)
    | (with_reducible apply State.periodAndBook_within)
    | (with_reducible apply State.hostSync_within)
    | (with_reducible apply State.put_within)
    | (with_reducible apply State.openSession_within)
    | (with_reducible apply State.meuBoundary_within)
    | (with_reducible apply State.meuSecond_within)
    | (with_reducible apply State.advanceH_within)
    | (with_reducible apply State.bluRestore_within)
    | (with_reducible apply State.turnInterval_within)
    | (with_reducible apply State.closeSession_within)
    | (with_reducible apply State.moveTo_within)
    | (with_reducible apply State.fireDue_within)
    | (with_reducible apply State.showSyncAge_within)
    | (with_reducible apply State.latchFields_within)
    | (with_reducible apply State.expireWall_within)
    | (with_reducible apply State.meuLatches_within)
    | (with_reducible apply State.each_within)
    | (with_reducible apply State.onlyIf_within)
    | (with_reducible apply State.foldl_within)
    | (intro x k hx)
    | (intro x hx)
    | split
    | (with_reducible apply SameOutside.built)

theorem execMeteringBoundary_within (s : State) : Stays [.unit .ppl, .unit .oiu, .unit .meu, .unit .efu, .unit .psw, .unit .blu, .unit .lgs, .unit .sec, .unit .dse, .unit .bcu, .allocator, .latches] s (execMeteringBoundary s) := by
  have hU : Part.sub [.unit .ppl, .unit .oiu, .unit .meu, .unit .efu, .unit .psw, .unit .blu, .unit .lgs, .unit .sec, .unit .dse, .unit .bcu, .allocator, .latches] [.unit .ppl, .unit .oiu, .unit .meu, .unit .efu, .unit .psw, .unit .blu, .unit .lgs, .unit .sec, .unit .dse, .unit .bcu, .allocator, .latches] = true := rfl
  unfold execMeteringBoundary
  try dsimp only
  repeat' first
    | (with_reducible assumption)
    | (with_reducible exact Part.sub_trans rfl hU)
    | (with_reducible exact Or.inl (Part.sub_trans rfl hU))
    | (with_reducible exact Or.inr rfl)
    | (with_reducible exact SameOutside.refl _ _)
    | (with_reducible apply Stays.next)
    | (with_reducible apply State.actBoundary_within)

theorem execMeterTick_within (s : State) : Stays [.unit .ppl, .unit .oiu, .unit .meu, .unit .efu, .unit .psw, .unit .blu, .unit .lgs, .unit .sec, .unit .dse, .unit .bcu, .allocator, .latches] s (execMeterTick s) := by
  have hU : Part.sub [.unit .ppl, .unit .oiu, .unit .meu, .unit .efu, .unit .psw, .unit .blu, .unit .lgs, .unit .sec, .unit .dse, .unit .bcu, .allocator, .latches] [.unit .ppl, .unit .oiu, .unit .meu, .unit .efu, .unit .psw, .unit .blu, .unit .lgs, .unit .sec, .unit .dse, .unit .bcu, .allocator, .latches] = true := rfl
  unfold execMeterTick
  try dsimp only
  repeat' first
    | (with_reducible assumption)
    | (with_reducible exact Part.sub_trans rfl hU)
    | (with_reducible exact Or.inl (Part.sub_trans rfl hU))
    | (with_reducible exact Or.inr rfl)
    | (with_reducible exact SameOutside.refl _ _)
    | (with_reducible apply Stays.next)
    | (with_reducible apply State.actBoundary_within)
    | (with_reducible apply State.moveTo_within)
    | (with_reducible apply State.writeTicks_within)
    | (with_reducible apply State.each_within)
    | (with_reducible apply State.onlyIf_within)
    | (with_reducible apply State.foldl_within)
    | (intro x k hx)
    | (intro x hx)
    | split
    | (with_reducible apply SameOutside.built)

theorem State.writeGo_within {U : List Part} {z0 s : State} (hz : SameOutside U z0 s) (isNow : Bool) (tariff : Nat) (scope : Nat) (hU : Part.sub [.unit .blu, .unit .lgs] U = true) : SameOutside U z0 (State.writeGo s isNow tariff scope) := by
  unfold State.writeGo
  try dsimp only
  repeat' first
    | (with_reducible assumption)
    | (with_reducible exact Part.sub_trans rfl hU)
    | (with_reducible exact Or.inl (Part.sub_trans rfl hU))
    | (with_reducible exact Or.inr rfl)
    | (with_reducible apply State.putFlag_within)
    | (with_reducible apply State.showQueue_within)
    | (with_reducible apply State.put_within)
    | (with_reducible apply State.refuseSwitch_within)
    | (with_reducible apply State.each_within)
    | (with_reducible apply State.onlyIf_within)
    | (with_reducible apply State.foldl_within)
    | (intro x k hx)
    | (intro x hx)
    | split
    | (with_reducible apply SameOutside.built)

theorem execGo_within (isNow : Bool) (tariff : BitVec 5) (scope : BitVec 8) (s : State) : Stays [.unit .blu, .unit .lgs] s (execGo isNow tariff scope s) := by
  have hU : Part.sub [.unit .blu, .unit .lgs] [.unit .blu, .unit .lgs] = true := rfl
  unfold execGo
  try dsimp only
  repeat' first
    | (with_reducible assumption)
    | (with_reducible exact Part.sub_trans rfl hU)
    | (with_reducible exact Or.inl (Part.sub_trans rfl hU))
    | (with_reducible exact Or.inr rfl)
    | (with_reducible exact SameOutside.refl _ _)
    | (with_reducible apply Stays.next)
    | (with_reducible apply State.writeGo_within)

theorem State.writeClrq_within {U : List Part} {z0 s : State} (hz : SameOutside U z0 s) (scope : Nat) (hU : Part.sub [.unit .blu] U = true) : SameOutside U z0 (State.writeClrq s scope) := by
  unfold State.writeClrq
  try dsimp only
  repeat' first
    | (with_reducible assumption)
    | (with_reducible exact Part.sub_trans rfl hU)
    | (with_reducible exact Or.inl (Part.sub_trans rfl hU))
    | (with_reducible exact Or.inr rfl)
    | (with_reducible apply State.showQueue_within)
    | (with_reducible apply State.put_within)
    | (with_reducible apply State.each_within)
    | (with_reducible apply State.onlyIf_within)
    | (with_reducible apply State.foldl_within)
    | (intro x k hx)
    | (intro x hx)
    | split
    | (with_reducible apply SameOutside.built)

theorem execClrq_within (scope : BitVec 8) (s : State) : Stays [.unit .blu] s (execClrq scope s) := by
  have hU : Part.sub [.unit .blu] [.unit .blu] = true := rfl
  unfold execClrq
  try dsimp only
  repeat' first
    | (with_reducible assumption)
    | (with_reducible exact Part.sub_trans rfl hU)
    | (with_reducible exact Or.inl (Part.sub_trans rfl hU))
    | (with_reducible exact Or.inr rfl)
    | (with_reducible exact SameOutside.refl _ _)
    | (with_reducible apply Stays.next)
    | (with_reducible apply State.writeClrq_within)

theorem execTariffSwitchFire_within (s : State) : Stays [.unit .meu, .unit .blu, .unit .lgs, .allocator] s (execTariffSwitchFire s) := by
  have hU : Part.sub [.unit .meu, .unit .blu, .unit .lgs, .allocator] [.unit .meu, .unit .blu, .unit .lgs, .allocator] = true := rfl
  unfold execTariffSwitchFire
  try dsimp only
  repeat' first
    | (with_reducible assumption)
    | (with_reducible exact Part.sub_trans rfl hU)
    | (with_reducible exact Or.inl (Part.sub_trans rfl hU))
    | (with_reducible exact Or.inr rfl)
    | (with_reducible exact SameOutside.refl _ _)
    | (with_reducible apply Stays.next)
    | (with_reducible apply State.advanceH_within)
    | (with_reducible apply State.moveTo_within)
    | (with_reducible apply State.boundaryEnd_within)
    | (with_reducible apply State.turnUpTo_within)
    | (with_reducible apply State.fireSwitchesAt_within)
    | (with_reducible apply State.each_within)
    | (with_reducible apply State.onlyIf_within)
    | (with_reducible apply State.foldl_within)
    | (intro x k hx)
    | (intro x hx)
    | split
    | (with_reducible apply SameOutside.built)

theorem execIntervalClose_within (e : Fin 25) (s : State) : Stays [.unit .meu, .unit .blu, .unit .lgs, .allocator] s (execIntervalClose e s) := by
  have hU : Part.sub [.unit .meu, .unit .blu, .unit .lgs, .allocator] [.unit .meu, .unit .blu, .unit .lgs, .allocator] = true := rfl
  unfold execIntervalClose
  try dsimp only
  repeat' first
    | (with_reducible assumption)
    | (with_reducible exact Part.sub_trans rfl hU)
    | (with_reducible exact Or.inl (Part.sub_trans rfl hU))
    | (with_reducible exact Or.inr rfl)
    | (with_reducible exact SameOutside.refl _ _)
    | (with_reducible apply Stays.next)
    | (with_reducible apply State.fireDue_within)
    | (with_reducible apply State.advanceH_within)
    | (with_reducible apply State.moveTo_within)
    | (with_reducible apply State.boundaryEnd_within)
    | (with_reducible apply State.turnInterval_within)
    | (with_reducible apply State.each_within)
    | (with_reducible apply State.onlyIf_within)
    | (with_reducible apply State.foldl_within)
    | (intro x k hx)
    | (intro x hx)
    | split
    | (with_reducible apply SameOutside.built)

theorem State.recordTamper_within {U : List Part} {z0 s : State} (hz : SameOutside U z0 s) (c : TamperChange) (hU : Part.sub [.unit .blu, .unit .lgs] U = true) : SameOutside U z0 (State.recordTamper s c) := by
  unfold State.recordTamper
  try dsimp only
  repeat' first
    | (with_reducible assumption)
    | (with_reducible exact Part.sub_trans rfl hU)
    | (with_reducible exact Or.inl (Part.sub_trans rfl hU))
    | (with_reducible exact Or.inr rfl)
    | (with_reducible apply State.request_within)
    | (with_reducible apply State.raise2_within)
    | (with_reducible apply State.put_within)
    | (with_reducible apply State.each_within)
    | (with_reducible apply State.onlyIf_within)
    | (with_reducible apply State.foldl_within)
    | (intro x k hx)
    | (intro x hx)
    | split
    | (with_reducible apply SameOutside.built)

theorem State.tamperState_within {U : List Part} {z0 s : State} (hz : SameOutside U z0 s) (c : TamperChange) (hU : Part.sub [.unit .blu] U = true) : SameOutside U z0 (State.tamperState s c) := by
  unfold State.tamperState
  try dsimp only
  repeat' first
    | (with_reducible assumption)
    | (with_reducible exact Part.sub_trans rfl hU)
    | (with_reducible exact Or.inl (Part.sub_trans rfl hU))
    | (with_reducible exact Or.inr rfl)
    | (with_reducible apply State.setBill_within)
    | (with_reducible apply State.putBit_within)
    | (with_reducible apply State.count_within)
    | (with_reducible apply State.putFlag_within)
    | (with_reducible apply State.showFlags_within)
    | (with_reducible apply State.each_within)
    | (with_reducible apply State.onlyIf_within)
    | (with_reducible apply State.foldl_within)
    | (intro x k hx)
    | (intro x hx)
    | split
    | (with_reducible apply SameOutside.built)

theorem execTamperChange_within (input : Fin 5) (ohms : List Nat) (s : State) : Stays [.unit .blu, .unit .lgs] s (execTamperChange input ohms s) := by
  have hU : Part.sub [.unit .blu, .unit .lgs] [.unit .blu, .unit .lgs] = true := rfl
  unfold execTamperChange
  try dsimp only
  repeat' first
    | (with_reducible assumption)
    | (with_reducible exact Part.sub_trans rfl hU)
    | (with_reducible exact Or.inl (Part.sub_trans rfl hU))
    | (with_reducible exact Or.inr rfl)
    | (with_reducible exact SameOutside.refl _ _)
    | (with_reducible apply Stays.next)
    | (with_reducible apply State.count_within)
    | (with_reducible apply State.tamperState_within)
    | (with_reducible apply State.recordTamper_within)
    | (with_reducible apply State.each_within)
    | (with_reducible apply State.onlyIf_within)
    | (with_reducible apply State.foldl_within)
    | (intro x k hx)
    | (intro x hx)
    | split
    | (with_reducible apply SameOutside.built)

theorem State.replayTamper_within {U : List Part} {z0 s : State} (hz : SameOutside U z0 s) (hU : Part.sub [.unit .blu, .unit .lgs] U = true) : SameOutside U z0 (State.replayTamper s) := by
  unfold State.replayTamper
  try dsimp only
  repeat' first
    | (with_reducible assumption)
    | (with_reducible exact Part.sub_trans rfl hU)
    | (with_reducible exact Or.inl (Part.sub_trans rfl hU))
    | (with_reducible exact Or.inr rfl)
    | (with_reducible apply State.request_within)
    | (with_reducible apply State.recordTamper_within)
    | (with_reducible apply State.put_within)
    | (with_reducible apply State.each_within)
    | (with_reducible apply State.onlyIf_within)
    | (with_reducible apply State.foldl_within)
    | (intro x k hx)
    | (intro x hx)
    | split
    | (with_reducible apply SameOutside.built)

end Sys2Proof.Machine
end

