-- ==== Sys2Proof/Laws/WithinSched.lean ====
section
/-! SUPPORT. Every operation and every command of the scheduler leaves the parts of the block alone that it does not touch (Laws/Within.lean). -/

namespace Sys2Proof.Machine

open Sys2Proof

theorem State.showOpen_within {U : List Part} {z0 s : State} (hz : SameOutside U z0 s) (hU : Part.sub [.unit .sch] U = true) : SameOutside U z0 (State.showOpen s) := by
  unfold State.showOpen
  try dsimp only
  repeat' first
    | (with_reducible assumption)
    | (with_reducible exact Part.sub_trans rfl hU)
    | (with_reducible exact Or.inl (Part.sub_trans rfl hU))
    | (with_reducible exact Or.inr rfl)
    | (with_reducible apply State.put_within)
    | (with_reducible apply State.each_within)
    | (with_reducible apply State.onlyIf_within)
    | (with_reducible apply State.foldl_within)
    | (intro x k hx)

theorem State.setStat_within {U : List Part} {z0 s : State} (hz : SameOutside U z0 s) (stream : Nat) (v : StreamStat) (hU : Part.sub [.unit .sch] U = true) : SameOutside U z0 (State.setStat s stream v) := by
  unfold State.setStat
  try dsimp only
  repeat' first
    | (with_reducible assumption)
    | (with_reducible exact Part.sub_trans rfl hU)
    | (with_reducible exact Or.inl (Part.sub_trans rfl hU))
    | (with_reducible exact Or.inr rfl)
    | (with_reducible apply State.each_within)
    | (with_reducible apply State.onlyIf_within)
    | (with_reducible apply State.foldl_within)
    | (intro x k hx)
    | (intro x hx)
    | split
    | (with_reducible apply SameOutside.built)

theorem State.bindStream_within {U : List Part} {z0 s : State} (hz : SameOutside U z0 s) (stream : Nat) (cls : Nat) (hU : Part.sub [.unit .sch] U = true) : SameOutside U z0 (State.bindStream s stream cls) := by
  unfold State.bindStream
  try dsimp only
  repeat' first
    | (with_reducible assumption)
    | (with_reducible exact Part.sub_trans rfl hU)
    | (with_reducible exact Or.inl (Part.sub_trans rfl hU))
    | (with_reducible exact Or.inr rfl)
    | (with_reducible apply State.showOpen_within)
    | (with_reducible apply State.setStat_within)
    | (with_reducible apply State.each_within)
    | (with_reducible apply State.onlyIf_within)
    | (with_reducible apply State.foldl_within)
    | (intro x k hx)
    | (intro x hx)
    | split
    | (with_reducible apply SameOutside.built)

theorem State.refuseStream_within {U : List Part} {z0 s : State} (hz : SameOutside U z0 s) (stream : Nat) (hU : Part.sub [.unit .sch, .unit .lgs] U = true) : SameOutside U z0 (State.refuseStream s stream) := by
  unfold State.refuseStream
  try dsimp only
  repeat' first
    | (with_reducible assumption)
    | (with_reducible exact Part.sub_trans rfl hU)
    | (with_reducible exact Or.inl (Part.sub_trans rfl hU))
    | (with_reducible exact Or.inr rfl)
    | (with_reducible apply State.count_within)
    | (with_reducible apply State.raise_within)
    | (with_reducible apply State.put_within)
    | (with_reducible apply State.each_within)
    | (with_reducible apply State.onlyIf_within)
    | (with_reducible apply State.foldl_within)
    | (intro x k hx)
    | (intro x hx)
    | split
    | (with_reducible apply SameOutside.built)

theorem State.antennaAnswer_within {U : List Part} {z0 s : State} (hz : SameOutside U z0 s) (stream : Nat) (hU : Part.sub [.unit .clu, .unit .lgs] U = true) : SameOutside U z0 (State.antennaAnswer s stream) := by
  unfold State.antennaAnswer
  try dsimp only
  repeat' first
    | (with_reducible assumption)
    | (with_reducible exact Part.sub_trans rfl hU)
    | (with_reducible exact Or.inl (Part.sub_trans rfl hU))
    | (with_reducible exact Or.inr rfl)
    | (with_reducible apply State.raise2_within)
    | (with_reducible apply State.putFlag_within)
    | (with_reducible apply State.each_within)
    | (with_reducible apply State.onlyIf_within)
    | (with_reducible apply State.foldl_within)
    | (intro x k hx)
    | (intro x hx)
    | split
    | (with_reducible apply SameOutside.built)

theorem State.admitStream_within {U : List Part} {z0 s : State} (hz : SameOutside U z0 s) (stream : Nat) (cls : Nat) (hU : Part.sub [.unit .sch, .unit .clu, .unit .lgs] U = true) : SameOutside U z0 (State.admitStream s stream cls) := by
  unfold State.admitStream
  try dsimp only
  repeat' first
    | (with_reducible assumption)
    | (with_reducible exact Part.sub_trans rfl hU)
    | (with_reducible exact Or.inl (Part.sub_trans rfl hU))
    | (with_reducible exact Or.inr rfl)
    | (with_reducible apply State.bindStream_within)
    | (with_reducible apply State.antennaAnswer_within)
    | (with_reducible apply State.refuseStream_within)
    | (with_reducible apply State.each_within)
    | (with_reducible apply State.onlyIf_within)
    | (with_reducible apply State.foldl_within)
    | (intro x k hx)
    | (intro x hx)
    | split
    | (with_reducible apply SameOutside.built)

theorem State.waitStream_within {U : List Part} {z0 s : State} (hz : SameOutside U z0 s) (stream : Nat) (cls : Nat) (hU : Part.sub [.unit .sch] U = true) : SameOutside U z0 (State.waitStream s stream cls) := by
  unfold State.waitStream
  try dsimp only
  repeat' first
    | (with_reducible assumption)
    | (with_reducible exact Part.sub_trans rfl hU)
    | (with_reducible exact Or.inl (Part.sub_trans rfl hU))
    | (with_reducible exact Or.inr rfl)
    | (with_reducible apply State.each_within)
    | (with_reducible apply State.onlyIf_within)
    | (with_reducible apply State.foldl_within)
    | (intro x k hx)
    | (intro x hx)
    | split
    | (with_reducible apply SameOutside.built)

theorem State.endStream_within {U : List Part} {z0 s : State} (hz : SameOutside U z0 s) (stream : Nat) (hU : Part.sub [.unit .sch] U = true) : SameOutside U z0 (State.endStream s stream) := by
  unfold State.endStream
  try dsimp only
  repeat' first
    | (with_reducible assumption)
    | (with_reducible exact Part.sub_trans rfl hU)
    | (with_reducible exact Or.inl (Part.sub_trans rfl hU))
    | (with_reducible exact Or.inr rfl)
    | (with_reducible apply State.each_within)
    | (with_reducible apply State.onlyIf_within)
    | (with_reducible apply State.foldl_within)
    | (intro x k hx)
    | (intro x hx)
    | split
    | (with_reducible apply SameOutside.built)

theorem State.openFreed_within {U : List Part} {z0 s : State} (hz : SameOutside U z0 s) (e : Nat) (hU : Part.sub [.unit .sch] U = true) : SameOutside U z0 (State.openFreed s e) := by
  unfold State.openFreed
  try dsimp only
  repeat' first
    | (with_reducible assumption)
    | (with_reducible exact Part.sub_trans rfl hU)
    | (with_reducible exact Or.inl (Part.sub_trans rfl hU))
    | (with_reducible exact Or.inr rfl)
    | (with_reducible apply State.showOpen_within)
    | (with_reducible apply State.each_within)
    | (with_reducible apply State.onlyIf_within)
    | (with_reducible apply State.foldl_within)
    | (intro x k hx)
    | (intro x hx)
    | split
    | (with_reducible apply SameOutside.built)

theorem execAdmissionRequest_within (stream : BitVec 16) (cls : Fin 16) (s : State) : Stays [.unit .sch, .unit .clu, .unit .lgs] s (execAdmissionRequest stream cls s) := by
  have hU : Part.sub [.unit .sch, .unit .clu, .unit .lgs] [.unit .sch, .unit .clu, .unit .lgs] = true := rfl
  unfold execAdmissionRequest
  try dsimp only
  repeat' first
    | (with_reducible assumption)
    | (with_reducible exact Part.sub_trans rfl hU)
    | (with_reducible exact Or.inl (Part.sub_trans rfl hU))
    | (with_reducible exact Or.inr rfl)
    | (with_reducible exact SameOutside.refl _ _)
    | (with_reducible apply Stays.next)
    | (with_reducible apply State.admitStream_within)

theorem execStreamEnd_within (stream : BitVec 16) (s : State) : Stays [.unit .sch, .unit .clu] s (execStreamEnd stream s) := by
  have hU : Part.sub [.unit .sch, .unit .clu] [.unit .sch, .unit .clu] = true := rfl
  unfold execStreamEnd
  try dsimp only
  repeat' first
    | (with_reducible assumption)
    | (with_reducible exact Part.sub_trans rfl hU)
    | (with_reducible exact Or.inl (Part.sub_trans rfl hU))
    | (with_reducible exact Or.inr rfl)
    | (with_reducible exact SameOutside.refl _ _)
    | (with_reducible apply Stays.next)
    | (with_reducible apply State.endStream_within)
    | (with_reducible apply State.putFlag_within)
    | (with_reducible apply State.each_within)
    | (with_reducible apply State.onlyIf_within)
    | (with_reducible apply State.foldl_within)
    | (intro x k hx)
    | (intro x hx)
    | split
    | (with_reducible apply SameOutside.built)

theorem State.complete_within {U : List Part} {z0 s : State} (hz : SameOutside U z0 s) (x : Slice) (t : Nat) (hU : Part.sub [.unit .sch, .unit .lgs] U = true) : SameOutside U z0 (State.complete s x t) := by
  unfold State.complete
  try dsimp only
  repeat' first
    | (with_reducible assumption)
    | (with_reducible exact Part.sub_trans rfl hU)
    | (with_reducible exact Or.inl (Part.sub_trans rfl hU))
    | (with_reducible exact Or.inr rfl)
    | (with_reducible apply State.count_within)
    | (with_reducible apply State.raise_within)
    | (with_reducible apply State.setStat_within)
    | (with_reducible apply State.put_within)
    | (with_reducible apply State.each_within)
    | (with_reducible apply State.onlyIf_within)
    | (with_reducible apply State.foldl_within)
    | (intro x k hx)
    | (intro x hx)
    | split
    | (with_reducible apply SameOutside.built)

theorem execSliceRun_within (e : Fin 6) (index : BitVec 16) (done : Option Nat) (s : State) : Stays [.unit .sch, .unit .lgs] s (execSliceRun e index done s) := by
  have hU : Part.sub [.unit .sch, .unit .lgs] [.unit .sch, .unit .lgs] = true := rfl
  unfold execSliceRun
  try dsimp only
  repeat' first
    | (with_reducible assumption)
    | (with_reducible exact Part.sub_trans rfl hU)
    | (with_reducible exact Or.inl (Part.sub_trans rfl hU))
    | (with_reducible exact Or.inr rfl)
    | (with_reducible exact SameOutside.refl _ _)
    | (with_reducible apply Stays.next)
    | (with_reducible apply State.complete_within)
    | (with_reducible apply State.each_within)
    | (with_reducible apply State.onlyIf_within)
    | (with_reducible apply State.foldl_within)
    | (intro x k hx)
    | (intro x hx)
    | split

theorem State.showStream_within {U : List Part} {z0 s : State} (hz : SameOutside U z0 s) (hU : Part.sub [.unit .sch] U = true) : SameOutside U z0 (State.showStream s) := by
  unfold State.showStream
  try dsimp only
  repeat' first
    | (with_reducible assumption)
    | (with_reducible exact Part.sub_trans rfl hU)
    | (with_reducible exact Or.inl (Part.sub_trans rfl hU))
    | (with_reducible exact Or.inr rfl)
    | (with_reducible apply State.put_within)

theorem State.bindSlices_within {U : List Part} {z0 s : State} (hz : SameOutside U z0 s) (p : Plan) (hU : Part.sub [.unit .sch] U = true) : SameOutside U z0 (State.bindSlices s p) := by
  unfold State.bindSlices
  try dsimp only
  repeat' first
    | (with_reducible assumption)
    | (with_reducible exact Part.sub_trans rfl hU)
    | (with_reducible exact Or.inl (Part.sub_trans rfl hU))
    | (with_reducible exact Or.inr rfl)
    | (with_reducible apply State.bindStream_within)
    | (with_reducible apply State.showOpen_within)
    | (with_reducible apply State.each_within)
    | (with_reducible apply State.onlyIf_within)
    | (with_reducible apply State.foldl_within)
    | (intro x k hx)
    | (intro x hx)
    | split
    | (with_reducible apply SameOutside.built)

end Sys2Proof.Machine
end

