-- ==== Sys2Proof/Laws/WithinContactless.lean ====
section
/-! SUPPORT. Every operation and every command of the CLU leaves the parts of the block alone that it does not touch (Laws/Within.lean). -/

namespace Sys2Proof.Machine

open Sys2Proof

theorem State.setClu_within {U : List Part} {z0 s : State} (hz : SameOutside U z0 s) (c : Clu) (hU : Part.sub [.unit .clu] U = true) : SameOutside U z0 (State.setClu s c) := by
  unfold State.setClu
  try dsimp only
  repeat' first
    | (with_reducible assumption)
    | (with_reducible exact Part.sub_trans rfl hU)
    | (with_reducible exact Or.inl (Part.sub_trans rfl hU))
    | (with_reducible exact Or.inr rfl)
    | (with_reducible apply State.each_within)
    | (with_reducible apply State.onlyIf_within)
    | (with_reducible apply State.foldl_within)
    | (intro x k hx)
    | (intro x hx)
    | split
    | (with_reducible apply SameOutside.built)

theorem State.antennaOn_within {U : List Part} {z0 s : State} (hz : SameOutside U z0 s) (k : Nat) (hU : Part.sub [.unit .sch, .unit .clu, .unit .lgs] U = true) : SameOutside U z0 (State.antennaOn s k) := by
  unfold State.antennaOn
  try dsimp only
  repeat' first
    | (with_reducible assumption)
    | (with_reducible exact Part.sub_trans rfl hU)
    | (with_reducible exact Or.inl (Part.sub_trans rfl hU))
    | (with_reducible exact Or.inr rfl)
    | (with_reducible apply State.admitStream_within)
    | (with_reducible apply State.putFlag_within)
    | (with_reducible apply State.each_within)
    | (with_reducible apply State.onlyIf_within)
    | (with_reducible apply State.foldl_within)
    | (intro x k hx)
    | (intro x hx)
    | split
    | (with_reducible apply SameOutside.built)

theorem State.antennaOff_within {U : List Part} {z0 s : State} (hz : SameOutside U z0 s) (k : Nat) (hU : Part.sub [.unit .sch, .unit .clu] U = true) : SameOutside U z0 (State.antennaOff s k) := by
  unfold State.antennaOff
  try dsimp only
  repeat' first
    | (with_reducible assumption)
    | (with_reducible exact Part.sub_trans rfl hU)
    | (with_reducible exact Or.inl (Part.sub_trans rfl hU))
    | (with_reducible exact Or.inr rfl)
    | (with_reducible apply State.setClu_within)
    | (with_reducible apply State.endStream_within)
    | (with_reducible apply State.putFlag_within)
    | (with_reducible apply State.each_within)
    | (with_reducible apply State.onlyIf_within)
    | (with_reducible apply State.foldl_within)
    | (intro x k hx)
    | (intro x hx)
    | split
    | (with_reducible apply SameOutside.built)

theorem execAntennaEnable_within (k : Fin 4) (s : State) : Stays [.unit .sch, .unit .clu, .unit .lgs] s (execAntennaEnable k s) := by
  have hU : Part.sub [.unit .sch, .unit .clu, .unit .lgs] [.unit .sch, .unit .clu, .unit .lgs] = true := rfl
  unfold execAntennaEnable
  try dsimp only
  repeat' first
    | (with_reducible assumption)
    | (with_reducible exact Part.sub_trans rfl hU)
    | (with_reducible exact Or.inl (Part.sub_trans rfl hU))
    | (with_reducible exact Or.inr rfl)
    | (with_reducible exact SameOutside.refl _ _)
    | (with_reducible apply Stays.next)
    | (with_reducible apply State.antennaOn_within)

theorem execAntennaDisable_within (k : Fin 4) (s : State) : Stays [.unit .sch, .unit .clu] s (execAntennaDisable k s) := by
  have hU : Part.sub [.unit .sch, .unit .clu] [.unit .sch, .unit .clu] = true := rfl
  unfold execAntennaDisable
  try dsimp only
  repeat' first
    | (with_reducible assumption)
    | (with_reducible exact Part.sub_trans rfl hU)
    | (with_reducible exact Or.inl (Part.sub_trans rfl hU))
    | (with_reducible exact Or.inr rfl)
    | (with_reducible exact SameOutside.refl _ _)
    | (with_reducible apply Stays.next)
    | (with_reducible apply State.antennaOff_within)

theorem State.showCard_within {U : List Part} {z0 s : State} (hz : SameOutside U z0 s) (k : Nat) (tech : Nat) (uid : List Nat) (hU : Part.sub [.unit .clu] U = true) : SameOutside U z0 (State.showCard s k tech uid) := by
  unfold State.showCard
  try dsimp only
  repeat' first
    | (with_reducible assumption)
    | (with_reducible exact Part.sub_trans rfl hU)
    | (with_reducible exact Or.inl (Part.sub_trans rfl hU))
    | (with_reducible exact Or.inr rfl)
    | (with_reducible apply State.put_within)

theorem execAntennaSlice_within (k : Fin 4) (r : AntennaResult) (s : State) : Stays [.unit .clu, .unit .lgs] s (execAntennaSlice k r s) := by
  have hU : Part.sub [.unit .clu, .unit .lgs] [.unit .clu, .unit .lgs] = true := rfl
  unfold execAntennaSlice
  try dsimp only
  repeat' first
    | (with_reducible assumption)
    | (with_reducible exact Part.sub_trans rfl hU)
    | (with_reducible exact Or.inl (Part.sub_trans rfl hU))
    | (with_reducible exact Or.inr rfl)
    | (with_reducible exact SameOutside.refl _ _)
    | (with_reducible apply Stays.next)
    | (with_reducible apply State.raise2_within)
    | (with_reducible apply State.count_within)
    | (with_reducible apply State.putFlag_within)
    | (with_reducible apply State.setClu_within)
    | (with_reducible apply State.showCard_within)
    | (with_reducible apply State.put_within)
    | (with_reducible apply State.each_within)
    | (with_reducible apply State.onlyIf_within)
    | (with_reducible apply State.foldl_within)
    | (intro x k hx)
    | (intro x hx)
    | split
    | (with_reducible apply SameOutside.built)

theorem execCardExchange_within (k : Fin 4) (request : List Nat) (outcome : Fin 3) (answer : List Nat) (s : State) : Stays [.unit .clu] s (execCardExchange k request outcome answer s) := by
  have hU : Part.sub [.unit .clu] [.unit .clu] = true := rfl
  unfold execCardExchange
  try dsimp only
  repeat' first
    | (with_reducible assumption)
    | (with_reducible exact Part.sub_trans rfl hU)
    | (with_reducible exact Or.inl (Part.sub_trans rfl hU))
    | (with_reducible exact Or.inr rfl)
    | (with_reducible exact SameOutside.refl _ _)
    | (with_reducible apply Stays.next)
    | (with_reducible apply State.setClu_within)
    | (with_reducible apply State.each_within)
    | (with_reducible apply State.onlyIf_within)
    | (with_reducible apply State.foldl_within)
    | (intro x k hx)
    | (intro x hx)
    | split

theorem execExchangeBreak_within (k : Fin 4) (s : State) : Stays [.unit .clu, .unit .lgs] s (execExchangeBreak k s) := by
  have hU : Part.sub [.unit .clu, .unit .lgs] [.unit .clu, .unit .lgs] = true := rfl
  unfold execExchangeBreak
  try dsimp only
  repeat' first
    | (with_reducible assumption)
    | (with_reducible exact Part.sub_trans rfl hU)
    | (with_reducible exact Or.inl (Part.sub_trans rfl hU))
    | (with_reducible exact Or.inr rfl)
    | (with_reducible exact SameOutside.refl _ _)
    | (with_reducible apply Stays.next)
    | (with_reducible apply State.raise2_within)
    | (with_reducible apply State.moveTo_within)
    | (with_reducible apply State.setClu_within)
    | (with_reducible apply State.each_within)
    | (with_reducible apply State.onlyIf_within)
    | (with_reducible apply State.foldl_within)
    | (intro x k hx)
    | (intro x hx)
    | split
    | (with_reducible apply SameOutside.built)

theorem State.fieldsOff_within {U : List Part} {z0 s : State} (hz : SameOutside U z0 s) (hU : Part.sub [.unit .clu] U = true) : SameOutside U z0 (State.fieldsOff s) := by
  unfold State.fieldsOff
  try dsimp only
  repeat' first
    | (with_reducible assumption)
    | (with_reducible exact Part.sub_trans rfl hU)
    | (with_reducible exact Or.inl (Part.sub_trans rfl hU))
    | (with_reducible exact Or.inr rfl)
    | (with_reducible apply State.setClu_within)

theorem State.tagEvent_within {U : List Part} {z0 s : State} (hz : SameOutside U z0 s) (code : Nat) (arg : Nat) (hU : Part.sub [.unit .clu, .unit .lgs] U = true) : SameOutside U z0 (State.tagEvent s code arg) := by
  unfold State.tagEvent
  try dsimp only
  repeat' first
    | (with_reducible assumption)
    | (with_reducible exact Part.sub_trans rfl hU)
    | (with_reducible exact Or.inl (Part.sub_trans rfl hU))
    | (with_reducible exact Or.inr rfl)
    | (with_reducible apply State.raise_within)
    | (with_reducible apply State.setClu_within)
    | (with_reducible apply State.each_within)
    | (with_reducible apply State.onlyIf_within)
    | (with_reducible apply State.foldl_within)
    | (intro x k hx)
    | (intro x hx)
    | split

theorem State.tagRequest_within {U : List Part} {z0 s : State} {q : TagRequest} {act : State → State}
    (hf : ∀ x, SameOutside U z0 x → SameOutside U z0 (act x)) (hz : SameOutside U z0 s) (hU : Part.sub [.unit .clu] U = true) :
    SameOutside U z0 (State.tagRequest s q act) := by
  unfold State.tagRequest
  exact State.onlyIf_within hf (State.setClu_within hz _ (Part.sub_trans rfl hU))

theorem State.tagCustom_within {U : List Part} {z0 s : State} {q : TagRequest} {act : State → State}
    (hf : ∀ x, SameOutside U z0 x → SameOutside U z0 (act x)) (hz : SameOutside U z0 s) (hU : Part.sub [.unit .clu] U = true) :
    SameOutside U z0 (State.tagCustom s q act) := by
  unfold State.tagCustom
  exact State.tagRequest_within (fun x hx => State.onlyIf_within hf hx) hz (Part.sub_trans rfl hU)

theorem State.tagAnswer_within {U : List Part} {z0 s : State} (hz : SameOutside U z0 s) (a : TagAnswer) (hU : Part.sub [.unit .clu] U = true) : SameOutside U z0 (State.tagAnswer s a) := by
  unfold State.tagAnswer
  try dsimp only
  repeat' first
    | (with_reducible assumption)
    | (with_reducible exact Part.sub_trans rfl hU)
    | (with_reducible exact Or.inl (Part.sub_trans rfl hU))
    | (with_reducible exact Or.inr rfl)
    | (with_reducible apply State.setClu_within)

theorem execTagFieldOn_within (s : State) : Stays [.unit .clu] s (execTagFieldOn s) := by
  have hU : Part.sub [.unit .clu] [.unit .clu] = true := rfl
  unfold execTagFieldOn
  try dsimp only
  repeat' first
    | (with_reducible assumption)
    | (with_reducible exact Part.sub_trans rfl hU)
    | (with_reducible exact Or.inl (Part.sub_trans rfl hU))
    | (with_reducible exact Or.inr rfl)
    | (with_reducible exact SameOutside.refl _ _)
    | (with_reducible apply Stays.next)
    | (with_reducible apply State.setClu_within)
    | (with_reducible apply State.put_within)
    | (with_reducible apply State.putFlag_within)
    | (with_reducible apply State.each_within)
    | (with_reducible apply State.onlyIf_within)
    | (with_reducible apply State.foldl_within)
    | (intro x k hx)
    | (intro x hx)
    | split
    | (with_reducible apply SameOutside.built)

theorem State.fieldLoss_within {U : List Part} {z0 s : State} (hz : SameOutside U z0 s) (hU : Part.sub [.unit .clu] U = true) : SameOutside U z0 (State.fieldLoss s) := by
  unfold State.fieldLoss
  try dsimp only
  repeat' first
    | (with_reducible assumption)
    | (with_reducible exact Part.sub_trans rfl hU)
    | (with_reducible exact Or.inl (Part.sub_trans rfl hU))
    | (with_reducible exact Or.inr rfl)
    | (with_reducible apply State.setClu_within)
    | (with_reducible apply State.put_within)
    | (with_reducible apply State.putFlag_within)
    | (with_reducible apply State.each_within)
    | (with_reducible apply State.onlyIf_within)
    | (with_reducible apply State.foldl_within)
    | (intro x k hx)
    | (intro x hx)
    | split
    | (with_reducible apply SameOutside.built)

theorem execTagFieldLoss_within (s : State) : Stays [.unit .clu] s (execTagFieldLoss s) := by
  have hU : Part.sub [.unit .clu] [.unit .clu] = true := rfl
  unfold execTagFieldLoss
  try dsimp only
  repeat' first
    | (with_reducible assumption)
    | (with_reducible exact Part.sub_trans rfl hU)
    | (with_reducible exact Or.inl (Part.sub_trans rfl hU))
    | (with_reducible exact Or.inr rfl)
    | (with_reducible exact SameOutside.refl _ _)
    | (with_reducible apply Stays.next)
    | (with_reducible apply State.fieldLoss_within)

theorem State.journal_within {U : List Part} {z0 s : State} (hz : SameOutside U z0 s) (hU : Part.sub [.unit .clu, .unit .lgs] U = true) : SameOutside U z0 (State.journal s) := by
  unfold State.journal
  try dsimp only
  repeat' first
    | (with_reducible assumption)
    | (with_reducible exact Part.sub_trans rfl hU)
    | (with_reducible exact Or.inl (Part.sub_trans rfl hU))
    | (with_reducible exact Or.inr rfl)
    | (with_reducible apply State.count_within)
    | (with_reducible apply State.tagEvent_within)
    | (with_reducible apply State.setClu_within)
    | (with_reducible apply State.each_within)
    | (with_reducible apply State.onlyIf_within)
    | (with_reducible apply State.foldl_within)
    | (intro x k hx)
    | (intro x hx)
    | split

theorem execTagPowerUp_within (reservoir : Bool) (s : State) : Stays [.unit .clu, .unit .lgs] s (execTagPowerUp reservoir s) := by
  have hU : Part.sub [.unit .clu, .unit .lgs] [.unit .clu, .unit .lgs] = true := rfl
  unfold execTagPowerUp
  try dsimp only
  repeat' first
    | (with_reducible assumption)
    | (with_reducible exact Part.sub_trans rfl hU)
    | (with_reducible exact Or.inl (Part.sub_trans rfl hU))
    | (with_reducible exact Or.inr rfl)
    | (with_reducible exact SameOutside.refl _ _)
    | (with_reducible apply Stays.next)
    | (with_reducible apply State.journal_within)
    | (with_reducible apply State.setClu_within)
    | (with_reducible apply State.putFlag_within)
    | (with_reducible apply State.each_within)
    | (with_reducible apply State.onlyIf_within)
    | (with_reducible apply State.foldl_within)
    | (intro x k hx)
    | (intro x hx)
    | split
    | (with_reducible apply SameOutside.built)

theorem execInventory_within (req : TagRequest) (mask : Nat) (len : Nat) (afi : Option Nat) (s : State) : Stays [.unit .clu] s (execInventory req mask len afi s) := by
  have hU : Part.sub [.unit .clu] [.unit .clu] = true := rfl
  unfold execInventory
  try dsimp only
  repeat' first
    | (with_reducible assumption)
    | (with_reducible exact Part.sub_trans rfl hU)
    | (with_reducible exact Or.inl (Part.sub_trans rfl hU))
    | (with_reducible exact Or.inr rfl)
    | (with_reducible exact SameOutside.refl _ _)
    | (with_reducible apply Stays.next)
    | (with_reducible apply State.tagAnswer_within)
    | (with_reducible apply State.tagRequest_within)
    | (with_reducible apply State.each_within)
    | (with_reducible apply State.onlyIf_within)
    | (with_reducible apply State.foldl_within)
    | (intro x k hx)
    | (intro x hx)
    | split
    | (with_reducible apply SameOutside.built)

theorem execStayQuiet_within (req : TagRequest) (s : State) : Stays [.unit .clu] s (execStayQuiet req s) := by
  have hU : Part.sub [.unit .clu] [.unit .clu] = true := rfl
  unfold execStayQuiet
  try dsimp only
  repeat' first
    | (with_reducible assumption)
    | (with_reducible exact Part.sub_trans rfl hU)
    | (with_reducible exact Or.inl (Part.sub_trans rfl hU))
    | (with_reducible exact Or.inr rfl)
    | (with_reducible exact SameOutside.refl _ _)
    | (with_reducible apply Stays.next)
    | (with_reducible apply State.setClu_within)
    | (with_reducible apply State.tagAnswer_within)
    | (with_reducible apply State.tagRequest_within)
    | (with_reducible apply State.each_within)
    | (with_reducible apply State.onlyIf_within)
    | (with_reducible apply State.foldl_within)
    | (intro x k hx)
    | (intro x hx)
    | split
    | (with_reducible apply SameOutside.built)

theorem execSelect_within (req : TagRequest) (s : State) : Stays [.unit .clu] s (execSelect req s) := by
  have hU : Part.sub [.unit .clu] [.unit .clu] = true := rfl
  unfold execSelect
  try dsimp only
  repeat' first
    | (with_reducible assumption)
    | (with_reducible exact Part.sub_trans rfl hU)
    | (with_reducible exact Or.inl (Part.sub_trans rfl hU))
    | (with_reducible exact Or.inr rfl)
    | (with_reducible exact SameOutside.refl _ _)
    | (with_reducible apply Stays.next)
    | (with_reducible apply State.setClu_within)
    | (with_reducible apply State.tagAnswer_within)
    | (with_reducible apply State.tagRequest_within)
    | (with_reducible apply State.each_within)
    | (with_reducible apply State.onlyIf_within)
    | (with_reducible apply State.foldl_within)
    | (intro x k hx)
    | (intro x hx)
    | split
    | (with_reducible apply SameOutside.built)

theorem execResetToReady_within (req : TagRequest) (s : State) : Stays [.unit .clu] s (execResetToReady req s) := by
  have hU : Part.sub [.unit .clu] [.unit .clu] = true := rfl
  unfold execResetToReady
  try dsimp only
  repeat' first
    | (with_reducible assumption)
    | (with_reducible exact Part.sub_trans rfl hU)
    | (with_reducible exact Or.inl (Part.sub_trans rfl hU))
    | (with_reducible exact Or.inr rfl)
    | (with_reducible exact SameOutside.refl _ _)
    | (with_reducible apply Stays.next)
    | (with_reducible apply State.setClu_within)
    | (with_reducible apply State.tagAnswer_within)
    | (with_reducible apply State.tagRequest_within)
    | (with_reducible apply State.each_within)
    | (with_reducible apply State.onlyIf_within)
    | (with_reducible apply State.foldl_within)
    | (intro x k hx)
    | (intro x hx)
    | split
    | (with_reducible apply SameOutside.built)

theorem State.fieldRead_within {U : List Part} {z0 s : State} (hz : SameOutside U z0 s) (q : TagRequest) (blocks : List Nat) (hU : Part.sub [.unit .clu] U = true) : SameOutside U z0 (State.fieldRead s q blocks) := by
  unfold State.fieldRead
  try dsimp only
  repeat' first
    | (with_reducible assumption)
    | (with_reducible exact Part.sub_trans rfl hU)
    | (with_reducible exact Or.inl (Part.sub_trans rfl hU))
    | (with_reducible exact Or.inr rfl)
    | (with_reducible apply State.count_within)
    | (with_reducible apply State.tagAnswer_within)
    | (with_reducible apply State.tagRequest_within)
    | (with_reducible apply State.each_within)
    | (with_reducible apply State.onlyIf_within)
    | (with_reducible apply State.foldl_within)
    | (intro x k hx)
    | (intro x hx)
    | split
    | (with_reducible apply SameOutside.built)

theorem execReadSingleBlock_within (req : TagRequest) (block : BitVec 16) (s : State) : Stays [.unit .clu] s (execReadSingleBlock req block s) := by
  have hU : Part.sub [.unit .clu] [.unit .clu] = true := rfl
  unfold execReadSingleBlock
  try dsimp only
  repeat' first
    | (with_reducible assumption)
    | (with_reducible exact Part.sub_trans rfl hU)
    | (with_reducible exact Or.inl (Part.sub_trans rfl hU))
    | (with_reducible exact Or.inr rfl)
    | (with_reducible exact SameOutside.refl _ _)
    | (with_reducible apply Stays.next)
    | (with_reducible apply State.fieldRead_within)

theorem execReadMultipleBlocks_within (req : TagRequest) (block : BitVec 16) (count : BitVec 16) (s : State) : Stays [.unit .clu] s (execReadMultipleBlocks req block count s) := by
  have hU : Part.sub [.unit .clu] [.unit .clu] = true := rfl
  unfold execReadMultipleBlocks
  try dsimp only
  repeat' first
    | (with_reducible assumption)
    | (with_reducible exact Part.sub_trans rfl hU)
    | (with_reducible exact Or.inl (Part.sub_trans rfl hU))
    | (with_reducible exact Or.inr rfl)
    | (with_reducible exact SameOutside.refl _ _)
    | (with_reducible apply Stays.next)
    | (with_reducible apply State.fieldRead_within)

theorem State.collapsed_within {U : List Part} {z0 s : State} (hz : SameOutside U z0 s) (b : Nat) (v : Nat) (step : Nat) (hU : Part.sub [.unit .clu] U = true) : SameOutside U z0 (State.collapsed s b v step) := by
  unfold State.collapsed
  try dsimp only
  repeat' first
    | (with_reducible assumption)
    | (with_reducible exact Part.sub_trans rfl hU)
    | (with_reducible exact Or.inl (Part.sub_trans rfl hU))
    | (with_reducible exact Or.inr rfl)
    | (with_reducible apply State.draw_within)
    | (with_reducible apply State.count_within)
    | (with_reducible apply State.setClu_within)
    | (with_reducible apply State.fieldLoss_within)
    | (with_reducible apply State.each_within)
    | (with_reducible apply State.onlyIf_within)
    | (with_reducible apply State.foldl_within)
    | (intro x k hx)
    | (intro x hx)
    | (with_reducible refine SameOutside.snd ?_ (by assumption))
    | split
    | (with_reducible apply SameOutside.built)

theorem State.journalWrite_within {U : List Part} {z0 s : State} (hz : SameOutside U z0 s) (b : Nat) (v : Nat) (hU : Part.sub [.unit .clu] U = true) : SameOutside U z0 (State.journalWrite s b v) := by
  unfold State.journalWrite
  try dsimp only
  repeat' first
    | (with_reducible assumption)
    | (with_reducible exact Part.sub_trans rfl hU)
    | (with_reducible exact Or.inl (Part.sub_trans rfl hU))
    | (with_reducible exact Or.inr rfl)
    | (with_reducible apply State.count_within)
    | (with_reducible apply State.setClu_within)

theorem execWriteSingleBlock_within (req : TagRequest) (block : BitVec 16) (value : BitVec 32) (reservoir : Bool) (cut : Option WriteCut) (s : State) : Stays [.unit .clu, .unit .lgs] s (execWriteSingleBlock req block value reservoir cut s) := by
  have hU : Part.sub [.unit .clu, .unit .lgs] [.unit .clu, .unit .lgs] = true := rfl
  unfold execWriteSingleBlock
  try dsimp only
  repeat' first
    | (with_reducible assumption)
    | (with_reducible exact Part.sub_trans rfl hU)
    | (with_reducible exact Or.inl (Part.sub_trans rfl hU))
    | (with_reducible exact Or.inr rfl)
    | (with_reducible exact SameOutside.refl _ _)
    | (with_reducible apply Stays.next)
    | (with_reducible apply State.put_within)
    | (with_reducible apply State.putFlag_within)
    | (with_reducible apply State.tagEvent_within)
    | (with_reducible apply State.journalWrite_within)
    | (with_reducible apply State.collapsed_within)
    | (with_reducible apply State.tagAnswer_within)
    | (with_reducible apply State.tagRequest_within)
    | (with_reducible apply State.fieldLoss_within)
    | (with_reducible apply State.each_within)
    | (with_reducible apply State.onlyIf_within)
    | (with_reducible apply State.foldl_within)
    | (intro x k hx)
    | (intro x hx)
    | split
    | (with_reducible apply SameOutside.built)

theorem execGetSystemInformation_within (req : TagRequest) (s : State) : Stays [.unit .clu] s (execGetSystemInformation req s) := by
  have hU : Part.sub [.unit .clu] [.unit .clu] = true := rfl
  unfold execGetSystemInformation
  try dsimp only
  repeat' first
    | (with_reducible assumption)
    | (with_reducible exact Part.sub_trans rfl hU)
    | (with_reducible exact Or.inl (Part.sub_trans rfl hU))
    | (with_reducible exact Or.inr rfl)
    | (with_reducible exact SameOutside.refl _ _)
    | (with_reducible apply Stays.next)
    | (with_reducible apply State.tagAnswer_within)
    | (with_reducible apply State.tagRequest_within)
    | (with_reducible apply State.each_within)
    | (with_reducible apply State.onlyIf_within)
    | (with_reducible apply State.foldl_within)
    | (intro x k hx)
    | (intro x hx)
    | split
    | (with_reducible apply SameOutside.built)

theorem execUnsupportedTagCommand_within (req : TagRequest) (s : State) : Stays [.unit .clu] s (execUnsupportedTagCommand req s) := by
  have hU : Part.sub [.unit .clu] [.unit .clu] = true := rfl
  unfold execUnsupportedTagCommand
  try dsimp only
  repeat' first
    | (with_reducible assumption)
    | (with_reducible exact Part.sub_trans rfl hU)
    | (with_reducible exact Or.inl (Part.sub_trans rfl hU))
    | (with_reducible exact Or.inr rfl)
    | (with_reducible exact SameOutside.refl _ _)
    | (with_reducible apply Stays.next)
    | (with_reducible apply State.tagAnswer_within)
    | (with_reducible apply State.tagRequest_within)
    | (with_reducible apply State.each_within)
    | (with_reducible apply State.onlyIf_within)
    | (with_reducible apply State.foldl_within)
    | (intro x k hx)
    | (intro x hx)
    | split
    | (with_reducible apply SameOutside.built)

theorem State.authFail_within {U : List Part} {z0 s : State} (hz : SameOutside U z0 s) (hU : Part.sub [.unit .clu, .unit .lgs] U = true) : SameOutside U z0 (State.authFail s) := by
  unfold State.authFail
  try dsimp only
  repeat' first
    | (with_reducible assumption)
    | (with_reducible exact Part.sub_trans rfl hU)
    | (with_reducible exact Or.inl (Part.sub_trans rfl hU))
    | (with_reducible exact Or.inr rfl)
    | (with_reducible apply State.putFlag_within)
    | (with_reducible apply State.tagEvent_within)
    | (with_reducible apply State.tagAnswer_within)
    | (with_reducible apply State.put_within)
    | (with_reducible apply State.each_within)
    | (with_reducible apply State.onlyIf_within)
    | (with_reducible apply State.foldl_within)
    | (intro x k hx)
    | (intro x hx)
    | split
    | (with_reducible apply SameOutside.built)

theorem State.authOk_within {U : List Part} {z0 s : State} (hz : SameOutside U z0 s) (how : Nat) (hU : Part.sub [.unit .clu, .unit .lgs] U = true) : SameOutside U z0 (State.authOk s how) := by
  unfold State.authOk
  try dsimp only
  repeat' first
    | (with_reducible assumption)
    | (with_reducible exact Part.sub_trans rfl hU)
    | (with_reducible exact Or.inl (Part.sub_trans rfl hU))
    | (with_reducible exact Or.inr rfl)
    | (with_reducible apply State.tagEvent_within)
    | (with_reducible apply State.tagAnswer_within)
    | (with_reducible apply State.put_within)
    | (with_reducible apply State.each_within)
    | (with_reducible apply State.onlyIf_within)
    | (with_reducible apply State.foldl_within)
    | (intro x k hx)
    | (intro x hx)
    | split
    | (with_reducible apply SameOutside.built)

theorem State.notAccepted_within {U : List Part} {z0 s : State} (hz : SameOutside U z0 s) (hU : Part.sub [.unit .clu] U = true) : SameOutside U z0 (State.notAccepted s) := by
  unfold State.notAccepted
  try dsimp only
  repeat' first
    | (with_reducible assumption)
    | (with_reducible exact Part.sub_trans rfl hU)
    | (with_reducible exact Or.inl (Part.sub_trans rfl hU))
    | (with_reducible exact Or.inr rfl)
    | (with_reducible apply State.draw_within)
    | (with_reducible apply State.tagAnswer_within)

theorem execTpwd_within (req : TagRequest) (password : BitVec 32) (s : State) : Stays [.unit .clu, .unit .lgs] s (execTpwd req password s) := by
  have hU : Part.sub [.unit .clu, .unit .lgs] [.unit .clu, .unit .lgs] = true := rfl
  unfold execTpwd
  try dsimp only
  repeat' first
    | (with_reducible assumption)
    | (with_reducible exact Part.sub_trans rfl hU)
    | (with_reducible exact Or.inl (Part.sub_trans rfl hU))
    | (with_reducible exact Or.inr rfl)
    | (with_reducible exact SameOutside.refl _ _)
    | (with_reducible apply Stays.next)
    | (with_reducible apply State.authFail_within)
    | (with_reducible apply State.tagCustom_within)
    | (with_reducible apply State.authOk_within)
    | (with_reducible apply State.tagAnswer_within)
    | (with_reducible apply State.notAccepted_within)
    | (with_reducible apply State.each_within)
    | (with_reducible apply State.onlyIf_within)
    | (with_reducible apply State.foldl_within)
    | (intro x k hx)
    | (intro x hx)
    | split
    | (with_reducible apply SameOutside.built)

theorem execTauth1_within (req : TagRequest) (keyNo : BitVec 8) (ra : BitVec 64) (s : State) : Stays [.unit .clu] s (execTauth1 req keyNo ra s) := by
  have hU : Part.sub [.unit .clu] [.unit .clu] = true := rfl
  unfold execTauth1
  try dsimp only
  repeat' first
    | (with_reducible assumption)
    | (with_reducible exact Part.sub_trans rfl hU)
    | (with_reducible exact Or.inl (Part.sub_trans rfl hU))
    | (with_reducible exact Or.inr rfl)
    | (with_reducible exact SameOutside.refl _ _)
    | (with_reducible apply Stays.next)
    | (with_reducible apply State.tagCustom_within)
    | (with_reducible apply State.draw_within)
    | (with_reducible apply State.setClu_within)
    | (with_reducible apply State.tagAnswer_within)
    | (with_reducible apply State.notAccepted_within)
    | (with_reducible apply State.each_within)
    | (with_reducible apply State.onlyIf_within)
    | (with_reducible apply State.foldl_within)
    | (intro x k hx)
    | (intro x hx)
    | (with_reducible refine SameOutside.snd ?_ (by assumption))
    | split
    | (with_reducible apply SameOutside.built)

theorem execTauth2_within (req : TagRequest) (cipher : BitVec 128) (s : State) : Stays [.unit .clu, .unit .lgs] s (execTauth2 req cipher s) := by
  have hU : Part.sub [.unit .clu, .unit .lgs] [.unit .clu, .unit .lgs] = true := rfl
  unfold execTauth2
  try dsimp only
  repeat' first
    | (with_reducible assumption)
    | (with_reducible exact Part.sub_trans rfl hU)
    | (with_reducible exact Or.inl (Part.sub_trans rfl hU))
    | (with_reducible exact Or.inr rfl)
    | (with_reducible exact SameOutside.refl _ _)
    | (with_reducible apply Stays.next)
    | (with_reducible apply State.authFail_within)
    | (with_reducible apply State.tagCustom_within)
    | (with_reducible apply State.authOk_within)
    | (with_reducible apply State.tagAnswer_within)
    | (with_reducible apply State.notAccepted_within)
    | (with_reducible apply State.each_within)
    | (with_reducible apply State.onlyIf_within)
    | (with_reducible apply State.foldl_within)
    | (intro x k hx)
    | (intro x hx)
    | split
    | (with_reducible apply SameOutside.built)

theorem execTlogout_within (req : TagRequest) (s : State) : Stays [.unit .clu] s (execTlogout req s) := by
  have hU : Part.sub [.unit .clu] [.unit .clu] = true := rfl
  unfold execTlogout
  try dsimp only
  repeat' first
    | (with_reducible assumption)
    | (with_reducible exact Part.sub_trans rfl hU)
    | (with_reducible exact Or.inl (Part.sub_trans rfl hU))
    | (with_reducible exact Or.inr rfl)
    | (with_reducible exact SameOutside.refl _ _)
    | (with_reducible apply Stays.next)
    | (with_reducible apply State.tagCustom_within)
    | (with_reducible apply State.tagAnswer_within)
    | (with_reducible apply State.put_within)
    | (with_reducible apply State.each_within)
    | (with_reducible apply State.onlyIf_within)
    | (with_reducible apply State.foldl_within)
    | (intro x k hx)
    | (intro x hx)
    | split
    | (with_reducible apply SameOutside.built)

theorem execTstat_within (req : TagRequest) (s : State) : Stays [.unit .clu] s (execTstat req s) := by
  have hU : Part.sub [.unit .clu] [.unit .clu] = true := rfl
  unfold execTstat
  try dsimp only
  repeat' first
    | (with_reducible assumption)
    | (with_reducible exact Part.sub_trans rfl hU)
    | (with_reducible exact Or.inl (Part.sub_trans rfl hU))
    | (with_reducible exact Or.inr rfl)
    | (with_reducible exact SameOutside.refl _ _)
    | (with_reducible apply Stays.next)
    | (with_reducible apply State.tagCustom_within)
    | (with_reducible apply State.tagAnswer_within)
    | (with_reducible apply State.each_within)
    | (with_reducible apply State.onlyIf_within)
    | (with_reducible apply State.foldl_within)
    | (intro x k hx)
    | (intro x hx)

theorem State.writeHold_within {U : List Part} {z0 s : State} (hz : SameOutside U z0 s) (on : Bool) (hU : Part.sub [.unit .clu] U = true) : SameOutside U z0 (State.writeHold s on) := by
  unfold State.writeHold
  try dsimp only
  repeat' first
    | (with_reducible assumption)
    | (with_reducible exact Part.sub_trans rfl hU)
    | (with_reducible exact Or.inl (Part.sub_trans rfl hU))
    | (with_reducible exact Or.inr rfl)
    | (with_reducible apply State.setClu_within)
    | (with_reducible apply State.putFlag_within)
    | (with_reducible apply State.each_within)
    | (with_reducible apply State.onlyIf_within)
    | (with_reducible apply State.foldl_within)
    | (intro x k hx)
    | (intro x hx)
    | split
    | (with_reducible apply SameOutside.built)

theorem execHold_within (on : Bool) (s : State) : Stays [.unit .clu] s (execHold on s) := by
  have hU : Part.sub [.unit .clu] [.unit .clu] = true := rfl
  unfold execHold
  try dsimp only
  repeat' first
    | (with_reducible assumption)
    | (with_reducible exact Part.sub_trans rfl hU)
    | (with_reducible exact Or.inl (Part.sub_trans rfl hU))
    | (with_reducible exact Or.inr rfl)
    | (with_reducible exact SameOutside.refl _ _)
    | (with_reducible apply Stays.next)
    | (with_reducible apply State.writeHold_within)

theorem execHoldTimeout_within (s : State) : Stays [.unit .clu, .unit .lgs] s (execHoldTimeout s) := by
  have hU : Part.sub [.unit .clu, .unit .lgs] [.unit .clu, .unit .lgs] = true := rfl
  unfold execHoldTimeout
  try dsimp only
  repeat' first
    | (with_reducible assumption)
    | (with_reducible exact Part.sub_trans rfl hU)
    | (with_reducible exact Or.inl (Part.sub_trans rfl hU))
    | (with_reducible exact Or.inr rfl)
    | (with_reducible exact SameOutside.refl _ _)
    | (with_reducible apply Stays.next)
    | (with_reducible apply State.writeHold_within)
    | (with_reducible apply State.moveTo_within)
    | (with_reducible apply State.raise_within)
    | (with_reducible apply State.put_within)
    | (with_reducible apply State.each_within)
    | (with_reducible apply State.onlyIf_within)
    | (with_reducible apply State.foldl_within)
    | (intro x k hx)
    | (intro x hx)
    | split
    | (with_reducible apply SameOutside.built)

theorem State.throughJournal_within {U : List Part} {z0 s : State} (hz : SameOutside U z0 s) (data : Option Nat) (hU : Part.sub [.unit .clu] U = true) : SameOutside U z0 (State.throughJournal s data) := by
  unfold State.throughJournal
  try dsimp only
  repeat' first
    | (with_reducible assumption)
    | (with_reducible exact Part.sub_trans rfl hU)
    | (with_reducible exact Or.inl (Part.sub_trans rfl hU))
    | (with_reducible exact Or.inr rfl)
    | (with_reducible apply State.draw_within)
    | (with_reducible apply State.setClu_within)

theorem State.loadHolds_within {U : List Part} {z0 s : State} (hz : SameOutside U z0 s) (loss : Bool) (hU : Part.sub [] U = true) : SameOutside U z0 (State.loadHolds s loss).2 := by
  unfold State.loadHolds
  try dsimp only
  repeat' first
    | (with_reducible assumption)
    | (with_reducible exact Part.sub_trans rfl hU)
    | (with_reducible exact Or.inl (Part.sub_trans rfl hU))
    | (with_reducible exact Or.inr rfl)
    | (with_reducible apply State.draw_within)
    | (with_reducible apply State.each_within)
    | (with_reducible apply State.onlyIf_within)
    | (with_reducible apply State.foldl_within)
    | (intro x k hx)
    | (intro x hx)
    | (with_reducible refine SameOutside.snd ?_ (by assumption))
    | split

theorem State.loadPwd_within {U : List Part} {z0 s : State} (hz : SameOutside U z0 s) (loss : Bool) (hU : Part.sub [.unit .clu] U = true) : SameOutside U z0 (State.loadPwd s loss) := by
  unfold State.loadPwd
  try dsimp only
  repeat' first
    | (with_reducible assumption)
    | (with_reducible exact Part.sub_trans rfl hU)
    | (with_reducible exact Or.inl (Part.sub_trans rfl hU))
    | (with_reducible exact Or.inr rfl)
    | (with_reducible apply State.loadHolds_within)
    | (with_reducible apply State.throughJournal_within)
    | (with_reducible apply State.setClu_within)
    | (with_reducible apply State.put_within)
    | (with_reducible apply State.each_within)
    | (with_reducible apply State.onlyIf_within)
    | (with_reducible apply State.foldl_within)
    | (intro x k hx)
    | (intro x hx)
    | (with_reducible refine SameOutside.snd ?_ (by assumption))
    | split
    | (with_reducible apply SameOutside.built)

theorem execLoadpwd_within (loss : Bool) (s : State) : Stays [.unit .clu] s (execLoadpwd loss s) := by
  have hU : Part.sub [.unit .clu] [.unit .clu] = true := rfl
  unfold execLoadpwd
  try dsimp only
  repeat' first
    | (with_reducible assumption)
    | (with_reducible exact Part.sub_trans rfl hU)
    | (with_reducible exact Or.inl (Part.sub_trans rfl hU))
    | (with_reducible exact Or.inr rfl)
    | (with_reducible exact SameOutside.refl _ _)
    | (with_reducible apply Stays.next)
    | (with_reducible apply State.loadPwd_within)

theorem State.loadKey_within {U : List Part} {z0 s : State} (hz : SameOutside U z0 s) (loss : Bool) (hU : Part.sub [.unit .clu] U = true) : SameOutside U z0 (State.loadKey s loss) := by
  unfold State.loadKey
  try dsimp only
  repeat' first
    | (with_reducible assumption)
    | (with_reducible exact Part.sub_trans rfl hU)
    | (with_reducible exact Or.inl (Part.sub_trans rfl hU))
    | (with_reducible exact Or.inr rfl)
    | (with_reducible apply State.loadHolds_within)
    | (with_reducible apply State.throughJournal_within)
    | (with_reducible apply State.setClu_within)
    | (with_reducible apply State.put_within)
    | (with_reducible apply State.each_within)
    | (with_reducible apply State.onlyIf_within)
    | (with_reducible apply State.foldl_within)
    | (intro x k hx)
    | (intro x hx)
    | (with_reducible refine SameOutside.snd ?_ (by assumption))
    | split
    | (with_reducible apply SameOutside.built)

theorem execLoadkey_within (loss : Bool) (s : State) : Stays [.unit .clu] s (execLoadkey loss s) := by
  have hU : Part.sub [.unit .clu] [.unit .clu] = true := rfl
  unfold execLoadkey
  try dsimp only
  repeat' first
    | (with_reducible assumption)
    | (with_reducible exact Part.sub_trans rfl hU)
    | (with_reducible exact Or.inl (Part.sub_trans rfl hU))
    | (with_reducible exact Or.inr rfl)
    | (with_reducible exact SameOutside.refl _ _)
    | (with_reducible apply Stays.next)
    | (with_reducible apply State.loadKey_within)

theorem State.clearTfail_within {U : List Part} {z0 s : State} (hz : SameOutside U z0 s) (hU : Part.sub [.unit .clu] U = true) : SameOutside U z0 (State.clearTfail s) := by
  unfold State.clearTfail
  try dsimp only
  repeat' first
    | (with_reducible assumption)
    | (with_reducible exact Part.sub_trans rfl hU)
    | (with_reducible exact Or.inl (Part.sub_trans rfl hU))
    | (with_reducible exact Or.inr rfl)
    | (with_reducible apply State.put_within)
    | (with_reducible apply State.putFlag_within)

theorem execTfailclr_within (s : State) : Stays [.unit .clu] s (execTfailclr s) := by
  have hU : Part.sub [.unit .clu] [.unit .clu] = true := rfl
  unfold execTfailclr
  try dsimp only
  repeat' first
    | (with_reducible assumption)
    | (with_reducible exact Part.sub_trans rfl hU)
    | (with_reducible exact Or.inl (Part.sub_trans rfl hU))
    | (with_reducible exact Or.inr rfl)
    | (with_reducible exact SameOutside.refl _ _)
    | (with_reducible apply Stays.next)
    | (with_reducible apply State.clearTfail_within)

theorem State.tagHostWrite_within {U : List Part} {z0 s : State} (hz : SameOutside U z0 s) (off : Nat) (value : Nat) (hU : Part.sub [.unit .clu, .unit .lgs] U = true) : SameOutside U z0 (State.tagHostWrite s off value) := by
  unfold State.tagHostWrite
  try dsimp only
  repeat' first
    | (with_reducible assumption)
    | (with_reducible exact Part.sub_trans rfl hU)
    | (with_reducible exact Or.inl (Part.sub_trans rfl hU))
    | (with_reducible exact Or.inr rfl)
    | (with_reducible apply State.raise_within)
    | (with_reducible apply State.setClu_within)
    | (with_reducible apply State.each_within)
    | (with_reducible apply State.onlyIf_within)
    | (with_reducible apply State.foldl_within)
    | (intro x k hx)
    | (intro x hx)
    | split

theorem State.tagReady_within {U : List Part} {z0 s : State} (hz : SameOutside U z0 s) (hU : Part.sub [.unit .clu, .unit .lgs] U = true) : SameOutside U z0 (State.tagReady s) := by
  unfold State.tagReady
  try dsimp only
  repeat' first
    | (with_reducible assumption)
    | (with_reducible exact Part.sub_trans rfl hU)
    | (with_reducible exact Or.inl (Part.sub_trans rfl hU))
    | (with_reducible exact Or.inr rfl)
    | (with_reducible apply State.putFlag_within)
    | (with_reducible apply State.journal_within)
    | (with_reducible apply State.each_within)
    | (with_reducible apply State.onlyIf_within)
    | (with_reducible apply State.foldl_within)
    | (intro x k hx)
    | (intro x hx)
    | split

theorem execTagMemoryHostWrite_within (off : BitVec 13) (value : BitVec 32) (s : State) : Stays [.unit .clu, .unit .lgs] s (execTagMemoryHostWrite off value s) := by
  have hU : Part.sub [.unit .clu, .unit .lgs] [.unit .clu, .unit .lgs] = true := rfl
  unfold execTagMemoryHostWrite
  try dsimp only
  repeat' first
    | (with_reducible assumption)
    | (with_reducible exact Part.sub_trans rfl hU)
    | (with_reducible exact Or.inl (Part.sub_trans rfl hU))
    | (with_reducible exact Or.inr rfl)
    | (with_reducible exact SameOutside.refl _ _)
    | (with_reducible apply Stays.next)
    | (with_reducible apply State.tagReady_within)
    | (with_reducible apply State.tagHostWrite_within)
    | (with_reducible apply State.each_within)
    | (with_reducible apply State.onlyIf_within)
    | (with_reducible apply State.foldl_within)
    | (intro x k hx)
    | (intro x hx)
    | split
    | (with_reducible apply SameOutside.built)

theorem State.cluWarm_within {U : List Part} {z0 s : State} (hz : SameOutside U z0 s) (hU : Part.sub [.unit .clu, .latches] U = true) : SameOutside U z0 (State.cluWarm s) := by
  unfold State.cluWarm
  try dsimp only
  repeat' first
    | (with_reducible assumption)
    | (with_reducible exact Part.sub_trans rfl hU)
    | (with_reducible exact Or.inl (Part.sub_trans rfl hU))
    | (with_reducible exact Or.inr rfl)
    | (with_reducible apply State.setClu_within)
    | (with_reducible apply State.clearUnit_within)
    | (with_reducible apply State.fieldsOff_within)
    | (with_reducible apply State.each_within)
    | (with_reducible apply State.onlyIf_within)
    | (with_reducible apply State.foldl_within)
    | (intro x k hx)
    | (intro x hx)
    | split
    | (with_reducible apply SameOutside.built)

end Sys2Proof.Machine
end

