-- ==== Sys2Proof/Laws/WithinVehicle.lean ====
section
/-! SUPPORT. Every operation and every command of the VCE leaves the parts of the block alone that it does not touch (Laws/Within.lean). -/

namespace Sys2Proof.Machine

open Sys2Proof

theorem State.setVce_within {U : List Part} {z0 s : State} (hz : SameOutside U z0 s) (n : Nat) (v : Vce) (hU : Part.sub [.unit .vce] U = true) : SameOutside U z0 (State.setVce s n v) := by
  unfold State.setVce
  try dsimp only
  repeat' first
    | (with_reducible assumption)
    | (with_reducible exact Part.sub_trans rfl hU)
    | (with_reducible exact Or.inl (Part.sub_trans rfl hU))
    | (with_reducible exact Or.inr rfl)
    | (with_reducible apply State.each_within)
    | (with_reducible apply State.onlyIf_within)
    | (with_reducible apply State.foldl_within)
    | (intro x k hx)
    | (intro x hx)
    | split
    | (with_reducible apply SameOutside.built)

theorem State.showLanes_within {U : List Part} {z0 s : State} (hz : SameOutside U z0 s) (hU : Part.sub [.unit .vce] U = true) : SameOutside U z0 (State.showLanes s) := by
  unfold State.showLanes
  try dsimp only
  repeat' first
    | (with_reducible assumption)
    | (with_reducible exact Part.sub_trans rfl hU)
    | (with_reducible exact Or.inl (Part.sub_trans rfl hU))
    | (with_reducible exact Or.inr rfl)
    | (with_reducible apply State.put_within)
    | (with_reducible apply State.each_within)
    | (with_reducible apply State.onlyIf_within)
    | (with_reducible apply State.foldl_within)
    | (intro x k hx)

theorem State.send_within {U : List Part} {z0 s : State} (hz : SameOutside U z0 s) (n : Nat) (t : VceTx) (hU : Part.sub [.unit .vce] U = true) : SameOutside U z0 (State.send s n t) := by
  unfold State.send
  try dsimp only
  repeat' first
    | (with_reducible assumption)
    | (with_reducible exact Part.sub_trans rfl hU)
    | (with_reducible exact Or.inl (Part.sub_trans rfl hU))
    | (with_reducible exact Or.inr rfl)
    | (with_reducible apply State.setVce_within)

theorem State.hostMsg_within {U : List Part} {z0 s : State} (hz : SameOutside U z0 s) (n : Nat) (dir : Nat) (flags : Nat) (code : Nat) (lt : Nat) (body : List Nat) (exi : List Nat) (hU : Part.sub [.unit .vce] U = true) : SameOutside U z0 (State.hostMsg s n dir flags code lt body exi) := by
  unfold State.hostMsg
  try dsimp only
  repeat' first
    | (with_reducible assumption)
    | (with_reducible exact Part.sub_trans rfl hU)
    | (with_reducible exact Or.inl (Part.sub_trans rfl hU))
    | (with_reducible exact Or.inr rfl)
    | (with_reducible apply State.setVce_within)
    | (with_reducible apply State.each_within)
    | (with_reducible apply State.onlyIf_within)
    | (with_reducible apply State.foldl_within)
    | (intro x k hx)
    | (intro x hx)
    | split
    | (with_reducible apply SameOutside.built)

theorem State.hostRes_within {U : List Part} {z0 s : State} (hz : SameOutside U z0 s) (n : Nat) (flags : Nat) (o : V2gOut) (lt : Nat) (hU : Part.sub [.unit .vce] U = true) : SameOutside U z0 (State.hostRes s n flags o lt) := by
  unfold State.hostRes
  try dsimp only
  repeat' first
    | (with_reducible assumption)
    | (with_reducible exact Part.sub_trans rfl hU)
    | (with_reducible exact Or.inl (Part.sub_trans rfl hU))
    | (with_reducible exact Or.inr rfl)
    | (with_reducible apply State.draw_within)
    | (with_reducible apply State.hostMsg_within)
    | (with_reducible apply State.each_within)
    | (with_reducible apply State.onlyIf_within)
    | (with_reducible apply State.foldl_within)
    | (intro x k hx)
    | (intro x hx)
    | (with_reducible refine SameOutside.snd ?_ (by assumption))
    | split
    | (with_reducible apply SameOutside.built)

theorem State.laneAdmitted_within {U : List Part} {z0 s : State} (hz : SameOutside U z0 s) (n : Nat) (hU : Part.sub [.unit .sch, .unit .oiu, .unit .vce, .unit .sec] U = true) : SameOutside U z0 (State.laneAdmitted s n) := by
  unfold State.laneAdmitted
  try dsimp only
  repeat' first
    | (with_reducible assumption)
    | (with_reducible exact Part.sub_trans rfl hU)
    | (with_reducible exact Or.inl (Part.sub_trans rfl hU))
    | (with_reducible exact Or.inr rfl)
    | (with_reducible apply State.endStream_within)
    | (with_reducible apply State.showLanes_within)
    | (with_reducible apply State.randomBits_within)
    | (with_reducible apply State.setVce_within)
    | (with_reducible apply State.put_within)
    | (with_reducible apply State.each_within)
    | (with_reducible apply State.onlyIf_within)
    | (with_reducible apply State.foldl_within)
    | (intro x k hx)
    | (intro x hx)
    | (with_reducible refine SameOutside.snd ?_ (by assumption))
    | split
    | (with_reducible apply SameOutside.built)

theorem State.requestLane_within {U : List Part} {z0 s : State} (hz : SameOutside U z0 s) (n : Nat) (hU : Part.sub [.unit .sch, .unit .oiu, .unit .vce, .unit .lgs, .unit .sec] U = true) : SameOutside U z0 (State.requestLane s n) := by
  unfold State.requestLane
  try dsimp only
  repeat' first
    | (with_reducible assumption)
    | (with_reducible exact Part.sub_trans rfl hU)
    | (with_reducible exact Or.inl (Part.sub_trans rfl hU))
    | (with_reducible exact Or.inr rfl)
    | (with_reducible apply State.bindStream_within)
    | (with_reducible apply State.raise2_within)
    | (with_reducible apply State.laneAdmitted_within)
    | (with_reducible apply State.setVce_within)
    | (with_reducible apply State.waitStream_within)
    | (with_reducible apply State.refuseStream_within)
    | (with_reducible apply State.put_within)
    | (with_reducible apply State.each_within)
    | (with_reducible apply State.onlyIf_within)
    | (with_reducible apply State.foldl_within)
    | (intro x k hx)
    | (intro x hx)
    | split
    | (with_reducible apply SameOutside.built)

theorem State.responderStops_within {U : List Part} {z0 s : State} (hz : SameOutside U z0 s) (n : Nat) (hU : Part.sub [.unit .lgs] U = true) : SameOutside U z0 (State.responderStops s n) := by
  unfold State.responderStops
  try dsimp only
  repeat' first
    | (with_reducible assumption)
    | (with_reducible exact Part.sub_trans rfl hU)
    | (with_reducible exact Or.inl (Part.sub_trans rfl hU))
    | (with_reducible exact Or.inr rfl)
    | (with_reducible apply State.raise2_within)
    | (with_reducible apply State.each_within)
    | (with_reducible apply State.onlyIf_within)
    | (with_reducible apply State.foldl_within)
    | (intro x k hx)
    | (intro x hx)

theorem State.endSession_within {U : List Part} {z0 s : State} (hz : SameOutside U z0 s) (n : Nat) (reason : Nat) (hU : Part.sub [.unit .sch, .unit .oiu, .unit .vce, .unit .efu, .unit .lgs] U = true) : SameOutside U z0 (State.endSession s n reason) := by
  unfold State.endSession
  try dsimp only
  repeat' first
    | (with_reducible assumption)
    | (with_reducible exact Part.sub_trans rfl hU)
    | (with_reducible exact Or.inl (Part.sub_trans rfl hU))
    | (with_reducible exact Or.inr rfl)
    | (with_reducible apply State.raise2_within)
    | (with_reducible apply State.hlcFallback_within)
    | (with_reducible apply State.endStream_within)
    | (with_reducible apply State.setVce_within)
    | (with_reducible apply State.responderStops_within)
    | (with_reducible apply State.put_within)
    | (with_reducible apply State.each_within)
    | (with_reducible apply State.onlyIf_within)
    | (with_reducible apply State.foldl_within)
    | (intro x k hx)
    | (intro x hx)
    | split
    | (with_reducible apply SameOutside.built)

theorem State.setQueue_within {U : List Part} {z0 s : State} (hz : SameOutside U z0 s) (e : Encoder) (hU : Part.sub [.unit .vce] U = true) : SameOutside U z0 (State.setQueue s e) := by
  unfold State.setQueue
  try dsimp only
  repeat' first
    | (with_reducible assumption)
    | (with_reducible exact Part.sub_trans rfl hU)
    | (with_reducible exact Or.inl (Part.sub_trans rfl hU))
    | (with_reducible exact Or.inr rfl)
    | (with_reducible apply State.setVce_within)
    | (with_reducible apply State.each_within)
    | (with_reducible apply State.onlyIf_within)
    | (with_reducible apply State.foldl_within)
    | (intro x k hx)
    | (intro x hx)
    | split
    | (with_reducible apply SameOutside.built)

theorem State.sendEncoded_within {U : List Part} {z0 s : State} (hz : SameOutside U z0 s) (hU : Part.sub [.unit .vce] U = true) : SameOutside U z0 (State.sendEncoded s) := by
  unfold State.sendEncoded
  try dsimp only
  repeat' first
    | (with_reducible assumption)
    | (with_reducible exact Part.sub_trans rfl hU)
    | (with_reducible exact Or.inl (Part.sub_trans rfl hU))
    | (with_reducible exact Or.inr rfl)
    | (with_reducible apply State.setQueue_within)
    | (with_reducible apply State.setVce_within)
    | (with_reducible apply State.each_within)
    | (with_reducible apply State.onlyIf_within)
    | (with_reducible apply State.foldl_within)
    | (intro x k hx)
    | (intro x hx)
    | split
    | (with_reducible apply SameOutside.built)

theorem State.vceDrop_within {U : List Part} {z0 s : State} (hz : SameOutside U z0 s) (n : Nat) (hU : Part.sub [.unit .sch, .unit .oiu, .unit .vce, .unit .efu, .unit .lgs] U = true) : SameOutside U z0 (State.vceDrop s n) := by
  unfold State.vceDrop
  try dsimp only
  repeat' first
    | (with_reducible assumption)
    | (with_reducible exact Part.sub_trans rfl hU)
    | (with_reducible exact Or.inl (Part.sub_trans rfl hU))
    | (with_reducible exact Or.inr rfl)
    | (with_reducible apply State.setQueue_within)
    | (with_reducible apply State.endStream_within)
    | (with_reducible apply State.showLanes_within)
    | (with_reducible apply State.setVce_within)
    | (with_reducible apply State.endSession_within)
    | (with_reducible apply State.put_within)
    | (with_reducible apply State.each_within)
    | (with_reducible apply State.onlyIf_within)
    | (with_reducible apply State.foldl_within)
    | (intro x k hx)
    | (intro x hx)
    | split
    | (with_reducible apply SameOutside.built)

theorem State.tlsLost_within {U : List Part} {z0 s : State} (hz : SameOutside U z0 s) (hU : Part.sub [.unit .sch, .unit .oiu, .unit .vce, .unit .efu, .unit .lgs] U = true) : SameOutside U z0 (State.tlsLost s) := by
  unfold State.tlsLost
  try dsimp only
  repeat' first
    | (with_reducible assumption)
    | (with_reducible exact Part.sub_trans rfl hU)
    | (with_reducible exact Or.inl (Part.sub_trans rfl hU))
    | (with_reducible exact Or.inr rfl)
    | (with_reducible apply State.endSession_within)
    | (with_reducible apply State.each_within)
    | (with_reducible apply State.onlyIf_within)
    | (with_reducible apply State.foldl_within)
    | (intro x k hx)
    | (intro x hx)

theorem State.vceFail_within {U : List Part} {z0 s : State} (hz : SameOutside U z0 s) (hU : Part.sub [.unit .sch, .unit .oiu, .unit .vce, .unit .efu, .unit .lgs] U = true) : SameOutside U z0 (State.vceFail s) := by
  unfold State.vceFail
  try dsimp only
  repeat' first
    | (with_reducible assumption)
    | (with_reducible exact Part.sub_trans rfl hU)
    | (with_reducible exact Or.inl (Part.sub_trans rfl hU))
    | (with_reducible exact Or.inr rfl)
    | (with_reducible apply State.vceDrop_within)
    | (with_reducible apply State.hlcFallback_within)
    | (with_reducible apply State.each_within)
    | (with_reducible apply State.onlyIf_within)
    | (with_reducible apply State.foldl_within)
    | (intro x k hx)
    | (intro x hx)
    | split
    | (with_reducible apply SameOutside.built)

theorem State.t1sJoin_within {U : List Part} {z0 s : State} (hz : SameOutside U z0 s) (n : Nat) (hU : Part.sub [.unit .vce, .unit .lgs] U = true) : SameOutside U z0 (State.t1sJoin s n) := by
  unfold State.t1sJoin
  try dsimp only
  repeat' first
    | (with_reducible assumption)
    | (with_reducible exact Part.sub_trans rfl hU)
    | (with_reducible exact Or.inl (Part.sub_trans rfl hU))
    | (with_reducible exact Or.inr rfl)
    | (with_reducible apply State.raise2_within)
    | (with_reducible apply State.setVce_within)
    | (with_reducible apply State.put_within)
    | (with_reducible apply State.each_within)
    | (with_reducible apply State.onlyIf_within)
    | (with_reducible apply State.foldl_within)
    | (intro x k hx)
    | (intro x hx)
    | split

theorem State.vceBand_within {U : List Part} {z0 s : State} (hz : SameOutside U z0 s) (n : Nat) (hU : Part.sub [.unit .sch, .unit .oiu, .unit .vce, .unit .efu, .unit .lgs] U = true) : SameOutside U z0 (State.vceBand s n) := by
  unfold State.vceBand
  try dsimp only
  repeat' first
    | (with_reducible assumption)
    | (with_reducible exact Part.sub_trans rfl hU)
    | (with_reducible exact Or.inl (Part.sub_trans rfl hU))
    | (with_reducible exact Or.inr rfl)
    | (with_reducible apply State.vceDrop_within)
    | (with_reducible apply State.t1sJoin_within)
    | (with_reducible apply State.each_within)
    | (with_reducible apply State.onlyIf_within)
    | (with_reducible apply State.foldl_within)
    | (intro x k hx)
    | (intro x hx)

theorem State.vcePilot_within {U : List Part} {z0 s : State} (hz : SameOutside U z0 s) (n : Nat) (hU : Part.sub [.unit .sch, .unit .oiu, .unit .vce, .unit .efu, .unit .lgs, .unit .sec] U = true) : SameOutside U z0 (State.vcePilot s n) := by
  unfold State.vcePilot
  try dsimp only
  repeat' first
    | (with_reducible assumption)
    | (with_reducible exact Part.sub_trans rfl hU)
    | (with_reducible exact Or.inl (Part.sub_trans rfl hU))
    | (with_reducible exact Or.inr rfl)
    | (with_reducible apply State.vceDrop_within)
    | (with_reducible apply State.put_within)
    | (with_reducible apply State.showLanes_within)
    | (with_reducible apply State.setVce_within)
    | (with_reducible apply State.requestLane_within)
    | (with_reducible apply State.endStream_within)
    | (with_reducible apply State.t1sJoin_within)
    | (with_reducible apply State.each_within)
    | (with_reducible apply State.onlyIf_within)
    | (with_reducible apply State.foldl_within)
    | (intro x k hx)
    | (intro x hx)
    | split
    | (with_reducible apply SameOutside.built)

theorem State.streamAdmitted_within {U : List Part} {z0 s : State} (hz : SameOutside U z0 s) (stream : Nat) (hU : Part.sub [.unit .sch, .unit .oiu, .unit .vce, .unit .sec] U = true) : SameOutside U z0 (State.streamAdmitted s stream) := by
  unfold State.streamAdmitted
  try dsimp only
  repeat' first
    | (with_reducible assumption)
    | (with_reducible exact Part.sub_trans rfl hU)
    | (with_reducible exact Or.inl (Part.sub_trans rfl hU))
    | (with_reducible exact Or.inr rfl)
    | (with_reducible apply State.laneAdmitted_within)
    | (with_reducible apply State.send_within)
    | (with_reducible apply State.setVce_within)
    | (with_reducible apply State.put_within)
    | (with_reducible apply State.each_within)
    | (with_reducible apply State.onlyIf_within)
    | (with_reducible apply State.foldl_within)
    | (intro x k hx)
    | (intro x hx)
    | split
    | (with_reducible apply SameOutside.built)

theorem execEngineFrameBoundary_within (e : Fin 6) (s : State) : Stays [.unit .sch, .unit .oiu, .unit .vce, .unit .sec] s (execEngineFrameBoundary e s) := by
  have hU : Part.sub [.unit .sch, .unit .oiu, .unit .vce, .unit .sec] [.unit .sch, .unit .oiu, .unit .vce, .unit .sec] = true := rfl
  unfold execEngineFrameBoundary
  try dsimp only
  repeat' first
    | (with_reducible assumption)
    | (with_reducible exact Part.sub_trans rfl hU)
    | (with_reducible exact Or.inl (Part.sub_trans rfl hU))
    | (with_reducible exact Or.inr rfl)
    | (with_reducible exact SameOutside.refl _ _)
    | (with_reducible apply Stays.next)
    | (with_reducible apply State.bindStream_within)
    | (with_reducible apply State.streamAdmitted_within)
    | (with_reducible apply State.showLanes_within)
    | (with_reducible apply State.openFreed_within)
    | (with_reducible apply State.each_within)
    | (with_reducible apply State.onlyIf_within)
    | (with_reducible apply State.foldl_within)
    | (intro x k hx)
    | (intro x hx)
    | split
    | (with_reducible apply SameOutside.built)

theorem State.oversize_within {U : List Part} {z0 s : State} (hz : SameOutside U z0 s) (n : Nat) (hU : Part.sub [.unit .sch, .unit .oiu, .unit .vce, .unit .efu, .unit .lgs] U = true) : SameOutside U z0 (State.oversize s n) := by
  unfold State.oversize
  try dsimp only
  repeat' first
    | (with_reducible assumption)
    | (with_reducible exact Part.sub_trans rfl hU)
    | (with_reducible exact Or.inl (Part.sub_trans rfl hU))
    | (with_reducible exact Or.inr rfl)
    | (with_reducible apply State.raise2_within)
    | (with_reducible apply State.endSession_within)
    | (with_reducible apply State.send_within)
    | (with_reducible apply State.each_within)
    | (with_reducible apply State.onlyIf_within)
    | (with_reducible apply State.foldl_within)
    | (intro x k hx)
    | (intro x hx)
    | split
    | (with_reducible apply SameOutside.built)

theorem State.store_within {U : List Part} {z0 s : State} (hz : SameOutside U z0 s) (n : Nat) (m : V2gMsg) (hU : Part.sub [.unit .vce, .unit .lgs] U = true) : SameOutside U z0 (State.store s n m) := by
  unfold State.store
  try dsimp only
  repeat' first
    | (with_reducible assumption)
    | (with_reducible exact Part.sub_trans rfl hU)
    | (with_reducible exact Or.inl (Part.sub_trans rfl hU))
    | (with_reducible exact Or.inr rfl)
    | (with_reducible apply State.raise2_within)
    | (with_reducible apply State.count_within)
    | (with_reducible apply State.setVce_within)
    | (with_reducible apply State.put_within)
    | (with_reducible apply State.each_within)
    | (with_reducible apply State.onlyIf_within)
    | (with_reducible apply State.foldl_within)
    | (intro x k hx)
    | (intro x hx)
    | split
    | (with_reducible apply SameOutside.built)

theorem State.handshakeDone_within {U : List Part} {z0 s : State} (hz : SameOutside U z0 s) (n : Nat) (hU : Part.sub [.unit .vce] U = true) : SameOutside U z0 (State.handshakeDone s n) := by
  unfold State.handshakeDone
  try dsimp only
  repeat' first
    | (with_reducible assumption)
    | (with_reducible exact Part.sub_trans rfl hU)
    | (with_reducible exact Or.inl (Part.sub_trans rfl hU))
    | (with_reducible exact Or.inr rfl)
    | (with_reducible apply State.setVce_within)

theorem execVehicleFrameReceived_within (n : Fin 24) (fecError : Bool) (message : Option V2gMsg) (s : State) : Stays [.unit .sch, .unit .oiu, .unit .vce, .unit .efu, .unit .lgs] s (execVehicleFrameReceived n fecError message s) := by
  have hU : Part.sub [.unit .sch, .unit .oiu, .unit .vce, .unit .efu, .unit .lgs] [.unit .sch, .unit .oiu, .unit .vce, .unit .efu, .unit .lgs] = true := rfl
  unfold execVehicleFrameReceived
  try dsimp only
  repeat' first
    | (with_reducible assumption)
    | (with_reducible exact Part.sub_trans rfl hU)
    | (with_reducible exact Or.inl (Part.sub_trans rfl hU))
    | (with_reducible exact Or.inr rfl)
    | (with_reducible exact SameOutside.refl _ _)
    | (with_reducible apply Stays.next)
    | (with_reducible apply State.count_within)
    | (with_reducible apply State.handshakeDone_within)
    | (with_reducible apply State.store_within)
    | (with_reducible apply State.oversize_within)
    | (with_reducible apply State.each_within)
    | (with_reducible apply State.onlyIf_within)
    | (with_reducible apply State.foldl_within)
    | (intro x k hx)
    | (intro x hx)
    | split
    | (with_reducible apply SameOutside.built)

theorem execTransmitEncode_within (n : Fin 24) (micros : Nat) (s : State) : Stays [.unit .vce] s (execTransmitEncode n micros s) := by
  have hU : Part.sub [.unit .vce] [.unit .vce] = true := rfl
  unfold execTransmitEncode
  try dsimp only
  repeat' first
    | (with_reducible assumption)
    | (with_reducible exact Part.sub_trans rfl hU)
    | (with_reducible exact Or.inl (Part.sub_trans rfl hU))
    | (with_reducible exact Or.inr rfl)
    | (with_reducible exact SameOutside.refl _ _)
    | (with_reducible apply Stays.next)
    | (with_reducible apply State.setQueue_within)
    | (with_reducible apply State.setVce_within)
    | (with_reducible apply State.sendEncoded_within)
    | (with_reducible apply State.each_within)
    | (with_reducible apply State.onlyIf_within)
    | (with_reducible apply State.foldl_within)
    | (intro x k hx)
    | (intro x hx)
    | split
    | (with_reducible apply SameOutside.built)

theorem State.setRun_within {U : List Part} {z0 s : State} (hz : SameOutside U z0 s) (r : SlacRun) (hU : Part.sub [.unit .vce] U = true) : SameOutside U z0 (State.setRun s r) := by
  unfold State.setRun
  try dsimp only
  repeat' first
    | (with_reducible assumption)
    | (with_reducible exact Part.sub_trans rfl hU)
    | (with_reducible exact Or.inl (Part.sub_trans rfl hU))
    | (with_reducible exact Or.inr rfl)
    | (with_reducible apply State.each_within)
    | (with_reducible apply State.onlyIf_within)
    | (with_reducible apply State.foldl_within)
    | (intro x k hx)
    | (intro x hx)
    | split
    | (with_reducible apply SameOutside.built)

theorem execCmSlacParmReq_within (run : Nat) (heard : BitVec 24) (s : State) : Stays [.unit .vce] s (execCmSlacParmReq run heard s) := by
  have hU : Part.sub [.unit .vce] [.unit .vce] = true := rfl
  unfold execCmSlacParmReq
  try dsimp only
  repeat' first
    | (with_reducible assumption)
    | (with_reducible exact Part.sub_trans rfl hU)
    | (with_reducible exact Or.inl (Part.sub_trans rfl hU))
    | (with_reducible exact Or.inr rfl)
    | (with_reducible exact SameOutside.refl _ _)
    | (with_reducible apply Stays.next)
    | (with_reducible apply State.send_within)
    | (with_reducible apply State.setVce_within)
    | (with_reducible apply State.setRun_within)
    | (with_reducible apply State.each_within)
    | (with_reducible apply State.onlyIf_within)
    | (with_reducible apply State.foldl_within)
    | (intro x k hx)
    | (intro x hx)
    | split
    | (with_reducible apply SameOutside.built)

theorem execCmStartAttenCharInd_within (run : Nat) (s : State) : Stays [.unit .vce] s (execCmStartAttenCharInd run s) := by
  have hU : Part.sub [.unit .vce] [.unit .vce] = true := rfl
  unfold execCmStartAttenCharInd
  try dsimp only
  repeat' first
    | (with_reducible assumption)
    | (with_reducible exact Part.sub_trans rfl hU)
    | (with_reducible exact Or.inl (Part.sub_trans rfl hU))
    | (with_reducible exact Or.inr rfl)
    | (with_reducible exact SameOutside.refl _ _)
    | (with_reducible apply Stays.next)
    | (with_reducible apply State.setRun_within)
    | (with_reducible apply State.each_within)
    | (with_reducible apply State.onlyIf_within)
    | (with_reducible apply State.foldl_within)
    | (intro x k hx)
    | (intro x hx)
    | split

theorem State.marginFailed_within {U : List Part} {z0 s : State} (hz : SameOutside U z0 s) (n : Nat) (margin : Nat) (hU : Part.sub [.unit .vce, .unit .lgs] U = true) : SameOutside U z0 (State.marginFailed s n margin) := by
  unfold State.marginFailed
  try dsimp only
  repeat' first
    | (with_reducible assumption)
    | (with_reducible exact Part.sub_trans rfl hU)
    | (with_reducible exact Or.inl (Part.sub_trans rfl hU))
    | (with_reducible exact Or.inr rfl)
    | (with_reducible apply State.raise2_within)
    | (with_reducible apply State.put_within)

theorem State.matchRun_within {U : List Part} {z0 s : State} (hz : SameOutside U z0 s) (r : SlacRun) (n : Nat) (sum : Nat) (margin : Nat) (hU : Part.sub [.unit .vce, .unit .lgs] U = true) : SameOutside U z0 (State.matchRun s r n sum margin) := by
  unfold State.matchRun
  try dsimp only
  repeat' first
    | (with_reducible assumption)
    | (with_reducible exact Part.sub_trans rfl hU)
    | (with_reducible exact Or.inl (Part.sub_trans rfl hU))
    | (with_reducible exact Or.inr rfl)
    | (with_reducible apply State.marginFailed_within)
    | (with_reducible apply State.setRun_within)
    | (with_reducible apply State.send_within)
    | (with_reducible apply State.each_within)
    | (with_reducible apply State.onlyIf_within)
    | (with_reducible apply State.foldl_within)
    | (intro x k hx)
    | (intro x hx)
    | split
    | (with_reducible apply SameOutside.built)

theorem execSoundWindowClose_within (run : Nat) (sounds : List (Nat × Nat × List Nat)) (s : State) : Stays [.unit .vce, .unit .lgs] s (execSoundWindowClose run sounds s) := by
  have hU : Part.sub [.unit .vce, .unit .lgs] [.unit .vce, .unit .lgs] = true := rfl
  unfold execSoundWindowClose
  try dsimp only
  repeat' first
    | (with_reducible assumption)
    | (with_reducible exact Part.sub_trans rfl hU)
    | (with_reducible exact Or.inl (Part.sub_trans rfl hU))
    | (with_reducible exact Or.inr rfl)
    | (with_reducible exact SameOutside.refl _ _)
    | (with_reducible apply Stays.next)
    | (with_reducible apply State.matchRun_within)
    | (with_reducible apply State.moveTo_within)
    | (with_reducible apply State.setRun_within)
    | (with_reducible apply State.marginFailed_within)
    | (with_reducible apply State.each_within)
    | (with_reducible apply State.onlyIf_within)
    | (with_reducible apply State.foldl_within)
    | (intro x k hx)
    | (intro x hx)
    | split
    | (with_reducible apply SameOutside.built)

theorem State.slacFail_within {U : List Part} {z0 s : State} (hz : SameOutside U z0 s) (n : Nat) (hU : Part.sub [.unit .oiu, .unit .vce, .unit .lgs] U = true) : SameOutside U z0 (State.slacFail s n) := by
  unfold State.slacFail
  try dsimp only
  repeat' first
    | (with_reducible assumption)
    | (with_reducible exact Part.sub_trans rfl hU)
    | (with_reducible exact Or.inl (Part.sub_trans rfl hU))
    | (with_reducible exact Or.inr rfl)
    | (with_reducible apply State.raise2_within)
    | (with_reducible apply State.hlcFallback_within)
    | (with_reducible apply State.setVce_within)
    | (with_reducible apply State.put_within)
    | (with_reducible apply State.each_within)
    | (with_reducible apply State.onlyIf_within)
    | (with_reducible apply State.foldl_within)
    | (intro x k hx)
    | (intro x hx)
    | split
    | (with_reducible apply SameOutside.built)

theorem execCmSlacMatchReq_within (run : Nat) (n : Fin 24) (s : State) : Stays [.unit .oiu, .unit .vce, .unit .lgs] s (execCmSlacMatchReq run n s) := by
  have hU : Part.sub [.unit .oiu, .unit .vce, .unit .lgs] [.unit .oiu, .unit .vce, .unit .lgs] = true := rfl
  unfold execCmSlacMatchReq
  try dsimp only
  repeat' first
    | (with_reducible assumption)
    | (with_reducible exact Part.sub_trans rfl hU)
    | (with_reducible exact Or.inl (Part.sub_trans rfl hU))
    | (with_reducible exact Or.inr rfl)
    | (with_reducible exact SameOutside.refl _ _)
    | (with_reducible apply Stays.next)
    | (with_reducible apply State.send_within)
    | (with_reducible apply State.slacFail_within)
    | (with_reducible apply State.setVce_within)
    | (with_reducible apply State.each_within)
    | (with_reducible apply State.onlyIf_within)
    | (with_reducible apply State.foldl_within)
    | (intro x k hx)
    | (intro x hx)
    | split

theorem execLinkJoined_within (n : Fin 24) (s : State) : Stays [.unit .vce, .unit .lgs] s (execLinkJoined n s) := by
  have hU : Part.sub [.unit .vce, .unit .lgs] [.unit .vce, .unit .lgs] = true := rfl
  unfold execLinkJoined
  try dsimp only
  repeat' first
    | (with_reducible assumption)
    | (with_reducible exact Part.sub_trans rfl hU)
    | (with_reducible exact Or.inl (Part.sub_trans rfl hU))
    | (with_reducible exact Or.inr rfl)
    | (with_reducible exact SameOutside.refl _ _)
    | (with_reducible apply Stays.next)
    | (with_reducible apply State.raise2_within)
    | (with_reducible apply State.setVce_within)
    | (with_reducible apply State.put_within)
    | (with_reducible apply State.each_within)
    | (with_reducible apply State.onlyIf_within)
    | (with_reducible apply State.foldl_within)
    | (intro x k hx)
    | (intro x hx)
    | split
    | (with_reducible apply SameOutside.built)

theorem execSlacTimerExpiry_within (n : Fin 24) (s : State) : Stays [.unit .oiu, .unit .vce, .unit .lgs] s (execSlacTimerExpiry n s) := by
  have hU : Part.sub [.unit .oiu, .unit .vce, .unit .lgs] [.unit .oiu, .unit .vce, .unit .lgs] = true := rfl
  unfold execSlacTimerExpiry
  try dsimp only
  repeat' first
    | (with_reducible assumption)
    | (with_reducible exact Part.sub_trans rfl hU)
    | (with_reducible exact Or.inl (Part.sub_trans rfl hU))
    | (with_reducible exact Or.inr rfl)
    | (with_reducible exact SameOutside.refl _ _)
    | (with_reducible apply Stays.next)
    | (with_reducible apply State.slacFail_within)
    | (with_reducible apply State.moveTo_within)
    | (with_reducible apply State.each_within)
    | (with_reducible apply State.onlyIf_within)
    | (with_reducible apply State.foldl_within)
    | (intro x k hx)
    | (intro x hx)
    | split

theorem execSlacRetry_within (n : Fin 24) (s : State) : Stays [.unit .sch, .unit .oiu, .unit .vce, .unit .lgs, .unit .sec] s (execSlacRetry n s) := by
  have hU : Part.sub [.unit .sch, .unit .oiu, .unit .vce, .unit .lgs, .unit .sec] [.unit .sch, .unit .oiu, .unit .vce, .unit .lgs, .unit .sec] = true := rfl
  unfold execSlacRetry
  try dsimp only
  repeat' first
    | (with_reducible assumption)
    | (with_reducible exact Part.sub_trans rfl hU)
    | (with_reducible exact Or.inl (Part.sub_trans rfl hU))
    | (with_reducible exact Or.inr rfl)
    | (with_reducible exact SameOutside.refl _ _)
    | (with_reducible apply Stays.next)
    | (with_reducible apply State.moveTo_within)
    | (with_reducible apply State.setVce_within)
    | (with_reducible apply State.put_within)
    | (with_reducible apply State.requestLane_within)
    | (with_reducible apply State.each_within)
    | (with_reducible apply State.onlyIf_within)
    | (with_reducible apply State.foldl_within)
    | (intro x k hx)
    | (intro x hx)
    | split
    | (with_reducible apply SameOutside.built)

theorem execT1sLinkChange_within (k : Fin 8) (up : Bool) (s : State) : Stays [.unit .vce, .unit .lgs] s (execT1sLinkChange k up s) := by
  have hU : Part.sub [.unit .vce, .unit .lgs] [.unit .vce, .unit .lgs] = true := rfl
  unfold execT1sLinkChange
  try dsimp only
  repeat' first
    | (with_reducible assumption)
    | (with_reducible exact Part.sub_trans rfl hU)
    | (with_reducible exact Or.inl (Part.sub_trans rfl hU))
    | (with_reducible exact Or.inr rfl)
    | (with_reducible exact SameOutside.refl _ _)
    | (with_reducible apply Stays.next)
    | (with_reducible apply State.setVce_within)
    | (with_reducible apply State.t1sJoin_within)
    | (with_reducible apply State.each_within)
    | (with_reducible apply State.onlyIf_within)
    | (with_reducible apply State.foldl_within)
    | (intro x k hx)
    | (intro x hx)
    | split
    | (with_reducible apply SameOutside.built)

theorem execT1sLinkDown_within (k : Fin 8) (s : State) : Stays [.unit .sch, .unit .oiu, .unit .vce, .unit .efu, .unit .psw, .unit .lgs, .allocator] s (execT1sLinkDown k s) := by
  have hU : Part.sub [.unit .sch, .unit .oiu, .unit .vce, .unit .efu, .unit .psw, .unit .lgs, .allocator] [.unit .sch, .unit .oiu, .unit .vce, .unit .efu, .unit .psw, .unit .lgs, .allocator] = true := rfl
  unfold execT1sLinkDown
  try dsimp only
  repeat' first
    | (with_reducible assumption)
    | (with_reducible exact Part.sub_trans rfl hU)
    | (with_reducible exact Or.inl (Part.sub_trans rfl hU))
    | (with_reducible exact Or.inr rfl)
    | (with_reducible exact SameOutside.refl _ _)
    | (with_reducible apply Stays.next)
    | (with_reducible apply State.raise2_within)
    | (with_reducible apply State.writeCloseEn_within)
    | (with_reducible apply State.moveTo_within)
    | (with_reducible apply State.setVce_within)
    | (with_reducible apply State.endSession_within)
    | (with_reducible apply State.put_within)
    | (with_reducible apply State.each_within)
    | (with_reducible apply State.onlyIf_within)
    | (with_reducible apply State.foldl_within)
    | (intro x k hx)
    | (intro x hx)
    | split
    | (with_reducible apply SameOutside.built)

theorem State.offerTls_within {U : List Part} {z0 s : State} (hz : SameOutside U z0 s) (n : Nat) (hU : Part.sub [.unit .sch, .unit .oiu, .unit .vce, .unit .lgs, .unit .sec] U = true) : SameOutside U z0 (State.offerTls s n) := by
  unfold State.offerTls
  try dsimp only
  repeat' first
    | (with_reducible assumption)
    | (with_reducible exact Part.sub_trans rfl hU)
    | (with_reducible exact Or.inl (Part.sub_trans rfl hU))
    | (with_reducible exact Or.inr rfl)
    | (with_reducible apply State.bindStream_within)
    | (with_reducible apply State.send_within)
    | (with_reducible apply State.streamAdmitted_within)
    | (with_reducible apply State.refuseStream_within)
    | (with_reducible apply State.waitStream_within)
    | (with_reducible apply State.each_within)
    | (with_reducible apply State.onlyIf_within)
    | (with_reducible apply State.foldl_within)
    | (intro x k hx)
    | (intro x hx)
    | split
    | (with_reducible apply SameOutside.built)

theorem execSdpRequest_within (n : Fin 24) (tls : Bool) (s : State) : Stays [.unit .sch, .unit .oiu, .unit .vce, .unit .lgs, .unit .sec] s (execSdpRequest n tls s) := by
  have hU : Part.sub [.unit .sch, .unit .oiu, .unit .vce, .unit .lgs, .unit .sec] [.unit .sch, .unit .oiu, .unit .vce, .unit .lgs, .unit .sec] = true := rfl
  unfold execSdpRequest
  try dsimp only
  repeat' first
    | (with_reducible assumption)
    | (with_reducible exact Part.sub_trans rfl hU)
    | (with_reducible exact Or.inl (Part.sub_trans rfl hU))
    | (with_reducible exact Or.inr rfl)
    | (with_reducible exact SameOutside.refl _ _)
    | (with_reducible apply Stays.next)
    | (with_reducible apply State.raise2_within)
    | (with_reducible apply State.put_within)
    | (with_reducible apply State.send_within)
    | (with_reducible apply State.setVce_within)
    | (with_reducible apply State.offerTls_within)
    | (with_reducible apply State.each_within)
    | (with_reducible apply State.onlyIf_within)
    | (with_reducible apply State.foldl_within)
    | (intro x k hx)
    | (intro x hx)
    | split
    | (with_reducible apply SameOutside.built)

theorem State.respondWith_within {U : List Part} {z0 s : State} (hz : SameOutside U z0 s) (n : Nat) (code : Nat) (result : Nat) (fail : Option V2gFail) (hU : Part.sub [.unit .vce] U = true) : SameOutside U z0 (State.respondWith s n code result fail) := by
  unfold State.respondWith
  try dsimp only
  repeat' first
    | (with_reducible assumption)
    | (with_reducible exact Part.sub_trans rfl hU)
    | (with_reducible exact Or.inl (Part.sub_trans rfl hU))
    | (with_reducible exact Or.inr rfl)
    | (with_reducible apply State.send_within)
    | (with_reducible apply State.setVce_within)
    | (with_reducible apply State.hostRes_within)
    | (with_reducible apply State.each_within)
    | (with_reducible apply State.onlyIf_within)
    | (with_reducible apply State.foldl_within)
    | (intro x k hx)
    | (intro x hx)
    | split
    | (with_reducible apply SameOutside.built)

theorem State.respond_within {U : List Part} {z0 s : State} (hz : SameOutside U z0 s) (n : Nat) (code : Nat) (result : Nat) (hU : Part.sub [.unit .vce] U = true) : SameOutside U z0 (State.respond s n code result) := by
  unfold State.respond
  try dsimp only
  repeat' first
    | (with_reducible assumption)
    | (with_reducible exact Part.sub_trans rfl hU)
    | (with_reducible exact Or.inl (Part.sub_trans rfl hU))
    | (with_reducible exact Or.inr rfl)
    | (with_reducible apply State.respondWith_within)

theorem State.failRequest_within {U : List Part} {z0 s : State} (hz : SameOutside U z0 s) (n : Nat) (code : Nat) (f : V2gFail) (hU : Part.sub [.unit .sch, .unit .oiu, .unit .vce, .unit .efu, .unit .lgs] U = true) : SameOutside U z0 (State.failRequest s n code f) := by
  unfold State.failRequest
  try dsimp only
  repeat' first
    | (with_reducible assumption)
    | (with_reducible exact Part.sub_trans rfl hU)
    | (with_reducible exact Or.inl (Part.sub_trans rfl hU))
    | (with_reducible exact Or.inr rfl)
    | (with_reducible apply State.respondWith_within)
    | (with_reducible apply State.endSession_within)
    | (with_reducible apply State.each_within)
    | (with_reducible apply State.onlyIf_within)
    | (with_reducible apply State.foldl_within)
    | (intro x k hx)
    | (intro x hx)
    | split
    | (with_reducible apply SameOutside.built)

theorem State.selectProtocol_within {U : List Part} {z0 s : State} (hz : SameOutside U z0 s) (n : Nat) (offers : List Nat) (hU : Part.sub [.unit .sch, .unit .oiu, .unit .vce, .unit .efu, .unit .lgs] U = true) : SameOutside U z0 (State.selectProtocol s n offers) := by
  unfold State.selectProtocol
  try dsimp only
  repeat' first
    | (with_reducible assumption)
    | (with_reducible exact Part.sub_trans rfl hU)
    | (with_reducible exact Or.inl (Part.sub_trans rfl hU))
    | (with_reducible exact Or.inr rfl)
    | (with_reducible apply State.send_within)
    | (with_reducible apply State.setVce_within)
    | (with_reducible apply State.endSession_within)
    | (with_reducible apply State.put_within)
    | (with_reducible apply State.hostRes_within)
    | (with_reducible apply State.each_within)
    | (with_reducible apply State.onlyIf_within)
    | (with_reducible apply State.foldl_within)
    | (intro x k hx)
    | (intro x hx)
    | split
    | (with_reducible apply SameOutside.built)

theorem State.refuseContract_within {U : List Part} {z0 s : State} (hz : SameOutside U z0 s) (n : Nat) (code : Nat) (detail : Nat) (hU : Part.sub [.unit .vce, .unit .lgs] U = true) : SameOutside U z0 (State.refuseContract s n code detail) := by
  unfold State.refuseContract
  try dsimp only
  repeat' first
    | (with_reducible assumption)
    | (with_reducible exact Part.sub_trans rfl hU)
    | (with_reducible exact Or.inl (Part.sub_trans rfl hU))
    | (with_reducible exact Or.inr rfl)
    | (with_reducible apply State.respondWith_within)
    | (with_reducible apply State.raise2_within)
    | (with_reducible apply State.setVce_within)
    | (with_reducible apply State.each_within)
    | (with_reducible apply State.onlyIf_within)
    | (with_reducible apply State.foldl_within)
    | (intro x k hx)
    | (intro x hx)
    | split
    | (with_reducible apply SameOutside.built)

theorem State.awaitAuth_within {U : List Part} {z0 s : State} (hz : SameOutside U z0 s) (n : Nat) (code : Nat) (ask : Bool) (hU : Part.sub [.unit .vce, .unit .ntu] U = true) : SameOutside U z0 (State.awaitAuth s n code ask) := by
  unfold State.awaitAuth
  try dsimp only
  repeat' first
    | (with_reducible assumption)
    | (with_reducible exact Part.sub_trans rfl hU)
    | (with_reducible exact Or.inl (Part.sub_trans rfl hU))
    | (with_reducible exact Or.inr rfl)
    | (with_reducible apply State.setVce_within)
    | (with_reducible apply State.respond_within)
    | (with_reducible apply State.each_within)
    | (with_reducible apply State.onlyIf_within)
    | (with_reducible apply State.foldl_within)
    | (intro x k hx)
    | (intro x hx)
    | split
    | (with_reducible apply SameOutside.built)

theorem State.paymentDetails_within {U : List Part} {z0 s : State} (hz : SameOutside U z0 s) (n : Nat) (code : Nat) (check : Nat) (inList : Bool) (hU : Part.sub [.unit .sch, .unit .oiu, .unit .vce, .unit .efu, .unit .lgs] U = true) : SameOutside U z0 (State.paymentDetails s n code check inList) := by
  unfold State.paymentDetails
  try dsimp only
  repeat' first
    | (with_reducible assumption)
    | (with_reducible exact Part.sub_trans rfl hU)
    | (with_reducible exact Or.inl (Part.sub_trans rfl hU))
    | (with_reducible exact Or.inr rfl)
    | (with_reducible apply State.refuseContract_within)
    | (with_reducible apply State.failRequest_within)
    | (with_reducible apply State.setVce_within)
    | (with_reducible apply State.put_within)
    | (with_reducible apply State.respond_within)
    | (with_reducible apply State.each_within)
    | (with_reducible apply State.onlyIf_within)
    | (with_reducible apply State.foldl_within)
    | (intro x k hx)
    | (intro x hx)
    | split
    | (with_reducible apply SameOutside.built)

theorem State.decideContract_within {U : List Part} {z0 s : State} (hz : SameOutside U z0 s) (n : Nat) (code : Nat) (inList : Bool) (hU : Part.sub [.unit .vce, .unit .ntu] U = true) : SameOutside U z0 (State.decideContract s n code inList) := by
  unfold State.decideContract
  try dsimp only
  repeat' first
    | (with_reducible assumption)
    | (with_reducible exact Part.sub_trans rfl hU)
    | (with_reducible exact Or.inl (Part.sub_trans rfl hU))
    | (with_reducible exact Or.inr rfl)
    | (with_reducible apply State.awaitAuth_within)
    | (with_reducible apply State.setVce_within)
    | (with_reducible apply State.respond_within)
    | (with_reducible apply State.each_within)
    | (with_reducible apply State.onlyIf_within)
    | (with_reducible apply State.foldl_within)
    | (intro x k hx)
    | (intro x hx)
    | split

theorem State.authorise_within {U : List Part} {z0 s : State} (hz : SameOutside U z0 s) (n : Nat) (code : Nat) (contract : Option (Nat × Bool)) (hU : Part.sub [.unit .sch, .unit .oiu, .unit .vce, .unit .efu, .unit .lgs, .unit .ntu] U = true) : SameOutside U z0 (State.authorise s n code contract) := by
  unfold State.authorise
  try dsimp only
  repeat' first
    | (with_reducible assumption)
    | (with_reducible exact Part.sub_trans rfl hU)
    | (with_reducible exact Or.inl (Part.sub_trans rfl hU))
    | (with_reducible exact Or.inr rfl)
    | (with_reducible apply State.refuseContract_within)
    | (with_reducible apply State.respondWith_within)
    | (with_reducible apply State.awaitAuth_within)
    | (with_reducible apply State.failRequest_within)
    | (with_reducible apply State.setVce_within)
    | (with_reducible apply State.decideContract_within)
    | (with_reducible apply State.respond_within)
    | (with_reducible apply State.put_within)
    | (with_reducible apply State.each_within)
    | (with_reducible apply State.onlyIf_within)
    | (with_reducible apply State.foldl_within)
    | (intro x k hx)
    | (intro x hx)
    | split
    | (with_reducible apply SameOutside.built)

theorem State.answerCableCheck_within {U : List Part} {z0 s : State} (hz : SameOutside U z0 s) (n : Nat) (code : Nat) (hU : Part.sub [.unit .vce, .unit .efu] U = true) : SameOutside U z0 (State.answerCableCheck s n code) := by
  unfold State.answerCableCheck
  try dsimp only
  repeat' first
    | (with_reducible assumption)
    | (with_reducible exact Part.sub_trans rfl hU)
    | (with_reducible exact Or.inl (Part.sub_trans rfl hU))
    | (with_reducible exact Or.inr rfl)
    | (with_reducible apply State.setVce_within)
    | (with_reducible apply State.respond_within)
    | (with_reducible apply State.each_within)
    | (with_reducible apply State.onlyIf_within)
    | (with_reducible apply State.foldl_within)
    | (intro x k hx)
    | (intro x hx)
    | split
    | (with_reducible apply SameOutside.built)

theorem State.actOnCmd_within {U : List Part} {z0 s : State} (hz : SameOutside U z0 s) (n : Nat) (isStop : Bool) (hU : Part.sub [.unit .vce] U = true) : SameOutside U z0 (State.actOnCmd s n isStop) := by
  unfold State.actOnCmd
  try dsimp only
  repeat' first
    | (with_reducible assumption)
    | (with_reducible exact Part.sub_trans rfl hU)
    | (with_reducible exact Or.inl (Part.sub_trans rfl hU))
    | (with_reducible exact Or.inr rfl)
    | (with_reducible apply State.setVce_within)
    | (with_reducible apply State.put_within)
    | (with_reducible apply State.each_within)
    | (with_reducible apply State.onlyIf_within)
    | (with_reducible apply State.foldl_within)
    | (intro x k hx)
    | (intro x hx)
    | split

theorem State.forwardCertificate_within {U : List Part} {z0 s : State} (hz : SameOutside U z0 s) (n : Nat) (code : Nat) (exi : List Nat) (hU : Part.sub [.unit .vce, .unit .ntu] U = true) : SameOutside U z0 (State.forwardCertificate s n code exi) := by
  unfold State.forwardCertificate
  try dsimp only
  repeat' first
    | (with_reducible assumption)
    | (with_reducible exact Part.sub_trans rfl hU)
    | (with_reducible exact Or.inl (Part.sub_trans rfl hU))
    | (with_reducible exact Or.inr rfl)
    | (with_reducible apply State.setVce_within)
    | (with_reducible apply State.each_within)
    | (with_reducible apply State.onlyIf_within)
    | (with_reducible apply State.foldl_within)
    | (intro x k hx)
    | (intro x hx)
    | split
    | (with_reducible apply SameOutside.built)

theorem State.encodeLoop_within {U : List Part} {z0 s : State} (hz : SameOutside U z0 s) (n : Nat) (hU : Part.sub [.unit .vce] U = true) : SameOutside U z0 (State.encodeLoop s n) := by
  unfold State.encodeLoop
  try dsimp only
  repeat' first
    | (with_reducible assumption)
    | (with_reducible exact Part.sub_trans rfl hU)
    | (with_reducible exact Or.inl (Part.sub_trans rfl hU))
    | (with_reducible exact Or.inr rfl)
    | (with_reducible apply State.drawBytes_within)
    | (with_reducible apply State.draw_within)
    | (with_reducible apply State.setVce_within)
    | (with_reducible apply State.each_within)
    | (with_reducible apply State.onlyIf_within)
    | (with_reducible apply State.foldl_within)
    | (intro x k hx)
    | (intro x hx)
    | (with_reducible refine SameOutside.snd ?_ (by assumption))
    | split
    | (with_reducible apply SameOutside.built)

theorem State.seeHead_within {U : List Part} {z0 s : State} (hz : SameOutside U z0 s) (n : Nat) (hU : Part.sub [.unit .vce] U = true) : SameOutside U z0 (State.seeHead s n) := by
  unfold State.seeHead
  try dsimp only
  repeat' first
    | (with_reducible assumption)
    | (with_reducible exact Part.sub_trans rfl hU)
    | (with_reducible exact Or.inl (Part.sub_trans rfl hU))
    | (with_reducible exact Or.inr rfl)
    | (with_reducible apply State.setVce_within)
    | (with_reducible apply State.each_within)
    | (with_reducible apply State.onlyIf_within)
    | (with_reducible apply State.foldl_within)
    | (intro x k hx)
    | (intro x hx)

theorem State.answerStop_within {U : List Part} {z0 s : State} (hz : SameOutside U z0 s) (n : Nat) (m : V2gMsg) (hU : Part.sub [.unit .sch, .unit .oiu, .unit .vce, .unit .efu, .unit .psw, .unit .lgs, .allocator] U = true) : SameOutside U z0 (State.answerStop s n m) := by
  unfold State.answerStop
  try dsimp only
  repeat' first
    | (with_reducible assumption)
    | (with_reducible exact Part.sub_trans rfl hU)
    | (with_reducible exact Or.inl (Part.sub_trans rfl hU))
    | (with_reducible exact Or.inr rfl)
    | (with_reducible apply State.vceDrop_within)
    | (with_reducible apply State.writeCloseEn_within)
    | (with_reducible apply State.endSession_within)
    | (with_reducible apply State.respond_within)
    | (with_reducible apply State.each_within)
    | (with_reducible apply State.onlyIf_within)
    | (with_reducible apply State.foldl_within)
    | (intro x k hx)
    | (intro x hx)
    | split
    | (with_reducible apply SameOutside.built)

theorem State.answerService_within {U : List Part} {z0 s : State} (hz : SameOutside U z0 s) (n : Nat) (code : Nat) (svc : Nat) (dyn : Bool) (contract : Bool) (hU : Part.sub [.unit .sch, .unit .oiu, .unit .vce, .unit .efu, .unit .lgs] U = true) : SameOutside U z0 (State.answerService s n code svc dyn contract) := by
  unfold State.answerService
  try dsimp only
  repeat' first
    | (with_reducible assumption)
    | (with_reducible exact Part.sub_trans rfl hU)
    | (with_reducible exact Or.inl (Part.sub_trans rfl hU))
    | (with_reducible exact Or.inr rfl)
    | (with_reducible apply State.failRequest_within)
    | (with_reducible apply State.putFlag_within)
    | (with_reducible apply State.respond_within)
    | (with_reducible apply State.put_within)
    | (with_reducible apply State.each_within)
    | (with_reducible apply State.onlyIf_within)
    | (with_reducible apply State.foldl_within)
    | (intro x k hx)
    | (intro x hx)
    | split
    | (with_reducible apply SameOutside.built)

theorem State.answerCheckIn_within {U : List Part} {z0 s : State} (hz : SameOutside U z0 s) (n : Nat) (code : Nat) (outlet : Nat) (hU : Part.sub [.unit .vce] U = true) : SameOutside U z0 (State.answerCheckIn s n code outlet) := by
  unfold State.answerCheckIn
  try dsimp only
  repeat' first
    | (with_reducible assumption)
    | (with_reducible exact Part.sub_trans rfl hU)
    | (with_reducible exact Or.inl (Part.sub_trans rfl hU))
    | (with_reducible exact Or.inr rfl)
    | (with_reducible apply State.respondWith_within)
    | (with_reducible apply State.setVce_within)
    | (with_reducible apply State.respond_within)
    | (with_reducible apply State.each_within)
    | (with_reducible apply State.onlyIf_within)
    | (with_reducible apply State.foldl_within)
    | (intro x k hx)
    | (intro x hx)
    | split
    | (with_reducible apply SameOutside.built)

theorem State.answerCheckOut_within {U : List Part} {z0 s : State} (hz : SameOutside U z0 s) (n : Nat) (code : Nat) (hU : Part.sub [.unit .vce] U = true) : SameOutside U z0 (State.answerCheckOut s n code) := by
  unfold State.answerCheckOut
  try dsimp only
  repeat' first
    | (with_reducible assumption)
    | (with_reducible exact Part.sub_trans rfl hU)
    | (with_reducible exact Or.inl (Part.sub_trans rfl hU))
    | (with_reducible exact Or.inr rfl)
    | (with_reducible apply State.setVce_within)
    | (with_reducible apply State.respond_within)
    | (with_reducible apply State.each_within)
    | (with_reducible apply State.onlyIf_within)
    | (with_reducible apply State.foldl_within)
    | (intro x k hx)
    | (intro x hx)
    | split
    | (with_reducible apply SameOutside.built)

theorem State.answerMsg_within {U : List Part} {z0 s : State} (hz : SameOutside U z0 s) (n : Nat) (m : V2gMsg)
    (hU : Part.sub [.unit .sch, .unit .oiu, .unit .vce, .unit .efu, .unit .psw, .unit .lgs, .unit .ntu, .allocator] U = true) : SameOutside U z0 (State.answerMsg s n m) := by
  unfold State.answerMsg
  extract_lets gen stop s1 receipt _ s2 s3
  have h1 : SameOutside U z0 s1 := State.seeHead_within (State.actOnCmd_within hz _ _ (Part.sub_trans rfl hU)) _ (Part.sub_trans rfl hU)
  clear_value s1
  have h2 : SameOutside U z0 s2 := State.setVce_within h1 _ _ (Part.sub_trans rfl hU)
  clear_value s2
  have h3 : SameOutside U z0 s3 := State.onlyIf_within (fun x hx => State.encodeLoop_within hx _ (Part.sub_trans rfl hU)) h2
  clear_value s3
  have hr : ∀ c, SameOutside U z0 (s3.respond n m.code c) := fun c => State.respond_within h3 _ _ _ (Part.sub_trans rfl hU)
  split
  · exact State.respond_within (State.raise2_within (State.newSession_within (State.setVce_within (State.put_within h3 _ _ _ (Part.sub_trans rfl hU)) _ _
        (Part.sub_trans rfl hU)) _ (Part.sub_trans rfl hU)) _ _ _ (Part.sub_trans rfl hU)) _ _ _ (Part.sub_trans rfl hU)
  repeat' split
  all_goals first
    | with_reducible exact hr _
    | with_reducible exact State.answerStop_within h3 _ _ (Part.sub_trans rfl hU)
    | with_reducible exact State.answerCheckOut_within h3 _ _ (Part.sub_trans rfl hU)
    | with_reducible exact State.answerCableCheck_within h3 _ _ (Part.sub_trans rfl hU)
    | with_reducible exact State.forwardCertificate_within h3 _ _ _ (Part.sub_trans rfl hU)
    | with_reducible exact State.authorise_within h3 _ _ _ (Part.sub_trans rfl hU)
    | with_reducible exact State.answerService_within h3 _ _ _ _ _ (Part.sub_trans rfl hU)
    | with_reducible exact State.paymentDetails_within h3 _ _ _ _ (Part.sub_trans rfl hU)
    | with_reducible exact State.answerCheckIn_within h3 _ _ _ (Part.sub_trans rfl hU)

theorem State.saveSession_within {U : List Part} {z0 s : State} (hz : SameOutside U z0 s) (n : Nat) (hU : Part.sub [.unit .vce] U = true) : SameOutside U z0 (State.saveSession s n) := by
  unfold State.saveSession
  try dsimp only
  repeat' first
    | (with_reducible assumption)
    | (with_reducible exact Part.sub_trans rfl hU)
    | (with_reducible exact Or.inl (Part.sub_trans rfl hU))
    | (with_reducible exact Or.inr rfl)
    | (with_reducible apply State.setVce_within)

theorem State.answer_within {U : List Part} {z0 s : State} (hz : SameOutside U z0 s) (n : Nat) (m : V2gMsg) (flags : Nat) (lt : Nat) (hU : Part.sub [.unit .sch, .unit .oiu, .unit .vce, .unit .efu, .unit .psw, .unit .lgs, .unit .ntu, .allocator] U = true) : SameOutside U z0 (State.answer s n m flags lt) := by
  unfold State.answer
  try dsimp only
  repeat' first
    | (with_reducible assumption)
    | (with_reducible exact Part.sub_trans rfl hU)
    | (with_reducible exact Or.inl (Part.sub_trans rfl hU))
    | (with_reducible exact Or.inr rfl)
    | (with_reducible apply State.apply_within)
    | (with_reducible apply State.hostMsg_within)
    | (with_reducible apply State.selectProtocol_within)
    | (with_reducible apply State.answerMsg_within)
    | (with_reducible apply State.saveSession_within)
    | (with_reducible apply State.failRequest_within)
    | (with_reducible apply State.setVce_within)
    | (with_reducible apply State.each_within)
    | (with_reducible apply State.onlyIf_within)
    | (with_reducible apply State.foldl_within)
    | (intro x k hx)
    | (intro x hx)
    | split
    | (with_reducible apply SameOutside.built)

theorem State.take_within {U : List Part} {z0 s : State} (hz : SameOutside U z0 s) (n : Nat) (m : V2gMsg) (hU : Part.sub [.unit .sch, .unit .oiu, .unit .vce, .unit .efu, .unit .psw, .unit .lgs, .unit .ntu, .allocator] U = true) : SameOutside U z0 (State.take s n m) := by
  unfold State.take
  try dsimp only
  repeat' first
    | (with_reducible assumption)
    | (with_reducible exact Part.sub_trans rfl hU)
    | (with_reducible exact Or.inl (Part.sub_trans rfl hU))
    | (with_reducible exact Or.inr rfl)
    | (with_reducible apply State.handshakeDone_within)
    | (with_reducible apply State.answer_within)
    | (with_reducible apply State.store_within)
    | (with_reducible apply State.oversize_within)
    | (with_reducible apply State.each_within)
    | (with_reducible apply State.onlyIf_within)
    | (with_reducible apply State.foldl_within)
    | (intro x k hx)
    | (intro x hx)
    | split

theorem execSupportedAppProtocol_within (n : Fin 24) (offers : List Nat) (val : V2gVal) (exi : List Nat) (s : State) : Stays [.unit .sch, .unit .oiu, .unit .vce, .unit .efu, .unit .psw, .unit .lgs, .unit .ntu, .allocator] s (execSupportedAppProtocol n offers val exi s) := by
  have hU : Part.sub [.unit .sch, .unit .oiu, .unit .vce, .unit .efu, .unit .psw, .unit .lgs, .unit .ntu, .allocator] [.unit .sch, .unit .oiu, .unit .vce, .unit .efu, .unit .psw, .unit .lgs, .unit .ntu, .allocator] = true := rfl
  unfold execSupportedAppProtocol
  try dsimp only
  repeat' first
    | (with_reducible assumption)
    | (with_reducible exact Part.sub_trans rfl hU)
    | (with_reducible exact Or.inl (Part.sub_trans rfl hU))
    | (with_reducible exact Or.inr rfl)
    | (with_reducible exact SameOutside.refl _ _)
    | (with_reducible apply Stays.next)
    | (with_reducible apply State.take_within)

theorem execV2gRequest_within (n : Fin 24) (m : V2gMsg) (s : State) : Stays [.unit .sch, .unit .oiu, .unit .vce, .unit .efu, .unit .psw, .unit .lgs, .unit .ntu, .allocator] s (execV2gRequest n m s) := by
  have hU : Part.sub [.unit .sch, .unit .oiu, .unit .vce, .unit .efu, .unit .psw, .unit .lgs, .unit .ntu, .allocator] [.unit .sch, .unit .oiu, .unit .vce, .unit .efu, .unit .psw, .unit .lgs, .unit .ntu, .allocator] = true := rfl
  unfold execV2gRequest
  try dsimp only
  repeat' first
    | (with_reducible assumption)
    | (with_reducible exact Part.sub_trans rfl hU)
    | (with_reducible exact Or.inl (Part.sub_trans rfl hU))
    | (with_reducible exact Or.inr rfl)
    | (with_reducible exact SameOutside.refl _ _)
    | (with_reducible apply Stays.next)
    | (with_reducible apply State.take_within)

theorem execV2gTimeout_within (n : Fin 24) (kind : Fin 4) (s : State) : Stays [.unit .sch, .unit .oiu, .unit .vce, .unit .efu, .unit .lgs] s (execV2gTimeout n kind s) := by
  have hU : Part.sub [.unit .sch, .unit .oiu, .unit .vce, .unit .efu, .unit .lgs] [.unit .sch, .unit .oiu, .unit .vce, .unit .efu, .unit .lgs] = true := rfl
  unfold execV2gTimeout
  try dsimp only
  repeat' first
    | (with_reducible assumption)
    | (with_reducible exact Part.sub_trans rfl hU)
    | (with_reducible exact Or.inl (Part.sub_trans rfl hU))
    | (with_reducible exact Or.inr rfl)
    | (with_reducible exact SameOutside.refl _ _)
    | (with_reducible apply Stays.next)
    | (with_reducible apply State.respondWith_within)
    | (with_reducible apply State.raise2_within)
    | (with_reducible apply State.draw_within)
    | (with_reducible apply State.moveTo_within)
    | (with_reducible apply State.endSession_within)
    | (with_reducible apply State.each_within)
    | (with_reducible apply State.onlyIf_within)
    | (with_reducible apply State.foldl_within)
    | (intro x k hx)
    | (intro x hx)
    | (with_reducible refine SameOutside.snd ?_ (by assumption))
    | split
    | (with_reducible apply SameOutside.built)

theorem State.answerCert_within {U : List Part} {z0 s : State} (hz : SameOutside U z0 s) (n : Nat) (result : Nat) (hU : Part.sub [.unit .vce] U = true) : SameOutside U z0 (State.answerCert s n result) := by
  unfold State.answerCert
  try dsimp only
  repeat' first
    | (with_reducible assumption)
    | (with_reducible exact Part.sub_trans rfl hU)
    | (with_reducible exact Or.inl (Part.sub_trans rfl hU))
    | (with_reducible exact Or.inr rfl)
    | (with_reducible apply State.respondWith_within)
    | (with_reducible apply State.setVce_within)
    | (with_reducible apply State.each_within)
    | (with_reducible apply State.onlyIf_within)
    | (with_reducible apply State.foldl_within)
    | (intro x k hx)
    | (intro x hx)
    | split
    | (with_reducible apply SameOutside.built)

theorem execCertificateForwardTimeout_within (n : Fin 24) (s : State) : Stays [.unit .vce] s (execCertificateForwardTimeout n s) := by
  have hU : Part.sub [.unit .vce] [.unit .vce] = true := rfl
  unfold execCertificateForwardTimeout
  try dsimp only
  repeat' first
    | (with_reducible assumption)
    | (with_reducible exact Part.sub_trans rfl hU)
    | (with_reducible exact Or.inl (Part.sub_trans rfl hU))
    | (with_reducible exact Or.inr rfl)
    | (with_reducible exact SameOutside.refl _ _)
    | (with_reducible apply Stays.next)
    | (with_reducible apply State.answerCert_within)
    | (with_reducible apply State.moveTo_within)
    | (with_reducible apply State.each_within)
    | (with_reducible apply State.onlyIf_within)
    | (with_reducible apply State.foldl_within)
    | (intro x k hx)
    | (intro x hx)
    | split

theorem execOcppCertificateAnswer_within (n : Fin 24) (s : State) : Stays [.unit .vce] s (execOcppCertificateAnswer n s) := by
  have hU : Part.sub [.unit .vce] [.unit .vce] = true := rfl
  unfold execOcppCertificateAnswer
  try dsimp only
  repeat' first
    | (with_reducible assumption)
    | (with_reducible exact Part.sub_trans rfl hU)
    | (with_reducible exact Or.inl (Part.sub_trans rfl hU))
    | (with_reducible exact Or.inr rfl)
    | (with_reducible exact SameOutside.refl _ _)
    | (with_reducible apply Stays.next)
    | (with_reducible apply State.answerCert_within)
    | (with_reducible apply State.each_within)
    | (with_reducible apply State.onlyIf_within)
    | (with_reducible apply State.foldl_within)
    | (intro x k hx)
    | (intro x hx)
    | split

theorem execOcppAuthorisationResult_within (n : Fin 24) (accepted : Bool) (s : State) : Stays [.unit .vce] s (execOcppAuthorisationResult n accepted s) := by
  have hU : Part.sub [.unit .vce] [.unit .vce] = true := rfl
  unfold execOcppAuthorisationResult
  try dsimp only
  repeat' first
    | (with_reducible assumption)
    | (with_reducible exact Part.sub_trans rfl hU)
    | (with_reducible exact Or.inl (Part.sub_trans rfl hU))
    | (with_reducible exact Or.inr rfl)
    | (with_reducible exact SameOutside.refl _ _)
    | (with_reducible apply Stays.next)
    | (with_reducible apply State.saveSession_within)
    | (with_reducible apply State.setVce_within)
    | (with_reducible apply State.each_within)
    | (with_reducible apply State.onlyIf_within)
    | (with_reducible apply State.foldl_within)
    | (intro x k hx)
    | (intro x hx)
    | split

theorem State.writeOcmd_within {U : List Part} {z0 s : State} (hz : SameOutside U z0 s) (n : Nat) (cmd : Nat) (hU : Part.sub [.unit .vce] U = true) : SameOutside U z0 (State.writeOcmd s n cmd) := by
  unfold State.writeOcmd
  try dsimp only
  repeat' first
    | (with_reducible assumption)
    | (with_reducible exact Part.sub_trans rfl hU)
    | (with_reducible exact Or.inl (Part.sub_trans rfl hU))
    | (with_reducible exact Or.inr rfl)
    | (with_reducible apply State.setVce_within)
    | (with_reducible apply State.put_within)
    | (with_reducible apply State.each_within)
    | (with_reducible apply State.onlyIf_within)
    | (with_reducible apply State.foldl_within)
    | (intro x k hx)
    | (intro x hx)
    | split

theorem execStop_within (n : Fin 24) (s : State) : Stays [.unit .vce] s (execStop n s) := by
  have hU : Part.sub [.unit .vce] [.unit .vce] = true := rfl
  unfold execStop
  try dsimp only
  repeat' first
    | (with_reducible assumption)
    | (with_reducible exact Part.sub_trans rfl hU)
    | (with_reducible exact Or.inl (Part.sub_trans rfl hU))
    | (with_reducible exact Or.inr rfl)
    | (with_reducible exact SameOutside.refl _ _)
    | (with_reducible apply Stays.next)
    | (with_reducible apply State.writeOcmd_within)

theorem execPause_within (n : Fin 24) (s : State) : Stays [.unit .vce] s (execPause n s) := by
  have hU : Part.sub [.unit .vce] [.unit .vce] = true := rfl
  unfold execPause
  try dsimp only
  repeat' first
    | (with_reducible assumption)
    | (with_reducible exact Part.sub_trans rfl hU)
    | (with_reducible exact Or.inl (Part.sub_trans rfl hU))
    | (with_reducible exact Or.inr rfl)
    | (with_reducible exact SameOutside.refl _ _)
    | (with_reducible apply Stays.next)
    | (with_reducible apply State.writeOcmd_within)

theorem execRenegotiate_within (n : Fin 24) (s : State) : Stays [.unit .vce] s (execRenegotiate n s) := by
  have hU : Part.sub [.unit .vce] [.unit .vce] = true := rfl
  unfold execRenegotiate
  try dsimp only
  repeat' first
    | (with_reducible assumption)
    | (with_reducible exact Part.sub_trans rfl hU)
    | (with_reducible exact Or.inl (Part.sub_trans rfl hU))
    | (with_reducible exact Or.inr rfl)
    | (with_reducible exact SameOutside.refl _ _)
    | (with_reducible apply Stays.next)
    | (with_reducible apply State.writeOcmd_within)

theorem State.respondLoop_within {U : List Part} {z0 s : State} (hz : SameOutside U z0 s) (n : Nat) (hU : Part.sub [.unit .vce, .unit .lgs] U = true) : SameOutside U z0 (State.respondLoop s n) := by
  unfold State.respondLoop
  try dsimp only
  repeat' first
    | (with_reducible assumption)
    | (with_reducible exact Part.sub_trans rfl hU)
    | (with_reducible exact Or.inl (Part.sub_trans rfl hU))
    | (with_reducible exact Or.inr rfl)
    | (with_reducible apply State.raise2_within)
    | (with_reducible apply State.send_within)
    | (with_reducible apply State.count_within)
    | (with_reducible apply State.setVce_within)
    | (with_reducible apply State.put_within)
    | (with_reducible apply State.each_within)
    | (with_reducible apply State.onlyIf_within)
    | (with_reducible apply State.foldl_within)
    | (intro x k hx)
    | (intro x hx)
    | split
    | (with_reducible apply SameOutside.built)

theorem execLoopResponderAnswer_within (n : Fin 24) (s : State) : Stays [.unit .vce, .unit .lgs] s (execLoopResponderAnswer n s) := by
  have hU : Part.sub [.unit .vce, .unit .lgs] [.unit .vce, .unit .lgs] = true := rfl
  unfold execLoopResponderAnswer
  try dsimp only
  repeat' first
    | (with_reducible assumption)
    | (with_reducible exact Part.sub_trans rfl hU)
    | (with_reducible exact Or.inl (Part.sub_trans rfl hU))
    | (with_reducible exact Or.inr rfl)
    | (with_reducible exact SameOutside.refl _ _)
    | (with_reducible apply Stays.next)
    | (with_reducible apply State.respondLoop_within)
    | (with_reducible apply State.each_within)
    | (with_reducible apply State.onlyIf_within)
    | (with_reducible apply State.foldl_within)
    | (intro x k hx)
    | (intro x hx)
    | split

theorem State.drainRx_within {U : List Part} {z0 s : State} (hz : SameOutside U z0 s) (n : Nat) (hU : Part.sub [.unit .sch, .unit .oiu, .unit .vce, .unit .efu, .unit .psw, .unit .lgs, .unit .ntu, .allocator] U = true) : SameOutside U z0 (State.drainRx s n) := by
  unfold State.drainRx
  try dsimp only
  repeat' first
    | (with_reducible assumption)
    | (with_reducible exact Part.sub_trans rfl hU)
    | (with_reducible exact Or.inl (Part.sub_trans rfl hU))
    | (with_reducible exact Or.inr rfl)
    | (with_reducible apply State.hostMsg_within)
    | (with_reducible apply State.respondLoop_within)
    | (with_reducible apply State.answer_within)
    | (with_reducible apply State.setVce_within)
    | (with_reducible apply State.responderStops_within)
    | (with_reducible apply State.put_within)
    | (with_reducible apply State.each_within)
    | (with_reducible apply State.onlyIf_within)
    | (with_reducible apply State.foldl_within)
    | (intro x k hx)
    | (intro x hx)
    | split
    | (with_reducible apply SameOutside.built)

theorem State.resumeSessions_within {U : List Part} {z0 s : State} (hz : SameOutside U z0 s) (hU : Part.sub [.unit .vce] U = true) : SameOutside U z0 (State.resumeSessions s) := by
  unfold State.resumeSessions
  try dsimp only
  repeat' first
    | (with_reducible assumption)
    | (with_reducible exact Part.sub_trans rfl hU)
    | (with_reducible exact Or.inl (Part.sub_trans rfl hU))
    | (with_reducible exact Or.inr rfl)
    | (with_reducible apply State.setVce_within)
    | (with_reducible apply State.each_within)
    | (with_reducible apply State.onlyIf_within)
    | (with_reducible apply State.foldl_within)
    | (intro x k hx)

theorem execOffloadRestart_within (s : State) : Stays [.unit .sch, .unit .oiu, .unit .vce, .unit .efu, .unit .psw, .unit .lgs, .unit .ntu, .allocator] s (execOffloadRestart s) := by
  have hU : Part.sub [.unit .sch, .unit .oiu, .unit .vce, .unit .efu, .unit .psw, .unit .lgs, .unit .ntu, .allocator] [.unit .sch, .unit .oiu, .unit .vce, .unit .efu, .unit .psw, .unit .lgs, .unit .ntu, .allocator] = true := rfl
  unfold execOffloadRestart
  try dsimp only
  repeat' first
    | (with_reducible assumption)
    | (with_reducible exact Part.sub_trans rfl hU)
    | (with_reducible exact Or.inl (Part.sub_trans rfl hU))
    | (with_reducible exact Or.inr rfl)
    | (with_reducible exact SameOutside.refl _ _)
    | (with_reducible apply Stays.next)
    | (with_reducible apply State.drainRx_within)
    | (with_reducible apply State.resumeSessions_within)
    | (with_reducible apply State.put_within)
    | (with_reducible apply State.each_within)
    | (with_reducible apply State.onlyIf_within)
    | (with_reducible apply State.foldl_within)
    | (intro x k hx)
    | (intro x hx)
    | split
    | (with_reducible apply SameOutside.built)

theorem State.showLanesOn_within {U : List Part} {z0 s : State} (hz : SameOutside U z0 s) (hU : Part.sub [.unit .vce] U = true) : SameOutside U z0 (State.showLanesOn s) := by
  unfold State.showLanesOn
  try dsimp only
  repeat' first
    | (with_reducible assumption)
    | (with_reducible exact Part.sub_trans rfl hU)
    | (with_reducible exact Or.inl (Part.sub_trans rfl hU))
    | (with_reducible exact Or.inr rfl)
    | (with_reducible apply State.putFlag_within)
    | (with_reducible apply State.each_within)
    | (with_reducible apply State.onlyIf_within)
    | (with_reducible apply State.foldl_within)
    | (intro x k hx)

theorem State.vceWarm_within {U : List Part} {z0 s : State} (hz : SameOutside U z0 s) (hU : Part.sub [.unit .vce] U = true) : SameOutside U z0 (State.vceWarm s) := by
  unfold State.vceWarm
  try dsimp only
  repeat' first
    | (with_reducible assumption)
    | (with_reducible exact Part.sub_trans rfl hU)
    | (with_reducible exact Or.inl (Part.sub_trans rfl hU))
    | (with_reducible exact Or.inr rfl)
    | (with_reducible apply State.setVce_within)
    | (with_reducible apply State.put_within)
    | (with_reducible apply State.each_within)
    | (with_reducible apply State.onlyIf_within)
    | (with_reducible apply State.foldl_within)
    | (intro x k hx)

theorem State.vceReset_within {U : List Part} {z0 s : State} (hz : SameOutside U z0 s) (hU : Part.sub [.unit .sch, .unit .oiu, .unit .vce, .unit .efu, .unit .lgs, .latches] U = true) : SameOutside U z0 (State.vceReset s) := by
  unfold State.vceReset
  try dsimp only
  repeat' first
    | (with_reducible assumption)
    | (with_reducible exact Part.sub_trans rfl hU)
    | (with_reducible exact Or.inl (Part.sub_trans rfl hU))
    | (with_reducible exact Or.inr rfl)
    | (with_reducible apply State.showLanes_within)
    | (with_reducible apply State.vceFail_within)
    | (with_reducible apply State.clearUnit_within)
    | (with_reducible apply State.showLanesOn_within)
    | (with_reducible apply State.put_within)
    | (with_reducible apply State.each_within)
    | (with_reducible apply State.onlyIf_within)
    | (with_reducible apply State.foldl_within)
    | (intro x k hx)
    | (intro x hx)
    | split
    | (with_reducible apply SameOutside.built)

end Sys2Proof.Machine
end

