-- ==== Sys2Proof/Laws/WithinAllocator.lean ====
section
/-! SUPPORT. Every operation and every command of the allocator leaves the parts of the block alone that it does not touch (Laws/Within.lean). -/

namespace Sys2Proof.Machine

open Sys2Proof

theorem State.setCore_within {U : List Part} {z0 s : State} (hz : SameOutside U z0 s) (c : AllocCore) (hU : Part.sub [.allocator] U = true) : SameOutside U z0 (State.setCore s c) := by
  unfold State.setCore
  try dsimp only
  repeat' first
    | (with_reducible assumption)
    | (with_reducible exact Part.sub_trans rfl hU)
    | (with_reducible exact Or.inl (Part.sub_trans rfl hU))
    | (with_reducible exact Or.inr rfl)
    | (with_reducible apply State.each_within)
    | (with_reducible apply State.onlyIf_within)
    | (with_reducible apply State.foldl_within)
    | (intro x k hx)
    | (intro x hx)
    | split
    | (with_reducible apply SameOutside.built)

theorem State.trackLow_within {U : List Part} {z0 s : State} (hz : SameOutside U z0 s) (v : VehIn) (hU : Part.sub [.allocator] U = true) : SameOutside U z0 (State.trackLow s v) := by
  unfold State.trackLow
  try dsimp only
  repeat' first
    | (with_reducible assumption)
    | (with_reducible exact Part.sub_trans rfl hU)
    | (with_reducible exact Or.inl (Part.sub_trans rfl hU))
    | (with_reducible exact Or.inr rfl)
    | (with_reducible apply State.setCore_within)
    | (with_reducible apply State.each_within)
    | (with_reducible apply State.onlyIf_within)
    | (with_reducible apply State.foldl_within)
    | (intro x k hx)
    | (intro x hx)
    | split

theorem State.ownInterval_within {U : List Part} {z0 s : State} (hz : SameOutside U z0 s) (hU : Part.sub [.allocator] U = true) : SameOutside U z0 (State.ownInterval s) := by
  unfold State.ownInterval
  try dsimp only
  repeat' first
    | (with_reducible assumption)
    | (with_reducible exact Part.sub_trans rfl hU)
    | (with_reducible exact Or.inl (Part.sub_trans rfl hU))
    | (with_reducible exact Or.inr rfl)
    | (with_reducible apply State.setCore_within)
    | (with_reducible apply State.each_within)
    | (with_reducible apply State.onlyIf_within)
    | (with_reducible apply State.foldl_within)
    | (intro x k hx)
    | (intro x hx)
    | split

theorem State.trackInterval_within {U : List Part} {z0 s : State} (hz : SameOutside U z0 s) (hU : Part.sub [.unit .lgs, .allocator] U = true) : SameOutside U z0 (State.trackInterval s) := by
  unfold State.trackInterval
  try dsimp only
  repeat' first
    | (with_reducible assumption)
    | (with_reducible exact Part.sub_trans rfl hU)
    | (with_reducible exact Or.inl (Part.sub_trans rfl hU))
    | (with_reducible exact Or.inr rfl)
    | (with_reducible apply State.raise_within)
    | (with_reducible apply State.ownInterval_within)
    | (with_reducible apply State.setCore_within)
    | (with_reducible apply State.each_within)
    | (with_reducible apply State.onlyIf_within)
    | (with_reducible apply State.foldl_within)
    | (intro x k hx)
    | (intro x hx)
    | split
    | (with_reducible apply SameOutside.built)

theorem State.breachStep_within {U : List Part} {z0 s : State} (hz : SameOutside U z0 s) (t : Nat) (p : Int) (hU : Part.sub [.unit .lgs, .allocator] U = true) : SameOutside U z0 (State.breachStep s t p) := by
  unfold State.breachStep
  try dsimp only
  repeat' first
    | (with_reducible assumption)
    | (with_reducible exact Part.sub_trans rfl hU)
    | (with_reducible exact Or.inl (Part.sub_trans rfl hU))
    | (with_reducible exact Or.inr rfl)
    | (with_reducible apply State.raise2_within)
    | (with_reducible apply State.setCore_within)
    | (with_reducible apply State.each_within)
    | (with_reducible apply State.onlyIf_within)
    | (with_reducible apply State.foldl_within)
    | (intro x k hx)
    | (intro x hx)
    | split

theorem State.checkBreach_within {U : List Part} {z0 s : State} (hz : SameOutside U z0 s) (hU : Part.sub [.unit .lgs, .allocator] U = true) : SameOutside U z0 (State.checkBreach s) := by
  unfold State.checkBreach
  try dsimp only
  repeat' first
    | (with_reducible assumption)
    | (with_reducible exact Part.sub_trans rfl hU)
    | (with_reducible exact Or.inl (Part.sub_trans rfl hU))
    | (with_reducible exact Or.inr rfl)
    | (with_reducible apply State.breachStep_within)
    | (with_reducible apply State.each_within)
    | (with_reducible apply State.onlyIf_within)
    | (with_reducible apply State.foldl_within)
    | (intro x k hx)
    | (intro x hx)
    | split
    | (with_reducible apply SameOutside.built)

theorem State.pause_within {U : List Part} {z0 s : State} (hz : SameOutside U z0 s) (v : VehIn) (computed : Int) (g : Int) (hU : Part.sub [.unit .lgs, .allocator] U = true) : SameOutside U z0 (State.pause s v computed g).2 := by
  unfold State.pause
  try dsimp only
  repeat' first
    | (with_reducible assumption)
    | (with_reducible exact Part.sub_trans rfl hU)
    | (with_reducible exact Or.inl (Part.sub_trans rfl hU))
    | (with_reducible exact Or.inr rfl)
    | (with_reducible apply State.raise2_within)
    | (with_reducible apply State.setCore_within)
    | (with_reducible apply State.each_within)
    | (with_reducible apply State.onlyIf_within)
    | (with_reducible apply State.foldl_within)
    | (intro x k hx)
    | (intro x hx)
    | split

theorem State.writeSignals_within {U : List Part} {z0 s : State} (hz : SameOutside U z0 s) (v : VehIn) (g : Int) (hU : Part.sub [.allocator] U = true) : SameOutside U z0 (State.writeSignals s v g) := by
  unfold State.writeSignals
  try dsimp only
  repeat' first
    | (with_reducible assumption)
    | (with_reducible exact Part.sub_trans rfl hU)
    | (with_reducible exact Or.inl (Part.sub_trans rfl hU))
    | (with_reducible exact Or.inr rfl)
    | (with_reducible apply State.setCore_within)
    | (with_reducible apply State.each_within)
    | (with_reducible apply State.onlyIf_within)
    | (with_reducible apply State.foldl_within)
    | (intro x k hx)
    | (intro x hx)
    | split

theorem State.handLimits_within {U : List Part} {z0 s : State} (hz : SameOutside U z0 s) (n : Nat) (g : Int) (hU : Part.sub [.unit .vce] U = true) : SameOutside U z0 (State.handLimits s n g) := by
  unfold State.handLimits
  try dsimp only
  repeat' first
    | (with_reducible assumption)
    | (with_reducible exact Part.sub_trans rfl hU)
    | (with_reducible exact Or.inl (Part.sub_trans rfl hU))
    | (with_reducible exact Or.inr rfl)
    | (with_reducible apply State.setVce_within)
    | (with_reducible apply State.each_within)
    | (with_reducible apply State.onlyIf_within)
    | (with_reducible apply State.foldl_within)
    | (intro x k hx)
    | (intro x hx)
    | split

theorem State.writeGrant_within {U : List Part} {z0 s : State} (hz : SameOutside U z0 s) (v : VehIn) (g : Int) (hU : Part.sub [.unit .oiu, .unit .vce, .allocator] U = true) : SameOutside U z0 (State.writeGrant s v g) := by
  unfold State.writeGrant
  try dsimp only
  repeat' first
    | (with_reducible assumption)
    | (with_reducible exact Part.sub_trans rfl hU)
    | (with_reducible exact Or.inl (Part.sub_trans rfl hU))
    | (with_reducible exact Or.inr rfl)
    | (with_reducible apply State.writeSignals_within)
    | (with_reducible apply State.put_within)
    | (with_reducible apply State.handLimits_within)
    | (with_reducible apply State.each_within)
    | (with_reducible apply State.onlyIf_within)
    | (with_reducible apply State.foldl_within)
    | (intro x k hx)
    | (intro x hx)
    | split
    | (with_reducible apply SameOutside.built)

theorem State.trackSchedule_within {U : List Part} {z0 s : State} (hz : SameOutside U z0 s) (v : VehIn) (g : Int) (hU : Part.sub [.unit .vce, .allocator] U = true) : SameOutside U z0 (State.trackSchedule s v g) := by
  unfold State.trackSchedule
  try dsimp only
  repeat' first
    | (with_reducible assumption)
    | (with_reducible exact Part.sub_trans rfl hU)
    | (with_reducible exact Or.inl (Part.sub_trans rfl hU))
    | (with_reducible exact Or.inr rfl)
    | (with_reducible apply State.writeOcmd_within)
    | (with_reducible apply State.setCore_within)
    | (with_reducible apply State.each_within)
    | (with_reducible apply State.onlyIf_within)
    | (with_reducible apply State.foldl_within)
    | (intro x k hx)
    | (intro x hx)
    | split

theorem State.queueStorage_within {U : List Part} {z0 s : State} (hz : SameOutside U z0 s) (hU : Part.sub [.allocator] U = true) : SameOutside U z0 (State.queueStorage s) := by
  unfold State.queueStorage
  try dsimp only
  repeat' first
    | (with_reducible assumption)
    | (with_reducible exact Part.sub_trans rfl hU)
    | (with_reducible exact Or.inl (Part.sub_trans rfl hU))
    | (with_reducible exact Or.inr rfl)
    | (with_reducible apply State.each_within)
    | (with_reducible apply State.onlyIf_within)
    | (with_reducible apply State.foldl_within)
    | (intro x k hx)
    | (intro x hx)
    | split
    | (with_reducible apply SameOutside.built)

theorem State.queueSolar_within {U : List Part} {z0 s : State} (hz : SameOutside U z0 s) (hU : Part.sub [.allocator] U = true) : SameOutside U z0 (State.queueSolar s) := by
  unfold State.queueSolar
  try dsimp only
  repeat' first
    | (with_reducible assumption)
    | (with_reducible exact Part.sub_trans rfl hU)
    | (with_reducible exact Or.inl (Part.sub_trans rfl hU))
    | (with_reducible exact Or.inr rfl)
    | (with_reducible apply State.each_within)
    | (with_reducible apply State.onlyIf_within)
    | (with_reducible apply State.foldl_within)
    | (intro x k hx)
    | (intro x hx)
    | split
    | (with_reducible apply SameOutside.built)

theorem State.placeSources_within {U : List Part} {z0 s : State} (hz : SameOutside U z0 s) (draw : Int) (agrid : Int) (lift : Bool) (hU : Part.sub [.allocator] U = true) : SameOutside U z0 (State.placeSources s draw agrid lift) := by
  unfold State.placeSources
  try dsimp only
  repeat' first
    | (with_reducible assumption)
    | (with_reducible exact Part.sub_trans rfl hU)
    | (with_reducible exact Or.inl (Part.sub_trans rfl hU))
    | (with_reducible exact Or.inr rfl)
    | (with_reducible apply State.queueSolar_within)
    | (with_reducible apply State.setCore_within)
    | (with_reducible apply State.queueStorage_within)
    | (with_reducible apply State.each_within)
    | (with_reducible apply State.onlyIf_within)
    | (with_reducible apply State.foldl_within)
    | (intro x k hx)
    | (intro x hx)
    | split
    | (with_reducible apply SameOutside.built)

theorem State.settle_within {U : List Part} {z0 s : State} (hz : SameOutside U z0 s) (l : List (VehIn × Share)) (site : Option Int)
    (hU : Part.sub [.unit .oiu, .unit .vce, .unit .lgs, .allocator] U = true) : SameOutside U z0 (State.settle s l site).1 := by
  induction l generalizing s site with
  | nil => exact hz
  | cons p l ih =>
    unfold State.settle
    extract_lets
    dsimp only
    refine ih ?_ _
    refine State.trackSchedule_within (State.writeGrant_within (State.setCore_within (SameOutside.snd (State.pause_within hz _ _ _ ?_) rfl) _ ?_) _ _ ?_) _ _ ?_
    all_goals exact Part.sub_trans rfl hU

theorem State.dropGrants_within {U : List Part} {z0 s : State} (hz : SameOutside U z0 s) (keep : List Nat) (hU : Part.sub [.unit .oiu, .unit .vce, .allocator] U = true) : SameOutside U z0 (State.dropGrants s keep) := by
  unfold State.dropGrants
  try dsimp only
  repeat' first
    | (with_reducible assumption)
    | (with_reducible exact Part.sub_trans rfl hU)
    | (with_reducible exact Or.inl (Part.sub_trans rfl hU))
    | (with_reducible exact Or.inr rfl)
    | (with_reducible apply State.setCore_within)
    | (with_reducible apply State.writeGrant_within)
    | (with_reducible apply State.each_within)
    | (with_reducible apply State.onlyIf_within)
    | (with_reducible apply State.foldl_within)
    | (intro x k hx)
    | (intro x hx)
    | split
    | (with_reducible apply SameOutside.built)

theorem State.resumeCycle_within {U : List Part} {z0 s : State} (hz : SameOutside U z0 s) (hU : Part.sub [.unit .lgs, .allocator] U = true) : SameOutside U z0 (State.resumeCycle s) := by
  unfold State.resumeCycle
  try dsimp only
  repeat' first
    | (with_reducible assumption)
    | (with_reducible exact Part.sub_trans rfl hU)
    | (with_reducible exact Or.inl (Part.sub_trans rfl hU))
    | (with_reducible exact Or.inr rfl)
    | (with_reducible apply State.raise_within)
    | (with_reducible apply State.each_within)
    | (with_reducible apply State.onlyIf_within)
    | (with_reducible apply State.foldl_within)
    | (intro x k hx)
    | (intro x hx)
    | split
    | (with_reducible apply SameOutside.built)

theorem State.demandPower_within {U : List Part} {z0 s : State} (hz : SameOutside U z0 s) (unlimited : Int) (need : Int) (hU : Part.sub [.unit .lgs, .allocator] U = true) : SameOutside U z0 (State.demandPower s unlimited need).2 := by
  unfold State.demandPower
  try dsimp only
  repeat' first
    | (with_reducible assumption)
    | (with_reducible exact Part.sub_trans rfl hU)
    | (with_reducible exact Or.inl (Part.sub_trans rfl hU))
    | (with_reducible exact Or.inr rfl)
    | (with_reducible apply State.raise_within)
    | (with_reducible apply State.setCore_within)
    | (with_reducible apply State.each_within)
    | (with_reducible apply State.onlyIf_within)
    | (with_reducible apply State.foldl_within)
    | (intro x k hx)
    | (intro x hx)
    | split

theorem State.report_within {U : List Part} {z0 s : State} (hz : SameOutside U z0 s) (pdem : Int) (pbase : Int) (short : Bool) (l : List ReportEntry) (hU : Part.sub [.allocator] U = true) : SameOutside U z0 (State.report s pdem pbase short l) := by
  unfold State.report
  try dsimp only
  repeat' first
    | (with_reducible assumption)
    | (with_reducible exact Part.sub_trans rfl hU)
    | (with_reducible exact Or.inl (Part.sub_trans rfl hU))
    | (with_reducible exact Or.inr rfl)
    | (with_reducible apply State.each_within)
    | (with_reducible apply State.onlyIf_within)
    | (with_reducible apply State.foldl_within)
    | (intro x k hx)
    | (intro x hx)
    | split
    | (with_reducible apply SameOutside.built)

theorem State.endProfiles_within {U : List Part} {z0 s : State} (hz : SameOutside U z0 s) (hU : Part.sub [.allocator] U = true) : SameOutside U z0 (State.endProfiles s) := by
  unfold State.endProfiles
  try dsimp only
  repeat' first
    | (with_reducible assumption)
    | (with_reducible exact Part.sub_trans rfl hU)
    | (with_reducible exact Or.inl (Part.sub_trans rfl hU))
    | (with_reducible exact Or.inr rfl)
    | (with_reducible apply State.each_within)
    | (with_reducible apply State.onlyIf_within)
    | (with_reducible apply State.foldl_within)
    | (intro x k hx)
    | (intro x hx)
    | split
    | (with_reducible apply SameOutside.built)

theorem State.allocate_within {U : List Part} {z0 s : State} (hz : SameOutside U z0 s) (hU : Part.sub [.unit .oiu, .unit .vce, .unit .lgs, .allocator] U = true) : SameOutside U z0 (State.allocate s) := by
  unfold State.allocate
  try dsimp only
  repeat' first
    | (with_reducible assumption)
    | (with_reducible exact Part.sub_trans rfl hU)
    | (with_reducible exact Or.inl (Part.sub_trans rfl hU))
    | (with_reducible exact Or.inr rfl)
    | (with_reducible apply State.dropGrants_within)
    | (with_reducible apply State.settle_within)
    | (with_reducible apply State.setCore_within)
    | (with_reducible apply State.report_within)
    | (with_reducible apply State.raise_within)
    | (with_reducible apply State.placeSources_within)
    | (with_reducible apply State.demandPower_within)
    | (with_reducible apply State.trackLow_within)
    | (with_reducible apply State.each_within)
    | (with_reducible apply State.onlyIf_within)
    | (with_reducible apply State.foldl_within)
    | (intro x k hx)
    | (intro x hx)
    | (with_reducible refine SameOutside.snd ?_ (by assumption))
    | (with_reducible refine SameOutside.fst ?_ (by assumption))
    | split
    | (with_reducible apply SameOutside.built)

theorem State.startCycle_within {U : List Part} {z0 s : State} (hz : SameOutside U z0 s) (hU : Part.sub [.unit .lgs, .allocator] U = true) : SameOutside U z0 (State.startCycle s) := by
  unfold State.startCycle
  try dsimp only
  repeat' first
    | (with_reducible assumption)
    | (with_reducible exact Part.sub_trans rfl hU)
    | (with_reducible exact Or.inl (Part.sub_trans rfl hU))
    | (with_reducible exact Or.inr rfl)
    | (with_reducible apply State.moveTo_within)
    | (with_reducible apply State.raise_within)
    | (with_reducible apply State.each_within)
    | (with_reducible apply State.onlyIf_within)
    | (with_reducible apply State.foldl_within)
    | (intro x k hx)
    | (intro x hx)
    | split
    | (with_reducible apply SameOutside.built)

theorem State.allocEpoch_within {U : List Part} {z0 s : State} (hz : SameOutside U z0 s) (hU : Part.sub [.allocator] U = true) : SameOutside U z0 (State.allocEpoch s) := by
  unfold State.allocEpoch
  try dsimp only
  repeat' first
    | (with_reducible assumption)
    | (with_reducible exact Part.sub_trans rfl hU)
    | (with_reducible exact Or.inl (Part.sub_trans rfl hU))
    | (with_reducible exact Or.inr rfl)
    | (with_reducible apply State.each_within)
    | (with_reducible apply State.onlyIf_within)
    | (with_reducible apply State.foldl_within)
    | (intro x k hx)
    | (intro x hx)
    | split
    | (with_reducible apply SameOutside.built)

theorem execAllocatorCycle_within (s : State) : Stays [.unit .oiu, .unit .vce, .unit .lgs, .unit .bcu, .allocator] s (execAllocatorCycle s) := by
  have hU : Part.sub [.unit .oiu, .unit .vce, .unit .lgs, .unit .bcu, .allocator] [.unit .oiu, .unit .vce, .unit .lgs, .unit .bcu, .allocator] = true := rfl
  unfold execAllocatorCycle
  try dsimp only
  repeat' first
    | (with_reducible assumption)
    | (with_reducible exact Part.sub_trans rfl hU)
    | (with_reducible exact Or.inl (Part.sub_trans rfl hU))
    | (with_reducible exact Or.inr rfl)
    | (with_reducible exact SameOutside.refl _ _)
    | (with_reducible apply Stays.next)
    | (with_reducible apply State.endProfiles_within)
    | (with_reducible apply State.checkBreach_within)
    | (with_reducible apply State.allocate_within)
    | (with_reducible apply State.startCycle_within)
    | (with_reducible apply State.trackInterval_within)
    | (with_reducible apply State.resumeCycle_within)
    | (with_reducible apply State.each_within)
    | (with_reducible apply State.onlyIf_within)
    | (with_reducible apply State.foldl_within)
    | (intro x k hx)
    | (intro x hx)
    | split
    | (with_reducible apply SameOutside.built)

theorem State.fallback_within {U : List Part} {z0 s : State} (hz : SameOutside U z0 s) (hU : Part.sub [.unit .oiu, .unit .vce, .unit .lgs, .allocator] U = true) : SameOutside U z0 (State.fallback s) := by
  unfold State.fallback
  try dsimp only
  repeat' first
    | (with_reducible assumption)
    | (with_reducible exact Part.sub_trans rfl hU)
    | (with_reducible exact Or.inl (Part.sub_trans rfl hU))
    | (with_reducible exact Or.inr rfl)
    | (with_reducible apply State.queueSolar_within)
    | (with_reducible apply State.writeGrant_within)
    | (with_reducible apply State.queueStorage_within)
    | (with_reducible apply State.raise_within)
    | (with_reducible apply State.setCore_within)
    | (with_reducible apply State.each_within)
    | (with_reducible apply State.onlyIf_within)
    | (with_reducible apply State.foldl_within)
    | (intro x k hx)
    | (intro x hx)
    | split
    | (with_reducible apply SameOutside.built)

theorem State.fallbackReport_within {U : List Part} {z0 s : State} (hz : SameOutside U z0 s) (hU : Part.sub [.allocator] U = true) : SameOutside U z0 (State.fallbackReport s) := by
  unfold State.fallbackReport
  try dsimp only
  repeat' first
    | (with_reducible assumption)
    | (with_reducible exact Part.sub_trans rfl hU)
    | (with_reducible exact Or.inl (Part.sub_trans rfl hU))
    | (with_reducible exact Or.inr rfl)
    | (with_reducible apply State.report_within)

theorem execCycleAbandon_within (s : State) : Stays [.unit .oiu, .unit .vce, .unit .lgs, .allocator] s (execCycleAbandon s) := by
  have hU : Part.sub [.unit .oiu, .unit .vce, .unit .lgs, .allocator] [.unit .oiu, .unit .vce, .unit .lgs, .allocator] = true := rfl
  unfold execCycleAbandon
  try dsimp only
  repeat' first
    | (with_reducible assumption)
    | (with_reducible exact Part.sub_trans rfl hU)
    | (with_reducible exact Or.inl (Part.sub_trans rfl hU))
    | (with_reducible exact Or.inr rfl)
    | (with_reducible exact SameOutside.refl _ _)
    | (with_reducible apply Stays.next)
    | (with_reducible apply State.queueStorage_within)
    | (with_reducible apply State.moveTo_within)
    | (with_reducible apply State.raise_within)
    | (with_reducible apply State.fallbackReport_within)
    | (with_reducible apply State.startCycle_within)
    | (with_reducible apply State.resumeCycle_within)
    | (with_reducible apply State.setCore_within)
    | (with_reducible apply State.fallback_within)
    | (with_reducible apply State.each_within)
    | (with_reducible apply State.onlyIf_within)
    | (with_reducible apply State.foldl_within)
    | (intro x k hx)
    | (intro x hx)
    | split
    | (with_reducible apply SameOutside.built)

theorem execBreachClear_within (s : State) : Stays [.unit .lgs, .allocator] s (execBreachClear s) := by
  have hU : Part.sub [.unit .lgs, .allocator] [.unit .lgs, .allocator] = true := rfl
  unfold execBreachClear
  try dsimp only
  repeat' first
    | (with_reducible assumption)
    | (with_reducible exact Part.sub_trans rfl hU)
    | (with_reducible exact Or.inl (Part.sub_trans rfl hU))
    | (with_reducible exact Or.inr rfl)
    | (with_reducible exact SameOutside.refl _ _)
    | (with_reducible apply Stays.next)
    | (with_reducible apply State.checkBreach_within)
    | (with_reducible apply State.moveTo_within)
    | (with_reducible apply State.raise_within)
    | (with_reducible apply State.setCore_within)
    | (with_reducible apply State.each_within)
    | (with_reducible apply State.onlyIf_within)
    | (with_reducible apply State.foldl_within)
    | (intro x k hx)
    | (intro x hx)
    | split
    | (with_reducible apply SameOutside.built)

theorem State.moduleLost_within {U : List Part} {z0 s : State} (hz : SameOutside U z0 s) (n : Nat) (detail : Nat) (hU : Part.sub [.unit .oiu, .unit .lgs, .allocator] U = true) : SameOutside U z0 (State.moduleLost s n detail) := by
  unfold State.moduleLost
  try dsimp only
  repeat' first
    | (with_reducible assumption)
    | (with_reducible exact Part.sub_trans rfl hU)
    | (with_reducible exact Or.inl (Part.sub_trans rfl hU))
    | (with_reducible exact Or.inr rfl)
    | (with_reducible apply State.raise2_within)
    | (with_reducible apply State.putFlag_within)
    | (with_reducible apply State.each_within)
    | (with_reducible apply State.onlyIf_within)
    | (with_reducible apply State.foldl_within)
    | (intro x k hx)
    | (intro x hx)
    | split
    | (with_reducible apply SameOutside.built)

theorem execModuleLost_within (n : Fin 24) (cause : Fin 3) (s : State) : Stays [.unit .oiu, .unit .lgs, .allocator] s (execModuleLost n cause s) := by
  have hU : Part.sub [.unit .oiu, .unit .lgs, .allocator] [.unit .oiu, .unit .lgs, .allocator] = true := rfl
  unfold execModuleLost
  try dsimp only
  repeat' first
    | (with_reducible assumption)
    | (with_reducible exact Part.sub_trans rfl hU)
    | (with_reducible exact Or.inl (Part.sub_trans rfl hU))
    | (with_reducible exact Or.inr rfl)
    | (with_reducible exact SameOutside.refl _ _)
    | (with_reducible apply Stays.next)
    | (with_reducible apply State.moveTo_within)
    | (with_reducible apply State.moduleLost_within)
    | (with_reducible apply State.each_within)
    | (with_reducible apply State.onlyIf_within)
    | (with_reducible apply State.foldl_within)
    | (intro x k hx)
    | (intro x hx)
    | split
    | (with_reducible apply SameOutside.built)

theorem execModuleLostCloseDrop_within (n : Fin 24) (s : State) : Stays [.unit .oiu, .unit .efu, .unit .psw, .unit .lgs, .allocator] s (execModuleLostCloseDrop n s) := by
  have hU : Part.sub [.unit .oiu, .unit .efu, .unit .psw, .unit .lgs, .allocator] [.unit .oiu, .unit .efu, .unit .psw, .unit .lgs, .allocator] = true := rfl
  unfold execModuleLostCloseDrop
  try dsimp only
  repeat' first
    | (with_reducible assumption)
    | (with_reducible exact Part.sub_trans rfl hU)
    | (with_reducible exact Or.inl (Part.sub_trans rfl hU))
    | (with_reducible exact Or.inr rfl)
    | (with_reducible exact SameOutside.refl _ _)
    | (with_reducible apply Stays.next)
    | (with_reducible apply State.moveTo_within)
    | (with_reducible apply State.writeCloseEn_within)
    | (with_reducible apply State.each_within)
    | (with_reducible apply State.onlyIf_within)
    | (with_reducible apply State.foldl_within)
    | (intro x k hx)
    | (intro x hx)
    | split
    | (with_reducible apply SameOutside.built)

theorem State.discoverAgain_within {U : List Part} {z0 s : State} (hz : SameOutside U z0 s) (rule : Nat) (hU : Part.sub [.unit .ntu] U = true) : SameOutside U z0 (State.discoverAgain s rule) := by
  unfold State.discoverAgain
  try dsimp only
  repeat' first
    | (with_reducible assumption)
    | (with_reducible exact Part.sub_trans rfl hU)
    | (with_reducible exact Or.inl (Part.sub_trans rfl hU))
    | (with_reducible exact Or.inr rfl)
    | (with_reducible apply State.put_within)
    | (with_reducible apply State.each_within)
    | (with_reducible apply State.onlyIf_within)
    | (with_reducible apply State.foldl_within)
    | (intro x k hx)
    | (intro x hx)
    | split

theorem execSunspecPoll_within (solar : Bool) (data : Option SunData) (s : State) : Stays [.unit .lgs, .unit .ntu, .allocator] s (execSunspecPoll solar data s) := by
  have hU : Part.sub [.unit .lgs, .unit .ntu, .allocator] [.unit .lgs, .unit .ntu, .allocator] = true := rfl
  unfold execSunspecPoll
  try dsimp only
  repeat' first
    | (with_reducible assumption)
    | (with_reducible exact Part.sub_trans rfl hU)
    | (with_reducible exact Or.inl (Part.sub_trans rfl hU))
    | (with_reducible exact Or.inr rfl)
    | (with_reducible exact SameOutside.refl _ _)
    | (with_reducible apply Stays.next)
    | (with_reducible apply State.discoverAgain_within)
    | (with_reducible apply State.raise_within)
    | (with_reducible apply State.each_within)
    | (with_reducible apply State.onlyIf_within)
    | (with_reducible apply State.foldl_within)
    | (intro x k hx)
    | (intro x hx)
    | split
    | (with_reducible apply SameOutside.built)

theorem State.answerProfile_within {U : List Part} {z0 s : State} (hz : SameOutside U z0 s) (ok : Bool) (hU : Part.sub [.unit .ntu] U = true) : SameOutside U z0 (State.answerProfile s ok) := by
  unfold State.answerProfile
  try dsimp only
  repeat' first
    | (with_reducible assumption)
    | (with_reducible exact Part.sub_trans rfl hU)
    | (with_reducible exact Or.inl (Part.sub_trans rfl hU))
    | (with_reducible exact Or.inr rfl)
    | (with_reducible apply State.each_within)
    | (with_reducible apply State.onlyIf_within)
    | (with_reducible apply State.foldl_within)
    | (intro x k hx)
    | (intro x hx)
    | split
    | (with_reducible apply SameOutside.built)

theorem execOcppChargingProfile_within (p : OcppProfile) (s : State) : Stays [.unit .lgs, .unit .ntu, .allocator] s (execOcppChargingProfile p s) := by
  have hU : Part.sub [.unit .lgs, .unit .ntu, .allocator] [.unit .lgs, .unit .ntu, .allocator] = true := rfl
  unfold execOcppChargingProfile
  try dsimp only
  repeat' first
    | (with_reducible assumption)
    | (with_reducible exact Part.sub_trans rfl hU)
    | (with_reducible exact Or.inl (Part.sub_trans rfl hU))
    | (with_reducible exact Or.inr rfl)
    | (with_reducible exact SameOutside.refl _ _)
    | (with_reducible apply Stays.next)
    | (with_reducible apply State.answerProfile_within)
    | (with_reducible apply State.raise2_within)
    | (with_reducible apply State.each_within)
    | (with_reducible apply State.onlyIf_within)
    | (with_reducible apply State.foldl_within)
    | (intro x k hx)
    | (intro x hx)
    | split
    | (with_reducible apply SameOutside.built)

theorem State.allocWarm_within {U : List Part} {z0 s : State} (hz : SameOutside U z0 s) (hU : Part.sub [.allocator] U = true) : SameOutside U z0 (State.allocWarm s) := by
  unfold State.allocWarm
  try dsimp only
  repeat' first
    | (with_reducible assumption)
    | (with_reducible exact Part.sub_trans rfl hU)
    | (with_reducible exact Or.inl (Part.sub_trans rfl hU))
    | (with_reducible exact Or.inr rfl)
    | (with_reducible apply State.each_within)
    | (with_reducible apply State.onlyIf_within)
    | (with_reducible apply State.foldl_within)
    | (intro x k hx)
    | (intro x hx)
    | split
    | (with_reducible apply SameOutside.built)

end Sys2Proof.Machine
end

