-- ==== Sys2Proof/Laws/WithinGroundsheet.lean ====
section
/-! SUPPORT. Every operation and every command of the GSE leaves the parts of the block alone that it does not touch (Laws/Within.lean). -/

namespace Sys2Proof.Machine

open Sys2Proof

theorem State.setGfn_within {U : List Part} {z0 s : State} (hz : SameOutside U z0 s) (k : Nat) (f : GFn) (hU : Part.sub [.unit .gse] U = true) : SameOutside U z0 (State.setGfn s k f) := by
  unfold State.setGfn
  try dsimp only
  repeat' first
    | (with_reducible assumption)
    | (with_reducible exact Part.sub_trans rfl hU)
    | (with_reducible exact Or.inl (Part.sub_trans rfl hU))
    | (with_reducible exact Or.inr rfl)
    | (with_reducible apply State.each_within)
    | (with_reducible apply State.onlyIf_within)
    | (with_reducible apply State.foldl_within)
    | (intro x k hx)
    | (intro x hx)
    | split
    | (with_reducible apply SameOutside.built)

theorem State.pullLines_within {U : List Part} {z0 s : State} (hz : SameOutside U z0 s) (hU : Part.sub [.unit .gse] U = true) : SameOutside U z0 (State.pullLines s) := by
  unfold State.pullLines
  try dsimp only
  repeat' first
    | (with_reducible assumption)
    | (with_reducible exact Part.sub_trans rfl hU)
    | (with_reducible exact Or.inl (Part.sub_trans rfl hU))
    | (with_reducible exact Or.inr rfl)
    | (with_reducible apply State.each_within)
    | (with_reducible apply State.onlyIf_within)
    | (with_reducible apply State.foldl_within)
    | (intro x k hx)
    | (intro x hx)
    | split
    | (with_reducible apply SameOutside.built)

theorem State.pullZreq_within {U : List Part} {z0 s : State} (hz : SameOutside U z0 s) (k : Nat) (on : Bool) (hU : Part.sub [.unit .gse] U = true) : SameOutside U z0 (State.pullZreq s k on) := by
  unfold State.pullZreq
  try dsimp only
  repeat' first
    | (with_reducible assumption)
    | (with_reducible exact Part.sub_trans rfl hU)
    | (with_reducible exact Or.inl (Part.sub_trans rfl hU))
    | (with_reducible exact Or.inr rfl)
    | (with_reducible apply State.pullLines_within)
    | (with_reducible apply State.setGfn_within)
    | (with_reducible apply State.each_within)
    | (with_reducible apply State.onlyIf_within)
    | (with_reducible apply State.foldl_within)
    | (intro x k hx)
    | (intro x hx)
    | split
    | (with_reducible apply SameOutside.built)

theorem State.watchEdm_within {U : List Part} {z0 s : State} (hz : SameOutside U z0 s) (k : Nat) (hU : Part.sub [.unit .gse] U = true) : SameOutside U z0 (State.watchEdm s k) := by
  unfold State.watchEdm
  try dsimp only
  repeat' first
    | (with_reducible assumption)
    | (with_reducible exact Part.sub_trans rfl hU)
    | (with_reducible exact Or.inl (Part.sub_trans rfl hU))
    | (with_reducible exact Or.inr rfl)
    | (with_reducible apply State.setGfn_within)
    | (with_reducible apply State.each_within)
    | (with_reducible apply State.onlyIf_within)
    | (with_reducible apply State.foldl_within)
    | (intro x k hx)
    | (intro x hx)
    | split

theorem State.watchUnlk_within {U : List Part} {z0 s : State} (hz : SameOutside U z0 s) (k : Nat) (r : SafeRec) (hU : Part.sub [.unit .gse] U = true) : SameOutside U z0 (State.watchUnlk s k r) := by
  unfold State.watchUnlk
  try dsimp only
  repeat' first
    | (with_reducible assumption)
    | (with_reducible exact Part.sub_trans rfl hU)
    | (with_reducible exact Or.inl (Part.sub_trans rfl hU))
    | (with_reducible exact Or.inr rfl)
    | (with_reducible apply State.putFlag_within)
    | (with_reducible apply State.setGfn_within)
    | (with_reducible apply State.each_within)
    | (with_reducible apply State.onlyIf_within)
    | (with_reducible apply State.foldl_within)
    | (intro x k hx)
    | (intro x hx)
    | split

theorem State.afterOutputs_within {U : List Part} {z0 s : State} (hz : SameOutside U z0 s) (hU : Part.sub [.unit .gse] U = true) : SameOutside U z0 (State.afterOutputs s) := by
  unfold State.afterOutputs
  try dsimp only
  repeat' first
    | (with_reducible assumption)
    | (with_reducible exact Part.sub_trans rfl hU)
    | (with_reducible exact Or.inl (Part.sub_trans rfl hU))
    | (with_reducible exact Or.inr rfl)
    | (with_reducible apply State.watchUnlk_within)
    | (with_reducible apply State.watchEdm_within)
    | (with_reducible apply State.put_within)
    | (with_reducible apply State.each_within)
    | (with_reducible apply State.onlyIf_within)
    | (with_reducible apply State.foldl_within)
    | (intro x k hx)
    | (intro x hx)
    | split
    | (with_reducible apply SameOutside.built)

theorem State.setReadback_within {U : List Part} {z0 s : State} (hz : SameOutside U z0 s) (so : Nat) (hU : Part.sub [.unit .gse] U = true) : SameOutside U z0 (State.setReadback s so) := by
  unfold State.setReadback
  try dsimp only
  repeat' first
    | (with_reducible assumption)
    | (with_reducible exact Part.sub_trans rfl hU)
    | (with_reducible exact Or.inl (Part.sub_trans rfl hU))
    | (with_reducible exact Or.inr rfl)
    | (with_reducible apply State.put_within)
    | (with_reducible apply State.each_within)
    | (with_reducible apply State.onlyIf_within)
    | (with_reducible apply State.foldl_within)
    | (intro x k hx)
    | (intro x hx)
    | split
    | (with_reducible apply SameOutside.built)

theorem State.setOutputs_within {U : List Part} {z0 s : State} (hz : SameOutside U z0 s) (so : Nat) (permit : Nat) (hU : Part.sub [.unit .oiu, .unit .efu, .unit .psw, .unit .gse, .unit .lgs, .allocator] U = true) : SameOutside U z0 (State.setOutputs s so permit) := by
  unfold State.setOutputs
  try dsimp only
  repeat' first
    | (with_reducible assumption)
    | (with_reducible exact Part.sub_trans rfl hU)
    | (with_reducible exact Or.inl (Part.sub_trans rfl hU))
    | (with_reducible exact Or.inr rfl)
    | (with_reducible apply State.afterOutputs_within)
    | (with_reducible apply State.swPermit_within)
    | (with_reducible apply State.setReadback_within)
    | (with_reducible apply State.contact_within)
    | (with_reducible apply State.put_within)
    | (with_reducible apply State.each_within)
    | (with_reducible apply State.onlyIf_within)
    | (with_reducible apply State.foldl_within)
    | (intro x k hx)
    | (intro x hx)
    | split
    | (with_reducible apply SameOutside.built)

theorem State.drive_within {U : List Part} {z0 s : State} (hz : SameOutside U z0 s) (hU : Part.sub [.unit .oiu, .unit .efu, .unit .psw, .unit .gse, .unit .lgs, .allocator] U = true) : SameOutside U z0 (State.drive s) := by
  unfold State.drive
  try dsimp only
  repeat' first
    | (with_reducible assumption)
    | (with_reducible exact Part.sub_trans rfl hU)
    | (with_reducible exact Or.inl (Part.sub_trans rfl hU))
    | (with_reducible exact Or.inr rfl)
    | (with_reducible apply State.raise_within)
    | (with_reducible apply State.putFlag_within)
    | (with_reducible apply State.setOutputs_within)
    | (with_reducible apply State.each_within)
    | (with_reducible apply State.onlyIf_within)
    | (with_reducible apply State.foldl_within)
    | (intro x k hx)
    | (intro x hx)
    | split
    | (with_reducible apply SameOutside.built)

theorem State.takeDemand_within {U : List Part} {z0 s : State} (hz : SameOutside U z0 s) (k : Nat) (r : SafeRec) (hU : Part.sub [.unit .gse, .unit .lgs] U = true) : SameOutside U z0 (State.takeDemand s k r) := by
  unfold State.takeDemand
  try dsimp only
  repeat' first
    | (with_reducible assumption)
    | (with_reducible exact Part.sub_trans rfl hU)
    | (with_reducible exact Or.inl (Part.sub_trans rfl hU))
    | (with_reducible exact Or.inr rfl)
    | (with_reducible apply State.pullZreq_within)
    | (with_reducible apply State.raise2_within)
    | (with_reducible apply State.putFlag_within)
    | (with_reducible apply State.setGfn_within)
    | (with_reducible apply State.each_within)
    | (with_reducible apply State.onlyIf_within)
    | (with_reducible apply State.foldl_within)
    | (intro x k hx)
    | (intro x hx)
    | split
    | (with_reducible apply SameOutside.built)

theorem State.demand_within {U : List Part} {z0 s : State} (hz : SameOutside U z0 s) (k : Nat) (r : SafeRec) (cause : Nat) (hU : Part.sub [.unit .gse, .unit .lgs] U = true) : SameOutside U z0 (State.demand s k r cause) := by
  unfold State.demand
  try dsimp only
  repeat' first
    | (with_reducible assumption)
    | (with_reducible exact Part.sub_trans rfl hU)
    | (with_reducible exact Or.inl (Part.sub_trans rfl hU))
    | (with_reducible exact Or.inr rfl)
    | (with_reducible apply State.takeDemand_within)
    | (with_reducible apply State.raise2_within)
    | (with_reducible apply State.count_within)
    | (with_reducible apply State.setGfn_within)
    | (with_reducible apply State.putFlag_within)
    | (with_reducible apply State.put_within)
    | (with_reducible apply State.each_within)
    | (with_reducible apply State.onlyIf_within)
    | (with_reducible apply State.foldl_within)
    | (intro x k hx)
    | (intro x hx)
    | split
    | (with_reducible apply SameOutside.built)

theorem State.showFaultInputs_within {U : List Part} {z0 s : State} (hz : SameOutside U z0 s) (hU : Part.sub [.unit .gse] U = true) : SameOutside U z0 (State.showFaultInputs s) := by
  unfold State.showFaultInputs
  try dsimp only
  repeat' first
    | (with_reducible assumption)
    | (with_reducible exact Part.sub_trans rfl hU)
    | (with_reducible exact Or.inl (Part.sub_trans rfl hU))
    | (with_reducible exact Or.inr rfl)
    | (with_reducible apply State.put_within)

theorem State.funcFault_within {U : List Part} {z0 s : State} (hz : SameOutside U z0 s) (k : Nat) (detail : Nat) (mask : Nat) (encoder : Bool) (hU : Part.sub [.unit .gse, .unit .lgs] U = true) : SameOutside U z0 (State.funcFault s k detail mask encoder) := by
  unfold State.funcFault
  try dsimp only
  repeat' first
    | (with_reducible assumption)
    | (with_reducible exact Part.sub_trans rfl hU)
    | (with_reducible exact Or.inl (Part.sub_trans rfl hU))
    | (with_reducible exact Or.inr rfl)
    | (with_reducible apply State.raise2_within)
    | (with_reducible apply State.count_within)
    | (with_reducible apply State.putFlag_within)
    | (with_reducible apply State.setGfn_within)
    | (with_reducible apply State.showFaultInputs_within)
    | (with_reducible apply State.put_within)
    | (with_reducible apply State.each_within)
    | (with_reducible apply State.onlyIf_within)
    | (with_reducible apply State.foldl_within)
    | (intro x k hx)
    | (intro x hx)
    | split
    | (with_reducible apply SameOutside.built)

theorem State.clearFault_within {U : List Part} {z0 s : State} (hz : SameOutside U z0 s) (k : Nat) (r : SafeRec) (cause : Nat) (hU : Part.sub [.unit .gse] U = true) : SameOutside U z0 (State.clearFault s k r cause) := by
  unfold State.clearFault
  try dsimp only
  repeat' first
    | (with_reducible assumption)
    | (with_reducible exact Part.sub_trans rfl hU)
    | (with_reducible exact Or.inl (Part.sub_trans rfl hU))
    | (with_reducible exact Or.inr rfl)
    | (with_reducible apply State.setGfn_within)
    | (with_reducible apply State.putFlag_within)
    | (with_reducible apply State.showFaultInputs_within)
    | (with_reducible apply State.put_within)
    | (with_reducible apply State.each_within)
    | (with_reducible apply State.onlyIf_within)
    | (with_reducible apply State.foldl_within)
    | (intro x k hx)
    | (intro x hx)
    | split
    | (with_reducible apply SameOutside.built)

theorem State.enable_within {U : List Part} {z0 s : State} (hz : SameOutside U z0 s) (k : Nat) (how : Nat) (hU : Part.sub [.unit .gse, .unit .lgs] U = true) : SameOutside U z0 (State.enable s k how) := by
  unfold State.enable
  try dsimp only
  repeat' first
    | (with_reducible assumption)
    | (with_reducible exact Part.sub_trans rfl hU)
    | (with_reducible exact Or.inl (Part.sub_trans rfl hU))
    | (with_reducible exact Or.inr rfl)
    | (with_reducible apply State.pullZreq_within)
    | (with_reducible apply State.raise2_within)
    | (with_reducible apply State.setGfn_within)
    | (with_reducible apply State.putFlag_within)
    | (with_reducible apply State.each_within)
    | (with_reducible apply State.onlyIf_within)
    | (with_reducible apply State.foldl_within)
    | (intro x k hx)
    | (intro x hx)
    | split
    | (with_reducible apply SameOutside.built)

theorem State.tryMute_within {U : List Part} {z0 s : State} (hz : SameOutside U z0 s) (k : Nat) (hU : Part.sub [.unit .gse, .unit .lgs] U = true) : SameOutside U z0 (State.tryMute s k) := by
  unfold State.tryMute
  try dsimp only
  repeat' first
    | (with_reducible assumption)
    | (with_reducible exact Part.sub_trans rfl hU)
    | (with_reducible exact Or.inl (Part.sub_trans rfl hU))
    | (with_reducible exact Or.inr rfl)
    | (with_reducible apply State.raise2_within)
    | (with_reducible apply State.setGfn_within)
    | (with_reducible apply State.putFlag_within)
    | (with_reducible apply State.each_within)
    | (with_reducible apply State.onlyIf_within)
    | (with_reducible apply State.foldl_within)
    | (intro x k hx)
    | (intro x hx)
    | split

theorem State.evaluate_within {U : List Part} {z0 s : State} (hz : SameOutside U z0 s) (k : Nat) (hU : Part.sub [.unit .gse, .unit .lgs] U = true) : SameOutside U z0 (State.evaluate s k) := by
  unfold State.evaluate
  try dsimp only
  repeat' first
    | (with_reducible assumption)
    | (with_reducible exact Part.sub_trans rfl hU)
    | (with_reducible exact Or.inl (Part.sub_trans rfl hU))
    | (with_reducible exact Or.inr rfl)
    | (with_reducible apply State.tryMute_within)
    | (with_reducible apply State.takeDemand_within)
    | (with_reducible apply State.demand_within)
    | (with_reducible apply State.setGfn_within)
    | (with_reducible apply State.putFlag_within)
    | (with_reducible apply State.clearFault_within)
    | (with_reducible apply State.enable_within)
    | (with_reducible apply State.each_within)
    | (with_reducible apply State.onlyIf_within)
    | (with_reducible apply State.foldl_within)
    | (intro x k hx)
    | (intro x hx)
    | split
    | (with_reducible apply SameOutside.built)

theorem State.readEncoder_within {U : List Part} {z0 s : State} (hz : SameOutside U z0 s) (k : Nat) (r : SafeRec) (w1 : Nat) (w2 : Nat) (frame : Bool) (hU : Part.sub [.unit .gse, .unit .lgs] U = true) : SameOutside U z0 (State.readEncoder s k r w1 w2 frame) := by
  unfold State.readEncoder
  try dsimp only
  repeat' first
    | (with_reducible assumption)
    | (with_reducible exact Part.sub_trans rfl hU)
    | (with_reducible exact Or.inl (Part.sub_trans rfl hU))
    | (with_reducible exact Or.inr rfl)
    | (with_reducible apply State.setGfn_within)
    | (with_reducible apply State.put_within)
    | (with_reducible apply State.funcFault_within)
    | (with_reducible apply State.each_within)
    | (with_reducible apply State.onlyIf_within)
    | (with_reducible apply State.foldl_within)
    | (intro x k hx)
    | (intro x hx)
    | split

theorem State.endMute_within {U : List Part} {z0 s : State} (hz : SameOutside U z0 s) (k : Nat) (hU : Part.sub [.unit .gse, .unit .lgs] U = true) : SameOutside U z0 (State.endMute s k) := by
  unfold State.endMute
  try dsimp only
  repeat' first
    | (with_reducible assumption)
    | (with_reducible exact Part.sub_trans rfl hU)
    | (with_reducible exact Or.inl (Part.sub_trans rfl hU))
    | (with_reducible exact Or.inr rfl)
    | (with_reducible apply State.raise2_within)
    | (with_reducible apply State.setGfn_within)
    | (with_reducible apply State.putFlag_within)
    | (with_reducible apply State.each_within)
    | (with_reducible apply State.onlyIf_within)
    | (with_reducible apply State.foldl_within)
    | (intro x k hx)
    | (intro x hx)
    | split

theorem State.muteInput_within {U : List Part} {z0 s : State} (hz : SameOutside U z0 s) (k : Nat) (hU : Part.sub [.unit .gse, .unit .lgs] U = true) : SameOutside U z0 (State.muteInput s k) := by
  unfold State.muteInput
  try dsimp only
  repeat' first
    | (with_reducible assumption)
    | (with_reducible exact Part.sub_trans rfl hU)
    | (with_reducible exact Or.inl (Part.sub_trans rfl hU))
    | (with_reducible exact Or.inr rfl)
    | (with_reducible apply State.endMute_within)
    | (with_reducible apply State.setGfn_within)
    | (with_reducible apply State.each_within)
    | (with_reducible apply State.onlyIf_within)
    | (with_reducible apply State.foldl_within)
    | (intro x k hx)
    | (intro x hx)
    | split

theorem State.watchPair_within {U : List Part} {z0 s : State} (hz : SameOutside U z0 s) (k : Nat) (r : SafeRec) (hU : Part.sub [.unit .gse] U = true) : SameOutside U z0 (State.watchPair s k r) := by
  unfold State.watchPair
  try dsimp only
  repeat' first
    | (with_reducible assumption)
    | (with_reducible exact Part.sub_trans rfl hU)
    | (with_reducible exact Or.inl (Part.sub_trans rfl hU))
    | (with_reducible exact Or.inr rfl)
    | (with_reducible apply State.setGfn_within)
    | (with_reducible apply State.each_within)
    | (with_reducible apply State.onlyIf_within)
    | (with_reducible apply State.foldl_within)
    | (intro x k hx)
    | (intro x hx)
    | split

theorem State.confirmCv_within {U : List Part} {z0 s : State} (hz : SameOutside U z0 s) (hU : Part.sub [.unit .gse, .unit .lgs] U = true) : SameOutside U z0 (State.confirmCv s) := by
  unfold State.confirmCv
  try dsimp only
  repeat' first
    | (with_reducible assumption)
    | (with_reducible exact Part.sub_trans rfl hU)
    | (with_reducible exact Or.inl (Part.sub_trans rfl hU))
    | (with_reducible exact Or.inr rfl)
    | (with_reducible apply State.request_within)
    | (with_reducible apply State.raise_within)
    | (with_reducible apply State.putFlag_within)
    | (with_reducible apply State.setGfn_within)
    | (with_reducible apply State.put_within)
    | (with_reducible apply State.each_within)
    | (with_reducible apply State.onlyIf_within)
    | (with_reducible apply State.foldl_within)
    | (intro x k hx)
    | (intro x hx)
    | split
    | (with_reducible apply SameOutside.built)

theorem State.inputsChanged_within {U : List Part} {z0 s : State} (hz : SameOutside U z0 s) (k : Nat) (r : SafeRec) (hU : Part.sub [.unit .gse, .unit .lgs] U = true) : SameOutside U z0 (State.inputsChanged s k r) := by
  unfold State.inputsChanged
  try dsimp only
  repeat' first
    | (with_reducible assumption)
    | (with_reducible exact Part.sub_trans rfl hU)
    | (with_reducible exact Or.inl (Part.sub_trans rfl hU))
    | (with_reducible exact Or.inr rfl)
    | (with_reducible apply State.confirmCv_within)
    | (with_reducible apply State.setGfn_within)
    | (with_reducible apply State.watchPair_within)
    | (with_reducible apply State.each_within)
    | (with_reducible apply State.onlyIf_within)
    | (with_reducible apply State.foldl_within)
    | (intro x k hx)
    | (intro x hx)
    | split
    | (with_reducible apply SameOutside.built)

theorem State.resetPulse_within {U : List Part} {z0 s : State} (hz : SameOutside U z0 s) (i : Nat) (len : Nat) (hU : Part.sub [.unit .gse, .unit .lgs] U = true) : SameOutside U z0 (State.resetPulse s i len) := by
  unfold State.resetPulse
  try dsimp only
  repeat' first
    | (with_reducible assumption)
    | (with_reducible exact Part.sub_trans rfl hU)
    | (with_reducible exact Or.inl (Part.sub_trans rfl hU))
    | (with_reducible exact Or.inr rfl)
    | (with_reducible apply State.raise2_within)
    | (with_reducible apply State.confirmCv_within)
    | (with_reducible apply State.each_within)
    | (with_reducible apply State.onlyIf_within)
    | (with_reducible apply State.foldl_within)
    | (intro x k hx)
    | (intro x hx)
    | split
    | (with_reducible apply SameOutside.built)

theorem State.inputConfirm_within {U : List Part} {z0 s : State} (hz : SameOutside U z0 s) (i : Nat) (isActive : Bool) (hU : Part.sub [.unit .gse, .unit .lgs] U = true) : SameOutside U z0 (State.inputConfirm s i isActive) := by
  unfold State.inputConfirm
  try dsimp only
  repeat' first
    | (with_reducible assumption)
    | (with_reducible exact Part.sub_trans rfl hU)
    | (with_reducible exact Or.inl (Part.sub_trans rfl hU))
    | (with_reducible exact Or.inr rfl)
    | (with_reducible apply State.putBit_within)
    | (with_reducible apply State.muteInput_within)
    | (with_reducible apply State.setGfn_within)
    | (with_reducible apply State.inputsChanged_within)
    | (with_reducible apply State.resetPulse_within)
    | (with_reducible apply State.afterOutputs_within)
    | (with_reducible apply State.each_within)
    | (with_reducible apply State.onlyIf_within)
    | (with_reducible apply State.foldl_within)
    | (intro x k hx)
    | (intro x hx)
    | split
    | (with_reducible apply SameOutside.built)

theorem State.learnTp_within {U : List Part} {z0 s : State} (hz : SameOutside U z0 s) (k : Nat) (i : Nat) (low : Bool) (hU : Part.sub [.unit .gse] U = true) : SameOutside U z0 (State.learnTp s k i low) := by
  unfold State.learnTp
  try dsimp only
  repeat' first
    | (with_reducible assumption)
    | (with_reducible exact Part.sub_trans rfl hU)
    | (with_reducible exact Or.inl (Part.sub_trans rfl hU))
    | (with_reducible exact Or.inr rfl)
    | (with_reducible apply State.each_within)
    | (with_reducible apply State.onlyIf_within)
    | (with_reducible apply State.foldl_within)
    | (intro x k hx)
    | (intro x hx)
    | split
    | (with_reducible apply SameOutside.built)

theorem execTestPulse_within (k : Fin 4) (reads : PulseReads) (s : State) : Stays [.unit .gse, .unit .lgs] s (execTestPulse k reads s) := by
  have hU : Part.sub [.unit .gse, .unit .lgs] [.unit .gse, .unit .lgs] = true := rfl
  unfold execTestPulse
  try dsimp only
  repeat' first
    | (with_reducible assumption)
    | (with_reducible exact Part.sub_trans rfl hU)
    | (with_reducible exact Or.inl (Part.sub_trans rfl hU))
    | (with_reducible exact Or.inr rfl)
    | (with_reducible exact SameOutside.refl _ _)
    | (with_reducible apply Stays.next)
    | (with_reducible apply State.learnTp_within)
    | (with_reducible apply State.moveTo_within)
    | (with_reducible apply State.funcFault_within)
    | (with_reducible apply State.each_within)
    | (with_reducible apply State.onlyIf_within)
    | (with_reducible apply State.foldl_within)
    | (intro x k hx)
    | (intro x hx)
    | split
    | (with_reducible apply SameOutside.built)

theorem execDiscrepancyTimeout_within (k : Fin 16) (s : State) : Stays [.unit .gse, .unit .lgs] s (execDiscrepancyTimeout k s) := by
  have hU : Part.sub [.unit .gse, .unit .lgs] [.unit .gse, .unit .lgs] = true := rfl
  unfold execDiscrepancyTimeout
  try dsimp only
  repeat' first
    | (with_reducible assumption)
    | (with_reducible exact Part.sub_trans rfl hU)
    | (with_reducible exact Or.inl (Part.sub_trans rfl hU))
    | (with_reducible exact Or.inr rfl)
    | (with_reducible exact SameOutside.refl _ _)
    | (with_reducible apply Stays.next)
    | (with_reducible apply State.moveTo_within)
    | (with_reducible apply State.setGfn_within)
    | (with_reducible apply State.funcFault_within)
    | (with_reducible apply State.each_within)
    | (with_reducible apply State.onlyIf_within)
    | (with_reducible apply State.foldl_within)
    | (intro x k hx)
    | (intro x hx)
    | split

theorem execStopdlyExpiry_within (k : Fin 16) (s : State) : Stays [.unit .oiu, .unit .efu, .unit .psw, .unit .gse, .unit .lgs, .allocator] s (execStopdlyExpiry k s) := by
  have hU : Part.sub [.unit .oiu, .unit .efu, .unit .psw, .unit .gse, .unit .lgs, .allocator] [.unit .oiu, .unit .efu, .unit .psw, .unit .gse, .unit .lgs, .allocator] = true := rfl
  unfold execStopdlyExpiry
  try dsimp only
  repeat' first
    | (with_reducible assumption)
    | (with_reducible exact Part.sub_trans rfl hU)
    | (with_reducible exact Or.inl (Part.sub_trans rfl hU))
    | (with_reducible exact Or.inr rfl)
    | (with_reducible exact SameOutside.refl _ _)
    | (with_reducible apply Stays.next)
    | (with_reducible apply State.drive_within)
    | (with_reducible apply State.moveTo_within)
    | (with_reducible apply State.setGfn_within)
    | (with_reducible apply State.putFlag_within)
    | (with_reducible apply State.each_within)
    | (with_reducible apply State.onlyIf_within)
    | (with_reducible apply State.foldl_within)
    | (intro x k hx)
    | (intro x hx)
    | split
    | (with_reducible apply SameOutside.built)

theorem execEdmFault_within (k : Fin 16) (s : State) : Stays [.unit .gse, .unit .lgs] s (execEdmFault k s) := by
  have hU : Part.sub [.unit .gse, .unit .lgs] [.unit .gse, .unit .lgs] = true := rfl
  unfold execEdmFault
  try dsimp only
  repeat' first
    | (with_reducible assumption)
    | (with_reducible exact Part.sub_trans rfl hU)
    | (with_reducible exact Or.inl (Part.sub_trans rfl hU))
    | (with_reducible exact Or.inr rfl)
    | (with_reducible exact SameOutside.refl _ _)
    | (with_reducible apply Stays.next)
    | (with_reducible apply State.moveTo_within)
    | (with_reducible apply State.setGfn_within)
    | (with_reducible apply State.funcFault_within)
    | (with_reducible apply State.each_within)
    | (with_reducible apply State.onlyIf_within)
    | (with_reducible apply State.foldl_within)
    | (intro x k hx)
    | (intro x hx)
    | split

theorem execUnlkdlyExpiry_within (k : Fin 16) (s : State) : Stays [.unit .gse] s (execUnlkdlyExpiry k s) := by
  have hU : Part.sub [.unit .gse] [.unit .gse] = true := rfl
  unfold execUnlkdlyExpiry
  try dsimp only
  repeat' first
    | (with_reducible assumption)
    | (with_reducible exact Part.sub_trans rfl hU)
    | (with_reducible exact Or.inl (Part.sub_trans rfl hU))
    | (with_reducible exact Or.inr rfl)
    | (with_reducible exact SameOutside.refl _ _)
    | (with_reducible apply Stays.next)
    | (with_reducible apply State.watchUnlk_within)
    | (with_reducible apply State.moveTo_within)
    | (with_reducible apply State.putFlag_within)
    | (with_reducible apply State.setGfn_within)
    | (with_reducible apply State.each_within)
    | (with_reducible apply State.onlyIf_within)
    | (with_reducible apply State.foldl_within)
    | (intro x k hx)
    | (intro x hx)
    | split
    | (with_reducible apply SameOutside.built)

theorem execMutingStart_within (k : Fin 16) (s : State) : Stays [.unit .gse, .unit .lgs] s (execMutingStart k s) := by
  have hU : Part.sub [.unit .gse, .unit .lgs] [.unit .gse, .unit .lgs] = true := rfl
  unfold execMutingStart
  try dsimp only
  repeat' first
    | (with_reducible assumption)
    | (with_reducible exact Part.sub_trans rfl hU)
    | (with_reducible exact Or.inl (Part.sub_trans rfl hU))
    | (with_reducible exact Or.inr rfl)
    | (with_reducible exact SameOutside.refl _ _)
    | (with_reducible apply Stays.next)
    | (with_reducible apply State.tryMute_within)
    | (with_reducible apply State.moveTo_within)
    | (with_reducible apply State.each_within)
    | (with_reducible apply State.onlyIf_within)
    | (with_reducible apply State.foldl_within)
    | (intro x k hx)
    | (intro x hx)
    | split
    | (with_reducible apply SameOutside.built)

theorem execMutingEnd_within (k : Fin 16) (s : State) : Stays [.unit .gse, .unit .lgs] s (execMutingEnd k s) := by
  have hU : Part.sub [.unit .gse, .unit .lgs] [.unit .gse, .unit .lgs] = true := rfl
  unfold execMutingEnd
  try dsimp only
  repeat' first
    | (with_reducible assumption)
    | (with_reducible exact Part.sub_trans rfl hU)
    | (with_reducible exact Or.inl (Part.sub_trans rfl hU))
    | (with_reducible exact Or.inr rfl)
    | (with_reducible exact SameOutside.refl _ _)
    | (with_reducible apply Stays.next)
    | (with_reducible apply State.endMute_within)
    | (with_reducible apply State.each_within)
    | (with_reducible apply State.onlyIf_within)
    | (with_reducible apply State.foldl_within)
    | (intro x k hx)
    | (intro x hx)
    | split

theorem execMutmaxExpiry_within (k : Fin 16) (s : State) : Stays [.unit .gse, .unit .lgs] s (execMutmaxExpiry k s) := by
  have hU : Part.sub [.unit .gse, .unit .lgs] [.unit .gse, .unit .lgs] = true := rfl
  unfold execMutmaxExpiry
  try dsimp only
  repeat' first
    | (with_reducible assumption)
    | (with_reducible exact Part.sub_trans rfl hU)
    | (with_reducible exact Or.inl (Part.sub_trans rfl hU))
    | (with_reducible exact Or.inr rfl)
    | (with_reducible exact SameOutside.refl _ _)
    | (with_reducible apply Stays.next)
    | (with_reducible apply State.endMute_within)
    | (with_reducible apply State.moveTo_within)
    | (with_reducible apply State.setGfn_within)
    | (with_reducible apply State.each_within)
    | (with_reducible apply State.onlyIf_within)
    | (with_reducible apply State.foldl_within)
    | (intro x k hx)
    | (intro x hx)
    | split
    | (with_reducible apply SameOutside.built)

theorem State.allOff_within {U : List Part} {z0 s : State} (hz : SameOutside U z0 s) (hU : Part.sub [.unit .oiu, .unit .efu, .unit .psw, .unit .gse, .unit .lgs, .allocator] U = true) : SameOutside U z0 (State.allOff s) := by
  unfold State.allOff
  try dsimp only
  repeat' first
    | (with_reducible assumption)
    | (with_reducible exact Part.sub_trans rfl hU)
    | (with_reducible exact Or.inl (Part.sub_trans rfl hU))
    | (with_reducible exact Or.inr rfl)
    | (with_reducible apply State.putFlag_within)
    | (with_reducible apply State.setGfn_within)
    | (with_reducible apply State.setOutputs_within)
    | (with_reducible apply State.each_within)
    | (with_reducible apply State.onlyIf_within)
    | (with_reducible apply State.foldl_within)
    | (intro x k hx)
    | (intro x hx)
    | split
    | (with_reducible apply SameOutside.built)

theorem State.gseFault_within {U : List Part} {z0 s : State} (hz : SameOutside U z0 s) (code : Nat) (hU : Part.sub [.unit .oiu, .unit .efu, .unit .psw, .unit .gse, .unit .lgs, .allocator] U = true) : SameOutside U z0 (State.gseFault s code) := by
  unfold State.gseFault
  try dsimp only
  repeat' first
    | (with_reducible assumption)
    | (with_reducible exact Part.sub_trans rfl hU)
    | (with_reducible exact Or.inl (Part.sub_trans rfl hU))
    | (with_reducible exact Or.inr rfl)
    | (with_reducible apply State.count_within)
    | (with_reducible apply State.raise_within)
    | (with_reducible apply State.allOff_within)
    | (with_reducible apply State.put_within)
    | (with_reducible apply State.each_within)
    | (with_reducible apply State.onlyIf_within)
    | (with_reducible apply State.foldl_within)
    | (intro x k hx)
    | (intro x hx)
    | split
    | (with_reducible apply SameOutside.built)

theorem execGseFault_within (code : Fin 8) (s : State) : Stays [.unit .oiu, .unit .efu, .unit .psw, .unit .gse, .unit .lgs, .allocator] s (execGseFault code s) := by
  have hU : Part.sub [.unit .oiu, .unit .efu, .unit .psw, .unit .gse, .unit .lgs, .allocator] [.unit .oiu, .unit .efu, .unit .psw, .unit .gse, .unit .lgs, .allocator] = true := rfl
  unfold execGseFault
  try dsimp only
  repeat' first
    | (with_reducible assumption)
    | (with_reducible exact Part.sub_trans rfl hU)
    | (with_reducible exact Or.inl (Part.sub_trans rfl hU))
    | (with_reducible exact Or.inr rfl)
    | (with_reducible exact SameOutside.refl _ _)
    | (with_reducible apply Stays.next)
    | (with_reducible apply State.gseFault_within)
    | (with_reducible apply State.each_within)
    | (with_reducible apply State.onlyIf_within)
    | (with_reducible apply State.foldl_within)
    | (intro x k hx)
    | (intro x hx)
    | split

theorem State.gseRelease_within {U : List Part} {z0 s : State} (hz : SameOutside U z0 s) (hU : Part.sub [.unit .oiu, .unit .efu, .unit .psw, .unit .gse, .unit .lgs, .allocator] U = true) : SameOutside U z0 (State.gseRelease s) := by
  unfold State.gseRelease
  try dsimp only
  repeat' first
    | (with_reducible assumption)
    | (with_reducible exact Part.sub_trans rfl hU)
    | (with_reducible exact Or.inl (Part.sub_trans rfl hU))
    | (with_reducible exact Or.inr rfl)
    | (with_reducible apply State.gseFault_within)
    | (with_reducible apply State.each_within)
    | (with_reducible apply State.onlyIf_within)
    | (with_reducible apply State.foldl_within)
    | (intro x k hx)
    | (intro x hx)
    | split
    | (with_reducible apply SameOutside.built)

theorem execSoDriveExpiry_within (k : Fin 4) (s : State) : Stays [.unit .gse] s (execSoDriveExpiry k s) := by
  have hU : Part.sub [.unit .gse] [.unit .gse] = true := rfl
  unfold execSoDriveExpiry
  try dsimp only
  repeat' first
    | (with_reducible assumption)
    | (with_reducible exact Part.sub_trans rfl hU)
    | (with_reducible exact Or.inl (Part.sub_trans rfl hU))
    | (with_reducible exact Or.inr rfl)
    | (with_reducible exact SameOutside.refl _ _)
    | (with_reducible apply Stays.next)
    | (with_reducible apply State.afterOutputs_within)
    | (with_reducible apply State.setReadback_within)
    | (with_reducible apply State.each_within)
    | (with_reducible apply State.onlyIf_within)
    | (with_reducible apply State.foldl_within)
    | (intro x k hx)
    | (intro x hx)
    | split
    | (with_reducible apply SameOutside.built)

theorem execVsioUndervoltage_within (s : State) : Stays [.unit .gse, .unit .lgs] s (execVsioUndervoltage s) := by
  have hU : Part.sub [.unit .gse, .unit .lgs] [.unit .gse, .unit .lgs] = true := rfl
  unfold execVsioUndervoltage
  try dsimp only
  repeat' first
    | (with_reducible assumption)
    | (with_reducible exact Part.sub_trans rfl hU)
    | (with_reducible exact Or.inl (Part.sub_trans rfl hU))
    | (with_reducible exact Or.inr rfl)
    | (with_reducible exact SameOutside.refl _ _)
    | (with_reducible apply Stays.next)
    | (with_reducible apply State.raise_within)
    | (with_reducible apply State.putFlag_within)
    | (with_reducible apply State.each_within)
    | (with_reducible apply State.onlyIf_within)
    | (with_reducible apply State.foldl_within)
    | (intro x k hx)
    | (intro x hx)
    | split

theorem execVsioUndervoltageEnd_within (s : State) : Stays [.unit .gse, .unit .lgs] s (execVsioUndervoltageEnd s) := by
  have hU : Part.sub [.unit .gse, .unit .lgs] [.unit .gse, .unit .lgs] = true := rfl
  unfold execVsioUndervoltageEnd
  try dsimp only
  repeat' first
    | (with_reducible assumption)
    | (with_reducible exact Part.sub_trans rfl hU)
    | (with_reducible exact Or.inl (Part.sub_trans rfl hU))
    | (with_reducible exact Or.inr rfl)
    | (with_reducible exact SameOutside.refl _ _)
    | (with_reducible apply Stays.next)
    | (with_reducible apply State.raise_within)
    | (with_reducible apply State.putFlag_within)
    | (with_reducible apply State.each_within)
    | (with_reducible apply State.onlyIf_within)
    | (with_reducible apply State.foldl_within)
    | (intro x k hx)
    | (intro x hx)
    | split

theorem State.gseStart_within {U : List Part} {z0 s : State} (hz : SameOutside U z0 s) (hU : Part.sub [.unit .oiu, .unit .efu, .unit .psw, .unit .gse, .unit .lgs, .allocator, .latches] U = true) :
    SameOutside U z0 (State.gseStart s) := by
  unfold State.gseStart
  extract_lets s1 keep
  have h1 : SameOutside U z0 s1 := State.allOff_within hz (Part.sub_trans rfl hU)
  clear_value s1
  have h3 : SameOutside U z0 (s1.clearUnit .gse (fun _ => true) keep) := State.clearUnit_within h1 _ _ _ (Part.sub_trans rfl hU) (Part.sub_trans rfl hU)
  apply SameOutside.built h3
  all_goals first
    | exact Or.inl (Part.sub_trans rfl hU)
    | exact Or.inr rfl

theorem State.gseTestsDone_within {U : List Part} {z0 s : State} (hz : SameOutside U z0 s) (failed : Nat) (inputs : Nat) (hU : Part.sub [.unit .oiu, .unit .efu, .unit .psw, .unit .gse, .unit .lgs, .allocator] U = true) : SameOutside U z0 (State.gseTestsDone s failed inputs) := by
  unfold State.gseTestsDone
  try dsimp only
  repeat' first
    | (with_reducible assumption)
    | (with_reducible exact Part.sub_trans rfl hU)
    | (with_reducible exact Or.inl (Part.sub_trans rfl hU))
    | (with_reducible exact Or.inr rfl)
    | (with_reducible apply State.pullLines_within)
    | (with_reducible apply State.moveTo_within)
    | (with_reducible apply State.raise_within)
    | (with_reducible apply State.putFlag_within)
    | (with_reducible apply State.setGfn_within)
    | (with_reducible apply State.inputsChanged_within)
    | (with_reducible apply State.afterOutputs_within)
    | (with_reducible apply State.gseFault_within)
    | (with_reducible apply State.put_within)
    | (with_reducible apply State.each_within)
    | (with_reducible apply State.onlyIf_within)
    | (with_reducible apply State.foldl_within)
    | (intro x k hx)
    | (intro x hx)
    | split
    | (with_reducible apply SameOutside.built)

theorem State.confirmLate_within {U : List Part} {z0 s : State} (hz : SameOutside U z0 s) (hU : Part.sub [.unit .gse, .unit .lgs] U = true) : SameOutside U z0 (State.confirmLate s) := by
  unfold State.confirmLate
  try dsimp only
  repeat' first
    | (with_reducible assumption)
    | (with_reducible exact Part.sub_trans rfl hU)
    | (with_reducible exact Or.inl (Part.sub_trans rfl hU))
    | (with_reducible exact Or.inr rfl)
    | (with_reducible apply State.moveTo_within)
    | (with_reducible apply State.raise_within)
    | (with_reducible apply State.each_within)
    | (with_reducible apply State.onlyIf_within)
    | (with_reducible apply State.foldl_within)
    | (intro x k hx)
    | (intro x hx)
    | split
    | (with_reducible apply SameOutside.built)

theorem State.gsePowerFail_within {U : List Part} {z0 s : State} (hz : SameOutside U z0 s) (hU : Part.sub [.unit .oiu, .unit .efu, .unit .psw, .unit .gse, .unit .lgs, .allocator] U = true) : SameOutside U z0 (State.gsePowerFail s) := by
  unfold State.gsePowerFail
  try dsimp only
  repeat' first
    | (with_reducible assumption)
    | (with_reducible exact Part.sub_trans rfl hU)
    | (with_reducible exact Or.inl (Part.sub_trans rfl hU))
    | (with_reducible exact Or.inr rfl)
    | (with_reducible apply State.raise_within)
    | (with_reducible apply State.demand_within)
    | (with_reducible apply State.allOff_within)
    | (with_reducible apply State.each_within)
    | (with_reducible apply State.onlyIf_within)
    | (with_reducible apply State.foldl_within)
    | (intro x k hx)
    | (intro x hx)
    | split
    | (with_reducible apply SameOutside.built)

end Sys2Proof.Machine
end

