-- ==== Sys2Proof/Laws/WithinNetwork.lean ====
section
/-! SUPPORT. Every operation and every command of the NTU leaves the parts of the block alone that it does not touch (Laws/Within.lean). -/

namespace Sys2Proof.Machine

open Sys2Proof

theorem State.setNtu_within {U : List Part} {z0 s : State} (hz : SameOutside U z0 s) (v : Ntu) (hU : Part.sub [.unit .ntu] U = true) : SameOutside U z0 (State.setNtu s v) := by
  unfold State.setNtu
  try dsimp only
  repeat' first
    | (with_reducible assumption)
    | (with_reducible exact Part.sub_trans rfl hU)
    | (with_reducible exact Or.inl (Part.sub_trans rfl hU))
    | (with_reducible exact Or.inr rfl)
    | (with_reducible apply State.each_within)
    | (with_reducible apply State.onlyIf_within)
    | (with_reducible apply State.foldl_within)
    | (intro x k hx)
    | (intro x hx)
    | split
    | (with_reducible apply SameOutside.built)

theorem State.markClock_within {U : List Part} {z0 s : State} (hz : SameOutside U z0 s) (hU : Part.sub [.unit .ntu] U = true) : SameOutside U z0 (State.markClock s) := by
  unfold State.markClock
  try dsimp only
  repeat' first
    | (with_reducible assumption)
    | (with_reducible exact Part.sub_trans rfl hU)
    | (with_reducible exact Or.inl (Part.sub_trans rfl hU))
    | (with_reducible exact Or.inr rfl)
    | (with_reducible apply State.setNtu_within)

theorem State.showNtu_within {U : List Part} {z0 s : State} (hz : SameOutside U z0 s) (hU : Part.sub [.unit .ntu] U = true) : SameOutside U z0 (State.showNtu s) := by
  unfold State.showNtu
  try dsimp only
  repeat' first
    | (with_reducible assumption)
    | (with_reducible exact Part.sub_trans rfl hU)
    | (with_reducible exact Or.inl (Part.sub_trans rfl hU))
    | (with_reducible exact Or.inr rfl)
    | (with_reducible apply State.put_within)

theorem State.setPtp_within {U : List Part} {z0 s : State} (hz : SameOutside U z0 s) (st : Nat) (hU : Part.sub [.unit .lgs, .unit .ntu, .unit .upd] U = true) : SameOutside U z0 (State.setPtp s st) := by
  unfold State.setPtp
  try dsimp only
  repeat' first
    | (with_reducible assumption)
    | (with_reducible exact Part.sub_trans rfl hU)
    | (with_reducible exact Or.inl (Part.sub_trans rfl hU))
    | (with_reducible exact Or.inr rfl)
    | (with_reducible apply State.refreshTl_within)
    | (with_reducible apply State.raise_within)
    | (with_reducible apply State.putFlag_within)
    | (with_reducible apply State.setNtu_within)
    | (with_reducible apply State.put_within)
    | (with_reducible apply State.each_within)
    | (with_reducible apply State.onlyIf_within)
    | (with_reducible apply State.foldl_within)
    | (intro x k hx)
    | (intro x hx)
    | split
    | (with_reducible apply SameOutside.built)

theorem State.announce_within {U : List Part} {z0 s : State} (hz : SameOutside U z0 s) (source : Nat) (rank : Nat) (port : Nat) (interval : Nat) (utc : Int) (hU : Part.sub [.unit .lgs, .unit .ntu, .unit .upd] U = true) : SameOutside U z0 (State.announce s source rank port interval utc) := by
  unfold State.announce
  try dsimp only
  repeat' first
    | (with_reducible assumption)
    | (with_reducible exact Part.sub_trans rfl hU)
    | (with_reducible exact Or.inl (Part.sub_trans rfl hU))
    | (with_reducible exact Or.inr rfl)
    | (with_reducible apply State.raise2_within)
    | (with_reducible apply State.setNtu_within)
    | (with_reducible apply State.setPtp_within)
    | (with_reducible apply State.put_within)
    | (with_reducible apply State.each_within)
    | (with_reducible apply State.onlyIf_within)
    | (with_reducible apply State.foldl_within)
    | (intro x k hx)
    | (intro x hx)
    | split
    | (with_reducible apply SameOutside.built)

theorem State.drawRate_within {U : List Part} {z0 s : State} (hz : SameOutside U z0 s) (hU : Part.sub [.unit .ntu] U = true) : SameOutside U z0 (State.drawRate s) := by
  unfold State.drawRate
  try dsimp only
  repeat' first
    | (with_reducible assumption)
    | (with_reducible exact Part.sub_trans rfl hU)
    | (with_reducible exact Or.inl (Part.sub_trans rfl hU))
    | (with_reducible exact Or.inr rfl)
    | (with_reducible apply State.setNtu_within)
    | (with_reducible apply State.draw_within)
    | (with_reducible apply State.put_within)
    | (with_reducible apply State.markClock_within)
    | (with_reducible apply State.each_within)
    | (with_reducible apply State.onlyIf_within)
    | (with_reducible apply State.foldl_within)
    | (intro x k hx)
    | (intro x hx)
    | (with_reducible refine SameOutside.snd ?_ (by assumption))
    | split
    | (with_reducible apply SameOutside.built)

theorem State.stepPtp_within {U : List Part} {z0 s : State} (hz : SameOutside U z0 s) (offset : Int) (hU : Part.sub [.unit .lgs, .unit .ntu] U = true) : SameOutside U z0 (State.stepPtp s offset) := by
  unfold State.stepPtp
  try dsimp only
  repeat' first
    | (with_reducible assumption)
    | (with_reducible exact Part.sub_trans rfl hU)
    | (with_reducible exact Or.inl (Part.sub_trans rfl hU))
    | (with_reducible exact Or.inr rfl)
    | (with_reducible apply State.raise_within)
    | (with_reducible apply State.setNtu_within)
    | (with_reducible apply State.markClock_within)
    | (with_reducible apply State.put_within)
    | (with_reducible apply State.each_within)
    | (with_reducible apply State.onlyIf_within)
    | (with_reducible apply State.foldl_within)
    | (intro x k hx)
    | (intro x hx)
    | split
    | (with_reducible apply SameOutside.built)

theorem State.takeOffset_within {U : List Part} {z0 s : State} (hz : SameOutside U z0 s) (offset : Int) (hU : Part.sub [.unit .lgs, .unit .ntu, .unit .upd] U = true) : SameOutside U z0 (State.takeOffset s offset) := by
  unfold State.takeOffset
  try dsimp only
  repeat' first
    | (with_reducible assumption)
    | (with_reducible exact Part.sub_trans rfl hU)
    | (with_reducible exact Or.inl (Part.sub_trans rfl hU))
    | (with_reducible exact Or.inr rfl)
    | (with_reducible apply State.stepPtp_within)
    | (with_reducible apply State.drawRate_within)
    | (with_reducible apply State.setNtu_within)
    | (with_reducible apply State.setPtp_within)
    | (with_reducible apply State.put_within)
    | (with_reducible apply State.each_within)
    | (with_reducible apply State.onlyIf_within)
    | (with_reducible apply State.foldl_within)
    | (intro x k hx)
    | (intro x hx)
    | split
    | (with_reducible apply SameOutside.built)

theorem execPtpMessage_within (m : PtpMsg) (s : State) : Stays [.unit .lgs, .unit .ntu, .unit .upd] s (execPtpMessage m s) := by
  have hU : Part.sub [.unit .lgs, .unit .ntu, .unit .upd] [.unit .lgs, .unit .ntu, .unit .upd] = true := rfl
  unfold execPtpMessage
  try dsimp only
  repeat' first
    | (with_reducible assumption)
    | (with_reducible exact Part.sub_trans rfl hU)
    | (with_reducible exact Or.inl (Part.sub_trans rfl hU))
    | (with_reducible exact Or.inr rfl)
    | (with_reducible exact SameOutside.refl _ _)
    | (with_reducible apply Stays.next)
    | (with_reducible apply State.announce_within)
    | (with_reducible apply State.setNtu_within)
    | (with_reducible apply State.takeOffset_within)
    | (with_reducible apply State.each_within)
    | (with_reducible apply State.onlyIf_within)
    | (with_reducible apply State.foldl_within)
    | (intro x k hx)
    | (intro x hx)
    | split
    | (with_reducible apply SameOutside.built)

theorem execPtpHoldover_within (s : State) : Stays [.unit .lgs, .unit .ntu, .unit .upd] s (execPtpHoldover s) := by
  have hU : Part.sub [.unit .lgs, .unit .ntu, .unit .upd] [.unit .lgs, .unit .ntu, .unit .upd] = true := rfl
  unfold execPtpHoldover
  try dsimp only
  repeat' first
    | (with_reducible assumption)
    | (with_reducible exact Part.sub_trans rfl hU)
    | (with_reducible exact Or.inl (Part.sub_trans rfl hU))
    | (with_reducible exact Or.inr rfl)
    | (with_reducible exact SameOutside.refl _ _)
    | (with_reducible apply Stays.next)
    | (with_reducible apply State.moveTo_within)
    | (with_reducible apply State.setNtu_within)
    | (with_reducible apply State.setPtp_within)
    | (with_reducible apply State.each_within)
    | (with_reducible apply State.onlyIf_within)
    | (with_reducible apply State.foldl_within)
    | (intro x k hx)
    | (intro x hx)
    | split
    | (with_reducible apply SameOutside.built)

theorem State.correct_within {U : List Part} {z0 s : State} (hz : SameOutside U z0 s) (egress : Nat) (total : Nat) (c : Int) (hU : Part.sub [.unit .ntu] U = true) : SameOutside U z0 (State.correct s egress total c) := by
  unfold State.correct
  try dsimp only
  repeat' first
    | (with_reducible assumption)
    | (with_reducible exact Part.sub_trans rfl hU)
    | (with_reducible exact Or.inl (Part.sub_trans rfl hU))
    | (with_reducible exact Or.inr rfl)
    | (with_reducible apply State.setNtu_within)
    | (with_reducible apply State.put_within)

theorem execTransparentClockForward_within (ingress : Fin 4) (egress : Fin 4) (residence : Nat) (m : TcMsg) (s : State) : Stays [.unit .lgs, .unit .ntu] s (execTransparentClockForward ingress egress residence m s) := by
  have hU : Part.sub [.unit .lgs, .unit .ntu] [.unit .lgs, .unit .ntu] = true := rfl
  unfold execTransparentClockForward
  try dsimp only
  repeat' first
    | (with_reducible assumption)
    | (with_reducible exact Part.sub_trans rfl hU)
    | (with_reducible exact Or.inl (Part.sub_trans rfl hU))
    | (with_reducible exact Or.inr rfl)
    | (with_reducible exact SameOutside.refl _ _)
    | (with_reducible apply Stays.next)
    | (with_reducible apply State.raise2_within)
    | (with_reducible apply State.setNtu_within)
    | (with_reducible apply State.correct_within)
    | (with_reducible apply State.each_within)
    | (with_reducible apply State.onlyIf_within)
    | (with_reducible apply State.foldl_within)
    | (intro x k hx)
    | (intro x hx)
    | split
    | (with_reducible apply SameOutside.built)

theorem execCompareFire_within (k : Fin 2) (s : State) : Stays [.unit .ntu] s (execCompareFire k s) := by
  have hU : Part.sub [.unit .ntu] [.unit .ntu] = true := rfl
  unfold execCompareFire
  try dsimp only
  repeat' first
    | (with_reducible assumption)
    | (with_reducible exact Part.sub_trans rfl hU)
    | (with_reducible exact Or.inl (Part.sub_trans rfl hU))
    | (with_reducible exact Or.inr rfl)
    | (with_reducible exact SameOutside.refl _ _)
    | (with_reducible apply Stays.next)
    | (with_reducible apply State.moveTo_within)
    | (with_reducible apply State.putFlag_within)
    | (with_reducible apply State.put_within)
    | (with_reducible apply State.each_within)
    | (with_reducible apply State.onlyIf_within)
    | (with_reducible apply State.foldl_within)
    | (intro x k hx)
    | (intro x hx)
    | split
    | (with_reducible apply SameOutside.built)

theorem execTemplateSend_within (n : Fin 24) (s : State) : Stays [.unit .ntu] s (execTemplateSend n s) := by
  have hU : Part.sub [.unit .ntu] [.unit .ntu] = true := rfl
  unfold execTemplateSend
  try dsimp only
  repeat' first
    | (with_reducible assumption)
    | (with_reducible exact Part.sub_trans rfl hU)
    | (with_reducible exact Or.inl (Part.sub_trans rfl hU))
    | (with_reducible exact Or.inr rfl)
    | (with_reducible exact SameOutside.refl _ _)
    | (with_reducible apply Stays.next)
    | (with_reducible apply State.moveTo_within)
    | (with_reducible apply State.setNtu_within)
    | (with_reducible apply State.each_within)
    | (with_reducible apply State.onlyIf_within)
    | (with_reducible apply State.foldl_within)
    | (intro x k hx)
    | (intro x hx)
    | split

theorem State.moduleGood_within {U : List Part} {z0 s : State} (hz : SameOutside U z0 s) (n : Nat) (hU : Part.sub [.unit .oiu, .allocator] U = true) : SameOutside U z0 (State.moduleGood s n) := by
  unfold State.moduleGood
  try dsimp only
  repeat' first
    | (with_reducible assumption)
    | (with_reducible exact Part.sub_trans rfl hU)
    | (with_reducible exact Or.inl (Part.sub_trans rfl hU))
    | (with_reducible exact Or.inr rfl)
    | (with_reducible apply State.moduleBack_within)
    | (with_reducible apply State.each_within)
    | (with_reducible apply State.onlyIf_within)
    | (with_reducible apply State.foldl_within)
    | (intro x k hx)
    | (intro x hx)
    | split
    | (with_reducible apply SameOutside.built)

theorem execModuleStatusRx_within (n : Fin 24) (echo : BitVec 8) (fault : BitVec 8) (vact : BitVec 16) (iact : BitVec 16) (s : State) : Stays [.unit .oiu, .unit .lgs, .unit .ntu, .allocator] s (execModuleStatusRx n echo fault vact iact s) := by
  have hU : Part.sub [.unit .oiu, .unit .lgs, .unit .ntu, .allocator] [.unit .oiu, .unit .lgs, .unit .ntu, .allocator] = true := rfl
  unfold execModuleStatusRx
  try dsimp only
  repeat' first
    | (with_reducible assumption)
    | (with_reducible exact Part.sub_trans rfl hU)
    | (with_reducible exact Or.inl (Part.sub_trans rfl hU))
    | (with_reducible exact Or.inr rfl)
    | (with_reducible exact SameOutside.refl _ _)
    | (with_reducible apply Stays.next)
    | (with_reducible apply State.setNtu_within)
    | (with_reducible apply State.moduleLost_within)
    | (with_reducible apply State.moduleGood_within)
    | (with_reducible apply State.each_within)
    | (with_reducible apply State.onlyIf_within)
    | (with_reducible apply State.foldl_within)
    | (intro x k hx)
    | (intro x hx)
    | split
    | (with_reducible apply SameOutside.built)

theorem execCanErrorStateChange_within (k : Fin 4) (state : Fin 3) (tec : BitVec 8) (rec_ : BitVec 8) (s : State) : Stays [.unit .lgs, .unit .ntu] s (execCanErrorStateChange k state tec rec_ s) := by
  have hU : Part.sub [.unit .lgs, .unit .ntu] [.unit .lgs, .unit .ntu] = true := rfl
  unfold execCanErrorStateChange
  try dsimp only
  repeat' first
    | (with_reducible assumption)
    | (with_reducible exact Part.sub_trans rfl hU)
    | (with_reducible exact Or.inl (Part.sub_trans rfl hU))
    | (with_reducible exact Or.inr rfl)
    | (with_reducible exact SameOutside.refl _ _)
    | (with_reducible apply Stays.next)
    | (with_reducible apply State.raise2_within)
    | (with_reducible apply State.put_within)
    | (with_reducible apply State.each_within)
    | (with_reducible apply State.onlyIf_within)
    | (with_reducible apply State.foldl_within)
    | (intro x k hx)
    | (intro x hx)
    | split

theorem State.sunspecLost_within {U : List Part} {z0 s : State} (hz : SameOutside U z0 s) (idx : Nat) (hU : Part.sub [.unit .lgs, .allocator] U = true) : SameOutside U z0 (State.sunspecLost s idx) := by
  unfold State.sunspecLost
  try dsimp only
  repeat' first
    | (with_reducible assumption)
    | (with_reducible exact Part.sub_trans rfl hU)
    | (with_reducible exact Or.inl (Part.sub_trans rfl hU))
    | (with_reducible exact Or.inr rfl)
    | (with_reducible apply State.raise_within)
    | (with_reducible apply State.each_within)
    | (with_reducible apply State.onlyIf_within)
    | (with_reducible apply State.foldl_within)
    | (intro x k hx)
    | (intro x hx)
    | split
    | (with_reducible apply SameOutside.built)

theorem execModbusTransaction_within (dev : Fin 16) (outcome : Fin 4) (s : State) : Stays [.unit .ntu] s (execModbusTransaction dev outcome s) := by
  have hU : Part.sub [.unit .ntu] [.unit .ntu] = true := rfl
  unfold execModbusTransaction
  try dsimp only
  repeat' first
    | (with_reducible assumption)
    | (with_reducible exact Part.sub_trans rfl hU)
    | (with_reducible exact Or.inl (Part.sub_trans rfl hU))
    | (with_reducible exact Or.inr rfl)
    | (with_reducible exact SameOutside.refl _ _)
    | (with_reducible apply Stays.next)
    | (with_reducible apply State.count_within)
    | (with_reducible apply State.setNtu_within)
    | (with_reducible apply State.put_within)
    | (with_reducible apply State.each_within)
    | (with_reducible apply State.onlyIf_within)
    | (with_reducible apply State.foldl_within)
    | (intro x k hx)
    | (intro x hx)
    | split
    | (with_reducible apply SameOutside.built)

theorem execModbusTcpReconnect_within (dev : Fin 16) (s : State) : Stays [.unit .ntu] s (execModbusTcpReconnect dev s) := by
  have hU : Part.sub [.unit .ntu] [.unit .ntu] = true := rfl
  unfold execModbusTcpReconnect
  try dsimp only
  repeat' first
    | (with_reducible assumption)
    | (with_reducible exact Part.sub_trans rfl hU)
    | (with_reducible exact Or.inl (Part.sub_trans rfl hU))
    | (with_reducible exact Or.inr rfl)
    | (with_reducible exact SameOutside.refl _ _)
    | (with_reducible apply Stays.next)
    | (with_reducible apply State.setNtu_within)
    | (with_reducible apply State.moveTo_within)
    | (with_reducible apply State.put_within)
    | (with_reducible apply State.each_within)
    | (with_reducible apply State.onlyIf_within)
    | (with_reducible apply State.foldl_within)
    | (intro x k hx)
    | (intro x hx)
    | split
    | (with_reducible apply SameOutside.built)

theorem execSunspecDiscovery_within (dev : Fin 16) (models : Option (List (BitVec 16))) (s : State) : Stays [.unit .lgs, .unit .ntu, .allocator] s (execSunspecDiscovery dev models s) := by
  have hU : Part.sub [.unit .lgs, .unit .ntu, .allocator] [.unit .lgs, .unit .ntu, .allocator] = true := rfl
  unfold execSunspecDiscovery
  try dsimp only
  repeat' first
    | (with_reducible assumption)
    | (with_reducible exact Part.sub_trans rfl hU)
    | (with_reducible exact Or.inl (Part.sub_trans rfl hU))
    | (with_reducible exact Or.inr rfl)
    | (with_reducible exact SameOutside.refl _ _)
    | (with_reducible apply Stays.next)
    | (with_reducible apply State.raise2_within)
    | (with_reducible apply State.sunspecLost_within)
    | (with_reducible apply State.put_within)
    | (with_reducible apply State.each_within)
    | (with_reducible apply State.onlyIf_within)
    | (with_reducible apply State.foldl_within)
    | (intro x k hx)
    | (intro x hx)
    | split

theorem State.setLink_within {U : List Part} {z0 s : State} (hz : SameOutside U z0 s) (k : Nat) (speed : Nat) (hU : Part.sub [.unit .lgs, .unit .ntu] U = true) : SameOutside U z0 (State.setLink s k speed) := by
  unfold State.setLink
  try dsimp only
  repeat' first
    | (with_reducible assumption)
    | (with_reducible exact Part.sub_trans rfl hU)
    | (with_reducible exact Or.inl (Part.sub_trans rfl hU))
    | (with_reducible exact Or.inr rfl)
    | (with_reducible apply State.raise2_within)
    | (with_reducible apply State.put_within)
    | (with_reducible apply State.putFlag_within)
    | (with_reducible apply State.each_within)
    | (with_reducible apply State.onlyIf_within)
    | (with_reducible apply State.foldl_within)
    | (intro x k hx)
    | (intro x hx)
    | split
    | (with_reducible apply SameOutside.built)

theorem execEthernetLinkChange_within (k : Fin 4) (speed : Fin 4) (s : State) : Stays [.unit .lgs, .unit .ntu] s (execEthernetLinkChange k speed s) := by
  have hU : Part.sub [.unit .lgs, .unit .ntu] [.unit .lgs, .unit .ntu] = true := rfl
  unfold execEthernetLinkChange
  try dsimp only
  repeat' first
    | (with_reducible assumption)
    | (with_reducible exact Part.sub_trans rfl hU)
    | (with_reducible exact Or.inl (Part.sub_trans rfl hU))
    | (with_reducible exact Or.inr rfl)
    | (with_reducible exact SameOutside.refl _ _)
    | (with_reducible apply Stays.next)
    | (with_reducible apply State.setLink_within)
    | (with_reducible apply State.each_within)
    | (with_reducible apply State.onlyIf_within)
    | (with_reducible apply State.foldl_within)
    | (intro x k hx)
    | (intro x hx)
    | split

theorem State.startPtp_within {U : List Part} {z0 s : State} (hz : SameOutside U z0 s) (hU : Part.sub [.unit .lgs, .unit .ntu, .unit .upd] U = true) : SameOutside U z0 (State.startPtp s) := by
  unfold State.startPtp
  try dsimp only
  repeat' first
    | (with_reducible assumption)
    | (with_reducible exact Part.sub_trans rfl hU)
    | (with_reducible exact Or.inl (Part.sub_trans rfl hU))
    | (with_reducible exact Or.inr rfl)
    | (with_reducible apply State.setNtu_within)
    | (with_reducible apply State.setPtp_within)
    | (with_reducible apply State.markClock_within)
    | (with_reducible apply State.put_within)
    | (with_reducible apply State.each_within)
    | (with_reducible apply State.onlyIf_within)
    | (with_reducible apply State.foldl_within)
    | (intro x k hx)
    | (intro x hx)
    | split
    | (with_reducible apply SameOutside.built)

theorem State.ntuPlan_within {U : List Part} {z0 s : State} (hz : SameOutside U z0 s) (ptpChanged : Bool) (hU : Part.sub [.unit .lgs, .unit .ntu, .unit .upd] U = true) : SameOutside U z0 (State.ntuPlan s ptpChanged) := by
  unfold State.ntuPlan
  try dsimp only
  repeat' first
    | (with_reducible assumption)
    | (with_reducible exact Part.sub_trans rfl hU)
    | (with_reducible exact Or.inl (Part.sub_trans rfl hU))
    | (with_reducible exact Or.inr rfl)
    | (with_reducible apply State.setLink_within)
    | (with_reducible apply State.startPtp_within)
    | (with_reducible apply State.put_within)
    | (with_reducible apply State.each_within)
    | (with_reducible apply State.onlyIf_within)
    | (with_reducible apply State.foldl_within)
    | (intro x k hx)
    | (intro x hx)
    | split
    | (with_reducible apply SameOutside.built)

theorem State.ntuReset_within {U : List Part} {z0 s : State} (hz : SameOutside U z0 s) (hU : Part.sub [.unit .lgs, .unit .ntu, .unit .upd, .latches] U = true) : SameOutside U z0 (State.ntuReset s) := by
  unfold State.ntuReset
  try dsimp only
  repeat' first
    | (with_reducible assumption)
    | (with_reducible exact Part.sub_trans rfl hU)
    | (with_reducible exact Or.inl (Part.sub_trans rfl hU))
    | (with_reducible exact Or.inr rfl)
    | (with_reducible apply State.setNtu_within)
    | (with_reducible apply State.ntuPlan_within)
    | (with_reducible apply State.clearUnit_within)
    | (with_reducible apply State.each_within)
    | (with_reducible apply State.onlyIf_within)
    | (with_reducible apply State.foldl_within)
    | (intro x k hx)
    | (intro x hx)
    | split
    | (with_reducible apply SameOutside.built)

end Sys2Proof.Machine
end

