-- ==== Sys2Proof/Laws/WithinAfril.lean ====
section
/-! SUPPORT. Every operation and every command of the ALK leaves the parts of the block alone that it does not touch (Laws/Within.lean). -/

namespace Sys2Proof.Machine

open Sys2Proof

theorem State.setAlk_within {U : List Part} {z0 s : State} (hz : SameOutside U z0 s) (v : Alk) (hU : Part.sub [.unit .alk] U = true) : SameOutside U z0 (State.setAlk s v) := by
  unfold State.setAlk
  try dsimp only
  repeat' first
    | (with_reducible assumption)
    | (with_reducible exact Part.sub_trans rfl hU)
    | (with_reducible exact Or.inl (Part.sub_trans rfl hU))
    | (with_reducible exact Or.inr rfl)
    | (with_reducible apply State.each_within)
    | (with_reducible apply State.onlyIf_within)
    | (with_reducible apply State.foldl_within)
    | (intro x k hx)
    | (intro x hx)
    | split
    | (with_reducible apply SameOutside.built)

theorem State.setAnode_within {U : List Part} {z0 s : State} (hz : SameOutside U z0 s) (n : Nat) (v : AlkNode) (hU : Part.sub [.unit .alk] U = true) : SameOutside U z0 (State.setAnode s n v) := by
  unfold State.setAnode
  try dsimp only
  repeat' first
    | (with_reducible assumption)
    | (with_reducible exact Part.sub_trans rfl hU)
    | (with_reducible exact Or.inl (Part.sub_trans rfl hU))
    | (with_reducible exact Or.inr rfl)
    | (with_reducible apply State.put_within)
    | (with_reducible apply State.setAlk_within)

theorem State.showRelays_within {U : List Part} {z0 s : State} (hz : SameOutside U z0 s) (hU : Part.sub [.unit .alk] U = true) : SameOutside U z0 (State.showRelays s) := by
  unfold State.showRelays
  try dsimp only
  repeat' first
    | (with_reducible assumption)
    | (with_reducible exact Part.sub_trans rfl hU)
    | (with_reducible exact Or.inl (Part.sub_trans rfl hU))
    | (with_reducible exact Or.inr rfl)
    | (with_reducible apply State.putFlag_within)
    | (with_reducible apply State.each_within)
    | (with_reducible apply State.onlyIf_within)
    | (with_reducible apply State.foldl_within)
    | (intro x k hx)

theorem State.showRoute_within {U : List Part} {z0 s : State} (hz : SameOutside U z0 s) (n : Nat) (hU : Part.sub [.unit .alk] U = true) : SameOutside U z0 (State.showRoute s n) := by
  unfold State.showRoute
  try dsimp only
  repeat' first
    | (with_reducible assumption)
    | (with_reducible exact Part.sub_trans rfl hU)
    | (with_reducible exact Or.inl (Part.sub_trans rfl hU))
    | (with_reducible exact Or.inr rfl)
    | (with_reducible apply State.put_within)

theorem State.sendRoutes_within {U : List Part} {z0 s : State} (hz : SameOutside U z0 s) (relays : List Nat) (hU : Part.sub [.unit .alk] U = true) : SameOutside U z0 (State.sendRoutes s relays) := by
  unfold State.sendRoutes
  try dsimp only
  repeat' first
    | (with_reducible assumption)
    | (with_reducible exact Part.sub_trans rfl hU)
    | (with_reducible exact Or.inl (Part.sub_trans rfl hU))
    | (with_reducible exact Or.inr rfl)
    | (with_reducible apply State.setAnode_within)
    | (with_reducible apply State.each_within)
    | (with_reducible apply State.onlyIf_within)
    | (with_reducible apply State.foldl_within)
    | (intro x k hx)

theorem State.planRoute_within {U : List Part} {z0 s : State} (hz : SameOutside U z0 s) (n : Nat) (v : List Nat × Nat) (hU : Part.sub [.unit .alk] U = true) : SameOutside U z0 (State.planRoute s n v) := by
  unfold State.planRoute
  try dsimp only
  repeat' first
    | (with_reducible assumption)
    | (with_reducible exact Part.sub_trans rfl hU)
    | (with_reducible exact Or.inl (Part.sub_trans rfl hU))
    | (with_reducible exact Or.inr rfl)
    | (with_reducible apply State.setAnode_within)
    | (with_reducible apply State.sendRoutes_within)
    | (with_reducible apply State.each_within)
    | (with_reducible apply State.onlyIf_within)
    | (with_reducible apply State.foldl_within)
    | (intro x k hx)
    | (intro x hx)
    | split
    | (with_reducible apply SameOutside.built)

theorem State.takeRoute_within {U : List Part} {z0 s : State} (hz : SameOutside U z0 s) (n : Nat) (hU : Part.sub [.unit .lgs, .unit .alk] U = true) : SameOutside U z0 (State.takeRoute s n) := by
  unfold State.takeRoute
  try dsimp only
  repeat' first
    | (with_reducible assumption)
    | (with_reducible exact Part.sub_trans rfl hU)
    | (with_reducible exact Or.inl (Part.sub_trans rfl hU))
    | (with_reducible exact Or.inr rfl)
    | (with_reducible apply State.raise2_within)
    | (with_reducible apply State.setAnode_within)
    | (with_reducible apply State.showRoute_within)
    | (with_reducible apply State.put_within)
    | (with_reducible apply State.each_within)
    | (with_reducible apply State.onlyIf_within)
    | (with_reducible apply State.foldl_within)
    | (intro x k hx)
    | (intro x hx)
    | split
    | (with_reducible apply SameOutside.built)

theorem State.chooseRoute_within {U : List Part} {z0 s : State} (hz : SameOutside U z0 s) (t : Tab (Option (List Nat × Nat))) (n : Nat) (hU : Part.sub [.unit .alk] U = true) : SameOutside U z0 (State.chooseRoute t s n) := by
  unfold State.chooseRoute
  try dsimp only
  repeat' first
    | (with_reducible assumption)
    | (with_reducible exact Part.sub_trans rfl hU)
    | (with_reducible exact Or.inl (Part.sub_trans rfl hU))
    | (with_reducible exact Or.inr rfl)
    | (with_reducible apply State.setAnode_within)
    | (with_reducible apply State.planRoute_within)
    | (with_reducible apply State.each_within)
    | (with_reducible apply State.onlyIf_within)
    | (with_reducible apply State.foldl_within)
    | (intro x k hx)
    | (intro x hx)
    | split
    | (with_reducible apply SameOutside.built)

theorem State.switchImages_within {U : List Part} {z0 s : State} (hz : SameOutside U z0 s) (hU : Part.sub [.unit .alk] U = true) : SameOutside U z0 (State.switchImages s) := by
  unfold State.switchImages
  try dsimp only
  repeat' first
    | (with_reducible assumption)
    | (with_reducible exact Part.sub_trans rfl hU)
    | (with_reducible exact Or.inl (Part.sub_trans rfl hU))
    | (with_reducible exact Or.inr rfl)
    | (with_reducible apply State.setAnode_within)
    | (with_reducible apply State.putFlag_within)
    | (with_reducible apply State.setAlk_within)
    | (with_reducible apply State.each_within)
    | (with_reducible apply State.onlyIf_within)
    | (with_reducible apply State.foldl_within)
    | (intro x k hx)
    | (intro x hx)
    | split
    | (with_reducible apply SameOutside.built)

theorem State.broadcast_within {U : List Part} {z0 s : State} (hz : SameOutside U z0 s) (type : Nat) (bits : List Bool) (node : Nat) (hU : Part.sub [.unit .alk] U = true) : SameOutside U z0 (State.broadcast s type bits node) := by
  unfold State.broadcast
  try dsimp only
  repeat' first
    | (with_reducible assumption)
    | (with_reducible exact Part.sub_trans rfl hU)
    | (with_reducible exact Or.inl (Part.sub_trans rfl hU))
    | (with_reducible exact Or.inr rfl)
    | (with_reducible apply State.setAlk_within)

theorem State.announceImages_within {U : List Part} {z0 s : State} (hz : SameOutside U z0 s) (w : NodeSwitch) (versions : List Nat) (hU : Part.sub [.unit .alk] U = true) : SameOutside U z0 (State.announceImages s w versions) := by
  unfold State.announceImages
  try dsimp only
  repeat' first
    | (with_reducible assumption)
    | (with_reducible exact Part.sub_trans rfl hU)
    | (with_reducible exact Or.inl (Part.sub_trans rfl hU))
    | (with_reducible exact Or.inr rfl)
    | (with_reducible apply State.broadcast_within)
    | (with_reducible apply State.setAlk_within)
    | (with_reducible apply State.each_within)
    | (with_reducible apply State.onlyIf_within)
    | (with_reducible apply State.foldl_within)
    | (intro x k hx)
    | (intro x hx)
    | split

theorem State.sendTime_within {U : List Part} {z0 s : State} (hz : SameOutside U z0 s) (len : Nat) (hU : Part.sub [.unit .alk] U = true) : SameOutside U z0 (State.sendTime s len) := by
  unfold State.sendTime
  try dsimp only
  repeat' first
    | (with_reducible assumption)
    | (with_reducible exact Part.sub_trans rfl hU)
    | (with_reducible exact Or.inl (Part.sub_trans rfl hU))
    | (with_reducible exact Or.inr rfl)
    | (with_reducible apply State.broadcast_within)
    | (with_reducible apply State.setAlk_within)
    | (with_reducible apply State.each_within)
    | (with_reducible apply State.onlyIf_within)
    | (with_reducible apply State.foldl_within)
    | (intro x k hx)
    | (intro x hx)
    | split

theorem execRoundStart_within (s : State) : Stays [.unit .lgs, .unit .alk] s (execRoundStart s) := by
  have hU : Part.sub [.unit .lgs, .unit .alk] [.unit .lgs, .unit .alk] = true := rfl
  unfold execRoundStart
  try dsimp only
  repeat' first
    | (with_reducible assumption)
    | (with_reducible exact Part.sub_trans rfl hU)
    | (with_reducible exact Or.inl (Part.sub_trans rfl hU))
    | (with_reducible exact Or.inr rfl)
    | (with_reducible exact SameOutside.refl _ _)
    | (with_reducible apply Stays.next)
    | (with_reducible apply State.showRelays_within)
    | (with_reducible apply State.setAnode_within)
    | (with_reducible apply State.chooseRoute_within)
    | (with_reducible apply State.setAlk_within)
    | (with_reducible apply State.moveTo_within)
    | (with_reducible apply State.sendTime_within)
    | (with_reducible apply State.takeRoute_within)
    | (with_reducible apply State.switchImages_within)
    | (with_reducible apply State.each_within)
    | (with_reducible apply State.onlyIf_within)
    | (with_reducible apply State.foldl_within)
    | (intro x k hx)
    | (intro x hx)
    | split
    | (with_reducible apply SameOutside.built)

theorem State.loadDown_within {U : List Part} {z0 s : State} (hz : SameOutside U z0 s) (n : Nat) (hU : Part.sub [.unit .alk] U = true) : SameOutside U z0 (State.loadDown s n) := by
  unfold State.loadDown
  try dsimp only
  repeat' first
    | (with_reducible assumption)
    | (with_reducible exact Part.sub_trans rfl hU)
    | (with_reducible exact Or.inl (Part.sub_trans rfl hU))
    | (with_reducible exact Or.inr rfl)
    | (with_reducible apply State.setAnode_within)
    | (with_reducible apply State.each_within)
    | (with_reducible apply State.onlyIf_within)
    | (with_reducible apply State.foldl_within)
    | (intro x k hx)
    | (intro x hx)
    | split

theorem State.sendDown_within {U : List Part} {z0 s : State} (hz : SameOutside U z0 s) (n : Nat) (hU : Part.sub [.unit .alk] U = true) : SameOutside U z0 (State.sendDown s n) := by
  unfold State.sendDown
  try dsimp only
  repeat' first
    | (with_reducible assumption)
    | (with_reducible exact Part.sub_trans rfl hU)
    | (with_reducible exact Or.inl (Part.sub_trans rfl hU))
    | (with_reducible exact Or.inr rfl)
    | (with_reducible apply State.setAnode_within)
    | (with_reducible apply State.loadDown_within)
    | (with_reducible apply State.each_within)
    | (with_reducible apply State.onlyIf_within)
    | (with_reducible apply State.foldl_within)
    | (intro x k hx)
    | (intro x hx)
    | split

theorem State.ackDown_within {U : List Part} {z0 s : State} (hz : SameOutside U z0 s) (n : Nat) (dack : Bool) (hU : Part.sub [.unit .alk] U = true) : SameOutside U z0 (State.ackDown s n dack) := by
  unfold State.ackDown
  try dsimp only
  repeat' first
    | (with_reducible assumption)
    | (with_reducible exact Part.sub_trans rfl hU)
    | (with_reducible exact Or.inl (Part.sub_trans rfl hU))
    | (with_reducible exact Or.inr rfl)
    | (with_reducible apply State.setAnode_within)
    | (with_reducible apply State.each_within)
    | (with_reducible apply State.onlyIf_within)
    | (with_reducible apply State.foldl_within)
    | (intro x k hx)
    | (intro x hx)
    | split

theorem State.takeMessage_within {U : List Part} {z0 s : State} (hz : SameOutside U z0 s) (n : Nat) (type : Nat) (bits : List Bool) (hU : Part.sub [.unit .lgs, .unit .alk] U = true) : SameOutside U z0 (State.takeMessage s n type bits) := by
  unfold State.takeMessage
  try dsimp only
  repeat' first
    | (with_reducible assumption)
    | (with_reducible exact Part.sub_trans rfl hU)
    | (with_reducible exact Or.inl (Part.sub_trans rfl hU))
    | (with_reducible exact Or.inr rfl)
    | (with_reducible apply State.raise2_within)
    | (with_reducible apply State.setAnode_within)
    | (with_reducible apply State.putFlag_within)
    | (with_reducible apply State.setAlk_within)
    | (with_reducible apply State.put_within)
    | (with_reducible apply State.each_within)
    | (with_reducible apply State.onlyIf_within)
    | (with_reducible apply State.foldl_within)
    | (intro x k hx)
    | (intro x hx)
    | split
    | (with_reducible apply SameOutside.built)

theorem State.takeUp_within {U : List Part} {z0 s : State} (hz : SameOutside U z0 s) (n : Nat) (u : AlkPay) (hU : Part.sub [.unit .lgs, .unit .alk] U = true) : SameOutside U z0 (State.takeUp s n u) := by
  unfold State.takeUp
  try dsimp only
  repeat' first
    | (with_reducible assumption)
    | (with_reducible exact Part.sub_trans rfl hU)
    | (with_reducible exact Or.inl (Part.sub_trans rfl hU))
    | (with_reducible exact Or.inr rfl)
    | (with_reducible apply State.setAnode_within)
    | (with_reducible apply State.takeMessage_within)
    | (with_reducible apply State.each_within)
    | (with_reducible apply State.onlyIf_within)
    | (with_reducible apply State.foldl_within)
    | (intro x k hx)
    | (intro x hx)
    | split

theorem State.measure_within {U : List Part} {z0 s : State} (hz : SameOutside U z0 s) (u : AlkUp) (hU : Part.sub [.unit .alk] U = true) : SameOutside U z0 (State.measure s u) := by
  unfold State.measure
  try dsimp only
  repeat' first
    | (with_reducible assumption)
    | (with_reducible exact Part.sub_trans rfl hU)
    | (with_reducible exact Or.inl (Part.sub_trans rfl hU))
    | (with_reducible exact Or.inr rfl)
    | (with_reducible apply State.setAnode_within)
    | (with_reducible apply State.setAlk_within)
    | (with_reducible apply State.put_within)
    | (with_reducible apply State.each_within)
    | (with_reducible apply State.onlyIf_within)
    | (with_reducible apply State.foldl_within)
    | (intro x k hx)
    | (intro x hx)
    | split
    | (with_reducible apply SameOutside.built)

theorem State.exchangeGood_within {U : List Part} {z0 s : State} (hz : SameOutside U z0 s) (n : Nat) (u : AlkPay) (hU : Part.sub [.unit .lgs, .unit .alk] U = true) : SameOutside U z0 (State.exchangeGood s n u) := by
  unfold State.exchangeGood
  try dsimp only
  repeat' first
    | (with_reducible assumption)
    | (with_reducible exact Part.sub_trans rfl hU)
    | (with_reducible exact Or.inl (Part.sub_trans rfl hU))
    | (with_reducible exact Or.inr rfl)
    | (with_reducible apply State.raise2_within)
    | (with_reducible apply State.takeUp_within)
    | (with_reducible apply State.setAnode_within)
    | (with_reducible apply State.ackDown_within)
    | (with_reducible apply State.put_within)
    | (with_reducible apply State.each_within)
    | (with_reducible apply State.onlyIf_within)
    | (with_reducible apply State.foldl_within)
    | (intro x k hx)
    | (intro x hx)
    | split
    | (with_reducible apply SameOutside.built)

theorem State.exchangeLost_within {U : List Part} {z0 s : State} (hz : SameOutside U z0 s) (k : Nat) (e : Exch) (hU : Part.sub [.unit .alk] U = true) : SameOutside U z0 (State.exchangeLost s k e) := by
  unfold State.exchangeLost
  try dsimp only
  repeat' first
    | (with_reducible assumption)
    | (with_reducible exact Part.sub_trans rfl hU)
    | (with_reducible exact Or.inl (Part.sub_trans rfl hU))
    | (with_reducible exact Or.inr rfl)
    | (with_reducible apply State.count_within)
    | (with_reducible apply State.setAnode_within)
    | (with_reducible apply State.setAlk_within)
    | (with_reducible apply State.each_within)
    | (with_reducible apply State.onlyIf_within)
    | (with_reducible apply State.foldl_within)
    | (intro x k hx)
    | (intro x hx)
    | split

theorem State.grants_within {U : List Part} {z0 s : State} (hz : SameOutside U z0 s) (k : Nat) (hU : Part.sub [.unit .alk] U = true) : SameOutside U z0 (State.grants s k) := by
  unfold State.grants
  try dsimp only
  repeat' first
    | (with_reducible assumption)
    | (with_reducible exact Part.sub_trans rfl hU)
    | (with_reducible exact Or.inl (Part.sub_trans rfl hU))
    | (with_reducible exact Or.inr rfl)
    | (with_reducible apply State.setAlk_within)
    | (with_reducible apply State.each_within)
    | (with_reducible apply State.onlyIf_within)
    | (with_reducible apply State.foldl_within)
    | (intro x k hx)
    | (intro x hx)
    | split

theorem State.fillBcast_within {U : List Part} {z0 s : State} (hz : SameOutside U z0 s) (k : Nat) (hU : Part.sub [.unit .alk] U = true) : SameOutside U z0 (State.fillBcast s k) := by
  unfold State.fillBcast
  try dsimp only
  repeat' first
    | (with_reducible assumption)
    | (with_reducible exact Part.sub_trans rfl hU)
    | (with_reducible exact Or.inl (Part.sub_trans rfl hU))
    | (with_reducible exact Or.inr rfl)
    | (with_reducible apply State.broadcast_within)
    | (with_reducible apply State.setAlk_within)
    | (with_reducible apply State.each_within)
    | (with_reducible apply State.onlyIf_within)
    | (with_reducible apply State.foldl_within)
    | (intro x k hx)
    | (intro x hx)
    | split

theorem State.joinDone_within {U : List Part} {z0 s : State} (hz : SameOutside U z0 s) (n : Nat) (hU : Part.sub [.unit .lgs, .unit .alk] U = true) : SameOutside U z0 (State.joinDone s n) := by
  unfold State.joinDone
  try dsimp only
  repeat' first
    | (with_reducible assumption)
    | (with_reducible exact Part.sub_trans rfl hU)
    | (with_reducible exact Or.inl (Part.sub_trans rfl hU))
    | (with_reducible exact Or.inr rfl)
    | (with_reducible apply State.raise2_within)
    | (with_reducible apply State.showRelays_within)
    | (with_reducible apply State.showRoute_within)
    | (with_reducible apply State.put_within)
    | (with_reducible apply State.each_within)
    | (with_reducible apply State.onlyIf_within)
    | (with_reducible apply State.foldl_within)
    | (intro x k hx)
    | (intro x hx)
    | split
    | (with_reducible apply SameOutside.built)

theorem State.endBcast_within {U : List Part} {z0 s : State} (hz : SameOutside U z0 s) (hU : Part.sub [.unit .lgs, .unit .alk] U = true) : SameOutside U z0 (State.endBcast s) := by
  unfold State.endBcast
  try dsimp only
  repeat' first
    | (with_reducible assumption)
    | (with_reducible exact Part.sub_trans rfl hU)
    | (with_reducible exact Or.inl (Part.sub_trans rfl hU))
    | (with_reducible exact Or.inr rfl)
    | (with_reducible apply State.joinDone_within)
    | (with_reducible apply State.setAlk_within)
    | (with_reducible apply State.each_within)
    | (with_reducible apply State.onlyIf_within)
    | (with_reducible apply State.foldl_within)
    | (intro x k hx)
    | (intro x hx)
    | split

theorem State.transmit_within {U : List Part} {z0 s : State} (hz : SameOutside U z0 s) (k : Nat) (hU : Part.sub [.unit .lgs, .unit .alk] U = true) : SameOutside U z0 (State.transmit s k) := by
  unfold State.transmit
  try dsimp only
  repeat' first
    | (with_reducible assumption)
    | (with_reducible exact Part.sub_trans rfl hU)
    | (with_reducible exact Or.inl (Part.sub_trans rfl hU))
    | (with_reducible exact Or.inr rfl)
    | (with_reducible apply State.fillBcast_within)
    | (with_reducible apply State.endBcast_within)
    | (with_reducible apply State.sendDown_within)
    | (with_reducible apply State.setAlk_within)
    | (with_reducible apply State.each_within)
    | (with_reducible apply State.onlyIf_within)
    | (with_reducible apply State.foldl_within)
    | (intro x k hx)
    | (intro x hx)
    | split
    | (with_reducible apply SameOutside.built)

theorem State.decideExchange_within {U : List Part} {z0 s : State} (hz : SameOutside U z0 s) (ups : List AlkUp) (k : Nat) (e : Exch) (hU : Part.sub [.unit .lgs, .unit .alk] U = true) : SameOutside U z0 (State.decideExchange ups k s e) := by
  unfold State.decideExchange
  try dsimp only
  repeat' first
    | (with_reducible assumption)
    | (with_reducible exact Part.sub_trans rfl hU)
    | (with_reducible exact Or.inl (Part.sub_trans rfl hU))
    | (with_reducible exact Or.inr rfl)
    | (with_reducible apply State.exchangeGood_within)
    | (with_reducible apply State.measure_within)
    | (with_reducible apply State.exchangeLost_within)
    | (with_reducible apply State.each_within)
    | (with_reducible apply State.onlyIf_within)
    | (with_reducible apply State.foldl_within)
    | (intro x k hx)
    | (intro x hx)
    | split
    | (with_reducible apply SameOutside.built)

theorem execPass_within (ups : List AlkUp) (s : State) : Stays [.unit .lgs, .unit .alk] s (execPass ups s) := by
  have hU : Part.sub [.unit .lgs, .unit .alk] [.unit .lgs, .unit .alk] = true := rfl
  unfold execPass
  try dsimp only
  repeat' first
    | (with_reducible assumption)
    | (with_reducible exact Part.sub_trans rfl hU)
    | (with_reducible exact Or.inl (Part.sub_trans rfl hU))
    | (with_reducible exact Or.inr rfl)
    | (with_reducible exact SameOutside.refl _ _)
    | (with_reducible apply Stays.next)
    | (with_reducible apply State.decideExchange_within)
    | (with_reducible apply State.moveTo_within)
    | (with_reducible apply State.grants_within)
    | (with_reducible apply State.setAlk_within)
    | (with_reducible apply State.transmit_within)
    | (with_reducible apply State.each_within)
    | (with_reducible apply State.onlyIf_within)
    | (with_reducible apply State.foldl_within)
    | (intro x k hx)
    | (intro x hx)
    | split
    | (with_reducible apply SameOutside.built)

theorem State.roundLost_within {U : List Part} {z0 s : State} (hz : SameOutside U z0 s) (n : Nat) (hU : Part.sub [.unit .lgs, .unit .alk] U = true) : SameOutside U z0 (State.roundLost s n) := by
  unfold State.roundLost
  try dsimp only
  repeat' first
    | (with_reducible assumption)
    | (with_reducible exact Part.sub_trans rfl hU)
    | (with_reducible exact Or.inl (Part.sub_trans rfl hU))
    | (with_reducible exact Or.inr rfl)
    | (with_reducible apply State.raise2_within)
    | (with_reducible apply State.count_within)
    | (with_reducible apply State.setAnode_within)
    | (with_reducible apply State.put_within)
    | (with_reducible apply State.each_within)
    | (with_reducible apply State.onlyIf_within)
    | (with_reducible apply State.foldl_within)
    | (intro x k hx)
    | (intro x hx)
    | split
    | (with_reducible apply SameOutside.built)

theorem execRoundEnd_within (s : State) : Stays [.unit .lgs, .unit .alk] s (execRoundEnd s) := by
  have hU : Part.sub [.unit .lgs, .unit .alk] [.unit .lgs, .unit .alk] = true := rfl
  unfold execRoundEnd
  try dsimp only
  repeat' first
    | (with_reducible assumption)
    | (with_reducible exact Part.sub_trans rfl hU)
    | (with_reducible exact Or.inl (Part.sub_trans rfl hU))
    | (with_reducible exact Or.inr rfl)
    | (with_reducible exact SameOutside.refl _ _)
    | (with_reducible apply Stays.next)
    | (with_reducible apply State.moveTo_within)
    | (with_reducible apply State.raise_within)
    | (with_reducible apply State.roundLost_within)
    | (with_reducible apply State.setAlk_within)
    | (with_reducible apply State.put_within)
    | (with_reducible apply State.each_within)
    | (with_reducible apply State.onlyIf_within)
    | (with_reducible apply State.foldl_within)
    | (intro x k hx)
    | (intro x hx)
    | split
    | (with_reducible apply SameOutside.built)

theorem execBandCBurst_within (deferMs : Nat) (s : State) : Stays [.unit .lgs, .unit .alk] s (execBandCBurst deferMs s) := by
  have hU : Part.sub [.unit .lgs, .unit .alk] [.unit .lgs, .unit .alk] = true := rfl
  unfold execBandCBurst
  try dsimp only
  repeat' first
    | (with_reducible assumption)
    | (with_reducible exact Part.sub_trans rfl hU)
    | (with_reducible exact Or.inl (Part.sub_trans rfl hU))
    | (with_reducible exact Or.inr rfl)
    | (with_reducible exact SameOutside.refl _ _)
    | (with_reducible apply Stays.next)
    | (with_reducible apply State.moveTo_within)
    | (with_reducible apply State.raise_within)
    | (with_reducible apply State.setAlk_within)
    | (with_reducible apply State.each_within)
    | (with_reducible apply State.onlyIf_within)
    | (with_reducible apply State.foldl_within)
    | (intro x k hx)
    | (intro x hx)
    | split
    | (with_reducible apply SameOutside.built)

theorem State.joinRefused_within {U : List Part} {z0 s : State} (hz : SameOutside U z0 s) (addr : Nat) (why : Nat) (hU : Part.sub [.unit .lgs, .unit .alk] U = true) : SameOutside U z0 (State.joinRefused s addr why) := by
  unfold State.joinRefused
  try dsimp only
  repeat' first
    | (with_reducible assumption)
    | (with_reducible exact Part.sub_trans rfl hU)
    | (with_reducible exact Or.inl (Part.sub_trans rfl hU))
    | (with_reducible exact Or.inr rfl)
    | (with_reducible apply State.raise2_within)
    | (with_reducible apply State.put_within)

theorem execJoinreq_within (eui : BitVec 64) (relay : Option (Fin 63)) (cost : Nat) (collided : Bool) (s : State) : Stays [.unit .sch, .unit .lgs, .unit .alk] s (execJoinreq eui relay cost collided s) := by
  have hU : Part.sub [.unit .sch, .unit .lgs, .unit .alk] [.unit .sch, .unit .lgs, .unit .alk] = true := rfl
  unfold execJoinreq
  try dsimp only
  repeat' first
    | (with_reducible assumption)
    | (with_reducible exact Part.sub_trans rfl hU)
    | (with_reducible exact Or.inl (Part.sub_trans rfl hU))
    | (with_reducible exact Or.inr rfl)
    | (with_reducible exact SameOutside.refl _ _)
    | (with_reducible apply Stays.next)
    | (with_reducible apply State.bindStream_within)
    | (with_reducible apply State.setAlk_within)
    | (with_reducible apply State.setAnode_within)
    | (with_reducible apply State.broadcast_within)
    | (with_reducible apply State.joinRefused_within)
    | (with_reducible apply State.refuseStream_within)
    | (with_reducible apply State.sendRoutes_within)
    | (with_reducible apply State.put_within)
    | (with_reducible apply State.each_within)
    | (with_reducible apply State.onlyIf_within)
    | (with_reducible apply State.foldl_within)
    | (intro x k hx)
    | (intro x hx)
    | split
    | (with_reducible apply SameOutside.built)

theorem execNodeConfirmTimeout_within (n : Fin 63) (s : State) : Stays [.unit .lgs, .unit .alk] s (execNodeConfirmTimeout n s) := by
  have hU : Part.sub [.unit .lgs, .unit .alk] [.unit .lgs, .unit .alk] = true := rfl
  unfold execNodeConfirmTimeout
  try dsimp only
  repeat' first
    | (with_reducible assumption)
    | (with_reducible exact Part.sub_trans rfl hU)
    | (with_reducible exact Or.inl (Part.sub_trans rfl hU))
    | (with_reducible exact Or.inr rfl)
    | (with_reducible exact SameOutside.refl _ _)
    | (with_reducible apply Stays.next)
    | (with_reducible apply State.raise2_within)
    | (with_reducible apply State.setAnode_within)
    | (with_reducible apply State.moveTo_within)
    | (with_reducible apply State.putFlag_within)
    | (with_reducible apply State.each_within)
    | (with_reducible apply State.onlyIf_within)
    | (with_reducible apply State.foldl_within)
    | (intro x k hx)
    | (intro x hx)
    | split
    | (with_reducible apply SameOutside.built)

theorem State.dropNode_within {U : List Part} {z0 s : State} (hz : SameOutside U z0 s) (n : Nat) (hU : Part.sub [.unit .sch, .unit .alk, .latches] U = true) : SameOutside U z0 (State.dropNode s n) := by
  unfold State.dropNode
  try dsimp only
  repeat' first
    | (with_reducible assumption)
    | (with_reducible exact Part.sub_trans rfl hU)
    | (with_reducible exact Or.inl (Part.sub_trans rfl hU))
    | (with_reducible exact Or.inr rfl)
    | (with_reducible apply State.clearUnit_within)
    | (with_reducible apply State.endStream_within)
    | (with_reducible apply State.setAlk_within)
    | (with_reducible apply State.each_within)
    | (with_reducible apply State.onlyIf_within)
    | (with_reducible apply State.foldl_within)
    | (intro x k hx)
    | (intro x hx)
    | split
    | (with_reducible apply SameOutside.built)

theorem State.forgetNode_within {U : List Part} {z0 s : State} (hz : SameOutside U z0 s) (n : Nat) (hU : Part.sub [.unit .sch, .unit .alk, .latches] U = true) : SameOutside U z0 (State.forgetNode s n) := by
  unfold State.forgetNode
  try dsimp only
  repeat' first
    | (with_reducible assumption)
    | (with_reducible exact Part.sub_trans rfl hU)
    | (with_reducible exact Or.inl (Part.sub_trans rfl hU))
    | (with_reducible exact Or.inr rfl)
    | (with_reducible apply State.setAnode_within)
    | (with_reducible apply State.dropNode_within)

theorem State.alkSwitch_within {U : List Part} {z0 s : State} (hz : SameOutside U z0 s) (hU : Part.sub [.unit .sch, .unit .clu, .unit .lgs, .unit .alk] U = true) : SameOutside U z0 (State.alkSwitch s) := by
  unfold State.alkSwitch
  try dsimp only
  repeat' first
    | (with_reducible assumption)
    | (with_reducible exact Part.sub_trans rfl hU)
    | (with_reducible exact Or.inl (Part.sub_trans rfl hU))
    | (with_reducible exact Or.inr rfl)
    | (with_reducible apply State.admitStream_within)
    | (with_reducible apply State.putFlag_within)
    | (with_reducible apply State.setAlk_within)
    | (with_reducible apply State.endStream_within)
    | (with_reducible apply State.each_within)
    | (with_reducible apply State.onlyIf_within)
    | (with_reducible apply State.foldl_within)
    | (intro x k hx)
    | (intro x hx)
    | split
    | (with_reducible apply SameOutside.built)

theorem State.alkRestart_within {U : List Part} {z0 s : State} (hz : SameOutside U z0 s) (why : Nat) (hU : Part.sub [.unit .sch, .unit .clu, .unit .lgs, .unit .alk, .latches] U = true) : SameOutside U z0 (State.alkRestart s why) := by
  unfold State.alkRestart
  try dsimp only
  repeat' first
    | (with_reducible assumption)
    | (with_reducible exact Part.sub_trans rfl hU)
    | (with_reducible exact Or.inl (Part.sub_trans rfl hU))
    | (with_reducible exact Or.inr rfl)
    | (with_reducible apply State.alkSwitch_within)
    | (with_reducible apply State.raise_within)
    | (with_reducible apply State.setAlk_within)
    | (with_reducible apply State.forgetNode_within)
    | (with_reducible apply State.each_within)
    | (with_reducible apply State.onlyIf_within)
    | (with_reducible apply State.foldl_within)
    | (intro x k hx)
    | (intro x hx)
    | split
    | (with_reducible apply SameOutside.built)

theorem execRestart_within (s : State) : Stays [.unit .sch, .unit .clu, .unit .lgs, .unit .alk, .latches] s (execRestart s) := by
  have hU : Part.sub [.unit .sch, .unit .clu, .unit .lgs, .unit .alk, .latches] [.unit .sch, .unit .clu, .unit .lgs, .unit .alk, .latches] = true := rfl
  unfold execRestart
  try dsimp only
  repeat' first
    | (with_reducible assumption)
    | (with_reducible exact Part.sub_trans rfl hU)
    | (with_reducible exact Or.inl (Part.sub_trans rfl hU))
    | (with_reducible exact Or.inr rfl)
    | (with_reducible exact SameOutside.refl _ _)
    | (with_reducible apply Stays.next)
    | (with_reducible apply State.alkRestart_within)

theorem State.alkPlan_within {U : List Part} {z0 s : State} (hz : SameOutside U z0 s) (cold : Bool) (hU : Part.sub [.unit .sch, .unit .alk, .latches] U = true) : SameOutside U z0 (State.alkPlan s cold) := by
  unfold State.alkPlan
  try dsimp only
  repeat' first
    | (with_reducible assumption)
    | (with_reducible exact Part.sub_trans rfl hU)
    | (with_reducible exact Or.inl (Part.sub_trans rfl hU))
    | (with_reducible exact Or.inr rfl)
    | (with_reducible apply State.dropNode_within)
    | (with_reducible apply State.put_within)
    | (with_reducible apply State.each_within)
    | (with_reducible apply State.onlyIf_within)
    | (with_reducible apply State.foldl_within)
    | (intro x k hx)
    | (intro x hx)
    | split

theorem State.alkPowerFail_within {U : List Part} {z0 s : State} (hz : SameOutside U z0 s) (hU : Part.sub [.unit .alk] U = true) : SameOutside U z0 (State.alkPowerFail s) := by
  unfold State.alkPowerFail
  try dsimp only
  repeat' first
    | (with_reducible assumption)
    | (with_reducible exact Part.sub_trans rfl hU)
    | (with_reducible exact Or.inl (Part.sub_trans rfl hU))
    | (with_reducible exact Or.inr rfl)
    | (with_reducible apply State.setAlk_within)

theorem State.queueDown_within {U : List Part} {z0 s : State} (hz : SameOutside U z0 s) (n : Nat) (m : List Nat) (hU : Part.sub [.unit .lgs, .unit .alk] U = true) : SameOutside U z0 (State.queueDown s n m).2 := by
  unfold State.queueDown
  try dsimp only
  repeat' first
    | (with_reducible assumption)
    | (with_reducible exact Part.sub_trans rfl hU)
    | (with_reducible exact Or.inl (Part.sub_trans rfl hU))
    | (with_reducible exact Or.inr rfl)
    | (with_reducible apply State.setAnode_within)
    | (with_reducible apply State.raise2_within)
    | (with_reducible apply State.put_within)
    | (with_reducible apply State.each_within)
    | (with_reducible apply State.onlyIf_within)
    | (with_reducible apply State.foldl_within)
    | (intro x k hx)
    | (intro x hx)
    | split
    | (with_reducible apply SameOutside.built)

end Sys2Proof.Machine
end

