-- ==== Sys2Proof/Laws/WithinFifo.lean ====
section
/-! SUPPORT. Every operation and every command of the HPU leaves the parts of the block alone that it does not touch (Laws/Within.lean). -/

namespace Sys2Proof.Machine

open Sys2Proof

theorem State.setHpu_within {U : List Part} {z0 s : State} (hz : SameOutside U z0 s) (v : Hpu) (hU : Part.sub [.unit .hpu] U = true) : SameOutside U z0 (State.setHpu s v) := by
  unfold State.setHpu
  try dsimp only
  repeat' first
    | (with_reducible assumption)
    | (with_reducible exact Part.sub_trans rfl hU)
    | (with_reducible exact Or.inl (Part.sub_trans rfl hU))
    | (with_reducible exact Or.inr rfl)
    | (with_reducible apply State.each_within)
    | (with_reducible apply State.onlyIf_within)
    | (with_reducible apply State.foldl_within)
    | (intro x k hx)
    | (intro x hx)
    | split
    | (with_reducible apply SameOutside.built)

theorem State.showFifo_within {U : List Part} {z0 s : State} (hz : SameOutside U z0 s) (hU : Part.sub [.unit .hpu] U = true) : SameOutside U z0 (State.showFifo s) := by
  unfold State.showFifo
  try dsimp only
  repeat' first
    | (with_reducible assumption)
    | (with_reducible exact Part.sub_trans rfl hU)
    | (with_reducible exact Or.inl (Part.sub_trans rfl hU))
    | (with_reducible exact Or.inr rfl)
    | (with_reducible apply State.setHpu_within)
    | (with_reducible apply State.put_within)

theorem State.flushUp_within {U : List Part} {z0 s : State} (hz : SameOutside U z0 s) (hU : Part.sub [.unit .hpu] U = true) : SameOutside U z0 (State.flushUp s) := by
  unfold State.flushUp
  try dsimp only
  repeat' first
    | (with_reducible assumption)
    | (with_reducible exact Part.sub_trans rfl hU)
    | (with_reducible exact Or.inl (Part.sub_trans rfl hU))
    | (with_reducible exact Or.inr rfl)
    | (with_reducible apply State.showFifo_within)
    | (with_reducible apply State.setHpu_within)

theorem State.sendFrame_within {U : List Part} {z0 s : State} (hz : SameOutside U z0 s) (p : Nat) (type : Nat) (payload : List Nat) (hU : Part.sub [.unit .hpu] U = true) : SameOutside U z0 (State.sendFrame s p type payload) := by
  unfold State.sendFrame
  try dsimp only
  repeat' first
    | (with_reducible assumption)
    | (with_reducible exact Part.sub_trans rfl hU)
    | (with_reducible exact Or.inl (Part.sub_trans rfl hU))
    | (with_reducible exact Or.inr rfl)
    | (with_reducible apply State.setHpu_within)
    | (with_reducible apply State.flushUp_within)
    | (with_reducible apply State.each_within)
    | (with_reducible apply State.onlyIf_within)
    | (with_reducible apply State.foldl_within)
    | (intro x k hx)
    | (intro x hx)
    | split
    | (with_reducible apply SameOutside.built)

theorem State.answerHost_within {U : List Part} {z0 s : State} (hz : SameOutside U z0 s) (p : Nat) (seq : Nat) (type : Nat) (payload : List Nat) (hU : Part.sub [.unit .hpu] U = true) : SameOutside U z0 (State.answerHost s p seq type payload) := by
  unfold State.answerHost
  try dsimp only
  repeat' first
    | (with_reducible assumption)
    | (with_reducible exact Part.sub_trans rfl hU)
    | (with_reducible exact Or.inl (Part.sub_trans rfl hU))
    | (with_reducible exact Or.inr rfl)
    | (with_reducible apply State.sendFrame_within)

theorem State.takeFrame_within {U : List Part} {z0 s : State} (hz : SameOutside U z0 s) (p : Nat) (len : Nat) (hU : Part.sub [.unit .hpu] U = true) : SameOutside U z0 (State.takeFrame s p len) := by
  unfold State.takeFrame
  try dsimp only
  repeat' first
    | (with_reducible assumption)
    | (with_reducible exact Part.sub_trans rfl hU)
    | (with_reducible exact Or.inl (Part.sub_trans rfl hU))
    | (with_reducible exact Or.inr rfl)
    | (with_reducible apply State.setHpu_within)
    | (with_reducible apply State.showFifo_within)
    | (with_reducible apply State.each_within)
    | (with_reducible apply State.onlyIf_within)
    | (with_reducible apply State.foldl_within)
    | (intro x k hx)
    | (intro x hx)
    | split

theorem State.fifoReset_within {U : List Part} {z0 s : State} (hz : SameOutside U z0 s) (up : Bool) (why : Nat) (hU : Part.sub [.unit .lgs, .unit .hpu] U = true) : SameOutside U z0 (State.fifoReset s up why) := by
  unfold State.fifoReset
  try dsimp only
  repeat' first
    | (with_reducible assumption)
    | (with_reducible exact Part.sub_trans rfl hU)
    | (with_reducible exact Or.inl (Part.sub_trans rfl hU))
    | (with_reducible exact Or.inr rfl)
    | (with_reducible apply State.raise2_within)
    | (with_reducible apply State.flushUp_within)
    | (with_reducible apply State.setHpu_within)
    | (with_reducible apply State.count_within)
    | (with_reducible apply State.put_within)
    | (with_reducible apply State.each_within)
    | (with_reducible apply State.onlyIf_within)
    | (with_reducible apply State.foldl_within)
    | (intro x k hx)
    | (intro x hx)
    | split
    | (with_reducible apply SameOutside.built)

theorem execDnrst_within (s : State) : Stays [.unit .lgs, .unit .hpu] s (execDnrst s) := by
  have hU : Part.sub [.unit .lgs, .unit .hpu] [.unit .lgs, .unit .hpu] = true := rfl
  unfold execDnrst
  try dsimp only
  repeat' first
    | (with_reducible assumption)
    | (with_reducible exact Part.sub_trans rfl hU)
    | (with_reducible exact Or.inl (Part.sub_trans rfl hU))
    | (with_reducible exact Or.inr rfl)
    | (with_reducible exact SameOutside.refl _ _)
    | (with_reducible apply Stays.next)
    | (with_reducible apply State.fifoReset_within)

theorem execUprst_within (s : State) : Stays [.unit .lgs, .unit .hpu] s (execUprst s) := by
  have hU : Part.sub [.unit .lgs, .unit .hpu] [.unit .lgs, .unit .hpu] = true := rfl
  unfold execUprst
  try dsimp only
  repeat' first
    | (with_reducible assumption)
    | (with_reducible exact Part.sub_trans rfl hU)
    | (with_reducible exact Or.inl (Part.sub_trans rfl hU))
    | (with_reducible exact Or.inr rfl)
    | (with_reducible exact SameOutside.refl _ _)
    | (with_reducible apply Stays.next)
    | (with_reducible apply State.fifoReset_within)

theorem execFifoPointerMismatch_within (up : Bool) (copies : List (Nat × Nat)) (s : State) : Stays [.unit .lgs, .unit .hpu] s (execFifoPointerMismatch up copies s) := by
  have hU : Part.sub [.unit .lgs, .unit .hpu] [.unit .lgs, .unit .hpu] = true := rfl
  unfold execFifoPointerMismatch
  try dsimp only
  repeat' first
    | (with_reducible assumption)
    | (with_reducible exact Part.sub_trans rfl hU)
    | (with_reducible exact Or.inl (Part.sub_trans rfl hU))
    | (with_reducible exact Or.inr rfl)
    | (with_reducible exact SameOutside.refl _ _)
    | (with_reducible apply Stays.next)
    | (with_reducible apply State.fifoReset_within)
    | (with_reducible apply State.each_within)
    | (with_reducible apply State.onlyIf_within)
    | (with_reducible apply State.foldl_within)
    | (intro x k hx)
    | (intro x hx)
    | split

theorem State.spiFrame_within {U : List Part} {z0 s : State} (hz : SameOutside U z0 s) (hU : Part.sub [.unit .hpu] U = true) : SameOutside U z0 (State.spiFrame s) := by
  unfold State.spiFrame
  try dsimp only
  repeat' first
    | (with_reducible assumption)
    | (with_reducible exact Part.sub_trans rfl hU)
    | (with_reducible exact Or.inl (Part.sub_trans rfl hU))
    | (with_reducible exact Or.inr rfl)
    | (with_reducible apply State.setHpu_within)
    | (with_reducible apply State.apply_within)

theorem execStatus_within (s : State) : Stays [.unit .hpu] s (execStatus s) := by
  have hU : Part.sub [.unit .hpu] [.unit .hpu] = true := rfl
  unfold execStatus
  try dsimp only
  repeat' first
    | (with_reducible assumption)
    | (with_reducible exact Part.sub_trans rfl hU)
    | (with_reducible exact Or.inl (Part.sub_trans rfl hU))
    | (with_reducible exact Or.inr rfl)
    | (with_reducible exact SameOutside.refl _ _)
    | (with_reducible apply Stays.next)
    | (with_reducible apply State.setHpu_within)
    | (with_reducible apply State.spiFrame_within)
    | (with_reducible apply State.each_within)
    | (with_reducible apply State.onlyIf_within)
    | (with_reducible apply State.foldl_within)
    | (intro x k hx)
    | (intro x hx)
    | split

theorem execUnknownSpiCommand_within (cmd : BitVec 8) (s : State) : Stays [.unit .hpu] s (execUnknownSpiCommand cmd s) := by
  have hU : Part.sub [.unit .hpu] [.unit .hpu] = true := rfl
  unfold execUnknownSpiCommand
  try dsimp only
  repeat' first
    | (with_reducible assumption)
    | (with_reducible exact Part.sub_trans rfl hU)
    | (with_reducible exact Or.inl (Part.sub_trans rfl hU))
    | (with_reducible exact Or.inr rfl)
    | (with_reducible exact SameOutside.refl _ _)
    | (with_reducible apply Stays.next)
    | (with_reducible apply State.put_within)
    | (with_reducible apply State.spiFrame_within)
    | (with_reducible apply State.each_within)
    | (with_reducible apply State.onlyIf_within)
    | (with_reducible apply State.foldl_within)
    | (intro x k hx)
    | (intro x hx)
    | split

theorem execFifoRead_within (count : Nat) (s : State) : Stays [.unit .hpu] s (execFifoRead count s) := by
  have hU : Part.sub [.unit .hpu] [.unit .hpu] = true := rfl
  unfold execFifoRead
  try dsimp only
  repeat' first
    | (with_reducible assumption)
    | (with_reducible exact Part.sub_trans rfl hU)
    | (with_reducible exact Or.inl (Part.sub_trans rfl hU))
    | (with_reducible exact Or.inr rfl)
    | (with_reducible exact SameOutside.refl _ _)
    | (with_reducible apply Stays.next)
    | (with_reducible apply State.flushUp_within)
    | (with_reducible apply State.setHpu_within)
    | (with_reducible apply State.spiFrame_within)
    | (with_reducible apply State.each_within)
    | (with_reducible apply State.onlyIf_within)
    | (with_reducible apply State.foldl_within)
    | (intro x k hx)
    | (intro x hx)
    | split

theorem execFifoWrite_within (bytes : List (BitVec 8)) (s : State) : Stays [.unit .lgs, .unit .hpu] s (execFifoWrite bytes s) := by
  have hU : Part.sub [.unit .lgs, .unit .hpu] [.unit .lgs, .unit .hpu] = true := rfl
  unfold execFifoWrite
  try dsimp only
  repeat' first
    | (with_reducible assumption)
    | (with_reducible exact Part.sub_trans rfl hU)
    | (with_reducible exact Or.inl (Part.sub_trans rfl hU))
    | (with_reducible exact Or.inr rfl)
    | (with_reducible exact SameOutside.refl _ _)
    | (with_reducible apply Stays.next)
    | (with_reducible apply State.raise2_within)
    | (with_reducible apply State.setHpu_within)
    | (with_reducible apply State.showFifo_within)
    | (with_reducible apply State.spiFrame_within)
    | (with_reducible apply State.put_within)
    | (with_reducible apply State.each_within)
    | (with_reducible apply State.onlyIf_within)
    | (with_reducible apply State.foldl_within)
    | (intro x k hx)
    | (intro x hx)
    | split
    | (with_reducible apply SameOutside.built)

theorem execUptoExpiry_within (s : State) : Stays [.unit .hpu] s (execUptoExpiry s) := by
  have hU : Part.sub [.unit .hpu] [.unit .hpu] = true := rfl
  unfold execUptoExpiry
  try dsimp only
  repeat' first
    | (with_reducible assumption)
    | (with_reducible exact Part.sub_trans rfl hU)
    | (with_reducible exact Or.inl (Part.sub_trans rfl hU))
    | (with_reducible exact Or.inr rfl)
    | (with_reducible exact SameOutside.refl _ _)
    | (with_reducible apply Stays.next)
    | (with_reducible apply State.showFifo_within)
    | (with_reducible apply State.moveTo_within)
    | (with_reducible apply State.each_within)
    | (with_reducible apply State.onlyIf_within)
    | (with_reducible apply State.foldl_within)
    | (intro x k hx)
    | (intro x hx)
    | split

theorem execBadFrameHeader_within (p : Fin 5) (s : State) : Stays [.unit .lgs, .unit .hpu] s (execBadFrameHeader p s) := by
  have hU : Part.sub [.unit .lgs, .unit .hpu] [.unit .lgs, .unit .hpu] = true := rfl
  unfold execBadFrameHeader
  try dsimp only
  repeat' first
    | (with_reducible assumption)
    | (with_reducible exact Part.sub_trans rfl hU)
    | (with_reducible exact Or.inl (Part.sub_trans rfl hU))
    | (with_reducible exact Or.inr rfl)
    | (with_reducible exact SameOutside.refl _ _)
    | (with_reducible apply Stays.next)
    | (with_reducible apply State.raise2_within)
    | (with_reducible apply State.setHpu_within)
    | (with_reducible apply State.showFifo_within)
    | (with_reducible apply State.put_within)
    | (with_reducible apply State.each_within)
    | (with_reducible apply State.onlyIf_within)
    | (with_reducible apply State.foldl_within)
    | (intro x k hx)
    | (intro x hx)
    | split
    | (with_reducible apply SameOutside.built)

theorem execUnknownFrameType_within (p : Fin 5) (seq : BitVec 32) (type : BitVec 8) (payload : List (BitVec 8)) (s : State) : Stays [.unit .hpu] s (execUnknownFrameType p seq type payload s) := by
  have hU : Part.sub [.unit .hpu] [.unit .hpu] = true := rfl
  unfold execUnknownFrameType
  try dsimp only
  repeat' first
    | (with_reducible assumption)
    | (with_reducible exact Part.sub_trans rfl hU)
    | (with_reducible exact Or.inl (Part.sub_trans rfl hU))
    | (with_reducible exact Or.inr rfl)
    | (with_reducible exact SameOutside.refl _ _)
    | (with_reducible apply Stays.next)
    | (with_reducible apply State.sendFrame_within)
    | (with_reducible apply State.takeFrame_within)
    | (with_reducible apply State.each_within)
    | (with_reducible apply State.onlyIf_within)
    | (with_reducible apply State.foldl_within)
    | (intro x k hx)
    | (intro x hx)
    | split

theorem State.frameDropped_within {U : List Part} {z0 s : State} (hz : SameOutside U z0 s) (p : Nat) (type : Nat) (hU : Part.sub [.unit .lgs, .unit .hpu] U = true) : SameOutside U z0 (State.frameDropped s p type) := by
  unfold State.frameDropped
  try dsimp only
  repeat' first
    | (with_reducible assumption)
    | (with_reducible exact Part.sub_trans rfl hU)
    | (with_reducible exact Or.inl (Part.sub_trans rfl hU))
    | (with_reducible exact Or.inr rfl)
    | (with_reducible apply State.count_within)
    | (with_reducible apply State.raise2_within)
    | (with_reducible apply State.put_within)

theorem execHostFrameDrop_within (p : Fin 5) (type : BitVec 8) (s : State) : Stays [.unit .lgs, .unit .hpu] s (execHostFrameDrop p type s) := by
  have hU : Part.sub [.unit .lgs, .unit .hpu] [.unit .lgs, .unit .hpu] = true := rfl
  unfold execHostFrameDrop
  try dsimp only
  repeat' first
    | (with_reducible assumption)
    | (with_reducible exact Part.sub_trans rfl hU)
    | (with_reducible exact Or.inl (Part.sub_trans rfl hU))
    | (with_reducible exact Or.inr rfl)
    | (with_reducible exact SameOutside.refl _ _)
    | (with_reducible apply Stays.next)
    | (with_reducible apply State.setHpu_within)
    | (with_reducible apply State.moveTo_within)
    | (with_reducible apply State.flushUp_within)
    | (with_reducible apply State.frameDropped_within)
    | (with_reducible apply State.each_within)
    | (with_reducible apply State.onlyIf_within)
    | (with_reducible apply State.foldl_within)
    | (intro x k hx)
    | (intro x hx)
    | split
    | (with_reducible apply SameOutside.built)

theorem execSubscribe_within (p : Fin 5) (seq : BitVec 32) (streams : BitVec 16) (n : BitVec 16) (s : State) : Stays [.unit .hpu] s (execSubscribe p seq streams n s) := by
  have hU : Part.sub [.unit .hpu] [.unit .hpu] = true := rfl
  unfold execSubscribe
  try dsimp only
  repeat' first
    | (with_reducible assumption)
    | (with_reducible exact Part.sub_trans rfl hU)
    | (with_reducible exact Or.inl (Part.sub_trans rfl hU))
    | (with_reducible exact Or.inr rfl)
    | (with_reducible exact SameOutside.refl _ _)
    | (with_reducible apply Stays.next)
    | (with_reducible apply State.setHpu_within)
    | (with_reducible apply State.answerHost_within)
    | (with_reducible apply State.takeFrame_within)
    | (with_reducible apply State.each_within)
    | (with_reducible apply State.onlyIf_within)
    | (with_reducible apply State.foldl_within)
    | (intro x k hx)
    | (intro x hx)
    | split
    | (with_reducible apply SameOutside.built)

theorem execLedger_within (p : Fin 5) (seq : BitVec 32) (region : BitVec 8) (first : BitVec 64) (count : BitVec 32) (s : State) : Stays [.unit .hpu] s (execLedger p seq region first count s) := by
  have hU : Part.sub [.unit .hpu] [.unit .hpu] = true := rfl
  unfold execLedger
  try dsimp only
  repeat' first
    | (with_reducible assumption)
    | (with_reducible exact Part.sub_trans rfl hU)
    | (with_reducible exact Or.inl (Part.sub_trans rfl hU))
    | (with_reducible exact Or.inr rfl)
    | (with_reducible exact SameOutside.refl _ _)
    | (with_reducible apply Stays.next)
    | (with_reducible apply State.answerHost_within)
    | (with_reducible apply State.takeFrame_within)
    | (with_reducible apply State.each_within)
    | (with_reducible apply State.onlyIf_within)
    | (with_reducible apply State.foldl_within)
    | (intro x k hx)
    | (intro x hx)
    | split

theorem execAfril_within (p : Fin 5) (seq : BitVec 32) (node : BitVec 8) (message : List (BitVec 8)) (s : State) : Stays [.unit .lgs, .unit .alk, .unit .hpu] s (execAfril p seq node message s) := by
  have hU : Part.sub [.unit .lgs, .unit .alk, .unit .hpu] [.unit .lgs, .unit .alk, .unit .hpu] = true := rfl
  unfold execAfril
  try dsimp only
  repeat' first
    | (with_reducible assumption)
    | (with_reducible exact Part.sub_trans rfl hU)
    | (with_reducible exact Or.inl (Part.sub_trans rfl hU))
    | (with_reducible exact Or.inr rfl)
    | (with_reducible exact SameOutside.refl _ _)
    | (with_reducible apply Stays.next)
    | (with_reducible apply State.queueDown_within)
    | (with_reducible apply State.answerHost_within)
    | (with_reducible apply State.takeFrame_within)
    | (with_reducible apply State.each_within)
    | (with_reducible apply State.onlyIf_within)
    | (with_reducible apply State.foldl_within)
    | (intro x k hx)
    | (intro x hx)
    | (with_reducible refine SameOutside.snd ?_ (by assumption))
    | split
    | (with_reducible apply SameOutside.built)

theorem execHmiSessionOpen_within (p : Fin 4) (alert : Option (BitVec 8)) (s : State) : Stays [.unit .sch, .unit .lgs, .unit .hpu] s (execHmiSessionOpen p alert s) := by
  have hU : Part.sub [.unit .sch, .unit .lgs, .unit .hpu] [.unit .sch, .unit .lgs, .unit .hpu] = true := rfl
  unfold execHmiSessionOpen
  try dsimp only
  repeat' first
    | (with_reducible assumption)
    | (with_reducible exact Part.sub_trans rfl hU)
    | (with_reducible exact Or.inl (Part.sub_trans rfl hU))
    | (with_reducible exact Or.inr rfl)
    | (with_reducible exact SameOutside.refl _ _)
    | (with_reducible apply Stays.next)
    | (with_reducible apply State.bindStream_within)
    | (with_reducible apply State.raise2_within)
    | (with_reducible apply State.setHpu_within)
    | (with_reducible apply State.draw_within)
    | (with_reducible apply State.raise_within)
    | (with_reducible apply State.refuseStream_within)
    | (with_reducible apply State.endStream_within)
    | (with_reducible apply State.each_within)
    | (with_reducible apply State.onlyIf_within)
    | (with_reducible apply State.foldl_within)
    | (intro x k hx)
    | (intro x hx)
    | (with_reducible refine SameOutside.snd ?_ (by assumption))
    | split
    | (with_reducible apply SameOutside.built)

theorem State.closeHmi_within {U : List Part} {z0 s : State} (hz : SameOutside U z0 s) (p : Nat) (hU : Part.sub [.unit .sch, .unit .lgs, .unit .hpu] U = true) : SameOutside U z0 (State.closeHmi s p) := by
  unfold State.closeHmi
  try dsimp only
  repeat' first
    | (with_reducible assumption)
    | (with_reducible exact Part.sub_trans rfl hU)
    | (with_reducible exact Or.inl (Part.sub_trans rfl hU))
    | (with_reducible exact Or.inr rfl)
    | (with_reducible apply State.setHpu_within)
    | (with_reducible apply State.raise2_within)
    | (with_reducible apply State.endStream_within)
    | (with_reducible apply State.each_within)
    | (with_reducible apply State.onlyIf_within)
    | (with_reducible apply State.foldl_within)
    | (intro x k hx)
    | (intro x hx)
    | split
    | (with_reducible apply SameOutside.built)

theorem execHmiSessionClose_within (p : Fin 4) (s : State) : Stays [.unit .sch, .unit .lgs, .unit .hpu] s (execHmiSessionClose p s) := by
  have hU : Part.sub [.unit .sch, .unit .lgs, .unit .hpu] [.unit .sch, .unit .lgs, .unit .hpu] = true := rfl
  unfold execHmiSessionClose
  try dsimp only
  repeat' first
    | (with_reducible assumption)
    | (with_reducible exact Part.sub_trans rfl hU)
    | (with_reducible exact Or.inl (Part.sub_trans rfl hU))
    | (with_reducible exact Or.inr rfl)
    | (with_reducible exact SameOutside.refl _ _)
    | (with_reducible apply Stays.next)
    | (with_reducible apply State.closeHmi_within)

theorem State.hpuWarm_within {U : List Part} {z0 s : State} (hz : SameOutside U z0 s) (hU : Part.sub [.unit .sch, .unit .lgs, .unit .hpu, .latches] U = true) : SameOutside U z0 (State.hpuWarm s) := by
  unfold State.hpuWarm
  try dsimp only
  repeat' first
    | (with_reducible assumption)
    | (with_reducible exact Part.sub_trans rfl hU)
    | (with_reducible exact Or.inl (Part.sub_trans rfl hU))
    | (with_reducible exact Or.inr rfl)
    | (with_reducible apply State.closeHmi_within)
    | (with_reducible apply State.fifoReset_within)
    | (with_reducible apply State.setHpu_within)
    | (with_reducible apply State.clearUnit_within)
    | (with_reducible apply State.each_within)
    | (with_reducible apply State.onlyIf_within)
    | (with_reducible apply State.foldl_within)
    | (intro x k hx)
    | (intro x hx)
    | split
    | (with_reducible apply SameOutside.built)

theorem State.hpuReset_within {U : List Part} {z0 s : State} (hz : SameOutside U z0 s) (hU : Part.sub [.unit .sch, .unit .lgs, .unit .hpu, .latches] U = true) : SameOutside U z0 (State.hpuReset s) := by
  unfold State.hpuReset
  try dsimp only
  repeat' first
    | (with_reducible assumption)
    | (with_reducible exact Part.sub_trans rfl hU)
    | (with_reducible exact Or.inl (Part.sub_trans rfl hU))
    | (with_reducible exact Or.inr rfl)
    | (with_reducible apply State.hpuWarm_within)

end Sys2Proof.Machine
end

