-- ==== Sys2Proof/Laws/WithinKeys.lean ====
section
/-! SUPPORT. Every operation and every command of the SEC leaves the parts of the block alone that it does not touch (Laws/Within.lean). -/

namespace Sys2Proof.Machine

open Sys2Proof

theorem State.showSlot_within {U : List Part} {z0 s : State} (hz : SameOutside U z0 s) (hU : Part.sub [.unit .sec] U = true) : SameOutside U z0 (State.showSlot s) := by
  unfold State.showSlot
  try dsimp only
  repeat' first
    | (with_reducible assumption)
    | (with_reducible exact Part.sub_trans rfl hU)
    | (with_reducible exact Or.inl (Part.sub_trans rfl hU))
    | (with_reducible exact Or.inr rfl)
    | (with_reducible apply State.put_within)

theorem State.dropShadow_within {U : List Part} {z0 s : State} (hz : SameOutside U z0 s) (k : Nat) (why : Nat) (hU : Part.sub [.unit .lgs, .unit .sec] U = true) : SameOutside U z0 (State.dropShadow s k why) := by
  unfold State.dropShadow
  try dsimp only
  repeat' first
    | (with_reducible assumption)
    | (with_reducible exact Part.sub_trans rfl hU)
    | (with_reducible exact Or.inl (Part.sub_trans rfl hU))
    | (with_reducible exact Or.inr rfl)
    | (with_reducible apply State.setSlot_within)
    | (with_reducible apply State.raise2_within)
    | (with_reducible apply State.each_within)
    | (with_reducible apply State.onlyIf_within)
    | (with_reducible apply State.foldl_within)
    | (intro x k hx)
    | (intro x hx)
    | split

theorem State.writeShadow_within {U : List Part} {z0 s : State} (hz : SameOutside U z0 s) (k : Nat) (t : Nat) (gen : Bool) (pub : List Nat) (shares : KeyShares) (cert : Nat) (testOk : Bool) (hU : Part.sub [.unit .lgs, .unit .sec] U = true) : SameOutside U z0 (State.writeShadow s k t gen pub shares cert testOk) := by
  unfold State.writeShadow
  try dsimp only
  repeat' first
    | (with_reducible assumption)
    | (with_reducible exact Part.sub_trans rfl hU)
    | (with_reducible exact Or.inl (Part.sub_trans rfl hU))
    | (with_reducible exact Or.inr rfl)
    | (with_reducible apply State.setSlot_within)
    | (with_reducible apply State.raise2_within)
    | (with_reducible apply State.dropShadow_within)
    | (with_reducible apply State.each_within)
    | (with_reducible apply State.onlyIf_within)
    | (with_reducible apply State.foldl_within)
    | (intro x k hx)
    | (intro x hx)
    | split
    | (with_reducible apply SameOutside.built)

theorem State.newKey_within {U : List Part} {z0 s : State} (hz : SameOutside U z0 s) (t : Nat) (hU : Part.sub [.unit .sec] U = true) : SameOutside U z0 (State.newKey s t).2 := by
  unfold State.newKey
  try dsimp only
  repeat' first
    | (with_reducible assumption)
    | (with_reducible exact Part.sub_trans rfl hU)
    | (with_reducible exact Or.inl (Part.sub_trans rfl hU))
    | (with_reducible exact Or.inr rfl)
    | (with_reducible apply State.randomBits_within)

theorem State.flipSlot_within {U : List Part} {z0 s : State} (hz : SameOutside U z0 s) (k : Nat) (sealed : Bool) (hU : Part.sub [.unit .lgs, .unit .sec] U = true) : SameOutside U z0 (State.flipSlot s k sealed) := by
  unfold State.flipSlot
  try dsimp only
  repeat' first
    | (with_reducible assumption)
    | (with_reducible exact Part.sub_trans rfl hU)
    | (with_reducible exact Or.inl (Part.sub_trans rfl hU))
    | (with_reducible exact Or.inr rfl)
    | (with_reducible apply State.setSlot_within)
    | (with_reducible apply State.raise2_within)

theorem execFirmwareKeyGen_within (slot : Fin 128) (ktype : Fin 16) (testOk : Bool) (s : State) : Stays [.unit .lgs, .unit .sec] s (execFirmwareKeyGen slot ktype testOk s) := by
  have hU : Part.sub [.unit .lgs, .unit .sec] [.unit .lgs, .unit .sec] = true := rfl
  unfold execFirmwareKeyGen
  try dsimp only
  repeat' first
    | (with_reducible assumption)
    | (with_reducible exact Part.sub_trans rfl hU)
    | (with_reducible exact Or.inl (Part.sub_trans rfl hU))
    | (with_reducible exact Or.inr rfl)
    | (with_reducible exact SameOutside.refl _ _)
    | (with_reducible apply Stays.next)
    | (with_reducible apply State.newKey_within)
    | (with_reducible apply State.writeShadow_within)
    | (with_reducible apply State.each_within)
    | (with_reducible apply State.onlyIf_within)
    | (with_reducible apply State.foldl_within)
    | (intro x k hx)
    | (intro x hx)
    | (with_reducible refine SameOutside.snd ?_ (by assumption))
    | split
    | (with_reducible apply SameOutside.built)

theorem execFirmwareKeyCommit_within (slot : Fin 128) (subject : List (BitVec 8)) (chain : CertChain) (s : State) : Stays [.unit .lgs, .unit .sec] s (execFirmwareKeyCommit slot subject chain s) := by
  have hU : Part.sub [.unit .lgs, .unit .sec] [.unit .lgs, .unit .sec] = true := rfl
  unfold execFirmwareKeyCommit
  try dsimp only
  repeat' first
    | (with_reducible assumption)
    | (with_reducible exact Part.sub_trans rfl hU)
    | (with_reducible exact Or.inl (Part.sub_trans rfl hU))
    | (with_reducible exact Or.inr rfl)
    | (with_reducible exact SameOutside.refl _ _)
    | (with_reducible apply Stays.next)
    | (with_reducible apply State.request_within)
    | (with_reducible apply State.flipSlot_within)
    | (with_reducible apply State.each_within)
    | (with_reducible apply State.onlyIf_within)
    | (with_reducible apply State.foldl_within)
    | (intro x k hx)
    | (intro x hx)
    | split

theorem execCryptoOperationDone_within (slot : Fin 128) (use : Fin 4) (error : BitVec 8) (queued : Fin 65) (s : State) : Stays [.unit .blu, .unit .lgs, .unit .sec] s (execCryptoOperationDone slot use error queued s) := by
  have hU : Part.sub [.unit .blu, .unit .lgs, .unit .sec] [.unit .blu, .unit .lgs, .unit .sec] = true := rfl
  unfold execCryptoOperationDone
  try dsimp only
  repeat' first
    | (with_reducible assumption)
    | (with_reducible exact Part.sub_trans rfl hU)
    | (with_reducible exact Or.inl (Part.sub_trans rfl hU))
    | (with_reducible exact Or.inr rfl)
    | (with_reducible exact SameOutside.refl _ _)
    | (with_reducible apply Stays.next)
    | (with_reducible apply State.count_within)
    | (with_reducible apply State.setSec_within)
    | (with_reducible apply State.sealNext_within)
    | (with_reducible apply State.put_within)
    | (with_reducible apply State.each_within)
    | (with_reducible apply State.onlyIf_within)
    | (with_reducible apply State.foldl_within)
    | (intro x k hx)
    | (intro x hx)
    | split
    | (with_reducible apply SameOutside.built)

theorem State.remaskSlot_within {U : List Part} {z0 s : State} (hz : SameOutside U z0 s) (k : Nat) (hU : Part.sub [.unit .sec] U = true) : SameOutside U z0 (State.remaskSlot s k) := by
  unfold State.remaskSlot
  try dsimp only
  repeat' first
    | (with_reducible assumption)
    | (with_reducible exact Part.sub_trans rfl hU)
    | (with_reducible exact Or.inl (Part.sub_trans rfl hU))
    | (with_reducible exact Or.inr rfl)
    | (with_reducible apply State.setSlot_within)
    | (with_reducible apply State.randomBits_within)
    | (with_reducible apply State.each_within)
    | (with_reducible apply State.onlyIf_within)
    | (with_reducible apply State.foldl_within)
    | (intro x k hx)
    | (intro x hx)
    | (with_reducible refine SameOutside.snd ?_ (by assumption))
    | split
    | (with_reducible apply SameOutside.built)

theorem execRemaskPass_within (seconds : Nat) (s : State) : Stays [.unit .lgs, .unit .sec] s (execRemaskPass seconds s) := by
  have hU : Part.sub [.unit .lgs, .unit .sec] [.unit .lgs, .unit .sec] = true := rfl
  unfold execRemaskPass
  try dsimp only
  repeat' first
    | (with_reducible assumption)
    | (with_reducible exact Part.sub_trans rfl hU)
    | (with_reducible exact Or.inl (Part.sub_trans rfl hU))
    | (with_reducible exact Or.inr rfl)
    | (with_reducible exact SameOutside.refl _ _)
    | (with_reducible apply Stays.next)
    | (with_reducible apply State.moveTo_within)
    | (with_reducible apply State.setSec_within)
    | (with_reducible apply State.raise_within)
    | (with_reducible apply State.remaskSlot_within)
    | (with_reducible apply State.put_within)
    | (with_reducible apply State.each_within)
    | (with_reducible apply State.onlyIf_within)
    | (with_reducible apply State.foldl_within)
    | (intro x k hx)
    | (intro x hx)
    | split
    | (with_reducible apply SameOutside.built)

theorem execDrbgReseed_within (s : State) : Stays [.unit .sec] s (execDrbgReseed s) := by
  have hU : Part.sub [.unit .sec] [.unit .sec] = true := rfl
  unfold execDrbgReseed
  try dsimp only
  repeat' first
    | (with_reducible assumption)
    | (with_reducible exact Part.sub_trans rfl hU)
    | (with_reducible exact Or.inl (Part.sub_trans rfl hU))
    | (with_reducible exact Or.inr rfl)
    | (with_reducible exact SameOutside.refl _ _)
    | (with_reducible apply Stays.next)
    | (with_reducible apply State.moveTo_within)
    | (with_reducible apply State.setSec_within)
    | (with_reducible apply State.each_within)
    | (with_reducible apply State.onlyIf_within)
    | (with_reducible apply State.foldl_within)
    | (intro x k hx)
    | (intro x hx)
    | split
    | (with_reducible apply SameOutside.built)

theorem execEntropyTestFailure_within (adaptive : Bool) (s : State) : Stays [.unit .lgs, .unit .sec] s (execEntropyTestFailure adaptive s) := by
  have hU : Part.sub [.unit .lgs, .unit .sec] [.unit .lgs, .unit .sec] = true := rfl
  unfold execEntropyTestFailure
  try dsimp only
  repeat' first
    | (with_reducible assumption)
    | (with_reducible exact Part.sub_trans rfl hU)
    | (with_reducible exact Or.inl (Part.sub_trans rfl hU))
    | (with_reducible exact Or.inr rfl)
    | (with_reducible exact SameOutside.refl _ _)
    | (with_reducible apply Stays.next)
    | (with_reducible apply State.raise_within)
    | (with_reducible apply State.putFlag_within)

theorem State.secStart_within {U : List Part} {z0 s : State} (hz : SameOutside U z0 s) (failedRow : Nat) (hU : Part.sub [.unit .lgs, .unit .sec] U = true) : SameOutside U z0 (State.secStart s failedRow) := by
  unfold State.secStart
  try dsimp only
  repeat' first
    | (with_reducible assumption)
    | (with_reducible exact Part.sub_trans rfl hU)
    | (with_reducible exact Or.inl (Part.sub_trans rfl hU))
    | (with_reducible exact Or.inr rfl)
    | (with_reducible apply State.raise_within)
    | (with_reducible apply State.putFlag_within)
    | (with_reducible apply State.each_within)
    | (with_reducible apply State.onlyIf_within)
    | (with_reducible apply State.foldl_within)
    | (intro x k hx)
    | (intro x hx)

end Sys2Proof.Machine
end

