-- ==== Sys2Proof/Laws/WithinPilot.lean ====
section
/-! SUPPORT. Every operation and every command of the pilots leaves the parts of the block alone that it does not touch (Laws/Within.lean). -/

namespace Sys2Proof.Machine

open Sys2Proof

theorem State.trackIdle_within {U : List Part} {z0 s : State} (hz : SameOutside U z0 s) (hU : Part.sub [.unit .bcu] U = true) : SameOutside U z0 (State.trackIdle s) := by
  unfold State.trackIdle
  try dsimp only
  repeat' first
    | (with_reducible assumption)
    | (with_reducible exact Part.sub_trans rfl hU)
    | (with_reducible exact Or.inl (Part.sub_trans rfl hU))
    | (with_reducible exact Or.inr rfl)
    | (with_reducible apply State.each_within)
    | (with_reducible apply State.onlyIf_within)
    | (with_reducible apply State.foldl_within)
    | (intro x k hx)
    | (intro x hx)
    | split
    | (with_reducible apply SameOutside.built)

theorem State.withPilot_within {U : List Part} {z0 s : State} (hz : SameOutside U z0 s) (n : Nat) (f : State → State)
    (hU : Part.sub [.unit .sch, .unit .oiu, .unit .vce, .unit .efu, .unit .psw, .unit .lgs, .unit .sec, .unit .bcu, .allocator] U = true)
    (hf : ∀ x, SameOutside U z0 x → SameOutside U z0 (f x)) : SameOutside U z0 (State.withPilot s n f) := by
  unfold State.withPilot
  extract_lets old s1
  have h1 : SameOutside U z0 s1 := hf s hz
  clear_value s1
  split
  · exact h1
  · exact State.trackIdle_within (State.vcePilot_within (State.efuPilot_within h1 _ _ (Part.sub_trans rfl hU)) _ (Part.sub_trans rfl hU))
      (Part.sub_trans rfl hU)

theorem execPilotPeriodBoundary_within (n : Fin 24) (s : State) : Stays [.unit .sch, .unit .oiu, .unit .vce, .unit .efu, .unit .psw, .unit .lgs, .unit .sec, .unit .bcu, .allocator] s (execPilotPeriodBoundary n s) := by
  have hU : Part.sub [.unit .sch, .unit .oiu, .unit .vce, .unit .efu, .unit .psw, .unit .lgs, .unit .sec, .unit .bcu, .allocator] [.unit .sch, .unit .oiu, .unit .vce, .unit .efu, .unit .psw, .unit .lgs, .unit .sec, .unit .bcu, .allocator] = true := rfl
  unfold execPilotPeriodBoundary
  try dsimp only
  repeat' first
    | (with_reducible assumption)
    | (with_reducible exact Part.sub_trans rfl hU)
    | (with_reducible exact Or.inl (Part.sub_trans rfl hU))
    | (with_reducible exact Or.inr rfl)
    | (with_reducible exact SameOutside.refl _ _)
    | (with_reducible apply Stays.next)
    | (with_reducible apply State.pilotPeriod_within)
    | (with_reducible apply State.withPilot_within)
    | (with_reducible apply State.each_within)
    | (with_reducible apply State.onlyIf_within)
    | (with_reducible apply State.foldl_within)
    | (intro x k hx)
    | (intro x hx)

theorem State.pilotHigh_within {U : List Part} {z0 s : State} (hz : SameOutside U z0 s) (n : Nat) (vhi : Int) (hU : Part.sub [.unit .oiu, .unit .efu, .unit .psw, .unit .lgs, .allocator] U = true) : SameOutside U z0 (State.pilotHigh s n vhi) := by
  unfold State.pilotHigh
  try dsimp only
  repeat' first
    | (with_reducible assumption)
    | (with_reducible exact Part.sub_trans rfl hU)
    | (with_reducible exact Or.inl (Part.sub_trans rfl hU))
    | (with_reducible exact Or.inr rfl)
    | (with_reducible apply State.confirm_within)
    | (with_reducible apply State.runStep_within)
    | (with_reducible apply State.takeVhi_within)
    | (with_reducible apply State.each_within)
    | (with_reducible apply State.onlyIf_within)
    | (with_reducible apply State.foldl_within)
    | (intro x k hx)
    | (intro x hx)
    | split
    | (with_reducible apply SameOutside.built)

theorem execPilotSample_within (n : Fin 24) (vhi : Int) (vlo : Option Int) (s : State) : Stays [.unit .sch, .unit .oiu, .unit .vce, .unit .efu, .unit .psw, .unit .lgs, .unit .sec, .unit .bcu, .allocator] s (execPilotSample n vhi vlo s) := by
  have hU : Part.sub [.unit .sch, .unit .oiu, .unit .vce, .unit .efu, .unit .psw, .unit .lgs, .unit .sec, .unit .bcu, .allocator] [.unit .sch, .unit .oiu, .unit .vce, .unit .efu, .unit .psw, .unit .lgs, .unit .sec, .unit .bcu, .allocator] = true := rfl
  unfold execPilotSample
  try dsimp only
  repeat' first
    | (with_reducible assumption)
    | (with_reducible exact Part.sub_trans rfl hU)
    | (with_reducible exact Or.inl (Part.sub_trans rfl hU))
    | (with_reducible exact Or.inr rfl)
    | (with_reducible exact SameOutside.refl _ _)
    | (with_reducible apply Stays.next)
    | (with_reducible apply State.pilotHigh_within)
    | (with_reducible apply State.withPilot_within)
    | (with_reducible apply State.setOiu_within)
    | (with_reducible apply State.moveTo_within)
    | (with_reducible apply State.takeLow_within)
    | (with_reducible apply State.each_within)
    | (with_reducible apply State.onlyIf_within)
    | (with_reducible apply State.foldl_within)
    | (intro x k hx)
    | (intro x hx)
    | split
    | (with_reducible apply SameOutside.built)

theorem execPilotStateConfirm_within (n : Fin 24) (vhi : Int) (s : State) : Stays [.unit .sch, .unit .oiu, .unit .vce, .unit .efu, .unit .psw, .unit .lgs, .unit .sec, .unit .bcu, .allocator] s (execPilotStateConfirm n vhi s) := by
  have hU : Part.sub [.unit .sch, .unit .oiu, .unit .vce, .unit .efu, .unit .psw, .unit .lgs, .unit .sec, .unit .bcu, .allocator] [.unit .sch, .unit .oiu, .unit .vce, .unit .efu, .unit .psw, .unit .lgs, .unit .sec, .unit .bcu, .allocator] = true := rfl
  unfold execPilotStateConfirm
  try dsimp only
  repeat' first
    | (with_reducible assumption)
    | (with_reducible exact Part.sub_trans rfl hU)
    | (with_reducible exact Or.inl (Part.sub_trans rfl hU))
    | (with_reducible exact Or.inr rfl)
    | (with_reducible exact SameOutside.refl _ _)
    | (with_reducible apply Stays.next)
    | (with_reducible apply State.withPilot_within)
    | (with_reducible apply State.confirm_within)
    | (with_reducible apply State.put_within)
    | (with_reducible apply State.each_within)
    | (with_reducible apply State.onlyIf_within)
    | (with_reducible apply State.foldl_within)
    | (intro x k hx)
    | (intro x hx)
    | split
    | (with_reducible apply SameOutside.built)

theorem execLowLevelClassConfirm_within (n : Fin 24) (vlo : Int) (s : State) : Stays [.unit .sch, .unit .oiu, .unit .vce, .unit .efu, .unit .psw, .unit .lgs, .unit .sec, .unit .bcu, .allocator] s (execLowLevelClassConfirm n vlo s) := by
  have hU : Part.sub [.unit .sch, .unit .oiu, .unit .vce, .unit .efu, .unit .psw, .unit .lgs, .unit .sec, .unit .bcu, .allocator] [.unit .sch, .unit .oiu, .unit .vce, .unit .efu, .unit .psw, .unit .lgs, .unit .sec, .unit .bcu, .allocator] = true := rfl
  unfold execLowLevelClassConfirm
  try dsimp only
  repeat' first
    | (with_reducible assumption)
    | (with_reducible exact Part.sub_trans rfl hU)
    | (with_reducible exact Or.inl (Part.sub_trans rfl hU))
    | (with_reducible exact Or.inr rfl)
    | (with_reducible exact SameOutside.refl _ _)
    | (with_reducible apply Stays.next)
    | (with_reducible apply State.withPilot_within)
    | (with_reducible apply State.confirmLow_within)
    | (with_reducible apply State.put_within)
    | (with_reducible apply State.each_within)
    | (with_reducible apply State.onlyIf_within)
    | (with_reducible apply State.foldl_within)
    | (intro x k hx)
    | (intro x hx)
    | split
    | (with_reducible apply SameOutside.built)

theorem execPpBandConfirm_within (n : Fin 24) (ohm : Nat) (s : State) : Stays [.unit .sch, .unit .oiu, .unit .vce, .unit .efu, .unit .psw, .unit .lgs, .allocator] s (execPpBandConfirm n ohm s) := by
  have hU : Part.sub [.unit .sch, .unit .oiu, .unit .vce, .unit .efu, .unit .psw, .unit .lgs, .allocator] [.unit .sch, .unit .oiu, .unit .vce, .unit .efu, .unit .psw, .unit .lgs, .allocator] = true := rfl
  unfold execPpBandConfirm
  try dsimp only
  repeat' first
    | (with_reducible assumption)
    | (with_reducible exact Part.sub_trans rfl hU)
    | (with_reducible exact Or.inl (Part.sub_trans rfl hU))
    | (with_reducible exact Or.inr rfl)
    | (with_reducible exact SameOutside.refl _ _)
    | (with_reducible apply Stays.next)
    | (with_reducible apply State.vceBand_within)
    | (with_reducible apply State.confirmBand_within)

end Sys2Proof.Machine
end

