-- ==== Sys2Proof/Laws/WithinPitch.lean ====
section
/-! SUPPORT. Every operation and every command of the PPL leaves the parts of the block alone that it does not touch (Laws/Within.lean). -/

namespace Sys2Proof.Machine

open Sys2Proof

theorem State.setPpl_within {U : List Part} {z0 s : State} (hz : SameOutside U z0 s) (v : Ppl) (hU : Part.sub [.unit .ppl] U = true) : SameOutside U z0 (State.setPpl s v) := by
  unfold State.setPpl
  try dsimp only
  repeat' first
    | (with_reducible assumption)
    | (with_reducible exact Part.sub_trans rfl hU)
    | (with_reducible exact Or.inl (Part.sub_trans rfl hU))
    | (with_reducible exact Or.inr rfl)
    | (with_reducible apply State.each_within)
    | (with_reducible apply State.onlyIf_within)
    | (with_reducible apply State.foldl_within)
    | (intro x k hx)
    | (intro x hx)
    | split
    | (with_reducible apply SameOutside.built)

theorem State.showPpl_within {U : List Part} {z0 s : State} (hz : SameOutside U z0 s) (hU : Part.sub [.unit .ppl] U = true) : SameOutside U z0 (State.showPpl s) := by
  unfold State.showPpl
  try dsimp only
  repeat' first
    | (with_reducible assumption)
    | (with_reducible exact Part.sub_trans rfl hU)
    | (with_reducible exact Or.inl (Part.sub_trans rfl hU))
    | (with_reducible exact Or.inr rfl)
    | (with_reducible apply State.put_within)
    | (with_reducible apply State.each_within)
    | (with_reducible apply State.onlyIf_within)
    | (with_reducible apply State.foldl_within)
    | (intro x k hx)

theorem State.showStaged_within {U : List Part} {z0 s : State} (hz : SameOutside U z0 s) (hU : Part.sub [.unit .ppl] U = true) : SameOutside U z0 (State.showStaged s) := by
  unfold State.showStaged
  try dsimp only
  repeat' first
    | (with_reducible assumption)
    | (with_reducible exact Part.sub_trans rfl hU)
    | (with_reducible exact Or.inl (Part.sub_trans rfl hU))
    | (with_reducible exact Or.inr rfl)
    | (with_reducible apply State.showPpl_within)
    | (with_reducible apply State.put_within)

theorem State.disarm_within {U : List Part} {z0 s : State} (hz : SameOutside U z0 s) (hU : Part.sub [.unit .ppl, .unit .lgs] U = true) : SameOutside U z0 (State.disarm s) := by
  unfold State.disarm
  try dsimp only
  repeat' first
    | (with_reducible assumption)
    | (with_reducible exact Part.sub_trans rfl hU)
    | (with_reducible exact Or.inl (Part.sub_trans rfl hU))
    | (with_reducible exact Or.inr rfl)
    | (with_reducible apply State.setPpl_within)
    | (with_reducible apply State.request_within)
    | (with_reducible apply State.raise2_within)
    | (with_reducible apply State.each_within)
    | (with_reducible apply State.onlyIf_within)
    | (with_reducible apply State.foldl_within)
    | (intro x k hx)
    | (intro x hx)
    | split

theorem State.discardStaged_within {U : List Part} {z0 s : State} (hz : SameOutside U z0 s) (event : Bool) (hU : Part.sub [.unit .ppl, .unit .lgs] U = true) : SameOutside U z0 (State.discardStaged s event) := by
  unfold State.discardStaged
  try dsimp only
  repeat' first
    | (with_reducible assumption)
    | (with_reducible exact Part.sub_trans rfl hU)
    | (with_reducible exact Or.inl (Part.sub_trans rfl hU))
    | (with_reducible exact Or.inr rfl)
    | (with_reducible apply State.setPpl_within)
    | (with_reducible apply State.raise_within)
    | (with_reducible apply State.disarm_within)
    | (with_reducible apply State.put_within)
    | (with_reducible apply State.showStaged_within)
    | (with_reducible apply State.each_within)
    | (with_reducible apply State.onlyIf_within)
    | (with_reducible apply State.foldl_within)
    | (intro x k hx)
    | (intro x hx)
    | split
    | (with_reducible apply SameOutside.built)

theorem State.rejectPlan_within {U : List Part} {z0 s : State} (hz : SameOutside U z0 s) (reason : Nat) (hU : Part.sub [.unit .ppl, .unit .lgs] U = true) : SameOutside U z0 (State.rejectPlan s reason) := by
  unfold State.rejectPlan
  try dsimp only
  repeat' first
    | (with_reducible assumption)
    | (with_reducible exact Part.sub_trans rfl hU)
    | (with_reducible exact Or.inl (Part.sub_trans rfl hU))
    | (with_reducible exact Or.inr rfl)
    | (with_reducible apply State.raise_within)
    | (with_reducible apply State.put_within)
    | (with_reducible apply State.each_within)
    | (with_reducible apply State.onlyIf_within)
    | (with_reducible apply State.foldl_within)
    | (intro x k hx)
    | (intro x hx)
    | split
    | (with_reducible apply SameOutside.built)

theorem State.stagePlan_within {U : List Part} {z0 s : State} (hz : SameOutside U z0 s) (raw : List Nat) (hU : Part.sub [.unit .ppl, .unit .lgs] U = true) : SameOutside U z0 (State.stagePlan s raw) := by
  unfold State.stagePlan
  try dsimp only
  repeat' first
    | (with_reducible assumption)
    | (with_reducible exact Part.sub_trans rfl hU)
    | (with_reducible exact Or.inl (Part.sub_trans rfl hU))
    | (with_reducible exact Or.inr rfl)
    | (with_reducible apply State.setPpl_within)
    | (with_reducible apply State.raise_within)
    | (with_reducible apply State.showStaged_within)
    | (with_reducible apply State.discardStaged_within)

theorem State.showDelivery_within {U : List Part} {z0 s : State} (hz : SameOutside U z0 s) (hU : Part.sub [.unit .ppl] U = true) : SameOutside U z0 (State.showDelivery s) := by
  unfold State.showDelivery
  try dsimp only
  repeat' first
    | (with_reducible assumption)
    | (with_reducible exact Part.sub_trans rfl hU)
    | (with_reducible exact Or.inl (Part.sub_trans rfl hU))
    | (with_reducible exact Or.inr rfl)
    | (with_reducible apply State.put_within)
    | (with_reducible apply State.each_within)
    | (with_reducible apply State.onlyIf_within)
    | (with_reducible apply State.foldl_within)
    | (intro x k hx)
    | (intro x hx)
    | split

theorem State.verifiedAgain_within {U : List Part} {z0 s : State} (hz : SameOutside U z0 s) (raw : List Nat) (hU : Part.sub [.unit .ppl, .unit .lgs] U = true) : SameOutside U z0 (State.verifiedAgain s raw) := by
  unfold State.verifiedAgain
  try dsimp only
  repeat' first
    | (with_reducible assumption)
    | (with_reducible exact Part.sub_trans rfl hU)
    | (with_reducible exact Or.inl (Part.sub_trans rfl hU))
    | (with_reducible exact Or.inr rfl)
    | (with_reducible apply State.setPpl_within)
    | (with_reducible apply State.raise_within)
    | (with_reducible apply State.showDelivery_within)
    | (with_reducible apply State.discardStaged_within)
    | (with_reducible apply State.rejectPlan_within)
    | (with_reducible apply State.showStaged_within)
    | (with_reducible apply State.each_within)
    | (with_reducible apply State.onlyIf_within)
    | (with_reducible apply State.foldl_within)
    | (intro x k hx)
    | (intro x hx)
    | split
    | (with_reducible apply SameOutside.built)

theorem execPlanVerifyDone_within (s : State) : Stays [.unit .ppl, .unit .lgs] s (execPlanVerifyDone s) := by
  have hU : Part.sub [.unit .ppl, .unit .lgs] [.unit .ppl, .unit .lgs] = true := rfl
  unfold execPlanVerifyDone
  try dsimp only
  repeat' first
    | (with_reducible assumption)
    | (with_reducible exact Part.sub_trans rfl hU)
    | (with_reducible exact Or.inl (Part.sub_trans rfl hU))
    | (with_reducible exact Or.inr rfl)
    | (with_reducible exact SameOutside.refl _ _)
    | (with_reducible apply Stays.next)
    | (with_reducible apply State.setPpl_within)
    | (with_reducible apply State.verifiedAgain_within)
    | (with_reducible apply State.rejectPlan_within)
    | (with_reducible apply State.stagePlan_within)
    | (with_reducible apply State.each_within)
    | (with_reducible apply State.onlyIf_within)
    | (with_reducible apply State.foldl_within)
    | (intro x k hx)
    | (intro x hx)
    | split

theorem State.pplVerify_within {U : List Part} {z0 s : State} (hz : SameOutside U z0 s) (hU : Part.sub [.unit .ppl] U = true) : SameOutside U z0 (State.pplVerify s) := by
  unfold State.pplVerify
  try dsimp only
  repeat' first
    | (with_reducible assumption)
    | (with_reducible exact Part.sub_trans rfl hU)
    | (with_reducible exact Or.inl (Part.sub_trans rfl hU))
    | (with_reducible exact Or.inr rfl)
    | (with_reducible apply State.setPpl_within)
    | (with_reducible apply State.put_within)
    | (with_reducible apply State.each_within)
    | (with_reducible apply State.onlyIf_within)
    | (with_reducible apply State.foldl_within)
    | (intro x k hx)
    | (intro x hx)
    | split
    | (with_reducible apply SameOutside.built)

theorem execPplVerifyAgain_within (s : State) : Stays [.unit .ppl] s (execPplVerifyAgain s) := by
  have hU : Part.sub [.unit .ppl] [.unit .ppl] = true := rfl
  unfold execPplVerifyAgain
  try dsimp only
  repeat' first
    | (with_reducible assumption)
    | (with_reducible exact Part.sub_trans rfl hU)
    | (with_reducible exact Or.inl (Part.sub_trans rfl hU))
    | (with_reducible exact Or.inr rfl)
    | (with_reducible exact SameOutside.refl _ _)
    | (with_reducible apply Stays.next)
    | (with_reducible apply State.pplVerify_within)

theorem State.pplDiscard_within {U : List Part} {z0 s : State} (hz : SameOutside U z0 s) (hU : Part.sub [.unit .ppl, .unit .lgs] U = true) : SameOutside U z0 (State.pplDiscard s) := by
  unfold State.pplDiscard
  try dsimp only
  repeat' first
    | (with_reducible assumption)
    | (with_reducible exact Part.sub_trans rfl hU)
    | (with_reducible exact Or.inl (Part.sub_trans rfl hU))
    | (with_reducible exact Or.inr rfl)
    | (with_reducible apply State.discardStaged_within)

theorem execPplDiscard_within (s : State) : Stays [.unit .ppl, .unit .lgs] s (execPplDiscard s) := by
  have hU : Part.sub [.unit .ppl, .unit .lgs] [.unit .ppl, .unit .lgs] = true := rfl
  unfold execPplDiscard
  try dsimp only
  repeat' first
    | (with_reducible assumption)
    | (with_reducible exact Part.sub_trans rfl hU)
    | (with_reducible exact Or.inl (Part.sub_trans rfl hU))
    | (with_reducible exact Or.inr rfl)
    | (with_reducible exact SameOutside.refl _ _)
    | (with_reducible apply Stays.next)
    | (with_reducible apply State.pplDiscard_within)

theorem State.efuAdmit_within {U : List Part} {z0 s : State} (hz : SameOutside U z0 s) (hU : Part.sub [.unit .sch, .unit .clu, .unit .lgs] U = true) : SameOutside U z0 (State.efuAdmit s) := by
  unfold State.efuAdmit
  try dsimp only
  repeat' first
    | (with_reducible assumption)
    | (with_reducible exact Part.sub_trans rfl hU)
    | (with_reducible exact Or.inl (Part.sub_trans rfl hU))
    | (with_reducible exact Or.inr rfl)
    | (with_reducible apply State.admitStream_within)
    | (with_reducible apply State.endStream_within)
    | (with_reducible apply State.each_within)
    | (with_reducible apply State.onlyIf_within)
    | (with_reducible apply State.foldl_within)
    | (intro x k hx)

theorem State.swPlan_within {U : List Part} {z0 s : State} (hz : SameOutside U z0 s) (hU : Part.sub [.unit .oiu, .unit .psw, .unit .lgs] U = true) : SameOutside U z0 (State.swPlan s) := by
  unfold State.swPlan
  try dsimp only
  repeat' first
    | (with_reducible assumption)
    | (with_reducible exact Part.sub_trans rfl hU)
    | (with_reducible exact Or.inl (Part.sub_trans rfl hU))
    | (with_reducible exact Or.inr rfl)
    | (with_reducible apply State.swPermit_within)
    | (with_reducible apply State.put_within)
    | (with_reducible apply State.each_within)
    | (with_reducible apply State.onlyIf_within)
    | (with_reducible apply State.foldl_within)
    | (intro x k hx)

theorem State.installPlan_within {U : List Part} {z0 s : State} (hz : SameOutside U z0 s) (old : Option Plan) (p : Plan) (cold : Bool) (hU : Part.sub [.unit .ppl, .unit .sch, .unit .oiu, .unit .meu, .unit .efu, .unit .psw, .unit .clu, .unit .blu, .unit .lgs, .unit .alk, .unit .ntu, .unit .dse, .unit .upd, .unit .bcu, .unit .cgu, .allocator, .plan, .latches] U = true) : SameOutside U z0 (State.installPlan s old p cold) := by
  unfold State.installPlan
  try dsimp only
  repeat' first
    | (with_reducible assumption)
    | (with_reducible exact Part.sub_trans rfl hU)
    | (with_reducible exact Or.inl (Part.sub_trans rfl hU))
    | (with_reducible exact Or.inr rfl)
    | (with_reducible apply State.alkPlan_within)
    | (with_reducible apply State.allocEpoch_within)
    | (with_reducible apply State.dsePlan_within)
    | (with_reducible apply State.showPpl_within)
    | (with_reducible apply State.ntuPlan_within)
    | (with_reducible apply State.swPlan_within)
    | (with_reducible apply State.efuBind_within)
    | (with_reducible apply State.bindSlices_within)
    | (with_reducible apply State.trackIdle_within)
    | (with_reducible apply State.meuBind_within)
    | (with_reducible apply State.contact_within)
    | (with_reducible apply State.put_within)
    | (with_reducible apply State.efuAdmit_within)
    | (with_reducible apply State.each_within)
    | (with_reducible apply State.onlyIf_within)
    | (with_reducible apply State.foldl_within)
    | (intro x k hx)
    | (intro x hx)
    | split
    | (with_reducible apply SameOutside.built)

theorem State.legalChange_within {U : List Part} {z0 s : State} (hz : SameOutside U z0 s) (old : Option Plan) (p : Plan) (hU : Part.sub [.unit .ppl, .unit .lgs] U = true) : SameOutside U z0 (State.legalChange s old p) := by
  unfold State.legalChange
  try dsimp only
  repeat' first
    | (with_reducible assumption)
    | (with_reducible exact Part.sub_trans rfl hU)
    | (with_reducible exact Or.inl (Part.sub_trans rfl hU))
    | (with_reducible exact Or.inr rfl)
    | (with_reducible apply State.setPpl_within)
    | (with_reducible apply State.request_within)
    | (with_reducible apply State.raise_within)
    | (with_reducible apply State.each_within)
    | (with_reducible apply State.onlyIf_within)
    | (with_reducible apply State.foldl_within)
    | (intro x k hx)
    | (intro x hx)
    | split
    | (with_reducible apply SameOutside.built)

theorem State.activateStaged_within {U : List Part} {z0 s : State} (hz : SameOutside U z0 s) (cold : Bool) (hU : Part.sub [.unit .ppl, .unit .sch, .unit .oiu, .unit .meu, .unit .efu, .unit .psw, .unit .clu, .unit .blu, .unit .lgs, .unit .alk, .unit .ntu, .unit .dse, .unit .upd, .unit .bcu, .unit .cgu, .allocator, .plan, .latches] U = true) : SameOutside U z0 (State.activateStaged s cold) := by
  unfold State.activateStaged
  try dsimp only
  repeat' first
    | (with_reducible assumption)
    | (with_reducible exact Part.sub_trans rfl hU)
    | (with_reducible exact Or.inl (Part.sub_trans rfl hU))
    | (with_reducible exact Or.inr rfl)
    | (with_reducible apply State.setPpl_within)
    | (with_reducible apply State.raise_within)
    | (with_reducible apply State.legalChange_within)
    | (with_reducible apply State.put_within)
    | (with_reducible apply State.showStaged_within)
    | (with_reducible apply State.installPlan_within)
    | (with_reducible apply State.each_within)
    | (with_reducible apply State.onlyIf_within)
    | (with_reducible apply State.foldl_within)
    | (intro x k hx)
    | (intro x hx)
    | split
    | (with_reducible apply SameOutside.built)

theorem State.arrange_within {U : List Part} {z0 s : State} (hz : SameOutside U z0 s) (hU : Part.sub [.unit .ppl, .unit .sch, .unit .oiu, .unit .meu, .unit .efu, .unit .psw, .unit .clu, .unit .blu, .unit .lgs, .unit .alk, .unit .ntu, .unit .dse, .unit .upd, .unit .bcu, .unit .cgu, .allocator, .plan, .latches] U = true) : SameOutside U z0 (State.arrange s) := by
  unfold State.arrange
  try dsimp only
  repeat' first
    | (with_reducible assumption)
    | (with_reducible exact Part.sub_trans rfl hU)
    | (with_reducible exact Or.inl (Part.sub_trans rfl hU))
    | (with_reducible exact Or.inr rfl)
    | (with_reducible apply State.setPpl_within)
    | (with_reducible apply State.activateStaged_within)
    | (with_reducible apply State.withdraw_within)
    | (with_reducible apply State.put_within)
    | (with_reducible apply State.showStaged_within)
    | (with_reducible apply State.each_within)
    | (with_reducible apply State.onlyIf_within)
    | (with_reducible apply State.foldl_within)
    | (intro x k hx)
    | (intro x hx)
    | split
    | (with_reducible apply SameOutside.built)

theorem State.pplActivate_within {U : List Part} {z0 s : State} (hz : SameOutside U z0 s) (hU : Part.sub [.unit .ppl, .unit .sch, .unit .oiu, .unit .meu, .unit .efu, .unit .psw, .unit .clu, .unit .blu, .unit .lgs, .unit .alk, .unit .ntu, .unit .dse, .unit .upd, .unit .bcu, .unit .cgu, .allocator, .plan, .latches] U = true) : SameOutside U z0 (State.pplActivate s) := by
  unfold State.pplActivate
  try dsimp only
  repeat' first
    | (with_reducible assumption)
    | (with_reducible exact Part.sub_trans rfl hU)
    | (with_reducible exact Or.inl (Part.sub_trans rfl hU))
    | (with_reducible exact Or.inr rfl)
    | (with_reducible apply State.arrange_within)
    | (with_reducible apply State.raise_within)
    | (with_reducible apply State.put_within)
    | (with_reducible apply State.each_within)
    | (with_reducible apply State.onlyIf_within)
    | (with_reducible apply State.foldl_within)
    | (intro x k hx)
    | (intro x hx)
    | split
    | (with_reducible apply SameOutside.built)

theorem execPplActivate_within (s : State) : Stays [.unit .ppl, .unit .sch, .unit .oiu, .unit .meu, .unit .efu, .unit .psw, .unit .clu, .unit .blu, .unit .lgs, .unit .alk, .unit .ntu, .unit .dse, .unit .upd, .unit .bcu, .unit .cgu, .allocator, .plan, .latches] s (execPplActivate s) := by
  have hU : Part.sub [.unit .ppl, .unit .sch, .unit .oiu, .unit .meu, .unit .efu, .unit .psw, .unit .clu, .unit .blu, .unit .lgs, .unit .alk, .unit .ntu, .unit .dse, .unit .upd, .unit .bcu, .unit .cgu, .allocator, .plan, .latches] [.unit .ppl, .unit .sch, .unit .oiu, .unit .meu, .unit .efu, .unit .psw, .unit .clu, .unit .blu, .unit .lgs, .unit .alk, .unit .ntu, .unit .dse, .unit .upd, .unit .bcu, .unit .cgu, .allocator, .plan, .latches] = true := rfl
  unfold execPplActivate
  try dsimp only
  repeat' first
    | (with_reducible assumption)
    | (with_reducible exact Part.sub_trans rfl hU)
    | (with_reducible exact Or.inl (Part.sub_trans rfl hU))
    | (with_reducible exact Or.inr rfl)
    | (with_reducible exact SameOutside.refl _ _)
    | (with_reducible apply Stays.next)
    | (with_reducible apply State.pplActivate_within)

theorem State.activateAt_within {U : List Part} {z0 s : State} (hz : SameOutside U z0 s) (hU : Part.sub [.unit .ppl, .unit .sch, .unit .oiu, .unit .meu, .unit .efu, .unit .psw, .unit .clu, .unit .blu, .unit .lgs, .unit .alk, .unit .ntu, .unit .dse, .unit .upd, .unit .bcu, .unit .cgu, .allocator, .plan, .latches] U = true) : SameOutside U z0 (State.activateAt s) := by
  unfold State.activateAt
  try dsimp only
  repeat' first
    | (with_reducible assumption)
    | (with_reducible exact Part.sub_trans rfl hU)
    | (with_reducible exact Or.inl (Part.sub_trans rfl hU))
    | (with_reducible exact Or.inr rfl)
    | (with_reducible apply State.moveTo_within)
    | (with_reducible apply State.activateStaged_within)
    | (with_reducible apply State.each_within)
    | (with_reducible apply State.onlyIf_within)
    | (with_reducible apply State.foldl_within)
    | (intro x k hx)
    | (intro x hx)
    | split
    | (with_reducible apply SameOutside.built)

theorem execPlanActivation_within (s : State) : Stays [.unit .ppl, .unit .sch, .unit .oiu, .unit .meu, .unit .efu, .unit .psw, .unit .clu, .unit .blu, .unit .lgs, .unit .alk, .unit .ntu, .unit .dse, .unit .upd, .unit .bcu, .unit .cgu, .allocator, .plan, .latches] s (execPlanActivation s) := by
  have hU : Part.sub [.unit .ppl, .unit .sch, .unit .oiu, .unit .meu, .unit .efu, .unit .psw, .unit .clu, .unit .blu, .unit .lgs, .unit .alk, .unit .ntu, .unit .dse, .unit .upd, .unit .bcu, .unit .cgu, .allocator, .plan, .latches] [.unit .ppl, .unit .sch, .unit .oiu, .unit .meu, .unit .efu, .unit .psw, .unit .clu, .unit .blu, .unit .lgs, .unit .alk, .unit .ntu, .unit .dse, .unit .upd, .unit .bcu, .unit .cgu, .allocator, .plan, .latches] = true := rfl
  unfold execPlanActivation
  try dsimp only
  repeat' first
    | (with_reducible assumption)
    | (with_reducible exact Part.sub_trans rfl hU)
    | (with_reducible exact Or.inl (Part.sub_trans rfl hU))
    | (with_reducible exact Or.inr rfl)
    | (with_reducible exact SameOutside.refl _ _)
    | (with_reducible apply Stays.next)
    | (with_reducible apply State.activateAt_within)
    | (with_reducible apply State.trackWait_within)
    | (with_reducible apply State.each_within)
    | (with_reducible apply State.onlyIf_within)
    | (with_reducible apply State.foldl_within)
    | (intro x k hx)
    | (intro x hx)
    | split
    | (with_reducible apply SameOutside.built)

theorem execOutletsIdle_within (s : State) : Stays [.unit .ppl, .unit .sch, .unit .oiu, .unit .meu, .unit .efu, .unit .psw, .unit .clu, .unit .blu, .unit .lgs, .unit .alk, .unit .ntu, .unit .dse, .unit .upd, .unit .bcu, .unit .cgu, .allocator, .plan, .latches] s (execOutletsIdle s) := by
  have hU : Part.sub [.unit .ppl, .unit .sch, .unit .oiu, .unit .meu, .unit .efu, .unit .psw, .unit .clu, .unit .blu, .unit .lgs, .unit .alk, .unit .ntu, .unit .dse, .unit .upd, .unit .bcu, .unit .cgu, .allocator, .plan, .latches] [.unit .ppl, .unit .sch, .unit .oiu, .unit .meu, .unit .efu, .unit .psw, .unit .clu, .unit .blu, .unit .lgs, .unit .alk, .unit .ntu, .unit .dse, .unit .upd, .unit .bcu, .unit .cgu, .allocator, .plan, .latches] = true := rfl
  unfold execOutletsIdle
  try dsimp only
  repeat' first
    | (with_reducible assumption)
    | (with_reducible exact Part.sub_trans rfl hU)
    | (with_reducible exact Or.inl (Part.sub_trans rfl hU))
    | (with_reducible exact Or.inr rfl)
    | (with_reducible exact SameOutside.refl _ _)
    | (with_reducible apply Stays.next)
    | (with_reducible apply State.activateAt_within)
    | (with_reducible apply State.trackWait_within)
    | (with_reducible apply State.each_within)
    | (with_reducible apply State.onlyIf_within)
    | (with_reducible apply State.foldl_within)
    | (intro x k hx)
    | (intro x hx)
    | split
    | (with_reducible apply SameOutside.built)

theorem State.planChunk_within {U : List Part} {z0 s : State} (hz : SameOutside U z0 s) (offset : Nat) (tot : Nat) (bytes : List Nat) (hU : Part.sub [.unit .ppl] U = true) : SameOutside U z0 (State.planChunk s offset tot bytes).2 := by
  unfold State.planChunk
  try dsimp only
  repeat' first
    | (with_reducible assumption)
    | (with_reducible exact Part.sub_trans rfl hU)
    | (with_reducible exact Or.inl (Part.sub_trans rfl hU))
    | (with_reducible exact Or.inr rfl)
    | (with_reducible apply State.setPpl_within)
    | (with_reducible apply State.put_within)
    | (with_reducible apply State.showStaged_within)
    | (with_reducible apply State.each_within)
    | (with_reducible apply State.onlyIf_within)
    | (with_reducible apply State.foldl_within)
    | (intro x k hx)
    | (intro x hx)
    | split
    | (with_reducible apply SameOutside.built)

end Sys2Proof.Machine
end

