-- ==== Sys2Proof/Laws/WithinSealed.lean ====
section
/-! SUPPORT. Every operation and every command of the sealed commands leaves the parts of the block alone that it does not touch (Laws/Within.lean). -/

namespace Sys2Proof.Machine

open Sys2Proof

theorem State.scPlanActivate_within {U : List Part} {z0 s : State} (hz : SameOutside U z0 s) (keyId : Nat) (scSeq : Nat) (b : List Nat) (hU : Part.sub [.unit .ppl, .unit .sch, .unit .oiu, .unit .meu, .unit .efu, .unit .psw, .unit .clu, .unit .blu, .unit .lgs, .unit .alk, .unit .ntu, .unit .dse, .unit .upd, .unit .bcu, .unit .cgu, .allocator, .plan, .latches] U = true) : EndsIn U z0 (State.scPlanActivate s keyId scSeq b) := by
  unfold State.scPlanActivate
  try dsimp only
  repeat' first
    | (with_reducible assumption)
    | (with_reducible exact Part.sub_trans rfl hU)
    | (with_reducible exact Or.inl (Part.sub_trans rfl hU))
    | (with_reducible exact Or.inr rfl)
    | (with_reducible exact EndsIn.error _)
    | (with_reducible apply EndsIn.ok)
    | (with_reducible apply State.setPpl_within)
    | (with_reducible apply State.arrange_within)
    | (with_reducible apply State.disarm_within)
    | (with_reducible apply State.each_within)
    | (with_reducible apply State.onlyIf_within)
    | (with_reducible apply State.foldl_within)
    | (intro x k hx)
    | (intro x hx)
    | split
    | (with_reducible apply SameOutside.built)

theorem State.takeCalibration_within {U : List Part} {z0 s : State} (hz : SameOutside U z0 s) (c : Nat × List Nat) (hU : Part.sub [.unit .meu] U = true) : SameOutside U z0 (State.takeCalibration s c) := by
  unfold State.takeCalibration
  try dsimp only
  repeat' first
    | (with_reducible assumption)
    | (with_reducible exact Part.sub_trans rfl hU)
    | (with_reducible exact Or.inl (Part.sub_trans rfl hU))
    | (with_reducible exact Or.inr rfl)
    | (with_reducible apply State.setChan_within)
    | (with_reducible apply State.put_within)

theorem State.scMeuCalibrate_within {U : List Part} {z0 s : State} (hz : SameOutside U z0 s) (b : List Nat) (hU : Part.sub [.unit .meu, .unit .lgs] U = true) : EndsIn U z0 (State.scMeuCalibrate s b) := by
  unfold State.scMeuCalibrate
  try dsimp only
  repeat' first
    | (with_reducible assumption)
    | (with_reducible exact Part.sub_trans rfl hU)
    | (with_reducible exact Or.inl (Part.sub_trans rfl hU))
    | (with_reducible exact Or.inr rfl)
    | (with_reducible exact EndsIn.error _)
    | (with_reducible apply EndsIn.ok)
    | (with_reducible apply State.showCal_within)
    | (with_reducible apply State.showShift_within)
    | (with_reducible apply State.raise2_within)
    | (with_reducible apply State.takeCalibration_within)
    | (with_reducible apply State.count_within)
    | (with_reducible apply State.catchUp_within)
    | (with_reducible apply State.each_within)
    | (with_reducible apply State.onlyIf_within)
    | (with_reducible apply State.foldl_within)
    | (intro x k hx)
    | (intro x hx)
    | split
    | (with_reducible apply SameOutside.built)

theorem State.scBluHwmReset_within {U : List Part} {z0 s : State} (hz : SameOutside U z0 s) (b : List Nat) (hU : Part.sub [.unit .blu, .unit .lgs] U = true) : EndsIn U z0 (State.scBluHwmReset s b) := by
  unfold State.scBluHwmReset
  try dsimp only
  repeat' first
    | (with_reducible assumption)
    | (with_reducible exact Part.sub_trans rfl hU)
    | (with_reducible exact Or.inl (Part.sub_trans rfl hU))
    | (with_reducible exact Or.inr rfl)
    | (with_reducible exact EndsIn.error _)
    | (with_reducible apply EndsIn.ok)
    | (with_reducible apply State.advanceH_within)
    | (with_reducible apply State.raise_within)
    | (with_reducible apply State.put64_within)
    | (with_reducible apply State.put_within)
    | (with_reducible apply State.each_within)
    | (with_reducible apply State.onlyIf_within)
    | (with_reducible apply State.foldl_within)
    | (intro x k hx)
    | (intro x hx)
    | split
    | (with_reducible apply SameOutside.built)

theorem State.scTamperConfig_within {U : List Part} {z0 s : State} (hz : SameOutside U z0 s) (b : List Nat) (hU : Part.sub [.unit .blu] U = true) : EndsIn U z0 (State.scTamperConfig s b) := by
  unfold State.scTamperConfig
  try dsimp only
  repeat' first
    | (with_reducible assumption)
    | (with_reducible exact Part.sub_trans rfl hU)
    | (with_reducible exact Or.inl (Part.sub_trans rfl hU))
    | (with_reducible exact Or.inr rfl)
    | (with_reducible exact EndsIn.error _)
    | (with_reducible apply EndsIn.ok)
    | (with_reducible apply State.put_within)
    | (with_reducible apply State.each_within)
    | (with_reducible apply State.onlyIf_within)
    | (with_reducible apply State.foldl_within)
    | (intro x k hx)
    | (intro x hx)
    | split

theorem State.scSealAck_within {U : List Part} {z0 s : State} (hz : SameOutside U z0 s) (b : List Nat) (hU : Part.sub [.unit .blu, .unit .lgs] U = true) : EndsIn U z0 (State.scSealAck s b) := by
  unfold State.scSealAck
  try dsimp only
  repeat' first
    | (with_reducible assumption)
    | (with_reducible exact Part.sub_trans rfl hU)
    | (with_reducible exact Or.inl (Part.sub_trans rfl hU))
    | (with_reducible exact Or.inr rfl)
    | (with_reducible exact EndsIn.error _)
    | (with_reducible apply EndsIn.ok)
    | (with_reducible apply State.raise_within)
    | (with_reducible apply State.showFlags_within)
    | (with_reducible apply State.put_within)
    | (with_reducible apply State.each_within)
    | (with_reducible apply State.onlyIf_within)
    | (with_reducible apply State.foldl_within)
    | (intro x k hx)
    | (intro x hx)
    | split
    | (with_reducible apply SameOutside.built)

theorem State.scLgsRetention_within {U : List Part} {z0 s : State} (hz : SameOutside U z0 s) (b : List Nat) (hU : Part.sub [.unit .lgs] U = true) : EndsIn U z0 (State.scLgsRetention s b) := by
  unfold State.scLgsRetention
  try dsimp only
  repeat' first
    | (with_reducible assumption)
    | (with_reducible exact Part.sub_trans rfl hU)
    | (with_reducible exact Or.inl (Part.sub_trans rfl hU))
    | (with_reducible exact Or.inr rfl)
    | (with_reducible exact EndsIn.error _)
    | (with_reducible apply EndsIn.ok)
    | (with_reducible apply State.showLgs_within)
    | (with_reducible apply State.put_within)
    | (with_reducible apply State.each_within)
    | (with_reducible apply State.onlyIf_within)
    | (with_reducible apply State.foldl_within)
    | (intro x k hx)
    | (intro x hx)
    | split

theorem State.scLgsAck_within {U : List Part} {z0 s : State} (hz : SameOutside U z0 s) (b : List Nat) (hU : Part.sub [] U = true) : EndsIn U z0 (State.scLgsAck s b) := by
  unfold State.scLgsAck
  try dsimp only
  repeat' first
    | (with_reducible assumption)
    | (with_reducible exact Part.sub_trans rfl hU)
    | (with_reducible exact Or.inl (Part.sub_trans rfl hU))
    | (with_reducible exact Or.inr rfl)
    | (with_reducible exact EndsIn.error _)
    | (with_reducible apply EndsIn.ok)
    | (with_reducible apply State.each_within)
    | (with_reducible apply State.onlyIf_within)
    | (with_reducible apply State.foldl_within)
    | (intro x k hx)
    | (intro x hx)
    | split

theorem State.scKeyGen_within {U : List Part} {z0 s : State} (hz : SameOutside U z0 s) (b : List Nat) (hU : Part.sub [.unit .lgs, .unit .sec] U = true) : EndsIn U z0 (State.scKeyGen s b) := by
  unfold State.scKeyGen
  try dsimp only
  repeat' first
    | (with_reducible assumption)
    | (with_reducible exact Part.sub_trans rfl hU)
    | (with_reducible exact Or.inl (Part.sub_trans rfl hU))
    | (with_reducible exact Or.inr rfl)
    | (with_reducible exact EndsIn.error _)
    | (with_reducible apply EndsIn.ok)
    | (with_reducible apply State.randomBits_within)
    | (with_reducible apply State.newKey_within)
    | (with_reducible apply State.writeShadow_within)
    | (with_reducible apply State.each_within)
    | (with_reducible apply State.onlyIf_within)
    | (with_reducible apply State.foldl_within)
    | (intro x k hx)
    | (intro x hx)
    | (with_reducible refine SameOutside.snd ?_ (by assumption))
    | split
    | (with_reducible apply SameOutside.built)

theorem State.scKeyLoad_within {U : List Part} {z0 s : State} (hz : SameOutside U z0 s) (scSeq : Nat) (b : List Nat) (hU : Part.sub [.unit .lgs, .unit .sec] U = true) : EndsIn U z0 (State.scKeyLoad s scSeq b) := by
  unfold State.scKeyLoad
  try dsimp only
  repeat' first
    | (with_reducible assumption)
    | (with_reducible exact Part.sub_trans rfl hU)
    | (with_reducible exact Or.inl (Part.sub_trans rfl hU))
    | (with_reducible exact Or.inr rfl)
    | (with_reducible exact EndsIn.error _)
    | (with_reducible apply EndsIn.ok)
    | (with_reducible apply State.writeShadow_within)
    | (with_reducible apply State.each_within)
    | (with_reducible apply State.onlyIf_within)
    | (with_reducible apply State.foldl_within)
    | (intro x k hx)
    | (intro x hx)
    | split

theorem State.scKeyCommit_within {U : List Part} {z0 s : State} (hz : SameOutside U z0 s) (scSeq : Nat) (b : List Nat) (hU : Part.sub [.unit .lgs, .unit .sec] U = true) : EndsIn U z0 (State.scKeyCommit s scSeq b) := by
  unfold State.scKeyCommit
  try dsimp only
  repeat' first
    | (with_reducible assumption)
    | (with_reducible exact Part.sub_trans rfl hU)
    | (with_reducible exact Or.inl (Part.sub_trans rfl hU))
    | (with_reducible exact Or.inr rfl)
    | (with_reducible exact EndsIn.error _)
    | (with_reducible apply EndsIn.ok)
    | (with_reducible apply State.flipSlot_within)
    | (with_reducible apply State.each_within)
    | (with_reducible apply State.onlyIf_within)
    | (with_reducible apply State.foldl_within)
    | (intro x k hx)
    | (intro x hx)
    | split

theorem State.scKeyAbort_within {U : List Part} {z0 s : State} (hz : SameOutside U z0 s) (b : List Nat) (hU : Part.sub [.unit .lgs, .unit .sec] U = true) : EndsIn U z0 (State.scKeyAbort s b) := by
  unfold State.scKeyAbort
  try dsimp only
  repeat' first
    | (with_reducible assumption)
    | (with_reducible exact Part.sub_trans rfl hU)
    | (with_reducible exact Or.inl (Part.sub_trans rfl hU))
    | (with_reducible exact Or.inr rfl)
    | (with_reducible exact EndsIn.error _)
    | (with_reducible apply EndsIn.ok)
    | (with_reducible apply State.dropShadow_within)
    | (with_reducible apply State.each_within)
    | (with_reducible apply State.onlyIf_within)
    | (with_reducible apply State.foldl_within)
    | (intro x k hx)
    | (intro x hx)
    | split

theorem State.eraseSlot_within {U : List Part} {z0 s : State} (hz : SameOutside U z0 s) (k : Nat) (why : Nat) (hU : Part.sub [.unit .lgs, .unit .sec] U = true) : SameOutside U z0 (State.eraseSlot s k why) := by
  unfold State.eraseSlot
  try dsimp only
  repeat' first
    | (with_reducible assumption)
    | (with_reducible exact Part.sub_trans rfl hU)
    | (with_reducible exact Or.inl (Part.sub_trans rfl hU))
    | (with_reducible exact Or.inr rfl)
    | (with_reducible apply State.setSlot_within)
    | (with_reducible apply State.raise2_within)

theorem State.scKeyErase_within {U : List Part} {z0 s : State} (hz : SameOutside U z0 s) (scSeq : Nat) (b : List Nat) (hU : Part.sub [.unit .lgs, .unit .sec] U = true) : EndsIn U z0 (State.scKeyErase s scSeq b) := by
  unfold State.scKeyErase
  try dsimp only
  repeat' first
    | (with_reducible assumption)
    | (with_reducible exact Part.sub_trans rfl hU)
    | (with_reducible exact Or.inl (Part.sub_trans rfl hU))
    | (with_reducible exact Or.inr rfl)
    | (with_reducible exact EndsIn.error _)
    | (with_reducible apply EndsIn.ok)
    | (with_reducible apply State.eraseSlot_within)
    | (with_reducible apply State.each_within)
    | (with_reducible apply State.onlyIf_within)
    | (with_reducible apply State.foldl_within)
    | (intro x k hx)
    | (intro x hx)
    | split

theorem State.commission_within {U : List Part} {z0 s : State} (hz : SameOutside U z0 s) (hU : Part.sub [.unit .lgs, .unit .sec, .unit .bcu] U = true) : SameOutside U z0 (State.commission s) := by
  unfold State.commission
  try dsimp only
  repeat' first
    | (with_reducible assumption)
    | (with_reducible exact Part.sub_trans rfl hU)
    | (with_reducible exact Or.inl (Part.sub_trans rfl hU))
    | (with_reducible exact Or.inr rfl)
    | (with_reducible apply State.put_within)
    | (with_reducible apply State.each_within)
    | (with_reducible apply State.onlyIf_within)
    | (with_reducible apply State.foldl_within)
    | (intro x k hx)
    | (intro x hx)
    | split
    | (with_reducible apply SameOutside.built)

theorem State.enterState_within {U : List Part} {z0 s : State} (hz : SameOutside U z0 s) (dest : Nat) (hU : Part.sub [.unit .lgs, .unit .sec, .unit .bcu] U = true) : SameOutside U z0 (State.enterState s dest) := by
  unfold State.enterState
  try dsimp only
  repeat' first
    | (with_reducible assumption)
    | (with_reducible exact Part.sub_trans rfl hU)
    | (with_reducible exact Or.inl (Part.sub_trans rfl hU))
    | (with_reducible exact Or.inr rfl)
    | (with_reducible apply State.raise2_within)
    | (with_reducible apply State.setSec_within)
    | (with_reducible apply State.putFlag_within)
    | (with_reducible apply State.put_within)
    | (with_reducible apply State.eraseSlot_within)
    | (with_reducible apply State.commission_within)
    | (with_reducible apply State.each_within)
    | (with_reducible apply State.onlyIf_within)
    | (with_reducible apply State.foldl_within)
    | (intro x k hx)
    | (intro x hx)
    | split
    | (with_reducible apply SameOutside.built)

theorem State.scLifecycle_within {U : List Part} {z0 s : State} (hz : SameOutside U z0 s) (b : List Nat) (hU : Part.sub [.unit .lgs, .unit .sec, .unit .bcu] U = true) : EndsIn U z0 (State.scLifecycle s b) := by
  unfold State.scLifecycle
  try dsimp only
  repeat' first
    | (with_reducible assumption)
    | (with_reducible exact Part.sub_trans rfl hU)
    | (with_reducible exact Or.inl (Part.sub_trans rfl hU))
    | (with_reducible exact Or.inr rfl)
    | (with_reducible exact EndsIn.error _)
    | (with_reducible apply EndsIn.ok)
    | (with_reducible apply State.enterState_within)
    | (with_reducible apply State.each_within)
    | (with_reducible apply State.onlyIf_within)
    | (with_reducible apply State.foldl_within)
    | (intro x k hx)
    | (intro x hx)
    | split

theorem State.scDebugUnlock_within {U : List Part} {z0 s : State} (hz : SameOutside U z0 s) (b : List Nat) (hU : Part.sub [.unit .sec] U = true) : EndsIn U z0 (State.scDebugUnlock s b) := by
  unfold State.scDebugUnlock
  try dsimp only
  repeat' first
    | (with_reducible assumption)
    | (with_reducible exact Part.sub_trans rfl hU)
    | (with_reducible exact Or.inl (Part.sub_trans rfl hU))
    | (with_reducible exact Or.inr rfl)
    | (with_reducible exact EndsIn.error _)
    | (with_reducible apply EndsIn.ok)
    | (with_reducible apply State.putFlag_within)
    | (with_reducible apply State.each_within)
    | (with_reducible apply State.onlyIf_within)
    | (with_reducible apply State.foldl_within)
    | (intro x k hx)
    | (intro x hx)
    | split

theorem State.scRun_within {U : List Part} {z0 s : State} (hz : SameOutside U z0 s) (cmd : Nat) (keyId : Nat) (scSeq : Nat) (b : List Nat) (hU : Part.sub [.unit .ppl, .unit .sch, .unit .oiu, .unit .meu, .unit .efu, .unit .psw, .unit .clu, .unit .blu, .unit .lgs, .unit .alk, .unit .ntu, .unit .sec, .unit .dse, .unit .upd, .unit .bcu, .unit .cgu, .allocator, .plan, .latches] U = true) : EndsIn U z0 (State.scRun s cmd keyId scSeq b) := by
  unfold State.scRun
  try dsimp only
  repeat' first
    | (with_reducible assumption)
    | (with_reducible exact Part.sub_trans rfl hU)
    | (with_reducible exact Or.inl (Part.sub_trans rfl hU))
    | (with_reducible exact Or.inr rfl)
    | (with_reducible exact EndsIn.error _)
    | (with_reducible apply EndsIn.ok)
    | (with_reducible apply State.scKeyAbort_within)
    | (with_reducible apply State.scSealAck_within)
    | (with_reducible apply State.scLgsAck_within)
    | (with_reducible apply State.scTamperConfig_within)
    | (with_reducible apply State.scPlanActivate_within)
    | (with_reducible apply State.scKeyGen_within)
    | (with_reducible apply State.scDebugUnlock_within)
    | (with_reducible apply State.scKeyErase_within)
    | (with_reducible apply State.scKeyCommit_within)
    | (with_reducible apply State.scMeuCalibrate_within)
    | (with_reducible apply State.scKeyLoad_within)
    | (with_reducible apply State.scLifecycle_within)
    | (with_reducible apply State.scLgsRetention_within)
    | (with_reducible apply State.scBluHwmReset_within)
    | (with_reducible apply State.each_within)
    | (with_reducible apply State.onlyIf_within)
    | (with_reducible apply State.foldl_within)
    | (intro x k hx)
    | (intro x hx)
    | split
    | (with_reducible apply SameOutside.built)

theorem State.answerSealed_within {U : List Part} {z0 s : State} (hz : SameOutside U z0 s) (path : Option (Nat × Nat)) (a : SealedAnswer) (hU : Part.sub [.unit .hpu, .unit .sec] U = true) : SameOutside U z0 (State.answerSealed s path a) := by
  unfold State.answerSealed
  try dsimp only
  repeat' first
    | (with_reducible assumption)
    | (with_reducible exact Part.sub_trans rfl hU)
    | (with_reducible exact Or.inl (Part.sub_trans rfl hU))
    | (with_reducible exact Or.inr rfl)
    | (with_reducible apply State.answerHost_within)
    | (with_reducible apply State.setSec_within)
    | (with_reducible apply State.each_within)
    | (with_reducible apply State.onlyIf_within)
    | (with_reducible apply State.foldl_within)
    | (intro x k hx)
    | (intro x hx)
    | split

theorem State.refuseSealed_within {U : List Part} {z0 s : State} (hz : SameOutside U z0 s) (path : Option (Nat × Nat)) (cmd : Nat) (keyId : Nat) (scSeq : Nat) (result : Nat) (hU : Part.sub [.unit .lgs, .unit .hpu, .unit .sec] U = true) : SameOutside U z0 (State.refuseSealed s path cmd keyId scSeq result) := by
  unfold State.refuseSealed
  try dsimp only
  repeat' first
    | (with_reducible assumption)
    | (with_reducible exact Part.sub_trans rfl hU)
    | (with_reducible exact Or.inl (Part.sub_trans rfl hU))
    | (with_reducible exact Or.inr rfl)
    | (with_reducible apply State.request_within)
    | (with_reducible apply State.raise2_within)
    | (with_reducible apply State.answerSealed_within)
    | (with_reducible apply State.raise_within)
    | (with_reducible apply State.each_within)
    | (with_reducible apply State.onlyIf_within)
    | (with_reducible apply State.foldl_within)
    | (intro x k hx)
    | (intro x hx)
    | split
    | (with_reducible apply SameOutside.built)

theorem State.scSafeConfirm_within {U : List Part} {z0 s : State} (hz : SameOutside U z0 s) (path : Option (Nat × Nat)) (keyId : Nat) (scSeq : Nat) (b : List Nat) (hU : Part.sub [.unit .gse, .unit .lgs, .unit .hpu, .unit .sec] U = true) : SameOutside U z0 (State.scSafeConfirm s path keyId scSeq b) := by
  unfold State.scSafeConfirm
  try dsimp only
  repeat' first
    | (with_reducible assumption)
    | (with_reducible exact Part.sub_trans rfl hU)
    | (with_reducible exact Or.inl (Part.sub_trans rfl hU))
    | (with_reducible exact Or.inr rfl)
    | (with_reducible apply State.refuseSealed_within)
    | (with_reducible apply State.setSec_within)
    | (with_reducible apply State.raise_within)
    | (with_reducible apply State.setGfn_within)
    | (with_reducible apply State.each_within)
    | (with_reducible apply State.onlyIf_within)
    | (with_reducible apply State.foldl_within)
    | (intro x k hx)
    | (intro x hx)
    | split
    | (with_reducible apply SameOutside.built)

theorem State.confirmOutcome_within {U : List Part} {z0 s : State} (before : State) (hz : SameOutside U z0 s) (result : Nat)
    (hU : Part.sub [.unit .lgs, .unit .hpu, .unit .sec] U = true) : SameOutside U z0 (State.confirmOutcome before s result) := by
  unfold State.confirmOutcome
  split
  · extract_lets _ s1
    have h1 : SameOutside U z0 s1 := State.setSec_within hz _ (Part.sub_trans rfl hU)
    clear_value s1
    split
    · exact State.answerSealed_within (State.raise2_within h1 _ _ _ (Part.sub_trans rfl hU)) _ _ (Part.sub_trans rfl hU)
    · exact State.refuseSealed_within h1 _ _ _ _ _ (Part.sub_trans rfl hU)
  · exact hz

theorem State.sealedRun_within {U : List Part} {z0 s : State} (hz : SameOutside U z0 s) (path : Option (Nat × Nat)) (cmd keyId scSeq : Nat)
    (b : List Nat) (hU : Part.sub [.unit .ppl, .unit .sch, .unit .oiu, .unit .meu, .unit .efu, .unit .psw, .unit .gse, .unit .clu, .unit .blu, .unit .lgs, .unit .alk, .unit .hpu, .unit .ntu, .unit .sec, .unit .dse, .unit .upd, .unit .bcu, .unit .cgu, .allocator, .plan, .latches] U = true) : SameOutside U z0 (State.sealedRun s path cmd keyId scSeq b) := by
  unfold State.sealedRun
  extract_lets s1 serves s2
  have h1 : SameOutside U z0 s1 := State.put_within hz _ _ _ (Part.sub_trans rfl hU)
  clear_value s1
  have h2 : SameOutside U z0 s2 := State.moveTo_within h1 _
  clear_value s2
  split
  · exact State.answerSealed_within h1 _ _ (Part.sub_trans rfl hU)
  · split
    · exact State.refuseSealed_within h2 _ _ _ _ _ (Part.sub_trans rfl hU)
    · split
      · exact State.refuseSealed_within h2 _ _ _ _ _ (Part.sub_trans rfl hU)
      · split
        · exact State.scSafeConfirm_within h2 _ _ _ _ (Part.sub_trans rfl hU)
        · split
          · exact State.refuseSealed_within h2 _ _ _ _ _ (Part.sub_trans rfl hU)
          · rename_i recs data t heq
            have ht : SameOutside U z0 t := (State.scRun_within h2 _ _ _ _ (Part.sub_trans rfl hU)).out _ _ _ heq
            extract_lets n group t1
            split
            · exact State.refuseSealed_within h2 _ _ _ _ _ (Part.sub_trans rfl hU)
            · exact State.answerSealed_within (State.raise2_within (State.onlyIf_within
                (fun x hx => State.request_within hx _ _ (Part.sub_trans rfl hU)) ht) _ _ _ (Part.sub_trans rfl hU)) _ _ (Part.sub_trans rfl hU)

theorem State.sealedRow_within {U : List Part} {z0 s : State} (hz : SameOutside U z0 s) (cmd : Nat) (keyId : Nat) (b : List Nat) (hU : Part.sub [.unit .ppl, .unit .sch, .unit .oiu, .unit .meu, .unit .efu, .unit .psw, .unit .gse, .unit .clu, .unit .blu, .unit .lgs, .unit .alk, .unit .hpu, .unit .ntu, .unit .sec, .unit .dse, .unit .upd, .unit .bcu, .unit .cgu, .allocator, .plan, .latches] U = true) : SameOutside U z0 (State.sealedRow s cmd keyId b) := by
  unfold State.sealedRow
  try dsimp only
  repeat' first
    | (with_reducible assumption)
    | (with_reducible exact Part.sub_trans rfl hU)
    | (with_reducible exact Or.inl (Part.sub_trans rfl hU))
    | (with_reducible exact Or.inr rfl)
    | (with_reducible apply State.sealedRun_within)

theorem execSealed_within (p : Fin 5) (seq : BitVec 32) (payload : List (BitVec 8)) (s : State) : Stays [.unit .ppl, .unit .sch, .unit .oiu, .unit .meu, .unit .efu, .unit .psw, .unit .gse, .unit .clu, .unit .blu, .unit .lgs, .unit .alk, .unit .hpu, .unit .ntu, .unit .sec, .unit .dse, .unit .upd, .unit .bcu, .unit .cgu, .allocator, .plan, .latches] s (execSealed p seq payload s) := by
  have hU : Part.sub [.unit .ppl, .unit .sch, .unit .oiu, .unit .meu, .unit .efu, .unit .psw, .unit .gse, .unit .clu, .unit .blu, .unit .lgs, .unit .alk, .unit .hpu, .unit .ntu, .unit .sec, .unit .dse, .unit .upd, .unit .bcu, .unit .cgu, .allocator, .plan, .latches] [.unit .ppl, .unit .sch, .unit .oiu, .unit .meu, .unit .efu, .unit .psw, .unit .gse, .unit .clu, .unit .blu, .unit .lgs, .unit .alk, .unit .hpu, .unit .ntu, .unit .sec, .unit .dse, .unit .upd, .unit .bcu, .unit .cgu, .allocator, .plan, .latches] = true := rfl
  unfold execSealed
  try dsimp only
  repeat' first
    | (with_reducible assumption)
    | (with_reducible exact Part.sub_trans rfl hU)
    | (with_reducible exact Or.inl (Part.sub_trans rfl hU))
    | (with_reducible exact Or.inr rfl)
    | (with_reducible exact SameOutside.refl _ _)
    | (with_reducible apply Stays.next)
    | (with_reducible apply State.raise2_within)
    | (with_reducible apply State.sealedRun_within)
    | (with_reducible apply State.count_within)
    | (with_reducible apply State.answerSealed_within)
    | (with_reducible apply State.sendFrame_within)
    | (with_reducible apply State.put_within)
    | (with_reducible apply State.takeFrame_within)
    | (with_reducible apply State.each_within)
    | (with_reducible apply State.onlyIf_within)
    | (with_reducible apply State.foldl_within)
    | (intro x k hx)
    | (intro x hx)
    | split
    | (with_reducible apply SameOutside.built)

theorem execPlanActivate_within (keyId : BitVec 64) (planId : BitVec 32) (planVer : BitVec 32) (legalCv : BitVec 32) (s : State) : Stays [.unit .ppl, .unit .sch, .unit .oiu, .unit .meu, .unit .efu, .unit .psw, .unit .gse, .unit .clu, .unit .blu, .unit .lgs, .unit .alk, .unit .hpu, .unit .ntu, .unit .sec, .unit .dse, .unit .upd, .unit .bcu, .unit .cgu, .allocator, .plan, .latches] s (execPlanActivate keyId planId planVer legalCv s) := by
  have hU : Part.sub [.unit .ppl, .unit .sch, .unit .oiu, .unit .meu, .unit .efu, .unit .psw, .unit .gse, .unit .clu, .unit .blu, .unit .lgs, .unit .alk, .unit .hpu, .unit .ntu, .unit .sec, .unit .dse, .unit .upd, .unit .bcu, .unit .cgu, .allocator, .plan, .latches] [.unit .ppl, .unit .sch, .unit .oiu, .unit .meu, .unit .efu, .unit .psw, .unit .gse, .unit .clu, .unit .blu, .unit .lgs, .unit .alk, .unit .hpu, .unit .ntu, .unit .sec, .unit .dse, .unit .upd, .unit .bcu, .unit .cgu, .allocator, .plan, .latches] = true := rfl
  unfold execPlanActivate
  try dsimp only
  repeat' first
    | (with_reducible assumption)
    | (with_reducible exact Part.sub_trans rfl hU)
    | (with_reducible exact Or.inl (Part.sub_trans rfl hU))
    | (with_reducible exact Or.inr rfl)
    | (with_reducible exact SameOutside.refl _ _)
    | (with_reducible apply Stays.next)
    | (with_reducible apply State.sealedRow_within)

theorem execMeuCalibrate_within (keyId : BitVec 64) (fnom : BitVec 16) (recs : List (BitVec 8 × BitVec 128)) (s : State) : Stays [.unit .ppl, .unit .sch, .unit .oiu, .unit .meu, .unit .efu, .unit .psw, .unit .gse, .unit .clu, .unit .blu, .unit .lgs, .unit .alk, .unit .hpu, .unit .ntu, .unit .sec, .unit .dse, .unit .upd, .unit .bcu, .unit .cgu, .allocator, .plan, .latches] s (execMeuCalibrate keyId fnom recs s) := by
  have hU : Part.sub [.unit .ppl, .unit .sch, .unit .oiu, .unit .meu, .unit .efu, .unit .psw, .unit .gse, .unit .clu, .unit .blu, .unit .lgs, .unit .alk, .unit .hpu, .unit .ntu, .unit .sec, .unit .dse, .unit .upd, .unit .bcu, .unit .cgu, .allocator, .plan, .latches] [.unit .ppl, .unit .sch, .unit .oiu, .unit .meu, .unit .efu, .unit .psw, .unit .gse, .unit .clu, .unit .blu, .unit .lgs, .unit .alk, .unit .hpu, .unit .ntu, .unit .sec, .unit .dse, .unit .upd, .unit .bcu, .unit .cgu, .allocator, .plan, .latches] = true := rfl
  unfold execMeuCalibrate
  try dsimp only
  repeat' first
    | (with_reducible assumption)
    | (with_reducible exact Part.sub_trans rfl hU)
    | (with_reducible exact Or.inl (Part.sub_trans rfl hU))
    | (with_reducible exact Or.inr rfl)
    | (with_reducible exact SameOutside.refl _ _)
    | (with_reducible apply Stays.next)
    | (with_reducible apply State.sealedRow_within)

theorem execBluHwmReset_within (keyId : BitVec 64) (s : State) : Stays [.unit .ppl, .unit .sch, .unit .oiu, .unit .meu, .unit .efu, .unit .psw, .unit .gse, .unit .clu, .unit .blu, .unit .lgs, .unit .alk, .unit .hpu, .unit .ntu, .unit .sec, .unit .dse, .unit .upd, .unit .bcu, .unit .cgu, .allocator, .plan, .latches] s (execBluHwmReset keyId s) := by
  have hU : Part.sub [.unit .ppl, .unit .sch, .unit .oiu, .unit .meu, .unit .efu, .unit .psw, .unit .gse, .unit .clu, .unit .blu, .unit .lgs, .unit .alk, .unit .hpu, .unit .ntu, .unit .sec, .unit .dse, .unit .upd, .unit .bcu, .unit .cgu, .allocator, .plan, .latches] [.unit .ppl, .unit .sch, .unit .oiu, .unit .meu, .unit .efu, .unit .psw, .unit .gse, .unit .clu, .unit .blu, .unit .lgs, .unit .alk, .unit .hpu, .unit .ntu, .unit .sec, .unit .dse, .unit .upd, .unit .bcu, .unit .cgu, .allocator, .plan, .latches] = true := rfl
  unfold execBluHwmReset
  try dsimp only
  repeat' first
    | (with_reducible assumption)
    | (with_reducible exact Part.sub_trans rfl hU)
    | (with_reducible exact Or.inl (Part.sub_trans rfl hU))
    | (with_reducible exact Or.inr rfl)
    | (with_reducible exact SameOutside.refl _ _)
    | (with_reducible apply Stays.next)
    | (with_reducible apply State.sealedRow_within)

theorem execTamperConfig_within (keyId : BitVec 64) (ten : BitVec 8) (tpol : BitVec 8) (s : State) : Stays [.unit .ppl, .unit .sch, .unit .oiu, .unit .meu, .unit .efu, .unit .psw, .unit .gse, .unit .clu, .unit .blu, .unit .lgs, .unit .alk, .unit .hpu, .unit .ntu, .unit .sec, .unit .dse, .unit .upd, .unit .bcu, .unit .cgu, .allocator, .plan, .latches] s (execTamperConfig keyId ten tpol s) := by
  have hU : Part.sub [.unit .ppl, .unit .sch, .unit .oiu, .unit .meu, .unit .efu, .unit .psw, .unit .gse, .unit .clu, .unit .blu, .unit .lgs, .unit .alk, .unit .hpu, .unit .ntu, .unit .sec, .unit .dse, .unit .upd, .unit .bcu, .unit .cgu, .allocator, .plan, .latches] [.unit .ppl, .unit .sch, .unit .oiu, .unit .meu, .unit .efu, .unit .psw, .unit .gse, .unit .clu, .unit .blu, .unit .lgs, .unit .alk, .unit .hpu, .unit .ntu, .unit .sec, .unit .dse, .unit .upd, .unit .bcu, .unit .cgu, .allocator, .plan, .latches] = true := rfl
  unfold execTamperConfig
  try dsimp only
  repeat' first
    | (with_reducible assumption)
    | (with_reducible exact Part.sub_trans rfl hU)
    | (with_reducible exact Or.inl (Part.sub_trans rfl hU))
    | (with_reducible exact Or.inr rfl)
    | (with_reducible exact SameOutside.refl _ _)
    | (with_reducible apply Stays.next)
    | (with_reducible apply State.sealedRow_within)

theorem execSealAck_within (keyId : BitVec 64) (s : State) : Stays [.unit .ppl, .unit .sch, .unit .oiu, .unit .meu, .unit .efu, .unit .psw, .unit .gse, .unit .clu, .unit .blu, .unit .lgs, .unit .alk, .unit .hpu, .unit .ntu, .unit .sec, .unit .dse, .unit .upd, .unit .bcu, .unit .cgu, .allocator, .plan, .latches] s (execSealAck keyId s) := by
  have hU : Part.sub [.unit .ppl, .unit .sch, .unit .oiu, .unit .meu, .unit .efu, .unit .psw, .unit .gse, .unit .clu, .unit .blu, .unit .lgs, .unit .alk, .unit .hpu, .unit .ntu, .unit .sec, .unit .dse, .unit .upd, .unit .bcu, .unit .cgu, .allocator, .plan, .latches] [.unit .ppl, .unit .sch, .unit .oiu, .unit .meu, .unit .efu, .unit .psw, .unit .gse, .unit .clu, .unit .blu, .unit .lgs, .unit .alk, .unit .hpu, .unit .ntu, .unit .sec, .unit .dse, .unit .upd, .unit .bcu, .unit .cgu, .allocator, .plan, .latches] = true := rfl
  unfold execSealAck
  try dsimp only
  repeat' first
    | (with_reducible assumption)
    | (with_reducible exact Part.sub_trans rfl hU)
    | (with_reducible exact Or.inl (Part.sub_trans rfl hU))
    | (with_reducible exact Or.inr rfl)
    | (with_reducible exact SameOutside.refl _ _)
    | (with_reducible apply Stays.next)
    | (with_reducible apply State.sealedRow_within)

theorem execSafeConfirm_within (keyId : BitVec 64) (value : BitVec 32) (s : State) : Stays [.unit .ppl, .unit .sch, .unit .oiu, .unit .meu, .unit .efu, .unit .psw, .unit .gse, .unit .clu, .unit .blu, .unit .lgs, .unit .alk, .unit .hpu, .unit .ntu, .unit .sec, .unit .dse, .unit .upd, .unit .bcu, .unit .cgu, .allocator, .plan, .latches] s (execSafeConfirm keyId value s) := by
  have hU : Part.sub [.unit .ppl, .unit .sch, .unit .oiu, .unit .meu, .unit .efu, .unit .psw, .unit .gse, .unit .clu, .unit .blu, .unit .lgs, .unit .alk, .unit .hpu, .unit .ntu, .unit .sec, .unit .dse, .unit .upd, .unit .bcu, .unit .cgu, .allocator, .plan, .latches] [.unit .ppl, .unit .sch, .unit .oiu, .unit .meu, .unit .efu, .unit .psw, .unit .gse, .unit .clu, .unit .blu, .unit .lgs, .unit .alk, .unit .hpu, .unit .ntu, .unit .sec, .unit .dse, .unit .upd, .unit .bcu, .unit .cgu, .allocator, .plan, .latches] = true := rfl
  unfold execSafeConfirm
  try dsimp only
  repeat' first
    | (with_reducible assumption)
    | (with_reducible exact Part.sub_trans rfl hU)
    | (with_reducible exact Or.inl (Part.sub_trans rfl hU))
    | (with_reducible exact Or.inr rfl)
    | (with_reducible exact SameOutside.refl _ _)
    | (with_reducible apply Stays.next)
    | (with_reducible apply State.sealedRow_within)

theorem execLgsRetention_within (keyId : BitVec 64) (days : BitVec 16) (tick : BitVec 8) (s : State) : Stays [.unit .ppl, .unit .sch, .unit .oiu, .unit .meu, .unit .efu, .unit .psw, .unit .gse, .unit .clu, .unit .blu, .unit .lgs, .unit .alk, .unit .hpu, .unit .ntu, .unit .sec, .unit .dse, .unit .upd, .unit .bcu, .unit .cgu, .allocator, .plan, .latches] s (execLgsRetention keyId days tick s) := by
  have hU : Part.sub [.unit .ppl, .unit .sch, .unit .oiu, .unit .meu, .unit .efu, .unit .psw, .unit .gse, .unit .clu, .unit .blu, .unit .lgs, .unit .alk, .unit .hpu, .unit .ntu, .unit .sec, .unit .dse, .unit .upd, .unit .bcu, .unit .cgu, .allocator, .plan, .latches] [.unit .ppl, .unit .sch, .unit .oiu, .unit .meu, .unit .efu, .unit .psw, .unit .gse, .unit .clu, .unit .blu, .unit .lgs, .unit .alk, .unit .hpu, .unit .ntu, .unit .sec, .unit .dse, .unit .upd, .unit .bcu, .unit .cgu, .allocator, .plan, .latches] = true := rfl
  unfold execLgsRetention
  try dsimp only
  repeat' first
    | (with_reducible assumption)
    | (with_reducible exact Part.sub_trans rfl hU)
    | (with_reducible exact Or.inl (Part.sub_trans rfl hU))
    | (with_reducible exact Or.inr rfl)
    | (with_reducible exact SameOutside.refl _ _)
    | (with_reducible apply Stays.next)
    | (with_reducible apply State.sealedRow_within)

theorem execLgsAck_within (keyId : BitVec 64) (first : BitVec 64) (last : BitVec 64) (hash : BitVec 256) (s : State) : Stays [.unit .ppl, .unit .sch, .unit .oiu, .unit .meu, .unit .efu, .unit .psw, .unit .gse, .unit .clu, .unit .blu, .unit .lgs, .unit .alk, .unit .hpu, .unit .ntu, .unit .sec, .unit .dse, .unit .upd, .unit .bcu, .unit .cgu, .allocator, .plan, .latches] s (execLgsAck keyId first last hash s) := by
  have hU : Part.sub [.unit .ppl, .unit .sch, .unit .oiu, .unit .meu, .unit .efu, .unit .psw, .unit .gse, .unit .clu, .unit .blu, .unit .lgs, .unit .alk, .unit .hpu, .unit .ntu, .unit .sec, .unit .dse, .unit .upd, .unit .bcu, .unit .cgu, .allocator, .plan, .latches] [.unit .ppl, .unit .sch, .unit .oiu, .unit .meu, .unit .efu, .unit .psw, .unit .gse, .unit .clu, .unit .blu, .unit .lgs, .unit .alk, .unit .hpu, .unit .ntu, .unit .sec, .unit .dse, .unit .upd, .unit .bcu, .unit .cgu, .allocator, .plan, .latches] = true := rfl
  unfold execLgsAck
  try dsimp only
  repeat' first
    | (with_reducible assumption)
    | (with_reducible exact Part.sub_trans rfl hU)
    | (with_reducible exact Or.inl (Part.sub_trans rfl hU))
    | (with_reducible exact Or.inr rfl)
    | (with_reducible exact SameOutside.refl _ _)
    | (with_reducible apply Stays.next)
    | (with_reducible apply State.sealedRow_within)

theorem execKeyGen_within (keyId : BitVec 64) (slot : BitVec 8) (ktype : BitVec 8) (s : State) : Stays [.unit .ppl, .unit .sch, .unit .oiu, .unit .meu, .unit .efu, .unit .psw, .unit .gse, .unit .clu, .unit .blu, .unit .lgs, .unit .alk, .unit .hpu, .unit .ntu, .unit .sec, .unit .dse, .unit .upd, .unit .bcu, .unit .cgu, .allocator, .plan, .latches] s (execKeyGen keyId slot ktype s) := by
  have hU : Part.sub [.unit .ppl, .unit .sch, .unit .oiu, .unit .meu, .unit .efu, .unit .psw, .unit .gse, .unit .clu, .unit .blu, .unit .lgs, .unit .alk, .unit .hpu, .unit .ntu, .unit .sec, .unit .dse, .unit .upd, .unit .bcu, .unit .cgu, .allocator, .plan, .latches] [.unit .ppl, .unit .sch, .unit .oiu, .unit .meu, .unit .efu, .unit .psw, .unit .gse, .unit .clu, .unit .blu, .unit .lgs, .unit .alk, .unit .hpu, .unit .ntu, .unit .sec, .unit .dse, .unit .upd, .unit .bcu, .unit .cgu, .allocator, .plan, .latches] = true := rfl
  unfold execKeyGen
  try dsimp only
  repeat' first
    | (with_reducible assumption)
    | (with_reducible exact Part.sub_trans rfl hU)
    | (with_reducible exact Or.inl (Part.sub_trans rfl hU))
    | (with_reducible exact Or.inr rfl)
    | (with_reducible exact SameOutside.refl _ _)
    | (with_reducible apply Stays.next)
    | (with_reducible apply State.sealedRow_within)

theorem execKeyLoad_within (keyId : BitVec 64) (slot : BitVec 8) (ktype : BitVec 8) (rest : List (BitVec 8)) (s : State) : Stays [.unit .ppl, .unit .sch, .unit .oiu, .unit .meu, .unit .efu, .unit .psw, .unit .gse, .unit .clu, .unit .blu, .unit .lgs, .unit .alk, .unit .hpu, .unit .ntu, .unit .sec, .unit .dse, .unit .upd, .unit .bcu, .unit .cgu, .allocator, .plan, .latches] s (execKeyLoad keyId slot ktype rest s) := by
  have hU : Part.sub [.unit .ppl, .unit .sch, .unit .oiu, .unit .meu, .unit .efu, .unit .psw, .unit .gse, .unit .clu, .unit .blu, .unit .lgs, .unit .alk, .unit .hpu, .unit .ntu, .unit .sec, .unit .dse, .unit .upd, .unit .bcu, .unit .cgu, .allocator, .plan, .latches] [.unit .ppl, .unit .sch, .unit .oiu, .unit .meu, .unit .efu, .unit .psw, .unit .gse, .unit .clu, .unit .blu, .unit .lgs, .unit .alk, .unit .hpu, .unit .ntu, .unit .sec, .unit .dse, .unit .upd, .unit .bcu, .unit .cgu, .allocator, .plan, .latches] = true := rfl
  unfold execKeyLoad
  try dsimp only
  repeat' first
    | (with_reducible assumption)
    | (with_reducible exact Part.sub_trans rfl hU)
    | (with_reducible exact Or.inl (Part.sub_trans rfl hU))
    | (with_reducible exact Or.inr rfl)
    | (with_reducible exact SameOutside.refl _ _)
    | (with_reducible apply Stays.next)
    | (with_reducible apply State.sealedRow_within)

theorem execKeyCommit_within (keyId : BitVec 64) (slot : BitVec 8) (shadow : BitVec 64) (s : State) : Stays [.unit .ppl, .unit .sch, .unit .oiu, .unit .meu, .unit .efu, .unit .psw, .unit .gse, .unit .clu, .unit .blu, .unit .lgs, .unit .alk, .unit .hpu, .unit .ntu, .unit .sec, .unit .dse, .unit .upd, .unit .bcu, .unit .cgu, .allocator, .plan, .latches] s (execKeyCommit keyId slot shadow s) := by
  have hU : Part.sub [.unit .ppl, .unit .sch, .unit .oiu, .unit .meu, .unit .efu, .unit .psw, .unit .gse, .unit .clu, .unit .blu, .unit .lgs, .unit .alk, .unit .hpu, .unit .ntu, .unit .sec, .unit .dse, .unit .upd, .unit .bcu, .unit .cgu, .allocator, .plan, .latches] [.unit .ppl, .unit .sch, .unit .oiu, .unit .meu, .unit .efu, .unit .psw, .unit .gse, .unit .clu, .unit .blu, .unit .lgs, .unit .alk, .unit .hpu, .unit .ntu, .unit .sec, .unit .dse, .unit .upd, .unit .bcu, .unit .cgu, .allocator, .plan, .latches] = true := rfl
  unfold execKeyCommit
  try dsimp only
  repeat' first
    | (with_reducible assumption)
    | (with_reducible exact Part.sub_trans rfl hU)
    | (with_reducible exact Or.inl (Part.sub_trans rfl hU))
    | (with_reducible exact Or.inr rfl)
    | (with_reducible exact SameOutside.refl _ _)
    | (with_reducible apply Stays.next)
    | (with_reducible apply State.sealedRow_within)

theorem execKeyAbort_within (keyId : BitVec 64) (slot : BitVec 8) (s : State) : Stays [.unit .ppl, .unit .sch, .unit .oiu, .unit .meu, .unit .efu, .unit .psw, .unit .gse, .unit .clu, .unit .blu, .unit .lgs, .unit .alk, .unit .hpu, .unit .ntu, .unit .sec, .unit .dse, .unit .upd, .unit .bcu, .unit .cgu, .allocator, .plan, .latches] s (execKeyAbort keyId slot s) := by
  have hU : Part.sub [.unit .ppl, .unit .sch, .unit .oiu, .unit .meu, .unit .efu, .unit .psw, .unit .gse, .unit .clu, .unit .blu, .unit .lgs, .unit .alk, .unit .hpu, .unit .ntu, .unit .sec, .unit .dse, .unit .upd, .unit .bcu, .unit .cgu, .allocator, .plan, .latches] [.unit .ppl, .unit .sch, .unit .oiu, .unit .meu, .unit .efu, .unit .psw, .unit .gse, .unit .clu, .unit .blu, .unit .lgs, .unit .alk, .unit .hpu, .unit .ntu, .unit .sec, .unit .dse, .unit .upd, .unit .bcu, .unit .cgu, .allocator, .plan, .latches] = true := rfl
  unfold execKeyAbort
  try dsimp only
  repeat' first
    | (with_reducible assumption)
    | (with_reducible exact Part.sub_trans rfl hU)
    | (with_reducible exact Or.inl (Part.sub_trans rfl hU))
    | (with_reducible exact Or.inr rfl)
    | (with_reducible exact SameOutside.refl _ _)
    | (with_reducible apply Stays.next)
    | (with_reducible apply State.sealedRow_within)

theorem execKeyErase_within (keyId : BitVec 64) (slot : BitVec 8) (s : State) : Stays [.unit .ppl, .unit .sch, .unit .oiu, .unit .meu, .unit .efu, .unit .psw, .unit .gse, .unit .clu, .unit .blu, .unit .lgs, .unit .alk, .unit .hpu, .unit .ntu, .unit .sec, .unit .dse, .unit .upd, .unit .bcu, .unit .cgu, .allocator, .plan, .latches] s (execKeyErase keyId slot s) := by
  have hU : Part.sub [.unit .ppl, .unit .sch, .unit .oiu, .unit .meu, .unit .efu, .unit .psw, .unit .gse, .unit .clu, .unit .blu, .unit .lgs, .unit .alk, .unit .hpu, .unit .ntu, .unit .sec, .unit .dse, .unit .upd, .unit .bcu, .unit .cgu, .allocator, .plan, .latches] [.unit .ppl, .unit .sch, .unit .oiu, .unit .meu, .unit .efu, .unit .psw, .unit .gse, .unit .clu, .unit .blu, .unit .lgs, .unit .alk, .unit .hpu, .unit .ntu, .unit .sec, .unit .dse, .unit .upd, .unit .bcu, .unit .cgu, .allocator, .plan, .latches] = true := rfl
  unfold execKeyErase
  try dsimp only
  repeat' first
    | (with_reducible assumption)
    | (with_reducible exact Part.sub_trans rfl hU)
    | (with_reducible exact Or.inl (Part.sub_trans rfl hU))
    | (with_reducible exact Or.inr rfl)
    | (with_reducible exact SameOutside.refl _ _)
    | (with_reducible apply Stays.next)
    | (with_reducible apply State.sealedRow_within)

theorem execLifecycle_within (keyId : BitVec 64) (newState : BitVec 8) (pub : List (BitVec 8)) (s : State) : Stays [.unit .ppl, .unit .sch, .unit .oiu, .unit .meu, .unit .efu, .unit .psw, .unit .gse, .unit .clu, .unit .blu, .unit .lgs, .unit .alk, .unit .hpu, .unit .ntu, .unit .sec, .unit .dse, .unit .upd, .unit .bcu, .unit .cgu, .allocator, .plan, .latches] s (execLifecycle keyId newState pub s) := by
  have hU : Part.sub [.unit .ppl, .unit .sch, .unit .oiu, .unit .meu, .unit .efu, .unit .psw, .unit .gse, .unit .clu, .unit .blu, .unit .lgs, .unit .alk, .unit .hpu, .unit .ntu, .unit .sec, .unit .dse, .unit .upd, .unit .bcu, .unit .cgu, .allocator, .plan, .latches] [.unit .ppl, .unit .sch, .unit .oiu, .unit .meu, .unit .efu, .unit .psw, .unit .gse, .unit .clu, .unit .blu, .unit .lgs, .unit .alk, .unit .hpu, .unit .ntu, .unit .sec, .unit .dse, .unit .upd, .unit .bcu, .unit .cgu, .allocator, .plan, .latches] = true := rfl
  unfold execLifecycle
  try dsimp only
  repeat' first
    | (with_reducible assumption)
    | (with_reducible exact Part.sub_trans rfl hU)
    | (with_reducible exact Or.inl (Part.sub_trans rfl hU))
    | (with_reducible exact Or.inr rfl)
    | (with_reducible exact SameOutside.refl _ _)
    | (with_reducible apply Stays.next)
    | (with_reducible apply State.sealedRow_within)

theorem execDebugUnlock_within (keyId : BitVec 64) (xroot : List (BitVec 8)) (s : State) : Stays [.unit .ppl, .unit .sch, .unit .oiu, .unit .meu, .unit .efu, .unit .psw, .unit .gse, .unit .clu, .unit .blu, .unit .lgs, .unit .alk, .unit .hpu, .unit .ntu, .unit .sec, .unit .dse, .unit .upd, .unit .bcu, .unit .cgu, .allocator, .plan, .latches] s (execDebugUnlock keyId xroot s) := by
  have hU : Part.sub [.unit .ppl, .unit .sch, .unit .oiu, .unit .meu, .unit .efu, .unit .psw, .unit .gse, .unit .clu, .unit .blu, .unit .lgs, .unit .alk, .unit .hpu, .unit .ntu, .unit .sec, .unit .dse, .unit .upd, .unit .bcu, .unit .cgu, .allocator, .plan, .latches] [.unit .ppl, .unit .sch, .unit .oiu, .unit .meu, .unit .efu, .unit .psw, .unit .gse, .unit .clu, .unit .blu, .unit .lgs, .unit .alk, .unit .hpu, .unit .ntu, .unit .sec, .unit .dse, .unit .upd, .unit .bcu, .unit .cgu, .allocator, .plan, .latches] = true := rfl
  unfold execDebugUnlock
  try dsimp only
  repeat' first
    | (with_reducible assumption)
    | (with_reducible exact Part.sub_trans rfl hU)
    | (with_reducible exact Or.inl (Part.sub_trans rfl hU))
    | (with_reducible exact Or.inr rfl)
    | (with_reducible exact SameOutside.refl _ _)
    | (with_reducible apply Stays.next)
    | (with_reducible apply State.sealedRow_within)

theorem execSafetyInputConfirm_within (i : Fin 16) (samples : List Bool) (s : State) : Stays [.unit .gse, .unit .lgs, .unit .hpu, .unit .sec] s (execSafetyInputConfirm i samples s) := by
  have hU : Part.sub [.unit .gse, .unit .lgs, .unit .hpu, .unit .sec] [.unit .gse, .unit .lgs, .unit .hpu, .unit .sec] = true := rfl
  unfold execSafetyInputConfirm
  try dsimp only
  repeat' first
    | (with_reducible assumption)
    | (with_reducible exact Part.sub_trans rfl hU)
    | (with_reducible exact Or.inl (Part.sub_trans rfl hU))
    | (with_reducible exact Or.inr rfl)
    | (with_reducible exact SameOutside.refl _ _)
    | (with_reducible apply Stays.next)
    | (with_reducible apply State.inputConfirm_within)
    | (with_reducible apply State.confirmOutcome_within)
    | (with_reducible apply State.each_within)
    | (with_reducible apply State.onlyIf_within)
    | (with_reducible apply State.foldl_within)
    | (intro x k hx)
    | (intro x hx)
    | split

theorem execGseCycle_within (encoder : Option (Nat × Nat × Bool)) (s : State) : Stays [.unit .oiu, .unit .efu, .unit .psw, .unit .gse, .unit .lgs, .unit .hpu, .unit .sec, .allocator] s (execGseCycle encoder s) := by
  have hU : Part.sub [.unit .oiu, .unit .efu, .unit .psw, .unit .gse, .unit .lgs, .unit .hpu, .unit .sec, .allocator] [.unit .oiu, .unit .efu, .unit .psw, .unit .gse, .unit .lgs, .unit .hpu, .unit .sec, .allocator] = true := rfl
  unfold execGseCycle
  try dsimp only
  repeat' first
    | (with_reducible assumption)
    | (with_reducible exact Part.sub_trans rfl hU)
    | (with_reducible exact Or.inl (Part.sub_trans rfl hU))
    | (with_reducible exact Or.inr rfl)
    | (with_reducible exact SameOutside.refl _ _)
    | (with_reducible apply Stays.next)
    | (with_reducible apply State.drive_within)
    | (with_reducible apply State.moveTo_within)
    | (with_reducible apply State.confirmOutcome_within)
    | (with_reducible apply State.inputsChanged_within)
    | (with_reducible apply State.evaluate_within)
    | (with_reducible apply State.readEncoder_within)
    | (with_reducible apply State.put_within)
    | (with_reducible apply State.each_within)
    | (with_reducible apply State.onlyIf_within)
    | (with_reducible apply State.foldl_within)
    | (intro x k hx)
    | (intro x hx)
    | split
    | (with_reducible apply SameOutside.built)

theorem execResetPulse_within (i : Fin 16) (ms : Nat) (s : State) : Stays [.unit .gse, .unit .lgs, .unit .hpu, .unit .sec] s (execResetPulse i ms s) := by
  have hU : Part.sub [.unit .gse, .unit .lgs, .unit .hpu, .unit .sec] [.unit .gse, .unit .lgs, .unit .hpu, .unit .sec] = true := rfl
  unfold execResetPulse
  try dsimp only
  repeat' first
    | (with_reducible assumption)
    | (with_reducible exact Part.sub_trans rfl hU)
    | (with_reducible exact Or.inl (Part.sub_trans rfl hU))
    | (with_reducible exact Or.inr rfl)
    | (with_reducible exact SameOutside.refl _ _)
    | (with_reducible apply Stays.next)
    | (with_reducible apply State.putBit_within)
    | (with_reducible apply State.resetPulse_within)
    | (with_reducible apply State.confirmOutcome_within)
    | (with_reducible apply State.each_within)
    | (with_reducible apply State.onlyIf_within)
    | (with_reducible apply State.foldl_within)
    | (intro x k hx)
    | (intro x hx)
    | split
    | (with_reducible apply SameOutside.built)

theorem execSafeConfirmTimeout_within (s : State) : Stays [.unit .gse, .unit .lgs, .unit .hpu, .unit .sec] s (execSafeConfirmTimeout s) := by
  have hU : Part.sub [.unit .gse, .unit .lgs, .unit .hpu, .unit .sec] [.unit .gse, .unit .lgs, .unit .hpu, .unit .sec] = true := rfl
  unfold execSafeConfirmTimeout
  try dsimp only
  repeat' first
    | (with_reducible assumption)
    | (with_reducible exact Part.sub_trans rfl hU)
    | (with_reducible exact Or.inl (Part.sub_trans rfl hU))
    | (with_reducible exact Or.inr rfl)
    | (with_reducible exact SameOutside.refl _ _)
    | (with_reducible apply Stays.next)
    | (with_reducible apply State.confirmOutcome_within)
    | (with_reducible apply State.confirmLate_within)
    | (with_reducible apply State.each_within)
    | (with_reducible apply State.onlyIf_within)
    | (with_reducible apply State.foldl_within)
    | (intro x k hx)
    | (intro x hx)
    | split
    | (with_reducible apply SameOutside.built)

end Sys2Proof.Machine
end

