-- ==== Sys2Proof/Laws/WithinReset.lean ====
section
/-! SUPPORT. Every operation and every command of the resets leaves the parts of the block alone that it does not touch (Laws/Within.lean). -/

namespace Sys2Proof.Machine

open Sys2Proof

theorem State.setBcu_within {U : List Part} {z0 s : State} (hz : SameOutside U z0 s) (v : Bcu) (hU : Part.sub [.unit .bcu] U = true) : SameOutside U z0 (State.setBcu s v) := by
  unfold State.setBcu
  try dsimp only
  repeat' first
    | (with_reducible assumption)
    | (with_reducible exact Part.sub_trans rfl hU)
    | (with_reducible exact Or.inl (Part.sub_trans rfl hU))
    | (with_reducible exact Or.inr rfl)
    | (with_reducible apply State.each_within)
    | (with_reducible apply State.onlyIf_within)
    | (with_reducible apply State.foldl_within)
    | (intro x k hx)
    | (intro x hx)
    | split
    | (with_reducible apply SameOutside.built)

theorem State.addLife_within {U : List Part} {z0 s : State} (hz : SameOutside U z0 s) (eqh : Nat) (hours : Nat) (hU : Part.sub [.unit .id] U = true) : SameOutside U z0 (State.addLife s eqh hours) := by
  unfold State.addLife
  try dsimp only
  repeat' first
    | (with_reducible assumption)
    | (with_reducible exact Part.sub_trans rfl hU)
    | (with_reducible exact Or.inl (Part.sub_trans rfl hU))
    | (with_reducible exact Or.inr rfl)
    | (with_reducible apply State.put_within)

theorem State.showTcase_within {U : List Part} {z0 s : State} (hz : SameOutside U z0 s) (tnow : Int) (peak : Int) (hU : Part.sub [.unit .id] U = true) : SameOutside U z0 (State.showTcase s tnow peak) := by
  unfold State.showTcase
  try dsimp only
  repeat' first
    | (with_reducible assumption)
    | (with_reducible exact Part.sub_trans rfl hU)
    | (with_reducible exact Or.inl (Part.sub_trans rfl hU))
    | (with_reducible exact Or.inr rfl)
    | (with_reducible apply State.put_within)

theorem State.showFlash_within {U : List Part} {z0 s : State} (hz : SameOutside U z0 s) (n : Nat) (w : Nat) (hU : Part.sub [.unit .id] U = true) : SameOutside U z0 (State.showFlash s n w) := by
  unfold State.showFlash
  try dsimp only
  repeat' first
    | (with_reducible assumption)
    | (with_reducible exact Part.sub_trans rfl hU)
    | (with_reducible exact Or.inl (Part.sub_trans rfl hU))
    | (with_reducible exact Or.inr rfl)
    | (with_reducible apply State.put_within)

theorem execLifeAccounting_within (tmean : Int) (tnow : Int) (peak : Int) (flash0 : BitVec 32) (flash1 : BitVec 32) (s : State) : Stays [.unit .bcu, .unit .id] s (execLifeAccounting tmean tnow peak flash0 flash1 s) := by
  have hU : Part.sub [.unit .bcu, .unit .id] [.unit .bcu, .unit .id] = true := rfl
  unfold execLifeAccounting
  try dsimp only
  repeat' first
    | (with_reducible assumption)
    | (with_reducible exact Part.sub_trans rfl hU)
    | (with_reducible exact Or.inl (Part.sub_trans rfl hU))
    | (with_reducible exact Or.inr rfl)
    | (with_reducible exact SameOutside.refl _ _)
    | (with_reducible apply Stays.next)
    | (with_reducible apply State.setBcu_within)
    | (with_reducible apply State.draw_within)
    | (with_reducible apply State.moveTo_within)
    | (with_reducible apply State.showFlash_within)
    | (with_reducible apply State.showTcase_within)
    | (with_reducible apply State.addLife_within)
    | (with_reducible apply State.each_within)
    | (with_reducible apply State.onlyIf_within)
    | (with_reducible apply State.foldl_within)
    | (intro x k hx)
    | (intro x hx)
    | (with_reducible refine SameOutside.snd ?_ (by assumption))
    | split
    | (with_reducible apply SameOutside.built)

theorem State.setUpd_within {U : List Part} {z0 s : State} (hz : SameOutside U z0 s) (v : Upd) (hU : Part.sub [.unit .upd] U = true) : SameOutside U z0 (State.setUpd s v) := by
  unfold State.setUpd
  try dsimp only
  repeat' first
    | (with_reducible assumption)
    | (with_reducible exact Part.sub_trans rfl hU)
    | (with_reducible exact Or.inl (Part.sub_trans rfl hU))
    | (with_reducible exact Or.inr rfl)
    | (with_reducible apply State.each_within)
    | (with_reducible apply State.onlyIf_within)
    | (with_reducible apply State.foldl_within)
    | (intro x k hx)
    | (intro x hx)
    | split
    | (with_reducible apply SameOutside.built)

theorem State.trialPause_within {U : List Part} {z0 s : State} (hz : SameOutside U z0 s) (hU : Part.sub [.unit .upd] U = true) : SameOutside U z0 (State.trialPause s) := by
  unfold State.trialPause
  try dsimp only
  repeat' first
    | (with_reducible assumption)
    | (with_reducible exact Part.sub_trans rfl hU)
    | (with_reducible exact Or.inl (Part.sub_trans rfl hU))
    | (with_reducible exact Or.inr rfl)
    | (with_reducible apply State.setUpd_within)

theorem State.showHold_within {U : List Part} {z0 s : State} (hz : SameOutside U z0 s) (hU : Part.sub [.unit .bcu] U = true) : SameOutside U z0 (State.showHold s) := by
  unfold State.showHold
  try dsimp only
  repeat' first
    | (with_reducible assumption)
    | (with_reducible exact Part.sub_trans rfl hU)
    | (with_reducible exact Or.inl (Part.sub_trans rfl hU))
    | (with_reducible exact Or.inr rfl)
    | (with_reducible apply State.put_within)
    | (with_reducible apply State.each_within)
    | (with_reducible apply State.onlyIf_within)
    | (with_reducible apply State.foldl_within)
    | (intro x k hx)
    | (intro x hx)
    | split

theorem State.endHold_within {U : List Part} {z0 s : State} (hz : SameOutside U z0 s) (hU : Part.sub [.unit .bcu] U = true) : SameOutside U z0 (State.endHold s) := by
  unfold State.endHold
  try dsimp only
  repeat' first
    | (with_reducible assumption)
    | (with_reducible exact Part.sub_trans rfl hU)
    | (with_reducible exact Or.inl (Part.sub_trans rfl hU))
    | (with_reducible exact Or.inr rfl)
    | (with_reducible apply State.setBcu_within)
    | (with_reducible apply State.put_within)
    | (with_reducible apply State.showHold_within)
    | (with_reducible apply State.each_within)
    | (with_reducible apply State.onlyIf_within)
    | (with_reducible apply State.foldl_within)
    | (intro x k hx)
    | (intro x hx)
    | split
    | (with_reducible apply SameOutside.built)

theorem State.dropAll_within {U : List Part} {z0 s : State} (hz : SameOutside U z0 s) (hU : Part.sub [.unit .oiu, .unit .efu, .unit .psw, .unit .lgs, .allocator] U = true) : SameOutside U z0 (State.dropAll s) := by
  unfold State.dropAll
  try dsimp only
  repeat' first
    | (with_reducible assumption)
    | (with_reducible exact Part.sub_trans rfl hU)
    | (with_reducible exact Or.inl (Part.sub_trans rfl hU))
    | (with_reducible exact Or.inr rfl)
    | (with_reducible apply State.putFlag_within)
    | (with_reducible apply State.contact_within)
    | (with_reducible apply State.each_within)
    | (with_reducible apply State.onlyIf_within)
    | (with_reducible apply State.foldl_within)
    | (intro x k hx)

theorem State.oiuPowerFail_within {U : List Part} {z0 s : State} (hz : SameOutside U z0 s) (hU : Part.sub [.unit .oiu, .unit .efu, .unit .psw, .unit .lgs, .allocator] U = true) : SameOutside U z0 (State.oiuPowerFail s) := by
  unfold State.oiuPowerFail
  try dsimp only
  repeat' first
    | (with_reducible assumption)
    | (with_reducible exact Part.sub_trans rfl hU)
    | (with_reducible exact Or.inl (Part.sub_trans rfl hU))
    | (with_reducible exact Or.inr rfl)
    | (with_reducible apply State.dropAll_within)
    | (with_reducible apply State.putFlag_within)
    | (with_reducible apply State.put_within)
    | (with_reducible apply State.each_within)
    | (with_reducible apply State.onlyIf_within)
    | (with_reducible apply State.foldl_within)
    | (intro x k hx)

theorem State.swPowerFail_within {U : List Part} {z0 s : State} (hz : SameOutside U z0 s) (hU : Part.sub [.unit .oiu, .unit .psw, .unit .lgs] U = true) : SameOutside U z0 (State.swPowerFail s) := by
  unfold State.swPowerFail
  try dsimp only
  repeat' first
    | (with_reducible assumption)
    | (with_reducible exact Part.sub_trans rfl hU)
    | (with_reducible exact Or.inl (Part.sub_trans rfl hU))
    | (with_reducible exact Or.inr rfl)
    | (with_reducible apply State.chOff_within)
    | (with_reducible apply State.each_within)
    | (with_reducible apply State.onlyIf_within)
    | (with_reducible apply State.foldl_within)
    | (intro x k hx)
    | (intro x hx)

theorem State.declarePf_within {U : List Part} {z0 s : State} (hz : SameOutside U z0 s) (arg : Nat) (next : Option Nat) (hU : Part.sub [.unit .oiu, .unit .meu, .unit .efu, .unit .psw, .unit .gse, .unit .blu, .unit .lgs, .unit .alk, .unit .dse, .unit .upd, .unit .bcu, .allocator] U = true) : SameOutside U z0 (State.declarePf s arg next) := by
  unfold State.declarePf
  try dsimp only
  repeat' first
    | (with_reducible assumption)
    | (with_reducible exact Part.sub_trans rfl hU)
    | (with_reducible exact Or.inl (Part.sub_trans rfl hU))
    | (with_reducible exact Or.inr rfl)
    | (with_reducible apply State.setBcu_within)
    | (with_reducible apply State.trialPause_within)
    | (with_reducible apply State.gsePowerFail_within)
    | (with_reducible apply State.raise_within)
    | (with_reducible apply State.alkPowerFail_within)
    | (with_reducible apply State.bluPowerFail_within)
    | (with_reducible apply State.swPowerFail_within)
    | (with_reducible apply State.oiuPowerFail_within)
    | (with_reducible apply State.dsePowerFail_within)
    | (with_reducible apply State.endHold_within)
    | (with_reducible apply State.put_within)
    | (with_reducible apply State.each_within)
    | (with_reducible apply State.onlyIf_within)
    | (with_reducible apply State.foldl_within)
    | (intro x k hx)
    | (intro x hx)
    | split
    | (with_reducible apply SameOutside.built)

theorem State.freezeAndCommit_within {U : List Part} {z0 s : State} (hz : SameOutside U z0 s) (hU : Part.sub [.unit .ppl, .unit .oiu, .unit .meu, .unit .efu, .unit .psw, .unit .blu, .unit .lgs, .unit .sec, .allocator] U = true) : SameOutside U z0 (State.freezeAndCommit s) := by
  unfold State.freezeAndCommit
  try dsimp only
  repeat' first
    | (with_reducible assumption)
    | (with_reducible exact Part.sub_trans rfl hU)
    | (with_reducible exact Or.inl (Part.sub_trans rfl hU))
    | (with_reducible exact Or.inr rfl)
    | (with_reducible apply State.endNow_within)
    | (with_reducible apply State.draw_within)
    | (with_reducible apply State.bluCommit_within)
    | (with_reducible apply State.meuFreeze_within)
    | (with_reducible apply State.pfLatch_within)
    | (with_reducible apply State.each_within)
    | (with_reducible apply State.onlyIf_within)
    | (with_reducible apply State.foldl_within)
    | (intro x k hx)
    | (intro x hx)
    | (with_reducible refine SameOutside.snd ?_ (by assumption))
    | split
    | (with_reducible apply SameOutside.built)

theorem execMeuFreeze_within (s : State) : Stays [.unit .ppl, .unit .oiu, .unit .meu, .unit .efu, .unit .psw, .unit .blu, .unit .lgs, .unit .sec, .allocator] s (execMeuFreeze s) := by
  have hU : Part.sub [.unit .ppl, .unit .oiu, .unit .meu, .unit .efu, .unit .psw, .unit .blu, .unit .lgs, .unit .sec, .allocator] [.unit .ppl, .unit .oiu, .unit .meu, .unit .efu, .unit .psw, .unit .blu, .unit .lgs, .unit .sec, .allocator] = true := rfl
  unfold execMeuFreeze
  try dsimp only
  repeat' first
    | (with_reducible assumption)
    | (with_reducible exact Part.sub_trans rfl hU)
    | (with_reducible exact Or.inl (Part.sub_trans rfl hU))
    | (with_reducible exact Or.inr rfl)
    | (with_reducible exact SameOutside.refl _ _)
    | (with_reducible apply Stays.next)
    | (with_reducible apply State.moveTo_within)
    | (with_reducible apply State.freezeAndCommit_within)
    | (with_reducible apply State.each_within)
    | (with_reducible apply State.onlyIf_within)
    | (with_reducible apply State.foldl_within)
    | (intro x k hx)
    | (intro x hx)
    | split
    | (with_reducible apply SameOutside.built)

theorem State.releaseCold_within {U : List Part} {z0 s : State} (hz : SameOutside U z0 s) (cause : Nat) (hU : Part.sub [.unit .lgs, .unit .bcu] U = true) : SameOutside U z0 (State.releaseCold s cause) := by
  unfold State.releaseCold
  try dsimp only
  repeat' first
    | (with_reducible assumption)
    | (with_reducible exact Part.sub_trans rfl hU)
    | (with_reducible exact Or.inl (Part.sub_trans rfl hU))
    | (with_reducible exact Or.inr rfl)
    | (with_reducible apply State.count_within)
    | (with_reducible apply State.put_within)
    | (with_reducible apply State.raise_within)
    | (with_reducible apply State.setBcu_within)
    | (with_reducible apply State.each_within)
    | (with_reducible apply State.onlyIf_within)
    | (with_reducible apply State.foldl_within)
    | (intro x k hx)
    | (intro x hx)
    | split
    | (with_reducible apply SameOutside.built)

theorem State.captureOutputs_within {U : List Part} {z0 s : State} (hz : SameOutside U z0 s) (hU : Part.sub [.unit .bcu] U = true) : SameOutside U z0 (State.captureOutputs s) := by
  unfold State.captureOutputs
  try dsimp only
  repeat' first
    | (with_reducible assumption)
    | (with_reducible exact Part.sub_trans rfl hU)
    | (with_reducible exact Or.inl (Part.sub_trans rfl hU))
    | (with_reducible exact Or.inr rfl)
    | (with_reducible apply State.setBcu_within)
    | (with_reducible apply State.each_within)
    | (with_reducible apply State.onlyIf_within)
    | (with_reducible apply State.foldl_within)
    | (intro x k hx)

theorem State.updWarm_within {U : List Part} {z0 s : State} (hz : SameOutside U z0 s) (hU : Part.sub [.unit .upd, .latches] U = true) : SameOutside U z0 (State.updWarm s) := by
  unfold State.updWarm
  try dsimp only
  repeat' first
    | (with_reducible assumption)
    | (with_reducible exact Part.sub_trans rfl hU)
    | (with_reducible exact Or.inl (Part.sub_trans rfl hU))
    | (with_reducible exact Or.inr rfl)
    | (with_reducible apply State.clearUnit_within)
    | (with_reducible apply State.put_within)
    | (with_reducible apply State.each_within)
    | (with_reducible apply State.onlyIf_within)
    | (with_reducible apply State.foldl_within)
    | (intro x k hx)
    | (intro x hx)
    | split
    | (with_reducible apply SameOutside.built)

theorem State.resetApplication_within {U : List Part} {z0 s : State} (hz : SameOutside U z0 s) (hU : Part.sub [.unit .sch, .unit .vce, .unit .clu, .unit .lgs, .unit .hpu, .unit .dse, .unit .upd, .allocator, .latches] U = true) : SameOutside U z0 (State.resetApplication s) := by
  unfold State.resetApplication
  try dsimp only
  repeat' first
    | (with_reducible assumption)
    | (with_reducible exact Part.sub_trans rfl hU)
    | (with_reducible exact Or.inl (Part.sub_trans rfl hU))
    | (with_reducible exact Or.inr rfl)
    | (with_reducible apply State.cluWarm_within)
    | (with_reducible apply State.allocWarm_within)
    | (with_reducible apply State.vceWarm_within)
    | (with_reducible apply State.updWarm_within)
    | (with_reducible apply State.hpuWarm_within)
    | (with_reducible apply State.dseWarm_within)
    | (with_reducible apply State.setUpd_within)
    | (with_reducible apply State.each_within)
    | (with_reducible apply State.onlyIf_within)
    | (with_reducible apply State.foldl_within)
    | (intro x k hx)
    | (intro x hx)
    | split
    | (with_reducible apply SameOutside.built)

theorem State.countWarm_within {U : List Part} {z0 s : State} (hz : SameOutside U z0 s) (c : Nat) (hU : Part.sub [.unit .lgs, .unit .bcu] U = true) : SameOutside U z0 (State.countWarm s c) := by
  unfold State.countWarm
  try dsimp only
  repeat' first
    | (with_reducible assumption)
    | (with_reducible exact Part.sub_trans rfl hU)
    | (with_reducible exact Or.inl (Part.sub_trans rfl hU))
    | (with_reducible exact Or.inr rfl)
    | (with_reducible apply State.count_within)
    | (with_reducible apply State.raise_within)
    | (with_reducible apply State.put_within)
    | (with_reducible apply State.each_within)
    | (with_reducible apply State.onlyIf_within)
    | (with_reducible apply State.foldl_within)
    | (intro x k hx)
    | (intro x hx)
    | split
    | (with_reducible apply SameOutside.built)

theorem State.thawAll_within {U : List Part} {z0 s : State} (hz : SameOutside U z0 s) (hU : Part.sub [.unit .fab, .unit .oiu, .unit .meu, .unit .efu, .unit .psw, .unit .gse, .unit .lgs, .allocator] U = true) : SameOutside U z0 (State.thawAll s) := by
  unfold State.thawAll
  try dsimp only
  repeat' first
    | (with_reducible assumption)
    | (with_reducible exact Part.sub_trans rfl hU)
    | (with_reducible exact Or.inl (Part.sub_trans rfl hU))
    | (with_reducible exact Or.inr rfl)
    | (with_reducible apply State.gseRelease_within)
    | (with_reducible apply State.rejoinAll_within)
    | (with_reducible apply State.put_within)
    | (with_reducible apply State.each_within)
    | (with_reducible apply State.onlyIf_within)
    | (with_reducible apply State.foldl_within)
    | (intro x k hx)
    | (intro x hx)
    | split
    | (with_reducible apply SameOutside.built)

theorem State.startHold_within {U : List Part} {z0 s : State} (hz : SameOutside U z0 s) (hU : Part.sub [.unit .bcu] U = true) : SameOutside U z0 (State.startHold s) := by
  unfold State.startHold
  try dsimp only
  repeat' first
    | (with_reducible assumption)
    | (with_reducible exact Part.sub_trans rfl hU)
    | (with_reducible exact Or.inl (Part.sub_trans rfl hU))
    | (with_reducible exact Or.inr rfl)
    | (with_reducible apply State.setBcu_within)
    | (with_reducible apply State.captureOutputs_within)
    | (with_reducible apply State.put_within)
    | (with_reducible apply State.each_within)
    | (with_reducible apply State.onlyIf_within)
    | (with_reducible apply State.foldl_within)
    | (intro x k hx)
    | (intro x hx)
    | split
    | (with_reducible apply SameOutside.built)

theorem State.warmReset_within {U : List Part} {z0 s : State} (hz : SameOutside U z0 s) (c : Nat) (hU : Part.sub [.unit .fab, .unit .sch, .unit .oiu, .unit .vce, .unit .meu, .unit .efu, .unit .psw, .unit .gse, .unit .clu, .unit .blu, .unit .lgs, .unit .alk, .unit .hpu, .unit .dse, .unit .upd, .unit .bcu, .allocator, .latches] U = true) : SameOutside U z0 (State.warmReset s c) := by
  unfold State.warmReset
  try dsimp only
  repeat' first
    | (with_reducible assumption)
    | (with_reducible exact Part.sub_trans rfl hU)
    | (with_reducible exact Or.inl (Part.sub_trans rfl hU))
    | (with_reducible exact Or.inr rfl)
    | (with_reducible apply State.thawAll_within)
    | (with_reducible apply State.declarePf_within)
    | (with_reducible apply State.resetApplication_within)
    | (with_reducible apply State.startHold_within)
    | (with_reducible apply State.setBcu_within)
    | (with_reducible apply State.countWarm_within)
    | (with_reducible apply State.raise_within)
    | (with_reducible apply State.each_within)
    | (with_reducible apply State.onlyIf_within)
    | (with_reducible apply State.foldl_within)
    | (intro x k hx)
    | (intro x hx)
    | split
    | (with_reducible apply SameOutside.built)

theorem State.coldCommand_within {U : List Part} {z0 s : State} (hz : SameOutside U z0 s) (arg : Nat) (cause : Nat) (hU : Part.sub [.unit .oiu, .unit .meu, .unit .efu, .unit .psw, .unit .gse, .unit .blu, .unit .lgs, .unit .alk, .unit .dse, .unit .upd, .unit .bcu, .allocator] U = true) : SameOutside U z0 (State.coldCommand s arg cause) := by
  unfold State.coldCommand
  try dsimp only
  repeat' first
    | (with_reducible assumption)
    | (with_reducible exact Part.sub_trans rfl hU)
    | (with_reducible exact Or.inl (Part.sub_trans rfl hU))
    | (with_reducible exact Or.inr rfl)
    | (with_reducible apply State.declarePf_within)
    | (with_reducible apply State.each_within)
    | (with_reducible apply State.onlyIf_within)
    | (with_reducible apply State.foldl_within)
    | (intro x k hx)
    | (intro x hx)
    | split

end Sys2Proof.Machine
end

