-- ==== Sys2Proof/Laws/WithinUpdate.lean ====
section
/-! SUPPORT. Every operation and every command of the UPD leaves the parts of the block alone that it does not touch (Laws/Within.lean). -/

namespace Sys2Proof.Machine

open Sys2Proof

theorem State.setUpdState_within {U : List Part} {z0 s : State} (hz : SameOutside U z0 s) (st : Nat) (hU : Part.sub [.unit .upd] U = true) : SameOutside U z0 (State.setUpdState s st) := by
  unfold State.setUpdState
  try dsimp only
  repeat' first
    | (with_reducible assumption)
    | (with_reducible exact Part.sub_trans rfl hU)
    | (with_reducible exact Or.inl (Part.sub_trans rfl hU))
    | (with_reducible exact Or.inr rfl)
    | (with_reducible apply State.put_within)

theorem State.setInstalled_within {U : List Part} {z0 s : State} (hz : SameOutside U z0 s) (key : Nat) (v : Nat) (hU : Part.sub [.unit .upd] U = true) : SameOutside U z0 (State.setInstalled s key v) := by
  unfold State.setInstalled
  try dsimp only
  repeat' first
    | (with_reducible assumption)
    | (with_reducible exact Part.sub_trans rfl hU)
    | (with_reducible exact Or.inl (Part.sub_trans rfl hU))
    | (with_reducible exact Or.inr rfl)
    | (with_reducible apply State.setUpd_within)

theorem State.showUpd_within {U : List Part} {z0 s : State} (hz : SameOutside U z0 s) (hU : Part.sub [.unit .upd] U = true) : SameOutside U z0 (State.showUpd s) := by
  unfold State.showUpd
  try dsimp only
  repeat' first
    | (with_reducible assumption)
    | (with_reducible exact Part.sub_trans rfl hU)
    | (with_reducible exact Or.inl (Part.sub_trans rfl hU))
    | (with_reducible exact Or.inr rfl)
    | (with_reducible apply State.put_within)

theorem State.updRefuse_within {U : List Part} {z0 s : State} (hz : SameOutside U z0 s) (reason : Nat) (detail : Nat) (hU : Part.sub [.unit .lgs, .unit .upd] U = true) : SameOutside U z0 (State.updRefuse s reason detail) := by
  unfold State.updRefuse
  try dsimp only
  repeat' first
    | (with_reducible assumption)
    | (with_reducible exact Part.sub_trans rfl hU)
    | (with_reducible exact Or.inl (Part.sub_trans rfl hU))
    | (with_reducible exact Or.inr rfl)
    | (with_reducible apply State.raise2_within)
    | (with_reducible apply State.put_within)

theorem State.updBadState_within {U : List Part} {z0 s : State} (hz : SameOutside U z0 s) (cmd : Nat) (hU : Part.sub [.unit .lgs] U = true) : SameOutside U z0 (State.updBadState s cmd) := by
  unfold State.updBadState
  try dsimp only
  repeat' first
    | (with_reducible assumption)
    | (with_reducible exact Part.sub_trans rfl hU)
    | (with_reducible exact Or.inl (Part.sub_trans rfl hU))
    | (with_reducible exact Or.inr rfl)
    | (with_reducible apply State.raise2_within)

theorem State.updLoad_within {U : List Part} {z0 s : State} (hz : SameOutside U z0 s) (hU : Part.sub [.unit .lgs, .unit .upd] U = true) : SameOutside U z0 (State.updLoad s) := by
  unfold State.updLoad
  try dsimp only
  repeat' first
    | (with_reducible assumption)
    | (with_reducible exact Part.sub_trans rfl hU)
    | (with_reducible exact Or.inl (Part.sub_trans rfl hU))
    | (with_reducible exact Or.inr rfl)
    | (with_reducible apply State.setUpdState_within)
    | (with_reducible apply State.updRefuse_within)
    | (with_reducible apply State.each_within)
    | (with_reducible apply State.onlyIf_within)
    | (with_reducible apply State.foldl_within)
    | (intro x k hx)
    | (intro x hx)
    | split

theorem State.schedule_within {U : List Part} {z0 s : State} (hz : SameOutside U z0 s) (byPtp : Bool) (t : Nat) (hU : Part.sub [.unit .lgs, .unit .upd] U = true) : SameOutside U z0 (State.schedule s byPtp t) := by
  unfold State.schedule
  try dsimp only
  repeat' first
    | (with_reducible assumption)
    | (with_reducible exact Part.sub_trans rfl hU)
    | (with_reducible exact Or.inl (Part.sub_trans rfl hU))
    | (with_reducible exact Or.inr rfl)
    | (with_reducible apply State.raise_within)
    | (with_reducible apply State.setUpd_within)
    | (with_reducible apply State.put_within)
    | (with_reducible apply State.each_within)
    | (with_reducible apply State.onlyIf_within)
    | (with_reducible apply State.foldl_within)
    | (intro x k hx)
    | (intro x hx)
    | split
    | (with_reducible apply SameOutside.built)

theorem State.showPart_within {U : List Part} {z0 s : State} (hz : SameOutside U z0 s) (l : List UpdPart) (ends : Bool) (hU : Part.sub [.unit .upd] U = true) : SameOutside U z0 (State.showPart s l ends) := by
  unfold State.showPart
  try dsimp only
  repeat' first
    | (with_reducible assumption)
    | (with_reducible exact Part.sub_trans rfl hU)
    | (with_reducible exact Or.inl (Part.sub_trans rfl hU))
    | (with_reducible exact Or.inr rfl)
    | (with_reducible apply State.put_within)

theorem State.updRead_within {U : List Part} {z0 s : State} (hz : SameOutside U z0 s) (hU : Part.sub [.unit .lgs, .unit .upd] U = true) : SameOutside U z0 (State.updRead s) := by
  unfold State.updRead
  try dsimp only
  repeat' first
    | (with_reducible assumption)
    | (with_reducible exact Part.sub_trans rfl hU)
    | (with_reducible exact Or.inl (Part.sub_trans rfl hU))
    | (with_reducible exact Or.inr rfl)
    | (with_reducible apply State.setUpdState_within)
    | (with_reducible apply State.raise_within)
    | (with_reducible apply State.showPart_within)
    | (with_reducible apply State.each_within)
    | (with_reducible apply State.onlyIf_within)
    | (with_reducible apply State.foldl_within)
    | (intro x k hx)
    | (intro x hx)
    | split
    | (with_reducible apply SameOutside.built)

theorem State.updCheck_within {U : List Part} {z0 s : State} (hz : SameOutside U z0 s) (hU : Part.sub [.unit .lgs, .unit .upd] U = true) : SameOutside U z0 (State.updCheck s) := by
  unfold State.updCheck
  try dsimp only
  repeat' first
    | (with_reducible assumption)
    | (with_reducible exact Part.sub_trans rfl hU)
    | (with_reducible exact Or.inl (Part.sub_trans rfl hU))
    | (with_reducible exact Or.inr rfl)
    | (with_reducible apply State.setUpdState_within)
    | (with_reducible apply State.showPart_within)
    | (with_reducible apply State.setUpd_within)
    | (with_reducible apply State.updRefuse_within)
    | (with_reducible apply State.each_within)
    | (with_reducible apply State.onlyIf_within)
    | (with_reducible apply State.foldl_within)
    | (intro x k hx)
    | (intro x hx)
    | split
    | (with_reducible apply SameOutside.built)

theorem State.sendImages_within {U : List Part} {z0 s : State} (hz : SameOutside U z0 s) (l : List (Nat × List Nat)) (hU : Part.sub [.unit .alk] U = true) : SameOutside U z0 (State.sendImages s l) := by
  unfold State.sendImages
  try dsimp only
  repeat' first
    | (with_reducible assumption)
    | (with_reducible exact Part.sub_trans rfl hU)
    | (with_reducible exact Or.inl (Part.sub_trans rfl hU))
    | (with_reducible exact Or.inr rfl)
    | (with_reducible apply State.setAlk_within)

theorem State.updStage_within {U : List Part} {z0 s : State} (hz : SameOutside U z0 s) (hU : Part.sub [.unit .lgs, .unit .alk, .unit .upd] U = true) : SameOutside U z0 (State.updStage s) := by
  unfold State.updStage
  try dsimp only
  repeat' first
    | (with_reducible assumption)
    | (with_reducible exact Part.sub_trans rfl hU)
    | (with_reducible exact Or.inl (Part.sub_trans rfl hU))
    | (with_reducible exact Or.inr rfl)
    | (with_reducible apply State.setUpdState_within)
    | (with_reducible apply State.sendImages_within)
    | (with_reducible apply State.raise_within)
    | (with_reducible apply State.showPart_within)
    | (with_reducible apply State.schedule_within)
    | (with_reducible apply State.each_within)
    | (with_reducible apply State.onlyIf_within)
    | (with_reducible apply State.foldl_within)
    | (intro x k hx)
    | (intro x hx)
    | split
    | (with_reducible apply SameOutside.built)

theorem execUpdateStaged_within (writeFail : Option (Fin 64)) (s : State) : Stays [.unit .lgs, .unit .alk, .unit .upd] s (execUpdateStaged writeFail s) := by
  have hU : Part.sub [.unit .lgs, .unit .alk, .unit .upd] [.unit .lgs, .unit .alk, .unit .upd] = true := rfl
  unfold execUpdateStaged
  try dsimp only
  repeat' first
    | (with_reducible assumption)
    | (with_reducible exact Part.sub_trans rfl hU)
    | (with_reducible exact Or.inl (Part.sub_trans rfl hU))
    | (with_reducible exact Or.inr rfl)
    | (with_reducible exact SameOutside.refl _ _)
    | (with_reducible apply Stays.next)
    | (with_reducible apply State.updCheck_within)
    | (with_reducible apply State.setUpdState_within)
    | (with_reducible apply State.updRead_within)
    | (with_reducible apply State.setUpd_within)
    | (with_reducible apply State.updStage_within)
    | (with_reducible apply State.updRefuse_within)
    | (with_reducible apply State.each_within)
    | (with_reducible apply State.onlyIf_within)
    | (with_reducible apply State.foldl_within)
    | (intro x k hx)
    | (intro x hx)
    | split
    | (with_reducible apply SameOutside.built)

theorem State.updActivate_within {U : List Part} {z0 s : State} (hz : SameOutside U z0 s) (hU : Part.sub [.unit .lgs, .unit .upd] U = true) : SameOutside U z0 (State.updActivate s) := by
  unfold State.updActivate
  try dsimp only
  repeat' first
    | (with_reducible assumption)
    | (with_reducible exact Part.sub_trans rfl hU)
    | (with_reducible exact Or.inl (Part.sub_trans rfl hU))
    | (with_reducible exact Or.inr rfl)
    | (with_reducible apply State.updBadState_within)
    | (with_reducible apply State.schedule_within)
    | (with_reducible apply State.updRefuse_within)
    | (with_reducible apply State.each_within)
    | (with_reducible apply State.onlyIf_within)
    | (with_reducible apply State.foldl_within)
    | (intro x k hx)
    | (intro x hx)
    | split
    | (with_reducible apply SameOutside.built)

theorem State.updDrop_within {U : List Part} {z0 s : State} (hz : SameOutside U z0 s) (hU : Part.sub [.unit .alk, .unit .upd] U = true) : SameOutside U z0 (State.updDrop s) := by
  unfold State.updDrop
  try dsimp only
  repeat' first
    | (with_reducible assumption)
    | (with_reducible exact Part.sub_trans rfl hU)
    | (with_reducible exact Or.inl (Part.sub_trans rfl hU))
    | (with_reducible exact Or.inr rfl)
    | (with_reducible apply State.setUpdState_within)
    | (with_reducible apply State.setUpd_within)
    | (with_reducible apply State.sendImages_within)
    | (with_reducible apply State.put_within)
    | (with_reducible apply State.each_within)
    | (with_reducible apply State.onlyIf_within)
    | (with_reducible apply State.foldl_within)
    | (intro x k hx)
    | (intro x hx)
    | split
    | (with_reducible apply SameOutside.built)

theorem State.updAbandon_within {U : List Part} {z0 s : State} (hz : SameOutside U z0 s) (reason : Nat) (hU : Part.sub [.unit .lgs, .unit .alk, .unit .upd] U = true) : SameOutside U z0 (State.updAbandon s reason) := by
  unfold State.updAbandon
  try dsimp only
  repeat' first
    | (with_reducible assumption)
    | (with_reducible exact Part.sub_trans rfl hU)
    | (with_reducible exact Or.inl (Part.sub_trans rfl hU))
    | (with_reducible exact Or.inr rfl)
    | (with_reducible apply State.updRefuse_within)
    | (with_reducible apply State.setUpdState_within)
    | (with_reducible apply State.updDrop_within)
    | (with_reducible apply State.sendImages_within)
    | (with_reducible apply State.each_within)
    | (with_reducible apply State.onlyIf_within)
    | (with_reducible apply State.foldl_within)
    | (intro x k hx)
    | (intro x hx)
    | split
    | (with_reducible apply SameOutside.built)

theorem State.updCancel_within {U : List Part} {z0 s : State} (hz : SameOutside U z0 s) (hU : Part.sub [.unit .lgs, .unit .alk, .unit .upd] U = true) : SameOutside U z0 (State.updCancel s) := by
  unfold State.updCancel
  try dsimp only
  repeat' first
    | (with_reducible assumption)
    | (with_reducible exact Part.sub_trans rfl hU)
    | (with_reducible exact Or.inl (Part.sub_trans rfl hU))
    | (with_reducible exact Or.inr rfl)
    | (with_reducible apply State.updAbandon_within)
    | (with_reducible apply State.updBadState_within)
    | (with_reducible apply State.each_within)
    | (with_reducible apply State.onlyIf_within)
    | (with_reducible apply State.foldl_within)
    | (intro x k hx)
    | (intro x hx)
    | split

theorem execAbandonRestoreDone_within (s : State) : Stays [.unit .alk, .unit .upd] s (execAbandonRestoreDone s) := by
  have hU : Part.sub [.unit .alk, .unit .upd] [.unit .alk, .unit .upd] = true := rfl
  unfold execAbandonRestoreDone
  try dsimp only
  repeat' first
    | (with_reducible assumption)
    | (with_reducible exact Part.sub_trans rfl hU)
    | (with_reducible exact Or.inl (Part.sub_trans rfl hU))
    | (with_reducible exact Or.inr rfl)
    | (with_reducible exact SameOutside.refl _ _)
    | (with_reducible apply Stays.next)
    | (with_reducible apply State.updDrop_within)
    | (with_reducible apply State.each_within)
    | (with_reducible apply State.onlyIf_within)
    | (with_reducible apply State.foldl_within)
    | (intro x k hx)
    | (intro x hx)
    | split

theorem execMediumInserted_within (manifest : Option (List (BitVec 8))) (files : List (List (BitVec 8) × List (BitVec 8))) (s : State) : Stays [.unit .upd] s (execMediumInserted manifest files s) := by
  have hU : Part.sub [.unit .upd] [.unit .upd] = true := rfl
  unfold execMediumInserted
  try dsimp only
  repeat' first
    | (with_reducible assumption)
    | (with_reducible exact Part.sub_trans rfl hU)
    | (with_reducible exact Or.inl (Part.sub_trans rfl hU))
    | (with_reducible exact Or.inr rfl)
    | (with_reducible exact SameOutside.refl _ _)
    | (with_reducible apply Stays.next)
    | (with_reducible apply State.setUpd_within)
    | (with_reducible apply State.put_within)

theorem execMediumRemoved_within (s : State) : Stays [.unit .lgs, .unit .alk, .unit .upd] s (execMediumRemoved s) := by
  have hU : Part.sub [.unit .lgs, .unit .alk, .unit .upd] [.unit .lgs, .unit .alk, .unit .upd] = true := rfl
  unfold execMediumRemoved
  try dsimp only
  repeat' first
    | (with_reducible assumption)
    | (with_reducible exact Part.sub_trans rfl hU)
    | (with_reducible exact Or.inl (Part.sub_trans rfl hU))
    | (with_reducible exact Or.inr rfl)
    | (with_reducible exact SameOutside.refl _ _)
    | (with_reducible apply Stays.next)
    | (with_reducible apply State.updAbandon_within)
    | (with_reducible apply State.setUpd_within)
    | (with_reducible apply State.put_within)
    | (with_reducible apply State.each_within)
    | (with_reducible apply State.onlyIf_within)
    | (with_reducible apply State.foldl_within)
    | (intro x k hx)
    | (intro x hx)
    | split
    | (with_reducible apply SameOutside.built)

theorem execOcppFirmwareRequest_within (v2 : Bool) (s : State) : Stays [.unit .lgs, .unit .ntu] s (execOcppFirmwareRequest v2 s) := by
  have hU : Part.sub [.unit .lgs, .unit .ntu] [.unit .lgs, .unit .ntu] = true := rfl
  unfold execOcppFirmwareRequest
  try dsimp only
  repeat' first
    | (with_reducible assumption)
    | (with_reducible exact Part.sub_trans rfl hU)
    | (with_reducible exact Or.inl (Part.sub_trans rfl hU))
    | (with_reducible exact Or.inr rfl)
    | (with_reducible exact SameOutside.refl _ _)
    | (with_reducible apply Stays.next)
    | (with_reducible apply State.raise_within)
    | (with_reducible apply State.each_within)
    | (with_reducible apply State.onlyIf_within)
    | (with_reducible apply State.foldl_within)
    | (intro x k hx)
    | (intro x hx)
    | split
    | (with_reducible apply SameOutside.built)

theorem execDrainStart_within (s : State) : Stays [.unit .lgs, .unit .upd] s (execDrainStart s) := by
  have hU : Part.sub [.unit .lgs, .unit .upd] [.unit .lgs, .unit .upd] = true := rfl
  unfold execDrainStart
  try dsimp only
  repeat' first
    | (with_reducible assumption)
    | (with_reducible exact Part.sub_trans rfl hU)
    | (with_reducible exact Or.inl (Part.sub_trans rfl hU))
    | (with_reducible exact Or.inr rfl)
    | (with_reducible exact SameOutside.refl _ _)
    | (with_reducible apply Stays.next)
    | (with_reducible apply State.setUpdState_within)
    | (with_reducible apply State.moveTo_within)
    | (with_reducible apply State.raise_within)
    | (with_reducible apply State.each_within)
    | (with_reducible apply State.onlyIf_within)
    | (with_reducible apply State.foldl_within)
    | (intro x k hx)
    | (intro x hx)
    | split
    | (with_reducible apply SameOutside.built)

theorem execNodeImageDeadline_within (s : State) : Stays [.unit .lgs, .unit .alk, .unit .upd] s (execNodeImageDeadline s) := by
  have hU : Part.sub [.unit .lgs, .unit .alk, .unit .upd] [.unit .lgs, .unit .alk, .unit .upd] = true := rfl
  unfold execNodeImageDeadline
  try dsimp only
  repeat' first
    | (with_reducible assumption)
    | (with_reducible exact Part.sub_trans rfl hU)
    | (with_reducible exact Or.inl (Part.sub_trans rfl hU))
    | (with_reducible exact Or.inr rfl)
    | (with_reducible exact SameOutside.refl _ _)
    | (with_reducible apply Stays.next)
    | (with_reducible apply State.updAbandon_within)
    | (with_reducible apply State.moveTo_within)
    | (with_reducible apply State.each_within)
    | (with_reducible apply State.onlyIf_within)
    | (with_reducible apply State.foldl_within)
    | (intro x k hx)
    | (intro x hx)
    | split
    | (with_reducible apply SameOutside.built)

theorem execNodeActivateSend_within (s : State) : Stays [.unit .alk] s (execNodeActivateSend s) := by
  have hU : Part.sub [.unit .alk] [.unit .alk] = true := rfl
  unfold execNodeActivateSend
  try dsimp only
  repeat' first
    | (with_reducible assumption)
    | (with_reducible exact Part.sub_trans rfl hU)
    | (with_reducible exact Or.inl (Part.sub_trans rfl hU))
    | (with_reducible exact Or.inr rfl)
    | (with_reducible exact SameOutside.refl _ _)
    | (with_reducible apply Stays.next)
    | (with_reducible apply State.moveTo_within)
    | (with_reducible apply State.announceImages_within)
    | (with_reducible apply State.each_within)
    | (with_reducible apply State.onlyIf_within)
    | (with_reducible apply State.foldl_within)
    | (intro x k hx)
    | (intro x hx)
    | split
    | (with_reducible apply SameOutside.built)

theorem State.endSessions_within {U : List Part} {z0 s : State} (hz : SameOutside U z0 s) (hU : Part.sub [.unit .sch, .unit .oiu, .unit .vce, .unit .efu, .unit .psw, .unit .lgs, .allocator] U = true) : SameOutside U z0 (State.endSessions s) := by
  unfold State.endSessions
  try dsimp only
  repeat' first
    | (with_reducible assumption)
    | (with_reducible exact Part.sub_trans rfl hU)
    | (with_reducible exact Or.inl (Part.sub_trans rfl hU))
    | (with_reducible exact Or.inr rfl)
    | (with_reducible apply State.putFlag_within)
    | (with_reducible apply State.endSession_within)
    | (with_reducible apply State.contact_within)
    | (with_reducible apply State.each_within)
    | (with_reducible apply State.onlyIf_within)
    | (with_reducible apply State.foldl_within)
    | (intro x k hx)
    | (intro x hx)

theorem State.stagePart_within {U : List Part} {z0 s : State} (hz : SameOutside U z0 s) (raw : Option (List Nat)) (cold : Bool) (hU : Part.sub [.unit .ppl, .unit .sch, .unit .oiu, .unit .meu, .unit .efu, .unit .psw, .unit .clu, .unit .blu, .unit .lgs, .unit .alk, .unit .ntu, .unit .dse, .unit .upd, .unit .bcu, .unit .cgu, .allocator, .plan, .latches] U = true) : SameOutside U z0 (State.stagePart s raw cold) := by
  unfold State.stagePart
  try dsimp only
  repeat' first
    | (with_reducible assumption)
    | (with_reducible exact Part.sub_trans rfl hU)
    | (with_reducible exact Or.inl (Part.sub_trans rfl hU))
    | (with_reducible exact Or.inr rfl)
    | (with_reducible apply State.setPpl_within)
    | (with_reducible apply State.arrange_within)
    | (with_reducible apply State.stagePlan_within)
    | (with_reducible apply State.showStaged_within)
    | (with_reducible apply State.each_within)
    | (with_reducible apply State.onlyIf_within)
    | (with_reducible apply State.foldl_within)
    | (intro x k hx)
    | (intro x hx)
    | split
    | (with_reducible apply SameOutside.built)

theorem execUpdateActivation_within (s : State) : Stays [.unit .ppl, .unit .sch, .unit .oiu, .unit .vce, .unit .meu, .unit .efu, .unit .psw, .unit .clu, .unit .blu, .unit .lgs, .unit .alk, .unit .ntu, .unit .dse, .unit .upd, .unit .bcu, .unit .cgu, .allocator, .plan, .latches] s (execUpdateActivation s) := by
  have hU : Part.sub [.unit .ppl, .unit .sch, .unit .oiu, .unit .vce, .unit .meu, .unit .efu, .unit .psw, .unit .clu, .unit .blu, .unit .lgs, .unit .alk, .unit .ntu, .unit .dse, .unit .upd, .unit .bcu, .unit .cgu, .allocator, .plan, .latches] [.unit .ppl, .unit .sch, .unit .oiu, .unit .vce, .unit .meu, .unit .efu, .unit .psw, .unit .clu, .unit .blu, .unit .lgs, .unit .alk, .unit .ntu, .unit .dse, .unit .upd, .unit .bcu, .unit .cgu, .allocator, .plan, .latches] = true := rfl
  unfold execUpdateActivation
  try dsimp only
  repeat' first
    | (with_reducible assumption)
    | (with_reducible exact Part.sub_trans rfl hU)
    | (with_reducible exact Or.inl (Part.sub_trans rfl hU))
    | (with_reducible exact Or.inr rfl)
    | (with_reducible exact SameOutside.refl _ _)
    | (with_reducible apply Stays.next)
    | (with_reducible apply State.setUpdState_within)
    | (with_reducible apply State.endSessions_within)
    | (with_reducible apply State.moveTo_within)
    | (with_reducible apply State.stagePart_within)
    | (with_reducible apply State.each_within)
    | (with_reducible apply State.onlyIf_within)
    | (with_reducible apply State.foldl_within)
    | (intro x k hx)
    | (intro x hx)
    | split
    | (with_reducible apply SameOutside.built)

theorem State.updBegin_within {U : List Part} {z0 s : State} (hz : SameOutside U z0 s) (h : UpdHold) (hU : Part.sub [.unit .lgs, .unit .upd] U = true) : SameOutside U z0 (State.updBegin s h) := by
  unfold State.updBegin
  try dsimp only
  repeat' first
    | (with_reducible assumption)
    | (with_reducible exact Part.sub_trans rfl hU)
    | (with_reducible exact Or.inl (Part.sub_trans rfl hU))
    | (with_reducible exact Or.inr rfl)
    | (with_reducible apply State.setUpdState_within)
    | (with_reducible apply State.request_within)
    | (with_reducible apply State.raise_within)
    | (with_reducible apply State.putFlag_within)
    | (with_reducible apply State.setUpd_within)
    | (with_reducible apply State.setInstalled_within)
    | (with_reducible apply State.each_within)
    | (with_reducible apply State.onlyIf_within)
    | (with_reducible apply State.foldl_within)
    | (intro x k hx)
    | (intro x hx)
    | split
    | (with_reducible apply SameOutside.built)

theorem execActivationReset_within (s : State) : Stays [.unit .oiu, .unit .meu, .unit .efu, .unit .psw, .unit .gse, .unit .blu, .unit .lgs, .unit .alk, .unit .dse, .unit .upd, .unit .bcu, .allocator] s (execActivationReset s) := by
  have hU : Part.sub [.unit .oiu, .unit .meu, .unit .efu, .unit .psw, .unit .gse, .unit .blu, .unit .lgs, .unit .alk, .unit .dse, .unit .upd, .unit .bcu, .allocator] [.unit .oiu, .unit .meu, .unit .efu, .unit .psw, .unit .gse, .unit .blu, .unit .lgs, .unit .alk, .unit .dse, .unit .upd, .unit .bcu, .allocator] = true := rfl
  unfold execActivationReset
  try dsimp only
  repeat' first
    | (with_reducible assumption)
    | (with_reducible exact Part.sub_trans rfl hU)
    | (with_reducible exact Or.inl (Part.sub_trans rfl hU))
    | (with_reducible exact Or.inr rfl)
    | (with_reducible exact SameOutside.refl _ _)
    | (with_reducible apply Stays.next)
    | (with_reducible apply State.moveTo_within)
    | (with_reducible apply State.coldCommand_within)
    | (with_reducible apply State.updBegin_within)
    | (with_reducible apply State.each_within)
    | (with_reducible apply State.onlyIf_within)
    | (with_reducible apply State.foldl_within)
    | (intro x k hx)
    | (intro x hx)
    | split
    | (with_reducible apply SameOutside.built)

theorem State.updCommit_within {U : List Part} {z0 s : State} (hz : SameOutside U z0 s) (cause : Nat) (hU : Part.sub [.unit .lgs, .unit .alk, .unit .upd] U = true) : SameOutside U z0 (State.updCommit s cause) := by
  unfold State.updCommit
  try dsimp only
  repeat' first
    | (with_reducible assumption)
    | (with_reducible exact Part.sub_trans rfl hU)
    | (with_reducible exact Or.inl (Part.sub_trans rfl hU))
    | (with_reducible exact Or.inr rfl)
    | (with_reducible apply State.request_within)
    | (with_reducible apply State.count_within)
    | (with_reducible apply State.raise_within)
    | (with_reducible apply State.setUpd_within)
    | (with_reducible apply State.updDrop_within)
    | (with_reducible apply State.each_within)
    | (with_reducible apply State.onlyIf_within)
    | (with_reducible apply State.foldl_within)
    | (intro x k hx)
    | (intro x hx)
    | split
    | (with_reducible apply SameOutside.built)

theorem State.updConfirm_within {U : List Part} {z0 s : State} (hz : SameOutside U z0 s) (hU : Part.sub [.unit .lgs, .unit .alk, .unit .upd] U = true) : SameOutside U z0 (State.updConfirm s) := by
  unfold State.updConfirm
  try dsimp only
  repeat' first
    | (with_reducible assumption)
    | (with_reducible exact Part.sub_trans rfl hU)
    | (with_reducible exact Or.inl (Part.sub_trans rfl hU))
    | (with_reducible exact Or.inr rfl)
    | (with_reducible apply State.updBadState_within)
    | (with_reducible apply State.updCommit_within)
    | (with_reducible apply State.each_within)
    | (with_reducible apply State.onlyIf_within)
    | (with_reducible apply State.foldl_within)
    | (intro x k hx)
    | (intro x hx)
    | split
    | (with_reducible apply SameOutside.built)

theorem execTrialComplete_within (s : State) : Stays [.unit .lgs, .unit .alk, .unit .upd] s (execTrialComplete s) := by
  have hU : Part.sub [.unit .lgs, .unit .alk, .unit .upd] [.unit .lgs, .unit .alk, .unit .upd] = true := rfl
  unfold execTrialComplete
  try dsimp only
  repeat' first
    | (with_reducible assumption)
    | (with_reducible exact Part.sub_trans rfl hU)
    | (with_reducible exact Or.inl (Part.sub_trans rfl hU))
    | (with_reducible exact Or.inr rfl)
    | (with_reducible exact SameOutside.refl _ _)
    | (with_reducible apply Stays.next)
    | (with_reducible apply State.updCommit_within)
    | (with_reducible apply State.moveTo_within)
    | (with_reducible apply State.each_within)
    | (with_reducible apply State.onlyIf_within)
    | (with_reducible apply State.foldl_within)
    | (intro x k hx)
    | (intro x hx)
    | split

theorem State.startFallback_within {U : List Part} {z0 s : State} (hz : SameOutside U z0 s) (cause : Nat) (hU : Part.sub [.unit .sch, .unit .oiu, .unit .vce, .unit .efu, .unit .psw, .unit .lgs, .unit .upd, .allocator] U = true) : SameOutside U z0 (State.startFallback s cause) := by
  unfold State.startFallback
  try dsimp only
  repeat' first
    | (with_reducible assumption)
    | (with_reducible exact Part.sub_trans rfl hU)
    | (with_reducible exact Or.inl (Part.sub_trans rfl hU))
    | (with_reducible exact Or.inr rfl)
    | (with_reducible apply State.setUpdState_within)
    | (with_reducible apply State.request_within)
    | (with_reducible apply State.count_within)
    | (with_reducible apply State.endSessions_within)
    | (with_reducible apply State.raise_within)
    | (with_reducible apply State.setUpd_within)
    | (with_reducible apply State.each_within)
    | (with_reducible apply State.onlyIf_within)
    | (with_reducible apply State.foldl_within)
    | (intro x k hx)
    | (intro x hx)
    | split
    | (with_reducible apply SameOutside.built)

theorem execGseStartupTestsDone_within (failed : Fin 10) (inputs : BitVec 16) (s : State) : Stays [.unit .sch, .unit .oiu, .unit .vce, .unit .efu, .unit .psw, .unit .gse, .unit .lgs, .unit .upd, .allocator] s (execGseStartupTestsDone failed inputs s) := by
  have hU : Part.sub [.unit .sch, .unit .oiu, .unit .vce, .unit .efu, .unit .psw, .unit .gse, .unit .lgs, .unit .upd, .allocator] [.unit .sch, .unit .oiu, .unit .vce, .unit .efu, .unit .psw, .unit .gse, .unit .lgs, .unit .upd, .allocator] = true := rfl
  unfold execGseStartupTestsDone
  try dsimp only
  repeat' first
    | (with_reducible assumption)
    | (with_reducible exact Part.sub_trans rfl hU)
    | (with_reducible exact Or.inl (Part.sub_trans rfl hU))
    | (with_reducible exact Or.inr rfl)
    | (with_reducible exact SameOutside.refl _ _)
    | (with_reducible apply Stays.next)
    | (with_reducible apply State.startFallback_within)
    | (with_reducible apply State.gseTestsDone_within)
    | (with_reducible apply State.each_within)
    | (with_reducible apply State.onlyIf_within)
    | (with_reducible apply State.foldl_within)
    | (intro x k hx)
    | (intro x hx)
    | split

theorem State.updFallback_within {U : List Part} {z0 s : State} (hz : SameOutside U z0 s) (hU : Part.sub [.unit .sch, .unit .oiu, .unit .vce, .unit .efu, .unit .psw, .unit .lgs, .unit .upd, .allocator] U = true) : SameOutside U z0 (State.updFallback s) := by
  unfold State.updFallback
  try dsimp only
  repeat' first
    | (with_reducible assumption)
    | (with_reducible exact Part.sub_trans rfl hU)
    | (with_reducible exact Or.inl (Part.sub_trans rfl hU))
    | (with_reducible exact Or.inr rfl)
    | (with_reducible apply State.updBadState_within)
    | (with_reducible apply State.startFallback_within)
    | (with_reducible apply State.each_within)
    | (with_reducible apply State.onlyIf_within)
    | (with_reducible apply State.foldl_within)
    | (intro x k hx)
    | (intro x hx)
    | split
    | (with_reducible apply SameOutside.built)

theorem State.restoreParts_within {U : List Part} {z0 s : State} (hz : SameOutside U z0 s) (h : UpdHold) (cold : Bool) (hU : Part.sub [.unit .ppl, .unit .sch, .unit .oiu, .unit .meu, .unit .efu, .unit .psw, .unit .clu, .unit .blu, .unit .lgs, .unit .alk, .unit .ntu, .unit .dse, .unit .upd, .unit .bcu, .unit .cgu, .allocator, .plan, .latches] U = true) : SameOutside U z0 (State.restoreParts s h cold) := by
  unfold State.restoreParts
  try dsimp only
  repeat' first
    | (with_reducible assumption)
    | (with_reducible exact Part.sub_trans rfl hU)
    | (with_reducible exact Or.inl (Part.sub_trans rfl hU))
    | (with_reducible exact Or.inr rfl)
    | (with_reducible apply State.setUpd_within)
    | (with_reducible apply State.stagePart_within)
    | (with_reducible apply State.setInstalled_within)
    | (with_reducible apply State.each_within)
    | (with_reducible apply State.onlyIf_within)
    | (with_reducible apply State.foldl_within)
    | (intro x k hx)
    | (intro x hx)
    | split
    | (with_reducible apply SameOutside.built)

theorem State.tellFallback_within {U : List Part} {z0 s : State} (hz : SameOutside U z0 s) (h : UpdHold) (t : Nat) (hU : Part.sub [.unit .alk] U = true) : SameOutside U z0 (State.tellFallback s h t) := by
  unfold State.tellFallback
  try dsimp only
  repeat' first
    | (with_reducible assumption)
    | (with_reducible exact Part.sub_trans rfl hU)
    | (with_reducible exact Or.inl (Part.sub_trans rfl hU))
    | (with_reducible exact Or.inr rfl)
    | (with_reducible apply State.announceImages_within)
    | (with_reducible apply State.each_within)
    | (with_reducible apply State.onlyIf_within)
    | (with_reducible apply State.foldl_within)
    | (intro x k hx)
    | (intro x hx)
    | split

theorem execFallbackRestoreDone_within (s : State) : Stays [.unit .ppl, .unit .sch, .unit .oiu, .unit .meu, .unit .efu, .unit .psw, .unit .clu, .unit .blu, .unit .lgs, .unit .alk, .unit .ntu, .unit .dse, .unit .upd, .unit .bcu, .unit .cgu, .allocator, .plan, .latches] s (execFallbackRestoreDone s) := by
  have hU : Part.sub [.unit .ppl, .unit .sch, .unit .oiu, .unit .meu, .unit .efu, .unit .psw, .unit .clu, .unit .blu, .unit .lgs, .unit .alk, .unit .ntu, .unit .dse, .unit .upd, .unit .bcu, .unit .cgu, .allocator, .plan, .latches] [.unit .ppl, .unit .sch, .unit .oiu, .unit .meu, .unit .efu, .unit .psw, .unit .clu, .unit .blu, .unit .lgs, .unit .alk, .unit .ntu, .unit .dse, .unit .upd, .unit .bcu, .unit .cgu, .allocator, .plan, .latches] = true := rfl
  unfold execFallbackRestoreDone
  try dsimp only
  repeat' first
    | (with_reducible assumption)
    | (with_reducible exact Part.sub_trans rfl hU)
    | (with_reducible exact Or.inl (Part.sub_trans rfl hU))
    | (with_reducible exact Or.inr rfl)
    | (with_reducible exact SameOutside.refl _ _)
    | (with_reducible apply Stays.next)
    | (with_reducible apply State.tellFallback_within)
    | (with_reducible apply State.restoreParts_within)
    | (with_reducible apply State.setUpd_within)
    | (with_reducible apply State.each_within)
    | (with_reducible apply State.onlyIf_within)
    | (with_reducible apply State.foldl_within)
    | (intro x k hx)
    | (intro x hx)
    | split
    | (with_reducible apply SameOutside.built)

theorem execFallbackReset_within (s : State) : Stays [.unit .oiu, .unit .meu, .unit .efu, .unit .psw, .unit .gse, .unit .blu, .unit .lgs, .unit .alk, .unit .dse, .unit .upd, .unit .bcu, .allocator] s (execFallbackReset s) := by
  have hU : Part.sub [.unit .oiu, .unit .meu, .unit .efu, .unit .psw, .unit .gse, .unit .blu, .unit .lgs, .unit .alk, .unit .dse, .unit .upd, .unit .bcu, .allocator] [.unit .oiu, .unit .meu, .unit .efu, .unit .psw, .unit .gse, .unit .blu, .unit .lgs, .unit .alk, .unit .dse, .unit .upd, .unit .bcu, .allocator] = true := rfl
  unfold execFallbackReset
  try dsimp only
  repeat' first
    | (with_reducible assumption)
    | (with_reducible exact Part.sub_trans rfl hU)
    | (with_reducible exact Or.inl (Part.sub_trans rfl hU))
    | (with_reducible exact Or.inr rfl)
    | (with_reducible exact SameOutside.refl _ _)
    | (with_reducible apply Stays.next)
    | (with_reducible apply State.moveTo_within)
    | (with_reducible apply State.setUpd_within)
    | (with_reducible apply State.coldCommand_within)
    | (with_reducible apply State.each_within)
    | (with_reducible apply State.onlyIf_within)
    | (with_reducible apply State.foldl_within)
    | (intro x k hx)
    | (intro x hx)
    | split
    | (with_reducible apply SameOutside.built)

theorem execNodeVersionTimeout_within (s : State) : Stays [.unit .sch, .unit .oiu, .unit .vce, .unit .efu, .unit .psw, .unit .lgs, .unit .upd, .allocator] s (execNodeVersionTimeout s) := by
  have hU : Part.sub [.unit .sch, .unit .oiu, .unit .vce, .unit .efu, .unit .psw, .unit .lgs, .unit .upd, .allocator] [.unit .sch, .unit .oiu, .unit .vce, .unit .efu, .unit .psw, .unit .lgs, .unit .upd, .allocator] = true := rfl
  unfold execNodeVersionTimeout
  try dsimp only
  repeat' first
    | (with_reducible assumption)
    | (with_reducible exact Part.sub_trans rfl hU)
    | (with_reducible exact Or.inl (Part.sub_trans rfl hU))
    | (with_reducible exact Or.inr rfl)
    | (with_reducible exact SameOutside.refl _ _)
    | (with_reducible apply Stays.next)
    | (with_reducible apply State.moveTo_within)
    | (with_reducible apply State.startFallback_within)
    | (with_reducible apply State.setUpd_within)
    | (with_reducible apply State.each_within)
    | (with_reducible apply State.onlyIf_within)
    | (with_reducible apply State.foldl_within)
    | (intro x k hx)
    | (intro x hx)
    | split
    | (with_reducible apply SameOutside.built)

theorem State.reserveLoad_within {U : List Part} {z0 s : State} (hz : SameOutside U z0 s) (hU : Part.sub [.unit .lgs] U = true) : SameOutside U z0 (State.reserveLoad s) := by
  unfold State.reserveLoad
  try dsimp only
  repeat' first
    | (with_reducible assumption)
    | (with_reducible exact Part.sub_trans rfl hU)
    | (with_reducible exact Or.inl (Part.sub_trans rfl hU))
    | (with_reducible exact Or.inr rfl)
    | (with_reducible apply State.raise_within)
    | (with_reducible apply State.each_within)
    | (with_reducible apply State.onlyIf_within)
    | (with_reducible apply State.foldl_within)
    | (intro x k hx)
    | (intro x hx)
    | split

theorem State.updFirmware_within {U : List Part} {z0 s : State} (hz : SameOutside U z0 s) (cold : Bool) (hU : Part.sub [.unit .lgs, .unit .alk, .unit .upd] U = true) : SameOutside U z0 (State.updFirmware s cold) := by
  unfold State.updFirmware
  try dsimp only
  repeat' first
    | (with_reducible assumption)
    | (with_reducible exact Part.sub_trans rfl hU)
    | (with_reducible exact Or.inl (Part.sub_trans rfl hU))
    | (with_reducible exact Or.inr rfl)
    | (with_reducible apply State.tellFallback_within)
    | (with_reducible apply State.raise_within)
    | (with_reducible apply State.setUpd_within)
    | (with_reducible apply State.updDrop_within)
    | (with_reducible apply State.each_within)
    | (with_reducible apply State.onlyIf_within)
    | (with_reducible apply State.foldl_within)
    | (intro x k hx)
    | (intro x hx)
    | split
    | (with_reducible apply SameOutside.built)

theorem State.updReset_within {U : List Part} {z0 s : State} (hz : SameOutside U z0 s) (hU : Part.sub [.unit .lgs, .unit .alk, .unit .upd] U = true) : SameOutside U z0 (State.updReset s) := by
  unfold State.updReset
  try dsimp only
  repeat' first
    | (with_reducible assumption)
    | (with_reducible exact Part.sub_trans rfl hU)
    | (with_reducible exact Or.inl (Part.sub_trans rfl hU))
    | (with_reducible exact Or.inr rfl)
    | (with_reducible apply State.updAbandon_within)
    | (with_reducible apply State.each_within)
    | (with_reducible apply State.onlyIf_within)
    | (with_reducible apply State.foldl_within)
    | (intro x k hx)
    | (intro x hx)
    | split

theorem State.updCommand_within {U : List Part} {z0 s : State} (hz : SameOutside U z0 s) (cmd : Nat) (hU : Part.sub [.unit .sch, .unit .oiu, .unit .vce, .unit .efu, .unit .psw, .unit .lgs, .unit .alk, .unit .upd, .allocator] U = true) : SameOutside U z0 (State.updCommand s cmd) := by
  unfold State.updCommand
  try dsimp only
  repeat' first
    | (with_reducible assumption)
    | (with_reducible exact Part.sub_trans rfl hU)
    | (with_reducible exact Or.inl (Part.sub_trans rfl hU))
    | (with_reducible exact Or.inr rfl)
    | (with_reducible apply State.updConfirm_within)
    | (with_reducible apply State.updActivate_within)
    | (with_reducible apply State.updLoad_within)
    | (with_reducible apply State.updCancel_within)
    | (with_reducible apply State.updFallback_within)
    | (with_reducible apply State.each_within)
    | (with_reducible apply State.onlyIf_within)
    | (with_reducible apply State.foldl_within)
    | (intro x k hx)
    | (intro x hx)
    | split
    | (with_reducible apply SameOutside.built)

theorem execLoad_within (s : State) : Stays [.unit .sch, .unit .oiu, .unit .vce, .unit .efu, .unit .psw, .unit .lgs, .unit .alk, .unit .upd, .allocator] s (execLoad s) := by
  have hU : Part.sub [.unit .sch, .unit .oiu, .unit .vce, .unit .efu, .unit .psw, .unit .lgs, .unit .alk, .unit .upd, .allocator] [.unit .sch, .unit .oiu, .unit .vce, .unit .efu, .unit .psw, .unit .lgs, .unit .alk, .unit .upd, .allocator] = true := rfl
  unfold execLoad
  try dsimp only
  repeat' first
    | (with_reducible assumption)
    | (with_reducible exact Part.sub_trans rfl hU)
    | (with_reducible exact Or.inl (Part.sub_trans rfl hU))
    | (with_reducible exact Or.inr rfl)
    | (with_reducible exact SameOutside.refl _ _)
    | (with_reducible apply Stays.next)
    | (with_reducible apply State.updCommand_within)

theorem execActivate_within (s : State) : Stays [.unit .sch, .unit .oiu, .unit .vce, .unit .efu, .unit .psw, .unit .lgs, .unit .alk, .unit .upd, .allocator] s (execActivate s) := by
  have hU : Part.sub [.unit .sch, .unit .oiu, .unit .vce, .unit .efu, .unit .psw, .unit .lgs, .unit .alk, .unit .upd, .allocator] [.unit .sch, .unit .oiu, .unit .vce, .unit .efu, .unit .psw, .unit .lgs, .unit .alk, .unit .upd, .allocator] = true := rfl
  unfold execActivate
  try dsimp only
  repeat' first
    | (with_reducible assumption)
    | (with_reducible exact Part.sub_trans rfl hU)
    | (with_reducible exact Or.inl (Part.sub_trans rfl hU))
    | (with_reducible exact Or.inr rfl)
    | (with_reducible exact SameOutside.refl _ _)
    | (with_reducible apply Stays.next)
    | (with_reducible apply State.updCommand_within)

theorem execCancel_within (s : State) : Stays [.unit .sch, .unit .oiu, .unit .vce, .unit .efu, .unit .psw, .unit .lgs, .unit .alk, .unit .upd, .allocator] s (execCancel s) := by
  have hU : Part.sub [.unit .sch, .unit .oiu, .unit .vce, .unit .efu, .unit .psw, .unit .lgs, .unit .alk, .unit .upd, .allocator] [.unit .sch, .unit .oiu, .unit .vce, .unit .efu, .unit .psw, .unit .lgs, .unit .alk, .unit .upd, .allocator] = true := rfl
  unfold execCancel
  try dsimp only
  repeat' first
    | (with_reducible assumption)
    | (with_reducible exact Part.sub_trans rfl hU)
    | (with_reducible exact Or.inl (Part.sub_trans rfl hU))
    | (with_reducible exact Or.inr rfl)
    | (with_reducible exact SameOutside.refl _ _)
    | (with_reducible apply Stays.next)
    | (with_reducible apply State.updCommand_within)

theorem execConfirm_within (s : State) : Stays [.unit .sch, .unit .oiu, .unit .vce, .unit .efu, .unit .psw, .unit .lgs, .unit .alk, .unit .upd, .allocator] s (execConfirm s) := by
  have hU : Part.sub [.unit .sch, .unit .oiu, .unit .vce, .unit .efu, .unit .psw, .unit .lgs, .unit .alk, .unit .upd, .allocator] [.unit .sch, .unit .oiu, .unit .vce, .unit .efu, .unit .psw, .unit .lgs, .unit .alk, .unit .upd, .allocator] = true := rfl
  unfold execConfirm
  try dsimp only
  repeat' first
    | (with_reducible assumption)
    | (with_reducible exact Part.sub_trans rfl hU)
    | (with_reducible exact Or.inl (Part.sub_trans rfl hU))
    | (with_reducible exact Or.inr rfl)
    | (with_reducible exact SameOutside.refl _ _)
    | (with_reducible apply Stays.next)
    | (with_reducible apply State.updCommand_within)

theorem execFallback_within (s : State) : Stays [.unit .sch, .unit .oiu, .unit .vce, .unit .efu, .unit .psw, .unit .lgs, .unit .alk, .unit .upd, .allocator] s (execFallback s) := by
  have hU : Part.sub [.unit .sch, .unit .oiu, .unit .vce, .unit .efu, .unit .psw, .unit .lgs, .unit .alk, .unit .upd, .allocator] [.unit .sch, .unit .oiu, .unit .vce, .unit .efu, .unit .psw, .unit .lgs, .unit .alk, .unit .upd, .allocator] = true := rfl
  unfold execFallback
  try dsimp only
  repeat' first
    | (with_reducible assumption)
    | (with_reducible exact Part.sub_trans rfl hU)
    | (with_reducible exact Or.inl (Part.sub_trans rfl hU))
    | (with_reducible exact Or.inr rfl)
    | (with_reducible exact SameOutside.refl _ _)
    | (with_reducible apply Stays.next)
    | (with_reducible apply State.updCommand_within)

end Sys2Proof.Machine
end

