-- ==== Sys2Proof/Laws/WithinNdef.lean ====
section
/-! SUPPORT. Every operation and every command of the tag's NDEF record leaves the parts of the block alone that it does not touch (Laws/Within.lean). -/

namespace Sys2Proof.Machine

open Sys2Proof

theorem State.writeNdef_within {U : List Part} {z0 s : State} (hz : SameOutside U z0 s) (words : List Nat) (hU : Part.sub [.unit .clu] U = true) : SameOutside U z0 (State.writeNdef s words) := by
  unfold State.writeNdef
  try dsimp only
  repeat' first
    | (with_reducible assumption)
    | (with_reducible exact Part.sub_trans rfl hU)
    | (with_reducible exact Or.inl (Part.sub_trans rfl hU))
    | (with_reducible exact Or.inr rfl)
    | (with_reducible apply State.setClu_within)

theorem State.rewriteNdef_within {U : List Part} {z0 s : State} (hz : SameOutside U z0 s) (hU : Part.sub [.unit .clu] U = true) : SameOutside U z0 (State.rewriteNdef s) := by
  unfold State.rewriteNdef
  try dsimp only
  repeat' first
    | (with_reducible assumption)
    | (with_reducible exact Part.sub_trans rfl hU)
    | (with_reducible exact Or.inl (Part.sub_trans rfl hU))
    | (with_reducible exact Or.inr rfl)
    | (with_reducible apply State.writeNdef_within)
    | (with_reducible apply State.writeHold_within)
    | (with_reducible apply State.setClu_within)
    | (with_reducible apply State.each_within)
    | (with_reducible apply State.onlyIf_within)
    | (with_reducible apply State.foldl_within)
    | (intro x k hx)
    | (intro x hx)
    | split
    | (with_reducible apply SameOutside.built)

theorem execNdefRewrite_within (cut : Option (Fin 3)) (s : State) : Stays [.unit .clu] s (execNdefRewrite cut s) := by
  have hU : Part.sub [.unit .clu] [.unit .clu] = true := rfl
  unfold execNdefRewrite
  try dsimp only
  repeat' first
    | (with_reducible assumption)
    | (with_reducible exact Part.sub_trans rfl hU)
    | (with_reducible exact Or.inl (Part.sub_trans rfl hU))
    | (with_reducible exact Or.inr rfl)
    | (with_reducible exact SameOutside.refl _ _)
    | (with_reducible apply Stays.next)
    | (with_reducible apply State.writeNdef_within)
    | (with_reducible apply State.writeHold_within)
    | (with_reducible apply State.rewriteNdef_within)
    | (with_reducible apply State.setClu_within)
    | (with_reducible apply State.each_within)
    | (with_reducible apply State.onlyIf_within)
    | (with_reducible apply State.foldl_within)
    | (intro x k hx)
    | (intro x hx)
    | split
    | (with_reducible apply SameOutside.built)

end Sys2Proof.Machine
end

