-- ==== Sys2Proof/Laws/WithinPower.lean ====
section
/-! SUPPORT. Every operation and every command of the BCU and the CGU leaves the parts of the block alone that it does not touch (Laws/Within.lean). -/

namespace Sys2Proof.Machine

open Sys2Proof

theorem State.showVin_within {U : List Part} {z0 s : State} (hz : SameOutside U z0 s) (lo : Nat) (size : Nat) (hU : Part.sub [.unit .bcu] U = true) : SameOutside U z0 (State.showVin s lo size) := by
  unfold State.showVin
  try dsimp only
  repeat' first
    | (with_reducible assumption)
    | (with_reducible exact Part.sub_trans rfl hU)
    | (with_reducible exact Or.inl (Part.sub_trans rfl hU))
    | (with_reducible exact Or.inr rfl)
    | (with_reducible apply State.draw_within)
    | (with_reducible apply State.put_within)
    | (with_reducible apply State.each_within)
    | (with_reducible apply State.onlyIf_within)
    | (with_reducible apply State.foldl_within)
    | (intro x k hx)
    | (intro x hx)
    | (with_reducible refine SameOutside.snd ?_ (by assumption))
    | split
    | (with_reducible apply SameOutside.built)

theorem execVinLoss_within (kind : VinState) (s : State) : Stays [.unit .bcu] s (execVinLoss kind s) := by
  have hU : Part.sub [.unit .bcu] [.unit .bcu] = true := rfl
  unfold execVinLoss
  try dsimp only
  repeat' first
    | (with_reducible assumption)
    | (with_reducible exact Part.sub_trans rfl hU)
    | (with_reducible exact Or.inl (Part.sub_trans rfl hU))
    | (with_reducible exact Or.inr rfl)
    | (with_reducible exact SameOutside.refl _ _)
    | (with_reducible apply Stays.next)
    | (with_reducible apply State.showVin_within)
    | (with_reducible apply State.put_within)
    | (with_reducible apply State.setBcu_within)
    | (with_reducible apply State.each_within)
    | (with_reducible apply State.onlyIf_within)
    | (with_reducible apply State.foldl_within)
    | (intro x k hx)
    | (intro x hx)
    | split
    | (with_reducible apply SameOutside.built)

theorem execSupplyDip_within (ms : Nat) (s : State) : Stays [.unit .lgs, .unit .bcu] s (execSupplyDip ms s) := by
  have hU : Part.sub [.unit .lgs, .unit .bcu] [.unit .lgs, .unit .bcu] = true := rfl
  unfold execSupplyDip
  try dsimp only
  repeat' first
    | (with_reducible assumption)
    | (with_reducible exact Part.sub_trans rfl hU)
    | (with_reducible exact Or.inl (Part.sub_trans rfl hU))
    | (with_reducible exact Or.inr rfl)
    | (with_reducible exact SameOutside.refl _ _)
    | (with_reducible apply Stays.next)
    | (with_reducible apply State.setBcu_within)
    | (with_reducible apply State.showVin_within)
    | (with_reducible apply State.moveTo_within)
    | (with_reducible apply State.raise_within)
    | (with_reducible apply State.put_within)
    | (with_reducible apply State.each_within)
    | (with_reducible apply State.onlyIf_within)
    | (with_reducible apply State.foldl_within)
    | (intro x k hx)
    | (intro x hx)
    | split
    | (with_reducible apply SameOutside.built)

theorem execPowerFailure_within (cause : Fin 3) (s : State) : Stays [.unit .oiu, .unit .meu, .unit .efu, .unit .psw, .unit .gse, .unit .blu, .unit .lgs, .unit .alk, .unit .dse, .unit .upd, .unit .bcu, .allocator] s (execPowerFailure cause s) := by
  have hU : Part.sub [.unit .oiu, .unit .meu, .unit .efu, .unit .psw, .unit .gse, .unit .blu, .unit .lgs, .unit .alk, .unit .dse, .unit .upd, .unit .bcu, .allocator] [.unit .oiu, .unit .meu, .unit .efu, .unit .psw, .unit .gse, .unit .blu, .unit .lgs, .unit .alk, .unit .dse, .unit .upd, .unit .bcu, .allocator] = true := rfl
  unfold execPowerFailure
  try dsimp only
  repeat' first
    | (with_reducible assumption)
    | (with_reducible exact Part.sub_trans rfl hU)
    | (with_reducible exact Or.inl (Part.sub_trans rfl hU))
    | (with_reducible exact Or.inr rfl)
    | (with_reducible exact SameOutside.refl _ _)
    | (with_reducible apply Stays.next)
    | (with_reducible apply State.declarePf_within)
    | (with_reducible apply State.setBcu_within)
    | (with_reducible apply State.moveTo_within)
    | (with_reducible apply State.put_within)
    | (with_reducible apply State.each_within)
    | (with_reducible apply State.onlyIf_within)
    | (with_reducible apply State.foldl_within)
    | (intro x k hx)
    | (intro x hx)
    | split
    | (with_reducible apply SameOutside.built)

theorem execRestoration_within (s : State) : Stays [.unit .lgs, .unit .bcu] s (execRestoration s) := by
  have hU : Part.sub [.unit .lgs, .unit .bcu] [.unit .lgs, .unit .bcu] = true := rfl
  unfold execRestoration
  try dsimp only
  repeat' first
    | (with_reducible assumption)
    | (with_reducible exact Part.sub_trans rfl hU)
    | (with_reducible exact Or.inl (Part.sub_trans rfl hU))
    | (with_reducible exact Or.inr rfl)
    | (with_reducible exact SameOutside.refl _ _)
    | (with_reducible apply Stays.next)
    | (with_reducible apply State.showVin_within)
    | (with_reducible apply State.setBcu_within)
    | (with_reducible apply State.draw_within)
    | (with_reducible apply State.moveTo_within)
    | (with_reducible apply State.releaseCold_within)
    | (with_reducible apply State.put_within)
    | (with_reducible apply State.each_within)
    | (with_reducible apply State.onlyIf_within)
    | (with_reducible apply State.foldl_within)
    | (intro x k hx)
    | (intro x hx)
    | (with_reducible refine SameOutside.snd ?_ (by assumption))
    | split
    | (with_reducible apply SameOutside.built)

theorem execBasecampLoss_within (s : State) : Stays [.unit .bcu, .latches] s (execBasecampLoss s) := by
  have hU : Part.sub [.unit .bcu, .latches] [.unit .bcu, .latches] = true := rfl
  unfold execBasecampLoss
  try dsimp only
  repeat' first
    | (with_reducible assumption)
    | (with_reducible exact Part.sub_trans rfl hU)
    | (with_reducible exact Or.inl (Part.sub_trans rfl hU))
    | (with_reducible exact Or.inr rfl)
    | (with_reducible exact SameOutside.refl _ _)
    | (with_reducible apply Stays.next)
    | (with_reducible apply State.clearUnit_within)
    | (with_reducible apply State.each_within)
    | (with_reducible apply State.onlyIf_within)
    | (with_reducible apply State.foldl_within)
    | (intro x k hx)
    | (intro x hx)
    | split
    | (with_reducible apply SameOutside.built)

theorem execBasecampSourceChange_within (src : Fin 3) (s : State) : Stays [.unit .bcu] s (execBasecampSourceChange src s) := by
  have hU : Part.sub [.unit .bcu] [.unit .bcu] = true := rfl
  unfold execBasecampSourceChange
  try dsimp only
  repeat' first
    | (with_reducible assumption)
    | (with_reducible exact Part.sub_trans rfl hU)
    | (with_reducible exact Or.inl (Part.sub_trans rfl hU))
    | (with_reducible exact Or.inr rfl)
    | (with_reducible exact SameOutside.refl _ _)
    | (with_reducible apply Stays.next)
    | (with_reducible apply State.put_within)
    | (with_reducible apply State.setBcu_within)
    | (with_reducible apply State.each_within)
    | (with_reducible apply State.onlyIf_within)
    | (with_reducible apply State.foldl_within)
    | (intro x k hx)
    | (intro x hx)
    | split

theorem execVbatMeasure_within (mv : BitVec 16) (s : State) : Stays [.unit .lgs, .unit .bcu] s (execVbatMeasure mv s) := by
  have hU : Part.sub [.unit .lgs, .unit .bcu] [.unit .lgs, .unit .bcu] = true := rfl
  unfold execVbatMeasure
  try dsimp only
  repeat' first
    | (with_reducible assumption)
    | (with_reducible exact Part.sub_trans rfl hU)
    | (with_reducible exact Or.inl (Part.sub_trans rfl hU))
    | (with_reducible exact Or.inr rfl)
    | (with_reducible exact SameOutside.refl _ _)
    | (with_reducible apply Stays.next)
    | (with_reducible apply State.raise_within)
    | (with_reducible apply State.put_within)
    | (with_reducible apply State.each_within)
    | (with_reducible apply State.onlyIf_within)
    | (with_reducible apply State.foldl_within)
    | (intro x k hx)
    | (intro x hx)
    | split
    | (with_reducible apply SameOutside.built)

theorem execXtal32Check_within (good : Bool) (settled : Bool) (s : State) : Stays [.unit .lgs, .unit .bcu] s (execXtal32Check good settled s) := by
  have hU : Part.sub [.unit .lgs, .unit .bcu] [.unit .lgs, .unit .bcu] = true := rfl
  unfold execXtal32Check
  try dsimp only
  repeat' first
    | (with_reducible assumption)
    | (with_reducible exact Part.sub_trans rfl hU)
    | (with_reducible exact Or.inl (Part.sub_trans rfl hU))
    | (with_reducible exact Or.inr rfl)
    | (with_reducible exact SameOutside.refl _ _)
    | (with_reducible apply Stays.next)
    | (with_reducible apply State.setBcu_within)
    | (with_reducible apply State.raise_within)
    | (with_reducible apply State.put_within)
    | (with_reducible apply State.each_within)
    | (with_reducible apply State.onlyIf_within)
    | (with_reducible apply State.foldl_within)
    | (intro x k hx)
    | (intro x hx)
    | split
    | (with_reducible apply SameOutside.built)

theorem execHoldupMeasurementDone_within (microfarad : BitVec 16) (s : State) : Stays [.unit .lgs, .unit .bcu] s (execHoldupMeasurementDone microfarad s) := by
  have hU : Part.sub [.unit .lgs, .unit .bcu] [.unit .lgs, .unit .bcu] = true := rfl
  unfold execHoldupMeasurementDone
  try dsimp only
  repeat' first
    | (with_reducible assumption)
    | (with_reducible exact Part.sub_trans rfl hU)
    | (with_reducible exact Or.inl (Part.sub_trans rfl hU))
    | (with_reducible exact Or.inr rfl)
    | (with_reducible exact SameOutside.refl _ _)
    | (with_reducible apply Stays.next)
    | (with_reducible apply State.raise_within)
    | (with_reducible apply State.put_within)
    | (with_reducible apply State.each_within)
    | (with_reducible apply State.onlyIf_within)
    | (with_reducible apply State.foldl_within)
    | (intro x k hx)
    | (intro x hx)
    | split
    | (with_reducible apply SameOutside.built)

theorem execCrystalProven_within (tenMicros : Nat) (s : State) : Stays [.unit .meu, .unit .lgs, .unit .cgu] s (execCrystalProven tenMicros s) := by
  have hU : Part.sub [.unit .meu, .unit .lgs, .unit .cgu] [.unit .meu, .unit .lgs, .unit .cgu] = true := rfl
  unfold execCrystalProven
  try dsimp only
  repeat' first
    | (with_reducible assumption)
    | (with_reducible exact Part.sub_trans rfl hU)
    | (with_reducible exact Or.inl (Part.sub_trans rfl hU))
    | (with_reducible exact Or.inr rfl)
    | (with_reducible exact SameOutside.refl _ _)
    | (with_reducible apply Stays.next)
    | (with_reducible apply State.mclkStart_within)
    | (with_reducible apply State.moveTo_within)
    | (with_reducible apply State.raise_within)
    | (with_reducible apply State.put_within)
    | (with_reducible apply State.each_within)
    | (with_reducible apply State.onlyIf_within)
    | (with_reducible apply State.foldl_within)
    | (intro x k hx)
    | (intro x hx)
    | split
    | (with_reducible apply SameOutside.built)

theorem execCrystalNotProven_within (s : State) : Stays [.unit .lgs, .unit .cgu] s (execCrystalNotProven s) := by
  have hU : Part.sub [.unit .lgs, .unit .cgu] [.unit .lgs, .unit .cgu] = true := rfl
  unfold execCrystalNotProven
  try dsimp only
  repeat' first
    | (with_reducible assumption)
    | (with_reducible exact Part.sub_trans rfl hU)
    | (with_reducible exact Or.inl (Part.sub_trans rfl hU))
    | (with_reducible exact Or.inr rfl)
    | (with_reducible exact SameOutside.refl _ _)
    | (with_reducible apply Stays.next)
    | (with_reducible apply State.moveTo_within)
    | (with_reducible apply State.raise_within)
    | (with_reducible apply State.put_within)
    | (with_reducible apply State.each_within)
    | (with_reducible apply State.onlyIf_within)
    | (with_reducible apply State.foldl_within)
    | (intro x k hx)
    | (intro x hx)
    | split
    | (with_reducible apply SameOutside.built)

theorem execCrystalFailure_within (kind : Fin 3) (s : State) : Stays [.unit .oiu, .unit .meu, .unit .efu, .unit .psw, .unit .gse, .unit .blu, .unit .lgs, .unit .alk, .unit .dse, .unit .upd, .unit .bcu, .unit .cgu, .allocator] s (execCrystalFailure kind s) := by
  have hU : Part.sub [.unit .oiu, .unit .meu, .unit .efu, .unit .psw, .unit .gse, .unit .blu, .unit .lgs, .unit .alk, .unit .dse, .unit .upd, .unit .bcu, .unit .cgu, .allocator] [.unit .oiu, .unit .meu, .unit .efu, .unit .psw, .unit .gse, .unit .blu, .unit .lgs, .unit .alk, .unit .dse, .unit .upd, .unit .bcu, .unit .cgu, .allocator] = true := rfl
  unfold execCrystalFailure
  try dsimp only
  repeat' first
    | (with_reducible assumption)
    | (with_reducible exact Part.sub_trans rfl hU)
    | (with_reducible exact Or.inl (Part.sub_trans rfl hU))
    | (with_reducible exact Or.inr rfl)
    | (with_reducible exact SameOutside.refl _ _)
    | (with_reducible apply Stays.next)
    | (with_reducible apply State.coldCommand_within)
    | (with_reducible apply State.raise_within)
    | (with_reducible apply State.put_within)
    | (with_reducible apply State.each_within)
    | (with_reducible apply State.onlyIf_within)
    | (with_reducible apply State.foldl_within)
    | (intro x k hx)
    | (intro x hx)
    | split
    | (with_reducible apply SameOutside.built)

theorem execPllLockLoss_within (s : State) : Stays [.unit .oiu, .unit .meu, .unit .efu, .unit .psw, .unit .gse, .unit .blu, .unit .lgs, .unit .alk, .unit .dse, .unit .upd, .unit .bcu, .unit .cgu, .allocator] s (execPllLockLoss s) := by
  have hU : Part.sub [.unit .oiu, .unit .meu, .unit .efu, .unit .psw, .unit .gse, .unit .blu, .unit .lgs, .unit .alk, .unit .dse, .unit .upd, .unit .bcu, .unit .cgu, .allocator] [.unit .oiu, .unit .meu, .unit .efu, .unit .psw, .unit .gse, .unit .blu, .unit .lgs, .unit .alk, .unit .dse, .unit .upd, .unit .bcu, .unit .cgu, .allocator] = true := rfl
  unfold execPllLockLoss
  try dsimp only
  repeat' first
    | (with_reducible assumption)
    | (with_reducible exact Part.sub_trans rfl hU)
    | (with_reducible exact Or.inl (Part.sub_trans rfl hU))
    | (with_reducible exact Or.inr rfl)
    | (with_reducible exact SameOutside.refl _ _)
    | (with_reducible apply Stays.next)
    | (with_reducible apply State.raise_within)
    | (with_reducible apply State.coldCommand_within)
    | (with_reducible apply State.put_within)
    | (with_reducible apply State.each_within)
    | (with_reducible apply State.onlyIf_within)
    | (with_reducible apply State.foldl_within)
    | (intro x k hx)
    | (intro x hx)
    | split
    | (with_reducible apply SameOutside.built)

theorem State.startCount_within {U : List Part} {z0 s : State} (hz : SameOutside U z0 s) (win : Nat) (ref : Nat) (meas : Nat) (hU : Part.sub [.unit .cgu] U = true) : SameOutside U z0 (State.startCount s win ref meas) := by
  unfold State.startCount
  try dsimp only
  repeat' first
    | (with_reducible assumption)
    | (with_reducible exact Part.sub_trans rfl hU)
    | (with_reducible exact Or.inl (Part.sub_trans rfl hU))
    | (with_reducible exact Or.inr rfl)
    | (with_reducible apply State.put_within)
    | (with_reducible apply State.each_within)
    | (with_reducible apply State.onlyIf_within)
    | (with_reducible apply State.foldl_within)
    | (intro x k hx)
    | (intro x hx)
    | split

theorem execStart_within (win : Nat) (ref : Fin 16) (meas : Fin 16) (s : State) : Stays [.unit .cgu] s (execStart win ref meas s) := by
  have hU : Part.sub [.unit .cgu] [.unit .cgu] = true := rfl
  unfold execStart
  try dsimp only
  repeat' first
    | (with_reducible assumption)
    | (with_reducible exact Part.sub_trans rfl hU)
    | (with_reducible exact Or.inl (Part.sub_trans rfl hU))
    | (with_reducible exact Or.inr rfl)
    | (with_reducible exact SameOutside.refl _ _)
    | (with_reducible apply Stays.next)
    | (with_reducible apply State.startCount_within)

theorem execFrequencyMeasurementDone_within (count : Nat) (s : State) : Stays [.unit .cgu] s (execFrequencyMeasurementDone count s) := by
  have hU : Part.sub [.unit .cgu] [.unit .cgu] = true := rfl
  unfold execFrequencyMeasurementDone
  try dsimp only
  repeat' first
    | (with_reducible assumption)
    | (with_reducible exact Part.sub_trans rfl hU)
    | (with_reducible exact Or.inl (Part.sub_trans rfl hU))
    | (with_reducible exact Or.inr rfl)
    | (with_reducible exact SameOutside.refl _ _)
    | (with_reducible apply Stays.next)
    | (with_reducible apply State.put_within)
    | (with_reducible apply State.each_within)
    | (with_reducible apply State.onlyIf_within)
    | (with_reducible apply State.foldl_within)
    | (intro x k hx)
    | (intro x hx)
    | split

theorem State.writeClken_within {U : List Part} {z0 s : State} (hz : SameOutside U z0 s) (v : Nat) (hU : Part.sub [.unit .oiu, .unit .efu, .unit .psw, .unit .lgs, .unit .cgu, .allocator] U = true) : SameOutside U z0 (State.writeClken s v) := by
  unfold State.writeClken
  try dsimp only
  repeat' first
    | (with_reducible assumption)
    | (with_reducible exact Part.sub_trans rfl hU)
    | (with_reducible exact Or.inl (Part.sub_trans rfl hU))
    | (with_reducible exact Or.inr rfl)
    | (with_reducible apply State.degrade_within)
    | (with_reducible apply State.put_within)
    | (with_reducible apply State.each_within)
    | (with_reducible apply State.onlyIf_within)
    | (with_reducible apply State.foldl_within)
    | (intro x k hx)
    | (intro x hx)
    | split
    | (with_reducible apply SameOutside.built)

theorem execClockEnableWrite_within (value : BitVec 32) (s : State) : Stays [.unit .oiu, .unit .efu, .unit .psw, .unit .lgs, .unit .cgu, .allocator] s (execClockEnableWrite value s) := by
  have hU : Part.sub [.unit .oiu, .unit .efu, .unit .psw, .unit .lgs, .unit .cgu, .allocator] [.unit .oiu, .unit .efu, .unit .psw, .unit .lgs, .unit .cgu, .allocator] = true := rfl
  unfold execClockEnableWrite
  try dsimp only
  repeat' first
    | (with_reducible assumption)
    | (with_reducible exact Part.sub_trans rfl hU)
    | (with_reducible exact Or.inl (Part.sub_trans rfl hU))
    | (with_reducible exact Or.inr rfl)
    | (with_reducible exact SameOutside.refl _ _)
    | (with_reducible apply Stays.next)
    | (with_reducible apply State.writeClken_within)

theorem State.safetyRestart_within {U : List Part} {z0 s : State} (hz : SameOutside U z0 s) (hU : Part.sub [.unit .oiu, .unit .efu, .unit .psw, .unit .gse, .unit .lgs, .allocator, .latches] U = true) : SameOutside U z0 (State.safetyRestart s) := by
  unfold State.safetyRestart
  try dsimp only
  repeat' first
    | (with_reducible assumption)
    | (with_reducible exact Part.sub_trans rfl hU)
    | (with_reducible exact Or.inl (Part.sub_trans rfl hU))
    | (with_reducible exact Or.inr rfl)
    | (with_reducible apply State.gseStart_within)
    | (with_reducible apply State.raise_within)

theorem State.unitAction_within {U : List Part} {z0 s : State} (hz : SameOutside U z0 s) (unit : Nat) (index : Nat) (hU : Part.sub [.unit .sch, .unit .oiu, .unit .vce, .unit .meu, .unit .efu, .unit .psw, .unit .gse, .unit .clu, .unit .blu, .unit .lgs, .unit .alk, .unit .hpu, .unit .ntu, .unit .sec, .unit .dse, .unit .upd, .unit .bcu, .allocator, .latches] U = true) : SameOutside U z0 (State.unitAction s unit index) := by
  unfold State.unitAction
  try dsimp only
  repeat' first
    | (with_reducible assumption)
    | (with_reducible exact Part.sub_trans rfl hU)
    | (with_reducible exact Or.inl (Part.sub_trans rfl hU))
    | (with_reducible exact Or.inr rfl)
    | (with_reducible apply State.cluWarm_within)
    | (with_reducible apply State.efuReset_within)
    | (with_reducible apply State.vceReset_within)
    | (with_reducible apply State.trackIdle_within)
    | (with_reducible apply State.updReset_within)
    | (with_reducible apply State.bookNow_within)
    | (with_reducible apply State.hpuReset_within)
    | (with_reducible apply State.meuReset_within)
    | (with_reducible apply State.tlsLost_within)
    | (with_reducible apply State.oiuReset_within)
    | (with_reducible apply State.dropAll_within)
    | (with_reducible apply State.swReset_within)
    | (with_reducible apply State.secStart_within)
    | (with_reducible apply State.dseStart_within)
    | (with_reducible apply State.alkRestart_within)
    | (with_reducible apply State.safetyRestart_within)
    | (with_reducible apply State.ntuReset_within)
    | (with_reducible apply State.each_within)
    | (with_reducible apply State.onlyIf_within)
    | (with_reducible apply State.foldl_within)
    | (intro x k hx)
    | (intro x hx)
    | split
    | (with_reducible apply SameOutside.built)

theorem State.unitReset_within {U : List Part} {z0 s : State} (hz : SameOutside U z0 s) (unit : Nat) (index : Nat) (hU : Part.sub [.unit .sch, .unit .oiu, .unit .vce, .unit .meu, .unit .efu, .unit .psw, .unit .gse, .unit .clu, .unit .blu, .unit .lgs, .unit .alk, .unit .hpu, .unit .ntu, .unit .sec, .unit .dse, .unit .upd, .unit .bcu, .allocator, .latches] U = true) : SameOutside U z0 (State.unitReset s unit index) := by
  unfold State.unitReset
  try dsimp only
  repeat' first
    | (with_reducible assumption)
    | (with_reducible exact Part.sub_trans rfl hU)
    | (with_reducible exact Or.inl (Part.sub_trans rfl hU))
    | (with_reducible exact Or.inr rfl)
    | (with_reducible apply State.raise2_within)
    | (with_reducible apply State.setBcu_within)
    | (with_reducible apply State.degrade_within)
    | (with_reducible apply State.unitAction_within)
    | (with_reducible apply State.each_within)
    | (with_reducible apply State.onlyIf_within)
    | (with_reducible apply State.foldl_within)
    | (intro x k hx)
    | (intro x hx)
    | split
    | (with_reducible apply SameOutside.built)

theorem State.resetCommand_within {U : List Part} {z0 s : State} (hz : SameOutside U z0 s) (m : Nat) (key : Nat) (cmd : Nat) (unit : Nat) (index : Nat) (hU : Part.sub [.unit .fab, .unit .sch, .unit .oiu, .unit .vce, .unit .meu, .unit .efu, .unit .psw, .unit .gse, .unit .clu, .unit .blu, .unit .lgs, .unit .alk, .unit .hpu, .unit .ntu, .unit .sec, .unit .dse, .unit .upd, .unit .bcu, .allocator, .latches] U = true) : SameOutside U z0 (State.resetCommand s m key cmd unit index) := by
  unfold State.resetCommand
  try dsimp only
  repeat' first
    | (with_reducible assumption)
    | (with_reducible exact Part.sub_trans rfl hU)
    | (with_reducible exact Or.inl (Part.sub_trans rfl hU))
    | (with_reducible exact Or.inr rfl)
    | (with_reducible apply State.safetyRestart_within)
    | (with_reducible apply State.unitReset_within)
    | (with_reducible apply State.warmReset_within)
    | (with_reducible apply State.coldCommand_within)
    | (with_reducible apply State.each_within)
    | (with_reducible apply State.onlyIf_within)
    | (with_reducible apply State.foldl_within)
    | (intro x k hx)
    | (intro x hx)
    | split
    | (with_reducible apply SameOutside.built)

theorem execWarmResetCommand_within (m : Fin 22) (key : BitVec 8) (s : State) : Stays [.unit .fab, .unit .sch, .unit .oiu, .unit .vce, .unit .meu, .unit .efu, .unit .psw, .unit .gse, .unit .clu, .unit .blu, .unit .lgs, .unit .alk, .unit .hpu, .unit .ntu, .unit .sec, .unit .dse, .unit .upd, .unit .bcu, .allocator, .latches] s (execWarmResetCommand m key s) := by
  have hU : Part.sub [.unit .fab, .unit .sch, .unit .oiu, .unit .vce, .unit .meu, .unit .efu, .unit .psw, .unit .gse, .unit .clu, .unit .blu, .unit .lgs, .unit .alk, .unit .hpu, .unit .ntu, .unit .sec, .unit .dse, .unit .upd, .unit .bcu, .allocator, .latches] [.unit .fab, .unit .sch, .unit .oiu, .unit .vce, .unit .meu, .unit .efu, .unit .psw, .unit .gse, .unit .clu, .unit .blu, .unit .lgs, .unit .alk, .unit .hpu, .unit .ntu, .unit .sec, .unit .dse, .unit .upd, .unit .bcu, .allocator, .latches] = true := rfl
  unfold execWarmResetCommand
  try dsimp only
  repeat' first
    | (with_reducible assumption)
    | (with_reducible exact Part.sub_trans rfl hU)
    | (with_reducible exact Or.inl (Part.sub_trans rfl hU))
    | (with_reducible exact Or.inr rfl)
    | (with_reducible exact SameOutside.refl _ _)
    | (with_reducible apply Stays.next)
    | (with_reducible apply State.resetCommand_within)

theorem execColdResetCommand_within (key : BitVec 8) (s : State) : Stays [.unit .fab, .unit .sch, .unit .oiu, .unit .vce, .unit .meu, .unit .efu, .unit .psw, .unit .gse, .unit .clu, .unit .blu, .unit .lgs, .unit .alk, .unit .hpu, .unit .ntu, .unit .sec, .unit .dse, .unit .upd, .unit .bcu, .allocator, .latches] s (execColdResetCommand key s) := by
  have hU : Part.sub [.unit .fab, .unit .sch, .unit .oiu, .unit .vce, .unit .meu, .unit .efu, .unit .psw, .unit .gse, .unit .clu, .unit .blu, .unit .lgs, .unit .alk, .unit .hpu, .unit .ntu, .unit .sec, .unit .dse, .unit .upd, .unit .bcu, .allocator, .latches] [.unit .fab, .unit .sch, .unit .oiu, .unit .vce, .unit .meu, .unit .efu, .unit .psw, .unit .gse, .unit .clu, .unit .blu, .unit .lgs, .unit .alk, .unit .hpu, .unit .ntu, .unit .sec, .unit .dse, .unit .upd, .unit .bcu, .allocator, .latches] = true := rfl
  unfold execColdResetCommand
  try dsimp only
  repeat' first
    | (with_reducible assumption)
    | (with_reducible exact Part.sub_trans rfl hU)
    | (with_reducible exact Or.inl (Part.sub_trans rfl hU))
    | (with_reducible exact Or.inr rfl)
    | (with_reducible exact SameOutside.refl _ _)
    | (with_reducible apply Stays.next)
    | (with_reducible apply State.resetCommand_within)

theorem execSafetyRestartCommand_within (key : BitVec 8) (s : State) : Stays [.unit .fab, .unit .sch, .unit .oiu, .unit .vce, .unit .meu, .unit .efu, .unit .psw, .unit .gse, .unit .clu, .unit .blu, .unit .lgs, .unit .alk, .unit .hpu, .unit .ntu, .unit .sec, .unit .dse, .unit .upd, .unit .bcu, .allocator, .latches] s (execSafetyRestartCommand key s) := by
  have hU : Part.sub [.unit .fab, .unit .sch, .unit .oiu, .unit .vce, .unit .meu, .unit .efu, .unit .psw, .unit .gse, .unit .clu, .unit .blu, .unit .lgs, .unit .alk, .unit .hpu, .unit .ntu, .unit .sec, .unit .dse, .unit .upd, .unit .bcu, .allocator, .latches] [.unit .fab, .unit .sch, .unit .oiu, .unit .vce, .unit .meu, .unit .efu, .unit .psw, .unit .gse, .unit .clu, .unit .blu, .unit .lgs, .unit .alk, .unit .hpu, .unit .ntu, .unit .sec, .unit .dse, .unit .upd, .unit .bcu, .allocator, .latches] = true := rfl
  unfold execSafetyRestartCommand
  try dsimp only
  repeat' first
    | (with_reducible assumption)
    | (with_reducible exact Part.sub_trans rfl hU)
    | (with_reducible exact Or.inl (Part.sub_trans rfl hU))
    | (with_reducible exact Or.inr rfl)
    | (with_reducible exact SameOutside.refl _ _)
    | (with_reducible apply Stays.next)
    | (with_reducible apply State.resetCommand_within)

theorem execUnitResetCommand_within (key : BitVec 8) (unit : BitVec 8) (index : BitVec 8) (s : State) : Stays [.unit .fab, .unit .sch, .unit .oiu, .unit .vce, .unit .meu, .unit .efu, .unit .psw, .unit .gse, .unit .clu, .unit .blu, .unit .lgs, .unit .alk, .unit .hpu, .unit .ntu, .unit .sec, .unit .dse, .unit .upd, .unit .bcu, .allocator, .latches] s (execUnitResetCommand key unit index s) := by
  have hU : Part.sub [.unit .fab, .unit .sch, .unit .oiu, .unit .vce, .unit .meu, .unit .efu, .unit .psw, .unit .gse, .unit .clu, .unit .blu, .unit .lgs, .unit .alk, .unit .hpu, .unit .ntu, .unit .sec, .unit .dse, .unit .upd, .unit .bcu, .allocator, .latches] [.unit .fab, .unit .sch, .unit .oiu, .unit .vce, .unit .meu, .unit .efu, .unit .psw, .unit .gse, .unit .clu, .unit .blu, .unit .lgs, .unit .alk, .unit .hpu, .unit .ntu, .unit .sec, .unit .dse, .unit .upd, .unit .bcu, .allocator, .latches] = true := rfl
  unfold execUnitResetCommand
  try dsimp only
  repeat' first
    | (with_reducible assumption)
    | (with_reducible exact Part.sub_trans rfl hU)
    | (with_reducible exact Or.inl (Part.sub_trans rfl hU))
    | (with_reducible exact Or.inr rfl)
    | (with_reducible exact SameOutside.refl _ _)
    | (with_reducible apply Stays.next)
    | (with_reducible apply State.resetCommand_within)

theorem execUnitResetEnd_within (unit : BitVec 8) (index : BitVec 8) (s : State) : Stays [.unit .oiu, .unit .meu, .unit .psw, .unit .lgs, .unit .bcu] s (execUnitResetEnd unit index s) := by
  have hU : Part.sub [.unit .oiu, .unit .meu, .unit .psw, .unit .lgs, .unit .bcu] [.unit .oiu, .unit .meu, .unit .psw, .unit .lgs, .unit .bcu] = true := rfl
  unfold execUnitResetEnd
  try dsimp only
  repeat' first
    | (with_reducible assumption)
    | (with_reducible exact Part.sub_trans rfl hU)
    | (with_reducible exact Or.inl (Part.sub_trans rfl hU))
    | (with_reducible exact Or.inr rfl)
    | (with_reducible exact SameOutside.refl _ _)
    | (with_reducible apply Stays.next)
    | (with_reducible apply State.raise2_within)
    | (with_reducible apply State.setBcu_within)
    | (with_reducible apply State.swRefresh_within)
    | (with_reducible apply State.meuResume_within)
    | (with_reducible apply State.each_within)
    | (with_reducible apply State.onlyIf_within)
    | (with_reducible apply State.foldl_within)
    | (intro x k hx)
    | (intro x hx)
    | split
    | (with_reducible apply SameOutside.built)

theorem execWarmReset_within (cause : Fin 4) (s : State) : Stays [.unit .fab, .unit .sch, .unit .oiu, .unit .vce, .unit .meu, .unit .efu, .unit .psw, .unit .gse, .unit .clu, .unit .blu, .unit .lgs, .unit .alk, .unit .hpu, .unit .dse, .unit .upd, .unit .bcu, .allocator, .latches] s (execWarmReset cause s) := by
  have hU : Part.sub [.unit .fab, .unit .sch, .unit .oiu, .unit .vce, .unit .meu, .unit .efu, .unit .psw, .unit .gse, .unit .clu, .unit .blu, .unit .lgs, .unit .alk, .unit .hpu, .unit .dse, .unit .upd, .unit .bcu, .allocator, .latches] [.unit .fab, .unit .sch, .unit .oiu, .unit .vce, .unit .meu, .unit .efu, .unit .psw, .unit .gse, .unit .clu, .unit .blu, .unit .lgs, .unit .alk, .unit .hpu, .unit .dse, .unit .upd, .unit .bcu, .allocator, .latches] = true := rfl
  unfold execWarmReset
  try dsimp only
  repeat' first
    | (with_reducible assumption)
    | (with_reducible exact Part.sub_trans rfl hU)
    | (with_reducible exact Or.inl (Part.sub_trans rfl hU))
    | (with_reducible exact Or.inr rfl)
    | (with_reducible exact SameOutside.refl _ _)
    | (with_reducible apply Stays.next)
    | (with_reducible apply State.warmReset_within)

theorem State.kick_within {U : List Part} {z0 s : State} (hz : SameOutside U z0 s) (m : Nat) (hU : Part.sub [.unit .fab, .unit .sch, .unit .oiu, .unit .vce, .unit .meu, .unit .efu, .unit .psw, .unit .gse, .unit .clu, .unit .blu, .unit .lgs, .unit .alk, .unit .hpu, .unit .dse, .unit .upd, .unit .bcu, .allocator, .latches] U = true) : SameOutside U z0 (State.kick s m) := by
  unfold State.kick
  try dsimp only
  repeat' first
    | (with_reducible assumption)
    | (with_reducible exact Part.sub_trans rfl hU)
    | (with_reducible exact Or.inl (Part.sub_trans rfl hU))
    | (with_reducible exact Or.inr rfl)
    | (with_reducible apply State.warmReset_within)
    | (with_reducible apply State.setBcu_within)
    | (with_reducible apply State.each_within)
    | (with_reducible apply State.onlyIf_within)
    | (with_reducible apply State.foldl_within)
    | (intro x k hx)
    | (intro x hx)
    | split

theorem execKick_within (m : Fin 22) (s : State) : Stays [.unit .fab, .unit .sch, .unit .oiu, .unit .vce, .unit .meu, .unit .efu, .unit .psw, .unit .gse, .unit .clu, .unit .blu, .unit .lgs, .unit .alk, .unit .hpu, .unit .dse, .unit .upd, .unit .bcu, .allocator, .latches] s (execKick m s) := by
  have hU : Part.sub [.unit .fab, .unit .sch, .unit .oiu, .unit .vce, .unit .meu, .unit .efu, .unit .psw, .unit .gse, .unit .clu, .unit .blu, .unit .lgs, .unit .alk, .unit .hpu, .unit .dse, .unit .upd, .unit .bcu, .allocator, .latches] [.unit .fab, .unit .sch, .unit .oiu, .unit .vce, .unit .meu, .unit .efu, .unit .psw, .unit .gse, .unit .clu, .unit .blu, .unit .lgs, .unit .alk, .unit .hpu, .unit .dse, .unit .upd, .unit .bcu, .allocator, .latches] = true := rfl
  unfold execKick
  try dsimp only
  repeat' first
    | (with_reducible assumption)
    | (with_reducible exact Part.sub_trans rfl hU)
    | (with_reducible exact Or.inl (Part.sub_trans rfl hU))
    | (with_reducible exact Or.inr rfl)
    | (with_reducible exact SameOutside.refl _ _)
    | (with_reducible apply Stays.next)
    | (with_reducible apply State.kick_within)
    | (with_reducible apply State.each_within)
    | (with_reducible apply State.onlyIf_within)
    | (with_reducible apply State.foldl_within)
    | (intro x k hx)
    | (intro x hx)
    | split
    | (with_reducible apply SameOutside.built)

theorem execWatchdogExpiry_within (s : State) : Stays [.unit .fab, .unit .sch, .unit .oiu, .unit .vce, .unit .meu, .unit .efu, .unit .psw, .unit .gse, .unit .clu, .unit .blu, .unit .lgs, .unit .alk, .unit .hpu, .unit .dse, .unit .upd, .unit .bcu, .allocator, .latches] s (execWatchdogExpiry s) := by
  have hU : Part.sub [.unit .fab, .unit .sch, .unit .oiu, .unit .vce, .unit .meu, .unit .efu, .unit .psw, .unit .gse, .unit .clu, .unit .blu, .unit .lgs, .unit .alk, .unit .hpu, .unit .dse, .unit .upd, .unit .bcu, .allocator, .latches] [.unit .fab, .unit .sch, .unit .oiu, .unit .vce, .unit .meu, .unit .efu, .unit .psw, .unit .gse, .unit .clu, .unit .blu, .unit .lgs, .unit .alk, .unit .hpu, .unit .dse, .unit .upd, .unit .bcu, .allocator, .latches] = true := rfl
  unfold execWatchdogExpiry
  try dsimp only
  repeat' first
    | (with_reducible assumption)
    | (with_reducible exact Part.sub_trans rfl hU)
    | (with_reducible exact Or.inl (Part.sub_trans rfl hU))
    | (with_reducible exact Or.inr rfl)
    | (with_reducible exact SameOutside.refl _ _)
    | (with_reducible apply Stays.next)
    | (with_reducible apply State.moveTo_within)
    | (with_reducible apply State.warmReset_within)
    | (with_reducible apply State.each_within)
    | (with_reducible apply State.onlyIf_within)
    | (with_reducible apply State.foldl_within)
    | (intro x k hx)
    | (intro x hx)
    | split
    | (with_reducible apply SameOutside.built)

theorem execA0FreezeEscalation_within (s : State) : Stays [.unit .fab, .unit .sch, .unit .oiu, .unit .vce, .unit .meu, .unit .efu, .unit .psw, .unit .gse, .unit .clu, .unit .blu, .unit .lgs, .unit .alk, .unit .hpu, .unit .dse, .unit .upd, .unit .bcu, .allocator, .latches] s (execA0FreezeEscalation s) := by
  have hU : Part.sub [.unit .fab, .unit .sch, .unit .oiu, .unit .vce, .unit .meu, .unit .efu, .unit .psw, .unit .gse, .unit .clu, .unit .blu, .unit .lgs, .unit .alk, .unit .hpu, .unit .dse, .unit .upd, .unit .bcu, .allocator, .latches] [.unit .fab, .unit .sch, .unit .oiu, .unit .vce, .unit .meu, .unit .efu, .unit .psw, .unit .gse, .unit .clu, .unit .blu, .unit .lgs, .unit .alk, .unit .hpu, .unit .dse, .unit .upd, .unit .bcu, .allocator, .latches] = true := rfl
  unfold execA0FreezeEscalation
  try dsimp only
  repeat' first
    | (with_reducible assumption)
    | (with_reducible exact Part.sub_trans rfl hU)
    | (with_reducible exact Or.inl (Part.sub_trans rfl hU))
    | (with_reducible exact Or.inr rfl)
    | (with_reducible exact SameOutside.refl _ _)
    | (with_reducible apply Stays.next)
    | (with_reducible apply State.moveTo_within)
    | (with_reducible apply State.raise_within)
    | (with_reducible apply State.warmReset_within)
    | (with_reducible apply State.each_within)
    | (with_reducible apply State.onlyIf_within)
    | (with_reducible apply State.foldl_within)
    | (intro x k hx)
    | (intro x hx)
    | split
    | (with_reducible apply SameOutside.built)

theorem State.writeHealthy_within {U : List Part} {z0 s : State} (hz : SameOutside U z0 s) (hU : Part.sub [.unit .upd, .unit .bcu] U = true) : SameOutside U z0 (State.writeHealthy s) := by
  unfold State.writeHealthy
  try dsimp only
  repeat' first
    | (with_reducible assumption)
    | (with_reducible exact Part.sub_trans rfl hU)
    | (with_reducible exact Or.inl (Part.sub_trans rfl hU))
    | (with_reducible exact Or.inr rfl)
    | (with_reducible apply State.setBcu_within)
    | (with_reducible apply State.setUpd_within)
    | (with_reducible apply State.put_within)
    | (with_reducible apply State.each_within)
    | (with_reducible apply State.onlyIf_within)
    | (with_reducible apply State.foldl_within)
    | (intro x k hx)
    | (intro x hx)
    | split
    | (with_reducible apply SameOutside.built)

theorem execHealthy_within (s : State) : Stays [.unit .upd, .unit .bcu] s (execHealthy s) := by
  have hU : Part.sub [.unit .upd, .unit .bcu] [.unit .upd, .unit .bcu] = true := rfl
  unfold execHealthy
  try dsimp only
  repeat' first
    | (with_reducible assumption)
    | (with_reducible exact Part.sub_trans rfl hU)
    | (with_reducible exact Or.inl (Part.sub_trans rfl hU))
    | (with_reducible exact Or.inr rfl)
    | (with_reducible exact SameOutside.refl _ _)
    | (with_reducible apply Stays.next)
    | (with_reducible apply State.writeHealthy_within)
    | (with_reducible apply State.each_within)
    | (with_reducible apply State.onlyIf_within)
    | (with_reducible apply State.foldl_within)
    | (intro x k hx)
    | (intro x hx)
    | split
    | (with_reducible apply SameOutside.built)

theorem State.guyExpire_within {U : List Part} {z0 s : State} (hz : SameOutside U z0 s) (t : Nat) (hU : Part.sub [.unit .oiu, .unit .psw, .unit .lgs, .unit .bcu] U = true) : SameOutside U z0 (State.guyExpire s t) := by
  unfold State.guyExpire
  try dsimp only
  repeat' first
    | (with_reducible assumption)
    | (with_reducible exact Part.sub_trans rfl hU)
    | (with_reducible exact Or.inl (Part.sub_trans rfl hU))
    | (with_reducible exact Or.inr rfl)
    | (with_reducible apply State.setBcu_within)
    | (with_reducible apply State.moveTo_within)
    | (with_reducible apply State.raise_within)
    | (with_reducible apply State.guyShutdown_within)
    | (with_reducible apply State.swGuyExpiry_within)
    | (with_reducible apply State.put_within)
    | (with_reducible apply State.each_within)
    | (with_reducible apply State.onlyIf_within)
    | (with_reducible apply State.foldl_within)
    | (intro x k hx)
    | (intro x hx)
    | split
    | (with_reducible apply SameOutside.built)

theorem State.freePilot_within {U : List Part} {z0 s : State} (hz : SameOutside U z0 s) (n : Nat) (hU : Part.sub [.unit .oiu] U = true) : SameOutside U z0 (State.freePilot s n) := by
  unfold State.freePilot
  try dsimp only
  repeat' first
    | (with_reducible assumption)
    | (with_reducible exact Part.sub_trans rfl hU)
    | (with_reducible exact Or.inl (Part.sub_trans rfl hU))
    | (with_reducible exact Or.inr rfl)
    | (with_reducible apply State.setOiu_within)
    | (with_reducible apply State.each_within)
    | (with_reducible apply State.onlyIf_within)
    | (with_reducible apply State.foldl_within)
    | (intro x k hx)
    | (intro x hx)

theorem State.takeOver_within {U : List Part} {z0 s : State} (hz : SameOutside U z0 s) (hU : Part.sub [.unit .oiu, .unit .efu, .unit .psw, .unit .gse, .unit .lgs, .unit .bcu, .allocator] U = true) : SameOutside U z0 (State.takeOver s) := by
  unfold State.takeOver
  try dsimp only
  repeat' first
    | (with_reducible assumption)
    | (with_reducible exact Part.sub_trans rfl hU)
    | (with_reducible exact Or.inl (Part.sub_trans rfl hU))
    | (with_reducible exact Or.inr rfl)
    | (with_reducible apply State.drive_within)
    | (with_reducible apply State.guyExpire_within)
    | (with_reducible apply State.raise_within)
    | (with_reducible apply State.freePilot_within)
    | (with_reducible apply State.endHold_within)
    | (with_reducible apply State.each_within)
    | (with_reducible apply State.onlyIf_within)
    | (with_reducible apply State.foldl_within)
    | (intro x k hx)
    | (intro x hx)
    | split
    | (with_reducible apply SameOutside.built)

theorem execTake_within (s : State) : Stays [.unit .oiu, .unit .efu, .unit .psw, .unit .gse, .unit .lgs, .unit .bcu, .allocator] s (execTake s) := by
  have hU : Part.sub [.unit .oiu, .unit .efu, .unit .psw, .unit .gse, .unit .lgs, .unit .bcu, .allocator] [.unit .oiu, .unit .efu, .unit .psw, .unit .gse, .unit .lgs, .unit .bcu, .allocator] = true := rfl
  unfold execTake
  try dsimp only
  repeat' first
    | (with_reducible assumption)
    | (with_reducible exact Part.sub_trans rfl hU)
    | (with_reducible exact Or.inl (Part.sub_trans rfl hU))
    | (with_reducible exact Or.inr rfl)
    | (with_reducible exact SameOutside.refl _ _)
    | (with_reducible apply Stays.next)
    | (with_reducible apply State.takeOver_within)
    | (with_reducible apply State.each_within)
    | (with_reducible apply State.onlyIf_within)
    | (with_reducible apply State.foldl_within)
    | (intro x k hx)
    | (intro x hx)
    | split

theorem execGuyHoldExpiry_within (s : State) : Stays [.unit .oiu, .unit .psw, .unit .lgs, .unit .bcu] s (execGuyHoldExpiry s) := by
  have hU : Part.sub [.unit .oiu, .unit .psw, .unit .lgs, .unit .bcu] [.unit .oiu, .unit .psw, .unit .lgs, .unit .bcu] = true := rfl
  unfold execGuyHoldExpiry
  try dsimp only
  repeat' first
    | (with_reducible assumption)
    | (with_reducible exact Part.sub_trans rfl hU)
    | (with_reducible exact Or.inl (Part.sub_trans rfl hU))
    | (with_reducible exact Or.inr rfl)
    | (with_reducible exact SameOutside.refl _ _)
    | (with_reducible apply Stays.next)
    | (with_reducible apply State.guyExpire_within)
    | (with_reducible apply State.each_within)
    | (with_reducible apply State.onlyIf_within)
    | (with_reducible apply State.foldl_within)
    | (intro x k hx)
    | (intro x hx)
    | split

theorem execImageCheckDone_within (pass : Bool) (s : State) : Stays [.unit .lgs] s (execImageCheckDone pass s) := by
  have hU : Part.sub [.unit .lgs] [.unit .lgs] = true := rfl
  unfold execImageCheckDone
  try dsimp only
  repeat' first
    | (with_reducible assumption)
    | (with_reducible exact Part.sub_trans rfl hU)
    | (with_reducible exact Or.inl (Part.sub_trans rfl hU))
    | (with_reducible exact Or.inr rfl)
    | (with_reducible exact SameOutside.refl _ _)
    | (with_reducible apply Stays.next)
    | (with_reducible apply State.reserveLoad_within)
    | (with_reducible apply State.raise_within)
    | (with_reducible apply State.each_within)
    | (with_reducible apply State.onlyIf_within)
    | (with_reducible apply State.foldl_within)
    | (intro x k hx)
    | (intro x hx)
    | split

theorem execFirmwareRunning_within (s : State) : Stays [.unit .meu, .unit .blu, .unit .lgs, .unit .alk, .unit .sec, .unit .upd, .unit .bcu, .allocator] s (execFirmwareRunning s) := by
  have hU : Part.sub [.unit .meu, .unit .blu, .unit .lgs, .unit .alk, .unit .sec, .unit .upd, .unit .bcu, .allocator] [.unit .meu, .unit .blu, .unit .lgs, .unit .alk, .unit .sec, .unit .upd, .unit .bcu, .allocator] = true := rfl
  unfold execFirmwareRunning
  try dsimp only
  repeat' first
    | (with_reducible assumption)
    | (with_reducible exact Part.sub_trans rfl hU)
    | (with_reducible exact Or.inl (Part.sub_trans rfl hU))
    | (with_reducible exact Or.inr rfl)
    | (with_reducible exact SameOutside.refl _ _)
    | (with_reducible apply Stays.next)
    | (with_reducible apply State.allocEpoch_within)
    | (with_reducible apply State.setBcu_within)
    | (with_reducible apply State.updFirmware_within)
    | (with_reducible apply State.reserveLoad_within)
    | (with_reducible apply State.replayTamper_within)
    | (with_reducible apply State.sealAll_within)
    | (with_reducible apply State.bluRestore_within)
    | (with_reducible apply State.each_within)
    | (with_reducible apply State.onlyIf_within)
    | (with_reducible apply State.foldl_within)
    | (intro x k hx)
    | (intro x hx)
    | split
    | (with_reducible apply SameOutside.built)

theorem execEmberEntry_within (s : State) : Stays [.unit .oiu, .unit .vce, .unit .clu, .unit .bcu] s (execEmberEntry s) := by
  have hU : Part.sub [.unit .oiu, .unit .vce, .unit .clu, .unit .bcu] [.unit .oiu, .unit .vce, .unit .clu, .unit .bcu] = true := rfl
  unfold execEmberEntry
  try dsimp only
  repeat' first
    | (with_reducible assumption)
    | (with_reducible exact Part.sub_trans rfl hU)
    | (with_reducible exact Or.inl (Part.sub_trans rfl hU))
    | (with_reducible exact Or.inr rfl)
    | (with_reducible exact SameOutside.refl _ _)
    | (with_reducible apply Stays.next)
    | (with_reducible apply State.setBcu_within)
    | (with_reducible apply State.moveTo_within)
    | (with_reducible apply State.fieldsOff_within)
    | (with_reducible apply State.showLanesOn_within)
    | (with_reducible apply State.put_within)
    | (with_reducible apply State.each_within)
    | (with_reducible apply State.onlyIf_within)
    | (with_reducible apply State.foldl_within)
    | (intro x k hx)
    | (intro x hx)
    | split
    | (with_reducible apply SameOutside.built)

theorem execEmberExit_within (n : Fin 24) (s : State) : Stays [.unit .sch, .unit .oiu, .unit .vce, .unit .lgs, .unit .sec, .unit .bcu, .allocator] s (execEmberExit n s) := by
  have hU : Part.sub [.unit .sch, .unit .oiu, .unit .vce, .unit .lgs, .unit .sec, .unit .bcu, .allocator] [.unit .sch, .unit .oiu, .unit .vce, .unit .lgs, .unit .sec, .unit .bcu, .allocator] = true := rfl
  unfold execEmberExit
  try dsimp only
  repeat' first
    | (with_reducible assumption)
    | (with_reducible exact Part.sub_trans rfl hU)
    | (with_reducible exact Or.inl (Part.sub_trans rfl hU))
    | (with_reducible exact Or.inr rfl)
    | (with_reducible exact SameOutside.refl _ _)
    | (with_reducible apply Stays.next)
    | (with_reducible apply State.allocEpoch_within)
    | (with_reducible apply State.setBcu_within)
    | (with_reducible apply State.requestLane_within)
    | (with_reducible apply State.showLanesOn_within)
    | (with_reducible apply State.t1sJoin_within)
    | (with_reducible apply State.each_within)
    | (with_reducible apply State.onlyIf_within)
    | (with_reducible apply State.foldl_within)
    | (intro x k hx)
    | (intro x hx)
    | split
    | (with_reducible apply SameOutside.built)

end Sys2Proof.Machine
end

