-- ==== Sys2Proof/Laws/WithinBus.lean ====
section
/-! SUPPORT. Every operation and every command of the fabric leaves the parts of the block alone that it does not touch (Laws/Within.lean). -/

namespace Sys2Proof.Machine

open Sys2Proof

theorem State.showViolations_within {U : List Part} {z0 s : State} (hz : SameOutside U z0 s) (hU : Part.sub [.unit .fab] U = true) : SameOutside U z0 (State.showViolations s) := by
  unfold State.showViolations
  try dsimp only
  repeat' first
    | (with_reducible assumption)
    | (with_reducible exact Part.sub_trans rfl hU)
    | (with_reducible exact Or.inl (Part.sub_trans rfl hU))
    | (with_reducible exact Or.inr rfl)
    | (with_reducible apply State.put_within)

theorem State.release_within {U : List Part} {z0 s : State} (hz : SameOutside U z0 s) (mask : Nat) (hU : Part.sub [.unit .fab, .unit .oiu, .unit .meu, .unit .efu, .unit .psw, .unit .gse, .unit .lgs, .allocator] U = true) : SameOutside U z0 (State.release s mask) := by
  unfold State.release
  try dsimp only
  repeat' first
    | (with_reducible assumption)
    | (with_reducible exact Part.sub_trans rfl hU)
    | (with_reducible exact Or.inl (Part.sub_trans rfl hU))
    | (with_reducible exact Or.inr rfl)
    | (with_reducible apply State.gseRelease_within)
    | (with_reducible apply State.putBit_within)
    | (with_reducible apply State.raise_within)
    | (with_reducible apply State.rejoinAll_within)
    | (with_reducible apply State.put_within)
    | (with_reducible apply State.each_within)
    | (with_reducible apply State.onlyIf_within)
    | (with_reducible apply State.foldl_within)
    | (intro x k hx)
    | (intro x hx)
    | split
    | (with_reducible apply SameOutside.built)

theorem execFabRelease_within (mask : BitVec 22) (s : State) : Stays [.unit .fab, .unit .oiu, .unit .meu, .unit .efu, .unit .psw, .unit .gse, .unit .lgs, .allocator] s (execFabRelease mask s) := by
  have hU : Part.sub [.unit .fab, .unit .oiu, .unit .meu, .unit .efu, .unit .psw, .unit .gse, .unit .lgs, .allocator] [.unit .fab, .unit .oiu, .unit .meu, .unit .efu, .unit .psw, .unit .gse, .unit .lgs, .allocator] = true := rfl
  unfold execFabRelease
  try dsimp only
  repeat' first
    | (with_reducible assumption)
    | (with_reducible exact Part.sub_trans rfl hU)
    | (with_reducible exact Or.inl (Part.sub_trans rfl hU))
    | (with_reducible exact Or.inr rfl)
    | (with_reducible exact SameOutside.refl _ _)
    | (with_reducible apply Stays.next)
    | (with_reducible apply State.release_within)
    | (with_reducible apply State.each_within)
    | (with_reducible apply State.onlyIf_within)
    | (with_reducible apply State.foldl_within)
    | (intro x k hx)
    | (intro x hx)
    | split

theorem State.popViolation_within {U : List Part} {z0 s : State} (hz : SameOutside U z0 s) (hU : Part.sub [.unit .fab] U = true) : SameOutside U z0 (State.popViolation s) := by
  unfold State.popViolation
  try dsimp only
  repeat' first
    | (with_reducible assumption)
    | (with_reducible exact Part.sub_trans rfl hU)
    | (with_reducible exact Or.inl (Part.sub_trans rfl hU))
    | (with_reducible exact Or.inr rfl)
    | (with_reducible apply State.showViolations_within)
    | (with_reducible apply State.each_within)
    | (with_reducible apply State.onlyIf_within)
    | (with_reducible apply State.foldl_within)
    | (intro x k hx)
    | (intro x hx)
    | split
    | (with_reducible apply SameOutside.built)

theorem execFabVpop_within (s : State) : Stays [.unit .fab] s (execFabVpop s) := by
  have hU : Part.sub [.unit .fab] [.unit .fab] = true := rfl
  unfold execFabVpop
  try dsimp only
  repeat' first
    | (with_reducible assumption)
    | (with_reducible exact Part.sub_trans rfl hU)
    | (with_reducible exact Or.inl (Part.sub_trans rfl hU))
    | (with_reducible exact Or.inr rfl)
    | (with_reducible exact SameOutside.refl _ _)
    | (with_reducible apply Stays.next)
    | (with_reducible apply State.popViolation_within)

theorem State.shown_within {U : List Part} {z0 s : State} (hz : SameOutside U z0 s) (u : UnitId) (hU : Part.sub [.unit .fab, .unit .sch, .unit .blu, .unit .lgs, .unit .hpu, .unit .ntu, .unit .sec, .unit .dse, .unit .upd, .unit .bcu] U = true) : SameOutside U z0 (State.shown s u) := by
  unfold State.shown
  try dsimp only
  repeat' first
    | (with_reducible assumption)
    | (with_reducible exact Part.sub_trans rfl hU)
    | (with_reducible exact Or.inl (Part.sub_trans rfl hU))
    | (with_reducible exact Or.inr rfl)
    | (with_reducible apply State.showSyncAge_within)
    | (with_reducible apply State.showStream_within)
    | (with_reducible apply State.showLgs_within)
    | (with_reducible apply State.showNtu_within)
    | (with_reducible apply State.showSlot_within)
    | (with_reducible apply State.put64_within)
    | (with_reducible apply State.showFifo_within)
    | (with_reducible apply State.showUpd_within)
    | (with_reducible apply State.showOpen_within)
    | (with_reducible apply State.showViolations_within)
    | (with_reducible apply State.showStress_within)
    | (with_reducible apply State.showHold_within)
    | (with_reducible apply State.each_within)
    | (with_reducible apply State.onlyIf_within)
    | (with_reducible apply State.foldl_within)
    | (intro x k hx)
    | (intro x hx)
    | split
    | (with_reducible apply SameOutside.built)

theorem State.latchOiu_within {U : List Part} {z0 s : State} (hz : SameOutside U z0 s) (n : Nat) (hU : Part.sub [.latches] U = true) : SameOutside U z0 (State.latchOiu s n) := by
  unfold State.latchOiu
  try dsimp only
  repeat' first
    | (with_reducible assumption)
    | (with_reducible exact Part.sub_trans rfl hU)
    | (with_reducible exact Or.inl (Part.sub_trans rfl hU))
    | (with_reducible exact Or.inr rfl)
    | (with_reducible apply State.each_within)
    | (with_reducible apply State.onlyIf_within)
    | (with_reducible apply State.foldl_within)
    | (intro x k hx)
    | (intro x hx)
    | split
    | (with_reducible apply SameOutside.built)

theorem State.snap_within {U : List Part} {z0 s : State} (hz : SameOutside U z0 s) (u : UnitId) (inst : Nat) (hU : Part.sub [.unit .fab, .unit .sch, .unit .meu, .unit .blu, .unit .lgs, .unit .hpu, .unit .ntu, .unit .sec, .unit .dse, .unit .upd, .unit .bcu, .latches] U = true) : SameOutside U z0 (State.snap s u inst) := by
  unfold State.snap
  try dsimp only
  repeat' first
    | (with_reducible assumption)
    | (with_reducible exact Part.sub_trans rfl hU)
    | (with_reducible exact Or.inl (Part.sub_trans rfl hU))
    | (with_reducible exact Or.inr rfl)
    | (with_reducible apply State.latchFields_within)
    | (with_reducible apply State.latchOiu_within)
    | (with_reducible apply State.shown_within)
    | (with_reducible apply State.put_within)
    | (with_reducible apply State.each_within)
    | (with_reducible apply State.onlyIf_within)
    | (with_reducible apply State.foldl_within)
    | (intro x k hx)
    | (intro x hx)
    | split
    | (with_reducible apply SameOutside.built)

theorem execSnap_within (u : UnitId) (inst : Nat) (s : State) : Stays [.unit .fab, .unit .sch, .unit .meu, .unit .blu, .unit .lgs, .unit .hpu, .unit .ntu, .unit .sec, .unit .dse, .unit .upd, .unit .bcu, .latches] s (execSnap u inst s) := by
  have hU : Part.sub [.unit .fab, .unit .sch, .unit .meu, .unit .blu, .unit .lgs, .unit .hpu, .unit .ntu, .unit .sec, .unit .dse, .unit .upd, .unit .bcu, .latches] [.unit .fab, .unit .sch, .unit .meu, .unit .blu, .unit .lgs, .unit .hpu, .unit .ntu, .unit .sec, .unit .dse, .unit .upd, .unit .bcu, .latches] = true := rfl
  unfold execSnap
  try dsimp only
  repeat' first
    | (with_reducible assumption)
    | (with_reducible exact Part.sub_trans rfl hU)
    | (with_reducible exact Or.inl (Part.sub_trans rfl hU))
    | (with_reducible exact Or.inr rfl)
    | (with_reducible exact SameOutside.refl _ _)
    | (with_reducible apply Stays.next)
    | (with_reducible apply State.snap_within)

end Sys2Proof.Machine
end

