-- ==== Sys2Proof/Laws/Fabric.lean ====
section
/-! SUPPORT. Laws of the fabric: freezing and releasing masters, and what a register write leaves. -/

namespace Sys2Proof.Machine

open Sys2Proof

/-- A bit of a mask field after it was set. -/
theorem bit_putBit (s : State) (f : Fld) (i k j : Nat) (b : Bool) (h : j < f.width) :
    bit ((s.putBit f i k b).rd f i) j = if j = k then b else bit (s.rd f i) j := by
  unfold State.putBit
  rw [rd_put_same, bit_mod _ _ _ h, bit_setBit]

/-- The parts that the freeze of a master may change beside the fabric: the units that fail with it and the outlets (R31, R474). -/
def freezeParts : List Part :=
  [.unit .sch, .unit .oiu, .unit .vce, .unit .meu, .unit .efu, .unit .psw, .unit .gse, .unit .blu, .unit .lgs, .unit .sec, .unit .bcu, .allocator]

theorem State.gseFreeze_within {U : List Part} {z s : State} (hz : SameOutside U z s)
    (hU : Part.sub [.unit .oiu, .unit .efu, .unit .psw, .unit .gse, .unit .lgs, .allocator] U = true) : SameOutside U z s.gseFreeze := by
  unfold State.gseFreeze
  refine State.allOff_within ?_ (Part.sub_trans rfl hU)
  apply SameOutside.built hz
  all_goals first
    | exact Or.inl (Part.sub_trans rfl hU)
    | exact Or.inr rfl

/-- The freeze of a master sets its bit. -/
theorem State.frozenMaster_bit (s : State) (m : Nat) (h : m < 22) : bit ((s.frozenMaster m).rd .FAB_FROZEN_FROZEN 0) m = true := by
  have base : bit ((s.putBit .FAB_FROZEN_FROZEN 0 m true).rd .FAB_FROZEN_FROZEN 0) m = true := by
    rw [bit_putBit _ _ _ _ _ _ h, if_pos rfl]
  have keep : ∀ t : State, SameOutside freezeParts (s.putBit .FAB_FROZEN_FROZEN 0 m true) t → bit (t.rd .FAB_FROZEN_FROZEN 0) m = true := fun t ht => by
    rw [ht.regs .FAB_FROZEN_FROZEN 0 rfl]; exact base
  unfold State.frozenMaster
  dsimp only
  split
  · split
    · exact base
    · rw [rd_put_fld _ _ _ _ _ _ (by decide)]; exact base
  · repeat' split
    · exact keep _ (State.dropAll_within (SameOutside.refl _ _) rfl)
    · exact keep _ (State.dropAll_within (State.gseFreeze_within (SameOutside.refl _ _) rfl) rfl)
    · exact keep _ (State.degrade_within (State.vceFail_within (SameOutside.refl _ _) rfl) rfl)
    · exact keep _ (State.degrade_within (State.tlsLost_within (SameOutside.refl _ _) rfl) rfl)
    · exact keep _ (State.degrade_within (SameOutside.refl _ _) rfl)

/-- A violation freezes its master and raises its event. -/
theorem State.violate_spec (s : State) (m target access addr : Nat) (h : m < 22) :
    bit ((s.violate m target access addr).rd .FAB_FROZEN_FROZEN 0) m = true ∧ Raises s (s.violate m target access addr) 0x0301 m := by
  constructor
  · unfold State.violate
    exact State.frozenMaster_bit _ _ h
  · unfold State.violate
    extract_lets rec_ full s1 _ s2 s3
    have h0 : Later s (s.count .FAB_VCOUNT_VTOTAL 0) := State.count_later (Later.refl _) _ _
    have h1 : Raises s s1 0x0301 m := Raises.of_raise _ _ h0 0x0301 m (by omega)
    have k1 : Later s s1 := State.raise_later h0 _ _
    have hf : s1.fab.queue = s.fab.queue := by
      dsimp only [s1]
      rw [State.raise_fab]; rfl
    clear_value s1
    have h2 : Later s1 s2 := by
      dsimp only [s2]
      split
      · exact State.raise_later (State.put_later (Later.refl _) _ _ _) _ _
      · rename_i hq
        apply State.showViolations_later
        refine ⟨rfl, Nat.le_refl _, Nat.le_refl _, List.prefix_refl _, id, id, fun _ y => y, fun _ => ?_, id, id⟩
        dsimp only
        rw [List.length_append, hf]
        simp only [full, decide_eq_true_eq] at hq
        simp only [List.length_cons, List.length_nil]
        omega
    exact h1.mono k1 (State.frozenMaster_later (State.request_later h2 _ _) _)

/-- The state while an access has its tag in flight. -/
def State.tagged (s : State) : State := (s.put .FAB_TAGS_PEAK 0 (max 1 (s.rd .FAB_TAGS_PEAK 0))).put .FAB_TAGS_INFLIGHT 0 1

/-- A refused access: what its answer is, the master's freeze and the event. -/
theorem State.access_refused (s : State) (m : Nat) (sup : Bool) (k : AccessKind) (a w target off : Nat) (p : Place) (hm : m < 22)
    (hp : placeOf a = some (target, off, p))
    (hg : ((!reads k || s.permits m sup target off false) && (!writes k || s.permits m sup target off true)) = false) :
    (s.access m sup k a w).1 = .errorResponse ∧ bit ((s.access m sup k a w).2.rd .FAB_FROZEN_FROZEN 0) m = true ∧
      Raises s (s.access m sup k a w).2 0x0301 m := by
  have e : s.access m sup k a w = (.errorResponse, (s.tagged.violate m target (accessCode k) a).put .FAB_TAGS_INFLIGHT 0 0) := by
    unfold State.access
    dsimp only
    rw [hp]
    dsimp only
    rw [if_neg]
    · rfl
    · intro h
      have : ((!reads k || s.permits m sup target off false) && (!writes k || s.permits m sup target off true)) = true := h
      rw [hg] at this
      cases this
  rw [e]
  have k' := State.violate_spec s.tagged m target (accessCode k) a hm
  refine ⟨rfl, ?_, k'.2⟩
  show bit ((State.put _ _ _ _).rd _ _) _ = true
  rw [rd_put_fld _ _ _ _ _ _ (by decide)]
  exact k'.1

end Sys2Proof.Machine
end

