-- ==== Sys2Proof/Laws/LaterHost.lean ====
section
/-! SUPPORT. Every operation and every command of the host's accesses leads to a later state (Laws/Later.lean). -/

namespace Sys2Proof.Machine

open Sys2Proof

theorem State.hostAccess_later {z0 s : State} (hz : Later z0 s) (k : AccessKind) (a w : Nat) : Later z0 (s.hostAccess k a w).2.2 := by
  unfold State.hostAccess
  split
  · exact hz
  · dsimp only
    split <;> exact State.access_later hz _ _ _ _ _

theorem State.hostRead_later {z0 s : State} (hz : Later z0 s) (a n : Nat) : Later z0 (s.hostRead a n).2.2 := by
  induction n generalizing s a with
  | zero => exact hz
  | succ n ih => exact ih (State.hostAccess_later hz _ _ _) _

theorem execRead_later (addr : BitVec 32) (count : Nat) (s : State) : Runs s (execRead addr count s) := by
  unfold execRead
  split
  · exact Runs.next (Later.refl s)
  · extract_lets s1 stat r bad
    have h1 : Later s s1 := State.spiFrame_later (Later.refl s)
    have h2 : Later s r.2.2 := State.hostRead_later h1 _ _
    clear_value r
    exact Runs.next (State.setHpu_later h2 _ (fun h => h) fun h => h)

theorem State.postWords_later {z0 s : State} (hz : Later z0 s) (a : Nat) (l : List (BitVec 32)) : Later z0 (s.postWords a l) := by
  induction l generalizing s a with
  | nil => exact hz
  | cons w l ih =>
    unfold State.postWords
    extract_lets r __ s1
    have h : Later z0 r.2.2 := State.hostAccess_later hz _ _ _
    clear_value r
    refine ih ?_ _
    dsimp only [s1]
    split
    · exact State.setHpu_later h _ (fun h => h) fun h => h
    · exact h

theorem execWrite_later (addr : BitVec 32) (words : List (BitVec 32)) (partialWord : Bool) (s : State) : Runs s (execWrite addr words partialWord s) := by
  unfold execWrite
  split
  · exact Runs.next (Later.refl s)
  · exact Runs.next (State.onlyIf_later (fun x hx => State.put_later hx _ _ _)
      (State.postWords_later (State.spiFrame_later (Later.refl s)) _ _))

theorem State.reply_later {z0 s : State} (hz : Later z0 s) (p : Nat) (seq : Nat) (type : Nat) (payload : List Nat) : Later z0 (State.reply s p seq type payload) := by
  unfold State.reply
  try dsimp only
  repeat' first
    | (with_reducible assumption)
    | (with_reducible apply State.answerHost_later)
    | (with_reducible apply State.each_later)
    | (with_reducible apply State.onlyIf_later)
    | (with_reducible apply State.foldl_later)
    | (intro x k hx)
    | (intro x hx)

theorem execHmiRead_later (p : Fin 5) (seq : BitVec 32) (addr : BitVec 32) (count : BitVec 16) (s : State) : Runs s (execHmiRead p seq addr count s) := by
  unfold execHmiRead
  split
  · exact Runs.next (Later.refl s)
  · have h1 : Later s (s.takeFrame p 6) := State.takeFrame_later (Later.refl s) _ _
    extract_lets s1 r
    split
    · exact Runs.next (State.reply_later h1 _ _ _ _)
    · exact Runs.next (State.reply_later (State.hostRead_later h1 _ _) _ _ _ _)

theorem State.hostWrite_later {z0 s : State} (hz : Later z0 s) (a : Nat) (l : List (BitVec 32)) : Later z0 (s.hostWrite a l).2.2 := by
  induction l generalizing s a with
  | nil => exact hz
  | cons w l ih =>
    unfold State.hostWrite
    extract_lets r rest
    have h : Later z0 r.2.2 := State.hostAccess_later hz _ _ _
    split
    · exact h
    · exact ih h _

theorem execHmiWrite_later (p : Fin 5) (seq : BitVec 32) (addr : BitVec 32) (words : List (BitVec 32)) (s : State) : Runs s (execHmiWrite p seq addr words s) := by
  unfold execHmiWrite
  split
  · exact Runs.next (Later.refl s)
  · exact Runs.next (State.reply_later (State.hostWrite_later (State.takeFrame_later (Later.refl s) _ _) _ _) _ _ _ _)

theorem execPlan_later (p : Fin 5) (seq : BitVec 32) (offset : BitVec 32) (totlen : BitVec 32) (bytes : List (BitVec 8)) (s : State) : Runs s (execPlan p seq offset totlen bytes s) := by
  unfold execPlan
  try dsimp only
  repeat' first
    | (with_reducible assumption)
    | (with_reducible exact Later.refl _)
    | (with_reducible apply Runs.next)
    | (with_reducible apply State.takeFrame_later)
    | (with_reducible apply State.put_later)
    | (with_reducible apply State.raise_later)
    | (with_reducible apply State.draw_later)
    | (with_reducible apply State.reply_later)
    | (with_reducible apply State.planChunk_later)
    | (with_reducible apply State.each_later)
    | (with_reducible apply State.onlyIf_later)
    | (with_reducible apply State.foldl_later)
    | (intro x k hx)
    | (intro x hx)
    | (with_reducible refine Later.snd ?_ (by assumption))
    | split

end Sys2Proof.Machine
end

