-- ==== Sys2Proof/WellFormed.lean ====
section
/-! DEFINITION. Well-formedness of commands: operands that the spec's formats can carry. Register fields, lists of bytes and fixed
numbers carry their range in their type; the check covers the operands that are plain numbers and lists. -/

namespace Sys2Proof

/-- Every number of a list is a byte. -/
def allBytes (l : List Nat) : Bool := l.all fun b => decide (b < 256)

/-- A measured level fits the 16 bits of its register: VHI, VLO (R77) and the temperatures (R97). -/
def isLevel (v : Int) : Bool := decide (-32768 ≤ v ∧ v < 32768)

/-- A field of a ledger record lies in the 40 bytes of the payload and its value fits its size (R326). -/
def RecField.wf (f : RecField) : Bool := decide (16 ≤ f.off ∧ f.off + f.size ≤ 60 ∧ f.value < 256 ^ f.size)

/-- A record that a unit hands to the ledger has a type byte and fields in place (R326). -/
def RecData.wf (r : RecData) : Bool := decide (r.type < 256) && r.fields.all RecField.wf

/-- An uplink comes from a node address, and its symbols have 5 bits. -/
def AlkUp.wf (u : AlkUp) : Bool := decide (1 ≤ u.node ∧ u.node ≤ 62 ∧ u.snr < 256) && u.words.all fun w => w.all fun x => decide (x < 32)

/-- The texts and the binary data of a decoded value are bytes. -/
def V2gVal.wf : V2gVal → Bool
  | .text l | .bin l => allBytes l
  | .elem name v rest | .elems name v rest => allBytes name && v.wf && rest.wf
  | .item v rest => v.wf && rest.wf
  | .bool _ | .int _ | .done => true

/-- A V2G message fits its formats (R123, R131). -/
def V2gMsg.wf (m : V2gMsg) : Bool := decide (m.code < 65536) && (m.val.all V2gVal.wf) && allBytes m.exi

/-- A request frame of a reader fits its format (R274, R288): a UID of 64 bits, a manufacturer code of 8 bits. -/
def TagRequest.wf (q : TagRequest) : Bool :=
  decide (q.ic < 256) && match q.addr with
    | .uid v => decide (v < 2 ^ 64)
    | .every | .selected => true

/-- The operands of a command are ones that the spec's formats can carry. -/
def Instr.wf : Instr → Bool
  | .snap u inst => if u = .oiu then decide (inst < 24) else inst == 0
  | .start win _ _ => decide (win < 32)
  | .hmiWrite _ _ _ words => decide (words.length ≤ 16383)
  | .plan _ _ _ _ bytes => decide (bytes.length ≤ 65528)
  | .vehicleFrameReceived _ _ (some m) => m.wf
  | .v2gRequest _ m => m.wf
  | .supportedAppProtocol _ offers val exi => (offers.all fun g => decide (g ≤ 3)) && val.wf && allBytes exi
  | .soundWindowClose _ sounds => sounds.all fun x => decide (x.1 < 24 ∧ x.2.1 ≤ 10) && x.2.2.length == 58
  | .bankOvercurrent _ milliamps _ => milliamps.length == 8
  | .cardExchange _ request _ answer => allBytes request && allBytes answer
  | .inventory req mask len afi => req.wf && decide (len ≤ 64 ∧ mask < 2 ^ len) && afi.all fun a => decide (a < 256)
  | .stayQuiet req | .select req | .resetToReady req | .readSingleBlock req _ | .readMultipleBlocks req _ _ | .writeSingleBlock req _ _ _ _
  | .getSystemInformation req | .unsupportedTagCommand req | .tpwd req _ | .tauth1 req _ _ | .tauth2 req _ | .tlogout req | .tstat req => req.wf
  | .ledgerGroupRequest _ recs => decide (recs.length ≤ 26) && recs.all RecData.wf
  | .pass ups => ups.all AlkUp.wf
  | .pageCopyDone changed => changed.all fun e => decide (e.1 < 4096) && e.2.length == 64 && allBytes e.2
  | .unknownFrameType _ _ _ payload => decide (payload.length ≤ 65536)
  | .fifoPointerMismatch up copies => copies.all fun e => decide (e.1 < 2 ^ (if up then 17 else 15) ∧ e.2 < 2 ^ (if up then 17 else 15))
  | .displayUpdateDone _ _ copies => copies.all fun e => decide (e.1 < 200)
  | .pilotSample _ vhi vlo => isLevel vhi && vlo.all isLevel
  | .pilotStateConfirm _ v | .lowLevelClassConfirm _ v => isLevel v
  | .temperatureEvaluation _ ta tb => isLevel ta && isLevel tb
  | .ppBandConfirm _ ohm => decide (ohm < 2 ^ 32)
  | _ => true

end Sys2Proof
end

