-- ==== Sys2Proof/Laws/PerInstr.lean ====
section
/-! SUPPORT. For every command: what a well-formed command's plain operands are, and that they name things that exist. -/

namespace Sys2Proof.Laws

open Sys2Proof

open Sys2Proof.Machine (UnitId)

/-- The numbers that a command's operands hold, each with the first number beyond its range: outlets, channels, elements, slots, paths and
register values. -/
def ranges : Instr → List (Nat × Nat)
  | .masterAccess m _ _ addr value => [(m.val, 22), (addr.toNat, 2 ^ 32), (value.toNat, 2 ^ 32)]
  | .fabRelease mask => [(mask.toNat, 2 ^ 22)]
  | .fabVpop => []
  | .a0FreezeEscalation => []
  | .snap _ inst => [(inst, 24)]
  | .registerWrite addr value => [(addr.toNat, 2 ^ 32), (value.toNat, 2 ^ 32)]
  | .admissionRequest stream cls => [(stream.toNat, 2 ^ 16), (cls.val, 16)]
  | .streamEnd stream => [(stream.toNat, 2 ^ 16)]
  | .engineFrameBoundary e => [(e.val, 6)]
  | .sliceRun e index _ => [(e.val, 6), (index.toNat, 2 ^ 16)]
  | .plan p seq offset totlen _ => [(p.val, 5), (seq.toNat, 2 ^ 32), (offset.toNat, 2 ^ 32), (totlen.toNat, 2 ^ 32)]
  | .planVerifyDone => []
  | .pplVerifyAgain => []
  | .pplActivate => []
  | .pplDiscard => []
  | .planActivation => []
  | .outletsIdle => []
  | .pilotPeriodBoundary n => [(n.val, 24)]
  | .pilotStateConfirm n _ => [(n.val, 24)]
  | .lowLevelClassConfirm n _ => [(n.val, 24)]
  | .ppBandConfirm n ohm => [(n.val, 24), (ohm, 2 ^ 32)]
  | .lock n => [(n.val, 24)]
  | .unlock n => [(n.val, 24)]
  | .lkpulseEnd n => [(n.val, 24)]
  | .lockFeedbackConfirmed n _ => [(n.val, 24)]
  | .lkconfExpiry n => [(n.val, 24)]
  | .lockRetry n => [(n.val, 24)]
  | .lockFeedbackOpen n => [(n.val, 24)]
  | .closeEn n _ => [(n.val, 24)]
  | .weldtExpiry n _ => [(n.val, 24)]
  | .closeFeedbackTimeout n _ => [(n.val, 24)]
  | .c1maxExpiry n => [(n.val, 24)]
  | .fHoldExpiry n => [(n.val, 24)]
  | .oiuFaultClear n _ _ => [(n.val, 24)]
  | .temperatureEvaluation n _ _ => [(n.val, 24)]
  | .temperatureCutOpen n => [(n.val, 24)]
  | .zreqShutdownRelease n => [(n.val, 24)]
  | .hlcFallback n => [(n.val, 24)]
  | .fallbackPwmResume n => [(n.val, 24)]
  | .emberEntry => []
  | .emberExit n => [(n.val, 24)]
  | .vehicleFrameReceived n _ _ => [(n.val, 24)]
  | .transmitEncode n _ => [(n.val, 24)]
  | .cmSlacParmReq _ heard => [(heard.toNat, 2 ^ 24)]
  | .cmStartAttenCharInd _ => []
  | .soundWindowClose _ _ => []
  | .cmSlacMatchReq _ n => [(n.val, 24)]
  | .linkJoined n => [(n.val, 24)]
  | .slacTimerExpiry n => [(n.val, 24)]
  | .slacRetry n => [(n.val, 24)]
  | .t1sLinkDown k => [(k.val, 8)]
  | .sdpRequest n _ => [(n.val, 24)]
  | .supportedAppProtocol n _ _ _ => [(n.val, 24)]
  | .v2gRequest n _ => [(n.val, 24)]
  | .v2gTimeout n kind => [(n.val, 24), (kind.val, 4)]
  | .certificateForwardTimeout n => [(n.val, 24)]
  | .stop n => [(n.val, 24)]
  | .pause n => [(n.val, 24)]
  | .renegotiate n => [(n.val, 24)]
  | .loopResponderAnswer n => [(n.val, 24)]
  | .offloadRestart => []
  | .meteringBoundary => []
  | .channelSlice n _ => [(n.val, 64)]
  | .modulatorFault n _ => [(n.val, 64)]
  | .modulatorFaultEnd n => [(n.val, 64)]
  | .zeroCrossing n => [(n.val, 64)]
  | .zeroCrossingTimeout n => [(n.val, 64)]
  | .pulseCounted n => [(n.val, 64)]
  | .pkclr n => [(n.val, 64)]
  | .meuFreeze => []
  | .rcmSlice c _ => [(c.val, 24)]
  | .rcmTrip c band => [(c.val, 24), (band.val, 6)]
  | .tripclr c => [(c.val, 24)]
  | .lockclr _ c => [(c.val, 24)]
  | .test _ c => [(c.val, 24)]
  | .cal c _ => [(c.val, 24)]
  | .rcmSelfTestDone c _ => [(c.val, 24)]
  | .rcmSelfTestRetry c => [(c.val, 24)]
  | .dailySelfTest _ c => [(c.val, 24)]
  | .rcmSensorFault c _ => [(c.val, 24)]
  | .imdHalfPeriod k _ _ _ => [(k.val, 12)]
  | .poleCheckTrip k _ _ => [(k.val, 12)]
  | .couplingOpen k _ _ => [(k.val, 12)]
  | .imdSelfTestDone k _ => [(k.val, 12)]
  | .cableCheckStart n => [(n.val, 24)]
  | .cableCheckResult k => [(k.val, 12)]
  | .allocatorCycle => []
  | .cycleAbandon => []
  | .breachClear => []
  | .moduleLost n cause => [(n.val, 24), (cause.val, 3)]
  | .moduleLostCloseDrop n => [(n.val, 24)]
  | .sunspecPoll _ _ => []
  | .ocppChargingProfile _ => []
  | .channelTurnOn c => [(c.val, 32)]
  | .channelTurnOff c => [(c.val, 32)]
  | .inrushSlotGrant k => [(k.val, 4)]
  | .inrushWindowEnd c _ => [(c.val, 32)]
  | .shortCircuit c _ _ => [(c.val, 32)]
  | .overcurrent c _ => [(c.val, 32)]
  | .overtemperature c _ => [(c.val, 32)]
  | .retryPauseEnd c _ => [(c.val, 32)]
  | .triesReset c => [(c.val, 32)]
  | .latchclr c => [(c.val, 32)]
  | .bankDroop k vnow vmean => [(k.val, 4), (vnow.toNat, 2 ^ 16), (vmean.toNat, 2 ^ 16)]
  | .bankUndervoltage k vnow => [(k.val, 4), (vnow.toNat, 2 ^ 16)]
  | .bankUndervoltageEnd k vnow => [(k.val, 4), (vnow.toNat, 2 ^ 16)]
  | .bankOvercurrent k _ _ => [(k.val, 4)]
  | .openLoadChange c _ => [(c.val, 32)]
  | .pwmFrame c vmean => [(c.val, 32), (vmean.toNat, 2 ^ 16)]
  | .gseCycle _ => []
  | .safetyInputConfirm inp _ => [(inp.val, 16)]
  | .testPulse k reads => [(k.val, 4), (reads.low.toNat, 2 ^ 16), (reads.late.toNat, 2 ^ 16)]
  | .discrepancyTimeout k => [(k.val, 16)]
  | .stopdlyExpiry k => [(k.val, 16)]
  | .resetPulse inp _ => [(inp.val, 16)]
  | .edmFault k => [(k.val, 16)]
  | .unlkdlyExpiry k => [(k.val, 16)]
  | .mutingStart k => [(k.val, 16)]
  | .mutingEnd k => [(k.val, 16)]
  | .mutmaxExpiry k => [(k.val, 16)]
  | .gseFault code => [(code.val, 8)]
  | .soDriveExpiry k => [(k.val, 4)]
  | .vsioUndervoltage => []
  | .gseStartupTestsDone failed inputs => [(failed.val, 10), (inputs.toNat, 2 ^ 16)]
  | .safeConfirmTimeout => []
  | .antennaEnable k => [(k.val, 4)]
  | .antennaDisable k => [(k.val, 4)]
  | .antennaSlice k _ => [(k.val, 4)]
  | .cardExchange k _ outcome _ => [(k.val, 4), (outcome.val, 3)]
  | .exchangeBreak k => [(k.val, 4)]
  | .tagFieldOn => []
  | .tagFieldLoss => []
  | .tagPowerUp _ => []
  | .inventory _ _ _ _ => []
  | .stayQuiet _ => []
  | .select _ => []
  | .resetToReady _ => []
  | .readSingleBlock _ block => [(block.toNat, 2 ^ 16)]
  | .readMultipleBlocks _ block count => [(block.toNat, 2 ^ 16), (count.toNat, 2 ^ 16)]
  | .writeSingleBlock _ block value _ _ => [(block.toNat, 2 ^ 16), (value.toNat, 2 ^ 32)]
  | .getSystemInformation _ => []
  | .unsupportedTagCommand _ => []
  | .tpwd _ password => [(password.toNat, 2 ^ 32)]
  | .tauth1 _ keyNo ra => [(keyNo.toNat, 2 ^ 8), (ra.toNat, 2 ^ 64)]
  | .tauth2 _ cipher => [(cipher.toNat, 2 ^ 128)]
  | .tlogout _ => []
  | .tstat _ => []
  | .hold _ => []
  | .holdTimeout => []
  | .ndefRewrite _ => []
  | .loadpwd _ => []
  | .loadkey _ => []
  | .tfailclr => []
  | .tagMemoryHostWrite off value => [(off.toNat, 2 ^ 13), (value.toNat, 2 ^ 32)]
  | .apply => []
  | .wallTimeSync _ => []
  | .wallTimeExpiry => []
  | .go _ tariff scope => [(tariff.toNat, 2 ^ 5), (scope.toNat, 2 ^ 8)]
  | .clrq scope => [(scope.toNat, 2 ^ 8)]
  | .tariffSwitchFire => []
  | .intervalClose e => [(e.val, 25)]
  | .tamperChange input _ => [(input.val, 5)]
  | .ledgerGroupRequest cls _ => [(cls.val, 3)]
  | .ledgerCommit => []
  | .meterTick => []
  | .retainedNearLimit => []
  | .pageCopy region slot => [(region.val, 4), (slot.toNat, 2 ^ 26)]
  | .pageCopyDone _ => []
  | .roundStart => []
  | .pass _ => []
  | .roundEnd => []
  | .bandCBurst _ => []
  | .joinreq eui _ _ _ => [(eui.toNat, 2 ^ 64)]
  | .nodeConfirmTimeout n => [(n.val, 63)]
  | .restart => []
  | .read addr _ => [(addr.toNat, 2 ^ 32)]
  | .write addr _ _ => [(addr.toNat, 2 ^ 32)]
  | .status => []
  | .fifoRead _ => []
  | .fifoWrite _ => []
  | .unknownSpiCommand cmd => [(cmd.toNat, 2 ^ 8)]
  | .fifoPointerMismatch _ _ => []
  | .dnrst => []
  | .uprst => []
  | .hmiSessionOpen p _ => [(p.val, 4)]
  | .hmiRead p seq addr count => [(p.val, 5), (seq.toNat, 2 ^ 32), (addr.toNat, 2 ^ 32), (count.toNat, 2 ^ 16)]
  | .hmiWrite p seq addr _ => [(p.val, 5), (seq.toNat, 2 ^ 32), (addr.toNat, 2 ^ 32)]
  | .subscribe p seq streams n => [(p.val, 5), (seq.toNat, 2 ^ 32), (streams.toNat, 2 ^ 16), (n.toNat, 2 ^ 16)]
  | .ledger p seq region first count => [(p.val, 5), (seq.toNat, 2 ^ 32), (region.toNat, 2 ^ 8), (first.toNat, 2 ^ 64), (count.toNat, 2 ^ 32)]
  | .afril p seq node _ => [(p.val, 5), (seq.toNat, 2 ^ 32), (node.toNat, 2 ^ 8)]
  | .sealed p seq _ => [(p.val, 5), (seq.toNat, 2 ^ 32)]
  | .badFrameHeader p => [(p.val, 5)]
  | .unknownFrameType p seq type _ => [(p.val, 5), (seq.toNat, 2 ^ 32), (type.toNat, 2 ^ 8)]
  | .hostFrameDrop p type => [(p.val, 5), (type.toNat, 2 ^ 8)]
  | .transparentClockForward ingress egress _ _ => [(ingress.val, 4), (egress.val, 4)]
  | .ptpMessage _ => []
  | .ptpHoldover => []
  | .compareFire k => [(k.val, 2)]
  | .templateSend n => [(n.val, 24)]
  | .moduleStatusRx n echo fault vact iact => [(n.val, 24), (echo.toNat, 2 ^ 8), (fault.toNat, 2 ^ 8), (vact.toNat, 2 ^ 16), (iact.toNat, 2 ^ 16)]
  | .canErrorStateChange k state tec rec_ => [(k.val, 4), (state.val, 3), (tec.toNat, 2 ^ 8), (rec_.toNat, 2 ^ 8)]
  | .modbusTransaction dev outcome => [(dev.val, 16), (outcome.val, 4)]
  | .sunspecDiscovery dev _ => [(dev.val, 16)]
  | .ethernetLinkChange k speed => [(k.val, 4), (speed.val, 4)]
  | .planActivate keyId planId planVer legalCv => [(keyId.toNat, 2 ^ 64), (planId.toNat, 2 ^ 32), (planVer.toNat, 2 ^ 32), (legalCv.toNat, 2 ^ 32)]
  | .meuCalibrate keyId fnom _ => [(keyId.toNat, 2 ^ 64), (fnom.toNat, 2 ^ 16)]
  | .bluHwmReset keyId => [(keyId.toNat, 2 ^ 64)]
  | .tamperConfig keyId ten tpol => [(keyId.toNat, 2 ^ 64), (ten.toNat, 2 ^ 8), (tpol.toNat, 2 ^ 8)]
  | .sealAck keyId => [(keyId.toNat, 2 ^ 64)]
  | .safeConfirm keyId value => [(keyId.toNat, 2 ^ 64), (value.toNat, 2 ^ 32)]
  | .lgsRetention keyId days tick => [(keyId.toNat, 2 ^ 64), (days.toNat, 2 ^ 16), (tick.toNat, 2 ^ 8)]
  | .lgsAck keyId first last hash => [(keyId.toNat, 2 ^ 64), (first.toNat, 2 ^ 64), (last.toNat, 2 ^ 64), (hash.toNat, 2 ^ 256)]
  | .keyGen keyId slot ktype => [(keyId.toNat, 2 ^ 64), (slot.toNat, 2 ^ 8), (ktype.toNat, 2 ^ 8)]
  | .keyLoad keyId slot ktype _ => [(keyId.toNat, 2 ^ 64), (slot.toNat, 2 ^ 8), (ktype.toNat, 2 ^ 8)]
  | .keyCommit keyId slot shadow => [(keyId.toNat, 2 ^ 64), (slot.toNat, 2 ^ 8), (shadow.toNat, 2 ^ 64)]
  | .keyAbort keyId slot => [(keyId.toNat, 2 ^ 64), (slot.toNat, 2 ^ 8)]
  | .keyErase keyId slot => [(keyId.toNat, 2 ^ 64), (slot.toNat, 2 ^ 8)]
  | .lifecycle keyId newState _ => [(keyId.toNat, 2 ^ 64), (newState.toNat, 2 ^ 8)]
  | .debugUnlock keyId _ => [(keyId.toNat, 2 ^ 64)]
  | .firmwareKeyCommit slot _ _ => [(slot.val, 128)]
  | .cryptoOperationDone slot use error queued => [(slot.val, 128), (use.val, 4), (error.toNat, 2 ^ 8), (queued.val, 65)]
  | .remaskPass _ => []
  | .drbgReseed => []
  | .entropyTestFailure _ => []
  | .update => []
  | .displayTest => []
  | .displayUpdateDone vdh vdl _ => [(vdh.toNat, 2 ^ 16), (vdl.toNat, 2 ^ 16)]
  | .driveVoltageFault vdh vdl _ => [(vdh.toNat, 2 ^ 16), (vdl.toNat, 2 ^ 16)]
  | .driveVoltageResume vdh vdl => [(vdh.toNat, 2 ^ 16), (vdl.toNat, 2 ^ 16)]
  | .lanternStopLatch n => [(n.val, 24)]
  | .lanternCommit n => [(n.val, 24)]
  | .vinLoss _ => []
  | .supplyDip _ => []
  | .powerFailure cause => [(cause.val, 3)]
  | .holdupEnd => []
  | .restoration => []
  | .basecampLoss => []
  | .vbatMeasure mv => [(mv.toNat, 2 ^ 16)]
  | .xtal32Check _ _ => []
  | .crystalProven _ => []
  | .crystalNotProven => []
  | .crystalFailure kind => [(kind.val, 3)]
  | .pllLockLoss => []
  | .start win ref meas => [(win, 32), (ref.val, 16), (meas.val, 16)]
  | .frequencyMeasurementDone _ => []
  | .clockEnableWrite value => [(value.toNat, 2 ^ 32)]
  | .warmResetCommand m key => [(m.val, 22), (key.toNat, 2 ^ 8)]
  | .coldResetCommand key => [(key.toNat, 2 ^ 8)]
  | .safetyRestartCommand key => [(key.toNat, 2 ^ 8)]
  | .unitResetCommand key unit index => [(key.toNat, 2 ^ 8), (unit.toNat, 2 ^ 8), (index.toNat, 2 ^ 8)]
  | .unitResetEnd unit index => [(unit.toNat, 2 ^ 8), (index.toNat, 2 ^ 8)]
  | .warmReset cause => [(cause.val, 4)]
  | .coldStart secRow _ => [(secRow.val, 20)]
  | .firmwareRunning => []
  | .imageCheckDone _ => []
  | .kick m => [(m.val, 22)]
  | .watchdogExpiry => []
  | .healthy => []
  | .take => []
  | .guyHoldExpiry => []
  | .lifeAccounting _ _ _ flash0 flash1 => [(flash0.toNat, 2 ^ 32), (flash1.toNat, 2 ^ 32)]
  | .load => []
  | .updateStaged _ => []
  | .activate => []
  | .cancel => []
  | .confirm => []
  | .fallback => []
  | .drainStart => []
  | .nodeImageDeadline => []
  | .nodeActivateSend => []
  | .updateActivation => []
  | .activationReset => []
  | .trialComplete => []
  | .nodeVersionTimeout => []
  | .mediumRemoved => []
  | .ocppFirmwareRequest _ => []
  | .pilotSample n _ _ => [(n.val, 24)]
  | .shortPulseRejected n => [(n.val, 64)]
  | .t1sLinkChange k _ => [(k.val, 8)]
  | .ocppAuthorisationResult n _ => [(n.val, 24)]
  | .ocppCertificateAnswer n => [(n.val, 24)]
  | .bankDroopEnd k vnow vmean => [(k.val, 4), (vnow.toNat, 2 ^ 16), (vmean.toNat, 2 ^ 16)]
  | .vsioUndervoltageEnd => []
  | .uptoExpiry => []
  | .hmiSessionClose p => [(p.val, 4)]
  | .modbusTcpReconnect dev => [(dev.val, 16)]
  | .firmwareKeyGen slot ktype _ => [(slot.val, 128), (ktype.val, 16)]
  | .holdupMeasurementDone microfarad => [(microfarad.toNat, 2 ^ 16)]
  | .basecampSourceChange src => [(src.val, 3)]
  | .fallbackRestoreDone => []
  | .fallbackReset => []
  | .abandonRestoreDone => []
  | .mediumInserted _ _ => []

namespace OperandsInRange

/-- Every number that a well-formed command's operands hold lies in its range. -/
def Statement (i : Instr) : Prop := i.wf = true → ∀ p ∈ ranges i, p.1 < p.2

theorem masterAccess (m : Fin 22) (supervisor : Bool) (kind : AccessKind) (addr : BitVec 32) (value : BitVec 32) : Statement (.masterAccess m supervisor kind addr value) :=
  fun _ => List.forall_mem_cons.2 ⟨m.isLt, List.forall_mem_cons.2 ⟨addr.isLt, List.forall_mem_cons.2 ⟨value.isLt, fun _ h => nomatch h⟩⟩⟩
theorem fabRelease (mask : BitVec 22) : Statement (.fabRelease mask) :=
  fun _ => List.forall_mem_cons.2 ⟨mask.isLt, fun _ h => nomatch h⟩
theorem fabVpop : Statement (.fabVpop) :=
  fun _ _ hp => nomatch hp
theorem a0FreezeEscalation : Statement (.a0FreezeEscalation) :=
  fun _ _ hp => nomatch hp
theorem snap (u : UnitId) (inst : Nat) : Statement (.snap u inst) := by
  intro h p hp
  have e : p = (inst, 24) := List.mem_singleton.1 hp
  subst e
  unfold Instr.wf at h
  dsimp only at h
  split at h
  · exact of_decide_eq_true h
  · have e : inst = 0 := by simpa using h
    subst e
    exact Nat.zero_lt_succ _
theorem registerWrite (addr : BitVec 32) (value : BitVec 32) : Statement (.registerWrite addr value) :=
  fun _ => List.forall_mem_cons.2 ⟨addr.isLt, List.forall_mem_cons.2 ⟨value.isLt, fun _ h => nomatch h⟩⟩
theorem admissionRequest (stream : BitVec 16) (cls : Fin 16) : Statement (.admissionRequest stream cls) :=
  fun _ => List.forall_mem_cons.2 ⟨stream.isLt, List.forall_mem_cons.2 ⟨cls.isLt, fun _ h => nomatch h⟩⟩
theorem streamEnd (stream : BitVec 16) : Statement (.streamEnd stream) :=
  fun _ => List.forall_mem_cons.2 ⟨stream.isLt, fun _ h => nomatch h⟩
theorem engineFrameBoundary (e : Fin 6) : Statement (.engineFrameBoundary e) :=
  fun _ => List.forall_mem_cons.2 ⟨e.isLt, fun _ h => nomatch h⟩
theorem sliceRun (e : Fin 6) (index : BitVec 16) (done : Option Nat) : Statement (.sliceRun e index done) :=
  fun _ => List.forall_mem_cons.2 ⟨e.isLt, List.forall_mem_cons.2 ⟨index.isLt, fun _ h => nomatch h⟩⟩
theorem plan (p : Fin 5) (seq : BitVec 32) (offset : BitVec 32) (totlen : BitVec 32) (bytes : List (BitVec 8)) : Statement (.plan p seq offset totlen bytes) :=
  fun _ => List.forall_mem_cons.2 ⟨p.isLt, List.forall_mem_cons.2 ⟨seq.isLt, List.forall_mem_cons.2 ⟨offset.isLt, List.forall_mem_cons.2 ⟨totlen.isLt, fun _ h => nomatch h⟩⟩⟩⟩
theorem planVerifyDone : Statement (.planVerifyDone) :=
  fun _ _ hp => nomatch hp
theorem pplVerifyAgain : Statement (.pplVerifyAgain) :=
  fun _ _ hp => nomatch hp
theorem pplActivate : Statement (.pplActivate) :=
  fun _ _ hp => nomatch hp
theorem pplDiscard : Statement (.pplDiscard) :=
  fun _ _ hp => nomatch hp
theorem planActivation : Statement (.planActivation) :=
  fun _ _ hp => nomatch hp
theorem outletsIdle : Statement (.outletsIdle) :=
  fun _ _ hp => nomatch hp
theorem pilotPeriodBoundary (n : Fin 24) : Statement (.pilotPeriodBoundary n) :=
  fun _ => List.forall_mem_cons.2 ⟨n.isLt, fun _ h => nomatch h⟩
theorem pilotStateConfirm (n : Fin 24) (vhi : Int) : Statement (.pilotStateConfirm n vhi) :=
  fun _ => List.forall_mem_cons.2 ⟨n.isLt, fun _ h => nomatch h⟩
theorem lowLevelClassConfirm (n : Fin 24) (vlo : Int) : Statement (.lowLevelClassConfirm n vlo) :=
  fun _ => List.forall_mem_cons.2 ⟨n.isLt, fun _ h => nomatch h⟩
theorem ppBandConfirm (n : Fin 24) (ohm : Nat) : Statement (.ppBandConfirm n ohm) :=
  fun h => List.forall_mem_cons.2 ⟨n.isLt, List.forall_mem_cons.2 ⟨of_decide_eq_true h, fun _ h => nomatch h⟩⟩
theorem lock (n : Fin 24) : Statement (.lock n) :=
  fun _ => List.forall_mem_cons.2 ⟨n.isLt, fun _ h => nomatch h⟩
theorem unlock (n : Fin 24) : Statement (.unlock n) :=
  fun _ => List.forall_mem_cons.2 ⟨n.isLt, fun _ h => nomatch h⟩
theorem lkpulseEnd (n : Fin 24) : Statement (.lkpulseEnd n) :=
  fun _ => List.forall_mem_cons.2 ⟨n.isLt, fun _ h => nomatch h⟩
theorem lockFeedbackConfirmed (n : Fin 24) (closed : Bool) : Statement (.lockFeedbackConfirmed n closed) :=
  fun _ => List.forall_mem_cons.2 ⟨n.isLt, fun _ h => nomatch h⟩
theorem lkconfExpiry (n : Fin 24) : Statement (.lkconfExpiry n) :=
  fun _ => List.forall_mem_cons.2 ⟨n.isLt, fun _ h => nomatch h⟩
theorem lockRetry (n : Fin 24) : Statement (.lockRetry n) :=
  fun _ => List.forall_mem_cons.2 ⟨n.isLt, fun _ h => nomatch h⟩
theorem lockFeedbackOpen (n : Fin 24) : Statement (.lockFeedbackOpen n) :=
  fun _ => List.forall_mem_cons.2 ⟨n.isLt, fun _ h => nomatch h⟩
theorem closeEn (n : Fin 24) (en : Bool) : Statement (.closeEn n en) :=
  fun _ => List.forall_mem_cons.2 ⟨n.isLt, fun _ h => nomatch h⟩
theorem weldtExpiry (n : Fin 24) (closed : Bool) : Statement (.weldtExpiry n closed) :=
  fun _ => List.forall_mem_cons.2 ⟨n.isLt, fun _ h => nomatch h⟩
theorem closeFeedbackTimeout (n : Fin 24) (closed : Bool) : Statement (.closeFeedbackTimeout n closed) :=
  fun _ => List.forall_mem_cons.2 ⟨n.isLt, fun _ h => nomatch h⟩
theorem c1maxExpiry (n : Fin 24) : Statement (.c1maxExpiry n) :=
  fun _ => List.forall_mem_cons.2 ⟨n.isLt, fun _ h => nomatch h⟩
theorem fHoldExpiry (n : Fin 24) : Statement (.fHoldExpiry n) :=
  fun _ => List.forall_mem_cons.2 ⟨n.isLt, fun _ h => nomatch h⟩
theorem oiuFaultClear (n : Fin 24) (weld : Bool) (lockf : Bool) : Statement (.oiuFaultClear n weld lockf) :=
  fun _ => List.forall_mem_cons.2 ⟨n.isLt, fun _ h => nomatch h⟩
theorem temperatureEvaluation (n : Fin 24) (ta : Int) (tb : Int) : Statement (.temperatureEvaluation n ta tb) :=
  fun _ => List.forall_mem_cons.2 ⟨n.isLt, fun _ h => nomatch h⟩
theorem temperatureCutOpen (n : Fin 24) : Statement (.temperatureCutOpen n) :=
  fun _ => List.forall_mem_cons.2 ⟨n.isLt, fun _ h => nomatch h⟩
theorem zreqShutdownRelease (n : Fin 24) : Statement (.zreqShutdownRelease n) :=
  fun _ => List.forall_mem_cons.2 ⟨n.isLt, fun _ h => nomatch h⟩
theorem hlcFallback (n : Fin 24) : Statement (.hlcFallback n) :=
  fun _ => List.forall_mem_cons.2 ⟨n.isLt, fun _ h => nomatch h⟩
theorem fallbackPwmResume (n : Fin 24) : Statement (.fallbackPwmResume n) :=
  fun _ => List.forall_mem_cons.2 ⟨n.isLt, fun _ h => nomatch h⟩
theorem emberEntry : Statement (.emberEntry) :=
  fun _ _ hp => nomatch hp
theorem emberExit (n : Fin 24) : Statement (.emberExit n) :=
  fun _ => List.forall_mem_cons.2 ⟨n.isLt, fun _ h => nomatch h⟩
theorem vehicleFrameReceived (n : Fin 24) (fecError : Bool) (message : Option V2gMsg) : Statement (.vehicleFrameReceived n fecError message) :=
  fun _ => List.forall_mem_cons.2 ⟨n.isLt, fun _ h => nomatch h⟩
theorem transmitEncode (n : Fin 24) (micros : Nat) : Statement (.transmitEncode n micros) :=
  fun _ => List.forall_mem_cons.2 ⟨n.isLt, fun _ h => nomatch h⟩
theorem cmSlacParmReq (run : Nat) (heard : BitVec 24) : Statement (.cmSlacParmReq run heard) :=
  fun _ => List.forall_mem_cons.2 ⟨heard.isLt, fun _ h => nomatch h⟩
theorem cmStartAttenCharInd (run : Nat) : Statement (.cmStartAttenCharInd run) :=
  fun _ _ hp => nomatch hp
theorem soundWindowClose (run : Nat) (sounds : List (Nat × Nat × List Nat)) : Statement (.soundWindowClose run sounds) :=
  fun _ _ hp => nomatch hp
theorem cmSlacMatchReq (run : Nat) (n : Fin 24) : Statement (.cmSlacMatchReq run n) :=
  fun _ => List.forall_mem_cons.2 ⟨n.isLt, fun _ h => nomatch h⟩
theorem linkJoined (n : Fin 24) : Statement (.linkJoined n) :=
  fun _ => List.forall_mem_cons.2 ⟨n.isLt, fun _ h => nomatch h⟩
theorem slacTimerExpiry (n : Fin 24) : Statement (.slacTimerExpiry n) :=
  fun _ => List.forall_mem_cons.2 ⟨n.isLt, fun _ h => nomatch h⟩
theorem slacRetry (n : Fin 24) : Statement (.slacRetry n) :=
  fun _ => List.forall_mem_cons.2 ⟨n.isLt, fun _ h => nomatch h⟩
theorem t1sLinkDown (k : Fin 8) : Statement (.t1sLinkDown k) :=
  fun _ => List.forall_mem_cons.2 ⟨k.isLt, fun _ h => nomatch h⟩
theorem sdpRequest (n : Fin 24) (tls : Bool) : Statement (.sdpRequest n tls) :=
  fun _ => List.forall_mem_cons.2 ⟨n.isLt, fun _ h => nomatch h⟩
theorem supportedAppProtocol (n : Fin 24) (offers : List Nat) (val : V2gVal) (exi : List Nat) : Statement (.supportedAppProtocol n offers val exi) :=
  fun _ => List.forall_mem_cons.2 ⟨n.isLt, fun _ h => nomatch h⟩
theorem v2gRequest (n : Fin 24) (m : V2gMsg) : Statement (.v2gRequest n m) :=
  fun _ => List.forall_mem_cons.2 ⟨n.isLt, fun _ h => nomatch h⟩
theorem v2gTimeout (n : Fin 24) (kind : Fin 4) : Statement (.v2gTimeout n kind) :=
  fun _ => List.forall_mem_cons.2 ⟨n.isLt, List.forall_mem_cons.2 ⟨kind.isLt, fun _ h => nomatch h⟩⟩
theorem certificateForwardTimeout (n : Fin 24) : Statement (.certificateForwardTimeout n) :=
  fun _ => List.forall_mem_cons.2 ⟨n.isLt, fun _ h => nomatch h⟩
theorem stop (n : Fin 24) : Statement (.stop n) :=
  fun _ => List.forall_mem_cons.2 ⟨n.isLt, fun _ h => nomatch h⟩
theorem pause (n : Fin 24) : Statement (.pause n) :=
  fun _ => List.forall_mem_cons.2 ⟨n.isLt, fun _ h => nomatch h⟩
theorem renegotiate (n : Fin 24) : Statement (.renegotiate n) :=
  fun _ => List.forall_mem_cons.2 ⟨n.isLt, fun _ h => nomatch h⟩
theorem loopResponderAnswer (n : Fin 24) : Statement (.loopResponderAnswer n) :=
  fun _ => List.forall_mem_cons.2 ⟨n.isLt, fun _ h => nomatch h⟩
theorem offloadRestart : Statement (.offloadRestart) :=
  fun _ _ hp => nomatch hp
theorem meteringBoundary : Statement (.meteringBoundary) :=
  fun _ _ hp => nomatch hp
theorem channelSlice (n : Fin 64) (bits : List Bool) : Statement (.channelSlice n bits) :=
  fun _ => List.forall_mem_cons.2 ⟨n.isLt, fun _ h => nomatch h⟩
theorem modulatorFault (n : Fin 64) (noClock : Bool) : Statement (.modulatorFault n noClock) :=
  fun _ => List.forall_mem_cons.2 ⟨n.isLt, fun _ h => nomatch h⟩
theorem modulatorFaultEnd (n : Fin 64) : Statement (.modulatorFaultEnd n) :=
  fun _ => List.forall_mem_cons.2 ⟨n.isLt, fun _ h => nomatch h⟩
theorem zeroCrossing (n : Fin 64) : Statement (.zeroCrossing n) :=
  fun _ => List.forall_mem_cons.2 ⟨n.isLt, fun _ h => nomatch h⟩
theorem zeroCrossingTimeout (n : Fin 64) : Statement (.zeroCrossingTimeout n) :=
  fun _ => List.forall_mem_cons.2 ⟨n.isLt, fun _ h => nomatch h⟩
theorem pulseCounted (n : Fin 64) : Statement (.pulseCounted n) :=
  fun _ => List.forall_mem_cons.2 ⟨n.isLt, fun _ h => nomatch h⟩
theorem pkclr (n : Fin 64) : Statement (.pkclr n) :=
  fun _ => List.forall_mem_cons.2 ⟨n.isLt, fun _ h => nomatch h⟩
theorem meuFreeze : Statement (.meuFreeze) :=
  fun _ _ hp => nomatch hp
theorem rcmSlice (c : Fin 24) (counts : Int) : Statement (.rcmSlice c counts) :=
  fun _ => List.forall_mem_cons.2 ⟨c.isLt, fun _ h => nomatch h⟩
theorem rcmTrip (c : Fin 24) (band : Fin 6) : Statement (.rcmTrip c band) :=
  fun _ => List.forall_mem_cons.2 ⟨c.isLt, List.forall_mem_cons.2 ⟨band.isLt, fun _ h => nomatch h⟩⟩
theorem tripclr (c : Fin 24) : Statement (.tripclr c) :=
  fun _ => List.forall_mem_cons.2 ⟨c.isLt, fun _ h => nomatch h⟩
theorem lockclr (imd : Bool) (c : Fin 24) : Statement (.lockclr imd c) :=
  fun _ => List.forall_mem_cons.2 ⟨c.isLt, fun _ h => nomatch h⟩
theorem test (imd : Bool) (c : Fin 24) : Statement (.test imd c) :=
  fun _ => List.forall_mem_cons.2 ⟨c.isLt, fun _ h => nomatch h⟩
theorem cal (c : Fin 24) (counts : Nat) : Statement (.cal c counts) :=
  fun _ => List.forall_mem_cons.2 ⟨c.isLt, fun _ h => nomatch h⟩
theorem rcmSelfTestDone (c : Fin 24) (realCurrent : Bool) : Statement (.rcmSelfTestDone c realCurrent) :=
  fun _ => List.forall_mem_cons.2 ⟨c.isLt, fun _ h => nomatch h⟩
theorem rcmSelfTestRetry (c : Fin 24) : Statement (.rcmSelfTestRetry c) :=
  fun _ => List.forall_mem_cons.2 ⟨c.isLt, fun _ h => nomatch h⟩
theorem dailySelfTest (imd : Bool) (c : Fin 24) : Statement (.dailySelfTest imd c) :=
  fun _ => List.forall_mem_cons.2 ⟨c.isLt, fun _ h => nomatch h⟩
theorem rcmSensorFault (c : Fin 24) (sense : Bool) : Statement (.rcmSensorFault c sense) :=
  fun _ => List.forall_mem_cons.2 ⟨c.isLt, fun _ h => nomatch h⟩
theorem imdHalfPeriod (k : Fin 12) (i1 : Int) (i2 : Int) (i3 : Int) : Statement (.imdHalfPeriod k i1 i2 i3) :=
  fun _ => List.forall_mem_cons.2 ⟨k.isLt, fun _ h => nomatch h⟩
theorem poleCheckTrip (k : Fin 12) (vpos : Int) (vneg : Int) : Statement (.poleCheckTrip k vpos vneg) :=
  fun _ => List.forall_mem_cons.2 ⟨k.isLt, fun _ h => nomatch h⟩
theorem couplingOpen (k : Fin 12) (vpos : Int) (vneg : Int) : Statement (.couplingOpen k vpos vneg) :=
  fun _ => List.forall_mem_cons.2 ⟨k.isLt, fun _ h => nomatch h⟩
theorem imdSelfTestDone (k : Fin 12) (sourceFail : Bool) : Statement (.imdSelfTestDone k sourceFail) :=
  fun _ => List.forall_mem_cons.2 ⟨k.isLt, fun _ h => nomatch h⟩
theorem cableCheckStart (n : Fin 24) : Statement (.cableCheckStart n) :=
  fun _ => List.forall_mem_cons.2 ⟨n.isLt, fun _ h => nomatch h⟩
theorem cableCheckResult (k : Fin 12) : Statement (.cableCheckResult k) :=
  fun _ => List.forall_mem_cons.2 ⟨k.isLt, fun _ h => nomatch h⟩
theorem allocatorCycle : Statement (.allocatorCycle) :=
  fun _ _ hp => nomatch hp
theorem cycleAbandon : Statement (.cycleAbandon) :=
  fun _ _ hp => nomatch hp
theorem breachClear : Statement (.breachClear) :=
  fun _ _ hp => nomatch hp
theorem moduleLost (n : Fin 24) (cause : Fin 3) : Statement (.moduleLost n cause) :=
  fun _ => List.forall_mem_cons.2 ⟨n.isLt, List.forall_mem_cons.2 ⟨cause.isLt, fun _ h => nomatch h⟩⟩
theorem moduleLostCloseDrop (n : Fin 24) : Statement (.moduleLostCloseDrop n) :=
  fun _ => List.forall_mem_cons.2 ⟨n.isLt, fun _ h => nomatch h⟩
theorem sunspecPoll (solar : Bool) (data : Option SunData) : Statement (.sunspecPoll solar data) :=
  fun _ _ hp => nomatch hp
theorem ocppChargingProfile (p : OcppProfile) : Statement (.ocppChargingProfile p) :=
  fun _ _ hp => nomatch hp
theorem channelTurnOn (c : Fin 32) : Statement (.channelTurnOn c) :=
  fun _ => List.forall_mem_cons.2 ⟨c.isLt, fun _ h => nomatch h⟩
theorem channelTurnOff (c : Fin 32) : Statement (.channelTurnOff c) :=
  fun _ => List.forall_mem_cons.2 ⟨c.isLt, fun _ h => nomatch h⟩
theorem inrushSlotGrant (k : Fin 4) : Statement (.inrushSlotGrant k) :=
  fun _ => List.forall_mem_cons.2 ⟨k.isLt, fun _ h => nomatch h⟩
theorem inrushWindowEnd (c : Fin 32) (limiting : Bool) : Statement (.inrushWindowEnd c limiting) :=
  fun _ => List.forall_mem_cons.2 ⟨c.isLt, fun _ h => nomatch h⟩
theorem shortCircuit (c : Fin 32) (limited : Bool) (millivolts : Nat) : Statement (.shortCircuit c limited millivolts) :=
  fun _ => List.forall_mem_cons.2 ⟨c.isLt, fun _ h => nomatch h⟩
theorem overcurrent (c : Fin 32) (load : List LoadSpan) : Statement (.overcurrent c load) :=
  fun _ => List.forall_mem_cons.2 ⟨c.isLt, fun _ h => nomatch h⟩
theorem overtemperature (c : Fin 32) (junction : Nat) : Statement (.overtemperature c junction) :=
  fun _ => List.forall_mem_cons.2 ⟨c.isLt, fun _ h => nomatch h⟩
theorem retryPauseEnd (c : Fin 32) (junction : Nat) : Statement (.retryPauseEnd c junction) :=
  fun _ => List.forall_mem_cons.2 ⟨c.isLt, fun _ h => nomatch h⟩
theorem triesReset (c : Fin 32) : Statement (.triesReset c) :=
  fun _ => List.forall_mem_cons.2 ⟨c.isLt, fun _ h => nomatch h⟩
theorem latchclr (c : Fin 32) : Statement (.latchclr c) :=
  fun _ => List.forall_mem_cons.2 ⟨c.isLt, fun _ h => nomatch h⟩
theorem bankDroop (k : Fin 4) (vnow : BitVec 16) (vmean : BitVec 16) : Statement (.bankDroop k vnow vmean) :=
  fun _ => List.forall_mem_cons.2 ⟨k.isLt, List.forall_mem_cons.2 ⟨vnow.isLt, List.forall_mem_cons.2 ⟨vmean.isLt, fun _ h => nomatch h⟩⟩⟩
theorem bankUndervoltage (k : Fin 4) (vnow : BitVec 16) : Statement (.bankUndervoltage k vnow) :=
  fun _ => List.forall_mem_cons.2 ⟨k.isLt, List.forall_mem_cons.2 ⟨vnow.isLt, fun _ h => nomatch h⟩⟩
theorem bankUndervoltageEnd (k : Fin 4) (vnow : BitVec 16) : Statement (.bankUndervoltageEnd k vnow) :=
  fun _ => List.forall_mem_cons.2 ⟨k.isLt, List.forall_mem_cons.2 ⟨vnow.isLt, fun _ h => nomatch h⟩⟩
theorem bankOvercurrent (k : Fin 4) (milliamps : List Nat) (micros : Nat) : Statement (.bankOvercurrent k milliamps micros) :=
  fun _ => List.forall_mem_cons.2 ⟨k.isLt, fun _ h => nomatch h⟩
theorem openLoadChange (c : Fin 32) (millivolts : Nat) : Statement (.openLoadChange c millivolts) :=
  fun _ => List.forall_mem_cons.2 ⟨c.isLt, fun _ h => nomatch h⟩
theorem pwmFrame (c : Fin 32) (vmean : BitVec 16) : Statement (.pwmFrame c vmean) :=
  fun _ => List.forall_mem_cons.2 ⟨c.isLt, List.forall_mem_cons.2 ⟨vmean.isLt, fun _ h => nomatch h⟩⟩
theorem gseCycle (encoder : Option (Nat × Nat × Bool)) : Statement (.gseCycle encoder) :=
  fun _ _ hp => nomatch hp
theorem safetyInputConfirm (inp : Fin 16) (samples : List Bool) : Statement (.safetyInputConfirm inp samples) :=
  fun _ => List.forall_mem_cons.2 ⟨inp.isLt, fun _ h => nomatch h⟩
theorem testPulse (k : Fin 4) (reads : PulseReads) : Statement (.testPulse k reads) :=
  fun _ => List.forall_mem_cons.2 ⟨k.isLt, List.forall_mem_cons.2 ⟨reads.low.isLt, List.forall_mem_cons.2 ⟨reads.late.isLt, fun _ h => nomatch h⟩⟩⟩
theorem discrepancyTimeout (k : Fin 16) : Statement (.discrepancyTimeout k) :=
  fun _ => List.forall_mem_cons.2 ⟨k.isLt, fun _ h => nomatch h⟩
theorem stopdlyExpiry (k : Fin 16) : Statement (.stopdlyExpiry k) :=
  fun _ => List.forall_mem_cons.2 ⟨k.isLt, fun _ h => nomatch h⟩
theorem resetPulse (inp : Fin 16) (ms : Nat) : Statement (.resetPulse inp ms) :=
  fun _ => List.forall_mem_cons.2 ⟨inp.isLt, fun _ h => nomatch h⟩
theorem edmFault (k : Fin 16) : Statement (.edmFault k) :=
  fun _ => List.forall_mem_cons.2 ⟨k.isLt, fun _ h => nomatch h⟩
theorem unlkdlyExpiry (k : Fin 16) : Statement (.unlkdlyExpiry k) :=
  fun _ => List.forall_mem_cons.2 ⟨k.isLt, fun _ h => nomatch h⟩
theorem mutingStart (k : Fin 16) : Statement (.mutingStart k) :=
  fun _ => List.forall_mem_cons.2 ⟨k.isLt, fun _ h => nomatch h⟩
theorem mutingEnd (k : Fin 16) : Statement (.mutingEnd k) :=
  fun _ => List.forall_mem_cons.2 ⟨k.isLt, fun _ h => nomatch h⟩
theorem mutmaxExpiry (k : Fin 16) : Statement (.mutmaxExpiry k) :=
  fun _ => List.forall_mem_cons.2 ⟨k.isLt, fun _ h => nomatch h⟩
theorem gseFault (code : Fin 8) : Statement (.gseFault code) :=
  fun _ => List.forall_mem_cons.2 ⟨code.isLt, fun _ h => nomatch h⟩
theorem soDriveExpiry (k : Fin 4) : Statement (.soDriveExpiry k) :=
  fun _ => List.forall_mem_cons.2 ⟨k.isLt, fun _ h => nomatch h⟩
theorem vsioUndervoltage : Statement (.vsioUndervoltage) :=
  fun _ _ hp => nomatch hp
theorem gseStartupTestsDone (failed : Fin 10) (inputs : BitVec 16) : Statement (.gseStartupTestsDone failed inputs) :=
  fun _ => List.forall_mem_cons.2 ⟨failed.isLt, List.forall_mem_cons.2 ⟨inputs.isLt, fun _ h => nomatch h⟩⟩
theorem safeConfirmTimeout : Statement (.safeConfirmTimeout) :=
  fun _ _ hp => nomatch hp
theorem antennaEnable (k : Fin 4) : Statement (.antennaEnable k) :=
  fun _ => List.forall_mem_cons.2 ⟨k.isLt, fun _ h => nomatch h⟩
theorem antennaDisable (k : Fin 4) : Statement (.antennaDisable k) :=
  fun _ => List.forall_mem_cons.2 ⟨k.isLt, fun _ h => nomatch h⟩
theorem antennaSlice (k : Fin 4) (r : AntennaResult) : Statement (.antennaSlice k r) :=
  fun _ => List.forall_mem_cons.2 ⟨k.isLt, fun _ h => nomatch h⟩
theorem cardExchange (k : Fin 4) (request : List Nat) (outcome : Fin 3) (answer : List Nat) : Statement (.cardExchange k request outcome answer) :=
  fun _ => List.forall_mem_cons.2 ⟨k.isLt, List.forall_mem_cons.2 ⟨outcome.isLt, fun _ h => nomatch h⟩⟩
theorem exchangeBreak (k : Fin 4) : Statement (.exchangeBreak k) :=
  fun _ => List.forall_mem_cons.2 ⟨k.isLt, fun _ h => nomatch h⟩
theorem tagFieldOn : Statement (.tagFieldOn) :=
  fun _ _ hp => nomatch hp
theorem tagFieldLoss : Statement (.tagFieldLoss) :=
  fun _ _ hp => nomatch hp
theorem tagPowerUp (reservoir : Bool) : Statement (.tagPowerUp reservoir) :=
  fun _ _ hp => nomatch hp
theorem inventory (req : TagRequest) (mask : Nat) (len : Nat) (afi : Option Nat) : Statement (.inventory req mask len afi) :=
  fun _ _ hp => nomatch hp
theorem stayQuiet (req : TagRequest) : Statement (.stayQuiet req) :=
  fun _ _ hp => nomatch hp
theorem select (req : TagRequest) : Statement (.select req) :=
  fun _ _ hp => nomatch hp
theorem resetToReady (req : TagRequest) : Statement (.resetToReady req) :=
  fun _ _ hp => nomatch hp
theorem readSingleBlock (req : TagRequest) (block : BitVec 16) : Statement (.readSingleBlock req block) :=
  fun _ => List.forall_mem_cons.2 ⟨block.isLt, fun _ h => nomatch h⟩
theorem readMultipleBlocks (req : TagRequest) (block : BitVec 16) (count : BitVec 16) : Statement (.readMultipleBlocks req block count) :=
  fun _ => List.forall_mem_cons.2 ⟨block.isLt, List.forall_mem_cons.2 ⟨count.isLt, fun _ h => nomatch h⟩⟩
theorem writeSingleBlock (req : TagRequest) (block : BitVec 16) (value : BitVec 32) (reservoir : Bool) (cut : Option WriteCut) : Statement (.writeSingleBlock req block value reservoir cut) :=
  fun _ => List.forall_mem_cons.2 ⟨block.isLt, List.forall_mem_cons.2 ⟨value.isLt, fun _ h => nomatch h⟩⟩
theorem getSystemInformation (req : TagRequest) : Statement (.getSystemInformation req) :=
  fun _ _ hp => nomatch hp
theorem unsupportedTagCommand (req : TagRequest) : Statement (.unsupportedTagCommand req) :=
  fun _ _ hp => nomatch hp
theorem tpwd (req : TagRequest) (password : BitVec 32) : Statement (.tpwd req password) :=
  fun _ => List.forall_mem_cons.2 ⟨password.isLt, fun _ h => nomatch h⟩
theorem tauth1 (req : TagRequest) (keyNo : BitVec 8) (ra : BitVec 64) : Statement (.tauth1 req keyNo ra) :=
  fun _ => List.forall_mem_cons.2 ⟨keyNo.isLt, List.forall_mem_cons.2 ⟨ra.isLt, fun _ h => nomatch h⟩⟩
theorem tauth2 (req : TagRequest) (cipher : BitVec 128) : Statement (.tauth2 req cipher) :=
  fun _ => List.forall_mem_cons.2 ⟨cipher.isLt, fun _ h => nomatch h⟩
theorem tlogout (req : TagRequest) : Statement (.tlogout req) :=
  fun _ _ hp => nomatch hp
theorem tstat (req : TagRequest) : Statement (.tstat req) :=
  fun _ _ hp => nomatch hp
theorem hold (on : Bool) : Statement (.hold on) :=
  fun _ _ hp => nomatch hp
theorem holdTimeout : Statement (.holdTimeout) :=
  fun _ _ hp => nomatch hp
theorem ndefRewrite (cut : Option (Fin 3)) : Statement (.ndefRewrite cut) :=
  fun _ _ hp => nomatch hp
theorem loadpwd (loss : Bool) : Statement (.loadpwd loss) :=
  fun _ _ hp => nomatch hp
theorem loadkey (loss : Bool) : Statement (.loadkey loss) :=
  fun _ _ hp => nomatch hp
theorem tfailclr : Statement (.tfailclr) :=
  fun _ _ hp => nomatch hp
theorem tagMemoryHostWrite (off : BitVec 13) (value : BitVec 32) : Statement (.tagMemoryHostWrite off value) :=
  fun _ => List.forall_mem_cons.2 ⟨off.isLt, List.forall_mem_cons.2 ⟨value.isLt, fun _ h => nomatch h⟩⟩
theorem apply : Statement (.apply) :=
  fun _ _ hp => nomatch hp
theorem wallTimeSync (ptp : Bool) : Statement (.wallTimeSync ptp) :=
  fun _ _ hp => nomatch hp
theorem wallTimeExpiry : Statement (.wallTimeExpiry) :=
  fun _ _ hp => nomatch hp
theorem go (isNow : Bool) (tariff : BitVec 5) (scope : BitVec 8) : Statement (.go isNow tariff scope) :=
  fun _ => List.forall_mem_cons.2 ⟨tariff.isLt, List.forall_mem_cons.2 ⟨scope.isLt, fun _ h => nomatch h⟩⟩
theorem clrq (scope : BitVec 8) : Statement (.clrq scope) :=
  fun _ => List.forall_mem_cons.2 ⟨scope.isLt, fun _ h => nomatch h⟩
theorem tariffSwitchFire : Statement (.tariffSwitchFire) :=
  fun _ _ hp => nomatch hp
theorem intervalClose (e : Fin 25) : Statement (.intervalClose e) :=
  fun _ => List.forall_mem_cons.2 ⟨e.isLt, fun _ h => nomatch h⟩
theorem tamperChange (input : Fin 5) (ohms : List Nat) : Statement (.tamperChange input ohms) :=
  fun _ => List.forall_mem_cons.2 ⟨input.isLt, fun _ h => nomatch h⟩
theorem ledgerGroupRequest (cls : Fin 3) (recs : List RecData) : Statement (.ledgerGroupRequest cls recs) :=
  fun _ => List.forall_mem_cons.2 ⟨cls.isLt, fun _ h => nomatch h⟩
theorem ledgerCommit : Statement (.ledgerCommit) :=
  fun _ _ hp => nomatch hp
theorem meterTick : Statement (.meterTick) :=
  fun _ _ hp => nomatch hp
theorem retainedNearLimit : Statement (.retainedNearLimit) :=
  fun _ _ hp => nomatch hp
theorem pageCopy (region : Fin 4) (slot : BitVec 26) : Statement (.pageCopy region slot) :=
  fun _ => List.forall_mem_cons.2 ⟨region.isLt, List.forall_mem_cons.2 ⟨slot.isLt, fun _ h => nomatch h⟩⟩
theorem pageCopyDone (changed : List (Nat × List Nat)) : Statement (.pageCopyDone changed) :=
  fun _ _ hp => nomatch hp
theorem roundStart : Statement (.roundStart) :=
  fun _ _ hp => nomatch hp
theorem pass (ups : List AlkUp) : Statement (.pass ups) :=
  fun _ _ hp => nomatch hp
theorem roundEnd : Statement (.roundEnd) :=
  fun _ _ hp => nomatch hp
theorem bandCBurst (deferMs : Nat) : Statement (.bandCBurst deferMs) :=
  fun _ _ hp => nomatch hp
theorem joinreq (eui : BitVec 64) (relay : Option (Fin 63)) (cost : Nat) (collided : Bool) : Statement (.joinreq eui relay cost collided) :=
  fun _ => List.forall_mem_cons.2 ⟨eui.isLt, fun _ h => nomatch h⟩
theorem nodeConfirmTimeout (n : Fin 63) : Statement (.nodeConfirmTimeout n) :=
  fun _ => List.forall_mem_cons.2 ⟨n.isLt, fun _ h => nomatch h⟩
theorem restart : Statement (.restart) :=
  fun _ _ hp => nomatch hp
theorem read (addr : BitVec 32) (count : Nat) : Statement (.read addr count) :=
  fun _ => List.forall_mem_cons.2 ⟨addr.isLt, fun _ h => nomatch h⟩
theorem write (addr : BitVec 32) (words : List (BitVec 32)) (partialWord : Bool) : Statement (.write addr words partialWord) :=
  fun _ => List.forall_mem_cons.2 ⟨addr.isLt, fun _ h => nomatch h⟩
theorem status : Statement (.status) :=
  fun _ _ hp => nomatch hp
theorem fifoRead (count : Nat) : Statement (.fifoRead count) :=
  fun _ _ hp => nomatch hp
theorem fifoWrite (bytes : List (BitVec 8)) : Statement (.fifoWrite bytes) :=
  fun _ _ hp => nomatch hp
theorem unknownSpiCommand (cmd : BitVec 8) : Statement (.unknownSpiCommand cmd) :=
  fun _ => List.forall_mem_cons.2 ⟨cmd.isLt, fun _ h => nomatch h⟩
theorem fifoPointerMismatch (up : Bool) (copies : List (Nat × Nat)) : Statement (.fifoPointerMismatch up copies) :=
  fun _ _ hp => nomatch hp
theorem dnrst : Statement (.dnrst) :=
  fun _ _ hp => nomatch hp
theorem uprst : Statement (.uprst) :=
  fun _ _ hp => nomatch hp
theorem hmiSessionOpen (p : Fin 4) (alert : Option (BitVec 8)) : Statement (.hmiSessionOpen p alert) :=
  fun _ => List.forall_mem_cons.2 ⟨p.isLt, fun _ h => nomatch h⟩
theorem hmiRead (p : Fin 5) (seq : BitVec 32) (addr : BitVec 32) (count : BitVec 16) : Statement (.hmiRead p seq addr count) :=
  fun _ => List.forall_mem_cons.2 ⟨p.isLt, List.forall_mem_cons.2 ⟨seq.isLt, List.forall_mem_cons.2 ⟨addr.isLt, List.forall_mem_cons.2 ⟨count.isLt, fun _ h => nomatch h⟩⟩⟩⟩
theorem hmiWrite (p : Fin 5) (seq : BitVec 32) (addr : BitVec 32) (words : List (BitVec 32)) : Statement (.hmiWrite p seq addr words) :=
  fun _ => List.forall_mem_cons.2 ⟨p.isLt, List.forall_mem_cons.2 ⟨seq.isLt, List.forall_mem_cons.2 ⟨addr.isLt, fun _ h => nomatch h⟩⟩⟩
theorem subscribe (p : Fin 5) (seq : BitVec 32) (streams : BitVec 16) (n : BitVec 16) : Statement (.subscribe p seq streams n) :=
  fun _ => List.forall_mem_cons.2 ⟨p.isLt, List.forall_mem_cons.2 ⟨seq.isLt, List.forall_mem_cons.2 ⟨streams.isLt, List.forall_mem_cons.2 ⟨n.isLt, fun _ h => nomatch h⟩⟩⟩⟩
theorem ledger (p : Fin 5) (seq : BitVec 32) (region : BitVec 8) (first : BitVec 64) (count : BitVec 32) : Statement (.ledger p seq region first count) :=
  fun _ => List.forall_mem_cons.2 ⟨p.isLt, List.forall_mem_cons.2 ⟨seq.isLt, List.forall_mem_cons.2 ⟨region.isLt, List.forall_mem_cons.2 ⟨first.isLt, List.forall_mem_cons.2 ⟨count.isLt, fun _ h => nomatch h⟩⟩⟩⟩⟩
theorem afril (p : Fin 5) (seq : BitVec 32) (node : BitVec 8) (message : List (BitVec 8)) : Statement (.afril p seq node message) :=
  fun _ => List.forall_mem_cons.2 ⟨p.isLt, List.forall_mem_cons.2 ⟨seq.isLt, List.forall_mem_cons.2 ⟨node.isLt, fun _ h => nomatch h⟩⟩⟩
theorem sealed (p : Fin 5) (seq : BitVec 32) (payload : List (BitVec 8)) : Statement (.sealed p seq payload) :=
  fun _ => List.forall_mem_cons.2 ⟨p.isLt, List.forall_mem_cons.2 ⟨seq.isLt, fun _ h => nomatch h⟩⟩
theorem badFrameHeader (p : Fin 5) : Statement (.badFrameHeader p) :=
  fun _ => List.forall_mem_cons.2 ⟨p.isLt, fun _ h => nomatch h⟩
theorem unknownFrameType (p : Fin 5) (seq : BitVec 32) (type : BitVec 8) (payload : List (BitVec 8)) : Statement (.unknownFrameType p seq type payload) :=
  fun _ => List.forall_mem_cons.2 ⟨p.isLt, List.forall_mem_cons.2 ⟨seq.isLt, List.forall_mem_cons.2 ⟨type.isLt, fun _ h => nomatch h⟩⟩⟩
theorem hostFrameDrop (p : Fin 5) (type : BitVec 8) : Statement (.hostFrameDrop p type) :=
  fun _ => List.forall_mem_cons.2 ⟨p.isLt, List.forall_mem_cons.2 ⟨type.isLt, fun _ h => nomatch h⟩⟩
theorem transparentClockForward (ingress : Fin 4) (egress : Fin 4) (residence : Nat) (m : TcMsg) : Statement (.transparentClockForward ingress egress residence m) :=
  fun _ => List.forall_mem_cons.2 ⟨ingress.isLt, List.forall_mem_cons.2 ⟨egress.isLt, fun _ h => nomatch h⟩⟩
theorem ptpMessage (m : PtpMsg) : Statement (.ptpMessage m) :=
  fun _ _ hp => nomatch hp
theorem ptpHoldover : Statement (.ptpHoldover) :=
  fun _ _ hp => nomatch hp
theorem compareFire (k : Fin 2) : Statement (.compareFire k) :=
  fun _ => List.forall_mem_cons.2 ⟨k.isLt, fun _ h => nomatch h⟩
theorem templateSend (n : Fin 24) : Statement (.templateSend n) :=
  fun _ => List.forall_mem_cons.2 ⟨n.isLt, fun _ h => nomatch h⟩
theorem moduleStatusRx (n : Fin 24) (echo : BitVec 8) (fault : BitVec 8) (vact : BitVec 16) (iact : BitVec 16) : Statement (.moduleStatusRx n echo fault vact iact) :=
  fun _ => List.forall_mem_cons.2 ⟨n.isLt, List.forall_mem_cons.2 ⟨echo.isLt, List.forall_mem_cons.2 ⟨fault.isLt, List.forall_mem_cons.2 ⟨vact.isLt, List.forall_mem_cons.2 ⟨iact.isLt, fun _ h => nomatch h⟩⟩⟩⟩⟩
theorem canErrorStateChange (k : Fin 4) (state : Fin 3) (tec : BitVec 8) (rec_ : BitVec 8) : Statement (.canErrorStateChange k state tec rec_) :=
  fun _ => List.forall_mem_cons.2 ⟨k.isLt, List.forall_mem_cons.2 ⟨state.isLt, List.forall_mem_cons.2 ⟨tec.isLt, List.forall_mem_cons.2 ⟨rec_.isLt, fun _ h => nomatch h⟩⟩⟩⟩
theorem modbusTransaction (dev : Fin 16) (outcome : Fin 4) : Statement (.modbusTransaction dev outcome) :=
  fun _ => List.forall_mem_cons.2 ⟨dev.isLt, List.forall_mem_cons.2 ⟨outcome.isLt, fun _ h => nomatch h⟩⟩
theorem sunspecDiscovery (dev : Fin 16) (models : Option (List (BitVec 16))) : Statement (.sunspecDiscovery dev models) :=
  fun _ => List.forall_mem_cons.2 ⟨dev.isLt, fun _ h => nomatch h⟩
theorem ethernetLinkChange (k : Fin 4) (speed : Fin 4) : Statement (.ethernetLinkChange k speed) :=
  fun _ => List.forall_mem_cons.2 ⟨k.isLt, List.forall_mem_cons.2 ⟨speed.isLt, fun _ h => nomatch h⟩⟩
theorem planActivate (keyId : BitVec 64) (planId : BitVec 32) (planVer : BitVec 32) (legalCv : BitVec 32) : Statement (.planActivate keyId planId planVer legalCv) :=
  fun _ => List.forall_mem_cons.2 ⟨keyId.isLt, List.forall_mem_cons.2 ⟨planId.isLt, List.forall_mem_cons.2 ⟨planVer.isLt, List.forall_mem_cons.2 ⟨legalCv.isLt, fun _ h => nomatch h⟩⟩⟩⟩
theorem meuCalibrate (keyId : BitVec 64) (fnom : BitVec 16) (recs : List (BitVec 8 × BitVec 128)) : Statement (.meuCalibrate keyId fnom recs) :=
  fun _ => List.forall_mem_cons.2 ⟨keyId.isLt, List.forall_mem_cons.2 ⟨fnom.isLt, fun _ h => nomatch h⟩⟩
theorem bluHwmReset (keyId : BitVec 64) : Statement (.bluHwmReset keyId) :=
  fun _ => List.forall_mem_cons.2 ⟨keyId.isLt, fun _ h => nomatch h⟩
theorem tamperConfig (keyId : BitVec 64) (ten : BitVec 8) (tpol : BitVec 8) : Statement (.tamperConfig keyId ten tpol) :=
  fun _ => List.forall_mem_cons.2 ⟨keyId.isLt, List.forall_mem_cons.2 ⟨ten.isLt, List.forall_mem_cons.2 ⟨tpol.isLt, fun _ h => nomatch h⟩⟩⟩
theorem sealAck (keyId : BitVec 64) : Statement (.sealAck keyId) :=
  fun _ => List.forall_mem_cons.2 ⟨keyId.isLt, fun _ h => nomatch h⟩
theorem safeConfirm (keyId : BitVec 64) (value : BitVec 32) : Statement (.safeConfirm keyId value) :=
  fun _ => List.forall_mem_cons.2 ⟨keyId.isLt, List.forall_mem_cons.2 ⟨value.isLt, fun _ h => nomatch h⟩⟩
theorem lgsRetention (keyId : BitVec 64) (days : BitVec 16) (tick : BitVec 8) : Statement (.lgsRetention keyId days tick) :=
  fun _ => List.forall_mem_cons.2 ⟨keyId.isLt, List.forall_mem_cons.2 ⟨days.isLt, List.forall_mem_cons.2 ⟨tick.isLt, fun _ h => nomatch h⟩⟩⟩
theorem lgsAck (keyId : BitVec 64) (first : BitVec 64) (last : BitVec 64) (hash : BitVec 256) : Statement (.lgsAck keyId first last hash) :=
  fun _ => List.forall_mem_cons.2 ⟨keyId.isLt, List.forall_mem_cons.2 ⟨first.isLt, List.forall_mem_cons.2 ⟨last.isLt, List.forall_mem_cons.2 ⟨hash.isLt, fun _ h => nomatch h⟩⟩⟩⟩
theorem keyGen (keyId : BitVec 64) (slot : BitVec 8) (ktype : BitVec 8) : Statement (.keyGen keyId slot ktype) :=
  fun _ => List.forall_mem_cons.2 ⟨keyId.isLt, List.forall_mem_cons.2 ⟨slot.isLt, List.forall_mem_cons.2 ⟨ktype.isLt, fun _ h => nomatch h⟩⟩⟩
theorem keyLoad (keyId : BitVec 64) (slot : BitVec 8) (ktype : BitVec 8) (rest : List (BitVec 8)) : Statement (.keyLoad keyId slot ktype rest) :=
  fun _ => List.forall_mem_cons.2 ⟨keyId.isLt, List.forall_mem_cons.2 ⟨slot.isLt, List.forall_mem_cons.2 ⟨ktype.isLt, fun _ h => nomatch h⟩⟩⟩
theorem keyCommit (keyId : BitVec 64) (slot : BitVec 8) (shadow : BitVec 64) : Statement (.keyCommit keyId slot shadow) :=
  fun _ => List.forall_mem_cons.2 ⟨keyId.isLt, List.forall_mem_cons.2 ⟨slot.isLt, List.forall_mem_cons.2 ⟨shadow.isLt, fun _ h => nomatch h⟩⟩⟩
theorem keyAbort (keyId : BitVec 64) (slot : BitVec 8) : Statement (.keyAbort keyId slot) :=
  fun _ => List.forall_mem_cons.2 ⟨keyId.isLt, List.forall_mem_cons.2 ⟨slot.isLt, fun _ h => nomatch h⟩⟩
theorem keyErase (keyId : BitVec 64) (slot : BitVec 8) : Statement (.keyErase keyId slot) :=
  fun _ => List.forall_mem_cons.2 ⟨keyId.isLt, List.forall_mem_cons.2 ⟨slot.isLt, fun _ h => nomatch h⟩⟩
theorem lifecycle (keyId : BitVec 64) (newState : BitVec 8) (pub : List (BitVec 8)) : Statement (.lifecycle keyId newState pub) :=
  fun _ => List.forall_mem_cons.2 ⟨keyId.isLt, List.forall_mem_cons.2 ⟨newState.isLt, fun _ h => nomatch h⟩⟩
theorem debugUnlock (keyId : BitVec 64) (xroot : List (BitVec 8)) : Statement (.debugUnlock keyId xroot) :=
  fun _ => List.forall_mem_cons.2 ⟨keyId.isLt, fun _ h => nomatch h⟩
theorem firmwareKeyCommit (slot : Fin 128) (subject : List (BitVec 8)) (chain : CertChain) : Statement (.firmwareKeyCommit slot subject chain) :=
  fun _ => List.forall_mem_cons.2 ⟨slot.isLt, fun _ h => nomatch h⟩
theorem cryptoOperationDone (slot : Fin 128) (use : Fin 4) (error : BitVec 8) (queued : Fin 65) : Statement (.cryptoOperationDone slot use error queued) :=
  fun _ => List.forall_mem_cons.2 ⟨slot.isLt, List.forall_mem_cons.2 ⟨use.isLt, List.forall_mem_cons.2 ⟨error.isLt, List.forall_mem_cons.2 ⟨queued.isLt, fun _ h => nomatch h⟩⟩⟩⟩
theorem remaskPass (seconds : Nat) : Statement (.remaskPass seconds) :=
  fun _ _ hp => nomatch hp
theorem drbgReseed : Statement (.drbgReseed) :=
  fun _ _ hp => nomatch hp
theorem entropyTestFailure (adaptive : Bool) : Statement (.entropyTestFailure adaptive) :=
  fun _ _ hp => nomatch hp
theorem update : Statement (.update) :=
  fun _ _ hp => nomatch hp
theorem displayTest : Statement (.displayTest) :=
  fun _ _ hp => nomatch hp
theorem displayUpdateDone (vdh : BitVec 16) (vdl : BitVec 16) (copies : List (Nat × Int)) : Statement (.displayUpdateDone vdh vdl copies) :=
  fun _ => List.forall_mem_cons.2 ⟨vdh.isLt, List.forall_mem_cons.2 ⟨vdl.isLt, fun _ h => nomatch h⟩⟩
theorem driveVoltageFault (vdh : BitVec 16) (vdl : BitVec 16) (rows : Nat) : Statement (.driveVoltageFault vdh vdl rows) :=
  fun _ => List.forall_mem_cons.2 ⟨vdh.isLt, List.forall_mem_cons.2 ⟨vdl.isLt, fun _ h => nomatch h⟩⟩
theorem driveVoltageResume (vdh : BitVec 16) (vdl : BitVec 16) : Statement (.driveVoltageResume vdh vdl) :=
  fun _ => List.forall_mem_cons.2 ⟨vdh.isLt, List.forall_mem_cons.2 ⟨vdl.isLt, fun _ h => nomatch h⟩⟩
theorem lanternStopLatch (n : Fin 24) : Statement (.lanternStopLatch n) :=
  fun _ => List.forall_mem_cons.2 ⟨n.isLt, fun _ h => nomatch h⟩
theorem lanternCommit (n : Fin 24) : Statement (.lanternCommit n) :=
  fun _ => List.forall_mem_cons.2 ⟨n.isLt, fun _ h => nomatch h⟩
theorem vinLoss (kind : VinState) : Statement (.vinLoss kind) :=
  fun _ _ hp => nomatch hp
theorem supplyDip (ms : Nat) : Statement (.supplyDip ms) :=
  fun _ _ hp => nomatch hp
theorem powerFailure (cause : Fin 3) : Statement (.powerFailure cause) :=
  fun _ => List.forall_mem_cons.2 ⟨cause.isLt, fun _ h => nomatch h⟩
theorem holdupEnd : Statement (.holdupEnd) :=
  fun _ _ hp => nomatch hp
theorem restoration : Statement (.restoration) :=
  fun _ _ hp => nomatch hp
theorem basecampLoss : Statement (.basecampLoss) :=
  fun _ _ hp => nomatch hp
theorem vbatMeasure (mv : BitVec 16) : Statement (.vbatMeasure mv) :=
  fun _ => List.forall_mem_cons.2 ⟨mv.isLt, fun _ h => nomatch h⟩
theorem xtal32Check (good : Bool) (settled : Bool) : Statement (.xtal32Check good settled) :=
  fun _ _ hp => nomatch hp
theorem crystalProven (tenMicros : Nat) : Statement (.crystalProven tenMicros) :=
  fun _ _ hp => nomatch hp
theorem crystalNotProven : Statement (.crystalNotProven) :=
  fun _ _ hp => nomatch hp
theorem crystalFailure (kind : Fin 3) : Statement (.crystalFailure kind) :=
  fun _ => List.forall_mem_cons.2 ⟨kind.isLt, fun _ h => nomatch h⟩
theorem pllLockLoss : Statement (.pllLockLoss) :=
  fun _ _ hp => nomatch hp
theorem start (win : Nat) (ref : Fin 16) (meas : Fin 16) : Statement (.start win ref meas) :=
  fun h => List.forall_mem_cons.2 ⟨of_decide_eq_true h, List.forall_mem_cons.2 ⟨ref.isLt, List.forall_mem_cons.2 ⟨meas.isLt, fun _ h => nomatch h⟩⟩⟩
theorem frequencyMeasurementDone (count : Nat) : Statement (.frequencyMeasurementDone count) :=
  fun _ _ hp => nomatch hp
theorem clockEnableWrite (value : BitVec 32) : Statement (.clockEnableWrite value) :=
  fun _ => List.forall_mem_cons.2 ⟨value.isLt, fun _ h => nomatch h⟩
theorem warmResetCommand (m : Fin 22) (key : BitVec 8) : Statement (.warmResetCommand m key) :=
  fun _ => List.forall_mem_cons.2 ⟨m.isLt, List.forall_mem_cons.2 ⟨key.isLt, fun _ h => nomatch h⟩⟩
theorem coldResetCommand (key : BitVec 8) : Statement (.coldResetCommand key) :=
  fun _ => List.forall_mem_cons.2 ⟨key.isLt, fun _ h => nomatch h⟩
theorem safetyRestartCommand (key : BitVec 8) : Statement (.safetyRestartCommand key) :=
  fun _ => List.forall_mem_cons.2 ⟨key.isLt, fun _ h => nomatch h⟩
theorem unitResetCommand (key : BitVec 8) (unit : BitVec 8) (index : BitVec 8) : Statement (.unitResetCommand key unit index) :=
  fun _ => List.forall_mem_cons.2 ⟨key.isLt, List.forall_mem_cons.2 ⟨unit.isLt, List.forall_mem_cons.2 ⟨index.isLt, fun _ h => nomatch h⟩⟩⟩
theorem unitResetEnd (unit : BitVec 8) (index : BitVec 8) : Statement (.unitResetEnd unit index) :=
  fun _ => List.forall_mem_cons.2 ⟨unit.isLt, List.forall_mem_cons.2 ⟨index.isLt, fun _ h => nomatch h⟩⟩
theorem warmReset (cause : Fin 4) : Statement (.warmReset cause) :=
  fun _ => List.forall_mem_cons.2 ⟨cause.isLt, fun _ h => nomatch h⟩
theorem coldStart (secRow : Fin 20) (microFail : Bool) : Statement (.coldStart secRow microFail) :=
  fun _ => List.forall_mem_cons.2 ⟨secRow.isLt, fun _ h => nomatch h⟩
theorem firmwareRunning : Statement (.firmwareRunning) :=
  fun _ _ hp => nomatch hp
theorem imageCheckDone (pass : Bool) : Statement (.imageCheckDone pass) :=
  fun _ _ hp => nomatch hp
theorem kick (m : Fin 22) : Statement (.kick m) :=
  fun _ => List.forall_mem_cons.2 ⟨m.isLt, fun _ h => nomatch h⟩
theorem watchdogExpiry : Statement (.watchdogExpiry) :=
  fun _ _ hp => nomatch hp
theorem healthy : Statement (.healthy) :=
  fun _ _ hp => nomatch hp
theorem take : Statement (.take) :=
  fun _ _ hp => nomatch hp
theorem guyHoldExpiry : Statement (.guyHoldExpiry) :=
  fun _ _ hp => nomatch hp
theorem lifeAccounting (tmean : Int) (tnow : Int) (peak : Int) (flash0 : BitVec 32) (flash1 : BitVec 32) : Statement (.lifeAccounting tmean tnow peak flash0 flash1) :=
  fun _ => List.forall_mem_cons.2 ⟨flash0.isLt, List.forall_mem_cons.2 ⟨flash1.isLt, fun _ h => nomatch h⟩⟩
theorem load : Statement (.load) :=
  fun _ _ hp => nomatch hp
theorem updateStaged (writeFail : Option (Fin 64)) : Statement (.updateStaged writeFail) :=
  fun _ _ hp => nomatch hp
theorem activate : Statement (.activate) :=
  fun _ _ hp => nomatch hp
theorem cancel : Statement (.cancel) :=
  fun _ _ hp => nomatch hp
theorem confirm : Statement (.confirm) :=
  fun _ _ hp => nomatch hp
theorem fallback : Statement (.fallback) :=
  fun _ _ hp => nomatch hp
theorem drainStart : Statement (.drainStart) :=
  fun _ _ hp => nomatch hp
theorem nodeImageDeadline : Statement (.nodeImageDeadline) :=
  fun _ _ hp => nomatch hp
theorem nodeActivateSend : Statement (.nodeActivateSend) :=
  fun _ _ hp => nomatch hp
theorem updateActivation : Statement (.updateActivation) :=
  fun _ _ hp => nomatch hp
theorem activationReset : Statement (.activationReset) :=
  fun _ _ hp => nomatch hp
theorem trialComplete : Statement (.trialComplete) :=
  fun _ _ hp => nomatch hp
theorem nodeVersionTimeout : Statement (.nodeVersionTimeout) :=
  fun _ _ hp => nomatch hp
theorem mediumRemoved : Statement (.mediumRemoved) :=
  fun _ _ hp => nomatch hp
theorem ocppFirmwareRequest (v2 : Bool) : Statement (.ocppFirmwareRequest v2) :=
  fun _ _ hp => nomatch hp
theorem pilotSample (n : Fin 24) (vhi : Int) (vlo : Option Int) : Statement (.pilotSample n vhi vlo) :=
  fun _ => List.forall_mem_cons.2 ⟨n.isLt, fun _ h => nomatch h⟩
theorem shortPulseRejected (n : Fin 64) : Statement (.shortPulseRejected n) :=
  fun _ => List.forall_mem_cons.2 ⟨n.isLt, fun _ h => nomatch h⟩
theorem t1sLinkChange (k : Fin 8) (up : Bool) : Statement (.t1sLinkChange k up) :=
  fun _ => List.forall_mem_cons.2 ⟨k.isLt, fun _ h => nomatch h⟩
theorem ocppAuthorisationResult (n : Fin 24) (accepted : Bool) : Statement (.ocppAuthorisationResult n accepted) :=
  fun _ => List.forall_mem_cons.2 ⟨n.isLt, fun _ h => nomatch h⟩
theorem ocppCertificateAnswer (n : Fin 24) : Statement (.ocppCertificateAnswer n) :=
  fun _ => List.forall_mem_cons.2 ⟨n.isLt, fun _ h => nomatch h⟩
theorem bankDroopEnd (k : Fin 4) (vnow : BitVec 16) (vmean : BitVec 16) : Statement (.bankDroopEnd k vnow vmean) :=
  fun _ => List.forall_mem_cons.2 ⟨k.isLt, List.forall_mem_cons.2 ⟨vnow.isLt, List.forall_mem_cons.2 ⟨vmean.isLt, fun _ h => nomatch h⟩⟩⟩
theorem vsioUndervoltageEnd : Statement (.vsioUndervoltageEnd) :=
  fun _ _ hp => nomatch hp
theorem uptoExpiry : Statement (.uptoExpiry) :=
  fun _ _ hp => nomatch hp
theorem hmiSessionClose (p : Fin 4) : Statement (.hmiSessionClose p) :=
  fun _ => List.forall_mem_cons.2 ⟨p.isLt, fun _ h => nomatch h⟩
theorem modbusTcpReconnect (dev : Fin 16) : Statement (.modbusTcpReconnect dev) :=
  fun _ => List.forall_mem_cons.2 ⟨dev.isLt, fun _ h => nomatch h⟩
theorem firmwareKeyGen (slot : Fin 128) (ktype : Fin 16) (testOk : Bool) : Statement (.firmwareKeyGen slot ktype testOk) :=
  fun _ => List.forall_mem_cons.2 ⟨slot.isLt, List.forall_mem_cons.2 ⟨ktype.isLt, fun _ h => nomatch h⟩⟩
theorem holdupMeasurementDone (microfarad : BitVec 16) : Statement (.holdupMeasurementDone microfarad) :=
  fun _ => List.forall_mem_cons.2 ⟨microfarad.isLt, fun _ h => nomatch h⟩
theorem basecampSourceChange (src : Fin 3) : Statement (.basecampSourceChange src) :=
  fun _ => List.forall_mem_cons.2 ⟨src.isLt, fun _ h => nomatch h⟩
theorem fallbackRestoreDone : Statement (.fallbackRestoreDone) :=
  fun _ _ hp => nomatch hp
theorem fallbackReset : Statement (.fallbackReset) :=
  fun _ _ hp => nomatch hp
theorem abandonRestoreDone : Statement (.abandonRestoreDone) :=
  fun _ _ hp => nomatch hp
theorem mediumInserted (manifest : Option (List (BitVec 8))) (files : List (List (BitVec 8) × List (BitVec 8))) : Statement (.mediumInserted manifest files) :=
  fun _ _ hp => nomatch hp

end OperandsInRange

end Sys2Proof.Laws
end

