-- ==== Sys2Proof/Laws/Power.lean ====
section
/-! SUPPORT. Laws of power failure and of the resets (chapter 17). -/

namespace Sys2Proof.Machine

open Sys2Proof

/-- The units that a declared power failure acts in, after its event. -/
def pfParts : List Part := [.unit .oiu, .unit .efu, .unit .psw, .unit .gse, .unit .blu, .unit .lgs, .unit .alk, .unit .dse, .unit .meu, .allocator]

/-- The state of the BCU at a declared power failure, with the event raised. -/
def State.pfBegun (s : State) (next : Option Nat) : State :=
  s.endHold.trialPause.setBcu { s.endHold.trialPause.bcu with phase := .commit, tpf := some s.endHold.trialPause.now, tpfLt := s.endHold.trialPause.ltime, commanded := next, wdt := none }

theorem State.pfBegun_later (s : State) (next : Option Nat) : Later s (s.pfBegun next) :=
  State.setBcu_later (State.trialPause_later (State.endHold_later (Later.refl s))) _

theorem State.endHold_now (s : State) : s.endHold.now = s.now := by
  unfold State.endHold State.showHold State.setBcu
  dsimp only
  split <;> rfl

theorem State.declarePf_begun (s : State) (arg : Nat) (next : Option Nat) :
    SameOutside pfParts ((s.pfBegun next).raise 0x0101 arg) (s.declarePf arg next) ∧ Later ((s.pfBegun next).raise 0x0101 arg) (s.declarePf arg next) := by
  constructor
  · unfold State.declarePf
    refine State.alkPowerFail_within (State.dsePowerFail_within ?_ rfl) rfl
    refine State.put_within (State.put_within ?_ _ _ _ rfl) _ _ _ rfl
    apply SameOutside.built (State.oiuPowerFail_within (State.swPowerFail_within (State.gsePowerFail_within
      (State.bluPowerFail_within (SameOutside.refl _ _) rfl) rfl) rfl) rfl)
    all_goals first
      | exact Or.inl rfl
      | exact Or.inr rfl
  · unfold State.declarePf
    refine State.alkPowerFail_later (State.dsePowerFail_later ?_)
    refine State.put_later (State.put_later ?_ _ _ _) _ _ _
    refine Later.built ?_ ?_ ?_ ?_
    rotate_left
    · exact rfl
    · exact rfl
    · exact rfl
    · exact State.oiuPowerFail_later (State.swPowerFail_later (State.gsePowerFail_later (State.bluPowerFail_later (Later.refl _))))

/-- What a declared power failure leaves (R448, R449). -/
theorem State.declarePf_spec (s : State) (arg : Nat) (next : Option Nat) (ha : arg < 65536) :
    Raises s (s.declarePf arg next) 0x0101 arg ∧ (s.declarePf arg next).bcu.phase = .commit ∧ (s.declarePf arg next).bcu.commanded = next ∧
      (s.declarePf arg next).bcu.tpf = some s.now ∧ (s.declarePf arg next).rd .BCU_STATUS_GHOLD 0 = 0 := by
  obtain ⟨w, l⟩ := s.declarePf_begun arg next
  have hb : (s.declarePf arg next).bcu = (s.pfBegun next).bcu := by
    rcases w.bcu with h | h
    · cases h
    · rw [h, State.raise_bcu]
  refine ⟨(Raises.last (s.pfBegun_later next) _ _ ha).mono (State.raise_later (s.pfBegun_later next) _ _) l, by rw [hb]; rfl, by rw [hb]; rfl, ?_, ?_⟩
  · rw [hb]
    show some s.endHold.now = _
    rw [s.endHold_now]
  · rw [w.regs _ _ rfl, State.raise_rd _ _ _ _ _ (by decide) (by decide)]
    show (s.showHold.put .BCU_STATUS_GHOLD 0 0).rd .BCU_STATUS_GHOLD 0 = 0
    rw [rd_put_zero]

theorem State.countWarm_spec (s : State) (c : Nat) (hc : c < 65536) :
    Raises s (s.countWarm c) 0x0104 c ∧ Later s (s.countWarm c) ∧ (s.countWarm c).rd .BCU_RSTCAUSE_CAUSE 0 = (5 + c) % 16 := by
  have k : Later s (if s.bcu.healthy then s else s.put .BCU_GHSTAT_UNHEALTHY 0 (s.rd .BCU_GHSTAT_UNHEALTHY 0 + 1)) := by
    split
    · exact Later.refl _
    · exact State.put_later (Later.refl _) _ _ _
  unfold State.countWarm
  refine ⟨Raises.last (State.put_later (State.count_later k _ _) _ _ _) _ _ hc,
    State.raise_later (State.put_later (State.count_later k _ _) _ _ _) _ _, ?_⟩
  rw [State.raise_rd _ _ _ _ _ (by decide) (by decide), rd_put_same]
  rfl

theorem each_same {γ : Type} (p : State → γ) (f : State → Nat → State) (hf : ∀ b a, p (f b a) = p b) (s : State) (l : List Nat) :
    p (s.each l f) = p s := by
  unfold State.each
  induction l generalizing s with
  | nil => rfl
  | cons a l ih => rw [List.foldl_cons, ih, hf]

theorem foldl_same {α : Type} {γ : Type} (p : State → γ) (f : State → α → State) (hf : ∀ b a, p (f b a) = p b) (s : State) (l : List α) :
    p (l.foldl f s) = p s := by
  induction l generalizing s with
  | nil => rfl
  | cons a l ih => rw [List.foldl_cons, ih, hf]

/-- The latches of the Guy hold hold outputs; no register changes with the capture. -/
theorem State.captureOutputs_regs (s : State) : s.captureOutputs.regs = s.regs := by
  unfold State.captureOutputs
  extract_lets out all
  have h1 : out.regs = s.regs := by
    refine each_same State.regs _ ?_ _ _
    intro b n
    refine foldl_same State.regs _ ?_ _ _
    intro b f
    rfl
  clear_value out
  have h2 : all.regs = out.regs := by
    refine each_same State.regs _ ?_ _ _
    intro b n
    rfl
  clear_value all
  exact h2.trans h1

theorem State.rd_of_regs {s t : State} (h : t.regs = s.regs) (f : Fld) (i : Nat) : t.rd f i = s.rd f i := by
  unfold State.rd
  rw [h]

/-- The Guy hold runs after its start. -/
theorem State.startHold_spec (s : State) : (s.startHold).flag .BCU_STATUS_GHOLD 0 = true := by
  unfold State.startHold
  split
  · assumption
  · generalize s.captureOutputs = x
    show ((x.put .BCU_STATUS_GHOLD 0 1).rd .BCU_STATUS_GHOLD 0 != 0) = true
    rw [rd_put_one]
    rfl

/-- The start of the Guy hold changes no other register. -/
theorem State.startHold_rd (s : State) (f : Fld) (i : Nat) (h : f ≠ .BCU_STATUS_GHOLD) : s.startHold.rd f i = s.rd f i := by
  unfold State.startHold
  split
  · rfl
  · have e := State.rd_of_regs s.captureOutputs_regs f i
    generalize s.captureOutputs = x at *
    show (x.put .BCU_STATUS_GHOLD 0 1).rd f i = s.rd f i
    rw [rd_put_fld _ _ _ _ _ _ h]
    exact e

/-- What the reset of the application domain leaves alone. -/
theorem State.resetApplication_spec (s : State) :
    s.resetApplication.bcu = s.bcu ∧ s.resetApplication.fab = s.fab ∧
      ∀ f i, f.unit = .fab ∨ f.unit = .bcu → s.resetApplication.rd f i = s.rd f i := by
  have h : SameOutside [.unit .sch, .unit .vce, .unit .clu, .unit .lgs, .unit .hpu, .unit .dse, .unit .upd, .allocator, .latches] s s.resetApplication :=
    State.resetApplication_within (SameOutside.refl _ _) rfl
  refine ⟨h.bcu.resolve_left (by decide), h.fab.resolve_left (by decide), fun f i hf => h.regs f i ?_⟩
  rcases hf with hf | hf <;> rw [hf] <;> rfl

/-- A release of every master leaves no frozen bit, no timer of A0 and no other register of the fabric or the BCU changed. -/
theorem State.thawAll_spec (s : State) : s.thawAll.rd .FAB_FROZEN_FROZEN 0 = 0 ∧ s.thawAll.fab.a0Timer = none ∧
    s.thawAll.rd .BCU_RSTCAUSE_CAUSE 0 = s.rd .BCU_RSTCAUSE_CAUSE 0 := by
  unfold State.thawAll
  extract_lets gse meu _ y
  have h : SameOutside [.unit .oiu, .unit .efu, .unit .psw, .unit .gse, .unit .meu, .unit .lgs, .allocator] y ((y.onlyIf gse State.gseRelease).onlyIf meu State.rejoinAll) :=
    State.onlyIf_within (fun x hx => State.rejoinAll_within hx rfl) (State.onlyIf_within (fun x hx => State.gseRelease_within hx rfl) (SameOutside.refl _ _))
  refine ⟨?_, ?_, ?_⟩
  · rw [h.regs _ _ rfl]
    show (State.put _ _ _ _).rd _ _ = _
    rw [rd_put_fld _ _ _ _ _ _ (by decide), rd_put_zero]
  · rw [h.fab.resolve_left (by decide)]
    rfl
  · rw [h.regs _ _ rfl]
    show (State.put _ _ _ _).rd _ _ = _
    rw [rd_put_fld _ _ _ _ _ _ (by decide), rd_put_fld _ _ _ _ _ _ (by decide)]
    rfl

/-- What a warm reset leaves where it does not become a crash-loop cold reset (R20, R462, R465, R467). -/
theorem State.warmReset_spec (s : State) (c : Nat) (hc : c < 65536) (hp : s.bcu.phase ≠ .off ∧ s.bcu.phase ≠ .commit ∧ s.bcu.phase ≠ .starting)
    (hu : s.bcu.healthy = true ∨ s.rd .BCU_GHSTAT_UNHEALTHY 0 < 3) :
    Raises s (s.warmReset c) 0x0104 c ∧ (s.warmReset c).bcu.phase = .warm ∧ (s.warmReset c).bcu.healthy = false ∧ (s.warmReset c).bcu.wdt = none ∧
      (s.warmReset c).rd .FAB_FROZEN_FROZEN 0 = 0 ∧ (s.warmReset c).fab.a0Timer = none ∧ (s.warmReset c).rd .BCU_RSTCAUSE_CAUSE 0 = (5 + c) % 16 ∧
      (s.warmReset c).flag .BCU_STATUS_GHOLD 0 = true := by
  have n1 : ¬(s.bcu.phase = .off ∨ s.bcu.phase = .commit ∨ s.bcu.phase = .starting) := by simp [hp]
  have n2 : ¬(s.bcu.healthy = false ∧ 3 ≤ s.rd .BCU_GHSTAT_UNHEALTHY 0) := by
    rintro ⟨h1, h2⟩
    rcases hu with h | h
    · rw [h1] at h; cases h
    · omega
  unfold State.warmReset
  rw [if_neg n1, if_neg n2]
  obtain ⟨r1, k1, c1⟩ := s.countWarm_spec c hc
  obtain ⟨f2, a2, c2⟩ := (s.countWarm c).thawAll_spec
  rw [c1] at c2
  have k2 : Later (s.countWarm c) (s.countWarm c).thawAll := State.thawAll_later (Later.refl _)
  generalize (s.countWarm c).thawAll = x at *
  have c3 := x.startHold_rd .BCU_RSTCAUSE_CAUSE 0 (by decide)
  have f3 := x.startHold_rd .FAB_FROZEN_FROZEN 0 (by decide)
  have g3 := x.startHold_spec
  have a3 : x.startHold.fab = x.fab :=
    (State.startHold_within (U := [.unit .bcu]) (SameOutside.refl _ _) rfl).fab.resolve_left (by decide)
  have k3 : Later (s.countWarm c) x.startHold := State.startHold_later k2
  generalize x.startHold = y at *
  have k4 : Later (s.countWarm c) (y.setBcu { y.bcu with phase := .warm, wdt := none, healthy := false }).resetApplication :=
    State.resetApplication_later (State.setBcu_later k3 _)
  obtain ⟨b5, f5, r5⟩ := State.resetApplication_spec (y.setBcu { y.bcu with phase := .warm, wdt := none, healthy := false })
  have r6 : ∀ f i, (y.setBcu { y.bcu with phase := .warm, wdt := none, healthy := false }).rd f i = y.rd f i := fun _ _ => rfl
  have f6 : (y.setBcu { y.bcu with phase := .warm, wdt := none, healthy := false }).fab = y.fab := rfl
  have b6 : (y.setBcu { y.bcu with phase := .warm, wdt := none, healthy := false }).bcu = { y.bcu with phase := .warm, wdt := none, healthy := false } := rfl
  dsimp only
  generalize y.setBcu { y.bcu with phase := .warm, wdt := none, healthy := false } = z at *
  refine ⟨r1.mono k1 k4, by rw [b5, b6], by rw [b5, b6], by rw [b5, b6], ?_, ?_, ?_, ?_⟩
  · rw [r5 _ _ (Or.inl rfl), r6, f3, f2]
  · rw [f5, f6, a3, a2]
  · rw [r5 _ _ (Or.inr rfl), r6, c3, c2]
  · show (z.resetApplication.rd .BCU_STATUS_GHOLD 0 != 0) = true
    rw [r5 _ _ (Or.inr rfl), r6]
    exact g3

end Sys2Proof.Machine
end

