-- ==== Sys2Proof/Laws/WithinHost.lean ====
section
/-! SUPPORT. Every operation and every command of the host's accesses leaves the parts of the block alone that it does not touch (Laws/Within.lean). -/

namespace Sys2Proof.Machine

open Sys2Proof

theorem State.reply_within {U : List Part} {z0 s : State} (hz : SameOutside U z0 s) (p : Nat) (seq : Nat) (type : Nat) (payload : List Nat) (hU : Part.sub [.unit .hpu] U = true) : SameOutside U z0 (State.reply s p seq type payload) := by
  unfold State.reply
  try dsimp only
  repeat' first
    | (with_reducible assumption)
    | (with_reducible exact Part.sub_trans rfl hU)
    | (with_reducible exact Or.inl (Part.sub_trans rfl hU))
    | (with_reducible exact Or.inr rfl)
    | (with_reducible apply State.answerHost_within)
    | (with_reducible apply State.each_within)
    | (with_reducible apply State.onlyIf_within)
    | (with_reducible apply State.foldl_within)
    | (intro x k hx)
    | (intro x hx)

theorem execPlan_within (p : Fin 5) (seq : BitVec 32) (offset : BitVec 32) (totlen : BitVec 32) (bytes : List (BitVec 8)) (s : State) : Stays [.unit .ppl, .unit .lgs, .unit .hpu] s (execPlan p seq offset totlen bytes s) := by
  have hU : Part.sub [.unit .ppl, .unit .lgs, .unit .hpu] [.unit .ppl, .unit .lgs, .unit .hpu] = true := rfl
  unfold execPlan
  try dsimp only
  repeat' first
    | (with_reducible assumption)
    | (with_reducible exact Part.sub_trans rfl hU)
    | (with_reducible exact Or.inl (Part.sub_trans rfl hU))
    | (with_reducible exact Or.inr rfl)
    | (with_reducible exact SameOutside.refl _ _)
    | (with_reducible apply Stays.next)
    | (with_reducible apply State.planChunk_within)
    | (with_reducible apply State.draw_within)
    | (with_reducible apply State.raise_within)
    | (with_reducible apply State.reply_within)
    | (with_reducible apply State.put_within)
    | (with_reducible apply State.takeFrame_within)
    | (with_reducible apply State.each_within)
    | (with_reducible apply State.onlyIf_within)
    | (with_reducible apply State.foldl_within)
    | (intro x k hx)
    | (intro x hx)
    | (with_reducible refine SameOutside.snd ?_ (by assumption))
    | split
    | (with_reducible apply SameOutside.built)

end Sys2Proof.Machine
end

