-- ==== Sys2Proof/Tests/Slice0.lean ====
section
/-! SUPPORT. Tests: the well-formedness smoke, single steps with results from the spec's own examples and tables, and for every clause of
a statement that has hypotheses one state and operands that meet them all. -/

set_option maxRecDepth 4000
set_option linter.unusedVariables false

namespace Sys2Proof.Tests

open Sys2Proof Sys2Proof.Machine

/-! Well-formedness: for each check one ill-formed command, which the check refuses, and a well-formed one of the same kind. -/

theorem test_wf_snap : (Instr.snap .oiu 24).wf = false ∧ (Instr.snap .hpu 1).wf = false ∧ (Instr.snap .oiu 23).wf = true := by decide

theorem test_wf_start : (Instr.start 32 0 1).wf = false ∧ (Instr.start 20 0 1).wf = true := by decide

theorem test_wf_words : (Instr.hmiWrite 0 0 0 []).wf = true ∧ ¬ ∀ l, (Instr.hmiWrite 0 0 0 l).wf = true := by
  refine ⟨by decide, fun h => ?_⟩
  have k : (List.replicate 16384 (0 : BitVec 32)).length ≤ 16383 := of_decide_eq_true (h _)
  rw [List.length_replicate] at k
  omega

theorem test_wf_plan : (Instr.plan 0 0 0 0 []).wf = true ∧ ¬ ∀ l, (Instr.plan 0 0 0 0 l).wf = true := by
  refine ⟨by decide, fun h => ?_⟩
  have k : (List.replicate 65529 (0 : BitVec 8)).length ≤ 65528 := of_decide_eq_true (h _)
  rw [List.length_replicate] at k
  omega

theorem test_wf_frame : (Instr.vehicleFrameReceived 0 false (some ⟨65536, 1, .inOrder, .plain, none, []⟩)).wf = false ∧
    (Instr.vehicleFrameReceived 0 false none).wf = true := by decide

theorem test_wf_request : (Instr.v2gRequest 0 ⟨1, 1, .inOrder, .plain, some (.bin [256]), []⟩).wf = false ∧
    (Instr.v2gRequest 0 ⟨1, 1, .inOrder, .plain, none, [256]⟩).wf = false ∧
    (Instr.v2gRequest 0 ⟨1, 1, .inOrder, .plain, some (.elem [0x41] (.text [255]) .done), []⟩).wf = true := by decide

theorem test_wf_protocols : (Instr.supportedAppProtocol 0 [4] .done []).wf = false ∧ (Instr.supportedAppProtocol 0 [3, 0] .done []).wf = true := by
  decide

theorem test_wf_sounds : (Instr.soundWindowClose 0 [(24, 10, List.replicate 58 30)]).wf = false ∧
    (Instr.soundWindowClose 0 [(0, 11, List.replicate 58 30)]).wf = false ∧ (Instr.soundWindowClose 0 [(0, 10, [30])]).wf = false ∧
    (Instr.soundWindowClose 0 [(0, 10, List.replicate 58 30)]).wf = true := by decide

theorem test_wf_currents : (Instr.bankOvercurrent 0 [1] 40).wf = false ∧ (Instr.bankOvercurrent 0 (List.replicate 8 1) 40).wf = true := by decide

theorem test_wf_card : (Instr.cardExchange 0 [] 0 [256]).wf = false ∧ (Instr.cardExchange 0 [256] 0 []).wf = false ∧
    (Instr.cardExchange 0 [0] 0 [0x90, 0]).wf = true := by decide

theorem test_wf_tag : (Instr.inventory {} 0 65 none).wf = false ∧ (Instr.inventory {} 0 0 (some 256)).wf = false ∧
    (Instr.tlogout { addr := .uid (2 ^ 64) }).wf = false ∧ (Instr.tlogout { ic := 256 }).wf = false ∧ (Instr.inventory {} 5 3 (some 255)).wf = true := by decide

theorem test_wf_group : (Instr.ledgerGroupRequest 0 [⟨256, []⟩]).wf = false ∧ (Instr.ledgerGroupRequest 0 [⟨1, [⟨15, 2, 0⟩]⟩]).wf = false ∧
    (Instr.ledgerGroupRequest 0 [⟨1, [⟨16, 2, 65536⟩]⟩]).wf = false ∧ (Instr.ledgerGroupRequest 0 (List.replicate 27 ⟨1, []⟩)).wf = false ∧
    (Instr.ledgerGroupRequest 0 [⟨1, [⟨16, 2, 65535⟩]⟩]).wf = true := by decide

theorem test_wf_page : (Instr.pageCopyDone [(4096, List.replicate 64 0)]).wf = false ∧ (Instr.pageCopyDone [(0, [])]).wf = false ∧
    (Instr.pageCopyDone [(0, List.replicate 64 256)]).wf = false ∧ (Instr.pageCopyDone [(0, List.replicate 64 255)]).wf = true := by decide

theorem test_wf_type : (Instr.unknownFrameType 0 0 0x55 []).wf = true ∧ ¬ ∀ l, (Instr.unknownFrameType 0 0 0x55 l).wf = true := by
  refine ⟨rfl, fun h => ?_⟩
  have k : (List.replicate 65537 (0 : BitVec 8)).length ≤ 65536 := of_decide_eq_true (h _)
  rw [List.length_replicate] at k
  omega

theorem test_wf_pointer : (Instr.fifoPointerMismatch false [(2 ^ 15, 0)]).wf = false ∧ (Instr.fifoPointerMismatch true [(2 ^ 15, 0)]).wf = true := by decide

theorem test_wf_level : (Instr.pilotSample 0 32768 none).wf = false ∧ (Instr.pilotSample 0 12000 (some (-12000))).wf = true ∧
    (Instr.temperatureEvaluation 0 (-32769) 0).wf = false := by decide

theorem test_wf_rows : (Instr.displayUpdateDone 0 0 [(200, 1)]).wf = false ∧ (Instr.displayUpdateDone 0 0 [(199, 1)]).wf = true := by decide

theorem test_wf_ohm : (Instr.ppBandConfirm 0 (2 ^ 32)).wf = false ∧ (Instr.ppBandConfirm 0 220).wf = true := by decide

/-! Figures of the spec's own examples. -/

/-- R86: 32.0 A gives 53.3 %, 63.0 A gives 89.2 %. -/
theorem test_duty : dutyOf 320 = 533 ∧ dutyOf 630 = 892 := by decide

/-- R97: IMAX 32.0 A, TDERATE 70 °C, TCUT 90 °C, T = 82 °C give 12.8 A, which is set as 21.3 %. -/
theorem test_derate : tempLimitOf { imax := 320, tDerate := 70, tCut := 90 } 820 = 128 ∧ dutyOf 128 = 213 := by decide

/-- R239: VNOM 24,000 mV and DUTY 80.0 % on a bank at 27.6 V give 60.5 %. -/
theorem test_compensated : compensated 800 24000 2760 = 605 := by decide

/-- R185, R186: settled currents of +23.2 µA and -16.8 µA give 900 kΩ. -/
theorem test_riso : risoOf 23200000 (-16800000) = some 900000 ∧ 23190000 < settled 17506700 21105500 22429500 ∧
    settled 17506700 21105500 22429500 < 23210000 := by decide

/-- R312: 200,000,000 mWh over 1,200 s give 600,000 W; 50,000,000 mWh in an interval of 900 s give 200,000 W. -/
theorem test_demand : demandOf 200000000 900 (1200 * 65536) = 600000 ∧ demandOf 50000000 900 (300 * 65536) = 200000 := by decide

/-- R338, R339: the cost of 41.25 kWh at 0.490 0 is 20.212 5; a record of 300 bytes takes 7 continuations. -/
theorem test_record : 41250000 * 4900 / 1000000 = 202125 ∧ (chunks 43 300 (List.replicate 300 0)).length = 7 := by decide

/-- R43, R374: the registers of the HPU start at 0, those of the GSE at 0x0058_0000; an address in no target is none. -/
theorem test_places : placeOf 0 = some (0x1C, 0, .reg .HPU_IDENT 0) ∧ placeOf 0x580000 = some (0x17, 0, .reg .GSE_STATUS 0) ∧
    placeOf 0x00900000 = none ∧ placeOf 0x101 = none := by decide

/-! The host's questions. -/

/-- No row of the table gives bits, so no word spells a command. -/
theorem test_words (n w : Nat) : decodeTableWord n w = none ∧ State.reset.withFetchWord n w = State.reset := ⟨rfl, rfl⟩

/-- A step takes the command at the front of the queue. -/
theorem test_step : step { State.reset with pending := [.fabVpop, .update] } = exec .fabVpop { State.reset with pending := [.update] } := rfl

theorem test_core : Sys2Proof.core.reset = State.reset := rfl

/-- FIPS 180-4, the example "abc". -/
theorem test_sha256_abc : sha256 [0x61, 0x62, 0x63] = 0xBA7816BF8F01CFEA414140DE5DAE2223B00361A396177A9CB410FF61F20015AD := by
  unfold sha256; decide +kernel

/-- FIPS 197, section 5.1.1: the S-box takes 53 to ED. -/
theorem test_aes_sub : aesSub 0x53 = 0xED := by decide +kernel

/-- SEC 2 (R350): the public key of the scalar 2 on P-256, twice the base point, begins 04 7CF27B18. -/
theorem test_public_key : (publicKey 1 2).take 5 = [4, 0x7C, 0xF2, 0x7B, 0x18] := by
  unfold publicKey
  decide +kernel

theorem hashBytes_ofNat (x : Nat) : hashBytes 32 32 (BitVec.ofNat 256 x).toNat = hashBytes 32 32 x := by
  have h : ∀ i, i < 32 → x % 2 ^ 256 / 256 ^ (31 - i) % 256 = x / 256 ^ (31 - i) % 256 := by
    intro i hi
    have e : (2 : Nat) ^ 256 = 256 ^ (31 - i) * 256 ^ (i + 1) := by
      rw [← Nat.pow_add, show (256 : Nat) = 2 ^ 8 from rfl, ← Nat.pow_mul]
      congr 1; omega
    rw [e, Nat.mod_mul_right_div_self, Nat.pow_succ, Nat.mod_mul_left_mod]
  simp only [hashBytes, BitVec.toNat_ofNat]
  exact List.map_congr_left fun i hi => h i (List.mem_range.mp hi)

theorem inventoryMeets_eq (mask len : Nat) (afi : Option Nat) :
    inventoryMeets mask len afi = (tagUid % 2 ^ len == mask && (afi.getD 0 == 0)) := rfl

theorem meets_length_zero (x : Nat) : (x % 2 ^ 0 == 0 && ((none : Option Nat).getD 0 == 0)) = true := by
  simp [Nat.mod_one]

/-- A request of length 0 without AFI meets every tag. -/
theorem inventoryMeets_all : inventoryMeets 0 0 none = true := (inventoryMeets_eq 0 0 none).trans (meets_length_zero tagUid)

def ackState : State := { lgs := { written := [(0, 1)], slots := [(0, some ⟨1, 0x30, 2, 0, []⟩)] } }
theorem ackWitness : ackState.ackReason (BitVec.toNat 1#64) (BitVec.toNat 1#64)
    (hashBytes 32 32 (BitVec.ofNat 256 (sha256 (LedgerRec.bytes ⟨1, 0x30, 2, 0, []⟩))).toNat) = 0 := by
  rw [hashBytes_ofNat]
  have k : ackState.keptRecords 0 = [⟨1, 0x30, 2, 0, []⟩] := by decide
  simp [State.ackReason, k, sortBy, insertBy, bit]

/-- A running block whose DOWN FIFO holds a list. -/
def fifoState (l : List Nat) : State := { bcu := { phase := .running }, hpu := { down := l } }

theorem fifoWitness (l : List Nat) (h : l.length = 16383) :
    (fifoState l).spiUp = true ∧ (fifoState l).appRuns = true ∧ (fifoState l).hpu.down.length ≤ 16384 ∧
      16384 < (fifoState l).hpu.down.length + ([1, 2] : List (BitVec 8)).length := by
  refine ⟨rfl, rfl, ?_, ?_⟩
  · show l.length ≤ 16384
    omega
  · show 16384 < l.length + 2
    omega

theorem meets_AdmissionBindsOrRefuses :
    -- admitted
    (∃ (stream : BitVec 16) (cls : Fin 16) (s : State), s.isBound stream.toNat = false ∧ s.hasRoom stream.toNat cls.val = true) ∧
    -- refused
    (∃ (stream : BitVec 16) (cls : Fin 16) (s : State), s.isBound stream.toNat = false ∧ s.hasRoom stream.toNat cls.val = false) ∧
    -- antennaStays
    (∃ (k : Fin 4) (cls : Fin 16) (s : State), s.isBound (0x1800 + k.val) = true) ∧
    -- antennaRefused
    (∃ (k : Fin 4) (cls : Fin 16) (s : State), s.isBound (0x1800 + k.val) = false ∧ s.hasRoom (0x1800 + k.val) cls.val = false) ∧
    -- inTime
    (∃ (e : Fin 6) (index : BitVec 16) (d : Nat) (x : Slice) (s : State), (s.slicesOf e.val).find? (fun y => y.index == index.toNat) = some x ∧ x.background = false ∧ x.stream ≠ 0xFFFF ∧ d ≤ ((s.classOf x.engine x.cls).map (·.budget)).getD 0) ∧
    -- late
    (∃ (e : Fin 6) (index : BitVec 16) (d : Nat) (x : Slice) (s : State), (s.slicesOf e.val).find? (fun y => y.index == index.toNat) = some x ∧ x.background = false ∧ x.stream < 0xFFFF ∧ ((s.classOf x.engine x.cls).map (·.budget)).getD 0 < d) := ⟨
    ⟨0x1201, 1, ({ sch := { classes := [⟨0, 1, 1, 10⟩], slices := [⟨0, 0, 0xFFFF, 1, false, 5, 1, false⟩] } } : State), by decide⟩,
    ⟨0x1201, 1, ({} : State), by decide⟩,
    ⟨1, 1, ({ sch := { classes := [⟨3, 1, 1, 10⟩], slices := [⟨3, 1, 0x1801, 1, false, 5, 1, false⟩] } } : State), by decide⟩,
    ⟨1, 1, ({} : State), by decide⟩,
    ⟨0, 0, 5, ⟨0, 0, 0x1201, 1, false, 5, 1, false⟩, ({ sch := { classes := [⟨0, 1, 1, 10⟩], slices := [⟨0, 0, 0x1201, 1, false, 5, 1, false⟩] } } : State), by decide⟩,
    ⟨0, 0, 11, ⟨0, 0, 0x1201, 1, false, 5, 1, false⟩, ({ sch := { classes := [⟨0, 1, 1, 10⟩], slices := [⟨0, 0, 0x1201, 1, false, 5, 1, false⟩] } } : State), by decide⟩⟩

theorem meets_FabricAnswersEveryAccess :
    -- decodeError
    (∃ (m : Fin 22) (sup : Bool) (k : AccessKind) (addr value : BitVec 32) (s : State), s.masterRuns m.val = true ∧ placeOf addr.toNat = none) ∧
    -- violation
    (∃ (m : Fin 22) (sup : Bool) (k : AccessKind) (addr value : BitVec 32) (target off : Nat) (p : Place) (s : State), s.masterRuns m.val = true ∧ placeOf addr.toNat = some (target, off, p) ∧ ((!reads k || s.permits m.val sup target off false) && (!writes k || s.permits m.val sup target off true)) = false) ∧
    -- permittedRead
    (∃ (m : Fin 22) (sup : Bool) (addr value : BitVec 32) (target off i : Nat) (r : Reg) (s : State), s.masterRuns m.val = true ∧ placeOf addr.toNat = some (target, off, .reg r i) ∧ s.permits m.val sup target off false = true ∧ s.gated r.loc.unit = false) ∧
    -- stopped
    (∃ (m : Fin 22) (sup : Bool) (k : AccessKind) (addr value : BitVec 32) (s : State), s.masterRuns m.val = false) := ⟨
    ⟨12, false, .read, 0x00900000, 0, ({ bcu := { phase := .running } } : State), by decide⟩,
    ⟨18, false, .write, 0x00580000, 0, 0x17, 0, .reg .GSE_STATUS 0, ({ bcu := { phase := .running } } : State), by decide⟩,
    ⟨18, false, 0x00500000, 0, 0x16, 0, 0, .PSW_STATUS, ({ bcu := { phase := .running } } : State), by decide⟩,
    ⟨12, false, .read, 0, 0, ({} : State).put .FAB_FROZEN_FROZEN 0 0x1000, by decide⟩⟩

theorem meets_ReleaseNeedsSupervisorState :
    -- otherWrites
    (∃ (m : Fin 22) (sup : Bool) (value : BitVec 32) (s : State), s.masterRuns m.val = true ∧ (m.val == 0 && sup) = false) ∧
    -- supervisorElsewhere
    (∃ (m target off : Nat) (write : Bool) (s : State), ¬(write = true ∧ target = 0x03 ∧ off / 4 = 2)) := ⟨
    ⟨0, false, 1, ({ bcu := { phase := .running, healthy := true } } : State), by decide⟩,
    ⟨0, 0, 0, false, ({} : State), by decide⟩⟩

theorem meets_ReleasePopAndSnapshot :
    -- release
    (∃ (mask : BitVec 22) (s : State), bit (s.rd .FAB_FROZEN_FROZEN 0) 0 = false) ∧
    -- snapBusy
    (∃ (u : UnitId) (inst : Nat) (s : State), (u = .meu ∨ u = .blu)) ∧
    -- snapOutlet
    (∃ (inst : Nat) (r : Reg) (s : State), inst < 24 ∧ r ∈ snapRegs .oiu) ∧
    -- snapUnit
    (∃ (u : UnitId) (r : Reg) (s : State), r ∈ snapRegs u ∧ u ≠ .meu ∧ u ≠ .blu ∧ u ≠ .oiu) := ⟨
    ⟨4, ({} : State).put .FAB_FROZEN_FROZEN 0 4, by decide⟩,
    ⟨.meu, 0, ({} : State), by decide⟩,
    ⟨3, .OIU_TEMP, ({} : State), by decide⟩,
    ⟨.efu, .EFU_RCMVAL, ({} : State), by decide⟩⟩

theorem meets_RegisterWriteFollowsAccessClass :
    -- stored
    (∃ (addr value : BitVec 32) (target off i : Nat) (s : State), placeOf addr.toNat = some (target, off, .reg .PSW_CHDUTY i) ∧ s.frozen 0 = false) ∧
    -- stickyBit
    (∃ (addr value : BitVec 32) (target off : Nat) (s : State), placeOf addr.toNat = some (target, off, .reg .PSW_STATUS 0) ∧ s.frozen 0 = false) ∧
    -- refused
    (∃ (addr value : BitVec 32) (target off i : Nat) (s : State), placeOf addr.toNat = some (target, off, .reg .OIU_TIMER i) ∧ s.frozen 0 = false ∧ s.oiuIdle i = false ∧ (∃ f ∈ Reg.OIU_TIMER.fields, f.stored (bitsOf value.toNat f.info.hi f.info.lo) ≠ s.rd f i)) := ⟨
    ⟨0x00501008, 2000, 0x16, 4104, 0, ({} : State), by decide⟩,
    ⟨0x00500000, 1, 0x16, 0, ({} : State), by decide⟩,
    ⟨0x00100028, 0, 0x10, 40, 0, (({} : State).put .OIU_LOCK_LSTATE 0 1), by decide⟩⟩

theorem meets_DeliveredPlansAreStagedOrRejected :
    -- delivered
    (∃ (s : State), s.ppl.again = false ∧ s.ppl.delivered = true) ∧
    -- again
    (∃ (raw : List Nat) (p : Plan) (s : State), s.ppl.again = true ∧ s.ppl.stagedRaw = some raw ∧ s.ppl.staged = some p) ∧
    -- verifyAgain
    (∃ (p : Plan) (s : State), s.ppl.staged = some p) ∧
    -- discard
    (∃ (p : Plan) (s : State), s.ppl.staged = some p) ∧
    -- noneStaged
    (∃ (s : State), s.ppl.staged = none) := ⟨
    ⟨({ ppl := { staging := [1], delivered := true } } : State), by decide⟩,
    ⟨[], {}, ({ ppl := { again := true, stagedRaw := some [], staged := some {} } } : State), by decide⟩,
    ⟨{}, ({ ppl := { staged := some {} } } : State), by decide⟩,
    ⟨{}, ({ ppl := { staged := some {} } } : State), by decide⟩,
    ⟨({} : State), by decide⟩⟩

theorem meets_ActivationFollowsTheChangeClass :
    -- refusedLegal
    (∃ (p : Plan) (s : State), s.ppl.staged = some p ∧ p.legalCv ≠ s.rd .PPL_LEGALCV_LEGALCV 0) ∧
    -- activateNow
    (∃ (p : Plan) (s : State), s.ppl.staged = some p ∧ s.ppl.commanded = none ∧ p.legalCv = s.rd .PPL_LEGALCV_LEGALCV 0 ∧ ((changeClass s.plan p).1 = 1 ∨ ((changeClass s.plan p).1 = 2 ∧ ∀ n ∈ (changeClass s.plan p).2, s.session n = false))) ∧
    -- awaited
    (∃ (p : Plan) (s : State), s.ppl.staged = some p ∧ s.ppl.commanded = none ∧ p.legalCv = s.rd .PPL_LEGALCV_LEGALCV 0 ∧ (changeClass s.plan p).1 = 2 ∧ maskOf ((changeClass s.plan p).2.filter s.session) ≠ 0 ∧ s.ppl.delivered = false ∧ s.ppl.again = false ∧ s.ppl.staging = []) ∧
    -- coldClasses
    (∃ (p : Plan) (s : State), s.ppl.staged = some p ∧ s.ppl.commanded = none ∧ p.legalCv = s.rd .PPL_LEGALCV_LEGALCV 0 ∧ ((changeClass s.plan p).1 = 3 ∨ (changeClass s.plan p).1 = 4) ∧ s.ppl.delivered = false ∧ s.ppl.again = false ∧ s.ppl.staging = []) ∧
    -- nothingToDo
    (∃ (s : State), (s.ppl.staged = none ∨ (∃ p, s.ppl.staged = some p ∧ p.legalCv = s.rd .PPL_LEGALCV_LEGALCV 0 ∧ s.ppl.commanded ≠ none))) ∧
    -- atItsInstant
    (∃ (p : Plan) (s : State), s.ppl.staged = some p ∧ s.ppl.commanded = some 2 ∧ s.ppl.awaited = 0 ∧ s.pplRuns = true) ∧
    -- whenIdle
    (∃ (p : Plan) (s : State), s.ppl.staged = some p ∧ s.ppl.commanded = some 2 ∧ (∀ n < 24, bit s.ppl.awaited n = true → s.session n = false) ∧ s.pplRuns = true) ∧
    -- stillAwaited
    (∃ (n : Nat) (s : State), n < 24 ∧ bit s.ppl.awaited n = true ∧ s.session n = true) := ⟨
    ⟨{ legalCv := 1 }, ({ ppl := { staged := some { legalCv := 1 } } } : State), by decide⟩,
    ⟨{}, ({ ppl := { staged := some {} }, plan := some {} } : State), by decide⟩,
    ⟨{ crcs := [0, 1], outl := [{ outlet := 3 }] }, ({ ppl := { staged := some { crcs := [0, 1], outl := [{ outlet := 3 }] } }, plan := some {} } : State).put .BLU_ESTAT_SESS 3 1, by decide⟩,
    ⟨{}, ({ ppl := { staged := some {} } } : State), by decide⟩,
    ⟨({} : State), by left; rfl⟩,
    ⟨{}, ({ bcu := { phase := .running }, ppl := { staged := some {}, commanded := some 2 } } : State), by decide⟩,
    ⟨{}, ({ bcu := { phase := .running }, ppl := { staged := some {}, commanded := some 2 } } : State), by decide⟩,
    ⟨3, ({ ppl := { staged := some {}, commanded := some 2, awaited := 8 } } : State).put .BLU_ESTAT_SESS 3 1, by decide⟩⟩

theorem meets_PilotStatesAndTheirActions :
    -- boundary
    (∃ (n : Fin 24) (s : State), s.flag .BCU_STATUS_GHOLD 0 = false ∧ s.flag .CGU_STATUS_XTOK 0 = true ∧ s.plan.isSome = true ∧ (s.oiu n).fHold = none ∧ (s.oiu n).fault = false ∧ (s.oiu n).tripF = false ∧ (s.oiu n).shutPilot = false ∧ s.bcu.ember = false ∧ s.bcu.wake ≠ some n.val ∧ (∀ p, (s.oiu n).lastPeriod = some p → p ≤ s.now)) ∧
    -- startOfF
    (∃ (n : Fin 24) (s : State), s.flag .BCU_STATUS_GHOLD 0 = false ∧ s.flag .CGU_STATUS_XTOK 0 = true ∧ s.plan.isSome = true ∧ (s.oiu n).shutPilot = false ∧ s.rd .OIU_CPCTL_GEN n = 2 ∧ s.gen n < 2) ∧
    -- firstSample
    (∃ (n : Fin 24) (vhi : Int) (s : State), ofTwos 16 (toTwos 16 vhi) = vhi ∧ (s.oiu n).modeAt = none ∧ s.rd .OIU_CPSTATE_DUTYOUT n = 0 ∧ s.measures n = true ∧ s.isConfirmed n (s.letterOf n vhi) = false ∧ (s.oiu n).runLen = 0) ∧
    -- confirmed
    (∃ (n : Fin 24) (vhi : Int) (s : State), s.measures n = true ∧ s.isConfirmed n (s.letterOf n vhi) = false) ∧
    -- confirmedA
    (∃ (n : Fin 24) (vhi : Int) (s : State), s.measures n = true ∧ s.isConfirmed n (s.letterOf n vhi) = false ∧ s.letterOf n vhi = .a ∧ s.genPending n = false ∧ (s.oiu n).fault = false) ∧
    -- confirmedFault
    (∃ (n : Fin 24) (vhi : Int) (s : State), s.measures n = true ∧ s.isConfirmed n (s.letterOf n vhi) = false ∧ (s.letterOf n vhi = .e ∨ s.letterOf n vhi = .invalid)) ∧
    -- diode
    (∃ (n : Fin 24) (vlo : Int) (s : State), s.pwm n = true ∧ s.kind n ≠ 3 ∧ lowClassOf vlo = .fault ∧ (s.oiu n).low ≠ .fault ∧ s.cpState n ≠ 0xA) := ⟨
    ⟨3, ({ plan := some {} } : State).put .CGU_STATUS_XTOK 0 1, by decide⟩,
    ⟨3, (({ plan := some {} } : State).put .CGU_STATUS_XTOK 0 1).put .OIU_CPCTL_GEN 3 2, by decide⟩,
    ⟨3, 9000, ({} : State), by decide⟩,
    ⟨3, 9000, ({} : State), by decide⟩,
    ⟨3, 12000, ({} : State).put .OIU_CPSTATE_STATE 3 2, by decide⟩,
    ⟨3, 0, ({} : State), by decide⟩,
    ⟨3, -5000, ({} : State).put .OIU_CPSTATE_DUTYOUT 3 500, by decide⟩⟩

theorem meets_CloseCommandFollowsItsConditions :
    -- closeEn
    (∃ (n : Fin 24) (en : Bool) (s : State), (en = false ∨ s.staysOpen n = false)) ∧
    -- staysOpen
    (∃ (n : Fin 24) (s : State), s.staysOpen n = true) ∧
    -- feedbackConfirmed
    (∃ (n : Fin 24) (closed : Bool) (s : State), (s.oiu n).lkConf ≠ none ∧ ((s.rd .OIU_LOCK_LSTATE n = 1 ∧ closed = true) ∨ (s.rd .OIU_LOCK_LSTATE n = 3 ∧ closed = false))) ∧
    -- feedbackOpen
    (∃ (n : Fin 24) (s : State), s.session n = true ∧ s.rd .OIU_LOCK_LSTATE n = 2) ∧
    -- c1max
    (∃ (n : Fin 24) (t0 : Nat) (s : State), (s.oiu n).c1max = some t0) ∧
    -- cutOpen
    (∃ (n : Fin 24) (t0 : Nat) (s : State), (s.oiu n).cutT = some t0 ∧ s.flag .OIU_STATUS_CUT n = true) ∧
    -- release
    (∃ (n : Fin 24) (t0 : Nat) (s : State), (s.oiu n).shutT = some t0) := ⟨
    ⟨3, true, ({} : State).put .CGU_STATUS_XTOK 0 1, by decide⟩,
    ⟨3, ({} : State), by decide⟩,
    ⟨3, true, ({ oius := [(3, { lkConf := some 9 })] } : State).put .OIU_LOCK_LSTATE 3 1, by decide⟩,
    ⟨3, (({} : State).put .OIU_LOCK_LSTATE 3 2).put .BLU_ESTAT_SESS 3 1, by decide⟩,
    ⟨3, 7, ({ oius := [(3, { c1max := some 7 })] } : State), by decide⟩,
    ⟨3, 7, ({ oius := [(3, { cutT := some 7 })] } : State).put .OIU_STATUS_CUT 3 1, by decide⟩,
    ⟨3, 7, ({ oius := [(3, { shutT := some 7 })] } : State), by decide⟩⟩

theorem meets_TheCableLock :
    -- lock
    (∃ (n : Fin 24) (s : State), s.hasLock n = true ∧ ppValidCode (s.rd .OIU_PPCS_CODE n) = true ∧ (s.oiu n).coil = .off) ∧
    -- unlock
    (∃ (n : Fin 24) (s : State), s.hasLock n = true ∧ s.contactorOpen n = true ∧ s.session n = false ∧ s.rd .OIU_LOCK_LSTATE n ≠ 3 ∧ (s.oiu n).coil = .off) ∧
    -- pulseEnd
    (∃ (n : Fin 24) (t0 : Nat) (s : State), (s.oiu n).lkPulse = some t0 ∧ (s.oiu n).unlockDue = false ∧ (s.oiu n).lockDue = false) ∧
    -- again
    (∃ (n : Fin 24) (t0 : Nat) (s : State), (s.oiu n).lkConf = some t0 ∧ s.rd .OIU_LOCK_TRIES n < 3) ∧
    -- fault
    (∃ (n : Fin 24) (t0 : Nat) (s : State), (s.oiu n).lkConf = some t0 ∧ 3 ≤ s.rd .OIU_LOCK_TRIES n ∧ s.rd .OIU_LOCK_TRIES n < 256) ∧
    -- retry
    (∃ (n : Fin 24) (t0 : Nat) (s : State), (s.oiu n).lkRetry = some t0 ∧ s.rd .OIU_LOCK_TRIES n < 3) := ⟨
    ⟨3, ({ plan := some { outl := [{ outlet := 3, lockCh := 4 }] } } : State).put .OIU_PPCS_CODE 3 2, by decide⟩,
    ⟨3, ({ plan := some { outl := [{ outlet := 3, lockCh := 4 }] } } : State).put .OIU_LOCK_LSTATE 3 2, by decide⟩,
    ⟨3, 7, ({ oius := [(3, { lkPulse := some 7, coil := .lock })] } : State), by decide⟩,
    ⟨3, 7, ({ oius := [(3, { lkConf := some 7 })] } : State), by decide⟩,
    ⟨3, 7, (({ oius := [(3, { lkConf := some 7 })] } : State).put .OIU_LOCK_TRIES 3 3).put .OIU_LOCK_LSTATE 3 1, by decide⟩,
    ⟨3, 7, ({ oius := [(3, { lkRetry := some 7 })] } : State), by decide⟩⟩

theorem meets_ContactorFeedbackAndTimers :
    -- weld
    (∃ (n : Fin 24) (t0 : Nat) (s : State), (s.oiu n).weldt = some t0) ∧
    -- noWeld
    (∃ (n : Fin 24) (t0 : Nat) (s : State), (s.oiu n).weldt = some t0 ∧ (s.oiu n).unlockDue = false) ∧
    -- notClosed
    (∃ (n : Fin 24) (t0 : Nat) (s : State), (s.oiu n).closeT = some t0) ∧
    -- closed
    (∃ (n : Fin 24) (t0 : Nat) (s : State), (s.oiu n).closeT = some t0) ∧
    -- band
    (∃ (n : Fin 24) (ohm : Nat) (s : State), s.kind n = 0) ∧
    -- temperature
    (∃ (n : Fin 24) (ta tb : Int) (o : OutlRec) (s : State), s.outl n = some o ∧ sensorFault ta = false ∧ sensorFault tb = false) ∧
    -- cut
    (∃ (n : Fin 24) (ta tb : Int) (o : OutlRec) (s : State), s.outl n = some o ∧ sensorFault ta = false ∧ sensorFault tb = false ∧ 10 * o.tCut ≤ max ta tb ∧ s.flag .OIU_STATUS_CUT n = false) ∧
    -- fHold
    (∃ (n : Fin 24) (t0 : Nat) (s : State), (s.oiu n).fHold = some t0) ∧
    -- fallback
    (∃ (n : Fin 24) (o : OutlRec) (s : State), s.outl n = some o ∧ o.kind < 2 ∧ bit o.proto 0 = true ∧ 2 ≤ o.proto % 16 ∧ (s.oiu n).fellBack = false ∧ s.gen n < 2 ∧ s.rd .OIU_CPCTL_GEN n < 2) ∧
    -- resume
    (∃ (n : Fin 24) (t0 : Nat) (s : State), (s.oiu n).fallbackT = some t0 ∧ s.rd .OIU_CPCTL_GEN n < 2) := ⟨
    ⟨3, 7, ({ oius := [(3, { weldt := some 7 })] } : State), by decide⟩,
    ⟨3, 7, ({ oius := [(3, { weldt := some 7 })] } : State), by decide⟩,
    ⟨3, 7, ({ oius := [(3, { closeT := some 7 })] } : State), by decide⟩,
    ⟨3, 7, ({ oius := [(3, { closeT := some 7 })] } : State), by decide⟩,
    ⟨3, 220, ({} : State), by decide⟩,
    ⟨3, 300, 310, { outlet := 3, tDerate := 60, tCut := 90, imax := 320 }, ({ plan := some { outl := [{ outlet := 3, tDerate := 60, tCut := 90, imax := 320 }] } } : State), by decide⟩,
    ⟨3, 900, 310, { outlet := 3, tDerate := 60, tCut := 90, imax := 320 }, ({ plan := some { outl := [{ outlet := 3, tDerate := 60, tCut := 90, imax := 320 }] } } : State), by decide⟩,
    ⟨3, 7, ({ oius := [(3, { fHold := some 7 })] } : State), by decide⟩,
    ⟨3, { outlet := 3, proto := 3 }, ({ plan := some { outl := [{ outlet := 3, proto := 3 }] } } : State), by decide⟩,
    ⟨3, 7, ({ oius := [(3, { fallbackT := some 7 })] } : State), by decide⟩⟩

theorem meets_SlacMatchesTheOutlet :
    -- frameBoundary
    (∃ (e : Fin 6) (s : State), s.sch.waiting = []) ∧
    -- frameBoundaryBinds
    (∃ (e : Fin 6) (st c : Nat) (k : ClassRec) (s : State), s.sch.waiting = [(st, c)] ∧ s.classOf (engineOf st) c = some k ∧ 1 ≤ k.sps ∧ engineOf st = e.val ∧ (s.openFreed e).hasRoom st c = true) ∧
    -- encode
    (∃ (n : Fin 24) (micros : Nat) (s : State), micros ≤ 2050 ∧ s.failed 0x11 = false ∧ s.encoder.queue = []) ∧
    -- encodeBehind
    (∃ (n : Fin 24) (micros : Nat) (p : Ppdu) (s : State), micros ≤ 2050 ∧ p.micros ≤ 2050 ∧ p.outlet < 24 ∧ s.failed 0x11 = false ∧ s.encoder.queue = [p] ∧ s.now < p.ready + p.micros * 1000 ∧ p.ready = max p.asked s.encoder.freeAt + 260000 ∧ p.asked < s.now) ∧
    -- encodeTooLong
    (∃ (n : Fin 24) (micros : Nat) (s : State), 2050 < micros) ∧
    -- parm
    (∃ (run : Nat) (heard : BitVec 24) (n : Fin 24) (s : State), bit heard.toNat n.val = true ∧ s.candidate n.val = true) ∧
    -- window
    (∃ (run : Nat) (r : SlacRun) (s : State), s.run run = some r ∧ r.window = none) ∧
    -- matched
    (∃ (run sum : Nat) (r : SlacRun) (t0 : Nat) (n : Fin 24) (sounds : List (Nat × Nat × List Nat)) (groups : List Nat) (s : State), s.slac = [r] ∧ r.id = run ∧ r.window = some t0 ∧ sounds = [(n.val, 10, groups)] ∧ sum = groups.sum ∧ s.candidate n.val = true ∧ s.rd .VCE_CTL_SLACMARG 0 ≤ 30) ∧
    -- ambiguous
    (∃ (run a b : Nat) (r : SlacRun) (t0 : Nat) (n m : Fin 24) (s : State), s.run run = some r ∧ r.window = some t0 ∧ s.candidate n.val = true ∧ s.candidate m.val = false ∧ n ≠ m ∧ b < a + 58 * s.rd .VCE_CTL_SLACMARG 0) ∧
    -- matchReq
    (∃ (run sum margin : Nat) (r : SlacRun) (n : Fin 24) (s : State), s.run run = some r ∧ r.match_ = some (n.val, sum, margin) ∧ s.lstate n = 2) ∧
    -- joined
    (∃ (n : Fin 24) (s : State), (s.vce n).joinT ≠ none ∧ (s.vce n).atten < 256) ∧
    -- failsAc
    (∃ (n : Fin 24) (t0 : Nat) (s : State), (s.vce n).joinT = some t0 ∧ s.kind n < 2) ∧
    -- failsDc
    (∃ (n : Fin 24) (t0 : Nat) (s : State), (s.vce n).joinT = some t0 ∧ 2 ≤ s.kind n ∧ s.rd .VCE_OERR_SLACTRY n < 3) ∧
    -- retried
    (∃ (n : Fin 24) (t0 : Nat) (s : State), (s.vce n).retryT = some t0 ∧ s.isBound (laneStream n) = true ∧ s.proto n / 2 % 8 ≠ 0 ∧ s.kind n < 3 ∧ (s.vce n).noLane = false ∧ s.refuses n = false ∧ s.randomOk = true ∧ s.failed 0x11 = false) := ⟨
    ⟨0, ({ sch := { slices := [⟨0, 0, 0x1201, 1, false, 5, 1, true⟩] } } : State), by decide⟩,
    ⟨0, 0x1203, 1, { engine := 0, cls := 1, sps := 1 }, ({ sch := { waiting := [(0x1203, 1)], slices := [⟨0, 0, 0xFFFF, 1, false, 5, 1, false⟩], classes := [{ engine := 0, cls := 1, sps := 1 }] } } : State), by decide⟩,
    ⟨3, 2050, ({} : State), by decide⟩,
    ⟨3, 2050, ⟨4, 5, 100, 260005, false⟩, ({ now := 6, encoder := { queue := [⟨4, 5, 100, 260005, false⟩] } } : State), by decide⟩,
    ⟨3, 2051, ({} : State), by decide⟩,
    ⟨9, 8, 3, ((({ sch := { slices := [⟨0, 0, 0x1103, 1, false, 5, 1, false⟩] } } : State).put .OIU_CPSTATE_STATE 3 3).put .OIU_CPSTATE_DUTYOUT 3 50).put .VCE_OLINK_LSTATE 3 2, by decide⟩,
    ⟨9, ⟨9, none, none⟩, ({ slac := [⟨9, none, none⟩] } : State), by decide⟩,
    ⟨9, 2, ⟨9, some 5, none⟩, 5, 3, [(3, 10, [1, 1])], [1, 1], ((({ slac := [⟨9, some 5, none⟩], sch := { slices := [⟨0, 0, 0x1103, 1, false, 5, 1, false⟩] } } : State).put .OIU_CPSTATE_STATE 3 3).put .OIU_CPSTATE_DUTYOUT 3 50).put .VCE_OLINK_LSTATE 3 2, by decide⟩,
    ⟨9, 100, 101, ⟨9, some 5, none⟩, 5, 3, 4, ((({ slac := [⟨9, some 5, none⟩], sch := { slices := [⟨0, 0, 0x1103, 1, false, 5, 1, false⟩] } } : State).put .OIU_CPSTATE_STATE 3 3).put .OIU_CPSTATE_DUTYOUT 3 50).put .VCE_OLINK_LSTATE 3 2, by decide⟩,
    ⟨9, 580, 20, ⟨9, none, some (3, 580, 20)⟩, 3, ({ slac := [⟨9, none, some (3, 580, 20)⟩] } : State).put .VCE_OLINK_LSTATE 3 2, by decide⟩,
    ⟨3, ({ vces := [(3, { joinT := some 5, atten := 10 })] } : State), by decide⟩,
    ⟨3, 5, ({ vces := [(3, { joinT := some 5 })] } : State), by decide⟩,
    ⟨3, 5, ({ vces := [(3, { joinT := some 5 })], plan := some { outl := [{ outlet := 3, kind := 2 }] } } : State), by decide⟩,
    ⟨3, 5, ({ vces := [(3, { retryT := some 5 })], plan := some { outl := [{ outlet := 3, proto := 2, kind := 2 }] }, sch := { slices := [⟨0, 0, 0x1103, 1, false, 5, 1, false⟩] } } : State).put .CGU_STATUS_XTOK 0 1, by decide⟩⟩

theorem meets_VehicleLinksAndTheirMessages :
    -- t1sLoss
    (∃ (k : Fin 8) (s : State), s.rd .VCE_OLINK_MEDIUM k = 2) ∧
    -- t1sDown
    (∃ (k : Fin 8) (t0 : Nat) (s : State), (s.vce k).t1sT = some t0 ∧ s.inSession k = true) ∧
    -- t1sDownIdle
    (∃ (k : Fin 8) (t0 : Nat) (s : State), (s.vce k).t1sT = some t0 ∧ s.inSession k = false) ∧
    -- sdp
    (∃ (n : Fin 24) (s : State), s.lstate n = 3 ∧ s.rd .VCE_OLINK_MEDIUM n ≠ 0) ∧
    -- sdpTls
    (∃ (n : Fin 24) (s : State), s.lstate n = 3 ∧ s.rd .VCE_OLINK_MEDIUM n ≠ 0 ∧ s.randomOk = true ∧ s.failed 0x19 = false ∧ s.isBound (tlsStream n) = true) ∧
    -- sdpAgain
    (∃ (n : Fin 24) (tls : Bool) (s : State), 4 ≤ s.lstate n ∧ s.lstate n ≤ 6 ∧ s.rd .VCE_OLINK_MEDIUM n ≠ 0) ∧
    -- sdpPantograph
    (∃ (n : Fin 24) (s : State), s.kind n = 4 ∧ s.rd .VCE_OLINK_MEDIUM n = 0 ∧ s.hasEthernet = true ∧ s.failed 0x11 = false ∧ s.bcu.ember = false) ∧
    -- counted
    (∃ (n : Fin 24) (fec : Bool) (m : V2gMsg) (s : State), s.rd .VCE_OLINK_MEDIUM n ≠ 0 ∧ s.flag .VCE_STATUS_OFFLOAD 0 = true) ∧
    -- stored
    (∃ (n : Fin 24) (fec : Bool) (m : V2gMsg) (s : State), s.rd .VCE_OLINK_MEDIUM n ≠ 0 ∧ s.flag .VCE_STATUS_OFFLOAD 0 = false ∧ m.len ≤ 8192 ∧ (s.vce n).rx.length < 7) ∧
    -- full
    (∃ (n : Fin 24) (fec : Bool) (m : V2gMsg) (s : State), s.rd .VCE_OLINK_MEDIUM n ≠ 0 ∧ s.flag .VCE_STATUS_OFFLOAD 0 = false ∧ m.len ≤ 8192 ∧ (s.vce n).rx.length = 7) ∧
    -- laneFrame
    (∃ (n : Fin 24) (fec : Bool) (s : State), s.isBound (laneStream n) = true) ∧
    -- noMessage
    (∃ (n : Fin 24) (fec : Bool) (m : Option V2gMsg) (s : State), s.isBound (laneStream n) = false ∧ s.rd .VCE_OLINK_MEDIUM n = 0) ∧
    -- loop
    (∃ (n : Fin 24) (r : RxMsg) (s : State), s.flag .VCE_STATUS_OFFLOAD 0 = false ∧ (s.vce n).inLoop = true ∧ (s.vce n).rx = [r] ∧ isLoopMsg r.msg.code = true ∧ r.answered = false) ∧
    -- restart
    (∃ (s : State), s.flag .VCE_STATUS_OFFLOAD 0 = false) ∧
    -- restartEmpty
    (∃ (s : State), s.flag .VCE_STATUS_OFFLOAD 0 = false ∧ s.vces = [] ∧ (∀ n < 24, s.lstate n ≠ 6)) ∧
    -- restartRunning
    (∃ (s : State), s.flag .VCE_STATUS_OFFLOAD 0 = true) := ⟨
    ⟨3, ({} : State).put .VCE_OLINK_MEDIUM 3 2, by decide⟩,
    ⟨3, 5, ({ vces := [(3, { t1sT := some 5 })] } : State).put .VCE_OLINK_GEN 3 3, by decide⟩,
    ⟨3, 5, ({ vces := [(3, { t1sT := some 5 })] } : State).put .VCE_OLINK_MEDIUM 3 2, by decide⟩,
    ⟨3, (({} : State).put .VCE_OLINK_LSTATE 3 3).put .VCE_OLINK_MEDIUM 3 1, by decide⟩,
    ⟨3, (({ sch := { slices := [⟨0, 0, 0x1143, 3, false, 5, 1, false⟩] } } : State).put .VCE_OLINK_LSTATE 3 3).put .VCE_OLINK_MEDIUM 3 1, by decide⟩,
    ⟨3, false, (({} : State).put .VCE_OLINK_LSTATE 3 5).put .VCE_OLINK_MEDIUM 3 1, by decide⟩,
    ⟨3, ({ plan := some { outl := [{ outlet := 3, kind := 4 }], netw := [{ type := 1, params := [1, 1] }] } } : State), by decide⟩,
    ⟨3, true, ⟨1, 0, .inOrder, .plain, none, []⟩, (({} : State).put .VCE_STATUS_OFFLOAD 0 1).put .VCE_OLINK_MEDIUM 3 1, by decide⟩,
    ⟨3, false, ⟨1, 0, .inOrder, .plain, none, []⟩, ({} : State).put .VCE_OLINK_MEDIUM 3 1, by decide⟩,
    ⟨3, false, ⟨1, 0, .inOrder, .plain, none, []⟩, ({ vces := [(3, { rx := List.replicate 7 ⟨⟨1, 0, .inOrder, .plain, none, []⟩, 0, false⟩ })] } : State).put .VCE_OLINK_MEDIUM 3 1, by decide⟩,
    ⟨3, true, ({ sch := { slices := [⟨0, 0, 0x1103, 1, false, 5, 1, false⟩] } } : State), by decide⟩,
    ⟨3, true, none, ({} : State), by decide⟩,
    ⟨3, ⟨⟨0x0109, 0, .inOrder, .plain, none, []⟩, 0, false⟩, ({ vces := [(3, { inLoop := true, rx := [⟨⟨0x0109, 0, .inOrder, .plain, none, []⟩, 0, false⟩] })] } : State), by decide⟩,
    ⟨({ vces := [(3, { rx := [⟨⟨0x0109, 0, .inOrder, .plain, none, []⟩, 0, false⟩] })] } : State), by decide⟩,
    ⟨({} : State), by decide⟩,
    ⟨({} : State).put .VCE_STATUS_OFFLOAD 0 1, by decide⟩⟩

theorem meets_V2gSessionsAreAnswered :
    -- selected
    (∃ (n : Fin 24) (g : Nat) (offers : List Nat) (val : V2gVal) (exi : List Nat) (s : State), s.rd .VCE_OLINK_MEDIUM n ≠ 0 ∧ s.flag .VCE_STATUS_OFFLOAD 0 = true ∧ s.rd .VCE_OLINK_GEN n = 0 ∧ exi.length + 8 ≤ 8192 ∧ offers.find? (s.selectable n) = some g) ∧
    -- noneOffered
    (∃ (n : Fin 24) (offers : List Nat) (val : V2gVal) (exi : List Nat) (s : State), s.rd .VCE_OLINK_MEDIUM n ≠ 0 ∧ s.flag .VCE_STATUS_OFFLOAD 0 = true ∧ s.rd .VCE_OLINK_GEN n = 0 ∧ exi.length + 8 ≤ 8192 ∧ offers.find? (s.selectable n) = none) ∧
    -- setup
    (∃ (n : Fin 24) (gen : Nat) (m : V2gMsg) (val : V2gVal) (s : State), s.rd .VCE_OLINK_MEDIUM n ≠ 0 ∧ s.flag .VCE_STATUS_OFFLOAD 0 = true ∧ s.rd .VCE_OLINK_GEN n = gen ∧ 1 ≤ gen ∧ gen ≤ 3 ∧ m.code = gen * 256 + 1 ∧ m.order = .inOrder ∧ m.len ≤ 8192 ∧ m.val = some val) ∧
    -- failed
    (∃ (n : Fin 24) (m : V2gMsg) (val : V2gVal) (s : State), s.rd .VCE_OLINK_MEDIUM n ≠ 0 ∧ s.flag .VCE_STATUS_OFFLOAD 0 = true ∧ m.len ≤ 8192 ∧ m.val = some val ∧ s.orderOf n m ≠ .inOrder) ∧
    -- undecoded
    (∃ (n : Fin 24) (m : V2gMsg) (s : State), s.rd .VCE_OLINK_MEDIUM n ≠ 0 ∧ s.flag .VCE_STATUS_OFFLOAD 0 = true ∧ m.len ≤ 8192 ∧ m.val = none) ∧
    -- tooLong
    (∃ (n : Fin 24) (m : V2gMsg) (s : State), s.rd .VCE_OLINK_MEDIUM n ≠ 0 ∧ 8192 < m.len) ∧
    -- timeout
    (∃ (n : Fin 24) (kind : Fin 4) (t0 : Nat) (s : State), (if kind.val = 0 then (s.vce n).linkT else if kind.val = 1 then (s.vce n).tlsT else if kind.val = 2 then (s.vce n).seqT else (s.vce n).authT) = some t0 ∧ (kind.val = 1 ∨ s.flag .VCE_STATUS_OFFLOAD 0 = true)) ∧
    -- certificateLate
    (∃ (n : Fin 24) (t0 : Nat) (s : State), (s.vce n).certT = some t0 ∧ s.flag .VCE_STATUS_OFFLOAD 0 = true) ∧
    -- certificateAnswer
    (∃ (n : Fin 24) (t0 : Nat) (s : State), (s.vce n).certT = some t0 ∧ s.flag .VCE_STATUS_OFFLOAD 0 = true) ∧
    -- authorisation
    (∃ (n : Fin 24) (accepted : Bool) (s : State), (s.vce n).auth = .pending ∧ s.flag .VCE_STATUS_OFFLOAD 0 = true) := ⟨
    ⟨3, 2, [3, 2], .bool true, [1], (({ plan := some { outl := [{ outlet := 3, proto := 4 }] } } : State).put .VCE_STATUS_OFFLOAD 0 1).put .VCE_OLINK_MEDIUM 3 1, by decide⟩,
    ⟨3, [3, 2], .bool true, [1], (({} : State).put .VCE_STATUS_OFFLOAD 0 1).put .VCE_OLINK_MEDIUM 3 1, by decide⟩,
    ⟨3, 2, ⟨0x0201, 0, .inOrder, .plain, some .done, []⟩, .done, ((({} : State).put .VCE_STATUS_OFFLOAD 0 1).put .VCE_OLINK_MEDIUM 3 1).put .VCE_OLINK_GEN 3 2, by decide⟩,
    ⟨3, ⟨0x0215, 0, .inOrder, .plain, some .done, []⟩, .done, ((({} : State).put .VCE_STATUS_OFFLOAD 0 1).put .VCE_OLINK_MEDIUM 3 1).put .VCE_OLINK_GEN 3 2, by decide⟩,
    ⟨3, ⟨0x0202, 0, .inOrder, .plain, none, []⟩, (({} : State).put .VCE_STATUS_OFFLOAD 0 1).put .VCE_OLINK_MEDIUM 3 1, by decide⟩,
    ⟨3, ⟨0x0202, 8193, .inOrder, .plain, none, []⟩, ({} : State).put .VCE_OLINK_MEDIUM 3 1, by decide⟩,
    ⟨3, 2, 5, ({ vces := [(3, { seqT := some 5 })] } : State).put .VCE_STATUS_OFFLOAD 0 1, by decide⟩,
    ⟨3, 5, ({ vces := [(3, { certT := some 5, certMsg := 0x0205 })] } : State).put .VCE_STATUS_OFFLOAD 0 1, by decide⟩,
    ⟨3, 5, ({ vces := [(3, { certT := some 5, certMsg := 0x0205 })] } : State).put .VCE_STATUS_OFFLOAD 0 1, by decide⟩,
    ⟨3, true, ({ vces := [(3, { auth := .pending })] } : State).put .VCE_STATUS_OFFLOAD 0 1, by decide⟩⟩

theorem meets_ResidualCurrentTripsAndLocks :
    -- slice
    (∃ (c : Fin 24) (counts : Int) (n : Nat) (s : State), s.rcmOutlet c = some n ∧ s.failed 0x13 = false ∧ (s.rcm c).dailyDue = false ∧ s.dueBand c = none ∧ (s.takeSample c counts).dueBand c = none ∧ s.flag .EFU_RCMSTAT_TRIP c = false) ∧
    -- trip
    (∃ (c : Fin 24) (band : Fin 6) (n : Nat) (s : State), s.rcmOutlet c = some n ∧ s.flag .EFU_RCMSTAT_TRIP c = false ∧ s.rd .EFU_RCMSTAT_TSTATE c ≠ 1 ∧ s.dwellReached c band = true ∧ s.failed 0x13 = false) ∧
    -- cleared
    (∃ (c : Fin 24) (n t0 : Nat) (s : State), s.rcmOutlet c = some n ∧ (s.rcm c).tripAt = some t0 ∧ t0 + 10000000000 ≤ s.now ∧ s.rcmQuiet c = true ∧ (s.rcm c).plugTrips = 1) ∧
    -- notCleared
    (∃ (c : Fin 24) (n t0 : Nat) (s : State), s.rcmOutlet c = some n ∧ (s.rcm c).tripAt = some t0 ∧ (s.now < t0 + 10000000000 ∨ s.rcmQuiet c = false ∨ (s.rcm c).plugTrips ≠ 1)) ∧
    -- test
    (∃ (c : Fin 24) (n : Nat) (s : State), s.rcmOutlet c = some n ∧ s.flag .OIU_CONTACT_CMD n = false ∧ s.rd .EFU_RCMSTAT_TSTATE c ≠ 1) ∧
    -- testRefused
    (∃ (c : Fin 24) (n : Nat) (s : State), s.rcmOutlet c = some n ∧ s.flag .OIU_CONTACT_CMD n = true) ∧
    -- lockClear
    (∃ (c : Fin 24) (n : Nat) (s : State), s.rcmOutlet c = some n ∧ s.flag .EFU_RCMSTAT_LOCKOUT c = true ∧ s.flag .OIU_CONTACT_CMD n = false ∧ s.rd .EFU_RCMSTAT_TSTATE c ≠ 1) ∧
    -- calibrated
    (∃ (c : Fin 24) (counts : Nat) (n : Nat) (s : State), s.rcmOutlet c = some n ∧ s.flag .OIU_CONTACT_CMD n = false ∧ s.rd .EFU_RCMSTAT_TSTATE c ≠ 1) ∧
    -- passed
    (∃ (c : Fin 24) (real : Bool) (s : State), s.rd .EFU_RCMSTAT_TSTATE c = 1 ∧ (s.rcm c).testFail = 0 ∧ 1300 ≤ (s.rcm c).testN ∧ (s.rcm c).clearing = true ∧ s.flag .EFU_RCMSTAT_LOCKOUT c = true ∧ s.rd .EFU_RCMSCALE_SCALE c ≠ 0) ∧
    -- failed
    (∃ (c : Fin 24) (step : Nat) (s : State), s.rd .EFU_RCMSTAT_TSTATE c = 1 ∧ (s.rcm c).testFail = step ∧ (s.rcm c).testTrip = false ∧ (step = 4 ∨ step = 6 ∨ step = 8)) ∧
    -- baseline
    (∃ (c : Fin 24) (real : Bool) (s : State), s.rd .EFU_RCMSTAT_TSTATE c = 1 ∧ (s.rcm c).testFail ≠ 0 ∧ (real = true ∨ (s.rcm c).testTrip = true) ∧ (s.rcm c).baseFails < 2) ∧
    -- baselineThird
    (∃ (c : Fin 24) (real : Bool) (s : State), s.rd .EFU_RCMSTAT_TSTATE c = 1 ∧ (s.rcm c).testFail ≠ 0 ∧ (real = true ∨ (s.rcm c).testTrip = true) ∧ 2 ≤ (s.rcm c).baseFails) ∧
    -- repeated
    (∃ (c : Fin 24) (t0 n : Nat) (s : State), (s.rcm c).retryAt = some t0 ∧ s.rcmOutlet c = some n ∧ s.flag .OIU_CONTACT_CMD n = false) ∧
    -- daily
    (∃ (c : Fin 24) (n : Nat) (s : State), s.rcmOutlet c = some n ∧ s.failed 0x13 = false ∧ s.flag .OIU_CONTACT_CMD n = false ∧ s.rd .EFU_RCMSTAT_TSTATE c ≠ 1 ∧ ((s.rcm c).dailyDue = true ∨ (s.rcm c).dailyAt ≤ s.ltime)) ∧
    -- dailyWaits
    (∃ (c : Fin 24) (n : Nat) (s : State), s.rcmOutlet c = some n ∧ s.failed 0x13 = false ∧ s.flag .OIU_CONTACT_CMD n = true) ∧
    -- sensor
    (∃ (c : Fin 24) (sense : Bool) (n : Nat) (s : State), s.rcmOutlet c = some n ∧ s.failed 0x13 = false) := ⟨
    ⟨2, 100, 3, ({} : State).put .EFU_RCMSTAT_OUTLET 2 3, by decide⟩,
    ⟨2, 1, 3, ({ rcms := [(2, { timers := [0, 1000, 0, 0, 0, 0] })] } : State).put .EFU_RCMSTAT_OUTLET 2 3, by decide⟩,
    ⟨2, 3, 0, ({ now := 10000000000, rcms := [(2, { tripAt := some 0, plugTrips := 1 })] } : State).put .EFU_RCMSTAT_OUTLET 2 3, by decide⟩,
    ⟨2, 3, 0, ({ rcms := [(2, { tripAt := some 0, plugTrips := 1 })] } : State).put .EFU_RCMSTAT_OUTLET 2 3, by decide⟩,
    ⟨2, 3, ({} : State).put .EFU_RCMSTAT_OUTLET 2 3, by decide⟩,
    ⟨2, 3, (({} : State).put .EFU_RCMSTAT_OUTLET 2 3).put .OIU_CONTACT_CMD 3 1, by decide⟩,
    ⟨2, 3, (({} : State).put .EFU_RCMSTAT_OUTLET 2 3).put .EFU_RCMSTAT_LOCKOUT 2 1, by decide⟩,
    ⟨2, 80, 3, ({} : State).put .EFU_RCMSTAT_OUTLET 2 3, by decide⟩,
    ⟨2, false, ((({ rcms := [(2, { clearing := true, testN := 1300 })] } : State).put .EFU_RCMSTAT_TSTATE 2 1).put .EFU_RCMSTAT_LOCKOUT 2 1).put .EFU_RCMSCALE_SCALE 2 7, by decide⟩,
    ⟨2, 4, ({ rcms := [(2, { testFail := 4 })] } : State).put .EFU_RCMSTAT_TSTATE 2 1, by decide⟩,
    ⟨2, true, ({ rcms := [(2, { testFail := 2 })] } : State).put .EFU_RCMSTAT_TSTATE 2 1, by decide⟩,
    ⟨2, true, ({ rcms := [(2, { testFail := 4, baseFails := 2 })] } : State).put .EFU_RCMSTAT_TSTATE 2 1, by decide⟩,
    ⟨2, 5, 3, ({ rcms := [(2, { retryAt := some 5 })] } : State).put .EFU_RCMSTAT_OUTLET 2 3, by decide⟩,
    ⟨2, 3, ({} : State).put .EFU_RCMSTAT_OUTLET 2 3, by decide⟩,
    ⟨2, 3, (({} : State).put .EFU_RCMSTAT_OUTLET 2 3).put .OIU_CONTACT_CMD 3 1, by decide⟩,
    ⟨2, true, 3, ({} : State).put .EFU_RCMSTAT_OUTLET 2 3, by decide⟩⟩

theorem meets_InsulationMonitoring :
    -- firstHalf
    (∃ (k : Fin 12) (i1 i2 i3 : Int) (s : State), (s.injRefresh k).flag .EFU_IMDSTAT_INJ k = true ∧ (s.imd k).test = false ∧ s.failed 0x13 = false ∧ (s.imd k).last = none) ∧
    -- riso
    (∃ (k : Fin 12) (i1 i2 i3 prev : Int) (s : State), (s.injRefresh k).flag .EFU_IMDSTAT_INJ k = true ∧ (s.imd k).test = false ∧ s.failed 0x13 = false ∧ (s.imd k).last = some prev) ∧
    -- pole
    (∃ (k : Fin 12) (vpos vneg : Int) (n : Nat) (s : State), 100 < vpos - vneg ∧ (vpos.natAbs * 10 < (vpos - vneg).natAbs ∨ vneg.natAbs * 10 < (vpos - vneg).natAbs) ∧ n ∈ s.imdOutlets k ∧ s.failed 0x13 = false ∧ bit s.imdTrip n = false ∧ s.flag .OIU_CONTACT_CMD n = true) ∧
    -- coupling
    (∃ (k : Fin 12) (vpos vneg : Int) (s : State), 100 < vpos - vneg ∧ (vpos = 0 ∨ vneg = 0) ∧ 10000 < s.rd .EFU_IMDRISO_RISO k ∧ s.failed 0x13 = false ∧ (s.imdOutlets k).isEmpty = false) ∧
    -- testPassed
    (∃ (k : Fin 12) (a b c d : Int) (s : State), (s.imd k).test = true ∧ (s.imd k).testCur = [a, b, c, d] ∧ imdTestOk [a, b, c, d] = true ∧ (s.imd k).clearing = true ∧ s.failed 0x13 = false ∧ (s.imdOutlets k).isEmpty = false ∧ s.flag .EFU_IMDSTAT_LOCKOUT k = true) ∧
    -- testFailed
    (∃ (k : Fin 12) (a b c d : Int) (s : State), (s.imd k).test = true ∧ (s.imd k).testCur = [a, b, c, d] ∧ imdTestOk [a, b, c, d] = false ∧ s.failed 0x13 = false ∧ (s.imdOutlets k).isEmpty = false) ∧
    -- sourceFailed
    (∃ (k : Fin 12) (s : State), s.failed 0x13 = false ∧ (s.imdOutlets k).isEmpty = false) ∧
    -- checkStart
    (∃ (n : Fin 24) (o : OutlRec) (s : State), s.outl n = some o ∧ 2 ≤ o.kind ∧ o.imd < 12 ∧ bit s.ccRequested n = true ∧ ((s.imd o.imd).check = none ∨ (s.imd o.imd).check = some n.val) ∧ s.flag .OIU_CONTACT_CMD n = true) ∧
    -- checkResult
    (∃ (k : Fin 12) (n a b c d e low : Nat) (s : State), (s.imd k).check = some n ∧ (s.imd k).checkRes = [a, b, c, d, e] ∧ low = [a, b, c, d, e].foldl min 0xFFFFFFFF ∧ low < 0xFFFFFFFF) := ⟨
    ⟨2, 100, 50, 30, ({ imds := [(2, { check := some 3 })] } : State), by decide⟩,
    ⟨2, 100, 50, 30, -20000000, ({ imds := [(2, { check := some 3, last := some (-20000000) })] } : State), by decide⟩,
    ⟨2, 10, -400, 3, (({} : State).put .EFU_IMDSTAT_OUTA 2 3).put .OIU_CONTACT_CMD 3 1, by decide⟩,
    ⟨2, 400, 0, (({} : State).put .EFU_IMDRISO_RISO 2 20000).put .EFU_IMDSTAT_OUTA 2 3, by decide⟩,
    ⟨2, 50000000, -50000000, 120000000, -120000000, (({ imds := [(2, { test := true, testCur := [50000000, -50000000, 120000000, -120000000], clearing := true })] } : State).put .EFU_IMDSTAT_LOCKOUT 2 1).put .EFU_IMDSTAT_OUTA 2 3, by decide⟩,
    ⟨2, 0, 0, 0, 0, ({ imds := [(2, { test := true, testCur := [0, 0, 0, 0] })] } : State).put .EFU_IMDSTAT_OUTA 2 3, by decide⟩,
    ⟨2, ({} : State).put .EFU_IMDSTAT_OUTA 2 3, by decide⟩,
    ⟨3, { outlet := 3, kind := 2, imd := 2 }, ({ plan := some { outl := [{ outlet := 3, kind := 2, imd := 2 }] }, ccRequested := 8 } : State).put .OIU_CONTACT_CMD 3 1, by decide⟩,
    ⟨2, 3, 700000, 600000, 500000, 600000, 700000, 500000, ({ imds := [(2, { check := some 3, checkRes := [700000, 600000, 500000, 600000, 700000] })] } : State), by decide⟩⟩

theorem meets_ChannelsTakeSamplesAndEnergy :
    -- bit
    (∃ (n : Fin 64) (b : Bool) (r : SensRec) (s : State), s.sens n = some r ∧ r.sensor ≠ 4 ∧ s.failed 0x12 = false ∧ s.meu.mclk.isSome = true ∧ (s.chan n).dec.phase < 249 ∧ (s.chan n).found = none ∧ (s.takeBit n (r.sensor == 2) b).sampleReady n = false ∧ (s.elem r.elem).ending = false ∧ r.ch = n.val ∧ (s.chan n).noClk = false) ∧
    -- front
    (∃ (n : Fin 64) (b : Bool) (r : SensRec) (s : State), s.sens n = some r ∧ r.sensor ≠ 2 ∧ r.sensor ≠ 4 ∧ s.failed 0x12 = false ∧ s.meu.mclk.isSome = true ∧ (s.chan n).dec.phase = 249 ∧ (s.chan n).skip = 0 ∧ (s.chan n).found = none ∧ (s.takeBit n false b).sampleReady n = false ∧ (s.elem r.elem).ending = false ∧ r.ch = n.val ∧ (s.chan n).noClk = false) ∧
    -- integrator
    (∃ (n : Fin 64) (b : Bool) (r : SensRec) (w : Int) (s : State), s.sens n = some r ∧ r.sensor = 2 ∧ s.failed 0x12 = false ∧ s.meu.mclk.isSome = true ∧ (s.chan n).dec.phase = 249 ∧ (s.chan n).skip = 0 ∧ (s.chan n).found = none ∧ (s.takeBit n true b).sampleReady n = false ∧ (s.elem r.elem).ending = false ∧ w = wrap 40 ((s.chan n).w - (s.chan n).w / 2 ^ s.rd .MEU_CHINT_INTK n + ((((s.chan n).dec.clock b).comb.1 + 16) / 32 - ofTwos 32 (s.rd .MEU_CHOFFS_OFFS n) + (s.chan n).uPrev)) ∧ (roundHalfUp w (2 * 2 ^ s.rd .MEU_CHINT_RSHIFT n)).natAbs ≤ 488281 ∧ r.ch = n.val ∧ (s.chan n).noClk = false) ∧
    -- settle
    (∃ (n : Fin 64) (b : Bool) (r : SensRec) (s : State), s.sens n = some r ∧ r.sensor ≠ 4 ∧ s.failed 0x12 = false ∧ s.meu.mclk.isSome = true ∧ (s.chan n).dec.phase = 249 ∧ 0 < (s.chan n).skip ∧ (s.chan n).found = none ∧ (s.takeBit n (r.sensor == 2) b).sampleReady n = false ∧ (s.elem r.elem).ending = false ∧ r.ch = n.val ∧ (s.chan n).noClk = false) ∧
    -- clockHeld
    (∃ (n : Fin 64) (bits : List Bool) (r : SensRec) (s : State), s.sens n = some r ∧ r.sensor ≠ 4 ∧ (s.meu.mclk = none ∨ s.failed 0x12 = true)) ∧
    -- sample
    (∃ (n : Fin 64) (r : SensRec) (s : State), s.sens n = some r ∧ r.sensor ≠ 4 ∧ s.failed 0x12 = false ∧ s.meu.mclk.isSome = true ∧ s.meu.ember = false ∧ (s.chan n).found = none ∧ (s.elem r.elem).ending = false ∧ r.ch = n.val ∧ r.pair = 0xFF ∧ (s.chan n).stamp ≤ s.stampOf s.boundaryNext ∧ s.sampleReady n = true ∧ s.windowFilled n = true ∧ (s.takeSampleAt r).sampleReady n = false) ∧
    -- energy
    (∃ (n : Fin 64) (r v : SensRec) (y yv : Int) (s : State), s.sens n = some r ∧ s.sens r.pair = some v ∧ r.sensor ≠ 4 ∧ s.failed 0x12 = false ∧ s.meu.mclk.isSome = true ∧ s.meu.ember = false ∧ (s.chan n).found = none ∧ (s.elem r.elem).ending = false ∧ r.ch = n.val ∧ r.pair ≠ 0xFF ∧ r.elem ≤ 24 ∧ s.elemFault r.elem = false ∧ s.meu.frozen = false ∧ (s.elem r.elem).acc.length = 9 ∧ (s.chan n).stamp ≤ s.stampOf s.boundaryNext ∧ s.sampleReady n = true ∧ s.windowFilled n = true ∧ s.passed v.ch (s.chan n).stamp = true ∧ s.passed ((s.refOf r.elem).getD v.ch) (s.chan n).stamp = true ∧ y = movingAverage (s.chan n) (s.windowEndOf n (s.chan n).stamp) (s.bankOf n (s.chan n).stamp).1 ∧ s.sampleAt v (s.chan n).stamp = some yv ∧ v.ch ≠ n.val ∧ (s.takeSampleAt r).sampleReady n = false) ∧
    -- pulse
    (∃ (n : Fin 64) (r : SensRec) (s : State), s.sens n = some r ∧ r.sensor = 4 ∧ s.failed 0x12 = false) ∧
    -- pulseSlice
    (∃ (n : Fin 64) (r : SensRec) (s : State), s.sens n = some r ∧ r.sensor = 4 ∧ r.ch = n.val ∧ r.elem ≤ 24 ∧ s.failed 0x12 = false ∧ s.elemFault r.elem = false ∧ s.meu.frozen = false ∧ (s.elem r.elem).acc.length = 9 ∧ (s.elem r.elem).split = none) ∧
    -- pulseNoElement
    (∃ (n : Fin 64) (r : SensRec) (s : State), s.sens n = some r ∧ r.sensor = 4 ∧ s.failed 0x12 = false ∧ (24 < r.elem ∨ s.elemFault r.elem = true ∨ s.meu.frozen = true)) ∧
    -- shortPulse
    (∃ (n : Fin 64) (r : SensRec) (s : State), s.sens n = some r ∧ r.sensor = 4 ∧ s.failed 0x12 = false) := ⟨
    ⟨2, true, { ch := 2 }, { plan := some { sens := [{ ch := 2 }] }, meu := { mclk := some 0 }, chans := [(2, { stamp := 8000 })] }, by decide⟩,
    ⟨2, true, { ch := 2 }, { plan := some { sens := [{ ch := 2 }] }, meu := { mclk := some 0 }, chans := [(2, { dec := { phase := 249, i1 := 100, i2 := 5000, i3 := 200000 }, skip := 0, stamp := 8000 })] }, by decide⟩,
    ⟨2, true, { ch := 2, sensor := 2 }, 15749, ({ plan := some { sens := [{ ch := 2, sensor := 2 }] }, meu := { mclk := some 0 }, chans := [(2, { dec := { phase := 249, i1 := 100, i2 := 5000, i3 := 200000 }, w := 9300, uPrev := 40, skip := 0, stamp := 8000 })] } : State).put .MEU_CHINT_INTK 2 14, by decide⟩,
    ⟨2, true, { ch := 2 }, { plan := some { sens := [{ ch := 2 }] }, meu := { mclk := some 0 }, chans := [(2, { dec := { phase := 249 }, stamp := 8000 })] }, by decide⟩,
    ⟨2, [true, false], { ch := 2 }, { plan := some { sens := [{ ch := 2 }] } }, by decide⟩,
    ⟨2, { ch := 2, maLen := 2, ratio := 1000 }, (({ now := 2000000, plan := some { sens := [{ ch := 2, maLen := 2, ratio := 1000 }] }, meu := { mclk := some 0 }, chans := [(2, { skip := 0, stamp := 24, front := 36, hist := [4, 6, 8, 10, 12, 14, 16, 18, 20, 22, 24, 26, 28, 30, 32, 34] })] } : State).put .MEU_CHBANK_MALEN0 2 2).put .MEU_CHGAIN_GAIN 2 0x40000000, by decide⟩,
    ⟨2, { ch := 2, outlet := 3, qty := 4, maLen := 2, ratio := 1000, pair := 1 }, { ch := 1, outlet := 3, ratio := 1000 }, 15, 500, (((({ now := 2000000, plan := some { sens := [{ ch := 1, outlet := 3, ratio := 1000 }, { ch := 2, outlet := 3, qty := 4, maLen := 2, ratio := 1000, pair := 1 }] }, meu := { mclk := some 0 }, chans := [(1, { stamp := 32, samples := [(24, 500)] }), (2, { skip := 0, stamp := 24, front := 36, hist := [4, 6, 8, 10, 12, 14, 16, 18, 20, 22, 24, 26, 28, 30, 32, 34] })] } : State).put .MEU_CHBANK_MALEN0 2 2).put .MEU_CHGAIN_GAIN 2 0x40000000).put .MEU_CHGAIN_GAIN 1 0x40000000), by decide⟩,
    ⟨5, { ch := 5, outlet := 0xFE, qty := 7, sensor := 4, pulsec := 1000 }, { now := 30000000, plan := some { sens := [{ ch := 5, outlet := 0xFE, qty := 7, sensor := 4, pulsec := 1000 }] }, chans := [(5, { pulseAt := some 10000000 })] }, by decide⟩,
    ⟨5, { ch := 5, outlet := 0xFE, qty := 7, sensor := 4, pulsec := 1000 }, { plan := some { sens := [{ ch := 5, outlet := 0xFE, qty := 7, sensor := 4, pulsec := 1000 }] }, chans := [(5, { pulses := 2 })] }, by decide⟩,
    ⟨5, { ch := 5, sensor := 4 }, { plan := some { sens := [{ ch := 5, sensor := 4 }] }, meu := { frozen := true }, chans := [(5, { pulses := 2 })] }, by decide⟩,
    ⟨5, { ch := 5, sensor := 4 }, { plan := some { sens := [{ ch := 5, sensor := 4 }] } }, by decide⟩⟩

theorem meets_MeteringFaultsAndCrossings :
    -- fault
    (∃ (n : Fin 64) (noClock : Bool) (s : State), s.failed 0x12 = false ∧ s.modChannel n = true ∧ (noClock = true ∨ (s.chan n).eqRun = 256) ∧ s.flag .MEU_CHSTAT_MODF n = false) ∧
    -- faultAgain
    (∃ (n : Fin 64) (s : State), s.flag .MEU_CHSTAT_MODF n = true) ∧
    -- faultEnd
    (∃ (n : Fin 64) (s : State), s.failed 0x12 = false ∧ s.flag .MEU_CHSTAT_MODF n = true ∧ (s.chan n).noClk = false ∧ (s.chan n).eqRun ≠ 256) ∧
    -- crossing
    (∃ (n : Fin 64) (at_ x a : Nat) (r : SensRec) (s : State), s.failed 0x12 = false ∧ s.sens n = some r ∧ r.qty ≤ 2 ∧ (s.chan n).found = some (at_, x) ∧ (s.chan n).lastCross = some a ∧ validInterval (at_ - a) = true ∧ s.flag .MEU_CHSTAT_ZXTO n = false ∧ s.meu.frozen = false) ∧
    -- invalidCrossing
    (∃ (n : Fin 64) (at_ x a : Nat) (r : SensRec) (s : State), s.failed 0x12 = false ∧ s.sens n = some r ∧ r.qty ≤ 2 ∧ (s.chan n).found = some (at_, x) ∧ (s.chan n).lastCross = some a ∧ validInterval (at_ - a) = false) ∧
    -- timeout
    (∃ (n : Fin 64) (r : SensRec) (s : State), s.failed 0x12 = false ∧ s.meu.mclk.isSome = true ∧ s.sens n = some r ∧ r.qty ≤ 2 ∧ s.flag .MEU_CHSTAT_ZXTO n = false) ∧
    -- freeze
    (∃ (t0 : Nat) (s : State), s.bcu.tpf = some t0 ∧ s.bcu.phase = .commit ∧ s.meu.frozen = false) := ⟨
    ⟨2, false, { plan := some { sens := [{ ch := 2 }] }, meu := { mclk := some 0 }, chans := [(2, { eqRun := 256 })] }, by decide⟩,
    ⟨2, ({} : State).put .MEU_CHSTAT_MODF 2 1, by decide⟩,
    ⟨2, ({} : State).put .MEU_CHSTAT_MODF 2 1, by decide⟩,
    ⟨2, 327680, 1285, 0, { ch := 2, outlet := 3 }, { plan := some { sens := [{ ch := 2, outlet := 3 }, { ch := 3, outlet := 3, qty := 4, pair := 2 }] }, meu := { mclk := some 0 }, chans := [(2, { lastCross := some 0, found := some (327680, 1285), stamp := 1288 }), (3, { stamp := 1290 })], elems := [(3, { split := some 1285, sums := { ea := 900 }, tail := { ea := 5 } })] }, by decide⟩,
    ⟨2, 100, 1, 0, { ch := 2 }, { plan := some { sens := [{ ch := 2 }] }, meu := { mclk := some 0 }, chans := [(2, { lastCross := some 0, found := some (100, 1) })] }, by decide⟩,
    ⟨2, { ch := 2 }, { plan := some { sens := [{ ch := 2 }] }, meu := { mclk := some 0 } }, by decide⟩,
    ⟨0, { bcu := { phase := .commit, tpf := some 0 } }, by decide⟩⟩

theorem meets_WallTimeFollowsItsSyncs :
    -- applyLocked
    (∃ (s : State), s.flag .NTU_STATUS_LOCKED 0 = true) ∧
    -- apply
    (∃ (s : State), s.flag .NTU_STATUS_LOCKED 0 = false) ∧
    -- ptpSync
    (∃ (s : State), s.flag .NTU_STATUS_LOCKED 0 = true ∧ (s.moveTo s.boundaryNext).ntuRuns = true ∧ s.billsNow = true ∧ (s.moveTo s.boundaryNext).justSynced = false) ∧
    -- hostSync
    (∃ (s : State), s.blu.applyDue = true ∧ s.billsNow = true) ∧
    -- noSync
    (∃ (ptp : Bool) (s : State), (s.billsNow = false ∨ (if ptp then s.flag .NTU_STATUS_LOCKED 0 && (s.moveTo s.boundaryNext).ntuRuns && !(s.moveTo s.boundaryNext).justSynced else s.blu.applyDue) = false)) ∧
    -- expiry
    (∃ (a : Nat) (s : State), s.blu.lastSync = some a ∧ s.wallValid = true ∧ s.billsNow = true) ∧
    -- noExpiry
    (∃ (s : State), (s.blu.lastSync = none ∨ s.wallValid = false ∨ s.billsNow = false)) := ⟨
    ⟨({} : State).put .NTU_STATUS_LOCKED 0 1, by decide⟩,
    ⟨{}, by decide⟩,
    ⟨(({ bcu := { phase := .running } } : State).put .NTU_STATUS_LOCKED 0 1), by decide⟩,
    ⟨{ blu := { applyDue := true } }, by decide⟩,
    ⟨false, {}, by decide⟩,
    ⟨0, ({ blu := { lastSync := some 0 } } : State).put .BLU_TIME_VALID 0 1, by decide⟩,
    ⟨{}, by decide⟩⟩

theorem meets_TariffSwitchesQueueAndFire :
    -- go
    (∃ (isNow : Bool) (tariff : BitVec 5) (scope : BitVec 8) (s : State), (s.tarf tariff.toNat).isSome = true ∧ s.blu.queue.length < 16 ∧ (scopeElems scope.toNat).isEmpty = false) ∧
    -- refused
    (∃ (isNow : Bool) (tariff : BitVec 5) (scope : BitVec 8) (s : State), ((s.tarf tariff.toNat).isNone = true ∨ 16 ≤ s.blu.queue.length ∨ (scopeElems scope.toNat).isEmpty = true)) ∧
    -- cancel
    (∃ (scope : BitVec 8) (s : State), s.blu.queue.length ≤ 16) ∧
    -- fires
    (∃ (w : Switch) (s : State), s.blu.queue = [w] ∧ w.eff (s.moveTo s.boundaryNext).advanceH.wall ≤ (s.moveTo s.boundaryNext).advanceH.hwm ∧ s.billsNow = true ∧ w.tariff ≤ 16) := ⟨
    ⟨false, 1, 3, { plan := some { tarf := [{ tariff := 1 }] } }, by decide⟩,
    ⟨false, 1, 3, {}, by decide⟩,
    ⟨3, { blu := { queue := [⟨3, 1, false, 0⟩, ⟨4, 1, false, 0⟩] } }, by decide⟩,
    ⟨⟨3, 1, false, 0⟩, ({ blu := { queue := [⟨3, 1, false, 0⟩] } } : State).put .BLU_TIME_VALID 0 1, by decide⟩⟩

theorem meets_BillingBoundariesAndTamper :
    -- boundary
    (∃ (s : State), s.failed 0x12 = false) ∧
    -- bank
    (∃ (s : State), s.failed 0x12 = false ∧ s.rd .MEU_STATUS_BANK 0 ≠ s.rd .MEU_CTL_BANKSEL 0) ∧
    -- opens
    (∃ (n : Nat) (s : State), n ∈ s.outlets ∧ s.outlets.Nodup ∧ s.flag .OIU_CONTACT_CFB n = true ∧ s.flag .OIU_CONTACT_CMD n = true ∧ s.flag .MEU_ESTAT_SESS n = false ∧ s.flag .BLU_ESTAT_SESS n = false ∧ s.failed 0x12 = false ∧ s.billsNow = true) ∧
    -- highWater
    (∃ (s : State), s.billsNow = true ∧ s.resumes = false ∧ s.blu.applyDue = false ∧ (s.hwm : Int) ≤ (s.moveTo s.boundaryNext).wall ∧ (s.moveTo s.boundaryNext).wall < 2 ^ 64) ∧
    -- closes
    (∃ (e : Fin 25) (r : TarfRec) (s : State), s.demandTarf e = some r ∧ s.rd .BLU_IVEND_IVEND e * 65536 ≤ (s.moveTo s.boundaryNext).advanceH.hwm ∧ s.blu.span = none ∧ s.blu.replay = none ∧ s.blu.queue = [] ∧ s.billsNow = true ∧ nextEnd r.gridSeconds (s.rd .BLU_IVEND_IVEND e) < 2 ^ 32) ∧
    -- notYet
    (∃ (e : Fin 25) (s : State), s.billsNow = true ∧ (s.moveTo s.boundaryNext).advanceH.endDue e = false) ∧
    -- notBilling
    (∃ (e : Fin 25) (s : State), s.billsNow = false) ∧
    -- tamper
    (∃ (input : Fin 5) (ohms : List Nat) (kind : Nat) (s : State), s.tamperKind input ohms = some kind ∧ s.bcu.phase ≠ .off) ∧
    -- contact
    (∃ (input : Fin 5) (ohms : List Nat) (s : State), input.val ≠ 4 ∧ bit (s.rd .BLU_TAMPCFG_TEN 0) input.val = true ∧ s.rd .BCU_VBAT_SRC 0 ≠ 2 ∧ 20 ≤ ohms.length ∧ (∀ x ∈ ohms, x < 1000) ∧ bit (s.rd .BLU_TAMPER_NOW 0) input.val = !bit (s.rd .BLU_TAMPCFG_TPOL 0) input.val) ∧
    -- disabled
    (∃ (input : Fin 5) (ohms : List Nat) (s : State), input.val ≠ 4 ∧ (bit (s.rd .BLU_TAMPCFG_TEN 0) input.val = false ∨ ohms.length < s.tamperNeeds)) ∧
    -- keptTamper
    (∃ (input : Fin 5) (ohms : List Nat) (kind : Nat) (s : State), s.tamperKind input ohms = some kind ∧ s.bcu.phase = .off) := ⟨
    ⟨{}, by decide⟩,
    ⟨({} : State).put .MEU_CTL_BANKSEL 0 1, by decide⟩,
    ⟨3, (({ plan := some { outl := [{ outlet := 3 }] } } : State).put .OIU_CONTACT_CFB 3 1).put .OIU_CONTACT_CMD 3 1, by decide⟩,
    ⟨{}, by decide⟩,
    ⟨3, { tariff := 0, demand := 1 }, { plan := some { tarf := [{ tariff := 0, demand := 1 }] } }, by decide⟩,
    ⟨3, {}, by decide⟩,
    ⟨3, { blu := { stopped := true } }, by decide⟩,
    ⟨4, List.replicate 20 30000, 3, {}, by decide⟩,
    ⟨1, List.replicate 20 5, (({} : State).put .BLU_TAMPCFG_TEN 0 2).put .BLU_TAMPCFG_TPOL 0 2, by decide⟩,
    ⟨1, [], {}, by decide⟩,
    ⟨4, List.replicate 20 30000, 3, { bcu := { phase := .off } }, by decide⟩⟩

theorem meets_DistributionStaysWithinItsBudget :
    -- bounds
    (∃ (l : List Share) (avail : Int), (∀ x ∈ l, 0 ≤ x.r ∧ 0 ≤ x.floor ∧ x.level ≤ 15)) :=
    ⟨[⟨1, 3, 5000, 0, 1000, 0, 0⟩, ⟨2, 1, 5000, 0, 1000, 0, 0⟩], 7000, by decide⟩

theorem meets_AllocatorCyclesAndTheirLosses :
    -- stands
    (∃ (s : State), s.allocRuns = false) ∧
    -- cycle
    (∃ (s : State), s.allocRuns = true ∧ s.alloc.resume = false) ∧
    -- grid
    (∃ (d : Nat) (s : State), s.allocRuns = true ∧ s.alloc.resume = false ∧ s.alloc.dueAt = some d ∧ d ≤ s.now ∧ s.now < d + s.allocPeriod) ∧
    -- resume
    (∃ (s : State), s.allocRuns = true ∧ s.alloc.resume = true) ∧
    -- abandoned
    (∃ (s : State), s.allocRuns = true ∧ s.alloc.resume = false ∧ (s.alloc.abandoned + 1 < 2 ∨ s.alloc.core.fallback = true)) ∧
    -- fallback
    (∃ (s : State), s.allocRuns = true ∧ s.alloc.resume = false ∧ 1 ≤ s.alloc.abandoned ∧ s.alloc.core.fallback = false) ∧
    -- breachClear
    (∃ (t0 : Nat) (s : State), s.alloc.core.belowSince = some t0 ∧ (s.alloc.core.breach = 1 ∨ s.alloc.core.breach = 2) ∧ (∀ x ∈ lookup [] s.alloc.hist 24, x.at_ ≤ s.alloc.breachAt)) ∧
    -- moduleLost
    (∃ (n : Fin 24) (cause : Fin 3) (t0 : Nat) (s : State), bit s.alloc.lost n.val = false ∧ 2 ≤ s.kind n ∧ s.allocRuns = true ∧ s.lossAt n cause = some t0) ∧
    -- noModuleLoss
    (∃ (n : Fin 24) (cause : Fin 3) (s : State), (s.kind n < 2 ∨ s.allocRuns = false ∨ s.lossAt n cause = none)) ∧
    -- closeDrop
    (∃ (n : Fin 24) (t0 : Nat) (s : State), lookup none s.alloc.lostT n = some t0) ∧
    -- miss
    (∃ (solar : Bool) (s : State), (if solar then s.alloc.solar else s.alloc.stor).misses = 4 ∧ (if solar then s.alloc.solar else s.alloc.stor).lost = false) ∧
    -- profile
    (∃ (p : OcppProfile) (v : Nat) (s : State), s.ocppVersion = some v ∧ (ocppPurposes v).contains p.purpose = true ∧ p.setpoints = false) ∧
    -- rejected
    (∃ (p : OcppProfile) (v : Nat) (s : State), s.ocppVersion = some v ∧ ((ocppPurposes v).contains p.purpose = false ∨ p.setpoints = true)) ∧
    -- noEndpoint
    (∃ (p : OcppProfile) (s : State), s.ocppVersion = none) := ⟨
    ⟨{ bcu := { ember := true } }, by decide⟩,
    ⟨({ bcu := { phase := .running }, plan := some { outl := [{ outlet := 3 }] }, alloc := { core := { grants := [(2, 5000)] } } } : State).put .OIU_CPSTATE_STATE 3 3, by decide⟩,
    ⟨5, { now := 20000005, bcu := { phase := .running }, plan := some {}, alloc := { dueAt := some 5 } }, by decide⟩,
    ⟨{ now := 1000000000, bcu := { phase := .running }, plan := some {}, alloc := { resume := true, ckpt := some { cycle := 7 }, lastAt := some 0 } }, by decide⟩,
    ⟨{ bcu := { phase := .running }, plan := some {} }, by decide⟩,
    ⟨({ bcu := { phase := .running }, plan := some { outl := [{ outlet := 3 }] }, alloc := { abandoned := 1 } } : State).put .OIU_CPSTATE_STATE 3 3, by decide⟩,
    ⟨0, { alloc := { core := { breach := 2, belowSince := some 0 } } }, by decide⟩,
    ⟨3, 0, 0, { bcu := { phase := .running }, plan := some { outl := [{ outlet := 3, kind := 2 }] } }, by decide⟩,
    ⟨3, 1, {}, by decide⟩,
    ⟨3, 0, ({ alloc := { lostT := [(3, some 0)] } } : State).put .OIU_CONTACT_CLOSE_EN 3 1, by decide⟩,
    ⟨true, { alloc := { solar := { misses := 4 } } }, by decide⟩,
    ⟨⟨3, 2, 0, false, true, 3, [(0, 16)], none⟩, 2, { plan := some { netw := [⟨5, [2]⟩] } }, by decide⟩,
    ⟨⟨5, 2, 0, false, true, 3, [(0, 16)], none⟩, 1, { plan := some { netw := [⟨5, [1]⟩] } }, by decide⟩,
    ⟨⟨3, 2, 0, false, true, 3, [(0, 16)], none⟩, {}, by decide⟩⟩

theorem meets_ChannelsTurnOnThroughTheirBank :
    -- on
    (∃ (c : Fin 32) (s : State), 3 ≤ s.func c ∧ s.failed 0x16 = false ∧ s.flag .BCU_STATUS_GHOLD 0 = false ∧ s.phase c = phOff ∧ bit (s.rd .PSW_PERMIT_PERMIT 0) c = true ∧ bit (s.rd .PSW_TRIPRB_TRIP 0) c = false ∧ s.rd .PSW_BANKS_QUEUE (c.val / 8) = 0 ∧ s.flag .PSW_BANKS_BUSY (c.val / 8) = false ∧ s.flag .PSW_BANKS_UV (c.val / 8) = false ∧ s.flag .PSW_BANKS_DROOP (c.val / 8) = false) ∧
    -- queues
    (∃ (c : Fin 32) (s : State), 3 ≤ s.func c ∧ s.failed 0x16 = false ∧ s.flag .BCU_STATUS_GHOLD 0 = false ∧ s.phase c = phOff ∧ bit (s.rd .PSW_PERMIT_PERMIT 0) c = true ∧ bit (s.rd .PSW_TRIPRB_TRIP 0) c = false ∧ s.flag .PSW_BANKS_BUSY (c.val / 8) = true ∧ s.flag .PSW_BANKS_UV (c.val / 8) = false) ∧
    -- off
    (∃ (c : Fin 32) (s : State), 3 ≤ s.func c ∧ s.flag .BCU_STATUS_GHOLD 0 = false ∧ s.phase c = phOn ∧ (s.sw c).triedAt ≠ some s.now) ∧
    -- slot
    (∃ (k : Fin 4) (i : Nat) (s : State), s.flag .PSW_BANKS_BUSY k = false ∧ s.flag .PSW_BANKS_UV k = false ∧ s.nextWaiting k = some i) ∧
    -- slotTaken
    (∃ (k : Fin 4) (s : State), (s.flag .PSW_BANKS_BUSY k = true ∨ s.flag .PSW_BANKS_UV k = true ∨ s.nextWaiting k = none)) ∧
    -- windowEnd
    (∃ (c : Fin 32) (t0 : Nat) (s : State), (s.sw c).winEnd = some t0 ∧ (s.sw c).frozenAt = none ∧ bit (s.rd .PSW_BANKS_QUEUE (c.val / 8)) (c.val % 8) = false) ∧
    -- windowLimit
    (∃ (c : Fin 32) (t0 : Nat) (s : State), (s.sw c).winEnd = some t0 ∧ (s.sw c).frozenAt = none) := ⟨
    ⟨9, ({ plan := some { swch := [{ ch := 9, func := 5, inrushMs := 20 }] } } : State).put .PSW_PERMIT_PERMIT 0 0x200, by decide⟩,
    ⟨9, (({ plan := some { swch := [{ ch := 9, func := 5, inrushMs := 20 }] } } : State).put .PSW_PERMIT_PERMIT 0 0x200).put .PSW_BANKS_BUSY 1 1, by decide⟩,
    ⟨9, ({ plan := some { swch := [{ ch := 9, func := 5 }] }, sws := [(9, { onEff := true })] } : State).setPhase 9 3, by decide⟩,
    ⟨1, 3, ({} : State).put .PSW_BANKS_QUEUE 1 0x28, by decide⟩,
    ⟨1, {}, by decide⟩,
    ⟨9, 5, ({ sws := [(9, { winEnd := some 5 })] } : State).setPhase 9 2, by decide⟩,
    ⟨9, 5, ({ sws := [(9, { winEnd := some 5 })] } : State).setPhase 9 2, by decide⟩⟩

theorem meets_ChannelFaultsRetryAndLatch :
    -- short
    (∃ (c : Fin 32) (mv : Nat) (s : State), mv < 2000 ∧ s.chOn c = true ∧ s.sourceOn c = true ∧ satInc 15 (s.rd .PSW_CHSTAT_TRIES c) < s.retryN c) ∧
    -- over
    (∃ (c : Fin 32) (x : LoadSpan) (s : State), s.phase c = phOn ∧ ((s.sw c).load x).overloaded = true ∧ s.sourceOn c = true ∧ satInc 15 (s.rd .PSW_CHSTAT_TRIES c) < s.retryN c) ∧
    -- load
    (∃ (c : Fin 32) (x : LoadSpan) (s : State), s.phase c = phOn ∧ ((s.sw c).load x).overloaded = false) ∧
    -- loadCounts
    (∃ (w : SwCh) (x : LoadSpan) (s : State), x.on = true) ∧
    -- hot
    (∃ (c : Fin 32) (junction : Nat) (s : State), 160 ≤ junction ∧ s.chOn c = true ∧ s.sourceOn c = true ∧ satInc 15 (s.rd .PSW_CHSTAT_TRIES c) < s.retryN c) ∧
    -- latches
    (∃ (c : Fin 32) (mv : Nat) (s : State), mv < 2000 ∧ s.chOn c = true ∧ s.sourceOn c = true ∧ s.retryN c ≤ satInc 15 (s.rd .PSW_CHSTAT_TRIES c)) ∧
    -- notOn
    (∃ (c : Fin 32) (limited : Bool) (mv junction : Nat) (s : State), s.chOn c = false ∧ s.justOff c = false) ∧
    -- notInLimit
    (∃ (c : Fin 32) (limited : Bool) (mv junction : Nat) (s : State), (limited = false ∨ 2000 ≤ mv) ∧ junction < 160) ∧
    -- justOff
    (∃ (c : Fin 32) (mv : Nat) (s : State), mv < 2000 ∧ s.justOff c = true) ∧
    -- pauseEnd
    (∃ (c : Fin 32) (junction : Nat) (t0 : Nat) (s : State), (s.sw c).pauseEnd = some t0 ∧ ((s.sw c).hot = false ∨ junction < 140) ∧ s.wantsOn c = true ∧ s.failed 0x16 = false ∧ s.sourceOn c = true ∧ s.rd .PSW_BANKS_QUEUE (c.val / 8) = 0 ∧ s.flag .PSW_BANKS_BUSY (c.val / 8) = false ∧ s.flag .PSW_BANKS_UV (c.val / 8) = false) ∧
    -- stillHot
    (∃ (c : Fin 32) (junction : Nat) (t0 : Nat) (s : State), 140 ≤ junction ∧ (s.sw c).pauseEnd = some t0 ∧ (s.sw c).hot = true) ∧
    -- good
    (∃ (c : Fin 32) (t0 : Nat) (s : State), (s.sw c).goodAt = some t0) ∧
    -- latchClear
    (∃ (c : Fin 32) (s : State), s.phase c = phLatched ∧ s.sourceOn c = false ∧ s.flag .BCU_STATUS_GHOLD 0 = false) ∧
    -- notLatched
    (∃ (c : Fin 32) (s : State), s.phase c ≠ phLatched ∧ s.flag .BCU_STATUS_GHOLD 0 = false) ∧
    -- latchHeld
    (∃ (c : Fin 32) (s : State), s.flag .BCU_STATUS_GHOLD 0 = true) ∧
    -- openLoad
    (∃ (c : Fin 32) (mv : Nat) (isOpen : Bool) (r : SwchRec) (s : State), isOpen = decide (3000 ≤ mv) ∧ s.swch c = some r ∧ bit r.flags 0 = true ∧ s.chOn c = false ∧ s.flag .PSW_BANKS_UV (c.val / 8) = false ∧ s.flag .PSW_CHSTAT_OLNOW c ≠ isOpen) ∧
    -- pwm
    (∃ (c : Fin 32) (vmean : BitVec 16) (s : State), s.flag .BCU_STATUS_GHOLD 0 = false ∧ s.rd .PSW_CHCTL_PWMF c ≠ 0) := ⟨
    ⟨9, 1999, ({ plan := some { swch := [{ ch := 9, func := 5 }] }, sws := [(9, { onEff := true })] } : State).setPhase 9 3, by decide⟩,
    ⟨9, ⟨20000, 3400, false, true⟩, ({ plan := some { swch := [{ ch := 9, func := 5 }] }, sws := [(9, { onEff := true })] } : State).setPhase 9 3, by decide⟩,
    ⟨9, ⟨19999, 3400, false, true⟩, ({} : State).setPhase 9 3, by decide⟩,
    ⟨{}, ⟨50, 4000, true, true⟩, {}, by decide⟩,
    ⟨9, 160, ({ plan := some { swch := [{ ch := 9, func := 5 }] }, sws := [(9, { onEff := true })] } : State).setPhase 9 3, by decide⟩,
    ⟨9, 0, ({ plan := some { swch := [{ ch := 9, func := 5, retryN := 1 }] }, sws := [(9, { onEff := true })] } : State).setPhase 9 3, by decide⟩,
    ⟨9, true, 0, 200, {}, by decide⟩,
    ⟨9, false, 0, 159, {}, by decide⟩,
    ⟨9, 5, { plan := some { swch := [{ ch := 9, func := 5 }] }, sws := [(9, { offAt := some 0 })] }, by decide⟩,
    ⟨9, 150, 5, (({ plan := some { swch := [{ ch := 9, func := 5 }] }, sws := [(9, { onEff := true, pauseEnd := some 5 })] } : State).put .PSW_PERMIT_PERMIT 0 0x200).setPhase 9 4, by decide⟩,
    ⟨9, 140, 5, { sws := [(9, { hot := true, pauseEnd := some 5 })] }, by decide⟩,
    ⟨9, 5, { sws := [(9, { goodAt := some 5 })] }, by decide⟩,
    ⟨9, ({} : State).setPhase 9 5, by decide⟩,
    ⟨9, {}, by decide⟩,
    ⟨9, ({} : State).put .BCU_STATUS_GHOLD 0 1, by decide⟩,
    ⟨9, 3000, true, { ch := 9, flags := 1 }, { plan := some { swch := [{ ch := 9, flags := 1 }] } }, by decide⟩,
    ⟨9, 2400, (({ plan := some { swch := [{ ch := 9, func := 5, vnom := 24000 }] } } : State).put .PSW_CHCTL_PWMF 9 1).put .PSW_CHDUTY_DUTY 9 500, by decide⟩⟩

theorem meets_BanksGuardTheirSupply :
    -- droop
    (∃ (k : Fin 4) (vnow vmean : BitVec 16) (s : State), vnow.toNat * 100 < s.rd .PSW_BANKCTL_DROOP k * vmean.toNat ∧ s.flag .PSW_BANKS_DROOP k = false ∧ s.flag .PSW_BANKS_BUSY k = true ∧ (s.sw (8 * k.val + s.rd .PSW_BANKS_HOLDER k)).frozenUsed < 5000000) ∧
    -- droopEnd
    (∃ (k : Fin 4) (vnow vmean : BitVec 16) (t0 w : Nat) (s : State), s.rd .PSW_BANKCTL_DROOP k * vmean.toNat ≤ vnow.toNat * 100 ∧ s.flag .PSW_BANKS_DROOP k = true ∧ s.flag .PSW_BANKS_BUSY k = true ∧ s.rd .PSW_BANKS_HOLDER k < 8 ∧ (s.sw (8 * k.val + s.rd .PSW_BANKS_HOLDER k)).frozenAt = some t0 ∧ (s.sw (8 * k.val + s.rd .PSW_BANKS_HOLDER k)).winEnd = some w) ∧
    -- undervoltage
    (∃ (k : Fin 4) (vnow : BitVec 16) (s : State), vnow.toNat < 800 ∧ s.rd .PSW_BANKS_UV k = 0) ∧
    -- undervoltageEnd
    (∃ (k : Fin 4) (vnow : BitVec 16) (s : State), 850 ≤ vnow.toNat ∧ s.rd .PSW_BANKS_UV k = 1 ∧ s.failed 0x16 = false) ∧
    -- voltageShown
    (∃ (k : Fin 4) (vnow : BitVec 16) (s : State), 800 ≤ vnow.toNat ∧ vnow.toNat < 850) ∧
    -- overcurrent
    (∃ (k : Fin 4) (milliamps : List Nat) (micros : Nat) (c : Nat) (rest : List Nat) (s : State), 10000 ≤ micros ∧ 13000 < s.bankSum k milliamps ∧ s.shedOrder k = c :: rest) ∧
    -- enough
    (∃ (k : Fin 4) (milliamps : List Nat) (micros : Nat) (s : State), (s.bankSum k milliamps ≤ 13000 ∨ micros < 10000)) := ⟨
    ⟨1, 800, 2400, ({} : State).put .PSW_BANKS_BUSY 1 1, by decide⟩,
    ⟨1, 2400, 2400, 0, 9, (({ now := 300000, sws := [(8, { winEnd := some 9, frozenAt := some 0 })] } : State).put .PSW_BANKS_BUSY 1 1).put .PSW_BANKS_DROOP 1 1, by decide⟩,
    ⟨1, 700, ({} : State).setPhase 9 3, by decide⟩,
    ⟨1, 900, ({} : State).put .PSW_BANKS_UV 1 1, by decide⟩,
    ⟨1, 820, {}, by decide⟩,
    ⟨1, [0, 14000], 10000, 9, [], ({} : State).setPhase 9 3, by decide⟩,
    ⟨1, [0, 13000], 10000, ({} : State).setPhase 9 3, by decide⟩⟩

theorem meets_GroundsheetCyclesDemandAndEnable :
    -- frozen
    (∃ (encoder : Option (Nat × Nat × Bool)) (s : State), s.gseRuns = false) ∧
    -- counts
    (∃ (encoder : Option (Nat × Nat × Bool)) (s : State), s.gseRuns = true ∧ s.rd .GSE_STATUS_STATE 0 ≠ 1 ∧ s.rd .GSE_STATUS_STATE 0 ≠ 2) ∧
    -- waits
    (∃ (encoder : Option (Nat × Nat × Bool)) (s : State), s.gseRuns = true ∧ s.rd .GSE_STATUS_STATE 0 = 1) ∧
    -- demand
    (∃ (k : Fin 16) (encoder : Option (Nat × Nat × Bool)) (r : SafeRec) (cause : Nat) (s : State), s.gseRuns = true ∧ s.rd .GSE_STATUS_STATE 0 = 2 ∧ s.safeRec k = some r ∧ cause = (if r.func = 4 then (s.moveTo s.nextCycle).readEncoder k r (encoder.getD (0, 0, false)).1 (encoder.getD (0, 0, false)).2.1 (encoder.getD (0, 0, false)).2.2 else s.moveTo s.nextCycle).causeOf k r ∧ 0 < cause ∧ cause < 16 ∧ (s.gfn k).caused = false ∧ r.stopCat ≠ 1 ∧ s.flag .GSE_FUNC_STOPPING k = false) ∧
    -- enable
    (∃ (k : Fin 16) (encoder : Option (Nat × Nat × Bool)) (r : SafeRec) (s : State), s.gseRuns = true ∧ s.rd .GSE_STATUS_STATE 0 = 2 ∧ s.safeRec k = some r ∧ (if r.func = 4 then (s.moveTo s.nextCycle).readEncoder k r (encoder.getD (0, 0, false)).1 (encoder.getD (0, 0, false)).2.1 (encoder.getD (0, 0, false)).2.2 else s.moveTo s.nextCycle).causeOf k r = 0 ∧ (if r.func = 4 then (s.moveTo s.nextCycle).readEncoder k r (encoder.getD (0, 0, false)).1 (encoder.getD (0, 0, false)).2.1 (encoder.getD (0, 0, false)).2.2 else s.moveTo s.nextCycle).flag .GSE_FUNC_FFAULT k = false ∧ s.flag .GSE_FUNC_STOPPING k = false ∧ s.flag .GSE_FUNC_EN k = false ∧ s.flag .GSE_FUNC_RSTREQ k = false) ∧
    -- enableReset
    (∃ (k : Fin 16) (encoder : Option (Nat × Nat × Bool)) (r : SafeRec) (s : State), s.gseRuns = true ∧ s.rd .GSE_STATUS_STATE 0 = 2 ∧ s.safeRec k = some r ∧ (if r.func = 4 then (s.moveTo s.nextCycle).readEncoder k r (encoder.getD (0, 0, false)).1 (encoder.getD (0, 0, false)).2.1 (encoder.getD (0, 0, false)).2.2 else s.moveTo s.nextCycle).causeOf k r = 0 ∧ (if r.func = 4 then (s.moveTo s.nextCycle).readEncoder k r (encoder.getD (0, 0, false)).1 (encoder.getD (0, 0, false)).2.1 (encoder.getD (0, 0, false)).2.2 else s.moveTo s.nextCycle).flag .GSE_FUNC_FFAULT k = false ∧ s.flag .GSE_FUNC_STOPPING k = false ∧ s.flag .GSE_FUNC_EN k = false ∧ s.flag .GSE_FUNC_RSTREQ k = true ∧ (s.moveTo s.nextCycle).pulsed k r = true) := ⟨
    ⟨none, { gse := { frozen := true } }, by decide⟩,
    ⟨none, {}, by decide⟩,
    ⟨none, ({} : State).put .GSE_STATUS_STATE 0 1, by decide⟩,
    ⟨0, none, { func := 1, outMask := 1, params := [0, 0xFF, 0, 1, 2] }, 1, ((({ gse := { copy := [{ func := 1, outMask := 1, params := [0, 0xFF, 0, 1, 2] }] } } : State).put .GSE_STATUS_STATE 0 2).put .GSE_FUNC_EN 0 1).put .GSE_SO_CMD 0 1, by decide⟩,
    ⟨0, none, { func := 1, outMask := 1, params := [0, 0xFF, 0, 1, 2] }, ((({ gse := { copy := [{ func := 1, outMask := 1, params := [0, 0xFF, 0, 1, 2] }] } } : State).put .GSE_STATUS_STATE 0 2).put .GSE_SI_IN 0 3), by decide⟩,
    ⟨0, none, { func := 1, outMask := 1, params := [0, 0xFF, 0, 1, 2] }, ((({ gse := { copy := [{ func := 1, outMask := 1, params := [0, 0xFF, 0, 1, 2] }], pulses := [(0xFF, 7, 9)], fns := [(0, { safeSince := some 5 })] } } : State).put .GSE_STATUS_STATE 0 2).put .GSE_SI_IN 0 3).put .GSE_FUNC_RSTREQ 0 1, by decide⟩⟩

theorem meets_SafetyTimersFaultsAndMuting :
    -- testPulse
    (∃ (k : Fin 4) (reads : PulseReads) (j : Fin 16) (r : SafeRec) (s : State), s.gseRuns = true ∧ (s.rd .GSE_STATUS_STATE 0 = 1 ∨ s.rd .GSE_STATUS_STATE 0 = 2) ∧ s.safeRec j = some r ∧ s.flag .GSE_FUNC_FFAULT j = false ∧ r.siA < 16 ∧ r.byte 8 = k.val ∧ s.si r.siA = true ∧ s.tpOf r.siA = some k.val ∧ (bit reads.low.toNat r.siA = false ∨ bit reads.late.toNat r.siA = true)) ∧
    -- noTest
    (∃ (k : Fin 4) (low : PulseReads) (s : State), s.rd .GSE_STATUS_STATE 0 ≠ 1 ∧ s.rd .GSE_STATUS_STATE 0 ≠ 2) ∧
    -- discrepancy
    (∃ (k : Fin 16) (t0 : Nat) (r : SafeRec) (s : State), s.gseRuns = true ∧ (s.gfn k).discAt = some t0 ∧ s.safeRec k = some r ∧ s.flag .GSE_FUNC_FFAULT k = false) ∧
    -- edm
    (∃ (k : Fin 16) (t0 : Nat) (r : SafeRec) (s : State), s.gseRuns = true ∧ (s.gfn k).edmAt = some t0 ∧ s.safeRec k = some r ∧ s.flag .GSE_FUNC_FFAULT k = false) ∧
    -- stopDelay
    (∃ (k : Fin 16) (t0 : Nat) (r : SafeRec) (s : State), s.gseRuns = true ∧ (s.gfn k).stopAt = some t0 ∧ s.safeRec k = some r ∧ s.flag .GSE_FUNC_EN k = false) ∧
    -- unlockDelay
    (∃ (k : Fin 16) (t0 : Nat) (r : SafeRec) (s : State), s.gseRuns = true ∧ (s.gfn k).unlkAt ≠ none ∧ s.safeRec k = some r ∧ (s.watchUnlk k r).offSince r = some t0) ∧
    -- muting
    (∃ (k : Fin 16) (r : SafeRec) (s : State), s.rd .GSE_STATUS_STATE 0 = 2 ∧ s.gseRuns = true ∧ s.safeRec k = some r ∧ r.func = 3 ∧ r.byte 20 < 16 ∧ r.byte 21 < 16 ∧ s.si (r.byte 20) = true ∧ s.si (r.byte 21) = true ∧ (s.gfn k).muteBlocked = false ∧ s.flag .GSE_FUNC_MUTED k = false ∧ s.inputsSafe r = true ∧ absDiff (lookup 0 s.gse.siAt (r.byte 20)) (lookup 0 s.gse.siAt (r.byte 21)) ≤ 1000000 * r.u16 22) ∧
    -- muteTooLate
    (∃ (k : Fin 16) (r : SafeRec) (s : State), s.rd .GSE_STATUS_STATE 0 = 2 ∧ s.gseRuns = true ∧ s.safeRec k = some r ∧ r.func = 3 ∧ r.byte 20 < 16 ∧ r.byte 21 < 16 ∧ s.si (r.byte 20) = true ∧ s.si (r.byte 21) = true ∧ (s.gfn k).muteBlocked = false ∧ s.flag .GSE_FUNC_MUTED k = false ∧ s.inputsSafe r = true ∧ 1000000 * r.u16 22 < absDiff (lookup 0 s.gse.siAt (r.byte 20)) (lookup 0 s.gse.siAt (r.byte 21))) ∧
    -- muteEnd
    (∃ (k : Fin 16) (r : SafeRec) (s : State), s.gseRuns = true ∧ s.safeRec k = some r ∧ s.flag .GSE_FUNC_MUTED k = true ∧ (s.si (r.byte 20) && s.si (r.byte 21)) = false) ∧
    -- muteMax
    (∃ (k : Fin 16) (t0 : Nat) (r : SafeRec) (s : State), s.gseRuns = true ∧ (s.gfn k).muteEnd = some t0 ∧ s.safeRec k = some r ∧ s.flag .GSE_FUNC_MUTED k = true) ∧
    -- fault
    (∃ (code : Fin 8) (s : State), s.gseRuns = true ∧ s.rd .GSE_STATUS_STATE 0 ≠ 3) ∧
    -- faultAgain
    (∃ (code : Fin 8) (s : State), s.rd .GSE_STATUS_STATE 0 = 3) ∧
    -- vsio
    (∃ (s : State), s.gseRuns = true ∧ s.flag .GSE_STATUS_VSIOUV 0 = false) ∧
    -- vsioEnd
    (∃ (s : State), s.gseRuns = true ∧ s.flag .GSE_STATUS_VSIOUV 0 = true) := ⟨
    ⟨2, { low := 0 }, 0, { func := 1, params := [0, 0xFF, 0, 1, 2, 2, 3] }, ((({ gse := { copy := [{ func := 1, params := [0, 0xFF, 0, 1, 2, 2, 3] }] } } : State).put .GSE_STATUS_STATE 0 2).put .GSE_SI_IN 0 3), by decide⟩,
    ⟨2, { low := 0 }, {}, by decide⟩,
    ⟨0, 5, { func := 1 }, { gse := { copy := [{ func := 1 }], fns := [(0, { discAt := some 5 })] } }, by decide⟩,
    ⟨0, 5, { func := 1 }, { gse := { copy := [{ func := 1 }], fns := [(0, { edmAt := some 5 })] } }, by decide⟩,
    ⟨0, 5, { func := 1, outMask := 1 }, (({ gse := { copy := [{ func := 1, outMask := 1 }], fns := [(0, { stopAt := some 5 })] } } : State).put .GSE_STATUS_STATE 0 2).put .GSE_FUNC_STOPPING 0 1, by decide⟩,
    ⟨0, 0, { func := 2 }, { gse := { copy := [{ func := 2 }], fns := [(0, { unlkAt := some 5 })] } }, by decide⟩,
    ⟨0, { func := 3, params := [0, 0xFF, 0, 1, 2, 0, 0, 0, 0, 0, 0, 0, 0, 0, 0, 0, 0, 2, 3] }, (({ gse := { copy := [{ func := 3, params := [0, 0xFF, 0, 1, 2, 0, 0, 0, 0, 0, 0, 0, 0, 0, 0, 0, 0, 2, 3] }] } } : State).put .GSE_SI_IN 0 15).put .GSE_STATUS_STATE 0 2, by decide⟩,
    ⟨0, { func := 3, params := [0, 0xFF, 0, 1, 2, 0, 0, 0, 0, 0, 0, 0, 0, 0, 0, 0, 0, 2, 3] }, (({ gse := { copy := [{ func := 3, params := [0, 0xFF, 0, 1, 2, 0, 0, 0, 0, 0, 0, 0, 0, 0, 0, 0, 0, 2, 3] }], siAt := [(2, 7)] } } : State).put .GSE_SI_IN 0 15).put .GSE_STATUS_STATE 0 2, by decide⟩,
    ⟨0, { func := 3 }, ({ gse := { copy := [{ func := 3 }] } } : State).put .GSE_FUNC_MUTED 0 1, by decide⟩,
    ⟨0, 5, { func := 3 }, ({ gse := { copy := [{ func := 3 }], fns := [(0, { muteEnd := some 5 })] } } : State).put .GSE_FUNC_MUTED 0 1, by decide⟩,
    ⟨4, ({} : State).put .GSE_SO_CMD 0 1, by decide⟩,
    ⟨4, ({} : State).put .GSE_STATUS_STATE 0 3, by decide⟩,
    ⟨{}, by decide⟩,
    ⟨({} : State).put .GSE_STATUS_VSIOUV 0 1, by decide⟩⟩

theorem meets_AntennasFindCards :
    -- room
    (∃ (k : Fin 4) (s : State), s.isBound (antennaStream k) = false ∧ s.hasRoom (antennaStream k) 1 = true ∧ (∀ c ∈ s.sch.classes, 1 ≤ c.sps) ∧ (∀ x ∈ s.sch.slices, x.stream = 0xFFFF → x.freed = false)) ∧
    -- bound
    (∃ (k : Fin 4) (s : State), s.isBound (antennaStream k) = true) ∧
    -- refused
    (∃ (k : Fin 4) (s : State), s.isBound (antennaStream k) = false ∧ s.hasRoom (antennaStream k) 1 = false) ∧
    -- card
    (∃ (k : Fin 4) (current reached rate : Nat) (uid : List Nat) (s : State), s.flag .CLU_ANTCTL_ADM k = true ∧ s.bcu.ember = false ∧ s.failed 0x18 = false ∧ s.appRuns = true ∧ 20 ≤ current ∧ current ≤ 250 ∧ 1 ≤ reached ∧ bit (s.rd .CLU_ANTCTL_POLL k) 0 = true ∧ bit (s.rd .CLU_ANTCTL_POLL k) 1 = false ∧ bit (s.rd .CLU_ANTCTL_POLL k) 2 = false ∧ (uid.length = 4 ∨ uid.length = 7 ∨ uid.length = 10)) ∧
    -- cardB
    (∃ (k : Fin 4) (current reached rate : Nat) (pupi : List Nat) (s : State), s.flag .CLU_ANTCTL_ADM k = true ∧ s.bcu.ember = false ∧ s.failed 0x18 = false ∧ s.appRuns = true ∧ 20 ≤ current ∧ current ≤ 250 ∧ 1 ≤ reached ∧ bit (s.rd .CLU_ANTCTL_POLL k) 0 = false ∧ bit (s.rd .CLU_ANTCTL_POLL k) 1 = true ∧ bit (s.rd .CLU_ANTCTL_POLL k) 2 = false ∧ pupi.length < 16) ∧
    -- cardV
    (∃ (k : Fin 4) (current reached rate : Nat) (v : VCard) (s : State), s.flag .CLU_ANTCTL_ADM k = true ∧ s.bcu.ember = false ∧ s.failed 0x18 = false ∧ s.appRuns = true ∧ 20 ≤ current ∧ current ≤ 250 ∧ 1 ≤ reached ∧ bit (s.rd .CLU_ANTCTL_POLL k) 0 = false ∧ bit (s.rd .CLU_ANTCTL_POLL k) 1 = false ∧ bit (s.rd .CLU_ANTCTL_POLL k) 2 = true ∧ (s.rd .CLU_ANTCTL_AFI k = 0 ∨ v.afi = s.rd .CLU_ANTCTL_AFI k)) ∧
    -- noCard
    (∃ (k : Fin 4) (current reached rate : Nat) (s : State), s.flag .CLU_ANTCTL_ADM k = true ∧ s.bcu.ember = false ∧ s.failed 0x18 = false ∧ s.appRuns = true ∧ 20 ≤ current ∧ current ≤ 250 ∧ 1 ≤ reached) ∧
    -- several
    (∃ (k : Fin 4) (current reached rate : Nat) (a b : List Nat) (s : State), s.flag .CLU_ANTCTL_ADM k = true ∧ s.bcu.ember = false ∧ s.failed 0x18 = false ∧ s.appRuns = true ∧ 20 ≤ current ∧ current ≤ 250 ∧ 1 ≤ reached ∧ bit (s.rd .CLU_ANTCTL_POLL k) 0 = true ∧ bit (s.rd .CLU_ANTCTL_POLL k) 1 = false ∧ bit (s.rd .CLU_ANTCTL_POLL k) 2 = false ∧ (a.length = 4 ∨ a.length = 7 ∨ a.length = 10) ∧ (b.length = 4 ∨ b.length = 7 ∨ b.length = 10) ∧ a ≠ b) ∧
    -- fault
    (∃ (k : Fin 4) (r : AntennaResult) (s : State), s.flag .CLU_ANTCTL_ADM k = true ∧ s.bcu.ember = false ∧ s.failed 0x18 = false ∧ s.appRuns = true ∧ (r.current < 20 ∨ 250 < r.current)) ∧
    -- noSlice
    (∃ (k : Fin 4) (r : AntennaResult) (s : State), (s.flag .CLU_ANTCTL_ADM k = false ∨ s.bcu.ember = true ∨ s.failed 0x18 = true ∨ s.appRuns = false)) ∧
    -- answered
    (∃ (k : Fin 4) (request answer : List Nat) (s : State), bit s.clu.active k.val = true ∧ s.failed 0x18 = false ∧ s.appRuns = true ∧ s.bcu.ember = false ∧ s.now ≤ s.exchangeEnd k ∧ request.length ≤ 256) ∧
    -- cardLeft
    (∃ (k : Fin 4) (request answer : List Nat) (s : State), bit s.clu.active k.val = true ∧ s.failed 0x18 = false ∧ s.appRuns = true ∧ s.bcu.ember = false ∧ s.now ≤ s.exchangeEnd k ∧ request.length ≤ 256) ∧
    -- goesOn
    (∃ (k : Fin 4) (request answer : List Nat) (s : State), bit s.clu.active k.val = true ∧ s.failed 0x18 = false ∧ s.appRuns = true ∧ s.bcu.ember = false ∧ s.now ≤ s.exchangeEnd k ∧ request.length ≤ 256) ∧
    -- noExchange
    (∃ (k : Fin 4) (request answer : List Nat) (o : Fin 3) (s : State), (bit s.clu.active k.val = false ∨ s.failed 0x18 = true ∨ s.appRuns = false ∨ s.bcu.ember = true ∨ s.exchangeEnd k < s.now ∨ 256 < request.length)) ∧
    -- break
    (∃ (k : Fin 4) (s : State), bit s.clu.running k.val = true) ∧
    -- nothingToBreak
    (∃ (k : Fin 4) (s : State), bit s.clu.running k.val = false) := ⟨
    ⟨1, { sch := { slices := [⟨3, 1, 0xFFFF, 1, false, 1000, 0, false⟩], classes := [{ engine := 3, cls := 1, sps := 1 }] } }, by decide⟩,
    ⟨1, { sch := { slices := [⟨3, 0, 0x1801, 1, false, 1000, 0, false⟩] } }, by decide⟩,
    ⟨1, {}, by decide⟩,
    ⟨1, 100, 1, 0, [4, 1, 2, 3], (({ bcu := { phase := .running } } : State).put .CLU_ANTCTL_ADM 1 1).put .CLU_ANTCTL_POLL 1 1, by decide⟩,
    ⟨1, 100, 1, 0, [4, 1, 2, 3], (({ bcu := { phase := .running } } : State).put .CLU_ANTCTL_ADM 1 1).put .CLU_ANTCTL_POLL 1 2, by decide⟩,
    ⟨1, 100, 1, 0, ⟨[1, 2, 3, 4, 5, 6, 7, 0xE0], 0⟩, (({ bcu := { phase := .running } } : State).put .CLU_ANTCTL_ADM 1 1).put .CLU_ANTCTL_POLL 1 4, by decide⟩,
    ⟨1, 100, 1, 0, (({ bcu := { phase := .running } } : State).put .CLU_ANTCTL_ADM 1 1).put .CLU_ANTCTL_POLL 1 7, by decide⟩,
    ⟨1, 100, 1, 0, [4, 1, 2, 3], [5, 1, 2, 3], (({ bcu := { phase := .running } } : State).put .CLU_ANTCTL_ADM 1 1).put .CLU_ANTCTL_POLL 1 1, by decide⟩,
    ⟨1, ⟨5, 0, [], [], [], 0⟩, ({ bcu := { phase := .running } } : State).put .CLU_ANTCTL_ADM 1 1, by decide⟩,
    ⟨1, ⟨0, 0, [], [], [], 0⟩, {}, by decide⟩,
    ⟨1, [0x00], [0x90], { bcu := { phase := .running }, clu := { active := 2 } }, by decide⟩,
    ⟨1, [0x00], [], { bcu := { phase := .running }, clu := { active := 2 } }, by decide⟩,
    ⟨1, [0x00], [], { bcu := { phase := .running }, clu := { active := 2 } }, by decide⟩,
    ⟨1, [0x00], [], 0, {}, by decide⟩,
    ⟨1, { clu := { running := 2, active := 2 } }, by decide⟩,
    ⟨1, { clu := { active := 2 } }, by decide⟩⟩

theorem meets_TagAnswersItsCommands :
    -- fieldOn
    (∃ (s : State), s.flag .CLU_TSTATE_FIELD 0 = false) ∧
    -- powerUp
    (∃ (s : State), s.clu.block 0x7F2 ≠ 0xA5) ∧
    -- recovered
    (∃ (s : State), s.clu.block 0x7F2 = 0xA5 ∧ s.clu.block 0x7F1 / 65536 = Config.journalCrc (s.clu.block 0x7F0) (s.clu.block 0x7F1 % 65536) % 65536 ∧ s.clu.block 0x7F1 % 65536 < 0x7F0 ∧ s.bcu.phase ≠ .off ∧ s.clu.block 0x7F0 < 2 ^ 32) ∧
    -- inventory
    (∃ (q : TagRequest) (mask len : Nat) (afi : Option Nat) (s : State), s.tagHears q = true ∧ s.clu.quiet = false ∧ inventoryMeets mask len afi = true) ∧
    -- inventoryOther
    (∃ (q : TagRequest) (mask len : Nat) (afi : Option Nat) (s : State), (s.clu.quiet = true ∨ inventoryMeets mask len afi = false)) ∧
    -- stayQuiet
    (∃ (q : TagRequest) (s : State), s.tagHears q = true) ∧
    -- select
    (∃ (q : TagRequest) (s : State), s.tagHears q = true) ∧
    -- resetToReady
    (∃ (q : TagRequest) (s : State), s.tagHears q = true) ∧
    -- readOne
    (∃ (q : TagRequest) (block : BitVec 16) (s : State), s.tagHears q = true ∧ s.readError block.toNat = none) ∧
    -- readRefused
    (∃ (q : TagRequest) (block : BitVec 16) (e : Nat) (s : State), s.tagHears q = true ∧ s.readError block.toNat = some e) ∧
    -- readMany
    (∃ (q : TagRequest) (block count : BitVec 16) (s : State), s.tagHears q = true ∧ (∀ b, b < min count.toNat 2048 → s.readError (block.toNat + b) = none)) ∧
    -- write
    (∃ (q : TagRequest) (block : BitVec 16) (value : BitVec 32) (s : State), s.tagHears q = true ∧ 0x400 ≤ block.toNat ∧ block.toNat < 0x600 ∧ s.secured = true) ∧
    -- writeCutShort
    (∃ (q : TagRequest) (block : BitVec 16) (value : BitVec 32) (c : WriteCut) (s : State), s.tagHears q = true ∧ 0x400 ≤ block.toNat ∧ block.toNat < 0x600 ∧ s.secured = true ∧ (c = .fieldLoss ∨ s.bcu.phase ≠ .off)) ∧
    -- noEnergy
    (∃ (q : TagRequest) (block : BitVec 16) (value : BitVec 32) (c : Option WriteCut) (s : State), s.tagHears q = true ∧ 0x400 ≤ block.toNat ∧ block.toNat < 0x600 ∧ s.secured = true ∧ s.bcu.phase ≠ .off) ∧
    -- protected
    (∃ (q : TagRequest) (block : BitVec 16) (value : BitVec 32) (res : Bool) (c : Option WriteCut) (s : State), s.tagHears q = true ∧ 2 ≤ block.toNat ∧ block.toNat < 0x400) ∧
    -- systemInformation
    (∃ (q : TagRequest) (s : State), s.tagHears q = true) ∧
    -- unsupported
    (∃ (q : TagRequest) (s : State), s.tagHears q = true) ∧
    -- logout
    (∃ (q : TagRequest) (s : State), s.tagHears q = true ∧ q.ic = Config.icCode % 256) ∧
    -- status
    (∃ (q : TagRequest) (s : State), s.tagHears q = true ∧ q.ic = Config.icCode % 256) ∧
    -- deaf
    (∃ (q : TagRequest) (b c : BitVec 16) (v : BitVec 32) (res : Bool) (w : Option WriteCut) (s : State), s.tagHears q = false) ∧
    -- otherCode
    (∃ (q : TagRequest) (p : BitVec 32) (key : BitVec 8) (ra : BitVec 64) (x : BitVec 128) (s : State), (q.ic ≠ Config.icCode % 256 ∨ s.tagHears q = false)) ∧
    -- deafSelect
    (∃ (q : TagRequest) (s : State), s.tagHears q = false) := ⟨
    ⟨{}, by decide⟩,
    ⟨{}, by decide⟩,
    ⟨{ clu := { mem := [(0x7F0, 7), (0x7F1, 0x500 + 65536 * (Config.journalCrc 7 0x500 % 65536)), (0x7F2, 0xA5)] } }, by (have h1 : (1280 + 65536 * (Config.journalCrc 7 1280 % 65536)) % 65536 = 1280 := (by omega); have h2 : (1280 + 65536 * (Config.journalCrc 7 1280 % 65536)) / 65536 = Config.journalCrc 7 1280 % 65536 := (by omega); exact ⟨rfl, by simp [Clu.block, lookup, h1, h2], by simp [Clu.block, lookup, h1], by decide, by decide⟩)⟩,
    ⟨{}, 0, 0, none, (({} : State).put .CLU_TCFG_TAGEN 0 1).put .CLU_TSTATE_TSTATE 0 1, by (exact ⟨by decide, by decide, inventoryMeets_all⟩)⟩,
    ⟨{}, 0, 0, none, { clu := { quiet := true } }, by decide⟩,
    ⟨{}, (({} : State).put .CLU_TCFG_TAGEN 0 1).put .CLU_TSTATE_TSTATE 0 1, by decide⟩,
    ⟨{}, (({} : State).put .CLU_TCFG_TAGEN 0 1).put .CLU_TSTATE_TSTATE 0 1, by decide⟩,
    ⟨{}, (({} : State).put .CLU_TCFG_TAGEN 0 1).put .CLU_TSTATE_TSTATE 0 1, by decide⟩,
    ⟨{}, 5, (({} : State).put .CLU_TCFG_TAGEN 0 1).put .CLU_TSTATE_TSTATE 0 1, by decide⟩,
    ⟨{}, 0x700, 0x10, (({} : State).put .CLU_TCFG_TAGEN 0 1).put .CLU_TSTATE_TSTATE 0 1, by decide⟩,
    ⟨{}, 5, 3, (({} : State).put .CLU_TCFG_TAGEN 0 1).put .CLU_TSTATE_TSTATE 0 1, by decide⟩,
    ⟨{}, 0x400, 7, (({} : State).put .CLU_TCFG_TAGEN 0 1).put .CLU_TSTATE_TSTATE 0 2, by decide⟩,
    ⟨{}, 0x400, 7, .fieldLoss, (({} : State).put .CLU_TCFG_TAGEN 0 1).put .CLU_TSTATE_TSTATE 0 2, by decide⟩,
    ⟨{}, 0x400, 7, none, (({} : State).put .CLU_TCFG_TAGEN 0 1).put .CLU_TSTATE_TSTATE 0 2, by decide⟩,
    ⟨{}, 5, 7, true, none, (({} : State).put .CLU_TCFG_TAGEN 0 1).put .CLU_TSTATE_TSTATE 0 2, by decide⟩,
    ⟨{}, (({} : State).put .CLU_TCFG_TAGEN 0 1).put .CLU_TSTATE_TSTATE 0 1, by decide⟩,
    ⟨{}, (({} : State).put .CLU_TCFG_TAGEN 0 1).put .CLU_TSTATE_TSTATE 0 1, by decide⟩,
    ⟨{ ic := Config.icCode % 256 }, (({} : State).put .CLU_TCFG_TAGEN 0 1).put .CLU_TSTATE_TSTATE 0 3, by (exact ⟨by decide, rfl⟩)⟩,
    ⟨{ ic := Config.icCode % 256 }, (({} : State).put .CLU_TCFG_TAGEN 0 1).put .CLU_TSTATE_TSTATE 0 1, by (exact ⟨by decide, rfl⟩)⟩,
    ⟨{}, 0, 0, 0, true, none, {}, by decide⟩,
    ⟨{}, 0, 0, 0, 0, {}, by (exact Or.inr (by decide))⟩,
    ⟨{}, {}, by decide⟩⟩

theorem meets_TagAuthenticationAndGate :
    -- locked
    (∃ (q : TagRequest) (password : BitVec 32) (s : State), s.tagHears q = true ∧ q.ic = Config.icCode % 256 ∧ s.flag .CLU_TSTATE_LOCKED 0 = true) ∧
    -- password
    (∃ (q : TagRequest) (password : BitVec 32) (s : State), s.tagHears q = true ∧ q.ic = Config.icCode % 256 ∧ s.flag .CLU_TSTATE_LOCKED 0 = false ∧ s.flag .CLU_TCFG_PWDEN 0 = true ∧ s.clu.pwd = password.toNat ∧ password.toNat ≠ 0 ∧ s.bcu.phase ≠ .off) ∧
    -- wrong
    (∃ (q : TagRequest) (password : BitVec 32) (s : State), s.tagHears q = true ∧ q.ic = Config.icCode % 256 ∧ s.flag .CLU_TSTATE_LOCKED 0 = false ∧ s.flag .CLU_TCFG_PWDEN 0 = true ∧ s.clu.pwd ≠ password.toNat ∧ s.clu.pwd ≠ 0 ∧ s.rd .CLU_TSTATE_TFAIL 0 < 7 ∧ s.bcu.phase ≠ .off) ∧
    -- lockout
    (∃ (q : TagRequest) (password : BitVec 32) (s : State), s.tagHears q = true ∧ q.ic = Config.icCode % 256 ∧ s.flag .CLU_TSTATE_LOCKED 0 = false ∧ s.flag .CLU_TCFG_PWDEN 0 = true ∧ s.clu.pwd ≠ password.toNat ∧ s.clu.pwd ≠ 0 ∧ 7 ≤ s.rd .CLU_TSTATE_TFAIL 0 ∧ s.bcu.phase ≠ .off) ∧
    -- challenge
    (∃ (q : TagRequest) (ra : BitVec 64) (s : State), s.tagHears q = true ∧ q.ic = Config.icCode % 256 ∧ s.flag .CLU_TSTATE_LOCKED 0 = false ∧ s.flag .CLU_TCFG_AUTHEN 0 = true ∧ s.clu.key ≠ 0) ∧
    -- proof
    (∃ (q : TagRequest) (cipher : BitVec 128) (ra rb : Nat) (s : State), s.tagHears q = true ∧ q.ic = Config.icCode % 256 ∧ s.flag .CLU_TSTATE_LOCKED 0 = false ∧ s.flag .CLU_TCFG_AUTHEN 0 = true ∧ s.clu.key ≠ 0 ∧ s.clu.auth = some (ra, rb) ∧ s.bcu.phase ≠ .off) ∧
    -- holdTimeout
    (∃ (t0 : Nat) (s : State), s.clu.holdT = some t0) ∧
    -- ndef
    (∃ (s : State), s.appRuns = true ∧ s.failed 0x18 = false) ∧
    -- ndefCut
    (∃ (k : Fin 3) (s : State), s.appRuns = true ∧ s.failed 0x18 = false) ∧
    -- loadkey
    (∃ (loss : Bool) (k : Nat) (s : State), k = s.rd .CLU_TKEY_KEY 0 + 2 ^ 32 * s.rd .CLU_TKEY_KEY 1 + 2 ^ 64 * s.rd .CLU_TKEY_KEY 2 + 2 ^ 96 * s.rd .CLU_TKEY_KEY 3) ∧
    -- hostWrite
    (∃ (off : BitVec 13) (value : BitVec 32) (s : State), 2 ≤ off.toNat / 4 ∧ off.toNat / 4 < 0x7E0) ∧
    -- hostDiscard
    (∃ (off : BitVec 13) (value : BitVec 32) (s : State), (off.toNat / 4 < 2 ∨ 0x7E0 ≤ off.toNat / 4) ∧ s.clu.ready = true) ∧
    -- keyAreaReadsZero
    (∃ (off : Nat) (s : State), 0x7E0 ≤ off / 4 ∧ off / 4 < 0x7F0) ∧
    -- elsewhereReads
    (∃ (off : Nat) (s : State), (off / 4 < 0x7E0 ∨ 0x7F0 ≤ off / 4)) := ⟨
    ⟨{ ic := Config.icCode % 256 }, 0, ((({} : State).put .CLU_TCFG_TAGEN 0 1).put .CLU_TSTATE_TSTATE 0 1).put .CLU_TSTATE_LOCKED 0 1, by (exact ⟨by decide, rfl, by decide⟩)⟩,
    ⟨{ ic := Config.icCode % 256 }, 7, ((({ clu := { pwd := 7 } } : State).put .CLU_TCFG_TAGEN 0 1).put .CLU_TSTATE_TSTATE 0 1).put .CLU_TCFG_PWDEN 0 1, by (exact ⟨by decide, rfl, by decide, by decide, by decide, by decide, by decide⟩)⟩,
    ⟨{ ic := Config.icCode % 256 }, 6, ((({ clu := { pwd := 7 } } : State).put .CLU_TCFG_TAGEN 0 1).put .CLU_TSTATE_TSTATE 0 1).put .CLU_TCFG_PWDEN 0 1, by (exact ⟨by decide, rfl, by decide, by decide, by decide, by decide, by decide, by decide⟩)⟩,
    ⟨{ ic := Config.icCode % 256 }, 6, (((({ clu := { pwd := 7 } } : State).put .CLU_TCFG_TAGEN 0 1).put .CLU_TSTATE_TSTATE 0 1).put .CLU_TCFG_PWDEN 0 1).put .CLU_TSTATE_TFAIL 0 7, by (exact ⟨by decide, rfl, by decide, by decide, by decide, by decide, by decide, by decide⟩)⟩,
    ⟨{ ic := Config.icCode % 256 }, 5, ((({ clu := { key := 7 } } : State).put .CLU_TCFG_TAGEN 0 1).put .CLU_TSTATE_TSTATE 0 1).put .CLU_TCFG_AUTHEN 0 1, by (exact ⟨by decide, rfl, by decide, by decide, by decide⟩)⟩,
    ⟨{ ic := Config.icCode % 256 }, 5, 1, 2, ((({ clu := { key := 7, auth := some (1, 2) } } : State).put .CLU_TCFG_TAGEN 0 1).put .CLU_TSTATE_TSTATE 0 1).put .CLU_TCFG_AUTHEN 0 1, by (exact ⟨by decide, rfl, by decide, by decide, by decide, by decide, by decide⟩)⟩,
    ⟨5, { clu := { holdT := some 5 } }, by decide⟩,
    ⟨{ bcu := { phase := .running } }, by decide⟩,
    ⟨1, { bcu := { phase := .running } }, by decide⟩,
    ⟨false, 0, {}, by decide⟩,
    ⟨0x20, 7, {}, by decide⟩,
    ⟨0, 7, {}, by decide⟩,
    ⟨0x1F80, {}, by decide⟩,
    ⟨0, {}, by decide⟩⟩

theorem meets_LedgerTakesAndCommitsRecords :
    -- request
    (∃ (cls : Fin 3) (recs : List RecData) (s : State), recs ≠ [] ∧ recs.length ≤ 26 ∧ recs.all (fun r => recordFits cls.val r.type) = true ∧ (cls.val ≠ 0 ∨ queuedRecords s.lgs.queue < 1024)) ∧
    -- dropped
    (∃ (recs : List RecData) (s : State), recs ≠ [] ∧ recs.length ≤ 26 ∧ recs.all (fun r => recordFits 0 r.type) = true ∧ 1024 ≤ queuedRecords s.lgs.queue) ∧
    -- noGroup
    (∃ (cls : Fin 3) (recs : List RecData) (s : State), (recs = [] ∨ 26 < recs.length ∨ ∃ r ∈ recs, recordFits cls.val r.type = false)) ∧
    -- commit
    (∃ (g : Group) (q : ReqRec) (s : State), s.lgs.accepting = true ∧ s.lgs.queue = [g] ∧ g.recs = [q] ∧ g.cls < 3 ∧ q.type ≠ 0x26 ∧ s.stuck g = false ∧ s.failed 0x15 = false ∧ s.nextSeq + 1 < 2 ^ 48) ∧
    -- closed
    (∃ (s : State), s.lgs.accepting = false) ∧
    -- tick
    (∃ (s : State), s.bcu.counting = true ∧ s.tickPeriod ≠ 0) ∧
    -- tickAfterBoundary
    (∃ (s : State), s.bcu.counting = true ∧ s.tickPeriod ≠ 0 ∧ s.meu.lastBoundary = some (s.boundaryFrom (s.whenLtime s.tickNext))) ∧
    -- noTick
    (∃ (s : State), (s.bcu.counting = false ∨ s.tickPeriod = 0)) ∧
    -- near
    (∃ (s : State), s.retainedLow = true ∧ (s.lgs.nearAt.map fun a => decide (a + ledgerDay ≤ s.ltime)).getD true = true) ∧
    -- notNear
    (∃ (s : State), s.retainedLow = false) ∧
    -- pageDone
    (∃ (s : State), s.rd .LGS_PAGESTAT_BUSY 0 ≠ 0) ∧
    -- pageBad
    (∃ (p : Nat) (l : List Nat) (s : State), s.rd .LGS_PAGESTAT_BUSY 0 ≠ 0 ∧ p < 4096 ∧ l.length = 64 ∧ badCrc l = true ∧ (s.lgs.page.any fun e => e.1 == p) = true) := ⟨
    ⟨1, [⟨0x30, []⟩], {}, by decide⟩,
    ⟨[⟨0x30, []⟩], { lgs := { queue := [⟨0, 0, List.replicate 1024 ⟨0x30, 0, []⟩⟩] } }, by (exact ⟨by decide, by decide, by decide, by simp [queuedRecords]⟩)⟩,
    ⟨1, [], {}, by decide⟩,
    ⟨⟨1, 0, [⟨0x30, 0, []⟩]⟩, ⟨0x30, 0, []⟩, { lgs := { queue := [⟨1, 0, [⟨0x30, 0, []⟩]⟩] } }, by decide⟩,
    ⟨{ lgs := { accepting := false } }, by decide⟩,
    ⟨({ plan := some { outl := [{ outlet := 3 }] } } : State).put .LGS_RETCFG_TICKMIN 0 5, by decide⟩,
    ⟨({ plan := some { outl := [{ outlet := 3 }] }, meu := { lastBoundary := some 300000000000 } } : State).put .LGS_RETCFG_TICKMIN 0 5, by decide⟩,
    ⟨{ bcu := { counting := false } }, by decide⟩,
    ⟨{ lgs := { written := [(1, 33554432)], slots := [(67108864, some ⟨1, 0x30, 1, 0, []⟩)] } }, by decide⟩,
    ⟨{}, by decide⟩,
    ⟨({} : State).put .LGS_PAGESTAT_BUSY 0 1, by decide⟩,
    ⟨0, List.replicate 64 0, ({ lgs := { page := [(0, some ⟨1, 0x30, 1, 0, []⟩)] } } : State).put .LGS_PAGESTAT_BUSY 0 1, by decide +kernel⟩⟩

theorem meets_AfrilRoundsAndPasses :
    -- start
    (∃ (s : State), s.alkRuns = true ∧ s.alk.pass = none ∧ s.wide = true) ∧
    -- startBandC
    (∃ (s : State), s.alkRuns = true ∧ s.alk.pass = none ∧ s.wide = false) ∧
    -- noRound
    (∃ (ups : List AlkUp) (s : State), s.alkRuns = false) ∧
    -- pass
    (∃ (ups : List AlkUp) (k : Nat) (s : State), s.alk.pass = some k ∧ s.alkRuns = true ∧ s.wide = true ∧ k < wideP s.spanMs ∧ s.alk.seq < 256) ∧
    -- relayed
    (∃ (ups : List AlkUp) (n k j h : Nat) (s : State), s.alk.pass = some k ∧ s.alkRuns = true ∧ s.wide = true ∧ k < wideP s.spanMs ∧ s.alk.exchanges = [⟨n, j, h, false⟩] ∧ j < k ∧ k < j + h) ∧
    -- answered
    (∃ (u : AlkUp) (p : AlkPay) (k : Nat) (s : State), s.alk.pass = some k ∧ s.alkRuns = true ∧ s.wide = true ∧ k < wideP s.spanMs ∧ s.alk.exchanges = [⟨u.node, k, 1, false⟩] ∧ readWords s.spanMs u.words u.flagged = some p ∧ u.words.length * carrierBits s.spanMs = s.payBits u.node ∧ p.type = 0) ∧
    -- lost
    (∃ (n k : Nat) (s : State), s.alk.pass = some k ∧ s.alkRuns = true ∧ s.wide = true ∧ k < wideP s.spanMs ∧ s.alk.exchanges = [⟨n, k, 1, false⟩] ∧ 3 ≤ (s.anode n).repolls ∧ s.alk.bq = []) ∧
    -- end
    (∃ (k : Nat) (s : State), s.alk.pass = some k) ∧
    -- nodeLost
    (∃ (k : Nat) (n : Fin 63) (s : State), s.alk.pass = some k ∧ n.val ∈ s.alk.failed ∧ (s.anode n).failRounds = 2 ∧ (s.anode n).repolls ≤ 3 ∧ s.nodeState n = 2) ∧
    -- noEnd
    (∃ (s : State), s.alk.pass = none) ∧
    -- burst
    (∃ (deferMs : Nat) (s : State), s.alkRuns = true ∧ s.wide = false ∧ s.alk.burstEnd = none) ∧
    -- rs16
    (∃ (info : List Nat), info.length = 8 ∧ (∀ x ∈ info, x < 32)) ∧
    -- rs8
    (∃ (info : List Nat), info.length = 4 ∧ (∀ x ∈ info, x < 32)) ∧
    -- tooMany
    (∃ (n k : Nat) (word erased : List Nat), n - k < ((List.range n).filter fun j => erased.contains j).length) ∧
    -- payload
    (∃ (p : AlkPay) (size : Nat), p.type < 16 ∧ p.seg < 4 ∧ p.mid.length + 16 = size) := ⟨
    ⟨((({} : State).put .ALK_STATUS_RUNNING 0 1).put .ALK_CFG_BAND 0 1).put .ALK_NSTAT_STATE 5 2, by decide⟩,
    ⟨(({} : State).put .ALK_STATUS_RUNNING 0 1).put .ALK_NSTAT_STATE 5 2, by decide⟩,
    ⟨[], {}, by decide⟩,
    ⟨[], 0, (({ alk := { pass := some 0, startAt := some 0 } } : State).put .ALK_STATUS_RUNNING 0 1).put .ALK_CFG_BAND 0 1, by decide⟩,
    ⟨[], 5, 1, 0, 2, (({ alk := { pass := some 1, startAt := some 0, exchanges := [⟨5, 0, 2, false⟩] } } : State).put .ALK_STATUS_RUNNING 0 1).put .ALK_CFG_BAND 0 1, by decide⟩,
    ⟨⟨5, (⟨0, false, false, 0, []⟩ : AlkPay).words 20 1, [], 40⟩, ⟨0, false, false, 0, [false, false, false, false]⟩, 0, ((({ alk := { pass := some 0, startAt := some 0, exchanges := [⟨5, 0, 1, false⟩] } } : State).put .ALK_STATUS_RUNNING 0 1).put .ALK_CFG_BAND 0 1).put .ALK_NSTAT_STATE 5 3, by decide⟩,
    ⟨5, 0, ((({ alk := { pass := some 0, startAt := some 0, exchanges := [⟨5, 0, 1, false⟩], nodes := [(5, { repolls := 3 })] } } : State).put .ALK_STATUS_RUNNING 0 1).put .ALK_CFG_BAND 0 1).put .ALK_NSTAT_STATE 5 2, by decide⟩,
    ⟨3, { alk := { pass := some 3, startAt := some 0 } }, by decide⟩,
    ⟨3, 5, ({ alk := { pass := some 3, startAt := some 0, failed := [5], nodes := [(5, { failRounds := 2 })] } } : State).put .ALK_NSTAT_STATE 5 2, by decide⟩,
    ⟨{}, by decide⟩,
    ⟨20, ({} : State).put .ALK_STATUS_RUNNING 0 1, by decide⟩,
    ⟨List.replicate 8 3, by decide⟩,
    ⟨List.replicate 4 3, by decide⟩,
    ⟨8, 4, [], [0, 1, 2, 3, 4], by decide⟩,
    ⟨⟨1, true, false, 2, [true]⟩, 17, by decide⟩⟩

theorem meets_AfrilNodesJoinAndRestart :
    -- joins
    (∃ (eui : BitVec 64) (cost : Nat) (r : NetwRec) (s : State), s.alkRuns = true ∧ (s.nodeRecs.find? fun q => q.eui == eui.toNat) = some r ∧ (s.polled.any fun m => m != r.byte 2 && (s.anode m).eui == eui.toNat) = false ∧ 1 ≤ s.maxHop ∧ (s.isBound (0x1A00 + r.byte 2) = true ∨ s.hasRoom (0x1A00 + r.byte 2) 1 = true)) ∧
    -- assigned
    (∃ (ups : List AlkUp) (b : AlkBc) (k : Nat) (s : State), s.alk.pass = some k ∧ s.alkRuns = true ∧ s.wide = true ∧ k < wideP s.spanMs ∧ s.alk.bq = [b] ∧ b.type = 4 ∧ s.bcSegments b = b.sent + 1 ∧ 1 ≤ b.node ∧ b.node < 63 ∧ s.nodeState b.node = 1 ∧ s.alk.exchanges = [] ∧ s.polled = []) ∧
    -- unknown
    (∃ (eui : BitVec 64) (relay : Option (Fin 63)) (cost : Nat) (s : State), s.alkRuns = true ∧ (s.nodeRecs.find? fun q => q.eui == eui.toNat) = none) ∧
    -- elsewhere
    (∃ (eui : BitVec 64) (relay : Option (Fin 63)) (cost : Nat) (r : NetwRec) (s : State), s.alkRuns = true ∧ (s.nodeRecs.find? fun q => q.eui == eui.toNat) = some r ∧ (s.polled.any fun m => m != r.byte 2 && (s.anode m).eui == eui.toNat) = true) ∧
    -- noSlice
    (∃ (eui : BitVec 64) (cost : Nat) (r : NetwRec) (s : State), s.alkRuns = true ∧ (s.nodeRecs.find? fun q => q.eui == eui.toNat) = some r ∧ (s.polled.any fun m => m != r.byte 2 && (s.anode m).eui == eui.toNat) = false ∧ 1 ≤ s.maxHop ∧ s.isBound (0x1A00 + r.byte 2) = false ∧ s.hasRoom (0x1A00 + r.byte 2) 1 = false) ∧
    -- silent
    (∃ (eui : BitVec 64) (relay : Option (Fin 63)) (cost : Nat) (collided : Bool) (s : State), (s.alkRuns = false ∨ collided = true)) ∧
    -- confirm
    (∃ (n : Fin 63) (t0 : Nat) (s : State), (s.anode n).confT = some t0) := ⟨
    ⟨0x1122, 2, { type := 7, params := [1, 5, 0, 1, 8, 0, 0, 0x22, 0x11, 0, 0, 0, 0, 0, 0] }, ((({ plan := some { netw := [{ type := 7, params := [1, 5, 0, 1, 8, 0, 0, 0x22, 0x11, 0, 0, 0, 0, 0, 0] }] }, sch := { slices := [⟨5, 0, 0x1A05, 1, false, 1000, 0, false⟩] } } : State).put .ALK_STATUS_RUNNING 0 1).put .ALK_CFG_MAXHOP 0 2), by decide⟩,
    ⟨[], ⟨4, [], 0, 5⟩, 0, ((({ alk := { pass := some 0, startAt := some 0, bq := [⟨4, [], 0, 5⟩] } } : State).put .ALK_STATUS_RUNNING 0 1).put .ALK_CFG_BAND 0 1).put .ALK_NSTAT_STATE 5 1, by decide⟩,
    ⟨0x1122, none, 2, ({} : State).put .ALK_STATUS_RUNNING 0 1, by decide⟩,
    ⟨0x1122, none, 2, { type := 7, params := [1, 5, 0, 1, 8, 0, 0, 0x22, 0x11, 0, 0, 0, 0, 0, 0] }, (({ plan := some { netw := [{ type := 7, params := [1, 5, 0, 1, 8, 0, 0, 0x22, 0x11, 0, 0, 0, 0, 0, 0] }] }, alk := { nodes := [(6, { eui := 0x1122 })] } } : State).put .ALK_STATUS_RUNNING 0 1).put .ALK_NSTAT_STATE 6 2, by decide⟩,
    ⟨0x1122, 2, { type := 7, params := [1, 5, 0, 1, 8, 0, 0, 0x22, 0x11, 0, 0, 0, 0, 0, 0] }, (({ plan := some { netw := [{ type := 7, params := [1, 5, 0, 1, 8, 0, 0, 0x22, 0x11, 0, 0, 0, 0, 0, 0] }] } } : State).put .ALK_STATUS_RUNNING 0 1).put .ALK_CFG_MAXHOP 0 2, by decide⟩,
    ⟨0x1122, none, 2, false, {}, by decide⟩,
    ⟨5, 7, { alk := { nodes := [(5, { confT := some 7 })] } }, by decide⟩⟩

theorem meets_TheClockFollowsItsMaster :
    -- disabled
    (∃ (m : PtpMsg) (s : State), s.ptpState = 0) ∧
    -- firstMaster
    (∃ (source rank interval : Nat) (port : Fin 4) (utc : Int) (s : State), s.ptpPort port = true ∧ s.ptpState = 1 ∧ s.ntu.masters = [] ∧ s.ntu.master = none ∧ s.ntuRuns = true) ∧
    -- locks
    (∃ (source : Nat) (t1 t2 : Int) (s : State), s.ntu.master = some source ∧ s.ptpState = 2 ∧ (t2 - t1 - s.ntu.delay).natAbs ≤ s.ptpRec.u32 8 ∧ (t2 - t1 - s.ntu.delay).natAbs ≤ 1000000 ∧ 15 ≤ s.ntu.goodRun ∧ s.ntuRuns = true) ∧
    -- steps
    (∃ (source : Nat) (t1 t2 : Int) (s : State), s.ntu.master = some source ∧ (s.ptpState = 2 ∨ s.ptpState = 3) ∧ 1000000 < (t2 - t1 - s.ntu.delay).natAbs ∧ s.ntuRuns = true) ∧
    -- delay
    (∃ (source : Nat) (t3 t4 : Int) (s : State), s.ntu.master = some source ∧ s.ptpState ≠ 0 ∧ s.ntuRuns = true) ∧
    -- holdover
    (∃ (t0 : Nat) (s : State), (s.ptpState = 2 ∨ s.ptpState = 3) ∧ earlier ((s.ntu.masters.find? fun m => some m.source == s.ntu.master).map (·.until_)) s.ntu.syncT = some t0 ∧ s.ntuRuns = true) ∧
    -- forwardSync
    (∃ (ingress egress : Fin 4) (residence : Nat) (c : Int) (s : State), bit (s.ptpRec.byte 3) 0 = true ∧ s.ntuRuns = true ∧ s.flag .NTU_PORT_LINK ingress = true ∧ s.flag .NTU_PORT_LINK egress = true) ∧
    -- twoStep
    (∃ (ingress egress : Fin 4) (residence q src : Nat) (c : Int) (s : State), bit (s.ptpRec.byte 3) 0 = true ∧ s.ntuRuns = true ∧ s.flag .NTU_PORT_LINK ingress = true ∧ s.flag .NTU_PORT_LINK egress = true) ∧
    -- linkDown
    (∃ (ingress egress : Fin 4) (residence : Nat) (m : TcMsg) (s : State), (s.flag .NTU_PORT_LINK ingress = false ∨ s.flag .NTU_PORT_LINK egress = false ∨ s.ntuRuns = false)) ∧
    -- forwardDelayReq
    (∃ (ingress egress : Fin 4) (residence : Nat) (c : Int) (s : State), bit (s.ptpRec.byte 3) 0 = false ∧ s.ntuRuns = true ∧ s.flag .NTU_PORT_LINK ingress = true ∧ s.flag .NTU_PORT_LINK egress = true) ∧
    -- followUp
    (∃ (ingress egress : Fin 4) (residence q src : Nat) (c : Int) (x : TwoStep) (s : State), bit (s.ptpRec.byte 3) 0 = true ∧ s.followed egress q src = some x ∧ s.ntuRuns = true ∧ s.flag .NTU_PORT_LINK ingress = true ∧ s.flag .NTU_PORT_LINK egress = true) ∧
    -- followUpAlone
    (∃ (ingress egress : Fin 4) (residence q src : Nat) (c : Int) (s : State), s.followed egress q src = none ∧ bit (s.ptpRec.byte 3) 0 = true ∧ s.ntuRuns = true ∧ s.flag .NTU_PORT_LINK ingress = true ∧ s.flag .NTU_PORT_LINK egress = true) ∧
    -- fires
    (∃ (k : Fin 2) (s : State), s.flag .NTU_CMPCTL_ARM k = true ∧ s.ntuRuns = true) ∧
    -- notArmed
    (∃ (k : Fin 2) (s : State), s.flag .NTU_CMPCTL_ARM k = false) := ⟨
    ⟨.sync 1 0 0, {}, by decide⟩,
    ⟨7, 1, 1000, 2, 37, ({ plan := some { netw := [{ type := 1, params := [2, 0, 1] }] } } : State).put .NTU_PTP_STATE 0 1, by decide⟩,
    ⟨7, 100, 0, ({ ntu := { master := some 7, goodRun := 15 }, plan := some { netw := [{ type := 2, params := [0, 0, 2, 0, 3, 0, 0, 232, 3, 0, 0] }] } } : State).put .NTU_PTP_STATE 0 2, by decide⟩,
    ⟨7, 5000000, 0, ({ ntu := { master := some 7 } } : State).put .NTU_PTP_STATE 0 2, by decide⟩,
    ⟨7, 0, 100, ({ ntu := { master := some 7 } } : State).put .NTU_PTP_STATE 0 2, by decide⟩,
    ⟨9, ({ ntu := { syncT := some 9 } } : State).put .NTU_PTP_STATE 0 3, by decide⟩,
    ⟨1, 2, 500, 0, (({ plan := some { netw := [{ type := 2, params := [0, 0, 1] }] } } : State).put .NTU_PORT_LINK 1 1).put .NTU_PORT_LINK 2 1, by decide⟩,
    ⟨1, 2, 500, 4, 7, 0, (({ plan := some { netw := [{ type := 2, params := [0, 0, 1] }] } } : State).put .NTU_PORT_LINK 1 1).put .NTU_PORT_LINK 2 1, by decide⟩,
    ⟨1, 2, 500, .sync 0, {}, by decide⟩,
    ⟨1, 2, 500, 0, (({} : State).put .NTU_PORT_LINK 1 1).put .NTU_PORT_LINK 2 1, by decide⟩,
    ⟨1, 2, 500, 4, 7, 0, ⟨2, 4, 7, 600, 9⟩, (({ plan := some { netw := [{ type := 2, params := [0, 0, 1] }] }, ntu := { twoStep := [⟨2, 4, 7, 600, 9⟩] } } : State).put .NTU_PORT_LINK 1 1).put .NTU_PORT_LINK 2 1, by decide⟩,
    ⟨1, 2, 500, 4, 7, 0, (({ plan := some { netw := [{ type := 2, params := [0, 0, 1] }] } } : State).put .NTU_PORT_LINK 1 1).put .NTU_PORT_LINK 2 1, by decide⟩,
    ⟨1, ({} : State).put .NTU_CMPCTL_ARM 1 1, by decide⟩,
    ⟨1, {}, by decide⟩⟩

theorem meets_BusesAndTheirDevices :
    -- send
    (∃ (n : Fin 24) (r : NetwRec) (s : State), s.template n = some r ∧ s.canClocked r = true ∧ s.rd .NTU_CAN_STATE (r.byte 1 % 4) < 2 ∧ s.ntuRuns = true) ∧
    -- noSend
    (∃ (n : Fin 24) (s : State), s.template n = none) ∧
    -- status
    (∃ (n : Fin 24) (echo : BitVec 8) (vact iact : BitVec 16) (r : NetwRec) (s : State), s.template n = some r ∧ s.canClocked r = true ∧ bit s.alloc.lost n.val = false ∧ s.ntuRuns = true) ∧
    -- fault
    (∃ (n : Fin 24) (echo fault : BitVec 8) (vact iact : BitVec 16) (r : NetwRec) (s : State), s.template n = some r ∧ s.canClocked r = true ∧ bit s.alloc.lost n.val = false ∧ fault.toNat ≠ 0 ∧ s.ntuRuns = true) ∧
    -- can
    (∃ (k : Fin 4) (state : Fin 3) (tec rec_ : BitVec 8) (s : State), s.rd .NTU_CAN_STATE k ≠ 3 ∧ s.rd .NTU_CAN_STATE k ≠ state.val ∧ s.ntuRuns = true ∧ bit (s.rd .CGU_CLKEN_CAN 0) k = true) ∧
    -- answered
    (∃ (dev : Fin 16) (x : Nat × NetwRec) (s : State), s.modbusDev dev = some x ∧ s.rd .NTU_MB_STATE dev ≠ 1 ∧ s.ntuRuns = true ∧ s.modbusClocked x.2 = true ∧ lookup none s.ntu.reconnect dev = none) ∧
    -- exception
    (∃ (dev : Fin 16) (x : Nat × NetwRec) (s : State), s.modbusDev dev = some x ∧ s.ntuRuns = true ∧ s.modbusClocked x.2 = true ∧ lookup none s.ntu.reconnect dev = none) ∧
    -- retry
    (∃ (dev : Fin 16) (x : Nat × NetwRec) (s : State), s.modbusDev dev = some x ∧ bit s.ntu.retrying dev.val = false ∧ s.ntuRuns = true ∧ s.modbusClocked x.2 = true ∧ lookup none s.ntu.reconnect dev = none) ∧
    -- miss
    (∃ (dev : Fin 16) (x : Nat × NetwRec) (s : State), s.modbusDev dev = some x ∧ bit s.ntu.retrying dev.val = true ∧ s.rd .NTU_MB_STATE dev ≠ 1 ∧ s.ntuRuns = true ∧ s.modbusClocked x.2 = true ∧ lookup none s.ntu.reconnect dev = none) ∧
    -- connectionLost
    (∃ (dev : Fin 16) (x : Nat × NetwRec) (s : State), s.modbusDev dev = some x ∧ x.2.byte 1 = 2 ∧ s.ntuRuns = true ∧ s.modbusClocked x.2 = true ∧ lookup none s.ntu.reconnect dev = none) ∧
    -- reconnect
    (∃ (dev : Fin 16) (t0 : Nat) (s : State), lookup none s.ntu.reconnect dev = some t0) ∧
    -- found
    (∃ (dev : Fin 16) (models : Option (List (BitVec 16))) (x : Nat × NetwRec) (s : State), s.modbusDev dev = some x ∧ s.ntuRuns = true ∧ s.modbusClocked x.2 = true ∧ s.rd .NTU_MB_STATE dev = 1 ∧ s.discovered x.1 models = 0) ∧
    -- missing
    (∃ (dev : Fin 16) (models : Option (List (BitVec 16))) (x : Nat × NetwRec) (s : State), s.modbusDev dev = some x ∧ s.discovered x.1 models ≠ 0 ∧ s.ntuRuns = true ∧ s.modbusClocked x.2 = true ∧ s.rd .NTU_MB_STATE dev = 1) ∧
    -- link
    (∃ (k speed : Fin 4) (s : State), s.portOn k = true ∧ s.flag .NTU_PORT_LINK k ≠ decide (speed.val ≠ 0) ∧ s.ntuRuns = true) ∧
    -- sameLink
    (∃ (k speed : Fin 4) (s : State), s.portOn k = true ∧ s.flag .NTU_PORT_LINK k = decide (speed.val ≠ 0) ∧ s.ntuRuns = true) := ⟨
    ⟨3, { type := 3, params := [0, 1] }, ({ plan := some { outl := [{ outlet := 3, module := 0 }], netw := [{ type := 3, params := [0, 1] }] } } : State).put .NTU_CAN_STATE 0 0, by decide⟩,
    ⟨3, {}, by decide⟩,
    ⟨3, 1, 4000, 10, { type := 3, params := [0, 1] }, ({ plan := some { outl := [{ outlet := 3, module := 0 }], netw := [{ type := 3, params := [0, 1] }] } } : State).put .CGU_CLKEN_CAN 0 1, by decide⟩,
    ⟨3, 1, 5, 4000, 10, { type := 3, params := [0, 1] }, ({ plan := some { outl := [{ outlet := 3, module := 0 }], netw := [{ type := 3, params := [0, 1] }] } } : State).put .CGU_CLKEN_CAN 0 1, by decide⟩,
    ⟨1, 2, 255, 1, ({} : State).put .NTU_CAN_STATE 1 0, by decide⟩,
    ⟨0, (0, { type := 4, params := [1] }), { plan := some { netw := [{ type := 4, params := [1] }] } }, by decide⟩,
    ⟨0, (0, { type := 4, params := [1] }), { plan := some { netw := [{ type := 4, params := [1] }] } }, by decide⟩,
    ⟨0, (0, { type := 4, params := [1] }), { plan := some { netw := [{ type := 4, params := [1] }] } }, by decide⟩,
    ⟨0, (0, { type := 4, params := [1] }), { plan := some { netw := [{ type := 4, params := [1] }] }, ntu := { retrying := 1 } }, by decide⟩,
    ⟨0, (0, { type := 4, params := [2] }), { plan := some { netw := [{ type := 4, params := [2] }] } }, by decide⟩,
    ⟨0, 9, { ntu := { reconnect := [(0, some 9)] } }, by decide⟩,
    ⟨0, some [1, 103, 120], (0, { type := 4, params := [1] }), ({ plan := some { netw := [{ type := 4, params := [1] }], aloc := [{ rule := 7, v1 := 0 }] } } : State).put .NTU_MB_STATE 0 1, by decide⟩,
    ⟨0, some [1, 103], (0, { type := 4, params := [1] }), ({ plan := some { netw := [{ type := 4, params := [1] }], aloc := [{ rule := 7, v1 := 0 }] } } : State).put .NTU_MB_STATE 0 1, by decide⟩,
    ⟨1, 2, {}, by decide⟩,
    ⟨1, 0, {}, by decide⟩⟩

theorem meets_SealedCommandsOfTheOperator :
    -- planActivate
    (∃ (keyId : BitVec 64) (p : Plan) (s : State), s.bcu.phase ≠ .commit ∧ (s.lifeCycle = 2 ∨ s.lifeCycle = 3) ∧ s.flag .LGS_STATUS_LHRES 0 = false ∧ 65568 ≤ s.legalFree ∧ s.ppl.staged = some p ∧ p.planId < 2 ^ 32 ∧ p.planVer < 2 ^ 32 ∧ p.legalCv < 2 ^ 32 ∧ s.ppl.commanded = some 2) ∧
    -- meuCalibrate
    (∃ (keyId : BitVec 64) (fnom : BitVec 16) (recs : List (BitVec 8 × BitVec 128)) (s : State), s.bcu.phase ≠ .commit ∧ (s.lifeCycle = 2 ∨ s.lifeCycle = 3) ∧ s.flag .LGS_STATUS_LHRES 0 = false ∧ 65568 ≤ s.legalFree ∧ (fnom.toNat = 50 ∨ fnom.toNat = 60) ∧ recs ≠ [] ∧ recs.length ≤ 24 ∧ (recs.map (·.1)).Nodup ∧ (∀ r ∈ recs, s.calRecordOk (r.1.toNat, leBytes 16 r.2.toNat) = true) ∧ (∀ r ∈ recs, ((s.sens r.1.toNat).map fun q => decide (q.outlet ≤ 23) && s.flag .MEU_ESTAT_SESS q.outlet).getD false = false)) ∧
    -- bluHwmReset
    (∃ (keyId : BitVec 64) (s : State), s.bcu.phase ≠ .commit ∧ (s.lifeCycle = 2 ∨ s.lifeCycle = 3) ∧ s.flag .LGS_STATUS_LHRES 0 = false ∧ 65568 ≤ s.legalFree ∧ 0 ≤ (s.moveTo (gridAt 125000 s.now)).wall) ∧
    -- tamperConfig
    (∃ (keyId : BitVec 64) (ten tpol : BitVec 8) (s : State), s.bcu.phase ≠ .commit ∧ (s.lifeCycle = 2 ∨ s.lifeCycle = 3) ∧ s.flag .LGS_STATUS_LHRES 0 = false ∧ 65568 ≤ s.legalFree ∧ ten.toNat ≤ 15 ∧ tpol.toNat ≤ 15) ∧
    -- sealAck
    (∃ (keyId : BitVec 64) (s : State), s.bcu.phase ≠ .commit ∧ (s.lifeCycle = 2 ∨ s.lifeCycle = 3) ∧ s.flag .LGS_STATUS_LHRES 0 = false ∧ 65568 ≤ s.legalFree ∧ bit (s.rd .BLU_TAMPER_NOW 0) 4 = false) ∧
    -- safeConfirm
    (∃ (keyId : BitVec 64) (value : BitVec 32) (s : State), s.bcu.phase ≠ .commit ∧ (s.lifeCycle = 2 ∨ s.lifeCycle = 3) ∧ s.flag .LGS_STATUS_LHRES 0 = false ∧ 65568 ≤ s.legalFree ∧ s.sec.waiting = none ∧ value.toNat = s.rd .PPL_SAFECV_SAFECV 0 ∧ value.toNat = s.rd .GSE_CV_CV 0) ∧
    -- lgsRetention
    (∃ (keyId : BitVec 64) (days : BitVec 16) (tick : BitVec 8) (s : State), s.bcu.phase ≠ .commit ∧ (s.lifeCycle = 2 ∨ s.lifeCycle = 3) ∧ s.flag .LGS_STATUS_LHRES 0 = false ∧ 65568 ≤ s.legalFree ∧ 400 ≤ days.toNat ∧ days.toNat ≤ 3650 ∧ 1 ≤ tick.toNat ∧ tick.toNat ≤ 60) ∧
    -- lgsAck
    (∃ (keyId first last : BitVec 64) (hash : BitVec 256) (s : State), s.bcu.phase ≠ .commit ∧ (s.lifeCycle = 2 ∨ s.lifeCycle = 3) ∧ s.flag .LGS_STATUS_LHRES 0 = false ∧ 65568 ≤ s.legalFree ∧ s.ackReason first.toNat last.toNat (hashBytes 32 32 hash.toNat) = 0) ∧
    -- wrongState
    (∃ (keyId a b : BitVec 64) (w x y : BitVec 32) (u : BitVec 16) (p q : BitVec 8) (recs : List (BitVec 8 × BitVec 128)) (hash : BitVec 256) (s : State), s.bcu.phase ≠ .commit ∧ s.lifeCycle ≠ 2 ∧ s.lifeCycle ≠ 3) ∧
    -- inCommit
    (∃ (keyId : BitVec 64) (s : State), s.bcu.phase = .commit) := ⟨
    ⟨5, { planId := 7, planVer := 1, legalCv := 3 }, { ppl := { staged := some { planId := 7, planVer := 1, legalCv := 3 }, commanded := some 2 } }, by decide⟩,
    ⟨5, 50, [(2, 0x0000000000000000_00000007_40000000), (5, 0x0000000000000000_00000000_40000001)], {}, by (refine ⟨by decide, by decide, by decide, by decide, by decide, by decide, by decide, by decide, ?_, ?_⟩ <;> exact List.forall_mem_cons.2 ⟨by decide, List.forall_mem_cons.2 ⟨by decide, fun _ h => nomatch h⟩⟩)⟩,
    ⟨5, {}, by decide⟩,
    ⟨5, 3, 1, {}, by decide⟩,
    ⟨5, ({} : State).put .BLU_STATUS_SEALBRK 0 1, by decide⟩,
    ⟨5, 0, {}, by decide⟩,
    ⟨5, 500, 15, {}, by decide⟩,
    ⟨5, 1, 1, BitVec.ofNat 256 (sha256 (LedgerRec.bytes ⟨1, 0x30, 2, 0, []⟩)), { lgs := { written := [(0, 1)], slots := [(0, some ⟨1, 0x30, 2, 0, []⟩)] } }, by (exact ⟨by decide, by decide, by decide, by decide, ackWitness⟩)⟩,
    ⟨5, 1, 1, 2, 3, 4, 50, 1, 1, [], 0, ({} : State).put .SEC_LC_STATE 0 4, by decide⟩,
    ⟨5, { bcu := { phase := .commit } }, by decide⟩⟩

theorem meets_SealedCommandsOnKeysAndTheLifeCycle :
    -- keyGen
    (∃ (keyId : BitVec 64) (k kt : BitVec 8) (s : State), s.bcu.phase ≠ .commit ∧ (s.lifeCycle = 2 ∨ s.lifeCycle = 3) ∧ s.flag .LGS_STATUS_LHRES 0 = false ∧ 65568 ≤ s.legalFree ∧ k.toNat < 128 ∧ kt.toNat ∈ [9, 10] ∧ s.fixedSlot k.toNat = false ∧ kt.toNat ∈ typesOf k.toNat ∧ s.randomOk = true) ∧
    -- keyPair
    (∃ (keyId : BitVec 64) (k kt : BitVec 8) (s : State), s.bcu.phase ≠ .commit ∧ (s.lifeCycle = 2 ∨ s.lifeCycle = 3) ∧ s.flag .LGS_STATUS_LHRES 0 = false ∧ 65568 ≤ s.legalFree ∧ k.toNat < 128 ∧ kt.toNat ∈ [1, 2, 3, 4] ∧ s.fixedSlot k.toNat = false ∧ kt.toNat ∈ typesOf k.toNat ∧ s.randomOk = true) ∧
    -- keyLoad
    (∃ (keyId : BitVec 64) (k kt : BitVec 8) (rest : List (BitVec 8)) (s : State), s.bcu.phase ≠ .commit ∧ (s.lifeCycle = 2 ∨ s.lifeCycle = 3) ∧ s.flag .LGS_STATUS_LHRES 0 = false ∧ 65568 ≤ s.legalFree ∧ k.toNat < 128 ∧ 5 ≤ kt.toNat ∧ kt.toNat ≤ 8 ∧ s.fixedSlot k.toNat = false ∧ kt.toNat ∈ typesOf k.toNat ∧ rest.length = pubLen kt.toNat + (if isAnchor k.toNat then 32 else 0) + sigLen (kt.toNat - 4)) ∧
    -- keyCommit
    (∃ (keyId : BitVec 64) (k : BitVec 8) (shadow : BitVec 64) (s : State), s.bcu.phase ≠ .commit ∧ (s.lifeCycle = 2 ∨ s.lifeCycle = 3) ∧ s.flag .LGS_STATUS_LHRES 0 = false ∧ 65568 ≤ s.legalFree ∧ k.toNat < 128 ∧ s.fixedSlot k.toNat = false ∧ bit (s.slot k.toNat).pAttr 16 = true ∧ (s.slot k.toNat).shadowId = shadow.toNat) ∧
    -- keyAbort
    (∃ (keyId : BitVec 64) (k : BitVec 8) (s : State), s.bcu.phase ≠ .commit ∧ (s.lifeCycle = 2 ∨ s.lifeCycle = 3) ∧ s.flag .LGS_STATUS_LHRES 0 = false ∧ 65568 ≤ s.legalFree ∧ k.toNat < 128 ∧ s.fixedSlot k.toNat = false ∧ bit (s.slot k.toNat).pAttr 15 = true) ∧
    -- keyErase
    (∃ (keyId : BitVec 64) (k : BitVec 8) (s : State), s.bcu.phase ≠ .commit ∧ (s.lifeCycle = 2 ∨ s.lifeCycle = 3) ∧ s.flag .LGS_STATUS_LHRES 0 = false ∧ 65568 ≤ s.legalFree ∧ k.toNat < 128 ∧ replaceOf k.toNat = 2) ∧
    -- lifecycle
    (∃ (keyId : BitVec 64) (dest : BitVec 8) (pub : List (BitVec 8)) (s : State), s.bcu.phase ≠ .commit ∧ s.flag .LGS_STATUS_LHRES 0 = false ∧ 65568 ≤ s.legalFree ∧ dest.toNat ≤ 5 ∧ s.transition dest.toNat = some true ∧ pub.length ∈ [57, 65, 97, 133]) ∧
    -- noTransition
    (∃ (keyId : BitVec 64) (dest : BitVec 8) (pub : List (BitVec 8)) (s : State), s.bcu.phase ≠ .commit ∧ s.flag .LGS_STATUS_LHRES 0 = false ∧ dest.toNat ≤ 5 ∧ s.transition dest.toNat ≠ some true ∧ pub.length ∈ [57, 65, 97, 133]) ∧
    -- debugUnlock
    (∃ (keyId : BitVec 64) (xroot : List (BitVec 8)) (s : State), s.bcu.phase ≠ .commit ∧ s.lifeCycle = 4 ∧ xroot.length = 97) ∧
    -- frame
    (∃ (p : Fin 5) (seq : BitVec 32) (payload : List (BitVec 8)) (s : State), s.frameIn p 0x06 seq.toNat (payload.map (·.toNat)) = true ∧ 24 ≤ payload.length ∧ numAt (payload.map (·.toNat)) 2 2 ≤ 1024 ∧ payload.length = 24 + numAt (payload.map (·.toNat)) 2 2 + sigLen (byteAt (payload.map (·.toNat)) 1)) ∧
    -- badLength
    (∃ (p : Fin 5) (seq : BitVec 32) (payload : List (BitVec 8)) (s : State), s.frameIn p 0x06 seq.toNat (payload.map (·.toNat)) = true ∧ p.val ≠ 4 ∧ payload.length < 24) := ⟨
    ⟨5, 40, 9, {}, by decide⟩,
    ⟨5, 40, 1, {}, by decide⟩,
    ⟨5, 40, 5, List.replicate 129 0, {}, by decide⟩,
    ⟨5, 40, 0, { sec := { slots := [(40, { pAttr := 0x18009 })] } }, by decide⟩,
    ⟨5, 40, { sec := { slots := [(40, { pAttr := 0x18009 })] } }, by decide⟩,
    ⟨5, 40, { sec := { slots := [(40, { attr := 9 })] } }, by decide⟩,
    ⟨5, 4, List.replicate 97 0, {}, by decide⟩,
    ⟨5, 1, List.replicate 97 0, {}, by decide⟩,
    ⟨5, List.replicate 97 0, ({} : State).put .SEC_LC_STATE 0 4, by decide⟩,
    ⟨0, 9, List.replicate 24 0, { bcu := { phase := .running }, hpu := { sessions := 1 } }, by decide⟩,
    ⟨0, 9, [], { bcu := { phase := .running }, hpu := { sessions := 1 } }, by decide⟩⟩

theorem meets_KeysRandomBitsAndSafetyInputs :
    -- firmwareKeyGen
    (∃ (k : Fin 128) (kt : Fin 16) (testOk : Bool) (s : State), replaceOf k = 1 ∧ kt.val ∈ typesOf k ∧ s.randomOk = true ∧ s.appRuns = true) ∧
    -- noFirmwareKey
    (∃ (k : Fin 128) (kt : Fin 16) (testOk : Bool) (s : State), (replaceOf k ≠ 1 ∨ kt.val ∉ typesOf k ∨ s.randomOk = false)) ∧
    -- firmwareKeyCommit
    (∃ (k : Fin 128) (subject : List (BitVec 8)) (chain : CertChain) (s : State), replaceOf k = 1 ∧ bit (s.slot k).pAttr 16 = true ∧ subject.map (·.toNat) = (s.slot k).pPub ∧ s.chainValid chain = true ∧ s.failed 0x19 = false ∧ s.appRuns = true) ∧
    -- emptySlot
    (∃ (k : Fin 128) (use : Fin 4) (err : BitVec 8) (queued : Fin 65) (s : State), ((s.slot k).full = false ∨ bit ((s.slot k).attr / 16) use = false) ∧ s.failed 0x19 = false) ∧
    -- signs
    (∃ (queued : Fin 65) (d : CloseData) (l : List CloseData) (s : State), (s.slot 1).full = true ∧ bit ((s.slot 1).attr / 16) 0 = true ∧ s.blu.toSeal = d :: l ∧ s.failed 0x19 = false) ∧
    -- remask
    (∃ (seconds : Nat) (s : State), s.randomOk = true) ∧
    -- reseed
    (∃ (s : State), s.randomOk = true) ∧
    -- noRandom
    (∃ (seconds : Nat) (s : State), s.randomOk = false) ∧
    -- inputConfirm
    (∃ (i : Fin 16) (samples : List Bool) (isActive : Bool) (s : State), s.confirmedLevel i samples = some isActive ∧ s.si i ≠ isActive ∧ s.gse.confirming = none ∧ s.gseRuns = true) ∧
    -- sameInput
    (∃ (i : Fin 16) (samples : List Bool) (s : State), (s.confirmedLevel i samples = none ∨ s.confirmedLevel i samples = some (s.si i) ∧ s.gse.confirming = none)) ∧
    -- pulse
    (∃ (i : Fin 16) (ms k : Nat) (r : SafeRec) (s : State), s.safeRec k = some r ∧ r.rstSi = i.val ∧ 100 ≤ ms ∧ ms ≤ 5000 ∧ s.gse.confirming = none ∧ s.gseRuns = true ∧ s.rd .GSE_STATUS_STATE 0 = 2) ∧
    -- badPulse
    (∃ (i : Fin 16) (ms : Nat) (k : Fin 16) (r : SafeRec) (s : State), s.safeRec k = some r ∧ r.rstSi = i.val ∧ (ms < 100 ∨ 5000 < ms) ∧ s.gse.confirming = none ∧ s.gseRuns = true) ∧
    -- confirmLate
    (∃ (c : Confirming) (w : AwaitAct) (s : State), s.gse.confirming = some c ∧ s.sec.waiting = some w ∧ s.gseRuns = true) := ⟨
    ⟨2, 1, true, { bcu := { phase := .running } }, by decide⟩,
    ⟨0, 1, true, {}, by decide⟩,
    ⟨2, [4], ⟨9, []⟩, { bcu := { phase := .running }, sec := { slots := [(2, { pAttr := 0x18001, pPub := [4] }), (10, { attr := 8, cert := 9 })] } }, by decide⟩,
    ⟨40, 0, 0, 3, {}, by (exact ⟨Or.inl (by decide), by decide⟩)⟩,
    ⟨1, ⟨3, 1, 0, 0, 0, 0, 9, 9, 5, 0, [], 0, 0, 0, 0, 0, []⟩, [], { blu := { toSeal := [⟨3, 1, 0, 0, 0, 0, 9, 9, 5, 0, [], 0, 0, 0, 0, 0, []⟩] }, sec := { slots := [(1, { attr := 20 })] } }, by decide⟩,
    ⟨12, {}, by decide⟩,
    ⟨{}, by decide⟩,
    ⟨1, ({} : State).put .SEC_STATUS_DRBGF 0 1, by decide⟩,
    ⟨4, List.replicate 8 true, true, { bcu := { phase := .running } }, by decide⟩,
    ⟨4, List.replicate 8 false, {}, by decide⟩,
    ⟨4, 500, 0, { func := 1, params := [1, 4] }, (({ now := 700000000, bcu := { phase := .running }, gse := { copy := [{ func := 1, params := [1, 4] }] } } : State).put .GSE_STATUS_STATE 0 2), by decide⟩,
    ⟨4, 50, 0, { func := 1, params := [1, 4] }, { bcu := { phase := .running }, gse := { copy := [{ func := 1, params := [1, 4] }] } }, by decide⟩,
    ⟨⟨7, 300, 2⟩, ⟨none, 2⟩, { bcu := { phase := .running }, gse := { confirming := some ⟨7, 300, 2⟩ }, sec := { waiting := some ⟨none, 2⟩ } }, by decide⟩⟩

theorem meets_PanelUpdatesAndTheirCharge :
    -- update
    (∃ (s : State), s.dse.op = none) ∧
    -- updateHeld
    (∃ (o : DseOp) (s : State), s.dse.op = some o ∧ o ≠ .start) ∧
    -- updateInStart
    (∃ (s : State), s.dse.op = some .start) ∧
    -- test
    (∃ (s : State), s.dse.op = none) ∧
    -- testBusy
    (∃ (o : DseOp) (s : State), s.dse.op = some o) ∧
    -- done
    (∃ (vdh vdl : BitVec 16) (copies : List (Nat × Int)) (s : State), s.dse.op = some .update ∧ s.flag .DSE_STATUS_VFAULT 0 = false ∧ s.failed 0x1D = false ∧ s.dseRows.length ≤ 200 ∧ s.appRuns = true ∧ s.drivesInRange vdh.toNat vdl.toNat = true) ∧
    -- rowsAlike
    (∃ (r : Nat) (vdh vdl : BitVec 16) (copies : List (Nat × Int)) (s : State), s.dse.op = some .update ∧ s.flag .DSE_STATUS_VFAULT 0 = false ∧ s.failed 0x1D = false ∧ s.rowDiffers s.dse.shown s.dse.target r = false ∧ s.appRuns = true ∧ s.drivesInRange vdh.toNat vdl.toNat = true) ∧
    -- rowWritten
    (∃ (r : Nat) (vdh vdl : BitVec 16) (copies : List (Nat × Int)) (s : State), s.dse.op = some .update ∧ s.flag .DSE_STATUS_VFAULT 0 = false ∧ s.failed 0x1D = false ∧ s.dseRows.contains r = true ∧ s.rowDiffers s.dse.shown s.dse.target r = true ∧ s.appRuns = true ∧ s.drivesInRange vdh.toNat vdl.toNat = true) ∧
    -- doneIdle
    (∃ (vdh vdl : BitVec 16) (copies : List (Nat × Int)) (s : State), s.dse.op = none ∧ s.flag .DSE_STATUS_VFAULT 0 = false ∧ s.failed 0x1D = false ∧ s.appRuns = true ∧ s.drivesInRange vdh.toNat vdl.toNat = true) ∧
    -- doneFault
    (∃ (vdh vdl : BitVec 16) (copies : List (Nat × Int)) (s : State), s.flag .DSE_STATUS_VFAULT 0 = true) ∧
    -- voltageLow
    (∃ (vdh vdl : BitVec 16) (rows : Nat) (s : State), s.flag .DSE_STATUS_VFAULT 0 = false ∧ vdh.toNat < s.disp.byte 8 * 100 ∧ s.dse.op ≠ some .update) ∧
    -- voltageHigh
    (∃ (vdh vdl : BitVec 16) (rows : Nat) (s : State), s.flag .DSE_STATUS_VFAULT 0 = false ∧ s.disp.byte 8 * 100 ≤ vdh.toNat ∧ s.disp.byte 9 * 100 < vdl.toNat ∧ s.dse.op ≠ some .update) ∧
    -- voltageInUpdate
    (∃ (vdh vdl : BitVec 16) (rows : Nat) (s : State), s.flag .DSE_STATUS_VFAULT 0 = false ∧ (vdh.toNat < s.disp.byte 8 * 100 ∨ s.disp.byte 9 * 100 < vdl.toNat) ∧ s.dse.op = some .update) ∧
    -- voltageInRange
    (∃ (vdh vdl : BitVec 16) (rows : Nat) (s : State), s.disp.byte 8 * 100 ≤ vdh.toNat ∧ vdl.toNat ≤ s.disp.byte 9 * 100) ∧
    -- voltageBack
    (∃ (vdh vdl : BitVec 16) (s : State), s.dse.fault ≤ 2 ∧ s.flag .DSE_STATUS_VFAULT 0 = true ∧ s.lanternOn = false ∧ s.disp.byte 8 * 100 ≤ vdh.toNat ∧ vdl.toNat ≤ s.disp.byte 9 * 100) ∧
    -- voltageStillOut
    (∃ (vdh vdl : BitVec 16) (s : State), (vdh.toNat < s.disp.byte 8 * 100 ∨ s.disp.byte 9 * 100 < vdl.toNat)) ∧
    -- life
    (∃ (tmean tnow peak : Int) (flash0 flash1 : BitVec 32) (s : State), s.bcu.vin = none ∧ s.bcu.counting = true ∧ s.bcu.ltMark ≤ s.now ∧ s.rd .ID_RUNTIME_HOURS 0 < 2 ^ 32) ∧
    -- lifeRule
    (∃ (tmean : Int), -1000 ≤ tmean ∧ tmean ≤ 2000) ∧
    -- lifeOff
    (∃ (tmean tnow peak : Int) (flash0 flash1 : BitVec 32) (v : VinState) (s : State), s.bcu.vin = some v) := ⟨
    ⟨{}, by decide⟩,
    ⟨.test, { dse := { op := some .test } }, by decide⟩,
    ⟨{ dse := { op := some .start } }, by decide⟩,
    ⟨{}, by decide⟩,
    ⟨.update, { dse := { op := some .update } }, by decide⟩,
    ⟨3000, 400, [], { bcu := { phase := .running }, plan := some { disp := { params := [0, 0, 0, 0, 15, 15] } }, dse := { op := some .update } }, by decide⟩,
    ⟨0, 3000, 400, [], { bcu := { phase := .running }, plan := some { disp := { params := [0, 0, 0, 0, 15, 15] } }, dse := { op := some .update } }, by decide⟩,
    ⟨3, 3000, 400, [], { bcu := { phase := .running }, plan := some { disp := { rows := 4, cols := 16, params := [0, 0, 0, 0, 15, 15] } }, dse := { op := some .update, target := [(60, 1)] } }, by decide⟩,
    ⟨3000, 400, [], { bcu := { phase := .running }, plan := some { disp := { params := [0, 0, 0, 0, 15, 15] } } }, by decide⟩,
    ⟨3000, 400, [], ({} : State).put .DSE_STATUS_VFAULT 0 1, by decide⟩,
    ⟨900, 400, 0, { plan := some { disp := { params := [0, 0, 0, 0, 15, 15] } } }, by decide⟩,
    ⟨3000, 1600, 0, { plan := some { disp := { params := [0, 0, 0, 0, 15, 15] } } }, by decide⟩,
    ⟨900, 400, 0, { plan := some { disp := { params := [0, 0, 0, 0, 15, 15] } }, dse := { op := some .update } }, by decide⟩,
    ⟨3000, 400, 0, { plan := some { disp := { params := [0, 0, 0, 0, 15, 15] } } }, by decide⟩,
    ⟨3000, 400, ({ plan := some { disp := { params := [0, 0, 0, 0, 15, 15] } }, dse := { fault := 2 } } : State).put .DSE_STATUS_VFAULT 0 1, by decide⟩,
    ⟨900, 400, ({ plan := some { disp := { params := [0, 0, 0, 0, 15, 15] } }, dse := { fault := 1 } } : State).put .DSE_STATUS_VFAULT 0 1, by decide⟩,
    ⟨250, 250, 260, 0, 0, { bcu := { counting := true } }, by decide⟩,
    ⟨250, by decide⟩,
    ⟨250, 250, 260, 0, 0, .low, { bcu := { vin := some .low } }, by decide⟩⟩

theorem meets_TheLanternBand :
    -- latch
    (∃ (n : Fin 24) (s : State), s.lanternOn = true ∧ bit (s.eff .DSE_LNMASK_LNMASK 0) n.val = true ∧ s.flag .DSE_STATUS_VFAULT 0 = false ∧ s.flag .DSE_LNSTAT_MARK 0 = false) ∧
    -- latchMarked
    (∃ (n : Fin 24) (s : State), s.lanternOn = true ∧ bit (s.eff .DSE_LNMASK_LNMASK 0) n.val = true ∧ s.flag .DSE_STATUS_VFAULT 0 = false ∧ s.flag .DSE_LNSTAT_MARK 0 = true) ∧
    -- latchWaits
    (∃ (n : Fin 24) (s : State), s.lanternOn = true ∧ bit (s.eff .DSE_LNMASK_LNMASK 0) n.val = true ∧ s.flag .DSE_STATUS_VFAULT 0 = true) ∧
    -- latchOff
    (∃ (n : Fin 24) (s : State), (s.lanternOn = false ∨ bit (s.eff .DSE_LNMASK_LNMASK 0) n.val = false)) ∧
    -- commit
    (∃ (n : Fin 24) (sess energy flags : Nat) (unsigned : Bool) (s : State), lookup none s.sec.sealed n.val = some (sess, energy, flags, unsigned) ∧ s.dse.awaits = some (n.val, sess) ∧ s.lanternOn = true ∧ s.flag .DSE_STATUS_VFAULT 0 = false ∧ s.flag .DSE_LNSTAT_MARK 0 = true ∧ sess < 2 ^ 32 ∧ s.lgs.queue.any (·.closes n sess) = false) ∧
    -- commitWaits
    (∃ (n : Fin 24) (sess energy flags : Nat) (unsigned : Bool) (s : State), lookup none s.sec.sealed n.val = some (sess, energy, flags, unsigned) ∧ s.lgs.queue.any (·.closes n sess) = true) ∧
    -- commitOther
    (∃ (n : Fin 24) (s : State), s.dse.awaits = none) ∧
    -- commitOld
    (∃ (n : Fin 24) (m k : Nat) (sess energy flags : Nat) (unsigned : Bool) (s : State), lookup none s.sec.sealed n.val = some (sess, energy, flags, unsigned) ∧ s.dse.awaits = some (m, k) ∧ (k ≠ sess ∨ m ≠ n.val)) ∧
    -- resume
    (∃ (n : Fin 24) (sess energy flags : Nat) (unsigned : Bool) (vdh vdl : BitVec 16) (s : State), lookup none s.sec.sealed n.val = some (sess, energy, flags, unsigned) ∧ s.dse.awaits = some (n.val, sess) ∧ s.dse.committed = true ∧ s.lanternOn = true ∧ s.flag .DSE_STATUS_VFAULT 0 = true ∧ s.disp.byte 8 * 100 ≤ vdh.toNat ∧ vdl.toNat ≤ s.disp.byte 9 * 100 ∧ sess < 2 ^ 32) := ⟨
    ⟨4, { plan := some { disp := { params := [0, 0, 0, 0, 0, 0, 0, 0, 1] } } }, by decide⟩,
    ⟨4, ({ plan := some { disp := { params := [0, 0, 0, 0, 0, 0, 0, 0, 1] } } } : State).put .DSE_LNSTAT_MARK 0 1, by decide⟩,
    ⟨4, ({ plan := some { disp := { params := [0, 0, 0, 0, 0, 0, 0, 0, 1] } } } : State).put .DSE_STATUS_VFAULT 0 1, by decide⟩,
    ⟨4, {}, by decide⟩,
    ⟨4, 1207, 41250, 0, false, ({ plan := some { disp := { params := [0, 0, 0, 0, 0, 0, 0, 0, 1] } }, sec := { sealed := [(4, some (1207, 41250, 0, false))] }, dse := { awaits := some (4, 1207) } } : State).put .DSE_LNSTAT_MARK 0 1, by decide⟩,
    ⟨4, 1207, 41250, 0, false, { lgs := { queue := [{ cls := 2, at_ := 0, recs := [⟨0x10, 0, [⟨16, 1, 4⟩, ⟨20, 4, 1207⟩]⟩] }] }, sec := { sealed := [(4, some (1207, 41250, 0, false))] } }, by decide⟩,
    ⟨4, {}, by decide⟩,
    ⟨4, 4, 1208, 1207, 41250, 0, false, { sec := { sealed := [(4, some (1207, 41250, 0, false))] }, dse := { awaits := some (4, 1208) } }, by decide⟩,
    ⟨4, 1207, 41250, 0, false, 3000, 400, ({ plan := some { disp := { params := [0, 0, 0, 0, 15, 15, 0, 0, 1] } }, sec := { sealed := [(4, some (1207, 41250, 0, false))] }, dse := { awaits := some (4, 1207), committed := true, fault := 2 } } : State).put .DSE_STATUS_VFAULT 0 1, by decide⟩⟩

theorem meets_UpdatesAreCheckedAndStaged :
    -- load
    (∃ (s : State), s.failed 0x1E = false ∧ s.updState = 0 ∧ s.ppl.staged = none ∧ (s.lifeCycle = 1 ∨ s.lifeCycle = 2 ∨ s.lifeCycle = 3)) ∧
    -- loadRefused
    (∃ (s : State), s.failed 0x1E = false ∧ (s.updState ≠ 0 ∨ s.ppl.staged.isSome = true ∨ s.lifeCycle = 4 ∨ s.lifeCycle = 5)) ∧
    -- staged
    (∃ (writeFail : Option (Fin 64)) (s : State), s.updState = 1 ∧ s.updRuns = true) ∧
    -- noMedium
    (∃ (writeFail : Option (Fin 64)) (s : State), s.updState = 1 ∧ s.upd.medium = none ∧ s.updRuns = true) ∧
    -- noManifest
    (∃ (files : List (List Nat × List Nat)) (writeFail : Option (Fin 64)) (s : State), s.updState = 1 ∧ s.upd.medium = some ⟨none, files⟩ ∧ s.updRuns = true) ∧
    -- badManifest
    (∃ (m : List Nat) (files : List (List Nat × List Nat)) (writeFail : Option (Fin 64)) (s : State), s.updState = 1 ∧ s.upd.medium = some ⟨some m, files⟩ ∧ manifestOk m = false ∧ s.updRuns = true) ∧
    -- written
    (∃ (h : UpdHold) (s : State), s.upd.hold = some h ∧ s.updState = 3 ∧ s.updRuns = true ∧ fromLe ((h.manifest.drop 0x18).take 8) = 0) ∧
    -- notReading
    (∃ (writeFail : Option (Fin 64)) (s : State), (s.updState = 0 ∨ 3 < s.updState ∨ s.updRuns = false)) ∧
    -- removedReading
    (∃ (s : State), (s.updState = 1 ∨ s.updState = 2) ∧ s.upd.hold = none) ∧
    -- removed
    (∃ (s : State), s.updState ≠ 1 ∧ s.updState ≠ 2) ∧
    -- activate
    (∃ (h : UpdHold) (ask : Nat) (s : State), s.upd.hold = some h ∧ s.updState = 4 ∧ fromLe ((h.manifest.drop 0x18).take 8) = 0 ∧ (s.ptpUsable = true ∨ h.parts.any (fun p => p.kind == 6) = false) ∧ s.rd .UPD_ACTTIME_L 0 + 2 ^ 32 * s.rd .UPD_ACTTIME_H 0 = ask ∧ ask ≠ 0 ∧ s.timeOk s.ptpUsable h.drain ask = true ∧ s.updRuns = true) ∧
    -- activateSoon
    (∃ (h : UpdHold) (s : State), s.upd.hold = some h ∧ s.updState = 4 ∧ fromLe ((h.manifest.drop 0x18).take 8) = 0 ∧ h.drain ≤ 120 ∧ (s.ptpUsable = true ∨ h.parts.any (fun p => p.kind == 6) = false) ∧ s.rd .UPD_ACTTIME_L 0 + 2 ^ 32 * s.rd .UPD_ACTTIME_H 0 = 0 ∧ s.updRuns = true) ∧
    -- activateLate
    (∃ (h : UpdHold) (ask : Nat) (s : State), s.upd.hold = some h ∧ s.updState = 4 ∧ fromLe ((h.manifest.drop 0x18).take 8) = 0 ∧ s.rd .UPD_ACTTIME_L 0 + 2 ^ 32 * s.rd .UPD_ACTTIME_H 0 = ask ∧ (s.timeOk s.ptpUsable h.drain ask = false ∧ ask ≠ 0 ∨ s.ptpUsable = false ∧ h.parts.any (fun p => p.kind == 6) = true) ∧ s.updRuns = true) ∧
    -- activateState
    (∃ (s : State), (s.updState ≠ 4 ∨ s.upd.hold = none ∨ (s.upd.hold.map fun h => fromLe ((h.manifest.drop 0x18).take 8)) ≠ some 0) ∧ s.updRuns = true) ∧
    -- cancel
    (∃ (h : UpdHold) (s : State), s.upd.hold = some h ∧ 1 ≤ s.updState ∧ s.updState ≤ 5 ∧ h.written = [] ∧ s.updRuns = true) ∧
    -- cancelWritten
    (∃ (h : UpdHold) (s : State), s.upd.hold = some h ∧ 1 ≤ s.updState ∧ s.updState ≤ 5 ∧ h.written ≠ [] ∧ s.updRuns = true) ∧
    -- cancelState
    (∃ (s : State), (s.updState = 0 ∨ 5 < s.updState) ∧ s.updRuns = true) ∧
    -- restored
    (∃ (s : State), s.updState = 9 ∧ s.updRuns = true) ∧
    -- nothingToRestore
    (∃ (s : State), s.updState ≠ 9) := ⟨
    ⟨{}, by decide⟩,
    ⟨({} : State).put .UPD_STATUS_STATE 0 7, by decide⟩,
    ⟨none, ({} : State).put .UPD_STATUS_STATE 0 1, by decide⟩,
    ⟨none, ({} : State).put .UPD_STATUS_STATE 0 1, by decide⟩,
    ⟨[], none, ({ upd := { medium := some ⟨none, []⟩ } } : State).put .UPD_STATUS_STATE 0 1, by decide⟩,
    ⟨[1], [], none, ({ upd := { medium := some ⟨some [1], []⟩ } } : State).put .UPD_STATUS_STATE 0 1, by decide⟩,
    ⟨⟨1, 30, [], [], none, none, [], 0, 0, [], none, true, 0, 0, false⟩, ({ upd := { hold := some ⟨1, 30, [], [], none, none, [], 0, 0, [], none, true, 0, 0, false⟩ } } : State).put .UPD_STATUS_STATE 0 3, by decide⟩,
    ⟨none, {}, by decide⟩,
    ⟨(({} : State).put .UPD_STATUS_STATE 0 1).put .UPD_STATUS_MEDIA 0 1, by decide⟩,
    ⟨({} : State).put .UPD_STATUS_MEDIA 0 1, by decide⟩,
    ⟨⟨1, 30, [], [], none, none, [], 0, 0, [], none, true, 0, 0, false⟩, 2000, (({ upd := { hold := some ⟨1, 30, [], [], none, none, [], 0, 0, [], none, true, 0, 0, false⟩ }, ntu := { everLocked := true } } : State).put .UPD_STATUS_STATE 0 4).put .UPD_ACTTIME_L 0 2000, by decide⟩,
    ⟨⟨1, 30, [], [], none, none, [], 0, 0, [], none, true, 0, 0, false⟩, (({ upd := { hold := some ⟨1, 30, [], [], none, none, [], 0, 0, [], none, true, 0, 0, false⟩ }, ntu := { everLocked := true } } : State).put .UPD_STATUS_STATE 0 4), by (constructor <;> decide)⟩,
    ⟨⟨1, 30, [], [], none, none, [], 0, 0, [], none, true, 0, 0, false⟩, 20, (({ upd := { hold := some ⟨1, 30, [], [], none, none, [], 0, 0, [], none, true, 0, 0, false⟩ }, ntu := { everLocked := true } } : State).put .UPD_STATUS_STATE 0 4).put .UPD_ACTTIME_L 0 20, by decide⟩,
    ⟨{}, by decide⟩,
    ⟨⟨1, 30, [], [], none, none, [], 0, 0, [], none, true, 0, 0, false⟩, ({ upd := { hold := some ⟨1, 30, [], [], none, none, [], 0, 0, [], none, true, 0, 0, false⟩ } } : State).put .UPD_STATUS_STATE 0 4, by decide⟩,
    ⟨⟨1, 30, [], [], none, none, [(1, 1, 2)], 0, 0, [], none, true, 0, 0, false⟩, ({ upd := { hold := some ⟨1, 30, [], [], none, none, [(1, 1, 2)], 0, 0, [], none, true, 0, 0, false⟩ } } : State).put .UPD_STATUS_STATE 0 5, by decide⟩,
    ⟨({} : State).put .UPD_STATUS_STATE 0 6, by decide⟩,
    ⟨({} : State).put .UPD_STATUS_STATE 0 9, by decide⟩,
    ⟨{}, by decide⟩⟩

theorem meets_UpdatesActivateOnTrialAndFallBack :
    -- drain
    (∃ (h : UpdHold) (at_ : Nat) (s : State), s.upd.hold = some h ∧ h.t = some at_ ∧ s.updState = 4 ∧ s.updRuns = true) ∧
    -- noDrain
    (∃ (s : State), s.updState ≠ 4) ∧
    -- nodesHold
    (∃ (h : UpdHold) (at_ : Nat) (s : State), s.upd.hold = some h ∧ h.t = some at_ ∧ s.updState = 5 ∧ (∀ r ∈ s.namedNodes h, s.flag .ALK_NVER_PEND (r.byte 2) = true) ∧ s.updRuns = true) ∧
    -- nodesMiss
    (∃ (h : UpdHold) (at_ : Nat) (r : NetwRec) (s : State), s.upd.hold = some h ∧ h.t = some at_ ∧ s.updState = 5 ∧ r ∈ s.namedNodes h ∧ s.flag .ALK_NVER_PEND (r.byte 2) = false ∧ s.updRuns = true) ∧
    -- activateNodes
    (∃ (h : UpdHold) (at_ : Nat) (p : UpdPart) (s : State), s.upd.hold = some h ∧ h.t = some at_ ∧ s.updState = 5 ∧ h.parts = [p] ∧ p.kind = 6 ∧ s.updRuns = true) ∧
    -- activation
    (∃ (n : Fin 24) (h : UpdHold) (at_ : Nat) (s : State), s.upd.hold = some h ∧ h.t = some at_ ∧ s.updState = 5 ∧ h.plan = none ∧ s.inSession n.val = true ∧ s.updRuns = true) ∧
    -- notScheduled
    (∃ (s : State), s.upd.hold = none) ∧
    -- activationReset
    (∃ (h : UpdHold) (w : Nat × Nat × Nat) (s : State), s.upd.hold = some h ∧ h.written = [w] ∧ s.updState = 6 ∧ s.bcu.phase = .running ∧ s.updRuns = true) ∧
    -- confirm
    (∃ (h : UpdHold) (s : State), s.upd.hold = some h ∧ s.updState = 7 ∧ s.updRuns = true) ∧
    -- confirmState
    (∃ (s : State), s.updState ≠ 7 ∧ s.updRuns = true) ∧
    -- trialComplete
    (∃ (h : UpdHold) (a : Nat) (s : State), s.upd.hold = some h ∧ s.upd.trialAt = some a ∧ s.updState = 7 ∧ s.updRuns = true) ∧
    -- trialNotRunning
    (∃ (s : State), (s.updState ≠ 7 ∨ s.upd.trialAt = none)) ∧
    -- fallback
    (∃ (h : UpdHold) (s : State), s.upd.hold = some h ∧ s.updState = 7 ∧ s.updRuns = true) ∧
    -- fallbackState
    (∃ (s : State), s.updState ≠ 7 ∧ s.updRuns = true) ∧
    -- nodesConfirm
    (∃ (h : UpdHold) (t0 : Nat) (s : State), s.upd.hold = some h ∧ s.upd.nodeT = some t0 ∧ s.updState = 7 ∧ s.namedNodes h = [] ∧ s.updRuns = true) ∧
    -- nodesOld
    (∃ (h : UpdHold) (t0 : Nat) (r : NetwRec) (s : State), s.upd.hold = some h ∧ s.upd.nodeT = some t0 ∧ s.updState = 7 ∧ r ∈ s.namedNodes h ∧ s.flag .ALK_NVER_CONF (r.byte 2) = false ∧ s.updRuns = true) ∧
    -- restoreDone
    (∃ (h : UpdHold) (w : Nat × Nat × Nat) (s : State), s.upd.hold = some h ∧ s.updState = 8 ∧ s.upd.fallbackAt = none ∧ h.fallback = none ∧ h.written = [w] ∧ s.updRuns = true) ∧
    -- noRestore
    (∃ (s : State), s.updState ≠ 8) ∧
    -- fallbackReset
    (∃ (t0 : Nat) (s : State), s.upd.fallbackAt = some t0 ∧ s.updState = 8 ∧ s.bcu.phase = .running ∧ s.updRuns = true) ∧
    -- gsePassed
    (∃ (inputs : BitVec 16) (t0 : Nat) (p : Plan) (s : State), s.gse.testsT = some t0 ∧ s.plan = some p ∧ p.safeCv = s.rd .GSE_CVCONF_CVCONF 0 ∧ p.safe = []) ∧
    -- gseOther
    (∃ (inputs : BitVec 16) (t0 : Nat) (p : Plan) (s : State), s.gse.testsT = some t0 ∧ s.plan = some p ∧ p.safeCv ≠ s.rd .GSE_CVCONF_CVCONF 0 ∧ p.safe = []) ∧
    -- gseFailed
    (∃ (failed : Fin 10) (inputs : BitVec 16) (t0 : Nat) (s : State), s.gse.testsT = some t0 ∧ failed ≠ 0 ∧ s.rd .GSE_STATUS_STATE 0 ≠ 3 ∧ s.updState ≠ 7) ∧
    -- gseFailedInTrial
    (∃ (failed : Fin 10) (inputs : BitVec 16) (t0 : Nat) (h : UpdHold) (s : State), s.gse.testsT = some t0 ∧ failed ≠ 0 ∧ s.rd .GSE_STATUS_STATE 0 ≠ 3 ∧ s.updState = 7 ∧ s.upd.hold = some h) ∧
    -- gseNotTesting
    (∃ (failed : Fin 10) (inputs : BitVec 16) (s : State), s.gse.testsT = none) := ⟨
    ⟨⟨1, 30, [], [], none, none, [], 0, 0, [], some 2000, true, 131072000, 0, false⟩, 2000, ({ upd := { hold := some ⟨1, 30, [], [], none, none, [], 0, 0, [], some 2000, true, 131072000, 0, false⟩ } } : State).put .UPD_STATUS_STATE 0 4, by decide⟩,
    ⟨{}, by decide⟩,
    ⟨⟨1, 30, [], [], none, none, [], 0, 0, [], some 2000, true, 131072000, 0, false⟩, 2000, ({ upd := { hold := some ⟨1, 30, [], [], none, none, [], 0, 0, [], some 2000, true, 131072000, 0, false⟩ } } : State).put .UPD_STATUS_STATE 0 5, by decide⟩,
    ⟨⟨1, 30, [], [⟨6, 0, 3, 2, 1, [], []⟩], none, none, [], 0, 0, [], some 2000, true, 131072000, 0, false⟩, 2000, { type := 7, params := [1, 5, 0, 0, 0, 0, 0, 0, 0, 0, 0, 0, 0, 0, 0, 3] }, ({ plan := some { netw := [{ type := 7, params := [1, 5, 0, 0, 0, 0, 0, 0, 0, 0, 0, 0, 0, 0, 0, 3] }] }, upd := { hold := some ⟨1, 30, [], [⟨6, 0, 3, 2, 1, [], []⟩], none, none, [], 0, 0, [], some 2000, true, 131072000, 0, false⟩ } } : State).put .UPD_STATUS_STATE 0 5, by decide⟩,
    ⟨⟨1, 30, [], [⟨6, 0, 3, 2, 1, [], []⟩], none, none, [], 0, 0, [], some 2000, true, 131072000, 0, false⟩, 2000, ⟨6, 0, 3, 2, 1, [], []⟩, ({ upd := { hold := some ⟨1, 30, [], [⟨6, 0, 3, 2, 1, [], []⟩], none, none, [], 0, 0, [], some 2000, true, 131072000, 0, false⟩ } } : State).put .UPD_STATUS_STATE 0 5, by decide⟩,
    ⟨3, ⟨1, 30, [], [], none, none, [], 0, 0, [], some 2000, true, 131072000, 0, false⟩, 2000, (({ upd := { hold := some ⟨1, 30, [], [], none, none, [], 0, 0, [], some 2000, true, 131072000, 0, false⟩ } } : State).put .UPD_STATUS_STATE 0 5).put .VCE_OLINK_GEN 3 3, by decide⟩,
    ⟨{}, by decide⟩,
    ⟨⟨1, 30, [], [], none, none, [(1, 1, 2)], 0, 5, [], some 2000, true, 131072000, 0, false⟩, (1, 1, 2), ({ bcu := { phase := .running }, upd := { hold := some ⟨1, 30, [], [], none, none, [(1, 1, 2)], 0, 5, [], some 2000, true, 131072000, 0, false⟩ } } : State).put .UPD_STATUS_STATE 0 6, by decide⟩,
    ⟨⟨1, 30, [], [⟨1, 0, 0, 7, 1, [], []⟩], none, none, [(1, 1, 7)], 0, 0, [], some 2000, true, 131072000, 0, false⟩, ({ upd := { hold := some ⟨1, 30, [], [⟨1, 0, 0, 7, 1, [], []⟩], none, none, [(1, 1, 7)], 0, 0, [], some 2000, true, 131072000, 0, false⟩ } } : State).put .UPD_STATUS_STATE 0 7, by decide⟩,
    ⟨{}, by decide⟩,
    ⟨⟨1, 30, [], [], none, none, [], 0, 0, [], some 2000, true, 131072000, 0, false⟩, 0, ({ upd := { trialAt := some 0, hold := some ⟨1, 30, [], [], none, none, [], 0, 0, [], some 2000, true, 131072000, 0, false⟩ } } : State).put .UPD_STATUS_STATE 0 7, by decide⟩,
    ⟨{}, by decide⟩,
    ⟨⟨1, 30, [], [], none, none, [], 0, 0, [], some 2000, true, 131072000, 0, false⟩, ({ upd := { hold := some ⟨1, 30, [], [], none, none, [], 0, 0, [], some 2000, true, 131072000, 0, false⟩ } } : State).put .UPD_STATUS_STATE 0 7, by decide⟩,
    ⟨{}, by decide⟩,
    ⟨⟨1, 30, [], [], none, none, [], 0, 0, [], some 2000, true, 131072000, 0, false⟩, 9, ({ upd := { nodeT := some 9, hold := some ⟨1, 30, [], [], none, none, [], 0, 0, [], some 2000, true, 131072000, 0, false⟩ } } : State).put .UPD_STATUS_STATE 0 7, by decide⟩,
    ⟨⟨1, 30, [], [⟨6, 0, 3, 2, 1, [], []⟩], none, none, [], 0, 0, [], some 2000, true, 131072000, 0, false⟩, 9, { type := 7, params := [1, 5, 0, 0, 0, 0, 0, 0, 0, 0, 0, 0, 0, 0, 0, 3] }, ({ plan := some { netw := [{ type := 7, params := [1, 5, 0, 0, 0, 0, 0, 0, 0, 0, 0, 0, 0, 0, 0, 3] }] }, upd := { nodeT := some 9, hold := some ⟨1, 30, [], [⟨6, 0, 3, 2, 1, [], []⟩], none, none, [], 0, 0, [], some 2000, true, 131072000, 0, false⟩ } } : State).put .UPD_STATUS_STATE 0 7, by decide⟩,
    ⟨⟨1, 30, [], [], none, none, [(1, 1, 7)], 3, 4, [], some 2000, true, 131072000, 4, false⟩, (1, 1, 7), ({ upd := { hold := some ⟨1, 30, [], [], none, none, [(1, 1, 7)], 3, 4, [], some 2000, true, 131072000, 4, false⟩ } } : State).put .UPD_STATUS_STATE 0 8, by decide⟩,
    ⟨{}, by decide⟩,
    ⟨655360, ({ bcu := { phase := .running }, upd := { fallbackAt := some 655360 } } : State).put .UPD_STATUS_STATE 0 8, by decide⟩,
    ⟨0x5, 340000000, { safeCv := 0 }, { plan := some { safeCv := 0 }, gse := { testsT := some 340000000 } }, by decide⟩,
    ⟨0x5, 340000000, { safeCv := 9 }, { plan := some { safeCv := 9 }, gse := { testsT := some 340000000 } }, by decide⟩,
    ⟨3, 0, 340000000, { gse := { testsT := some 340000000 } }, by decide⟩,
    ⟨3, 0, 340000000, ⟨1, 30, [], [], none, none, [], 0, 0, [], some 2000, true, 131072000, 0, false⟩, ({ gse := { testsT := some 340000000 }, upd := { hold := some ⟨1, 30, [], [], none, none, [], 0, 0, [], some 2000, true, 131072000, 0, false⟩ } } : State).put .UPD_STATUS_STATE 0 7, by decide⟩,
    ⟨3, 0, { gse := { testsT := none } }, by decide⟩⟩

theorem meets_SupplyLossEndsInPowerFailure :
    -- vinLow
    (∃ (s : State), s.bcu.vin = none ∧ s.bcu.phase ≠ .off) ∧
    -- vinReversed
    (∃ (s : State), s.bcu.vin = none ∧ s.bcu.phase ≠ .off) ∧
    -- vinOver
    (∃ (s : State), s.bcu.vin = none ∧ s.bcu.phase ≠ .off) ∧
    -- dip
    (∃ (ms t0 : Nat) (k : VinState) (s : State), s.bcu.vin = some k ∧ s.bcu.absentAt = some t0 ∧ s.bcu.phase = .running ∧ ms < s.rideThrough) ∧
    -- failure
    (∃ (cause : Fin 3) (t0 : Nat) (k : VinState) (s : State), s.bcu.vin = some k ∧ s.bcu.absentAt = some t0 ∧ s.bcu.phase = .running ∧ cause.val ≠ 2) ∧
    -- commandedCommit
    (∃ (cause : Fin 3) (t0 : Nat) (k : VinState) (s : State), s.bcu.vin = some k ∧ s.bcu.absentAt = some t0 ∧ s.bcu.phase = .commit ∧ s.bcu.commanded.isSome = true) ∧
    -- holdLost
    (∃ (t0 : Nat) (k : VinState) (s : State), s.bcu.vin = some k ∧ s.bcu.absentAt = some t0 ∧ s.bcu.phase = .running) ∧
    -- holdupEnd
    (∃ (s : State), s.bcu.phase = .commit ∧ s.bcu.commanded = none) ∧
    -- restoration
    (∃ (s : State), s.bcu.phase = .off) := ⟨
    ⟨({} : State), by decide⟩,
    ⟨({} : State), by decide⟩,
    ⟨({} : State), by decide⟩,
    ⟨2, 0, .low, ({ bcu := { phase := .running, vin := some .low, absentAt := some 0 } } : State).put .BCU_PFCFG_PFRIDE 0 10, by decide⟩,
    ⟨0, 0, .low, ({ bcu := { phase := .running, vin := some .low, absentAt := some 0 } } : State), by decide⟩,
    ⟨0, 0, .low, { bcu := { phase := .commit, commanded := some 3, vin := some .low, absentAt := some 0 } }, by decide⟩,
    ⟨0, .low, ({ bcu := { phase := .running, vin := some .low, absentAt := some 0 } } : State), by decide⟩,
    ⟨({ bcu := { phase := .commit } } : State), by decide⟩,
    ⟨({ bcu := { phase := .off } } : State), by decide⟩⟩

theorem meets_BasecampAndItsSupply :
    -- lost
    (∃ (s : State), s.bcu.phase = .off) ∧
    -- batteryLow
    (∃ (mv : BitVec 16) (s : State), s.bcu.phase ≠ .off ∧ mv.toNat < 2600) ∧
    -- batteryGood
    (∃ (mv : BitVec 16) (s : State), s.bcu.phase ≠ .off ∧ 2600 ≤ mv.toNat) ∧
    -- crystalBad
    (∃ (settled : Bool) (s : State), s.bcu.phase ≠ .off ∧ s.bcu.xtFault = false) ∧
    -- crystalGood
    (∃ (s : State), s.bcu.phase ≠ .off ∧ s.bcu.xtFault = true) ∧
    -- holdupLow
    (∃ (uf : BitVec 16) (s : State), s.bcu.phase ≠ .off ∧ uf.toNat < 950) ∧
    -- holdupGood
    (∃ (uf : BitVec 16) (s : State), s.bcu.phase ≠ .off ∧ 950 ≤ uf.toNat) := ⟨
    ⟨({ bcu := { phase := .off } } : State), by decide⟩,
    ⟨2599, ({} : State), by decide⟩,
    ⟨2700, ({} : State), by decide⟩,
    ⟨false, ({} : State), by decide⟩,
    ⟨({ bcu := { xtFault := true } } : State), by decide⟩,
    ⟨949, ({} : State), by decide⟩,
    ⟨950, ({} : State), by decide⟩⟩

theorem meets_ClocksAndTheirFailures :
    -- proven
    (∃ (tenMicros : Nat) (s : State), s.flag .CGU_STATUS_XTOK 0 = false ∧ s.bcu.phase ≠ .off) ∧
    -- notProven
    (∃ (s : State), s.flag .CGU_STATUS_XTOK 0 = false ∧ s.bcu.phase ≠ .off) ∧
    -- failure
    (∃ (kind : Fin 3) (s : State), s.flag .CGU_STATUS_XTOK 0 = true ∧ s.bcu.phase = .running) ∧
    -- lockLoss
    (∃ (s : State), s.flag .CGU_STATUS_PLLOK 0 = true ∧ s.bcu.phase = .running) ∧
    -- count
    (∃ (win : Nat) (ref meas : Fin 16) (s : State), ref.val ≠ 15 ∧ meas.val ≠ 15) ∧
    -- reserved
    (∃ (win : Nat) (ref meas : Fin 16) (s : State), (ref.val = 15 ∨ meas.val = 15)) ∧
    -- counted
    (∃ (count : Nat) (s : State), s.flag .CGU_STATUS_FCBUSY 0 = true) := ⟨
    ⟨400, ({} : State), by decide⟩,
    ⟨({} : State), by decide⟩,
    ⟨0, ({ bcu := { phase := .running } } : State).put .CGU_STATUS_XTOK 0 1, by decide⟩,
    ⟨({ bcu := { phase := .running } } : State).put .CGU_STATUS_PLLOK 0 1, by decide⟩,
    ⟨12, 1, 2, ({} : State), by decide⟩,
    ⟨12, 15, 2, ({} : State), by decide⟩,
    ⟨5, ({} : State).put .CGU_STATUS_FCBUSY 0 1, by decide⟩⟩

theorem meets_ResetsAndTheirCauses :
    -- happening
    (∃ (cause : Fin 4) (s : State), (s.bcu.phase = .running ∨ s.bcu.phase = .units ∨ s.bcu.phase = .warm) ∧ (s.bcu.healthy = true ∨ s.rd .BCU_GHSTAT_UNHEALTHY 0 < 3)) ∧
    -- crashLoop
    (∃ (cause : Fin 4) (s : State), (s.bcu.phase = .running ∨ s.bcu.phase = .units ∨ s.bcu.phase = .warm) ∧ s.bcu.healthy = false ∧ 3 ≤ s.rd .BCU_GHSTAT_UNHEALTHY 0) ∧
    -- notStarted
    (∃ (cause : Fin 4) (s : State), (s.bcu.phase = .off ∨ s.bcu.phase = .commit ∨ s.bcu.phase = .starting)) ∧
    -- commandedWarm
    (∃ (m : Fin 22) (s : State), (s.bcu.phase = .running ∨ s.bcu.phase = .units ∨ s.bcu.phase = .warm) ∧ (s.bcu.healthy = true ∨ s.rd .BCU_GHSTAT_UNHEALTHY 0 < 3)) ∧
    -- otherKey
    (∃ (m : Fin 22) (key unit index : BitVec 8) (s : State), key ≠ 0x5A) ∧
    -- commandedCold
    (∃ (s : State), s.bcu.phase = .running) ∧
    -- unitReset
    (∃ (unit index : BitVec 8) (s : State), unit.toNat ∈ resetClasses ∧ (unit.toNat = 0x10 → index.toNat < 24)) ∧
    -- unitRefused
    (∃ (unit index : BitVec 8) (s : State), (unit.toNat ∉ resetClasses ∨ unit.toNat = 0x10 ∧ 24 ≤ index.toNat)) ∧
    -- unitResetEnd
    (∃ (unit index : BitVec 8) (s : State), unit ≠ 0x12 ∧ unit ≠ 0x16 ∧ s.bcu.unitResets.contains (unit.toNat * 256 + index.toNat) = true) ∧
    -- ownUnitsEnd
    (∃ (unit index : BitVec 8) (s : State), (unit = 0x12 ∨ unit = 0x16) ∧ s.bcu.unitResets.contains (unit.toNat * 256 + index.toNat) = true) ∧
    -- watchdog
    (∃ (at_ : Nat) (s : State), s.bcu.wdt = some at_ ∧ s.bcu.phase = .running ∧ (s.bcu.healthy = true ∨ s.rd .BCU_GHSTAT_UNHEALTHY 0 < 3)) ∧
    -- escalation
    (∃ (at_ : Nat) (s : State), s.fab.a0Timer = some at_ ∧ s.bcu.phase = .running ∧ (s.bcu.healthy = true ∨ s.rd .BCU_GHSTAT_UNHEALTHY 0 < 3)) := ⟨
    ⟨1, ({ bcu := { phase := .running } } : State), by decide⟩,
    ⟨1, ({ bcu := { phase := .running } } : State).put .BCU_GHSTAT_UNHEALTHY 0 3, by decide⟩,
    ⟨1, ({} : State), by decide⟩,
    ⟨18, ({ bcu := { phase := .running } } : State), by decide⟩,
    ⟨0, 0, 0x16, 0, ({} : State), by decide⟩,
    ⟨({ bcu := { phase := .running } } : State), by decide⟩,
    ⟨0x16, 0, ({} : State), by decide⟩,
    ⟨0x03, 0, ({} : State), by decide⟩,
    ⟨0x17, 0, ({ bcu := { unitResets := [0x1700] } } : State), by decide⟩,
    ⟨0x16, 0, ({ bcu := { unitResets := [0x1600] } } : State), by decide⟩,
    ⟨5, ({ bcu := { phase := .running, wdt := some 5 } } : State), by decide⟩,
    ⟨5, ({ bcu := { phase := .running }, fab := { a0Timer := some 5 } } : State), by decide⟩⟩

theorem meets_StartsAndTheGuyHold :
    -- coldStart
    (∃ (secRow : Fin 20) (micro : Bool) (s : State), s.bcu.phase = .starting) ∧
    -- running
    (∃ (s : State), (s.bcu.phase = .units ∨ s.bcu.phase = .warm)) ∧
    -- kick
    (∃ (at_ : Nat) (s : State), s.frozen 0 = false ∧ s.bcu.wdt = some at_ ∧ s.now < at_) ∧
    -- lateKick
    (∃ (at_ : Nat) (s : State), s.frozen 0 = false ∧ s.bcu.wdt = some at_ ∧ at_ ≤ s.now ∧ s.bcu.phase = .running ∧ (s.bcu.healthy = true ∨ s.rd .BCU_GHSTAT_UNHEALTHY 0 < 3)) ∧
    -- frozenA0
    (∃ (s : State), s.frozen 0 = true) ∧
    -- otherKick
    (∃ (m : Fin 22) (s : State), m.val ≠ 0) ∧
    -- healthy
    (∃ (s : State), s.frozen 0 = false) ∧
    -- take
    (∃ (s : State), s.frozen 0 = false ∧ s.flag .BCU_STATUS_GHOLD 0 = true) ∧
    -- holdExpiry
    (∃ (at_ : Nat) (s : State), s.bcu.holdEnd = some at_) ∧
    -- imageFails
    (∃ (s : State), s.bcu.phase = .warm) ∧
    -- ember
    (∃ (p : Plan) (t0 : Nat) (s : State), s.plan = some p ∧ s.bcu.idleSince = some t0 ∧ bit p.head.flags 0 = true ∧ s.bcu.ember = false ∧ s.bcu.phase = .running) ∧
    -- emberEnd
    (∃ (n : Fin 24) (s : State), s.bcu.ember = true ∧ s.bcu.wake = some n.val) := ⟨
    ⟨0, false, ({} : State), by decide⟩,
    ⟨({ bcu := { phase := .warm } } : State), by decide⟩,
    ⟨5, ({ bcu := { wdt := some 5 } } : State), by decide⟩,
    ⟨5, ({ now := 5, bcu := { phase := .running, wdt := some 5 } } : State), by decide⟩,
    ⟨({} : State).put .FAB_FROZEN_FROZEN 0 1, by decide⟩,
    ⟨1, ({} : State), by decide⟩,
    ⟨({} : State), by decide⟩,
    ⟨({} : State).put .BCU_STATUS_GHOLD 0 1, by decide⟩,
    ⟨5, ({ bcu := { holdEnd := some 5 } } : State), by decide⟩,
    ⟨({ bcu := { phase := .warm } } : State), by decide⟩,
    ⟨{ head := { flags := 1 } }, 0, ({ plan := some { head := { flags := 1 } }, bcu := { phase := .running, idleSince := some 0 } } : State), by decide⟩,
    ⟨3, ({ bcu := { ember := true, wake := some 3 } } : State).put .OIU_CPSTATE_STATE 3 2, by decide⟩⟩

theorem meets_HostPortTransactionsAndFifos :
    -- status
    (∃ (s : State), s.spiUp = true) ∧
    -- off
    (∃ (addr : BitVec 32) (count : Nat) (words : List (BitVec 32)) (cut : Bool) (bytes : List (BitVec 8)) (cmd : BitVec 8) (s : State), s.spiUp = false) ∧
    -- unknown
    (∃ (cmd : BitVec 8) (s : State), s.spiUp = true ∧ cmd.toNat ∉ [0x0B, 0x02, 0x05, 0x3B, 0x32]) ∧
    -- fifoRead
    (∃ (count : Nat) (s : State), s.spiUp = true ∧ s.hpuRuns = true ∧ s.hpu.waiting = []) ∧
    -- fifoReadReset
    (∃ (count : Nat) (s : State), s.spiUp = true ∧ s.hpuRuns = false) ∧
    -- fifoWrite
    (∃ (bytes : List (BitVec 8)) (s : State), s.spiUp = true ∧ s.hpuRuns = true ∧ s.hpu.down.length + bytes.length ≤ 16384) ∧
    -- fifoOverflow
    (∃ (bytes : List (BitVec 8)) (s : State), s.spiUp = true ∧ s.hpuRuns = true ∧ s.hpu.down.length ≤ 16384 ∧ 16384 < s.hpu.down.length + bytes.length) ∧
    -- fifoWriteReset
    (∃ (bytes : List (BitVec 8)) (s : State), s.spiUp = true ∧ s.hpuRuns = false) ∧
    -- readFrozen
    (∃ (addr : BitVec 32) (count : Nat) (s : State), s.spiUp = true ∧ s.masterRuns 18 = false) ∧
    -- readWord
    (∃ (addr : BitVec 32) (target off i : Nat) (r : Reg) (s : State), s.spiUp = true ∧ s.masterRuns 18 = true ∧ placeOf addr.toNat = some (target, off, .reg r i) ∧ s.permits 18 false target off false = true ∧ s.gated r.loc.unit = false ∧ r.loc.unit ≠ .fab) ∧
    -- readRefused
    (∃ (addr : BitVec 32) (target off : Nat) (pl : Place) (s : State), s.spiUp = true ∧ s.masterRuns 18 = true ∧ placeOf addr.toNat = some (target, off, pl) ∧ s.permits 18 false target off false = false) ∧
    -- writeWord
    (∃ (addr w : BitVec 32) (cut : Bool) (target off : Nat) (s : State), s.spiUp = true ∧ s.masterRuns 18 = true ∧ placeOf addr.toNat = some (target, off, .reg .HPU_WMARK 0) ∧ s.permits 18 false target off true = true) ∧
    -- writeNowhere
    (∃ (addr w : BitVec 32) (s : State), s.spiUp = true ∧ s.masterRuns 18 = true ∧ placeOf addr.toNat = none) ∧
    -- mismatch
    (∃ (up : Bool) (copies : List (Nat × Nat)) (s : State), pointerFault (if up then 17 else 15) 0 copies = true ∧ s.hpu.waiting = [] ∧ s.hpuRuns = true) ∧
    -- oneBitPasses
    (∃ (up : Bool) (copies : List (Nat × Nat)) (s : State), pointerFault (if up then 17 else 15) 0 copies = false) ∧
    -- dnrst
    (∃ (s : State), s.hpu.waiting = []) ∧
    -- uprst
    (∃ (s : State), s.hpu.waiting = []) ∧
    -- upto
    (∃ (n t0 : Nat) (l : List (Nat × Nat)) (s : State), s.hpu.upMarks = (n, t0) :: l) ∧
    -- uptoNone
    (∃ (s : State), s.hpu.upMarks = []) := ⟨
    ⟨({ bcu := { phase := .running } } : State), by decide⟩,
    ⟨0, 1, [], false, [], 0xFF, { bcu := { phase := .off } }, by decide⟩,
    ⟨0xFF, ({ bcu := { phase := .running } } : State), by decide⟩,
    ⟨3, { bcu := { phase := .running }, hpu := { up := [7, 8], upMarks := [(2, 0)] } }, by decide⟩,
    ⟨3, { bcu := { phase := .warm }, hpu := { up := [7, 8] } }, by decide⟩,
    ⟨[0x4C, 0x5A], { bcu := { phase := .running } }, by decide⟩,
    ⟨[1, 2], fifoState (List.replicate 16383 0), by (exact fifoWitness _ List.length_replicate)⟩,
    ⟨[1], { bcu := { phase := .warm } }, by decide⟩,
    ⟨0x100, 2, { bcu := { phase := .warm } }, by decide⟩,
    ⟨0, 0x1C, 0, 0, .HPU_IDENT, ({ bcu := { phase := .running } } : State), by decide⟩,
    ⟨0x006C0000, 0x19, 0x40000, .legal 0x19 0x40000, ({ bcu := { phase := .running } } : State), by decide⟩,
    ⟨0x10C, 0x20104000, true, 0x1C, 0x10C, ({ bcu := { phase := .running } } : State), by decide⟩,
    ⟨0x0F000000, 0, ({ bcu := { phase := .running } } : State), by decide⟩,
    ⟨true, [(3, 0)], { bcu := { phase := .running }, hpu := { up := [7, 8], down := [1] } }, by decide⟩,
    ⟨true, [(1, 0), (1, 1), (3, 1)], {}, by decide⟩,
    ⟨{ bcu := { phase := .running }, hpu := { up := [7, 8], down := [1] } }, by decide⟩,
    ⟨{ bcu := { phase := .running }, hpu := { up := [7, 8], down := [1] } }, by decide⟩,
    ⟨2, 5, [], { hpu := { up := [7, 8], upMarks := [(2, 5)] } }, by decide⟩,
    ⟨{}, by decide⟩⟩

theorem meets_HostMessageFramesAreAnswered :
    -- closed
    (∃ (p : Fin 5) (seq addr streams32 count : BitVec 32) (n streams cnt : BitVec 16) (region node : BitVec 8) (first : BitVec 64) (message : List (BitVec 8)) (words : List (BitVec 32)) (type : BitVec 8) (s : State), s.pathOpen p.val = false) ∧
    -- subscribe
    (∃ (p : Fin 5) (seq : BitVec 32) (streams n : BitVec 16) (s : State), p.val < 4 ∧ s.hpuRuns = true ∧ bit s.hpu.sessions p.val = true ∧ 1 ≤ n.toNat ∧ n.toNat ≤ 600) ∧
    -- subscribeBad
    (∃ (p : Fin 5) (seq : BitVec 32) (streams n : BitVec 16) (s : State), p.val < 4 ∧ s.hpuRuns = true ∧ bit s.hpu.sessions p.val = true ∧ (n.toNat = 0 ∨ 600 < n.toNat)) ∧
    -- spiPath
    (∃ (seq : BitVec 32) (streams n : BitVec 16) (s : State), s.frameIn 4 0x03 seq.toNat (leBytes 2 streams.toNat ++ leBytes 2 n.toNat) = true ∧ s.hpu.waiting = [] ∧ s.hpu.up.length ≤ 65515 ∧ 1 ≤ n.toNat ∧ n.toNat ≤ 600) ∧
    -- spiOther
    (∃ (seq : BitVec 32) (streams n : BitVec 16) (s : State), s.frameIn 4 0x03 seq.toNat (leBytes 2 streams.toNat ++ leBytes 2 n.toNat) = false) ∧
    -- readBad
    (∃ (p : Fin 5) (seq addr : BitVec 32) (count : BitVec 16) (s : State), p.val < 4 ∧ s.hpuRuns = true ∧ bit s.hpu.sessions p.val = true ∧ (count.toNat = 0 ∨ 256 < count.toNat)) ∧
    -- readFrozen
    (∃ (p : Fin 5) (seq addr : BitVec 32) (count : BitVec 16) (s : State), p.val < 4 ∧ s.hpuRuns = true ∧ bit s.hpu.sessions p.val = true ∧ 1 ≤ count.toNat ∧ count.toNat ≤ 256 ∧ s.masterRuns 18 = false) ∧
    -- readWord
    (∃ (p : Fin 5) (seq addr : BitVec 32) (target off i : Nat) (r : Reg) (s : State), p.val < 4 ∧ s.hpuRuns = true ∧ bit s.hpu.sessions p.val = true ∧ s.masterRuns 18 = true ∧ placeOf addr.toNat = some (target, off, .reg r i) ∧ s.permits 18 false target off false = true ∧ s.gated r.loc.unit = false ∧ r.loc.unit ≠ .fab) ∧
    -- readRefused
    (∃ (p : Fin 5) (seq addr : BitVec 32) (target off : Nat) (pl : Place) (s : State), p.val < 4 ∧ s.hpuRuns = true ∧ bit s.hpu.sessions p.val = true ∧ s.masterRuns 18 = true ∧ placeOf addr.toNat = some (target, off, pl) ∧ s.permits 18 false target off false = false) ∧
    -- writeNowhere
    (∃ (p : Fin 5) (seq addr w : BitVec 32) (words : List (BitVec 32)) (s : State), p.val < 4 ∧ s.hpuRuns = true ∧ bit s.hpu.sessions p.val = true ∧ s.masterRuns 18 = true ∧ placeOf addr.toNat = none) ∧
    -- writeWord
    (∃ (p : Fin 5) (seq addr w : BitVec 32) (target off : Nat) (s : State), p.val < 4 ∧ s.hpuRuns = true ∧ bit s.hpu.sessions p.val = true ∧ s.masterRuns 18 = true ∧ placeOf addr.toNat = some (target, off, .reg .HPU_WMARK 0) ∧ s.permits 18 false target off true = true) ∧
    -- writeNothing
    (∃ (p : Fin 5) (seq addr : BitVec 32) (s : State), p.val < 4 ∧ s.hpuRuns = true ∧ bit s.hpu.sessions p.val = true) ∧
    -- ledger
    (∃ (p : Fin 5) (seq : BitVec 32) (region : BitVec 8) (first : BitVec 64) (count : BitVec 32) (l : List LedgerRec) (s : State), p.val < 4 ∧ s.hpuRuns = true ∧ bit s.hpu.sessions p.val = true ∧ region.toNat ≤ 2 ∧ s.ledgerFrom region.toNat first.toNat (min 1048576 count.toNat) = l ∧ 1 ≤ l.length ∧ l.length ≤ 1000) ∧
    -- ledgerLong
    (∃ (p : Fin 5) (seq : BitVec 32) (region : BitVec 8) (first : BitVec 64) (count : BitVec 32) (s : State), p.val < 4 ∧ s.hpuRuns = true ∧ bit s.hpu.sessions p.val = true ∧ region.toNat ≤ 2) ∧
    -- ledgerEmpty
    (∃ (p : Fin 5) (seq : BitVec 32) (region : BitVec 8) (first : BitVec 64) (count : BitVec 32) (s : State), p.val < 4 ∧ s.hpuRuns = true ∧ bit s.hpu.sessions p.val = true ∧ (2 < region.toNat ∨ s.ledgerFrom region.toNat first.toNat (min 1048576 count.toNat) = [])) ∧
    -- afril
    (∃ (p : Fin 5) (seq : BitVec 32) (node : BitVec 8) (message : List (BitVec 8)) (s : State), p.val < 4 ∧ s.hpuRuns = true ∧ bit s.hpu.sessions p.val = true ∧ (s.nodeRec node.toNat).isSome = true ∧ (s.anode node.toNat).dnq.length < 8) ∧
    -- afrilFull
    (∃ (p : Fin 5) (seq : BitVec 32) (node : BitVec 8) (message : List (BitVec 8)) (s : State), p.val < 4 ∧ s.hpuRuns = true ∧ bit s.hpu.sessions p.val = true ∧ (s.nodeRec node.toNat).isSome = true ∧ 8 ≤ (s.anode node.toNat).dnq.length) ∧
    -- afrilUnknown
    (∃ (p : Fin 5) (seq : BitVec 32) (node : BitVec 8) (message : List (BitVec 8)) (s : State), p.val < 4 ∧ s.hpuRuns = true ∧ bit s.hpu.sessions p.val = true ∧ s.nodeRec node.toNat = none) ∧
    -- planChunk
    (∃ (p : Fin 5) (seq offset totlen : BitVec 32) (bytes : List (BitVec 8)) (s : State), p.val < 4 ∧ s.hpuRuns = true ∧ bit s.hpu.sessions p.val = true ∧ s.planHeld = false ∧ offset.toNat = s.ppl.staging.length ∧ 0 < offset.toNat ∧ totlen.toNat = s.ppl.totLen ∧ s.ppl.staging.length + bytes.length ≤ totlen.toNat ∧ totlen.toNat ≤ 4194304) ∧
    -- planFirst
    (∃ (p : Fin 5) (seq totlen : BitVec 32) (bytes : List (BitVec 8)) (s : State), p.val < 4 ∧ s.hpuRuns = true ∧ bit s.hpu.sessions p.val = true ∧ s.planHeld = false ∧ bytes.length ≤ totlen.toNat ∧ totlen.toNat ≤ 4194304) ∧
    -- planGap
    (∃ (p : Fin 5) (seq offset totlen : BitVec 32) (bytes : List (BitVec 8)) (s : State), p.val < 4 ∧ s.hpuRuns = true ∧ bit s.hpu.sessions p.val = true ∧ s.planHeld = false ∧ (offset.toNat ≠ s.ppl.staging.length ∨ totlen.toNat ≠ s.ppl.totLen ∨ totlen.toNat < s.ppl.staging.length + bytes.length ∨ 4194304 < totlen.toNat) ∧ 0 < offset.toNat) ∧
    -- planLong
    (∃ (p : Fin 5) (seq totlen : BitVec 32) (bytes : List (BitVec 8)) (s : State), p.val < 4 ∧ s.hpuRuns = true ∧ bit s.hpu.sessions p.val = true ∧ s.planHeld = false ∧ (totlen.toNat < bytes.length ∨ 4194304 < totlen.toNat)) ∧
    -- planHeld
    (∃ (p : Fin 5) (seq offset totlen : BitVec 32) (bytes : List (BitVec 8)) (s : State), p.val < 4 ∧ s.hpuRuns = true ∧ bit s.hpu.sessions p.val = true ∧ s.planHeld = true) ∧
    -- unknownType
    (∃ (p : Fin 5) (seq : BitVec 32) (type : BitVec 8) (payload : List (BitVec 8)) (s : State), frameFault type.toNat payload.length ≠ 0 ∧ p.val < 4 ∧ s.hpuRuns = true ∧ bit s.hpu.sessions p.val = true) ∧
    -- badHeader
    (∃ (p : Fin 5) (s : State), p.val < 4 ∧ s.hpuRuns = true ∧ bit s.hpu.sessions p.val = true) ∧
    -- badHeaderSpi
    (∃ (s : State), s.pathOpen 4 = true ∧ 16 ≤ s.hpu.down.length ∧ validHeader s.hpu.down = false) ∧
    -- drop
    (∃ (p : Fin 5) (type : BitVec 8) (l : List HostFrame) (f : HostFrame) (s : State), p.val < 4 ∧ bit s.hpu.sessions p.val = true ∧ lookup [] s.hpu.sent p.val = l ++ [f] ∧ f.type = type.toNat) ∧
    -- dropUp
    (∃ (type : BitVec 8) (w : WaitingFrame) (s : State), s.hpu.waiting = [w]) ∧
    -- noDrop
    (∃ (p : Fin 5) (type : BitVec 8) (s : State), (if p.val = 4 then s.hpu.waiting = [] else bit s.hpu.sessions p.val = false ∨ (lookup [] s.hpu.sent p.val).getLast?.map (·.type) ≠ some type.toNat)) ∧
    -- opens
    (∃ (p : Fin 4) (s : State), s.hpuRuns = true ∧ s.hmiRec.u16 2 ≠ 0 ∧ p.val < s.hmiRec.byte 4 ∧ bit s.hpu.sessions p.val = false ∧ s.hasRoom (hmiStream p.val) 3 = true ∧ s.flag .SEC_STATUS_DRBGF 0 = false ∧ s.failed 0x19 = false ∧ (s.slot 9).full = true ∧ (s.slot (s.hmiRec.byte 5)).full = true ∧ s.ntuRuns = true) ∧
    -- noRoom
    (∃ (p : Fin 4) (alert : Option (BitVec 8)) (s : State), s.hpuRuns = true ∧ s.hmiRec.u16 2 ≠ 0 ∧ p.val < s.hmiRec.byte 4 ∧ bit s.hpu.sessions p.val = false ∧ s.hasRoom (hmiStream p.val) 3 = false ∧ s.ntuRuns = true) ∧
    -- alert
    (∃ (p : Fin 4) (a : BitVec 8) (s : State), s.hpuRuns = true ∧ s.hmiRec.u16 2 ≠ 0 ∧ p.val < s.hmiRec.byte 4 ∧ bit s.hpu.sessions p.val = false ∧ s.hasRoom (hmiStream p.val) 3 = true ∧ s.ntuRuns = true) ∧
    -- notServed
    (∃ (p : Fin 4) (alert : Option (BitVec 8)) (s : State), (s.hpuRuns = false ∨ s.ntuRuns = false ∨ s.hmiRec.u16 2 = 0 ∨ s.hmiRec.byte 4 ≤ p.val ∨ bit s.hpu.sessions p.val = true)) ∧
    -- closes
    (∃ (p : Fin 4) (s : State), bit s.hpu.sessions p.val = true) ∧
    -- notOpen
    (∃ (p : Fin 4) (s : State), bit s.hpu.sessions p.val = false) := ⟨
    ⟨1, 0, 0, 0, 0, 0, 0, 0, 0, 0, 0, [], [], 9, { bcu := { phase := .running } }, by decide⟩,
    ⟨0, 9, 1, 1, { bcu := { phase := .running }, hpu := { sessions := 1 } }, by decide⟩,
    ⟨0, 9, 1, 0, { bcu := { phase := .running }, hpu := { sessions := 1 } }, by decide⟩,
    ⟨9, 1, 1, { bcu := { phase := .running }, hpu := { down := HostFrame.bytes ⟨3, 9, [1, 0, 1, 0]⟩ }, plan := some { netw := [{ type := 6, params := [2] }] } }, by decide⟩,
    ⟨9, 1, 1, {}, by decide⟩,
    ⟨0, 9, 0, 257, { bcu := { phase := .running }, hpu := { sessions := 1 } }, by decide⟩,
    ⟨0, 9, 0, 2, ({ bcu := { phase := .running }, hpu := { sessions := 1 } } : State).put .FAB_FROZEN_FROZEN 0 0x40000, by decide⟩,
    ⟨0, 9, 0, 0x1C, 0, 0, .HPU_IDENT, { bcu := { phase := .running }, hpu := { sessions := 1 } }, by decide⟩,
    ⟨0, 9, 0x006C0000, 0x19, 0x40000, .legal 0x19 0x40000, { bcu := { phase := .running }, hpu := { sessions := 1 } }, by decide⟩,
    ⟨0, 9, 0x0F000000, 5, [6], { bcu := { phase := .running }, hpu := { sessions := 1 } }, by decide⟩,
    ⟨0, 9, 0x10C, 0x20104000, 0x1C, 0x10C, { bcu := { phase := .running }, hpu := { sessions := 1 } }, by decide⟩,
    ⟨0, 9, 0, { bcu := { phase := .running }, hpu := { sessions := 1 } }, by decide⟩,
    ⟨0, 9, 2, 0, 5, [⟨7, 1, 0, 0, []⟩], { bcu := { phase := .running }, hpu := { sessions := 1 }, lgs := { slots := [(2 * 2 ^ 26, some ⟨7, 1, 0, 0, []⟩)] } }, by decide⟩,
    ⟨0, 9, 2, 0, 5, { bcu := { phase := .running }, hpu := { sessions := 1 } }, by decide⟩,
    ⟨0, 9, 2, 0, 5, { bcu := { phase := .running }, hpu := { sessions := 1 } }, by decide⟩,
    ⟨0, 9, 5, [1, 2], { bcu := { phase := .running }, hpu := { sessions := 1 }, plan := some { netw := [{ type := 7, params := [1, 5] }] } }, by decide⟩,
    ⟨0, 9, 5, [1, 2], { bcu := { phase := .running }, hpu := { sessions := 1 }, plan := some { netw := [{ type := 7, params := [1, 5] }] }, alk := { nodes := [(5, { dnq := [[], [], [], [], [], [], [], []] })] } }, by decide⟩,
    ⟨0, 9, 5, [1, 2], { bcu := { phase := .running }, hpu := { sessions := 1 } }, by decide⟩,
    ⟨0, 9, 1, 3, [5], { bcu := { phase := .running }, hpu := { sessions := 1 }, ppl := { staging := [4], totLen := 3 } }, by decide⟩,
    ⟨0, 9, 3, [5], { bcu := { phase := .running }, hpu := { sessions := 1 } }, by decide⟩,
    ⟨0, 9, 7, 30, [5], { bcu := { phase := .running }, hpu := { sessions := 1 } }, by decide⟩,
    ⟨0, 9, 0, [5], { bcu := { phase := .running }, hpu := { sessions := 1 } }, by decide⟩,
    ⟨0, 9, 7, 30, [5], { bcu := { phase := .running }, hpu := { sessions := 1 }, upd := { hold := some ⟨1, 30, [], [], some [], none, [], 0, 0, [], none, true, 0, 0, false⟩ } }, by decide⟩,
    ⟨0, 9, 3, [7], { bcu := { phase := .running }, hpu := { sessions := 1 } }, by decide⟩,
    ⟨0, { bcu := { phase := .running }, hpu := { sessions := 1 } }, by decide⟩,
    ⟨{ bcu := { phase := .running }, hpu := { down := List.replicate 17 1 }, plan := some { netw := [{ type := 6, params := [2] }] } }, by decide⟩,
    ⟨0, 0x90, [], ⟨0x90, 4, []⟩, { bcu := { phase := .running }, hpu := { sessions := 1, sent := [(0, [⟨0x90, 4, []⟩])] } }, by decide⟩,
    ⟨0x90, ⟨⟨0x90, 0, []⟩, 7⟩, { bcu := { phase := .running }, hpu := { waiting := [⟨⟨0x90, 0, []⟩, 7⟩] } }, by decide⟩,
    ⟨0, 0x90, {}, by decide⟩,
    ⟨0, { bcu := { phase := .running }, plan := some { netw := [{ type := 6, params := [0, 1, 0, 1] }] }, sec := { slots := [(9, { attr := 2 }), (0, { attr := 2 })] }, sch := { classes := [⟨4, 3, 1, 10⟩], slices := [⟨4, 0, 0xFFFF, 3, false, 5, 1, false⟩] } }, by decide⟩,
    ⟨0, none, { bcu := { phase := .running }, plan := some { netw := [{ type := 6, params := [0, 1, 0, 1] }] } }, by decide⟩,
    ⟨0, 40, { bcu := { phase := .running }, plan := some { netw := [{ type := 6, params := [0, 1, 0, 1] }] }, sch := { classes := [⟨4, 3, 1, 10⟩], slices := [⟨4, 0, 0xFFFF, 3, false, 5, 1, false⟩] } }, by decide⟩,
    ⟨0, none, {}, by decide⟩,
    ⟨0, { bcu := { phase := .running }, hpu := { sessions := 1 } }, by decide⟩,
    ⟨0, {}, by decide⟩⟩

theorem meets_StepTakesTheOldestCommand :
    -- front
    (∃ (c : Instr) (rest : List Instr) (s : State), s.pending = c :: rest) ∧
    -- idle
    (∃ (s : State), s.pending = []) := ⟨
    ⟨.update, [], { pending := [.update] }, by decide⟩,
    ⟨{}, by decide⟩⟩

theorem meets_PlanCrcsAreCrc32c :
    -- reflected
    (∃ (k : Nat), k < 32) ∧
    -- byte
    (∃ (l : List Nat) (b : Nat), b < 256) ∧
    -- header
    (∃ (raw : List Nat) (s : State), u32 raw 0x3C ≠ crc32c (raw.take 0x3C)) := ⟨
    ⟨3, by decide⟩,
    ⟨[], 7, by decide⟩,
    ⟨[1], {}, by decide⟩⟩

theorem meets_ReservedBitsReadAsZero :
    -- read
    (∃ (r : Reg) (i k : Nat) (s : State), s.regsSound ∧ k < 32 ∧ (∀ f ∈ r.fields, k < f.info.lo ∨ f.info.hi < k)) ∧
    -- word
    (∃ (r : Reg) (i : Nat) (s : State), s.regsSound) ∧
    -- write
    (∃ (i k w : Nat) (f : Fld) (s : State), (k < f.info.lo ∨ f.info.hi < k)) := ⟨
    ⟨.HPU_STATUS, 0, 6, {}, by (exact ⟨by simp [State.regsSound, regsOk, tabWf, tabWfFrom], by decide, by decide⟩)⟩,
    ⟨.HPU_STATUS, 0, {}, by (simp [State.regsSound, regsOk, tabWf, tabWfFrom])⟩,
    ⟨0, 6, 0, .HPU_STATUS_SPIERR, {}, by decide⟩⟩

theorem meets_AFrozenA0EndsInAWarmReset :
    -- timer
    (∃ (sup : Bool) (k : AccessKind) (addr value : BitVec 32) (target off : Nat) (p : Place) (s : State), s.masterRuns 0 = true ∧ s.fab.a0Timer = none ∧ placeOf addr.toNat = some (target, off, p) ∧ ((!reads k || s.permits 0 sup target off false) && (!writes k || s.permits 0 sup target off true)) = false) ∧
    -- expiry
    (∃ (t0 : Nat) (s : State), s.fab.a0Timer = some t0 ∧ (s.bcu.phase = .running ∨ s.bcu.phase = .units ∨ s.bcu.phase = .warm) ∧ (s.bcu.healthy = true ∨ s.rd .BCU_GHSTAT_UNHEALTHY 0 < 3)) ∧
    -- none
    (∃ (s : State), s.fab.a0Timer = none) := ⟨
    ⟨false, .write, 0x00030008, 0, 0x03, 8, .reg .FAB_RELEASE 0, ({ bcu := { phase := .running } } : State), by decide⟩,
    ⟨5, ({ bcu := { phase := .running }, fab := { a0Timer := some 5 } } : State), by decide⟩,
    ⟨{}, by decide⟩⟩

theorem meets_DriveVoltagesHoldUpAnUpdate :
    -- stops
    (∃ (vdh vdl : BitVec 16) (rows : Nat) (s : State), s.flag .DSE_STATUS_VFAULT 0 = false ∧ (vdh.toNat < s.disp.byte 8 * 100 ∨ s.disp.byte 9 * 100 < vdl.toNat) ∧ s.dse.op = some .update) ∧
    -- waits
    (∃ (vdh vdl : BitVec 16) (copies : List (Nat × Int)) (s : State), s.flag .DSE_STATUS_VFAULT 0 = true) ∧
    -- resumes
    (∃ (vdh vdl : BitVec 16) (s : State), s.flag .DSE_STATUS_VFAULT 0 = true ∧ s.dse.fault ≤ 2 ∧ s.disp.byte 8 * 100 ≤ vdh.toNat ∧ vdl.toNat ≤ s.disp.byte 9 * 100) ∧
    -- stillOut
    (∃ (vdh vdl : BitVec 16) (s : State), (vdh.toNat < s.disp.byte 8 * 100 ∨ s.disp.byte 9 * 100 < vdl.toNat)) := ⟨
    ⟨900, 400, 1, { plan := some { disp := { rows := 4, cols := 16, params := [0, 0, 0, 0, 15, 15] } }, dse := { op := some .update, target := [(20, 1), (60, 1)] } }, by decide⟩,
    ⟨3000, 400, [], ({} : State).put .DSE_STATUS_VFAULT 0 1, by decide⟩,
    ⟨3000, 400, ({ plan := some { disp := { params := [0, 0, 0, 0, 15, 15] } }, dse := { fault := 2, op := some .update } } : State).put .DSE_STATUS_VFAULT 0 1, by decide⟩,
    ⟨900, 400, ({ plan := some { disp := { params := [0, 0, 0, 0, 15, 15] } }, dse := { fault := 1 } } : State).put .DSE_STATUS_VFAULT 0 1, by decide⟩⟩

theorem meets_TheMapAndItsGuards :
    -- address
    (∃ (a target off i : Nat) (r : Reg), placeOf a = some (target, off, .reg r i)) ∧
    -- gse
    (∃ (m off : Nat) (sup : Bool) (s : State), m ≠ 17) ∧
    -- legal
    (∃ (m target off : Nat) (sup : Bool) (s : State), legalWindow target off = true) ∧
    -- keys
    (∃ (m off : Nat) (sup write : Bool) (s : State), 0x40000 ≤ off) := ⟨
    ⟨0x10C, 0x1C, 0x10C, 0, .HPU_WMARK, by decide⟩,
    ⟨18, 0, true, {}, by decide⟩,
    ⟨0, 0x12, 0x70000, true, {}, by decide⟩,
    ⟨0, 0x40000, true, false, {}, by decide⟩⟩

theorem meets_EveryStepKeepsTheStateSound :
    -- step
    (∃ (s t : State), step s = .next t) :=
    ⟨{}, idle {}, by (rfl)⟩

theorem meets_EveryCommandKeepsToItsUnits :
    -- frame
    (∃ (c : Instr) (s t : State), exec c s = .next t) :=
    ⟨.update, {}, State.writeUpdate {}, by (rfl)⟩

end Sys2Proof.Tests
end

section
/-! The word that a register read returns: its fields stand apart, each value fits its field, and so no bit is set outside the fields (R11). -/

namespace Sys2Proof.Machine

open Sys2Proof

/-- The word whose fields `l` hold the values `v`, with zeros between them. -/
def fieldWord (v : Fld → Nat) (l : List Fld) : Nat := (l.map fun f => v f * 2 ^ f.info.lo).sum

theorem readReg_eq_fieldWord (s : State) (r : Reg) (i : Nat) :
    s.readReg r i = fieldWord ((s.shown r.loc.unit).fieldRead32 (s.isLatched r i) i) r.fields := rfl

@[simp] theorem fieldWord_nil (v : Fld → Nat) : fieldWord v [] = 0 := rfl

@[simp] theorem fieldWord_cons (v : Fld → Nat) (f : Fld) (l : List Fld) :
    fieldWord v (f :: l) = 2 ^ f.info.lo * v f + fieldWord v l := by
  simp [fieldWord, Nat.mul_comm]

/-- A row of the register tables names bits of a 32-bit word, the higher bit first. -/
theorem Fld.lo_le_hi (f : Fld) : f.info.lo ≤ f.info.hi := by cases f <;> decide

theorem Fld.hi_lt (f : Fld) : f.info.hi < 32 := by cases f <;> decide

theorem Fld.resetValue_lt (f : Fld) : f.resetValue < 2 ^ f.width := by cases f <;> decide

theorem Fld.lo_add_width (f : Fld) : f.info.lo + f.width = f.info.hi + 1 := by
  have := f.lo_le_hi
  unfold Fld.width
  omega

/-- The fields of a register do not overlap: each lies above the ones listed after it. -/
theorem Reg.fields_descend (r : Reg) : r.fields.Pairwise fun f g => g.info.hi < f.info.lo := by cases r <;> decide

/-- Fields that lie apart and below bit `n` make a word below `2 ^ n`. -/
theorem fieldWord_lt {v : Fld → Nat} {l : List Fld} (hl : l.Pairwise fun f g => g.info.hi < f.info.lo)
    (hv : ∀ f ∈ l, v f < 2 ^ f.width) {n : Nat} (hn : ∀ f ∈ l, f.info.hi < n) : fieldWord v l < 2 ^ n := by
  induction l generalizing n with
  | nil => exact Nat.two_pow_pos n
  | cons f l ih =>
    simp only [List.pairwise_cons, List.forall_mem_cons] at hl hv hn
    have hrest : fieldWord v l < 2 ^ f.info.lo := ih hl.2 hv.2 hl.1
    calc fieldWord v (f :: l) < 2 ^ f.info.lo * (v f + 1) := by rw [fieldWord_cons, Nat.mul_succ]; omega
      _ ≤ 2 ^ f.info.lo * 2 ^ f.width := Nat.mul_le_mul_left _ hv.1
      _ = 2 ^ (f.info.hi + 1) := by rw [← Nat.pow_add, f.lo_add_width]
      _ ≤ 2 ^ n := Nat.pow_le_pow_right (by decide) hn.1

/-- A bit that none of the fields covers is zero. -/
theorem bit_fieldWord_outside {v : Fld → Nat} {l : List Fld} (hl : l.Pairwise fun f g => g.info.hi < f.info.lo)
    (hv : ∀ f ∈ l, v f < 2 ^ f.width) {k : Nat} (hk : ∀ f ∈ l, k < f.info.lo ∨ f.info.hi < k) : bit (fieldWord v l) k = false := by
  induction l with
  | nil => exact Nat.zero_testBit k
  | cons f l ih =>
    simp only [List.pairwise_cons, List.forall_mem_cons] at hl hv hk
    have hrest : fieldWord v l < 2 ^ f.info.lo := fieldWord_lt hl.2 hv.2 hl.1
    rw [fieldWord_cons, bit, Nat.testBit_two_pow_mul_add _ hrest]
    split
    · exact ih hl.2 hv.2 hk.2
    · have hw : f.width ≤ k - f.info.lo := by have := f.lo_add_width; omega
      exact Nat.testBit_lt_two_pow (Nat.lt_of_lt_of_le hv.1 (Nat.pow_le_pow_right (by decide) hw))

/-- In a sound table every field holds a value that fits its bits: a listed one by soundness, an unlisted one its reset value. -/
theorem lookup_regKey_lt {t : Tab Nat} (h : regsOk t) (f : Fld) (i : Nat) : lookup f.resetValue t (regKey f i) < 2 ^ f.width := by
  by_cases hk : ∃ e ∈ t, e.1 = regKey f i
  · obtain ⟨e, he, hkey⟩ := hk
    have hread := lookup_of_mem regDefault t h.1 e he
    have hfits := h.2 e he
    rw [hkey, regDefault_regKey] at hread
    rwa [hkey, keyFld_regKey, ← hread] at hfits
  · rw [lookup_absent _ _ _ fun e he hkey => hk ⟨e, he, hkey⟩]
    exact f.resetValue_lt

/-- The field values of a read fit their fields, from a snapshot latch or live. -/
theorem State.fieldRead32_lt {s : State} (h : s.regsSound) (latched : Bool) (i : Nat) (f : Fld) :
    s.fieldRead32 latched i f < 2 ^ f.width := by
  obtain ⟨hregs, -, hlatch⟩ := h
  unfold State.fieldRead32
  split
  · exact Nat.two_pow_pos _
  · split
    · next hf => subst hf; exact Nat.mod_lt _ (Nat.two_pow_pos _)
    · split
      · exact lookup_regKey_lt hlatch f i
      · exact lookup_regKey_lt hregs f i

theorem Later.regsSound {s t : State} (h : Later s t) (hs : s.regsSound) : t.regsSound :=
  ⟨h.regs hs.1, h.applied hs.2.1, h.latched hs.1 hs.2.2⟩

theorem State.shown_fieldRead32_lt {s : State} (h : s.regsSound) (u : UnitId) (latched : Bool) (i : Nat) (f : Fld) :
    (s.shown u).fieldRead32 latched i f < 2 ^ f.width :=
  State.fieldRead32_lt ((State.shown_later (Later.refl s) u).regsSound h) latched i f

/-- Flipping a bit outside `[hi:lo]` leaves the bits `[hi:lo]` of a word as they were. -/
theorem bitsOf_flip_outside {w hi lo k : Nat} (hk : k < lo ∨ hi < k) : bitsOf (w ^^^ 2 ^ k) hi lo = bitsOf w hi lo := by
  refine Nat.eq_of_testBit_eq fun j => ?_
  simp only [bitsOf, Nat.testBit_mod_two_pow, Nat.testBit_div_two_pow, Nat.testBit_xor, Nat.testBit_two_pow]
  by_cases hj : j < hi + 1 - lo
  · have : k ≠ j + lo := by omega
    simp [this]
  · simp [hj]

/-- A field write looks at the written word only in the field's own bits. -/
theorem State.writeField_congr {i w w' : Nat} {f : Fld} (h : bitsOf w f.info.hi f.info.lo = bitsOf w' f.info.hi f.info.lo) (s : State) :
    State.writeField i w s f = State.writeField i w' s f := by
  unfold State.writeField State.violates
  rw [h]

/-- Settles O54: the fields of every register lie apart in its 32 bits and their values fit them, so a read sets no bit outside
them; and a field write looks at its own bits only. -/
theorem reservedBitsReadAsZero : Obligations.ReservedBitsReadAsZero := by
  unfold Obligations.ReservedBitsReadAsZero
  refine ⟨fun r i k s hs _ hk => ?read, fun r i s hs => ?word, fun i k w f s hk => ?write⟩
  case read =>
    rw [readReg_eq_fieldWord]
    exact bit_fieldWord_outside r.fields_descend (fun f _ => State.shown_fieldRead32_lt hs _ _ _ f) hk
  case word =>
    rw [readReg_eq_fieldWord]
    exact fieldWord_lt r.fields_descend (fun f _ => State.shown_fieldRead32_lt hs _ _ _ f) fun f _ => f.hi_lt
  case write => exact State.writeField_congr (bitsOf_flip_outside hk) s

end Sys2Proof.Machine
end

section
/-! The permit to write FAB_RELEASE (R30), and the timer that the freeze of A0 starts: where it begins and where it ends (R29). -/

namespace Sys2Proof.Machine

open Sys2Proof

@[simp] theorem State.request_now (s : State) (cls : Nat) (recs : List ReqRec) : (s.request cls recs).now = s.now := by
  unfold State.request
  dsimp only
  split <;> rfl

@[simp] theorem State.request_fab (s : State) (cls : Nat) (recs : List ReqRec) : (s.request cls recs).fab = s.fab := by
  unfold State.request
  dsimp only
  split <;> rfl

@[simp] theorem State.showViolations_now (s : State) : s.showViolations.now = s.now := rfl

@[simp] theorem State.showViolations_fab (s : State) : s.showViolations.fab = s.fab := rfl

@[simp] theorem State.count_now (s : State) (f : Fld) (i : Nat) : (s.count f i).now = s.now := rfl

@[simp] theorem State.count_fab (s : State) (f : Fld) (i : Nat) : (s.count f i).fab = s.fab := rfl

/-- A violation ends with the freeze of its master; what it records before that moves neither the time nor the timer of A0. -/
theorem State.violate_ends_in_freeze (s : State) (m target access addr : Nat) :
    ∃ x : State, s.violate m target access addr = x.frozenMaster m ∧ x.now = s.now ∧ x.fab.a0Timer = s.fab.a0Timer := by
  unfold State.violate
  dsimp only
  refine ⟨_, rfl, ?now, ?timer⟩
  case now =>
    rw [State.request_now]
    split <;> simp only [State.raise_now, State.showViolations_now, State.put_now, State.count_now]
  case timer =>
    rw [State.request_fab]
    split <;> simp only [State.raise_fab, State.showViolations_fab, State.put_fab, State.count_fab]

/-- The freeze of A0 starts the timer where none runs (R29). -/
theorem State.frozenMaster_starts_a0Timer {s : State} (h : s.fab.a0Timer = none) :
    (s.frozenMaster 0).fab.a0Timer = some (s.now + msec 100) ∧ (s.frozenMaster 0).rd .FAB_STATUS_ESCAL 0 = 1 := by
  have hrun : (s.putBit .FAB_FROZEN_FROZEN 0 0 true).fab.a0Timer.isSome = false := by
    simp only [State.putBit, State.put_fab, h, Option.isSome_none]
  unfold State.frozenMaster
  simp only [if_true, hrun, Bool.false_eq_true, if_false, rd_put_one, and_true]
  rfl

/-- A violation by A0 starts the timer where none runs (R27, R29). -/
theorem State.violate_starts_a0Timer {s : State} (h : s.fab.a0Timer = none) (target access addr : Nat) :
    (s.violate 0 target access addr).fab.a0Timer = some (s.now + msec 100) ∧ (s.violate 0 target access addr).rd .FAB_STATUS_ESCAL 0 = 1 := by
  obtain ⟨x, hx, hnow, htimer⟩ := s.violate_ends_in_freeze 0 target access addr
  rw [hx, ← hnow]
  exact State.frozenMaster_starts_a0Timer (htimer.trans h)

/-- Permission is a matter of the plan alone: no register counts. -/
@[simp] theorem State.put_permits (s : State) (f : Fld) (i v m : Nat) (sup : Bool) (target off : Nat) (write : Bool) :
    (s.put f i v).permits m sup target off write = s.permits m sup target off write := rfl

/-- A refused access of A0 starts the timer where none runs (R29). -/
theorem State.access_refused_starts_a0Timer {s : State} (h : s.fab.a0Timer = none) {sup : Bool} {k : AccessKind} {a target off : Nat} {p : Place}
    (hp : placeOf a = some (target, off, p))
    (hg : ((!reads k || s.permits 0 sup target off false) && (!writes k || s.permits 0 sup target off true)) = false) (w : Nat) :
    (s.access 0 sup k a w).2.fab.a0Timer = some (s.now + msec 100) ∧ (s.access 0 sup k a w).2.rd .FAB_STATUS_ESCAL 0 = 1 := by
  have hacc : (s.access 0 sup k a w).2 = (s.tagged.violate 0 target (accessCode k) a).put .FAB_TAGS_INFLIGHT 0 0 := by
    simp only [State.access, hp, State.put_permits, hg, Bool.false_eq_true, if_false]
    rfl
  rw [hacc, rd_put_fld _ _ _ _ _ _ (by decide)]
  exact State.violate_starts_a0Timer (s := s.tagged) h target (accessCode k) a

/-- The access of a running master leaves its answer with the fabric (R26, R27). -/
theorem exec_masterAccess_running {s : State} {m : Fin 22} (h : s.masterRuns m.val = true) (sup : Bool) (k : AccessKind) (addr value : BitVec 32) :
    exec (.masterAccess m sup k addr value) s =
      .next { (s.access m.val sup k addr.toNat value.toNat).2 with
        fab := { (s.access m.val sup k addr.toNat value.toNat).2.fab with answer := (s.access m.val sup k addr.toNat value.toNat).1 } } := by
  show execMasterAccess m sup k addr value s = _
  simp only [execMasterAccess, h, Bool.not_true, Bool.false_eq_true, if_false]

/-- A write to FAB_RELEASE is decided by the master and its privilege bit alone (R30). -/
theorem State.permits_release (s : State) (m : Nat) (sup : Bool) : s.permits m sup 0x03 8 true = (m == 0 && sup) := by
  rw [State.permits, if_pos (by decide)]

/-- Away from writes to FAB_RELEASE the privilege bit does not count (R30). -/
theorem State.permits_elsewhere (s : State) (m : Nat) (sup sup' : Bool) {target off : Nat} {write : Bool}
    (h : ¬(write = true ∧ target = 0x03 ∧ off / 4 = 2)) : s.permits m sup target off write = s.permits m sup' target off write := by
  unfold State.permits
  rw [if_neg h, if_neg h]

theorem placeOf_release : placeOf (0x00030008 : BitVec 32).toNat = some (0x03, 8, .reg .FAB_RELEASE 0) := by decide

/-- Settles O3: the permit check of a write to FAB_RELEASE asks for master 0 with the bit set and nothing else, and a write that it refuses
ends as every refused access does. -/
theorem releaseNeedsSupervisorState : Obligations.ReleaseNeedsSupervisorState := by
  unfold Obligations.ReleaseNeedsSupervisorState
  refine ⟨fun m sup s => s.permits_release m sup, fun m sup value s hrun hno => ?otherWrites,
    fun m _ _ _ s h => s.permits_elsewhere m true false h⟩
  case otherWrites =>
    have hrefused : ((!reads .write || s.permits m.val sup 0x03 8 false) && (!writes .write || s.permits m.val sup 0x03 8 true)) = false := by
      rw [s.permits_release, hno]
      rfl
    rw [exec_masterAccess_running hrun, completes_next]
    exact s.access_refused m.val sup .write _ value.toNat 0x03 8 _ m.isLt placeOf_release hrefused

theorem exec_a0FreezeEscalation_none {s : State} (h : s.fab.a0Timer = none) : exec .a0FreezeEscalation s = .next s := by
  show execA0FreezeEscalation s = _
  simp only [execA0FreezeEscalation, h]

/-- The state at the expiry `t` of the timer of A0, with its event raised and before the warm reset (R29). -/
def State.a0Expired (s : State) (t : Nat) : State := (s.moveTo t).raise 0x0303 0

theorem exec_a0FreezeEscalation_some {s : State} {t : Nat} (h : s.fab.a0Timer = some t) :
    exec .a0FreezeEscalation s = .next ((s.a0Expired t).warmReset 4) := by
  show execA0FreezeEscalation s = _
  simp only [execA0FreezeEscalation, h]
  rfl

theorem State.a0Expired_later (s : State) (t : Nat) : Later s (s.a0Expired t) :=
  State.raise_later (State.moveTo_later (Later.refl s) t) _ _

theorem State.a0Expired_raises (s : State) (t : Nat) : Raises s (s.a0Expired t) 0x0303 0 :=
  Raises.last (State.moveTo_later (Later.refl s) t) _ _ (by decide)

theorem State.le_a0Expired_now (s : State) (t : Nat) : t ≤ (s.a0Expired t).now := by
  rw [State.a0Expired, State.raise_now, State.moveTo_now]
  exact Nat.le_max_right s.now t

@[simp] theorem State.a0Expired_bcu (s : State) (t : Nat) : (s.a0Expired t).bcu = s.bcu := by
  rw [State.a0Expired, State.raise_bcu, State.moveTo_bcu]

theorem State.a0Expired_unhealthy (s : State) (t : Nat) : (s.a0Expired t).rd .BCU_GHSTAT_UNHEALTHY 0 = s.rd .BCU_GHSTAT_UNHEALTHY 0 :=
  State.raise_rd _ _ _ _ _ (by decide) (by decide)

/-- Settles O55: a refused access of A0 starts the timer, and the warm reset at its expiry thaws every master. -/
theorem aFrozenA0EndsInAWarmReset : Obligations.AFrozenA0EndsInAWarmReset := by
  unfold Obligations.AFrozenA0EndsInAWarmReset
  refine ⟨fun sup k addr value target off p s hrun hnone hp hrefused => ?timer, fun t0 s ht hphase hcrash => ?expiry,
    fun s => exec_a0FreezeEscalation_none⟩
  case timer =>
    obtain ⟨-, hfrozen, hraised⟩ := s.access_refused 0 sup k addr.toNat value.toNat target off p (by decide) hp hrefused
    obtain ⟨htimer, hescal⟩ := State.access_refused_starts_a0Timer hnone hp hrefused value.toNat
    rw [exec_masterAccess_running (m := 0) hrun, completes_next]
    exact ⟨hfrozen, htimer, hescal, hraised⟩
  case expiry =>
    have hruns : s.bcu.phase ≠ .off ∧ s.bcu.phase ≠ .commit ∧ s.bcu.phase ≠ .starting := by
      rcases hphase with h | h | h <;> rw [h] <;> decide
    obtain ⟨-, hwarm, -, -, hthawed, hstopped, hcause, -⟩ := (s.a0Expired t0).warmReset_spec 4 (by decide)
      (by rwa [State.a0Expired_bcu]) (by rwa [State.a0Expired_bcu, State.a0Expired_unhealthy])
    have hreset : Later (s.a0Expired t0) ((s.a0Expired t0).warmReset 4) := State.warmReset_later (Later.refl _) 4
    rw [exec_a0FreezeEscalation_some ht, completes_next]
    exact ⟨Nat.le_trans (s.le_a0Expired_now t0) hreset.now, (s.a0Expired_raises t0).mono (s.a0Expired_later t0) hreset, hwarm, hcause, hthawed, hstopped⟩

end Sys2Proof.Machine
end

section
/-! The CRCs of the plan (R47): CRC-32C byte by byte, and the chains of checks of R55 that compare the CRCs which the container holds. -/

namespace Sys2Proof.Machine

open Sys2Proof

/-! ## CRC-32C on its register -/

/-- A byte goes through eight steps of the reflected polynomial, least significant bit first. -/
theorem crcByte_eq_foldl_crcBit (c b : Nat) : crcByte c b = (List.range 8).foldl (fun c _ => crcBit c) (c ^^^ (b % 256)) := by
  simp only [show List.range 8 = [0, 1, 2, 3, 4, 5, 6, 7] from rfl, List.foldl_cons, List.foldl_nil, crcByte]

/-- Under the final XOR lies the register. -/
theorem crc32c_xor_final (l : List Nat) : crc32c l ^^^ 0xFFFFFFFF = l.foldl crcByte 0xFFFFFFFF := by
  rw [crc32c, Nat.xor_assoc, Nat.xor_self, Nat.xor_zero]

theorem crc32c_append_singleton (l : List Nat) (b : Nat) : crc32c (l ++ [b]) ^^^ 0xFFFFFFFF = crcByte (crc32c l ^^^ 0xFFFFFFFF) b := by
  rw [crc32c_xor_final, crc32c_xor_final, List.foldl_append, List.foldl_cons, List.foldl_nil]

/-- The check value of CRC-32C: that of the string "123456789". -/
theorem crc32c_check : crc32c [0x31, 0x32, 0x33, 0x34, 0x35, 0x36, 0x37, 0x38, 0x39] = 0xE3069283 := by
  simp only [crc32c, List.foldl_cons, List.foldl_nil, crcByte, crcBit, Nat.reduceMod, Nat.reduceXor, Nat.reduceDiv, Nat.zero_ne_one, ↓reduceIte]

/-! ## What a chain of checks leaves open when it finds no reason -/

/-- A check of a chain gives its reason, or leaves the answer to the rest of the chain. -/
theorem check_eq_zero_iff {p : Prop} [Decidable p] {reason rest : Nat} (h : p → reason ≠ 0) :
    (if p then reason else rest) = 0 ↔ ¬p ∧ rest = 0 := by
  by_cases hp : p
  · rw [if_pos hp]
    exact iff_of_false (h hp) fun hrest => hrest.1 hp
  · rw [if_neg hp]
    exact (and_iff_right hp).symm

/-- Steps 1 to 4 of R55 compare the header CRC and the CRC of each section body before SIGN. -/
theorem checkContainer_eq_zero {raw : List Nat} {delivered : Nat} (h : checkContainer raw delivered = 0) :
    u32 raw 0x3C = crc32c (raw.take 0x3C) ∧ ∀ e ∈ (sectTable raw).take 11, e.crc = crc32c (body raw e) := by
  simp only [checkContainer, check_eq_zero_iff, ne_eq, Nat.reduceEqDiff, not_false_eq_true, implies_true] at h
  obtain ⟨-, -, hheader, -, -, -, hbodies, -⟩ := h
  refine ⟨Classical.not_not.mp hheader, fun e he => ?_⟩
  have hsame : ¬(crc32c (body raw e) != e.crc) = true := List.any_eq_false.mp (eq_false_of_ne_true hbodies) e he
  exact (Classical.not_not.mp (mt bne_iff_ne.mpr hsame)).symm

/-- Step 9 of R55 compares SAFECV with the SAFE body and LEGALCV with the bodies of TARF and SENS. -/
theorem checkValues_eq_zero {raw : List Nat} (h : checkValues raw = 0) :
    (∀ e, (sectTable raw)[5]? = some e → u32 raw 0x34 = crc32c (body raw e)) ∧
    ∀ e f, (sectTable raw)[7]? = some e → (sectTable raw)[2]? = some f → u32 raw 0x38 = crc32c (body raw e ++ body raw f) := by
  simp only [checkValues, check_eq_zero_iff, ne_eq, Nat.reduceEqDiff, not_false_eq_true, implies_true, Classical.not_not] at h
  obtain ⟨hsafe, hlegal, -⟩ := h
  refine ⟨fun e he => ?_, fun e f he hf => ?_⟩
  · rw [he] at hsafe
    exact hsafe.symm
  · rw [he, hf] at hlegal
    exact hlegal.symm

theorem checkValues_of_checkContents {raw : List Nat} (h : checkContents raw = 0) : checkValues raw = 0 := by
  simp only [checkContents, check_eq_zero_iff, ne_eq, Nat.reduceEqDiff, not_false_eq_true, implies_true, imp_self] at h
  obtain ⟨-, -, hvalues, -⟩ := h
  exact Classical.not_not.mp hvalues

/-- An accepted plan has passed the checks of its container and of its contents. -/
theorem State.checkPlan_eq_zero {s : State} {raw : List Nat} (h : s.checkPlan raw = 0) :
    checkContainer raw raw.length = 0 ∧ checkContents raw = 0 := by
  simp only [State.checkPlan, check_eq_zero_iff, ne_eq, Nat.reduceEqDiff, not_false_eq_true, implies_true, imp_self] at h
  obtain ⟨hcontainer, -, -, -, hcontents⟩ := h
  exact ⟨Classical.not_not.mp hcontainer, hcontents⟩

/-- An accepted plan carries the CRC-32C of its header, section bodies and check values. -/
theorem State.checkPlan_eq_zero_crcs {s : State} {raw : List Nat} (h : s.checkPlan raw = 0) :
    (u32 raw 0x3C = crc32c (raw.take 0x3C) ∧ ∀ e ∈ (sectTable raw).take 11, e.crc = crc32c (body raw e)) ∧
    (∀ e, (sectTable raw)[5]? = some e → u32 raw 0x34 = crc32c (body raw e)) ∧
    ∀ e f, (sectTable raw)[7]? = some e → (sectTable raw)[2]? = some f → u32 raw 0x38 = crc32c (body raw e ++ body raw f) :=
  have ⟨hcontainer, hcontents⟩ := State.checkPlan_eq_zero h
  ⟨checkContainer_eq_zero hcontainer, checkValues_eq_zero (checkValues_of_checkContents hcontents)⟩

/-- Settles O53: the register under the final XOR takes a byte by eight steps of the reflected polynomial, and each CRC of R47 is compared
by a check whose failure is a reason for rejection. -/
theorem planCrcsAreCrc32c : Obligations.PlanCrcsAreCrc32c := by
  unfold Obligations.PlanCrcsAreCrc32c
  refine ⟨⟨crc32c_check, rfl⟩, by decide, fun l b hb => ?byte, fun raw s hheader h => ?header, fun raw s h => ?accepted⟩
  case byte =>
    rw [crc32c_append_singleton, crcByte_eq_foldl_crcBit, Nat.mod_eq_of_lt hb]
    simp only [crcBit]
  case header =>
    obtain ⟨⟨hcrc, -⟩, -⟩ := State.checkPlan_eq_zero_crcs h
    exact hheader hcrc
  case accepted =>
    obtain ⟨⟨hheader, hbodies⟩, hsafe, hlegal⟩ := State.checkPlan_eq_zero_crcs h
    exact ⟨hheader, hbodies, hsafe, hlegal⟩

end Sys2Proof.Machine
end

section
/-! What a write of display rows leaves alone: the other rows of the shown image, the target, the running work and VFAULT. From it: a fault of
the drive voltages keeps the rest of an update pending, and its end goes on with it (R434). -/

namespace Sys2Proof.Machine

open Sys2Proof

/-- `t` has the plan, the running work, the target and VFAULT of `s`, and shows what `s` shows outside `rows`. -/
structure SameOutsideRows (rows : List Nat) (s t : State) : Prop where
  plan : t.plan = s.plan
  op : t.dse.op = s.dse.op
  target : t.dse.target = s.dse.target
  vfault : t.rd .DSE_STATUS_VFAULT 0 = s.rd .DSE_STATUS_VFAULT 0
  shown : ∀ r ∉ rows, ∀ w < 20, lookup 0 t.dse.shown (r * 20 + w) = lookup 0 s.dse.shown (r * 20 + w)

namespace SameOutsideRows

variable {rows : List Nat} {z s : State}

theorem refl (rows : List Nat) (s : State) : SameOutsideRows rows s s := ⟨rfl, rfl, rfl, rfl, fun _ _ _ _ => rfl⟩

theorem put (h : SameOutsideRows rows z s) (f : Fld) (i v : Nat) (hf : .DSE_STATUS_VFAULT ≠ f := by decide) :
    SameOutsideRows rows z (s.put f i v) :=
  ⟨h.plan, h.op, h.target, (rd_put_fld s f _ i 0 v hf).trans h.vfault, h.shown⟩

theorem moveTo (h : SameOutsideRows rows z s) (t : Nat) : SameOutsideRows rows z (s.moveTo t) := ⟨h.plan, h.op, h.target, h.vfault, h.shown⟩

theorem raise (h : SameOutsideRows rows z s) (code arg : Nat) : SameOutsideRows rows z (s.raise code arg) := by
  refine ⟨(State.raise_plan s code arg).trans h.plan, ?op, ?target,
    (State.raise_rd s code arg _ 0 (by decide) (by decide)).trans h.vfault, ?shown⟩ <;> rw [State.raise_dse]
  case op => exact h.op
  case target => exact h.target
  case shown => exact h.shown

/-- A DSE state that keeps the running work and the target may show other words in `rows`. -/
theorem setDse (h : SameOutsideRows rows z s) {v : Dse} (hop : v.op = s.dse.op) (htarget : v.target = s.dse.target)
    (hshown : ∀ r ∉ rows, ∀ w < 20, lookup 0 v.shown (r * 20 + w) = lookup 0 s.dse.shown (r * 20 + w)) :
    SameOutsideRows rows z (s.setDse v) :=
  ⟨h.plan, hop.trans h.op, htarget.trans h.target, (rd_put_fld _ _ _ 0 0 _ (by decide)).trans h.vfault,
    fun r hr w hw => (hshown r hr w hw).trans (h.shown r hr w hw)⟩

/-- A DSE state that keeps the running work, the target and the shown image. -/
theorem setDse_shown (h : SameOutsideRows rows z s) {v : Dse} (hop : v.op = s.dse.op := by rfl) (htarget : v.target = s.dse.target := by rfl)
    (hshown : v.shown = s.dse.shown := by rfl) : SameOutsideRows rows z (s.setDse v) :=
  h.setDse hop htarget fun _ _ _ _ => hshown ▸ rfl

theorem each (h : SameOutsideRows rows z s) {l : List Nat} {f : State → Nat → State}
    (hf : ∀ x, SameOutsideRows rows z x → ∀ k ∈ l, SameOutsideRows rows z (f x k)) : SameOutsideRows rows z (s.each l f) :=
  List.foldlRecOn l f h hf

theorem addStress (h : SameOutsideRows rows z s) (a b : Tab Nat) (row : Nat) : SameOutsideRows rows z (s.addStress a b row) := by
  refine h.each fun x hx g _ => ?_
  dsimp only
  split
  · exact hx
  · exact hx.setDse_shown

theorem pwOf (h : SameOutsideRows rows z s) (row : Nat) : SameOutsideRows rows z (s.pwOf row).2 := by
  have hsat : SameOutsideRows rows z (s.put .DSE_STATUS_COMPSAT 0 1) := h.put _ 0 1
  unfold State.pwOf
  split
  · exact h
  · dsimp only
    split
    · exact hsat
    · exact raise (setDse_shown hsat) _ _

end SameOutsideRows

theorem State.rowDiffers_iff (s : State) (a b : Tab Nat) (r : Nat) :
    s.rowDiffers a b r = true ↔ ∃ w < 20, s.imageWord a r w ≠ s.imageWord b r w := by
  simp only [State.rowDiffers, List.any_eq_true, List.mem_range, bne_iff_ne]

/-- The words of an image depend on the plan alone. -/
theorem State.imageWord_congr {s t : State} (h : t.plan = s.plan) (a : Tab Nat) (r w : Nat) : t.imageWord a r w = s.imageWord a r w := by
  rw [State.imageWord, State.imageWord, State.disp, State.disp, h]

theorem State.rowDiffers_congr {s t : State} (h : t.plan = s.plan) (a b : Tab Nat) (r : Nat) : t.rowDiffers a b r = s.rowDiffers a b r := by
  simp only [State.rowDiffers, State.imageWord_congr h]

/-- The words of one row set in an image leave the other rows alone. -/
theorem lookup_foldl_update_row (t : Tab Nat) (v : Nat → Nat) {row r w : Nat} (hr : r ≠ row) (hw : w < 20) :
    lookup 0 ((List.range 20).foldl (fun t k => update 0 t (row * 20 + k) (v k)) t) (r * 20 + w) = lookup 0 t (r * 20 + w) := by
  refine List.foldlRecOn (motive := fun t' => lookup 0 t' (r * 20 + w) = lookup 0 t (r * 20 + w)) _ _ rfl fun t' ht k hk => ?_
  have hk20 : k < 20 := List.mem_range.mp hk
  exact (lookup_update_other 0 t' _ _ _ (by omega)).trans ht

namespace SameOutsideRows

variable {rows : List Nat} {z s : State}

theorem putRow (h : SameOutsideRows rows z s) {row : Nat} (hrow : row ∈ rows) (half : Nat) (balanced : Bool) (image : Nat → Nat) :
    SameOutsideRows rows z (s.putRow half balanced image row) := by
  unfold State.putRow
  generalize himg : (List.range 20).foldl _ s.dse.shown = img
  have himage : ∀ r ∉ rows, ∀ w < 20, lookup 0 img (r * 20 + w) = lookup 0 z.dse.shown (r * 20 + w) := fun r hr w hw => by
    have hne : r ≠ row := fun e => hr (by rwa [e])
    rw [← himg, lookup_foldl_update_row _ _ hne hw, h.shown r hr w hw]
  have hstress := h.addStress s.dse.shown img row
  have hshown : SameOutsideRows rows z
      ((s.addStress s.dse.shown img row).setDse { (s.addStress s.dse.shown img row).dse with shown := img }) :=
    setDse hstress rfl rfl fun r hr w hw => (himage r hr w hw).trans (hstress.shown r hr w hw).symm
  dsimp only
  split
  · exact hshown
  · exact hshown.setDse_shown

theorem writeRow (h : SameOutsideRows rows z s) {row : Nat} (hrow : row ∈ rows) (balanced : Bool) :
    SameOutsideRows rows z (s.writeRow balanced row) :=
  ((h.pwOf row).putRow hrow _ _ _).moveTo _

theorem setMark (h : SameOutsideRows rows z s) (on : Bool) : SameOutsideRows rows z (s.setMark on) := by
  unfold State.setMark
  split
  · exact h
  · exact ((h.put _ _ _).put _ _ _).raise _ _

theorem showLantern (h : SameOutsideRows rows z s) (l : Lantern) : SameOutsideRows rows z (s.showLantern l) := by
  unfold State.showLantern
  exact raise (setMark (put (put (put (setDse_shown h) _ _ _) _ _ _) _ _ _) false) _ _

theorem lanternAct (h : SameOutsideRows rows z s) : SameOutsideRows rows z s.lanternAct := by
  unfold State.lanternAct
  split
  · exact h
  · split
    · exact h.setMark true
    · split
      · exact h.showLantern _
      · exact h.setMark true

/-- The Lantern path writes rows 0 to 31 only (R439). -/
theorem lanternDraw (h : SameOutsideRows rows z s) (hrows : ∀ r < 32, r ∈ rows) (balanced all : Bool) :
    SameOutsideRows rows z (s.lanternDraw balanced all) :=
  h.each fun _ hx r hr => hx.putRow (hrows r (List.mem_range.mp (List.mem_filter.mp hr).1)) _ _ _

/-- A word of a row outside `rows` shows what it showed before. -/
theorem imageWord_shown (h : SameOutsideRows rows z s) {r w : Nat} (hr : r ∉ rows) (hw : w < 20) :
    s.imageWord s.dse.shown r w = s.imageWord z.dse.shown r w := by
  rw [State.imageWord, State.imageWord, h.shown r hr w hw]

theorem rowDiffers_shown (h : SameOutsideRows rows z s) {r : Nat} (hr : r ∉ rows) : s.rowDiffers s.dse.shown z.dse.shown r = false := by
  rw [Bool.eq_false_iff, ne_eq, State.rowDiffers_iff]
  rintro ⟨w, hw, hne⟩
  exact hne (h.imageWord_shown hr hw)

/-- A row outside `rows` that differed from the target still does. -/
theorem rowDiffers_target (h : SameOutsideRows rows z s) {r : Nat} (hr : r ∉ rows) (hdiff : z.rowDiffers z.dse.shown z.dse.target r = true) :
    s.rowDiffers s.dse.shown s.dse.target r = true := by
  rw [← State.rowDiffers_congr h.plan, State.rowDiffers_iff] at hdiff
  obtain ⟨w, hw, hne⟩ := hdiff
  rw [State.rowDiffers_iff, h.target]
  exact ⟨w, hw, by rwa [h.imageWord_shown hr hw]⟩

end SameOutsideRows

theorem State.firstRow_congr {s t : State} (h : t.plan = s.plan) : t.firstRow = s.firstRow := by
  have hdisp : t.disp = s.disp := by rw [State.disp, State.disp, h]
  rw [State.firstRow, State.firstRow, State.lanternOn, State.lanternOn, hdisp]

/-- The Lantern path touches no row of the engine. -/
theorem State.lanternRun_sameOutsideRows (s : State) : SameOutsideRows (List.range s.firstRow) s s.lanternRun := by
  have hrefl := SameOutsideRows.refl (List.range s.firstRow) s
  unfold State.lanternRun
  by_cases hdrives : s.lanternDrives = true
  · have hon : s.lanternOn = true := (Bool.and_eq_true_iff.mp hdrives).1
    have hfirst : s.firstRow = 32 := if_pos hon
    rw [hdrives]
    exact hrefl.lanternAct.lanternDraw (fun r hr => List.mem_range.mpr (hfirst ▸ hr)) false false
  · rw [Bool.eq_false_iff.mpr hdrives]
    exact hrefl

/-- The measured drive voltages are shown (R434). -/
def State.drivesMeasured (s : State) (vdh vdl : Nat) : State := (s.put .DSE_VMEAS_VDH 0 vdh).put .DSE_VMEAS_VDL 0 vdl

theorem State.drivesMeasured_vfault (s : State) (vdh vdl : Nat) : (s.drivesMeasured vdh vdl).rd .DSE_STATUS_VFAULT 0 = s.rd .DSE_STATUS_VFAULT 0 := by
  rw [State.drivesMeasured, rd_put_fld _ _ _ _ _ _ (by decide), rd_put_fld _ _ _ _ _ _ (by decide)]

theorem State.drivesMeasured_flag (s : State) (vdh vdl : Nat) :
    (s.drivesMeasured vdh vdl).flag .DSE_STATUS_VFAULT 0 = s.flag .DSE_STATUS_VFAULT 0 := by
  rw [State.flag, s.drivesMeasured_vfault, State.flag]

theorem State.drivesMeasured_later (s : State) (vdh vdl : Nat) : Later s (s.drivesMeasured vdh vdl) :=
  State.put_later (State.put_later (Later.refl s) _ _ _) _ _ _

/-- The engine has written the first `n` of the changed rows, and its pair has ended (R433, R434). -/
def State.rowsWritten (s : State) (n : Nat) : State := s.each (s.changedRows.take n) (State.writeRow · (s.flag .DSE_CTL_MODE 0))

theorem State.rowsWritten_sameOutsideRows (s : State) (n : Nat) : SameOutsideRows (s.changedRows.take n) s (s.rowsWritten n) :=
  (SameOutsideRows.refl _ s).each fun _ hx _ hk => hx.writeRow hk _

theorem State.rowsWritten_later (s : State) (n : Nat) : Later s (s.rowsWritten n) :=
  State.each_later (fun _ _ hx => State.writeRow_later hx _ _) (Later.refl s)

/-- A changed row comes once, and it differs from the target. -/
theorem State.changedRows_pending (s : State) (n : Nat) {r : Nat} (hr : r ∈ s.changedRows.drop n) :
    r ∉ s.changedRows.take n ∧ s.rowDiffers s.dse.shown s.dse.target r = true := by
  have honce : s.changedRows.Nodup := (List.nodup_range.sublist (List.drop_sublist _ _)).filter _
  rw [← List.take_append_drop n s.changedRows, List.nodup_append] at honce
  obtain ⟨-, -, hapart⟩ := honce
  exact ⟨fun h => hapart r h r hr rfl, (List.mem_filter.mp (List.mem_of_mem_drop hr)).2⟩

/-- The drive voltages are out of range from now on: `which` is 1 for VDH and 2 for VDL (R434). -/
def State.driveFaultBegun (s : State) (which : Nat) : State :=
  ((s.setDse { s.dse with fault := which, faultAt := s.now }).putFlag .DSE_STATUS_VFAULT 0 true).raise2 0x1D04 which 1

theorem State.driveFaultBegun_vfault (s : State) (which : Nat) : (s.driveFaultBegun which).rd .DSE_STATUS_VFAULT 0 = 1 :=
  (State.raise_rd _ _ _ _ 0 (by decide) (by decide)).trans (rd_put_one _ _ 0)

theorem State.driveFaultBegun_dse (s : State) (which : Nat) : (s.driveFaultBegun which).dse = { s.dse with fault := which, faultAt := s.now } :=
  State.raise_dse _ _ _

theorem State.driveFaultBegun_raises {z s : State} (h : Later z s) {which : Nat} (hw : which < 256) :
    Raises z (s.driveFaultBegun which) 0x1D04 (which * 256 + 1) :=
  Raises.last2 (State.putFlag_later (State.setDse_later h _) _ _ _) _ _ _ hw (by decide)

theorem State.driveFaultBegun_plan (s : State) (which : Nat) : (s.driveFaultBegun which).plan = s.plan := State.raise_plan _ _ _

/-- The drive voltages have been in range for 100 ms: VFAULT clears (R434). -/
def State.driveFaultCleared (s : State) : State :=
  ((s.moveTo (s.dse.faultAt + msec 100)).setDse { s.dse with fault := 0 }).putFlag .DSE_STATUS_VFAULT 0 false

theorem State.driveFaultCleared_later (s : State) : Later s s.driveFaultCleared :=
  State.putFlag_later (State.setDse_later (State.moveTo_later (Later.refl s) _) _) _ _ _

/-- The end of the fault is also reported (R434). -/
def State.driveFaultEnded (s : State) : State := s.driveFaultCleared.raise2 0x1D04 s.dse.fault 0

theorem State.driveFaultEnded_vfault (s : State) : s.driveFaultEnded.rd .DSE_STATUS_VFAULT 0 = 0 :=
  (State.raise_rd _ _ _ _ 0 (by decide) (by decide)).trans (rd_put_zero _ _ 0)

theorem State.driveFaultEnded_dse (s : State) : s.driveFaultEnded.dse = { s.dse with fault := 0 } := State.raise_dse _ _ _

theorem State.driveFaultEnded_plan (s : State) : s.driveFaultEnded.plan = s.plan := State.raise_plan _ _ _

theorem State.le_driveFaultEnded_now (s : State) : s.dse.faultAt + msec 100 ≤ s.driveFaultEnded.now := by
  have hnow : s.driveFaultEnded.now = max s.now (s.dse.faultAt + msec 100) := State.raise_now _ _ _
  rw [hnow]
  exact Nat.le_max_right _ _

theorem State.driveFaultEnded_later (s : State) : Later s s.driveFaultEnded := State.raise2_later s.driveFaultCleared_later _ _ _

theorem State.driveFaultEnded_raises {z s : State} (h : Later z s) (hw : s.dse.fault < 256) :
    Raises z s.driveFaultEnded 0x1D04 (s.dse.fault * 256) := by
  have hlast := Raises.last2 (h.trans s.driveFaultCleared_later) 0x1D04 s.dse.fault 0 hw (by decide)
  rwa [Nat.add_zero] at hlast

section

variable {s : State} {vdh vdl : BitVec 16}

/-- A fault during an update (R434). -/
theorem exec_driveVoltageFault_update (hclear : s.flag .DSE_STATUS_VFAULT 0 = false)
    (hout : vdh.toNat < s.disp.byte 8 * 100 ∨ s.disp.byte 9 * 100 < vdl.toNat) (hop : s.dse.op = some .update) (rows : Nat) :
    exec (.driveVoltageFault vdh vdl rows) s =
      .next (((s.drivesMeasured vdh.toNat vdl.toNat).rowsWritten rows).driveFaultBegun (if vdh.toNat < s.disp.byte 8 * 100 then 1 else 2)) := by
  have hflag : (s.drivesMeasured vdh.toNat vdl.toNat).flag .DSE_STATUS_VFAULT 0 = false := by rwa [State.drivesMeasured_flag]
  have hrange : (decide (vdh.toNat < s.disp.byte 8 * 100) || decide (s.disp.byte 9 * 100 < vdl.toNat)) = true := by simpa using hout
  have hopm : (s.drivesMeasured vdh.toNat vdl.toNat).dse.op = some .update := hop
  show execDriveVoltageFault vdh vdl rows s = _
  unfold execDriveVoltageFault
  simp only [← State.drivesMeasured.eq_1, hflag, hrange, hopm, Bool.not_true, Bool.or_false, Bool.false_eq_true, if_false, if_true,
    decide_eq_true_eq, ← State.rowsWritten.eq_1, ← State.driveFaultBegun.eq_1]

/-- Voltages out of range again before the 100 ms have passed are measured, and no more (R434). -/
theorem exec_driveVoltageResume_out (hout : vdh.toNat < s.disp.byte 8 * 100 ∨ s.disp.byte 9 * 100 < vdl.toNat) :
    exec (.driveVoltageResume vdh vdl) s = .next (s.drivesMeasured vdh.toNat vdl.toNat) := by
  show execDriveVoltageResume vdh vdl s = _
  unfold execDriveVoltageResume
  refine if_pos ?_
  rw [Bool.or_assoc, Bool.or_eq_true, Bool.or_eq_true, decide_eq_true_eq, decide_eq_true_eq]
  exact Or.inr hout

/-- Voltages back in range end the fault (R434). -/
theorem exec_driveVoltageResume_in (hfault : s.flag .DSE_STATUS_VFAULT 0 = true) (hlow : s.disp.byte 8 * 100 ≤ vdh.toNat)
    (hhigh : vdl.toNat ≤ s.disp.byte 9 * 100) :
    exec (.driveVoltageResume vdh vdl) s = .next (s.drivesMeasured vdh.toNat vdl.toNat).driveFaultEnded.lanternRun := by
  have hflag : (s.drivesMeasured vdh.toNat vdl.toNat).flag .DSE_STATUS_VFAULT 0 = true := by rwa [State.drivesMeasured_flag]
  show execDriveVoltageResume vdh vdl s = _
  unfold execDriveVoltageResume
  refine if_neg ?_
  rw [Bool.or_assoc, Bool.or_eq_true, Bool.or_eq_true, decide_eq_true_eq, decide_eq_true_eq, Bool.not_eq_true']
  rintro (hclear | hbelow | habove)
  · exact absurd (hflag.symm.trans hclear) (by decide)
  · exact Nat.not_lt.mpr hlow hbelow
  · exact Nat.not_lt.mpr hhigh habove

/-- An update waits for the end of the fault (R434). -/
theorem exec_displayUpdateDone_fault (hfault : s.flag .DSE_STATUS_VFAULT 0 = true) (copies : List (Nat × Int)) :
    exec (.displayUpdateDone vdh vdl copies) s = .next s := by
  show execDisplayUpdateDone vdh vdl copies s = _
  rw [execDisplayUpdateDone, hfault]
  rfl

end

/-- Settles O56: a fault leaves every row alone but those written before it, and its end leaves every row of the engine alone, because the
Lantern path writes only its own. -/
theorem driveVoltagesHoldUpAnUpdate : Obligations.DriveVoltagesHoldUpAnUpdate := by
  unfold Obligations.DriveVoltagesHoldUpAnUpdate
  refine ⟨fun vdh vdl rows s hclear hout hop => ?stops, fun vdh vdl copies s hfault => exec_displayUpdateDone_fault hfault copies,
    fun vdh vdl s hfault hwhich hlow hhigh => ?resumes, fun vdh vdl s hout => ?stillOut⟩
  case stops =>
    let m := s.drivesMeasured vdh.toNat vdl.toNat
    have hrows := m.rowsWritten_sameOutsideRows rows
    have hlater := (s.drivesMeasured_later vdh.toNat vdl.toNat).trans (m.rowsWritten_later rows)
    rw [exec_driveVoltageFault_update hclear hout hop, completes_next, State.driveFaultBegun_dse]
    refine ⟨State.driveFaultBegun_vfault _ _, hrows.op.trans hop, ?_, fun r hr => ?_⟩
    · split
      · exact State.driveFaultBegun_raises hlater (by decide)
      · exact State.driveFaultBegun_raises hlater (by decide)
    · obtain ⟨hunwritten, hdiff⟩ := m.changedRows_pending rows hr
      rw [State.rowDiffers_congr (State.driveFaultBegun_plan _ _)]
      exact hrows.rowDiffers_target hunwritten hdiff
  case resumes =>
    let m := s.drivesMeasured vdh.toNat vdl.toNat
    have hrun := m.driveFaultEnded.lanternRun_sameOutsideRows
    have hlater : Later m.driveFaultEnded m.driveFaultEnded.lanternRun := State.lanternRun_later (Later.refl _)
    have hmeasured := s.drivesMeasured_later vdh.toNat vdl.toNat
    have hraised : Raises s m.driveFaultEnded 0x1D04 (s.dse.fault * 256) :=
      State.driveFaultEnded_raises hmeasured (Nat.lt_of_le_of_lt hwhich (by decide))
    rw [State.firstRow_congr m.driveFaultEnded_plan] at hrun
    have hdse := m.driveFaultEnded_dse
    rw [exec_driveVoltageResume_in hfault hlow hhigh, completes_next]
    refine ⟨hrun.vfault.trans m.driveFaultEnded_vfault, ?op, fun r _ hr => ?shown, Nat.le_trans m.le_driveFaultEnded_now hlater.now, ?target,
      hraised.mono (hmeasured.trans m.driveFaultEnded_later) hlater⟩
    case op => rw [hrun.op, hdse]; rfl
    case target => rw [hrun.target, hdse]; rfl
    case shown =>
      have h := hrun.rowDiffers_shown (mt List.mem_range.mp (Nat.not_lt.mpr hr))
      rw [hdse] at h
      exact h
  case stillOut =>
    rw [exec_driveVoltageResume_out hout, completes_next]
    exact ⟨s.drivesMeasured_vfault _ _, rfl, rfl⟩

end Sys2Proof.Machine
end
